-- ==== Sys2Proof/Word.lean ====
section
/-! DEFINITION. The plainest data of the model: a byte of a frame, cell, message or flash image. Register, field and entry
values are natural numbers bounded by their type's width (R368); the few operations that treat them as bits stand in
Sys2Proof/Machine/Bits.lean. -/

namespace Sys2Proof

/-- One byte of a frame, a cell, a message or a memory. -/
abbrev Byte := BitVec 8

end Sys2Proof
end

