-- ==== Sys2Proof/Syntax.lean ====
section
/-! DEFINITION. The commands of the block: every row of spec/opcode_table.json with its operands. An operand is a value that
comes from outside the device (a frame's bytes, a written value, a pin or sensor reading, a reply of host memory) or the
number of the unit that acts; what the device itself holds is in State. -/

namespace Sys2Proof

/-- Line ports LP0 to LP127. -/
abbrev LinePort := Fin 128
/-- Fabric lanes FL0 to FL159. -/
abbrev FabricLane := Fin 160
/-- Air clocks AC0 to AC3. -/
abbrev AirClock := Fin 4

/-- A parity error that a read of the device's memories meets (R80, R120, R127, R156): where it is, and what was read. -/
inductive Upset where
  /-- An exact-match entry: table, index, KEY and RESULT as read, and whether the KEY is affected. -/
  | em (table index key result : Nat) (keyBad : Bool)
  /-- A pivot or store structure of the LPM store: its family, VRF, covering prefix and length, the bank read, and the routes it
  holds as prefix and length. -/
  | lpm (family vrf pfx len bank : Nat) (routes : List (Nat × Nat))
  /-- A label table entry. -/
  | label (l : Nat)
  /-- An entry of a DOMAIN object that has a single copy: parse graph, classifier or resolution table; `bank` is the table
  bank read, where the entry lies in one. -/
  | entry (domain e bank : Nat)
  /-- A key profile. -/
  | profile (n : Fin 64)
  /-- Associated data of a TCAM address. -/
  | assoc (addr : Nat)
  /-- A unit of the TCAM shadow, and how many of the eight replicas agree about it. -/
  | shadow (unit agree : Nat)
deriving DecidableEq, Repr

/-- Exact-match tables. -/
abbrev EmTable := Fin 16

/-- What the error correction of a memory finds on a read. -/
inductive Ecc where
  | clean | corrected | uncorrectable
deriving DecidableEq, Repr


/-- An uncorrectable or corrected error that a decision meets in the queue-state memory (R223, R249). -/
inductive QueueUpset where
  | corrected
  /-- Scheduling state of a class, a group or a user. -/
  | classNode (port : Fin 136) (cls : Fin 8)
  | groupNode (g : Fin 16384)
  | userNode (u : Fin 131072)
  /-- A shaper entry. -/
  | shaper (node : Fin 148680)
  /-- A gate list entry of a port. -/
  | gateList (port : Fin 136)
  /-- List pointers of a queue: how many of its packets, from the head, can still be reached. -/
  | pointers (queue : Fin 655360) (reachable : Nat)
deriving DecidableEq, Repr

/-- An uncorrectable or corrected error that the pool manager meets (R160, R184). -/
inductive PoolUpset where
  | corrected (region : Fin 3)
  /-- A pointer of a sub-list of free cells, or of a pool's list, is bad: the list ends after this many free buffers. -/
  | cellList (region : Fin 3) (sub : Fin 32) (left : Nat)
  | poolList (region : Fin 3) (pool : Fin 8) (left : Nat)
  /-- A 64-bit word of a privileged pool's bitmap; `pool` is 1 less than its number. -/
  | bitmap (region : Fin 3) (pool : Fin 4) (word : Fin 1024)
deriving DecidableEq, Repr

/-- What the error correction finds in a packet's data or links as it is read out (R160, R183). -/
inductive ReadUpset where
  | clean
  | corrected
  /-- Uncorrectable data. -/
  | data
  /-- The link of a cell is broken: its place in the chain. -/
  | link (place : Nat)
deriving DecidableEq, Repr

/-- What the SECDED code of a sector finds on a read: bit i stands for its 64-bit word i (R363, R364). -/
structure SectorEcc where
  corrected : Fin 256 := 0
  bad : Fin 256 := 0
deriving DecidableEq, Repr

/-- How a store ends in the flash (R383), and the bytes of the copy, by place, that the flash does not keep as they were written: what they
read later (R385). -/
structure FlashEnd where
  good : Bool
  decay : List (Nat × Byte) := []
deriving DecidableEq, Repr

/-- A mask of MSI-X that the host clears, or sets (`mask` 1): a vector's or the function's (R411). -/
inductive MsixMask where
  | vector (v : Fin 1024) (mask : Bool)
  | function (mask : Bool)
deriving DecidableEq, Repr

/-- Requesters of the HBM controllers (R354). A read of BUF_READ names the packet that is read out, one of COUNT or SAMPLE a byte of the sector
that its record holds. -/
inductive HbmRequester where
  | bufWrite
  | bufRead (packet : Nat)
  | count (byte : Fin 64)
  | sample (byte : Fin 64)
  | host | scrub
deriving DecidableEq, Repr

/-- What the address of a request to the HBM controllers counts: the bytes of the buffers of H0, or the sectors of a stack (R351). -/
inductive HbmSpace where
  | buffer
  | stack (number : Fin 4)
deriving DecidableEq, Repr

/-- A replication engine, and the parity errors that its reads of the resolution tables meet (R156). -/
structure McRead where
  sector : Fin 8
  upsets : List Upset
deriving DecidableEq, Repr

/-- What the read-out of a packet and the reads of the resolution tables for it meet (R156, R183). -/
structure EgressRead where
  ecc : ReadUpset
  upsets : List Upset
deriving DecidableEq, Repr

/-- A requester whose unit arrives, and what the read-out of its packet meets when that is cut through (R183). -/
structure UnitRead where
  requester : Fin 388
  ecc : ReadUpset
deriving DecidableEq, Repr

/-- A cell as it arrives, and what the error correction meets when its bytes are read at once for a packet of a deterministic flow that is
cut through (R183, R333). -/
structure RxCell where
  bytes : List Byte
  ecc : ReadUpset
deriving DecidableEq, Repr

/-- A meter, and what the error correction finds in it and in its profile (R249). -/
structure MeterRead where
  meter : Fin 262144
  meterEcc : Ecc
  profileEcc : Ecc
deriving DecidableEq, Repr

/-- What host memory answers a job: the data it reads (none when the read fails or is poisoned), whether the write of its data goes
through, and whether the write of its completion does (R405, R413, R414). -/
structure Dma where
  data : Option (List Byte)
  ok : Bool
  cpl : Bool
deriving DecidableEq, Repr

/-- Uncorrectable codewords that overlap a link frame: how many, and whether the first of them overlapped the frame before too (R321,
R340). -/
structure FecErrors where
  overlap : Nat
  carried : Bool
deriving DecidableEq, Repr

/-- Header fields of an intact mate message (R463): EPOCH, CYCLE, SEQ, FLAGS and the sender's ROLE. -/
structure MateHead where
  epoch : Nat
  cycle : Nat
  seq : Nat
  flags : Nat
  role : Nat
deriving DecidableEq, Repr

/-- The commands of the block, one constructor per row of spec/opcode_table.json, in its order. -/
inductive Instr where
  /-- `STATE_REQ` (R24): The servo owner writes STATE_REQ and the timebase enters the requested state, raising E-1001 on a change. -/
  | stateReq (master : Nat) (value : Nat)
  /-- `AUTO_HOLDOVER` (R24): 2 s pass in LOCKED with no valid reference sample, so the timebase enters HOLDOVER and FREQ_ADJ freezes at the mean of the last servo adjustments. -/
  | autoHoldover (lastSample : Nat)
  /-- `FREQ_ADJ` (R24): The servo owner writes FREQ_ADJ: it is applied and counted as a servo adjustment, or refused with BUSY in HOLDOVER and DENIED for other masters. -/
  | freqAdj (master : Nat) (value : Nat)
  /-- `STEP` (R25): The servo owner writes STEP: the timebase moves at the next tick, STEP_COUNT rises, bins are marked suspect and skipped air events count in SKIPPED. -/
  | step (master : Nat) (value : Nat)
  /-- `SHADOW_REALIGN` (R26): At each TAI second in RUN, the always-on shadow counter is realigned to the main timebase. -/
  | shadowRealign
  /-- `TIMEBASE_LOAD` (R26): After ISLAND or a package warm reset, the main timebase is loaded from the shadow counter at the next shadow-counter second and enters HOLDOVER unless it was in FREERUN. -/
  | timebaseLoad
  /-- `TIME_SYNC_WORD` (R21): Every 1,024 ns a time synchronisation word crosses the D2D link and aligns the die replica. -/
  | timeSyncWord
  /-- `TIME_WORD_MISSED` (R46): The D2D time word is missed for 4 consecutive periods and E-1104 is raised. -/
  | timeWordMissed
  /-- `PPS_OUT` (R28): PPS_OUT rises at each integer TAI second plus PPS_OUT_OFFSET and stays high for 100 us. -/
  | ppsOut
  /-- `PPS_IN` (R28): A rising edge on PPS_IN is timestamped into PPS_IN_STAMP. -/
  | ppsIn
  /-- `TOD_MESSAGE` (R28): A message is received on TOD_RXD: the time event message is accepted and any other type counts in TOD_DISCARDS. -/
  | todMessage (timeEvent : Bool) (bytes : List Byte)
  /-- `AIR_CLOCK_ENABLE` (R33): A write of ENABLE starts or stops an air clock's events from the write's completion plus 8,192 ns. -/
  | airClockEnable (clock : AirClock) (master : Nat) (value : Nat)
  /-- `DISPATCH` (R41): The dispatcher sends the next due air event action to its target unit, at most one per tick and 4,096 ns ahead of its instant. -/
  | dispatch
  /-- `AIR_NOP` (R38): A NOP air event reaches its instant and does nothing. -/
  | airNop
  /-- `GATE_CYCLE` (R241): A GATE_CYCLE air event starts the next gate cycle of a scheduler port at its anchor symbol. -/
  | gateCycle
  /-- `PAGE_SWITCH` (R335): A PAGE_SWITCH air event requests a connection-memory page switch on a scheduled lane, or merges with a pending one. -/
  | pageSwitch
  /-- `SAMPLE_MARKED` (R215): A SAMPLE_MARKED air event latches every valid marked queue and writes one MARKED_LOG entry for each. -/
  | sampleMarked
  /-- `MATE_CYCLE` (R466): A mate cycle ends at B(k): the journal closes, HEALTH is sent, the lease renews itself where allowed and the lease timers are cross-checked. -/
  | mateCycle
  /-- `PREWAKE` (R505): A PREWAKE air event wakes a power client's parts to the ARG state and holds them there for PREWAKE_HOLD_NS. -/
  | prewake
  /-- `SNAPSHOT` (R284): A snapshot of a group copies the live port counters of every member into the shadow bank and sets SNAP_SEQ, SNAP_TIME and SNAP_CAUSE. -/
  | snapshot
  /-- `HOST_EVENT` (R39): A HOST_EVENT air event raises E-1002 and, when ARG[15] is set, signals a PF MSI-X vector. -/
  | hostEvent
  /-- `BIN_BOUNDARY` (R44): A 15-minute or 24-hour performance bin boundary is reached, a new bin starts and ON_BIN snapshots are triggered. -/
  | binBoundary
  /-- `DAY_OFFSET` (R45): A write of DAY_OFFSET closes the current bins as suspect and starts new ones. -/
  | dayOffset (master : Nat) (value : Nat)
  /-- `RX_FRAME` (R272): The MAC receives a frame and passes it to the ingress distributor, or discards and counts it. -/
  | rxFrame (port : LinePort) (frame : List Byte) (codeError : Bool) (corrected : Nat) (uncorrectable : Nat) (symbols : Nat)
  /-- `INGRESS_PIPELINE` (R147): The distributor hands a packet to an active ingress pipeline, which parses, classifies, searches and resolves it. -/
  | ingressPipeline (sector : Fin 8) (upsets : List Upset)
  /-- `METER_DECIDE` (R237): At the later of resolution end and last byte arrival, a meter colours the packet and may drop it red. -/
  | meterDecide (meterEcc : Ecc) (profileEcc : Ecc)
  /-- `MC_REPLICATE` (R145): The replication engine expands a queued multicast packet into its copies in copy-list order. -/
  | mcReplicate (read : McRead)
  /-- `D2D_REPLAY` (R559): A D2D transfer unit with a CRC error is replayed from the replay buffer. -/
  | d2dReplay (good : Bool)
  /-- `D2D_RETRAIN` (R559): After 16 consecutive failed replays, the D2D link retrains, keeping its replay buffer, and raises E-1120. -/
  | d2dRetrain
  /-- `D2D_LINK_FAIL` (R559): The D2D link fails to retrain within 1 ms, discards every unit in flight and raises E-1320. -/
  | d2dLinkFail
  /-- `ACTIVE_BANK` (R60): A write of ACTIVE_BANK switches parse graph banks once the walks on the old bank have drained. -/
  | activeBank (master : Nat) (value : Nat)
  /-- `RESTORE_DEFAULT` (R59): A write of RESTORE_DEFAULT loads the default parse graph into the standby bank. -/
  | restoreDefault (master : Nat) (value : Nat)
  /-- `KEY_PROFILE_SLOTS` (R65): A write of SLOTS_LO or SLOTS_HI is checked against the profile it would form and is applied or refused. -/
  | keyProfileSlots (profile : Fin 64) (high : Bool) (master : Nat) (value : Nat)
  /-- `COMMIT` (R71): A write of 1 to COMMIT activates a tree set's pending roots once the classifications on the old roots have drained. -/
  | commit (set : Fin 16) (master : Nat) (value : Nat)
  /-- `EM_INSERT` (R94): The table engine inserts or updates an exact-match entry, relocating or evicting where needed. -/
  | emInsert (sq : Fin 1024) (index : Nat) (upsets : List Upset) (dma : Dma)
  /-- `EM_DELETE` (R124): The table engine deletes an exact-match entry by key. -/
  | emDelete (sq : Fin 1024) (index : Nat) (upsets : List Upset) (dma : Dma)
  /-- `EM_LOOKUP` (R124): The table engine returns an entry's result, stamp and flags, optionally setting its lock. -/
  | emLookup (sq : Fin 1024) (index : Nat) (upsets : List Upset) (dma : Dma)
  /-- `EM_READ_INDEX` (R124): The table engine writes the entry at an index to a host buffer. -/
  | emReadIndex (sq : Fin 1024) (index : Nat) (upsets : List Upset) (dma : Dma)
  /-- `EM_UNLOCK` (R124): The table engine clears an entry's lock. -/
  | emUnlock (sq : Fin 1024) (index : Nat) (upsets : List Upset) (dma : Dma)
  /-- `ROUTE_ADD` (R111): A route is added or updated in the LPM store, subject to the family total and VRF limit. -/
  | routeAdd (sq : Fin 1024) (index : Nat) (upsets : List Upset) (dma : Dma)
  /-- `ROUTE_DELETE` (R111): A route is removed from the LPM store. -/
  | routeDelete (sq : Fin 1024) (index : Nat) (upsets : List Upset) (dma : Dma)
  /-- `ROUTE_READ` (R124): The RESULT of an exact route is returned. -/
  | routeRead (sq : Fin 1024) (index : Nat) (upsets : List Upset) (dma : Dma)
  /-- `ROUTE_MATCH` (R109): A longest-prefix match for an address is returned with its length. -/
  | routeMatch (sq : Fin 1024) (index : Nat) (upsets : List Upset) (dma : Dma)
  /-- `LABEL_WRITE` (R113): A label table entry is written atomically. -/
  | labelWrite (sq : Fin 1024) (index : Nat) (upsets : List Upset) (dma : Dma)
  /-- `LABEL_READ` (R124): A label table entry is returned. -/
  | labelRead (sq : Fin 1024) (index : Nat) (upsets : List Upset) (dma : Dma)
  /-- `TCAM_WRITE` (R118): A TCAM entry is written to the shadow and then to all replicas at one edge. -/
  | tcamWrite (sq : Fin 1024) (index : Nat) (upsets : List Upset) (dma : Dma)
  /-- `TCAM_READ` (R124): A TCAM entry image is written to host memory. -/
  | tcamRead (sq : Fin 1024) (index : Nat) (upsets : List Upset) (dma : Dma)
  /-- `TCAM_INVALIDATE` (R124): A TCAM position is invalidated. -/
  | tcamInvalidate (sq : Fin 1024) (index : Nat) (upsets : List Upset) (dma : Dma)
  /-- `TCAM_MOVE` (R121): A block of TCAM entries is shifted into a hole while searches continue. -/
  | tcamMove (sq : Fin 1024) (index : Nat) (upsets : List Upset) (dma : Dma)
  /-- `LEARN` (R102): The table engine handles one learn request: learned, moved, refreshed, denied or deferred. -/
  | learn (table : EmTable)
  /-- `LEARN_STASH_DRAIN` (R107): Learn-event stash entries drain into the ring as room appears, and PAUSED clears at 32. -/
  | learnStashDrain (cq : Fin 1024)
  /-- `STAMP_TICK` (R97): A table's STAMP_NOW increments after one STAMP_UNIT. -/
  | stampTick (table : EmTable)
  /-- `STAMP_UNIT` (R97): A write of STAMP_UNIT restarts the stamp spacing from its completion. -/
  | stampUnit (table : EmTable) (master : Nat) (value : Nat)
  /-- `AGER_READ` (R99): The ager reads the next bucket and issues compare-and-deletes for aged dynamic entries. -/
  | agerRead (table : EmTable)
  /-- `AGER_COMPARE_DELETE` (R99): At the bank port, an ager delete removes the entry only if its key and stamp are unchanged and it is unlocked. -/
  | agerCompareDelete (table : EmTable)
  /-- `EM_TABLE_ENABLE` (R104): A write of an exact-match table's ENABLE is checked, and on acceptance resets its choice register. -/
  | emTableEnable (table : EmTable) (master : Nat) (value : Nat)
  /-- `EM_TABLE_GEOMETRY` (R104): A slow write of WIDTH, BANK_FIRST, BANK_COUNT or a seed clears every entry of the table. -/
  | emTableGeometry (table : EmTable) (field : Fin 5) (master : Nat) (value : Nat)
  /-- `SCRUB_ROW` (R127): The background scrubber reads the next table memory row. -/
  | scrubRow (upsets : List Upset)
  /-- `LPM_LOSS` (R128): The routes of a damaged LPM structure have been removed, recorded in LPM_LOSSES, and E-3205 is raised. -/
  | lpmLoss
  /-- `TCAM_SCRUB` (R119): The TCAM scrubber compares one unit of each replica with the shadow and repairs differences. -/
  | tcamScrub (differ : List (Fin 8)) (shadowBad : Bool) (agree : Nat)
  /-- `TCAM_TABLE_ENABLE` (R116): A write of a TCAM table's ENABLE is checked against widths, banks and profile width. -/
  | tcamTableEnable (table : Fin 4) (master : Nat) (value : Nat)
  /-- `TCAM_BANK_WIDTH` (R123): A write of a TCAM bank's width clears the bank's entries. -/
  | tcamBankWidth (bank : Fin 16) (master : Nat) (value : Nat)
  /-- `POOL_ACTIVATE` (R148): The packet rate exceeds HIGH_PCT in a 1 us window and the lowest inactive pipeline is activated. -/
  | poolActivate (sector : Fin 8) (pipe : Fin 4)
  /-- `POOL_DEACTIVATE` (R148): The rate stays below LOW_PCT for 10 ms and the highest active pipeline is deactivated. -/
  | poolDeactivate (sector : Fin 8) (pipe : Fin 4)
  /-- `RECIRCULATE` (R155): A packet sent to RC re-enters an ingress pipeline with PASS + 1, or is dropped at PASS 3. -/
  | recirculate
  /-- `EGRESS_PIPELINE` (R152): A dequeued packet is read out, edited and recompressed in an egress pipeline. -/
  | egressPipeline (port : Fin 136) (read : EgressRead)
  /-- `BUF_ENABLE` (R164): A write of BUF_ENABLE is checked against the region and pool configuration. -/
  | bufEnable (master : Nat) (value : Nat)
  /-- `ADMISSION` (R175): The pool manager decides a packet at its first unit, or at reassembly completion, and places or refuses it. -/
  | admission (upsets : List PoolUpset)
  /-- `D2D_UNIT` (R149): A later unit of a packet arrives from the die-to-die link and is stored. -/
  | d2dUnit (read : UnitRead)
  /-- `STAGING_DONE` (R173): An HBM write from staging cells completes and frees them. -/
  | stagingDone
  /-- `IDLE_MAP` (R180): The T die sends the port idle map to the F die every 8 ns. -/
  | idleMap
  /-- `DEQUEUE_DECISION` (R194): A slice makes a dequeue decision for a ready port through classes, groups, users and bearers. -/
  | dequeueDecision (slice : Fin 8) (upsets : List QueueUpset)
  /-- `FLUSH_QUEUE` (R207): A slow write of FLUSH_QUEUE discards every packet held in a queue or VOQ. -/
  | flushQueue (master : Nat) (value : Nat)
  /-- `VOQ_SEND` (R208): A slice serves an eligible VOQ and hands one packet to the fabric interface, debiting its credit balance. -/
  | voqSend (slice : Fin 8) (ecc : ReadUpset)
  /-- `GRANT` (R306): A GRANT message arrives and adds its bytes to the named VOQ's balance. -/
  | grant (granting : Fin 256) (requesting : Fin 256) (q : Fin 64) (cls : Fin 8) (bytes : Nat)
  /-- `CREDIT_GENERATE` (R209): The egress credit scheduler of a port issues a grant of GRANT_BYTES to a requesting pair, or holds. -/
  | creditGenerate (port : Fin 136)
  /-- `SAMPLE_ROUND` (R211): A 4 ms sampling round begins and ROUNDS rises. -/
  | sampleRound
  /-- `QUEUE_SAMPLE` (R212): At its sample instant, a queue's depth and head delay are recorded in its sample record. -/
  | queueSample (index : Fin 655360)
  /-- `SHAPER_RELEASE` (R229): At a shaper step start, a held node's credit is at least 0 with SEND_LEFT 0, so it becomes eligible again. -/
  | shaperRelease (port : Fin 136)
  /-- `SHAPER_PROFILE_WRITE` (R232): A write of a shaper profile rate or burst resets the credit of every enabled node that names it. -/
  | shaperProfileWrite (profile : Fin 1024) (field : Fin 3) (master : Nat) (value : Nat)
  /-- `METER_SWEEP` (R236): The background sweep updates every meter's buckets at least once per second. -/
  | meterSweep (read : MeterRead)
  /-- `GATE_ENTRY_END` (R241): A gate list entry ends; the next entry comes into force, or the gated classes close. -/
  | gateEntryEnd (port : Fin 136)
  /-- `PORT_ENABLE` (R271): A write of PORT_ENABLE brings a line port into or out of service after checking its mode and lanes. -/
  | portEnable (port : LinePort) (master : Nat) (value : Nat)
  /-- `LINK_CONDITION` (R274): A lane's signal, FEC lock, alignment or fault condition changes and the link hold timing starts. -/
  | linkCondition (port : LinePort) (good : Bool) (localFault : Bool)
  /-- `LINK_DOWN` (R274): A broken condition has lasted LINK_DOWN_HOLD, so the link is declared down and E-2101 is raised. -/
  | linkDown (port : LinePort)
  /-- `LINK_UP` (R274): Every link condition has held for LINK_UP_HOLD, so the link is declared up and E-2002 is raised. -/
  | linkUp (port : LinePort)
  /-- `PAUSE_FRAME` (R275): An IEEE 802.3x PAUSE frame is received and holds every class of the port in mode 1. -/
  | pauseFrame (port : LinePort) (source : Nat) (quanta : Fin 65536)
  /-- `PFC_FRAME` (R275): An IEEE 802.1Qbb PFC frame is received and holds the mapped classes in mode 2. -/
  | pfcFrame (port : LinePort) (source : Nat) (enabled : Fin 256) (quanta : List Nat)
  /-- `PAUSE_EXPIRY` (R276): A priority's pause interval ends and its classes reopen. -/
  | pauseExpiry (port : LinePort) (priority : Fin 9)
  /-- `WD_RELEASE` (R278): A priority has stayed paused for WD_LIMIT_MS, so the watchdog releases it and starts the hold-off. -/
  | wdRelease (port : LinePort) (priority : Fin 9)
  /-- `WD_HOLDOFF_END` (R278): The watchdog hold-off span ends and pause frames are obeyed again. -/
  | wdHoldoffEnd (port : LinePort) (priority : Fin 9)
  /-- `PAUSE_TX` (R279): Usage or the receive buffer crosses a threshold, so the port sends a PAUSE or PFC frame, or an XON frame. -/
  | pauseTx (port : LinePort)
  /-- `PAUSE_REPEAT` (R279): Half the quanta time has passed while the condition holds and the pause frame is sent again. -/
  | pauseRepeat (port : LinePort)
  /-- `TX_FRAME_START` (R286): The MAC starts a selected frame, or discards it under the lease gate or link down. -/
  | txFrameStart (port : LinePort)
  /-- `TX_FRAME_END` (R192): A frame finishes on the wire; OUTSTANDING falls and the counters update. -/
  | txFrameEnd (port : LinePort)
  /-- `TRIGGER` (R284): A write of TRIGGER takes a snapshot of its group at the write's completion. -/
  | trigger (group : Fin 16) (master : Nat) (value : Nat)
  /-- `CELL_RX` (R295): A fabric cell is received, checked and dispatched by type. -/
  | cellRx (lane : FabricLane) (frame : Fin 64) (slot : Fin 16) (cell : RxCell)
  /-- `REACH` (R300): A REACH message updates a lane's reach map. -/
  | reach (lane : FabricLane) (fromElement : Bool) (quarter : Fin 4) (device : Fin 256) (map : Nat)
  /-- `REACH_TX` (R300): Every 1 us, the device sends its REACH announcement on each enabled lane. -/
  | reachTx
  /-- `REACH_TIMEOUT` (R300): No REACH has arrived on a lane for 16 us and its reach map becomes zero. -/
  | reachTimeout (lane : FabricLane)
  /-- `SPRAY_JOIN` (R301): A lane's conditions have held for REJOIN_MS and the lane rejoins the spray set. -/
  | sprayJoin (lane : FabricLane)
  /-- `UNREACH_DISCARD` (R303): A destination has been unreachable for UNREACH_MS, so its VOQs are discarded and E-5201 is raised. -/
  | unreachDiscard (device : Fin 256)
  /-- `REQUEST` (R305): A REQUEST message is applied to the request state, or ignored as stale. -/
  | request (requesting : Fin 256) (granting : Fin 256) (q : Fin 64) (cls : Fin 8) (on : Bool) (seq : Fin 16)
  /-- `REQUEST_REFRESH` (R304): An ON request is sent again every REFRESH_US. -/
  | requestRefresh (voq : Fin 131072)
  /-- `REQUEST_EXPIRY` (R305): An ON request state with no REQUEST for 3 x REFRESH_US expires. -/
  | requestExpiry (requesting : Fin 256) (q : Fin 64) (cls : Fin 8)
  /-- `CONTROL_CELL_FLUSH` (R299): A part-filled CONTROL cell is sent after 64 ns of packing. -/
  | controlCellFlush (device : Fin 256)
  /-- `REASM_TIMEOUT` (R309): An incomplete reassembly context reaches REASM_TIMEOUT_NS, is ended and its tag is lost. -/
  | reasmTimeout (source : Fin 256) (cls : Fin 8) (tag : Fin 65536)
  /-- `HEAD_LOSS` (R313): NEXT has waited REASM_TIMEOUT_NS behind a higher tag and becomes LOST. -/
  | headLoss (source : Fin 256) (cls : Fin 8)
  /-- `FABRIC_ENABLE` (R316): A write of FABRIC_ENABLE starts the fabric, or stops it and resets every context and stream. -/
  | fabricEnable (master : Nat) (value : Nat)
  /-- `TX_LINK_FRAME` (R318): A lane starts sending a link frame with its Crust and 16 cell slots. -/
  | txLinkFrame (lane : FabricLane)
  /-- `FAW_MATCH` (R323): In HUNT or PRESYNC, a FAW match opens or advances an alignment candidate, which may enter SYNC. -/
  | fawMatch (lane : FabricLane) (position : Nat) (frameNum : Fin 64)
  /-- `RX_LINK_FRAME` (R324): A link frame is received in SYNC: alignment, BIP8, trace, defects and slots are handled. -/
  | rxLinkFrame (lane : FabricLane) (frame : List Byte) (symbols : Nat) (uncorrectable : FecErrors)
  /-- `LOS` (R326): PMA signal detect or FEC lock is lost, so LOS is declared and the lane returns to HUNT. -/
  | los (lane : FabricLane)
  /-- `LOS_CLEAR` (R326): Signal and FEC lock have held for 100 us and LOS clears. -/
  | losClear (lane : FabricLane)
  /-- `SCHED_FLOW_TIMEOUT` (R333): A scheduled flow's packet in progress receives no cell for REASM_TIMEOUT_NS and is ended. -/
  | schedFlowTimeout (flow : Fin 4096)
  /-- `SL_ENABLE` (R329): A write of SL_ENABLE is checked and brings a scheduled lane into service. -/
  | slEnable (lane : Fin 16) (master : Nat) (value : Nat)
  /-- `PM_SECOND` (R340): A TAI second ends and the lane's ES, SES, BBE, UAS and defect seconds are accounted. -/
  | pmSecond (lane : FabricLane)
  /-- `PM_BIN_FINAL` (R342): 10 s after a bin boundary, the closed bin becomes final history and the records shift. -/
  | pmBinFinal (lane : FabricLane)
  /-- `HBM_READ` (R358): An HBM read is forwarded from a queued write, waits for it, or reads DRAM. -/
  | hbmRead (space : HbmSpace) (address : Nat) (requester : HbmRequester) (ecc : SectorEcc)
  /-- `HBM_WRITE` (R356): An HBM write enters its channel's write queue and drains in arrival order. -/
  | hbmWrite (space : HbmSpace) (address : Nat) (requester : HbmRequester) (mask : Nat) (data : List Byte)
  /-- `WRITE_DRAIN_TIMEOUT` (R356): The oldest queued write has waited 2 us and the channel drains writes. -/
  | writeDrainTimeout (stack : Fin 4) (channel : Fin 32)
  /-- `ROW_OPEN_TIMEOUT` (R355): A row kept open under the OPEN hint for 2 us is closed. -/
  | rowOpenTimeout (stack : Fin 4) (channel : Fin 32) (bank : Fin 16)
  /-- `HBM_REFRESH` (R357): A channel refreshes the next bank. -/
  | hbmRefresh (stack : Fin 4) (channel : Fin 32)
  /-- `RETRAIN_DUE` (R360): A channel is due for retraining by time or temperature change. -/
  | retrainDue (stack : Fin 4) (channel : Fin 32)
  /-- `RETRAIN_STEP` (R361): A retraining step pauses a channel, adjusts the PHY and resumes within 600 ns. -/
  | retrainStep (stack : Fin 4) (channel : Fin 32) (good : Bool) (repeatGood : Bool)
  /-- `HBM_SCRUB` (R363): The HBM patrol scrubber reads the next sector and writes back corrected data. -/
  | hbmScrub (stack : Fin 4) (ecc : SectorEcc)
  /-- `HBM_REGION_ORDER` (R353): A slow write of ORDER or HASH for H1 or H2 zeroes the region. -/
  | hbmRegionOrder (region : Fin 3) (hash : Bool) (master : Nat) (value : Nat)
  /-- `WINDOW_WRITE` (R374): A write to an object with no row of its own is checked for rights, width and range and then applied. -/
  | windowWrite (master : Nat) (offset : Nat) (size : Nat) (value : Nat)
  /-- `RC_READ` (R18): A full read of an RC object returns its value and clears it. -/
  | rcRead (master : Nat) (offset : Nat) (size : Nat)
  /-- `SLOW_WRITE_DONE` (R376): A slow write running in the background ends and its status is recorded. -/
  | slowWriteDone (master : Nat)
  /-- `DICT_LOCK` (R381): A write of 1 to DICT_LOCK makes RWL objects read only until package reset. -/
  | dictLock (master : Nat) (value : Nat)
  /-- `STORE` (R383): A write of 1 to STORE snapshots the storable objects and starts writing a Pantry copy. -/
  | store (master : Nat) (value : Nat)
  /-- `CLEAR` (R383): A write of 1 to CLEAR starts writing an empty Pantry copy. -/
  | clear (master : Nat) (value : Nat)
  /-- `PANTRY_WRITE_DONE` (R383): A Pantry store ends in the flash, with success or E-7202. -/
  | pantryWriteDone (done : FlashEnd)
  /-- `OBJ_READ` (R402): A ring job reads one object. -/
  | objRead (sq : Fin 1024) (index : Nat) (dma : Dma)
  /-- `OBJ_WRITE` (R402): A ring job writes one object. -/
  | objWrite (sq : Fin 1024) (index : Nat) (dma : Dma)
  /-- `DOMAIN_READ` (R403): A ring job reads one DOMAIN entry. -/
  | domainRead (sq : Fin 1024) (index : Nat) (dma : Dma)
  /-- `DOMAIN_WRITE` (R403): A ring job writes the RW fields of one DOMAIN entry. -/
  | domainWrite (sq : Fin 1024) (index : Nat) (dma : Dma)
  /-- `SQ_DOORBELL` (R395): The host writes an SQ tail doorbell, which is accepted or ignored. -/
  | sqDoorbell (fn : Fin 33) (page : Fin 1024) (value : Nat)
  /-- `CQ_DOORBELL` (R395): The host writes a CQ head doorbell, which frees ring room. -/
  | cqDoorbell (fn : Fin 33) (page : Fin 1024) (value : Nat)
  /-- `PUSH` (R398): The host pushes a 64-byte entry copy into a push slot. -/
  | push (fn : Fin 33) (page : Fin 1024) (slot : Fin 4) (entry : List Byte)
  /-- `FETCH_VISIT` (R399): The fetch engine visits a ring under weighted round robin and fetches entries. -/
  | fetchVisit (memory : List (Option (List Byte)))
  /-- `NOP` (R401): A NOP job completes with OK. -/
  | nop (sq : Fin 1024) (index : Nat) (dma : Dma)
  /-- `PKT_TX` (R404): A PKT_TX job reads a frame from the host and injects it in DIRECT or PIPELINE mode. -/
  | pktTx (sq : Fin 1024) (index : Nat) (dma : Dma)
  /-- `TX_STAMP` (R405): A stamped PKT_TX frame has left its port or been discarded, so the stamp record and completion are written. -/
  | txStamp (sq : Fin 1024) (index : Nat) (dma : Dma)
  /-- `RX_BUFFER` (R406): An RX_BUFFER job posts a receive buffer to an HP class's list. -/
  | rxBuffer (sq : Fin 1024) (index : Nat) (dma : Dma)
  /-- `RX_DELIVER` (R407): A packet selected for HP is written into the head buffer and its RX_BUFFER job completes. -/
  | rxDeliver (dma : Dma)
  /-- `CQ_STASH_DRAIN` (R412): Stashed completions drain into the ring as the head advances, and fetching resumes. -/
  | cqStashDrain (cq : Fin 1024) (ok : Bool)
  /-- `CQ_COALESCE_TIMEOUT` (R411): CQ_COAL_NS passes since the oldest unsignalled entry and the CQ's vector is signalled. -/
  | cqCoalesceTimeout (cq : Fin 1024)
  /-- `SQ_ENABLE` (R415): A write of SQ_ENABLE starts a ring, or disables it and aborts its unfetched entries. -/
  | sqEnable (master : Nat) (value : Nat)
  /-- `CQ_ENABLE` (R415): A write of CQ_ENABLE starts or stops a completion ring. -/
  | cqEnable (master : Nat) (value : Nat)
  /-- `FUNCTION_LEVEL_RESET` (R415): A function-level reset disables every ring of the function without writing completions. -/
  | functionLevelReset (fn : Fin 33)
  /-- `PCIE_HOT_RESET` (R415): A PCIe hot reset of the PF disables every ring of the PF and every VF. -/
  | pcieHotReset
  /-- `PCIE_LINK_DOWN` (R418): The PCIe link goes down, E-8102 is raised and the data path runs on. -/
  | pcieLinkDown
  /-- `PCIE_LINK_UP` (R418): The PCIe link comes up and E-8002 is raised. -/
  | pcieLinkUp (speed : Fin 6) (width : Fin 5) (vfs : Fin 33)
  /-- `VF_RESOURCES` (R392): A write of VF_RESOURCES lends a block of rings to a VF after checking overlaps. -/
  | vfResources (vf : Fin 32) (field : Fin 4) (master : Nat) (value : Nat)
  /-- `MB_BINDING` (R420): A write of a mailbox binding entry is checked and applied. -/
  | mbBinding (channel : Fin 64) (master : Nat) (value : Nat)
  /-- `SEND` (R423): The sender posts a mailbox message and the receiver's doorbell bit is set. -/
  | send (channel : Fin 64) (master : Nat) (value : Nat)
  /-- `ACK` (R423): The receiver acknowledges a posted message with a return code and the sender's doorbell bit is set. -/
  | ack (channel : Fin 64) (master : Nat) (value : Nat)
  /-- `LOCK_READ` (R427): A read of a shared channel's LOCK acquires it or returns the holder. -/
  | lockRead (channel : Fin 64) (master : Nat)
  /-- `LOCK_RELEASE` (R428): The holder writes 0 to LOCK and releases the channel. -/
  | lockRelease (channel : Fin 64) (master : Nat) (value : Nat)
  /-- `DB_PENDING_CLEAR` (R426): A W1C write clears doorbell pending bits. -/
  | dbPendingClear (master : Nat) (value : Nat)
  /-- `DB_MASK` (R426): A write of DB_MASK masks or unmasks bits and signals any pending bit that it unmasks. -/
  | dbMask (master : Nat) (value : Nat)
  /-- `MAILBOX` (R430): A mate MAILBOX message posts into, or acknowledges, the partner's channel of the same number. -/
  | mailbox (head : MateHead) (channel : Fin 64) (kind : Fin 3) (ack : Nat) (message : List Byte)
  /-- `TOKEN` (R443): The device receives the Coica token and sends emergencies, notifications and solicits before passing it. -/
  | token
  /-- `CLAIM` (R445): A CLAIM frame is received, or the device's own CLAIM reads back intact so that it holds the token, or garbled so that it goes silent. -/
  | claim (own : Option Bool)
  /-- `SOLICIT` (R448): A SOLICIT frame arrives and a listening station in range answers with SET_SUCCESSOR. -/
  | solicit
  /-- `SET_SUCCESSOR` (R448): An intact SET_SUCCESSOR answer admits a new station as successor. -/
  | setSuccessor
  /-- `POLL` (R450): In slave role, the device answers a supervisor's POLL with a POLL_RESPONSE. -/
  | poll
  /-- `OD_READ` (R451): A Coica READ service reads one object. -/
  | odRead
  /-- `OD_WRITE` (R451): A Coica WRITE service writes one object. -/
  | odWrite
  /-- `OD_DOMAIN_READ` (R451): A Coica DOMAIN_READ service reads one DOMAIN entry. -/
  | odDomainRead
  /-- `OD_DOMAIN_WRITE` (R451): A Coica DOMAIN_WRITE service writes one DOMAIN entry. -/
  | odDomainWrite
  /-- `OD_STATUS` (R453): A Coica STATUS service returns the final response of an earlier request. -/
  | odStatus
  /-- `BLOCK_OPEN` (R454): A Coica BLOCK_OPEN opens a block, replacing any open one. -/
  | blockOpen
  /-- `BLOCK_SEG` (R454): A Coica BLOCK_SEG stores a segment of the open block. -/
  | blockSeg
  /-- `BLOCK_COMMIT` (R454): A Coica BLOCK_COMMIT checks the block and hands it on as a firmware block. -/
  | blockCommit (good : Bool)
  /-- `BLOCK_ABORT` (R454): A Coica BLOCK_ABORT discards the open block. -/
  | blockAbort
  /-- `TOKEN_PASS_TIMEOUT` (R444): The successor starts no frame within S; the token is passed again, or the successor is dropped. -/
  | tokenPassTimeout
  /-- `TOKEN_LOST` (R445): No carrier for 80 us, so the token is declared lost and the claim starts. -/
  | tokenLost
  /-- `CLAIM_ROUND` (R445): A 7 S claim round ends and the contender stays in or drops out. -/
  | claimRound (carrier : Bool)
  /-- `SOLICIT_WINDOW_END` (R448): A solicit window closes silent, with one answer or garbled, and resolution continues. -/
  | solicitWindowEnd (garbled : Bool)
  /-- `TX_JABBER` (R440): CMB_TX_EN has been asserted for 1 ms, so it is cut and the device stays silent for 100 ms. -/
  | txJabber
  /-- `JABBER_SILENCE_END` (R440): The 100 ms transmit silence after jabber ends. -/
  | jabberSilenceEnd
  /-- `RX_JABBER` (R440): A received carrier lasts over 1 ms without an end delimiter and the bus is ignored. -/
  | rxJabber
  /-- `KNOWN_AGE` (R449): A master sends nothing for KNOWN_AGE_MS and leaves the known set. -/
  | knownAge (address : Fin 127)
  /-- `STATION_ADDR` (R441): A write of STATION_ADDR drops the device from the ring to rejoin under the new address, and is allowed in SILENT. -/
  | stationAddr (master : Nat) (value : Nat)
  /-- `ROLE` (R441): A write of ROLE drops the device from the ring to rejoin as token station or slave. -/
  | role (master : Nat) (value : Nat)
  /-- `WP_WRITE` (R457): A write of a wake pattern recomputes WP_CHECK. -/
  | wpWrite (pattern : Fin 8) (field : Fin 6) (master : Nat) (value : Nat)
  /-- `JOURNAL` (R475): The standby receives journal records, acknowledges a complete cycle and applies them. -/
  | journal (head : MateHead) (payload : List Byte)
  /-- `COPY_ACK` (R469): The active receives COPY_ACK and renews its lease. -/
  | copyAck (head : MateHead)
  /-- `HEALTH` (R481): A HEALTH report from the partner updates the partner status and skew. -/
  | health (head : MateHead) (report : List Byte) (delay : Nat)
  /-- `RELEASE` (R484): The partner's RELEASE makes this device take control at the next cycle boundary. -/
  | release (head : MateHead)
  /-- `REVERT_REQ` (R490): The home standby's REVERT_REQ makes the active hand over. -/
  | revertReq (head : MateHead)
  /-- `DIGEST` (R477): The standby compares a region digest and requests a re-copy on a mismatch. -/
  | digest (head : MateHead) (region : Nat) (endSeq : Nat) (digest : Nat)
  /-- `RECOPY_REQ` (R478): The active starts a bulk copy of the requested regions. -/
  | recopyReq (head : MateHead) (region : Nat)
  /-- `BULK` (R587): The standby installs a bulk-copy message and replays the journal over it. -/
  | bulk (head : MateHead) (payload : List Byte)
  /-- `PACKET` (R464): A mate PACKET enters the device through record 0x3181. -/
  | packet (head : MateHead) (frame : List Byte)
  /-- `RESET_NOTICE` (R429): The partner's reset notice resets MATE for mailboxes. -/
  | resetNotice (head : MateHead)
  /-- `LEASE_EXPIRY` (R468): The lease reaches LEASE_END and the active becomes LAPSED with E-9201. -/
  | leaseExpiry
  /-- `W_RENEW` (R469): A witness write renews the active's lease, or is refused. -/
  | wRenew (master : Nat) (value : Nat)
  /-- `W_TAKEOVER` (R487): A witness write grants a new epoch and schedules a takeover. -/
  | wTakeover (master : Nat) (value : Nat)
  /-- `COMMAND` (R483): A write of 1 to COMMAND asks the active to hand over, which it does or refuses. -/
  | command (master : Nat) (value : Nat)
  /-- `PAIR_ENABLE` (R467): A write of PAIR_ENABLE takes the device into STANDBY or out of the pair. -/
  | pairEnable (master : Nat) (value : Nat)
  /-- `TAKEOVER` (R486): At takeover instant T, the standby becomes ACTIVE with a new epoch and lease. -/
  | takeover
  /-- `WTR_EXPIRY` (R490): The wait-to-restore count reaches zero and the home device sends REVERT_REQ. -/
  | wtrExpiry
  /-- `DIGEST_PERIOD` (R477): Every DIGEST_PERIOD_S, the active computes and sends the region digests. -/
  | digestPeriod
  /-- `MATE_LINK_DOWN` (R462): Loss of the mate link is declared and E-9101 is raised. -/
  | mateLinkDown
  /-- `MATE_LINK_UP` (R462): The mate link comes up and E-9003 is raised. -/
  | mateLinkUp
  /-- `MEMORY_BIST` (R479): The Proof engine marches the next 64 KB SRAM slice. -/
  | memoryBist (failed : Bool)
  /-- `LOGIC_BIST` (R479): The Proof engine runs logic BIST on an inactive pipeline. -/
  | logicBist (failed : Bool)
  /-- `LBIST_OVERDUE` (R479): A pipeline stays untested beyond LBIST_MAX_S and E-9109 is raised. -/
  | lbistOverdue (pipeline : Fin 64)
  /-- `EYE_CHECK` (R479): Each second, every enabled lane's eye margin is checked. -/
  | eyeCheck (margins : List (Fin 292 × Nat))
  /-- `FW_HEARTBEAT` (R479): A write of FW_HEARTBEAT resets the 4 s firmware watch. -/
  | fwHeartbeat (master : Nat) (value : Nat)
  /-- `HEARTBEAT_TIMEOUT` (R479): FW_HEARTBEAT is not written for 4 s; the device reports UNHEALTHY with E-9204. -/
  | heartbeatTimeout
  /-- `POWER_EVALUATE` (R500): Every 1 us, a sector chooses the power state of each part. -/
  | powerEvaluate (client : Fin 144)
  /-- `POWER_ENTRY_DONE` (R498): A part completes its entry into a deeper power state. -/
  | powerEntryDone (client : Fin 144) (part : Fin 7)
  /-- `WAKE_DONE` (R498): A waking part reaches RUN and takes work. -/
  | wakeDone (client : Fin 144) (part : Fin 7)
  /-- `LAT_TOL_NS` (R504): A write of LAT_TOL_NS changes a client's tolerance and may wake its parts. -/
  | latTolNs (client : Fin 144) (master : Nat) (value : Nat)
  /-- `PWR_REQ` (R502): A write of PWR_REQ sends a line port or fabric group to OFF, or wakes it. -/
  | pwrReq (client : Fin 144) (master : Nat) (value : Nat)
  /-- `PREWAKE_HOLD_END` (R505): A prewake hold span ends and the part may deepen again. -/
  | prewakeHoldEnd (client : Fin 144)
  /-- `ISLAND_ENTRY` (R571): CORE_PG low or a core rail out of range enters ISLAND and raises E-1110. -/
  | islandEntry (rails : Nat)
  /-- `ISLAND_EXIT` (R508): Core rails good for 2 ms; the device leaves ISLAND and boots with the island state kept. -/
  | islandExit
  /-- `WAKE_REQ` (R509): A write of WAKE_REQ drives WAKE_N low for 10 ms. -/
  | wakeReq (master : Nat) (value : Nat)
  /-- `WAKE_N_RELEASE` (R509): The 10 ms WAKE_N assertion ends. -/
  | wakeNRelease
  /-- `PROVISION_PROVISIONED` (R513): A write of 1 to PROVISION in BLANK fuses the UDS and serial and moves the device to PROVISIONED. -/
  | provisionProvisioned (master : Nat)
  /-- `PROVISION_DECOMMISSION` (R513): A write of 4 to PROVISION in BLANK decommissions the device. -/
  | provisionDecommission (master : Nat)
  /-- `FUSE_PROGRAM_DONE` (R514): Fuse programming for a transition, SVN or key slot completes or fails read-back. -/
  | fuseProgramDone (failed : Option (Nat × Nat))
  /-- `SVN_ADVANCE` (R517): A write of SVN_ADVANCE blows anti-rollback fuses up to the value. -/
  | svnAdvance (master : Nat) (value : Nat)
  /-- `KEY_HASH` (R515): A write of KEY_HASH_k blows an owner key hash into an unprogrammed slot in PROVISIONED. -/
  | keyHash (slot : Fin 4) (master : Nat) (value : Nat)
  /-- `DBG_CHALLENGE` (R522): A read of DBG_CHALLENGE returns 48 fresh bytes and replaces the challenge. -/
  | dbgChallenge (master : Nat)
  /-- `TOKEN_OBSERVE` (R524): An AUTH_SUBMIT of a valid OP 1 token raises the debug level to OBSERVE. -/
  | tokenObserve (master : Nat) (value : Nat)
  /-- `TOKEN_INVASIVE` (R524): An AUTH_SUBMIT of a valid OP 2 token raises the level to INVASIVE and zeroes the alias keys. -/
  | tokenInvasive (master : Nat) (value : Nat)
  /-- `TOKEN_TRANSITION` (R524): An AUTH_SUBMIT of a valid OP 3 token makes a life-cycle transition. -/
  | tokenTransition (master : Nat) (value : Nat)
  /-- `TOKEN_REVOKE` (R524): An AUTH_SUBMIT of a valid OP 4 token revokes an owner key slot. -/
  | tokenRevoke (master : Nat) (value : Nat)
  /-- `DBG_DROP` (R521): A write of DBG_DROP lowers the debug level at once. -/
  | dbgDrop (master : Nat) (value : Nat)
  /-- `DBG_EXPIRY` (R521): DBG_EXPIRES is reached and the debug level falls to NONE. -/
  | dbgExpiry
  /-- `CHALLENGE_EXPIRY` (R522): A debug challenge lapses 60 s after its read. -/
  | challengeExpiry
  /-- `CHALLENGE_LOCKOUT_END` (R524): The 60 s withholding of challenges after 8 failures ends. -/
  | challengeLockoutEnd
  /-- `DEBUG_OBJECT_ACCESS` (R520): The JTAG object instrument moves one object value for D. -/
  | debugObjectAccess (write : Bool) (idx : Nat) (sub : Nat) (value : Nat)
  /-- `DEBUG_DOMAIN_ACCESS` (R520): The JTAG DOMAIN entry instrument moves one entry image for D. -/
  | debugDomainAccess (write : Bool) (idx : Nat) (entry : Nat) (image : Nat)
  /-- `CORE_HALT` (R520): D halts the management cores at INVASIVE. -/
  | coreHalt
  /-- `CORE_STEP` (R520): D steps the halted management cores at INVASIVE. -/
  | coreStep
  /-- `SCAN_DUMP` (R520): D scan-dumps a sector, which stops its clocks and resets it. -/
  | scanDump (die : Fin 2) (sector : Fin 8)
  /-- `EXTEST` (R520): D takes the balls from the device's logic under EXTEST or SAMPLE. -/
  | extest (mode : Fin 3)
  /-- `COLD_RESET` (R530): POR_N low resets everything, and its rise starts the cold boot. -/
  | coldReset
  /-- `PACKAGE_WARM_RESET` (R533): WARM_N low for 1 us resets everything outside the AON sector. -/
  | packageWarmReset
  /-- `WARM_RESET` (R530): A write of WARM_RESET starts a package warm reset after a RESET_NOTICE. -/
  | warmReset (master : Nat) (value : Nat)
  /-- `DIE_RESET_F` (R530): A write of 0 to DIE_RESET warm-resets the F die. -/
  | dieResetF (master : Nat)
  /-- `DIE_RESET_T` (R530): A write of 1 to DIE_RESET warm-resets the T die and discards every held packet. -/
  | dieResetT (master : Nat)
  /-- `SECTOR_RESET` (R530): A write of SECTOR_RESET resets one FS or TS sector. -/
  | sectorReset (master : Nat) (value : Nat)
  /-- `UNIT_RESET` (R530): A write of UNIT_RESET resets one unit. -/
  | unitReset (master : Nat) (value : Nat)
  /-- `SECTOR_FAULT` (R560): A sector's handshake timeout or lost state resets it automatically and raises E-3212 or E-4244. -/
  | sectorFault (die : Fin 2) (sector : Fin 8)
  /-- `BOOT_READY` (R536): The boot reaches data path ready with defaults, the Pantry restored and the lock set. -/
  | bootReady
  /-- `FW_RESTART` (R543): A write of FW_RESTART reloads the firmware while the data path runs on. -/
  | fwRestart (master : Nat) (value : Nat)
  /-- `FW_READY` (R543): A restarted firmware becomes READY, and a trial image may migrate the Pantry. -/
  | fwReady
  /-- `UPDATE_BEGIN` (R537): A write of 1 to UPD_CTRL begins an update and erases the target slot. -/
  | updateBegin (master : Nat)
  /-- `ERASE_DONE` (R537): The update erase completes and UPD_STATE becomes RECEIVING. -/
  | eraseDone
  /-- `FW_BLOCK` (R538): A firmware block is programmed into the target slot. -/
  | fwBlock (sq : Fin 1024) (index : Nat) (good : Bool) (dma : Dma)
  /-- `UPDATE_COMMIT` (R539): A write of 2 to UPD_CTRL starts the commit checks. -/
  | updateCommit (master : Nat)
  /-- `COMMIT_CHECK_DONE` (R539): The commit checks end and the slot becomes READY, or the update FAILED. -/
  | commitCheckDone
  /-- `UPDATE_ABORT` (R540): A write of 3 to UPD_CTRL aborts the update. -/
  | updateAbort (master : Nat)
  /-- `FW_ACCEPT` (R541): A write of FW_ACCEPT accepts the trial image. -/
  | fwAccept (master : Nat) (value : Nat)
  /-- `TRIAL_END` (R541): The trial span ends without acceptance and the device makes a firmware restart. -/
  | trialEnd
  /-- `PING` (R544): The firmware answers the PING mailbox command with 0x0000. -/
  | ping (channel : Fin 64)
  /-- `PAIR_READY` (R544): The firmware asks the partner whether it is ready and answers. -/
  | pairReady (channel : Fin 64) (reply : Option Bool)
  /-- `PANTRY_STORE` (R544): The firmware performs a Pantry store on a mailbox command. -/
  | pantryStore (channel : Fin 64)
  /-- `RESTART` (R544): The firmware restarts itself on a mailbox command from HOST or SUPV. -/
  | restart (channel : Fin 64)
  /-- `ACCEPT` (R544): The firmware accepts the trial image on a mailbox command. -/
  | accept (channel : Fin 64)
  /-- `ALARM_PENDING_CLEAR` (R557): A W1C write of ALARM_PENDING clears class bits and may release ALARM_N. -/
  | alarmPendingClear (master : Nat) (value : Nat)
  /-- `AON_SWITCH` (R572): VAON_A stays below 0.78 V for 2 us and the island switches to VAON_B. -/
  | aonSwitch (vaonA : Nat) (vaonB : Nat)
  /-- `AON_RETURN` (R572): VAON_A is good for 10 ms and the island returns to it. -/
  | aonReturn (vaonA : Nat)
  /-- `VAON_B_LOW` (R573): VAON_B stays below 0.80 V for 10 ms and E-1114 is raised. -/
  | vaonBLow (vaonB : Nat)
  /-- `AON_BROWNOUT` (R573): The island supply falls below 0.72 V with no switch possible and the device acts as for POR_N low. -/
  | aonBrownout
  /-- `REF_LOST` (R577): A reference clock has no edge for 1 us and is declared lost. -/
  | refLost (reference : Fin 5)
  /-- `REF_RESTORED` (R577): A returned reference has run for 10 ms and is used again. -/
  | refRestored (reference : Fin 5)
  /-- `PLL_UNLOCK` (R577): A core PLL loses lock with its reference present and E-1321 is raised. -/
  | pllUnlock (domain : Fin 18)
  /-- `THERMAL_SAMPLE` (R578): The temperature sensors are read every 100 us. -/
  | thermalSample (sensors : List Int) (hbmTemps : List Int)
  /-- `THROTTLE_EVAL` (R580): Every 1 ms, each die's throttle level steps up or down. -/
  | throttleEval
  /-- `MSIX_UNMASK` (R411): The host clears an MSI-X function or vector mask and a pending signal recorded in the PBA is delivered. -/
  | msixUnmask (fn : Fin 33) (mask : MsixMask)
  /-- `COICA_FRAME_RX` (R439): A Coica frame ends on the bus and is discarded and counted, or is passed to the MAC, whatever its DA, where it refreshes the known set, may be a stranger's frame and is compared against the wake patterns. -/
  | coicaFrameRx (frame : List Byte) (code : Bool)
  /-- `WARM_N_RELEASE` (R533): WARM_N rises after a package warm reset and the boot starts. -/
  | warmNRelease
  /-- `SECTOR_RESET_DONE` (R530): A sector reset, whether written, automatic or caused by a scan dump, completes within 100 us and the sector resumes traffic. -/
  | sectorResetDone (die : Fin 2) (sector : Fin 8)
  /-- `DIE_RESET_DONE` (R530): A die warm reset completes within 20 ms and the die's data path returns to service. -/
  | dieResetDone (die : Fin 2)
  /-- `D2D_RETRAIN_DONE` (R559): The D2D link completes its retraining within 4 us and the traffic waiting at both dies resumes. -/
  | d2dRetrainDone
  /-- `RX_FRAME_COUNTER` (R328): While no frames are received on a fabric lane in LOS, the receiver's own frame counter times each cell slot every 165.12 ns and delivers it as an AIS cell. -/
  | rxFrameCounter (lane : FabricLane)
  /-- `MATE_CRC_ERROR` (R463): A mate message arrives with a wrong CRC or an unknown TYPE and is discarded, counted in MATE_CRC_ERRORS and raises E-9108. -/
  | mateCrcError
  /-- `JABBER_CARRIER_STOP` (R440): The carrier of another station's jabber stops and the device stops ignoring the Coica bus. -/
  | jabberCarrierStop
deriving DecidableEq, Repr

end Sys2Proof
end

