-- ==== Sys2Proof/Decode.lean ====
section
/-! DEFINITION. The commands as words. Every row of spec/opcode_table.json has zero bits: the block has no instruction encoding,
its commands are accesses, frames, messages and events, so no word spells a command. -/

namespace Sys2Proof

/-- The command that a word of the table's bits spells: none, since the table gives no row any bits. -/
def decodeTableWord (_nbits _w : Nat) : Option Instr := none

end Sys2Proof
end

