-- ==== Sys2Proof/Config.lean ====
section
/-! DEFINITION. What an implementation fixes and the values the spec leaves open. Each constant is opaque: no proof can see
its value, so a statement holds whatever it is. -/

namespace Sys2Proof

/-- A fresh open value each time it is applied to the state's counter of open values (true random bytes of R522, values the
spec states no result for). Log entry 2. -/
opaque Config.freeValue : Nat → Nat

/-- Whether a signature over a message verifies under a public key (R516, R524, R539): the spec names the algorithms and
leaves their mathematics to their standards. Arguments: key, message, signature. Log entry 4. -/
opaque Config.signatureValid : Nat → List Byte → List Byte → Bool

/-- SHA-384 of a message, as a number (R515, R519): left to its standard. Log entry 4. -/
opaque Config.sha384 : List Byte → Nat

/-- Strap-given Coica station address, from 1 to 126 (R441). Log entry 5. -/
opaque Config.strapAddress : Fin 126

/-- Value of an object whose table states no default and that names a property of the part or of its firmware image
(R547): the Starter version, serial number before fusing and the like, by object key. Log entry 5. -/
opaque Config.partValue : Nat → Nat

/-- Source address of the MAC control frames a line port generates (R279): the spec states none. Log entry 21. -/
opaque Config.portMac : Nat → Nat

/-- STATION_ADDR of the partner device, which no message of the pair carries (R481, R482). Log entry 27. -/
opaque Config.partnerStation : Nat

/-- SHA-384 of Malryn's vendor public key, held in the Starter ROM (R515). Log entry 4. -/
opaque Config.vendorKey : Nat

/-- The 384-bit UDS in the fuses (R513, R518): made of what this device drew as it fused it, or none for the factory's. Log entry 4. -/
opaque Config.uds : Option Nat → Nat

/-- HMAC-SHA-384 of a message under a key (R518): left to its standard. Log entry 4. -/
opaque Config.hmacSha384 : Nat → List Byte → Nat

/-- Private key of the P-384 pair that HKDF-SHA-384 derives from a secret with an info string (R518), and its public key. Log entry 4. -/
opaque Config.deriveKey : Nat → List Byte → Nat
opaque Config.publicKey : Nat → Nat

/-- What an X.509 alias certificate says of an alias public key, and an ECDSA signature of a private key over bytes (R518): left to their
standards. Log entry 4. -/
opaque Config.certificateBody : Nat → List Byte
opaque Config.sign : Nat → List Byte → Nat

/-- Bytes of the signed header of the stage loader (false) or of the main firmware (true) among the bytes of a slot, by offset (R518).
Log entry 33. -/
opaque Config.headerBytes : Bool → List (Nat × Nat) → List Byte

/-- What the signed header of a firmware image says (R516, R542) and whether its signature and its body's hash are right: the spec
names the fields and gives no layout of the header. Log entry 33. -/
structure ImageHeader where
  /-- SHA-384 of its public key. -/
  keyHash : Nat
  svn : Nat
  version : Nat
  build : Nat
  /-- Pantry format it writes, and the oldest it reads. -/
  format : Nat
  oldest : Nat
  signed : Bool
  bodyOk : Bool
deriving DecidableEq, Repr, Inhabited

/-- The header of the stage loader (false) or of the main firmware (true) among the bytes of a slot, by offset. Log entry 33. -/
opaque Config.imageHeader : Bool → List (Nat × Nat) → ImageHeader

end Sys2Proof
end

