-- ==== Sys2Proof/Machine/Bits.lean ====
section
/-! DEFINITION. Bit fields, two's complement, byte order and cyclic redundancy checks over natural numbers and bytes
(R19, R368, R373, R384; the polynomials of R77, R294, R463 and R539 are given where they are used). -/

namespace Sys2Proof.Machine

/-- Bits [lo + w - 1 : lo] of `x`. -/
def bits (x lo w : Nat) : Nat := x / 2 ^ lo % 2 ^ w

/-- `x` with bits [lo + w - 1 : lo] replaced by the low `w` bits of `v`. -/
def setBits (x lo w v : Nat) : Nat :=
  x % 2 ^ lo + (v % 2 ^ w) * 2 ^ lo + (x / 2 ^ (lo + w)) * 2 ^ (lo + w)

/-- Bit `k` of `x`. -/
def bit (x k : Nat) : Bool := x.testBit k

/-- 1 for true, 0 for false (a BOOL object, R368). -/
def ofBool (b : Bool) : Nat := if b then 1 else 0

/-- A field of a bit layout: its lowest bit and its width. -/
structure Field where
  lo : Nat
  width : Nat
deriving DecidableEq, Repr

/-- The field's value in an image. -/
def Field.get (f : Field) (image : Nat) : Nat := bits image f.lo f.width

/-- The image with the field set. -/
def Field.set (f : Field) (image v : Nat) : Nat := setBits image f.lo f.width v

/-- The field read as a two's complement number. -/
def signed (w x : Nat) : Int := if x % 2 ^ w < 2 ^ (w - 1) then (x % 2 ^ w : Nat) else ((x % 2 ^ w : Nat) : Int) - 2 ^ w

/-- Two's complement encoding in `w` bits. -/
def unsigned (w : Nat) (i : Int) : Nat := (i % (2 ^ w : Int)).toNat

/-- The field's value as a two's complement number. -/
def Field.getS (f : Field) (image : Nat) : Int := signed f.width (f.get image)

/-- The image with the field set to a two's complement number. -/
def Field.setS (f : Field) (image : Nat) (i : Int) : Nat := f.set image (unsigned f.width i)

/-- The byte of a number's low eight bits. -/
def toByte (n : Nat) : Byte := BitVec.ofNat 8 n

/-- Most significant byte first (jobs, Coica, mate messages, R373). -/
def natBE (l : List Byte) : Nat := l.foldl (fun a b => a * 256 + b.toNat) 0

/-- Least significant byte first (the PCIe window, R373). -/
def natLE : List Byte → Nat
  | [] => 0
  | b :: t => b.toNat + 256 * natLE t

/-- `n` bytes of `x`, least significant first. -/
def bytesLE : Nat → Nat → List Byte
  | 0, _ => []
  | n + 1, x => toByte x :: bytesLE n (x / 256)

/-- `n` bytes of `x`, most significant first. -/
def bytesBE (n x : Nat) : List Byte := (bytesLE n x).reverse

/-- Byte `i` of a list, 0 beyond its end. -/
def byteAt (l : List Byte) (i : Nat) : Nat := (l.getD i 0).toNat

/-- The big-endian number in bytes `i` to `i + n - 1`, bytes beyond the end reading 0. -/
def wordAt (l : List Byte) (i n : Nat) : Nat := (List.range n).foldl (fun a k => a * 256 + byteAt l (i + k)) 0

/-- The list with the `n` bytes from `i` replaced by the big-endian bytes of `v`. -/
def putAt (l : List Byte) (i n v : Nat) : List Byte := l.take i ++ bytesBE n v ++ l.drop (i + n)

/-- Number of 1 bits among the low `w` bits. -/
def popCount (w x : Nat) : Nat := (List.range w).foldl (fun a k => a + ofBool (x.testBit k)) 0

/-- Lowest `k < w` with bit `k` of `x` set. -/
def lowestBit (w x : Nat) : Option Nat := (List.range w).find? fun k => x.testBit k

/-- Highest `k < w` with bit `k` of `x` set. -/
def highestBit (w x : Nat) : Option Nat := (List.range w).reverse.find? fun k => x.testBit k

/-- Division rounded up. -/
def ceilDiv (a b : Nat) : Nat := (a + b - 1) / b

/-- One bit of a cyclic redundancy check of `w` bits, most significant bit first. -/
def crcBit (w poly c : Nat) (b : Bool) : Nat :=
  let top := c.testBit (w - 1)
  let c2 := c * 2 % 2 ^ w
  if top != b then Nat.xor c2 poly else c2

/-- One byte, most significant bit first. -/
def crcByte (w poly c : Nat) (b : Byte) : Nat :=
  [7, 6, 5, 4, 3, 2, 1, 0].foldl (fun c k => crcBit w poly c (b.getLsbD k)) c

/-- A check without reflection. -/
def crc (w poly init : Nat) (l : List Byte) : Nat := l.foldl (crcByte w poly) init

/-- One bit of a reflected check (`rpoly` is the reversed polynomial). -/
def crcRBit (rpoly c : Nat) (b : Bool) : Nat :=
  let c2 := c / 2
  if c.testBit 0 != b then Nat.xor c2 rpoly else c2

/-- One byte of a reflected check, least significant bit first. -/
def crcRByte (rpoly c : Nat) (b : Byte) : Nat :=
  [0, 1, 2, 3, 4, 5, 6, 7].foldl (fun c k => crcRBit rpoly c (b.getLsbD k)) c

/-- A reflected check. -/
def crcR (rpoly init : Nat) (l : List Byte) : Nat := l.foldl (crcRByte rpoly) init

/-- CRC-32 of IEEE 802.3 (R384, R463, R538). -/
def crc32 (l : List Byte) : Nat := Nat.xor (crcR 0xEDB88320 0xFFFFFFFF l) 0xFFFFFFFF

/-- A list with element `i` replaced; unchanged when there is none. -/
def setAt {α : Type} (l : List α) (i : Nat) (a : α) : List α := l.set i a

/-- Counter of `w` bits that wraps. -/
def wrapAdd (w a b : Nat) : Nat := (a + b) % 2 ^ w

/-- Counter of `w` bits that saturates. -/
def satAdd (w a b : Nat) : Nat := min (a + b) (2 ^ w - 1)

end Sys2Proof.Machine
end

