-- ==== Sys2Proof/Machine/ParseDefault.lean ====
section
/-! DEFINITION. The default parse graph, the two tables of R590 entry by entry (every field the tables do not show is 0),
laid out by R49 and R51. -/

namespace Sys2Proof.Machine

/-- State fields of R590's first table, in its column order: LEN_BASE, LEN_OFF, LEN_MASK, LEN_SHIFT, LEN_MULT, MIN_LEN,
SEL_A_OFF, SEL_B_OFF, SEL_B_END, MAX_REPEAT, TRANS_BASE, TRANS_COUNT, DEFAULT_KIND; HDR_TYPE is the state number,
PARTIAL_OK is 1 in state 3 only and CHECK_CSUM in state 5 only. -/
def parseStateImage (state : Nat) (c : List Nat) : Nat :=
  let g := fun i => c.getD i 0
  2 ^ 255 + state * 2 ^ 249 + ofBool (state == 3) * 2 ^ 248 + ofBool (state == 5) * 2 ^ 247 + g 0 * 2 ^ 232 +
    g 1 * 2 ^ 226 + g 2 * 2 ^ 218 + g 3 * 2 ^ 215 + g 4 * 2 ^ 212 + g 5 * 2 ^ 204 + g 6 * 2 ^ 198 + g 7 * 2 ^ 192 +
    g 8 * 2 ^ 191 + g 9 * 2 ^ 187 + g 10 * 2 ^ 176 + g 11 * 2 ^ 172 + g 12 * 2 ^ 170

/-- The states of R590's first table with VALID 1. -/
def parseDefaultStates : List (Nat × List Nat) := [
  (0, [14, 0, 0, 0, 0, 0, 12, 0, 0, 0, 0, 8, 1]),
  (1, [4, 0, 0, 0, 0, 0, 2, 0, 0, 2, 0, 8, 1]),
  (2, [4, 0, 0, 0, 0, 0, 2, 0, 0, 0, 0, 8, 1]),
  (3, [4, 0, 0, 0, 0, 0, 2, 4, 0, 8, 8, 4, 1]),
  (4, [4, 0, 0, 0, 0, 0, 0, 0, 0, 0, 0, 0, 1]),
  (5, [0, 0, 15, 0, 2, 20, 8, 0, 0, 0, 12, 3, 1]),
  (6, [40, 0, 0, 0, 0, 40, 6, 0, 0, 0, 16, 7, 1]),
  (7, [8, 1, 255, 0, 3, 0, 0, 0, 0, 0, 16, 7, 1]),
  (8, [8, 1, 255, 0, 3, 0, 0, 0, 0, 0, 16, 7, 1]),
  (9, [8, 0, 0, 0, 0, 0, 0, 0, 0, 0, 0, 0, 1]),
  (10, [8, 1, 255, 0, 3, 0, 0, 0, 0, 0, 24, 4, 1]),
  (12, [8, 0, 0, 0, 0, 0, 2, 0, 0, 0, 59, 5, 1]),
  (13, [0, 12, 240, 4, 2, 20, 0, 0, 0, 0, 0, 0, 1]),
  (14, [8, 0, 0, 0, 0, 0, 0, 0, 0, 0, 0, 0, 0]),
  (15, [8, 0, 0, 0, 0, 0, 0, 8, 0, 0, 28, 5, 1]),
  (16, [4, 0, 0, 0, 0, 0, 0, 1, 1, 0, 33, 4, 1]),
  (17, [0, 0, 255, 0, 2, 4, 0, 1, 1, 4, 33, 4, 1]),
  (18, [8, 0, 0, 0, 0, 0, 0, 0, 0, 0, 37, 1, 1]),
  (19, [4, 0, 0, 0, 0, 0, 0, 0, 0, 0, 0, 0, 1]),
  (20, [4, 0, 0, 0, 0, 0, 0, 0, 0, 0, 0, 0, 1]),
  (21, [34, 0, 0, 0, 0, 0, 0, 0, 0, 0, 0, 0, 1])]

/-- The transitions of R590's second table: number, VALUE, MASK, KIND, NEXT, VALID. -/
def parseDefaultTransitions : List (Nat × Nat × Nat × Nat × Nat × Nat) := [
  (0, 0x81000000, 0xFFFF0000, 0, 1, 1),
  (1, 0x88A80000, 0xFFFF0000, 0, 2, 1),
  (2, 0x88470000, 0xFFFF0000, 0, 3, 1),
  (3, 0x88480000, 0xFFFF0000, 0, 3, 1),
  (4, 0x08000000, 0xFFFF0000, 0, 5, 1),
  (5, 0x86DD0000, 0xFFFF0000, 0, 6, 1),
  (6, 0xAEFE0000, 0xFFFF0000, 0, 18, 1),
  (7, 0x88F70000, 0xFFFF0000, 0, 21, 1),
  (8, 0x00000000, 0x01000000, 0, 3, 1),
  (9, 0x01004000, 0x0100F000, 0, 5, 1),
  (10, 0x01006000, 0x0100F000, 0, 6, 1),
  (11, 0x01000000, 0x0100F000, 0, 4, 1),
  (12, 0x00110000, 0x00FF0000, 0, 12, 1),
  (13, 0x00060000, 0x00FF0000, 0, 13, 1),
  (14, 0x00010000, 0x00FF0000, 0, 20, 1),
  (16, 0x00000000, 0xFF000000, 0, 7, 1),
  (17, 0x3C000000, 0xFF000000, 0, 8, 1),
  (18, 0x2C000000, 0xFF000000, 0, 9, 1),
  (19, 0x2B000000, 0xFF000000, 0, 10, 1),
  (20, 0x11000000, 0xFF000000, 0, 12, 1),
  (21, 0x06000000, 0xFF000000, 0, 13, 1),
  (22, 0x3A000000, 0xFF000000, 0, 20, 1),
  (24, 0x11000000, 0xFF000000, 0, 12, 1),
  (25, 0x06000000, 0xFF000000, 0, 13, 1),
  (26, 0x3A000000, 0xFF000000, 0, 20, 1),
  (27, 0x3C000000, 0xFF000000, 0, 8, 1),
  (28, 0x04000000, 0x04000000, 0, 16, 1),
  (29, 0x02000000, 0x02000000, 0, 16, 1),
  (30, 0x01000000, 0x01000000, 0, 16, 1),
  (31, 0x00FF4000, 0x00FFF000, 0, 5, 1),
  (32, 0x00FF6000, 0x00FFF000, 0, 6, 1),
  (33, 0x00000040, 0x0000FFF0, 0, 5, 1),
  (34, 0x00000060, 0x0000FFF0, 0, 6, 1),
  (35, 0x00000000, 0x0000FF00, 1, 0, 1),
  (36, 0x00000000, 0x00000000, 0, 17, 1),
  (37, 0x00000000, 0x00FF0000, 0, 19, 1),
  (59, 0x08680000, 0xFFFF0000, 0, 15, 1),
  (60, 0x12B50000, 0xFFFF0000, 0, 14, 1),
  (61, 0x013F0000, 0xFFFF0000, 0, 21, 1),
  (62, 0x01400000, 0xFFFF0000, 0, 21, 1),
  (63, 0x00000000, 0xFFFF0000, 0, 18, 0)]

/-- Image of default state `i` of a bank (R590; a state the table gives VALID 0 or does not list is 0). -/
def parseDefaultState (i : Nat) : Nat :=
  match parseDefaultStates.find? fun p => Nat.beq p.1 i with
  | some p => parseStateImage p.1 p.2
  | none => 0

/-- Image of default transition `i` of a bank (R590). -/
def parseDefaultTransition (i : Nat) : Nat :=
  match parseDefaultTransitions.find? fun p => Nat.beq p.1 i with
  | some (_, v, m, k, n, ok) => v * 2 ^ 96 + m * 2 ^ 64 + ok * 2 ^ 63 + k * 2 ^ 61 + n * 2 ^ 53
  | none => 0

end Sys2Proof.Machine
end

