-- ==== Sys2Proof/Machine/Domains.lean ====
section
/-! DEFINITION. The bit layouts of the spec (Bits | Field | Access | Default | Meaning) as fields, and the catalogue of
DOMAIN objects (R379, R380): entry counts, widths, writable and reserved bits, defaults. -/

namespace Sys2Proof.Machine

namespace Fld

/-- R4, bits [15:15]: 0 = F, 1 = T. -/
abbrev UID_DIE : Field := ⟨15, 1⟩
/-- R4, bits [14:11]: 0–7 = FS0–FS7 or TS0–TS7; 8 = AON; 9 = MGMT; 10 = D2D; 11 = HBM; 12–15 reserved. -/
abbrev UID_SECTOR : Field := ⟨11, 4⟩
/-- R4, bits [10:6]: Cluster number from 0 to 31. -/
abbrev UID_CLUSTER : Field := ⟨6, 5⟩
/-- R4, bits [5:0]: Unit number from 0 to 63. -/
abbrev UID_UNIT : Field := ⟨0, 6⟩
/-- R35, bits [127:127]: 1 = entry armed. -/
abbrev AIR_VALID : Field := ⟨127, 1⟩
/-- R35, bits [126:125]: Air clock AC0 to AC3. -/
abbrev AIR_CLOCK : Field := ⟨125, 2⟩
/-- R35, bits [119:112]: Action code. -/
abbrev AIR_ACTION : Field := ⟨112, 8⟩
/-- R35, bits [111:96]: Period in slots, from 1 to 65,535. -/
abbrev AIR_PERIOD : Field := ⟨96, 16⟩
/-- R35, bits [95:80]: Slot phase, from 0 to PERIOD − 1. -/
abbrev AIR_PHASE : Field := ⟨80, 16⟩
/-- R35, bits [79:76]: Symbol from 0 to 13. -/
abbrev AIR_SYMBOL : Field := ⟨76, 4⟩
/-- R35, bits [63:32]: Signed offset in ns, from −1,000,000 to +1,000,000. -/
abbrev AIR_OFFSET : Field := ⟨32, 32⟩
/-- R35, bits [31:16]: Target, per action. -/
abbrev AIR_TARGET : Field := ⟨16, 16⟩
/-- R35, bits [15:0]: Argument, per action. -/
abbrev AIR_ARG : Field := ⟨0, 16⟩
/-- R49, bits [255:255]: 1 = state usable. -/
abbrev PG_VALID : Field := ⟨255, 1⟩
/-- R49, bits [254:249]: Header type: from 0 to 31 standard (built-in extraction), from 32 to 63 user-defined. -/
abbrev PG_HDR_TYPE : Field := ⟨249, 6⟩
/-- R49, bits [248:248]: 1 = a DEPTH, STACK or REPEAT limit reached at this state ends the walk as a partial accept. -/
abbrev PG_PARTIAL_OK : Field := ⟨248, 1⟩
/-- R49, bits [247:247]: 1 = verify the IPv4 header checksum; honoured only for HDR_TYPE 5. -/
abbrev PG_CHECK_CSUM : Field := ⟨247, 1⟩
/-- R49, bits [239:232]: Fixed part of the header length in bytes. -/
abbrev PG_LEN_BASE : Field := ⟨232, 8⟩
/-- R49, bits [231:226]: Offset from 0 to 63 of the length byte within the header. -/
abbrev PG_LEN_OFF : Field := ⟨226, 6⟩
/-- R49, bits [225:218]: Mask applied to the length byte. -/
abbrev PG_LEN_MASK : Field := ⟨218, 8⟩
/-- R49, bits [217:215]: Right shift from 0 to 7 after masking. -/
abbrev PG_LEN_SHIFT : Field := ⟨215, 3⟩
/-- R49, bits [214:212]: Left shift from 0 to 7, that is a multiplier of 2^LEN_MULT. -/
abbrev PG_LEN_MULT : Field := ⟨212, 3⟩
/-- R49, bits [211:204]: Least acceptable header length in bytes. -/
abbrev PG_MIN_LEN : Field := ⟨204, 8⟩
/-- R49, bits [203:198]: Offset of the 16-bit select window A from the header start. -/
abbrev PG_SEL_A_OFF : Field := ⟨198, 6⟩
/-- R49, bits [197:192]: Offset of the 16-bit select window B. -/
abbrev PG_SEL_B_OFF : Field := ⟨192, 6⟩
/-- R49, bits [191:191]: 0 = window B starts at SEL_B_OFF; 1 = window B starts at header length − SEL_B_OFF. -/
abbrev PG_SEL_B_END : Field := ⟨191, 1⟩
/-- R49, bits [190:187]: Consecutive visits to this state allowed, from 1 to 15; 0 = no limit. -/
abbrev PG_MAX_REPEAT : Field := ⟨187, 4⟩
/-- R49, bits [186:176]: First transition entry, from 0 to 2,047. -/
abbrev PG_TRANS_BASE : Field := ⟨176, 11⟩
/-- R49, bits [175:172]: Transitions from 0 to 8. -/
abbrev PG_TRANS_COUNT : Field := ⟨172, 4⟩
/-- R49, bits [171:170]: When no transition matches: 0 = go to DEFAULT_NEXT, 1 = accept, 2 = fail UNKNOWN, 3 reserved. -/
abbrev PG_DEFAULT_KIND : Field := ⟨170, 2⟩
/-- R49, bits [169:162]: Next state for DEFAULT_KIND 0. -/
abbrev PG_DEFAULT_NEXT : Field := ⟨162, 8⟩
/-- R49, bits [159:0]: Five extraction words of 32 bits for user-defined types; reserved for standard types. -/
abbrev PG_EXTRACT : Field := ⟨0, 160⟩
/-- R51, bits [127:96]: Compared with the select value. -/
abbrev PT_VALUE : Field := ⟨96, 32⟩
/-- R51, bits [95:64]: Bits that take part in the comparison. -/
abbrev PT_MASK : Field := ⟨64, 32⟩
/-- R51, bits [63:63]: 1 = entry takes part. -/
abbrev PT_VALID : Field := ⟨63, 1⟩
/-- R51, bits [62:61]: 0 = go to NEXT, 1 = accept, 2 = fail UNKNOWN, 3 reserved. -/
abbrev PT_KIND : Field := ⟨61, 2⟩
/-- R51, bits [60:53]: Next state for KIND 0. -/
abbrev PT_NEXT : Field := ⟨53, 8⟩
/-- R66, bits [127:126]: 0 = invalid, 1 = cut, 2 = leaf, 3 reserved. -/
abbrev CN_KIND : Field := ⟨126, 2⟩
/-- R66, bits [125:117]: Cut: lowest key bit tested, from 0 to 351. -/
abbrev CN_KEY_BIT : Field := ⟨117, 9⟩
/-- R66, bits [116:114]: Cut: bits tested minus 1, so from 1 to 8 bits. -/
abbrev CN_NBITS : Field := ⟨114, 3⟩
/-- R66, bits [113:96]: Cut: node index of child 0; child i is at CHILD_BASE + i. -/
abbrev CN_CHILD_BASE : Field := ⟨96, 18⟩
/-- R66, bits [125:122]: Leaf: rules from 0 to 8. -/
abbrev CN_COUNT : Field := ⟨122, 4⟩
/-- R66, bits [121:105]: Leaf: first rule slot; the leaf's rules are consecutive. -/
abbrev CN_RULE_BASE : Field := ⟨105, 17⟩
/-- R67, bits [767:448]: Compared with key bits [319:0]. -/
abbrev CR_VALUE : Field := ⟨448, 320⟩
/-- R67, bits [447:128]: Key bits that take part. -/
abbrev CR_MASK : Field := ⟨128, 320⟩
/-- R67, bits [127:112]: Lowest source port matched. -/
abbrev CR_SPORT_LO : Field := ⟨112, 16⟩
/-- R67, bits [111:96]: Highest source port matched. -/
abbrev CR_SPORT_HI : Field := ⟨96, 16⟩
/-- R67, bits [95:80]: Lowest destination port matched. -/
abbrev CR_DPORT_LO : Field := ⟨80, 16⟩
/-- R67, bits [79:64]: Highest destination port matched. -/
abbrev CR_DPORT_HI : Field := ⟨64, 16⟩
/-- R67, bits [63:48]: Larger value wins. -/
abbrev CR_PRIORITY : Field := ⟨48, 16⟩
/-- R67, bits [47:28]: Rule identity from 0 to 1,048,575; replicas share it. -/
abbrev CR_RULE_ID : Field := ⟨28, 20⟩
/-- R67, bits [27:0]: Action word [27:0], see R72. -/
abbrev CR_ACTION : Field := ⟨0, 28⟩
/-- R72, bits [27:27]: 1 = set class. -/
abbrev ACT_CLASS_EN : Field := ⟨27, 1⟩
/-- R72, bits [26:24]: Class from 0 to 7. -/
abbrev ACT_CLASS : Field := ⟨24, 3⟩
/-- R72, bits [23:23]: 1 = set colour. -/
abbrev ACT_COLOUR_EN : Field := ⟨23, 1⟩
/-- R72, bits [22:21]: 0 = green, 1 = yellow, 2 = red, 3 reserved. -/
abbrev ACT_COLOUR : Field := ⟨21, 2⟩
/-- R72, bits [20:19]: 0 = no selector, 1 = FIXED, 2 = USER_KEY, 3 reserved. -/
abbrev ACT_QSEL_MODE : Field := ⟨19, 2⟩
/-- R72, bits [18:0]: Per mode, see R74. -/
abbrev ACT_QSEL_VALUE : Field := ⟨0, 19⟩
/-- R106, bits [127:127]: Phase bit of the ring lap, as Host Interface and Descriptor Rings states. -/
abbrev LEV_PHASE : Field := ⟨127, 1⟩
/-- R106, bits [126:124]: 0 = LEARNED, 1 = MOVED, 2 = AGED, 3 = EVICTED, 4 = MOVE_DENIED, 5 = PARITY; 6 and 7 reserved. -/
abbrev LEV_KIND : Field := ⟨124, 3⟩
/-- R106, bits [123:120]: Table from 0 to 15. -/
abbrev LEV_TABLE : Field := ⟨120, 4⟩
/-- R106, bits [119:119]: PARITY only: 1 = the key was read with a parity error. -/
abbrev LEV_KEY_BAD : Field := ⟨119, 1⟩
/-- R106, bits [118:96]: Entry index. -/
abbrev LEV_INDEX : Field := ⟨96, 23⟩
/-- R106, bits [95:32]: Narrow: KEY [63:0]. Wide: RESULT in [95:64] and KEY [31:0] in [63:32]. -/
abbrev LEV_KEYINFO : Field := ⟨32, 64⟩
/-- R106, bits [31:0]: Per KIND, as below. -/
abbrev LEV_DATA : Field := ⟨0, 32⟩
/-- R112, bits [127:104]: Most IPv4 routes; 0 = the family total. -/
abbrev VRF_V4_LIMIT : Field := ⟨104, 24⟩
/-- R112, bits [103:80]: Most IPv6 routes; 0 = the family total. -/
abbrev VRF_V6_LIMIT : Field := ⟨80, 24⟩
/-- R112, bits [79:56]: IPv4 routes held. -/
abbrev VRF_V4_COUNT : Field := ⟨56, 24⟩
/-- R112, bits [55:32]: IPv6 routes held. -/
abbrev VRF_V6_COUNT : Field := ⟨32, 24⟩
/-- R588, bits [255:255]: 1 = entry holds a loss. -/
abbrev LL_VALID : Field := ⟨255, 1⟩
/-- R588, bits [251:248]: 4 or 6. -/
abbrev LL_FAMILY : Field := ⟨248, 4⟩
/-- R588, bits [247:240]: Length of the covering prefix. -/
abbrev LL_LENGTH : Field := ⟨240, 8⟩
/-- R588, bits [239:228]: VRF. -/
abbrev LL_VRF : Field := ⟨228, 12⟩
/-- R588, bits [227:204]: Routes lost. -/
abbrev LL_COUNT : Field := ⟨204, 24⟩
/-- R588, bits [203:172]: n, modulo 2^32. -/
abbrev LL_LOSS_NUMBER : Field := ⟨172, 32⟩
/-- R588, bits [127:0]: Covering prefix; an IPv4 prefix in [31:0]. -/
abbrev LL_PREFIX : Field := ⟨0, 128⟩
/-- R139, bits [127:127]: 0 = packets resolving here are dropped and counted in DROPPED. -/
abbrev NH_VALID : Field := ⟨127, 1⟩
/-- R139, bits [123:108]: Destination, R87. -/
abbrev NH_LOCATION : Field := ⟨108, 16⟩
/-- R139, bits [107:96]: Edit template from 0 to 4,095. -/
abbrev NH_TEMPLATE : Field := ⟨96, 12⟩
/-- R139, bits [95:83]: Encapsulation from 0 to 8,191, used if the template sets USE_ENCAP. -/
abbrev NH_ENCAP : Field := ⟨83, 13⟩
/-- R139, bits [79:48]: Per-next-hop value: label, VNI, TEID or SID list, as the template uses it. -/
abbrev NH_EDIT_ARG : Field := ⟨48, 32⟩
/-- R139, bits [47:0]: Destination MAC for L2 rewrite. -/
abbrev NH_DMAC : Field := ⟨0, 48⟩
/-- R149, bits [255:242]: Frame length in bytes; 0 = not yet known. -/
abbrev MD_LENGTH : Field := ⟨242, 14⟩
/-- R149, bits [241:239]: Class from 0 to 7. -/
abbrev MD_CLASS : Field := ⟨239, 3⟩
/-- R149, bits [238:237]: 0 = green, 1 = yellow, 2 = red. -/
abbrev MD_COLOUR : Field := ⟨237, 2⟩
/-- R149, bits [236:235]: 0 = scheduler port, 1 = VOQ; 2 and 3 reserved. -/
abbrev MD_DEST_KIND : Field := ⟨235, 2⟩
/-- R149, bits [234:218]: Scheduler port in [7:0], or VOQ. -/
abbrev MD_DEST : Field := ⟨218, 17⟩
/-- R149, bits [217:200]: Next hop whose template the egress applies. -/
abbrev MD_NEXT_HOP : Field := ⟨200, 18⟩
/-- R149, bits [199:199]: 1 = QUEUE holds a selector. -/
abbrev MD_QSEL_VALID : Field := ⟨199, 1⟩
/-- R149, bits [198:180]: Q(4 × user + bearer). -/
abbrev MD_QUEUE : Field := ⟨180, 19⟩
/-- R149, bits [179:172]: 0 to 127 line ports; 128 host; 129 mate; 130 recirculation. -/
abbrev MD_IN_PORT : Field := ⟨172, 8⟩
/-- R149, bits [171:140]: 32-bit LAG hash. -/
abbrev MD_LAG_HASH : Field := ⟨140, 32⟩
/-- R149, bits [139:124]: ECMP hash [15:0]. -/
abbrev MD_ENTROPY : Field := ⟨124, 16⟩
/-- R149, bits [123:92]: Timebase ns modulo 2^32 at the first byte's arrival. -/
abbrev MD_RX_NS : Field := ⟨92, 32⟩
/-- R149, bits [91:90]: 0 = none, 1 = SWAP, 2 = POP. -/
abbrev MD_LABEL_OP : Field := ⟨90, 2⟩
/-- R149, bits [89:70]: Label for SWAP. -/
abbrev MD_NEW_LABEL : Field := ⟨70, 20⟩
/-- R149, bits [69:62]: Offset of the first header after the last tunnel header; 0 = no tunnel. -/
abbrev MD_STRIP_OFF : Field := ⟨62, 8⟩
/-- R149, bits [61:50]: IN_VRF for the next pass. -/
abbrev MD_RECIRC_VRF : Field := ⟨50, 12⟩
/-- R149, bits [49:48]: Recirculations already made. -/
abbrev MD_PASS : Field := ⟨48, 2⟩
/-- R149, bits [47:40]: Valid when DEST is HP. -/
abbrev MD_TRAP_CODE : Field := ⟨40, 8⟩
/-- R149, bits [39:32]: Offset of the first label or IP header after L2. -/
abbrev MD_L3_OFF : Field := ⟨32, 8⟩
/-- R150, bits [511:511]: 0 = edit error. -/
abbrev TPL_VALID : Field := ⟨511, 1⟩
/-- R150, bits [510:509]: 0 = none; 1 = remove L3_OFF to STRIP_OFF − 1 (GTP-U, keeping L2); 2 = remove 0 to STRIP_OFF − 1 (VXL. -/
abbrev TPL_DECAP : Field := ⟨509, 2⟩
/-- R150, bits [508:508]: Decrement the outermost TTL after decapsulation. -/
abbrev TPL_TTL_DEC : Field := ⟨508, 1⟩
/-- R150, bits [507:507]: Push EDIT_ARG [19:0] as the innermost pushed label. -/
abbrev TPL_PUSH_ARG_LABEL : Field := ⟨507, 1⟩
/-- R150, bits [506:505]: 0 = keep, 1 = strip outer tag, 2 = push tag, 3 = replace outer VID. -/
abbrev TPL_VLAN_OP : Field := ⟨505, 2⟩
/-- R150, bits [504:493]: VID for push or replace. -/
abbrev TPL_VID : Field := ⟨493, 12⟩
/-- R150, bits [492:492]: 1 = PCP is the class. -/
abbrev TPL_PCP_FROM_CLASS : Field := ⟨492, 1⟩
/-- R150, bits [491:489]: PCP otherwise. -/
abbrev TPL_PCP : Field := ⟨489, 3⟩
/-- R150, bits [488:488]: 1 = DMAC from the next hop, SMAC from this template. -/
abbrev TPL_L2_REWRITE : Field := ⟨488, 1⟩
/-- R150, bits [487:440]: Source MAC. -/
abbrev TPL_SMAC : Field := ⟨440, 48⟩
/-- R150, bits [439:426]: Largest frame in bytes after editing, from 64 to 16,000. -/
abbrev TPL_MTU : Field := ⟨426, 14⟩
/-- R150, bits [425:425]: Apply the next hop's encapsulation. -/
abbrev TPL_USE_ENCAP : Field := ⟨425, 1⟩
/-- R151, bits [511:508]: 0 = none, 1 = MPLS, 2 = VXLAN, 3 = GTPU, 4 = SRV6_ENCAP, 5 = SRV6_INSERT. -/
abbrev ENC_KIND : Field := ⟨508, 4⟩
/-- R151, bits [507:507]: 1 = IPv6 outer header for kinds 2 and 3. -/
abbrev ENC_OUTER_V6 : Field := ⟨507, 1⟩
/-- R151, bits [506:506]: GTPU: add a PDU Session Container carrying QFI. -/
abbrev ENC_QFI_EXT : Field := ⟨506, 1⟩
/-- R151, bits [505:502]: MPLS: labels from 0 to 8; SRv6: SIDs from 1 to 6. -/
abbrev ENC_COUNT : Field := ⟨502, 4⟩
/-- R151, bits [501:494]: Outer TTL or label TTL; 0 = copy the inner TTL. -/
abbrev ENC_TTL : Field := ⟨494, 8⟩
/-- R151, bits [493:488]: Outer DSCP, or label TC in [2:0]. -/
abbrev ENC_DSCP : Field := ⟨488, 6⟩
/-- R151, bits [487:487]: 1 = copy from the inner header; for MPLS, TC = class. -/
abbrev ENC_DSCP_COPY : Field := ⟨487, 1⟩
/-- R151, bits [486:481]: QFI for QFI_EXT. -/
abbrev ENC_QFI : Field := ⟨481, 6⟩
/-- R151, bits [479:352]: Outer source address, IPv4 in [383:352]; MPLS: labels 0 to 3, one per 32 bits, label in the top 20. -/
abbrev ENC_OUTER_SA : Field := ⟨352, 128⟩
/-- R151, bits [351:224]: Outer destination; MPLS: labels 4 to 7. -/
abbrev ENC_OUTER_DA : Field := ⟨224, 128⟩
/-- R151, bits [223:208]: 4789 for VXLAN, 2152 for GTP-U. -/
abbrev ENC_UDP_DPORT : Field := ⟨208, 16⟩
/-- R167, bits [127:123]: Quota profile from 0 to 31. -/
abbrev REQ_PROFILE : Field := ⟨123, 5⟩
/-- R167, bits [122:103]: Units charged in region 0. -/
abbrev REQ_OCB_USED : Field := ⟨103, 20⟩
/-- R167, bits [102:86]: Units charged in region 1. -/
abbrev REQ_HC_USED : Field := ⟨86, 17⟩
/-- R167, bits [85:58]: Units charged in region 2. -/
abbrev REQ_HBM_USED : Field := ⟨58, 28⟩
/-- R167, bits [31:0]: Packets of this requester refused for any reason; wraps at 2^32. -/
abbrev REQ_DROPS : Field := ⟨0, 32⟩
/-- R168, bits [7:7]: 1 = the queue is in spill mode. -/
abbrev QBM_SPILL : Field := ⟨7, 1⟩
/-- R168, bits [5:0]: Buffer profile from 0 to 63. -/
abbrev QBM_PROFILE : Field := ⟨0, 6⟩
/-- R214, bits [255:228]: Depth of the latest sample, units. -/
abbrev QS_LAST_DEPTH : Field := ⟨228, 28⟩
/-- R214, bits [227:200]: Least depth since the last read. -/
abbrev QS_MIN_DEPTH : Field := ⟨200, 28⟩
/-- R214, bits [199:172]: Greatest depth since the last read. -/
abbrev QS_MAX_DEPTH : Field := ⟨172, 28⟩
/-- R214, bits [171:156]: Log-coded delay of the latest sample. -/
abbrev QS_LAST_DELAY : Field := ⟨156, 16⟩
/-- R214, bits [155:140]: Least delay code since the last read. -/
abbrev QS_MIN_DELAY : Field := ⟨140, 16⟩
/-- R214, bits [139:124]: Greatest delay code since the last read. -/
abbrev QS_MAX_DELAY : Field := ⟨124, 16⟩
/-- R214, bits [123:92]: Samples since the last read; saturates at 2^32 − 1. -/
abbrev QS_SAMPLES : Field := ⟨92, 32⟩
/-- R216, bits [127:108]: Combined index. -/
abbrev ML_QUEUE : Field := ⟨108, 20⟩
/-- R216, bits [97:96]: Air clock of the firing entry. -/
abbrev ML_CLOCK : Field := ⟨96, 2⟩
/-- R216, bits [95:64]: ABS_SLOT [31:0] of that clock at the instant. -/
abbrev ML_SLOT : Field := ⟨64, 32⟩
/-- R216, bits [63:36]: Depth, units. -/
abbrev ML_DEPTH : Field := ⟨36, 28⟩
/-- R216, bits [35:20]: Log-coded delay, R213. -/
abbrev ML_DELAY : Field := ⟨20, 16⟩
/-- R217, bits [511:448]: Packets admitted. -/
abbrev QC_ENQ_PACKETS : Field := ⟨448, 64⟩
/-- R217, bits [447:384]: LENGTH of admitted packets. -/
abbrev QC_ENQ_BYTES : Field := ⟨384, 64⟩
/-- R217, bits [383:320]: Packets selected: by the egress hierarchy, or sent into the fabric for a VOQ. -/
abbrev QC_DEQ_PACKETS : Field := ⟨320, 64⟩
/-- R217, bits [319:256]: LENGTH of those packets. -/
abbrev QC_DEQ_BYTES : Field := ⟨256, 64⟩
/-- R217, bits [255:192]: Green packets refused for this queue, by R177 or R188. -/
abbrev QC_REFUSED_GREEN : Field := ⟨192, 64⟩
/-- R217, bits [191:128]: Yellow packets refused. -/
abbrev QC_REFUSED_YELLOW : Field := ⟨128, 64⟩
/-- R217, bits [127:64]: Red packets refused. -/
abbrev QC_REFUSED_RED : Field := ⟨64, 64⟩
/-- R217, bits [63:0]: Packets discarded after admission: flush, ECC (R183), bad FCS (R182). -/
abbrev QC_DISCARDED : Field := ⟨0, 64⟩
/-- R218, bits [63:63]: 1 = strict class, R197. -/
abbrev PC_STRICT : Field := ⟨63, 1⟩
/-- R218, bits [62:51]: Quantum in units of 256 bytes, from 64 to 4,095. -/
abbrev PC_QUANTUM : Field := ⟨51, 12⟩
/-- R218, bits [50:32]: Default queue for this class. -/
abbrev PC_DEFAULT_QUEUE : Field := ⟨32, 19⟩
/-- R218, bits [31:31]: 1 = DEFAULT_QUEUE is in use. -/
abbrev PC_DEFAULT_VALID : Field := ⟨31, 1⟩
/-- R218, bits [23:0]: Signed deficit in bytes. -/
abbrev PC_DEFICIT : Field := ⟨0, 24⟩
/-- R219, bits [127:127]: 1 = group in use. -/
abbrev GRP_VALID : Field := ⟨127, 1⟩
/-- R219, bits [126:119]: Scheduler port from 0 to 135. -/
abbrev GRP_PORT : Field := ⟨119, 8⟩
/-- R219, bits [118:116]: Class from 0 to 7. -/
abbrev GRP_CLASS : Field := ⟨116, 3⟩
/-- R219, bits [115:104]: Quantum in units of 256 bytes, from 64 to 4,095. -/
abbrev GRP_QUANTUM : Field := ⟨104, 12⟩
/-- R219, bits [103:80]: Signed deficit in bytes. -/
abbrev GRP_DEFICIT : Field := ⟨80, 24⟩
/-- R219, bits [47:0]: Virtual time. -/
abbrev GRP_V : Field := ⟨0, 48⟩
/-- R220, bits [255:255]: 1 = user in use. -/
abbrev USR_VALID : Field := ⟨255, 1⟩
/-- R220, bits [254:241]: Group from 0 to 16,383. -/
abbrev USR_GROUP : Field := ⟨241, 14⟩
/-- R220, bits [240:225]: W from 1 to 32,768. -/
abbrev USR_WEIGHT : Field := ⟨225, 16⟩
/-- R220, bits [224:213]: m of R198. -/
abbrev USR_INV_MANT : Field := ⟨213, 12⟩
/-- R220, bits [212:209]: e of R198. -/
abbrev USR_INV_EXP : Field := ⟨209, 4⟩
/-- R220, bits [191:144]: Start tag. -/
abbrev USR_S : Field := ⟨144, 48⟩
/-- R220, bits [143:96]: Finish tag. -/
abbrev USR_F : Field := ⟨96, 48⟩
/-- R226, bits [127:127]: 1 = shaper in force; 0 = the node is never held by its shaper. -/
abbrev SN_ENABLE : Field := ⟨127, 1⟩
/-- R226, bits [121:112]: Shaper profile from 0 to 1,023. -/
abbrev SN_PROFILE : Field := ⟨112, 10⟩
/-- R226, bits [111:64]: Signed credit in units of 2^−16 byte. -/
abbrev SN_CREDIT : Field := ⟨64, 48⟩
/-- R226, bits [63:32]: Sending span still to run, in units of 2^−16 shaper step. -/
abbrev SN_SEND_LEFT : Field := ⟨32, 32⟩
/-- R235, bits [127:96]: Committed rate code, R225. -/
abbrev MP_CIR : Field := ⟨96, 32⟩
/-- R235, bits [95:64]: Peak (mode 1) or excess (mode 2) rate code. -/
abbrev MP_PIR_EIR : Field := ⟨64, 32⟩
/-- R235, bits [63:40]: Committed burst in bytes. -/
abbrev MP_CBS : Field := ⟨40, 24⟩
/-- R235, bits [39:16]: Peak or excess burst in bytes. -/
abbrev MP_PBS_EBS : Field := ⟨16, 24⟩
/-- R235, bits [15:14]: 0 = pass, 1 = RFC 2698, 2 = RFC 4115, 3 reserved. -/
abbrev MP_MODE : Field := ⟨14, 2⟩
/-- R235, bits [13:13]: 1 = the colour from classification is the pre-colour. -/
abbrev MP_COLOUR_AWARE : Field := ⟨13, 1⟩
/-- R235, bits [12:12]: Mode 2: committed tokens that overflow CBS refill the excess bucket. -/
abbrev MP_COUPLED : Field := ⟨12, 1⟩
/-- R235, bits [11:11]: 1 = red packets are dropped. -/
abbrev MP_RED_DROP : Field := ⟨11, 1⟩
/-- R235, bits [10:3]: Signed bytes added to the frame length, from −128 to +127. -/
abbrev MP_LEN_ADJ : Field := ⟨3, 8⟩
/-- R236, bits [127:116]: Meter profile from 0 to 4,095. -/
abbrev MT_PROFILE : Field := ⟨116, 12⟩
/-- R236, bits [115:76]: Committed bucket in units of 2^−16 byte. -/
abbrev MT_TC : Field := ⟨76, 40⟩
/-- R236, bits [75:36]: Peak or excess bucket in units of 2^−16 byte. -/
abbrev MT_TP_TE : Field := ⟨36, 40⟩
/-- R236, bits [31:0]: Meter step of the last update, modulo 2^32. -/
abbrev MT_LAST : Field := ⟨0, 32⟩
/-- R240, bits [63:56]: Bit c = 1: class c open during this entry. -/
abbrev GL_GATES : Field := ⟨56, 8⟩
/-- R240, bits [55:48]: End, in symbols from the cycle's anchor symbol, from 0 to 255. -/
abbrev GL_END_SYM : Field := ⟨48, 8⟩
/-- R240, bits [47:28]: Signed adjustment in ns, from −524,288 to +524,287. -/
abbrev GL_END_NS : Field := ⟨28, 20⟩
/-- R294, bits [127:125]: 0 = IDLE, 1 = DATA, 2 = CONTROL, 3 = SCHEDULED, 4 = LINK, 7 = AIS; 5 and 6 reserved. -/
abbrev CELL_TYPE : Field := ⟨125, 3⟩
/-- R294, bits [124:117]: Destination device. -/
abbrev CELL_DEST_DEV : Field := ⟨117, 8⟩
/-- R294, bits [116:109]: Source device. -/
abbrev CELL_SRC_DEV : Field := ⟨109, 8⟩
/-- R294, bits [108:103]: DATA: destination remote port q. -/
abbrev CELL_PORT : Field := ⟨103, 6⟩
/-- R294, bits [102:100]: DATA: class from 0 to 7. -/
abbrev CELL_CLASS : Field := ⟨100, 3⟩
/-- R294, bits [99:98]: DATA: 0 = green, 1 = yellow, 2 = red. -/
abbrev CELL_COLOUR : Field := ⟨98, 2⟩
/-- R294, bits [97:97]: DATA: first cell of a packet. -/
abbrev CELL_FIRST : Field := ⟨97, 1⟩
/-- R294, bits [96:96]: DATA: last cell of a packet. -/
abbrev CELL_LAST : Field := ⟨96, 1⟩
/-- R294, bits [95:95]: DATA: the stream's tag order restarts, see Order and loss. -/
abbrev CELL_RESYNC : Field := ⟨95, 1⟩
/-- R294, bits [94:88]: DATA: cell number within the packet, from 0 to 66. -/
abbrev CELL_CELL_SEQ : Field := ⟨88, 7⟩
/-- R294, bits [87:80]: Payload bytes in use, from 1 to 240. -/
abbrev CELL_VALID_BYTES : Field := ⟨80, 8⟩
/-- R294, bits [79:64]: DATA: packet tag of the stream. -/
abbrev CELL_PKT_TAG : Field := ⟨64, 16⟩
/-- R294, bits [63:52]: SCHEDULED: deterministic flow from 0 to 4,095. -/
abbrev CELL_FLOW : Field := ⟨52, 12⟩
/-- R294, bits [15:0]: CRC-16, polynomial 0x1021, initial value 0xFFFF, no reflection, no final XOR, over header bytes 0 to. -/
abbrev CELL_CHECK : Field := ⟨0, 16⟩
/-- R319, bits [255:208]: Frame alignment word; never scrambled. -/
abbrev CRUST_FAW : Field := ⟨208, 48⟩
/-- R319, bits [205:200]: Frame number within the Loaf, from 0 to 63; increments by 1 modulo 64 in each frame. -/
abbrev CRUST_FRAME_NUM : Field := ⟨200, 6⟩
/-- R319, bits [199:192]: Byte FRAME_NUM of the sender's TRACE_TX. -/
abbrev CRUST_TRACE : Field := ⟨192, 8⟩
/-- R319, bits [191:191]: Alarm indication: the sender forwards content it did not receive. -/
abbrev CRUST_AIS : Field := ⟨191, 1⟩
/-- R319, bits [190:190]: Remote defect indication: the sender is not receiving this lane. -/
abbrev CRUST_RDI : Field := ⟨190, 1⟩
/-- R319, bits [189:189]: Transmit connection-memory page in force for this frame's slots. -/
abbrev CRUST_PAGE : Field := ⟨189, 1⟩
/-- R319, bits [188:188]: 1 = the sender runs this lane as a scheduled lane. -/
abbrev CRUST_SCHED : Field := ⟨188, 1⟩
/-- R319, bits [183:176]: Bit-interleaved parity of the previous frame. -/
abbrev CRUST_BIP8 : Field := ⟨176, 8⟩
/-- R330, bits [63:63]: 1 = slot reserved. -/
abbrev CM_VALID : Field := ⟨63, 1⟩
/-- R330, bits [62:51]: Deterministic flow from 0 to 4,095. -/
abbrev CM_FLOW : Field := ⟨51, 12⟩
/-- R330, bits [50:43]: Destination device; on receive, this device's DEVICE_ID. -/
abbrev CM_DEST_DEV : Field := ⟨43, 8⟩
/-- R330, bits [42:37]: Remote port q at the destination. -/
abbrev CM_DEST_PORT : Field := ⟨37, 6⟩
/-- R342, bits [511:432]: TIME80 start of the bin. -/
abbrev PMH_START : Field := ⟨432, 80⟩
/-- R342, bits [431:431]: 1 = record holds a bin. -/
abbrev PMH_VALID : Field := ⟨431, 1⟩
/-- R342, bits [430:430]: Suspect under R25, R45 or R340. -/
abbrev PMH_SUSPECT : Field := ⟨430, 1⟩
/-- R342, bits [429:429]: 1 = counts final under R341. -/
abbrev PMH_FINAL : Field := ⟨429, 1⟩
/-- R342, bits [427:411]: Errored seconds. -/
abbrev PMH_ES : Field := ⟨411, 17⟩
/-- R342, bits [410:394]: Severely errored seconds. -/
abbrev PMH_SES : Field := ⟨394, 17⟩
/-- R342, bits [393:377]: Unavailable seconds. -/
abbrev PMH_UAS : Field := ⟨377, 17⟩
/-- R342, bits [376:337]: Background block errors. -/
abbrev PMH_BBE : Field := ⟨337, 40⟩
/-- R342, bits [336:281]: Corrected symbols. -/
abbrev PMH_FEC_SYMBOLS : Field := ⟨281, 56⟩
/-- R342, bits [280:233]: Uncorrectable codewords. -/
abbrev PMH_FEC_UNCORR : Field := ⟨233, 48⟩
/-- R342, bits [232:216]: LOS seconds. -/
abbrev PMH_LOS_S : Field := ⟨216, 17⟩
/-- R342, bits [215:199]: LOF seconds. -/
abbrev PMH_LOF_S : Field := ⟨199, 17⟩
/-- R342, bits [198:182]: AIS seconds. -/
abbrev PMH_AIS_S : Field := ⟨182, 17⟩
/-- R342, bits [181:165]: RDI seconds. -/
abbrev PMH_RDI_S : Field := ⟨165, 17⟩
/-- R342, bits [164:148]: TIM seconds. -/
abbrev PMH_TIM_S : Field := ⟨148, 17⟩
/-- R384, bits [511:480]: Marks a Pantry copy. -/
abbrev PAN_MAGIC : Field := ⟨480, 32⟩
/-- R384, bits [479:464]: Record format and dictionary layout that the writing firmware used. -/
abbrev PAN_FORMAT_VERSION : Field := ⟨464, 16⟩
/-- R384, bits [447:416]: Store count; the higher wins under R15. -/
abbrev PAN_SEQUENCE : Field := ⟨416, 32⟩
/-- R384, bits [415:384]: Bytes of records after the header, from 0 to 262,080. -/
abbrev PAN_BODY_BYTES : Field := ⟨384, 32⟩
/-- R384, bits [383:352]: Number of records. -/
abbrev PAN_RECORDS : Field := ⟨352, 32⟩
/-- R384, bits [351:320]: CRC-32 of IEEE 802.3 over the body. -/
abbrev PAN_BODY_CRC : Field := ⟨320, 32⟩
/-- R384, bits [319:240]: TIME80 of the snapshot. -/
abbrev PAN_WRITTEN : Field := ⟨240, 80⟩
/-- R384, bits [239:208]: Build number of the writing firmware. -/
abbrev PAN_FW_BUILD : Field := ⟨208, 32⟩
/-- R384, bits [31:0]: CRC-32 of IEEE 802.3 over header bytes 0 to 59. -/
abbrev PAN_HEADER_CRC : Field := ⟨0, 32⟩
/-- R397, bits [127:127]: R394. -/
abbrev SQE_PHASE : Field := ⟨127, 1⟩
/-- R397, bits [119:112]: Job code, see The job catalogue. -/
abbrev SQE_OPCODE : Field := ⟨112, 8⟩
/-- R397, bits [111:111]: 1 = signal this job's completion at once, see Interrupts. -/
abbrev SQE_INTR : Field := ⟨111, 1⟩
/-- R397, bits [110:110]: 1 = start only after every earlier job of this SQ has completed. -/
abbrev SQE_FENCE : Field := ⟨110, 1⟩
/-- R397, bits [95:64]: Your value, returned in the completion. -/
abbrev SQE_TAG : Field := ⟨64, 32⟩
/-- R397, bits [46:30]: The entry's ring index with lap bit; checked only for pushed copies. -/
abbrev SQE_INDEX : Field := ⟨30, 17⟩
/-- R409, bits [127:127]: R394. -/
abbrev CQE_PHASE : Field := ⟨127, 1⟩
/-- R409, bits [126:119]: R371, or a status of R412. -/
abbrev CQE_STATUS : Field := ⟨119, 8⟩
/-- R409, bits [118:109]: SQ of the job, numbered as the owning function numbers it. -/
abbrev CQE_SQ : Field := ⟨109, 10⟩
/-- R409, bits [95:64]: TAG of the job. -/
abbrev CQE_TAG : Field := ⟨64, 32⟩
/-- R409, bits [63:0]: Return value of the job. -/
abbrev CQE_RETURN : Field := ⟨0, 64⟩
/-- R419, bits [31:31]: 1 = channel in use. -/
abbrev BND_VALID : Field := ⟨31, 1⟩
/-- R419, bits [30:30]: 1 = any master of the classes in [12:8] may send while it holds the channel lock. -/
abbrev BND_SHARED : Field := ⟨30, 1⟩
/-- R419, bits [29:25]: Bit set in the receiver's doorbell when a message is posted. -/
abbrev BND_RX_BIT : Field := ⟨25, 5⟩
/-- R419, bits [24:20]: Bit set in the sender's doorbell on acknowledge or abort. -/
abbrev BND_TX_BIT : Field := ⟨20, 5⟩
/-- R419, bits [15:8]: SHARED 0: sender identity. SHARED 1: class mask, [8] H, [9] V, [10] F, [11] M, [12] S, [15:13] 0. -/
abbrev BND_SENDER : Field := ⟨8, 8⟩
/-- R419, bits [7:0]: Receiver identity. -/
abbrev BND_RECEIVER : Field := ⟨0, 8⟩
/-- R463, bits [255:248]: Message type, R464. -/
abbrev MATE_TYPE : Field := ⟨248, 8⟩
/-- R463, bits [247:240]: Per type. -/
abbrev MATE_FLAGS : Field := ⟨240, 8⟩
/-- R463, bits [239:208]: Sender's epoch. -/
abbrev MATE_EPOCH : Field := ⟨208, 32⟩
/-- R463, bits [207:176]: Cycle number, per type. -/
abbrev MATE_CYCLE : Field := ⟨176, 32⟩
/-- R463, bits [175:112]: Journal sequence, per type. -/
abbrev MATE_SEQ : Field := ⟨112, 64⟩
/-- R463, bits [111:96]: Payload bytes, from 0 to 16,384. -/
abbrev MATE_LENGTH : Field := ⟨96, 16⟩
/-- R463, bits [95:94]: Sender's role code, R467. -/
abbrev MATE_ROLE : Field := ⟨94, 2⟩
/-- R463, bits [31:0]: CRC-32 of IEEE 802.3 over header bytes 0 to 27 and the payload. -/
abbrev MATE_CRC : Field := ⟨0, 32⟩
/-- R481, bits [511:504]: 0 = HEALTHY, 1 = DEGRADED, 2 = UNHEALTHY. -/
abbrev HLT_HEALTH : Field := ⟨504, 8⟩
/-- R481, bits [503:496]: 0 = NONE, 1 = BULK, 2 = SYNCED. -/
abbrev HLT_SYNC : Field := ⟨496, 8⟩
/-- R481, bits [495:464]: R479. -/
abbrev HLT_FAIL_MAP : Field := ⟨464, 32⟩
/-- R481, bits [463:448]: Code of the highest-class event of the last 1 s. -/
abbrev HLT_WORST_EVENT : Field := ⟨448, 16⟩
/-- R481, bits [447:368]: TIME80 of sending. -/
abbrev HLT_SENT_AT : Field := ⟨368, 80⟩
/-- R481, bits [367:336]: Last cycle whose journal is fully applied. -/
abbrev HLT_APPLIED_CYCLE : Field := ⟨336, 32⟩
/-- R481, bits [335:272]: Last SEQ applied. -/
abbrev HLT_APPLIED_SEQ : Field := ⟨272, 64⟩
/-- R481, bits [271:264]: [7] AC0 ENABLE; [1:0] NUMEROLOGY. -/
abbrev HLT_AC0_MODE : Field := ⟨264, 8⟩
/-- R481, bits [263:184]: AC0 EPOCH. -/
abbrev HLT_AC0_EPOCH : Field := ⟨184, 80⟩
/-- R481, bits [183:176]: HOME. -/
abbrev HLT_HOME : Field := ⟨176, 8⟩
/-- R481, bits [175:168]: LEASE_CYCLES. -/
abbrev HLT_LEASE_CYCLES : Field := ⟨168, 8⟩
/-- R481, bits [167:160]: WITNESS_MODE. -/
abbrev HLT_WITNESS_MODE : Field := ⟨160, 8⟩
/-- R555, bits [127:127]: R394. -/
abbrev EVE_PHASE : Field := ⟨127, 1⟩
/-- R555, bits [126:111]: R549. -/
abbrev EVE_CODE : Field := ⟨111, 16⟩
/-- R555, bits [110:95]: Unit identity. -/
abbrev EVE_UNIT : Field := ⟨95, 16⟩
/-- R555, bits [94:79]: Sequence of the record; time is read from the log. -/
abbrev EVE_SEQ : Field := ⟨79, 16⟩
/-- R555, bits [63:0]: Argument. -/
abbrev EVE_ARG : Field := ⟨0, 64⟩
/-- R113, R132 LABEL_TABLE, bits [63:63]: VALID. -/
abbrev LBL_VALID : Field := ⟨63, 1⟩
/-- R113, R132 LABEL_TABLE, bits [62:0]: ACTION. -/
abbrev LBL_ACTION : Field := ⟨0, 63⟩
/-- R140 ECMP_GROUPS, bits [63:63]: VALID. -/
abbrev ECG_VALID : Field := ⟨63, 1⟩
/-- R140 ECMP_GROUPS, bits [50:32]: BASE. -/
abbrev ECG_BASE : Field := ⟨32, 19⟩
/-- R140 ECMP_GROUPS, bits [9:0]: SIZE. -/
abbrev ECG_SIZE : Field := ⟨0, 10⟩
/-- R140 ECMP_MEMBERS, bits [17:0]: NEXT_HOP. -/
abbrev ECM_NEXT_HOP : Field := ⟨0, 18⟩
/-- R141 LAG_GROUPS, bits [63:63]: VALID. -/
abbrev LAG_VALID : Field := ⟨63, 1⟩
/-- R141 LAG_GROUPS, bits [62:62]: AUTO_PRUNE. -/
abbrev LAG_AUTO_PRUNE : Field := ⟨62, 1⟩
/-- R141 LAG_GROUPS, bits [6:0]: COUNT. -/
abbrev LAG_COUNT : Field := ⟨0, 7⟩
/-- R141 LAG_MEMBERS, bits [15:0]: LOCATION. -/
abbrev LGM_LOCATION : Field := ⟨0, 16⟩
/-- R144 MC_GROUPS, bits [63:63]: VALID. -/
abbrev MCG_VALID : Field := ⟨63, 1⟩
/-- R144 MC_GROUPS, bits [49:32]: FIRST. -/
abbrev MCG_FIRST : Field := ⟨32, 18⟩
/-- R144 MC_GROUPS, bits [10:0]: COUNT. -/
abbrev MCG_COUNT : Field := ⟨0, 11⟩
/-- R144 MC_COPIES, bits [63:63]: VALID. -/
abbrev MCC_VALID : Field := ⟨63, 1⟩
/-- R144 MC_COPIES, bits [62:62]: PRUNE. -/
abbrev MCC_PRUNE : Field := ⟨62, 1⟩
/-- R144 MC_COPIES, bits [17:0]: NEXT_HOP. -/
abbrev MCC_NEXT_HOP : Field := ⟨0, 18⟩
/-- R151 SID_LISTS, bits [767:0]: SIDS. -/
abbrev SID_SIDS : Field := ⟨0, 768⟩
/-- R238 METER_COUNTERS, bits [383:320]: GREEN_PACKETS. -/
abbrev MC_GREEN_PACKETS : Field := ⟨320, 64⟩
/-- R238 METER_COUNTERS, bits [319:256]: GREEN_BYTES. -/
abbrev MC_GREEN_BYTES : Field := ⟨256, 64⟩
/-- R238 METER_COUNTERS, bits [255:192]: YELLOW_PACKETS. -/
abbrev MC_YELLOW_PACKETS : Field := ⟨192, 64⟩
/-- R238 METER_COUNTERS, bits [191:128]: YELLOW_BYTES. -/
abbrev MC_YELLOW_BYTES : Field := ⟨128, 64⟩
/-- R238 METER_COUNTERS, bits [127:64]: RED_PACKETS. -/
abbrev MC_RED_PACKETS : Field := ⟨64, 64⟩
/-- R238 METER_COUNTERS, bits [63:0]: RED_BYTES. -/
abbrev MC_RED_BYTES : Field := ⟨0, 64⟩
/-- R221 SAMPLE_ENABLE, bits [63:0]: BITS. -/
abbrev SE_BITS : Field := ⟨0, 64⟩
/-- R215 MARKED_QUEUES, bits [31:31]: VALID. -/
abbrev MQ_VALID : Field := ⟨31, 1⟩
/-- R215 MARKED_QUEUES, bits [19:0]: INDEX. -/
abbrev MQ_INDEX : Field := ⟨0, 20⟩
/-- R221 VOQ_STATE, bits [63:32]: BALANCE. -/
abbrev VS_BALANCE : Field := ⟨32, 32⟩
/-- R221 VOQ_STATE, bits [31:31]: REQUEST. -/
abbrev VS_REQUEST : Field := ⟨31, 1⟩
/-- R251 RECOMP_MAP, bits [5:0]: PROFILE. -/
abbrev RM_PROFILE : Field := ⟨0, 6⟩
/-- R523 AUTH_RESPONSE, bits [511:0]: BYTES. -/
abbrev AR_BYTES : Field := ⟨0, 512⟩
/-- R331 DET_FLOWS, bits [31:29]: CLASS. -/
abbrev DF_CLASS : Field := ⟨29, 3⟩
/-- R331 DET_FLOWS, bits [28:28]: TRANSPARENT. -/
abbrev DF_TRANSPARENT : Field := ⟨28, 1⟩
/-- R353 HBM_HOST_AREA, bits [511:0]: BYTES. -/
abbrev HA_BYTES : Field := ⟨0, 512⟩

end Fld

/-- Generic access of a DOMAIN object, the last column of R380. -/
inductive DomAccess where
  | rw | ro | readResets
deriving DecidableEq, Repr

/-- One row of the catalogue of R380.  `rw` and `ro` are the bits of the entry's RW and RO (or RC) fields: the other bits
are reserved.  `dflt` is the image whose fields hold their defaults. -/
structure DomRow where
  idx : Nat
  name : String
  count : Nat
  bytes : Nat
  access : DomAccess
  rw : Nat
  ro : Nat
  dflt : Nat
deriving DecidableEq, Repr

namespace Dom

/-- `AIR_EVENT_TABLE` (R35): 4096 entries of 16 bytes. -/
abbrev AIR_EVENT_TABLE : Nat := 0x7200
/-- `PARSE_GRAPH` (R49): 512 entries of 32 bytes. -/
abbrev PARSE_GRAPH : Nat := 0x7300
/-- `PARSE_TRANSITIONS` (R51): 4096 entries of 16 bytes. -/
abbrev PARSE_TRANSITIONS : Nat := 0x7301
/-- `CLASS_NODES` (R66): 262144 entries of 16 bytes. -/
abbrev CLASS_NODES : Nat := 0x7310
/-- `CLASS_RULES` (R67): 131072 entries of 96 bytes. -/
abbrev CLASS_RULES : Nat := 0x7311
/-- `VRF_TABLE` (R112): 4096 entries of 16 bytes. -/
abbrev VRF_TABLE : Nat := 0x7330
/-- `LABEL_TABLE` (R113, R132): 1048576 entries of 8 bytes. -/
abbrev LABEL_TABLE : Nat := 0x7333
/-- `LPM_LOSSES` (R588): 256 entries of 32 bytes. -/
abbrev LPM_LOSSES : Nat := 0x7334
/-- `NEXT_HOPS` (R139): 262144 entries of 16 bytes. -/
abbrev NEXT_HOPS : Nat := 0x7340
/-- `ECMP_GROUPS` (R140): 65536 entries of 8 bytes. -/
abbrev ECMP_GROUPS : Nat := 0x7341
/-- `ECMP_MEMBERS` (R140): 524288 entries of 4 bytes. -/
abbrev ECMP_MEMBERS : Nat := 0x7342
/-- `LAG_GROUPS` (R141): 256 entries of 8 bytes. -/
abbrev LAG_GROUPS : Nat := 0x7343
/-- `LAG_MEMBERS` (R141): 16384 entries of 2 bytes. -/
abbrev LAG_MEMBERS : Nat := 0x7344
/-- `MC_GROUPS` (R144): 16384 entries of 8 bytes. -/
abbrev MC_GROUPS : Nat := 0x7345
/-- `MC_COPIES` (R144): 262144 entries of 8 bytes. -/
abbrev MC_COPIES : Nat := 0x7346
/-- `EDIT_TEMPLATES` (R150): 4096 entries of 64 bytes. -/
abbrev EDIT_TEMPLATES : Nat := 0x7347
/-- `ENCAPS` (R151): 8192 entries of 64 bytes. -/
abbrev ENCAPS : Nat := 0x7348
/-- `SID_LISTS` (R151): 4096 entries of 96 bytes. -/
abbrev SID_LISTS : Nat := 0x7349
/-- `METER_PROFILES` (R235): 4096 entries of 16 bytes. -/
abbrev METER_PROFILES : Nat := 0x7350
/-- `METERS` (R236): 262144 entries of 16 bytes. -/
abbrev METERS : Nat := 0x7351
/-- `METER_COUNTERS` (R238): 262144 entries of 48 bytes. -/
abbrev METER_COUNTERS : Nat := 0x7352
/-- `PORT_CLASSES` (R218): 1088 entries of 8 bytes. -/
abbrev PORT_CLASSES : Nat := 0x7401
/-- `GROUPS` (R219): 16384 entries of 16 bytes. -/
abbrev GROUPS : Nat := 0x7402
/-- `USERS` (R220): 131072 entries of 32 bytes. -/
abbrev USERS : Nat := 0x7403
/-- `QUEUE_COUNTERS` (R217): 655360 entries of 64 bytes. -/
abbrev QUEUE_COUNTERS : Nat := 0x7404
/-- `QUEUE_SAMPLES` (R214): 655360 entries of 32 bytes. -/
abbrev QUEUE_SAMPLES : Nat := 0x7405
/-- `SAMPLE_ENABLE` (R221): 10240 entries of 8 bytes. -/
abbrev SAMPLE_ENABLE : Nat := 0x7406
/-- `MARKED_QUEUES` (R215): 4096 entries of 4 bytes. -/
abbrev MARKED_QUEUES : Nat := 0x7407
/-- `MARKED_LOG` (R216): 1048576 entries of 16 bytes. -/
abbrev MARKED_LOG : Nat := 0x7408
/-- `VOQ_STATE` (R221): 131072 entries of 8 bytes. -/
abbrev VOQ_STATE : Nat := 0x7409
/-- `SHAPER_NODES` (R226): 148680 entries of 16 bytes. -/
abbrev SHAPER_NODES : Nat := 0x7410
/-- `GATE_LISTS` (R240): 17408 entries of 8 bytes. -/
abbrev GATE_LISTS : Nat := 0x7411
/-- `RECOMP_MAP` (R251): 655360 entries of 1 bytes. -/
abbrev RECOMP_MAP : Nat := 0x7412
/-- `AUTH_RESPONSE` (R523): 5 entries of 64 bytes. -/
abbrev AUTH_RESPONSE : Nat := 0x7500
/-- `DET_FLOWS` (R331): 4096 entries of 4 bytes. -/
abbrev DET_FLOWS : Nat := 0x7520
/-- `PM_HISTORY` (R342): 5600 entries of 64 bytes. -/
abbrev PM_HISTORY : Nat := 0x7521
/-- `CONN_MEMORY` (R330): 65536 entries of 8 bytes. -/
abbrev CONN_MEMORY : Nat := 0x7522
/-- `REQUESTER_TABLE` (R167): 388 entries of 16 bytes. -/
abbrev REQUESTER_TABLE : Nat := 0x7580
/-- `QUEUE_BUFFER_MAP` (R168): 655360 entries of 1 bytes. -/
abbrev QUEUE_BUFFER_MAP : Nat := 0x7581
/-- `HBM_HOST_AREA` (R353): 266338304 entries of 64 bytes. -/
abbrev HBM_HOST_AREA : Nat := 0x7600

end Dom

/-- The catalogue of R380. -/
def domRows : List DomRow := [
  ⟨0x7200, "AIR_EVENT_TABLE", 4096, 16, .rw,
    0xE0FFFFFFFFFFF000FFFFFFFFFFFFFFFF,
    0x0, 0x1000000000000000000000000⟩,
  ⟨0x7300, "PARSE_GRAPH", 512, 32, .rw,
    0xFF80FFFFFFFFFFFFFFFFFFFCFFFFFFFFFFFFFFFFFFFFFFFFFFFFFFFFFFFFFFFF,
    0x0, 0x0⟩,
  ⟨0x7301, "PARSE_TRANSITIONS", 4096, 16, .rw,
    0xFFFFFFFFFFFFFFFFFFE0000000000000,
    0x0, 0x0⟩,
  ⟨0x7310, "CLASS_NODES", 262144, 16, .rw,
    0xFFFFFFFF000000000000000000000000,
    0x0, 0x0⟩,
  ⟨0x7311, "CLASS_RULES", 131072, 96, .rw,
    0xFFFFFFFFFFFFFFFFFFFFFFFFFFFFFFFFFFFFFFFFFFFFFFFFFFFFFFFFFFFFFFFFFFFFFFFFFFFFFFFFFFFFFFFFFFFFFFFFFFFFFFFFFFFFFFFFFFFFFFFFFFFFFFFFFFFFFFFFFFFFFFFFFFFFFFFFFFFFFFFFFFFFFFFFFFFFFFFFFFFFFFFFFFFFFFFF,
    0x0, 0xFFFF0000FFFF0000000000000000⟩,
  ⟨0x7330, "VRF_TABLE", 4096, 16, .rw,
    0xFFFFFFFFFFFF00000000000000000000,
    0xFFFFFFFFFFFF00000000, 0x0⟩,
  ⟨0x7333, "LABEL_TABLE", 1048576, 8, .rw,
    0xFFFFFFFFFFFFFFFF,
    0x0, 0x0⟩,
  ⟨0x7334, "LPM_LOSSES", 256, 32, .ro,
    0x0,
    0x8FFFFFFFFFFFFFFFFFFFF00000000000FFFFFFFFFFFFFFFFFFFFFFFFFFFFFFFF, 0x0⟩,
  ⟨0x7340, "NEXT_HOPS", 262144, 16, .rw,
    0x8FFFFFFFFFF8FFFFFFFFFFFFFFFFFFFF,
    0x0, 0x0⟩,
  ⟨0x7341, "ECMP_GROUPS", 65536, 8, .rw,
    0x8007FFFF000003FF,
    0x0, 0x0⟩,
  ⟨0x7342, "ECMP_MEMBERS", 524288, 4, .rw,
    0x3FFFF,
    0x0, 0x0⟩,
  ⟨0x7343, "LAG_GROUPS", 256, 8, .rw,
    0xC00000000000007F,
    0x0, 0x0⟩,
  ⟨0x7344, "LAG_MEMBERS", 16384, 2, .rw,
    0xFFFF,
    0x0, 0x0⟩,
  ⟨0x7345, "MC_GROUPS", 16384, 8, .rw,
    0x8003FFFF000007FF,
    0x0, 0x0⟩,
  ⟨0x7346, "MC_COPIES", 262144, 8, .rw,
    0xC00000000003FFFF,
    0x0, 0x0⟩,
  ⟨0x7347, "EDIT_TEMPLATES", 4096, 64, .rw,
    0xFFFFFFFFFFFFFFFFFFFFFE0000000000000000000000000000000000000000000000000000000000000000000000000000000000000000000000000000000000,
    0x0, 0xFA000000000000000000000000000000000000000000000000000000000000000000000000000000000000000000000000000000000000⟩,
  ⟨0x7348, "ENCAPS", 8192, 64, .rw,
    0xFFFFFFFEFFFFFFFFFFFFFFFFFFFFFFFFFFFFFFFFFFFFFFFFFFFFFFFFFFFFFFFFFFFFFFFFFFFF0000000000000000000000000000000000000000000000000000,
    0x0, 0x100000000000000000000000000000000000000000000000000000000000000000000000000000000000000000000000000000000000000000000000000000⟩,
  ⟨0x7349, "SID_LISTS", 4096, 96, .rw,
    0xFFFFFFFFFFFFFFFFFFFFFFFFFFFFFFFFFFFFFFFFFFFFFFFFFFFFFFFFFFFFFFFFFFFFFFFFFFFFFFFFFFFFFFFFFFFFFFFFFFFFFFFFFFFFFFFFFFFFFFFFFFFFFFFFFFFFFFFFFFFFFFFFFFFFFFFFFFFFFFFFFFFFFFFFFFFFFFFFFFFFFFFFFFFFFFFF,
    0x0, 0x0⟩,
  ⟨0x7350, "METER_PROFILES", 4096, 16, .rw,
    0xFFFFFFFFFFFFFFFFFFFFFFFFFFFFFFF8,
    0x0, 0x0⟩,
  ⟨0x7351, "METERS", 262144, 16, .rw,
    0xFFF00000000000000000000000000000,
    0xFFFFFFFFFFFFFFFFFFFF0FFFFFFFF, 0x0⟩,
  ⟨0x7352, "METER_COUNTERS", 262144, 48, .ro,
    0x0,
    0xFFFFFFFFFFFFFFFFFFFFFFFFFFFFFFFFFFFFFFFFFFFFFFFFFFFFFFFFFFFFFFFFFFFFFFFFFFFFFFFFFFFFFFFFFFFFFFFF, 0x0⟩,
  ⟨0x7401, "PORT_CLASSES", 1088, 8, .rw,
    0xFFFFFFFF80000000,
    0xFFFFFF, 0x200000000000000⟩,
  ⟨0x7402, "GROUPS", 16384, 16, .rw,
    0xFFFFFF00000000000000000000000000,
    0xFFFFFF00000000FFFFFFFFFFFF, 0x4000000000000000000000000000⟩,
  ⟨0x7403, "USERS", 131072, 32, .rw,
    0xFFFFFFFE00000000000000000000000000000000000000000000000000000000,
    0x1FFFE0000FFFFFFFFFFFFFFFFFFFFFFFF000000000000000000000000, 0x3001E0000000000000000000000000000000000000000000000000000⟩,
  ⟨0x7404, "QUEUE_COUNTERS", 655360, 64, .ro,
    0x0,
    0xFFFFFFFFFFFFFFFFFFFFFFFFFFFFFFFFFFFFFFFFFFFFFFFFFFFFFFFFFFFFFFFFFFFFFFFFFFFFFFFFFFFFFFFFFFFFFFFFFFFFFFFFFFFFFFFFFFFFFFFFFFFFFFFF, 0x0⟩,
  ⟨0x7405, "QUEUE_SAMPLES", 655360, 32, .readResets,
    0x0,
    0xFFFFFFFFFFFFFFFFFFFFFFFFFFFFFFFFFFFFFFFFF00000000000000000000000, 0xFFFFFFF00000000000FFFF00000000000000000000000000000000000⟩,
  ⟨0x7406, "SAMPLE_ENABLE", 10240, 8, .rw,
    0xFFFFFFFFFFFFFFFF,
    0x0, 0x0⟩,
  ⟨0x7407, "MARKED_QUEUES", 4096, 4, .rw,
    0x800FFFFF,
    0x0, 0x0⟩,
  ⟨0x7408, "MARKED_LOG", 1048576, 16, .ro,
    0x0,
    0xFFFFF003FFFFFFFFFFFFFFFFFFF00000, 0x0⟩,
  ⟨0x7409, "VOQ_STATE", 131072, 8, .ro,
    0x0,
    0xFFFFFFFF80000000, 0x0⟩,
  ⟨0x7410, "SHAPER_NODES", 148680, 16, .rw,
    0x83FF0000000000000000000000000000,
    0xFFFFFFFFFFFFFFFFFFFF00000000, 0x0⟩,
  ⟨0x7411, "GATE_LISTS", 17408, 8, .rw,
    0xFFFFFFFFF0000000,
    0x0, 0xFF00000000000000⟩,
  ⟨0x7412, "RECOMP_MAP", 655360, 1, .rw,
    0x3F,
    0x0, 0x0⟩,
  ⟨0x7500, "AUTH_RESPONSE", 5, 64, .rw,
    0xFFFFFFFFFFFFFFFFFFFFFFFFFFFFFFFFFFFFFFFFFFFFFFFFFFFFFFFFFFFFFFFFFFFFFFFFFFFFFFFFFFFFFFFFFFFFFFFFFFFFFFFFFFFFFFFFFFFFFFFFFFFFFFFF,
    0x0, 0x0⟩,
  ⟨0x7520, "DET_FLOWS", 4096, 4, .rw,
    0xF0000000,
    0x0, 0x0⟩,
  ⟨0x7521, "PM_HISTORY", 5600, 64, .ro,
    0x0,
    0xFFFFFFFFFFFFFFFFFFFFEFFFFFFFFFFFFFFFFFFFFFFFFFFFFFFFFFFFFFFFFFFFFFFFFFFFFFFFFFFFFFFFFFFFFFF0000000000000000000000000000000000000, 0x0⟩,
  ⟨0x7522, "CONN_MEMORY", 65536, 8, .rw,
    0xFFFFFFE000000000,
    0x0, 0x0⟩,
  ⟨0x7580, "REQUESTER_TABLE", 388, 16, .rw,
    0xF8000000000000000000000000000000,
    0x7FFFFFFFFFFFFFFFC000000FFFFFFFF, 0x0⟩,
  ⟨0x7581, "QUEUE_BUFFER_MAP", 655360, 1, .rw,
    0x3F,
    0x80, 0x0⟩,
  ⟨0x7600, "HBM_HOST_AREA", 266338304, 64, .rw,
    0xFFFFFFFFFFFFFFFFFFFFFFFFFFFFFFFFFFFFFFFFFFFFFFFFFFFFFFFFFFFFFFFFFFFFFFFFFFFFFFFFFFFFFFFFFFFFFFFFFFFFFFFFFFFFFFFFFFFFFFFFFFFFFFFF,
    0x0, 0x0⟩]

/-- The row of a DOMAIN index. -/
def domRow (idx : Nat) : Option DomRow := domRows.find? fun r => Nat.beq r.idx idx

/-- Key of one entry of a DOMAIN object in the state. -/
abbrev domKey (idx e : Nat) : Nat := idx * 0x100000000 + e

/-- Image an entry holds that nothing has written: its default (R369), template 0 valid with MTU 16,000 (R150), and the
default parse graph in bank 0 (R59, R590). -/
def domDefault (k : Nat) : Nat :=
  let idx := k / 0x100000000
  let e := k % 0x100000000
  match idx with
  | 0x7300 => if e < 256 then parseDefaultState e else 0
  | 0x7301 => if e < 2048 then parseDefaultTransition e else 0
  | 0x7347 => if e = 0 then Fld.TPL_VALID.set (Fld.TPL_MTU.set 0 16000) 1 else Fld.TPL_MTU.set 0 16000
  | _ =>
    match domRow idx with
    | some r => r.dflt
    | none => 0

end Sys2Proof.Machine
end

