-- ==== Sys2Proof/Machine/Objects.lean ====
section
/-! DEFINITION. The object dictionary as data: every object of the spec's object tables (Subindex | Name | Type | Access |
Default | Meaning), with its key, type, rights per master class, default and range of values.
The rules: R17, R18, R367 to R372 and the object table at the end of each chapter. -/

namespace Sys2Proof.Machine

/-- Types of objects, R17 and R368. -/
inductive Ty where
  | bool | u8 | u16 | u32 | u64 | i32 | i64 | time80
  | str (n : Nat)
deriving DecidableEq, Repr

/-- Bytes of a value, the table of R368. -/
def Ty.bytes : Ty → Nat
  | .bool => 1 | .u8 => 1 | .u16 => 2 | .u32 => 4 | .u64 => 8 | .i32 => 4 | .i64 => 8 | .time80 => 10
  | .str n => n

/-- Access codes, R18. -/
inductive Acc where
  | none | ro | rw | wo | w1c | rc | rwl
deriving DecidableEq, Repr

/-- The rights of one object per master class H, V, F, S, D (R18, R370). A `mailbox` object takes its rights from the
channel's binding (R422). -/
structure Access where
  h : Acc := .none
  v : Acc := .none
  f : Acc := .none
  s : Acc := .none
  d : Acc := .none
  mailbox : Bool := false
deriving DecidableEq, Repr

/-- The values the object's row of its table states as legal (R368); a write of another value is INVALID. -/
inductive Check where
  /-- Every value of the type. -/
  | any
  /-- From `lo` to `hi`, both included. -/
  | rng (lo hi : Nat)
  /-- As `rng`, of a signed type. -/
  | srng (lo hi : Int)
  /-- From `lo` to `hi`, or the one value `or'`. -/
  | rngOr (lo hi or' : Nat)
  /-- One of the listed values. -/
  | oneOf (l : List Nat)
  /-- Bits outside `m` are 0. -/
  | mask (m : Nat)
deriving DecidableEq, Repr

/-- One row of an object table: the subindices `sub` to `sub + count - 1`.  `dflt` is the default: one value, or one per
instance in ascending index order (R369), or none where the table shows a dash (the object reports a current value).
`enable`: a BOOL object whose name ends in ENABLE, restored in the second pass of R386. -/
structure ObjRow where
  sub : Nat
  count : Nat
  name : String
  ty : Ty
  acc : Access
  dflt : List Nat
  chk : Check
  enable : Bool
deriving DecidableEq, Repr

/-- One record of the dictionary: its indices `base` to `last` and its rows (R367). -/
structure ObjRecord where
  base : Nat
  last : Nat
  name : String
  rows : List ObjRow
deriving DecidableEq, Repr

/-- The key of an object: instance (the ring of SQ_CONFIG and CQ_CONFIG, the master of ACCESS_STATUS, the identity of
DOORBELL and of LOG_SELECT; 0 for every other object), index and subindex. -/
abbrev objKey (inst idx sub : Nat) : Nat := inst * 0x1000000 + idx * 0x100 + sub

namespace Rights

/-- F:WO. -/
def aFWO : Access := { f := .wo }
/-- H:RC F:RC. -/
def aHRCFRC : Access := { h := .rc, f := .rc }
/-- H:RC F:RC S:RO. -/
def aHRCFRCSRO : Access := { h := .rc, f := .rc, s := .ro }
/-- H:RC F:RC S:RO D:RO. -/
def aHRCFRCSRODRO : Access := { h := .rc, f := .rc, s := .ro, d := .ro }
/-- H:RO F:RO. -/
def aHROFRO : Access := { h := .ro, f := .ro }
/-- H:RO F:RO S:RO. -/
def aHROFROSRO : Access := { h := .ro, f := .ro, s := .ro }
/-- H:RO F:RO S:RO D:RO. -/
def aHROFROSRODRO : Access := { h := .ro, f := .ro, s := .ro, d := .ro }
/-- H:RO V:RO F:RO. -/
def aHROVROFRO : Access := { h := .ro, v := .ro, f := .ro }
/-- H:RO V:RO F:RO S:RO. -/
def aHROVROFROSRO : Access := { h := .ro, v := .ro, f := .ro, s := .ro }
/-- H:RO V:RO F:RO S:RO D:RO. -/
def aHROVROFROSRODRO : Access := { h := .ro, v := .ro, f := .ro, s := .ro, d := .ro }
/-- H:RW F:RO. -/
def aHRWFRO : Access := { h := .rw, f := .ro }
/-- H:RW F:RO S:RO. -/
def aHRWFROSRO : Access := { h := .rw, f := .ro, s := .ro }
/-- H:RW F:RO S:RO D:RO. -/
def aHRWFROSRODRO : Access := { h := .rw, f := .ro, s := .ro, d := .ro }
/-- H:RW F:RW. -/
def aHRWFRW : Access := { h := .rw, f := .rw }
/-- H:RW F:RW S:RO. -/
def aHRWFRWSRO : Access := { h := .rw, f := .rw, s := .ro }
/-- H:RW F:RW S:RO D:RO. -/
def aHRWFRWSRODRO : Access := { h := .rw, f := .rw, s := .ro, d := .ro }
/-- H:RW F:RW S:RW. -/
def aHRWFRWSRW : Access := { h := .rw, f := .rw, s := .rw }
/-- H:RW F:RW S:RW D:RW. -/
def aHRWFRWSRWDRW : Access := { h := .rw, f := .rw, s := .rw, d := .rw }
/-- H:RWL F:RWL S:RO. -/
def aHRWLFRWLSRO : Access := { h := .rwl, f := .rwl, s := .ro }
/-- H:RWL F:RWL S:RO V:RO D:RO. -/
def aHRWLVROFRWLSRODRO : Access := { h := .rwl, v := .ro, f := .rwl, s := .ro, d := .ro }
/-- H:RW V:RO F:RO. -/
def aHRWVROFRO : Access := { h := .rw, v := .ro, f := .ro }
/-- H:RW V:RW. -/
def aHRWVRW : Access := { h := .rw, v := .rw }
/-- H:RW V:RW F:RW. -/
def aHRWVRWFRW : Access := { h := .rw, v := .rw, f := .rw }
/-- H:RW V:RW F:RW S:RW. -/
def aHRWVRWFRWSRW : Access := { h := .rw, v := .rw, f := .rw, s := .rw }
/-- H:W1C F:W1C S:W1C D:RO. -/
def aHW1CFW1CSW1CDRO : Access := { h := .w1c, f := .w1c, s := .w1c, d := .ro }
/-- H:W1C V:W1C F:W1C S:W1C. -/
def aHW1CVW1CFW1CSW1C : Access := { h := .w1c, v := .w1c, f := .w1c, s := .w1c }
/-- H:WO D:WO. -/
def aHWODWO : Access := { h := .wo, d := .wo }
/-- H:WO F:WO. -/
def aHWOFWO : Access := { h := .wo, f := .wo }
/-- H:WO F:WO S:WO. -/
def aHWOFWOSWO : Access := { h := .wo, f := .wo, s := .wo }
/-- H:WO F:WO S:WO D:WO. -/
def aHWOFWOSWODWO : Access := { h := .wo, f := .wo, s := .wo, d := .wo }
/-- H:WO S:WO. -/
def aHWOSWO : Access := { h := .wo, s := .wo }
/-- S:WO. -/
def aSWO : Access := { s := .wo }
/-- Rights by the binding of the channel, R422. -/
def mbAcc : Access := { mailbox := true }

end Rights

namespace Obj

/-- IDENTITY: Part number. -/
abbrev IDENTITY_PART_NUMBER : Nat := objKey 0 0x1000 0x01
/-- IDENTITY: Stepping. -/
abbrev IDENTITY_STEPPING : Nat := objKey 0 0x1000 0x02
/-- IDENTITY: JTAG IDCODE. -/
abbrev IDENTITY_IDCODE : Nat := objKey 0 0x1000 0x03
/-- IDENTITY: Starter version. -/
abbrev IDENTITY_ROM_VERSION : Nat := objKey 0 0x1000 0x04
/-- IDENTITY: Running stage loader. -/
abbrev IDENTITY_LOADER_VERSION : Nat := objKey 0 0x1000 0x05
/-- IDENTITY: Running main firmware. -/
abbrev IDENTITY_FW_VERSION : Nat := objKey 0 0x1000 0x06
/-- IDENTITY: Its build number. -/
abbrev IDENTITY_FW_BUILD : Nat := objKey 0 0x1000 0x07
/-- IDENTITY: Its SVN. -/
abbrev IDENTITY_FW_SVN : Nat := objKey 0 0x1000 0x08
/-- IDENTITY: 0 = A, 1 = B. -/
abbrev IDENTITY_FW_SLOT : Nat := objKey 0 0x1000 0x09
/-- IDENTITY: R542. -/
abbrev IDENTITY_PANTRY_OLDEST : Nat := objKey 0 0x1000 0x0A
/-- PCIE_LINK: 1 = PCIe link active. -/
abbrev PCIE_LINK_LINK_UP : Nat := objKey 0 0x1100 0x01
/-- PCIE_LINK: GT/s: 1 = 2.5, 2 = 5, 3 = 8, 4 = 16, 5 = 32, 6 = 64. -/
abbrev PCIE_LINK_LINK_SPEED : Nat := objKey 0 0x1100 0x02
/-- PCIE_LINK: Lanes: 1, 2, 4, 8 or 16. -/
abbrev PCIE_LINK_LINK_WIDTH : Nat := objKey 0 0x1100 0x03
/-- PCIE_LINK: 1 = FLIT mode. -/
abbrev PCIE_LINK_FLIT_MODE : Nat := objKey 0 0x1100 0x04
/-- PCIE_LINK: NumVFs set by the host. -/
abbrev PCIE_LINK_VFS_ENABLED : Nat := objKey 0 0x1100 0x05
/-- PCIE_LINK: PCIe link losses. -/
abbrev PCIE_LINK_LINK_DOWNS : Nat := objKey 0 0x1100 0x06
/-- HOST_CTRL: FS sector from 0 to 7 for PIPELINE injection. -/
abbrev HOST_CTRL_INJECT_SECTOR : Nat := objKey 0 0x1101 0x01
/-- HOST_CTRL: [15] valid; [9:0] SQ serving HP class c; BUSY while that SQ is enabled. -/
abbrev HOST_CTRL_HP_RING_C (k : Nat) : Nat := objKey 0 0x1101 (0x02 + k)
/-- HOST_CTRL: R400. -/
abbrev HOST_CTRL_JOBS_IN_FLIGHT : Nat := objKey 0 0x1101 0x0A
/-- HOST_CTRL: R407. -/
abbrev HOST_CTRL_HP_TOOBIG : Nat := objKey 0 0x1101 0x0B
/-- SQ_CONFIG: Ring to access; beyond the master's rings is INVALID. -/
abbrev SQ_CONFIG_SQ_SELECT (m : Nat) : Nat := objKey m 0x1110 0x01
/-- SQ_CONFIG: Host address, 4,096-byte aligned. -/
abbrev SQ_CONFIG_SQ_BASE (m : Nat) : Nat := objKey m 0x1110 0x02
/-- SQ_CONFIG: n, from 4 to 16: 2^n entries. -/
abbrev SQ_CONFIG_SQ_SIZE (m : Nat) : Nat := objKey m 0x1110 0x03
/-- SQ_CONFIG: Bound CQ, numbered by the owning function. -/
abbrev SQ_CONFIG_SQ_CQ (m : Nat) : Nat := objKey m 0x1110 0x04
/-- SQ_CONFIG: From 1 to 255; applies from the next round. -/
abbrev SQ_CONFIG_SQ_WEIGHT (m : Nat) : Nat := objKey m 0x1110 0x05
/-- SQ_CONFIG: From 1 to 64; applies from the next visit. -/
abbrev SQ_CONFIG_SQ_BURST (m : Nat) : Nat := objKey m 0x1110 0x06
/-- SQ_CONFIG: R415. -/
abbrev SQ_CONFIG_SQ_ENABLE (m : Nat) : Nat := objKey m 0x1110 0x07
/-- SQ_CONFIG: 0 = disabled, 1 = running, 2 = stopped by its CQ, 3 = error. -/
abbrev SQ_CONFIG_SQ_STATE (m : Nat) : Nat := objKey m 0x1110 0x08
/-- SQ_CONFIG: Fetch index. -/
abbrev SQ_CONFIG_SQ_HEAD (m : Nat) : Nat := objKey m 0x1110 0x09
/-- SQ_CONFIG: Last accepted tail. -/
abbrev SQ_CONFIG_SQ_TAIL (m : Nat) : Nat := objKey m 0x1110 0x0A
/-- SQ_CONFIG: Jobs completed. -/
abbrev SQ_CONFIG_SQ_JOBS (m : Nat) : Nat := objKey m 0x1110 0x0B
/-- SQ_CONFIG: R398. -/
abbrev SQ_CONFIG_PUSH_USED (m : Nat) : Nat := objKey m 0x1110 0x0C
/-- SQ_CONFIG: R398. -/
abbrev SQ_CONFIG_PUSH_DROPS (m : Nat) : Nat := objKey m 0x1110 0x0D
/-- SQ_CONFIG: R390, R396. -/
abbrev SQ_CONFIG_BAD_DOORBELLS (m : Nat) : Nat := objKey m 0x1110 0x0E
/-- CQ_CONFIG: As SQ_SELECT. -/
abbrev CQ_CONFIG_CQ_SELECT (m : Nat) : Nat := objKey m 0x1111 0x01
/-- CQ_CONFIG: Host address, 4,096-byte aligned. -/
abbrev CQ_CONFIG_CQ_BASE (m : Nat) : Nat := objKey m 0x1111 0x02
/-- CQ_CONFIG: n, from 4 to 16. -/
abbrev CQ_CONFIG_CQ_SIZE (m : Nat) : Nat := objKey m 0x1111 0x03
/-- CQ_CONFIG: Local MSI-X vector; 0xFFFF = none; a number beyond the function's vectors is INVALID. -/
abbrev CQ_CONFIG_CQ_VECTOR (m : Nat) : Nat := objKey m 0x1111 0x04
/-- CQ_CONFIG: From 1 to 255. -/
abbrev CQ_CONFIG_CQ_COAL_COUNT (m : Nat) : Nat := objKey m 0x1111 0x05
/-- CQ_CONFIG: From 0 to 1,000,000. -/
abbrev CQ_CONFIG_CQ_COAL_NS (m : Nat) : Nat := objKey m 0x1111 0x06
/-- CQ_CONFIG: R415. -/
abbrev CQ_CONFIG_CQ_ENABLE (m : Nat) : Nat := objKey m 0x1111 0x07
/-- CQ_CONFIG: 0 = disabled, 1 = running, 2 = full, 3 = error. -/
abbrev CQ_CONFIG_CQ_STATE (m : Nat) : Nat := objKey m 0x1111 0x08
/-- CQ_CONFIG: Last accepted head. -/
abbrev CQ_CONFIG_CQ_HEAD (m : Nat) : Nat := objKey m 0x1111 0x09
/-- CQ_CONFIG: Next index the device writes. -/
abbrev CQ_CONFIG_CQ_TAIL (m : Nat) : Nat := objKey m 0x1111 0x0A
/-- CQ_CONFIG: Entries waiting in the stash. -/
abbrev CQ_CONFIG_CQ_STASH (m : Nat) : Nat := objKey m 0x1111 0x0B
/-- CQ_CONFIG: Entries written. -/
abbrev CQ_CONFIG_CQ_ENTRIES (m : Nat) : Nat := objKey m 0x1111 0x0C
/-- CQ_CONFIG: Times the stash reached 64. -/
abbrev CQ_CONFIG_CQ_FULL_COUNT (m : Nat) : Nat := objKey m 0x1111 0x0D
/-- ACCESS_STATUS: Status of the latest refused window access, R371. -/
abbrev ACCESS_STATUS_LAST_STATUS (m : Nat) : Nat := objKey m 0x1120 0x01
/-- ACCESS_STATUS: [23:8] index, [7:0] subindex of that access; [31:24] 0. -/
abbrev ACCESS_STATUS_LAST_OBJECT (m : Nat) : Nat := objKey m 0x1120 0x02
/-- ACCESS_STATUS: Window accesses ending with a status other than OK. -/
abbrev ACCESS_STATUS_REFUSED (m : Nat) : Nat := objKey m 0x1120 0x03
/-- ACCESS_STATUS: [31] 1 = a slow write is running; [23:0] its index and subindex. -/
abbrev ACCESS_STATUS_PENDING (m : Nat) : Nat := objKey m 0x1120 0x04
/-- VF_RESOURCES: First SQ lent. -/
abbrev VF_RESOURCES_SQ_FIRST (n : Nat) : Nat := objKey 0 (0x1130 + n) 0x01
/-- VF_RESOURCES: From 0 to 128. -/
abbrev VF_RESOURCES_SQ_COUNT (n : Nat) : Nat := objKey 0 (0x1130 + n) 0x02
/-- VF_RESOURCES: First CQ lent. -/
abbrev VF_RESOURCES_CQ_FIRST (n : Nat) : Nat := objKey 0 (0x1130 + n) 0x03
/-- VF_RESOURCES: From 0 to 128. -/
abbrev VF_RESOURCES_CQ_COUNT (n : Nat) : Nat := objKey 0 (0x1130 + n) 0x04
/-- MB_BINDING: Binding of channel MBn at subindex n + 1, laid out as above. -/
abbrev MB_BINDING_BIND_MB (k : Nat) : Nat := objKey 0 0x1150 (0x01 + k)
/-- MAILBOX: Message bytes 16k to 16k + 15 for MSG_k. -/
abbrev MAILBOX_MSG (n : Nat) (k : Nat) : Nat := objKey 0 (0x1160 + n) (0x01 + k)
/-- MAILBOX: 1 = post the message. -/
abbrev MAILBOX_SEND (n : Nat) : Nat := objKey 0 (0x1160 + n) 0x05
/-- MAILBOX: [31] ACK; [30] ABORTED; [29:16] 0; [15:0] RETURN_CODE. -/
abbrev MAILBOX_ACK (n : Nat) : Nat := objKey 0 (0x1160 + n) 0x06
/-- MAILBOX: 0 = EMPTY, 1 = POSTED, 2 = ACKED, 3 = ABORTED. -/
abbrev MAILBOX_STATE (n : Nat) : Nat := objKey 0 (0x1160 + n) 0x07
/-- MAILBOX: Read acquires; see The channel lock. -/
abbrev MAILBOX_LOCK (n : Nat) : Nat := objKey 0 (0x1160 + n) 0x08
/-- MAILBOX: Messages posted. -/
abbrev MAILBOX_POSTS (n : Nat) : Nat := objKey 0 (0x1160 + n) 0x09
/-- DOORBELL: Bit b = 1: an event on bit b is waiting. -/
abbrev DOORBELL_DB_PENDING (m : Nat) : Nat := objKey m 0x11A0 0x01
/-- DOORBELL: Bit b = 1: bit b latches but does not signal. -/
abbrev DOORBELL_DB_MASK (m : Nat) : Nat := objKey m 0x11A0 0x02
/-- DOORBELL: Local MSI-X vector (R391); 0xFFFF = none. -/
abbrev DOORBELL_DB_VECTOR (m : Nat) : Nat := objKey m 0x11A0 0x03
/-- DOORBELL: Signals delivered. -/
abbrev DOORBELL_DB_SIGNALS (m : Nat) : Nat := objKey m 0x11A0 0x04
/-- COICA_STATION: From 1 to 126, R441; writable by H and F in SILENT whatever DICT_LOCK says (R446). -/
abbrev COICA_STATION_STATION_ADDR : Nat := objKey 0 0x11B0 0x01
/-- COICA_STATION: 0 = token station, 1 = polled slave. -/
abbrev COICA_STATION_ROLE : Nat := objKey 0 0x11B0 0x02
/-- COICA_STATION: Supervisor address from 1 to 126. -/
abbrev COICA_STATION_SUPV_ADDR_A : Nat := objKey 0 0x11B0 0x03
/-- COICA_STATION: From 1 to 126; 0 = none. -/
abbrev COICA_STATION_SUPV_ADDR_B : Nat := objKey 0 0x11B0 0x04
/-- COICA_STATION: From 100 to 10,000. -/
abbrev COICA_STATION_TOKEN_HOLD_US : Nat := objKey 0 0x11B0 0x05
/-- COICA_STATION: Visits per window; 0 = never. -/
abbrev COICA_STATION_SOLICIT_EVERY : Nat := objKey 0 0x11B0 0x06
/-- COICA_STATION: From 10 to 10,000. -/
abbrev COICA_STATION_KNOWN_AGE_MS : Nat := objKey 0 0x11B0 0x07
/-- COICA_STATION: Least class sent; 4 = none. -/
abbrev COICA_STATION_EMERG_CLASS : Nat := objKey 0 0x11B0 0x08
/-- COICA_STATION: 0 = LISTEN, 1 = CLAIMING, 2 = IN_RING, 3 = HOLDING, 4 = SLAVE, 5 = SILENT. -/
abbrev COICA_STATION_STATE : Nat := objKey 0 0x11B0 0x09
/-- COICA_STATION: Current successor; 0 = none. -/
abbrev COICA_STATION_SUCCESSOR : Nat := objKey 0 0x11B0 0x0A
/-- COICA_STATION: Bit a = 1: address a known, for a from 0 to 63. -/
abbrev COICA_STATION_KNOWN_LO : Nat := objKey 0 0x11B0 0x0B
/-- COICA_STATION: Bit a − 64 for a from 64 to 127. -/
abbrev COICA_STATION_KNOWN_HI : Nat := objKey 0 0x11B0 0x0C
/-- COICA_STATION: R443. -/
abbrev COICA_STATION_ROTATION_US : Nat := objKey 0 0x11B0 0x0D
/-- COICA_STATS: Frames sent; frames passing R439. -/
abbrev COICA_STATS_FRAMES_TX : Nat := objKey 0 0x11B1 0x01
/-- COICA_STATS: Frames sent; frames passing R439. -/
abbrev COICA_STATS_FRAMES_RX : Nat := objKey 0 0x11B1 0x02
/-- COICA_STATS: R438, R439. -/
abbrev COICA_STATS_CRC_ERRORS : Nat := objKey 0 0x11B1 0x03
/-- COICA_STATS: R438, R439. -/
abbrev COICA_STATS_CODE_ERRORS : Nat := objKey 0 0x11B1 0x04
/-- COICA_STATS: R438, R439. -/
abbrev COICA_STATS_LENGTH_ERRORS : Nat := objKey 0 0x11B1 0x05
/-- COICA_STATS: R440. -/
abbrev COICA_STATS_RX_JABBER : Nat := objKey 0 0x11B1 0x06
/-- COICA_STATS: R440. -/
abbrev COICA_STATS_TX_JABBER : Nat := objKey 0 0x11B1 0x07
/-- COICA_STATS: R445, R446. -/
abbrev COICA_STATS_CLAIMS : Nat := objKey 0 0x11B1 0x08
/-- COICA_STATS: R445, R446. -/
abbrev COICA_STATS_CLAIMS_WON : Nat := objKey 0 0x11B1 0x09
/-- COICA_STATS: R445, R446. -/
abbrev COICA_STATS_DUP_ADDRESS : Nat := objKey 0 0x11B1 0x0A
/-- COICA_STATS: R447, R444. -/
abbrev COICA_STATS_DUP_TOKENS : Nat := objKey 0 0x11B1 0x0B
/-- COICA_STATS: R447, R444. -/
abbrev COICA_STATS_PASS_FAILURES : Nat := objKey 0 0x11B1 0x0C
/-- COICA_STATS: R448. -/
abbrev COICA_STATS_SOLICIT_COLLISIONS : Nat := objKey 0 0x11B1 0x0D
/-- COICA_STATS: R449. -/
abbrev COICA_STATS_STRANGER_FRAMES : Nat := objKey 0 0x11B1 0x0E
/-- COICA_STATS: Records sent; R455. -/
abbrev COICA_STATS_EMERG_SENT : Nat := objKey 0 0x11B1 0x0F
/-- COICA_STATS: Records sent; R455. -/
abbrev COICA_STATS_EMERG_DROPS : Nat := objKey 0 0x11B1 0x10
/-- COICA_STATS: R451, R452. -/
abbrev COICA_STATS_OD_REQUESTS : Nat := objKey 0 0x11B1 0x11
/-- COICA_STATS: R451, R452. -/
abbrev COICA_STATS_OD_DENIED : Nat := objKey 0 0x11B1 0x12
/-- WAKE_PATTERN: 1 = pattern in force; INVALID if a mask bit lies at or above WP_LENGTH. -/
abbrev WAKE_PATTERN_WP_ENABLE (n : Nat) : Nat := objKey 0 (0x11C0 + n) 0x01
/-- WAKE_PATTERN: Pattern bytes 0 to 63. -/
abbrev WAKE_PATTERN_WP_BYTES_LO (n : Nat) : Nat := objKey 0 (0x11C0 + n) 0x02
/-- WAKE_PATTERN: Pattern bytes 64 to 127. -/
abbrev WAKE_PATTERN_WP_BYTES_HI (n : Nat) : Nat := objKey 0 (0x11C0 + n) 0x03
/-- WAKE_PATTERN: Bit k = 1: byte k compared, for k from 0 to 63. -/
abbrev WAKE_PATTERN_WP_MASK_LO (n : Nat) : Nat := objKey 0 (0x11C0 + n) 0x04
/-- WAKE_PATTERN: Bit k − 64 for k from 64 to 127. -/
abbrev WAKE_PATTERN_WP_MASK_HI (n : Nat) : Nat := objKey 0 (0x11C0 + n) 0x05
/-- WAKE_PATTERN: From 1 to 128. -/
abbrev WAKE_PATTERN_WP_LENGTH (n : Nat) : Nat := objKey 0 (0x11C0 + n) 0x06
/-- WAKE_PATTERN: R457. -/
abbrev WAKE_PATTERN_WP_CHECK (n : Nat) : Nat := objKey 0 (0x11C0 + n) 0x07
/-- WAKE_PATTERN: Matches. -/
abbrev WAKE_PATTERN_WP_MATCHES (n : Nat) : Nat := objKey 0 (0x11C0 + n) 0x08
/-- TIMEBASE: Current TAI, latched at the read. -/
abbrev TIMEBASE_TIME_NOW : Nat := objKey 0 0x1200 0x01
/-- TIMEBASE: Timebase state code. -/
abbrev TIMEBASE_STATE : Nat := objKey 0 0x1200 0x02
/-- TIMEBASE: Requested state, from 0 to 3; servo owner only; accepted in every state, R24. -/
abbrev TIMEBASE_STATE_REQ : Nat := objKey 0 0x1200 0x03
/-- TIMEBASE: Frequency offset in units of 2^−32 ns per ns, from −429,497 to +429,497 (±100 ppm); a write completes with sta. -/
abbrev TIMEBASE_FREQ_ADJ : Nat := objKey 0 0x1200 0x04
/-- TIMEBASE: Signed step in ns; servo owner only. -/
abbrev TIMEBASE_STEP : Nat := objKey 0 0x1200 0x05
/-- TIMEBASE: Master identity owning the servo: 1 (HOST) or 40 (FW). -/
abbrev TIMEBASE_SERVO_OWNER : Nat := objKey 0 0x1200 0x06
/-- TIMEBASE: Steps applied since package reset. -/
abbrev TIMEBASE_STEP_COUNT : Nat := objKey 0 0x1200 0x07
/-- TIMEBASE: Seconds in HOLDOVER; 0 in other states. -/
abbrev TIMEBASE_HOLDOVER_S : Nat := objKey 0 0x1200 0x08
/-- TIME_IO: PPS_OUT offset in ns, from −500,000,000 to +499,999,999. -/
abbrev TIME_IO_PPS_OUT_OFFSET : Nat := objKey 0 0x1201 0x01
/-- TIME_IO: Time of the last PPS_IN rising edge. -/
abbrev TIME_IO_PPS_IN_STAMP : Nat := objKey 0 0x1201 0x02
/-- TIME_IO: TOD_RXD rate: 0 = 9,600, 1 = 19,200, 2 = 38,400, 3 = 57,600, 4 = 115,200 baud. -/
abbrev TIME_IO_TOD_BAUD : Nat := objKey 0 0x1201 0x03
/-- TIME_IO: Discarded time-of-day messages. -/
abbrev TIME_IO_TOD_DISCARDS : Nat := objKey 0 0x1201 0x04
/-- TIME_IO: [15] enable; [14:8] line lane 0 to 127; [7:0] divider from 1 to 255 of the lane's recovered 161.1328 MHz. With. -/
abbrev TIME_IO_RCLK0_SEL : Nat := objKey 0 0x1201 0x05
/-- TIME_IO: As RCLK0_SEL, for RCLK1. -/
abbrev TIME_IO_RCLK1_SEL : Nat := objKey 0 0x1201 0x06
/-- AIR_CLOCK: 1 = air clock runs and its events fire. -/
abbrev AIR_CLOCK_ENABLE (n : Nat) : Nat := objKey 0 (0x1210 + n) 0x01
/-- AIR_CLOCK: μ from 0 to 3. -/
abbrev AIR_CLOCK_NUMEROLOGY (n : Nat) : Nat := objKey 0 (0x1210 + n) 0x02
/-- AIR_CLOCK: Instant of SFN 0 start, see R30. -/
abbrev AIR_CLOCK_EPOCH (n : Nat) : Nat := objKey 0 (0x1210 + n) 0x03
/-- AIR_CLOCK: Latched at the read: [63:54] SFN, [53:50] subframe, [49:47] slot, [46:43] symbol, [42:23] ns into the symbol, . -/
abbrev AIR_CLOCK_POSITION (n : Nat) : Nat := objKey 0 (0x1210 + n) 0x04
/-- AIR_CLOCK: Absolute slot count since the epoch, latched with the POSITION read. -/
abbrev AIR_CLOCK_ABS_SLOT (n : Nat) : Nat := objKey 0 (0x1210 + n) 0x05
/-- AIR_EVENT_CTRL: 0 = no entry fires except E4095; the other occurrences due while 0 are added to SKIPPED. -/
abbrev AIR_EVENT_CTRL_DISPATCH_ENABLE : Nat := objKey 0 0x1220 0x01
/-- AIR_EVENT_CTRL: Occurrences not fired because of a forward step (R25) or disabled dispatch; occurrences lost in ISLAND are not. -/
abbrev AIR_EVENT_CTRL_SKIPPED : Nat := objKey 0 0x1220 0x02
/-- AIR_EVENT_CTRL: Entries with VALID = 1 as last written, R33. -/
abbrev AIR_EVENT_CTRL_ARMED_COUNT : Nat := objKey 0 0x1220 0x03
/-- AIR_EVENT_CTRL: Index of the most recently fired entry. -/
abbrev AIR_EVENT_CTRL_LAST_FIRED : Nat := objKey 0 0x1220 0x04
/-- PERF_BIN_CLOCK: Offset of the day start in s, from 0 to 86,399. -/
abbrev PERF_BIN_CLOCK_DAY_OFFSET : Nat := objKey 0 0x1230 0x01
/-- PERF_BIN_CLOCK: Start of the current 15-minute bin. -/
abbrev PERF_BIN_CLOCK_BIN_START : Nat := objKey 0 0x1230 0x02
/-- PERF_BIN_CLOCK: Start of the current 24-hour bin. -/
abbrev PERF_BIN_CLOCK_DAY_START : Nat := objKey 0 0x1230 0x03
/-- PERF_BIN_CLOCK: [0] current 15-minute bin suspect; [1] current 24-hour bin suspect. -/
abbrev PERF_BIN_CLOCK_SUSPECT : Nat := objKey 0 0x1230 0x04
/-- POWER_CTRL: State code of FSs in [2s+1:2s], R503. -/
abbrev POWER_CTRL_SECTOR_STATE : Nat := objKey 0 0x1400 0x01
/-- POWER_CTRL: 1 = assert WAKE_N, R509. -/
abbrev POWER_CTRL_WAKE_REQ : Nat := objKey 0 0x1400 0x02
/-- POWER_CTRL: R507. -/
abbrev POWER_CTRL_ISLAND_ENTRIES : Nat := objKey 0 0x1400 0x03
/-- POWER_CTRL: Instant of the last entry into ISLAND. -/
abbrev POWER_CTRL_LAST_ISLAND : Nat := objKey 0 0x1400 0x04
/-- POWER_CLIENT: Tolerable wake latency in ns; 0 = always RUN. -/
abbrev POWER_CLIENT_LAT_TOL_NS (n : Nat) : Nat := objKey 0 (0x1410 + n) 0x01
/-- POWER_CLIENT: 0 = automatic; 3 = OFF, line ports and fabric groups only; any other value is INVALID. -/
abbrev POWER_CLIENT_PWR_REQ (n : Nat) : Nat := objKey 0 (0x1410 + n) 0x02
/-- POWER_CLIENT: Deepest state code held by the client's parts. -/
abbrev POWER_CLIENT_PWR_STATE (n : Nat) : Nat := objKey 0 (0x1410 + n) 0x03
/-- POWER_CLIENT: From 0 to 1,000,000,000. -/
abbrev POWER_CLIENT_PREWAKE_HOLD_NS (n : Nat) : Nat := objKey 0 (0x1410 + n) 0x04
/-- POWER_CLIENT: State changes of the client's parts. -/
abbrev POWER_CLIENT_TRANSITIONS (n : Nat) : Nat := objKey 0 (0x1410 + n) 0x05
/-- POWER_CLIENT: R505. -/
abbrev POWER_CLIENT_PREWAKES (n : Nat) : Nat := objKey 0 (0x1410 + n) 0x06
/-- POWER_CLIENT: R504. -/
abbrev POWER_CLIENT_LATE_WAKES (n : Nat) : Nat := objKey 0 (0x1410 + n) 0x07
/-- SUPPLY: 0 = VAON_A, 1 = VAON_B. -/
abbrev SUPPLY_AON_SOURCE : Nat := objKey 0 0x14A0 0x01
/-- SUPPLY: VAON_A in mV. -/
abbrev SUPPLY_VAON_A_MV : Nat := objKey 0 0x14A0 0x02
/-- SUPPLY: VAON_B in mV. -/
abbrev SUPPLY_VAON_B_MV : Nat := objKey 0 0x14A0 0x03
/-- SUPPLY: R572. -/
abbrev SUPPLY_AON_SWITCHES : Nat := objKey 0 0x14A0 0x04
/-- SUPPLY: Bit r = 1: rail r within tolerance; [31:19] 0. -/
abbrev SUPPLY_RAIL_GOOD : Nat := objKey 0 0x14A0 0x05
/-- SUPPLY: Rails out of range at the last ISLAND entry, R571. -/
abbrev SUPPLY_LAST_RAIL_FAIL : Nat := objKey 0 0x14A0 0x06
/-- CLOCKS: Present: [0] CORE_REFCLK, [1] TIME_REFCLK, [2] FAB_REFCLK, [3] PCIE_REFCLK, [4] AON crystal. -/
abbrev CLOCKS_REF_STATUS : Nat := objKey 0 0x14B0 0x01
/-- CLOCKS: Bit per domain of R576. -/
abbrev CLOCKS_PLL_LOCK : Nat := objKey 0 0x14B0 0x02
/-- CLOCKS: References declared lost. -/
abbrev CLOCKS_REF_LOSSES : Nat := objKey 0 0x14B0 0x03
/-- CLOCKS: 0 = crystal, 1 = internal oscillator. -/
abbrev CLOCKS_AON_OSC : Nat := objKey 0 0x14B0 0x04
/-- THERMAL: F-die temperature, R578. -/
abbrev THERMAL_F_TEMP_C : Nat := objKey 0 0x14C0 0x01
/-- THERMAL: T-die temperature. -/
abbrev THERMAL_T_TEMP_C : Nat := objKey 0 0x14C0 0x02
/-- THERMAL: Highest F_TEMP_C since the last read. -/
abbrev THERMAL_F_MAX_C : Nat := objKey 0 0x14C0 0x03
/-- THERMAL: Highest T_TEMP_C since the last read. -/
abbrev THERMAL_T_MAX_C : Nat := objKey 0 0x14C0 0x04
/-- THERMAL: From 90 to 108. -/
abbrev THERMAL_THROTTLE_C : Nat := objKey 0 0x14C0 0x05
/-- THERMAL: F-die throttle level, from 0 to 8. -/
abbrev THERMAL_F_LEVEL : Nat := objKey 0 0x14C0 0x06
/-- THERMAL: T-die throttle level. -/
abbrev THERMAL_T_LEVEL : Nat := objKey 0 0x14C0 0x07
/-- THERMAL: R580. -/
abbrev THERMAL_THROTTLE_MS : Nat := objKey 0 0x14C0 0x08
/-- THERMAL: R581. -/
abbrev THERMAL_STOP_ACTIVE : Nat := objKey 0 0x14C0 0x09
/-- THERMAL: Stops since cold reset. -/
abbrev THERMAL_THERMAL_STOPS : Nat := objKey 0 0x14C0 0x0A
/-- SENSORS: °C. -/
abbrev SENSORS_S_FS (k : Nat) : Nat := objKey 0 0x14C1 (0x01 + k)
/-- SENSORS: °C. -/
abbrev SENSORS_S_FMGMT : Nat := objKey 0 0x14C1 0x09
/-- SENSORS: °C. -/
abbrev SENSORS_S_FD2D : Nat := objKey 0 0x14C1 0x0A
/-- SENSORS: °C. -/
abbrev SENSORS_S_TS (k : Nat) : Nat := objKey 0 0x14C1 (0x0B + k)
/-- SENSORS: °C. -/
abbrev SENSORS_S_TD2D : Nat := objKey 0 0x14C1 0x13
/-- SECURITY: State code of R512 in force. -/
abbrev SECURITY_LC_STATE : Nat := objKey 0 0x1500 0x01
/-- SECURITY: State taking effect at the next cold reset; 0xFF = none. -/
abbrev SECURITY_LC_PENDING : Nat := objKey 0 0x1500 0x02
/-- SECURITY: BLANK only: 1 = PROVISIONED, 4 = DECOMMISSIONED. -/
abbrev SECURITY_PROVISION : Nat := objKey 0 0x1500 0x03
/-- SECURITY: R517. -/
abbrev SECURITY_SVN_COUNTER : Nat := objKey 0 0x1500 0x04
/-- SECURITY: R517. -/
abbrev SECURITY_SVN_ADVANCE : Nat := objKey 0 0x1500 0x05
/-- SECURITY: Fused serial number. -/
abbrev SECURITY_SERIAL : Nat := objKey 0 0x1500 0x06
/-- SECURITY: R519. -/
abbrev SECURITY_DEVICE_ID_HASH : Nat := objKey 0 0x1500 0x07
/-- SECURITY: Owner slots, R515. -/
abbrev SECURITY_KEY_HASH (k : Nat) : Nat := objKey 0 0x1500 (0x08 + k)
/-- SECURITY: Bit k = 1: slot k revoked. -/
abbrev SECURITY_KEY_REVOKED : Nat := objKey 0 0x1500 0x0C
/-- LOCK: 1 = RWL objects read only until package reset. -/
abbrev LOCK_DICT_LOCK : Nat := objKey 0 0x1501 0x01
/-- LOCK: Instant at which the lock was set. -/
abbrev LOCK_LOCKED_AT : Nat := objKey 0 0x1501 0x02
/-- DEBUG: 0 = NONE, 1 = OBSERVE, 2 = INVASIVE. -/
abbrev DEBUG_DBG_LEVEL : Nat := objKey 0 0x1502 0x01
/-- DEBUG: R522. -/
abbrev DEBUG_DBG_CHALLENGE : Nat := objKey 0 0x1502 0x02
/-- DEBUG: 1 = check the token, R524. -/
abbrev DEBUG_AUTH_SUBMIT : Nat := objKey 0 0x1502 0x03
/-- DEBUG: 0 = accepted; from 1 to 6 = failing step. -/
abbrev DEBUG_AUTH_STATUS : Nat := objKey 0 0x1502 0x04
/-- DEBUG: Never cleared; wraps at 2^64. -/
abbrev DEBUG_AUTH_FAILS : Nat := objKey 0 0x1502 0x05
/-- DEBUG: R521. -/
abbrev DEBUG_DBG_DROP : Nat := objKey 0 0x1502 0x06
/-- DEBUG: 0 = until cold reset. -/
abbrev DEBUG_DBG_EXPIRES : Nat := objKey 0 0x1502 0x07
/-- BOOT: R536; 8 = recovery. -/
abbrev BOOT_BOOT_STAGE : Nat := objKey 0 0x1600 0x01
/-- BOOT: 0 cold, 1 WARM_N, 2 WARM_RESET, 3 ISLAND left, 4 FW_RESTART, 5 trial ended. -/
abbrev BOOT_BOOT_CAUSE : Nat := objKey 0 0x1600 0x02
/-- BOOT: Boots since cold reset. -/
abbrev BOOT_BOOT_COUNT : Nat := objKey 0 0x1600 0x03
/-- BOOT: 1 = firmware restart. -/
abbrev BOOT_FW_RESTART : Nat := objKey 0 0x1600 0x04
/-- BOOT: 1 = package warm reset. -/
abbrev BOOT_WARM_RESET : Nat := objKey 0 0x1600 0x05
/-- BOOT: 0 = F, 1 = T. -/
abbrev BOOT_DIE_RESET : Nat := objKey 0 0x1600 0x06
/-- BOOT: [7] die, [2:0] sector 0 to 7; other bits INVALID. -/
abbrev BOOT_SECTOR_RESET : Nat := objKey 0 0x1600 0x07
/-- BOOT: Unit identity (R4) in an FS or TS sector. -/
abbrev BOOT_UNIT_RESET : Nat := objKey 0 0x1600 0x08
/-- BOOT: 1 = accept, R541. -/
abbrev BOOT_FW_ACCEPT : Nat := objKey 0 0x1600 0x09
/-- BOOT: From 60 to 65,535. -/
abbrev BOOT_TRIAL_S : Nat := objKey 0 0x1600 0x0A
/-- BOOT: 0 outside TRIAL. -/
abbrev BOOT_TRIAL_LEFT_S : Nat := objKey 0 0x1600 0x0B
/-- FW_SLOT: 0 EMPTY, 1 LOADING, 2 READY, 3 TRIAL, 4 ACCEPTED, 5 FAILED. -/
abbrev FW_SLOT_SLOT_STATE (n : Nat) : Nat := objKey 0 (0x1610 + n) 0x01
/-- FW_SLOT: Main firmware SVN. -/
abbrev FW_SLOT_SLOT_SVN (n : Nat) : Nat := objKey 0 (0x1610 + n) 0x02
/-- FW_SLOT: Main firmware version. -/
abbrev FW_SLOT_SLOT_VERSION (n : Nat) : Nat := objKey 0 (0x1610 + n) 0x03
/-- FW_SLOT: COMMIT_SEQ. -/
abbrev FW_SLOT_SLOT_SEQ (n : Nat) : Nat := objKey 0 (0x1610 + n) 0x04
/-- FW_UPDATE: 1 begin, 2 commit, 3 abort. -/
abbrev FW_UPDATE_UPD_CTRL : Nat := objKey 0 0x1612 0x01
/-- FW_UPDATE: Image bytes, R537. -/
abbrev FW_UPDATE_UPD_SIZE : Nat := objKey 0 0x1612 0x02
/-- FW_UPDATE: 0 IDLE, 1 ERASING, 2 RECEIVING, 3 CHECKING, 4 DONE, 5 FAILED. -/
abbrev FW_UPDATE_UPD_STATE : Nat := objKey 0 0x1612 0x03
/-- FW_UPDATE: 0 = A, 1 = B. -/
abbrev FW_UPDATE_UPD_TARGET : Nat := objKey 0 0x1612 0x04
/-- FW_UPDATE: Master identity. -/
abbrev FW_UPDATE_UPD_OWNER : Nat := objKey 0 0x1612 0x05
/-- FW_UPDATE: R538. -/
abbrev FW_UPDATE_UPD_RECEIVED : Nat := objKey 0 0x1612 0x06
/-- FW_UPDATE: R539, R538. -/
abbrev FW_UPDATE_UPD_RESULT : Nat := objKey 0 0x1612 0x07
/-- PANTRY: 1 = store, R383; slow write. -/
abbrev PANTRY_STORE : Nat := objKey 0 0x1620 0x01
/-- PANTRY: 1 = store an empty copy; slow write. -/
abbrev PANTRY_CLEAR : Nat := objKey 0 0x1620 0x02
/-- PANTRY: 0 = idle, 1 = storing, 2 = last store failed. -/
abbrev PANTRY_STATE : Nat := objKey 0 0x1620 0x03
/-- PANTRY: 0 = A, 1 = B, 0xFF = none. -/
abbrev PANTRY_ACTIVE_COPY : Nat := objKey 0 0x1620 0x04
/-- PANTRY: SEQUENCE of the active copy. -/
abbrev PANTRY_SEQUENCE : Nat := objKey 0 0x1620 0x05
/-- PANTRY: Version that the running firmware writes. -/
abbrev PANTRY_FORMAT_VERSION : Nat := objKey 0 0x1620 0x06
/-- PANTRY: Body size of the active copy. -/
abbrev PANTRY_BODY_BYTES : Nat := objKey 0 0x1620 0x07
/-- PANTRY: 1 = restore at boot, R386. -/
abbrev PANTRY_RESTORE_AT_BOOT : Nat := objKey 0 0x1620 0x08
/-- PANTRY: Records skipped at the last boot. -/
abbrev PANTRY_RESTORE_REFUSED : Nat := objKey 0 0x1620 0x09
/-- PANTRY: Completed stores and clears. -/
abbrev PANTRY_STORES : Nat := objKey 0 0x1620 0x0A
/-- PAIR_CTRL: 1 = pair in service. -/
abbrev PAIR_CTRL_PAIR_ENABLE : Nat := objKey 0 0x1700 0x01
/-- PAIR_CTRL: 1 = home device. -/
abbrev PAIR_CTRL_HOME : Nat := objKey 0 0x1700 0x02
/-- PAIR_CTRL: 0 = none, 1 = Coica witness. -/
abbrev PAIR_CTRL_WITNESS_MODE : Nat := objKey 0 0x1700 0x03
/-- PAIR_CTRL: L, from 2 to 64. -/
abbrev PAIR_CTRL_LEASE_CYCLES : Nat := objKey 0 0x1700 0x04
/-- PAIR_CTRL: R490. -/
abbrev PAIR_CTRL_REVERTIVE : Nat := objKey 0 0x1700 0x05
/-- PAIR_CTRL: From 1 to 3,600. -/
abbrev PAIR_CTRL_WTR_S : Nat := objKey 0 0x1700 0x06
/-- PAIR_CTRL: 1 = hand over, R483. -/
abbrev PAIR_CTRL_COMMAND : Nat := objKey 0 0x1700 0x07
/-- PAIR_CTRL: R467. -/
abbrev PAIR_CTRL_ROLE : Nat := objKey 0 0x1700 0x08
/-- PAIR_CTRL: Current epoch. -/
abbrev PAIR_CTRL_EPOCH : Nat := objKey 0 0x1700 0x09
/-- PAIR_CTRL: Current cycle number. -/
abbrev PAIR_CTRL_CYCLE : Nat := objKey 0 0x1700 0x0A
/-- PAIR_CTRL: R469. -/
abbrev PAIR_CTRL_LEASE_END : Nat := objKey 0 0x1700 0x0B
/-- PAIR_CTRL: 0 = NONE, 1 = BULK, 2 = SYNCED. -/
abbrev PAIR_CTRL_SYNC : Nat := objKey 0 0x1700 0x0C
/-- PAIR_CTRL: R481. -/
abbrev PAIR_CTRL_HEALTH : Nat := objKey 0 0x1700 0x0D
/-- PAIR_CTRL: [31:24] role, [23:16] health, [15:8] SYNC, [0] 1 = silent. -/
abbrev PAIR_CTRL_PARTNER : Nat := objKey 0 0x1700 0x0E
/-- PAIR_CTRL: Epoch of the last intact message. -/
abbrev PAIR_CTRL_PARTNER_EPOCH : Nat := objKey 0 0x1700 0x0F
/-- PAIR_CTRL: R481. -/
abbrev PAIR_CTRL_SKEW_NS : Nat := objKey 0 0x1700 0x10
/-- PAIR_CTRL: Wait-to-restore remaining. -/
abbrev PAIR_CTRL_WTR_LEFT_S : Nat := objKey 0 0x1700 0x11
/-- PAIR_CTRL: From 1 to 3,600. -/
abbrev PAIR_CTRL_DIGEST_PERIOD_S : Nat := objKey 0 0x1700 0x12
/-- WITNESS: [63:32] epoch, [31:0] cycle, R469. -/
abbrev WITNESS_W_RENEW : Nat := objKey 0 0x1701 0x01
/-- WITNESS: [63:32] new epoch, [31:0] c_w, R487. -/
abbrev WITNESS_W_TAKEOVER : Nat := objKey 0 0x1701 0x02
/-- WITNESS: Last accepted witness write. -/
abbrev WITNESS_W_LAST : Nat := objKey 0 0x1701 0x03
/-- WITNESS: Refused witness writes. -/
abbrev WITNESS_W_REFUSED : Nat := objKey 0 0x1701 0x04
/-- PAIR_STATS: Times this device took control. -/
abbrev PAIR_STATS_TAKEOVERS : Nat := objKey 0 0x1702 0x01
/-- PAIR_STATS: RELEASE messages sent. -/
abbrev PAIR_STATS_RELEASES : Nat := objKey 0 0x1702 0x02
/-- PAIR_STATS: R483. -/
abbrev PAIR_STATS_REFUSED_HANDOVERS : Nat := objKey 0 0x1702 0x03
/-- PAIR_STATS: R468. -/
abbrev PAIR_STATS_LEASE_LAPSES : Nat := objKey 0 0x1702 0x04
/-- PAIR_STATS: R465. -/
abbrev PAIR_STATS_STALE_MESSAGES : Nat := objKey 0 0x1702 0x05
/-- PAIR_STATS: R463, R464. -/
abbrev PAIR_STATS_MATE_CRC_ERRORS : Nat := objKey 0 0x1702 0x06
/-- PAIR_STATS: Journal bytes sent or received. -/
abbrev PAIR_STATS_JOURNAL_BYTES : Nat := objKey 0 0x1702 0x07
/-- PAIR_STATS: Bulk copies completed. -/
abbrev PAIR_STATS_BULK_COPIES : Nat := objKey 0 0x1702 0x08
/-- PAIR_STATS: R477. -/
abbrev PAIR_STATS_DIGEST_MISMATCHES : Nat := objKey 0 0x1702 0x09
/-- PAIR_STATS: R462. -/
abbrev PAIR_STATS_MATE_LINK_DOWNS : Nat := objKey 0 0x1702 0x0A
/-- PROOF: R479. -/
abbrev PROOF_FAIL_MAP : Nat := objKey 0 0x1703 0x01
/-- PROOF: Any value; resets the 4 s watch. -/
abbrev PROOF_FW_HEARTBEAT : Nat := objKey 0 0x1703 0x02
/-- PROOF: From 60 to 86,400. -/
abbrev PROOF_LBIST_MAX_S : Nat := objKey 0 0x1703 0x03
/-- PROOF: From 5 to 80. -/
abbrev PROOF_EYE_MIN_PCT : Nat := objKey 0 0x1703 0x04
/-- PROOF: Memory slices tested. -/
abbrev PROOF_SLICES_TESTED : Nat := objKey 0 0x1703 0x05
/-- PROOF: Pipelines tested. -/
abbrev PROOF_LBIST_RUNS : Nat := objKey 0 0x1703 0x06
/-- EVENT_CTRL: PF CQ for event entries; 0xFFFF = none. -/
abbrev EVENT_CTRL_EVENT_CQ : Nat := objKey 0 0x1800 0x01
/-- EVENT_CTRL: From 0 to 3. -/
abbrev EVENT_CTRL_RING_CLASS : Nat := objKey 0 0x1800 0x02
/-- EVENT_CTRL: Bit x = 1: subsystem x to the ring. -/
abbrev EVENT_CTRL_SUBSYS_ENABLE : Nat := objKey 0 0x1800 0x03
/-- EVENT_CTRL: From 0 to 3. -/
abbrev EVENT_CTRL_ALARM_CLASS : Nat := objKey 0 0x1800 0x04
/-- EVENT_CTRL: Bit y: class y pending. -/
abbrev EVENT_CTRL_ALARM_PENDING : Nat := objKey 0 0x1800 0x05
/-- EVENT_CTRL: PF MSI-X vector; 0xFFFF = none. -/
abbrev EVENT_CTRL_ALARM_VECTOR : Nat := objKey 0 0x1800 0x06
/-- EVENT_CTRL: Number that the next record takes: records logged since cold reset, modulo 2^32 (R551). -/
abbrev EVENT_CTRL_LOG_SEQ : Nat := objKey 0 0x1800 0x07
/-- EVENT_CTRL: R553. -/
abbrev EVENT_CTRL_SUPPRESSED : Nat := objKey 0 0x1800 0x08
/-- EVENT_CTRL: R556. -/
abbrev EVENT_CTRL_RING_DROPS : Nat := objKey 0 0x1800 0x09
/-- EVENT_CTRL: R551. -/
abbrev EVENT_CTRL_LOG_OVERWRITTEN : Nat := objKey 0 0x1800 0x0A
/-- EVENT_CTRL: R559. -/
abbrev EVENT_CTRL_D2D_REPLAYS : Nat := objKey 0 0x1800 0x0B
/-- EVENT_LAST: Latest record of class y: [31:16] code, [15:0] sequence. -/
abbrev EVENT_LAST_LAST (k : Nat) : Nat := objKey 0 0x1801 (0x01 + k)
/-- EVENT_LAST: Occurrences of class y. -/
abbrev EVENT_LAST_COUNT (k : Nat) : Nat := objKey 0 0x1801 (0x05 + k)
/-- EVENT_LOG: Number of the record to read, as counted by LOG_SEQ (R551) and compared in all 32 bits; one value per master. -/
abbrev EVENT_LOG_LOG_SELECT (m : Nat) : Nat := objKey m 0x1802 0x01
/-- EVENT_LOG: Record bytes 0–15; NOT_FOUND if overwritten or not yet logged. -/
abbrev EVENT_LOG_LOG_REC_LO : Nat := objKey 0 0x1802 0x02
/-- EVENT_LOG: Record bytes 16–31. -/
abbrev EVENT_LOG_LOG_REC_HI : Nat := objKey 0 0x1802 0x03
/-- LINE_PORT: 1 = port in service, R271. -/
abbrev LINE_PORT_PORT_ENABLE (n : Nat) : Nat := objKey 0 (0x2000 + n) 0x01
/-- LINE_PORT: 1, 2, 4 or 8. -/
abbrev LINE_PORT_LANES (n : Nat) : Nat := objKey 0 (0x2000 + n) 0x02
/-- LINE_PORT: Mb/s, R270. -/
abbrev LINE_PORT_PORT_SPEED (n : Nat) : Nat := objKey 0 (0x2000 + n) 0x03
/-- LINE_PORT: 0 = per R270; 1 = RS(528,514); 2 = none. -/
abbrev LINE_PORT_FEC_MODE (n : Nat) : Nat := objKey 0 (0x2000 + n) 0x04
/-- LINE_PORT: Bytes, from 1,518 to 16,000. -/
abbrev LINE_PORT_MAX_FRAME (n : Nat) : Nat := objKey 0 (0x2000 + n) 0x05
/-- LINE_PORT: 0 = down, 1 = up, 2 = off. -/
abbrev LINE_PORT_LINK_STATE (n : Nat) : Nat := objKey 0 (0x2000 + n) 0x06
/-- LINE_PORT: ms, from 0 to 10,000. -/
abbrev LINE_PORT_LINK_DOWN_HOLD (n : Nat) : Nat := objKey 0 (0x2000 + n) 0x07
/-- LINE_PORT: ms, from 0 to 10,000. -/
abbrev LINE_PORT_LINK_UP_HOLD (n : Nat) : Nat := objKey 0 (0x2000 + n) 0x08
/-- LINE_PORT: 0 = ignore, 1 = PAUSE, 2 = PFC. -/
abbrev LINE_PORT_FC_RX_MODE (n : Nat) : Nat := objKey 0 (0x2000 + n) 0x09
/-- LINE_PORT: Bit c = 1: class c never held. -/
abbrev LINE_PORT_PAUSE_EXEMPT (n : Nat) : Nat := objKey 0 (0x2000 + n) 0x0A
/-- LINE_PORT: Class of priority i in [4i+2:4i]; other bits 0. -/
abbrev LINE_PORT_PFC_CLASS_MAP (n : Nat) : Nat := objKey 0 (0x2000 + n) 0x0B
/-- LINE_PORT: 0 = none, 1 = PAUSE, 2 = PFC. -/
abbrev LINE_PORT_FC_TX_MODE (n : Nat) : Nat := objKey 0 (0x2000 + n) 0x0C
/-- LINE_PORT: Priorities paused in sent PFC frames. -/
abbrev LINE_PORT_FC_TX_PRI (n : Nat) : Nat := objKey 0 (0x2000 + n) 0x0D
/-- LINE_PORT: Units, R279. -/
abbrev LINE_PORT_FC_XOFF (n : Nat) : Nat := objKey 0 (0x2000 + n) 0x0E
/-- LINE_PORT: Units, below FC_XOFF; INVALID otherwise. -/
abbrev LINE_PORT_FC_XON (n : Nat) : Nat := objKey 0 (0x2000 + n) 0x0F
/-- LINE_PORT: Quanta in sent frames, from 1 to 65,535. -/
abbrev LINE_PORT_FC_QUANTA (n : Nat) : Nat := objKey 0 (0x2000 + n) 0x10
/-- LINE_PORT: From 1 to 10,000; 0 = no watchdog. -/
abbrev LINE_PORT_WD_LIMIT_MS (n : Nat) : Nat := objKey 0 (0x2000 + n) 0x11
/-- LINE_PORT: From 1 to 60,000. -/
abbrev LINE_PORT_WD_HOLDOFF_MS (n : Nat) : Nat := objKey 0 (0x2000 + n) 0x12
/-- LINE_PORT: Bit c = 1: class c now held. -/
abbrev LINE_PORT_PAUSED (n : Nat) : Nat := objKey 0 (0x2000 + n) 0x13
/-- LINE_PORT: 2^−16 ns, R280. -/
abbrev LINE_PORT_TX_ASYM (n : Nat) : Nat := objKey 0 (0x2000 + n) 0x14
/-- LINE_PORT: 2^−16 ns, R280. -/
abbrev LINE_PORT_RX_ASYM (n : Nat) : Nat := objKey 0 (0x2000 + n) 0x15
/-- LINE_PORT: R281. -/
abbrev LINE_PORT_PTP_ONE_STEP (n : Nat) : Nat := objKey 0 (0x2000 + n) 0x16
/-- LINE_PORT: R282. -/
abbrev LINE_PORT_TC_MODE (n : Nat) : Nat := objKey 0 (0x2000 + n) 0x17
/-- LINE_PORT: From 0 to 15; 0xFF = none. -/
abbrev LINE_PORT_SNAP_GROUP (n : Nat) : Nat := objKey 0 (0x2000 + n) 0x18
/-- LINE_PORT: R286. -/
abbrev LINE_PORT_GATE_BYPASS_OK (n : Nat) : Nat := objKey 0 (0x2000 + n) 0x19
/-- LINE_PORT: 65,536 × LANES. -/
abbrev LINE_PORT_RX_BUF_BYTES (n : Nat) : Nat := objKey 0 (0x2000 + n) 0x1A
/-- PORT_COUNTERS: Frames from 64 bytes to MAX_FRAME with good FCS and no code error, MAC control included. -/
abbrev PORT_COUNTERS_RX_FRAMES_OK (n : Nat) : Nat := objKey 0 (0x2100 + n) 0x01
/-- PORT_COUNTERS: Octets of those frames. -/
abbrev PORT_COUNTERS_RX_OCTETS_OK (n : Nat) : Nat := objKey 0 (0x2100 + n) 0x02
/-- PORT_COUNTERS: Good frames by destination address type. -/
abbrev PORT_COUNTERS_RX_UNICAST (n : Nat) : Nat := objKey 0 (0x2100 + n) 0x03
/-- PORT_COUNTERS: Good frames by destination address type. -/
abbrev PORT_COUNTERS_RX_MULTICAST (n : Nat) : Nat := objKey 0 (0x2100 + n) 0x04
/-- PORT_COUNTERS: Good frames by destination address type. -/
abbrev PORT_COUNTERS_RX_BROADCAST (n : Nat) : Nat := objKey 0 (0x2100 + n) 0x05
/-- PORT_COUNTERS: Good PAUSE and PFC frames, obeyed or not. -/
abbrev PORT_COUNTERS_RX_PAUSE (n : Nat) : Nat := objKey 0 (0x2100 + n) 0x06
/-- PORT_COUNTERS: Good PAUSE and PFC frames, obeyed or not. -/
abbrev PORT_COUNTERS_RX_PFC (n : Nat) : Nat := objKey 0 (0x2100 + n) 0x07
/-- PORT_COUNTERS: Good frames with at least one VLAN tag. -/
abbrev PORT_COUNTERS_RX_VLAN (n : Nat) : Nat := objKey 0 (0x2100 + n) 0x08
/-- PORT_COUNTERS: Frames from 64 bytes to MAX_FRAME with bad FCS. -/
abbrev PORT_COUNTERS_RX_FCS_ERRORS (n : Nat) : Nat := objKey 0 (0x2100 + n) 0x09
/-- PORT_COUNTERS: Frames below 64 bytes with good FCS. -/
abbrev PORT_COUNTERS_RX_UNDERSIZE (n : Nat) : Nat := objKey 0 (0x2100 + n) 0x0A
/-- PORT_COUNTERS: Frames below 64 bytes with bad FCS. -/
abbrev PORT_COUNTERS_RX_FRAGMENTS (n : Nat) : Nat := objKey 0 (0x2100 + n) 0x0B
/-- PORT_COUNTERS: Frames above MAX_FRAME with good FCS. -/
abbrev PORT_COUNTERS_RX_OVERSIZE (n : Nat) : Nat := objKey 0 (0x2100 + n) 0x0C
/-- PORT_COUNTERS: Frames above MAX_FRAME with bad FCS. -/
abbrev PORT_COUNTERS_RX_JABBER (n : Nat) : Nat := objKey 0 (0x2100 + n) 0x0D
/-- PORT_COUNTERS: Frames with a PCS error block. -/
abbrev PORT_COUNTERS_RX_CODE_ERRORS (n : Nat) : Nat := objKey 0 (0x2100 + n) 0x0E
/-- PORT_COUNTERS: R273. -/
abbrev PORT_COUNTERS_RX_OVERFLOW (n : Nat) : Nat := objKey 0 (0x2100 + n) 0x0F
/-- PORT_COUNTERS: Octets of every frame received. -/
abbrev PORT_COUNTERS_RX_OCTETS_ALL (n : Nat) : Nat := objKey 0 (0x2100 + n) 0x10
/-- PORT_COUNTERS: Frames by size bin, good or bad. -/
abbrev PORT_COUNTERS_RX_SIZE (n : Nat) (k : Nat) : Nat := objKey 0 (0x2100 + n) (0x11 + k)
/-- PORT_COUNTERS: As 0x01 to 0x08, for frames sent. -/
abbrev PORT_COUNTERS_TX_FRAMES_OK (n : Nat) : Nat := objKey 0 (0x2100 + n) 0x21
/-- PORT_COUNTERS: As 0x01 to 0x08, for frames sent. -/
abbrev PORT_COUNTERS_TX_OCTETS_OK (n : Nat) : Nat := objKey 0 (0x2100 + n) 0x22
/-- PORT_COUNTERS: As 0x01 to 0x08, for frames sent. -/
abbrev PORT_COUNTERS_TX_UNICAST (n : Nat) : Nat := objKey 0 (0x2100 + n) 0x23
/-- PORT_COUNTERS: As 0x01 to 0x08, for frames sent. -/
abbrev PORT_COUNTERS_TX_MULTICAST (n : Nat) : Nat := objKey 0 (0x2100 + n) 0x24
/-- PORT_COUNTERS: As 0x01 to 0x08, for frames sent. -/
abbrev PORT_COUNTERS_TX_BROADCAST (n : Nat) : Nat := objKey 0 (0x2100 + n) 0x25
/-- PORT_COUNTERS: As 0x01 to 0x08, for frames sent. -/
abbrev PORT_COUNTERS_TX_PAUSE (n : Nat) : Nat := objKey 0 (0x2100 + n) 0x26
/-- PORT_COUNTERS: As 0x01 to 0x08, for frames sent. -/
abbrev PORT_COUNTERS_TX_PFC (n : Nat) : Nat := objKey 0 (0x2100 + n) 0x27
/-- PORT_COUNTERS: As 0x01 to 0x08, for frames sent. -/
abbrev PORT_COUNTERS_TX_VLAN (n : Nat) : Nat := objKey 0 (0x2100 + n) 0x28
/-- PORT_COUNTERS: Frames ended with an inverted FCS (R182); not in TX_FRAMES_OK. -/
abbrev PORT_COUNTERS_TX_STOMPED (n : Nat) : Nat := objKey 0 (0x2100 + n) 0x29
/-- PORT_COUNTERS: Under the lease gate. -/
abbrev PORT_COUNTERS_TX_LEASE_DISCARDS (n : Nat) : Nat := objKey 0 (0x2100 + n) 0x2A
/-- PORT_COUNTERS: Under link down. -/
abbrev PORT_COUNTERS_TX_DOWN_DISCARDS (n : Nat) : Nat := objKey 0 (0x2100 + n) 0x2B
/-- PORT_COUNTERS: Frames sent, by size bin. -/
abbrev PORT_COUNTERS_TX_SIZE (n : Nat) (k : Nat) : Nat := objKey 0 (0x2100 + n) (0x31 + k)
/-- PORT_COUNTERS: Codewords corrected, all lanes. -/
abbrev PORT_COUNTERS_FEC_CW_CORRECTED (n : Nat) : Nat := objKey 0 (0x2100 + n) 0x3B
/-- PORT_COUNTERS: Uncorrectable codewords. -/
abbrev PORT_COUNTERS_FEC_CW_UNCORRECTABLE (n : Nat) : Nat := objKey 0 (0x2100 + n) 0x3C
/-- PORT_COUNTERS: FEC symbols corrected. -/
abbrev PORT_COUNTERS_FEC_SYMBOLS (n : Nat) : Nat := objKey 0 (0x2100 + n) 0x3D
/-- PORT_COUNTERS: R274. -/
abbrev PORT_COUNTERS_LINK_DOWNS (n : Nat) : Nat := objKey 0 (0x2100 + n) 0x3E
/-- PORT_COUNTERS: R278. -/
abbrev PORT_COUNTERS_WD_FIRED (n : Nat) : Nat := objKey 0 (0x2100 + n) 0x3F
/-- PORT_COUNTERS: Values at the last snapshot. -/
abbrev PORT_COUNTERS_SHADOW (n : Nat) (k : Nat) : Nat := objKey 0 (0x2100 + n) (0x41 + k)
/-- PORT_COUNTERS: Snapshots of this port's group since package reset. -/
abbrev PORT_COUNTERS_SNAP_SEQ (n : Nat) : Nat := objKey 0 (0x2100 + n) 0x80
/-- PORT_COUNTERS: t_s of the last snapshot. -/
abbrev PORT_COUNTERS_SNAP_TIME (n : Nat) : Nat := objKey 0 (0x2100 + n) 0x81
/-- PORT_COUNTERS: [0] command, [1] air event, [2] bin boundary. -/
abbrev PORT_COUNTERS_SNAP_CAUSE (n : Nat) : Nat := objKey 0 (0x2100 + n) 0x82
/-- SNAPSHOT_GROUP: 1 = snapshot at the write's completion. -/
abbrev SNAPSHOT_GROUP_TRIGGER (n : Nat) : Nat := objKey 0 (0x2180 + n) 0x01
/-- SNAPSHOT_GROUP: 1 = snapshot at each 15-minute boundary. -/
abbrev SNAPSHOT_GROUP_ON_BIN (n : Nat) : Nat := objKey 0 (0x2180 + n) 0x02
/-- SNAPSHOT_GROUP: Refused triggers. -/
abbrev SNAPSHOT_GROUP_SNAP_MISSED (n : Nat) : Nat := objKey 0 (0x2180 + n) 0x03
/-- SNAPSHOT_GROUP: Member ports. -/
abbrev SNAPSHOT_GROUP_MEMBERS (n : Nat) : Nat := objKey 0 (0x2180 + n) 0x04
/-- FABRIC_LANE: 1 = lane in service. -/
abbrev FABRIC_LANE_FL_ENABLE (n : Nat) : Nat := objKey 0 (0x2400 + n) 0x01
/-- FABRIC_LANE: R301. -/
abbrev FABRIC_LANE_IN_SPRAY (n : Nat) : Nat := objKey 0 (0x2400 + n) 0x02
/-- FABRIC_LANE: [0] disabled, [1] LOS, [2] LOF, [3] TIM, [4] AIS received, [5] RDI received, [6] reach map zero, [7] rejoin ho. -/
abbrev FABRIC_LANE_LEAVE_CAUSE (n : Nat) : Nat := objKey 0 (0x2400 + n) 0x03
/-- FABRIC_LANE: Reach map, quarter 0 to 3, R300. -/
abbrev FABRIC_LANE_REACH (n : Nat) (k : Nat) : Nat := objKey 0 (0x2400 + n) (0x04 + k)
/-- FABRIC_LANE: Cells other than IDLE sent. -/
abbrev FABRIC_LANE_CELLS_TX (n : Nat) : Nat := objKey 0 (0x2400 + n) 0x08
/-- FABRIC_LANE: Cells other than IDLE received. -/
abbrev FABRIC_LANE_CELLS_RX (n : Nat) : Nat := objKey 0 (0x2400 + n) 0x09
/-- FABRIC_LANE: R295. -/
abbrev FABRIC_LANE_CHECK_ERRORS (n : Nat) : Nat := objKey 0 (0x2400 + n) 0x0A
/-- FABRIC_LANE: R301. -/
abbrev FABRIC_LANE_LEAVES (n : Nat) : Nat := objKey 0 (0x2400 + n) 0x0B
/-- FABRIC_LANE: 0 = HUNT, 1 = PRESYNC, 2 = SYNC. -/
abbrev FABRIC_LANE_FRAME_STATE (n : Nat) : Nat := objKey 0 (0x2400 + n) 0x10
/-- FABRIC_LANE: [0] LOS, [1] LOF, [2] AIS, [3] RDI, [4] TIM. -/
abbrev FABRIC_LANE_DEFECTS (n : Nat) : Nat := objKey 0 (0x2400 + n) 0x11
/-- FABRIC_LANE: Trace sent, byte k in frame k. -/
abbrev FABRIC_LANE_TRACE_TX (n : Nat) : Nat := objKey 0 (0x2400 + n) 0x12
/-- FABRIC_LANE: Expected trace. -/
abbrev FABRIC_LANE_TRACE_EXPECT (n : Nat) : Nat := objKey 0 (0x2400 + n) 0x13
/-- FABRIC_LANE: Last accepted trace, R325. -/
abbrev FABRIC_LANE_TRACE_RX (n : Nat) : Nat := objKey 0 (0x2400 + n) 0x14
/-- FABRIC_LANE: 1 = TIM evaluated. -/
abbrev FABRIC_LANE_TIM_ENABLE (n : Nat) : Nat := objKey 0 (0x2400 + n) 0x15
/-- FABRIC_LANE: 1 = AIS sent. -/
abbrev FABRIC_LANE_FORCE_AIS (n : Nat) : Nat := objKey 0 (0x2400 + n) 0x16
/-- FABRIC_LANE: Errored blocks, R321. -/
abbrev FABRIC_LANE_BIP_ERRORS (n : Nat) : Nat := objKey 0 (0x2400 + n) 0x17
/-- FABRIC_LANE: R324. -/
abbrev FABRIC_LANE_FAW_ERRORS (n : Nat) : Nat := objKey 0 (0x2400 + n) 0x18
/-- FABRIC_LANE: Returns to HUNT. -/
abbrev FABRIC_LANE_HUNTS (n : Nat) : Nat := objKey 0 (0x2400 + n) 0x19
/-- FABRIC_LANE: R323. -/
abbrev FABRIC_LANE_CAND_OVERFLOW (n : Nat) : Nat := objKey 0 (0x2400 + n) 0x1A
/-- FABRIC_CTRL: 1 = fabric in service. -/
abbrev FABRIC_CTRL_FABRIC_ENABLE : Nat := objKey 0 0x2500 0x01
/-- FABRIC_CTRL: From 0 to 255. -/
abbrev FABRIC_CTRL_DEVICE_ID : Nat := objKey 0 0x2500 0x02
/-- FABRIC_CTRL: 0 = fabric elements, 1 = back-to-back. -/
abbrev FABRIC_CTRL_FABRIC_MODE : Nat := objKey 0 0x2500 0x03
/-- FABRIC_CTRL: From 1 to 10,000. -/
abbrev FABRIC_CTRL_REJOIN_MS : Nat := objKey 0 0x2500 0x04
/-- FABRIC_CTRL: From 1 to 10,000; 0 = never discard. -/
abbrev FABRIC_CTRL_UNREACH_MS : Nat := objKey 0 0x2500 0x05
/-- FABRIC_CTRL: Lanes with IN_SPRAY 1. -/
abbrev FABRIC_CTRL_SPRAY_LANES : Nat := objKey 0 0x2500 0x06
/-- FABRIC_CTRL: R303. -/
abbrev FABRIC_CTRL_UNREACH_DROPS : Nat := objKey 0 0x2500 0x07
/-- FABRIC_CTRL: R295. -/
abbrev FABRIC_CTRL_MISROUTED : Nat := objKey 0 0x2500 0x08
/-- FABRIC_CTRL: R295. -/
abbrev FABRIC_CTRL_AIS_CELLS : Nat := objKey 0 0x2500 0x09
/-- FABRIC_CTRL: R298, R306. -/
abbrev FABRIC_CTRL_BAD_MESSAGES : Nat := objKey 0 0x2500 0x0A
/-- REASSEMBLY: From 1,000 to 1,000,000. -/
abbrev REASSEMBLY_REASM_TIMEOUT_NS : Nat := objKey 0 0x2501 0x01
/-- REASSEMBLY: From 1 to 4,096. -/
abbrev REASSEMBLY_SRC_CTX_MAX : Nat := objKey 0 0x2501 0x02
/-- REASSEMBLY: Open contexts. -/
abbrev REASSEMBLY_CTX_IN_USE : Nat := objKey 0 0x2501 0x03
/-- REASSEMBLY: Most open contexts since the last read. -/
abbrev REASSEMBLY_CTX_MAX_USED : Nat := objKey 0 0x2501 0x04
/-- REASSEMBLY: Packets delivered to admission. -/
abbrev REASSEMBLY_PACKETS : Nat := objKey 0 0x2501 0x05
/-- REASSEMBLY: R307. -/
abbrev REASSEMBLY_CTX_REFUSED : Nat := objKey 0 0x2501 0x06
/-- REASSEMBLY: R308. -/
abbrev REASSEMBLY_FORMAT_ERRORS : Nat := objKey 0 0x2501 0x07
/-- REASSEMBLY: R309. -/
abbrev REASSEMBLY_TIMEOUTS : Nat := objKey 0 0x2501 0x08
/-- REASSEMBLY: R313, R314. -/
abbrev REASSEMBLY_LOST_TAGS : Nat := objKey 0 0x2501 0x09
/-- REASSEMBLY: R311. -/
abbrev REASSEMBLY_LATE_CELLS : Nat := objKey 0 0x2501 0x0A
/-- REASSEMBLY: R311. -/
abbrev REASSEMBLY_WINDOW_SKIPS : Nat := objKey 0 0x2501 0x0B
/-- REASSEMBLY: R310. -/
abbrev REASSEMBLY_UNMAPPED : Nat := objKey 0 0x2501 0x0C
/-- FABRIC_PORT_MAP: Scheduler port from 0 to 135 for q = subindex − 1; 0xFF = none. -/
abbrev FABRIC_PORT_MAP_MAP_Q (k : Nat) : Nat := objKey 0 0x2502 (0x01 + k)
/-- LINK_PM: EB that make an SES, from 1 to 6,056,201; the default is 15 % of a second's frames, rounded down. -/
abbrev LINK_PM_SES_BLOCKS : Nat := objKey 0 0x2503 0x01
/-- LINK_PM: 15-minute ES threshold; 0 = none. -/
abbrev LINK_PM_TCA_ES : Nat := objKey 0 0x2503 0x02
/-- LINK_PM: 15-minute SES threshold. -/
abbrev LINK_PM_TCA_SES : Nat := objKey 0 0x2503 0x03
/-- LINK_PM: 15-minute UAS threshold. -/
abbrev LINK_PM_TCA_UAS : Nat := objKey 0 0x2503 0x04
/-- LINK_PM: 15-minute BBE threshold. -/
abbrev LINK_PM_TCA_BBE : Nat := objKey 0 0x2503 0x05
/-- SCHED_LANE: 1 = scheduled lane in service, R329. -/
abbrev SCHED_LANE_SL_ENABLE (n : Nat) : Nat := objKey 0 (0x2510 + n) 0x01
/-- SCHED_LANE: Fabric lane from 0 to 159. -/
abbrev SCHED_LANE_SL_LANE (n : Nat) : Nat := objKey 0 (0x2510 + n) 0x02
/-- SCHED_LANE: Active transmit page. -/
abbrev SCHED_LANE_TX_PAGE (n : Nat) : Nat := objKey 0 (0x2510 + n) 0x03
/-- SCHED_LANE: Active receive page. -/
abbrev SCHED_LANE_RX_PAGE (n : Nat) : Nat := objKey 0 (0x2510 + n) 0x04
/-- SCHED_LANE: R335. -/
abbrev SCHED_LANE_SWITCHES (n : Nat) : Nat := objKey 0 (0x2510 + n) 0x05
/-- SCHED_LANE: R335. -/
abbrev SCHED_LANE_SWITCH_MERGED (n : Nat) : Nat := objKey 0 (0x2510 + n) 0x06
/-- SCHED_LANE: R336. -/
abbrev SCHED_LANE_PAGE_ERRORS (n : Nat) : Nat := objKey 0 (0x2510 + n) 0x07
/-- SCHED_LANE: R333. -/
abbrev SCHED_LANE_SLOT_MISMATCH (n : Nat) : Nat := objKey 0 (0x2510 + n) 0x08
/-- SCHED_LANE: R333. -/
abbrev SCHED_LANE_SEQ_ERRORS (n : Nat) : Nat := objKey 0 (0x2510 + n) 0x09
/-- SCHED_LANE: R334. -/
abbrev SCHED_LANE_FILL_CELLS (n : Nat) : Nat := objKey 0 (0x2510 + n) 0x0A
/-- SCHED_LANE: R337. -/
abbrev SCHED_LANE_FLOW_ABORTS (n : Nat) : Nat := objKey 0 (0x2510 + n) 0x0B
/-- PARSER_CTRL: Active graph bank, 0 or 1. -/
abbrev PARSER_CTRL_ACTIVE_BANK : Nat := objKey 0 0x3000 0x01
/-- PARSER_CTRL: Writes of ACTIVE_BANK that changed the active bank, since package reset (R60). -/
abbrev PARSER_CTRL_BANK_SWITCHES : Nat := objKey 0 0x3000 0x02
/-- PARSER_CTRL: Bank to load with the default graph; BUSY if it is the active bank. -/
abbrev PARSER_CTRL_RESTORE_DEFAULT : Nat := objKey 0 0x3000 0x03
/-- PARSE_STATS: Walks ending in ACCEPT without the partial flag. -/
abbrev PARSE_STATS_ACCEPTED : Nat := objKey 0 0x3001 0x01
/-- PARSE_STATS: Walks ending in ACCEPT with the partial flag. -/
abbrev PARSE_STATS_PARTIAL : Nat := objKey 0 0x3001 0x02
/-- PARSE_STATS: Failures with codes 1 to 9 of R56. -/
abbrev PARSE_STATS_FAIL (k : Nat) : Nat := objKey 0 0x3001 (0x03 + k)
/-- TREE_SET: Pending tree count, from 0 to 4. -/
abbrev TREE_SET_TREES (n : Nat) : Nat := objKey 0 (0x3040 + n) 0x01
/-- TREE_SET: Pending root node index in [17:0]. -/
abbrev TREE_SET_ROOT (n : Nat) (k : Nat) : Nat := objKey 0 (0x3040 + n) (0x02 + k)
/-- TREE_SET: 1 = activate the pending values. -/
abbrev TREE_SET_COMMIT (n : Nat) : Nat := objKey 0 (0x3040 + n) 0x06
/-- TREE_SET: Commits since package reset. -/
abbrev TREE_SET_GENERATION (n : Nat) : Nat := objKey 0 (0x3040 + n) 0x07
/-- TREE_SET: Walk errors, never cleared. -/
abbrev TREE_SET_WALK_ERRORS (n : Nat) : Nat := objKey 0 (0x3040 + n) 0x08
/-- USER_KEY: Field ID: 2, 3, 13, 14, 21, 24 or 25; INVALID otherwise. -/
abbrev USER_KEY_KEY_FIELD (n : Nat) : Nat := objKey 0 (0x3050 + n) 0x01
/-- USER_KEY: Exact-match table holding the user entries. -/
abbrev USER_KEY_TABLE (n : Nat) : Nat := objKey 0 (0x3050 + n) 0x02
/-- USER_KEY: Bearer for QFI q from 0 to 31 in [2q+1:2q]. -/
abbrev USER_KEY_QFI_MAP_LO (n : Nat) : Nat := objKey 0 (0x3050 + n) 0x03
/-- USER_KEY: Bearer for QFI q from 32 to 63 in [2(q−32)+1:2(q−32)]. -/
abbrev USER_KEY_QFI_MAP_HI (n : Nat) : Nat := objKey 0 (0x3050 + n) 0x04
/-- USER_KEY: Absent keys and lookup misses, never cleared. -/
abbrev USER_KEY_MISSES (n : Nat) : Nat := objKey 0 (0x3050 + n) 0x05
/-- HASH_CTRL: Initial CRC value for the ECMP hash. -/
abbrev HASH_CTRL_ECMP_SEED : Nat := objKey 0 0x3060 0x01
/-- HASH_CTRL: Initial CRC value for the LAG hash. -/
abbrev HASH_CTRL_LAG_SEED : Nat := objKey 0 0x3060 0x02
/-- HASH_CTRL: Hash GTP-U on inner fields. -/
abbrev HASH_CTRL_GTP_INNER : Nat := objKey 0 0x3060 0x03
/-- HASH_CTRL: Hash VXLAN on inner fields. -/
abbrev HASH_CTRL_VXLAN_INNER : Nat := objKey 0 0x3060 0x04
/-- HASH_CTRL: Include IPV6_FLOW. -/
abbrev HASH_CTRL_FLOW_LABEL : Nat := objKey 0 0x3060 0x05
/-- HASH_CTRL: Labels hashed for non-IP MPLS, from 0 to 8. -/
abbrev HASH_CTRL_MPLS_LABELS : Nat := objKey 0 0x3060 0x06
/-- PORT_CLASSIFY: First parse state. -/
abbrev PORT_CLASSIFY_START_STATE (n : Nat) : Nat := objKey 0 (0x3100 + n) 0x01
/-- PORT_CLASSIFY: Key profile from 0 to 63. -/
abbrev PORT_CLASSIFY_KEY_PROFILE (n : Nat) : Nat := objKey 0 (0x3100 + n) 0x02
/-- PORT_CLASSIFY: Tree set from 0 to 15; 0xFF = no classification. -/
abbrev PORT_CLASSIFY_TREE_SET (n : Nat) : Nat := objKey 0 (0x3100 + n) 0x03
/-- PORT_CLASSIFY: Action word of R72. -/
abbrev PORT_CLASSIFY_DEFAULT_ACTION (n : Nat) : Nat := objKey 0 (0x3100 + n) 0x04
/-- PORT_CLASSIFY: 0 = DROP, 1 = DEFAULT, 2 = HOST. -/
abbrev PORT_CLASSIFY_PARSE_FAIL_MODE (n : Nat) : Nat := objKey 0 (0x3100 + n) 0x05
/-- PORT_CLASSIFY: IN_VRF, from 0 to 4,095. -/
abbrev PORT_CLASSIFY_VRF (n : Nat) : Nat := objKey 0 (0x3100 + n) 0x06
/-- PORT_CLASSIFY: Parse failures on this port. -/
abbrev PORT_CLASSIFY_PARSE_FAILS (n : Nat) : Nat := objKey 0 (0x3100 + n) 0x07
/-- PORT_CLASSIFY: Searches of a tree set that found no match, a set with TREES 0 included. Packets of a port whose TREE_SET is 0. -/
abbrev PORT_CLASSIFY_NO_MATCH (n : Nat) : Nat := objKey 0 (0x3100 + n) 0x08
/-- KEY_PROFILE: Slot k in [8k+7:8k] for slots 0 to 7; 0 ends the list. -/
abbrev KEY_PROFILE_SLOTS_LO (n : Nat) : Nat := objKey 0 (0x3200 + n) 0x01
/-- KEY_PROFILE: Slots 8 to 15 in the same form. -/
abbrev KEY_PROFILE_SLOTS_HI (n : Nat) : Nat := objKey 0 (0x3200 + n) 0x02
/-- KEY_PROFILE: Total field width in bits. -/
abbrev KEY_PROFILE_WIDTH (n : Nat) : Nat := objKey 0 (0x3200 + n) 0x03
/-- TABLE_MEMORY: Full scrub pass in ms, from 100 to 60,000. -/
abbrev TABLE_MEMORY_SCRUB_PERIOD : Nat := objKey 0 0x3300 0x01
/-- TABLE_MEMORY: Parity errors found in every region of table memory, resolution tables included, R127. -/
abbrev TABLE_MEMORY_PARITY_TOTAL : Nat := objKey 0 0x3300 0x02
/-- TABLE_MEMORY: Bank whose row was read with the last error; 0xFFFF = none. -/
abbrev TABLE_MEMORY_LAST_PARITY_BANK : Nat := objKey 0 0x3300 0x03
/-- EM_TABLE: 1 = searched and maintained; 0 = every search misses, and the contents are kept. -/
abbrev EM_TABLE_ENABLE (n : Nat) : Nat := objKey 0 (0x3310 + n) 0x01
/-- EM_TABLE: 0 = GENERIC, 1 = USER, 2 = L2. -/
abbrev EM_TABLE_KIND (n : Nat) : Nat := objKey 0 (0x3310 + n) 0x02
/-- EM_TABLE: 0 = narrow, 1 = wide. -/
abbrev EM_TABLE_WIDTH (n : Nat) : Nat := objKey 0 (0x3310 + n) 0x03
/-- EM_TABLE: First region bank, from 0 to 614. -/
abbrev EM_TABLE_BANK_FIRST (n : Nat) : Nat := objKey 0 (0x3310 + n) 0x04
/-- EM_TABLE: Banks, from 1 to 615. -/
abbrev EM_TABLE_BANK_COUNT (n : Nat) : Nat := objKey 0 (0x3310 + n) 0x05
/-- EM_TABLE: Initial value of h1. -/
abbrev EM_TABLE_SEED1 (n : Nat) : Nat := objKey 0 (0x3310 + n) 0x06
/-- EM_TABLE: Initial value of h2. -/
abbrev EM_TABLE_SEED2 (n : Nat) : Nat := objKey 0 (0x3310 + n) 0x07
/-- EM_TABLE: 0 = FAIL, 1 = RANDOM, 2 = OLDEST. -/
abbrev EM_TABLE_EVICT_MODE (n : Nat) : Nat := objKey 0 (0x3310 + n) 0x08
/-- EM_TABLE: Learn-event completion ring, from 0 to 1,023; 0xFFFF = none. -/
abbrev EM_TABLE_EVENT_CQ (n : Nat) : Nat := objKey 0 (0x3310 + n) 0x09
/-- EM_TABLE: Stamp tick in µs, from 1,000 to 60,000,000. -/
abbrev EM_TABLE_STAMP_UNIT (n : Nat) : Nat := objKey 0 (0x3310 + n) 0x0A
/-- EM_TABLE: Age in ticks, from 1 to 32,768; 0 = no ageing. -/
abbrev EM_TABLE_AGE_LIMIT (n : Nat) : Nat := objKey 0 (0x3310 + n) 0x0B
/-- EM_TABLE: 1 = hits refresh the stamp. -/
abbrev EM_TABLE_HIT_REFRESH (n : Nat) : Nat := objKey 0 (0x3310 + n) 0x0C
/-- EM_TABLE: 1 = learn; honoured for KIND 2 only. -/
abbrev EM_TABLE_LEARN_ENABLE (n : Nat) : Nat := objKey 0 (0x3310 + n) 0x0D
/-- EM_TABLE: Current stamp. -/
abbrev EM_TABLE_STAMP_NOW (n : Nat) : Nat := objKey 0 (0x3310 + n) 0x0E
/-- EM_TABLE: Valid entries. -/
abbrev EM_TABLE_ENTRIES (n : Nat) : Nat := objKey 0 (0x3310 + n) 0x0F
/-- EM_TABLE: Locked entries. -/
abbrev EM_TABLE_LOCKED (n : Nat) : Nat := objKey 0 (0x3310 + n) 0x10
/-- EM_TABLE: Static entries. -/
abbrev EM_TABLE_STATIC (n : Nat) : Nat := objKey 0 (0x3310 + n) 0x11
/-- EM_TABLE: Entries created by learning. -/
abbrev EM_TABLE_LEARNED (n : Nat) : Nat := objKey 0 (0x3310 + n) 0x12
/-- EM_TABLE: Station moves applied. -/
abbrev EM_TABLE_MOVED (n : Nat) : Nat := objKey 0 (0x3310 + n) 0x13
/-- EM_TABLE: Moves refused on static entries. -/
abbrev EM_TABLE_MOVE_DENIED (n : Nat) : Nat := objKey 0 (0x3310 + n) 0x14
/-- EM_TABLE: Entries deleted by the ager. -/
abbrev EM_TABLE_AGED (n : Nat) : Nat := objKey 0 (0x3310 + n) 0x15
/-- EM_TABLE: Entries evicted. -/
abbrev EM_TABLE_EVICTED (n : Nat) : Nat := objKey 0 (0x3310 + n) 0x16
/-- EM_TABLE: Inserts ending in FULL, learning included. -/
abbrev EM_TABLE_INSERT_FAILS (n : Nat) : Nat := objKey 0 (0x3310 + n) 0x17
/-- EM_TABLE: Relocation moves executed. -/
abbrev EM_TABLE_RELOCATIONS (n : Nat) : Nat := objKey 0 (0x3310 + n) 0x18
/-- EM_TABLE: Locked entries skipped. -/
abbrev EM_TABLE_DEFERRALS (n : Nat) : Nat := objKey 0 (0x3310 + n) 0x19
/-- EM_TABLE: Learn requests dropped. -/
abbrev EM_TABLE_LEARN_DROPS (n : Nat) : Nat := objKey 0 (0x3310 + n) 0x1A
/-- EM_TABLE: Entries invalidated by parity. -/
abbrev EM_TABLE_PARITY_ERRORS (n : Nat) : Nat := objKey 0 (0x3310 + n) 0x1B
/-- EM_TABLE: PARITY reports not written to the ring. -/
abbrev EM_TABLE_EVENT_DROPS (n : Nat) : Nat := objKey 0 (0x3310 + n) 0x1C
/-- EM_TABLE: 1 = learning and ageing paused by a full event ring. -/
abbrev EM_TABLE_PAUSED (n : Nat) : Nat := objKey 0 (0x3310 + n) 0x1D
/-- LPM_CTRL: IPv4 routes held. -/
abbrev LPM_CTRL_V4_ROUTES : Nat := objKey 0 0x3320 0x01
/-- LPM_CTRL: IPv6 routes held. -/
abbrev LPM_CTRL_V6_ROUTES : Nat := objKey 0 0x3320 0x02
/-- LPM_CTRL: Percentage of a family total, from 50 to 100, at which E-3105 is raised. -/
abbrev LPM_CTRL_FULL_WARN : Nat := objKey 0 0x3320 0x03
/-- LPM_CTRL: Route changes applied. -/
abbrev LPM_CTRL_UPDATES : Nat := objKey 0 0x3320 0x04
/-- LPM_CTRL: Routes invalidated by parity. -/
abbrev LPM_CTRL_PARITY_LOSSES : Nat := objKey 0 0x3320 0x05
/-- LPM_CTRL: Label entries with VALID 1. -/
abbrev LPM_CTRL_LABELS_VALID : Nat := objKey 0 0x3320 0x06
/-- LPM_CTRL: Number of the next loss of routes by parity, R588. -/
abbrev LPM_CTRL_LOSS_NEXT : Nat := objKey 0 0x3320 0x07
/-- TCAM_TABLE: 1 = searchable; INVALID if widths differ, banks overlap another enabled table, banks run beyond TB15, or the p. -/
abbrev TCAM_TABLE_ENABLE (n : Nat) : Nat := objKey 0 (0x3340 + n) 0x01
/-- TCAM_TABLE: First bank, from 0 to 15. -/
abbrev TCAM_TABLE_BANK_FIRST (n : Nat) : Nat := objKey 0 (0x3340 + n) 0x02
/-- TCAM_TABLE: Banks, from 1 to 16; BANK_FIRST + BANK_COUNT at most 16, checked at enable. -/
abbrev TCAM_TABLE_BANK_COUNT (n : Nat) : Nat := objKey 0 (0x3340 + n) 0x03
/-- TCAM_TABLE: Key profile, from 0 to 63. -/
abbrev TCAM_TABLE_KEY_PROFILE (n : Nat) : Nat := objKey 0 (0x3340 + n) 0x04
/-- TCAM_TABLE: BANK_COUNT × 4,096 / W. -/
abbrev TCAM_TABLE_POSITIONS (n : Nat) : Nat := objKey 0 (0x3340 + n) 0x05
/-- TCAM_TABLE: Valid entries. -/
abbrev TCAM_TABLE_VALID_COUNT (n : Nat) : Nat := objKey 0 (0x3340 + n) 0x06
/-- TCAM_TABLE: Searches made. -/
abbrev TCAM_TABLE_SEARCHES (n : Nat) : Nat := objKey 0 (0x3340 + n) 0x07
/-- TCAM_TABLE: Searches that matched. -/
abbrev TCAM_TABLE_HITS (n : Nat) : Nat := objKey 0 (0x3340 + n) 0x08
/-- TCAM_BANKS: Bank width in units: 1, 2 or 4. -/
abbrev TCAM_BANKS_WIDTH_TB (k : Nat) : Nat := objKey 0 0x3350 (0x01 + k)
/-- TCAM_SCRUB: Replica units rewritten from the shadow. -/
abbrev TCAM_SCRUB_REPLICA_FIXES : Nat := objKey 0 0x3360 0x01
/-- TCAM_SCRUB: Shadow units restored from replicas. -/
abbrev TCAM_SCRUB_SHADOW_RECOVERED : Nat := objKey 0 0x3360 0x02
/-- TCAM_SCRUB: Entries invalidated for want of a majority. -/
abbrev TCAM_SCRUB_SHADOW_LOST : Nat := objKey 0 0x3360 0x03
/-- TCAM_SCRUB: Entries copied by move jobs. -/
abbrev TCAM_SCRUB_MOVED_ENTRIES : Nat := objKey 0 0x3360 0x04
/-- PORT_LOOKUP: Profile from 0 to 15. -/
abbrev PORT_LOOKUP_LOOKUP_PROFILE (n : Nat) : Nat := objKey 0 (0x3400 + n) 0x01
/-- PORT_LOOKUP: Forwarding domain for L2 keys, from 0 to 4,095. -/
abbrev PORT_LOOKUP_FWD_DOMAIN (n : Nat) : Nat := objKey 0 (0x3400 + n) 0x02
/-- PORT_LOOKUP: 1 = the forwarding domain is OUTER_VID when present, else FWD_DOMAIN. -/
abbrev PORT_LOOKUP_FD_FROM_VID (n : Nat) : Nat := objKey 0 (0x3400 + n) 0x03
/-- PORT_LOOKUP: LAG group from 0 to 255 of which the port is a member; 0xFFFF = none. -/
abbrev PORT_LOOKUP_SRC_LAG (n : Nat) : Nat := objKey 0 (0x3400 + n) 0x04
/-- PORT_LOOKUP: Edit template for L2-forwarded packets. -/
abbrev PORT_LOOKUP_BRIDGE_TEMPLATE (n : Nat) : Nat := objKey 0 (0x3400 + n) 0x05
/-- RESOLUTION: FS sector from 0 to 7 for recirculated packets. -/
abbrev RESOLUTION_RECIRC_SECTOR : Nat := objKey 0 0x3490 0x01
/-- RESOLUTION: DROP pointers, invalid next hops and invalid ECMP groups. -/
abbrev RESOLUTION_DROPPED : Nat := objKey 0 0x3490 0x02
/-- RESOLUTION: Packets sent to HP by a TRAP pointer. -/
abbrev RESOLUTION_TRAPPED : Nat := objKey 0 0x3490 0x03
/-- RESOLUTION: R142. -/
abbrev RESOLUTION_SELF_DEST : Nat := objKey 0 0x3490 0x04
/-- RESOLUTION: R143. -/
abbrev RESOLUTION_SELECTOR_MISMATCH : Nat := objKey 0 0x3490 0x05
/-- RESOLUTION: R141. -/
abbrev RESOLUTION_LAG_EMPTY : Nat := objKey 0 0x3490 0x06
/-- RESOLUTION: R146. -/
abbrev RESOLUTION_MC_DROPS : Nat := objKey 0 0x3490 0x07
/-- RESOLUTION: R155. -/
abbrev RESOLUTION_RECIRC_DROPS : Nat := objKey 0 0x3490 0x08
/-- RESOLUTION: R152. -/
abbrev RESOLUTION_EDIT_ERRORS : Nat := objKey 0 0x3490 0x09
/-- RESOLUTION: R152. -/
abbrev RESOLUTION_MTU_DROPS : Nat := objKey 0 0x3490 0x0A
/-- RESOLUTION: R156. -/
abbrev RESOLUTION_PARITY_DROPS : Nat := objKey 0 0x3490 0x0B
/-- LOOKUP_PROFILE: Exact-match search: [31] enable; [27:24] table; [23:16] field ID; [9:8] purpose, 0 = FORWARD, 1 = HOST_ROUTE, . -/
abbrev LOOKUP_PROFILE_EM (n : Nat) (k : Nat) : Nat := objKey 0 (0x34A0 + n) (0x01 + k)
/-- LOOKUP_PROFILE: 0 = none; 1 = IP_DA in IN_VRF; 2 = label if MPLS_DEPTH ≥ 1, else IP_DA; 3 = label only. -/
abbrev LOOKUP_PROFILE_LPM_MODE (n : Nat) : Nat := objKey 0 (0x34A0 + n) 0x05
/-- LOOKUP_PROFILE: TCAM table from 0 to 3; 0xFF = none. -/
abbrev LOOKUP_PROFILE_TCAM_TABLE (n : Nat) : Nat := objKey 0 (0x34A0 + n) 0x06
/-- LOOKUP_PROFILE: Forwarding pointer used when nothing else resolves; the default drops with reason 1. -/
abbrev LOOKUP_PROFILE_MISS_PTR (n : Nat) : Nat := objKey 0 (0x34A0 + n) 0x07
/-- LOOKUP_PROFILE: 1 = trap routed packets whose TTL is at most 1. -/
abbrev LOOKUP_PROFILE_TTL_CHECK (n : Nat) : Nat := objKey 0 (0x34A0 + n) 0x08
/-- PIPE_POOL: 0 = fixed, 1 = automatic. -/
abbrev PIPE_POOL_MODE (n : Nat) : Nat := objKey 0 (0x34B0 + n) 0x01
/-- PIPE_POOL: [3:0] = pipelines 4s to 4s + 3; 0 is INVALID. -/
abbrev PIPE_POOL_POOL_MASK (n : Nat) : Nat := objKey 0 (0x34B0 + n) 0x02
/-- PIPE_POOL: Pipelines now active. -/
abbrev PIPE_POOL_ACTIVE_MASK (n : Nat) : Nat := objKey 0 (0x34B0 + n) 0x03
/-- PIPE_POOL: From 50 to 95. -/
abbrev PIPE_POOL_HIGH_PCT (n : Nat) : Nat := objKey 0 (0x34B0 + n) 0x04
/-- PIPE_POOL: From 5 to 45, and below HIGH_PCT. -/
abbrev PIPE_POOL_LOW_PCT (n : Nat) : Nat := objKey 0 (0x34B0 + n) 0x05
/-- PIPE_POOL: Active-set changes. -/
abbrev PIPE_POOL_CHANGES (n : Nat) : Nat := objKey 0 (0x34B0 + n) 0x06
/-- PORT_METER: 0 = none, 1 = CLASS, 2 = USER. -/
abbrev PORT_METER_METER_MODE (n : Nat) : Nat := objKey 0 (0x3500 + n) 0x01
/-- PORT_METER: From 0 to 262,136. -/
abbrev PORT_METER_CLASS_BASE (n : Nat) : Nat := objKey 0 (0x3500 + n) 0x02
/-- PORT_METER: From 0 to 131,072. -/
abbrev PORT_METER_USER_BASE (n : Nat) : Nat := objKey 0 (0x3500 + n) 0x03
/-- PORT_METER: Packets from this source dropped red. -/
abbrev PORT_METER_METER_DROPS (n : Nat) : Nat := objKey 0 (0x3500 + n) 0x04
/-- METER_CTRL: Packets metered. -/
abbrev METER_CTRL_METERED : Nat := objKey 0 0x3590 0x01
/-- METER_CTRL: Red packets dropped. -/
abbrev METER_CTRL_RED_DROPS : Nat := objKey 0 0x3590 0x02
/-- METER_CTRL: Corrected words in meter memory. -/
abbrev METER_CTRL_ECC_CORRECTED : Nat := objKey 0 0x3590 0x03
/-- METER_CTRL: Uncorrectable words in meter memory. -/
abbrev METER_CTRL_ECC_UNCORRECTED : Nat := objKey 0 0x3590 0x04
/-- TM_CTRL: 1 = scheduling in service. -/
abbrev TM_CTRL_SCHED_ENABLE : Nat := objKey 0 0x4000 0x01
/-- TM_CTRL: Combined index to flush, R207. -/
abbrev TM_CTRL_FLUSH_QUEUE : Nat := objKey 0 0x4000 0x02
/-- TM_CTRL: Flushes completed. -/
abbrev TM_CTRL_FLUSHED : Nat := objKey 0 0x4000 0x03
/-- TM_CTRL: R188. -/
abbrev TM_CTRL_NO_QUEUE_DROPS : Nat := objKey 0 0x4000 0x04
/-- TM_CTRL: Corrected words in queue-state SRAM. -/
abbrev TM_CTRL_ECC_CORRECTED : Nat := objKey 0 0x4000 0x05
/-- TM_CTRL: Uncorrectable words in queue-state SRAM. -/
abbrev TM_CTRL_ECC_UNCORRECTED : Nat := objKey 0 0x4000 0x06
/-- SCHED_PORT: Bytes, from 2,048 to 131,072; 0 = automatic, R192. -/
abbrev SCHED_PORT_TX_WINDOW (n : Nat) : Nat := objKey 0 (0x4010 + n) 0x01
/-- SCHED_PORT: Bytes added to each charge, from −64 to +255. -/
abbrev SCHED_PORT_LEN_ADJ (n : Nat) : Nat := objKey 0 (0x4010 + n) 0x02
/-- SCHED_PORT: R192. -/
abbrev SCHED_PORT_OUTSTANDING (n : Nat) : Nat := objKey 0 (0x4010 + n) 0x03
/-- SCHED_PORT: Packets selected for the port. -/
abbrev SCHED_PORT_DEQ_PACKETS (n : Nat) : Nat := objKey 0 (0x4010 + n) 0x04
/-- SCHED_PORT: LENGTH of those packets. -/
abbrev SCHED_PORT_DEQ_BYTES (n : Nat) : Nat := objKey 0 (0x4010 + n) 0x05
/-- CREDIT_PORT: From 100 to 150. -/
abbrev CREDIT_PORT_CREDIT_PCT (n : Nat) : Nat := objKey 0 (0x40A0 + n) 0x01
/-- CREDIT_PORT: Units, from 64 to 16,777,216. -/
abbrev CREDIT_PORT_CREDIT_HOLD (n : Nat) : Nat := objKey 0 (0x40A0 + n) 0x02
/-- CREDIT_PORT: Units, from 0 to CREDIT_HOLD − 1; INVALID otherwise. -/
abbrev CREDIT_PORT_CREDIT_RESUME (n : Nat) : Nat := objKey 0 (0x40A0 + n) 0x03
/-- CREDIT_PORT: Credit granted. -/
abbrev CREDIT_PORT_GRANTED_BYTES (n : Nat) : Nat := objKey 0 (0x40A0 + n) 0x04
/-- CREDIT_PORT: 1 = generation stopped by CREDIT_HOLD. -/
abbrev CREDIT_PORT_HELD (n : Nat) : Nat := objKey 0 (0x40A0 + n) 0x05
/-- QUEUE_SAMPLING: Rounds begun. -/
abbrev QUEUE_SAMPLING_ROUNDS : Nat := objKey 0 0x4120 0x01
/-- QUEUE_SAMPLING: Start of the current round. -/
abbrev QUEUE_SAMPLING_ROUND_START : Nat := objKey 0 0x4120 0x02
/-- QUEUE_SAMPLING: [20] lap bit; [19:0] next entry to be written. -/
abbrev QUEUE_SAMPLING_LOG_INDEX : Nat := objKey 0 0x4120 0x03
/-- QUEUE_SAMPLING: Unread entries overwritten. -/
abbrev QUEUE_SAMPLING_LOG_WRAPS : Nat := objKey 0 0x4120 0x04
/-- QUEUE_SAMPLING: Valid marked entries. -/
abbrev QUEUE_SAMPLING_MARKED_VALID : Nat := objKey 0 0x4120 0x05
/-- VOQ_CTRL: Largest credit balance in bytes, from 16,384 to 16,777,216. -/
abbrev VOQ_CTRL_BALANCE_MAX : Nat := objKey 0 0x4130 0x01
/-- VOQ_CTRL: Credit bytes discarded, R208. -/
abbrev VOQ_CTRL_CREDIT_WASTED : Nat := objKey 0 0x4130 0x02
/-- VOQ_CTRL: Packets sent from VOQs into the fabric. -/
abbrev VOQ_CTRL_FABRIC_PACKETS : Nat := objKey 0 0x4130 0x03
/-- CREDIT_CTRL: Multiple of 256 from 512 to 65,536. -/
abbrev CREDIT_CTRL_GRANT_BYTES : Nat := objKey 0 0x4131 0x01
/-- CREDIT_CTRL: Bytes, from 16,384 to BALANCE_MAX. -/
abbrev CREDIT_CTRL_REQ_LEVEL : Nat := objKey 0 0x4131 0x02
/-- CREDIT_CTRL: From 10 to 10,000. -/
abbrev CREDIT_CTRL_REFRESH_US : Nat := objKey 0 0x4131 0x03
/-- CREDIT_CTRL: REQUEST messages sent. -/
abbrev CREDIT_CTRL_REQUESTS_SENT : Nat := objKey 0 0x4131 0x04
/-- CREDIT_CTRL: GRANT messages sent. -/
abbrev CREDIT_CTRL_GRANTS_SENT : Nat := objKey 0 0x4131 0x05
/-- CREDIT_CTRL: GRANT messages applied. -/
abbrev CREDIT_CTRL_GRANTS_RECEIVED : Nat := objKey 0 0x4131 0x06
/-- CREDIT_CTRL: R305. -/
abbrev CREDIT_CTRL_STALE_REQUESTS : Nat := objKey 0 0x4131 0x07
/-- CREDIT_SPECIAL: From 100 to 150, of the port's SPAN_RATE. -/
abbrev CREDIT_SPECIAL_CREDIT_PCT (n : Nat) : Nat := objKey 0 (0x4138 + n) 0x01
/-- CREDIT_SPECIAL: Units, from 64 to 16,777,216. -/
abbrev CREDIT_SPECIAL_CREDIT_HOLD (n : Nat) : Nat := objKey 0 (0x4138 + n) 0x02
/-- CREDIT_SPECIAL: Units, from 0 to CREDIT_HOLD − 1; INVALID otherwise. -/
abbrev CREDIT_SPECIAL_CREDIT_RESUME (n : Nat) : Nat := objKey 0 (0x4138 + n) 0x03
/-- CREDIT_SPECIAL: Credit granted. -/
abbrev CREDIT_SPECIAL_GRANTED_BYTES (n : Nat) : Nat := objKey 0 (0x4138 + n) 0x04
/-- CREDIT_SPECIAL: 1 = generation stopped by CREDIT_HOLD. -/
abbrev CREDIT_SPECIAL_HELD (n : Nat) : Nat := objKey 0 (0x4138 + n) 0x05
/-- PORT_TIMING: 1 = gate lists in force. -/
abbrev PORT_TIMING_GATE_ENABLE (n : Nat) : Nat := objKey 0 (0x4140 + n) 0x01
/-- PORT_TIMING: Bit c = 1: class c is gated. -/
abbrev PORT_TIMING_GATED_CLASSES (n : Nat) : Nat := objKey 0 (0x4140 + n) 0x02
/-- PORT_TIMING: Active list bank, 0 or 1. -/
abbrev PORT_TIMING_ACTIVE_BANK (n : Nat) : Nat := objKey 0 (0x4140 + n) 0x03
/-- PORT_TIMING: Entries in bank 0, from 0 to 64. -/
abbrev PORT_TIMING_COUNT_B (n : Nat) (k : Nat) : Nat := objKey 0 (0x4140 + n) (0x04 + k)
/-- PORT_TIMING: 0 = FIXED, 1 = LENGTH. -/
abbrev PORT_TIMING_GUARD_MODE (n : Nat) : Nat := objKey 0 (0x4140 + n) 0x06
/-- PORT_TIMING: From 0 to 100,000. -/
abbrev PORT_TIMING_GUARD_NS (n : Nat) : Nat := objKey 0 (0x4140 + n) 0x07
/-- PORT_TIMING: ns from selection to first bit, per port mode as Line Ports gives it. -/
abbrev PORT_TIMING_TX_LEAD (n : Nat) : Nat := objKey 0 (0x4140 + n) 0x08
/-- PORT_TIMING: Span rate in Mb/s for ports 128 to 135, from 1,000 to 1,600,000; for ports 0 to 127 it reads PORT_SPEED, and a. -/
abbrev PORT_TIMING_SPAN_RATE (n : Nat) : Nat := objKey 0 (0x4140 + n) 0x09
/-- PORT_TIMING: Entry now in force; 0xFF = none. -/
abbrev PORT_TIMING_ACTIVE_ENTRY (n : Nat) : Nat := objKey 0 (0x4140 + n) 0x0A
/-- PORT_TIMING: Cycles started. -/
abbrev PORT_TIMING_CYCLES (n : Nat) : Nat := objKey 0 (0x4140 + n) 0x0B
/-- PORT_TIMING: R243. -/
abbrev PORT_TIMING_SWAPS (n : Nat) : Nat := objKey 0 (0x4140 + n) 0x0C
/-- PORT_TIMING: R243. -/
abbrev PORT_TIMING_SWAP_REFUSED (n : Nat) : Nat := objKey 0 (0x4140 + n) 0x0D
/-- PORT_TIMING: R242. -/
abbrev PORT_TIMING_CYCLE_OVERRUNS (n : Nat) : Nat := objKey 0 (0x4140 + n) 0x0E
/-- PORT_TIMING: R245. -/
abbrev PORT_TIMING_GUARD_HOLDS (n : Nat) : Nat := objKey 0 (0x4140 + n) 0x0F
/-- PORT_TIMING: R246. -/
abbrev PORT_TIMING_WINDOW_MISSES (n : Nat) : Nat := objKey 0 (0x4140 + n) 0x10
/-- SHAPER_PROFILE: Rise code, R225. -/
abbrev SHAPER_PROFILE_RISE_RATE (n : Nat) : Nat := objKey 0 (0x4400 + n) 0x01
/-- SHAPER_PROFILE: Fall code, R225. -/
abbrev SHAPER_PROFILE_FALL_RATE (n : Nat) : Nat := objKey 0 (0x4400 + n) 0x02
/-- SHAPER_PROFILE: Largest credit in bytes, from 0 to 268,435,455. -/
abbrev SHAPER_PROFILE_MAX_CREDIT (n : Nat) : Nat := objKey 0 (0x4400 + n) 0x03
/-- SHAPER_PROFILE: 0 = reset to zero; 1 = reset to full. -/
abbrev SHAPER_PROFILE_RESET_TO (n : Nat) : Nat := objKey 0 (0x4400 + n) 0x04
/-- SHAPER_PROFILE: Enabled nodes that name this profile. -/
abbrev SHAPER_PROFILE_NODES (n : Nat) : Nat := objKey 0 (0x4400 + n) 0x05
/-- RECOMP_CTRL: FS sector from 0 to 7 whose egress pipelines serve XC. -/
abbrev RECOMP_CTRL_XC_SECTOR : Nat := objKey 0 0x5000 0x01
/-- RECOMP_CTRL: Packets sent unchanged, R255. -/
abbrev RECOMP_CTRL_PASSED : Nat := objKey 0 0x5000 0x02
/-- RECOMP_CTRL: Packets discarded, R257. -/
abbrev RECOMP_CTRL_MALFORMED : Nat := objKey 0 0x5000 0x03
/-- RECOMP_CTRL: Packets written back through XC, R253. -/
abbrev RECOMP_CTRL_XC_PACKETS : Nat := objKey 0 0x5000 0x04
/-- RECOMP_PROFILE: 1 = input sections carry udCompHdr and a reserved byte. -/
abbrev RECOMP_PROFILE_IN_HDR (n : Nat) : Nat := objKey 0 (0x5001 + n) 0x01
/-- RECOMP_PROFILE: Input format when IN_HDR is 0: udIqWidth [7:4], udCompMeth [3:0]. -/
abbrev RECOMP_PROFILE_IN_FORMAT (n : Nat) : Nat := objKey 0 (0x5001 + n) 0x02
/-- RECOMP_PROFILE: 1 = output sections carry udCompHdr and a reserved byte. -/
abbrev RECOMP_PROFILE_OUT_HDR (n : Nat) : Nat := objKey 0 (0x5001 + n) 0x03
/-- RECOMP_PROFILE: Output format, encoded as IN_FORMAT. -/
abbrev RECOMP_PROFILE_OUT_FORMAT (n : Nat) : Nat := objKey 0 (0x5001 + n) 0x04
/-- RECOMP_PROFILE: PRBs of a section with numPrbu 0, from 1 to 273. -/
abbrev RECOMP_PROFILE_ALL_PRB (n : Nat) : Nat := objKey 0 (0x5001 + n) 0x05
/-- RECOMP_PROFILE: Packets recompressed. -/
abbrev RECOMP_PROFILE_PACKETS (n : Nat) : Nat := objKey 0 (0x5001 + n) 0x06
/-- RECOMP_PROFILE: PRBs recompressed. -/
abbrev RECOMP_PROFILE_PRBS (n : Nat) : Nat := objKey 0 (0x5001 + n) 0x07
/-- RECOMP_PROFILE: Values clipped, R260. -/
abbrev RECOMP_PROFILE_CLIPPED (n : Nat) : Nat := objKey 0 (0x5001 + n) 0x08
/-- RECOMP_PROFILE: PRBs zeroed, R258. -/
abbrev RECOMP_PROFILE_BAD_PRBS (n : Nat) : Nat := objKey 0 (0x5001 + n) 0x09
/-- BUFFER_CTRL: 1 = buffers in service; see R164. -/
abbrev BUFFER_CTRL_BUF_ENABLE : Nat := objKey 0 0x5800 0x01
/-- BUFFER_CTRL: Host-control region size in MB, from 1 to 16. -/
abbrev BUFFER_CTRL_HC_SIZE_MB : Nat := objKey 0 0x5800 0x02
/-- BUFFER_CTRL: Staging cells, from 1,024 to 65,536. -/
abbrev BUFFER_CTRL_STAGE_MAX : Nat := objKey 0 0x5800 0x03
/-- BUFFER_CTRL: Cut-through permitted to scheduler ports 0 to 63. -/
abbrev BUFFER_CTRL_CT_PORTS_LO : Nat := objKey 0 0x5800 0x04
/-- BUFFER_CTRL: Ports 64 to 127. -/
abbrev BUFFER_CTRL_CT_PORTS_HI : Nat := objKey 0 0x5800 0x05
/-- BUFFER_CTRL: Packets cut through. -/
abbrev BUFFER_CTRL_CT_PACKETS : Nat := objKey 0 0x5800 0x06
/-- BUFFER_CTRL: LENGTH 0 packets stored by R181. -/
abbrev BUFFER_CTRL_CT_FALLBACK : Nat := objKey 0 0x5800 0x07
/-- BUFFER_CTRL: R182. -/
abbrev BUFFER_CTRL_CT_DISCARDED : Nat := objKey 0 0x5800 0x08
/-- BUFFER_CTRL: R182. -/
abbrev BUFFER_CTRL_CT_STOMPED : Nat := objKey 0 0x5800 0x09
/-- BUFFER_CTRL: R173. -/
abbrev BUFFER_CTRL_STAGE_FULL : Nat := objKey 0 0x5800 0x0A
/-- BUFFER_CTRL: Entries into spill mode. -/
abbrev BUFFER_CTRL_SPILL_ENTRIES : Nat := objKey 0 0x5800 0x0B
/-- BUFFER_REGION: 0 = cell chains, 1 = sized pools. -/
abbrev BUFFER_REGION_MODE (n : Nat) : Nat := objKey 0 (0x5810 + n) 0x01
/-- BUFFER_REGION: General units of the region. -/
abbrev BUFFER_REGION_TOTAL_UNITS (n : Nat) : Nat := objKey 0 (0x5810 + n) 0x02
/-- BUFFER_REGION: General units neither allocated nor reserved. -/
abbrev BUFFER_REGION_FREE_UNITS (n : Nat) : Nat := objKey 0 (0x5810 + n) 0x03
/-- BUFFER_REGION: Least FREE_UNITS since the last read. -/
abbrev BUFFER_REGION_MIN_FREE (n : Nat) : Nat := objKey 0 (0x5810 + n) 0x04
/-- BUFFER_REGION: From 5 to 50; see Errors and events. -/
abbrev BUFFER_REGION_LOW_WATER_PCT (n : Nat) : Nat := objKey 0 (0x5810 + n) 0x05
/-- BUFFER_REGION: Refusals by dynamic threshold. -/
abbrev BUFFER_REGION_REFUSED_THRESHOLD (n : Nat) : Nat := objKey 0 (0x5810 + n) 0x06
/-- BUFFER_REGION: Refusals by requester quota. -/
abbrev BUFFER_REGION_REFUSED_QUOTA (n : Nat) : Nat := objKey 0 (0x5810 + n) 0x07
/-- BUFFER_REGION: Refusals for want of a buffer. -/
abbrev BUFFER_REGION_REFUSED_EMPTY (n : Nat) : Nat := objKey 0 (0x5810 + n) 0x08
/-- BUFFER_REGION: Corrected words in data, links and free lists. -/
abbrev BUFFER_REGION_ECC_CORRECTED (n : Nat) : Nat := objKey 0 (0x5810 + n) 0x09
/-- BUFFER_REGION: Uncorrectable words. -/
abbrev BUFFER_REGION_ECC_UNCORRECTED (n : Nat) : Nat := objKey 0 (0x5810 + n) 0x0A
/-- BUFFER_REGION: Units lost to allocation until T-die warm reset. -/
abbrev BUFFER_REGION_LEAKED_UNITS (n : Nat) : Nat := objKey 0 (0x5810 + n) 0x0B
/-- POOL: Buffer size in bytes. -/
abbrev POOL_BUF_BYTES (n : Nat) : Nat := objKey 0 (0x5820 + n) 0x01
/-- POOL: Buffers; 0 = pool absent. -/
abbrev POOL_BUF_COUNT (n : Nat) : Nat := objKey 0 (0x5820 + n) 0x02
/-- POOL: Free buffers. -/
abbrev POOL_FREE (n : Nat) : Nat := objKey 0 (0x5820 + n) 0x03
/-- POOL: Least FREE since the last read. -/
abbrev POOL_MIN_FREE (n : Nat) : Nat := objKey 0 (0x5820 + n) 0x04
/-- POOL: Buffers taken. -/
abbrev POOL_ALLOCS (n : Nat) : Nat := objKey 0 (0x5820 + n) 0x05
/-- POOL: Takes by fallback, R162. -/
abbrev POOL_FALLBACKS (n : Nat) : Nat := objKey 0 (0x5820 + n) 0x06
/-- PRIV_POOL: Buffer size; ignored in a cell-chain region, where it is 256. -/
abbrev PRIV_POOL_BUF_BYTES (n : Nat) : Nat := objKey 0 (0x5838 + n) 0x01
/-- PRIV_POOL: Buffers, from 0 to 65,536. -/
abbrev PRIV_POOL_BUF_COUNT (n : Nat) : Nat := objKey 0 (0x5838 + n) 0x02
/-- PRIV_POOL: Free buffers, less reservations. -/
abbrev PRIV_POOL_FREE (n : Nat) : Nat := objKey 0 (0x5838 + n) 0x03
/-- PRIV_POOL: Least FREE since the last read. -/
abbrev PRIV_POOL_MIN_FREE (n : Nat) : Nat := objKey 0 (0x5838 + n) 0x04
/-- PRIV_POOL: Buffers taken. -/
abbrev PRIV_POOL_ALLOCS (n : Nat) : Nat := objKey 0 (0x5838 + n) 0x05
/-- PRIV_POOL: Refusals for want of room in the pool. -/
abbrev PRIV_POOL_EMPTY (n : Nat) : Nat := objKey 0 (0x5838 + n) 0x06
/-- QUOTA_PROFILE: Most units in region 0; 0xFFFF_FFFF = no limit. -/
abbrev QUOTA_PROFILE_OCB_MAX (n : Nat) : Nat := objKey 0 (0x5850 + n) 0x01
/-- QUOTA_PROFILE: Most units in region 1. -/
abbrev QUOTA_PROFILE_HC_MAX (n : Nat) : Nat := objKey 0 (0x5850 + n) 0x02
/-- QUOTA_PROFILE: Most units in region 2. -/
abbrev QUOTA_PROFILE_HBM_MAX (n : Nat) : Nat := objKey 0 (0x5850 + n) 0x03
/-- BUFFER_PROFILE: 0 = OCB with spill to HBM; 1 = host-control only. -/
abbrev BUFFER_PROFILE_REGION (n : Nat) : Nat := objKey 0 (0x5880 + n) 0x01
/-- BUFFER_PROFILE: Exponent codes: [23:20] OCB green, [19:16] OCB yellow, [15:12] OCB red, [11:8] HBM green, [7:4] HBM yellow, [3. -/
abbrev BUFFER_PROFILE_ALPHA_K (n : Nat) : Nat := objKey 0 (0x5880 + n) 0x02
/-- BUFFER_PROFILE: 1 = the queue may enter spill mode. -/
abbrev BUFFER_PROFILE_SPILL_EN (n : Nat) : Nat := objKey 0 (0x5880 + n) 0x03
/-- BUFFER_PROFILE: Units, from 1 to 16,777,216. -/
abbrev BUFFER_PROFILE_SPILL_ON (n : Nat) : Nat := objKey 0 (0x5880 + n) 0x04
/-- BUFFER_PROFILE: Units, from 0 to SPILL_ON − 1. -/
abbrev BUFFER_PROFILE_SPILL_OFF (n : Nat) : Nat := objKey 0 (0x5880 + n) 0x05
/-- BUFFER_PROFILE: Privileged pool from 1 to 4; 0 = none. -/
abbrev BUFFER_PROFILE_PRIV_POOL (n : Nat) : Nat := objKey 0 (0x5880 + n) 0x06
/-- BUFFER_PROFILE: 1 = use general buffers when the privileged pool refuses. -/
abbrev BUFFER_PROFILE_PRIV_FALLBACK (n : Nat) : Nat := objKey 0 (0x5880 + n) 0x07
/-- BUFFER_PROFILE: Packets refused in queues of this profile. -/
abbrev BUFFER_PROFILE_REFUSED (n : Nat) : Nat := objKey 0 (0x5880 + n) 0x08
/-- HBM_CTRL: From 10 to 1,000. -/
abbrev HBM_CTRL_RETRAIN_MS : Nat := objKey 0 0x6000 0x01
/-- HBM_CTRL: From 1 to 16. -/
abbrev HBM_CTRL_RETRAIN_TEMP_C : Nat := objKey 0 0x6000 0x02
/-- HBM_CTRL: Corrected errors per second per channel, from 1 to 10,000,000. -/
abbrev HBM_CTRL_CE_LIMIT : Nat := objKey 0 0x6000 0x03
/-- HBM_CTRL: From 1 to 168. -/
abbrev HBM_CTRL_SCRUB_HOURS : Nat := objKey 0 0x6000 0x04
/-- HBM_CTRL: T-side read tags in use. -/
abbrev HBM_CTRL_T_TAGS_USED : Nat := objKey 0 0x6000 0x05
/-- HBM_CTRL: F-side read tags in use. -/
abbrev HBM_CTRL_F_TAGS_USED : Nat := objKey 0 0x6000 0x06
/-- HBM_STACK: Stack temperature in °C. -/
abbrev HBM_STACK_TEMP_C (n : Nat) : Nat := objKey 0 (0x6010 + n) 0x01
/-- HBM_STACK: R357. -/
abbrev HBM_STACK_REFRESH_X2 (n : Nat) : Nat := objKey 0 (0x6010 + n) 0x02
/-- HBM_STACK: Bit c = 1: channel c failed, R362. -/
abbrev HBM_STACK_CHAN_FAILED (n : Nat) : Nat := objKey 0 (0x6010 + n) 0x03
/-- HBM_STACK: R363. -/
abbrev HBM_STACK_CE_COUNT (n : Nat) : Nat := objKey 0 (0x6010 + n) 0x04
/-- HBM_STACK: R364. -/
abbrev HBM_STACK_UE_COUNT (n : Nat) : Nat := objKey 0 (0x6010 + n) 0x05
/-- HBM_STACK: R358. -/
abbrev HBM_STACK_FORWARDED (n : Nat) : Nat := objKey 0 (0x6010 + n) 0x06
/-- HBM_STACK: R358. -/
abbrev HBM_STACK_RAW_WAITS (n : Nat) : Nat := objKey 0 (0x6010 + n) 0x07
/-- HBM_STACK: Steps run. -/
abbrev HBM_STACK_RETRAIN_STEPS (n : Nat) : Nat := objKey 0 (0x6010 + n) 0x08
/-- HBM_STACK: R362. -/
abbrev HBM_STACK_STEP_REPEATS (n : Nat) : Nat := objKey 0 (0x6010 + n) 0x09
/-- HBM_REGION: From 0 to 3, R352, R353. -/
abbrev HBM_REGION_ORDER (n : Nat) : Nat := objKey 0 (0x6020 + n) 0x01
/-- HBM_REGION: R352. -/
abbrev HBM_REGION_HASH (n : Nat) : Nat := objKey 0 (0x6020 + n) 0x02
/-- HBM_REGION: R350. -/
abbrev HBM_REGION_SIZE_MB (n : Nat) : Nat := objKey 0 (0x6020 + n) 0x03
/-- HBM_HINTS: 0 = OPEN, 1 = CLOSE, 2 = AUTO; in the order of R354. -/
abbrev HBM_HINTS_HINT_BUF_WRITE : Nat := objKey 0 0x6030 0x01
/-- HBM_HINTS: 0 = OPEN, 1 = CLOSE, 2 = AUTO; in the order of R354. -/
abbrev HBM_HINTS_HINT_BUF_READ : Nat := objKey 0 0x6030 0x02
/-- HBM_HINTS: 0 = OPEN, 1 = CLOSE, 2 = AUTO; in the order of R354. -/
abbrev HBM_HINTS_HINT_COUNT : Nat := objKey 0 0x6030 0x03
/-- HBM_HINTS: 0 = OPEN, 1 = CLOSE, 2 = AUTO; in the order of R354. -/
abbrev HBM_HINTS_HINT_SAMPLE : Nat := objKey 0 0x6030 0x04
/-- HBM_HINTS: 0 = OPEN, 1 = CLOSE, 2 = AUTO; in the order of R354. -/
abbrev HBM_HINTS_HINT_HOST : Nat := objKey 0 0x6030 0x05
/-- HBM_HINTS: 0 = OPEN, 1 = CLOSE, 2 = AUTO; in the order of R354. -/
abbrev HBM_HINTS_HINT_SCRUB : Nat := objKey 0 0x6030 0x06

end Obj

/-- `IDENTITY`, 0x1000 (R547, 20_boot_firmware_update.md). -/
def recIdentity : ObjRecord := { base := 0x1000, last := 0x1000, name := "IDENTITY", rows := [
  ⟨0x01, 1, "PART_NUMBER", (.str 16), Rights.aHROVROFROSRODRO, [889493637169417505869], .any, false⟩,
  ⟨0x02, 1, "STEPPING", .u8, Rights.aHROVROFROSRODRO, [176], .any, false⟩,
  ⟨0x03, 1, "IDCODE", .u32, Rights.aHROVROFROSRODRO, [493125813], .any, false⟩,
  ⟨0x04, 1, "ROM_VERSION", .u32, Rights.aHROVROFROSRODRO, [], .any, false⟩,
  ⟨0x05, 1, "LOADER_VERSION", .u32, Rights.aHROVROFROSRODRO, [], .any, false⟩,
  ⟨0x06, 1, "FW_VERSION", .u32, Rights.aHROVROFROSRODRO, [], .any, false⟩,
  ⟨0x07, 1, "FW_BUILD", .u32, Rights.aHROVROFROSRODRO, [], .any, false⟩,
  ⟨0x08, 1, "FW_SVN", .u8, Rights.aHROVROFROSRODRO, [], .any, false⟩,
  ⟨0x09, 1, "FW_SLOT", .u8, Rights.aHROVROFROSRODRO, [], .any, false⟩,
  ⟨0x0A, 1, "PANTRY_OLDEST", .u16, Rights.aHROVROFROSRODRO, [], .any, false⟩] }

/-- `PCIE_LINK`, 0x1100 (R417, 14_host_interface.md). -/
def recPcieLink : ObjRecord := { base := 0x1100, last := 0x1100, name := "PCIE_LINK", rows := [
  ⟨0x01, 1, "LINK_UP", .bool, Rights.aHROFROSRO, [0], .rng 0 1, false⟩,
  ⟨0x02, 1, "LINK_SPEED", .u8, Rights.aHROFROSRO, [0], .any, false⟩,
  ⟨0x03, 1, "LINK_WIDTH", .u8, Rights.aHROFROSRO, [0], .any, false⟩,
  ⟨0x04, 1, "FLIT_MODE", .bool, Rights.aHROFROSRO, [0], .rng 0 1, false⟩,
  ⟨0x05, 1, "VFS_ENABLED", .u8, Rights.aHROFROSRO, [0], .any, false⟩,
  ⟨0x06, 1, "LINK_DOWNS", .u64, Rights.aHROFROSRO, [0], .any, false⟩] }

/-- `HOST_CTRL`, 0x1101 (R417, 14_host_interface.md). -/
def recHostCtrl : ObjRecord := { base := 0x1101, last := 0x1101, name := "HOST_CTRL", rows := [
  ⟨0x01, 1, "INJECT_SECTOR", .u8, Rights.aHRWFRWSRO, [0], .rng 0 7, false⟩,
  ⟨0x02, 8, "HP_RING_C", .u16, Rights.aHRWFRWSRO, [0], .any, false⟩,
  ⟨0x0A, 1, "JOBS_IN_FLIGHT", .u16, Rights.aHROFROSRO, [0], .any, false⟩,
  ⟨0x0B, 1, "HP_TOOBIG", .u64, Rights.aHROFROSRO, [0], .any, false⟩] }

/-- `SQ_CONFIG`, 0x1110 (R417, 14_host_interface.md). -/
def recSqConfig : ObjRecord := { base := 0x1110, last := 0x1110, name := "SQ_CONFIG", rows := [
  ⟨0x01, 1, "SQ_SELECT", .u16, Rights.aHRWVRWFRW, [0], .any, false⟩,
  ⟨0x02, 1, "SQ_BASE", .u64, Rights.aHRWVRWFRW, [0], .any, false⟩,
  ⟨0x03, 1, "SQ_SIZE", .u8, Rights.aHRWVRWFRW, [4], .rng 4 16, false⟩,
  ⟨0x04, 1, "SQ_CQ", .u16, Rights.aHRWVRWFRW, [0], .any, false⟩,
  ⟨0x05, 1, "SQ_WEIGHT", .u8, Rights.aHRWVRWFRW, [1], .rng 1 255, false⟩,
  ⟨0x06, 1, "SQ_BURST", .u8, Rights.aHRWVRWFRW, [16], .rng 1 64, false⟩,
  ⟨0x07, 1, "SQ_ENABLE", .bool, Rights.aHRWVRWFRW, [0], .rng 0 1, true⟩,
  ⟨0x08, 1, "SQ_STATE", .u8, Rights.aHROVROFRO, [0], .any, false⟩,
  ⟨0x09, 1, "SQ_HEAD", .u32, Rights.aHROVROFRO, [0], .any, false⟩,
  ⟨0x0A, 1, "SQ_TAIL", .u32, Rights.aHROVROFRO, [0], .any, false⟩,
  ⟨0x0B, 1, "SQ_JOBS", .u64, Rights.aHROVROFRO, [0], .any, false⟩,
  ⟨0x0C, 1, "PUSH_USED", .u64, Rights.aHROVROFRO, [0], .any, false⟩,
  ⟨0x0D, 1, "PUSH_DROPS", .u64, Rights.aHROVROFRO, [0], .any, false⟩,
  ⟨0x0E, 1, "BAD_DOORBELLS", .u64, Rights.aHROVROFRO, [0], .any, false⟩] }

/-- `CQ_CONFIG`, 0x1111 (R417, 14_host_interface.md). -/
def recCqConfig : ObjRecord := { base := 0x1111, last := 0x1111, name := "CQ_CONFIG", rows := [
  ⟨0x01, 1, "CQ_SELECT", .u16, Rights.aHRWVRWFRW, [0], .any, false⟩,
  ⟨0x02, 1, "CQ_BASE", .u64, Rights.aHRWVRWFRW, [0], .any, false⟩,
  ⟨0x03, 1, "CQ_SIZE", .u8, Rights.aHRWVRWFRW, [4], .rng 4 16, false⟩,
  ⟨0x04, 1, "CQ_VECTOR", .u16, Rights.aHRWVRWFRW, [65535], .any, false⟩,
  ⟨0x05, 1, "CQ_COAL_COUNT", .u8, Rights.aHRWVRWFRW, [1], .rng 1 255, false⟩,
  ⟨0x06, 1, "CQ_COAL_NS", .u32, Rights.aHRWVRWFRW, [0], .rng 0 1000000, false⟩,
  ⟨0x07, 1, "CQ_ENABLE", .bool, Rights.aHRWVRWFRW, [0], .rng 0 1, true⟩,
  ⟨0x08, 1, "CQ_STATE", .u8, Rights.aHROVROFRO, [0], .any, false⟩,
  ⟨0x09, 1, "CQ_HEAD", .u32, Rights.aHROVROFRO, [0], .any, false⟩,
  ⟨0x0A, 1, "CQ_TAIL", .u32, Rights.aHROVROFRO, [0], .any, false⟩,
  ⟨0x0B, 1, "CQ_STASH", .u8, Rights.aHROVROFRO, [0], .any, false⟩,
  ⟨0x0C, 1, "CQ_ENTRIES", .u64, Rights.aHROVROFRO, [0], .any, false⟩,
  ⟨0x0D, 1, "CQ_FULL_COUNT", .u64, Rights.aHROVROFRO, [0], .any, false⟩] }

/-- `ACCESS_STATUS`, 0x1120 (R377, 13_object_dictionary.md). -/
def recAccessStatus : ObjRecord := { base := 0x1120, last := 0x1120, name := "ACCESS_STATUS", rows := [
  ⟨0x01, 1, "LAST_STATUS", .u8, Rights.aHROVROFROSRODRO, [0], .any, false⟩,
  ⟨0x02, 1, "LAST_OBJECT", .u32, Rights.aHROVROFROSRODRO, [0], .any, false⟩,
  ⟨0x03, 1, "REFUSED", .u64, Rights.aHROVROFROSRODRO, [0], .any, false⟩,
  ⟨0x04, 1, "PENDING", .u32, Rights.aHROVROFROSRODRO, [0], .any, false⟩] }

/-- `VF_RESOURCES`, 0x1130 to 0x114F (R417, 14_host_interface.md). -/
def recVfResources : ObjRecord := { base := 0x1130, last := 0x114F, name := "VF_RESOURCES", rows := [
  ⟨0x01, 1, "SQ_FIRST", .u16, Rights.aHRWVROFRO, [0], .any, false⟩,
  ⟨0x02, 1, "SQ_COUNT", .u8, Rights.aHRWVROFRO, [0], .rng 0 128, false⟩,
  ⟨0x03, 1, "CQ_FIRST", .u16, Rights.aHRWVROFRO, [0], .any, false⟩,
  ⟨0x04, 1, "CQ_COUNT", .u8, Rights.aHRWVROFRO, [0], .rng 0 128, false⟩] }

/-- `MB_BINDING`, 0x1150 (R419, 15_mailboxes.md). -/
def recMbBinding : ObjRecord := { base := 0x1150, last := 0x1150, name := "MB_BINDING", rows := [
  ⟨0x01, 64, "BIND_MB", .u32, Rights.aHRWLVROFRWLSRODRO, [0], .any, false⟩] }

/-- `MAILBOX`, 0x1160 to 0x119F (R422, 15_mailboxes.md). -/
def recMailbox : ObjRecord := { base := 0x1160, last := 0x119F, name := "MAILBOX", rows := [
  ⟨0x01, 4, "MSG", (.str 16), Rights.mbAcc, [0], .any, false⟩,
  ⟨0x05, 1, "SEND", .u8, Rights.mbAcc, [], .rng 1 1, false⟩,
  ⟨0x06, 1, "ACK", .u32, Rights.mbAcc, [0], .any, false⟩,
  ⟨0x07, 1, "STATE", .u8, Rights.mbAcc, [0], .any, false⟩,
  ⟨0x08, 1, "LOCK", .u8, Rights.mbAcc, [0], .any, false⟩,
  ⟨0x09, 1, "POSTS", .u64, Rights.mbAcc, [0], .any, false⟩] }

/-- `DOORBELL`, 0x11A0 (R425, 15_mailboxes.md). -/
def recDoorbell : ObjRecord := { base := 0x11A0, last := 0x11A0, name := "DOORBELL", rows := [
  ⟨0x01, 1, "DB_PENDING", .u32, Rights.aHW1CVW1CFW1CSW1C, [0], .any, false⟩,
  ⟨0x02, 1, "DB_MASK", .u32, Rights.aHRWVRWFRWSRW, [4294967295], .any, false⟩,
  ⟨0x03, 1, "DB_VECTOR", .u16, Rights.aHRWVRW, [65535], .any, false⟩,
  ⟨0x04, 1, "DB_SIGNALS", .u64, Rights.aHROVROFROSRO, [0], .any, false⟩] }

/-- `COICA_STATION`, 0x11B0 (R460, 16_management_bus.md). -/
def recCoicaStation : ObjRecord := { base := 0x11B0, last := 0x11B0, name := "COICA_STATION", rows := [
  ⟨0x01, 1, "STATION_ADDR", .u8, Rights.aHRWLFRWLSRO, [], .rng 1 126, false⟩,
  ⟨0x02, 1, "ROLE", .u8, Rights.aHRWLFRWLSRO, [0], .rng 0 1, false⟩,
  ⟨0x03, 1, "SUPV_ADDR_A", .u8, Rights.aHRWLFRWLSRO, [126], .rng 1 126, false⟩,
  ⟨0x04, 1, "SUPV_ADDR_B", .u8, Rights.aHRWLFRWLSRO, [125], .rng 0 126, false⟩,
  ⟨0x05, 1, "TOKEN_HOLD_US", .u16, Rights.aHRWFRWSRW, [2000], .rng 100 10000, false⟩,
  ⟨0x06, 1, "SOLICIT_EVERY", .u8, Rights.aHRWFRWSRW, [16], .any, false⟩,
  ⟨0x07, 1, "KNOWN_AGE_MS", .u16, Rights.aHRWFRWSRW, [100], .rng 10 10000, false⟩,
  ⟨0x08, 1, "EMERG_CLASS", .u8, Rights.aHRWFRWSRW, [2], .rng 0 4, false⟩,
  ⟨0x09, 1, "STATE", .u8, Rights.aHROFROSRO, [0], .any, false⟩,
  ⟨0x0A, 1, "SUCCESSOR", .u8, Rights.aHROFROSRO, [0], .any, false⟩,
  ⟨0x0B, 1, "KNOWN_LO", .u64, Rights.aHROFROSRO, [0], .any, false⟩,
  ⟨0x0C, 1, "KNOWN_HI", .u64, Rights.aHROFROSRO, [0], .any, false⟩,
  ⟨0x0D, 1, "ROTATION_US", .u32, Rights.aHROFROSRO, [0], .any, false⟩] }

/-- `COICA_STATS`, 0x11B1 (R460, 16_management_bus.md). -/
def recCoicaStats : ObjRecord := { base := 0x11B1, last := 0x11B1, name := "COICA_STATS", rows := [
  ⟨0x01, 1, "FRAMES_TX", .u64, Rights.aHROFROSRO, [0], .any, false⟩,
  ⟨0x02, 1, "FRAMES_RX", .u64, Rights.aHROFROSRO, [0], .any, false⟩,
  ⟨0x03, 1, "CRC_ERRORS", .u64, Rights.aHROFROSRO, [0], .any, false⟩,
  ⟨0x04, 1, "CODE_ERRORS", .u64, Rights.aHROFROSRO, [0], .any, false⟩,
  ⟨0x05, 1, "LENGTH_ERRORS", .u64, Rights.aHROFROSRO, [0], .any, false⟩,
  ⟨0x06, 1, "RX_JABBER", .u64, Rights.aHROFROSRO, [0], .any, false⟩,
  ⟨0x07, 1, "TX_JABBER", .u64, Rights.aHROFROSRO, [0], .any, false⟩,
  ⟨0x08, 1, "CLAIMS", .u64, Rights.aHROFROSRO, [0], .any, false⟩,
  ⟨0x09, 1, "CLAIMS_WON", .u64, Rights.aHROFROSRO, [0], .any, false⟩,
  ⟨0x0A, 1, "DUP_ADDRESS", .u64, Rights.aHROFROSRO, [0], .any, false⟩,
  ⟨0x0B, 1, "DUP_TOKENS", .u64, Rights.aHROFROSRO, [0], .any, false⟩,
  ⟨0x0C, 1, "PASS_FAILURES", .u64, Rights.aHROFROSRO, [0], .any, false⟩,
  ⟨0x0D, 1, "SOLICIT_COLLISIONS", .u64, Rights.aHROFROSRO, [0], .any, false⟩,
  ⟨0x0E, 1, "STRANGER_FRAMES", .u64, Rights.aHROFROSRO, [0], .any, false⟩,
  ⟨0x0F, 1, "EMERG_SENT", .u64, Rights.aHROFROSRO, [0], .any, false⟩,
  ⟨0x10, 1, "EMERG_DROPS", .u64, Rights.aHROFROSRO, [0], .any, false⟩,
  ⟨0x11, 1, "OD_REQUESTS", .u64, Rights.aHROFROSRO, [0], .any, false⟩,
  ⟨0x12, 1, "OD_DENIED", .u64, Rights.aHROFROSRO, [0], .any, false⟩] }

/-- `WAKE_PATTERN`, 0x11C0 to 0x11C7 (R460, 16_management_bus.md). -/
def recWakePattern : ObjRecord := { base := 0x11C0, last := 0x11C7, name := "WAKE_PATTERN", rows := [
  ⟨0x01, 1, "WP_ENABLE", .bool, Rights.aHRWFRWSRW, [0], .rng 0 1, true⟩,
  ⟨0x02, 1, "WP_BYTES_LO", (.str 64), Rights.aHRWFRWSRW, [0], .any, false⟩,
  ⟨0x03, 1, "WP_BYTES_HI", (.str 64), Rights.aHRWFRWSRW, [0], .any, false⟩,
  ⟨0x04, 1, "WP_MASK_LO", .u64, Rights.aHRWFRWSRW, [0], .any, false⟩,
  ⟨0x05, 1, "WP_MASK_HI", .u64, Rights.aHRWFRWSRW, [0], .any, false⟩,
  ⟨0x06, 1, "WP_LENGTH", .u8, Rights.aHRWFRWSRW, [128], .rng 1 128, false⟩,
  ⟨0x07, 1, "WP_CHECK", .u16, Rights.aHROFROSRO, [65535], .any, false⟩,
  ⟨0x08, 1, "WP_MATCHES", .u64, Rights.aHROFROSRO, [0], .any, false⟩] }

/-- `TIMEBASE`, 0x1200 (R34, 01_air_time.md). -/
def recTimebase : ObjRecord := { base := 0x1200, last := 0x1200, name := "TIMEBASE", rows := [
  ⟨0x01, 1, "TIME_NOW", .time80, Rights.aHROVROFROSRO, [], .any, false⟩,
  ⟨0x02, 1, "STATE", .u8, Rights.aHROFROSRO, [0], .any, false⟩,
  ⟨0x03, 1, "STATE_REQ", .u8, Rights.aHWOFWO, [], .rng 0 3, false⟩,
  ⟨0x04, 1, "FREQ_ADJ", .i32, Rights.aHRWFRWSRO, [0], .srng (-429497) 429497, false⟩,
  ⟨0x05, 1, "STEP", .i64, Rights.aHWOFWO, [], .any, false⟩,
  ⟨0x06, 1, "SERVO_OWNER", .u8, Rights.aHRWFRW, [40], .oneOf [1, 40], false⟩,
  ⟨0x07, 1, "STEP_COUNT", .u32, Rights.aHROFROSRO, [0], .any, false⟩,
  ⟨0x08, 1, "HOLDOVER_S", .u32, Rights.aHROFROSRO, [0], .any, false⟩] }

/-- `TIME_IO`, 0x1201 (R34, 01_air_time.md). -/
def recTimeIo : ObjRecord := { base := 0x1201, last := 0x1201, name := "TIME_IO", rows := [
  ⟨0x01, 1, "PPS_OUT_OFFSET", .i32, Rights.aHRWFRW, [0], .srng (-500000000) 499999999, false⟩,
  ⟨0x02, 1, "PPS_IN_STAMP", .time80, Rights.aHROFRO, [], .any, false⟩,
  ⟨0x03, 1, "TOD_BAUD", .u8, Rights.aHRWFRW, [4], .rng 0 4, false⟩,
  ⟨0x04, 1, "TOD_DISCARDS", .u32, Rights.aHRCFRC, [0], .any, false⟩,
  ⟨0x05, 1, "RCLK0_SEL", .u16, Rights.aHRWFRW, [0], .any, false⟩,
  ⟨0x06, 1, "RCLK1_SEL", .u16, Rights.aHRWFRW, [0], .any, false⟩] }

/-- `AIR_CLOCK`, 0x1210 to 0x1213 (R34, 01_air_time.md). -/
def recAirClock : ObjRecord := { base := 0x1210, last := 0x1213, name := "AIR_CLOCK", rows := [
  ⟨0x01, 1, "ENABLE", .bool, Rights.aHRWFRWSRO, [0], .rng 0 1, true⟩,
  ⟨0x02, 1, "NUMEROLOGY", .u8, Rights.aHRWFRWSRO, [1], .rng 0 3, false⟩,
  ⟨0x03, 1, "EPOCH", .time80, Rights.aHRWFRWSRO, [1357058564291559424], .any, false⟩,
  ⟨0x04, 1, "POSITION", .u64, Rights.aHROFROSRO, [], .any, false⟩,
  ⟨0x05, 1, "ABS_SLOT", .u64, Rights.aHROFRO, [], .any, false⟩] }

/-- `AIR_EVENT_CTRL`, 0x1220 (R43, 01_air_time.md). -/
def recAirEventCtrl : ObjRecord := { base := 0x1220, last := 0x1220, name := "AIR_EVENT_CTRL", rows := [
  ⟨0x01, 1, "DISPATCH_ENABLE", .bool, Rights.aHRWFRW, [1], .rng 0 1, true⟩,
  ⟨0x02, 1, "SKIPPED", .u32, Rights.aHRCFRCSRO, [0], .any, false⟩,
  ⟨0x03, 1, "ARMED_COUNT", .u16, Rights.aHROFRO, [0], .any, false⟩,
  ⟨0x04, 1, "LAST_FIRED", .u16, Rights.aHROFRO, [0], .any, false⟩] }

/-- `PERF_BIN_CLOCK`, 0x1230 (R45, 01_air_time.md). -/
def recPerfBinClock : ObjRecord := { base := 0x1230, last := 0x1230, name := "PERF_BIN_CLOCK", rows := [
  ⟨0x01, 1, "DAY_OFFSET", .u32, Rights.aHRWFRWSRW, [0], .rng 0 86399, false⟩,
  ⟨0x02, 1, "BIN_START", .time80, Rights.aHROFROSRO, [], .any, false⟩,
  ⟨0x03, 1, "DAY_START", .time80, Rights.aHROFROSRO, [], .any, false⟩,
  ⟨0x04, 1, "SUSPECT", .u8, Rights.aHROFROSRO, [0], .any, false⟩] }

/-- `POWER_CTRL`, 0x1400 (R510, 18_power_states.md). -/
def recPowerCtrl : ObjRecord := { base := 0x1400, last := 0x1400, name := "POWER_CTRL", rows := [
  ⟨0x01, 1, "SECTOR_STATE", .u32, Rights.aHROFROSRO, [0], .any, false⟩,
  ⟨0x02, 1, "WAKE_REQ", .u8, Rights.aHWOFWOSWO, [], .rng 1 1, false⟩,
  ⟨0x03, 1, "ISLAND_ENTRIES", .u64, Rights.aHROFROSRO, [0], .any, false⟩,
  ⟨0x04, 1, "LAST_ISLAND", .time80, Rights.aHROFROSRO, [0], .any, false⟩] }

/-- `POWER_CLIENT`, 0x1410 to 0x149F (R510, 18_power_states.md). -/
def recPowerClient : ObjRecord := { base := 0x1410, last := 0x149F, name := "POWER_CLIENT", rows := [
  ⟨0x01, 1, "LAT_TOL_NS", .u32, Rights.aHRWFRWSRO, [40], .any, false⟩,
  ⟨0x02, 1, "PWR_REQ", .u8, Rights.aHRWFRWSRO, [0], .oneOf [0, 3], false⟩,
  ⟨0x03, 1, "PWR_STATE", .u8, Rights.aHROFROSRO, [0], .any, false⟩,
  ⟨0x04, 1, "PREWAKE_HOLD_NS", .u32, Rights.aHRWFRWSRO, [1000000], .rng 0 1000000000, false⟩,
  ⟨0x05, 1, "TRANSITIONS", .u64, Rights.aHROFROSRO, [0], .any, false⟩,
  ⟨0x06, 1, "PREWAKES", .u64, Rights.aHROFROSRO, [0], .any, false⟩,
  ⟨0x07, 1, "LATE_WAKES", .u64, Rights.aHROFROSRO, [0], .any, false⟩] }

/-- `SUPPLY`, 0x14A0 (R585, 22_package_supplies_clocks.md). -/
def recSupply : ObjRecord := { base := 0x14A0, last := 0x14A0, name := "SUPPLY", rows := [
  ⟨0x01, 1, "AON_SOURCE", .u8, Rights.aHROFROSRODRO, [0], .any, false⟩,
  ⟨0x02, 1, "VAON_A_MV", .u16, Rights.aHROFROSRODRO, [850], .any, false⟩,
  ⟨0x03, 1, "VAON_B_MV", .u16, Rights.aHROFROSRODRO, [850], .any, false⟩,
  ⟨0x04, 1, "AON_SWITCHES", .u64, Rights.aHROFROSRODRO, [0], .any, false⟩,
  ⟨0x05, 1, "RAIL_GOOD", .u32, Rights.aHROFROSRODRO, [524287], .any, false⟩,
  ⟨0x06, 1, "LAST_RAIL_FAIL", .u32, Rights.aHROFROSRODRO, [0], .any, false⟩] }

/-- `CLOCKS`, 0x14B0 (R585, 22_package_supplies_clocks.md). -/
def recClocks : ObjRecord := { base := 0x14B0, last := 0x14B0, name := "CLOCKS", rows := [
  ⟨0x01, 1, "REF_STATUS", .u8, Rights.aHROFROSRODRO, [31], .any, false⟩,
  ⟨0x02, 1, "PLL_LOCK", .u32, Rights.aHROFROSRODRO, [262143], .any, false⟩,
  ⟨0x03, 1, "REF_LOSSES", .u64, Rights.aHROFROSRODRO, [0], .any, false⟩,
  ⟨0x04, 1, "AON_OSC", .u8, Rights.aHROFROSRODRO, [0], .any, false⟩] }

/-- `THERMAL`, 0x14C0 (R585, 22_package_supplies_clocks.md). -/
def recThermal : ObjRecord := { base := 0x14C0, last := 0x14C0, name := "THERMAL", rows := [
  ⟨0x01, 1, "F_TEMP_C", .i32, Rights.aHROFROSRODRO, [], .any, false⟩,
  ⟨0x02, 1, "T_TEMP_C", .i32, Rights.aHROFROSRODRO, [], .any, false⟩,
  ⟨0x03, 1, "F_MAX_C", .i32, Rights.aHRCFRCSRODRO, [], .any, false⟩,
  ⟨0x04, 1, "T_MAX_C", .i32, Rights.aHRCFRCSRODRO, [], .any, false⟩,
  ⟨0x05, 1, "THROTTLE_C", .u8, Rights.aHRWFRWSRODRO, [105], .rng 90 108, false⟩,
  ⟨0x06, 1, "F_LEVEL", .u8, Rights.aHROFROSRODRO, [0], .any, false⟩,
  ⟨0x07, 1, "T_LEVEL", .u8, Rights.aHROFROSRODRO, [0], .any, false⟩,
  ⟨0x08, 1, "THROTTLE_MS", .u64, Rights.aHROFROSRODRO, [0], .any, false⟩,
  ⟨0x09, 1, "STOP_ACTIVE", .bool, Rights.aHROFROSRODRO, [0], .rng 0 1, false⟩,
  ⟨0x0A, 1, "THERMAL_STOPS", .u64, Rights.aHROFROSRODRO, [0], .any, false⟩] }

/-- `SENSORS`, 0x14C1 (R585, 22_package_supplies_clocks.md). -/
def recSensors : ObjRecord := { base := 0x14C1, last := 0x14C1, name := "SENSORS", rows := [
  ⟨0x01, 8, "S_FS", .i32, Rights.aHROFROSRODRO, [], .any, false⟩,
  ⟨0x09, 1, "S_FMGMT", .i32, Rights.aHROFROSRODRO, [], .any, false⟩,
  ⟨0x0A, 1, "S_FD2D", .i32, Rights.aHROFROSRODRO, [], .any, false⟩,
  ⟨0x0B, 8, "S_TS", .i32, Rights.aHROFROSRODRO, [], .any, false⟩,
  ⟨0x13, 1, "S_TD2D", .i32, Rights.aHROFROSRODRO, [], .any, false⟩] }

/-- `SECURITY`, 0x1500 (R528, 19_security_debug.md). -/
def recSecurity : ObjRecord := { base := 0x1500, last := 0x1500, name := "SECURITY", rows := [
  ⟨0x01, 1, "LC_STATE", .u8, Rights.aHROFROSRODRO, [], .any, false⟩,
  ⟨0x02, 1, "LC_PENDING", .u8, Rights.aHROFROSRODRO, [255], .any, false⟩,
  ⟨0x03, 1, "PROVISION", .u8, Rights.aHWODWO, [], .oneOf [1, 4], false⟩,
  ⟨0x04, 1, "SVN_COUNTER", .u8, Rights.aHROFROSRODRO, [], .any, false⟩,
  ⟨0x05, 1, "SVN_ADVANCE", .u8, Rights.aHWOFWO, [], .any, false⟩,
  ⟨0x06, 1, "SERIAL", .u64, Rights.aHROVROFROSRODRO, [], .any, false⟩,
  ⟨0x07, 1, "DEVICE_ID_HASH", (.str 48), Rights.aHROFROSRODRO, [], .any, false⟩,
  ⟨0x08, 4, "KEY_HASH", (.str 48), Rights.aHRWFROSRODRO, [0], .any, false⟩,
  ⟨0x0C, 1, "KEY_REVOKED", .u8, Rights.aHROFROSRODRO, [0], .any, false⟩] }

/-- `LOCK`, 0x1501 (R381, 13_object_dictionary.md). -/
def recLock : ObjRecord := { base := 0x1501, last := 0x1501, name := "LOCK", rows := [
  ⟨0x01, 1, "DICT_LOCK", .bool, Rights.aHRWFRWSRODRO, [0], .rng 0 1, false⟩,
  ⟨0x02, 1, "LOCKED_AT", .time80, Rights.aHROFROSRODRO, [0], .any, false⟩] }

/-- `DEBUG`, 0x1502 (R528, 19_security_debug.md). -/
def recDebug : ObjRecord := { base := 0x1502, last := 0x1502, name := "DEBUG", rows := [
  ⟨0x01, 1, "DBG_LEVEL", .u8, Rights.aHROFROSRODRO, [], .any, false⟩,
  ⟨0x02, 1, "DBG_CHALLENGE", (.str 48), Rights.aHROFROSRODRO, [], .any, false⟩,
  ⟨0x03, 1, "AUTH_SUBMIT", .u8, Rights.aHWOFWOSWODWO, [], .rng 1 1, false⟩,
  ⟨0x04, 1, "AUTH_STATUS", .u8, Rights.aHROFROSRODRO, [0], .any, false⟩,
  ⟨0x05, 1, "AUTH_FAILS", .u64, Rights.aHROFROSRODRO, [0], .any, false⟩,
  ⟨0x06, 1, "DBG_DROP", .u8, Rights.aHWOFWOSWODWO, [], .any, false⟩,
  ⟨0x07, 1, "DBG_EXPIRES", .time80, Rights.aHROFROSRODRO, [0], .any, false⟩] }

/-- `BOOT`, 0x1600 (R547, 20_boot_firmware_update.md). -/
def recBoot : ObjRecord := { base := 0x1600, last := 0x1600, name := "BOOT", rows := [
  ⟨0x01, 1, "BOOT_STAGE", .u8, Rights.aHROFROSRODRO, [0], .any, false⟩,
  ⟨0x02, 1, "BOOT_CAUSE", .u8, Rights.aHROFROSRODRO, [0], .any, false⟩,
  ⟨0x03, 1, "BOOT_COUNT", .u32, Rights.aHROFROSRODRO, [0], .any, false⟩,
  ⟨0x04, 1, "FW_RESTART", .u8, Rights.aHWOFWOSWO, [], .rng 1 1, false⟩,
  ⟨0x05, 1, "WARM_RESET", .u8, Rights.aHWOFWOSWO, [], .rng 1 1, false⟩,
  ⟨0x06, 1, "DIE_RESET", .u8, Rights.aHWOFWO, [], .rng 0 1, false⟩,
  ⟨0x07, 1, "SECTOR_RESET", .u8, Rights.aHWOFWO, [], .mask 0x87, false⟩,
  ⟨0x08, 1, "UNIT_RESET", .u16, Rights.aHWOFWO, [], .any, false⟩,
  ⟨0x09, 1, "FW_ACCEPT", .u8, Rights.aHWOSWO, [], .rng 1 1, false⟩,
  ⟨0x0A, 1, "TRIAL_S", .u16, Rights.aHRWFRWSRW, [3600], .rng 60 65535, false⟩,
  ⟨0x0B, 1, "TRIAL_LEFT_S", .u16, Rights.aHROFROSRO, [0], .any, false⟩] }

/-- `FW_SLOT`, 0x1610 to 0x1611 (R547, 20_boot_firmware_update.md). -/
def recFwSlot : ObjRecord := { base := 0x1610, last := 0x1611, name := "FW_SLOT", rows := [
  ⟨0x01, 1, "SLOT_STATE", .u8, Rights.aHROFROSRODRO, [], .any, false⟩,
  ⟨0x02, 1, "SLOT_SVN", .u8, Rights.aHROFROSRODRO, [], .any, false⟩,
  ⟨0x03, 1, "SLOT_VERSION", .u32, Rights.aHROFROSRODRO, [], .any, false⟩,
  ⟨0x04, 1, "SLOT_SEQ", .u32, Rights.aHROFROSRODRO, [], .any, false⟩] }

/-- `FW_UPDATE`, 0x1612 (R547, 20_boot_firmware_update.md). -/
def recFwUpdate : ObjRecord := { base := 0x1612, last := 0x1612, name := "FW_UPDATE", rows := [
  ⟨0x01, 1, "UPD_CTRL", .u8, Rights.aHWOFWOSWO, [], .rng 1 3, false⟩,
  ⟨0x02, 1, "UPD_SIZE", .u32, Rights.aHRWFRWSRW, [0], .any, false⟩,
  ⟨0x03, 1, "UPD_STATE", .u8, Rights.aHROFROSRO, [0], .any, false⟩,
  ⟨0x04, 1, "UPD_TARGET", .u8, Rights.aHROFROSRO, [], .any, false⟩,
  ⟨0x05, 1, "UPD_OWNER", .u8, Rights.aHROFROSRO, [0], .any, false⟩,
  ⟨0x06, 1, "UPD_RECEIVED", .u32, Rights.aHROFROSRO, [0], .any, false⟩,
  ⟨0x07, 1, "UPD_RESULT", .u8, Rights.aHROFROSRO, [0], .any, false⟩] }

/-- `PANTRY`, 0x1620 (R386, 13_object_dictionary.md). -/
def recPantry : ObjRecord := { base := 0x1620, last := 0x1620, name := "PANTRY", rows := [
  ⟨0x01, 1, "STORE", .u8, Rights.aHWOFWOSWO, [], .rng 1 1, false⟩,
  ⟨0x02, 1, "CLEAR", .u8, Rights.aHWOFWOSWO, [], .rng 1 1, false⟩,
  ⟨0x03, 1, "STATE", .u8, Rights.aHROFROSRO, [0], .any, false⟩,
  ⟨0x04, 1, "ACTIVE_COPY", .u8, Rights.aHROFROSRO, [], .any, false⟩,
  ⟨0x05, 1, "SEQUENCE", .u32, Rights.aHROFROSRO, [], .any, false⟩,
  ⟨0x06, 1, "FORMAT_VERSION", .u16, Rights.aHROFROSRO, [], .any, false⟩,
  ⟨0x07, 1, "BODY_BYTES", .u32, Rights.aHROFROSRO, [], .any, false⟩,
  ⟨0x08, 1, "RESTORE_AT_BOOT", .bool, Rights.aHRWFRWSRW, [1], .rng 0 1, false⟩,
  ⟨0x09, 1, "RESTORE_REFUSED", .u32, Rights.aHROFROSRO, [0], .any, false⟩,
  ⟨0x0A, 1, "STORES", .u64, Rights.aHROFROSRO, [0], .any, false⟩] }

/-- `PAIR_CTRL`, 0x1700 (R495, 17_protection_pair.md). -/
def recPairCtrl : ObjRecord := { base := 0x1700, last := 0x1700, name := "PAIR_CTRL", rows := [
  ⟨0x01, 1, "PAIR_ENABLE", .bool, Rights.aHRWFRWSRO, [0], .rng 0 1, true⟩,
  ⟨0x02, 1, "HOME", .bool, Rights.aHRWFRWSRO, [0], .rng 0 1, false⟩,
  ⟨0x03, 1, "WITNESS_MODE", .u8, Rights.aHRWFRWSRO, [0], .rng 0 1, false⟩,
  ⟨0x04, 1, "LEASE_CYCLES", .u8, Rights.aHRWFRWSRO, [8], .rng 2 64, false⟩,
  ⟨0x05, 1, "REVERTIVE", .bool, Rights.aHRWFRWSRO, [0], .rng 0 1, false⟩,
  ⟨0x06, 1, "WTR_S", .u16, Rights.aHRWFRWSRO, [300], .rng 1 3600, false⟩,
  ⟨0x07, 1, "COMMAND", .u8, Rights.aHWOFWOSWO, [], .rng 1 1, false⟩,
  ⟨0x08, 1, "ROLE", .u8, Rights.aHROFROSRO, [0], .any, false⟩,
  ⟨0x09, 1, "EPOCH", .u32, Rights.aHROFROSRO, [0], .any, false⟩,
  ⟨0x0A, 1, "CYCLE", .u32, Rights.aHROFROSRO, [], .any, false⟩,
  ⟨0x0B, 1, "LEASE_END", .time80, Rights.aHROFROSRO, [0], .any, false⟩,
  ⟨0x0C, 1, "SYNC", .u8, Rights.aHROFROSRO, [0], .any, false⟩,
  ⟨0x0D, 1, "HEALTH", .u8, Rights.aHROFROSRO, [0], .any, false⟩,
  ⟨0x0E, 1, "PARTNER", .u32, Rights.aHROFROSRO, [0], .any, false⟩,
  ⟨0x0F, 1, "PARTNER_EPOCH", .u32, Rights.aHROFROSRO, [0], .any, false⟩,
  ⟨0x10, 1, "SKEW_NS", .i32, Rights.aHROFROSRO, [0], .any, false⟩,
  ⟨0x11, 1, "WTR_LEFT_S", .u16, Rights.aHROFROSRO, [0], .any, false⟩,
  ⟨0x12, 1, "DIGEST_PERIOD_S", .u16, Rights.aHRWFRWSRO, [60], .rng 1 3600, false⟩] }

/-- `WITNESS`, 0x1701 (R495, 17_protection_pair.md). -/
def recWitness : ObjRecord := { base := 0x1701, last := 0x1701, name := "WITNESS", rows := [
  ⟨0x01, 1, "W_RENEW", .u64, Rights.aSWO, [], .any, false⟩,
  ⟨0x02, 1, "W_TAKEOVER", .u64, Rights.aSWO, [], .any, false⟩,
  ⟨0x03, 1, "W_LAST", .u64, Rights.aHROFROSRO, [0], .any, false⟩,
  ⟨0x04, 1, "W_REFUSED", .u64, Rights.aHROFROSRO, [0], .any, false⟩] }

/-- `PAIR_STATS`, 0x1702 (R495, 17_protection_pair.md). -/
def recPairStats : ObjRecord := { base := 0x1702, last := 0x1702, name := "PAIR_STATS", rows := [
  ⟨0x01, 1, "TAKEOVERS", .u64, Rights.aHROFROSRO, [0], .any, false⟩,
  ⟨0x02, 1, "RELEASES", .u64, Rights.aHROFROSRO, [0], .any, false⟩,
  ⟨0x03, 1, "REFUSED_HANDOVERS", .u64, Rights.aHROFROSRO, [0], .any, false⟩,
  ⟨0x04, 1, "LEASE_LAPSES", .u64, Rights.aHROFROSRO, [0], .any, false⟩,
  ⟨0x05, 1, "STALE_MESSAGES", .u64, Rights.aHROFROSRO, [0], .any, false⟩,
  ⟨0x06, 1, "MATE_CRC_ERRORS", .u64, Rights.aHROFROSRO, [0], .any, false⟩,
  ⟨0x07, 1, "JOURNAL_BYTES", .u64, Rights.aHROFROSRO, [0], .any, false⟩,
  ⟨0x08, 1, "BULK_COPIES", .u64, Rights.aHROFROSRO, [0], .any, false⟩,
  ⟨0x09, 1, "DIGEST_MISMATCHES", .u64, Rights.aHROFROSRO, [0], .any, false⟩,
  ⟨0x0A, 1, "MATE_LINK_DOWNS", .u64, Rights.aHROFROSRO, [0], .any, false⟩] }

/-- `PROOF`, 0x1703 (R495, 17_protection_pair.md). -/
def recProof : ObjRecord := { base := 0x1703, last := 0x1703, name := "PROOF", rows := [
  ⟨0x01, 1, "FAIL_MAP", .u32, Rights.aHROFROSRO, [0], .any, false⟩,
  ⟨0x02, 1, "FW_HEARTBEAT", .u32, Rights.aFWO, [], .any, false⟩,
  ⟨0x03, 1, "LBIST_MAX_S", .u32, Rights.aHRWFRWSRO, [3600], .rng 60 86400, false⟩,
  ⟨0x04, 1, "EYE_MIN_PCT", .u8, Rights.aHRWFRWSRO, [30], .rng 5 80, false⟩,
  ⟨0x05, 1, "SLICES_TESTED", .u64, Rights.aHROFROSRO, [0], .any, false⟩,
  ⟨0x06, 1, "LBIST_RUNS", .u64, Rights.aHROFROSRO, [0], .any, false⟩] }

/-- `EVENT_CTRL`, 0x1800 (R562, 21_errors_events.md). -/
def recEventCtrl : ObjRecord := { base := 0x1800, last := 0x1800, name := "EVENT_CTRL", rows := [
  ⟨0x01, 1, "EVENT_CQ", .u16, Rights.aHRWFROSRO, [65535], .rngOr 0 1023 0xFFFF, false⟩,
  ⟨0x02, 1, "RING_CLASS", .u8, Rights.aHRWFRWSRO, [1], .rng 0 3, false⟩,
  ⟨0x03, 1, "SUBSYS_ENABLE", .u16, Rights.aHRWFRWSRO, [1023], .any, false⟩,
  ⟨0x04, 1, "ALARM_CLASS", .u8, Rights.aHRWFRWSRW, [2], .rng 0 3, false⟩,
  ⟨0x05, 1, "ALARM_PENDING", .u8, Rights.aHW1CFW1CSW1CDRO, [0], .any, false⟩,
  ⟨0x06, 1, "ALARM_VECTOR", .u16, Rights.aHRWFRO, [65535], .any, false⟩,
  ⟨0x07, 1, "LOG_SEQ", .u32, Rights.aHROFROSRODRO, [0], .any, false⟩,
  ⟨0x08, 1, "SUPPRESSED", .u64, Rights.aHROFROSRODRO, [0], .any, false⟩,
  ⟨0x09, 1, "RING_DROPS", .u64, Rights.aHROFROSRODRO, [0], .any, false⟩,
  ⟨0x0A, 1, "LOG_OVERWRITTEN", .u64, Rights.aHROFROSRODRO, [0], .any, false⟩,
  ⟨0x0B, 1, "D2D_REPLAYS", .u64, Rights.aHROFROSRODRO, [0], .any, false⟩] }

/-- `EVENT_LAST`, 0x1801 (R562, 21_errors_events.md). -/
def recEventLast : ObjRecord := { base := 0x1801, last := 0x1801, name := "EVENT_LAST", rows := [
  ⟨0x01, 4, "LAST", .u32, Rights.aHROFROSRODRO, [0], .any, false⟩,
  ⟨0x05, 4, "COUNT", .u64, Rights.aHROFROSRODRO, [0], .any, false⟩] }

/-- `EVENT_LOG`, 0x1802 (R562, 21_errors_events.md). -/
def recEventLog : ObjRecord := { base := 0x1802, last := 0x1802, name := "EVENT_LOG", rows := [
  ⟨0x01, 1, "LOG_SELECT", .u32, Rights.aHRWFRWSRWDRW, [0], .any, false⟩,
  ⟨0x02, 1, "LOG_REC_LO", (.str 16), Rights.aHROFROSRODRO, [], .any, false⟩,
  ⟨0x03, 1, "LOG_REC_HI", (.str 16), Rights.aHROFROSRODRO, [], .any, false⟩] }

/-- `LINE_PORT`, 0x2000 to 0x207F (R289, 09_line_ports.md). -/
def recLinePort : ObjRecord := { base := 0x2000, last := 0x207F, name := "LINE_PORT", rows := [
  ⟨0x01, 1, "PORT_ENABLE", .bool, Rights.aHRWFRWSRO, [0], .rng 0 1, true⟩,
  ⟨0x02, 1, "LANES", .u8, Rights.aHRWFRWSRO, [1], .oneOf [1, 2, 4, 8], false⟩,
  ⟨0x03, 1, "PORT_SPEED", .u32, Rights.aHRWFRWSRO, [25000], .any, false⟩,
  ⟨0x04, 1, "FEC_MODE", .u8, Rights.aHRWFRWSRO, [0], .rng 0 2, false⟩,
  ⟨0x05, 1, "MAX_FRAME", .u16, Rights.aHRWFRWSRO, [16000], .rng 1518 16000, false⟩,
  ⟨0x06, 1, "LINK_STATE", .u8, Rights.aHROFROSRO, [0], .any, false⟩,
  ⟨0x07, 1, "LINK_DOWN_HOLD", .u16, Rights.aHRWFRWSRO, [0], .rng 0 10000, false⟩,
  ⟨0x08, 1, "LINK_UP_HOLD", .u16, Rights.aHRWFRWSRO, [0], .rng 0 10000, false⟩,
  ⟨0x09, 1, "FC_RX_MODE", .u8, Rights.aHRWFRWSRO, [0], .rng 0 2, false⟩,
  ⟨0x0A, 1, "PAUSE_EXEMPT", .u8, Rights.aHRWFRWSRO, [0], .any, false⟩,
  ⟨0x0B, 1, "PFC_CLASS_MAP", .u32, Rights.aHRWFRWSRO, [1985229328], .mask 0x77777777, false⟩,
  ⟨0x0C, 1, "FC_TX_MODE", .u8, Rights.aHRWFRWSRO, [0], .rng 0 2, false⟩,
  ⟨0x0D, 1, "FC_TX_PRI", .u8, Rights.aHRWFRWSRO, [0], .any, false⟩,
  ⟨0x0E, 1, "FC_XOFF", .u32, Rights.aHRWFRWSRO, [4294967295], .any, false⟩,
  ⟨0x0F, 1, "FC_XON", .u32, Rights.aHRWFRWSRO, [0], .any, false⟩,
  ⟨0x10, 1, "FC_QUANTA", .u16, Rights.aHRWFRWSRO, [65535], .rng 1 65535, false⟩,
  ⟨0x11, 1, "WD_LIMIT_MS", .u16, Rights.aHRWFRWSRO, [100], .rng 0 10000, false⟩,
  ⟨0x12, 1, "WD_HOLDOFF_MS", .u16, Rights.aHRWFRWSRO, [1000], .rng 1 60000, false⟩,
  ⟨0x13, 1, "PAUSED", .u8, Rights.aHROFROSRO, [0], .any, false⟩,
  ⟨0x14, 1, "TX_ASYM", .i32, Rights.aHRWFRWSRO, [0], .any, false⟩,
  ⟨0x15, 1, "RX_ASYM", .i32, Rights.aHRWFRWSRO, [0], .any, false⟩,
  ⟨0x16, 1, "PTP_ONE_STEP", .bool, Rights.aHRWFRWSRO, [0], .rng 0 1, false⟩,
  ⟨0x17, 1, "TC_MODE", .bool, Rights.aHRWFRWSRO, [0], .rng 0 1, false⟩,
  ⟨0x18, 1, "SNAP_GROUP", .u8, Rights.aHRWFRWSRO, [255], .rngOr 0 15 0xFF, false⟩,
  ⟨0x19, 1, "GATE_BYPASS_OK", .bool, Rights.aHRWFRWSRO, [0], .rng 0 1, false⟩,
  ⟨0x1A, 1, "RX_BUF_BYTES", .u32, Rights.aHROFROSRO, [65536], .any, false⟩] }

/-- `PORT_COUNTERS`, 0x2100 to 0x217F (R283, 09_line_ports.md). -/
def recPortCounters : ObjRecord := { base := 0x2100, last := 0x217F, name := "PORT_COUNTERS", rows := [
  ⟨0x01, 1, "RX_FRAMES_OK", .u64, Rights.aHROFROSRO, [0], .any, false⟩,
  ⟨0x02, 1, "RX_OCTETS_OK", .u64, Rights.aHROFROSRO, [0], .any, false⟩,
  ⟨0x03, 1, "RX_UNICAST", .u64, Rights.aHROFROSRO, [0], .any, false⟩,
  ⟨0x04, 1, "RX_MULTICAST", .u64, Rights.aHROFROSRO, [0], .any, false⟩,
  ⟨0x05, 1, "RX_BROADCAST", .u64, Rights.aHROFROSRO, [0], .any, false⟩,
  ⟨0x06, 1, "RX_PAUSE", .u64, Rights.aHROFROSRO, [0], .any, false⟩,
  ⟨0x07, 1, "RX_PFC", .u64, Rights.aHROFROSRO, [0], .any, false⟩,
  ⟨0x08, 1, "RX_VLAN", .u64, Rights.aHROFROSRO, [0], .any, false⟩,
  ⟨0x09, 1, "RX_FCS_ERRORS", .u64, Rights.aHROFROSRO, [0], .any, false⟩,
  ⟨0x0A, 1, "RX_UNDERSIZE", .u64, Rights.aHROFROSRO, [0], .any, false⟩,
  ⟨0x0B, 1, "RX_FRAGMENTS", .u64, Rights.aHROFROSRO, [0], .any, false⟩,
  ⟨0x0C, 1, "RX_OVERSIZE", .u64, Rights.aHROFROSRO, [0], .any, false⟩,
  ⟨0x0D, 1, "RX_JABBER", .u64, Rights.aHROFROSRO, [0], .any, false⟩,
  ⟨0x0E, 1, "RX_CODE_ERRORS", .u64, Rights.aHROFROSRO, [0], .any, false⟩,
  ⟨0x0F, 1, "RX_OVERFLOW", .u64, Rights.aHROFROSRO, [0], .any, false⟩,
  ⟨0x10, 1, "RX_OCTETS_ALL", .u64, Rights.aHROFROSRO, [0], .any, false⟩,
  ⟨0x11, 10, "RX_SIZE", .u64, Rights.aHROFROSRO, [0], .any, false⟩,
  ⟨0x21, 1, "TX_FRAMES_OK", .u64, Rights.aHROFROSRO, [0], .any, false⟩,
  ⟨0x22, 1, "TX_OCTETS_OK", .u64, Rights.aHROFROSRO, [0], .any, false⟩,
  ⟨0x23, 1, "TX_UNICAST", .u64, Rights.aHROFROSRO, [0], .any, false⟩,
  ⟨0x24, 1, "TX_MULTICAST", .u64, Rights.aHROFROSRO, [0], .any, false⟩,
  ⟨0x25, 1, "TX_BROADCAST", .u64, Rights.aHROFROSRO, [0], .any, false⟩,
  ⟨0x26, 1, "TX_PAUSE", .u64, Rights.aHROFROSRO, [0], .any, false⟩,
  ⟨0x27, 1, "TX_PFC", .u64, Rights.aHROFROSRO, [0], .any, false⟩,
  ⟨0x28, 1, "TX_VLAN", .u64, Rights.aHROFROSRO, [0], .any, false⟩,
  ⟨0x29, 1, "TX_STOMPED", .u64, Rights.aHROFROSRO, [0], .any, false⟩,
  ⟨0x2A, 1, "TX_LEASE_DISCARDS", .u64, Rights.aHROFROSRO, [0], .any, false⟩,
  ⟨0x2B, 1, "TX_DOWN_DISCARDS", .u64, Rights.aHROFROSRO, [0], .any, false⟩,
  ⟨0x31, 10, "TX_SIZE", .u64, Rights.aHROFROSRO, [0], .any, false⟩,
  ⟨0x3B, 1, "FEC_CW_CORRECTED", .u64, Rights.aHROFROSRO, [0], .any, false⟩,
  ⟨0x3C, 1, "FEC_CW_UNCORRECTABLE", .u64, Rights.aHROFROSRO, [0], .any, false⟩,
  ⟨0x3D, 1, "FEC_SYMBOLS", .u64, Rights.aHROFROSRO, [0], .any, false⟩,
  ⟨0x3E, 1, "LINK_DOWNS", .u64, Rights.aHROFROSRO, [0], .any, false⟩,
  ⟨0x3F, 1, "WD_FIRED", .u64, Rights.aHROFROSRO, [0], .any, false⟩,
  ⟨0x41, 63, "SHADOW", .u64, Rights.aHROFROSRO, [0], .any, false⟩,
  ⟨0x80, 1, "SNAP_SEQ", .u32, Rights.aHROFROSRO, [0], .any, false⟩,
  ⟨0x81, 1, "SNAP_TIME", .time80, Rights.aHROFROSRO, [], .any, false⟩,
  ⟨0x82, 1, "SNAP_CAUSE", .u8, Rights.aHROFROSRO, [0], .any, false⟩] }

/-- `SNAPSHOT_GROUP`, 0x2180 to 0x218F (R285, 09_line_ports.md). -/
def recSnapshotGroup : ObjRecord := { base := 0x2180, last := 0x218F, name := "SNAPSHOT_GROUP", rows := [
  ⟨0x01, 1, "TRIGGER", .u8, Rights.aHWOFWOSWO, [], .rng 1 1, false⟩,
  ⟨0x02, 1, "ON_BIN", .bool, Rights.aHRWFRWSRW, [0], .rng 0 1, false⟩,
  ⟨0x03, 1, "SNAP_MISSED", .u64, Rights.aHROFROSRO, [0], .any, false⟩,
  ⟨0x04, 1, "MEMBERS", .u8, Rights.aHROFROSRO, [0], .any, false⟩] }

/-- `FABRIC_LANE`, 0x2400 to 0x249F (R316, 10_fabric_interface.md). -/
def recFabricLane : ObjRecord := { base := 0x2400, last := 0x249F, name := "FABRIC_LANE", rows := [
  ⟨0x01, 1, "FL_ENABLE", .bool, Rights.aHRWFRWSRO, [0], .rng 0 1, true⟩,
  ⟨0x02, 1, "IN_SPRAY", .bool, Rights.aHROFROSRO, [0], .rng 0 1, false⟩,
  ⟨0x03, 1, "LEAVE_CAUSE", .u8, Rights.aHROFROSRO, [1], .any, false⟩,
  ⟨0x04, 4, "REACH", .u64, Rights.aHROFROSRO, [0], .any, false⟩,
  ⟨0x08, 1, "CELLS_TX", .u64, Rights.aHROFROSRO, [0], .any, false⟩,
  ⟨0x09, 1, "CELLS_RX", .u64, Rights.aHROFROSRO, [0], .any, false⟩,
  ⟨0x0A, 1, "CHECK_ERRORS", .u64, Rights.aHROFROSRO, [0], .any, false⟩,
  ⟨0x0B, 1, "LEAVES", .u64, Rights.aHROFROSRO, [0], .any, false⟩,
  ⟨0x10, 1, "FRAME_STATE", .u8, Rights.aHROFROSRO, [0], .any, false⟩,
  ⟨0x11, 1, "DEFECTS", .u8, Rights.aHROFROSRO, [2], .any, false⟩,
  ⟨0x12, 1, "TRACE_TX", (.str 64), Rights.aHRWFRWSRO, [0], .any, false⟩,
  ⟨0x13, 1, "TRACE_EXPECT", (.str 64), Rights.aHRWFRWSRO, [0], .any, false⟩,
  ⟨0x14, 1, "TRACE_RX", (.str 64), Rights.aHROFROSRO, [0], .any, false⟩,
  ⟨0x15, 1, "TIM_ENABLE", .bool, Rights.aHRWFRWSRO, [0], .rng 0 1, true⟩,
  ⟨0x16, 1, "FORCE_AIS", .bool, Rights.aHRWFRWSRO, [0], .rng 0 1, false⟩,
  ⟨0x17, 1, "BIP_ERRORS", .u64, Rights.aHROFROSRO, [0], .any, false⟩,
  ⟨0x18, 1, "FAW_ERRORS", .u64, Rights.aHROFROSRO, [0], .any, false⟩,
  ⟨0x19, 1, "HUNTS", .u64, Rights.aHROFROSRO, [0], .any, false⟩,
  ⟨0x1A, 1, "CAND_OVERFLOW", .u64, Rights.aHROFROSRO, [0], .any, false⟩] }

/-- `FABRIC_CTRL`, 0x2500 (R316, 10_fabric_interface.md). -/
def recFabricCtrl : ObjRecord := { base := 0x2500, last := 0x2500, name := "FABRIC_CTRL", rows := [
  ⟨0x01, 1, "FABRIC_ENABLE", .bool, Rights.aHRWFRWSRO, [0], .rng 0 1, true⟩,
  ⟨0x02, 1, "DEVICE_ID", .u8, Rights.aHRWFRWSRO, [0], .rng 0 255, false⟩,
  ⟨0x03, 1, "FABRIC_MODE", .u8, Rights.aHRWFRWSRO, [0], .rng 0 1, false⟩,
  ⟨0x04, 1, "REJOIN_MS", .u16, Rights.aHRWFRWSRO, [10], .rng 1 10000, false⟩,
  ⟨0x05, 1, "UNREACH_MS", .u16, Rights.aHRWFRWSRO, [50], .rng 0 10000, false⟩,
  ⟨0x06, 1, "SPRAY_LANES", .u8, Rights.aHROFROSRO, [0], .any, false⟩,
  ⟨0x07, 1, "UNREACH_DROPS", .u64, Rights.aHROFROSRO, [0], .any, false⟩,
  ⟨0x08, 1, "MISROUTED", .u64, Rights.aHROFROSRO, [0], .any, false⟩,
  ⟨0x09, 1, "AIS_CELLS", .u64, Rights.aHROFROSRO, [0], .any, false⟩,
  ⟨0x0A, 1, "BAD_MESSAGES", .u64, Rights.aHROFROSRO, [0], .any, false⟩] }

/-- `REASSEMBLY`, 0x2501 (R316, 10_fabric_interface.md). -/
def recReassembly : ObjRecord := { base := 0x2501, last := 0x2501, name := "REASSEMBLY", rows := [
  ⟨0x01, 1, "REASM_TIMEOUT_NS", .u32, Rights.aHRWFRWSRO, [16000], .rng 1000 1000000, false⟩,
  ⟨0x02, 1, "SRC_CTX_MAX", .u16, Rights.aHRWFRWSRO, [64], .rng 1 4096, false⟩,
  ⟨0x03, 1, "CTX_IN_USE", .u16, Rights.aHROFROSRO, [0], .any, false⟩,
  ⟨0x04, 1, "CTX_MAX_USED", .u16, Rights.aHRCFRCSRO, [0], .any, false⟩,
  ⟨0x05, 1, "PACKETS", .u64, Rights.aHROFROSRO, [0], .any, false⟩,
  ⟨0x06, 1, "CTX_REFUSED", .u64, Rights.aHROFROSRO, [0], .any, false⟩,
  ⟨0x07, 1, "FORMAT_ERRORS", .u64, Rights.aHROFROSRO, [0], .any, false⟩,
  ⟨0x08, 1, "TIMEOUTS", .u64, Rights.aHROFROSRO, [0], .any, false⟩,
  ⟨0x09, 1, "LOST_TAGS", .u64, Rights.aHROFROSRO, [0], .any, false⟩,
  ⟨0x0A, 1, "LATE_CELLS", .u64, Rights.aHROFROSRO, [0], .any, false⟩,
  ⟨0x0B, 1, "WINDOW_SKIPS", .u64, Rights.aHROFROSRO, [0], .any, false⟩,
  ⟨0x0C, 1, "UNMAPPED", .u64, Rights.aHROFROSRO, [0], .any, false⟩] }

/-- `FABRIC_PORT_MAP`, 0x2502 (R316, 10_fabric_interface.md). -/
def recFabricPortMap : ObjRecord := { base := 0x2502, last := 0x2502, name := "FABRIC_PORT_MAP", rows := [
  ⟨0x01, 64, "MAP_Q", .u8, Rights.aHRWFRWSRO, [255], .rngOr 0 135 0xFF, false⟩] }

/-- `LINK_PM`, 0x2503 (R345, 11_fabric_link_framing.md). -/
def recLinkPm : ObjRecord := { base := 0x2503, last := 0x2503, name := "LINK_PM", rows := [
  ⟨0x01, 1, "SES_BLOCKS", .u32, Rights.aHRWFRWSRW, [908430], .rng 1 6056201, false⟩,
  ⟨0x02, 1, "TCA_ES", .u32, Rights.aHRWFRWSRW, [0], .any, false⟩,
  ⟨0x03, 1, "TCA_SES", .u32, Rights.aHRWFRWSRW, [0], .any, false⟩,
  ⟨0x04, 1, "TCA_UAS", .u32, Rights.aHRWFRWSRW, [0], .any, false⟩,
  ⟨0x05, 1, "TCA_BBE", .u64, Rights.aHRWFRWSRW, [0], .any, false⟩] }

/-- `SCHED_LANE`, 0x2510 to 0x251F (R345, 11_fabric_link_framing.md). -/
def recSchedLane : ObjRecord := { base := 0x2510, last := 0x251F, name := "SCHED_LANE", rows := [
  ⟨0x01, 1, "SL_ENABLE", .bool, Rights.aHRWFRWSRO, [0], .rng 0 1, true⟩,
  ⟨0x02, 1, "SL_LANE", .u8, Rights.aHRWFRWSRO, [0], .rng 0 159, false⟩,
  ⟨0x03, 1, "TX_PAGE", .u8, Rights.aHROFROSRO, [0], .any, false⟩,
  ⟨0x04, 1, "RX_PAGE", .u8, Rights.aHROFROSRO, [0], .any, false⟩,
  ⟨0x05, 1, "SWITCHES", .u64, Rights.aHROFROSRO, [0], .any, false⟩,
  ⟨0x06, 1, "SWITCH_MERGED", .u64, Rights.aHROFROSRO, [0], .any, false⟩,
  ⟨0x07, 1, "PAGE_ERRORS", .u64, Rights.aHROFROSRO, [0], .any, false⟩,
  ⟨0x08, 1, "SLOT_MISMATCH", .u64, Rights.aHROFROSRO, [0], .any, false⟩,
  ⟨0x09, 1, "SEQ_ERRORS", .u64, Rights.aHROFROSRO, [0], .any, false⟩,
  ⟨0x0A, 1, "FILL_CELLS", .u64, Rights.aHROFROSRO, [0], .any, false⟩,
  ⟨0x0B, 1, "FLOW_ABORTS", .u64, Rights.aHROFROSRO, [0], .any, false⟩] }

/-- `PARSER_CTRL`, 0x3000 (R61, 02_parsing_classification.md). -/
def recParserCtrl : ObjRecord := { base := 0x3000, last := 0x3000, name := "PARSER_CTRL", rows := [
  ⟨0x01, 1, "ACTIVE_BANK", .u8, Rights.aHRWFRWSRO, [0], .rng 0 1, false⟩,
  ⟨0x02, 1, "BANK_SWITCHES", .u32, Rights.aHROFROSRO, [0], .any, false⟩,
  ⟨0x03, 1, "RESTORE_DEFAULT", .u8, Rights.aHWOFWO, [], .rng 0 1, false⟩] }

/-- `PARSE_STATS`, 0x3001 (R61, 02_parsing_classification.md). -/
def recParseStats : ObjRecord := { base := 0x3001, last := 0x3001, name := "PARSE_STATS", rows := [
  ⟨0x01, 1, "ACCEPTED", .u64, Rights.aHROFROSRO, [0], .any, false⟩,
  ⟨0x02, 1, "PARTIAL", .u64, Rights.aHROFROSRO, [0], .any, false⟩,
  ⟨0x03, 9, "FAIL", .u64, Rights.aHROFROSRO, [0], .any, false⟩] }

/-- `TREE_SET`, 0x3040 to 0x304F (R71, 02_parsing_classification.md). -/
def recTreeSet : ObjRecord := { base := 0x3040, last := 0x304F, name := "TREE_SET", rows := [
  ⟨0x01, 1, "TREES", .u8, Rights.aHRWFRWSRO, [0], .rng 0 4, false⟩,
  ⟨0x02, 4, "ROOT", .u32, Rights.aHRWFRWSRO, [0], .mask 0x3FFFF, false⟩,
  ⟨0x06, 1, "COMMIT", .u8, Rights.aHWOFWO, [], .rng 1 1, false⟩,
  ⟨0x07, 1, "GENERATION", .u32, Rights.aHROFROSRO, [0], .any, false⟩,
  ⟨0x08, 1, "WALK_ERRORS", .u64, Rights.aHROFROSRO, [0], .any, false⟩] }

/-- `USER_KEY`, 0x3050 to 0x305F (R75, 02_parsing_classification.md). -/
def recUserKey : ObjRecord := { base := 0x3050, last := 0x305F, name := "USER_KEY", rows := [
  ⟨0x01, 1, "KEY_FIELD", .u8, Rights.aHRWFRWSRO, [21], .oneOf [2, 3, 13, 14, 21, 24, 25], false⟩,
  ⟨0x02, 1, "TABLE", .u8, Rights.aHRWFRWSRO, [0], .rng 0 15, false⟩,
  ⟨0x03, 1, "QFI_MAP_LO", .u64, Rights.aHRWFRWSRO, [0], .any, false⟩,
  ⟨0x04, 1, "QFI_MAP_HI", .u64, Rights.aHRWFRWSRO, [0], .any, false⟩,
  ⟨0x05, 1, "MISSES", .u64, Rights.aHROFROSRO, [0], .any, false⟩] }

/-- `HASH_CTRL`, 0x3060 (R79, 02_parsing_classification.md). -/
def recHashCtrl : ObjRecord := { base := 0x3060, last := 0x3060, name := "HASH_CTRL", rows := [
  ⟨0x01, 1, "ECMP_SEED", .u32, Rights.aHRWFRWSRO, [324508639], .any, false⟩,
  ⟨0x02, 1, "LAG_SEED", .u32, Rights.aHRWFRWSRO, [610839776], .any, false⟩,
  ⟨0x03, 1, "GTP_INNER", .bool, Rights.aHRWFRWSRO, [1], .rng 0 1, false⟩,
  ⟨0x04, 1, "VXLAN_INNER", .bool, Rights.aHRWFRWSRO, [1], .rng 0 1, false⟩,
  ⟨0x05, 1, "FLOW_LABEL", .bool, Rights.aHRWFRWSRO, [0], .rng 0 1, false⟩,
  ⟨0x06, 1, "MPLS_LABELS", .u8, Rights.aHRWFRWSRO, [3], .rng 0 8, false⟩] }

/-- `PORT_CLASSIFY`, 0x3100 to 0x3182 (R76, 02_parsing_classification.md). -/
def recPortClassify : ObjRecord := { base := 0x3100, last := 0x3182, name := "PORT_CLASSIFY", rows := [
  ⟨0x01, 1, "START_STATE", .u8, Rights.aHRWFRWSRO, [0], .any, false⟩,
  ⟨0x02, 1, "KEY_PROFILE", .u8, Rights.aHRWFRWSRO, [0], .rng 0 63, false⟩,
  ⟨0x03, 1, "TREE_SET", .u8, Rights.aHRWFRWSRO, [255], .rngOr 0 15 0xFF, false⟩,
  ⟨0x04, 1, "DEFAULT_ACTION", .u32, Rights.aHRWFRWSRO, [0], .mask 0x0FFFFFFF, false⟩,
  ⟨0x05, 1, "PARSE_FAIL_MODE", .u8, Rights.aHRWFRWSRO, [0], .rng 0 2, false⟩,
  ⟨0x06, 1, "VRF", .u16, Rights.aHRWFRWSRO, [0], .rng 0 4095, false⟩,
  ⟨0x07, 1, "PARSE_FAILS", .u64, Rights.aHROFROSRO, [0], .any, false⟩,
  ⟨0x08, 1, "NO_MATCH", .u64, Rights.aHROFROSRO, [0], .any, false⟩] }

/-- `KEY_PROFILE`, 0x3200 to 0x323F (R64, 02_parsing_classification.md). -/
def recKeyProfile : ObjRecord := { base := 0x3200, last := 0x323F, name := "KEY_PROFILE", rows := [
  ⟨0x01, 1, "SLOTS_LO", .u64, Rights.aHRWFRWSRO, [0], .any, false⟩,
  ⟨0x02, 1, "SLOTS_HI", .u64, Rights.aHRWFRWSRO, [0], .any, false⟩,
  ⟨0x03, 1, "WIDTH", .u16, Rights.aHROFROSRO, [0], .any, false⟩] }

/-- `TABLE_MEMORY`, 0x3300 (R588, 03_tables.md). -/
def recTableMemory : ObjRecord := { base := 0x3300, last := 0x3300, name := "TABLE_MEMORY", rows := [
  ⟨0x01, 1, "SCRUB_PERIOD", .u16, Rights.aHRWFRWSRO, [1000], .rng 100 60000, false⟩,
  ⟨0x02, 1, "PARITY_TOTAL", .u64, Rights.aHROFROSRO, [0], .any, false⟩,
  ⟨0x03, 1, "LAST_PARITY_BANK", .u16, Rights.aHROFROSRO, [65535], .any, false⟩] }

/-- `EM_TABLE`, 0x3310 to 0x331F (R104, 03_tables.md). -/
def recEmTable : ObjRecord := { base := 0x3310, last := 0x331F, name := "EM_TABLE", rows := [
  ⟨0x01, 1, "ENABLE", .bool, Rights.aHRWFRWSRO, [0], .rng 0 1, true⟩,
  ⟨0x02, 1, "KIND", .u8, Rights.aHRWFRWSRO, [0], .rng 0 2, false⟩,
  ⟨0x03, 1, "WIDTH", .u8, Rights.aHRWFRWSRO, [0], .rng 0 1, false⟩,
  ⟨0x04, 1, "BANK_FIRST", .u16, Rights.aHRWFRWSRO, [0], .rng 0 614, false⟩,
  ⟨0x05, 1, "BANK_COUNT", .u16, Rights.aHRWFRWSRO, [1], .rng 1 615, false⟩,
  ⟨0x06, 1, "SEED1", .u32, Rights.aHRWFRWSRO, [1515847681], .any, false⟩,
  ⟨0x07, 1, "SEED2", .u32, Rights.aHRWFRWSRO, [2779054082], .any, false⟩,
  ⟨0x08, 1, "EVICT_MODE", .u8, Rights.aHRWFRWSRO, [0], .rng 0 2, false⟩,
  ⟨0x09, 1, "EVENT_CQ", .u16, Rights.aHRWFRWSRO, [65535], .rngOr 0 1023 0xFFFF, false⟩,
  ⟨0x0A, 1, "STAMP_UNIT", .u32, Rights.aHRWFRWSRO, [1000000], .rng 1000 60000000, false⟩,
  ⟨0x0B, 1, "AGE_LIMIT", .u16, Rights.aHRWFRWSRO, [0], .rng 0 32768, false⟩,
  ⟨0x0C, 1, "HIT_REFRESH", .bool, Rights.aHRWFRWSRO, [1], .rng 0 1, false⟩,
  ⟨0x0D, 1, "LEARN_ENABLE", .bool, Rights.aHRWFRWSRO, [0], .rng 0 1, true⟩,
  ⟨0x0E, 1, "STAMP_NOW", .u16, Rights.aHROFROSRO, [0], .any, false⟩,
  ⟨0x0F, 1, "ENTRIES", .u32, Rights.aHROFROSRO, [0], .any, false⟩,
  ⟨0x10, 1, "LOCKED", .u32, Rights.aHROFROSRO, [0], .any, false⟩,
  ⟨0x11, 1, "STATIC", .u32, Rights.aHROFROSRO, [0], .any, false⟩,
  ⟨0x12, 1, "LEARNED", .u64, Rights.aHROFROSRO, [0], .any, false⟩,
  ⟨0x13, 1, "MOVED", .u64, Rights.aHROFROSRO, [0], .any, false⟩,
  ⟨0x14, 1, "MOVE_DENIED", .u64, Rights.aHROFROSRO, [0], .any, false⟩,
  ⟨0x15, 1, "AGED", .u64, Rights.aHROFROSRO, [0], .any, false⟩,
  ⟨0x16, 1, "EVICTED", .u64, Rights.aHROFROSRO, [0], .any, false⟩,
  ⟨0x17, 1, "INSERT_FAILS", .u64, Rights.aHROFROSRO, [0], .any, false⟩,
  ⟨0x18, 1, "RELOCATIONS", .u64, Rights.aHROFROSRO, [0], .any, false⟩,
  ⟨0x19, 1, "DEFERRALS", .u64, Rights.aHROFROSRO, [0], .any, false⟩,
  ⟨0x1A, 1, "LEARN_DROPS", .u64, Rights.aHROFROSRO, [0], .any, false⟩,
  ⟨0x1B, 1, "PARITY_ERRORS", .u64, Rights.aHROFROSRO, [0], .any, false⟩,
  ⟨0x1C, 1, "EVENT_DROPS", .u64, Rights.aHROFROSRO, [0], .any, false⟩,
  ⟨0x1D, 1, "PAUSED", .bool, Rights.aHROFROSRO, [0], .rng 0 1, false⟩] }

/-- `LPM_CTRL`, 0x3320 (R114, 03_tables.md). -/
def recLpmCtrl : ObjRecord := { base := 0x3320, last := 0x3320, name := "LPM_CTRL", rows := [
  ⟨0x01, 1, "V4_ROUTES", .u32, Rights.aHROFROSRO, [0], .any, false⟩,
  ⟨0x02, 1, "V6_ROUTES", .u32, Rights.aHROFROSRO, [0], .any, false⟩,
  ⟨0x03, 1, "FULL_WARN", .u8, Rights.aHRWFRWSRO, [90], .rng 50 100, false⟩,
  ⟨0x04, 1, "UPDATES", .u64, Rights.aHROFROSRO, [0], .any, false⟩,
  ⟨0x05, 1, "PARITY_LOSSES", .u64, Rights.aHROFROSRO, [0], .any, false⟩,
  ⟨0x06, 1, "LABELS_VALID", .u32, Rights.aHROFROSRO, [0], .any, false⟩,
  ⟨0x07, 1, "LOSS_NEXT", .u32, Rights.aHROFROSRO, [0], .any, false⟩] }

/-- `TCAM_TABLE`, 0x3340 to 0x3343 (R123, 03_tables.md). -/
def recTcamTable : ObjRecord := { base := 0x3340, last := 0x3343, name := "TCAM_TABLE", rows := [
  ⟨0x01, 1, "ENABLE", .bool, Rights.aHRWFRWSRO, [0], .rng 0 1, true⟩,
  ⟨0x02, 1, "BANK_FIRST", .u8, Rights.aHRWFRWSRO, [0], .rng 0 15, false⟩,
  ⟨0x03, 1, "BANK_COUNT", .u8, Rights.aHRWFRWSRO, [1], .rng 1 16, false⟩,
  ⟨0x04, 1, "KEY_PROFILE", .u8, Rights.aHRWFRWSRO, [0], .rng 0 63, false⟩,
  ⟨0x05, 1, "POSITIONS", .u32, Rights.aHROFROSRO, [], .any, false⟩,
  ⟨0x06, 1, "VALID_COUNT", .u32, Rights.aHROFROSRO, [0], .any, false⟩,
  ⟨0x07, 1, "SEARCHES", .u64, Rights.aHROFROSRO, [0], .any, false⟩,
  ⟨0x08, 1, "HITS", .u64, Rights.aHROFROSRO, [0], .any, false⟩] }

/-- `TCAM_BANKS`, 0x3350 (R123, 03_tables.md). -/
def recTcamBanks : ObjRecord := { base := 0x3350, last := 0x3350, name := "TCAM_BANKS", rows := [
  ⟨0x01, 16, "WIDTH_TB", .u8, Rights.aHRWFRWSRO, [1], .oneOf [1, 2, 4], false⟩] }

/-- `TCAM_SCRUB`, 0x3360 (R123, 03_tables.md). -/
def recTcamScrub : ObjRecord := { base := 0x3360, last := 0x3360, name := "TCAM_SCRUB", rows := [
  ⟨0x01, 1, "REPLICA_FIXES", .u64, Rights.aHROFROSRO, [0], .any, false⟩,
  ⟨0x02, 1, "SHADOW_RECOVERED", .u64, Rights.aHROFROSRO, [0], .any, false⟩,
  ⟨0x03, 1, "SHADOW_LOST", .u64, Rights.aHROFROSRO, [0], .any, false⟩,
  ⟨0x04, 1, "MOVED_ENTRIES", .u64, Rights.aHROFROSRO, [0], .any, false⟩] }

/-- `PORT_LOOKUP`, 0x3400 to 0x3482 (R130, 04_forwarding_resolution.md). -/
def recPortLookup : ObjRecord := { base := 0x3400, last := 0x3482, name := "PORT_LOOKUP", rows := [
  ⟨0x01, 1, "LOOKUP_PROFILE", .u8, Rights.aHRWFRWSRO, [0], .rng 0 15, false⟩,
  ⟨0x02, 1, "FWD_DOMAIN", .u16, Rights.aHRWFRWSRO, [0], .rng 0 4095, false⟩,
  ⟨0x03, 1, "FD_FROM_VID", .bool, Rights.aHRWFRWSRO, [0], .rng 0 1, false⟩,
  ⟨0x04, 1, "SRC_LAG", .u16, Rights.aHRWFRWSRO, [65535], .rngOr 0 255 0xFFFF, false⟩,
  ⟨0x05, 1, "BRIDGE_TEMPLATE", .u16, Rights.aHRWFRWSRO, [0], .rng 0 4095, false⟩] }

/-- `RESOLUTION`, 0x3490 (R156, 04_forwarding_resolution.md). -/
def recResolution : ObjRecord := { base := 0x3490, last := 0x3490, name := "RESOLUTION", rows := [
  ⟨0x01, 1, "RECIRC_SECTOR", .u8, Rights.aHRWFRWSRO, [0], .rng 0 7, false⟩,
  ⟨0x02, 1, "DROPPED", .u64, Rights.aHROFROSRO, [0], .any, false⟩,
  ⟨0x03, 1, "TRAPPED", .u64, Rights.aHROFROSRO, [0], .any, false⟩,
  ⟨0x04, 1, "SELF_DEST", .u64, Rights.aHROFROSRO, [0], .any, false⟩,
  ⟨0x05, 1, "SELECTOR_MISMATCH", .u64, Rights.aHROFROSRO, [0], .any, false⟩,
  ⟨0x06, 1, "LAG_EMPTY", .u64, Rights.aHROFROSRO, [0], .any, false⟩,
  ⟨0x07, 1, "MC_DROPS", .u64, Rights.aHROFROSRO, [0], .any, false⟩,
  ⟨0x08, 1, "RECIRC_DROPS", .u64, Rights.aHROFROSRO, [0], .any, false⟩,
  ⟨0x09, 1, "EDIT_ERRORS", .u64, Rights.aHROFROSRO, [0], .any, false⟩,
  ⟨0x0A, 1, "MTU_DROPS", .u64, Rights.aHROFROSRO, [0], .any, false⟩,
  ⟨0x0B, 1, "PARITY_DROPS", .u64, Rights.aHROFROSRO, [0], .any, false⟩] }

/-- `LOOKUP_PROFILE`, 0x34A0 to 0x34AF (R132, 04_forwarding_resolution.md). -/
def recLookupProfile : ObjRecord := { base := 0x34A0, last := 0x34AF, name := "LOOKUP_PROFILE", rows := [
  ⟨0x01, 4, "EM", .u32, Rights.aHRWFRWSRO, [0], .any, false⟩,
  ⟨0x05, 1, "LPM_MODE", .u8, Rights.aHRWFRWSRO, [0], .rng 0 3, false⟩,
  ⟨0x06, 1, "TCAM_TABLE", .u8, Rights.aHRWFRWSRO, [255], .rngOr 0 3 0xFF, false⟩,
  ⟨0x07, 1, "MISS_PTR", .u32, Rights.aHRWFRWSRO, [1342177281], .mask 0xF0FFFFFF, false⟩,
  ⟨0x08, 1, "TTL_CHECK", .bool, Rights.aHRWFRWSRO, [1], .rng 0 1, false⟩] }

/-- `PIPE_POOL`, 0x34B0 to 0x34B7 (R148, 04_forwarding_resolution.md). -/
def recPipePool : ObjRecord := { base := 0x34B0, last := 0x34B7, name := "PIPE_POOL", rows := [
  ⟨0x01, 1, "MODE", .u8, Rights.aHRWFRWSRO, [0], .rng 0 1, false⟩,
  ⟨0x02, 1, "POOL_MASK", .u8, Rights.aHRWFRWSRO, [15], .rng 1 15, false⟩,
  ⟨0x03, 1, "ACTIVE_MASK", .u8, Rights.aHROFROSRO, [15], .any, false⟩,
  ⟨0x04, 1, "HIGH_PCT", .u8, Rights.aHRWFRWSRO, [75], .rng 50 95, false⟩,
  ⟨0x05, 1, "LOW_PCT", .u8, Rights.aHRWFRWSRO, [25], .rng 5 45, false⟩,
  ⟨0x06, 1, "CHANGES", .u64, Rights.aHROFROSRO, [0], .any, false⟩] }

/-- `PORT_METER`, 0x3500 to 0x3582 (R233, 07_shaping_policing_gates.md). -/
def recPortMeter : ObjRecord := { base := 0x3500, last := 0x3582, name := "PORT_METER", rows := [
  ⟨0x01, 1, "METER_MODE", .u8, Rights.aHRWFRWSRO, [0], .rng 0 2, false⟩,
  ⟨0x02, 1, "CLASS_BASE", .u32, Rights.aHRWFRWSRO, [0], .rng 0 262136, false⟩,
  ⟨0x03, 1, "USER_BASE", .u32, Rights.aHRWFRWSRO, [0], .rng 0 131072, false⟩,
  ⟨0x04, 1, "METER_DROPS", .u64, Rights.aHROFROSRO, [0], .any, false⟩] }

/-- `METER_CTRL`, 0x3590 (R239, 07_shaping_policing_gates.md). -/
def recMeterCtrl : ObjRecord := { base := 0x3590, last := 0x3590, name := "METER_CTRL", rows := [
  ⟨0x01, 1, "METERED", .u64, Rights.aHROFROSRO, [0], .any, false⟩,
  ⟨0x02, 1, "RED_DROPS", .u64, Rights.aHROFROSRO, [0], .any, false⟩,
  ⟨0x03, 1, "ECC_CORRECTED", .u64, Rights.aHROFROSRO, [0], .any, false⟩,
  ⟨0x04, 1, "ECC_UNCORRECTED", .u64, Rights.aHROFROSRO, [0], .any, false⟩] }

/-- `TM_CTRL`, 0x4000 (R222, 06_queues_scheduling.md). -/
def recTmCtrl : ObjRecord := { base := 0x4000, last := 0x4000, name := "TM_CTRL", rows := [
  ⟨0x01, 1, "SCHED_ENABLE", .bool, Rights.aHRWFRWSRO, [0], .rng 0 1, true⟩,
  ⟨0x02, 1, "FLUSH_QUEUE", .u32, Rights.aHWOFWO, [], .any, false⟩,
  ⟨0x03, 1, "FLUSHED", .u64, Rights.aHROFROSRO, [0], .any, false⟩,
  ⟨0x04, 1, "NO_QUEUE_DROPS", .u64, Rights.aHROFROSRO, [0], .any, false⟩,
  ⟨0x05, 1, "ECC_CORRECTED", .u64, Rights.aHROFROSRO, [0], .any, false⟩,
  ⟨0x06, 1, "ECC_UNCORRECTED", .u64, Rights.aHROFROSRO, [0], .any, false⟩] }

/-- `SCHED_PORT`, 0x4010 to 0x4097 (R222, 06_queues_scheduling.md). -/
def recSchedPort : ObjRecord := { base := 0x4010, last := 0x4097, name := "SCHED_PORT", rows := [
  ⟨0x01, 1, "TX_WINDOW", .u32, Rights.aHRWFRWSRO, [0], .rngOr 2048 131072 0, false⟩,
  ⟨0x02, 1, "LEN_ADJ", .i32, Rights.aHRWFRWSRO, [20], .srng (-64) 255, false⟩,
  ⟨0x03, 1, "OUTSTANDING", .u32, Rights.aHROFROSRO, [0], .any, false⟩,
  ⟨0x04, 1, "DEQ_PACKETS", .u64, Rights.aHROFROSRO, [0], .any, false⟩,
  ⟨0x05, 1, "DEQ_BYTES", .u64, Rights.aHROFROSRO, [0], .any, false⟩] }

/-- `CREDIT_PORT`, 0x40A0 to 0x411F (R222, 06_queues_scheduling.md). -/
def recCreditPort : ObjRecord := { base := 0x40A0, last := 0x411F, name := "CREDIT_PORT", rows := [
  ⟨0x01, 1, "CREDIT_PCT", .u8, Rights.aHRWFRWSRO, [105], .rng 100 150, false⟩,
  ⟨0x02, 1, "CREDIT_HOLD", .u32, Rights.aHRWFRWSRO, [4096], .rng 64 16777216, false⟩,
  ⟨0x03, 1, "CREDIT_RESUME", .u32, Rights.aHRWFRWSRO, [2048], .any, false⟩,
  ⟨0x04, 1, "GRANTED_BYTES", .u64, Rights.aHROFROSRO, [0], .any, false⟩,
  ⟨0x05, 1, "HELD", .bool, Rights.aHROFROSRO, [0], .rng 0 1, false⟩] }

/-- `QUEUE_SAMPLING`, 0x4120 (R222, 06_queues_scheduling.md). -/
def recQueueSampling : ObjRecord := { base := 0x4120, last := 0x4120, name := "QUEUE_SAMPLING", rows := [
  ⟨0x01, 1, "ROUNDS", .u64, Rights.aHROFROSRO, [0], .any, false⟩,
  ⟨0x02, 1, "ROUND_START", .time80, Rights.aHROFROSRO, [], .any, false⟩,
  ⟨0x03, 1, "LOG_INDEX", .u32, Rights.aHROFROSRO, [0], .any, false⟩,
  ⟨0x04, 1, "LOG_WRAPS", .u64, Rights.aHROFROSRO, [0], .any, false⟩,
  ⟨0x05, 1, "MARKED_VALID", .u16, Rights.aHROFROSRO, [0], .any, false⟩] }

/-- `VOQ_CTRL`, 0x4130 (R222, 06_queues_scheduling.md). -/
def recVoqCtrl : ObjRecord := { base := 0x4130, last := 0x4130, name := "VOQ_CTRL", rows := [
  ⟨0x01, 1, "BALANCE_MAX", .u32, Rights.aHRWFRWSRO, [262144], .rng 16384 16777216, false⟩,
  ⟨0x02, 1, "CREDIT_WASTED", .u64, Rights.aHROFROSRO, [0], .any, false⟩,
  ⟨0x03, 1, "FABRIC_PACKETS", .u64, Rights.aHROFROSRO, [0], .any, false⟩] }

/-- `CREDIT_CTRL`, 0x4131 (R316, 10_fabric_interface.md). -/
def recCreditCtrl : ObjRecord := { base := 0x4131, last := 0x4131, name := "CREDIT_CTRL", rows := [
  ⟨0x01, 1, "GRANT_BYTES", .u32, Rights.aHRWFRWSRO, [4096], .rng 512 65536, false⟩,
  ⟨0x02, 1, "REQ_LEVEL", .u32, Rights.aHRWFRWSRO, [65536], .any, false⟩,
  ⟨0x03, 1, "REFRESH_US", .u16, Rights.aHRWFRWSRO, [100], .rng 10 10000, false⟩,
  ⟨0x04, 1, "REQUESTS_SENT", .u64, Rights.aHROFROSRO, [0], .any, false⟩,
  ⟨0x05, 1, "GRANTS_SENT", .u64, Rights.aHROFROSRO, [0], .any, false⟩,
  ⟨0x06, 1, "GRANTS_RECEIVED", .u64, Rights.aHROFROSRO, [0], .any, false⟩,
  ⟨0x07, 1, "STALE_REQUESTS", .u64, Rights.aHROFROSRO, [0], .any, false⟩] }

/-- `CREDIT_SPECIAL`, 0x4138 to 0x413F (R222, 06_queues_scheduling.md). -/
def recCreditSpecial : ObjRecord := { base := 0x4138, last := 0x413F, name := "CREDIT_SPECIAL", rows := [
  ⟨0x01, 1, "CREDIT_PCT", .u8, Rights.aHRWFRWSRO, [105], .rng 100 150, false⟩,
  ⟨0x02, 1, "CREDIT_HOLD", .u32, Rights.aHRWFRWSRO, [4096], .rng 64 16777216, false⟩,
  ⟨0x03, 1, "CREDIT_RESUME", .u32, Rights.aHRWFRWSRO, [2048], .any, false⟩,
  ⟨0x04, 1, "GRANTED_BYTES", .u64, Rights.aHROFROSRO, [0], .any, false⟩,
  ⟨0x05, 1, "HELD", .bool, Rights.aHROFROSRO, [0], .rng 0 1, false⟩] }

/-- `PORT_TIMING`, 0x4140 to 0x41C7 (R246, 07_shaping_policing_gates.md). -/
def recPortTiming : ObjRecord := { base := 0x4140, last := 0x41C7, name := "PORT_TIMING", rows := [
  ⟨0x01, 1, "GATE_ENABLE", .bool, Rights.aHRWFRWSRO, [0], .rng 0 1, true⟩,
  ⟨0x02, 1, "GATED_CLASSES", .u8, Rights.aHRWFRWSRO, [0], .any, false⟩,
  ⟨0x03, 1, "ACTIVE_BANK", .u8, Rights.aHROFROSRO, [0], .any, false⟩,
  ⟨0x04, 2, "COUNT_B", .u8, Rights.aHRWFRWSRO, [0], .rng 0 64, false⟩,
  ⟨0x06, 1, "GUARD_MODE", .u8, Rights.aHRWFRWSRO, [1], .rng 0 1, false⟩,
  ⟨0x07, 1, "GUARD_NS", .u32, Rights.aHRWFRWSRO, [0], .rng 0 100000, false⟩,
  ⟨0x08, 1, "TX_LEAD", .u32, Rights.aHROFROSRO, [], .any, false⟩,
  ⟨0x09, 1, "SPAN_RATE", .u32, Rights.aHRWFRWSRO, [400000], .rng 1000 1600000, false⟩,
  ⟨0x0A, 1, "ACTIVE_ENTRY", .u8, Rights.aHROFROSRO, [0], .any, false⟩,
  ⟨0x0B, 1, "CYCLES", .u64, Rights.aHROFROSRO, [0], .any, false⟩,
  ⟨0x0C, 1, "SWAPS", .u64, Rights.aHROFROSRO, [0], .any, false⟩,
  ⟨0x0D, 1, "SWAP_REFUSED", .u64, Rights.aHROFROSRO, [0], .any, false⟩,
  ⟨0x0E, 1, "CYCLE_OVERRUNS", .u64, Rights.aHROFROSRO, [0], .any, false⟩,
  ⟨0x0F, 1, "GUARD_HOLDS", .u64, Rights.aHROFROSRO, [0], .any, false⟩,
  ⟨0x10, 1, "WINDOW_MISSES", .u64, Rights.aHROFROSRO, [0], .any, false⟩] }

/-- `SHAPER_PROFILE`, 0x4400 to 0x47FF (R232, 07_shaping_policing_gates.md). -/
def recShaperProfile : ObjRecord := { base := 0x4400, last := 0x47FF, name := "SHAPER_PROFILE", rows := [
  ⟨0x01, 1, "RISE_RATE", .u32, Rights.aHRWFRWSRO, [0], .any, false⟩,
  ⟨0x02, 1, "FALL_RATE", .u32, Rights.aHRWFRWSRO, [0], .any, false⟩,
  ⟨0x03, 1, "MAX_CREDIT", .u32, Rights.aHRWFRWSRO, [16384], .rng 0 268435455, false⟩,
  ⟨0x04, 1, "RESET_TO", .bool, Rights.aHRWFRWSRO, [0], .rng 0 1, false⟩,
  ⟨0x05, 1, "NODES", .u32, Rights.aHROFROSRO, [0], .any, false⟩] }

/-- `RECOMP_CTRL`, 0x5000 (R266, 08_fronthaul_recompression.md). -/
def recRecompCtrl : ObjRecord := { base := 0x5000, last := 0x5000, name := "RECOMP_CTRL", rows := [
  ⟨0x01, 1, "XC_SECTOR", .u8, Rights.aHRWFRWSRO, [0], .rng 0 7, false⟩,
  ⟨0x02, 1, "PASSED", .u64, Rights.aHROFROSRO, [0], .any, false⟩,
  ⟨0x03, 1, "MALFORMED", .u64, Rights.aHROFROSRO, [0], .any, false⟩,
  ⟨0x04, 1, "XC_PACKETS", .u64, Rights.aHROFROSRO, [0], .any, false⟩] }

/-- `RECOMP_PROFILE`, 0x5001 to 0x503F (R266, 08_fronthaul_recompression.md). -/
def recRecompProfile : ObjRecord := { base := 0x5001, last := 0x503F, name := "RECOMP_PROFILE", rows := [
  ⟨0x01, 1, "IN_HDR", .bool, Rights.aHRWFRWSRO, [1], .rng 0 1, false⟩,
  ⟨0x02, 1, "IN_FORMAT", .u8, Rights.aHRWFRWSRO, [0], .any, false⟩,
  ⟨0x03, 1, "OUT_HDR", .bool, Rights.aHRWFRWSRO, [1], .rng 0 1, false⟩,
  ⟨0x04, 1, "OUT_FORMAT", .u8, Rights.aHRWFRWSRO, [0], .any, false⟩,
  ⟨0x05, 1, "ALL_PRB", .u16, Rights.aHRWFRWSRO, [273], .rng 1 273, false⟩,
  ⟨0x06, 1, "PACKETS", .u64, Rights.aHROFROSRO, [0], .any, false⟩,
  ⟨0x07, 1, "PRBS", .u64, Rights.aHROFROSRO, [0], .any, false⟩,
  ⟨0x08, 1, "CLIPPED", .u64, Rights.aHROFROSRO, [0], .any, false⟩,
  ⟨0x09, 1, "BAD_PRBS", .u64, Rights.aHROFROSRO, [0], .any, false⟩] }

/-- `BUFFER_CTRL`, 0x5800 (R185, 05_buffers.md). -/
def recBufferCtrl : ObjRecord := { base := 0x5800, last := 0x5800, name := "BUFFER_CTRL", rows := [
  ⟨0x01, 1, "BUF_ENABLE", .bool, Rights.aHRWFRWSRO, [0], .rng 0 1, true⟩,
  ⟨0x02, 1, "HC_SIZE_MB", .u8, Rights.aHRWFRWSRO, [4], .rng 1 16, false⟩,
  ⟨0x03, 1, "STAGE_MAX", .u32, Rights.aHRWFRWSRO, [16384], .rng 1024 65536, false⟩,
  ⟨0x04, 1, "CT_PORTS_LO", .u64, Rights.aHRWFRWSRO, [0], .any, false⟩,
  ⟨0x05, 1, "CT_PORTS_HI", .u64, Rights.aHRWFRWSRO, [0], .any, false⟩,
  ⟨0x06, 1, "CT_PACKETS", .u64, Rights.aHROFROSRO, [0], .any, false⟩,
  ⟨0x07, 1, "CT_FALLBACK", .u64, Rights.aHROFROSRO, [0], .any, false⟩,
  ⟨0x08, 1, "CT_DISCARDED", .u64, Rights.aHROFROSRO, [0], .any, false⟩,
  ⟨0x09, 1, "CT_STOMPED", .u64, Rights.aHROFROSRO, [0], .any, false⟩,
  ⟨0x0A, 1, "STAGE_FULL", .u64, Rights.aHROFROSRO, [0], .any, false⟩,
  ⟨0x0B, 1, "SPILL_ENTRIES", .u64, Rights.aHROFROSRO, [0], .any, false⟩] }

/-- `BUFFER_REGION`, 0x5810 to 0x5812 (R164, 05_buffers.md). -/
def recBufferRegion : ObjRecord := { base := 0x5810, last := 0x5812, name := "BUFFER_REGION", rows := [
  ⟨0x01, 1, "MODE", .u8, Rights.aHRWFRWSRO, [0, 1, 1], .rng 0 1, false⟩,
  ⟨0x02, 1, "TOTAL_UNITS", .u32, Rights.aHROFROSRO, [], .any, false⟩,
  ⟨0x03, 1, "FREE_UNITS", .u32, Rights.aHROFROSRO, [], .any, false⟩,
  ⟨0x04, 1, "MIN_FREE", .u32, Rights.aHRCFRCSRO, [], .any, false⟩,
  ⟨0x05, 1, "LOW_WATER_PCT", .u8, Rights.aHRWFRWSRO, [10], .rng 5 50, false⟩,
  ⟨0x06, 1, "REFUSED_THRESHOLD", .u64, Rights.aHROFROSRO, [0], .any, false⟩,
  ⟨0x07, 1, "REFUSED_QUOTA", .u64, Rights.aHROFROSRO, [0], .any, false⟩,
  ⟨0x08, 1, "REFUSED_EMPTY", .u64, Rights.aHROFROSRO, [0], .any, false⟩,
  ⟨0x09, 1, "ECC_CORRECTED", .u64, Rights.aHROFROSRO, [0], .any, false⟩,
  ⟨0x0A, 1, "ECC_UNCORRECTED", .u64, Rights.aHROFROSRO, [0], .any, false⟩,
  ⟨0x0B, 1, "LEAKED_UNITS", .u32, Rights.aHROFROSRO, [0], .any, false⟩] }

/-- `POOL`, 0x5820 to 0x5837 (R164, 05_buffers.md). -/
def recPool : ObjRecord := { base := 0x5820, last := 0x5837, name := "POOL", rows := [
  ⟨0x01, 1, "BUF_BYTES", .u32, Rights.aHRWFRWSRO, [0, 0, 0, 0, 0, 0, 0, 0, 256, 2048, 16384, 0, 0, 0, 0, 0, 512, 2048, 4096, 8192, 16384, 0, 0, 0], .any, false⟩,
  ⟨0x02, 1, "BUF_COUNT", .u32, Rights.aHRWFRWSRO, [0, 0, 0, 0, 0, 0, 0, 0, 4096, 512, 128, 0, 0, 0, 0, 0, 16777216, 8388608, 2097152, 1048576, 524288, 0, 0, 0], .any, false⟩,
  ⟨0x03, 1, "FREE", .u32, Rights.aHROFROSRO, [], .any, false⟩,
  ⟨0x04, 1, "MIN_FREE", .u32, Rights.aHRCFRCSRO, [], .any, false⟩,
  ⟨0x05, 1, "ALLOCS", .u64, Rights.aHROFROSRO, [0], .any, false⟩,
  ⟨0x06, 1, "FALLBACKS", .u64, Rights.aHROFROSRO, [0], .any, false⟩] }

/-- `PRIV_POOL`, 0x5838 to 0x5843 (R164, 05_buffers.md). -/
def recPrivPool : ObjRecord := { base := 0x5838, last := 0x5843, name := "PRIV_POOL", rows := [
  ⟨0x01, 1, "BUF_BYTES", .u32, Rights.aHRWFRWSRO, [2048], .any, false⟩,
  ⟨0x02, 1, "BUF_COUNT", .u32, Rights.aHRWFRWSRO, [0], .rng 0 65536, false⟩,
  ⟨0x03, 1, "FREE", .u32, Rights.aHROFROSRO, [], .any, false⟩,
  ⟨0x04, 1, "MIN_FREE", .u32, Rights.aHRCFRCSRO, [], .any, false⟩,
  ⟨0x05, 1, "ALLOCS", .u64, Rights.aHROFROSRO, [0], .any, false⟩,
  ⟨0x06, 1, "EMPTY", .u64, Rights.aHROFROSRO, [0], .any, false⟩] }

/-- `QUOTA_PROFILE`, 0x5850 to 0x586F (R166, 05_buffers.md). -/
def recQuotaProfile : ObjRecord := { base := 0x5850, last := 0x586F, name := "QUOTA_PROFILE", rows := [
  ⟨0x01, 1, "OCB_MAX", .u32, Rights.aHRWFRWSRO, [4294967295], .any, false⟩,
  ⟨0x02, 1, "HC_MAX", .u32, Rights.aHRWFRWSRO, [4294967295], .any, false⟩,
  ⟨0x03, 1, "HBM_MAX", .u32, Rights.aHRWFRWSRO, [4294967295], .any, false⟩] }

/-- `BUFFER_PROFILE`, 0x5880 to 0x58BF (R170, 05_buffers.md). -/
def recBufferProfile : ObjRecord := { base := 0x5880, last := 0x58BF, name := "BUFFER_PROFILE", rows := [
  ⟨0x01, 1, "REGION", .u8, Rights.aHRWFRWSRO, [0], .rng 0 1, false⟩,
  ⟨0x02, 1, "ALPHA_K", .u32, Rights.aHRWFRWSRO, [1036541], .mask 0x00FFFFFF, false⟩,
  ⟨0x03, 1, "SPILL_EN", .bool, Rights.aHRWFRWSRO, [1], .rng 0 1, false⟩,
  ⟨0x04, 1, "SPILL_ON", .u32, Rights.aHRWFRWSRO, [4096], .rng 1 16777216, false⟩,
  ⟨0x05, 1, "SPILL_OFF", .u32, Rights.aHRWFRWSRO, [1024], .any, false⟩,
  ⟨0x06, 1, "PRIV_POOL", .u8, Rights.aHRWFRWSRO, [0], .rng 0 4, false⟩,
  ⟨0x07, 1, "PRIV_FALLBACK", .bool, Rights.aHRWFRWSRO, [1], .rng 0 1, false⟩,
  ⟨0x08, 1, "REFUSED", .u64, Rights.aHROFROSRO, [0], .any, false⟩] }

/-- `HBM_CTRL`, 0x6000 (R365, 12_hbm_controller.md). -/
def recHbmCtrl : ObjRecord := { base := 0x6000, last := 0x6000, name := "HBM_CTRL", rows := [
  ⟨0x01, 1, "RETRAIN_MS", .u16, Rights.aHRWFRWSRO, [100], .rng 10 1000, false⟩,
  ⟨0x02, 1, "RETRAIN_TEMP_C", .u8, Rights.aHRWFRWSRO, [4], .rng 1 16, false⟩,
  ⟨0x03, 1, "CE_LIMIT", .u32, Rights.aHRWFRWSRO, [1000], .rng 1 10000000, false⟩,
  ⟨0x04, 1, "SCRUB_HOURS", .u8, Rights.aHRWFRWSRO, [24], .rng 1 168, false⟩,
  ⟨0x05, 1, "T_TAGS_USED", .u16, Rights.aHROFROSRO, [0], .any, false⟩,
  ⟨0x06, 1, "F_TAGS_USED", .u16, Rights.aHROFROSRO, [0], .any, false⟩] }

/-- `HBM_STACK`, 0x6010 to 0x6013 (R365, 12_hbm_controller.md). -/
def recHbmStack : ObjRecord := { base := 0x6010, last := 0x6013, name := "HBM_STACK", rows := [
  ⟨0x01, 1, "TEMP_C", .i32, Rights.aHROFROSRO, [], .any, false⟩,
  ⟨0x02, 1, "REFRESH_X2", .bool, Rights.aHROFROSRO, [0], .rng 0 1, false⟩,
  ⟨0x03, 1, "CHAN_FAILED", .u32, Rights.aHROFROSRO, [0], .any, false⟩,
  ⟨0x04, 1, "CE_COUNT", .u64, Rights.aHROFROSRO, [0], .any, false⟩,
  ⟨0x05, 1, "UE_COUNT", .u64, Rights.aHROFROSRO, [0], .any, false⟩,
  ⟨0x06, 1, "FORWARDED", .u64, Rights.aHROFROSRO, [0], .any, false⟩,
  ⟨0x07, 1, "RAW_WAITS", .u64, Rights.aHROFROSRO, [0], .any, false⟩,
  ⟨0x08, 1, "RETRAIN_STEPS", .u64, Rights.aHROFROSRO, [0], .any, false⟩,
  ⟨0x09, 1, "STEP_REPEATS", .u64, Rights.aHROFROSRO, [0], .any, false⟩] }

/-- `HBM_REGION`, 0x6020 to 0x6022 (R365, 12_hbm_controller.md). -/
def recHbmRegion : ObjRecord := { base := 0x6020, last := 0x6022, name := "HBM_REGION", rows := [
  ⟨0x01, 1, "ORDER", .u8, Rights.aHRWFRWSRO, [3, 0, 1], .rng 0 3, false⟩,
  ⟨0x02, 1, "HASH", .bool, Rights.aHRWFRWSRO, [1], .rng 0 1, false⟩,
  ⟨0x03, 1, "SIZE_MB", .u32, Rights.aHROFROSRO, [49152, 128, 16256], .any, false⟩] }

/-- `HBM_HINTS`, 0x6030 (R365, 12_hbm_controller.md). -/
def recHbmHints : ObjRecord := { base := 0x6030, last := 0x6030, name := "HBM_HINTS", rows := [
  ⟨0x01, 1, "HINT_BUF_WRITE", .u8, Rights.aHRWFRWSRO, [2], .rng 0 2, false⟩,
  ⟨0x02, 1, "HINT_BUF_READ", .u8, Rights.aHRWFRWSRO, [2], .rng 0 2, false⟩,
  ⟨0x03, 1, "HINT_COUNT", .u8, Rights.aHRWFRWSRO, [1], .rng 0 2, false⟩,
  ⟨0x04, 1, "HINT_SAMPLE", .u8, Rights.aHRWFRWSRO, [2], .rng 0 2, false⟩,
  ⟨0x05, 1, "HINT_HOST", .u8, Rights.aHRWFRWSRO, [0], .rng 0 2, false⟩,
  ⟨0x06, 1, "HINT_SCRUB", .u8, Rights.aHRWFRWSRO, [1], .rng 0 2, false⟩] }

/-- Every record of the dictionary, in ascending index order (R372). -/
def objRecords : List ObjRecord :=
  [recIdentity, recPcieLink, recHostCtrl, recSqConfig, recCqConfig, recAccessStatus, recVfResources, recMbBinding, recMailbox, recDoorbell, recCoicaStation, recCoicaStats, recWakePattern, recTimebase, recTimeIo, recAirClock, recAirEventCtrl, recPerfBinClock, recPowerCtrl, recPowerClient, recSupply, recClocks, recThermal, recSensors, recSecurity, recLock, recDebug, recBoot, recFwSlot, recFwUpdate] ++
  [recPantry, recPairCtrl, recWitness, recPairStats, recProof, recEventCtrl, recEventLast, recEventLog, recLinePort, recPortCounters, recSnapshotGroup, recFabricLane, recFabricCtrl, recReassembly, recFabricPortMap, recLinkPm, recSchedLane, recParserCtrl, recParseStats, recTreeSet, recUserKey, recHashCtrl, recPortClassify, recKeyProfile, recTableMemory, recEmTable, recLpmCtrl, recTcamTable, recTcamBanks, recTcamScrub] ++
  [recPortLookup, recResolution, recLookupProfile, recPipePool, recPortMeter, recMeterCtrl, recTmCtrl, recSchedPort, recCreditPort, recQueueSampling, recVoqCtrl, recCreditCtrl, recCreditSpecial, recPortTiming, recShaperProfile, recRecompCtrl, recRecompProfile, recBufferCtrl, recBufferRegion, recPool, recPrivPool, recQuotaProfile, recBufferProfile, recHbmCtrl, recHbmStack, recHbmRegion, recHbmHints]

/-- The record at an index. -/
def recordAt (idx : Nat) : Option ObjRecord :=
  objRecords.find? fun r => Nat.ble r.base idx && Nat.ble idx r.last

/-- The row of an object within its record. -/
def ObjRecord.rowAt (r : ObjRecord) (sub : Nat) : Option ObjRow :=
  r.rows.find? fun w => Nat.ble w.sub sub && Nat.blt sub (w.sub + w.count)

/-- The row of object (idx, sub); a subindex that is not defined is no object (R367). -/
def rowAt (idx sub : Nat) : Option ObjRow :=
  match recordAt idx with
  | some r => r.rowAt sub
  | none => none

/-- The highest subindex defined at a record: the value of subindex 0x00 (R367). -/
def ObjRecord.highest (r : ObjRecord) : Nat :=
  r.rows.foldl (fun m w => max m (w.sub + w.count - 1)) 0

/-- Index and subindex of a key. -/
def keyIdx (k : Nat) : Nat := k / 0x100 % 0x10000
/-- Subindex of a key. -/
def keySub (k : Nat) : Nat := k % 0x100

/-- Default of an object where its table states one (R369). -/
def objDefault? (k : Nat) : Option Nat :=
  match recordAt (keyIdx k) with
  | none => none
  | some r =>
    match r.rowAt (keySub k) with
    | none => none
    | some w =>
      match w.dflt with
      | [] => none
      | [d] => some d
      | l => l[keyIdx k - r.base]?

/-- What an object holds that no write or update has changed: its default, and 0 where the table shows a dash (log
entry 3: such an object reports a current value, and reads 0 until the device first has one; the measured supplies and clocks read as at
POR_N's rise, log entry 34); the station address is what the straps say (R441, R566, log entry 5). -/
def objDefault (k : Nat) : Nat :=
  if k = Obj.COICA_STATION_STATION_ADDR then Config.strapAddress.val + 1 else (objDefault? k).getD 0

end Sys2Proof.Machine
end

