-- ==== Sys2Proof/Machine/State.lean ====
section
/-! DEFINITION. The state of the block: plain data, every piece of state the spec names, the queue of waiting commands, and
the record of what has left the device. Default values are the values after a cold reset (R530): where the spec states none
the field's docstring says so and names the log entry. -/

namespace Sys2Proof.Machine

/-- A sparse table: keys strictly rising, no entry equal to the table's default for its key (get and put stand in
Sys2Proof/Machine/Ops.lean). -/
abbrev Table (α : Type) := List (Nat × α)

/-- One event record (R550). -/
structure EventRec where
  code : Nat
  unit : Nat
  time : Nat
  num : Nat
  arg : Nat
deriving DecidableEq, Repr

/-- An open span of R553: no record of this code and scope until the elapsed instant. -/
structure Span where
  code : Nat
  scope : Nat
  until' : Nat
deriving DecidableEq, Repr

/-- The event machinery and the die-to-die link's health (R549 to R560). -/
structure EventState where
  /-- The last 1,024 records, newest first, and the occurrences of this instant that are to be logged in the order of their units and codes
  (R552). -/
  log : List EventRec := []
  due : List EventRec := []
  spans : List Span := []
  /-- ALARM_N is driven low. -/
  alarmLow : Bool := false
  /-- A fatal event was raised since package reset while STANDBY (R480). -/
  fatal : Bool := false
  /-- Automatic sector resets: sector (die × 16 + sector) and elapsed instant (R558). -/
  autoResets : List (Nat × Nat) := []
  /-- Consecutive failed replays of the D2D link (R559). -/
  failedReplays : Nat := 0
  /-- Elapsed instant at which the D2D link began to retrain. -/
  d2dRetrain : Option Nat := none
  /-- The D2D link is down until a package warm reset. -/
  d2dFailed : Bool := false
deriving DecidableEq, Repr

/-- Master identities by class (R7, R18). -/
inductive MClass where
  | h | v | f | m | s | d
deriving DecidableEq, Repr

/-- Output pins whose level the device sets. -/
inductive Pin where
  | ppsOut | alarmN | wakeN
deriving DecidableEq, Repr

/-- What leaves the device (log entry 6). -/
inductive Emission where
  /-- An access ended: master, object key or domain key, status (R371), value read. -/
  | access (master key status value : Nat)
  /-- A write of host memory of a function: address and bytes. -/
  | hostWrite (fn addr : Nat) (data : List Byte)
  /-- An MSI-X signal of a function's local vector (R391, R411). -/
  | msix (fn vec : Nat)
  /-- What a function's configuration space says of it as the host enumerates it: Device ID and class code (R389). -/
  | identify (fn deviceId classCode : Nat)
  /-- An error that a function reports by AER: a failed or poisoned request of its rings (R389, R414). -/
  | pcieError (fn : Nat)
  /-- A read of a function's BAR2 or BAR4 is answered: offset in the BAR and value (R390). -/
  | barRead (fn bar offset value : Nat)
  /-- A pin changes level. -/
  | pin (p : Pin) (high : Bool)
  /-- A frame on a line port; `stomped`: ended with an inverted FCS (R182). -/
  | frame (port : Nat) (bytes : List Byte) (stomped : Bool)
  /-- A mate message: its 32-byte header and its payload (R463, R464). -/
  | mate (message : List Byte)
  /-- A Coica frame, the bytes FC to FCS (R437). -/
  | coica (frame : List Byte)
  /-- A link frame on a fabric lane, 4,128 bytes as sent (R318). -/
  | linkFrame (lane : Nat) (bytes : List Byte)
  /-- An unmodulated pad on the Coica bus, in ns (R445). -/
  | carrier (ns : Nat)
  /-- A packet or record handed to a debug reader: words. -/
  | debug (words : List Nat)
  /-- Bytes written to the flash: offset and data (R383, R384). -/
  | flash (offset : Nat) (data : List Byte)
  /-- An interrupt of the management controller cluster (R426). -/
  | fwInterrupt
  /-- Data of an HBM read as its requester gets them (R358): stack, sector, bytes. It stays within the device. -/
  | hbmData (stack sector : Nat) (data : List Byte)
deriving DecidableEq, Repr

/-- One written version of an air event table entry or of an air clock's ENABLE, with the instant from which it is in
force (R33, R42). -/
structure Version where
  entry : Nat
  eff : Nat
  image : Nat
deriving DecidableEq, Repr

/-- An action sent to its target, with its instant (R41). -/
structure AirAction where
  due : Nat
  entry : Nat
  clock : Nat
  action : Nat
  target : Nat
  arg : Nat
  /-- The contents of the entry that this occurrence follows (R42). -/
  image : Nat := 0
deriving DecidableEq, Repr

/-- Timebase, air clocks and dispatcher. -/
structure TimeState where
  /-- Ticks of CLK_TIME (1 ns) since cold reset: elapsed time, which no step moves (R553). -/
  now : Nat := 0
  /-- The main timebase in ns since 1970-01-01 TAI (R20, R26). -/
  tai : Nat := 0
  /-- Its fraction in 2^-32 ns (R24). -/
  frac : Nat := 0
  /-- The island's shadow counter in ns (R26). -/
  shadow : Nat := 0
  /-- Its fraction in 2^-32 ns. -/
  shadowFrac : Nat := 0
  /-- The instants before the last tick of the main timebase and of CLK_AON, or just before the instant a step or a load brought the
  timebase to: an instant in (before, tai] is one that the timebase has reached with its last tick. -/
  before : Nat := 0
  shadowBefore : Nat := 0
  /-- Values written to STEP that the next tick adds, oldest first (R25). -/
  steps : List Int := []
  /-- The main timebase is lost and waits to be loaded (R26). -/
  reload : Bool := false
  /-- Elapsed instant at which lock was last declared. -/
  lockAt : Nat := 0
  /-- The last 64 servo adjustments since cold reset, newest first (R24). -/
  adjustments : List Int := []
  /-- Elapsed instant of the last entry into HOLDOVER. -/
  holdoverAt : Nat := 0
  /-- T-die replica less the master counter, in ns (R21). -/
  replicaSkew : Int := 0
  /-- Consecutive periods without a time word (R46). -/
  missed : Nat := 0
  /-- PPS_OUT is high, and since when (R28). -/
  ppsHigh : Bool := false
  ppsRise : Nat := 0
  /-- ABS_SLOT of each air clock as latched by the last read of its POSITION (R34). -/
  absSlot : Table Nat := []
  /-- The last time event message accepted on TOD_RXD (R28). -/
  tod : List Byte := []
  /-- Versions of air event entries, newest first (R42); an entry that is not listed has its image. -/
  versions : List Version := []
  /-- Versions of air clock enables, newest first (R33); `entry` is the clock. -/
  clockVersions : List Version := []
  /-- Actions sent to their targets whose instant has not come, in due order (R41). -/
  fifo : List AirAction := []
  /-- Least due instant and entry the dispatcher has not passed (R41). -/
  nextDue : Nat := 0
  nextEntry : Nat := 0
  /-- Elapsed tick of the last issue. -/
  issuedAt : Option Nat := none
  /-- Elapsed instant at which bins last closed (R44, R45). -/
  lastBin : Option Nat := none
deriving DecidableEq, Repr

/-- Parser and classifier: hidden state. -/
structure ParseState where
  /-- Active roots of each tree set, one per tree; none after reset (R71). -/
  roots : Table (List Nat) := []
  /-- Damaged single-copy entries, by `domKey` or object key, until they are rewritten (R80, R120, R156). -/
  damaged : List Nat := []
deriving DecidableEq, Repr

/-- A valid exact-match entry (R89). -/
structure EmEntry where
  static : Bool
  lock : Bool
  stamp : Nat
  key : Nat
  result : Nat
deriving DecidableEq, Repr

/-- A compare-and-delete of the ager on its way to the bank port (R99). -/
structure AgeDelete where
  index : Nat
  key : Nat
  stamp : Nat
deriving DecidableEq, Repr

/-- A learn request that waits for the table engine (R101): key, LOCATION, and its place in the order of arrival at the engine (R93). -/
structure LearnReq where
  key : Nat
  loc : Nat
  seq : Nat
deriving DecidableEq, Repr

/-- One completion entry: its 128-bit image but for PHASE, and whether its job asked for INTR (R409, R411). -/
structure CqEntry where
  image : Nat
  intr : Bool
deriving DecidableEq, Repr

/-- Hidden state of one exact-match table. -/
structure EmState where
  /-- Choice register (R94); 0 until the first write of 1 to ENABLE. -/
  lfsr : Nat := 0
  /-- Elapsed instant of the next increment of STAMP_NOW; none until the boot has ended (R97). -/
  nextTick : Option Nat := none
  /-- Learn requests, oldest first. -/
  learn : List LearnReq := []
  /-- Next bucket of the ager's pass; none between passes. -/
  ager : Option Nat := none
  /-- A tick has come since the pass began. -/
  agerTick : Bool := false
  deletes : List AgeDelete := []
  /-- Elapsed instant from which MOVE_DENIED is reported again (R102). -/
  deniedUntil : Nat := 0
  /-- The ring whose full stash has paused the table (R107). -/
  pausedBy : Option Nat := none
  /-- Learn events that found their ring's stash full, with the ring, oldest first (log entry 128). -/
  waiting : List (Nat × CqEntry) := []
deriving DecidableEq, Repr

/-- A TCAM entry as the shadow, the associated data and the replicas hold it (R117, R118). -/
structure TcamEntry where
  valid : Bool := false
  /-- Value and mask, key bit 319 at the top. -/
  value : Nat := 0
  mask : Nat := 0
  assoc : Nat := 0
deriving DecidableEq, Repr

/-- A loss of LPM routes that is being completed (R128): the covering prefix, how many routes the structure held, and the bank that was
read. -/
structure LpmDamage where
  family : Nat
  vrf : Nat
  pfx : Nat
  len : Nat
  count : Nat
  bank : Nat
deriving DecidableEq, Repr

/-- Lookup tables: hidden state. -/
structure TableState where
  /-- Valid exact-match entries by table × 2^24 + index. -/
  em : Table (Option EmEntry) := []
  /-- Per exact-match table. -/
  emt : Table EmState := []
  /-- Routes: RESULT by `routeKey`. -/
  routes : Table (Option Nat) := []
  /-- Structures being removed, oldest first. -/
  lpmDamage : List LpmDamage := []
  /-- E-3105 has been raised for IPv4 or IPv6 and the count has not fallen since (R114). -/
  fullV4 : Bool := false
  fullV6 : Bool := false
  /-- TCAM entries other than all zero, by address: bank × 4,096 + first unit (R115). -/
  tcam : Table TcamEntry := []
  /-- Addresses whose associated data are damaged (R120). -/
  assocBad : List Nat := []
  /-- The TCAM as searches of this instant see it: the elapsed instant of the last write, and the entries and the damaged associated data
  before it (R12, R118). -/
  tcamOld : Option (Nat × Table TcamEntry × List Nat) := none
  /-- Compare-and-deletes at the bank ports in this instant, with their tables: a refresh of the instant goes first (R12). -/
  ageDue : List (Nat × AgeDelete) := []
  /-- Next unit the TCAM scrubber compares (R119). -/
  tcamScrub : Nat := 0
  /-- Next bank and row the background scrubber reads (R127). -/
  scrubBank : Nat := 0
  scrubRow : Nat := 0
  /-- Elapsed instant at which the scrubber's pass began, none until the table memory has been zeroed at boot, and the SCRUB_PERIOD of
  that pass in ms. -/
  scrubStart : Option Nat := none
  scrubMs : Nat := 1000
  /-- Table jobs and learn requests that have arrived at a table engine: the number of the next one (R93). -/
  arrivals : Nat := 0
deriving DecidableEq, Repr

/-- What the egress pipeline applies to a packet (R142, R152). -/
inductive EditBy where
  /-- No header edit: traps, injected packets, packets from the fabric's default path. -/
  | none
  /-- The template of a next hop. -/
  | nextHop (n : Nat)
  /-- The BRIDGE_TEMPLATE of the port of an L2-forwarded packet. -/
  | bridge (template : Nat)
deriving DecidableEq, Repr

/-- A packet on its way through the device, with the metadata of R149. -/
structure Pkt where
  /-- Serial number within the device (the model's own name for the packet). -/
  id : Nat
  /-- The frame, FCS included. -/
  bytes : List Byte
  /-- The last unit reports a bad FCS (R149, R182). -/
  fcsBad : Bool := false
  inPort : Nat
  /-- Ingress pipeline that resolved it, 0 to 31 (R147, R234). -/
  pipe : Nat := 0
  /-- Requester of R165. -/
  requester : Nat
  cls : Nat := 0
  colour : Nat := 0
  /-- DEST_KIND: bound for a VOQ. -/
  voq : Bool := false
  dest : Nat := 0
  edit : EditBy := .none
  qsel : Option Nat := none
  lagHash : Nat := 0
  entropy : Nat := 0
  /-- Timebase instant of the first byte's arrival in ns. -/
  rxTime : Nat := 0
  /-- Its receive stamp in 2^-16 ns (R280, R281). -/
  rxStamp : Option Nat := none
  labelOp : Nat := 0
  newLabel : Nat := 0
  stripOff : Nat := 0
  recircVrf : Option Nat := none
  pass : Nat := 0
  trap : Nat := 0
  l3Off : Nat := 0
  /-- Parse outcome code (R56, R407). -/
  parseCode : Nat := 0
  /-- The parser recorded the frame as PTP (R281), and as a PTP event carried directly over Ethernet (R282). -/
  ptp : Bool := false
  ptpL2 : Bool := false
  /-- Its length was known when its first unit crossed (R149). -/
  known : Bool := true
  /-- Units counted in its queue's length: 63 until the last unit of a packet of unknown length (R159, R172). -/
  units : Nat := 1
  /-- Units that have arrived on the T die, of the `whole` it has (R149, R159). -/
  arrived : Nat := 1
  whole : Nat := 1
  /-- LENGTH: the stored frame's length before egress editing (R149, R193). -/
  len : Nat := 0
  /-- It was selected, or is offered for selection, before its last unit has arrived (R181). -/
  ct : Bool := false
  /-- It came on a scheduled fabric lane (R172). -/
  scheduled : Bool := false
  /-- Its input speed is below its port's, so that it may not cut through (R180, R181). -/
  noCut : Bool := false
  /-- LEASE_BYPASS of R404. -/
  bypass : Bool := false
  /-- The PKT_TX job that waits for its stamp: SQ and index (R405). -/
  job : Option (Nat × Nat) := none
  /-- The DIRECT PKT_TX job without STAMP that its admission completes (R405). -/
  direct : Option (Nat × Nat) := none
  /-- Recompression profile it carries, 0 for none (R252, R253). -/
  recomp : Nat := 0
  /-- It has been recompressed on the XC path: the second admission (R253). -/
  xcDone : Bool := false
  /-- Fabric reassembly cells in hand (R174). -/
  cellsHeld : Nat := 0
  /-- The buffers it is stored in: cells in chain order, so that each names the next in the link memory (R160), or one sized buffer. -/
  cells : List Nat := []
  /-- It has been read out toward its egress pipeline (R178). -/
  read : Bool := false
  /-- A link found broken while it was being transmitted: the cells of its chain up to there (R183). -/
  broken : Option Nat := none
  /-- The flow of a packet from a scheduled lane, for its input speed (R181). -/
  flow : Option Nat := none
  /-- Where it is stored: region, privileged pool (0 for general), general pool, and units taken (R159). -/
  region : Nat := 0
  priv : Nat := 0
  pool : Nat := 0
  taken : Nat := 0
  /-- Its queue by combined index (R168). -/
  queue : Nat := 0
  /-- Timebase ns at admission (R212). -/
  enqueued : Nat := 0
  /-- The window it was selected for (R245), when its class is gated. -/
  window : Option (Nat × Nat) := none
  /-- The bytes its wire time was predicted from (R244), and those it counts in OUTSTANDING (R192). -/
  charge : Nat := 0
  out : Nat := 0
  /-- Its frame is to end with its FCS inverted (R182). -/
  stomp : Bool := false
  /-- A fill cell stands for part of it: it leaves with its FCS inverted (R334). -/
  fill : Bool := false
  /-- A packet of a scheduled lane that has been edited before its last cell came: `bytes` has no FCS yet (R181, R333). -/
  unfinished : Bool := false
deriving DecidableEq, Repr

/-- A multicast packet in a replication engine: the copies still to make, first and count (R145). -/
structure McJob where
  pkt : Pkt
  next : Nat
  left : Nat
deriving DecidableEq, Repr

/-- A resolved packet that waits for its meter, or for earlier packets of its port that do (R147, R234). -/
structure Metered where
  pkt : Pkt
  meter : Nat
  source : Nat
  sector : Nat
  /-- CLK_PIPE cycle in which it came to its meter (R234). -/
  cycle : Nat
  /-- First copy and count of its group, for a multicast packet. -/
  mcast : Option (Nat × Nat)
  /-- It has been decided and waits for packets of its port that arrived before it (R147). -/
  decided : Bool := false
  /-- No meter meets it: it waits for earlier packets alone, and may cut through. -/
  unmetered : Bool := false
deriving DecidableEq, Repr

/-- Staging cells of a packet on its way to HBM (R173, R174). -/
structure Staged where
  id : Nat
  /-- Cells of region 0. -/
  cells : List Nat
  /-- None: they count against STAGE_MAX; else they are reassembly cells charged to this requester. -/
  requester : Option Nat
deriving DecidableEq, Repr

/-- A last-in first-out list of free buffers (R161, R162). It begins with every buffer in ascending order of number (DESIGN CHOICE, log
entry 141), and is held as those that have come back above those of the first order that no take has reached. -/
structure FreeList where
  /-- Buffers that have come back, the last one first. -/
  back : List Nat := []
  /-- How many of the first order have been taken. -/
  taken : Nat := 0
  /-- An error has cut the list: it reaches no further than this many of the first order (R184). -/
  cut : Option Nat := none
deriving DecidableEq, Repr

/-- Buffers on their way back: region, privileged pool (0 for general), general pool, the buffers, and how many units and buffers of its
pool they count. -/
structure Freed where
  region : Nat
  priv : Nat
  pool : Nat
  cells : List Nat
  units : Nat
  bufs : Nat
  /-- They are cells of reassembly or staging, whatever the region's mode (R173, R174). -/
  chain : Bool := false
deriving DecidableEq, Repr

/-- A frame that a sector's pipelines have taken out of its port's receive buffer, and when (R273). -/
structure RxTaken where
  port : Nat
  bytes : Nat
  at' : Nat
deriving DecidableEq, Repr

/-- Packets between the ports and the buffer, and the buffer's hidden state. -/
structure NetState where
  /-- Next packet serial number. -/
  serial : Nat := 0
  /-- Packets waiting at each FS sector's distributor, in order of arrival (R147). -/
  rx : Table (List Pkt) := []
  /-- Frames taken out of the receive buffers in the time that the longest frame takes at the lowest speed, newest first (R273). -/
  rxTaken : List RxTaken := []
  /-- Pipeline of each sector, 0 to 3, at which its distributor's rotation stands (R147). -/
  rotation : Table Nat := []
  /-- Elapsed instants of the packets that arrived at each sector's distributor in the last microsecond, newest first (R148). -/
  arrivals : Table (List Nat) := []
  /-- Elapsed instant until which a sector's packet rate was at or above LOW_PCT percent of m × 1.25 Gpps, by 4 × sector + m (R148). -/
  busyUntil : Table Nat := []
  /-- Packets that wait for their meters, in order of CLK_PIPE cycle and, within one, of ingress pipeline (R234). -/
  metering : List Metered := []
  /-- Replication queue of each sector (R146). -/
  mc : Table (List McJob) := []
  /-- First units and whole packets at the T die that wait for a decision (R176). -/
  toAdmit : List Pkt := []
  /-- One past the highest requester decided (R176). -/
  admitPtr : Nat := 0
  /-- Later units in order of arrival: requester and packet (R149). -/
  units : List (Nat × Nat) := []
  /-- Packets dequeued to RC that wait to re-enter (R155). -/
  recirc : List Pkt := []
  /-- Free lists: sub-list s of a cell-chain region at 64 × region + s, general pool j at 64 × region + 32 + j (R161, R162). -/
  frees : Table FreeList := []
  /-- Sub-list of each region from which the next cell is taken (log entry 141). -/
  sub : Table Nat := []
  /-- Bitmap of each privileged pool, by pool key: the buffers that are allocated or lost (R163). -/
  maps : Table Nat := []
  /-- Admission decisions of one CLK_BUF cycle are being made: what they release counts as free from the next (R176). -/
  deciding : Bool := false
  freed : List Freed := []
  /-- General units in use, reserved or lost, per region. -/
  used : Table Nat := []
  /-- Most units in use since the last read of MIN_FREE, per region. -/
  usedMax : Table Nat := []
  /-- Buffers in use, reserved or lost and their maxima, per pool key (region × 16 + pool, privileged pools from 8). -/
  poolUsed : Table Nat := []
  poolMax : Table Nat := []
  /-- Regions below their low-water marks, and those that have been and not risen above them again (R185). -/
  lowWater : List Nat := []
  lowArmed : List Nat := []
  staging : List Staged := []
  /-- Scheduler ports idle in the latest map of R180. -/
  idleMap : List Nat := []
  /-- Units held by each queue: queue × 32 + region, and queue × 32 + 4 + region × 8 + privileged pool (R170). -/
  lens : Table Nat := []
  /-- Packets of each queue and VOQ in order of admission (R189). -/
  queues : Table (List Pkt) := []
  /-- Packets in the egress pipelines, per scheduler port. -/
  egress : Table (List Pkt) := []
  /-- Frames edited and waiting for their port's MAC, or for the consumer of ports 128 to 135. -/
  tx : Table (List Pkt) := []
  /-- The frame each line port is sending, with its transmit stamp in 2^-16 ns (R280). -/
  wire : Table (Option (Pkt × Nat)) := []
deriving DecidableEq, Repr

/-- One entry of a gate cycle in force: first instant, end, open classes, entry number (R241). -/
structure GateWindow where
  start : Nat
  stop : Nat
  gates : Nat
  entry : Nat
deriving DecidableEq, Repr

/-- Gates and wire prediction of a scheduler port (R240 to R245). -/
structure GateState where
  /-- GATE_ENABLE and GATED_CLASSES in effect (R242). -/
  enable : Bool := false
  gated : Nat := 0
  windows : List GateWindow := []
  /-- End of the cycle's last entry. -/
  last : Nat := 0
  swapped : Option Nat := none
  /-- An uncorrectable list entry closes every gated class (R249). -/
  broken : Bool := false
  /-- WIRE_FREE (R244), TAI ns. -/
  wireFree : Nat := 0
  /-- Classes that only their guard withheld at the port's last decision (R245). -/
  held : List Nat := []
deriving DecidableEq, Repr

/-- A shaper's hidden state: the fraction of its credit and the shaper step it stands at (R228). -/
structure ShaperState where
  frac : Nat := 0
  step : Nat := 0
deriving DecidableEq, Repr

/-- A cut-through packet whose charge waits for its last unit (R203, R230). -/
structure CtCharge where
  id : Nat
  port : Nat
  cls : Nat
  group : Nat
  user : Nat
  /-- Shaper step of its selection. -/
  step : Nat
deriving DecidableEq, Repr

/-- A meter as it stood before the writes of the present instant changed it or its profile (R239): a decision of that instant uses it. -/
structure OldMeter where
  meter : Nat
  entry : Nat
  profile : Nat
  /-- The profile is damaged (R249). -/
  bad : Bool
deriving DecidableEq, Repr

/-- Scheduler: hidden state. -/
structure SchedState where
  ctCharges : List CtCharge := []
  /-- Class list of each port and group list of each (port, class), in list order (R195). -/
  classes : Table (List Nat) := []
  groups : Table (List Nat) := []
  /-- Backlogged users of each group and the users in its WFQ set (R200). -/
  users : Table (List Nat) := []
  wfq : Table (List Nat) := []
  shapers : Table ShaperState := []
  gates : Table GateState := []
  /-- Rotation pointers: ports of each slice, VOQs of each slice (R191, R208). -/
  portPtr : Table Nat := []
  voqPtr : Table Nat := []
  /-- Rotation of sources and DRR order of classes of the credit scheduler, per port and class, with deficits. -/
  creditPtr : Table Nat := []
  creditOrder : Table (List Nat) := []
  creditDeficit : Table Int := []
  /-- Earliest instant of each port's next grant, in 2^-16 ns of elapsed time (R209). -/
  creditNext : Table Nat := []
  /-- Start of the current sampling round and the combined indices sampled in it so far (R211). -/
  roundStart : Option Nat := none
  sampled : Nat := 0
  /-- Marked log entries written since reset, and those of them that have been read since (R216, log entry 15). -/
  logged : Nat := 0
  logRead : List Nat := []
  /-- Damaged meter profiles (R249). -/
  badMeters : List Nat := []
  /-- Meters as they stood before the writes of the present instant (R239). -/
  oldMeters : List OldMeter := []
  /-- Entries of shaper nodes, brought up to date, as they stood before the writes of the present instant (R248). -/
  oldShapers : List (Nat × Nat) := []
deriving DecidableEq, Repr

/-- A class whose hold under a pause interval a write of PAUSE_EXEMPT has ended (R289): it is not held from `start`, until 64 ns behind the
frame that renews the interval. Instants as in PauseState. -/
structure Spared where
  cls : Nat
  start : Nat
  stop : Option Nat := none
deriving DecidableEq, Repr

/-- A pause interval (R276, R278). Instants are elapsed, in hundredths of a nanosecond, so that every quanta time is exact. -/
structure PauseState where
  /-- First instant of the span in which the pause has been continuous. -/
  start : Nat := 0
  stop : Nat := 0
  /-- Pause frames are ignored before this instant; the hold-off span's end. -/
  holdoff : Nat := 0
  /-- The watchdog's hold-off span is running. -/
  inHoldoff : Bool := false
  /-- Classes whose hold has been ended (R289). -/
  spared : List Spared := []
deriving DecidableEq, Repr

/-- A write of a setting of a port or a fabric lane that takes effect later (R289, R345): the object, its value until then, and the elapsed instant. -/
structure LateWrite where
  key : Nat
  old : Nat
  at' : Nat
deriving DecidableEq, Repr

/-- A line port's hidden state. -/
structure LineState where
  /-- Every condition of R274 holds, and since when (elapsed ns). -/
  good : Bool := false
  since : Nat := 0
  /-- A pause condition of R279 holds, and when the frame is due again (elapsed, hundredths of a ns). -/
  txPause : Bool := false
  txAgain : Nat := 0
  /-- Generated pause frames that wait for the end of the frame on the wire (R279). -/
  waiting : List (List Byte) := []
  /-- The port sends remote fault (R274). -/
  remoteFault : Bool := false
deriving DecidableEq, Repr

/-- Line ports: hidden state. -/
structure LinesState where
  ports : Table LineState := []
  /-- Pause intervals by port × 16 + priority; 8 stands for the whole port (R275). -/
  pause : Table PauseState := []
  /-- Elapsed instant at which each snapshot group's last copy completes (R285), and the pending causes at that instant. -/
  snapDone : Table Nat := []
  snapAt : Table Nat := []
  /-- Snapshots of each group since package reset. -/
  snapCount : Table Nat := []
  /-- Writes of port and fabric lane settings that have not taken effect, in the order in which they completed (R289, R345). -/
  late : List LateWrite := []
  /-- What the counters that have counted at the elapsed instant `countedAt` read before it, by object (R284). -/
  counted : Table (Option Nat) := []
  countedAt : Nat := 0
deriving DecidableEq, Repr

/-- A cell that waits for a slot of a fabric lane (R208, R299, R302). -/
structure OutCell where
  dest : Nat
  /-- Its 256 bytes. -/
  bytes : List Byte
  /-- On the last cell of a packet, the packet it completes: its buffers are released as the cell is sent (R178). -/
  last : Option Pkt := none
  /-- The packet it carries part of, and whether that one has been counted as discarded (R6). -/
  pkt : Option Nat := none
  counted : Bool := false
deriving DecidableEq, Repr

/-- An alignment candidate (R323): bit position, matches so far, FRAME_NUM. -/
structure FawCandidate where
  x : Nat
  n : Nat
  fn : Nat
  /-- Elapsed instant of its last match. -/
  at' : Nat
deriving DecidableEq, Repr

/-- One second of a lane that speaks against its present availability, with its EB (R341). -/
structure PmSecond where
  sec : Nat
  eb : Nat
deriving DecidableEq, Repr

/-- A bin that has closed and is not final yet (R342): its record, whether it is a day, and the elapsed instant of its end. -/
structure PmClosed where
  image : Nat
  day : Bool
  at' : Nat
deriving DecidableEq, Repr

/-- Performance monitoring of a lane (R340 to R343). -/
structure PmState where
  /-- TAI second that runs. -/
  sec : Nat := 0
  /-- Bins closed and not final, oldest first. -/
  closing : List PmClosed := []
  /-- EB, symbols and uncorrectable codewords of the running second. -/
  eb : Nat := 0
  symbols : Nat := 0
  uncorr : Nat := 0
  /-- Defects declared at any instant of the running second, one bit each, and those of them that were declared before it. -/
  defects : Nat := 0
  seeded : Nat := 0
  /-- FL_ENABLE was 0 at some instant of the running second. -/
  off : Bool := true
  /-- The lane is unavailable. -/
  down : Bool := false
  /-- Seconds in a row that speak against the present state of availability. -/
  run : List PmSecond := []
  /-- Parameters whose threshold was reached in this bin: 0 ES, 1 SES, 2 UAS, 3 BBE. -/
  crossed : List Nat := []
deriving DecidableEq, Repr

/-- A fabric lane's hidden state. -/
structure FabricLaneState where
  /-- CONTROL and LINK cells handed to the lane, oldest first. -/
  ctl : List OutCell := []
  /-- DATA cells handed to it. -/
  data : List OutCell := []
  /-- Elapsed instant of the latest REACH message. -/
  reachAt : Nat := 0
  /-- Elapsed instant at which the lane's last own REACH message was due (R300). -/
  announced : Option Nat := none
  /-- Elapsed instant from which every condition of R301 but the rejoin hold has held. -/
  okSince : Option Nat := none
  /-- It has left the spray set and not joined it again. -/
  left : Bool := false
  /-- Signal detect and FEC lock are absent, and since when (R326). -/
  dark : Bool := false
  darkAt : Nat := 0
  cands : List FawCandidate := []
  /-- A candidate has matched three times in this instant: the lane enters SYNC as it ends, unless FEC lock is lost (R344). -/
  syncDue : Option Nat := none
  /-- FRAME_NUM the next received frame is expected to carry (R324, R328). -/
  rxNum : Nat := 0
  /-- Slots of that frame that had been accepted when the lane lost it (R328, R344). -/
  rxSlot : Nat := 0
  /-- Consecutive errored frame alignments. -/
  bad : Nat := 0
  /-- XOR of the previous received frame's bytes; none before a first one (R321). -/
  rxBip : Option Nat := none
  /-- The previous received frame has already been counted as an errored block. -/
  counted : Bool := false
  /-- TRACE bytes of the Loaf in progress; none when a frame of it was errored or missed (R325). -/
  loaf : Option (List Nat) := none
  /-- The trace of the last whole Loaf and how many in a row carried it. -/
  trace : List Nat := []
  same : Nat := 0
  /-- A trace has been accepted since SYNC was entered. -/
  accepted : Bool := false
  /-- Frame 0 of the Loaf had an errored frame alignment: frame 1 names the page (R336). -/
  page1 : Bool := false
  /-- PAGE of the Loaf's frame 0, or of the frame 1 that stands for it; none when neither was received. -/
  loafPage : Option Nat := none
  /-- Consecutive frames with AIS 1, AIS 0, RDI 1 and RDI 0. -/
  ais1 : Nat := 0
  ais0 : Nat := 0
  rdi1 : Nat := 0
  rdi0 : Nat := 0
  /-- Changes of whether a condition that sends RDI back is declared: elapsed instant and new state, newest first, as far back as the frames
  that start now still follow them (R327). -/
  rdi : List (Nat × Bool) := []
  /-- FRAME_NUM of the next frame to send, and XOR of the bytes of the last one sent (R319, R321). -/
  txNum : Nat := 0
  txBip : Nat := 0
  pm : PmState := {}
deriving DecidableEq, Repr

/-- A reassembly context (R307). -/
structure Ctx where
  src : Nat
  cls : Nat
  tag : Nat
  port : Nat
  /-- Elapsed instant of the first cell. -/
  opened : Nat
  /-- CELL_SEQ and valid payload of each cell that has arrived. -/
  cells : List (Nat × List Byte) := []
  /-- CELL_SEQ of the cell with LAST; cell 0 carried FIRST. -/
  last : Option Nat := none
  first : Bool := false
  /-- Region 0 cells held, in chain order (R174). -/
  held : List Nat := []
  /-- The packet it has been delivered as, whose admission decision frees it (R310). -/
  pkt : Option Nat := none
deriving DecidableEq, Repr

/-- A DATA cell that has arrived in the present cycle: its lane, header and valid payload (R308). -/
structure ArrivedCell where
  lane : Nat
  header : Nat
  payload : List Byte
deriving DecidableEq, Repr

/-- A stream (R311, R313). -/
structure Stream where
  /-- It has received a cell. -/
  seen : Bool := false
  next : Nat := 0
  /-- Elapsed instant since which NEXT has been NEXT. -/
  since : Nat := 0
  /-- Tags of the window that are LOST. -/
  lost : List Nat := []
  /-- Tags above NEXT of which a cell has arrived, with the elapsed instant of the first. -/
  high : List (Nat × Nat) := []
  /-- NEXT is lost at the end of the present instant, unless it completes first (R313, R315). -/
  lossDue : Bool := false
deriving DecidableEq, Repr

/-- What a request state is: its value, the last SEQ applied and when. -/
structure ReqCore where
  on : Bool := false
  seq : Nat := 0
  at' : Nat := 0
  /-- It has expired, or no REQUEST has ever come. -/
  expired : Bool := true
deriving DecidableEq, Repr

/-- Request state of a (requesting device, q, class) at the egress device (R305): `key` = (device × 64 + q) × 8 + class. -/
structure ReqState where
  core : ReqCore := {}
  /-- As it was before the REQUESTs of the elapsed instant `gotAt`, those REQUESTs, SEQ and ON, and how many of them are stale: they are
  applied in SEQ order (R315). -/
  base : ReqCore := {}
  got : List (Nat × Bool) := []
  gotAt : Nat := 0
  stale : Nat := 0
deriving DecidableEq, Repr

/-- A packet of a deterministic flow being sent in its reserved slots (R332). -/
structure FlowTx where
  pkt : Pkt
  /-- Header, but for the fields that the slot's entry gives, and payload of each cell to send. -/
  cells : List (Nat × List Byte)
deriving DecidableEq, Repr

/-- A packet of a deterministic flow being received (R333): packet identity, next CELL_SEQ, bytes so far with metadata, the elapsed
instant of its last cell and its lane. -/
structure FlowRx where
  id : Nat
  next : Nat
  bytes : Nat
  /-- Length of the frame, 0 while it is not known. -/
  len : Nat
  at' : Nat
  /-- The fabric lane it comes on. -/
  lane : Nat
deriving DecidableEq, Repr

/-- Fabric interface and framing: hidden state. -/
structure FabricState where
  lanes : Table FabricLaneState := []
  /-- Messages being packed for a destination, oldest first, with the elapsed instant of the first (R299). -/
  packing : Table (Option (Nat × List Nat)) := []
  /-- CONTROL cells that wait for a lane, oldest first. -/
  control : List OutCell := []
  /-- DATA cells that each slice has handed over and no lane has taken (R208). -/
  out : Table (List OutCell) := []
  /-- Slice whose turn it is to hand over a cell. -/
  turn : Nat := 0
  /-- Lane after which the next cell to a destination is sent (R302). -/
  after : Table Nat := []
  /-- Packets sent per (destination, class) since FABRIC_ENABLE rose: the next PKT_TAG (R311, R314). -/
  tags : Table Nat := []
  /-- Per destination: elapsed instant since which it has been unreachable, and none while it is reachable (R303); one that is not listed has
  been unreachable since `darkSince`, the last reset of the core (DEDUCED, log entry 149). -/
  unreach : Table (Option (Option Nat)) := []
  darkSince : Nat := 0
  /-- Destinations whose packets are being refused (R303). -/
  discarding : List Nat := []
  /-- Per VOQ: SEQ of the last REQUEST sent and its elapsed instant (R304). -/
  reqSeq : Table Nat := []
  reqAt : Table Nat := []
  /-- Request states held for other devices' VOQs (R305). -/
  reqs : Table ReqState := []
  /-- DATA cells of this cycle, which its end applies in ascending lane number (R308). -/
  arrived : List ArrivedCell := []
  /-- Open contexts, oldest first. -/
  ctxs : List Ctx := []
  /-- Per stream, source × 8 + class. -/
  streams : Table Stream := []
  /-- Scheduled lanes with a page switch pending (R335). -/
  switching : List Nat := []
  flowTx : Table (Option FlowTx) := []
  flowRx : Table (Option FlowRx) := []
deriving DecidableEq, Repr

/-- A request to a channel of the HBM controllers (R354, R356). A write's data are in the DRAM contents of the model from the cycle in which
the channel orders it, and a read's data are fixed then, which is what R358 makes every read return (log entry 40). -/
structure HbmRequest where
  /-- Stack-local sector index A (R351). -/
  sector : Nat
  requester : HbmRequester
  /-- Page hint: 0 OPEN, 1 CLOSE, 2 AUTO. -/
  hint : Nat
  /-- Elapsed instant of its arrival. -/
  at' : Nat
  /-- Of a write: its byte mask and its data. -/
  write : Option (Nat × List Byte) := none
  /-- Of a read: what the ECC finds in DRAM. -/
  ecc : SectorEcc := {}
  /-- Of a read: the bytes it returns. -/
  data : List Byte := []
  /-- Of a read: how many writes at the front of the write queue it waits for (R358). -/
  behind : Nat := 0
deriving DecidableEq, Repr

/-- A channel's hidden state, by stack × 32 + channel. -/
structure HbmChannel where
  /-- Requests that wait at its input, in order of arrival (R356, R359). -/
  input : List HbmRequest := []
  /-- Requester next in turn at the input (R11). -/
  turn : Nat := 0
  /-- Read queue and write queue, oldest first (R356). -/
  reads : List HbmRequest := []
  writes : List HbmRequest := []
  /-- A drain from 48 writes to 16 runs, and how many writes from the front drain in any case (R356). -/
  burst : Bool := false
  force : Nat := 0
  /-- The elapsed instant at which the step that pauses the channel ends (R361). -/
  pause : Option Nat := none
  /-- Elapsed instant up to which a refresh occupies the channel (R357, R361). -/
  refreshing : Nat := 0
  /-- Elapsed instant up to which each bank has been refreshed (R357), bank 0 first; a bank not listed, since the stack came into service. -/
  refreshed : List Nat := []
  /-- Next bank to refresh (R357). -/
  bank : Nat := 0
  /-- Steps of the retraining in progress still to run (R360), and whether one of them was repeated. -/
  steps : Nat := 0
  repeated : Bool := false
  /-- The last retraining had a step that was repeated (R362). -/
  failedBefore : Bool := false
  /-- End of the last retraining (elapsed) and the stack's temperature then. -/
  trained : Nat := 0
  temp : Int := 0
  /-- Elapsed second in which corrected errors are being counted, and how many there are (R363). -/
  ceSec : Nat := 0
  ce : Nat := 0
deriving DecidableEq, Repr

/-- A DOMAIN access that waits until H1 or H2 has been set to 0 (R353): of a Coica service, named by its station, service and transaction, or
of the debug master. -/
structure HbmWaiting where
  coica : Option (Nat × Nat × Nat)
  dom : Nat
  entry : Nat
  /-- The image it writes; none for a read. -/
  write : Option Nat
deriving DecidableEq, Repr

/-- An open row of a bank and since when (R355). -/
structure OpenRow where
  row : Nat
  since : Nat
deriving DecidableEq, Repr

/-- HBM controllers: hidden state. -/
structure HbmState where
  channels : Table HbmChannel := []
  /-- Open rows by (stack × 32 + channel) × 16 + bank. -/
  rows : Table (Option OpenRow) := []
  /-- Sectors of HBM0 to HBM2 other than all zero, by stack × 2^28 + DRAM place (R352), first byte at the top; the entries of HBM3 stand
  in `doms` (R350). -/
  cells : Table Nat := []
  /-- Elapsed instant of each stack's last retraining step. -/
  stepAt : Table (Option Nat) := []
  /-- Next sector of each stack's patrol scrub, and the elapsed instant of its last (R363). -/
  scrub : Table Nat := []
  scrubAt : Table (Option Nat) := []
  /-- Elapsed instant at which the stacks came into service. -/
  since : Nat := 0
  /-- HBM3 is in self-refresh, and the elapsed instant at which it has left it (R503). -/
  asleep : Bool := false
  leaving : Option Nat := none
  /-- Accesses to H1 and H2 that wait for the end of a write of ORDER or HASH, oldest first (R353). -/
  waiting : List HbmWaiting := []
deriving DecidableEq, Repr

/-- How a slow write's end is told: the access status of a window master, an answer to its own command, the completion of a ring job,
the response of a Coica service. -/
inductive SlowVia where
  | window | direct
  | job (sq index : Nat)
  | coica (addr svc txn : Nat)
deriving DecidableEq, Repr

/-- A slow write that runs in the background (R376): its master, its object and how its end is told. -/
structure SlowWrite where
  master : Nat
  key : Nat
  via : SlowVia
deriving DecidableEq, Repr

/-- A window access that waits behind an earlier write of its master (R375): the object as its master names it, the bytes of its slot, and the
value it writes; none: it reads. -/
structure HeldAccess where
  master : Nat
  idx : Nat
  sub : Nat
  byte : Nat
  size : Nat
  write : Option Nat
deriving DecidableEq, Repr

/-- Dictionary and Pantry: hidden state. -/
structure DictState where
  /-- Slow writes in progress, newest first. -/
  slow : List SlowWrite := []
  /-- The objects, and the DOMAIN entries, as they stood at the start of the present cycle (R267, R381, R382). -/
  cycleObjs : Table Nat := []
  cycleDoms : Table Nat := []
  /-- Writes applied in the present cycle, object and master, and the rotating priority over master identities at each object (R11, R382). -/
  served : List (Nat × Nat) := []
  turns : Table Nat := []
  /-- Window accesses that wait behind an earlier write of their master, oldest first (R375). -/
  held : List HeldAccess := []
deriving DecidableEq, Repr

/-- A completion ring's hidden state (its configuration and indices are objects). -/
structure CqState where
  stash : List CqEntry := []
  /-- Entries written, not signalled and not consumed, oldest first: the elapsed instant of each, and whether it asks for INTR (R411). -/
  unsignalled : List (Nat × Bool) := []
  /-- E-8101 was raised and not yet followed by E-8001 (R412). -/
  fullRaised : Bool := false
  /-- Elapsed instant of the last head doorbell and the head before that instant: writes of that cycle still see it (R416). -/
  oldHead : Option (Nat × Nat) := none
  /-- Elapsed instant at which an entry last drained from the stash, and whether one drains as this instant ends (R412, R416). -/
  drained : Option Nat := none
  draining : Bool := false
  /-- The entry written last: its write may still fail (R414). -/
  last : Option CqEntry := none
deriving DecidableEq, Repr

/-- MSI-X masks and pending bits (R391, R411); a vector is named by function × 1024 + local number. -/
structure MsixState where
  /-- Functions whose function mask is set; none after reset. -/
  fnMasked : List Nat := []
  /-- Vectors whose mask bit has been cleared: after reset every vector is masked (log entry 7). -/
  unmasked : List Nat := []
  /-- Pending bits. -/
  pba : List Nat := []
  /-- Message address and data of the vectors' table entries, their first 96 bits, as the host wrote them (R390, R411). -/
  table : Table Nat := []
deriving DecidableEq, Repr

/-- A fetched job, from its fetch to its completion write (R400). -/
structure Job where
  sq : Nat
  /-- Ring index with lap bit. -/
  index : Nat
  /-- The 64-byte entry. -/
  bytes : List Byte
  /-- It is a posted receive buffer (R406). -/
  rx : Bool := false
  /-- Its effect in the device has begun: it waits for a stamp or for the flash. -/
  started : Bool := false
  /-- Status and return value, once it has run, and the elapsed instant from which its completion is ready in the order of its SQ (R410). -/
  done : Option (Nat × Nat) := none
  doneAt : Nat := 0
  /-- Its place in the order of arrival at its engine: none while a FENCE holds it (R93, R397). -/
  seq : Option Nat := none
  /-- The write of its completion will fail (R414). -/
  fails : Bool := false
  /-- It stands for an entry that its ring's disabling aborts: it was not fetched to be run (R400, R415). -/
  aborted : Bool := false
deriving DecidableEq, Repr

/-- A push slot (R398): the copy and whether it was written since the device last consumed it. -/
structure PushSlot where
  bytes : List Byte
  fresh : Bool
  /-- Elapsed instant of the push: a fetch of that cycle passes it by (R416). -/
  at' : Nat
deriving DecidableEq, Repr

/-- A stamped or direct frame that has left its port or been discarded, for TX_STAMP (R405). -/
structure TxReport where
  sq : Nat
  index : Nat
  /-- The stamp in 2^-16 ns, when the frame left. -/
  stamp : Option Nat
deriving DecidableEq, Repr

/-- A write of 0 to SQ_ENABLE that has not completed (R415): its ring, its master and how its end is told; none: it is told. -/
structure Disabling where
  sq : Nat
  master : Nat
  via : Option SlowVia
deriving DecidableEq, Repr

/-- A doorbell bit that an event of this cycle set (R432): its owner, the bit, and whether it was pending before. -/
structure Rung where
  owner : Nat
  bit : Nat
  was : Bool
deriving DecidableEq, Repr

/-- A Coica frame passed to the MAC (R437). -/
structure CoicaFrame where
  type : Nat
  da : Nat
  sa : Nat
  payload : List Byte
deriving DecidableEq, Repr

/-- How a read of a channel's lock is answered at the end of its cycle (R427): to its master, in a ring job's completion, or by a Coica response. -/
inductive LockVia where
  | master
  | job (sq index : Nat)
  | coica (request : CoicaFrame)
deriving DecidableEq, Repr

/-- A read of a channel's lock that this cycle resolves (R427, R432). -/
structure LockRead where
  channel : Nat
  master : Nat
  via : LockVia := .master
deriving DecidableEq, Repr

/-- Rings, jobs and PCIe: hidden state. -/
structure HostState where
  /-- Jobs in flight in order of arrival. -/
  jobs : List Job := []
  /-- Push slots by SQ × 4 + slot. -/
  push : Table (Option PushSlot) := []
  /-- Frames whose TX_STAMP is due. -/
  reports : List TxReport := []
  /-- Fetch engine: rotation pointer and the visits left in the round, with the weights of the round (R399). -/
  fetchPtr : Nat := 0
  fetchLast : Nat := 0
  visits : Table Nat := []
  /-- A round is under way, and the elapsed instant of the last visit. -/
  roundOpen : Bool := false
  visitAt : Option Nat := none
  /-- SQs whose disabling write waits for its last completion (R415). -/
  disabling : List Disabling := []
  /-- SQs that fetch nothing more after a failed read of an entry (R414). -/
  stopped : List Nat := []
  /-- Happenings of this cycle that its end resolves (R432): doorbell bits set, identities reset, channels acknowledged, and reads of
  a channel's lock. -/
  rung : List Rung := []
  resetting : List Nat := []
  acked : List Nat := []
  lockReads : List LockRead := []
deriving DecidableEq, Repr

/-- An open solicit window: `count` addresses from `lo` upward, wrapping from 126 to 1; the lower part still to be asked; the
station that answered (R448). -/
structure SolicitWindow where
  lo : Nat
  count : Nat
  lowerLo : Nat := 0
  lower : Nat := 0
  answered : Option Nat := none
deriving DecidableEq, Repr

/-- A response kept for a supervisor (R453). -/
structure KeptResponse where
  addr : Nat
  svc : Nat
  txn : Nat
  payload : List Byte
deriving DecidableEq, Repr

/-- An open block (R454). -/
structure CoicaBlock where
  offset : Nat
  crc : Nat
  data : List (Option Byte)
deriving DecidableEq, Repr

/-- A request that runs on after its answer with DONE 0 (R453): its station, SVC and TXN, and what it waits for: the object key of a
slow write, or none for a block commit. -/
structure CoicaRun where
  addr : Nat
  svc : Nat
  txn : Nat
  key : Option Nat
  /-- Status and data of its end, once it has ended. -/
  ended : Option (Nat × List Byte) := none
deriving DecidableEq, Repr

/-- A committed block that waits for the firmware's restart to end (R543): whose request it is, and whether the flash will verify. -/
structure CoicaCommit where
  addr : Nat
  txn : Nat
  offset : Nat
  data : List Byte
  good : Bool
deriving DecidableEq, Repr

/-- Coica station: the hidden state of the MAC (R438 to R460). -/
structure CoicaState where
  /-- Records queued for EMERGENCY frames, oldest first, at most 16 (R455). -/
  emerg : List EventRec := []
  /-- A DB_NOTIFY is due (R456). -/
  notify : Bool := false
  /-- Frames passed to the MAC and not yet acted on, oldest first. -/
  rx : List CoicaFrame := []
  /-- Elapsed instant of each address's last intact frame (R449). -/
  heard : Table Nat := []
  /-- Supervisor addresses that have left the known set. -/
  gone : List Nat := []
  /-- Elapsed instant at which the last carrier on the bus ended or, of the device's own frames, ends. -/
  carrier : Nat := 0
  /-- Elapsed instant of the last token arrival, and the token visits so far (R443, R448). -/
  lastToken : Option Nat := none
  visits : Nat := 0
  /-- The token has been passed and no frame received since: how often it was sent again, and the elapsed instant at which the last TOKEN
  ends (R444). -/
  passing : Option Nat := none
  passEnd : Nat := 0
  /-- A solicit window is due that did not fit in its visit (R443, R459). -/
  solicitDue : Bool := false
  /-- STATION_ADDR or ROLE has been written: the station is silent until a solicit window admits it (R441). -/
  rejoin : Bool := false
  /-- Claim round in progress and the elapsed instant of its start; 4: the CLAIM frame has been sent (R445). -/
  round : Option Nat := none
  roundAt : Nat := 0
  window : Option SolicitWindow := none
  /-- NS of the SOLICIT the device has answered (R448). -/
  offered : Option Nat := none
  /-- Transmit silence after jabber ends at this elapsed instant (R440). -/
  silentUntil : Option Nat := none
  /-- The bus is ignored until another station's jabber stops (R440). -/
  ignoring : Bool := false
  /-- KNOWN_AGE_MS and EMERG_CLASS in force (R460). -/
  age : Nat := 100
  emergClass : Nat := 2
  /-- Last responses per supervisor address, newest first (R453). -/
  kept : List KeptResponse := []
  running : List CoicaRun := []
  block : Option CoicaBlock := none
  commits : List CoicaCommit := []
deriving DecidableEq, Repr

/-- A journal record (R473). -/
inductive JRec where
  /-- OBJECT_WRITE: index, subindex, value. -/
  | obj (idx sub v : Nat)
  /-- DOMAIN_WRITE: index, entry, image. -/
  | dom (idx e image : Nat)
  /-- EM_SET: table, STATIC, RESULT, KEY. -/
  | emSet (table static result key : Nat)
  /-- EM_DEL: table, KEY. -/
  | emDel (table key : Nat)
  /-- ROUTE_SET: family, length, VRF, RESULT, prefix. -/
  | routeSet (family len vrf result pfx : Nat)
  /-- ROUTE_DEL: family, length, VRF, prefix. -/
  | routeDel (family len vrf pfx : Nat)
  /-- TCAM_SET: table, position, image. -/
  | tcamSet (table pos image : Nat)
  /-- COUNTER_DELTA: index, entry, one delta per counter. -/
  | delta (idx e : Nat) (deltas : List Nat)
deriving DecidableEq, Repr

/-- A closed journal the active holds until it is acknowledged (R475): its cycle, the SEQ of its first record, its records. -/
structure Closed where
  cycle : Int
  seq : Nat
  records : List JRec
deriving DecidableEq, Repr

/-- What the last intact HEALTH of the partner said, beyond the objects that hold it (R481). -/
structure PartnerHealth where
  home : Bool := false
  leaseCycles : Nat := 0
  witnessMode : Nat := 0
  ac0Mode : Nat := 0
  ac0Epoch : Nat := 0
deriving DecidableEq, Repr

/-- Why a device is to take control (R482 to R487). -/
inductive TakeoverCause where
  | release | fault | silence | witness
deriving DecidableEq, Repr

/-- A takeover that is due at instant T, with the epoch a witness granted. -/
structure TakeoverPlan where
  at' : Nat
  cause : TakeoverCause
  epoch : Option Nat := none
deriving DecidableEq, Repr

/-- The items of a region that have arrived, and the least snapshot SEQ of their messages (R478, R587). -/
structure BulkCopy where
  region : Nat
  seq : Nat
  items : List JRec
deriving DecidableEq, Repr

/-- The protection pair's hidden state (R462 to R496). -/
structure PairState where
  /-- The mate link is up (R462). -/
  linkUp : Bool := false
  /-- LEASE_END in ns, as both lease timers hold it (R469, R470); 0 after cold reset (R467). -/
  leaseEnd : Nat := 0
  /-- Highest epoch held or seen (R468). -/
  highest : Nat := 0
  /-- Records of the cycle in progress, in order, and those of the present instant, which belong to the cycle that contains it (R472,
  R493). -/
  journal : List JRec := []
  fresh : List JRec := []
  /-- Active: next SEQ, and the closed journals not yet acknowledged, oldest first. -/
  seq : Nat := 0
  unacked : List Closed := []
  /-- QUEUE_COUNTERS and METER_COUNTERS as they stood at the last delta, by domain key (R474). -/
  deltaBase : Table Nat := []
  /-- Standby: next SEQ expected, last cycle acknowledged under the current epoch, last cycle and SEQ applied. -/
  expect : Option Nat := none
  acked : Option Int := none
  /-- Cycle and last SEQ that the end of this instant acknowledges, and the old epoch and the cycle in which a takeover was granted, whose
  journal is applied and not acknowledged (R493). -/
  ackDue : Option (Nat × Nat) := none
  granted : Option (Nat × Int) := none
  appliedCycle : Nat := 0
  appliedSeq : Nat := 0
  /-- Standby: the records received, with their SEQ, that a bulk copy or a digest still needs, newest first. -/
  held : List (Nat × JRec) := []
  /-- Regions a bulk copy still has to bring (R478). -/
  outstanding : List Nat := []
  bulk : Option BulkCopy := none
  /-- Consecutive cycle ends without an intact HEALTH, whether one came in this cycle, and the run of R482. -/
  missed : Nat := 0
  heard : Bool := false
  run : Nat := 0
  /-- The partner's last report. -/
  partner : PartnerHealth := {}
  /-- The device took control under R486 and renews itself (R469). -/
  selfRenew : Bool := false
  /-- The takeover that is due (R485, R487). -/
  takeover : Option TakeoverPlan := none
  /-- A handover has been granted: the device becomes STANDBY as its lease ends (R483). -/
  releasing : Bool := false
  /-- After a handover: epoch and cycle of the old active's last journal, which the new active still applies (R483). -/
  finalCycle : Option (Nat × Nat) := none
  /-- A mate lane's eye margin was below its limit at the last check (R479). -/
  mateEye : Bool := false
  /-- Elapsed instant at which a mate cycle last ended (R466). -/
  cycleEnd : Option Nat := none
  /-- Elapsed instants: start of the wait to restore, next digest, last FW_HEARTBEAT. -/
  wtrStart : Option Nat := none
  digestAt : Nat := 0
  heartbeat : Nat := 0
  /-- Messages that wait for the mate link, with their TYPE, oldest first, and the elapsed instant at which the link is free (R464). -/
  outbox : List (Nat × List Byte) := []
  mateFree : Nat := 0
  /-- Standby: a journal message of the cycle being received was missing (R472). -/
  torn : Bool := false
  /-- Regions that have come whole and wait for those of lower codes (R587). -/
  ready : List BulkCopy := []
  /-- After a takeover: the first cycle that the new active journals (R493). -/
  journalFrom : Option Int := none
  /-- A REVERT_REQ of this instant is to be answered as it ends (R493). -/
  revertDue : Bool := false
  /-- The device has given up control and no partner has taken it since (R492). -/
  gaveUp : Bool := false
  /-- Elapsed instant of the last logic BIST of each pipeline, ingress 0 to 31, egress 32 to 63 (R479). -/
  lbist : Table Nat := []
  /-- Next 64 KB slice of the memory march and next pipeline of the logic BIST. -/
  slice : Nat := 0
  nextLbist : Nat := 0
deriving DecidableEq, Repr

/-- A part of a power client (R498 to R505). A sector's parts are its ingress pipelines 0 to 3, its egress pipelines 4, its replication
engine 5 and its TCAM replica 6; a line port and a fabric group are one part, 0 (log entry 24). -/
structure PowerPart where
  /-- State code held: 0 RUN, 1 IDLE, 2 NAP, 3 OFF. -/
  state : Nat := 0
  /-- State being entered and the elapsed instant at which its entry ends. -/
  entering : Option (Nat × Nat) := none
  /-- Elapsed instant at which a wake to RUN ends. -/
  waking : Option Nat := none
  /-- Elapsed instant since which it has been without work. -/
  idleSince : Nat := 0
  /-- A pre-wake holds it no deeper than `holdLevel` until this elapsed instant. -/
  holdUntil : Nat := 0
  holdLevel : Nat := 3
  /-- A PREWAKE that found it no deeper than its ARG: the instant, the ARG and the end of its hold (R506). -/
  asked : Option (Nat × Nat × Nat) := none
  /-- It is in reset, or held in OFF by recovery or a thermal stop: it takes no work and does not wake (R530, R535, R581). -/
  blocked : Bool := false
deriving DecidableEq, Repr

/-- Power states and the always-on island. -/
structure PowerState where
  /-- The core is without power and only the island runs (R507). -/
  island : Bool := false
  /-- Parts that are not as at the start of RUN, by client × 8 + part. -/
  parts : Table PowerPart := []
  /-- WAKE_N is driven low until this elapsed instant (R509). -/
  wakeLow : Option Nat := none
deriving DecidableEq, Repr

/-- The unique device secret in fuses (R513, R518); no master reads it (R519). -/
inductive Uds where
  | blank
  /-- As fused by Malryn's factory. -/
  | factory
  /-- Fused by this device, from its random number generator. -/
  | fused (v : Nat)
  /-- Blown to all ones. -/
  | blown
deriving DecidableEq, Repr

/-- What a fuse programming in progress blows (R513, R515, R517). -/
inductive FuseJob where
  /-- A transition to a state code. -/
  | transition (target : Nat)
  | svn (v : Nat)
  | key (slot hash : Nat)
  | revoke (slot : Nat)
deriving DecidableEq, Repr

/-- A fuse programming in progress, with the master and object whose write it ends. -/
structure Fusing where
  job : FuseJob
  master : Nat
  key : Nat
  via : SlowVia := .direct
  /-- The write that starts it is still being applied. -/
  started : Bool := true
deriving DecidableEq, Repr

/-- What the DICE layers leave to the main firmware (R518): CDI_L1, the alias private and public keys, and the signature of the alias
certificate under the DeviceID key. No master reads the first two (R519). -/
structure Dice where
  cdi : Nat
  aliasKey : Nat
  aliasPublic : Nat
  aliasSignature : Nat
deriving DecidableEq, Repr

/-- Fuses, keys and debug state (R512 to R527). The fuses that objects show (SVN_COUNTER, KEY_HASH_k, KEY_REVOKED) stand in the objects. -/
structure SecState where
  /-- LC_FUSES and its redundant copy, DECOM in [3] and PROGRESS in [2:0] (R512): PROVISIONED, log entry 30. -/
  lcFuses : Nat := 1
  lcCopy : Nat := 1
  /-- State code in force, as read at cold reset. -/
  lc : Nat := 1
  uds : Uds := .factory
  /-- The serial number this device has fused; none: the factory's. -/
  serial : Option Nat := none
  fusing : Option Fusing := none
  /-- The challenge, and the elapsed instant of its read (R522). -/
  challenge : Option (Nat × Nat) := none
  /-- Consecutive failed submissions, and the elapsed instant at which challenges are given again (R524). -/
  failures : Nat := 0
  withheld : Option Nat := none
  /-- CDI_L1 and the alias key are held, so that the device can attest (R518, R519, R525). -/
  attested : Bool := false
  dice : Option Dice := none
  /-- UDS reads are closed until the next cold reset (R518). -/
  udsClosed : Bool := false
  /-- They were zeroed for an INVASIVE debugger: no more until the next cold reset (R525). -/
  zeroed : Bool := false
  /-- The management cores are halted (R520). -/
  halted : Bool := false
  /-- EXTEST has the balls. -/
  extest : Bool := false
deriving DecidableEq, Repr

/-- A firmware slot: its entry of the boot record and the image bytes written (R534, R538). -/
structure SlotRec where
  /-- 0 EMPTY, 1 LOADING, 2 READY, 3 TRIAL, 4 ACCEPTED, 5 FAILED. -/
  state : Nat := 0
  svn : Nat := 0
  version : Nat := 0
  seq : Nat := 0
  accepted : Bool := false
  /-- Bytes written, by offset in the slot. -/
  image : Table (Option Nat) := []
deriving DecidableEq, Repr

/-- What a valid Pantry copy holds: its header and its records, by object key (R384). -/
structure PantryCopy where
  format : Nat
  seq : Nat
  written : Nat
  build : Nat
  records : List (Nat × Nat)
deriving DecidableEq, Repr

/-- The xSPI flash (R534): kept by every reset, erased after manufacture (log entry 31). -/
structure FlashState where
  slotA : SlotRec := {}
  slotB : SlotRec := {}
  /-- Sequence of the boot record in force; each rewrite takes the next number. -/
  recordSeq : Nat := 0
  /-- Copy 0 of the boot record as it is stored; empty: erased. -/
  recordA : List Byte := []
  /-- Copy 1 of it. -/
  recordB : List Byte := []
  /-- COMMIT_SEQ of the last accepted image; none before the first. -/
  lastAccepted : Option Nat := none
  /-- Pantry copies A and B as they are stored, from their first byte; empty: erased. -/
  pantryA : List Byte := []
  pantryB : List Byte := []
  /-- The DeviceID certificate that Malryn issued at provisioning stands at 0x0001_0000 (R518, R534). -/
  deviceCert : Bool := true
deriving DecidableEq, Repr

/-- A store or clear in progress: copy B is written, with what; the mailbox channel that asked for it, when one did (R383, R544). -/
structure PantryJob where
  toB : Bool
  copy : PantryCopy
  channel : Option Nat := none
deriving DecidableEq, Repr

/-- Boot, resets and the running firmware (R530 to R546). -/
structure BootState where
  /-- The core is held in a package reset: WARM_N or POR_N is low. -/
  held : Bool := false
  /-- A boot is to run, with its BOOT_CAUSE. -/
  boot : Option Nat := some 0
  /-- Elapsed instant from which BOOT_STAGE counts (R536). -/
  bootAt : Nat := 0
  /-- The boot has ended: line egress may run (R530). -/
  ready : Bool := false
  /-- A firmware restart is in progress (R543). -/
  restart : Bool := false
  /-- End of the trial span, elapsed ns (R541). -/
  trialEnd : Option Nat := none
  /-- The Pantry copy that a firmware in TRIAL migrated to is B (R542). -/
  migrated : Option Bool := none
  /-- A store or clear in progress. -/
  pantry : Option PantryJob := none
  /-- Sectors and dies in reset: die × 16 + sector, and 32 + die for a die warm reset. -/
  resets : List Nat := []
  /-- Packets discarded by resets, per sector die × 16 + sector (R6, log entry 32). -/
  discards : Table Nat := []
deriving DecidableEq, Repr

/-- Supplies, clocks and temperature: hidden state. -/
structure ThermalState where
  /-- Sensors that read 110 °C or more at the last sample (R581), numbered as the objects of SENSORS. -/
  hot : List Nat := []
  /-- Elapsed instants of the last change of the throttle levels of the F and the T die (R580). -/
  changedF : Nat := 0
  changedT : Nat := 0
  /-- A throttle evaluation of this instant, which its end carries out (R582). -/
  evalDue : Bool := false
  /-- VAON_B has been reported below 0.80 V and has not been seen above since (R573). -/
  lowB : Bool := false
deriving DecidableEq, Repr

/-- The machine state. -/
structure State where
  /-- Commands waiting, first in, first out. -/
  pending : List Instr := []
  /-- Values of the dictionary's objects that differ from their defaults, by `objKey` (R367, R369). -/
  objs : Table Nat := []
  /-- Images of DOMAIN entries that differ from their defaults, by `domKey` (R379). -/
  doms : Table Nat := []
  /-- The model's own: how many open values have been drawn (log entry 2). -/
  free : Nat := 0
  /-- The model's own: what has left the device, newest first (log entry 6). -/
  sent : List Emission := []
  ev : EventState := {}
  time : TimeState := {}
  parse : ParseState := {}
  tab : TableState := {}
  net : NetState := {}
  sched : SchedState := {}
  line : LinesState := {}
  fab : FabricState := {}
  hbm : HbmState := {}
  dict : DictState := {}
  host : HostState := {}
  msix : MsixState := {}
  /-- Completion rings with hidden state other than empty, by ring. -/
  cqs : Table CqState := []
  coica : CoicaState := {}
  pair : PairState := {}
  pw : PowerState := {}
  sec : SecState := {}
  flash : FlashState := {}
  boot : BootState := {}
  thermal : ThermalState := {}
deriving DecidableEq, Repr

/-- Why the block stops. No command of this block ends in a fault: every condition the spec names is a status, an event or
a state of the device. -/
inductive Fault where
  /-- Raised by nothing: kept so that the outcome has a name for a stop of the device as a whole. Safe. -/
  | stopped
deriving DecidableEq, Repr

/-- Why a command has no meaning. -/
inductive Refusal where
  /-- The command is not modelled yet: raised by a refused arm of Dispatch only. Safe. -/
  | notModelled (mnemonic : String)
deriving DecidableEq, Repr

/-- The block right after a cold reset (R530, R369): every object at its default, every table empty, time at 0 in FREERUN
(R26), and the command queue empty. -/
def State.reset : State := {}

end Sys2Proof.Machine
end

