-- ==== Sys2Proof/Machine/Ops.lean ====
section
/-! DEFINITION. The named operations over the state: sparse tables, objects, DOMAIN entries, counters, open values and what
leaves the device. -/

namespace Sys2Proof.Machine

/-- What a command answers. -/
abbrev Out := Host.Outcome State Fault Refusal

/-- The entry at a key; the default where none is listed. -/
def Table.get {α : Type} (d : Nat → α) : Table α → Nat → α
  | [], k => d k
  | (k', v') :: t, k => if k = k' then v' else if k < k' then d k else Table.get d t k

/-- The table with the entry at a key set; an entry equal to its default is not listed. -/
def Table.put {α : Type} [DecidableEq α] (d : Nat → α) : Table α → Nat → α → Table α
  | [], k, v => if v = d k then [] else [(k, v)]
  | (k', v') :: t, k, v =>
    if k < k' then (if v = d k then (k', v') :: t else (k, v) :: (k', v') :: t)
    else if k = k' then (if v = d k then t else (k, v) :: t)
    else (k', v') :: Table.put d t k v

/-- Keys strictly rising from above `lo`, no entry equal to its default. -/
def Table.wfFrom {α : Type} [DecidableEq α] (d : Nat → α) : Option Nat → Table α → Bool
  | _, [] => true
  | lo, (k, v) :: t =>
    (match lo with | none => true | some l => decide (l < k)) && decide (v ≠ d k) && Table.wfFrom d (some k) t

/-- The canonical form of a table. -/
def Table.wf {α : Type} [DecidableEq α] (d : Nat → α) (t : Table α) : Bool := Table.wfFrom d none t

/-- Entries whose key satisfies `p`. -/
def Table.keep {α : Type} (p : Nat → Bool) (t : Table α) : Table α := t.filter fun e => p e.1

/-! Updates of one part of the state, each by name, so that a proof cites a lemma and unfolds no record. -/

/-- The state with its part `objs` replaced. -/
def State.withObjs (s : State) (x : Table Nat) : State := { s with objs := x }
/-- The state with its part `doms` replaced. -/
def State.withDoms (s : State) (x : Table Nat) : State := { s with doms := x }
/-- The state with its part `ev` replaced. -/
def State.withEv (s : State) (x : EventState) : State := { s with ev := x }
/-- The state with its part `time` replaced. -/
def State.withTime (s : State) (x : TimeState) : State := { s with time := x }
/-- The state with its part `parse` replaced. -/
def State.withParse (s : State) (x : ParseState) : State := { s with parse := x }
/-- The state with its part `tab` replaced. -/
def State.withTab (s : State) (x : TableState) : State := { s with tab := x }
/-- The state with its part `net` replaced. -/
def State.withNet (s : State) (x : NetState) : State := { s with net := x }
/-- The state with its part `sched` replaced. -/
def State.withSched (s : State) (x : SchedState) : State := { s with sched := x }
/-- The state with its part `line` replaced. -/
def State.withLine (s : State) (x : LinesState) : State := { s with line := x }
/-- The state with its part `fab` replaced. -/
def State.withFab (s : State) (x : FabricState) : State := { s with fab := x }
/-- The state with its part `hbm` replaced. -/
def State.withHbm (s : State) (x : HbmState) : State := { s with hbm := x }
/-- The state with its part `dict` replaced. -/
def State.withDict (s : State) (x : DictState) : State := { s with dict := x }
/-- The state with its part `host` replaced. -/
def State.withHost (s : State) (x : HostState) : State := { s with host := x }
/-- The state with its part `msix` replaced. -/
def State.withMsix (s : State) (x : MsixState) : State := { s with msix := x }
/-- The state with its part `cqs` replaced. -/
def State.withCqs (s : State) (x : Table CqState) : State := { s with cqs := x }
/-- The state with its part `coica` replaced. -/
def State.withCoica (s : State) (x : CoicaState) : State := { s with coica := x }
/-- The state with its part `pair` replaced. -/
def State.withPair (s : State) (x : PairState) : State := { s with pair := x }
/-- The state with its part `pw` replaced. -/
def State.withPw (s : State) (x : PowerState) : State := { s with pw := x }
/-- The state with its part `sec` replaced. -/
def State.withSec (s : State) (x : SecState) : State := { s with sec := x }
/-- The state with its part `flash` replaced. -/
def State.withFlash (s : State) (x : FlashState) : State := { s with flash := x }
/-- The state with its part `boot` replaced. -/
def State.withBoot (s : State) (x : BootState) : State := { s with boot := x }
/-- The state with its part `thermal` replaced. -/
def State.withThermal (s : State) (x : ThermalState) : State := { s with thermal := x }

/-- Value of an object. -/
def State.get (s : State) (k : Nat) : Nat := Table.get objDefault s.objs k

/-- The state with an object's value set. -/
def State.set (s : State) (k v : Nat) : State := { s with objs := Table.put objDefault s.objs k v }

/-- Image of a DOMAIN entry. -/
def State.dom (s : State) (d e : Nat) : Nat := Table.get domDefault s.doms (domKey d e)

/-- Value of an object at the start of the present cycle. -/
def State.cycleGet (s : State) (k : Nat) : Nat := Table.get objDefault s.dict.cycleObjs k

/-- Image of a DOMAIN entry at the start of the present cycle. -/
def State.cycleDom (s : State) (d e : Nat) : Nat := Table.get domDefault s.dict.cycleDoms (domKey d e)

/-- The state with a DOMAIN entry's image set. -/
def State.setDom (s : State) (d e v : Nat) : State :=
  { s with doms := Table.put domDefault s.doms (domKey d e) v }

/-- The state with a field of a DOMAIN entry set. -/
def State.setField (s : State) (d e : Nat) (f : Field) (v : Nat) : State := s.setDom d e (f.set (s.dom d e) v)

/-- A 64-bit counter that never clears and wraps at 2^64. -/
def State.bump (s : State) (k : Nat) (n : Nat := 1) : State := s.set k (wrapAdd 64 (s.get k) n)

/-- A counter of `w` bits. -/
def State.bumpW (s : State) (w k : Nat) (n : Nat := 1) : State := s.set k (wrapAdd w (s.get k) n)

/-- Adds to a counter field of a DOMAIN entry, wrapping. -/
def State.bumpField (s : State) (d e : Nat) (f : Field) (n : Nat := 1) : State :=
  s.setField d e f (wrapAdd f.width (f.get (s.dom d e)) n)

/-- A BOOL object reads 1. -/
def State.on (s : State) (k : Nat) : Bool := Nat.beq (s.get k) 1

/-- It leaves over the device's balls. -/
def Emission.onBalls : Emission → Bool
  | .access .. | .debug _ | .fwInterrupt | .hbmData .. => false
  | .flash .. => true
  | _ => true

/-- Something leaves the device; under EXTEST the balls are taken from the device's own logic (R520). -/
def State.emit (s : State) (e : Emission) : State :=
  if s.sec.extest && e.onBalls then s else { s with sent := e :: s.sent }

/-- An open value: the spec states none. -/
def State.fresh (s : State) : Nat × State := (Config.freeValue s.free, { s with free := s.free + 1 })

/-- `n` open bytes (R522). -/
def State.freshBytes : Nat → State → List Byte × State
  | 0, s => ([], s)
  | n + 1, s =>
    let (x, s) := s.fresh
    let (l, s) := State.freshBytes n s
    (toByte x :: l, s)

/-- Forgets the objects whose key satisfies `p`: they take their defaults (R369). -/
def State.defaultObjs (s : State) (p : Nat → Bool) : State := { s with objs := Table.keep (fun k => !p k) s.objs }

/-- Forgets the DOMAIN entries whose key satisfies `p`: they take their defaults. -/
def State.defaultDoms (s : State) (p : Nat → Bool) : State := { s with doms := Table.keep (fun k => !p k) s.doms }

/-- DOMAIN index and entry of a key. -/
def domOf (k : Nat) : Nat := k / 0x100000000
/-- Entry of a domain key. -/
def entryOf (k : Nat) : Nat := k % 0x100000000

/-- The entries of one DOMAIN object that differ from their defaults. -/
def State.domEntries (s : State) (d : Nat) : List (Nat × Nat) :=
  (s.doms.filter fun e => Nat.beq (domOf e.1) d).map fun e => (entryOf e.1, e.2)

/-- Replaces the first element that satisfies `p`. -/
def replaceFirst {α : Type} (p : α → Bool) (f : α → α) : List α → List α
  | [] => []
  | a :: t => if p a then f a :: t else a :: replaceFirst p f t

/-- Runs a step over every element of a list. -/
def forEach {α : Type} (l : List α) (s : State) (f : State → α → State) : State := l.foldl f s

/-- Statuses of R371 and of R413. -/
inductive Status where
  | ok | denied | busy | invalid | notFound | width | unavailable | locked | parity | full | limit | occupied
  | dmaError | aborted | phase
deriving DecidableEq, Repr

/-- Their codes. -/
def Status.code : Status → Nat
  | .ok => 0 | .denied => 1 | .busy => 2 | .invalid => 3 | .notFound => 4 | .width => 5 | .unavailable => 6
  | .locked => 7 | .parity => 8 | .full => 9 | .limit => 10 | .occupied => 11 | .dmaError => 12 | .aborted => 13
  | .phase => 14

/-- A status with the state it leaves: what every write rule answers. -/
abbrev Res := Status × State

/-- Continues after an OK status; any other status keeps its state. -/
def Res.andThen (r : Res) (f : State → Res) : Res :=
  match r with
  | (.ok, s) => f s
  | r => r

end Sys2Proof.Machine
end

