-- ==== Sys2Proof/Machine/Operands.lean ====
section
/-! DEFINITION. Operand forms: master identities (R7), unit identities (R4, R589), TIME80 values (R20), and the exact
arithmetic of air clocks (R29 to R32, R36, R466). -/

namespace Sys2Proof.Machine

/-- Master identities, R7. -/
abbrev HOST : Nat := 1
/-- The firmware. -/
abbrev FW : Nat := 40
/-- The partner device. -/
abbrev MATE : Nat := 41
/-- The Coica supervisor. -/
abbrev SUPV : Nat := 42
/-- The debug master. -/
abbrev DBG : Nat := 43
/-- VF v. -/
abbrev vfMaster (v : Nat) : Nat := 2 + v

/-- Class of a master identity; an identity not listed is refused (R7). -/
def classOf (m : Nat) : Option MClass :=
  if m = 1 then some .h
  else if 2 ≤ m ∧ m ≤ 33 then some .v
  else if m = 40 then some .f
  else if m = 41 then some .m
  else if m = 42 then some .s
  else if m = 43 then some .d
  else none

/-- PCIe function of a master: 0 the PF, 1 + v for VF v. -/
def functionOf (m : Nat) : Option Nat := if m = 1 then some 0 else if 2 ≤ m ∧ m ≤ 33 then some (m - 1) else none

/-- Encodes a unit identity, R4 (`die` 1 for T). -/
def unitId (die sector cluster unit : Nat) : Nat := die * 0x8000 + sector * 0x800 + cluster * 0x40 + unit

/-- The sector identity of R589: CLUSTER 31 and UNIT 63. -/
def sectorId (die sector : Nat) : Nat := unitId die sector 31 63

/-- Sector codes of R4. -/
abbrev secAON : Nat := 8
/-- MGMT. -/
abbrev secMGMT : Nat := 9
/-- D2D. -/
abbrev secD2D : Nat := 10
/-- HBM. -/
abbrev secHBM : Nat := 11

/-- F.MGMT sector identity. -/
abbrev uMGMT : Nat := 0x4FFF
/-- F.AON sector identity. -/
abbrev uAON : Nat := 0x47FF
/-- F.D2D sector identity. -/
abbrev uFD2D : Nat := 0x57FF
/-- T.D2D sector identity. -/
abbrev uTD2D : Nat := 0xD7FF

/-- Sector identity of FS sector n. -/
def uFS (n : Nat) : Nat := sectorId 0 n
/-- Sector identity of TS sector n. -/
def uTS (n : Nat) : Nat := sectorId 1 n
/-- Stack identity of HBM stack k (R589): HBM3 hangs under F. -/
def uStack (k : Nat) : Nat := unitId (if k = 3 then 0 else 1) secHBM k 63
/-- HBM channel (R5). -/
def uChannel (k c : Nat) : Nat := unitId (if k = 3 then 0 else 1) secHBM k c

/-- Nanoseconds in a second. -/
abbrev nsPerS : Nat := 1000000000

/-- TIME80 value of a TAI instant in ns: seconds in [79:32], nanoseconds in [31:0] (R20, R368). -/
def time80 (t : Nat) : Nat := t / nsPerS % 2 ^ 48 * 2 ^ 32 + t % nsPerS

/-- The instant of a TIME80 value. -/
def ofTime80 (v : Nat) : Nat := v / 2 ^ 32 * nsPerS + v % 2 ^ 32

/-- Slots per subframe: 2^μ. -/
def slotsPerSubframe (mu : Nat) : Nat := 2 ^ mu

/-- Start of symbol `l` of a subframe in Ts, summing the lengths of R29: symbols 0 and 7·2^μ carry the long prefix. -/
def startTs (mu l : Nat) : Nat :=
  let normal := (2048 + 144) / 2 ^ mu
  l * normal + (if 0 < l then 16 else 0) + (if 7 * 2 ^ mu < l then 16 else 0)

/-- First whole nanosecond at or after a symbol start (R32). -/
def startNs (mu l : Nat) : Nat := (startTs mu l * 3125 + 95) / 96

/-- A position on an air clock (R31). -/
structure AirPos where
  sfn : Nat
  subframe : Nat
  slot : Nat
  symbol : Nat
  nsInto : Nat
  absSlot : Int
deriving DecidableEq, Repr

/-- Symbol count `l` holding `q` Ts of a subframe: the last start at or before it. -/
def symbolAt (mu q : Nat) : Nat :=
  (List.range (14 * 2 ^ mu)).foldl (fun best l => if startTs mu l ≤ q then l else best) 0

/-- Position of an air clock at a timebase instant, exactly as R31 computes it. -/
def airPosition (mu epoch t : Nat) : AirPos :=
  let d : Int := (t : Int) - epoch
  let sf : Int := d.fdiv 1000000
  let r : Nat := (d - sf * 1000000).toNat
  let q := r * 96 / 3125
  let l := symbolAt mu q
  let slot := l / 14
  { sfn := ((sf.fdiv 10) % 1024).toNat
    subframe := (sf % 10).toNat
    slot := slot
    symbol := l - 14 * slot
    nsInto := r - startNs mu l
    absSlot := sf * (2 ^ mu : Nat) + slot }

/-- First whole nanosecond of symbol `sym` of absolute slot `a` (R32, R36), as a signed instant. -/
def slotInstant (mu epoch : Nat) (sym : Nat) (a : Int) : Int :=
  let n : Int := (2 ^ mu : Nat)
  let sf := a.fdiv n
  let slot := (a - sf * n).toNat
  (epoch : Int) + sf * 1000000 + startNs mu (14 * slot + sym)

/-- Least absolute slot congruent to `phase` modulo `period` whose symbol `sym` begins at or after `t`. -/
def firstSlot (mu epoch period phase sym : Nat) (t : Int) : Int :=
  let n : Int := (2 ^ mu : Nat)
  let guess := ((t - epoch).fdiv 1000000) * n - 1
  -- the least slot at or above the guess in the class of `phase`
  let a0 := guess + (((phase : Int) - guess) % (period : Int))
  -- slots of the guess's subframe and of the next begin within 2^mu + 2 slots of the guess
  (List.range (2 * 2 ^ mu + 4)).foldl
    (fun a _ => if slotInstant mu epoch sym a < t then a + period else a) a0

/-- Air clock objects of clock `c`. -/
def State.mu (s : State) (c : Nat) : Nat := s.get (Obj.AIR_CLOCK_NUMEROLOGY c)
/-- Its epoch in ns. -/
def State.epoch (s : State) (c : Nat) : Nat := ofTime80 (s.get (Obj.AIR_CLOCK_EPOCH c))

/-- ABS_SLOT of an air clock at an instant. -/
def State.absSlotAt (s : State) (c t : Nat) : Int := (airPosition (s.mu c) (s.epoch c) t).absSlot

/-- Mate cycle in progress at an instant (R466): the absolute slot of AC0, or 250 µs counts while AC0 is disabled. -/
def State.cycleAt (s : State) (t : Nat) : Int :=
  if s.on (Obj.AIR_CLOCK_ENABLE 0) then s.absSlotAt 0 t else (t / 250000 : Nat)

/-- B(k): the instant at which mate cycle k begins (R466). -/
def State.cycleStart (s : State) (k : Int) : Nat :=
  if s.on (Obj.AIR_CLOCK_ENABLE 0) then (slotInstant (s.mu 0) (s.epoch 0) 0 k).toNat else (k * 250000).toNat

/-- Cycle numbers are modulo 2^32. -/
def cycleNumber (k : Int) : Nat := (k % 4294967296).toNat

/-- The device is in ISLAND. -/
def State.inIsland (s : State) : Bool := s.pw.island

/-- Time as the device reports it: the shadow counter in ISLAND and until the main timebase is loaded (R26, R387, R550). -/
def State.timeNow (s : State) : Nat := if s.inIsland || s.time.reload then s.time.shadow else s.time.tai

/-- The core is without power (R507) or held in a package reset (R530). -/
def State.coreOff (s : State) : Bool := s.inIsland || s.boot.held

/-- Lanes of an enabled port cover a lane. -/
def State.coversLane (s : State) (m lane : Nat) : Bool :=
  s.on (Obj.LINE_PORT_PORT_ENABLE m) && Nat.ble m lane && Nat.blt lane (m + s.get (Obj.LINE_PORT_LANES m))

/-- A port number is absent: a lower port's lanes hold it (R269). -/
def State.absentPort (s : State) (n : Nat) : Bool := (List.range n).any fun m => s.coversLane m n

/-- The index is a power client's that belongs to an absent line port: there is no such object (R510). -/
def State.noClient (s : State) (idx : Nat) : Bool := Nat.ble 0x1410 idx && Nat.blt idx 0x1490 && s.absentPort (idx - 0x1410)

/-- The core acts: without power or held in reset nothing of it happens (R507, R530). -/
def State.inCore (s : State) (f : State → State) : Out := .next (if s.coreOff then s else f s)

/-- The D2D link carries traffic: it is neither down nor retraining (R559). -/
def State.d2dUp (s : State) : Bool := !s.ev.d2dFailed && s.ev.d2dRetrain.isNone

/-- The TS sector of a queue-engine slice or fabric group is in reset or held in OFF. -/
def State.tsBlocked (s : State) (n : Nat) : Bool :=
  s.pw.parts.any fun e => Nat.beq e.1 (8 * (136 + n)) && e.2.blocked

/-- The pipelines of a throttled F die take no packet in this cycle of CLK_PIPE: n of every 16 at level n (R580). DESIGN CHOICE, log entry
116: the first n. -/
def State.pipesHeld (s : State) : Bool := Nat.blt (s.time.now * 5 / 4 % 16) (s.get Obj.THERMAL_F_LEVEL)

/-- The queue-engine slices of a throttled T die make no decision in this cycle of CLK_TMQ (R580). DESIGN CHOICE, log entry 116. -/
def State.slicesHeld (s : State) : Bool := Nat.blt (s.time.now * 3 / 2 % 16) (s.get Obj.THERMAL_T_LEVEL)

end Sys2Proof.Machine
end

