-- ==== Sys2Proof/Machine/Flags.lean ====
section
/-! DEFINITION. Flags: MSI-X signals (R411), completion rings and their stashes (R393, R394, R412), events with their counts,
spans, log, ring, emergencies and alarm (R549 to R557), and the control a fatal event gives up (R480). -/

namespace Sys2Proof.Machine

/-- Number of a function's vector among all. -/
def vecKey (fn vec : Nat) : Nat := fn * 1024 + vec

/-- Signals an MSI-X vector; under function or vector masking the pending bit records it (R411). -/
def State.signal (s : State) (fn vec : Nat) : State :=
  if s.msix.fnMasked.contains fn || !s.msix.unmasked.contains (vecKey fn vec) then
    (s.withMsix { s.msix with pba := if s.msix.pba.contains (vecKey fn vec) then s.msix.pba else vecKey fn vec :: s.msix.pba })
  else s.emit (.msix fn vec)

/-- Vectors of a function (R391). -/
def vectorsOf (fn : Nat) : Nat := if fn = 0 then 1024 else 32

/-- An empty completion ring's hidden state. -/
def cqEmpty (_ : Nat) : CqState := {}

/-- Hidden state of a completion ring. -/
def State.cq (s : State) (n : Nat) : CqState := Table.get cqEmpty s.cqs n
/-- Sets it. -/
def State.setCq (s : State) (n : Nat) (c : CqState) : State := (s.withCqs (Table.put cqEmpty s.cqs n c))

/-- The VF that owns a ring of 1,024 by the given first and count objects; none: the PF owns it (R392). -/
def ownerVf (first count : Nat → Nat) (ring : Nat) : Option Nat :=
  (List.range 32).find? fun v => Nat.ble (first v) ring && Nat.blt ring (first v + count v)

/-- Function that owns a completion ring: 0 the PF, 1 + v for VF v (R392). -/
def State.cqFn (s : State) (cq : Nat) : Nat :=
  match ownerVf (fun v => s.get (Obj.VF_RESOURCES_CQ_FIRST v)) (fun v => s.get (Obj.VF_RESOURCES_CQ_COUNT v)) cq with
  | some v => 1 + v
  | none => 0

/-- Function that owns a submission ring. -/
def State.sqFn (s : State) (sq : Nat) : Nat :=
  match ownerVf (fun v => s.get (Obj.VF_RESOURCES_SQ_FIRST v)) (fun v => s.get (Obj.VF_RESOURCES_SQ_COUNT v)) sq with
  | some v => 1 + v
  | none => 0

/-- First ring of a function's block: local numbers count from it (R392). -/
def State.sqBase (s : State) (fn : Nat) : Nat := if fn = 0 then 0 else s.get (Obj.VF_RESOURCES_SQ_FIRST (fn - 1))
/-- First completion ring of a function's block. -/
def State.cqBase (s : State) (fn : Nat) : Nat := if fn = 0 then 0 else s.get (Obj.VF_RESOURCES_CQ_FIRST (fn - 1))

/-- Occupancy of a ring of 2^n entries from its two indices (R393). -/
def ringUsed (n head tail : Nat) : Nat := (tail + 2 ^ (n + 1) - head) % 2 ^ (n + 1)

/-- PHASE a producer writes at an index: 1 on lap 0 (R394). -/
def phaseAt (n index : Nat) : Nat := if index.testBit n then 0 else 1

/-- Signals a completion ring's vector if R411 says so now; `due` is set when CQ_COAL_NS has run out. -/
def State.cqSignal (s : State) (cq : Nat) : State :=
  let c := s.cq cq
  let vec := s.get (Obj.CQ_CONFIG_CQ_VECTOR cq)
  match c.unsignalled with
  | [] => s
  | w :: l =>
    if vec ≠ 0xFFFF ∧ (s.get (Obj.CQ_CONFIG_CQ_COAL_COUNT cq) ≤ l.length + 1 ∨ w.1 + s.get (Obj.CQ_CONFIG_CQ_COAL_NS cq) ≤ s.time.now ∨
        ((w :: l).any fun x => x.2) = true) then
      (s.setCq cq { c with unsignalled := [] }).signal (s.cqFn cq) vec
    else s

/-- CQ_STATE of an enabled ring that is not in ERROR: 2 while it is full or its stash holds entries, else 1 (R412, R417). -/
def State.cqShow (s : State) (cq : Nat) : State :=
  let n := s.get (Obj.CQ_CONFIG_CQ_SIZE cq)
  if s.get (Obj.CQ_CONFIG_CQ_STATE cq) = 3 ∨ s.get (Obj.CQ_CONFIG_CQ_ENABLE cq) = 0 then s
  else
    let full := Nat.ble (2 ^ n) (ringUsed n (s.get (Obj.CQ_CONFIG_CQ_HEAD cq)) (s.get (Obj.CQ_CONFIG_CQ_TAIL cq)))
    s.set (Obj.CQ_CONFIG_CQ_STATE cq) (if full || decide ((s.cq cq).stash ≠ []) then 2 else 1)

/-- Writes one entry at the tail of a ring with room (R393, R394, R410). -/
def State.cqWrite (s : State) (cq : Nat) (e : CqEntry) : State :=
  let n := s.get (Obj.CQ_CONFIG_CQ_SIZE cq)
  let tail := s.get (Obj.CQ_CONFIG_CQ_TAIL cq)
  let image := e.image % 2 ^ 127 + phaseAt n tail * 2 ^ 127
  let s := s.emit (.hostWrite (s.cqFn cq) (s.get (Obj.CQ_CONFIG_CQ_BASE cq) + 16 * (tail % 2 ^ n)) (bytesBE 16 image))
  let s := s.set (Obj.CQ_CONFIG_CQ_TAIL cq) ((tail + 1) % 2 ^ (n + 1))
  let s := s.bump (Obj.CQ_CONFIG_CQ_ENTRIES cq)
  let s := s.cqShow cq
  let c := s.cq cq
  (s.setCq cq { c with unsignalled := c.unsignalled ++ [(s.time.now, e.intr)], last := some e }).cqSignal cq

/-- Free entries of a ring. -/
def State.cqRoom (s : State) (cq : Nat) : Nat :=
  let n := s.get (Obj.CQ_CONFIG_CQ_SIZE cq)
  -- a head doorbell frees its slots from the next cycle on (R416)
  let head := match (s.cq cq).oldHead with
    | some (t, h) => if t = s.time.now then h else s.get (Obj.CQ_CONFIG_CQ_HEAD cq)
    | none => s.get (Obj.CQ_CONFIG_CQ_HEAD cq)
  2 ^ n - ringUsed n head (s.get (Obj.CQ_CONFIG_CQ_TAIL cq))

/-- Subsystem, class and number of an event code (R549). -/
def eventClass (code : Nat) : Nat := bits code 8 4
/-- Subsystem of a code. -/
def eventSubsystem (code : Nat) : Nat := bits code 12 4

/-- Milliseconds and seconds in ns. -/
abbrev ms : Nat := 1000000

/-- Least span between two records of one code and scope, 0 where every occurrence is raised: the sentences of R46, R81, R129,
R157, R185, R216, R224, R250, R268, R290, R317, R346, R366, R388, R418, R434, R461, R496, R511, R529, R548, R563, R586. -/
def eventPeriod (code : Nat) : Nat :=
  match code with
  | 0x0101 => 1000 * ms
  | 0x1120 | 0x1130 => 1000 * ms
  | 0x1111 => ms
  | 0x1003 | 0x1004 | 0x1113 | 0x1114 | 0x1115 => 1000 * ms
  | 0x2001 | 0x3001 => 0
  | 0x4043 => 1000 * ms
  | 0x7102 => 0
  | 0x8002 | 0x8102 => 0
  | 0x8001 | 0x8101 | 0x8103 | 0x8201 | 0x8104 | 0x8105 => ms
  | 0x8003 | 0x8004 | 0x8106 | 0x8107 | 0x8108 | 0x8109 | 0x8110 | 0x8111 => 1000 * ms
  | 0x8202 => 0
  | 0x9001 | 0x9201 | 0x9202 | 0x9301 | 0x9302 | 0x9303 => 0
  | 0x5002 | 0x5105 | 0x5106 => 0
  | 0x3212 | 0x3312 | 0x4244 | 0x4344 => 0
  | 0x6301 => 0
  | _ =>
    match eventSubsystem code with
    | 0 => 0
    | 1 => 0
    | 2 | 3 | 4 | 5 => ms
    | 6 => 1000 * ms
    | 7 => 1000 * ms
    | 9 => 1000 * ms
    | _ => 0

/-- A mate message as it is sent: header bytes 0 to 27, the CRC over them and the payload, and the payload (R463). -/
def mateImage (type flags epoch cycle seq role : Nat) (payload : List Byte) : List Byte :=
  let head := bytesBE 1 type ++ bytesBE 1 flags ++ bytesBE 4 epoch ++ bytesBE 4 cycle ++ bytesBE 8 seq ++ bytesBE 2 payload.length ++
    bytesBE 8 (role * 2 ^ 62)
  head ++ bytesBE 4 (crc32 (head ++ payload)) ++ payload

/-- A message with the epoch and the role that the pair's objects hold (R463). -/
def State.mateMessage (s : State) (type flags cycle seq : Nat) (payload : List Byte) : List Byte :=
  mateImage type flags (s.get Obj.PAIR_CTRL_EPOCH) cycle seq (s.get Obj.PAIR_CTRL_ROLE) payload

/-- Hands a message to the mate link while it is up (R462, R463); it leaves in its turn (R464). -/
def State.sendMate (s : State) (type flags cycle seq : Nat) (payload : List Byte) : State :=
  if s.pair.linkUp then (s.withPair { s.pair with outbox := s.pair.outbox ++ [(type, s.mateMessage type flags cycle seq payload)] }) else s

/-- Counts what the mate link is given to send (R495). -/
def State.bumpSent (s : State) (key n : Nat) : State := if s.pair.linkUp then s.bump key n else s

/-- Roles, R467. -/
abbrev roleOFF : Nat := 0
/-- STANDBY. -/
abbrev roleSTANDBY : Nat := 1
/-- ACTIVE. -/
abbrev roleACTIVE : Nat := 2
/-- LAPSED. -/
abbrev roleLAPSED : Nat := 3

/-- ALARM_N and ALARM_PENDING for a logged record of class `y` (R557). -/
def State.alarm (s : State) (y : Nat) : State :=
  if y < s.get Obj.EVENT_CTRL_ALARM_CLASS ∧ y ≠ 3 then s
  else
    let s := s.set Obj.EVENT_CTRL_ALARM_PENDING (Nat.lor (s.get Obj.EVENT_CTRL_ALARM_PENDING) (2 ^ y))
    if s.ev.alarmLow then s
    else
      let s := (s.withEv { s.ev with alarmLow := true })
      let s := s.emit (.pin .alarmN false)
      let v := s.get Obj.EVENT_CTRL_ALARM_VECTOR
      if v = 0xFFFF then s else s.signal 0 v

/-- Values of an argument, packed from bit 63 downward, each in a slot of 16 or 32 bits (R550). -/
def packArg (l : List (Nat × Nat)) : Nat :=
  (l.foldl (fun (p : Nat × Nat) (v : Nat × Nat) =>
    let w := v.1
    let top := p.2
    (p.1 + v.2 % 2 ^ w * 2 ^ (top - w), top - w)) (0, 64)).1

/-- One event to raise: code, unit identity, argument, scope of its period. -/
structure Ev where
  code : Nat
  unit : Nat
  arg : Nat
  scope : Nat
deriving DecidableEq, Repr

/-- Counts an occurrence and opens or respects its span (R553); true when it is logged. -/
def State.countEvent (s : State) (e : Ev) : Bool × State :=
  let s := s.bump (Obj.EVENT_LAST_COUNT (eventClass e.code))
  let p := eventPeriod e.code
  let open' := s.ev.spans.any fun x => Nat.beq x.code e.code && Nat.beq x.scope e.scope && Nat.blt s.time.now x.until'
  if p ≠ 0 ∧ open' = true then (false, s.bump Obj.EVENT_CTRL_SUPPRESSED)
  else if p = 0 then (true, s)
  else
    let spans := s.ev.spans.filter fun x => !(Nat.beq x.code e.code && Nat.beq x.scope e.scope)
    (true, (s.withEv { s.ev with spans := ⟨e.code, e.scope, s.time.now + p⟩ :: spans }))

/-- Gives up control on a fatal event (R480): an ACTIVE device closes its lease, sends RELEASE with FAULT 1 and becomes
STANDBY with SYNC NONE; the events that follow from it are answered. With its partner UNHEALTHY too no device takes control, and the
lease has lapsed without handover (R492). A REVERT_REQ of a device that becomes UNHEALTHY is not sent (R493). -/
def State.giveUp (s : State) : List Ev × State :=
  let role := s.get Obj.PAIR_CTRL_ROLE
  let s := (s.withEv { s.ev with fatal := true }).set Obj.PAIR_CTRL_HEALTH 2
  if role = roleACTIVE then
    let s := s.set Obj.PAIR_CTRL_LEASE_END (time80 s.timeNow)
    let both : Bool := Nat.beq (bits (s.get Obj.PAIR_CTRL_PARTNER) 16 8) 2
    let s := (s.withPair { s.pair with leaseEnd := s.timeNow, selfRenew := false, releasing := false, expect := none, gaveUp := !both })
    let s := s.sendMate 4 1 (cycleNumber (s.cycleAt s.timeNow)) 0 []
    let s := s.bumpSent Obj.PAIR_STATS_RELEASES 1
    let s := s.set Obj.PAIR_CTRL_ROLE roleSTANDBY
    let s := s.set Obj.PAIR_CTRL_SYNC 0
    (⟨0x9001, uMGMT, packArg [(16, roleACTIVE), (16, roleSTANDBY)], 0⟩ :: (if both then [⟨0x9201, uMGMT, 0, 0⟩] else []), s)
  else ([], (s.withPair { s.pair with outbox := s.pair.outbox.filter fun m => !Nat.beq m.1 5 }))

/-- Puts an entry into a completion ring's stash (R412). -/
def State.stashPush (s : State) (cq : Nat) (e : CqEntry) : State :=
  let c := s.cq cq
  let s := s.setCq cq { c with stash := c.stash ++ [e] }
  (s.set (Obj.CQ_CONFIG_CQ_STASH cq) (c.stash.length + 1)).cqShow cq

/-- A stash has just reached 64 entries: counted; E-8101 is the caller's to raise. -/
def State.stashFull (s : State) (cq : Nat) : State :=
  (s.setCq cq { s.cq cq with fullRaised := true }).bump (Obj.CQ_CONFIG_CQ_FULL_COUNT cq)

/-- Puts an event entry into the ring named by EVENT_CQ, in its stash when it is full; an entry that finds 64 stashed is
dropped and counted (R555, R556, R412). -/
def State.eventRing (s : State) (e : Ev) (num : Nat) : List Ev × State :=
  let cq := s.get Obj.EVENT_CTRL_EVENT_CQ
  let y := eventClass e.code
  let passes := y = 3 ∨ (s.get Obj.EVENT_CTRL_RING_CLASS ≤ y ∧ (s.get Obj.EVENT_CTRL_SUBSYS_ENABLE).testBit (eventSubsystem e.code) = true)
  if cq = 0xFFFF ∨ ¬ passes ∨ s.get (Obj.CQ_CONFIG_CQ_ENABLE cq) = 0 then ([], s)
  else
    let image := e.code * 2 ^ 111 + e.unit * 2 ^ 95 + num % 65536 * 2 ^ 79 + e.arg % 2 ^ 64
    let c := s.cq cq
    if c.stash = [] ∧ 0 < s.cqRoom cq ∧ s.get (Obj.CQ_CONFIG_CQ_STATE cq) ≠ 3 then ([], s.cqWrite cq ⟨image, false⟩)
    else if c.stash.length < 64 then
      let s := s.stashPush cq ⟨image, false⟩
      if c.stash.length + 1 = 64 then ([⟨0x8101, uMGMT, 0, cq⟩], s.stashFull cq)
      else ([], s)
    else ([⟨0x1130, uMGMT, 0, 0⟩], s.bump Obj.EVENT_CTRL_RING_DROPS)

/-- Queues a record for an EMERGENCY frame (R455). -/
def State.emergency (s : State) (r : EventRec) : List Ev × State :=
  if eventClass r.code < s.coica.emergClass then ([], s)
  else if s.coica.emerg.length < 16 then ([], (s.withCoica { s.coica with emerg := s.coica.emerg ++ [r] }))
  else ([⟨0x8109, uAON, 0, 0⟩], s.bump Obj.COICA_STATS_EMERG_DROPS)

/-- One occurrence (R553): it is counted, a fatal one gives up control, and one that no span suppresses is logged at the end of its
instant (R552); the events that follow from it at once are answered. -/
def State.raise1 (s : State) (e : Ev) : List Ev × State :=
  let y := eventClass e.code
  let (logged, s) := s.countEvent e
  -- HBM error rates show in FAIL_MAP (R479)
  let s := if e.code = 0x6102 then s.set Obj.PROOF_FAIL_MAP (Nat.lor (s.get Obj.PROOF_FAIL_MAP) 16) else s
  let s := if logged then s.withEv { s.ev with due := s.ev.due ++ [⟨e.code, e.unit, time80 s.timeNow, 0, e.arg % 2 ^ 64⟩] } else s
  if y = 3 then s.giveUp else ([], s)

/-- Raises events one after the other; none of them is fatal, so nothing follows at once. -/
def State.raiseList (l : List Ev) (s : State) : State := l.foldl (fun s e => (s.raise1 e).2) s

/-- Raises an event (R549 to R557), and E-9001 where the device gives up control for it. `scope` is the scope of its period where its
chapter names one. -/
def State.raise (s : State) (code unit arg : Nat) (scope : Nat := unit) : State :=
  let (f, s) := s.raise1 ⟨code, unit, arg, scope⟩
  State.raiseList f s

/-- Logs one record and delivers it (R551, R554); answers the events that follow from the delivery: E-8101 and E-1130 of a full ring,
E-8109 of a full emergency queue. -/
def State.logRecord (s : State) (d : EventRec) : List Ev × State :=
  let y := eventClass d.code
  let num := s.get Obj.EVENT_CTRL_LOG_SEQ
  let r : EventRec := { d with num := num }
  let full := 1024 ≤ s.ev.log.length
  let s := (s.withEv { s.ev with log := (r :: s.ev.log).take 1024 })
  let s := if full then s.bump Obj.EVENT_CTRL_LOG_OVERWRITTEN else s
  let s := s.bumpW 32 Obj.EVENT_CTRL_LOG_SEQ
  let s := s.set (Obj.EVENT_LAST_LAST y) (d.code * 65536 + num % 65536)
  let (f2, s) := s.eventRing ⟨d.code, d.unit, d.arg, 0⟩ num
  let (f3, s) := s.emergency r
  (f2 ++ f3, s.alarm y)

/-- Of two records of one instant, the one that is logged first: the lower unit, then the lower code (R552). -/
def firstRecord (a b : EventRec) : EventRec :=
  if b.unit < a.unit ∨ (b.unit = a.unit ∧ b.code < a.code) then b else a

/-- Logs the first of the instant's records. -/
def State.logNext (s : State) : State :=
  match s.ev.due with
  | [] => s
  | a :: l =>
    let r := l.foldl firstRecord a
    let (f, s) := (s.withEv { s.ev with due := s.ev.due.erase r }).logRecord r
    State.raiseList f s

/-- The end of an instant for the events (R552): its records are logged. What follows from a delivery is logged too: E-8101 once, since a
stash fills up once, and E-1130 and E-8109 once, since they are raised once in a second. -/
def State.logCycle (s : State) : State := (List.range (s.ev.due.length + 3)).foldl (fun s _ => s.logNext) s

/-- An access of a master ends with a status. -/
def State.answer (s : State) (master key : Nat) (st : Status) (value : Nat := 0) : State :=
  s.emit (.access master key st.code value)

end Sys2Proof.Machine
end

