-- ==== Sys2Proof/Machine/Access.lean ====
section
/-! DEFINITION. Access to the dictionary: rights, lock, ranges and the statuses of R367 to R387, shared by every path, and the
journal of the changes an active device makes (R471 to R473). What a write of one object does stands with the object's
chapter; the table that finds it is in Sys2Proof/Machine/Dict.lean. -/

namespace Sys2Proof.Machine

/-- The path an access takes (R370). -/
inductive Path where
  /-- The PCIe window, and the firmware's own window. -/
  | window
  /-- A ring job. -/
  | job
  /-- A Coica service. -/
  | coica
  /-- The debug instruments. -/
  | jtag
  /-- The partner's journal: applied without a rights check. -/
  | mate
  /-- An access in the name of MATE that replays no journal: class M has such rights as a mailbox's binding gives it (R18, R422). -/
  | link
  /-- The Pantry restored at boot, with class F rights. -/
  | restore
deriving DecidableEq, Repr

/-- The path a master's own command takes: the window for H, V and F, Coica for S, the instruments for D (log entry 8), the mate link for M. -/
def pathOf (master : Nat) : Path :=
  match classOf master with
  | some .s => .coica
  | some .d => .jtag
  | some .m => .link
  | _ => .window

/-- Field of a channel's binding (R419). -/
def State.binding (s : State) (n : Nat) : Nat := s.get (Obj.MB_BINDING_BIND_MB n)

/-- The sending classes of a shared channel's mask [8] H, [9] V, [10] F, [11] M, [12] S (R419). -/
def classBit : MClass → Nat
  | .h => 0 | .v => 1 | .f => 2 | .m => 3 | .s => 4 | .d => 5

/-- A master is of a sending class of a shared channel. -/
def State.sendingClass (s : State) (n master : Nat) : Bool :=
  let b := s.binding n
  match classOf master with
  | some c => Nat.beq (Fld.BND_SHARED.get b) 1 && (Fld.BND_SENDER.get b).testBit (classBit c)
  | none => false

/-- SND of a channel: the bound sender, or the holder of a shared channel's lock (R422, R427). -/
def State.isSender (s : State) (n master : Nat) : Bool :=
  let b := s.binding n
  Nat.beq (Fld.BND_VALID.get b) 1 &&
    (if Fld.BND_SHARED.get b = 1 then s.sendingClass n master && Nat.beq (s.get (Obj.MAILBOX_LOCK n)) master && Nat.blt 0 master
     else Nat.beq (Fld.BND_SENDER.get b) master)

/-- RCV of a channel. -/
def State.isReceiver (s : State) (n master : Nat) : Bool :=
  let b := s.binding n
  Nat.beq (Fld.BND_VALID.get b) 1 && Nat.beq (Fld.BND_RECEIVER.get b) master

/-- Rights of a master at a mailbox object (R422); a channel whose binding is not valid refuses every access (R419). -/
def State.mailboxAcc (s : State) (n sub master : Nat) : Acc :=
  let snd := s.isSender n master
  let rcv := s.isReceiver n master
  match sub with
  | 5 => if snd then .wo else .none
  | 6 => if rcv then .rw else if snd then .ro else .none
  | 8 => if Fld.BND_VALID.get (s.binding n) = 1 ∧ (s.sendingClass n master || (Nat.beq (Fld.BND_SHARED.get (s.binding n)) 0 && (snd || rcv))) = true then .rw else .none
  | 7 | 9 => if snd || rcv then .ro else .none
  | _ => if snd then .rw else if rcv then .ro else .none

/-- An access code lets a master read. -/
def Acc.reads : Acc → Bool
  | .none => false
  | _ => true

/-- Some class other than D may read an object (R370). -/
def Access.readable (a : Access) : Bool := a.h.reads || a.v.reads || a.f.reads || a.s.reads || a.mailbox

/-- What the debug master may do at a level, where the firmware holds `f` (R370, R520). -/
def debugAcc (level key : Nat) (f : Acc) (a : Access) : Acc :=
  if key = Obj.DEBUG_DBG_CHALLENGE then .ro
  else if key = Obj.DEBUG_AUTH_SUBMIT then .wo
  else if level = 0 then .none
  else if level = 2 then
    match f with
    | .rw => .rw | .wo => .wo | .w1c => .w1c | .rwl => .rwl
    | _ => match a.d with
      | .none | .ro => if a.readable || a.d.reads then .ro else .none
      | d => d
  else if a.readable || a.d.reads then .ro
  else .none

/-- The debug level that governs D now: NONE from DBG_EXPIRES on (R521), and in ISLAND no more than OBSERVE (R526). -/
def State.debugLevel (s : State) : Nat :=
  let e := s.get Obj.DEBUG_DBG_EXPIRES
  let l := if e ≠ 0 ∧ ofTime80 e ≤ s.timeNow then 0 else s.get Obj.DEBUG_DBG_LEVEL
  if s.inIsland then min l 1 else l

/-- Only reading is left of a right. -/
def Acc.readOnly (a : Acc) : Acc := if a.reads then .ro else .none

/-- The objects a DECOMMISSIONED device shows (R526). -/
def decomIndex (idx : Nat) : Bool := (Nat.ble 0x1000 idx && Nat.ble idx 0x10FF) || (Nat.ble 0x1500 idx && Nat.ble idx 0x1502)

/-- Access of a master at an object's row. -/
def State.accOf (s : State) (master key : Nat) (w : ObjRow) : Acc :=
  match classOf master with
  | none => .none
  | some .m => if w.acc.mailbox = true ∧ s.sec.lc ≠ 4 then s.mailboxAcc (keyIdx key - 0x1160) (keySub key) master else .none
  | some .d =>
    if s.sec.lc = 4 then
      (if key = Obj.DEBUG_AUTH_SUBMIT then .wo
      else if decomIndex (keyIdx key) = true then w.acc.d.readOnly
      else .none)
    else if w.acc.mailbox = true ∧ Fld.BND_VALID.get (s.binding (keyIdx key - 0x1160)) = 0 then .none
    else debugAcc s.debugLevel key (if w.acc.mailbox then s.mailboxAcc (keyIdx key - 0x1160) (keySub key) FW else w.acc.f) w.acc
  | some c =>
    if s.sec.lc = 4 then
      (if decomIndex (keyIdx key) = true then
        (match c with
        | .h => w.acc.h.readOnly
        | .s => w.acc.s.readOnly
        | _ => .none)
      else .none)
    else if w.acc.mailbox then s.mailboxAcc (keyIdx key - 0x1160) (keySub key) master
    else match c with
      | .h => w.acc.h | .v => w.acc.v | .f => w.acc.f | .s => w.acc.s
      | _ => .none

/-- In ISLAND the objects from 0x2000 upward and the mailbox and doorbell objects are unavailable (R387). -/
def islandGone (idx : Nat) : Bool := Nat.ble 0x2000 idx || (Nat.ble 0x1150 idx && Nat.ble idx 0x11A0)

/-- A value an object's type and stated range allow (R368). -/
def Check.ok (w : ObjRow) (v : Nat) : Bool :=
  Nat.blt v (2 ^ (8 * w.ty.bytes)) &&
  match w.chk with
  | .any => (match w.ty with | .time80 => Nat.blt (v % 2 ^ 32) nsPerS | _ => true)
  | .rng lo hi => Nat.ble lo v && Nat.ble v hi
  | .srng lo hi => decide (lo ≤ signed (8 * w.ty.bytes) v) && decide (signed (8 * w.ty.bytes) v ≤ hi)
  | .rngOr lo hi o => (Nat.ble lo v && Nat.ble v hi) || Nat.beq v o
  | .oneOf l => l.contains v
  | .mask m => Nat.beq (Nat.land v m) v

/-- A row is storable: RW or RWL for H, F or S (R383). -/
def ObjRow.storable (w : ObjRow) : Bool :=
  [w.acc.h, w.acc.f, w.acc.s].any fun a => decide (a = .rw) || decide (a = .rwl)

/-- An object is in the replicated set (R471): storable, index from 0x2000 to 0x6FFF. -/
def replicatedObj (key : Nat) : Bool :=
  Nat.ble 0x2000 (keyIdx key) && Nat.ble (keyIdx key) 0x6FFF &&
    match rowAt (keyIdx key) (keySub key) with
    | some w => w.storable
    | none => false

/-- A DOMAIN entry is in the replicated set (R471): generic writes allowed, but not HBM_HOST_AREA and not E4095. -/
def replicatedDom (d e : Nat) : Bool :=
  match domRow d with
  | some r => decide (r.access = .rw) && !(Nat.beq d Dom.HBM_HOST_AREA) && !(Nat.beq d Dom.AIR_EVENT_TABLE && Nat.beq e 4095)
  | none => false

/-- Writes to the replicated set by H, V or S are BUSY in a STANDBY device (R471). -/
def State.standbyBusy (s : State) (master : Nat) : Bool :=
  Nat.beq (s.get Obj.PAIR_CTRL_ROLE) roleSTANDBY &&
    match classOf master with
    | some .h | some .v | some .s => true
    | _ => false

/-- DICT_LOCK acts from the cycle after it is set (R381, R382). -/
def State.locked (s : State) : Bool := Nat.beq (Table.get objDefault s.dict.cycleObjs Obj.LOCK_DICT_LOCK) 1

/-- Whether a write of an object may be applied, before the object's own rule: found, powered, permitted, unlocked, not
held by the pair, in range; the checks are made in this order (log entry 9). -/
def State.checkWrite (s : State) (path : Path) (master key v : Nat) : Status :=
  if s.inIsland ∧ islandGone (keyIdx key) = true then .unavailable
  else if s.noClient (keyIdx key) then .notFound else
  match rowAt (keyIdx key) (keySub key) with
  | none =>
    if (domRow (keyIdx key)).isSome ∧ (path = .window ∨ keySub key ≤ 1) then .denied
    else if keySub key = 0 ∧ (recordAt (keyIdx key)).isSome = true then .denied
    else .notFound
  | some w =>
    if path = .mate then .ok
    else if path = .window ∧ 16 < w.ty.bytes then .width
    else match s.accOf (if path = .restore then FW else master) key w with
      | .none | .ro | .rc => .denied
      | a =>
        if a = .rwl ∧ s.locked = true ∧
            ¬ (key = Obj.COICA_STATION_STATION_ADDR ∧ s.get Obj.COICA_STATION_STATE = 5) then .locked
        else if s.standbyBusy master = true ∧ path ≠ .restore ∧ replicatedObj key = true then .busy
        else if Check.ok w v then .ok
        else .invalid

/-- Whether an object may be read: found, powered, permitted; a read that may not answers no value (R370, R374). -/
def State.checkRead (s : State) (path : Path) (master key : Nat) : Status :=
  if s.inIsland ∧ islandGone (keyIdx key) = true then .unavailable
  else if s.noClient (keyIdx key) then .notFound else
  match rowAt (keyIdx key) (keySub key) with
  | none => .notFound
  | some w =>
    match s.accOf (if path = .restore then FW else master) key w with
      | .none => .denied
      | _ => .ok

/-- A journal record (R473). -/
def State.journal (s : State) (r : JRec) : State :=
  if s.get Obj.PAIR_CTRL_ROLE = roleACTIVE then (s.withPair { s.pair with fresh := s.pair.fresh ++ [r] }) else s

/-- Sets an object a master wrote; the change is journaled where the object is replicated (R472). -/
def State.commit (s : State) (key v : Nat) : State :=
  let s := s.set key v
  if replicatedObj key then s.journal (.obj (keyIdx key) (keySub key) v) else s

/-- A write that simply sets the object. -/
def State.plain (s : State) (key v : Nat) : Res := (.ok, s.commit key v)

/-- Sets a DOMAIN entry and journals the whole image (R473). -/
def State.commitDom (s : State) (d e image : Nat) : State :=
  let s := s.setDom d e image
  if replicatedDom d e then s.journal (.dom d e image) else s

/-! ### Accesses that meet in one cycle (R11, R382) -/

/-- How far a master stands behind a rotating priority over identities. -/
def turnOf (ptr master : Nat) : Nat := (master + 64 - ptr % 64) % 64

/-- A write is applied: the object and its master. -/
def State.serve (s : State) (key master : Nat) : State :=
  if s.dict.served.contains (key, master) then s else s.withDict { s.dict with served := (key, master) :: s.dict.served }

/-- A master's access to an object came before a write of another master that this cycle has applied already: by the rotating priority at
the object (R11, R382). -/
def State.outOfTurn (s : State) (master key : Nat) : Bool :=
  let p := Table.get (fun _ => 0) s.dict.turns key
  s.dict.served.any fun x => Nat.beq x.1 key && !Nat.beq x.2 master && Nat.blt (turnOf p master) (turnOf p x.2)

/-- A write of an object replaces its value: it is neither a command (WO) nor cleared by ones (W1C), of which every write has its effect. -/
def keepsValue (key : Nat) : Bool :=
  match rowAt (keyIdx key) (keySub key) with
  | some w => [w.acc.h, w.acc.v, w.acc.f, w.acc.s].all fun a => a != .wo && a != .w1c
  | none => true

/-- An object's rule, in its turn: of two writes of one cycle the later in the order of R11 stands, so that one whose turn came before
another's that is applied leaves only its status (R382; DEDUCED, log entry 184). -/
def State.inOrder (s : State) (master key : Nat) (rule : State → Res) : Res :=
  if s.outOfTurn master key && keepsValue key then ((rule s).1, s) else rule s

/-- The end of a cycle for the objects that several masters wrote: the pointer moves to one past the last of them (R11). -/
def State.moveTurns (s : State) : State :=
  let turns := s.dict.served.foldl (fun t x =>
    let p := Table.get (fun _ => 0) s.dict.turns x.1
    let others := s.dict.served.filter fun y => Nat.beq y.1 x.1
    if 1 < others.length ∧ (others.all fun y => Nat.ble (turnOf p y.2) (turnOf p x.2)) = true then Table.put (fun _ => 0) t x.1 ((x.2 + 1) % 64)
    else t) s.dict.turns
  s.withDict { s.dict with served := [], turns := turns }

/-- A write of an object: the shared checks, then the object's own rule. -/
def State.writeWith (s : State) (path : Path) (master key v : Nat) (rule : State → Res) : Res :=
  match s.checkWrite path master key v with
  | .ok => s.inOrder master key rule
  | st => (st, s)

/-- A window access that ends with another status than OK sets the master's access status (R377). -/
def State.noteRefused (s : State) (master key : Nat) (st : Status) : State :=
  if st = .ok then s
  else
    let s := s.set (Obj.ACCESS_STATUS_LAST_STATUS master) st.code
    let s := s.set (Obj.ACCESS_STATUS_LAST_OBJECT master) (key % 0x1000000)
    s.bump (Obj.ACCESS_STATUS_REFUSED master)

/-- A write that has just begun to blow fuses is told of their end by the given way: true when it did (R514). -/
def State.holdFuse (s : State) (via : SlowVia) : Bool × State :=
  match s.sec.fusing with
  | some f =>
    if f.started then (true, (s.withSec { s.sec with fusing := some { f with via := via, started := false } })) else (false, s)
  | none => (false, s)

/-- Ends a write: the access status of a window master, and the answer; the answer of a write that disables a submission ring
comes with the ring's last completion (R415), that of a write that blows fuses with their end (R514). -/
def State.finish (path : Path) (master key : Nat) (r : Res) : State :=
  let s := if r.1 = .ok then r.2.serve key master else r.2
  let s := if path = .window then s.noteRefused master key r.1 else s
  let (fuse, s) := s.holdFuse (if path = .window then .window else .direct)
  if fuse then s
  else if r.1 = .ok ∧ key % 0x1000000 = 0x111007 ∧ (s.host.disabling.any fun d => Nat.beq d.sq (key / 0x1000000) && decide (d.via = some .direct)) = true then s
  else s.answer master key r.1

/-- In ISLAND and in a package reset the PCIe endpoint and the management complex are without power or held: the host, its virtual
functions and the firmware reach nothing (R387, R507, R530); halted or restarting, the firmware reaches nothing (R520, R543), from the
cycle after the one in which it was reset (R432). -/
def State.unreached (s : State) (master : Nat) : Bool :=
  match classOf master with
  | some .h | some .v => s.coreOff
  | some .f => s.coreOff || s.sec.halted || (s.boot.restart && !s.host.resetting.contains FW)
  | _ => false

/-- A window write of a master has not ended: one that disables a ring, or blows fuses (R375, R415, R514). -/
def State.writeOpen (s : State) (master : Nat) : Bool :=
  (s.host.disabling.any fun d => Nat.beq d.master master && decide (d.via = some .direct)) ||
  (match s.sec.fusing with
  | some f => Nat.beq f.master master && decide (f.via = .window)
  | none => false)

/-- A window access waits: a read behind an unfinished write of its master, and whatever comes behind an access that waits (R375). -/
def State.waits (s : State) (path : Path) (master : Nat) (read : Bool) : Bool :=
  decide (path = .window) && ((read && s.writeOpen master) || s.dict.held.any fun h => Nat.beq h.master master)

/-- It joins those that wait. -/
def State.hold (s : State) (h : HeldAccess) : State := s.withDict { s.dict with held := s.dict.held ++ [h] }

/-- A command that reads one object by its master's own path; of a value wider than a slot the window gives the first 16 bytes
(R374). `rule` answers the status, the value and the state the read leaves. -/
def State.rowRead (s : State) (master key : Nat) (rule : State → Status × Nat × State) : Out :=
  let path := pathOf master
  .next (
    if s.unreached master then s
    else if s.waits path master true then s.hold ⟨master, keyIdx key, keySub key, 0, 16, none⟩
    else match s.checkRead path master key with
      | .ok =>
        let (st, v, s) := if s.outOfTurn master key then (.ok, s.cycleGet key, s) else rule s
        (if path = .window then s.noteRefused master key st else s).answer master key st (if path = .window then v % 2 ^ 128 else v)
      | st => (if path = .window then s.noteRefused master key st else s).answer master key st)

/-- A command that writes one object by its master's own path. -/
def State.rowWrite (s : State) (master key v : Nat) (rule : State → Res) : Out :=
  .next (
    if s.unreached master then s
    else if s.waits (pathOf master) master false then s.hold ⟨master, keyIdx key, keySub key, 0, 16, some v⟩
    else State.finish (pathOf master) master key (s.writeWith (pathOf master) master key v rule))

/-- PENDING of a master: bit 31 and the index and subindex of its latest running slow write (R376, R377). -/
def State.notePending (s : State) (master : Nat) : State :=
  s.set (Obj.ACCESS_STATUS_PENDING master)
    (match s.dict.slow.find? fun w => Nat.beq w.master master with
    | some w => 2 ^ 31 + w.key % 0x1000000
    | none => 0)

/-- Another write of the same master to the same slow object is running (R376). -/
def State.slowRuns (s : State) (master key : Nat) : Bool := s.dict.slow.any fun w => Nat.beq w.master master && Nat.beq w.key key

/-- A slow write begins to run (R376). -/
def State.slowStart (s : State) (w : SlowWrite) : State :=
  let s : State := (s.withDict { s.dict with slow := w :: s.dict.slow }).serve w.key w.master
  if w.via = .window then s.notePending w.master else s

/-- A command that writes a slow object (R376): through the window it is accepted at once and runs in the background; by another path
it is answered when the write ends. A write that is refused ends at once. The effect that the rule gives is applied when the write
arrives, and the command that ends it tells the status. -/
def State.rowSlow (s : State) (master key v : Nat) (rule : State → Res) : Out :=
  let path := pathOf master
  .next (
    if s.unreached master then s
    else if s.waits path master false then s.hold ⟨master, keyIdx key, keySub key, 0, 16, some v⟩
    else if s.checkWrite path master key v = .ok ∧ s.slowRuns master key = true then State.finish path master key (.busy, s)
    else match s.writeWith path master key v rule with
      | (.ok, s) =>
        let s := s.slowStart ⟨master, key, if path = .window then .window else .direct⟩
        if path = .window then s.answer master key .ok else s
      | r => State.finish path master key r)

end Sys2Proof.Machine
end

