-- ==== Sys2Proof/Machine/HbmMap.lean ====
section
/-! DEFINITION. Where the HBM stacks hold what: regions, addresses and places (R350 to R352), the records of HBM3 and what a failed channel
or a write of ORDER or HASH does to them (R353, R362). -/

namespace Sys2Proof.Machine

/-- An entry or object is damaged. -/
def State.isDamaged (s : State) (k : Nat) : Bool := s.parse.damaged.contains k

/-- Marks it. -/
def State.damage (s : State) (k : Nat) : State :=
  if s.isDamaged k then s else (s.withParse { s.parse with damaged := k :: s.parse.damaged })

/-- A rewrite clears the fault (R80). -/
def State.repair (s : State) (k : Nat) : State := (s.withParse { s.parse with damaged := s.parse.damaged.filter (· != k) })

/-- HBM region of a sector of a stack: H0, H1 or H2 (R350). -/
def hbmRegion (stack sector : Nat) : Nat := if stack < 3 then 0 else if sector * 64 < 0x8000000 then 1 else 2

/-- Stack and stack-local sector of a buffer byte address of H0 (R351). -/
def h0Place (b : Nat) : Nat × Nat := (b / 64 / 4 % 3, 4 * (b / 64 / 12) + b / 64 % 4)

/-- Stack and stack-local sector index A that a request names (R351). -/
def targetPlace : HbmSpace → Nat → Nat × Nat
  | .buffer, b => h0Place b
  | .stack k, a => (k.val, a)

/-- Where a sector lies in its stack (R352). -/
structure HbmPlace where
  channel : Nat
  /-- 4 × bank group + bank. -/
  bank : Nat
  row : Nat
  col : Nat
deriving DecidableEq, Repr

/-- ORDER and HASH applied to a sector index (R352). -/
def hbmSplit (order hash a : Nat) : HbmPlace :=
  let row := bits a 13 15
  let (ch, bg, ba, col) := match order with
    | 0 => (bits a 0 5, bits a 5 2, bits a 7 2, bits a 9 4)
    | 1 => (bits a 4 5, bits a 9 2, bits a 11 2, bits a 0 4)
    | 2 => (bits a 2 5, bits a 0 2, bits a 11 2, bits a 7 4)
    | _ => (bits a 2 5, bits a 7 2, bits a 11 2, bits a 0 2 + 4 * bits a 9 2)
  let x := fun (v lo : Nat) => if hash = 1 then Nat.xor v (bits row lo 2) else v
  ⟨ch, 4 * x bg 0 + x ba 2, row, col⟩

/-- Place of a sector of a stack as the region's ORDER and HASH say now. -/
def State.hbmPlace (s : State) (stack sector : Nat) : HbmPlace :=
  let g := hbmRegion stack sector
  hbmSplit (s.get (Obj.HBM_REGION_ORDER g)) (s.get (Obj.HBM_REGION_HASH g)) sector

/-- A place as a number below 2^28. -/
def HbmPlace.index (p : HbmPlace) : Nat := ((p.channel * 16 + p.bank) * 32768 + p.row) * 16 + p.col

/-- Key of the DRAM place that a sector of HBM0 to HBM2 maps to. -/
def State.hbmKey (s : State) (stack sector : Nat) : Nat := stack * 2 ^ 28 + (s.hbmPlace stack sector).index

/-- A channel has failed (R362). -/
def State.chanFailed (s : State) (stack c : Nat) : Bool := (s.get (Obj.HBM_STACK_CHAN_FAILED stack)).testBit c

/-- The record of HBM3 that holds a byte address: DOMAIN index, entry, byte within the entry, bytes per entry (R350). -/
def hbm3At (x : Nat) : Option (Nat × Nat × Nat × Nat) :=
  let at' := fun (d base size : Nat) => some (d, (x - base) / size, (x - base) % size, size)
  if x < 0x2800000 then at' Dom.QUEUE_COUNTERS 0 64
  else if x < 0x3400000 then at' Dom.METER_COUNTERS 0x2800000 48
  else if x < 0x4800000 then at' Dom.QUEUE_SAMPLES 0x3400000 32
  else if x < 0x5800000 then at' Dom.MARKED_LOG 0x4800000 16
  else if x < 0x8000000 then none
  else at' Dom.HBM_HOST_AREA 0x8000000 64

/-- Byte address in HBM3 of an entry of a DOMAIN object that lives there. -/
def hbm3Base (d e : Nat) : Option Nat :=
  if d = Dom.QUEUE_COUNTERS then some (64 * e)
  else if d = Dom.METER_COUNTERS then some (0x2800000 + 48 * e)
  else if d = Dom.QUEUE_SAMPLES then some (0x3400000 + 32 * e)
  else if d = Dom.MARKED_LOG then some (0x4800000 + 16 * e)
  else if d = Dom.HBM_HOST_AREA then some (0x8000000 + 64 * e)
  else none

/-- An entry lies in a failed channel of HBM3 (R362). -/
def State.hbm3Lost (s : State) (d e size : Nat) : Bool :=
  match hbm3Base d e with
  | none => false
  | some b => [b / 64, (b + size - 1) / 64].any fun a => s.chanFailed 3 (s.hbmPlace 3 a).channel

/-- The HBM region of HBM3 that a DOMAIN object lies in. -/
def hbm3Region (d : Nat) : Option Nat := (hbm3Base d 0).map fun b => hbmRegion 3 (b / 64)

/-- A write of ORDER or HASH of H1 or H2 is being carried out: other requests to the region wait (R353). -/
def State.regionBusy (s : State) (g : Nat) : Bool := Nat.ble 1 g && s.dict.slow.any fun w => Nat.beq (keyIdx w.key) (0x6020 + g)

/-- An access to a DOMAIN object waits for its region (R353). -/
def State.domWaits (s : State) (d : Nat) : Bool := ((hbm3Region d).map s.regionBusy).getD false

/-- Updates a record of HBM3 from what it holds (R362, R364): one that maps to a failed channel is no longer updated, and one that holds an
uncorrectable word loses the update and is written as `fresh`. -/
def State.updateRecord (s : State) (d e fresh : Nat) (f : Nat → Nat) : State :=
  match domRow d, hbm3Base d e with
  | some r, some b =>
    if s.hbm3Lost d e r.bytes then s
    else if s.isDamaged (domKey d e) then
      let c := (s.hbmPlace 3 (b / 64)).channel
      (((s.bump (Obj.HBM_STACK_UE_COUNT 3)).raise 0x6201 (uChannel 3 c) (packArg [(32, b / 64)])).setDom d e fresh).repair (domKey d e)
    else s.setDom d e (f (s.dom d e))
  | _, _ => s

/-- Adds to a 64-bit counter of a record: a queue's or a meter's. -/
def State.countRecord (s : State) (d e : Nat) (f : Field) (n : Nat := 1) : State :=
  s.updateRecord d e 0 fun r => f.set r (wrapAdd f.width (f.get r) n)

/-- Writes a record whole: an entry of the marked log (R362). -/
def State.writeRecord (s : State) (d e image : Nat) : State :=
  match domRow d with
  | some r => if s.hbm3Lost d e r.bytes then s else (s.setDom d e image).repair (domKey d e)
  | none => s

end Sys2Proof.Machine
end

