-- ==== Sys2Proof/Machine/Wake.lean ====
section
/-! DEFINITION. Power parts and their wakes (R497, R498, R503, R504), and WAKE_N (R509). -/

namespace Sys2Proof.Machine

/-- Kinds of power client (R497). -/
inductive ClientKind where
  | linePort | sector | fabricGroup
deriving DecidableEq, Repr

/-- Kind of a client. -/
def clientKind (c : Nat) : ClientKind := if c < 128 then .linePort else if c < 136 then .sector else .fabricGroup

/-- Parts of a client. -/
def partsOf (c : Nat) : Nat := if clientKind c = .sector then 7 else 1

/-- A part in RUN. -/
def partRun (_ : Nat) : PowerPart := {}

/-- A part. -/
def State.part (s : State) (c i : Nat) : PowerPart := Table.get partRun s.pw.parts (8 * c + i)
/-- Sets it. -/
def State.setPart (s : State) (c i : Nat) (p : PowerPart) : State := (s.withPw { s.pw with parts := Table.put partRun s.pw.parts (8 * c + i) p })

/-- Wake latency of a state in ns (R498). -/
def wakeNs (k : ClientKind) (state : Nat) : Nat :=
  match state with
  | 0 => 0
  | 1 => 40
  | 2 => 12000
  | _ => if k = .sector then 900000 else 60000000

/-- Entry time of a state in ns (R498). -/
def entryNs (state : Nat) : Nat := if state = 1 then 8 else if state = 2 then 2000 else 50000

/-- Break-even of a state in ns (R498); a line port and a fabric group enter IDLE by themselves (R502). -/
def breakEven (k : ClientKind) (state : Nat) : Nat :=
  if k = .sector then (if state = 1 then 200 else if state = 2 then 60000 else 5000000) else 0

/-- The state a part holds or is entering. -/
def PowerPart.deep (p : PowerPart) : Nat :=
  match p.entering with
  | some (t, _) => t
  | none => p.state

/-- A part takes work now. -/
def PowerPart.inRun (p : PowerPart) : Bool := Nat.beq p.state 0 && p.entering.isNone && p.waking.isNone && !p.blocked

/-- Sets a part whose state may change with it; the change is counted (R510). -/
def State.movePart (s : State) (c i : Nat) (p : PowerPart) : State :=
  let was := (s.part c i).state
  let s := s.setPart c i p
  if was = p.state then s else s.bump (Obj.POWER_CLIENT_TRANSITIONS c)

/-- PWR_STATE of a client and SECTOR_STATE of a sector follow their parts (R503, R510). -/
def State.showPower (s : State) (c : Nat) : State :=
  let deepest := fun (c : Nat) => (List.range (partsOf c)).foldl (fun m i => max m (s.part c i).state) 0
  let s := s.set (Obj.POWER_CLIENT_PWR_STATE c) (deepest c)
  let shallow := fun (n : Nat) =>
    let ports := (List.range 16).filter fun k => s.on (Obj.LINE_PORT_PORT_ENABLE (16 * n + k))
    let a := ports.foldl (fun m k => min m (s.part (16 * n + k) 0).state) 3
    (List.range 7).foldl (fun m i => min m (s.part (128 + n) i).state) a
  s.set Obj.POWER_CTRL_SECTOR_STATE ((List.range 8).foldl (fun v n => v + shallow n * 4 ^ n) 0)

/-- Reporting unit of a line lane (R269). -/
def uLane (n : Nat) : Nat := unitId 0 (n / 16) (26 + n % 16 / 8) (n % 8)

/-- Unit that E-1111 carries for a client (R589). -/
def clientUnit (c : Nat) : Nat :=
  match clientKind c with
  | .linePort => uLane c
  | .sector => uFS (c - 128)
  | .fabricGroup => uTS (c - 136)

/-- An entry that starts at this very instant (R506). -/
def State.entryStarts (s : State) (p : PowerPart) : Bool :=
  match p.entering with
  | some (st, t) => Nat.beq t (s.time.now + entryNs st)
  | none => false

/-- Starts the wake of one part to RUN (R504). The latency is that of the state held or being entered; a wake that takes longer than
the client tolerates is late, unless PWR_REQ had sent the client to OFF and its tolerance has not been lowered since. -/
def State.wakeOne (s : State) (c i : Nat) (lowered : Bool) : State :=
  let p := s.part c i
  let deep := p.deep
  if deep = 0 ∨ p.waking.isSome = true ∨ p.blocked = true then s
  else
    let lat := wakeNs (clientKind c) deep
    let s := s.setPart c i { p with waking := some (s.time.now + lat) }
    if s.get (Obj.POWER_CLIENT_LAT_TOL_NS c) < lat ∧ (lowered = true ∨ deep ≠ 3 ∨ clientKind c = .sector) then
      (s.bump (Obj.POWER_CLIENT_LATE_WAKES c)).raise 0x1111 (clientUnit c) 0 c
    else s

/-- Wakes a part (R504); a sector's TCAM replica, which may be OFF only while all its pipelines are, wakes with any of them (R500). -/
def State.wakePart (s : State) (c i : Nat) (lowered : Bool := false) : State :=
  let s := s.wakeOne c i lowered
  if clientKind c = .sector ∧ i < 5 then s.wakeOne c 6 lowered else s

/-- A part has work now: its idle time starts anew, and it wakes. A frame selected for a line port at the instant its entry into OFF
starts is sent, and OFF waits until the transmit path is empty (R506). -/
def State.workFor (s : State) (c i : Nat) : State :=
  let p := s.part c i
  let p := if clientKind c = .linePort ∧ p.entering.map Prod.fst = some 3 ∧ s.entryStarts p = true then { p with entering := none } else p
  (s.setPart c i { p with idleSince := s.time.now }).wakePart c i

/-- Drives WAKE_N low for 10 ms; a trigger during an assertion restarts the 10 ms (R509). -/
def State.assertWake (s : State) : State :=
  let was := s.pw.wakeLow
  let s : State := (s.withPw { s.pw with wakeLow := some (s.time.now + 10 * ms) })
  match was with
  | some _ => s
  | none => (s.emit (.pin .wakeN false)).raise 0x1011 uAON 0

/-- Active ingress pipelines of a sector in the order of its rotation (R147). -/
def State.turnPipes (s : State) (n : Nat) : List Nat :=
  let r := Table.get (fun _ => 0) s.net.rotation n
  ((List.range 4).map fun i => (r + i) % 4).filter fun k => (s.get (Obj.PIPE_POOL_ACTIVE_MASK n)).testBit k

/-- The pipeline whose turn it is has work, and wakes if it must (R147, R504). -/
def State.workForTurn (s : State) (n : Nat) : State :=
  match s.turnPipes n with
  | [] => s
  | k :: _ => s.workFor (128 + n) k

/-- The pipeline that takes a sector's next packet (R147): the next active one in rotation that takes work now. While the one whose turn
it is wakes, the others take its turns (DESIGN CHOICE, log entry 136). -/
def State.nextPipe (s : State) (n : Nat) : Option Nat := (s.turnPipes n).find? fun k => (s.part (128 + n) k).inRun

end Sys2Proof.Machine
end

