-- ==== Sys2Proof/Machine/Rings.lean ====
section
/-! DEFINITION. Jobs in flight and their completions (R400, R409, R410, R412, R413), and packets that leave the device's hands
with a job waiting for them (R405). -/

namespace Sys2Proof.Machine

/-- Common header of a job's entry (R397). -/
def Job.header (j : Job) : Nat := wordAt j.bytes 0 16
/-- OPCODE. -/
def Job.opcode (j : Job) : Nat := bits j.header 112 8
/-- TAG. -/
def Job.tag (j : Job) : Nat := bits j.header 64 32
/-- INTR. -/
def Job.intr (j : Job) : Bool := bit j.header 111
/-- FENCE. -/
def Job.fence (j : Job) : Bool := bit j.header 110

/-- A job is the oldest of its SQ and index that has not run. -/
def Job.isAt (sq index : Nat) (j : Job) : Bool := Nat.beq j.sq sq && Nat.beq j.index index && j.done.isNone

/-- Jobs fetched before a job. -/
def State.jobsBefore (s : State) (j : Job) : List Job := s.host.jobs.takeWhile fun k => !(Job.isAt j.sq j.index k)

/-- A job with FENCE waits for every earlier job of its SQ (R397). -/
def State.fenced (s : State) (j : Job) : Bool :=
  j.fence && (s.jobsBefore j).any fun k => Nat.beq k.sq j.sq && k.done.isNone

/-- The jobs that no FENCE holds any longer have arrived at their engines, in the order of their entries (R93, R124, R397). -/
def State.arriveJobs (s : State) : State :=
  let r := s.host.jobs.foldl (fun (a : List Job × Nat) j =>
    if j.seq = none ∧ j.done = none ∧ s.fenced j = false then (a.1 ++ [{ j with seq := some a.2 }], a.2 + 1) else (a.1 ++ [j], a.2))
    ([], s.tab.arrivals)
  (s.withHost { s.host with jobs := r.1 }).withTab { s.tab with arrivals := r.2 }

/-- The table a job addresses: its kind (0 exact match, 1 LPM, 2 labels, 3 TCAM) and number. -/
def Job.table (j : Job) : Option (Nat × Nat) :=
  let o := j.opcode
  if o < 0x10 ∨ 0x1E < o then none
  else if o ≤ 0x14 then some (0, byteAt j.bytes 16)
  else if o ≤ 0x18 then some (1, 0)
  else if o ≤ 0x1A then some (2, 0)
  else some (3, byteAt j.bytes 16)

/-- A job for a table that has not run has arrived before number `n`. -/
def State.jobBefore (s : State) (table : Option (Nat × Nat)) (n : Nat) : Bool :=
  s.host.jobs.any fun k => k.done.isNone && decide (k.table = table) && match k.seq with
    | some m => Nat.blt m n
    | none => false

/-- A table before its first enabling. -/
def emEmpty (_ : Nat) : EmState := {}

/-- Hidden state of an exact-match table. -/
def State.emt (s : State) (t : Nat) : EmState := Table.get emEmpty s.tab.emt t
/-- Sets it. -/
def State.setEmt (s : State) (t : Nat) (e : EmState) : State := (s.withTab { s.tab with emt := Table.put emEmpty s.tab.emt t e })

/-- FS sector that holds the table's first bank (R589). -/
def State.emUnit (s : State) (t : Nat) : Nat := uFS ((103 + s.get (Obj.EM_TABLE_BANK_FIRST t)) / 192)

/-- Tables bound to a learn-event ring. -/
def State.boundTables (s : State) (cq : Nat) : List Nat :=
  (List.range 16).filter fun t => Nat.beq (s.get (Obj.EM_TABLE_EVENT_CQ t)) cq

/-- A table pauses on a ring whose stash holds 64 entries (R107). -/
def State.pauseTable (s : State) (cq t : Nat) : State :=
  ((s.setEmt t { s.emt t with pausedBy := some cq }).set (Obj.EM_TABLE_PAUSED t) 1).raise 0x3101 (s.emUnit t) 0 t

/-- Puts an entry into a ring's stash; with the 64th, E-8101 is raised and the tables bound to the ring pause (R107, R412). -/
def State.stashAdd (s : State) (cq : Nat) (e : CqEntry) : State :=
  let n := (s.cq cq).stash.length
  let s := s.stashPush cq e
  if n + 1 = 64 then forEach (s.boundTables cq) ((s.stashFull cq).raise 0x8101 uMGMT 0 cq) fun s t => s.pauseTable cq t else s

/-- A ring's stash has drained to 32 entries or is gone: the tables it paused go on (R107). -/
def State.unpause (s : State) (cq : Nat) : State :=
  forEach (List.range 16) s fun s t =>
    if (s.emt t).pausedBy = some cq then
      ((s.setEmt t { s.emt t with pausedBy := none }).set (Obj.EM_TABLE_PAUSED t) 0).raise 0x3001 (s.emUnit t) 0 t
    else s

/-- A ring's stash is gone with its ring: nothing waits for it. -/
def State.stashGone (s : State) (cq : Nat) : State :=
  (forEach (List.range 16) s fun s t =>
    s.setEmt t { s.emt t with waiting := (s.emt t).waiting.filter fun w => !Nat.beq w.1 cq }).unpause cq

/-- Learn events that wait for a ring take the places that its stash has, table by table (R107; log entry 128). -/
def State.refill (s : State) (cq : Nat) : State :=
  forEach (List.range 16) s fun s t =>
    match (s.emt t).waiting.find? fun w => Nat.beq w.1 cq with
    | some w =>
      if (s.cq cq).stash.length < 64 then
        (s.setEmt t { s.emt t with waiting := (s.emt t).waiting.erase w }).stashAdd cq w.2
      else s
    | none => s

/-- The completion ring an SQ is bound to, by global number (R409, R417). -/
def State.sqCq (s : State) (sq : Nat) : Nat := s.get (Obj.SQ_CONFIG_SQ_CQ sq) + s.cqBase (s.sqFn sq)

/-- Enabled SQs bound to a CQ. -/
def State.boundSqs (s : State) (cq : Nat) : List Nat :=
  (List.range 1024).filter fun sq => s.on (Obj.SQ_CONFIG_SQ_ENABLE sq) && Nat.beq (s.sqCq sq) cq

/-- The 128-bit image of a completion but for PHASE (R409). -/
def State.completionImage (s : State) (j : Job) (st ret : Nat) : Nat :=
  st * 2 ^ 119 + (j.sq - s.sqBase (s.sqFn j.sq)) % 1024 * 2 ^ 109 + j.tag * 2 ^ 64 + ret % 2 ^ 64

/-- A write of a ring's entry has failed (R414): its function reports it (R389), and the ring is in ERROR. -/
def State.cqError (s : State) (cq : Nat) : State :=
  ((s.emit (.pcieError (s.cqFn cq))).set (Obj.CQ_CONFIG_CQ_STATE cq) 3).raise 0x8201 uMGMT 0 (1024 + cq)

/-- The SQs bound to a ring whose stash holds entries are stopped (R412). -/
def State.stopSqs (s : State) (cq : Nat) : State :=
  forEach (s.boundSqs cq) s fun s q => if s.get (Obj.SQ_CONFIG_SQ_STATE q) = 1 then s.set (Obj.SQ_CONFIG_SQ_STATE q) 2 else s

/-- Writes the completion of a job that is next in its SQ, or holds it in the CQ's stash; true when it has a place (R412). -/
def State.deliver (s : State) (j : Job) (st ret : Nat) : Bool × State :=
  let cq := s.sqCq j.sq
  let c := s.cq cq
  let e : CqEntry := ⟨s.completionImage j st ret, j.intr⟩
  if s.get (Obj.CQ_CONFIG_CQ_ENABLE cq) = 0 then (true, s)
  else
  let writes : Bool := decide (c.stash = [] ∧ 0 < s.cqRoom cq ∧ s.get (Obj.CQ_CONFIG_CQ_STATE cq) ≠ 3)
  if writes = true ∧ j.fails = false then (true, s.cqWrite cq e)
  else if c.stash.length < 64 then
    -- the write fails: the ring enters ERROR, and the entry waits in the stash (R414)
    let s := if writes then s.cqError cq else s
    (true, (s.stashAdd cq e).stopSqs cq)
  else (false, s)

/-- Jobs in flight: receive buffers do not count, nor do entries that were never fetched to be run (R400). -/
def State.inFlight (s : State) : Nat := (s.host.jobs.filter fun j => !j.rx && !j.aborted).length

/-- The list of jobs has changed: jobs that nothing holds arrive at their engines, and JOBS_IN_FLIGHT follows the list (R400). -/
def State.countJobs (s : State) : State :=
  let s := s.arriveJobs
  s.set Obj.HOST_CTRL_JOBS_IN_FLIGHT s.inFlight

/-- Removes the first job of an SQ; the next one's completion is ready no earlier than at `t`, since those of an SQ are written in the order
of its entries (R410). -/
def dropFirst (sq t : Nat) : List Job → List Job
  | [] => []
  | j :: l => if j.sq = sq then replaceFirst (fun k => Nat.beq k.sq sq) (fun k => { k with doneAt := max k.doneAt t }) l else j :: dropFirst sq t l

/-- The first job of each SQ. -/
def headJobs : List Nat → List Job → List Job
  | _, [] => []
  | seen, j :: l => if seen.contains j.sq then headJobs seen l else j :: headJobs (j.sq :: seen) l

/-- The completion that is written next (R410, R412): of those that are next in their SQ and have been ready longest, that of the lowest SQ;
rings that have no place for one are passed over. -/
def State.nextReady (s : State) (full : List Nat) : Option Job :=
  ((headJobs [] s.host.jobs).filter fun j => j.done.isSome && !full.contains (s.sqCq j.sq)).foldl (fun (b : Option Job) j =>
    match b with
    | none => some j
    | some x => if j.doneAt < x.doneAt ∨ (j.doneAt = x.doneAt ∧ j.sq < x.sq) then some j else some x) none

/-- Writes the completions that are ready and have a place. -/
def State.flushJobs : Nat → List Nat → State → State
  | 0, _, s => s
  | fuel + 1, full, s =>
    match s.nextReady full with
    | none => s
    | some j =>
      let (st, ret) := j.done.getD (0, 0)
      let (ok, s') := s.deliver j st ret
      if ok then
        let s' : State := (s'.withHost { s'.host with jobs := dropFirst j.sq j.doneAt s'.host.jobs })
        State.flushJobs fuel full (s'.bump (Obj.SQ_CONFIG_SQ_JOBS j.sq))
      else State.flushJobs fuel (s.sqCq j.sq :: full) s

/-- An entry of an SQ waits in its CQ's stash. -/
def State.stashed (s : State) (sq : Nat) : Bool :=
  (s.cq (s.sqCq sq)).stash.any fun e => Nat.beq (bits e.image 109 10) ((sq - s.sqBase (s.sqFn sq)) % 1024)

/-- Unfetched entries of an SQ. -/
def State.unfetched (s : State) (sq : Nat) : Nat :=
  ringUsed (s.get (Obj.SQ_CONFIG_SQ_SIZE sq)) (s.get (Obj.SQ_CONFIG_SQ_HEAD sq)) (s.get (Obj.SQ_CONFIG_SQ_TAIL sq))

/-- Nothing of an SQ is left: no entry to fetch, no job, no completion in a stash (R415). -/
def State.sqEmpty (s : State) (sq : Nat) : Bool :=
  Nat.beq (s.unfetched sq) 0 && !(s.host.jobs.any fun j => Nat.beq j.sq sq) && !s.stashed sq

/-- The end of a write of 0 to SQ_ENABLE is told (R415). -/
def State.tellDisabled (s : State) (d : Disabling) : State :=
  match d.via with
  | none => s
  | some (.job sq index) =>
    let s : State := (s.withHost { s.host with
      jobs := replaceFirst (fun j => Nat.beq j.sq sq && Nat.beq j.index index && j.done.isNone)
        (fun j => { j with done := some (0, 0), doneAt := s.time.now }) s.host.jobs })
    (State.flushJobs (2 * s.host.jobs.length + 1) [] s).countJobs
  | some (.coica addr svc txn) => (s.withCoica { s.coica with
      running := replaceFirst (fun r => Nat.beq r.addr addr && Nat.beq r.svc svc && Nat.beq r.txn txn && r.ended.isNone)
        (fun r => { r with ended := some (0, []) }) s.coica.running })
  | some _ => s.answer d.master (Obj.SQ_CONFIG_SQ_ENABLE d.sq) .ok

/-- Writes of 0 to SQ_ENABLE complete once the last completion of their ring has been written (R415); the completion of such a write,
made by a job, may be the last of another ring. -/
def State.settleDisable (s : State) : State :=
  forEach (List.range s.host.disabling.length) s fun s _ =>
    forEach s.host.disabling s fun s d =>
      if s.sqEmpty d.sq = false then s
      else
        let s : State := (s.withHost { s.host with disabling := s.host.disabling.filter (· != d) })
        (s.set (Obj.SQ_CONFIG_SQ_STATE d.sq) 0).tellDisabled d

/-- A job has run; `fails`: the write of its completion will fail. Its completion is written at the end of the cycle (R410, R416). -/
def State.complete (s : State) (sq index : Nat) (st : Status) (ret : Nat := 0) (fails : Bool := false) : State :=
  (s.withHost { s.host with
    jobs := replaceFirst (fun j => Nat.beq j.sq sq && Nat.beq j.index index && j.done.isNone) (fun j => { j with done := some (st.code, ret), doneAt := s.time.now, fails := fails }) s.host.jobs }).countJobs

/-- One entry drains from a ring's stash, oldest first, always before newer completions (R412). -/
def State.drainOne (s : State) (cq : Nat) : State :=
  let c := s.cq cq
  match c.stash with
  | [] => s
  | e :: l =>
    if s.cqRoom cq = 0 ∨ s.get (Obj.CQ_CONFIG_CQ_STATE cq) = 3 then s
    else
      let s := (s.setCq cq { c with stash := l, drained := some s.time.now }).cqWrite cq e
      s.set (Obj.CQ_CONFIG_CQ_STASH cq) l.length

/-- After an entry has drained from a ring's stash: what waited for a place takes it, and the state of the ring, of the SQs it stopped and of
the tables it paused follows (R107, R412). -/
def State.drainEnd (s : State) (cq : Nat) : State :=
  let s := if (s.cq cq).stash.length ≤ 32 then s.unpause cq else s
  if (s.cq cq).stash = [] then
    let s := s.cqShow cq
    let s := forEach (s.boundSqs cq) s fun s q => if s.get (Obj.SQ_CONFIG_SQ_STATE q) = 2 then s.set (Obj.SQ_CONFIG_SQ_STATE q) 1 else s
    if (s.cq cq).fullRaised then (s.setCq cq { s.cq cq with fullRaised := false }).raise 0x8001 uMGMT 0 cq else s
  else s

/-- A ring's stash drains one entry as this instant ends. -/
def State.drainDue (s : State) (cq : Nat) : State := s.setCq cq { s.cq cq with draining := true }

/-- The end of a cycle for the completion rings: the stashes whose turn it is drain (R412, R416), the completions that are ready are written
or take places in their stashes (R410), and the writes of SQ_ENABLE that waited for them end (R415). -/
def State.writeCompletions (s : State) : State :=
  let drain := (s.cqs.filter fun e => e.2.draining).map (·.1)
  if s.host.jobs = [] ∧ s.host.disabling = [] ∧ drain = [] then s
  else
    let s := forEach drain s fun s cq => ((s.setCq cq { s.cq cq with draining := false }).drainOne cq).refill cq
    let s := State.flushJobs (2 * s.host.jobs.length + 1) [] s
    (forEach drain s fun s cq => s.drainEnd cq).countJobs.settleDisable

/-- The frame of a waiting PKT_TX job has left its port (`stamp`) or been discarded (R405). -/
def State.txReport (s : State) (p : Pkt) (stamp : Option Nat) : State :=
  let s := match p.direct with
    | some (sq, i) => s.complete sq i .ok 1
    | none => s
  match p.job with
  | some (sq, i) => (s.withHost { s.host with reports := s.host.reports ++ [⟨sq, i, stamp⟩] })
  | none => s

end Sys2Proof.Machine
end

