-- ==== Sys2Proof/Machine/Parse.lean ====
section
/-! DEFINITION. Parsing, keys, decision trees, actions and hashes (R47 to R81, R590). -/

namespace Sys2Proof.Machine

/-- Records a parity error found in table memory (R127). -/
def State.parityFound (s : State) (bank : Nat) : State :=
  (s.bump Obj.TABLE_MEMORY_PARITY_TOTAL).set Obj.TABLE_MEMORY_LAST_PARITY_BANK bank

/-- Unit of a table bank (R82). -/
def uBank (b : Nat) : Nat := unitId 0 (b / 192) (16 + b % 192 / 24) (b % 24)

/-- Bank of a node: rows of 64 bytes, 2,560 to a bank (R82, R84). -/
def nodeBank (e : Nat) : Nat := e * 16 / 163840
/-- Bank of a rule slot. -/
def ruleBank (e : Nat) : Nat := 26 + e * 96 / 163840

/-- What the walk has learned of a packet (R52 to R62). -/
structure Parsed where
  /-- Fields present: field ID and value. -/
  fields : List (Nat × Nat) := []
  /-- Recorded headers in order: type, offset, length. -/
  headers : List (Nat × Nat × Nat) := []
  /-- Header kinds met: kind, tunnel flag, times. -/
  met : List (Nat × Bool × Nat) := []
  /-- Labels in stack order. -/
  labels : List Nat := []
  /-- Inner MAC pair and EtherType (R58). -/
  innerDa : Nat := 0
  innerSa : Nat := 0
  innerEtype : Nat := 0
  /-- Tunnel headers met. -/
  tunnels : Nat := 0
  /-- The latest IP header filled its fields, so next-header values still update IP_PROTO. -/
  ipFills : Bool := false
  /-- A fragmented IP header ended the walk (R54). -/
  fragment : Bool := false
  /-- Ports of the first TCP or UDP header met, in a tunnel or not: the key's ports (R64, R68). -/
  ports : Option (Nat × Nat) := none
  /-- Outcome code of R56. -/
  code : Nat := 0
  /-- Partial accept. -/
  partial' : Bool := false
deriving DecidableEq, Repr

/-- A field, 0 when absent. -/
def Parsed.field (p : Parsed) (id : Nat) : Nat :=
  match p.fields.find? fun f => Nat.beq f.1 id with
  | some f => f.2
  | none => 0

/-- A field is present. -/
def Parsed.has (p : Parsed) (id : Nat) : Bool := p.fields.any fun f => Nat.beq f.1 id

/-- Writes a field. -/
def Parsed.put (p : Parsed) (id v : Nat) : Parsed := { p with fields := (id, v) :: p.fields.filter (fun f => !(Nat.beq f.1 id)) }

/-- Kind of a standard header type (R58). -/
def headerKind (ty : Nat) : Nat :=
  match ty with
  | 2 => 1
  | 6 => 5
  | 13 => 12
  | t => t

/-- Meetings of a kind so far at a tunnel flag. -/
def Parsed.times (p : Parsed) (kind : Nat) (tun : Bool) : Nat :=
  match p.met.find? fun m => Nat.beq m.1 kind && m.2.1 == tun with
  | some m => m.2.2
  | none => 0

/-- Counts a meeting. -/
def Parsed.meet (p : Parsed) (kind : Nat) (tun : Bool) : Parsed :=
  { p with met := (kind, tun, p.times kind tun + 1) :: p.met.filter fun m => !(Nat.beq m.1 kind && m.2.1 == tun) }

/-- The ports of a TCP or UDP header: the key's if it is the first met (R64), and the fields of its place if it is the first there
(R58). -/
def Parsed.l4 (p : Parsed) (first tun : Bool) (sp dp : Nat) : Parsed :=
  let q := { p with ports := some (p.ports.getD (sp, dp)) }
  if first then (q.put (if tun then 37 else 35) sp).put (if tun then 38 else 36) dp else q

/-- A next-header value of an IPv6 header chain: IP_PROTO or INNER_PROTO of the IPv6 header that filled its fields (R58). -/
def Parsed.nextHeader (p : Parsed) (tun : Bool) (v : Nat) : Parsed := if p.ipFills then p.put (if tun then 26 else 15) v else p

/-- One's complement sum of 16-bit words over `n` bytes. -/
def onesSum (f : Nat → Nat) (off n : Nat) : Nat :=
  let t := (List.range (n / 2)).foldl (fun a k => a + f (off + 2 * k) * 256 + f (off + 2 * k + 1)) 0
  let t := t % 65536 + t / 65536
  t % 65536 + t / 65536

/-- Built-in extraction of a standard header (R58), or its failure code (R56): 6 LENGTH, 7 CSUM. `f` reads a byte, 0 at or
beyond frame_len. Headers after a second tunnel header fill nothing, the key's ports included (log entry 175); the checks are made all the
same. A Fragment header writes FRAG and the protocol whatever stands before it (log entry 123). DESIGN CHOICE, log entry 124: an extension
header at the start of a walk has no type; log entry 173: a VLAN tag writes ETYPE also where no ETH header came before; log entry
174: MPLS labels of a tunnel are counted on with those before it. -/
def extractStd (ty : Nat) (csum : Bool) (f : Nat → Nat) (off len : Nat) (p : Parsed) : Except Nat Parsed :=
  let tun : Bool := Nat.blt 0 p.tunnels
  let kind := headerKind ty
  let n := p.times kind tun
  let first : Bool := Nat.beq n 0
  let w2 := fun i => f (off + i) * 256 + f (off + i + 1)
  let wn := fun i c => (List.range c).foldl (fun a k => a * 256 + f (off + i + k)) 0
  let bad : Option Nat :=
    if ty = 5 then
      if f off / 16 ≠ 4 ∨ w2 2 < len then some 6
      else if csum = true ∧ onesSum f off len ≠ 65535 then some 7
      else none
    else none
  match bad with
  | some c => .error c
  | none =>
    let q := { p.meet kind tun with ipFills := p.ipFills && Nat.ble 7 ty && Nat.ble ty 10 }
    if 2 ≤ p.tunnels then .ok { q with fragment := q.fragment || (Nat.beq ty 9) || (Nat.beq ty 5 && !(Nat.beq (w2 6 % 0x2000) 0 && Nat.beq (w2 6 / 0x2000 % 2) 0)) }
    else .ok (match ty with
    | 0 =>
      if first then
        if tun then { q with innerDa := wn 0 6, innerSa := wn 6 6, innerEtype := w2 12 }
        else ((q.put 2 (wn 0 6)).put 3 (wn 6 6)).put 4 (w2 12)
      else q
    | 1 | 2 =>
      if tun then { q with innerEtype := w2 2 }
      else
        let tci := w2 0
        let q := if n = 0 then (q.put 5 (tci % 4096)).put 7 (tci / 8192) else if n = 1 then q.put 6 (tci % 4096) else q
        q.put 4 (w2 2)
    | 3 =>
      let word := wn 0 4
      let label := word / 4096
      let tc := word / 512 % 8
      let d := p.labels.length
      let q := { q with labels := p.labels ++ [label] }
      let q := if d = 0 then (q.put 8 label).put 9 tc else if d = 1 then q.put 10 label else q
      q.put 11 (min (d + 1) 8)
    | 5 =>
      let fl := w2 6
      let frag : Bool := !(Nat.beq (fl % 0x2000) 0) || Nat.beq (fl / 0x2000 % 2) 1
      let q := { q with fragment := frag }
      if first then
        if tun then (((q.put 24 (wn 12 4)).put 25 (wn 16 4)).put 26 (f (off + 9))).put 27 (f (off + 1) / 4)
        else
          let q := (((q.put 12 4).put 13 (wn 12 4)).put 14 (wn 16 4)).put 15 (f (off + 9))
          let q := ((q.put 16 (f (off + 1) / 4)).put 17 (f (off + 1) % 4)).put 18 (f (off + 8))
          q.put 19 (ofBool frag * 2 + ofBool (frag && Nat.beq (fl % 0x2000) 0))
      else q
    | 6 =>
      let tc := w2 0 / 16 % 256
      let q := { q with ipFills := first }
      if first then
        if tun then (((q.put 24 (wn 8 16)).put 25 (wn 24 16)).put 26 (f (off + 6))).put 27 (tc / 4)
        else
          let q := (((q.put 12 (f off / 16)).put 13 (wn 8 16)).put 14 (wn 24 16)).put 15 (f (off + 6))
          let q := ((q.put 16 (tc / 4)).put 17 (tc % 4)).put 18 (f (off + 7))
          q.put 33 (wn 1 3 % 2 ^ 20)
      else q
    | 7 | 8 => q.nextHeader tun (f off)
    | 9 =>
      ({ q with fragment := true }.put (if tun then 26 else 15) (f off)).put 19 (2 + ofBool (Nat.beq (w2 2 / 8) 0))
    | 10 =>
      let q := q.nextHeader tun (f off)
      if first ∧ f (off + 2) = 4 then q.put 32 (f (off + 3)) else q
    | 12 => q.l4 first tun (w2 0) (w2 2)
    | 13 =>
      let q := q.l4 first tun (w2 0) (w2 2)
      if first ∧ ¬ tun then q.put 20 (f (off + 13)) else q
    | 14 =>
      let q := { q with tunnels := p.tunnels + 1 }
      if first then q.put 28 (wn 4 3) else q
    | 15 =>
      let q := { q with tunnels := p.tunnels + 1 }
      if first then (q.put 21 (wn 4 4)).put 23 (f (off + 1)) else q
    | 17 => if first ∧ 0 < off ∧ f (off - 1) = 0x85 then q.put 22 (f (off + 2) % 64) else q
    | 18 =>
      if first then
        let q := q.put 29 (f (off + 1))
        if f (off + 1) = 0 ∨ f (off + 1) = 2 then q.put 30 (w2 4) else q
      else q
    | 19 => if first then q.put 31 (f off) else q
    | _ => q)

/-- A user-defined header: its EXTRACT words in ascending order (R49). `f` reads 0 at or beyond frame_len and beyond byte 255. -/
def extractUser (image : Nat) (f : Nat → Nat) (off : Nat) (p : Parsed) : Parsed :=
  if 2 ≤ p.tunnels then p
  else [0, 1, 2, 3, 4].foldl (fun p k =>
    let w := bits image (128 - 32 * k) 32
    let id := w / 2 ^ 26
    let o := off + bits w 18 8
    if id = 0 then p else p.put id (f o * 2 ^ 24 + f (o + 1) * 2 ^ 16 + f (o + 2) * 256 + f (o + 3))) p

/-- Outcome of a walk with the entry whose parity error ended it, if one did. -/
structure WalkEnd where
  parsed : Parsed
  parity : Option (Nat × Nat) := none
deriving DecidableEq, Repr

/-- The first transition that decides a state (R52, R53): kind and next state, or the damaged entry met on the way. -/
def State.transition (s : State) (bank image sel : Nat) : Except Nat (Nat × Nat) :=
  let base := Fld.PG_TRANS_BASE.get image
  let rec go (n i : Nat) : Except Nat (Nat × Nat) :=
    match n with
    | 0 => .ok (Fld.PG_DEFAULT_KIND.get image, Fld.PG_DEFAULT_NEXT.get image)
    | n + 1 =>
      let e := 2048 * bank + i
      if s.isDamaged (domKey Dom.PARSE_TRANSITIONS e) then .error e
      else
        let t := s.dom Dom.PARSE_TRANSITIONS e
        if Fld.PT_VALID.get t = 1 ∧ Nat.land sel (Fld.PT_MASK.get t) = Nat.land (Fld.PT_VALUE.get t) (Fld.PT_MASK.get t) then
          .ok (Fld.PT_KIND.get t, Fld.PT_NEXT.get t)
        else go n (i + 1)
  go (Fld.PG_TRANS_COUNT.get image) base

/-- The walk of R52. `rep` counts consecutive visits to `state`, `prev` the state before. The parser reads the first 256 bytes of the frame
at most (R48) and 0 beyond them. DESIGN CHOICE, log entry 125: a length byte at or beyond frame_len, or beyond byte 255, reads as 0, as
in a select window; log entry 126: a window B that would start before the frame starts at its byte 0; log entry 127: the header
whose transition or default ends the walk in UNKNOWN or PARITY has been recorded. -/
def State.walk (s : State) (frame : List Byte) (frameLen bank : Nat) : Nat → Nat → Nat → Option Nat → Nat → Parsed → WalkEnd
  | 0, _, _, _, _, p => ⟨{ p with code := 3 }, none⟩
  | fuel + 1, state, off, prev, rep, p =>
    let f := fun i => if i < min frameLen 256 then byteAt frame i else 0
    let e := 256 * bank + state
    if s.isDamaged (domKey Dom.PARSE_GRAPH e) then ⟨{ p with code := 9 }, some (Dom.PARSE_GRAPH, e)⟩
    else
      let g := s.dom Dom.PARSE_GRAPH e
      let limit := fun (reason : Nat) => if Fld.PG_PARTIAL_OK.get g = 1 then { p with partial' := true } else { p with code := reason }
      let ty := Fld.PG_HDR_TYPE.get g
      if Fld.PG_VALID.get g = 0 then ⟨{ p with code := 8 }, none⟩
      else
        let rep := if prev = some state then rep + 1 else 1
        if Fld.PG_MAX_REPEAT.get g ≠ 0 ∧ Fld.PG_MAX_REPEAT.get g < rep then ⟨limit 4, none⟩
        else if p.headers.length = 16 then ⟨limit 3, none⟩
        else
          let len := Fld.PG_LEN_BASE.get g +
            Nat.land (f (off + Fld.PG_LEN_OFF.get g)) (Fld.PG_LEN_MASK.get g) / 2 ^ Fld.PG_LEN_SHIFT.get g * 2 ^ Fld.PG_LEN_MULT.get g
          if len < max (Fld.PG_MIN_LEN.get g) 1 then ⟨{ p with code := 6 }, none⟩
          else if frameLen < off + len then ⟨{ p with code := 1 }, none⟩
          else if 256 < off + len then ⟨limit 2, none⟩
          else
            let r := if ty < 32 then extractStd ty (Nat.beq (Fld.PG_CHECK_CSUM.get g) 1) f off len p
              else .ok (extractUser g f off p)
            match r with
            | .error c => ⟨{ p with code := c }, none⟩
            | .ok q =>
              let q := { q with headers := p.headers ++ [(ty, off, len)] }
              if (ty = 5 ∨ ty = 9) ∧ q.fragment = true then ⟨q, none⟩
              else
                let w2 := fun i => f i * 256 + f (i + 1)
                let b := if Fld.PG_SEL_B_END.get g = 1 then off + len - Fld.PG_SEL_B_OFF.get g else off + Fld.PG_SEL_B_OFF.get g
                let sel := w2 (off + Fld.PG_SEL_A_OFF.get g) * 65536 + w2 b
                match s.transition bank g sel with
                | .error t => ⟨{ q with code := 9 }, some (Dom.PARSE_TRANSITIONS, t)⟩
                | .ok (kind, nxt) =>
                  if kind = 1 then ⟨q, none⟩
                  else if kind = 2 then ⟨{ q with code := 5 }, none⟩
                  else State.walk s frame frameLen bank fuel nxt (off + len) (some state) rep q

/-- The whole walk of a frame without its FCS, counted in PARSE_STATS and reported (R56, R80, R81). `sector` is the FS sector of
the pipeline. -/
def State.parseFrame (s : State) (sector port : Nat) (frame : List Byte) : Parsed × State :=
  let bank := s.get Obj.PARSER_CTRL_ACTIVE_BANK
  let w := s.walk frame frame.length bank 17 (s.get (Obj.PORT_CLASSIFY_START_STATE port)) 0 none 0 {}
  let p := w.parsed
  let n := p.headers.length
  let info := p.code + ofBool p.partial' * 16 + (if n = 0 then 0 else if n ≤ 8 then n - 1 else 7) * 32
  let p := ((p.put 1 port).put 34 (s.get (Obj.PORT_CLASSIFY_VRF port))).put 39 info
  let s := if p.code ≠ 0 then s.bump (Obj.PARSE_STATS_FAIL (p.code - 1))
    else if p.partial' then s.bump Obj.PARSE_STATS_PARTIAL else s.bump Obj.PARSE_STATS_ACCEPTED
  let s := match w.parity with
    | some (_, e) => s.raise 0x3202 (uFS sector) (packArg [(16, e)]) Dom.PARSE_GRAPH
    | none => s
  let s := if p.code = 8 then s.raise 0x3203 (uFS sector) 0 Dom.PARSE_GRAPH else s
  (p, s)

/-- Widths of the field catalogue (R62); 0 for an undefined ID. -/
def fieldWidth (id : Nat) : Nat :=
  match id with
  | 1 => 8 | 2 => 48 | 3 => 48 | 4 => 16 | 5 => 12 | 6 => 12 | 7 => 3 | 8 => 20 | 9 => 3 | 10 => 20 | 11 => 4 | 12 => 4
  | 13 => 128 | 14 => 128 | 15 => 8 | 16 => 6 | 17 => 2 | 18 => 8 | 19 => 2 | 20 => 8 | 21 => 32 | 22 => 6 | 23 => 8
  | 24 => 128 | 25 => 128 | 26 => 8 | 27 => 6 | 28 => 24 | 29 => 8 | 30 => 16 | 31 => 8 | 32 => 8 | 33 => 20 | 34 => 12
  | 35 => 16 | 36 => 16 | 37 => 16 | 38 => 16 | 39 => 8
  | 40 => 32 | 41 => 32 | 42 => 32 | 43 => 32 | 44 => 32 | 45 => 32 | 46 => 32 | 47 => 32
  | _ => 0

/-- Field IDs of a profile's slots, up to the first that holds 0 (R64). -/
def profileFields (lo hi : Nat) : List Nat :=
  ((List.range 16).map fun k => if k < 8 then bits lo (8 * k) 8 else bits hi (8 * (k - 8)) 8).takeWhile (· != 0)

/-- Width of a profile. -/
def profileWidth (l : List Nat) : Nat := (l.map fieldWidth).sum

/-- Slots of a key profile. -/
def State.profile (s : State) (n : Nat) : List Nat :=
  profileFields (s.get (Obj.KEY_PROFILE_SLOTS_LO n)) (s.get (Obj.KEY_PROFILE_SLOTS_HI n))

/-- Key bits [319:0] of a packet and the bits that belong to absent fields (R64, R68, R117). -/
def buildKey (l : List Nat) (p : Parsed) : Nat × Nat :=
  let r := l.foldl (fun (a : Nat × Nat × Nat) id =>
    let w := fieldWidth id
    let top := a.2.2
    (a.1 + p.field id % 2 ^ w * 2 ^ (top - w), (if p.has id then a.2.1 else a.2.1 + (2 ^ w - 1) * 2 ^ (top - w)), top - w)) (0, 0, 320)
  (r.1, r.2.1)

/-- A rule matches a key (R68). -/
def ruleMatches (r key absent : Nat) (ports : Option (Nat × Nat)) : Bool :=
  let mask := Fld.CR_MASK.get r
  Nat.beq (Nat.land (Nat.xor key (Fld.CR_VALUE.get r)) mask) 0 && Nat.beq (Nat.land absent mask) 0 &&
  (match ports with
  | some (sp, dp) =>
    Nat.ble (Fld.CR_SPORT_LO.get r) sp && Nat.ble sp (Fld.CR_SPORT_HI.get r) && Nat.ble (Fld.CR_DPORT_LO.get r) dp && Nat.ble dp (Fld.CR_DPORT_HI.get r)
  | none =>
    Nat.beq (Fld.CR_SPORT_LO.get r) 0 && Nat.beq (Fld.CR_SPORT_HI.get r) 65535 && Nat.beq (Fld.CR_DPORT_LO.get r) 0 && Nat.beq (Fld.CR_DPORT_HI.get r) 65535)

/-- The leaf a tree's walk reaches (R69): none for a walk error; the damaged node when a parity error ended it. -/
def State.treeWalk (s : State) (key : Nat) : Nat → Nat → Except (Option Nat) Nat
  | 0, _ => .error none
  | fuel + 1, node =>
    if s.isDamaged (domKey Dom.CLASS_NODES node) then .error (some node)
    else
      let image := s.dom Dom.CLASS_NODES node
      match Fld.CN_KIND.get image with
      | 1 =>
        if fuel = 0 then .error none
        else
          let i := bits key (Fld.CN_KEY_BIT.get image) (Fld.CN_NBITS.get image + 1)
          State.treeWalk s key fuel (Fld.CN_CHILD_BASE.get image + i)
      | 2 => .ok image
      | _ => .error none

/-- Reports a parity error in a classifier entry (R80, R127). -/
def State.classParity (s : State) (d e bank : Nat) : State :=
  (s.parityFound bank).raise 0x3202 (uBank bank) (packArg [(32, e)]) d

/-- The classifier's search of a tree set (R69): the action word of the winning rule. -/
def State.classify (s : State) (sector set key absent : Nat) (ports : Option (Nat × Nat)) : Option Nat × State :=
  let full := match ports with | some (sp, dp) => key + sp * 2 ^ 336 + dp * 2 ^ 320 | none => key
  let r := (Table.get (fun _ => []) s.parse.roots set).foldl (fun (a : Option (Nat × Nat × Nat) × State) root =>
    let s := a.2
    match s.treeWalk full 11 root with
    | .error (some node) => (a.1, (s.bump (Obj.TREE_SET_WALK_ERRORS set)).classParity Dom.CLASS_NODES node (nodeBank node))
    | .error none => (a.1, (s.bump (Obj.TREE_SET_WALK_ERRORS set)).raise 0x3201 (uFS sector) 0 set)
    | .ok leaf =>
      (List.range (Fld.CN_COUNT.get leaf)).foldl (fun (a : Option (Nat × Nat × Nat) × State) i =>
        let e := Fld.CN_RULE_BASE.get leaf + i
        if a.2.isDamaged (domKey Dom.CLASS_RULES e) then (a.1, a.2.classParity Dom.CLASS_RULES e (ruleBank e))
        else
          let rule := a.2.dom Dom.CLASS_RULES e
          let cand := (Fld.CR_PRIORITY.get rule, Fld.CR_RULE_ID.get rule, Fld.CR_ACTION.get rule)
          if ruleMatches rule key absent ports then
            match a.1 with
            | none => (some cand, a.2)
            | some b => if b.1 < cand.1 ∨ (cand.1 = b.1 ∧ cand.2.1 < b.2.1) then (some cand, a.2) else a
          else a) (a.1, s)) (none, s)
  (r.1.map (·.2.2), r.2)

/-- Class, colour and queue selector a packet carries from classification on (R72 to R74). -/
structure Actions where
  cls : Nat := 0
  colour : Nat := 0
  /-- QSEL_MODE and QSEL_VALUE; mode 0: no selector. -/
  mode : Nat := 0
  value : Nat := 0
deriving DecidableEq, Repr

/-- Each action a word enables overrides (R73, R136). -/
def Actions.apply (a : Actions) (w : Nat) : Actions :=
  { cls := if Fld.ACT_CLASS_EN.get w = 1 then Fld.ACT_CLASS.get w else a.cls
    colour := if Fld.ACT_COLOUR_EN.get w = 1 then Fld.ACT_COLOUR.get w else a.colour
    mode := if Fld.ACT_QSEL_MODE.get w = 0 then a.mode else Fld.ACT_QSEL_MODE.get w
    value := if Fld.ACT_QSEL_MODE.get w = 0 then a.value else Fld.ACT_QSEL_VALUE.get w }

/-- An action word a write may carry (R72). -/
def actionOk (w : Nat) : Bool :=
  !(Nat.beq (Fld.ACT_COLOUR.get w) 3) && !(Nat.beq (Fld.ACT_QSEL_MODE.get w) 3) &&
    !(Nat.beq (Fld.ACT_QSEL_MODE.get w) 2 && !(Nat.beq (bits w 7 12) 0)) && Nat.blt w (2 ^ 28)

/-- Classification of a parsed packet of a port (R57, R69, R73). -/
def State.classifyPacket (s : State) (sector port : Nat) (p : Parsed) : Actions × State :=
  let dflt := ({} : Actions).apply (s.get (Obj.PORT_CLASSIFY_DEFAULT_ACTION port))
  let set := s.get (Obj.PORT_CLASSIFY_TREE_SET port)
  if p.code ≠ 0 ∨ set = 0xFF then (dflt, s)
  else
    let prof := s.get (Obj.PORT_CLASSIFY_KEY_PROFILE port)
    if s.isDamaged (Obj.KEY_PROFILE_SLOTS_LO prof) then
      (dflt, (s.bump (Obj.PORT_CLASSIFY_NO_MATCH port)).raise 0x3202 (uFS sector) (packArg [(16, prof)]) 0x3200)
    else
      let (key, absent) := buildKey (s.profile prof) p
      match s.classify sector set key absent p.ports with
      | (some w, s) => (dflt.apply w, s)
      | (none, s) => (dflt, s.bump (Obj.PORT_CLASSIFY_NO_MATCH port))

/-- Endpoints in order, the lower first (R78). -/
def orderedEnds (a b : Nat × Nat) : List Byte :=
  let lt : Bool := Nat.blt a.1 b.1 || (Nat.beq a.1 b.1 && Nat.ble a.2 b.2)
  let enc := fun (e : Nat × Nat) => bytesBE 16 e.1 ++ bytesBE 2 e.2
  if lt then enc a ++ enc b else enc b ++ enc a

/-- MAC pair in order. -/
def orderedMacs (a b : Nat) : List Byte := if a ≤ b then bytesBE 6 a ++ bytesBE 6 b else bytesBE 6 b ++ bytesBE 6 a

/-- The byte string the hashes run over (R78, R79). DESIGN CHOICE, log entry 176: "no IP fields" of type 5 speaks of the outer ones. -/
def State.hashString (s : State) (p : Parsed) : List Byte :=
  let inner := orderedEnds (p.field 24, p.field 37) (p.field 25, p.field 38) ++ bytesBE 1 (p.field 26)
  let macs := orderedMacs (p.field 2) (p.field 3) ++ bytesBE 2 (p.field 5)
  if p.has 21 ∧ p.has 24 ∧ s.on Obj.HASH_CTRL_GTP_INNER then toByte 2 :: inner
  else if p.has 28 ∧ p.has 24 ∧ s.on Obj.HASH_CTRL_VXLAN_INNER then toByte 3 :: inner
  else if p.has 28 ∧ ¬ p.has 24 ∧ s.on Obj.HASH_CTRL_VXLAN_INNER then
    toByte 4 :: (orderedMacs p.innerDa p.innerSa ++ bytesBE 2 p.innerEtype)
  else if p.has 13 then
    toByte 1 :: (orderedEnds (p.field 13, p.field 35) (p.field 14, p.field 36) ++ bytesBE 1 (p.field 15) ++
      (if s.on Obj.HASH_CTRL_FLOW_LABEL then bytesBE 3 (p.field 33) else []))
  else if p.has 11 then
    toByte 5 :: ((List.range (s.get Obj.HASH_CTRL_MPLS_LABELS)).flatMap fun k => bytesBE 3 (p.labels.getD k 0))
  else if p.has 29 then toByte 6 :: (macs ++ bytesBE 2 (p.field 30))
  else toByte 7 :: (macs ++ bytesBE 2 (p.field 4))

/-- CRC-32C as R77 takes it: no reflection, no final XOR. -/
def crc32c (seed : Nat) (l : List Byte) : Nat := crc 32 0x1EDC6F41 seed l

/-- ECMP and LAG hashes of a packet (R77). -/
def State.hashes (s : State) (p : Parsed) : Nat × Nat :=
  let str := s.hashString p
  (crc32c (s.get Obj.HASH_CTRL_ECMP_SEED) str, crc32c (s.get Obj.HASH_CTRL_LAG_SEED) str)

/-- Reserved standard header types: 11 and 22 to 31 (R58). -/
def reservedType (t : Nat) : Bool := Nat.beq t 11 || (Nat.ble 22 t && Nat.ble t 31)

/-- Check of a write of a parse state (R49, R50, R60). -/
def State.graphStatus (s : State) (e image : Nat) : Status :=
  if e / 256 = s.get Obj.PARSER_CTRL_ACTIVE_BANK then .busy
  else
    let ty := Fld.PG_HDR_TYPE.get image
    let words := (List.range 5).map fun k => bits image (128 - 32 * k) 32
    let badWord := words.any fun w => (!(Nat.beq (w / 2 ^ 26) 0) && (Nat.blt (w / 2 ^ 26) 40 || Nat.blt 47 (w / 2 ^ 26))) || !(Nat.beq (w % 2 ^ 18) 0)
    if 2048 < Fld.PG_TRANS_BASE.get image + Fld.PG_TRANS_COUNT.get image ∨ 8 < Fld.PG_TRANS_COUNT.get image ∨
        Fld.PG_DEFAULT_KIND.get image = 3 ∨ badWord = true ∨ reservedType ty = true ∨
        (ty < 32 ∧ bits image 0 160 ≠ 0) then .invalid
    else .ok

/-- Check of a write of a transition (R51, R60). -/
def State.transitionStatus (s : State) (e image : Nat) : Status :=
  if e / 2048 = s.get Obj.PARSER_CTRL_ACTIVE_BANK then .busy
  else if Fld.PT_KIND.get image = 3 then .invalid else .ok

/-- Check of a write of a node (R66). -/
def nodeStatus (image : Nat) : Status :=
  let kind := Fld.CN_KIND.get image
  if kind = 3 ∨ bits image 0 96 ≠ 0 then .invalid
  else if kind = 1 ∧ (352 < Fld.CN_KEY_BIT.get image + Fld.CN_NBITS.get image + 1 ∨
      262144 < Fld.CN_CHILD_BASE.get image + 2 ^ (Fld.CN_NBITS.get image + 1)) then .invalid
  else if kind = 2 ∧ (8 < Fld.CN_COUNT.get image ∨ 131072 < Fld.CN_RULE_BASE.get image + Fld.CN_COUNT.get image ∨ bits image 96 9 ≠ 0) then .invalid
  else .ok

/-- Check of a write of a rule slot (R67, R72). -/
def ruleStatus (image : Nat) : Status := if actionOk (Fld.CR_ACTION.get image) then .ok else .invalid

/-- ACTIVE_BANK (R60). The walks of the old bank have ended: each runs within its own command. -/
def ruleActiveBank (v : Nat) (s : State) : Res :=
  if v = s.get Obj.PARSER_CTRL_ACTIVE_BANK then (.ok, s)
  else (.ok, (s.commit Obj.PARSER_CTRL_ACTIVE_BANK v).bumpW 32 Obj.PARSER_CTRL_BANK_SWITCHES)

/-- ACTIVE_BANK. -/
def execActiveBank (master value : Nat) (s : State) : Out :=
  s.rowWrite master Obj.PARSER_CTRL_ACTIVE_BANK value (ruleActiveBank value)

/-- Sets a DOMAIN entry by hardware and journals it only if it changes (R473). -/
def State.loadDom (s : State) (d e image : Nat) : State :=
  let s := s.repair (domKey d e)
  if s.dom d e = image then s else s.commitDom d e image

/-- RESTORE_DEFAULT (R59): the whole default image into the standby bank; BUSY for the active one. -/
def ruleRestoreDefault (v : Nat) (s : State) : Res :=
  if v = s.get Obj.PARSER_CTRL_ACTIVE_BANK then (.busy, s)
  else
    let s := (List.range 256).foldl (fun s i => s.loadDom Dom.PARSE_GRAPH (256 * v + i) (parseDefaultState i)) s
    (.ok, (List.range 2048).foldl (fun s i => s.loadDom Dom.PARSE_TRANSITIONS (2048 * v + i) (parseDefaultTransition i)) s)

/-- RESTORE_DEFAULT. -/
def execRestoreDefault (master value : Nat) (s : State) : Out :=
  s.rowWrite master Obj.PARSER_CTRL_RESTORE_DEFAULT value (ruleRestoreDefault value)

/-- Width in units of a TCAM table: the width of its first bank (R115). -/
def State.tcamWidth (s : State) (t : Nat) : Nat := s.get (Obj.TCAM_BANKS_WIDTH_TB (s.get (Obj.TCAM_TABLE_BANK_FIRST t)))

/-- A key profile's slots (R65): the profile the write would form is checked at once. -/
def ruleKeyProfile (n : Nat) (high : Bool) (v : Nat) (s : State) : Res :=
  let lo := if high then s.get (Obj.KEY_PROFILE_SLOTS_LO n) else v
  let hi := if high then v else s.get (Obj.KEY_PROFILE_SLOTS_HI n)
  let l := profileFields lo hi
  let w := profileWidth l
  let tooWide := (List.range 4).any fun t =>
    s.on (Obj.TCAM_TABLE_ENABLE t) && Nat.beq (s.get (Obj.TCAM_TABLE_KEY_PROFILE t)) n && Nat.blt (80 * s.tcamWidth t) w
  if 320 < w ∨ l.any (fun id => Nat.beq (fieldWidth id) 0) = true ∨ tooWide = true then (.invalid, s)
  else
    let s := s.commit (if high then Obj.KEY_PROFILE_SLOTS_HI n else Obj.KEY_PROFILE_SLOTS_LO n) v
    (.ok, (s.set (Obj.KEY_PROFILE_WIDTH n) w).repair (Obj.KEY_PROFILE_SLOTS_LO n))

/-- KEY_PROFILE_SLOTS: a write of SLOTS_LO, or of SLOTS_HI when `high`. -/
def execKeyProfileSlots (profile : Fin 64) (high : Bool) (master value : Nat) (s : State) : Out :=
  s.rowWrite master (if high then Obj.KEY_PROFILE_SLOTS_HI profile else Obj.KEY_PROFILE_SLOTS_LO profile) value (ruleKeyProfile profile high value)

/-- COMMIT (R71): the pending count and roots become active together. -/
def ruleCommit (set : Nat) (s : State) : Res :=
  let roots := (List.range (s.get (Obj.TREE_SET_TREES set))).map fun k => s.get (Obj.TREE_SET_ROOT set k)
  let s := (s.withParse { s.parse with roots := Table.put (fun _ => []) s.parse.roots set roots })
  let s := s.bumpW 32 (Obj.TREE_SET_GENERATION set)
  (.ok, s.journal (.obj (keyIdx (Obj.TREE_SET_COMMIT set)) (keySub (Obj.TREE_SET_COMMIT set)) 1))

/-- COMMIT. -/
def execCommit (set : Fin 16) (master value : Nat) (s : State) : Out :=
  s.rowWrite master (Obj.TREE_SET_COMMIT set) value (ruleCommit set)

end Sys2Proof.Machine
end

