-- ==== Sys2Proof/Machine/EmTable.lean ====
section
/-! DEFINITION. Exact-match tables: hashing, search, insert, relocation, eviction, stamps, ageing, learning and learn events
(R87 to R107), and the commands of the ager and the learner. -/

namespace Sys2Proof.Machine

/-- No entry. -/
def noEntry (_ : Nat) : Option EmEntry := none
/-- Key of an entry in the store. DESIGN CHOICE, log entry 129: contents are held per table, not per bank. -/
def emKey (t i : Nat) : Nat := t * 2 ^ 24 + i

/-- Entry at an index; none when it is not valid. -/
def State.emAt (s : State) (t i : Nat) : Option EmEntry := Table.get noEntry s.tab.em (emKey t i)

/-- Counts of an entry slot: entries, locked, static. -/
def emCount (e : Option EmEntry) : Nat × Nat × Nat :=
  match e with
  | none => (0, 0, 0)
  | some e => (1, ofBool e.lock, ofBool e.static)

/-- Writes an entry slot; ENTRIES, LOCKED and STATIC follow (R104). -/
def State.emPut (s : State) (t i : Nat) (e : Option EmEntry) : State :=
  let old := emCount (s.emAt t i)
  let new := emCount e
  let s : State := (s.withTab { s.tab with em := Table.put noEntry s.tab.em (emKey t i) e })
  let upd := fun (s : State) k a b => s.set k (s.get k + b - a)
  upd (upd (upd s (Obj.EM_TABLE_ENTRIES t) old.1 new.1) (Obj.EM_TABLE_LOCKED t) old.2.1 new.2.1) (Obj.EM_TABLE_STATIC t) old.2.2 new.2.2

/-- The table is wide. -/
def State.emWide (s : State) (t : Nat) : Bool := Nat.beq (s.get (Obj.EM_TABLE_WIDTH t)) 1

/-- Buckets to a bank (R90). -/
def State.emPerBank (s : State) (t : Nat) : Nat := if s.emWide t then 1280 else 2560

/-- NB (R90). -/
def State.emBuckets (s : State) (t : Nat) : Nat := s.get (Obj.EM_TABLE_BANK_COUNT t) * s.emPerBank t

/-- Table-memory bank of an entry (R90). -/
def State.emBank (s : State) (t i : Nat) : Nat := 103 + s.get (Obj.EM_TABLE_BANK_FIRST t) + i / 4 / s.emPerBank t

/-- The two candidate buckets of a key (R91). -/
def State.emHash (s : State) (t key : Nat) : Nat × Nat :=
  let l := bytesBE (if s.emWide t then 20 else 8) key
  let nb := s.emBuckets t
  (crc 32 0x1EDC6F41 (s.get (Obj.EM_TABLE_SEED1 t)) l * nb / 2 ^ 32, crc 32 0x04C11DB7 (s.get (Obj.EM_TABLE_SEED2 t)) l * nb / 2 ^ 32)

/-- Indices of a bucket's four entries. -/
def bucketSlots (b : Nat) : List Nat := [4 * b, 4 * b + 1, 4 * b + 2, 4 * b + 3]

/-- Indices of a key's candidate buckets, b1 first. -/
def State.emCandidates (s : State) (t key : Nat) : List Nat :=
  let h := s.emHash t key
  if h.1 = h.2 then bucketSlots h.1 else bucketSlots h.1 ++ bucketSlots h.2

/-- The entry that holds a key (R92). -/
def State.emFind (s : State) (t key : Nat) : Option (Nat × EmEntry) :=
  (s.emCandidates t key).findSome? fun i =>
    match s.emAt t i with
    | some e => if e.key = key then some (i, e) else none
    | none => none

/-- A learn-event entry (R106) but for its PHASE. -/
def State.learnImage (s : State) (t kind i : Nat) (keyBad : Bool) (key result data : Nat) : Nat :=
  let info := if s.emWide t then result % 2 ^ 32 * 2 ^ 32 + key % 2 ^ 32 else key % 2 ^ 64
  kind * 2 ^ 124 + t * 2 ^ 120 + ofBool keyBad * 2 ^ 119 + i % 2 ^ 23 * 2 ^ 96 + info * 2 ^ 32 + data % 2 ^ 32

/-- Reports a change on the table's ring (R105 to R107). Of the entries that find the stash full, a PARITY report is counted in EVENT_DROPS
and any other, which can only be the LEARNED after an EVICTED that took the last place, waits (log entry 128). Log entry 10: a ring that
is disabled takes no entry. -/
def State.learnEvent (s : State) (t kind i : Nat) (keyBad : Bool) (key result data : Nat) : State :=
  let cq := s.get (Obj.EM_TABLE_EVENT_CQ t)
  if cq = 0xFFFF ∨ s.get (Obj.CQ_CONFIG_CQ_ENABLE cq) = 0 then s
  else
    let e : CqEntry := ⟨s.learnImage t kind i keyBad key result data, false⟩
    let n := (s.cq cq).stash.length
    if n = 0 ∧ 0 < s.cqRoom cq then s.cqWrite cq e
    else if n < 64 then s.stashAdd cq e
    else if kind ≠ 5 then s.setEmt t { s.emt t with waiting := (s.emt t).waiting ++ [(cq, e)] }
    else s.bump (Obj.EM_TABLE_EVENT_DROPS t)

/-- DATA of AGED and EVICTED. -/
def State.removedData (s : State) (t : Nat) (e : EmEntry) : Nat := if s.emWide t then e.stamp else e.result

/-- One step of the choice register (R94). -/
def lfsrStep (x : Nat) : Nat :=
  let b := Nat.xor (Nat.xor x (x / 4)) (Nat.xor (x / 8) (x / 32)) % 2
  x / 2 + b * 2 ^ 15

/-- First free slot of a bucket. -/
def State.emFree (s : State) (t b : Nat) : Option Nat := (bucketSlots b).find? fun i => (s.emAt t i).isNone

/-- Number of locked entries among the slots. -/
def State.lockedIn (s : State) (t : Nat) (l : List Nat) : Nat :=
  (l.filter fun i => match s.emAt t i with | some e => e.lock | none => false).length

/-- What a walk found: the indices moved from, first to last, with the free slot at its end; the choice register and the
locked entries passed over. -/
structure EmPlan where
  path : Option (List Nat × Nat)
  lfsr : Nat
  defer : Nat
deriving DecidableEq, Repr

/-- plan(b) of R94. `path` holds the indices chosen so far, last first. DESIGN CHOICE, log entry 130: of several free slots of bucket a
the last move takes the first in slot order. -/
def State.emPlan (s : State) (t : Nat) : Nat → Nat → List Nat → Nat → Nat → EmPlan
  | 0, _, _, x, d => ⟨none, x, d⟩
  | fuel + 1, b, path, x, d =>
    let d := d + s.lockedIn t (bucketSlots b)
    let cand := (bucketSlots b).filterMap fun i =>
      match s.emAt t i with
      | some e =>
        let h := s.emHash t e.key
        if e.lock = false ∧ path.contains i = false ∧ h.1 ≠ h.2 then some (i, if h.1 = b then h.2 else h.1) else none
      | none => none
    if cand = [] then ⟨none, x, d⟩
    else
      let x := lfsrStep x
      match cand[x % cand.length]? with
      | none => ⟨none, x, d⟩
      | some (i, a) =>
        match s.emFree t a with
        | some f => ⟨some ((i :: path).reverse, f), x, d⟩
        | none => State.emPlan s t fuel a (i :: path) x d

/-- Carries out a plan: the last move first, each entry to the slot the next one left (R94, R95). -/
def State.emMove (s : State) (t : Nat) (path : List Nat) (free : Nat) : State :=
  (path.reverse.foldl (fun (a : State × Nat) i =>
    (((a.1.emPut t a.2 (a.1.emAt t i)).emPut t i none).bump (Obj.EM_TABLE_RELOCATIONS t), i)) (s, free)).1

/-- Flags of an insert (R124). -/
structure EmFlags where
  static : Bool := false
  lockSet : Bool := false
  lockClear : Bool := false
  noCreate : Bool := false
  noEvict : Bool := false
deriving DecidableEq, Repr

/-- How an insert ends. `waits`: it needs an eviction while the table is paused (R107). -/
structure InsertEnd where
  status : Status
  index : Nat := 0
  created : Bool := false
  evicted : Bool := false
  waits : Bool := false
  st : State
deriving DecidableEq, Repr

/-- Dynamic entries among the candidates that an eviction skips for their LOCK (R103). -/
def State.evictSkips (s : State) (t : Nat) (cand : List Nat) : Nat :=
  (cand.filter fun i => match s.emAt t i with | some e => e.lock && !e.static | none => false).length

/-- The victim among the candidates (R96), with the choice register after it. -/
def State.emVictim (s : State) (t : Nat) (cand : List Nat) (x : Nat) : Option Nat × Nat :=
  let l := cand.mergeSort.filter fun i => match s.emAt t i with | some e => !e.static && !e.lock | none => false
  if l = [] then (none, x)
  else if s.get (Obj.EM_TABLE_EVICT_MODE t) = 1 then
    let x := lfsrStep x
    (l[x % l.length]?, x)
  else
    let age : Nat → Nat := fun i => match s.emAt t i with | some e => (s.get (Obj.EM_TABLE_STAMP_NOW t) + 65536 - e.stamp) % 65536 | none => 0
    (l.foldl (fun (b : Option Nat) i => match b with | none => some i | some j => if age j < age i then some i else b) none, x)

/-- Writes a new entry at a slot and journals it (R94, R98, R473). -/
def State.emCreate (s : State) (t i key result : Nat) (f : EmFlags) : State :=
  (s.emPut t i (some ⟨f.static, f.lockSet, s.get (Obj.EM_TABLE_STAMP_NOW t), key, result⟩)).journal (.emSet t (ofBool f.static) result key)

/-- insert(key, result, flags) of R94. -/
def State.emInsert (s : State) (t key result : Nat) (f : EmFlags) : InsertEnd :=
  match s.emFind t key with
  | some (i, e) =>
    let e' : EmEntry := { e with
      static := f.static, lock := if f.lockSet then true else if f.lockClear then false else e.lock,
      stamp := s.get (Obj.EM_TABLE_STAMP_NOW t), result := result }
    ⟨.ok, i, false, false, false, (s.emPut t i (some e')).journal (.emSet t (ofBool f.static) result key)⟩
  | none =>
    if f.noCreate then ⟨.notFound, 0, false, false, false, s⟩
    else
      let h := s.emHash t key
      match (s.emFree t h.1).orElse fun _ => s.emFree t h.2 with
      | some i => ⟨.ok, i, true, false, false, s.emCreate t i key result f⟩
      | none =>
        let p1 := s.emPlan t 16 h.1 [] (s.emt t).lfsr 0
        let p := match p1.path with | some _ => p1 | none => s.emPlan t 16 h.2 [] p1.lfsr p1.defer
        let noEvict : Bool := Nat.beq (s.get (Obj.EM_TABLE_EVICT_MODE t)) 0 || f.noEvict
        let skips := if p.path.isSome ∨ noEvict then 0 else s.evictSkips t (s.emCandidates t key)
        let s1 := (s.setEmt t { s.emt t with lfsr := p.lfsr }).bump (Obj.EM_TABLE_DEFERRALS t) (p.defer + skips)
        match p.path with
        | some (l, free) => ⟨.ok, l.headD free, true, false, false, (s1.emMove t l free).emCreate t (l.headD free) key result f⟩
        | none =>
          let full : InsertEnd := ⟨.full, 0, false, false, false,
            (s1.bump (Obj.EM_TABLE_INSERT_FAILS t)).raise 0x3102 (s1.emUnit t) 0 t⟩
          if noEvict then full
          else
            match s1.emVictim t (s.emCandidates t key) p.lfsr with
            | (none, _) => full
            | (some v, x) =>
              if s.on (Obj.EM_TABLE_PAUSED t) then ⟨.full, 0, false, false, true, s⟩
              else
                let s2 := s1.setEmt t { s1.emt t with lfsr := x }
                let s3 := match s2.emAt t v with
                  | some e =>
                    ((s2.bump (Obj.EM_TABLE_EVICTED t)).journal (.emDel t e.key)).learnEvent t 3 v false e.key e.result (s2.removedData t e)
                  | none => s2
                ⟨.ok, v, true, true, false, s3.emCreate t v key result f⟩

/-- Deletes by key: the index it held. -/
def State.emDelete (s : State) (t key : Nat) : Option Nat × State :=
  match s.emFind t key with
  | some (i, _) => (some i, (s.emPut t i none).journal (.emDel t key))
  | none => (none, s)

/-- A parity error in an entry (R128): it is invalidated and reported with the values read. DESIGN CHOICE, log entry 131: a slot that holds
no valid entry gives E-3204 and PARITY_TOTAL, no PARITY report and no PARITY_ERRORS. -/
def State.emParity (s : State) (t i key result : Nat) (keyBad : Bool) : State :=
  let s := s.parityFound (s.emBank t i)
  let s := s.raise 0x3204 (uBank (s.emBank t i)) (packArg [(16, t), (32, i)]) t
  match s.emAt t i with
  | some e =>
    let s := ((s.emPut t i none).bump (Obj.EM_TABLE_PARITY_ERRORS t)).journal (.emDel t e.key)
    s.learnEvent t 5 i keyBad key result (if s.emWide t then 0 else result)
  | none => s

/-- STANDBY: learning, ageing and eviction are off (R475). -/
def State.isStandby (s : State) : Bool := Nat.beq (s.get Obj.PAIR_CTRL_ROLE) roleSTANDBY

/-- A request has taken its place in the order of arrival at the table engines. -/
def State.countArrival (s : State) : State := s.withTab { s.tab with arrivals := s.tab.arrivals + 1 }

/-- A learn request reaches the table (R101). -/
def State.learnRequest (s : State) (t key loc : Nat) : State :=
  if s.isStandby then s
  else
    let q := (s.emt t).learn
    if s.on (Obj.EM_TABLE_PAUSED t) = true ∨ 4096 ≤ q.length then s.bump (Obj.EM_TABLE_LEARN_DROPS t)
    else (s.setEmt t { s.emt t with learn := q ++ [⟨key, loc, s.tab.arrivals⟩] }).countArrival

/-- A search of an enabled table (R92, R98): the index and entry it hits. -/
def State.emSearch (s : State) (t key : Nat) : Option (Nat × EmEntry) × State :=
  if s.on (Obj.EM_TABLE_ENABLE t) then
    match s.emFind t key with
    | some (i, e) =>
      let now := s.get (Obj.EM_TABLE_STAMP_NOW t)
      (some (i, e), if s.on (Obj.EM_TABLE_HIT_REFRESH t) = true ∧ e.stamp ≠ now then s.emPut t i (some { e with stamp := now }) else s)
    | none => (none, s)
  else (none, s)

/-- Handles one learn request (R102). While the table is paused a request that would be reported is dropped and counted, and so is any
request of a table that has been disabled, whose contents are kept (R104, R107; log entry 11). -/
def State.learnOne (s : State) (t key loc : Nat) : State :=
  let paused : Bool := s.on (Obj.EM_TABLE_PAUSED t) || s.isStandby
  if s.on (Obj.EM_TABLE_ENABLE t) = false then s.bump (Obj.EM_TABLE_LEARN_DROPS t)
  else match s.emFind t key with
  | some (i, e) =>
    if e.lock then s.bump (Obj.EM_TABLE_DEFERRALS t)
    else if e.result % 65536 = loc then s.emPut t i (some { e with stamp := s.get (Obj.EM_TABLE_STAMP_NOW t) })
    else if paused then s.bump (Obj.EM_TABLE_LEARN_DROPS t)
    else if e.static then
      let s := s.bump (Obj.EM_TABLE_MOVE_DENIED t)
      let s := s.raise 0x3103 (s.emUnit t) 0 t
      if (s.emt t).deniedUntil ≤ s.time.now then
        (s.setEmt t { s.emt t with deniedUntil := s.time.now + ms }).learnEvent t 4 i false key e.result (e.result % 65536 * 65536 + loc)
      else s
    else
      let r := e.result / 65536 * 65536 + loc
      let s := s.emPut t i (some { e with stamp := s.get (Obj.EM_TABLE_STAMP_NOW t), result := r })
      let s := (s.bump (Obj.EM_TABLE_MOVED t)).journal (.emSet t 0 r key)
      s.learnEvent t 1 i false key r (e.result % 65536 * 65536 + loc)
  | none =>
    if paused then s.bump (Obj.EM_TABLE_LEARN_DROPS t)
    else
      let r := s.emInsert t key loc {}
      if r.created then (r.st.bump (Obj.EM_TABLE_LEARNED t)).learnEvent t 0 r.index false key loc loc else r.st

/-- LEARN (R102): the oldest request of a table, once the jobs that reached its engine before have run (R93). -/
def execLearn (table : Sys2Proof.EmTable) (s : State) : Out :=
  s.inCore fun s =>
    match (s.emt table).learn with
    | [] => s
    | r :: l =>
      if s.jobBefore (some (0, table.val)) r.seq then s
      else (s.setEmt table { s.emt table with learn := l }).learnOne table r.key r.loc

/-- LEARN_STASH_DRAIN (R107): one entry of a ring that learn events use; with the 32nd that remains its tables go on. -/
def execLearnStashDrain (cq : Fin 1024) (s : State) : Out :=
  s.inCore fun s => if s.boundTables cq = [] then s else s.drainDue cq

/-- EVENT_CQ of a table (R105, R107, R555): not the event ring; a table bound to a ring whose stash holds 64 entries pauses. -/
def ruleEmEventCq (t v : Nat) (s : State) : Res :=
  if v ≠ 0xFFFF ∧ v = s.get Obj.EVENT_CTRL_EVENT_CQ then (.invalid, s)
  else
    let s := s.commit (Obj.EM_TABLE_EVENT_CQ t) v
    (.ok, if v ≠ 0xFFFF ∧ 64 ≤ (s.cq v).stash.length ∧ (s.emt t).pausedBy = none then s.pauseTable v t else s)

/-- The ager stops: when ageing comes on again it starts a pass at an increment of STAMP_NOW, from bucket 0 (R99). -/
def State.stopAger (s : State) (t : Nat) : State := s.setEmt t { s.emt t with ager := none, agerTick := false }

/-- Ageing is on (R99, R475). -/
def State.ageing (s : State) (t : Nat) : Bool :=
  s.on (Obj.EM_TABLE_ENABLE t) && !(Nat.beq (s.get (Obj.EM_TABLE_AGE_LIMIT t)) 0) && !s.isStandby

/-- STAMP_TICK (R97, R99): one increment when it is due. -/
def execStampTick (table : Sys2Proof.EmTable) (s : State) : Out :=
  s.inCore fun s =>
    let e := s.emt table
    match e.nextTick with
    | none => s
    | some n =>
      if n ≤ s.time.now then
        let s := s.set (Obj.EM_TABLE_STAMP_NOW table) ((s.get (Obj.EM_TABLE_STAMP_NOW table) + 1) % 65536)
        let e := { e with nextTick := some (n + 1000 * s.get (Obj.EM_TABLE_STAMP_UNIT table)) }
        s.setEmt table (if s.ageing table then
            match e.ager with
            | none => { e with ager := some 0 }
            | some _ => { e with agerTick := true }
          else { e with ager := none, agerTick := false })
      else s

/-- STAMP_UNIT (R97): the next increment falls one new unit after the write. -/
def ruleStampUnit (t v : Nat) (s : State) : Res :=
  let s := s.commit (Obj.EM_TABLE_STAMP_UNIT t) v
  let e := s.emt t
  (.ok, s.setEmt t { e with nextTick := e.nextTick.map fun _ => s.time.now + 1000 * v })

/-- STAMP_UNIT. -/
def execStampUnit (table : Sys2Proof.EmTable) (master value : Nat) (s : State) : Out :=
  s.rowWrite master (Obj.EM_TABLE_STAMP_UNIT table) value (ruleStampUnit table value)

/-- AGE_LIMIT (R99): a pass in progress ends when ageing goes off. -/
def ruleAgeLimit (t v : Nat) (s : State) : Res :=
  let s := s.commit (Obj.EM_TABLE_AGE_LIMIT t) v
  (.ok, if v = 0 then s.stopAger t else s)

/-- AGER_READ (R99): one bucket of the pass in progress. -/
def execAgerRead (table : Sys2Proof.EmTable) (s : State) : Out :=
  s.inCore fun s =>
    let e := s.emt table
    if s.ageing table = false then s.setEmt table { e with ager := none, agerTick := false }
    else if s.on (Obj.EM_TABLE_PAUSED table) then s
    else
      match e.ager with
      | none => s
      | some b =>
        let limit := s.get (Obj.EM_TABLE_AGE_LIMIT table)
        let now := s.get (Obj.EM_TABLE_STAMP_NOW table)
        let old := (bucketSlots b).filterMap fun i =>
          match s.emAt table i with
          | some x => if x.static = false ∧ limit ≤ (now + 65536 - x.stamp) % 65536 then some (i, x) else none
          | none => none
        let locked := (old.filter fun x => x.2.lock).length
        let dels := (old.filter fun x => !x.2.lock).map fun x => (⟨x.1, x.2.key, x.2.stamp⟩ : AgeDelete)
        let last : Bool := Nat.ble (s.emBuckets table) (b + 1)
        let e := { e with
          deletes := e.deletes ++ dels
          ager := if last then (if e.agerTick then some 0 else none) else some (b + 1)
          agerTick := e.agerTick && !last }
        (s.setEmt table e).bump (Obj.EM_TABLE_DEFERRALS table) locked

/-- A compare-and-delete at the bank port (R14, R99); one for a table that has been disabled deletes nothing (R104), and one that finds its
table halted waits (R107). -/
def State.ageDelete (s : State) (t : Nat) (d : AgeDelete) : State :=
  if s.on (Obj.EM_TABLE_PAUSED t) then s.setEmt t { s.emt t with deletes := d :: (s.emt t).deletes }
  else
    match s.emAt t d.index with
    | some x =>
      if x.key = d.key ∧ x.stamp = d.stamp ∧ x.lock = false ∧ s.isStandby = false ∧ s.on (Obj.EM_TABLE_ENABLE t) = true then
        let s := ((s.emPut t d.index none).bump (Obj.EM_TABLE_AGED t)).journal (.emDel t x.key)
        s.learnEvent t 2 d.index false x.key x.result (s.removedData t x)
      else s
    | none => s

/-- The compare-and-deletes of an instant are made as it ends: every refresh of the instant is ordered before them (R12). -/
def State.ageDeletes (s : State) : State :=
  let l := s.tab.ageDue
  if l = [] then s else forEach l (s.withTab { s.tab with ageDue := [] }) fun s x => s.ageDelete x.1 x.2

/-- AGER_COMPARE_DELETE (R12, R99): the oldest compare-and-delete reaches the bank port, where it is made as the instant ends. -/
def execAgerCompareDelete (table : Sys2Proof.EmTable) (s : State) : Out :=
  s.inCore fun s =>
    let e := s.emt table
    if s.on (Obj.EM_TABLE_PAUSED table) then s
    else
      match e.deletes with
      | [] => s
      | d :: l =>
        let s := s.setEmt table { e with deletes := l }
        s.withTab { s.tab with ageDue := s.tab.ageDue ++ [(table.val, d)] }

/-- The bank run of a table meets that of another enabled table (R104). -/
def State.emOverlap (s : State) (t : Nat) : Bool :=
  let f := s.get (Obj.EM_TABLE_BANK_FIRST t)
  let n := s.get (Obj.EM_TABLE_BANK_COUNT t)
  (List.range 16).any fun u => !(Nat.beq u t) && s.on (Obj.EM_TABLE_ENABLE u) &&
    Nat.blt f (s.get (Obj.EM_TABLE_BANK_FIRST u) + s.get (Obj.EM_TABLE_BANK_COUNT u)) && Nat.blt (s.get (Obj.EM_TABLE_BANK_FIRST u)) (f + n)

/-- ENABLE of an exact-match table (R94, R104). -/
def ruleEmEnable (t v : Nat) (s : State) : Res :=
  if v = 0 then
    let s := s.commit (Obj.EM_TABLE_ENABLE t) 0
    (.ok, s.stopAger t)
  else if s.emOverlap t = true ∨ 615 < s.get (Obj.EM_TABLE_BANK_FIRST t) + s.get (Obj.EM_TABLE_BANK_COUNT t) ∨
      (s.get (Obj.EM_TABLE_KIND t) = 2 ∧ s.emWide t = true) then (.invalid, s)
  else
    let s := s.commit (Obj.EM_TABLE_ENABLE t) 1
    (.ok, s.setEmt t { s.emt t with lfsr := 0xACE1 })

/-- EM_TABLE_ENABLE. -/
def execEmTableEnable (table : Sys2Proof.EmTable) (master value : Nat) (s : State) : Out :=
  s.rowWrite master (Obj.EM_TABLE_ENABLE table) value (ruleEmEnable table value)

/-- Clears every entry of a table. -/
def State.emClear (s : State) (t : Nat) : State :=
  let s : State := (s.withTab { s.tab with em := Table.keep (fun k => !(Nat.beq (k / 2 ^ 24) t)) s.tab.em })
  ((s.set (Obj.EM_TABLE_ENTRIES t) 0).set (Obj.EM_TABLE_LOCKED t) 0).set (Obj.EM_TABLE_STATIC t) 0

/-- KIND and EVICT_MODE: BUSY while enabled (R104). -/
def ruleEmSetting (t key v : Nat) (s : State) : Res := if s.on (Obj.EM_TABLE_ENABLE t) then (.busy, s) else s.plain key v

/-- WIDTH, BANK_FIRST, BANK_COUNT, SEED1 and SEED2: BUSY while enabled, else every entry is cleared (R104). -/
def ruleEmGeometry (t key v : Nat) (s : State) : Res :=
  if s.on (Obj.EM_TABLE_ENABLE t) then (.busy, s) else (.ok, (s.commit key v).emClear t)

/-- EM_TABLE_GEOMETRY: subindex 3 + `field`: WIDTH, BANK_FIRST, BANK_COUNT, SEED1, SEED2. -/
def execEmTableGeometry (table : Sys2Proof.EmTable) (field : Fin 5) (master value : Nat) (s : State) : Out :=
  let key := objKey 0 (0x3310 + table.val) (3 + field.val)
  s.rowSlow master key value (ruleEmGeometry table key value)

end Sys2Proof.Machine
end

