-- ==== Sys2Proof/Machine/Tables.lean ====
section
/-! DEFINITION. The LPM store, the label table, the TCAM, and the scrubbers of the table memory (R84, R108 to R128, R588). -/

namespace Sys2Proof.Machine

/-- Status, return value and state of a job (R413). -/
abbrev JobRes := Status × Nat × State

/-- No route. -/
def noRoute (_ : Nat) : Option Nat := none
/-- Key of a route: family (4 or 6), VRF, length, prefix. -/
def routeKey (family vrf len pfx : Nat) : Nat := ((family * 4096 + vrf) * 256 + len) * 2 ^ 128 + pfx

/-- Address width of a family. -/
def famBits (family : Nat) : Nat := if family = 4 then 32 else 128
/-- Most routes of a family (R110). -/
def famTotal (family : Nat) : Nat := if family = 4 then 8388608 else 4194304
/-- Its count object. -/
def famCount (family : Nat) : Nat := if family = 4 then Obj.LPM_CTRL_V4_ROUTES else Obj.LPM_CTRL_V6_ROUTES
/-- Count field of a VRF. -/
def vrfCount (family : Nat) : Field := if family = 4 then Fld.VRF_V4_COUNT else Fld.VRF_V6_COUNT
/-- Limit field of a VRF. -/
def vrfLimit (family : Nat) : Field := if family = 4 then Fld.VRF_V4_LIMIT else Fld.VRF_V6_LIMIT
/-- FS sector that holds the family's first store bank (R589). -/
def famUnit (family : Nat) : Nat := uFS (if family = 4 then 718 / 192 else 1028 / 192)

/-- RESULT of a route. -/
def State.route (s : State) (family vrf len pfx : Nat) : Option Nat := Table.get noRoute s.tab.routes (routeKey family vrf len pfx)
/-- Sets or removes it. -/
def State.setRoute (s : State) (family vrf len pfx : Nat) (r : Option Nat) : State :=
  (s.withTab { s.tab with routes := Table.put noRoute s.tab.routes (routeKey family vrf len pfx) r })

/-- A prefix is legal: family, VRF and length in range and no 1 beyond its length (R108). -/
def routeOk (family vrf len pfx : Nat) : Bool :=
  (Nat.beq family 4 || Nat.beq family 6) && Nat.blt vrf 4096 && Nat.ble len (famBits family) &&
    Nat.blt pfx (2 ^ famBits family) && Nat.beq (pfx % 2 ^ (famBits family - len)) 0

/-- E-3105 when a family's count first reaches FULL_WARN percent of its total, again only after a fall of 5 points (R114). -/
def State.fullWarn (s : State) (family : Nat) : State :=
  let n := s.get (famCount family) * 100
  let warn := s.get Obj.LPM_CTRL_FULL_WARN
  let raised := if family = 4 then s.tab.fullV4 else s.tab.fullV6
  let mark := fun (s : State) (b : Bool) =>
    (s.withTab (if family = 4 then { s.tab with fullV4 := b } else { s.tab with fullV6 := b }))
  if raised = false ∧ famTotal family * warn ≤ n then (mark s true).raise 0x3105 (famUnit family) 0 family
  else if raised = true ∧ n ≤ famTotal family * (warn - 5) then mark s false
  else s

/-- Counts `add` routes and removes `sub` from a family and a VRF (R112, R114). -/
def State.routeCount (s : State) (family vrf add sub : Nat) : State :=
  let s := s.set (famCount family) (s.get (famCount family) + add - sub)
  let f := vrfCount family
  (s.commitDom Dom.VRF_TABLE vrf (f.set (s.dom Dom.VRF_TABLE vrf) (f.get (s.dom Dom.VRF_TABLE vrf) + add - sub))).fullWarn family

/-- A word may stand where a forwarding pointer does: [27:24] are 0 (R134). DEDUCED, log entry 135: a write that carries another is one
with a field out of range, and completes with status INVALID. -/
def ptrOk (w : Nat) : Bool := Nat.beq (bits w 24 4) 0

/-- Adds or updates a route (R108, R110, R111, R134): 1 when created. -/
def State.routeAdd (s : State) (family vrf len pfx result : Nat) : JobRes :=
  if routeOk family vrf len pfx = false ∨ ptrOk result = false then (.invalid, 0, s)
  else
    match s.route family vrf len pfx with
    | some _ =>
      let s := (s.setRoute family vrf len pfx (some result)).bump Obj.LPM_CTRL_UPDATES
      (.ok, 0, s.journal (.routeSet family len vrf result pfx))
    | none =>
      let limit := (vrfLimit family).get (s.dom Dom.VRF_TABLE vrf)
      if famTotal family ≤ s.get (famCount family) then (.full, 0, s)
      else if limit ≠ 0 ∧ limit ≤ (vrfCount family).get (s.dom Dom.VRF_TABLE vrf) then (.limit, 0, s)
      else
        let s := ((s.setRoute family vrf len pfx (some result)).routeCount family vrf 1 0).bump Obj.LPM_CTRL_UPDATES
        (.ok, 1, s.journal (.routeSet family len vrf result pfx))

/-- Removes a route (R111). -/
def State.routeDelete (s : State) (family vrf len pfx : Nat) : JobRes :=
  if routeOk family vrf len pfx = false then (.invalid, 0, s)
  else
    match s.route family vrf len pfx with
    | none => (.notFound, 0, s)
    | some _ =>
      let s := ((s.setRoute family vrf len pfx none).routeCount family vrf 0 1).bump Obj.LPM_CTRL_UPDATES
      (.ok, 0, s.journal (.routeDel family len vrf pfx))

/-- An address lies under a prefix. -/
def underPrefix (family pfx len addr : Nat) : Bool := Nat.beq (addr / 2 ^ (famBits family - len)) (pfx / 2 ^ (famBits family - len))

/-- Longest match (R109): RESULT and length. A search that reads a structure being removed misses (R128). -/
def State.routeMatch (s : State) (family vrf addr : Nat) : Option (Nat × Nat) :=
  if s.tab.lpmDamage.any fun d => Nat.beq d.family family && Nat.beq d.vrf vrf && underPrefix family d.pfx d.len addr then none
  else
    (List.range (famBits family + 1)).reverse.findSome? fun len =>
      let k := famBits family - len
      (s.route family vrf len (addr / 2 ^ k * 2 ^ k)).map fun r => (r, len)

/-- A parity error in an LPM structure is found (R127, R128): the routes it holds are removed as by deletes, and until LPM_LOSS ends the
removal the searches that read the structure miss. A route added in that span is a new one. -/
def State.lpmFound (s : State) (family vrf pfx len bank : Nat) (routes : List (Nat × Nat)) : State :=
  let r := routes.foldl (fun (a : State × Nat) x =>
    match a.1.route family vrf x.2 x.1 with
    | some _ => (((a.1.setRoute family vrf x.2 x.1 none).routeCount family vrf 0 1).journal (.routeDel family x.2 vrf x.1), a.2 + 1)
    | none => a) (s.parityFound bank, 0)
  r.1.withTab { r.1.tab with lpmDamage := r.1.tab.lpmDamage ++ [⟨family, vrf, pfx, len, r.2, bank⟩] }

/-- LPM_LOSS (R128, R588; E-3205 has one limit per address family, DESIGN CHOICE, log entry 177): the oldest removal in progress is complete: its routes are gone, the loss is recorded and E-3205
raised with the argument of R588. -/
def execLpmLoss (s : State) : Out :=
  s.inCore fun s =>
    match s.tab.lpmDamage with
    | [] => s
    | d :: l =>
      let s : State := (s.withTab { s.tab with lpmDamage := l })
      let s := s.bump Obj.LPM_CTRL_PARITY_LOSSES d.count
      let n := s.get Obj.LPM_CTRL_LOSS_NEXT
      let f := fun (f : Field) v (i : Nat) => f.set i v
      let image := f Fld.LL_VALID 1 (f Fld.LL_FAMILY d.family (f Fld.LL_LENGTH d.len (f Fld.LL_VRF d.vrf
        (f Fld.LL_COUNT d.count (f Fld.LL_LOSS_NUMBER n (f Fld.LL_PREFIX d.pfx 0))))))
      let s := (s.setDom Dom.LPM_LOSSES (n % 256) image).bumpW 32 Obj.LPM_CTRL_LOSS_NEXT
      s.raise 0x3205 (uBank d.bank)
        (d.family * 2 ^ 60 + d.len % 256 * 2 ^ 52 + d.vrf % 4096 * 2 ^ 40 + d.count % 2 ^ 24 * 2 ^ 16 + n % 256) d.family

/-- Writes a label entry; LABELS_VALID follows (R113, R114). -/
def State.labelPut (s : State) (l image : Nat) : State :=
  let old := bits (s.dom Dom.LABEL_TABLE l) 63 1
  let s := s.commitDom Dom.LABEL_TABLE l image
  s.set Obj.LPM_CTRL_LABELS_VALID (s.get Obj.LPM_CTRL_LABELS_VALID + bits image 63 1 - old)

/-- Check of a label entry: [39:32] are 0 (R135), and the pointer of a SWAP or a POP is one of R134; that of the other operations is
ignored. -/
def labelStatus (image : Nat) : Status := if bits image 32 8 = 0 ∧ (1 < bits image 60 3 ∨ ptrOk image = true) then .ok else .invalid

/-- Bank of a VRF entry (R84, log entry 132). -/
def vrfBank (e : Nat) : Nat := 1408 + (8388608 + 16 * e) / 163840

/-- Bank of a label entry (R84). DESIGN CHOICE, log entry 132: within its region the entries of a table follow one another without a gap in
ascending order of their index, and the labels come before the VRFs. -/
def labelBank (l : Nat) : Nat := 1408 + l * 8 / 163840

/-- A parity error in a label entry invalidates it (R128). -/
def State.labelParity (s : State) (l : Nat) : State :=
  ((s.parityFound (labelBank l)).labelPut l (s.dom Dom.LABEL_TABLE l % 2 ^ 63)).raise 0x3206 (uBank (labelBank l)) (packArg [(32, l)]) 0

/-- No TCAM entry. -/
def tcamEmpty (_ : Nat) : TcamEntry := {}

/-- Width of a bank in units. -/
def State.bankWidth (s : State) (b : Nat) : Nat := s.get (Obj.TCAM_BANKS_WIDTH_TB b)

/-- Positions of a TCAM table (R115). -/
def State.tcamPositions (s : State) (t : Nat) : Nat := s.get (Obj.TCAM_TABLE_BANK_COUNT t) * 4096 / s.tcamWidth t

/-- Address of a position (R115). -/
def State.tcamAddr (s : State) (t p : Nat) : Nat :=
  let e := 4096 / s.tcamWidth t
  4096 * (s.get (Obj.TCAM_TABLE_BANK_FIRST t) + p / e) + p % e * s.tcamWidth t

/-- An address lies in a table's banks. -/
def State.tcamIn (s : State) (t addr : Nat) : Bool :=
  Nat.ble (4096 * s.get (Obj.TCAM_TABLE_BANK_FIRST t)) addr &&
    Nat.blt addr (4096 * (s.get (Obj.TCAM_TABLE_BANK_FIRST t) + s.get (Obj.TCAM_TABLE_BANK_COUNT t)))

/-- Entry at an address. -/
def State.tcamAt (s : State) (addr : Nat) : TcamEntry := Table.get tcamEmpty s.tab.tcam addr

/-- Image of an entry as a number, byte 0 at the top (R125). -/
def tcamImage (e : TcamEntry) : Nat := e.value * 2 ^ 448 + e.mask * 2 ^ 128 + e.assoc * 2 ^ 64 + ofBool e.valid * 2 ^ 56

/-- Entry of an image. -/
def tcamOfImage (i : Nat) : TcamEntry := ⟨Nat.beq (bits i 56 8) 1, bits i 448 320, bits i 128 320, bits i 64 64⟩

/-- The enabled table that holds an address. -/
def State.tcamOwner (s : State) (addr : Nat) : Option Nat :=
  (List.range 4).find? fun t => s.on (Obj.TCAM_TABLE_ENABLE t) && s.tcamIn t addr

/-- The table by which the journal names an address: the enabled table that holds it, or else the first that does (R120, R473). -/
def State.tcamHolder (s : State) (addr : Nat) : Option Nat :=
  match s.tcamOwner addr with
  | some t => some t
  | none => (List.range 4).find? fun t => s.tcamIn t addr

/-- Position of an address in its table. -/
def State.tcamPos (s : State) (t addr : Nat) : Nat := (addr - 4096 * s.get (Obj.TCAM_TABLE_BANK_FIRST t)) / s.tcamWidth t

/-- Keeps what the searches of this instant still see (R12). -/
def State.tcamKeep (s : State) : State :=
  if s.tab.tcamOld.any (fun x => Nat.beq x.1 s.time.now) then s
  else s.withTab { s.tab with tcamOld := some (s.time.now, s.tab.tcam, s.tab.assocBad) }

/-- The entries and the damaged associated data that a search sees: a write in the same clock is not among them (R12, R118). -/
def State.tcamSeen (s : State) : Table TcamEntry × List Nat :=
  match s.tab.tcamOld with
  | some x => if x.1 = s.time.now then x.2 else (s.tab.tcam, s.tab.assocBad)
  | none => (s.tab.tcam, s.tab.assocBad)

/-- The associated data of an address are written anew. -/
def State.assocWritten (s : State) (addr : Nat) : State :=
  let s := s.tcamKeep
  s.withTab { s.tab with assocBad := s.tab.assocBad.filter (· != addr) }

/-- Writes an entry: shadow, associated data and every replica change together (R118). -/
def State.tcamPut (s : State) (addr : Nat) (e : TcamEntry) : State :=
  let s := s.tcamKeep
  let s : State := (s.withTab { s.tab with tcam := Table.put tcamEmpty s.tab.tcam addr e })
  match s.tcamHolder addr with
  | some t => s.journal (.tcamSet t (s.tcamPos t addr) (tcamImage e))
  | none => s

/-- Bank of associated data (R84). -/
def assocBank (addr : Nat) : Nat := 1468 + addr * 8 / 163840
/-- Bank of a shadow unit. -/
def shadowBank (u : Nat) : Nat := 1460 + u * 20 / 163840

/-- Valid entries of a table (VALID_COUNT). -/
def State.tcamValid (s : State) (t : Nat) : Nat := (s.tab.tcam.filter fun x => s.tcamIn t x.1 && x.2.valid).length

/-- The first unit of the entry that a unit belongs to. -/
def State.tcamFirst (s : State) (u : Nat) : Nat := u - u % s.bankWidth (u / 4096)

/-- A shadow unit is read with a parity error (R120): five of the eight replicas that agree restore it, and with fewer its entry is
invalidated everywhere. -/
def State.shadowParity (s : State) (u agree : Nat) : State :=
  let s := s.parityFound (shadowBank u)
  if 5 ≤ agree then s.bump Obj.TCAM_SCRUB_SHADOW_RECOVERED
  else
    let a := s.tcamFirst u
    ((s.tcamPut a { s.tcamAt a with valid := false }).bump Obj.TCAM_SCRUB_SHADOW_LOST).raise 0x3207 (uBank (shadowBank u)) 0 0

/-- Associated data are read with a parity error (R120, R127). -/
def State.assocParity (s : State) (a : Nat) : State := (s.parityFound (assocBank a)).raise 0x3208 (uBank (assocBank a)) 0 0

/-- A TCAM search (R117): the associated data of the match of lowest address. -/
def State.tcamSearch (s : State) (t key absent : Nat) : Option Nat × State :=
  if s.on (Obj.TCAM_TABLE_ENABLE t) then
    let s := s.bump (Obj.TCAM_TABLE_SEARCHES t)
    match s.tcamSeen.1.find? fun x => s.tcamIn t x.1 && x.2.valid &&
        Nat.beq (Nat.land (Nat.xor key x.2.value) x.2.mask) 0 && Nat.beq (Nat.land absent x.2.mask) 0 with
    | some (a, e) =>
      if s.tcamSeen.2.contains a then
        (none, s.assocParity a)
      else (some e.assoc, s.bump (Obj.TCAM_TABLE_HITS t))
    | none => (none, s)
  else (none, s)

/-- An image a TCAM_WRITE may carry (R72, R125, R134, R136). -/
def tcamImageOk (width image : Nat) : Bool :=
  let unused := 320 - 80 * width
  Nat.beq (bits image 448 unused) 0 && Nat.beq (bits image 128 unused) 0 && Nat.ble (bits image 56 8) 1 &&
    Nat.beq (bits image 0 56) 0 && Nat.beq (bits image 92 4) 0 && actionOk (bits image 64 28) && ptrOk (bits image 96 32)

/-- TCAM_WRITE (R118, R124). -/
def State.tcamWrite (s : State) (t pos image : Nat) : JobRes :=
  if s.on (Obj.TCAM_TABLE_ENABLE t) = false ∨ s.tcamPositions t ≤ pos ∨ tcamImageOk (s.tcamWidth t) image = false then (.invalid, 0, s)
  else
    let a := s.tcamAddr t pos
    (.ok, 0, (s.assocWritten a).tcamPut a (tcamOfImage image))

/-- TCAM_INVALIDATE (R126): VALID alone changes (log entry 12). -/
def State.tcamInvalidate (s : State) (t pos : Nat) : JobRes :=
  if s.on (Obj.TCAM_TABLE_ENABLE t) = false ∨ s.tcamPositions t ≤ pos then (.invalid, 0, s)
  else
    let a := s.tcamAddr t pos
    if (s.tcamAt a).valid then (.ok, 0, s.tcamPut a { s.tcamAt a with valid := false }) else (.notFound, 0, s)

/-- One copy of a move. Damaged associated data are reported as they are read and damaged in the copy: R120 keeps the entry until
TCAM_WRITE rewrites it. -/
def State.tcamCopy (s : State) (src dst : Nat) : State :=
  let bad := s.tab.assocBad.contains src
  let s := (if bad then s.assocParity src else s).assocWritten dst
  let s : State := if bad then s.withTab { s.tab with assocBad := dst :: s.tab.assocBad } else s
  (s.tcamPut dst (s.tcamAt src)).bump Obj.TCAM_SCRUB_MOVED_ENTRIES

/-- TCAM_MOVE (R121, R122). -/
def State.tcamMove (s : State) (t src dst count : Nat) : JobRes :=
  let n := s.tcamPositions t
  if s.on (Obj.TCAM_TABLE_ENABLE t) = false ∨ count = 0 ∨ 4096 < count ∨ n < src + count ∨ n < dst + count then (.invalid, 0, s)
  else
    let inSrc := fun (p : Nat) => Nat.ble src p && Nat.blt p (src + count)
    let inDst := fun (p : Nat) => Nat.ble dst p && Nat.blt p (dst + count)
    if ((List.range count).any fun k => !inSrc (dst + k) && (s.tcamAt (s.tcamAddr t (dst + k))).valid) then (.occupied, 0, s)
    else
      let order := if src < dst then (List.range count).reverse else List.range count
      let s := forEach order s fun s k => s.tcamCopy (s.tcamAddr t (src + k)) (s.tcamAddr t (dst + k))
      (.ok, 0, forEach (List.range count) s fun s k =>
        if inDst (src + k) then s
        else s.tcamPut (s.tcamAddr t (src + k)) { s.tcamAt (s.tcamAddr t (src + k)) with valid := false })

/-- TCAM_SCRUB (R119, R120): the next unit of each replica is compared with the shadow. `differ` names the sectors whose replica
differs, `shadowBad` a parity error in the shadow unit, `agree` how many replicas agree. DESIGN CHOICE, log entry 133: E-3104 is limited to
one record a millisecond for the TCAM as a whole. -/
def execTcamScrub (differ : List (Fin 8)) (shadowBad : Bool) (agree : Nat) (s : State) : Out :=
  s.inCore fun s =>
    let u := s.tab.tcamScrub
    let s : State := (s.withTab { s.tab with tcamScrub := (u + 1) % 65536 })
    let s :=
      if shadowBad then s.shadowParity u agree else s
    forEach differ s fun s n => (s.bump Obj.TCAM_SCRUB_REPLICA_FIXES).raise 0x3104 (unitId 0 n 24 (u / 4096)) 0 0

/-- A write of 1 to a TCAM table's ENABLE is refused (R116, R123). -/
def State.tcamBad (s : State) (t : Nat) : Bool :=
  let f := s.get (Obj.TCAM_TABLE_BANK_FIRST t)
  let n := s.get (Obj.TCAM_TABLE_BANK_COUNT t)
  Nat.blt 16 (f + n) || ((List.range n).any fun k => !(Nat.beq (s.bankWidth (f + k)) (s.bankWidth f))) ||
  ((List.range 4).any fun u => !(Nat.beq u t) && s.on (Obj.TCAM_TABLE_ENABLE u) &&
    Nat.blt f (s.get (Obj.TCAM_TABLE_BANK_FIRST u) + s.get (Obj.TCAM_TABLE_BANK_COUNT u)) && Nat.blt (s.get (Obj.TCAM_TABLE_BANK_FIRST u)) (f + n)) ||
  Nat.blt (80 * s.bankWidth f) (profileWidth (s.profile (s.get (Obj.TCAM_TABLE_KEY_PROFILE t))))

/-- ENABLE of a TCAM table. -/
def ruleTcamEnable (t v : Nat) (s : State) : Res :=
  if v = 1 ∧ s.tcamBad t = true then (.invalid, s) else s.plain (Obj.TCAM_TABLE_ENABLE t) v

/-- TCAM_TABLE_ENABLE. -/
def execTcamTableEnable (table : Fin 4) (master value : Nat) (s : State) : Out :=
  s.rowWrite master (Obj.TCAM_TABLE_ENABLE table) value (ruleTcamEnable table value)

/-- BANK_FIRST, BANK_COUNT and KEY_PROFILE: BUSY while the table is enabled (R123). -/
def ruleTcamSetting (t key v : Nat) (s : State) : Res := if s.on (Obj.TCAM_TABLE_ENABLE t) then (.busy, s) else s.plain key v

/-- Width of a bank (R123): BUSY while an enabled table holds it, else the bank's entries are cleared. -/
def ruleTcamWidth (b v : Nat) (s : State) : Res :=
  if (s.tcamOwner (4096 * b)).isSome then (.busy, s)
  else
    let s := s.commit (Obj.TCAM_BANKS_WIDTH_TB b) v
    (.ok, (s.withTab { s.tab with
      tcam := Table.keep (fun a => !(Nat.beq (a / 4096) b)) s.tab.tcam
      assocBad := s.tab.assocBad.filter fun a => !(Nat.beq (a / 4096) b) }))

/-- TCAM_BANK_WIDTH. -/
def execTcamBankWidth (bank : Fin 16) (master value : Nat) (s : State) : Out :=
  s.rowWrite master (Obj.TCAM_BANKS_WIDTH_TB bank) value (ruleTcamWidth bank value)

/-- The resolution tables: 0x7340 to 0x7349. -/
def isResolution (d : Nat) : Bool := Nat.ble Dom.NEXT_HOPS d && Nat.ble d Dom.SID_LISTS

/-- A read meets a parity error. Damage that leaves its entry in place is marked and reported by the searches that read it;
with `scrub` the finder is the scrubber, which reports it as they do (R80, R127, R128, R156). DESIGN CHOICE, log entry 134: an entry of
VRF_TABLE, for which R128 has no row, is reported as a classifier entry is. -/
def State.upset (s : State) (scrub : Bool) (u : Upset) : State :=
  match u with
  | .em t i key result keyBad => s.emParity t i key result keyBad
  | .lpm family vrf pfx len bank routes => s.lpmFound family vrf pfx len bank routes
  | .label l => s.labelParity l
  | .entry d e bank =>
    let k := domKey d e
    if isResolution d then
      if s.isDamaged k then s
      else ((s.damage k).parityFound bank).raise 0x3209 (uBank bank) (packArg [(16, d), (32, e)]) d
    else if d = Dom.VRF_TABLE then (s.damage k).classParity d e (vrfBank e)
    else
      let s := s.damage k
      if scrub then s.classParity d e bank else s
  | .profile n => s.damage (Obj.KEY_PROFILE_SLOTS_LO n)
  | .assoc a =>
    let s : State := (s.withTab { s.tab with assocBad := if s.tab.assocBad.contains a then s.tab.assocBad else a :: s.tab.assocBad })
    if scrub then s.assocParity a else s
  | .shadow u agree => s.shadowParity u agree

/-- Bytes `off` to `off + n - 1` of a region that begins at a bank meet a row of a bank. -/
def bytesIn (first off n bank row : Nat) : Bool :=
  let r := (bank - first) * 2560 + row
  Nat.ble first bank && Nat.ble (off / 64) r && Nat.ble r ((off + n - 1) / 64)

/-- A parity error lies in a row of the table memory (R84, R90, R127): an LPM structure and an entry of the resolution tables
in the bank that is read, since the spec gives no place within it; the parse graph and the key profiles lie in none. -/
def State.upsetIn (s : State) (bank row : Nat) (u : Upset) : Bool :=
  match u with
  | .em t i _ _ _ =>
    if s.emWide t then bytesIn (103 + s.get (Obj.EM_TABLE_BANK_FIRST t)) (i / 4 * 128) 128 bank row
    else bytesIn (103 + s.get (Obj.EM_TABLE_BANK_FIRST t)) (i / 4 * 64) 64 bank row
  | .lpm _ _ _ _ b _ => Nat.beq b bank
  | .label l => bytesIn 1408 (8 * l) 8 bank row
  | .entry d e b =>
    if d = Dom.CLASS_NODES then bytesIn 0 (16 * e) 16 bank row
    else if d = Dom.CLASS_RULES then bytesIn 26 (96 * e) 96 bank row
    else if d = Dom.VRF_TABLE then bytesIn 1408 (8388608 + 16 * e) 16 bank row
    else isResolution d && Nat.beq b bank
  | .profile _ => false
  | .assoc a => bytesIn 1468 (8 * a) 8 bank row
  | .shadow x _ => bytesIn 1460 (20 * x) 20 bank row

/-- Damage that stays in a row until it is rewritten: every read of the row finds it again (R80, R120). -/
def State.rowDamage (s : State) (bank row : Nat) : List Upset :=
  ((s.parse.damaged.filterMap fun k =>
    if domOf k = Dom.CLASS_NODES then some (Upset.entry Dom.CLASS_NODES (entryOf k) (nodeBank (entryOf k)))
    else if domOf k = Dom.CLASS_RULES then some (Upset.entry Dom.CLASS_RULES (entryOf k) (ruleBank (entryOf k)))
    else if domOf k = Dom.VRF_TABLE then some (Upset.entry Dom.VRF_TABLE (entryOf k) (vrfBank (entryOf k)))
    else none) ++ s.tab.assocBad.map Upset.assoc).filter (s.upsetIn bank row)

/-- Rows of the table memory. -/
abbrev tableRows : Nat := 3932160

/-- The scrubber's next row is due (R127): the rows of a pass follow at an even pace. -/
def State.scrubDue (s : State) : Bool :=
  match s.tab.scrubStart with
  | some t => Nat.ble (t * tableRows + (s.tab.scrubBank * 2560 + s.tab.scrubRow) * s.tab.scrubMs * ms) (s.time.now * tableRows)
  | none => false

/-- The first pass begins, unless one runs: the table memory has been zeroed (R127, R536). -/
def State.scrubBegin (s : State) : State :=
  if s.tab.scrubStart.isSome then s
  else s.withTab { s.tab with scrubStart := some s.time.now, scrubMs := s.get Obj.TABLE_MEMORY_SCRUB_PERIOD }

/-- The scrubber goes on to the next row; the next pass follows back to back, with SCRUB_PERIOD as it stands at its start. -/
def State.scrubNext (s : State) : State :=
  s.withTab (
    if s.tab.scrubRow + 1 < 2560 then { s.tab with scrubRow := s.tab.scrubRow + 1 }
    else if s.tab.scrubBank + 1 < 1536 then { s.tab with scrubRow := 0, scrubBank := s.tab.scrubBank + 1 }
    else { s.tab with
      scrubRow := 0, scrubBank := 0
      scrubStart := s.tab.scrubStart.map (· + s.tab.scrubMs * ms)
      scrubMs := s.get Obj.TABLE_MEMORY_SCRUB_PERIOD })

/-- SCRUB_ROW (R127): the next row of the table memory, when it is due. `upsets` are the errors it holds that no read has found yet;
damage that a read has found and nothing has rewritten is found again. -/
def execScrubRow (upsets : List Upset) (s : State) : Out :=
  s.inCore fun s =>
    if s.scrubDue = false then s
    else
      let bank := s.tab.scrubBank
      let row := s.tab.scrubRow
      let old := s.rowDamage bank row
      let new := upsets.filter fun u => s.upsetIn bank row u && !old.contains u
      forEach (old ++ new) s.scrubNext fun s u => s.upset true u

end Sys2Proof.Machine
end

