-- ==== Sys2Proof/Machine/Resolve.lean ====
section
/-! DEFINITION. Resolution: lookup profiles, forwarding pointers, ECMP and LAG, destinations, replication, pipeline pools and meters
(R130 to R149, R155 to R157, R180, R225, R233 to R239, R249). -/

namespace Sys2Proof.Machine

/-- Scheduler ports HP, MP, RC, XC (R142). -/
abbrev portHP : Nat := 128
/-- MP. -/
abbrev portMP : Nat := 129
/-- RC. -/
abbrev portRC : Nat := 130
/-- XC. -/
abbrev portXC : Nat := 131

/-- Reads an entry of a resolution table; a damaged one drops the packet (R156). -/
def State.resEntry (s : State) (d e : Nat) : Option Nat × State :=
  if s.isDamaged (domKey d e) then (none, s.bump Obj.RESOLUTION_PARITY_DROPS) else (some (s.dom d e), s)

/-- Queue q hangs under scheduler port p (R187). -/
def State.hangsUnder (s : State) (q p : Nat) : Bool :=
  let u := s.dom Dom.USERS (q / 4)
  let g := s.dom Dom.GROUPS (Fld.USR_GROUP.get u)
  Nat.beq (Fld.USR_VALID.get u) 1 && Nat.beq (Fld.GRP_VALID.get g) 1 && Nat.beq (Fld.GRP_PORT.get g) p

/-- A packet dropped on the F die: a waiting job learns of it (R405). -/
def State.dropPacket (s : State) (p : Pkt) : State := s.txReport p none

/-- An edit error (R134, R153). -/
def State.editError (s : State) (sector : Nat) : State := (s.bump Obj.RESOLUTION_EDIT_ERRORS).raise 0x3210 (uFS sector) 0

/-- The packet's own LOCATION (R131). -/
def State.ownLocation (s : State) (inPort : Nat) : Nat :=
  let lag := s.get (Obj.PORT_LOOKUP_SRC_LAG inPort)
  if lag = 0xFFFF then inPort else 0x4000 + lag

/-- Eligible members of a LAG group with entry `e`, in member order (R141): none where the group is not VALID. The device keeps the set up
as links go down and up, so a packet reads the entry of the member it picks and no other (DEDUCED, log entry 137). -/
def State.lagEligible (s : State) (g e : Nat) : List Nat :=
  if Fld.LAG_VALID.get e = 0 then []
  else ((List.range (Fld.LAG_COUNT.get e)).map fun k => 64 * g + k).filter fun m =>
    let l := Fld.LGM_LOCATION.get (s.dom Dom.LAG_MEMBERS m)
    Nat.beq (Fld.LAG_AUTO_PRUNE.get e) 0 || Nat.beq (l / 2 ^ 14) 2 ||
      (Nat.beq (l / 2 ^ 14) 0 && Nat.beq (s.get (Obj.LINE_PORT_LINK_STATE (l % 128))) 1)

/-- Replaces a LAG LOCATION by the member the hash picks (R141); none when the packet is dropped. -/
def State.lagMember (s : State) (loc hash : Nat) : Option Nat × State :=
  if loc / 2 ^ 14 = 1 then
    let g := loc % 256
    match s.resEntry Dom.LAG_GROUPS g with
    | (none, s) => (none, s)
    | (some e, s) =>
      let ok := s.lagEligible g e
      match ok[hash % 2 ^ 32 * ok.length / 2 ^ 32]? with
      | none => (none, s.bump Obj.RESOLUTION_LAG_EMPTY)
      | some m => match s.resEntry Dom.LAG_MEMBERS m with
        | (none, s) => (none, s)
        | (some x, s) => (some (Fld.LGM_LOCATION.get x), s)
  else (some loc, s)

/-- A queue selector meets a local scheduler port (R143): it stays where its queue hangs under the port, and is discarded and counted
elsewhere. `unit` is the sector that reports it: on the fabric's egress side the FS sector of the port (DESIGN CHOICE, log entry 138). -/
def State.selectorAt (s : State) (unit : Nat) (p : Pkt) (port : Nat) : Pkt × State :=
  match p.qsel with
  | none => (p, s)
  | some q =>
    if s.hangsUnder q port then (p, s)
    else ({ p with qsel := none }, (s.bump Obj.RESOLUTION_SELECTOR_MISMATCH).raise 0x3108 unit 0)

/-- Sends a packet to a LOCATION (R142, R143). `copy`: it is a multicast copy, whose selector is discarded. -/
def State.toLocation (s : State) (sector : Nat) (copy : Bool) (p : Pkt) (loc : Nat) : Option Pkt × State :=
  match s.lagMember loc p.lagHash with
  | (none, s) => (none, s)
  | (some loc, s) =>
    if loc / 2 ^ 14 = 0 then
      let port := loc % 128
      let (p, s) := s.selectorAt (uFS sector) { p with qsel := if copy then none else p.qsel } port
      (some { p with dest := port, voq := false }, s)
    else if loc / 2 ^ 14 = 2 then
      let d := bits loc 6 8
      if d = s.get Obj.FABRIC_CTRL_DEVICE_ID then (none, s.bump Obj.RESOLUTION_SELF_DEST)
      else (some { p with dest := (64 * d + loc % 64) * 8 + p.cls, voq := true, qsel := if copy then none else p.qsel }, s)
    else (none, s.editError sector)

/-- Resolves a next hop (R139). -/
def State.toNextHop (s : State) (sector : Nat) (copy : Bool) (p : Pkt) (n : Nat) : Option Pkt × State :=
  if 262144 ≤ n then (none, s.bump Obj.RESOLUTION_DROPPED)
  else match s.resEntry Dom.NEXT_HOPS n with
    | (none, s) => (none, s)
    | (some e, s) =>
      if Fld.NH_VALID.get e = 0 then (none, s.bump Obj.RESOLUTION_DROPPED)
      else s.toLocation sector copy { p with edit := .nextHop n } (Fld.NH_LOCATION.get e)

/-- Sends a packet to the host with a trap code (R134, R142). -/
def toHost (p : Pkt) (code : Nat) : Pkt := { p with dest := portHP, voq := false, qsel := none, trap := code, edit := .none }

/-- What resolution makes of a packet. -/
inductive Resolved where
  | drop
  | to (p : Pkt)
  /-- A multicast packet with the first copy and count of its group. -/
  | mcast (p : Pkt) (first count : Nat)
deriving DecidableEq, Repr

/-- Unicast result. -/
def Resolved.ofOption (r : Option Pkt × State) : Resolved × State :=
  match r with
  | (some p, s) => (.to p, s)
  | (none, s) => (.drop, s)

/-- Follows a forwarding pointer (R134, R140, R144). An index beyond its table is dropped and counted in DROPPED (log entry 13). DESIGN
CHOICE, log entry 139: a pointer of type NONE that is left at the end, which only MISS_PTR can be, and a multicast group with VALID 0 drop
the packet and count it in DROPPED. -/
def State.follow (s : State) (sector : Nat) (p : Pkt) (ptr : Nat) : Resolved × State :=
  let index := ptr % 2 ^ 24
  match ptr / 2 ^ 28 with
  | 0 => (.drop, s.bump Obj.RESOLUTION_DROPPED)
  | 1 => Resolved.ofOption (s.toNextHop sector false p index)
  | 2 =>
    if 65536 ≤ index then (.drop, s.bump Obj.RESOLUTION_DROPPED)
    else match s.resEntry Dom.ECMP_GROUPS index with
      | (none, s) => (.drop, s)
      | (some e, s) =>
        if Fld.ECG_VALID.get e = 0 then (.drop, s.bump Obj.RESOLUTION_DROPPED)
        else
          match s.resEntry Dom.ECMP_MEMBERS (Fld.ECG_BASE.get e + p.entropy % 2 ^ 32 * Fld.ECG_SIZE.get e / 2 ^ 32) with
          | (none, s) => (.drop, s)
          | (some m, s) => Resolved.ofOption (s.toNextHop sector false p (Fld.ECM_NEXT_HOP.get m))
  | 3 =>
    if 16384 ≤ index then (.drop, s.bump Obj.RESOLUTION_DROPPED)
    else match s.resEntry Dom.MC_GROUPS index with
      | (none, s) => (.drop, s)
      | (some e, s) =>
        if Fld.MCG_VALID.get e = 0 then (.drop, s.bump Obj.RESOLUTION_DROPPED)
        else (.mcast { p with qsel := none } (Fld.MCG_FIRST.get e) (Fld.MCG_COUNT.get e), s)
  | 4 => (.to (toHost p (index % 256)), s.bump Obj.RESOLUTION_TRAPPED)
  | 5 => (.drop, s.bump Obj.RESOLUTION_DROPPED)
  | 6 => Resolved.ofOption (s.toLocation sector false { p with edit := .bridge (s.get (Obj.PORT_LOOKUP_BRIDGE_TEMPLATE p.inPort)) } (index % 65536))
  | _ => (.drop, s.editError sector)

/-- Forwarding domain of a packet (R130). -/
def State.fwdDomain (s : State) (port : Nat) (q : Parsed) : Nat :=
  if s.on (Obj.PORT_LOOKUP_FD_FROM_VID port) = true ∧ q.has 5 = true then q.field 5 else s.get (Obj.PORT_LOOKUP_FWD_DOMAIN port)

/-- One exact-match search of a profile (R88, R101, R132): purpose and RESULT of a hit. A field that is absent, or wider than
the table's key, makes no hit. -/
def State.emSlot (s : State) (port : Nat) (q : Parsed) (w : Nat) : Option (Nat × Nat) × State :=
  if w.testBit 31 then
    let t := bits w 24 4
    let purpose := bits w 8 2
    let wide := s.emWide t
    let key : Option Nat :=
      if purpose = 1 then (if q.has 14 = true ∧ wide = true then some (q.field 34 * 2 ^ 128 + q.field 14) else none)
      else if purpose = 0 then
        (if q.has (bits w 16 8) = true ∧ fieldWidth (bits w 16 8) ≤ (if wide then 160 else 64) then some (q.field (bits w 16 8)) else none)
      else
        let m := if purpose = 2 then 2 else 3
        if q.has m then some (s.fwdDomain port q * 2 ^ 48 + q.field m) else none
    match key with
    | none => (none, s)
    | some k =>
      let (hit, s) := s.emSearch t k
      let learns : Bool := Nat.beq purpose 3 && Nat.blt port 128 && Nat.beq (s.get (Obj.EM_TABLE_KIND t)) 2 &&
        s.on (Obj.EM_TABLE_LEARN_ENABLE t) && s.on (Obj.EM_TABLE_ENABLE t)
      let loc := s.ownLocation port
      match hit with
      | some (_, e) =>
        let s := if learns && !(Nat.beq (e.result % 65536) loc) then s.learnRequest t k loc else s
        (some (purpose, e.result), s)
      | none => (none, if learns then s.learnRequest t k loc else s)
  else (none, s)

/-- The user search of a USER_KEY selector (R74, R75): the queue it selects. -/
def State.userSearch (s : State) (value : Nat) (q : Parsed) : Option Nat × State :=
  let u := value % 16
  let qfi := q.field 22
  let m := s.get (Obj.USER_KEY_QFI_MAP_LO u) + s.get (Obj.USER_KEY_QFI_MAP_HI u) * 2 ^ 64
  let bearer := if value.testBit 6 = true ∧ q.has 22 = true then bits m (2 * qfi) 2 else bits value 4 2
  let f := s.get (Obj.USER_KEY_KEY_FIELD u)
  let t := s.get (Obj.USER_KEY_TABLE u)
  if q.has f = true ∧ fieldWidth f ≤ (if s.emWide t then 160 else 64) then
    match s.emSearch t (q.field f) with
    | (some (_, e), s) => (some (4 * (e.result % 2 ^ 17) + bearer), s)
    | (none, s) => (none, s.bump (Obj.USER_KEY_MISSES u))
  else (none, s.bump (Obj.USER_KEY_MISSES u))

/-- State of the combination of R137. -/
structure Combine where
  fwd : Nat := 0
  routed : Bool := false
  /-- The label entry behind `fwd`. -/
  label : Option Nat := none
deriving DecidableEq, Repr

/-- Lookups and combination (R85, R132, R133, R137), then the pointer is followed. The label operation of R135 is made only where the pointer
followed is the label entry's own (DESIGN CHOICE, log entry 179). -/
def State.lookups (s : State) (sector : Nat) (p : Pkt) (q : Parsed) (a : Actions) (labelTtl : Nat) : Resolved × State :=
  let prof := s.get (Obj.PORT_LOOKUP_LOOKUP_PROFILE p.inPort)
  -- exact match: slots 0 to 3, the user search in slot 3 (R133)
  let slots := if a.mode = 2 then [0, 1, 2] else [0, 1, 2, 3]
  let em := slots.foldl (fun (r : Option (Nat × Nat) × State) k =>
    let (hit, s) := r.2.emSlot p.inPort q (r.2.get (Obj.LOOKUP_PROFILE_EM prof k))
    (match r.1, hit with
      | none, some (pu, v) => if pu = 3 then none else some (pu, v)
      | x, _ => x, s)) (none, s)
  let s := em.2
  let (qsel, s) := if a.mode = 2 then s.userSearch a.value q else if a.mode = 1 then (some a.value, s) else (none, s)
  -- one LPM or label search
  let mode := s.get (Obj.LOOKUP_PROFILE_LPM_MODE prof)
  let byLabel : Bool := Nat.beq mode 3 || (Nat.beq mode 2 && Nat.ble 1 (q.field 11))
  let c : Combine :=
    if byLabel then
      if q.has 8 then
        let e := s.dom Dom.LABEL_TABLE (q.field 8)
        if Fld.LBL_VALID.get e = 1 ∧ bits e 60 3 ≤ 2 then { fwd := e % 2 ^ 32, routed := true, label := some e } else {}
      else {}
    else if mode ≠ 0 ∧ mode ≠ 3 ∧ q.has 14 = true then
      match s.routeMatch (q.field 12) (q.field 34) (q.field 14) with
      | some (r, _) => { fwd := r, routed := true }
      | none => {}
    else {}
  let c := match em.1 with
    | some (pu, v) => { fwd := if pu = 2 then 6 * 2 ^ 28 + v % 65536 else v, routed := Nat.beq pu 1 }
    | none => c
  -- one TCAM search
  let t := s.get (Obj.LOOKUP_PROFILE_TCAM_TABLE prof)
  let r : Combine × Actions × Option Nat × State :=
    if t = 0xFF then (c, a, qsel, s)
    else
      let kp := s.get (Obj.TCAM_TABLE_KEY_PROFILE t)
      if s.isDamaged (Obj.KEY_PROFILE_SLOTS_LO kp) then
        (c, a, qsel, s.raise 0x3202 (uFS sector) (packArg [(16, kp)]) 0x3200)
      else
        let (key, absent) := buildKey (s.profile kp) q
        match s.tcamSearch t key absent with
        | (none, s) => (c, a, qsel, s)
        | (some x, s) =>
          let w := x % 2 ^ 28
          let a := a.apply w
          let qsel := if Fld.ACT_QSEL_MODE.get w = 0 then qsel else if Fld.ACT_QSEL_MODE.get w = 1 then some (Fld.ACT_QSEL_VALUE.get w) else none
          (if x / 2 ^ 60 = 0 then c else { fwd := x / 2 ^ 32 }, a, qsel, s)
  let (c, a, qsel, s) := r
  let popVrf : Bool := match c.label with | some e => Nat.beq (bits e 60 3) 2 | none => false
  let ttl := match c.label with | some _ => labelTtl | none => q.field 18
  let p := { p with cls := a.cls, colour := a.colour, qsel := qsel }
  if c.routed = true ∧ s.on (Obj.LOOKUP_PROFILE_TTL_CHECK prof) = true ∧ ttl ≤ 1 then
    (.to (toHost p 1), s.bump Obj.RESOLUTION_TRAPPED)
  else match c.label with
    | some e =>
      if popVrf then
        let (p, s) := s.selectorAt (uFS sector) p portRC
        (.to { p with dest := portRC, voq := false, labelOp := 2, recircVrf := some (e % 4096), edit := .none }, s)
      else if c.fwd / 2 ^ 28 = 0 then s.follow sector p (s.get (Obj.LOOKUP_PROFILE_MISS_PTR prof))
      else s.follow sector { p with labelOp := bits e 60 3 + 1, newLabel := bits e 40 20 } c.fwd
    | none => s.follow sector p (if c.fwd / 2 ^ 28 = 0 then s.get (Obj.LOOKUP_PROFILE_MISS_PTR prof) else c.fwd)

/-- Units of a frame of L bytes (R159). -/
def unitsOf (len : Nat) : Nat := ceilDiv (len + 32) 256

/-- A frame may cut through to its port (R180). -/
def State.mayCutThrough (s : State) (p : Pkt) : Bool :=
  Nat.blt p.inPort 128 && !p.voq && Nat.blt p.dest 128 && Nat.beq (s.get (Obj.BUFFER_REGION_MODE 0)) 0 &&
  (if p.dest < 64 then (s.get Obj.BUFFER_CTRL_CT_PORTS_LO).testBit p.dest else (s.get Obj.BUFFER_CTRL_CT_PORTS_HI).testBit (p.dest - 64)) &&
  Nat.ble (s.get (Obj.LINE_PORT_PORT_SPEED p.dest)) (s.get (Obj.LINE_PORT_PORT_SPEED p.inPort)) && s.net.idleMap.contains p.dest

/-- The first unit of a packet crosses the die-to-die link (R149). A stored frame whose FCS has proved bad is discarded on the F
die (R272); while the link is down or the T die in reset every unit is discarded (R559, R530). -/
def State.cross (s : State) (p : Pkt) (cut : Bool) : State :=
  let cut : Bool := cut && s.mayCutThrough p
  if s.ev.d2dFailed = true ∨ s.boot.resets.contains 33 = true then s.dropPacket p
  else if p.fcsBad = true ∧ cut = false then s.dropPacket p
  else (s.withNet { s.net with toAdmit := s.net.toAdmit ++ [{ p with known := !cut }] })

/-- No packet queue. -/
def noList {α : Type} (_ : Nat) : List α := []

/-- Queues a multicast packet at its sector's replication engine (R146). -/
def State.toReplicate (s : State) (sector : Nat) (p : Pkt) (first count : Nat) : State :=
  let q := Table.get noList s.net.mc sector
  if p.fcsBad then s.dropPacket p
  else if 1024 ≤ q.length then ((s.dropPacket p).bump Obj.RESOLUTION_MC_DROPS).raise 0x3107 (uFS sector) 0
  else (s.withNet { s.net with mc := Table.put noList s.net.mc sector (q ++ [⟨p, first, count⟩]) })

/-- Meter that a resolved packet meets (R233). -/
def State.meterOf (s : State) (p : Pkt) : Option Nat :=
  match s.get (Obj.PORT_METER_METER_MODE p.inPort) with
  | 0 => none
  | 2 => match p.qsel with
    | some q => some (s.get (Obj.PORT_METER_USER_BASE p.inPort) + q / 4)
    | none => some (s.get (Obj.PORT_METER_CLASS_BASE p.inPort) + p.cls)
  | _ => some (s.get (Obj.PORT_METER_CLASS_BASE p.inPort) + p.cls)

/-- CLK_PIPE cycle (1.25 GHz) of an elapsed instant (R576). -/
def pipeCycle (now : Nat) : Nat := now * 5 / 4

/-- The packet that is metered next, and its place among those that wait: that of the earliest cycle, and within it of the lowest ingress
pipeline (R234). -/
def meterTurn (l : List Metered) : Option (Metered × Nat) :=
  let before := fun (x y : Metered) => Nat.blt x.cycle y.cycle || (Nat.beq x.cycle y.cycle && Nat.blt x.pkt.pipe y.pkt.pipe)
  l.zipIdx.foldl (fun best x => if x.1.decided then best else match best with
    | some b => if before x.1 b.1 then some x else best
    | none => some x) none

/-- A packet of `source` that takes the same way, to the link or to the replication engine, still waits for its meter. -/
def waitsFor (l : List Metered) (source : Nat) (mcast : Bool) : Bool :=
  l.any fun x => !x.decided && Nat.beq x.source source && (x.mcast.isSome == mcast)

/-- Packets decided for that no earlier packet of their port holds up go their way in order of arrival (R147). -/
def State.passMetered (s : State) : State :=
  let r := s.net.metering.foldl (fun (r : List Metered × List Metered) x =>
    if x.decided && !waitsFor r.1 x.source x.mcast.isSome then (r.1, r.2 ++ [x]) else (r.1 ++ [x], r.2)) ([], [])
  forEach r.2 (s.withNet { s.net with metering := r.1 }) fun s x => match x.mcast with
    | some (first, count) => s.toReplicate x.sector x.pkt first count
    | none => s.cross x.pkt x.unmetered

/-- After resolution: to the meter, to the replication engine, or across; a packet without a meter waits for the metered packets of its port
that arrived before it (R147, R233). -/
def State.afterResolve (s : State) (sector : Nat) (p0 : Pkt) (r : Resolved) : State :=
  let wait := fun (s : State) (p : Pkt) (mc : Option (Nat × Nat)) (m : Option Nat) =>
    s.withNet { s.net with metering := s.net.metering ++ [⟨p, m.getD 0, p.inPort, sector, pipeCycle s.time.now, mc, m.isNone, m.isNone⟩] }
  match r with
  | .drop => s.dropPacket p0
  | .to p =>
    let m := s.meterOf p
    if m.isSome || waitsFor s.net.metering p.inPort false then wait s p none m else s.cross p true
  | .mcast p first count =>
    let m := s.meterOf p
    if m.isSome || waitsFor s.net.metering p.inPort true then wait s p (some (first, count)) m else s.toReplicate sector p first count

/-- First recorded label or IP header (L3_OFF of R149); 0 for a packet without one (DESIGN CHOICE, log entry 180). -/
def l3Offset (q : Parsed) : Nat :=
  match q.headers.find? fun h => Nat.beq h.1 3 || Nat.beq h.1 5 || Nat.beq h.1 6 with
  | some h => h.2.1
  | none => 0

/-- End of the last tunnel header, its options and extensions (STRIP_OFF of R149). -/
def stripOffset (q : Parsed) : Nat :=
  match q.headers.reverse.find? fun h => Nat.ble 14 h.1 && Nat.ble h.1 17 with
  | some h => h.2.1 + h.2.2
  | none => 0

/-- TTL of the top label. -/
def labelTtlOf (frame : List Byte) (q : Parsed) : Nat :=
  match q.headers.find? fun h => Nat.beq h.1 3 with
  | some h => byteAt frame (h.2.1 + 3)
  | none => 0

/-- A pipeline parses, classifies and resolves one packet. -/
def State.pipeline (s : State) (sector : Nat) (p : Pkt) : State :=
  let frame := p.bytes.take (p.bytes.length - 4)
  let (q, s) := s.parseFrame sector p.inPort frame
  let q := match p.recircVrf with | some v => q.put 34 v | none => q
  let (ecmp, lag) := s.hashes q
  let ptp : Bool := q.headers.any fun h => Nat.beq h.1 21
  let p := { p with
    lagHash := lag, entropy := ecmp, l3Off := l3Offset q, stripOff := stripOffset q, parseCode := q.code, recircVrf := none
    ptp := ptp, ptpL2 := ptp && Nat.beq (q.field 4) 0x88F7 }
  if q.code ≠ 0 then
    let s := s.bump (Obj.PORT_CLASSIFY_PARSE_FAILS p.inPort)
    match s.get (Obj.PORT_CLASSIFY_PARSE_FAIL_MODE p.inPort) with
    | 0 => s.dropPacket p
    | 1 =>
      let (a, s) := s.classifyPacket sector p.inPort q
      let (r, s) := s.lookups sector p q a (labelTtlOf frame q)
      s.afterResolve sector p r
    | _ =>
      let (a, s) := s.classifyPacket sector p.inPort q
      s.afterResolve sector p (.to (toHost { p with cls := a.cls, colour := a.colour } 3))
  else
    let (a, s) := s.classifyPacket sector p.inPort q
    let (r, s) := s.lookups sector p q a (labelTtlOf frame q)
    s.afterResolve sector p r

/-- No instants. -/
def noInstants (_ : Nat) : List Nat := []

/-- A packet arrives at a sector's distributor (R147); the packet rate of R148 counts it. -/
def State.toSector (s : State) (n : Nat) (p : Pkt) : State :=
  let now := s.time.now
  let window := now :: (Table.get noInstants s.net.arrivals n).filter fun t => Nat.blt now (t + 1000)
  let low := s.get (Obj.PIPE_POOL_LOW_PCT n)
  -- the rate is at least that of m pipelines until the oldest of the arrivals that make it up has left the window
  let busy := [1, 2, 3].foldl (fun t m => match window[ceilDiv (low * m * 1250) 100 - 1]? with
    | some a => Table.put (fun _ => 0) t (4 * n + m) (a + 1000)
    | none => t) s.net.busyUntil
  s.withNet { s.net with
    rx := Table.put noList s.net.rx n (Table.get noList s.net.rx n ++ [p])
    arrivals := Table.put noInstants s.net.arrivals n window
    busyUntil := busy }

/-- Packets that arrived at a sector in the microsecond that ends now (R148). -/
def State.packetRate (s : State) (n : Nat) : Nat :=
  ((Table.get noInstants s.net.arrivals n).filter fun t => Nat.blt s.time.now (t + 1000)).length

/-- INGRESS_PIPELINE (R147): the next packet of a sector's distributor goes to the next active pipeline in rotation; `upsets` are the
parity errors its searches meet. A packet waits while no active pipeline takes work (R504). -/
def execIngressPipeline (sector : Fin 8) (upsets : List Upset) (s : State) : Out :=
  s.inCore fun s =>
    match Table.get noList s.net.rx sector with
    | [] => s
    | p :: l =>
      if s.pipesHeld then s else
      let s := s.workForTurn sector
      match s.nextPipe sector with
      | none => s
      | some k =>
        let s := s.workFor (128 + sector) k
        let s : State := (s.withNet { s.net with
          rx := Table.put noList s.net.rx sector l
          rxTaken := ⟨p.inPort, p.bytes.length, s.time.now⟩ :: s.net.rxTaken.filter fun x => Nat.ble s.time.now (x.at' + 5120)
          rotation := Table.put (fun _ => 0) s.net.rotation sector ((k + 1) % 4) })
        (forEach upsets s fun s u => s.upset false u).pipeline sector { p with pipe := 4 * sector + k }

/-- MC_REPLICATE (R145): the next copy of the packet at the head of a sector's engine; the parity errors its reads meet are marked first. -/
def execMcReplicate (read : McRead) (s : State) : Out :=
  s.inCore fun s =>
    match Table.get noList s.net.mc read.sector with
    | [] => s
    | j :: l =>
      let s := s.workFor (128 + read.sector.val) 5
      if (s.part (128 + read.sector.val) 5).inRun = false then s
      else
        let s := forEach read.upsets s fun s u => s.upset false u
        let put := fun (s : State) (job : Option (Nat × Nat)) =>
          let rest := if j.left ≤ 1 then l else { j with pkt := { j.pkt with job := job }, next := j.next + 1, left := j.left - 1 } :: l
          (s.withNet { s.net with mc := Table.put noList s.net.mc read.sector rest })
        -- a copy that is not made leaves the packet's waiting job to the next; the last one reports it (R405)
        let none' := fun (s : State) => if j.left ≤ 1 then (put s none).dropPacket j.pkt else put s j.pkt.job
        if j.left = 0 then none' s
        else match s.resEntry Dom.MC_COPIES j.next with
          | (none, s) => none' s
          | (some e, s) =>
            let nh := Fld.MCC_NEXT_HOP.get e
            if Fld.MCC_VALID.get e = 0 then none' s
            else match s.resEntry Dom.NEXT_HOPS nh with
              | (none, s) => none' s
              | (some h, s) =>
                if Fld.MCC_PRUNE.get e = 1 ∧ Fld.NH_LOCATION.get h = s.ownLocation j.pkt.inPort then none' s
                else match s.toNextHop read.sector true { j.pkt with id := s.net.serial } nh with
                  | (none, s) => none' s
                  | (some p, s) => (put (s.withNet { s.net with serial := s.net.serial + 1 }) none).cross p false

/-- Active pipelines of a sector. -/
def State.activePipes (s : State) (n : Nat) : Nat := popCount 4 (s.get (Obj.PIPE_POOL_ACTIVE_MASK n))

/-- Changes a sector's active set (R148). -/
def State.setActive (s : State) (n mask : Nat) : State :=
  if s.get (Obj.PIPE_POOL_ACTIVE_MASK n) = mask then s
  else
    -- a pipeline that enters or leaves the set counts its idle time from now; one that enters wakes (R148, R504)
    let old := s.get (Obj.PIPE_POOL_ACTIVE_MASK n)
    let s := ((s.set (Obj.PIPE_POOL_ACTIVE_MASK n) mask).bump (Obj.PIPE_POOL_CHANGES n)).raise 0x3002 (uFS n) 0
    forEach (List.range 4) s fun s k =>
      if mask.testBit k then (if old.testBit k then s else s.workFor (128 + n) k)
      else if old.testBit k then s.setPart (128 + n) k { s.part (128 + n) k with idleSince := s.time.now }
      else s

/-- POOL_ACTIVATE (R148): the packets of the last 1 µs exceed HIGH_PCT percent of what the active pipelines carry, 1,250 each,
and `pipe` is the lowest-numbered inactive pipeline. -/
def execPoolActivate (sector : Fin 8) (pipe : Fin 4) (s : State) : Out :=
  s.inCore fun s =>
    let mask := s.get (Obj.PIPE_POOL_ACTIVE_MASK sector)
    let pool := s.get (Obj.PIPE_POOL_POOL_MASK sector)
    if s.get (Obj.PIPE_POOL_MODE sector) = 1 ∧ s.get (Obj.PIPE_POOL_HIGH_PCT sector) * s.activePipes sector * 1250 < s.packetRate sector * 100 then
      match (List.range 4).find? fun k => pool.testBit k && !mask.testBit k with
      | some k => if k = pipe.val then s.setActive sector (mask + 2 ^ k) else s
      | none => s
    else s

/-- The packet rate has stayed below LOW_PCT percent of what one pipeline fewer carries for 10 ms (R148). Each instant is judged with
LOW_PCT as it stood then, and all of them against the present number of pipelines (DEDUCED, log entry 140). -/
def State.rateLow (s : State) (n : Nat) : Bool :=
  Nat.ble (Table.get (fun _ => 0) s.net.busyUntil (4 * n + (s.activePipes n - 1)) + 10 * ms) s.time.now

/-- POOL_DEACTIVATE (R148): `pipe`, which is the highest-numbered active pipeline, leaves the set. -/
def execPoolDeactivate (sector : Fin 8) (pipe : Fin 4) (s : State) : Out :=
  s.inCore fun s =>
    let mask := s.get (Obj.PIPE_POOL_ACTIVE_MASK sector)
    let n := s.activePipes sector
    if s.get (Obj.PIPE_POOL_MODE sector) = 1 ∧ 1 < n ∧ s.rateLow sector = true then
      match highestBit 4 mask with
      | some k => if k = pipe.val then s.setActive sector (mask - 2 ^ k) else s
      | none => s
    else s

/-- MODE and POOL_MASK (R148): in mode 0 the active set is the mask; in mode 1 it stays within it and never empty. -/
def rulePool (n key v : Nat) (s : State) : Res :=
  if key = Obj.PIPE_POOL_POOL_MASK n ∧ v % 16 = 0 then (.invalid, s)
  else
    let s := s.commit key v
    let mask := s.get (Obj.PIPE_POOL_POOL_MASK n)
    let within := Nat.land (s.get (Obj.PIPE_POOL_ACTIVE_MASK n)) mask
    let target := if s.get (Obj.PIPE_POOL_MODE n) = 0 then mask
      else if within = 0 then (match lowestBit 4 mask with | some k => 2 ^ k | none => 0) else within
    (.ok, s.setActive n target)

/-- Meter step of an elapsed instant: 51.2 ns (R225). -/
def meterStep (now : Nat) : Nat := now * 10 / 512

/-- Brings a meter's buckets to the present step (R237). -/
def meterRefill (p m step : Nat) : Nat :=
  let k := (step + 2 ^ 32 - Fld.MT_LAST.get m) % 2 ^ 32
  let add := k * Fld.MP_CIR.get p
  let room := Fld.MP_CBS.get p * 65536 - Fld.MT_TC.get m
  let spill := if Fld.MP_MODE.get p = 2 ∧ Fld.MP_COUPLED.get p = 1 then add - room else 0
  let m := Fld.MT_TC.set m (Fld.MT_TC.get m + min add room)
  let m := Fld.MT_TP_TE.set m (min (Fld.MT_TP_TE.get m + k * Fld.MP_PIR_EIR.get p + spill) (Fld.MP_PBS_EBS.get p * 65536))
  Fld.MT_LAST.set m (step % 2 ^ 32)

/-- Buckets at their bursts (R239, R249). -/
def meterFull (p m step : Nat) : Nat :=
  Fld.MT_LAST.set (Fld.MT_TP_TE.set (Fld.MT_TC.set m (Fld.MP_CBS.get p * 65536)) (Fld.MP_PBS_EBS.get p * 65536)) (step % 2 ^ 32)

/-- Colour a meter gives a packet and the meter after it (R237). -/
def meterDecide (p m len cin : Nat) : Nat × Nat :=
  let b := (max ((len : Int) + Fld.MP_LEN_ADJ.getS p) 1).toNat * 65536
  let tc := Fld.MT_TC.get m
  let tp := Fld.MT_TP_TE.get m
  let pre := if Fld.MP_COLOUR_AWARE.get p = 1 then cin else 0
  match Fld.MP_MODE.get p with
  | 0 => (cin, m)
  | 1 =>
    if pre = 2 ∨ tp < b then (2, m)
    else if pre = 1 ∨ tc < b then (1, Fld.MT_TP_TE.set m (tp - b))
    else (0, Fld.MT_TC.set (Fld.MT_TP_TE.set m (tp - b)) (tc - b))
  | _ =>
    if pre = 0 ∧ b ≤ tc then (0, Fld.MT_TC.set m (tc - b))
    else if pre ≠ 2 ∧ b ≤ tp then (1, Fld.MT_TP_TE.set m (tp - b))
    else (2, m)

/-- What ECC finds on a read (R183, R223, R249, R364): nothing, a corrected word, or an uncorrectable one. -/
def State.meterEcc (s : State) (e : Ecc) : State :=
  match e with
  | .clean => s
  | .corrected => s.bump Obj.METER_CTRL_ECC_CORRECTED
  | .uncorrectable => s.bump Obj.METER_CTRL_ECC_UNCORRECTED

/-- A meter as a decision or a sweep sees it: as it stood before the writes of the present instant (R239). -/
def State.seenMeter (s : State) (n : Nat) : OldMeter :=
  match s.sched.oldMeters.find? fun o => Nat.beq o.meter n with
  | some o => o
  | none =>
    let m := s.dom Dom.METERS n
    ⟨n, m, s.dom Dom.METER_PROFILES (Fld.MT_PROFILE.get m), s.sched.badMeters.contains (Fld.MT_PROFILE.get m)⟩

/-- A write is about to change a meter or its profile: decisions of this instant go on with what stands now (R239). -/
def State.keepMeter (s : State) (n : Nat) : State :=
  if s.sched.oldMeters.any fun o => Nat.beq o.meter n then s
  else s.withSched { s.sched with oldMeters := s.sched.oldMeters ++ [s.seenMeter n] }

/-- Puts back a meter's buckets: into what this instant's decisions go on with, where a write has filled the meter's own (R239). `decided`: a
decision changed them; the standby learns of that. -/
def State.putMeter (s : State) (n m : Nat) (decided : Bool) : State :=
  if s.sched.oldMeters.any fun o => Nat.beq o.meter n then
    s.withSched { s.sched with oldMeters := s.sched.oldMeters.map fun o => if o.meter = n then { o with entry := m } else o }
  else if decided then s.commitDom Dom.METERS n m else s.setDom Dom.METERS n m

/-- A read of a meter and of its profile (R236, R237, R249): the meter brought to the present step, or with full buckets where its entry is
lost; an uncorrectable profile lets packets pass with their colour until it is rewritten. -/
def State.readMeter (s : State) (n : Nat) (meterEcc profileEcc : Ecc) : OldMeter × State :=
  let s := (s.meterEcc meterEcc).meterEcc profileEcc
  let step := meterStep s.time.now
  let o := s.seenMeter n
  let lost := fun (s : State) => s.raise 0x3211 uFD2D (packArg [(32, n)]) 0
  let s := if profileEcc = .uncorrectable ∧ o.bad = false then
      lost (s.withSched { s.sched with badMeters := Fld.MT_PROFILE.get o.entry :: s.sched.badMeters })
    else s
  let o := { o with bad := o.bad || decide (profileEcc = Ecc.uncorrectable) }
  if meterEcc = .uncorrectable then ({ o with entry := meterFull o.profile o.entry step }, lost s)
  else ({ o with entry := meterRefill o.profile o.entry step }, s)

/-- The decision of one metered packet (R237, R238, R249): the packet with its colour, none when it is dropped. -/
def State.meterPacket (s : State) (j : Metered) (o : OldMeter) : Option Pkt × State :=
  let len := j.pkt.bytes.length
  let (out, m) := if o.bad then (j.pkt.colour, o.entry) else meterDecide o.profile o.entry len j.pkt.colour
  let s := (s.putMeter j.meter m true).bump Obj.METER_CTRL_METERED
  let (fp, fb) := match out with
    | 0 => (Fld.MC_GREEN_PACKETS, Fld.MC_GREEN_BYTES)
    | 1 => (Fld.MC_YELLOW_PACKETS, Fld.MC_YELLOW_BYTES)
    | _ => (Fld.MC_RED_PACKETS, Fld.MC_RED_BYTES)
  let s := if s.isStandby then s else (s.countRecord Dom.METER_COUNTERS j.meter fp).countRecord Dom.METER_COUNTERS j.meter fb len
  let p := { j.pkt with colour := out }
  if out = 2 ∧ Fld.MP_RED_DROP.get o.profile = 1 ∧ o.bad = false then
    (none, ((s.bump (Obj.PORT_METER_METER_DROPS j.source)).bump Obj.METER_CTRL_RED_DROPS).dropPacket p)
  else (some p, s)

/-- METER_DECIDE (R234, R237, R238, R249): the next metered packet, once the cycle in which it came to its meter has ended, so that every
packet of that cycle has its turn (DESIGN CHOICE, log entry 182). `meterEcc` and `profileEcc` are what the reads of the meter and of its
profile meet. Packets of one port go on in order of arrival (R147). -/
def execMeterDecide (meterEcc profileEcc : Ecc) (s : State) : Out :=
  s.inCore fun s =>
    match meterTurn s.net.metering with
    | none => s
    | some (j, i) =>
      if j.cycle = pipeCycle s.time.now then s
      else
        let put := fun (s : State) (x : List Metered) =>
          (s.withNet { s.net with metering := s.net.metering.take i ++ x ++ s.net.metering.drop (i + 1) }).passMetered
        if j.pkt.fcsBad then put (s.dropPacket j.pkt) []
        else
          let (o, s) := s.readMeter j.meter meterEcc profileEcc
          match s.meterPacket j o with
          | (none, s) => put s []
          | (some p, s) => put s [{ j with pkt := p, decided := true }]

/-- METER_SWEEP (R236, R249): updates one meter's buckets. -/
def execMeterSweep (read : MeterRead) (s : State) : Out :=
  s.inCore fun s =>
    let (o, s) := s.readMeter read.meter read.meterEcc read.profileEcc
    s.putMeter read.meter o.entry false

/-- METER_MODE, CLASS_BASE and USER_BASE (R233): INVALID when a meter number could exceed 262,143. -/
def ruleMeterBase (key v : Nat) (s : State) : Res :=
  if (keySub key = 2 ∧ 262136 < v) ∨ (keySub key = 3 ∧ 131072 < v) then (.invalid, s) else s.plain key v

/-- Check of a meter profile (R235). -/
def meterProfileStatus (image : Nat) : Status := if Fld.MP_MODE.get image = 3 then .invalid else .ok

/-- A write of a meter profile fills both buckets of each meter that names it; this instant's decisions go on with the old (R239). -/
def State.writeMeterProfile (s : State) (n image : Nat) : State :=
  let l := (List.range 262144).filter fun m => Nat.beq (Fld.MT_PROFILE.get (s.dom Dom.METERS m)) n
  let s := forEach l s fun s m => s.keepMeter m
  let s := s.commitDom Dom.METER_PROFILES n image
  let s : State := (s.withSched { s.sched with badMeters := s.sched.badMeters.filter (· != n) })
  forEach l s fun s m => s.setDom Dom.METERS m (meterFull image (s.dom Dom.METERS m) (meterStep s.time.now))

/-- A write of a meter's PROFILE fills its buckets; this instant's decisions go on with the old (R239). -/
def State.writeMeter (s : State) (m image : Nat) : State :=
  let s := (s.keepMeter m).commitDom Dom.METERS m image
  s.setDom Dom.METERS m (meterFull (s.dom Dom.METER_PROFILES (Fld.MT_PROFILE.get image)) image (meterStep s.time.now))

end Sys2Proof.Machine
end

