-- ==== Sys2Proof/Machine/Time.lean ====
section
/-! DEFINITION. Timebase, timing pins, air clocks, air event table and dispatcher (R20 to R43, R46). -/

namespace Sys2Proof.Machine

/-- Timebase states, R24. -/
abbrev tbFREERUN : Nat := 0
/-- LOCKED. -/
abbrev tbLOCKED : Nat := 2
/-- HOLDOVER. -/
abbrev tbHOLDOVER : Nat := 3

/-- Quotient of an integer by a positive one, rounded to nearest with ties to even (R24). -/
def divTiesEven (a : Int) (n : Nat) : Int :=
  let q := a.fdiv n
  let r := a - q * n
  if 2 * r < n then q else if (n : Int) < 2 * r then q + 1 else if q % 2 = 0 then q else q + 1

/-- The value FREQ_ADJ freezes at: the mean of the last servo adjustments, or its present value when there is none. -/
def State.frozenAdj (s : State) : Nat :=
  match s.time.adjustments with
  | [] => s.get Obj.TIMEBASE_FREQ_ADJ
  | l => unsigned 32 (divTiesEven l.sum l.length)

/-- Enters a timebase state (R24). -/
def State.enterTimebase (s : State) (new : Nat) : State :=
  let old := s.get Obj.TIMEBASE_STATE
  if old = new then s
  else
    let s := s.set Obj.TIMEBASE_STATE new
    let s := s.raise 0x1001 uMGMT (packArg [(16, old), (16, new)])
    if new = tbHOLDOVER then
      let s := s.set Obj.TIMEBASE_FREQ_ADJ s.frozenAdj
      let s := (s.withTime { s.time with holdoverAt := s.time.now })
      s.raise 0x1103 uMGMT 0
    else if new = tbLOCKED then (s.withTime { s.time with lockAt := s.time.now })
    else s

/-- A write allowed to the servo owner only (R23). -/
def State.asServo (s : State) (master : Nat) (rule : State → Res) : Res :=
  if master = s.get Obj.TIMEBASE_SERVO_OWNER then rule s else (.denied, s)

/-- STATE_REQ (R24). -/
def ruleStateReq (master v : Nat) (s : State) : Res := s.asServo master fun s => (.ok, s.enterTimebase v)

/-- FREQ_ADJ (R24): applied and counted as a servo adjustment, BUSY in HOLDOVER. -/
def ruleFreqAdj (master v : Nat) (s : State) : Res :=
  s.asServo master fun s =>
    if s.get Obj.TIMEBASE_STATE = tbHOLDOVER then (.busy, s)
    else
      let s := s.set Obj.TIMEBASE_FREQ_ADJ v
      (.ok, (s.withTime { s.time with adjustments := (signed 32 v :: s.time.adjustments).take 64 }))

/-- Versions of an air clock's enable or of an entry: newest first, the first in force at `t` rules (R33, R42). -/
def versionAt (l : List Version) (entry t : Nat) : Option Version :=
  l.find? fun v => Nat.beq v.entry entry && Nat.ble v.eff t

/-- Spans in which each version of an entry is in force: image, first instant, end (none: open). Later writes cut earlier
ones at their own effective instants (R42). -/
def versionSpans (l : List Version) (entry : Nat) : List (Nat × Nat × Option Nat) :=
  let mine := l.filter fun v => Nat.beq v.entry entry
  (mine.foldl (fun (acc : List (Nat × Nat × Option Nat) × Option Nat) v =>
    let stop := acc.2
    let cut := match stop with | none => some v.eff | some e => some (min e v.eff)
    ((match stop with
      | some e => if v.eff < e then (v.image, v.eff, some e) :: acc.1 else acc.1
      | none => (v.image, v.eff, none) :: acc.1), cut)) ([], none)).1

/-- Spans of an entry's contents (R42): its image throughout where no version is listed. -/
def State.entrySpans (s : State) (e : Nat) : List (Nat × Nat × Option Nat) :=
  match versionSpans s.time.versions e with
  | [] => [(s.dom Dom.AIR_EVENT_TABLE e, 0, none)]
  | l => l

/-- Spans in which an air clock fires its entries (R33). -/
def State.clockSpans (s : State) (c : Nat) : List (Nat × Nat × Option Nat) :=
  (versionSpans s.time.clockVersions c).filter fun v => Nat.beq v.1 1

/-- Intersection of two half-open spans. -/
def meetSpan (a b : Nat × Option Nat) : Nat × Option Nat :=
  (max a.1 b.1, match a.2, b.2 with | none, x => x | x, none => x | some x, some y => some (min x y))

/-- First instant at or after `t` at which an entry's image is due (R36), by the settings its clock has now (DESIGN CHOICE, log entry
172). -/
def State.dueFrom (s : State) (image t : Nat) : Nat :=
  let c := Fld.AIR_CLOCK.get image
  let off := Fld.AIR_OFFSET.getS image
  let a := firstSlot (s.mu c) (s.epoch c) (Fld.AIR_PERIOD.get image) (Fld.AIR_PHASE.get image) (Fld.AIR_SYMBOL.get image) ((t : Int) - off)
  (slotInstant (s.mu c) (s.epoch c) (Fld.AIR_SYMBOL.get image) a + off).toNat

/-- Occurrences of an image due in [a, b). -/
def State.dueCount (s : State) (image a b : Nat) : Nat :=
  let c := Fld.AIR_CLOCK.get image
  let off := Fld.AIR_OFFSET.getS image
  let f := fun (t : Nat) => firstSlot (s.mu c) (s.epoch c) (Fld.AIR_PERIOD.get image) (Fld.AIR_PHASE.get image) (Fld.AIR_SYMBOL.get image) ((t : Int) - off)
  ((f b - f a) / (Fld.AIR_PERIOD.get image : Nat)).toNat

/-- Spans in which an entry is armed and its clock fires: image with first instant and end. -/
def State.liveSpans (s : State) (e : Nat) : List (Nat × Nat × Option Nat) :=
  (s.entrySpans e).flatMap fun v =>
    if Fld.AIR_VALID.get v.1 = 1 then
      (s.clockSpans (Fld.AIR_CLOCK.get v.1)).map fun c =>
        let m := meetSpan (v.2.1, v.2.2) (c.2.1, c.2.2)
        (v.1, m.1, m.2)
    else []

/-- Entries that may have something due. -/
def State.airEntries (s : State) : List Nat :=
  ((s.domEntries Dom.AIR_EVENT_TABLE).map (·.1) ++ s.time.versions.map (·.entry)).eraseDups

/-- Next occurrence of an entry at or after the dispatcher's position (R41). -/
def State.nextOf (s : State) (e : Nat) : Option AirAction :=
  let t0 := if e < s.time.nextEntry then s.time.nextDue + 1 else s.time.nextDue
  ((s.liveSpans e).filterMap fun v =>
    let due := s.dueFrom v.1 (max t0 v.2.1)
    match v.2.2 with
    | some stop => if due < stop then some (due, v.1) else none
    | none => some (due, v.1)).foldl (fun (best : Option AirAction) d =>
      let a : AirAction := ⟨d.1, e, Fld.AIR_CLOCK.get d.2, Fld.AIR_ACTION.get d.2, Fld.AIR_TARGET.get d.2, Fld.AIR_ARG.get d.2, d.2⟩
      match best with
      | none => some a
      | some b => if a.due < b.due then some a else some b) none

/-- The earlier of two actions: by due instant, then by entry (R10, R41). -/
def earlier (a b : AirAction) : Bool := Nat.blt a.due b.due || (Nat.beq a.due b.due && Nat.ble a.entry b.entry)

/-- The next action to issue. -/
def State.nextAction (s : State) : Option AirAction :=
  (s.airEntries.filterMap s.nextOf).foldl (fun best a =>
    match best with
    | none => some a
    | some b => if earlier a b then some a else some b) none

/-- DISPATCH (R41): issues one action, at most one per tick and at most 4,096 ns ahead of its instant. -/
def execDispatch (s : State) : Out :=
  .next (if s.coreOff then s
    else match s.nextAction with
    | none => s
    | some a =>
      if a.due ≤ s.time.tai + 4096 ∧ s.time.issuedAt ≠ some s.time.now then
        (s.withTime { s.time with
          fifo := s.time.fifo ++ [a], nextDue := a.due, nextEntry := a.entry + 1, issuedAt := some s.time.now })
      else s)

/-- Takes the action at the head of the targets' queue when its instant has come and it is of the given code. While
DISPATCH_ENABLE is 0 every entry but E4095 is skipped and counted (R43). -/
def State.fire (s : State) (action : Nat) : Option AirAction × State :=
  match s.time.fifo with
  | a :: t =>
    if a.action = action ∧ a.due ≤ s.time.tai ∧ s.coreOff = false then
      let s := (s.withTime { s.time with fifo := t })
      if s.get Obj.AIR_EVENT_CTRL_DISPATCH_ENABLE = 0 ∧ a.entry ≠ 4095 then
        (none, s.bumpW 32 Obj.AIR_EVENT_CTRL_SKIPPED)
      else (some a, s.set Obj.AIR_EVENT_CTRL_LAST_FIRED a.entry)
    else (none, s)
  | [] => (none, s)

/-- NOP (R38). -/
def execAirNop (s : State) : Out := .next (s.fire 0).2

/-- HOST_EVENT (R39). -/
def execHostEvent (s : State) : Out :=
  .next (match s.fire 7 with
    | (none, s) => s
    | (some a, s) =>
      let s := s.raise 0x1002 uMGMT (packArg [(16, a.entry)])
      if a.arg.testBit 15 then s.signal 0 (a.arg % 1024) else s)

/-- Occurrences in the skipped span [old, new) (R25). -/
def State.skippedIn (s : State) (old new : Nat) : Nat :=
  (s.airEntries.map fun e =>
    ((s.liveSpans e).map fun v =>
      let lo := max old v.2.1
      let hi := match v.2.2 with | some x => min new x | none => new
      if lo < hi then s.dueCount v.1 lo hi else 0).sum).sum

/-- The timebase counts 48 bits of seconds (R20). -/
abbrev taiWrap : Nat := 2 ^ 48 * nsPerS

/-- The current bins of the timebase and of every fabric lane are suspect (R25, R342). -/
def State.suspectBins (s : State) : State :=
  let mark := fun (s : State) (e : Nat) =>
    if Fld.PMH_VALID.get (s.dom Dom.PM_HISTORY e) = 1 then s.setField Dom.PM_HISTORY e Fld.PMH_SUSPECT 1 else s
  forEach (List.range 160) (s.set Obj.PERF_BIN_CLOCK_SUSPECT 3) fun s n => mark (mark s (35 * n)) (35 * n + 33)

/-- The tick that adds a step (R25): occurrences the step skips are counted and do not fire; those of a span it repeats fire again.
A step of 0 moves nothing. -/
def State.applyStep (s : State) (d : Int) : State :=
  let old := s.time.tai
  let new := (((old : Int) + d) % (taiWrap : Int)).toNat
  let s := if 0 < d then s.bumpW 32 Obj.AIR_EVENT_CTRL_SKIPPED (s.skippedIn old new) else s
  let s : State := if d = 0 then s else (s.withTime { s.time with
    tai := new, before := new - 1, fifo := s.time.fifo.filter fun a => Nat.blt a.due (min old new), nextDue := new, nextEntry := 0 })
  let s := (s.bumpW 32 Obj.TIMEBASE_STEP_COUNT).suspectBins
  if 0 < d then s.raise 0x1101 uMGMT 0 else if d < 0 then s.raise 0x1102 uMGMT 0 else s

/-- STEP (R25): the next tick adds it. -/
def ruleStep (master v : Nat) (s : State) : Res :=
  s.asServo master fun s => (.ok, s.withTime { s.time with steps := s.time.steps ++ [signed 64 v] })

/-- The timebase has reached this instant with its last tick. -/
def State.reached (s : State) (t : Int) : Bool := decide ((s.time.before : Int) < t ∧ t ≤ s.time.tai)

/-- STATE_REQ. -/
def execStateReq (master value : Nat) (s : State) : Out :=
  s.rowWrite master Obj.TIMEBASE_STATE_REQ value (ruleStateReq master value)

/-- FREQ_ADJ. -/
def execFreqAdj (master value : Nat) (s : State) : Out :=
  s.rowWrite master Obj.TIMEBASE_FREQ_ADJ value (ruleFreqAdj master value)

/-- STEP. -/
def execStep (master value : Nat) (s : State) : Out := s.rowWrite master Obj.TIMEBASE_STEP value (ruleStep master value)

/-- AUTO_HOLDOVER (R24): 2 s since the later of the last valid sample and the declaration of lock. While the firmware that owns the servo
restarts, the timebase state does not change (R543). -/
def execAutoHoldover (lastSample : Nat) (s : State) : Out :=
  .next (if (s.boot.restart && Nat.beq (s.get Obj.TIMEBASE_SERVO_OWNER) FW) = false ∧ s.get Obj.TIMEBASE_STATE = tbLOCKED ∧ max lastSample s.time.lockAt + 2 * nsPerS ≤ s.time.now
    then s.enterTimebase tbHOLDOVER else s)

/-- SHADOW_REALIGN (R26): as the timebase reaches a TAI second while the core is in RUN. -/
def execShadowRealign (s : State) : Out :=
  .next (if s.coreOff ∨ s.time.reload = true ∨ s.reached (s.time.tai / nsPerS * nsPerS : Nat) = false then s
    else (s.withTime { s.time with
      shadow := s.time.tai, shadowFrac := s.time.frac, shadowBefore := s.time.tai }))

/-- TIMEBASE_LOAD (R26): at the tick of CLK_AON with which the shadow counter reaches a second, exactly (the 40 ns are a bound on the
error). Until then the main timebase stands still (DESIGN CHOICE, log entry 171). -/
def execTimebaseLoad (s : State) : Out :=
  .next (if s.coreOff = false ∧ s.time.reload = true ∧ s.time.shadowBefore / nsPerS < s.time.shadow / nsPerS then
      let s := (s.withTime { s.time with
        tai := s.time.shadow, frac := s.time.shadowFrac, before := s.time.shadowBefore, reload := false
        nextDue := s.time.shadow, nextEntry := 0 })
      if s.get Obj.TIMEBASE_STATE = tbFREERUN then s else s.enterTimebase tbHOLDOVER
    else s)

/-- TIME_SYNC_WORD (R21): aligns the T die's replica. -/
def execTimeSyncWord (s : State) : Out :=
  s.inCore fun s => (if s.d2dUp = false then s else (s.withTime { s.time with replicaSkew := 0, missed := 0 }))

/-- TIME_WORD_MISSED (R46): four periods without the word; the replica's error is then open. -/
def execTimeWordMissed (s : State) : Out :=
  s.inCore fun s =>
    let (x, s) := s.fresh
    (s.withTime { s.time with missed := 4, replicaSkew := (x : Int) }).raise 0x1104 uMGMT 0

/-- PPS_OUT (R28): rises as the timebase reaches an integer TAI second plus PPS_OUT_OFFSET; the clock lowers it after 100 µs. A rise
while it is high starts the 100 µs anew. -/
def execPpsOut (s : State) : Out :=
  let off := signed 32 (s.get Obj.TIME_IO_PPS_OUT_OFFSET)
  let edge : Int := ((s.time.tai : Int) - off).fdiv nsPerS * nsPerS + off
  .next (if s.coreOff = true ∨ s.time.reload = true ∨ s.reached edge = false then s
    else
      let high := s.time.ppsHigh
      let s : State := (s.withTime { s.time with ppsHigh := true, ppsRise := s.time.now })
      if high then s else s.emit (.pin .ppsOut true))

/-- PPS_IN (R28). -/
def execPpsIn (s : State) : Out :=
  .next (if s.coreOff then s else s.set Obj.TIME_IO_PPS_IN_STAMP (time80 s.timeNow))

/-- TOD_MESSAGE (R28): the time event message is accepted, every other type is counted. -/
def execTodMessage (timeEvent : Bool) (bytes : List Byte) (s : State) : Out :=
  .next (if s.coreOff then s
    else if timeEvent then (s.withTime { s.time with tod := bytes }) else s.bumpW 32 Obj.TIME_IO_TOD_DISCARDS)

/-- ENABLE of an air clock (R33): in force for due instants from 8,192 ns after the write's completion. -/
def ruleAirClockEnable (c v : Nat) (s : State) : Res :=
  let s := s.commit (Obj.AIR_CLOCK_ENABLE c) v
  (.ok, (s.withTime { s.time with clockVersions := ⟨c, s.timeNow + 8192, v⟩ :: s.time.clockVersions }))

/-- AIR_CLOCK_ENABLE. -/
def execAirClockEnable (clock : AirClock) (master value : Nat) (s : State) : Out :=
  s.rowWrite master (Obj.AIR_CLOCK_ENABLE clock) value (ruleAirClockEnable clock value)

/-- NUMEROLOGY and EPOCH: BUSY while the clock is enabled (R33). -/
def ruleAirClockSetting (c key v : Nat) (s : State) : Res :=
  if s.on (Obj.AIR_CLOCK_ENABLE c) then (.busy, s) else s.plain key v

/-- RCLK0_SEL and RCLK1_SEL: an enable with divider 0 is INVALID (R34). -/
def ruleRclkSel (key v : Nat) (s : State) : Res :=
  if v.testBit 15 = true ∧ v % 256 = 0 then (.invalid, s) else s.plain key v

/-- TARGET and ARG an action allows (R38, R39). -/
def airActionOk (action target arg : Nat) : Bool :=
  match action with
  | 0 => Nat.beq target 0 && Nat.beq arg 0
  | 1 => Nat.ble target 135 && Nat.ble arg 1
  | 2 => Nat.ble target 15 && Nat.beq arg 0
  | 3 => Nat.beq target 0 && Nat.beq arg 0
  | 4 => Nat.beq target 0 && Nat.beq arg 0
  | 5 => Nat.ble target 143 && Nat.ble arg 3
  | 6 => Nat.ble target 15 && Nat.beq arg 0
  | 7 => Nat.beq target 0 && Nat.beq (bits arg 10 5) 0
  | _ => false

/-- The image E4095 takes when it is armed (R40): MATE_CYCLE, CLOCK 0, PERIOD 1, all else 0. -/
def mateCycleImage : Nat := 2 ^ 127 + 4 * 2 ^ 112 + 1 * 2 ^ 96

/-- Checks of a write of an air event entry (R37 to R40). -/
def airEntryStatus (master e image : Nat) : Status :=
  let off := Fld.AIR_OFFSET.getS image
  if e = 4095 ∧ master ≠ FW then .denied
  else if Fld.AIR_PERIOD.get image ≤ Fld.AIR_PHASE.get image ∨ 13 < Fld.AIR_SYMBOL.get image ∨ off < -1000000 ∨ 1000000 < off then .invalid
  else if airActionOk (Fld.AIR_ACTION.get image) (Fld.AIR_TARGET.get image) (Fld.AIR_ARG.get image) = false then .invalid
  else if e ≠ 4095 ∧ Fld.AIR_ACTION.get image = 4 then .invalid
  else if e = 4095 ∧ Fld.AIR_VALID.get image = 1 ∧ image ≠ mateCycleImage then .invalid
  else .ok

/-- A write of an air event entry (R42): in force for due instants from 8,192 ns after its completion; ARMED_COUNT follows
at once (R33). -/
def State.writeAirEntry (s : State) (e image : Nat) : State :=
  let old := s.dom Dom.AIR_EVENT_TABLE e
  let listed := s.time.versions.any fun v => Nat.beq v.entry e
  let versions := if listed then s.time.versions else ⟨e, 0, old⟩ :: s.time.versions
  let s := (s.withTime { s.time with versions := ⟨e, s.timeNow + 8192, image⟩ :: versions })
  let s := s.commitDom Dom.AIR_EVENT_TABLE e image
  let n := s.get Obj.AIR_EVENT_CTRL_ARMED_COUNT
  s.set Obj.AIR_EVENT_CTRL_ARMED_COUNT (n + Fld.AIR_VALID.get image - Fld.AIR_VALID.get old)

/-- POSITION of an air clock, R34. -/
def State.positionOf (s : State) (c : Nat) : Nat :=
  let p := airPosition (s.mu c) (s.epoch c) s.timeNow
  p.sfn * 2 ^ 54 + p.subframe * 2 ^ 50 + p.slot * 2 ^ 47 + p.symbol * 2 ^ 43 + p.nsInto * 2 ^ 23

end Sys2Proof.Machine
end

