-- ==== Sys2Proof/Machine/Shape.lean ====
section
/-! DEFINITION. Shapers, time gates, wire prediction and the pause that holds a class (R192, R193, R225 to R232, R240 to R246,
R270, R276). -/

namespace Sys2Proof.Machine

/-- Span rate of a scheduler port in Mb/s (R227). -/
def State.spanRate (s : State) (p : Nat) : Nat :=
  if p < 128 then s.get (Obj.LINE_PORT_PORT_SPEED p) else s.get (Obj.PORT_TIMING_SPAN_RATE p)

/-- Time on the wire in ns of `c` bytes (R244). -/
def wireNs (c mbps : Nat) : Nat := ceilDiv (c * 8000) mbps

/-- TX_LEAD of a port (R244, R270). -/
def State.txLead (s : State) (p : Nat) : Nat :=
  if 128 ≤ p then 0
  else match s.get (Obj.LINE_PORT_PORT_SPEED p) with
    | 1600000 => 180 | 800000 => 190 | 400000 => 200 | 200000 => 220 | 100000 => 240 | 50000 => 270 | 25000 => 310
    | _ => 0

/-- Charge of a packet at every level (R193). -/
def State.chargeOf (s : State) (p len : Nat) : Nat := (max ((len : Int) + signed 32 (s.get (Obj.SCHED_PORT_LEN_ADJ p))) 1).toNat

/-- Window of a port (R192). -/
def State.txWindow (s : State) (p : Nat) : Nat :=
  match s.get (Obj.SCHED_PORT_TX_WINDOW p) with
  | 0 => if p < 128 then max 2048 (ceilDiv (s.spanRate p * 400 / 8000) 256 * 256) else 16384
  | w => w

/-- Sending span of a charge, in 2^-16 shaper steps (R227). -/
def State.spanOf (s : State) (p c : Nat) : Nat := ceilDiv (c * 12288000) (s.spanRate p)

/-- Shaper step of an elapsed instant: 128/3 ns (R225). -/
def shaperStep (now : Nat) : Nat := now * 3 / 128

/-- Shaper nodes (R226): of a port. -/
def nodePort (p : Nat) : Nat := p
/-- Of a class. -/
def nodeClass (p c : Nat) : Nat := 136 + 8 * p + c
/-- Of a group. -/
def nodeGroup (g : Nat) : Nat := 1224 + g
/-- Of a user. -/
def nodeUser (u : Nat) : Nat := 17608 + u

/-- Credit of `n` shaper steps in units of 2^-32 byte with the span left, exactly as R228 steps it. -/
def shaperRun (rise fall cap : Nat) (n : Nat) (credit : Int) (left : Nat) : Int × Nat :=
  let full := min n (left / 65536)
  let credit := credit - full * fall * 65536
  let left := left - full * 65536
  if n = full then (credit, left)
  else
    let part : Nat := min left 65536
    let credit := min (credit - part * fall + (65536 - part : Nat) * rise) (cap * 2 ^ 32)
    let rest := n - full - 1
    (min (credit + rest * rise * 65536) (cap * 2 ^ 32), left - part)

/-- The shaper of a node brought to the present step: its entry and its hidden state. -/
def State.shaperNow (s : State) (n : Nat) : Nat × ShaperState :=
  let e := s.dom Dom.SHAPER_NODES n
  let h := Table.get (fun _ => ({} : ShaperState)) s.sched.shapers n
  let now := shaperStep s.time.now
  if Fld.SN_ENABLE.get e = 0 then (e, { h with step := now })
  else
    let p := Fld.SN_PROFILE.get e
    let r := shaperRun (s.get (Obj.SHAPER_PROFILE_RISE_RATE p)) (s.get (Obj.SHAPER_PROFILE_FALL_RATE p)) (s.get (Obj.SHAPER_PROFILE_MAX_CREDIT p))
      (now - h.step) (Fld.SN_CREDIT.getS e * 65536 + h.frac) (Fld.SN_SEND_LEFT.get e)
    (Fld.SN_SEND_LEFT.set (Fld.SN_CREDIT.setS e (r.1.fdiv 65536)) r.2, ⟨(r.1 % 65536).toNat, now⟩)

/-- Writes a shaper's entry and hidden state. -/
def State.putShaper (s : State) (n : Nat) (e : Nat) (h : ShaperState) : State :=
  let s := s.setDom Dom.SHAPER_NODES n e
  (s.withSched { s.sched with shapers := Table.put (fun _ => ({} : ShaperState)) s.sched.shapers n h })

/-- A node's entry as a selection of the present instant sees it: as it stood before the writes of the instant (R248). -/
def State.seenShaper (s : State) (n : Nat) : Nat :=
  match s.sched.oldShapers.find? fun x => Nat.beq x.1 n with
  | some x => x.2
  | none => (s.shaperNow n).1

/-- A write is about to change a node or its profile: selections of this instant go on with what stands now (R248). -/
def State.keepShaper (s : State) (n : Nat) : State :=
  if s.sched.oldShapers.any fun x => Nat.beq x.1 n then s
  else s.withSched { s.sched with oldShapers := s.sched.oldShapers ++ [(n, (s.shaperNow n).1)] }

/-- A node's shaper permits a selection (R229, R248). -/
def State.permits (s : State) (n : Nat) : Bool :=
  let e := s.seenShaper n
  Nat.beq (Fld.SN_ENABLE.get e) 0 || (decide (0 ≤ Fld.SN_CREDIT.getS e) && Nat.beq (Fld.SN_SEND_LEFT.get e) 0)

/-- Adds a sending span to an enabled node, one whose ENABLE this instant's writes have left as it was (R227, R248). -/
def State.send (s : State) (n span : Nat) : State :=
  let (e, h) := s.shaperNow n
  if Fld.SN_ENABLE.get e = 0 ∨ Fld.SN_ENABLE.get (s.seenShaper n) = 0 then s else s.putShaper n (Fld.SN_SEND_LEFT.set e (min (Fld.SN_SEND_LEFT.get e + span) (2 ^ 32 - 1))) h

/-- Resets a node's credit (R232). -/
def State.resetCredit (s : State) (n : Nat) : State :=
  let (e, h) := s.shaperNow n
  let p := Fld.SN_PROFILE.get e
  let c : Int := if s.on (Obj.SHAPER_PROFILE_RESET_TO p) then (s.get (Obj.SHAPER_PROFILE_MAX_CREDIT p) * 65536 : Nat) else 0
  s.putShaper n (Fld.SN_CREDIT.setS e c) { h with frac := 0 }

/-- Enabled nodes that name a profile. -/
def State.nodesOf (s : State) (p : Nat) : List Nat :=
  ((s.domEntries Dom.SHAPER_NODES).filter fun e => Nat.beq (Fld.SN_ENABLE.get e.2) 1 && Nat.beq (Fld.SN_PROFILE.get e.2) p).map (·.1)

/-- RISE_RATE, FALL_RATE, MAX_CREDIT of a profile (R232): the credits are brought up to date under the old values, then reset. -/
def ruleShaperProfile (p key v : Nat) (s : State) : Res :=
  let l := s.nodesOf p
  let s := forEach l s fun s n => let r := s.shaperNow n; (s.keepShaper n).putShaper n r.1 r.2
  let s := s.commit key v
  (.ok, forEach l s fun s n => s.resetCredit n)

/-- SHAPER_PROFILE_WRITE: subindex 1 + `field`: RISE_RATE, FALL_RATE, MAX_CREDIT. -/
def execShaperProfileWrite (profile : Fin 1024) (field : Fin 3) (master value : Nat) (s : State) : Out :=
  let key := objKey 0 (0x4400 + profile.val) (1 + field.val)
  s.rowWrite master key value (ruleShaperProfile profile key value)

/-- A write of a shaper entry resets the node's credit and keeps SEND_LEFT (R232). -/
def State.writeShaperNode (s : State) (n image : Nat) : State :=
  let s := s.keepShaper n
  let (e, h) := s.shaperNow n
  let e' := Fld.SN_PROFILE.set (Fld.SN_ENABLE.set e (Fld.SN_ENABLE.get image)) (Fld.SN_PROFILE.get image)
  let count := fun (s : State) (e : Nat) (up : Bool) =>
    if Fld.SN_ENABLE.get e = 1 then
      let k := Obj.SHAPER_PROFILE_NODES (Fld.SN_PROFILE.get e)
      s.set k (if up then s.get k + 1 else s.get k - 1)
    else s
  let s := count (count (s.putShaper n e' h) e false) e' true
  let s := s.resetCredit n
  s.journal (.dom Dom.SHAPER_NODES n (s.dom Dom.SHAPER_NODES n))

/-- Gates of a port before its first cycle. -/
def gateEmpty (_ : Nat) : GateState := {}
/-- Gate state of a scheduler port. -/
def State.gate (s : State) (p : Nat) : GateState := Table.get gateEmpty s.sched.gates p
/-- Sets it. -/
def State.setGate (s : State) (p : Nat) (g : GateState) : State :=
  (s.withSched { s.sched with gates := Table.put gateEmpty s.sched.gates p g })

/-- Slice of a scheduler port (R190). -/
def sliceOf (p : Nat) : Nat := if p < 128 then p / 16 else p - 128

/-- Reporting unit of a port's slice. -/
def uSlice (p : Nat) : Nat := uTS (sliceOf p)

/-- First instant of an absolute symbol of an air clock (R32, R241). -/
def symbolInstant (mu epoch : Nat) (a : Int) : Nat :=
  let slot := a.fdiv 14
  (slotInstant mu epoch (a - slot * 14).toNat slot).toNat

/-- Windows of a cycle of a list (R241). -/
def State.cycleWindows (s : State) (p bank mu epoch : Nat) (a0 : Int) (off : Int) (t0 : Nat) : List GateWindow × Nat :=
  let n := s.get (Obj.PORT_TIMING_COUNT_B p bank)
  (List.range n).foldl (fun (r : List GateWindow × Nat) i =>
    let e := s.dom Dom.GATE_LISTS (128 * p + 64 * bank + i)
    let stop := ((symbolInstant mu epoch (a0 + Fld.GL_END_SYM.get e) : Int) + off + Fld.GL_END_NS.getS e).toNat
    let start := max t0 r.2
    (if start < stop then r.1 ++ [⟨start, stop, Fld.GL_GATES.get e, i⟩] else r.1, stop)) ([], t0)

/-- GATE_CYCLE (R241 to R243): a cycle of a port begins at its action's instant, at the symbol and offset of the entry's contents that the
occurrence follows (R42). -/
def execGateCycle (s : State) : Out :=
  .next (match s.fire 1 with
    | (none, s) => s
    | (some a, s) =>
      let p := a.target
      let mu := s.mu a.clock
      let epoch := s.epoch a.clock
      let off := Fld.AIR_OFFSET.getS a.image
      let slot := (airPosition mu epoch ((a.due : Int) - off).toNat).absSlot
      let a0 : Int := 14 * slot + Fld.AIR_SYMBOL.get a.image
      let g := s.gate p
      let late := g.windows ≠ [] ∧ a.due < g.last
      let s := if late then (s.bump (Obj.PORT_TIMING_CYCLE_OVERRUNS p)).raise 0x4144 (uSlice p) 0 p else s
      let bank := s.get (Obj.PORT_TIMING_ACTIVE_BANK p)
      let swap := a.arg % 2 = 1
      let refused := s.get (Obj.PORT_TIMING_COUNT_B p (1 - bank)) = 0 ∨ g.swapped = some a.due
      let s :=
        if swap ∧ refused then s.bump (Obj.PORT_TIMING_SWAP_REFUSED p)
        else if swap then ((s.set (Obj.PORT_TIMING_ACTIVE_BANK p) (1 - bank)).bump (Obj.PORT_TIMING_SWAPS p)).raise 0x4045 (uSlice p) 0 p
        else s
      let now := s.get (Obj.PORT_TIMING_ACTIVE_BANK p)
      let (w, last) := s.cycleWindows p now mu epoch a0 off a.due
      let s := s.bump (Obj.PORT_TIMING_CYCLES p)
      s.setGate p { s.gate p with
        enable := s.on (Obj.PORT_TIMING_GATE_ENABLE p), gated := s.get (Obj.PORT_TIMING_GATED_CLASSES p)
        windows := w, last := last, swapped := if swap ∧ ¬ refused then some a.due else g.swapped
        broken := g.broken && !(decide (swap ∧ ¬ refused)) })

/-- Entry in force at an instant: ACTIVE_ENTRY reads it, 0xFF for none. -/
def State.activeEntry (s : State) (p t : Nat) : Nat :=
  match (s.gate p).windows.reverse.find? fun w => Nat.ble w.start t && Nat.blt t w.stop with
  | some w => w.entry
  | none => 0xFF

/-- GATE_ENTRY_END (R241): the entries that have ended give way to the next. -/
def execGateEntryEnd (port : Fin 136) (s : State) : Out :=
  s.inCore fun s => s.set (Obj.PORT_TIMING_ACTIVE_ENTRY port) (s.activeEntry port s.time.tai)

/-- GATE_ENABLE (R242): a write of 1 while gating is off closes the gated classes until the first cycle; every other write waits
for the next cycle (log entry 14). -/
def ruleGateEnable (p v : Nat) (s : State) : Res :=
  let s := s.commit (Obj.PORT_TIMING_GATE_ENABLE p) v
  let g := s.gate p
  (.ok, if v = 1 ∧ g.enable = false then
      s.setGate p { g with enable := true, gated := s.get (Obj.PORT_TIMING_GATED_CLASSES p), windows := [], last := 0 }
    else s)

/-- A GATE_CYCLE of a port that is due makes its pending bank active: from its instant t0 on (R243). -/
def State.swapDue (s : State) (p : Nat) : Bool :=
  s.on Obj.AIR_EVENT_CTRL_DISPATCH_ENABLE && s.time.fifo.any fun a =>
    Nat.beq a.action 1 && Nat.beq a.target p && Nat.beq (a.arg % 2) 1 && Nat.ble a.due s.time.tai &&
      !Nat.beq (s.get (Obj.PORT_TIMING_COUNT_B p (1 - s.get (Obj.PORT_TIMING_ACTIVE_BANK p)))) 0 && decide ((s.gate p).swapped ≠ some a.due)

/-- A write of a gate list entry (R240, R243): BUSY in the active bank, and in the pending bank from the instant of a swap. -/
def State.gateListStatus (s : State) (e : Nat) : Status :=
  if e % 128 / 64 = s.get (Obj.PORT_TIMING_ACTIVE_BANK (e / 128)) ∨ s.swapDue (e / 128) = true then .busy else .ok

/-- A write of a gate list entry; one of the active list rewrites it, so that gates closed by an error in it open again (R249; DESIGN CHOICE, log
entry 183). -/
def State.writeGateEntry (s : State) (e image : Nat) : State :=
  let p := e / 128
  let s := s.commitDom Dom.GATE_LISTS e image
  if e % 128 / 64 = s.get (Obj.PORT_TIMING_ACTIVE_BANK p) then s.setGate p { s.gate p with broken := false } else s

/-- What the gates say of a class at a predicted start. -/
inductive GateSays where
  | closed
  /-- Open, but the guard withholds it. -/
  | guarded
  | openIn (win : Option (Nat × Nat))
deriving DecidableEq, Repr

/-- Runs of consecutive entries that open a class: first instant and end. -/
def gateRuns (c : Nat) : List GateWindow → List (Nat × Nat)
  | [] => []
  | w :: l =>
    let rest := gateRuns c l
    if w.gates.testBit c then
      match rest with
      | (a, b) :: r => if l.head?.any (fun x => x.gates.testBit c) then (w.start, b) :: r else (w.start, w.stop) :: (a, b) :: r
      | [] => [(w.start, w.stop)]
    else rest

/-- Whether a class may start a frame of `bytes` at `ts` (R245). -/
def State.gateSays (s : State) (p c ts bytes : Nat) : GateSays :=
  let g := s.gate p
  if g.enable = false ∨ g.gated.testBit c = false then .openIn none
  else if g.broken then .closed
  else
    let guard := s.get (Obj.PORT_TIMING_GUARD_NS p)
    match (gateRuns c g.windows).find? fun w => Nat.ble w.1 ts && Nat.blt ts w.2 with
    | none => .closed
    | some w =>
      let fits := if s.get (Obj.PORT_TIMING_GUARD_MODE p) = 0 then Nat.blt (ts + guard) w.2
        else Nat.ble (ts + wireNs bytes (s.spanRate p) + guard) w.2
      if fits then .openIn (some w) else .guarded

/-- Predicted start of a frame selected now (R244). -/
def State.predicted (s : State) (p : Nat) : Nat :=
  max (s.time.tai + s.txLead p + (if p < 128 ∧ (s.part p 0).state = 1 then 40 else 0)) (s.gate p).wireFree

/-- The predicted wire time of a frame gives way to that of its actual length (R244): `charged` bytes were judged, `len` leave. -/
def State.wireActual (s : State) (p charged len : Nat) : State :=
  let rate := s.spanRate p
  s.setGate p { s.gate p with wireFree := (s.gate p).wireFree - wireNs charged rate + wireNs (len + 20) rate }

/-- A line port's pause interval. -/
def State.pauseOf (s : State) (p k : Nat) : PauseState := Table.get (fun _ => {}) s.line.pause (p * 16 + k)

/-- An interval covers the present instant. -/
def State.pausedNow (s : State) (p k : Nat) : Bool :=
  Nat.ble (s.pauseOf p k).start (100 * s.time.now) && Nat.blt (100 * s.time.now) (s.pauseOf p k).stop

/-- Value of a port setting in effect: a write of it takes effect 64 ns after its completion (R289). -/
def State.setting (s : State) (k : Nat) : Nat :=
  match s.line.late.find? fun w => Nat.beq w.key k && Nat.blt s.time.now w.at' with
  | some w => w.old
  | none => s.get k

/-- A pause has held the class for 64 ns, and no write of PAUSE_EXEMPT has ended that hold (R276, R289). -/
def State.classHeld (s : State) (p c : Nat) : Bool :=
  let due := fun k => s.pausedNow p k && Nat.ble ((s.pauseOf p k).start + 6400) (100 * s.time.now)
  let due := fun k => due k && !((s.pauseOf p k).spared.any fun x => Nat.beq x.cls c && Nat.ble x.start (100 * s.time.now) &&
    (match x.stop with | none => true | some e => Nat.blt (100 * s.time.now) e))
  Nat.blt p 128 && !(s.setting (Obj.LINE_PORT_PAUSE_EXEMPT p)).testBit c &&
  (match s.setting (Obj.LINE_PORT_FC_RX_MODE p) with
  | 1 => due 8
  | 2 => (List.range 8).any fun i => Nat.beq (bits (s.setting (Obj.LINE_PORT_PFC_CLASS_MAP p)) (4 * i) 3) c && due i
  | _ => false)

end Sys2Proof.Machine
end

