-- ==== Sys2Proof/Machine/Voq.lean ====
section
/-! DEFINITION. Cells and messages of the fabric, the scheduled VOQs and the requests of the others (R294, R298, R299, R303, R304,
R330, R331). -/

namespace Sys2Proof.Machine

/-- Nothing counted. -/
def zeroN (_ : Nat) : Nat := 0

/-- Cell types (R294). -/
abbrev cIDLE : Nat := 0
/-- DATA. -/
abbrev cDATA : Nat := 1
/-- CONTROL. -/
abbrev cCONTROL : Nat := 2
/-- SCHEDULED. -/
abbrev cSCHEDULED : Nat := 3
/-- LINK. -/
abbrev cLINK : Nat := 4
/-- AIS. -/
abbrev cAIS : Nat := 7

/-- A LINK cell. -/
def OutCell.isLink (c : OutCell) : Bool := Nat.beq (bits (byteAt c.bytes 0) 5 3) cLINK

/-- CHECK of a cell: over header bytes 0 to 13 and the payload (R294). -/
def cellCheck (cell : List Byte) : Nat := crc 16 0x1021 0xFFFF (cell.take 14 ++ (cell.drop 16).take 240)

/-- The 256 bytes of a cell with a header but for CHECK, and a payload filled up with zeros (R294). -/
def mkCell (header : Nat) (payload : List Byte) : List Byte :=
  let body := (payload ++ List.replicate 240 (0#8)).take 240
  let h := bytesBE 16 header
  h.take 14 ++ bytesBE 2 (cellCheck (h ++ body)) ++ body

/-- A header of type `t` from this device (R294). -/
def State.cellHeader (s : State) (t dest valid : Nat) : Nat :=
  Fld.CELL_TYPE.set (Fld.CELL_DEST_DEV.set (Fld.CELL_SRC_DEV.set (Fld.CELL_VALID_BYTES.set 0 valid) (s.get Obj.FABRIC_CTRL_DEVICE_ID)) dest) t

/-- An IDLE cell. -/
def State.idleCell (s : State) : List Byte := mkCell (s.cellHeader cIDLE 0 0) []

/-- A CONTROL or LINK cell with its messages (R298). -/
def State.messageCell (s : State) (t dest : Nat) (msgs : List Nat) : List Byte :=
  mkCell (s.cellHeader t dest (16 * msgs.length)) (msgs.flatMap (bytesBE 16))

/-- Closes the part-filled CONTROL cell of a destination (R299). -/
def State.packControl (s : State) (d : Nat) : State :=
  match Table.get (fun _ => none) s.fab.packing d with
  | none => s
  | some (_, msgs) =>
    (s.withFab { s.fab with
      packing := Table.put (fun _ => none) s.fab.packing d none
      control := s.fab.control ++ [{ dest := d, bytes := s.messageCell cCONTROL d msgs }] })

/-- Adds a message for a destination to its CONTROL cell, which leaves when it is full (R298, R299). -/
def State.pushMessage (s : State) (d msg : Nat) : State :=
  let (t, msgs) := (Table.get (fun _ => none) s.fab.packing d).getD (s.time.now, [])
  let s : State := (s.withFab { s.fab with packing := Table.put (fun _ => none) s.fab.packing d (some (t, msgs ++ [msg])) })
  if msgs.length + 1 < 15 then s else s.packControl d

/-- A destination whose reachability has not changed since reset. -/
def neverReached (_ : Nat) : Option (Option Nat) := none

/-- Elapsed instant since which a destination has been unreachable: no lane is in the spray set at reset (R303). -/
def State.unreachSince (s : State) (d : Nat) : Option Nat := (Table.get neverReached s.fab.unreach d).getD (some s.fab.darkSince)

/-- Sets it. -/
def State.setUnreach (s : State) (d : Nat) (x : Option Nat) : State :=
  s.withFab { s.fab with unreach := Table.put neverReached s.fab.unreach d (some x) }

/-- A destination is unreachable (R303). -/
def State.unreachable (s : State) (d : Nat) : Bool := (s.unreachSince d).isSome

/-- REQUEST message (R298). -/
def requestMessage (requesting granting q cls on seq : Nat) : Nat :=
  1 * 2 ^ 124 + requesting * 2 ^ 116 + granting * 2 ^ 108 + q * 2 ^ 102 + cls * 2 ^ 99 + on * 2 ^ 98 + seq * 2 ^ 94

/-- GRANT message (R298). -/
def grantMessage (granting requesting q cls n : Nat) : Nat :=
  2 * 2 ^ 124 + granting * 2 ^ 116 + requesting * 2 ^ 108 + q * 2 ^ 102 + cls * 2 ^ 99 + n * 2 ^ 74

/-- REACH message (R298). -/
def reachMessage (fromElement quarter device map : Nat) : Nat :=
  3 * 2 ^ 124 + fromElement * 2 ^ 123 + quarter * 2 ^ 121 + device * 2 ^ 113 + map

/-- The fabric interface is in service. -/
def State.fabricOn (s : State) : Bool := s.on Obj.FABRIC_CTRL_FABRIC_ENABLE

/-- Sends the REQUEST of a VOQ's present state; a VOQ of an unreachable destination sends none (R303, R304). -/
def State.sendRequest (s : State) (v : Nat) : State :=
  let d := v / 512
  if !s.fabricOn || s.unreachable d then s
  else
    let seq := (Table.get zeroN s.fab.reqSeq v + 1) % 16
    let on := Fld.VS_REQUEST.get (s.dom Dom.VOQ_STATE v)
    let s : State := (s.withFab { s.fab with
      reqSeq := Table.put zeroN s.fab.reqSeq v seq
      reqAt := Table.put zeroN s.fab.reqAt v s.time.now })
    (s.bump Obj.CREDIT_CTRL_REQUESTS_SENT).pushMessage d
      (requestMessage (s.get Obj.FABRIC_CTRL_DEVICE_ID) d (v / 8 % 64) (v % 8) on seq)

/-! ### Scheduled lanes -/

/-- Entry of the connection memory (R330); `dir` 0 transmit, 1 receive. -/
def cmIndex (k dir page f slot : Nat) : Nat := 4096 * k + 2048 * dir + 1024 * page + 16 * f + slot

/-- VOQ that feeds the flow of a transmit entry (R331). -/
def State.flowVoq (s : State) (e : Nat) : Nat :=
  (64 * Fld.CM_DEST_DEV.get e + Fld.CM_DEST_PORT.get e) * 8 + Fld.DF_CLASS.get (s.dom Dom.DET_FLOWS (Fld.CM_FLOW.get e))

/-- The scheduled lane in service on a fabric lane. -/
def State.schedLane (s : State) (lane : Nat) : Option Nat :=
  (List.range 16).find? fun k => s.on (Obj.SCHED_LANE_SL_ENABLE k) && Nat.beq (s.get (Obj.SCHED_LANE_SL_LANE k)) lane

/-- Valid entries of one page of a scheduled lane. -/
def State.pageEntries (s : State) (k dir page : Nat) : List Nat :=
  let lo := cmIndex k dir page 0 0
  ((s.domEntries Dom.CONN_MEMORY).filter fun e => Nat.ble lo e.1 && Nat.blt e.1 (lo + 1024) && Nat.beq (Fld.CM_VALID.get e.2) 1).map (·.2)

/-- Valid entries of the active transmit pages in service. -/
def State.activeTx (s : State) : List Nat :=
  (List.range 16).flatMap fun k =>
    if s.on (Obj.SCHED_LANE_SL_ENABLE k) then s.pageEntries k 0 (s.get (Obj.SCHED_LANE_TX_PAGE k)) else []

/-- A VOQ is named by an active transmit page (R331). -/
def State.scheduledVoq (s : State) (v : Nat) : Bool := s.activeTx.any fun e => Nat.beq (s.flowVoq e) v

/-- Lowest-numbered flow that names a VOQ: the one that is served (R331). -/
def State.servesVoq (s : State) (v flow : Nat) : Bool :=
  !(s.activeTx.any fun e => Nat.beq (s.flowVoq e) v && Nat.blt (Fld.CM_FLOW.get e) flow)

end Sys2Proof.Machine
end

