-- ==== Sys2Proof/Machine/Queues.lean ====
section
/-! DEFINITION. The queues of the egress hierarchy and the VOQs: their lengths, the backlog of users, groups and classes, deficit
round robin and weighted fair queueing (R159, R170, R178, R186 to R204), and the pools' occupancy (R158 to R164, R185). -/

namespace Sys2Proof.Machine

/-- First combined index of a VOQ (R168). -/
abbrev voqBase : Nat := 524288

/-- Key of a queue's length in a region. -/
def lenKey (q g : Nat) : Nat := q * 32 + g
/-- Key of its total length. -/
def lenTotal (q : Nat) : Nat := q * 32 + 3
/-- Key of its length in a privileged pool. -/
def lenPriv (q g pp : Nat) : Nat := q * 32 + 4 + g * 8 + pp

/-- Units a queue holds under a key (R170). -/
def State.len (s : State) (k : Nat) : Nat := Table.get zeroN s.net.lens k
/-- A queue's total length (R159). -/
def State.qlen (s : State) (q : Nat) : Nat := s.len (lenTotal q)

/-- Total length of the queues that hang under a port (R209). -/
def State.lenUnder (s : State) (p : Nat) : Nat :=
  ((s.net.lens.filter fun e => Nat.beq (e.1 % 32) 3 && Nat.blt (e.1 / 32) voqBase && s.hangsUnder (e.1 / 32) p).map fun e => e.2).sum

/-- CREDIT_PCT, CREDIT_HOLD, CREDIT_RESUME, GRANTED_BYTES and HELD of a scheduler port (R209). -/
def creditKeys (p : Nat) : Nat × Nat × Nat × Nat × Nat :=
  if p < 128 then (Obj.CREDIT_PORT_CREDIT_PCT p, Obj.CREDIT_PORT_CREDIT_HOLD p, Obj.CREDIT_PORT_CREDIT_RESUME p,
    Obj.CREDIT_PORT_GRANTED_BYTES p, Obj.CREDIT_PORT_HELD p)
  else (Obj.CREDIT_SPECIAL_CREDIT_PCT (p - 128), Obj.CREDIT_SPECIAL_CREDIT_HOLD (p - 128), Obj.CREDIT_SPECIAL_CREDIT_RESUME (p - 128),
    Obj.CREDIT_SPECIAL_GRANTED_BYTES (p - 128), Obj.CREDIT_SPECIAL_HELD (p - 128))

/-- Credit for a port stops at CREDIT_HOLD units and starts again below CREDIT_RESUME (R209). -/
def State.creditHeld (s : State) (p : Nat) : State :=
  let (_, hold, resume, _, held) := creditKeys p
  let n := s.lenUnder p
  if s.get hold ≤ n then s.set held 1 else if n < s.get resume then s.set held 0 else s

/-- Changes a queue's lengths by `n` units held in a region and, where `pp` is not 0, in its privileged pool; the credit of
the port above follows. -/
def State.addLen (s : State) (q g pp : Nat) (up : Bool) (n : Nat) : State :=
  let move := fun (t : Table Nat) (k : Nat) => Table.put zeroN t k (if up then Table.get zeroN t k + n else Table.get zeroN t k - n)
  let t := move (move s.net.lens (lenKey q g)) (lenTotal q)
  let s : State := (s.withNet { s.net with lens := if pp = 0 then t else move t (lenPriv q g pp) })
  if voqBase ≤ q then s else s.creditHeld (Fld.GRP_PORT.get (s.dom Dom.GROUPS (Fld.USR_GROUP.get (s.dom Dom.USERS (q / 4)))))

/-- Packets of a queue in order of admission. -/
def State.queue (s : State) (q : Nat) : List Pkt := Table.get noList s.net.queues q
/-- Sets them. -/
def State.setQueue (s : State) (q : Nat) (l : List Pkt) : State :=
  (s.withNet { s.net with queues := Table.put noList s.net.queues q l })

/-- All of a packet's units have arrived. -/
def Pkt.complete (p : Pkt) : Bool := Nat.ble p.whole p.arrived

/-- The head of a queue, when it is selectable (R189). -/
def State.headOf (s : State) (q : Nat) : Option Pkt :=
  match s.queue q with
  | p :: _ => if p.complete || p.ct then some p else none
  | [] => none

/-- Lowest-numbered backlogged bearer of a user (R204). -/
def State.bearerOf (s : State) (u : Nat) : Option Nat := [0, 1, 2, 3].find? fun b => (s.headOf (4 * u + b)).isSome

/-- Cells of a packet in transmission that lie beyond a broken link (R183). -/
def Pkt.cellsLost (k : Pkt) : Nat := match k.broken with
  | some n => k.cells.length - n
  | none => 0

/-- Head packet of a user (R200). -/
def State.userHead (s : State) (u : Nat) : Option Pkt :=
  match s.bearerOf u with
  | some b => s.headOf (4 * u + b)
  | none => none

/-- Class list of a port (R195). -/
def State.classList (s : State) (p : Nat) : List Nat := Table.get noList s.sched.classes p
/-- Group list of a (port, class). -/
def State.groupList (s : State) (pc : Nat) : List Nat := Table.get noList s.sched.groups pc
/-- Backlogged users of a group. -/
def State.usersOf (s : State) (g : Nat) : List Nat := Table.get noList s.sched.users g
/-- WFQ set of a group (R200). -/
def State.wfqOf (s : State) (g : Nat) : List Nat := Table.get noList s.sched.wfq g
/-- Sets the class list. -/
def State.setClassList (s : State) (p : Nat) (l : List Nat) : State :=
  (s.withSched { s.sched with classes := Table.put noList s.sched.classes p l })
/-- Sets the group list. -/
def State.setGroupList (s : State) (pc : Nat) (l : List Nat) : State :=
  (s.withSched { s.sched with groups := Table.put noList s.sched.groups pc l })
/-- Sets the backlogged users. -/
def State.setUsersOf (s : State) (g : Nat) (l : List Nat) : State :=
  (s.withSched { s.sched with users := Table.put noList s.sched.users g l })
/-- Sets the WFQ set. -/
def State.setWfqOf (s : State) (g : Nat) (l : List Nat) : State :=
  (s.withSched { s.sched with wfq := Table.put noList s.sched.wfq g l })

/-- A number put into an ascending list once. -/
def insertUp (n : Nat) : List Nat → List Nat
  | [] => [n]
  | m :: l => if n < m then n :: m :: l else if n = m then m :: l else m :: insertUp n l

/-- Quantum of a class in bytes (R195). -/
def State.classQuantum (s : State) (pc : Nat) : Int := (Fld.PC_QUANTUM.get (s.dom Dom.PORT_CLASSES pc) * 256 : Nat)
/-- Quantum of a group in bytes. -/
def State.groupQuantum (s : State) (g : Nat) : Int := (Fld.GRP_QUANTUM.get (s.dom Dom.GROUPS g) * 256 : Nat)
/-- Sets a class's deficit. -/
def State.setClassDeficit (s : State) (pc : Nat) (d : Int) : State :=
  s.setField Dom.PORT_CLASSES pc Fld.PC_DEFICIT (unsigned 24 d)
/-- Sets a group's deficit. -/
def State.setGroupDeficit (s : State) (g : Nat) (d : Int) : State := s.setField Dom.GROUPS g Fld.GRP_DEFICIT (unsigned 24 d)

/-- A class joins or leaves its port's list as its backlog or STRICT says (drr_join, R195, R197, R206). -/
def State.refreshClass (s : State) (pc : Nat) : State :=
  let p := pc / 8
  let l := s.classList p
  let want : Bool := !(s.groupList pc).isEmpty && Nat.beq (Fld.PC_STRICT.get (s.dom Dom.PORT_CLASSES pc)) 0
  if want && !l.contains (pc % 8) then (s.setClassDeficit pc (s.classQuantum pc)).setClassList p (l ++ [pc % 8])
  else if !want && l.contains (pc % 8) then (s.setClassDeficit pc 0).setClassList p (l.filter (· != pc % 8))
  else s

/-- (Port, class) of a group. -/
def State.groupParent (s : State) (g : Nat) : Nat :=
  let e := s.dom Dom.GROUPS g
  8 * Fld.GRP_PORT.get e + Fld.GRP_CLASS.get e

/-- A group joins or leaves its list as its backlog says (drr_join, R195). -/
def State.refreshGroup (s : State) (g : Nat) : State :=
  let pc := s.groupParent g
  let l := s.groupList pc
  let want : Bool := !(s.usersOf g).isEmpty
  let s :=
    if want && !l.contains g then (s.setGroupDeficit g (s.groupQuantum g)).setGroupList pc (l ++ [g])
    else if !want && l.contains g then (s.setGroupDeficit g 0).setGroupList pc (l.filter (· != g))
    else s
  s.refreshClass pc

/-- INV of a user (R198). -/
def State.invOf (s : State) (u : Nat) : Nat :=
  let e := s.dom Dom.USERS u
  Fld.USR_INV_MANT.get e * 2 ^ Fld.USR_INV_EXP.get e

/-- The pair (m, e) nearest to 2^26 / W, the even m on a tie (R198). -/
def invWeight (w : Nat) : Nat × Nat :=
  let err := fun (c : Nat × Nat) => (((c.1 * 2 ^ c.2 * w : Nat) : Int) - 2 ^ 26).natAbs
  let cands := (List.range 16).flatMap fun e =>
    let m := 2 ^ 26 / (w * 2 ^ e)
    [(m, e), (m + 1, e)].filter fun c => Nat.ble 2048 c.1 && Nat.ble c.1 4095
  cands.foldl (fun best c =>
    if err c < err best ∨ (err c = err best ∧ c.1 % 2 = 0 ∧ best.1 % 2 = 1) then c else best) (cands.headD (2048, 15))

/-- Tag arithmetic is modulo 2^48 (R200). -/
def tag48 (n : Nat) : Nat := n % 2 ^ 48

/-- Port a group hangs under. -/
def State.groupPort (s : State) (g : Nat) : Nat := Fld.GRP_PORT.get (s.dom Dom.GROUPS g)

/-- F = S + c(head) · INV (R200). -/
def State.setFinish (s : State) (g u : Nat) : State :=
  match s.userHead u with
  | some h => s.setField Dom.USERS u Fld.USR_F (tag48 (Fld.USR_S.get (s.dom Dom.USERS u) + s.chargeOf (s.groupPort g) h.len * s.invOf u))
  | none => s

/-- wfq_join (R200, R201). -/
def State.wfqJoin (s : State) (g u : Nat) : State :=
  let s := s.setField Dom.USERS u Fld.USR_S (Fld.GRP_V.get (s.dom Dom.GROUPS g))
  (s.setFinish g u).setWfqOf g (insertUp u (s.wfqOf g))

/-- A user's place among the backlogged users of its group and in its WFQ set follows its queues and its shaper (R200, R201);
`changed`: its head packet is another one. -/
def State.refreshUser (s : State) (u : Nat) (changed : Bool) : State :=
  let e := s.dom Dom.USERS u
  let g := Fld.USR_GROUP.get e
  let back : Bool := Nat.beq (Fld.USR_VALID.get e) 1 && Nat.beq (Fld.GRP_VALID.get (s.dom Dom.GROUPS g)) 1 && (s.bearerOf u).isSome
  let s := s.setUsersOf g (if back then insertUp u (s.usersOf g) else (s.usersOf g).filter (· != u))
  let want : Bool := back && s.permits (nodeUser u)
  let inSet := (s.wfqOf g).contains u
  let s :=
    if want && !inSet then s.wfqJoin g u
    else if !want && inSet then s.setWfqOf g ((s.wfqOf g).filter (· != u))
    else if want && changed then s.setFinish g u
    else s
  s.refreshGroup g

/-- Adds to a counter a positive credit balance that a VOQ loses (R208). -/
def State.wasteCredit (s : State) (v : Nat) : State :=
  let b := Fld.VS_BALANCE.getS (s.dom Dom.VOQ_STATE v)
  if 0 < b then (s.setField Dom.VOQ_STATE v Fld.VS_BALANCE 0).bump Obj.VOQ_CTRL_CREDIT_WASTED b.toNat else s

/-- The request state of a VOQ follows its packets and its balance; a change sends a REQUEST, but not of a scheduled VOQ (R304, R331). -/
def State.voqRequest (s : State) (v : Nat) : State :=
  let e := s.dom Dom.VOQ_STATE v
  let on := ofBool (!(s.queue (voqBase + v)).isEmpty && decide (Fld.VS_BALANCE.getS e < (s.get Obj.CREDIT_CTRL_REQ_LEVEL : Nat)))
  if on = Fld.VS_REQUEST.get e then s
  else
    let s := s.setField Dom.VOQ_STATE v Fld.VS_REQUEST on
    if s.scheduledVoq v then s else s.sendRequest v

/-- What follows a change of a VOQ's packets (R208, R304). -/
def State.voqFollow (s : State) (v : Nat) : State :=
  let s := if (s.queue (voqBase + v)).isEmpty then s.wasteCredit v else s
  s.voqRequest v

/-- Every VOQ that holds packets or an outstanding request is judged again: a page, a flow or REQ_LEVEL has changed. -/
def State.voqsAgain (s : State) : State :=
  let vs := ((s.net.queues.filter fun e => Nat.ble voqBase e.1).map fun e => e.1 - voqBase) ++ (s.domEntries Dom.VOQ_STATE).map (·.1)
  forEach vs s fun s v => s.voqRequest v

/-- Changes a queue; the nodes above follow (R189, R204), or the VOQ's credit and request (R208, R304). -/
def State.changing (s : State) (q : Nat) (f : State → State) : State :=
  if voqBase ≤ q then (f s).voqFollow (q - voqBase)
  else
    let u := q / 4
    let h := (s.userHead u).map (·.id)
    let s := f s
    s.refreshUser u (decide (h ≠ (s.userHead u).map (·.id)))

/-- drr_charge on a group (R195). -/
def State.chargeGroup (s : State) (g c : Nat) : State :=
  let pc := s.groupParent g
  let l := s.groupList pc
  if l.contains g = false then s
  else
    let d := Fld.GRP_DEFICIT.getS (s.dom Dom.GROUPS g) - c
    if d ≤ 0 then (s.setGroupDeficit g (d + s.groupQuantum g)).setGroupList pc (l.filter (· != g) ++ [g])
    else s.setGroupDeficit g d

/-- drr_charge on a class (R195, R197). -/
def State.chargeClass (s : State) (pc c : Nat) : State :=
  let p := pc / 8
  let l := s.classList p
  if l.contains (pc % 8) = false then s
  else
    let d := Fld.PC_DEFICIT.getS (s.dom Dom.PORT_CLASSES pc) - c
    if d ≤ 0 then (s.setClassDeficit pc (d + s.classQuantum pc)).setClassList p (l.filter (· != pc % 8) ++ [pc % 8])
    else s.setClassDeficit pc d

/-! ### Pools -/

/-- Region 0 and region 1 in units, R158. -/
def State.regionUnits (s : State) (g : Nat) : Nat :=
  match g with
  | 0 => 786432 - s.get Obj.BUFFER_CTRL_HC_SIZE_MB * 4096
  | 1 => s.get Obj.BUFFER_CTRL_HC_SIZE_MB * 4096
  | _ => 201326592

/-- A region is in cell-chain mode. -/
def State.cells (s : State) (g : Nat) : Bool := Nat.beq (s.get (Obj.BUFFER_REGION_MODE g)) 0

/-- Number of a privileged pool's record: pool 1 to 4 of a region. -/
def ppIndex (g pp : Nat) : Nat := 4 * g + pp - 1
/-- Number of a general pool's record. -/
def poolIndex (g j : Nat) : Nat := 8 * g + j

/-- Bytes of a privileged pool's buffer (R163). -/
def State.ppBytes (s : State) (g pp : Nat) : Nat := if s.cells g then 256 else s.get (Obj.PRIV_POOL_BUF_BYTES (ppIndex g pp))

/-- Units of the privileged pools of a region. -/
def State.privUnits (s : State) (g : Nat) : Nat :=
  ([1, 2, 3, 4].map fun pp => s.get (Obj.PRIV_POOL_BUF_COUNT (ppIndex g pp)) * (s.ppBytes g pp / 256)).sum

/-- Units of the general pools of a region in sized-pool mode. -/
def State.poolUnits (s : State) (g : Nat) : Nat :=
  ((List.range 8).map fun j => s.get (Obj.POOL_BUF_COUNT (poolIndex g j)) * (s.get (Obj.POOL_BUF_BYTES (poolIndex g j)) / 256)).sum

/-- TOTAL_UNITS (R158, R163). -/
def State.totalUnits (s : State) (g : Nat) : Nat := if s.cells g then s.regionUnits g - s.privUnits g else s.poolUnits g

/-- A channel of HBM0 to HBM2 has failed: region 2 places no packet any more (R362). -/
def State.region2Gone (s : State) : Bool := [0, 1, 2].any fun k => !Nat.beq (s.get (Obj.HBM_STACK_CHAN_FAILED k)) 0

/-- FREE_UNITS: neither allocated nor reserved, nor lost to allocation. -/
def State.freeUnits (s : State) (g : Nat) : Nat :=
  if g = 2 ∧ s.region2Gone = true then 0 else s.totalUnits g - Table.get zeroN s.net.used g

/-- Key of a general pool's occupancy. -/
def poolKey (g j : Nat) : Nat := g * 16 + j
/-- Key of a privileged pool's occupancy. -/
def ppKey (g pp : Nat) : Nat := g * 16 + 8 + pp

/-- Free buffers of a general pool. -/
def State.poolFree (s : State) (g j : Nat) : Nat := s.get (Obj.POOL_BUF_COUNT (poolIndex g j)) - Table.get zeroN s.net.poolUsed (poolKey g j)
/-- Free buffers of a privileged pool. -/
def State.ppFree (s : State) (g pp : Nat) : Nat :=
  s.get (Obj.PRIV_POOL_BUF_COUNT (ppIndex g pp)) - Table.get zeroN s.net.poolUsed (ppKey g pp)

/-- Low-water events of a region (R185): E-4140 at each fall below the mark, E-4040 at the first rise above the mark and 5 percent after
one. -/
def State.lowWater (s : State) (g : Nat) : State :=
  let pct := s.get (Obj.BUFFER_REGION_LOW_WATER_PCT g)
  let free := s.freeUnits g * 100
  let total := s.totalUnits g
  if s.get Obj.BUFFER_CTRL_BUF_ENABLE = 0 then s
  else if free < pct * total then
    if s.net.lowWater.contains g then s
    else (s.withNet { s.net with lowWater := insertUp g s.net.lowWater, lowArmed := insertUp g s.net.lowArmed }).raise 0x4140 uTD2D 0 g
  else
    let s : State := s.withNet { s.net with lowWater := s.net.lowWater.filter (· != g) }
    if s.net.lowArmed.contains g = true ∧ (pct + 5) * total < free then
      (s.withNet { s.net with lowArmed := s.net.lowArmed.filter (· != g) }).raise 0x4040 uTD2D 0 g
    else s

/-- Takes general units of a region. -/
def State.takeUnits (s : State) (g n : Nat) : State :=
  let u := Table.get zeroN s.net.used g + n
  (s.withNet { s.net with
    used := Table.put zeroN s.net.used g u
    usedMax := Table.put zeroN s.net.usedMax g (max u (Table.get zeroN s.net.usedMax g)) }).lowWater g

/-- Returns general units of a region. -/
def State.freeGeneral (s : State) (g n : Nat) : State :=
  (s.withNet { s.net with used := Table.put zeroN s.net.used g (Table.get zeroN s.net.used g - n) }).lowWater g

/-- Takes buffers of a pool by key. -/
def State.takePool (s : State) (k n : Nat) : State :=
  let u := Table.get zeroN s.net.poolUsed k + n
  (s.withNet { s.net with
    poolUsed := Table.put zeroN s.net.poolUsed k u
    poolMax := Table.put zeroN s.net.poolMax k (max u (Table.get zeroN s.net.poolMax k)) })

/-- Returns buffers of a pool. -/
def State.freePool (s : State) (k n : Nat) : State :=
  (s.withNet { s.net with poolUsed := Table.put zeroN s.net.poolUsed k (Table.get zeroN s.net.poolUsed k - n) })

/-! Free lists and bitmaps: which buffers are free (R161 to R163). -/

/-- A whole list. -/
def wholeList (_ : Nat) : FreeList := {}
/-- A free list of the net state. -/
def State.freeList (s : State) (k : Nat) : FreeList := Table.get wholeList s.net.frees k
/-- Sets it. -/
def State.setFreeList (s : State) (k : Nat) (f : FreeList) : State := s.withNet { s.net with frees := Table.put wholeList s.net.frees k f }

/-- Sub-list of a cell (R161). -/
def subKey (g c : Nat) : Nat := 64 * g + c % 32
/-- List of a general pool. -/
def poolList (g j : Nat) : Nat := 64 * g + 32 + j

/-- Cells of a region whose index is `sub` modulo 32, of `n` cells in all. -/
def subSize (n sub : Nat) : Nat := (n + 31 - sub) / 32

/-- Buffers on a list that began with `size` of them. -/
def FreeList.length (f : FreeList) (size : Nat) : Nat := f.back.length + (min size (f.cut.getD size) - f.taken)

/-- Takes the top of a list; `name i` is the i-th buffer of its first order. -/
def FreeList.pop (f : FreeList) (size : Nat) (name : Nat → Nat) : Option (Nat × FreeList) :=
  match f.back with
  | c :: l => some (c, { f with back := l })
  | [] => if f.taken < min size (f.cut.getD size) then some (name f.taken, { f with taken := f.taken + 1 }) else none

/-- Puts a buffer on top. -/
def FreeList.push (f : FreeList) (c : Nat) : FreeList := { f with back := c :: f.back }

/-- Cuts a list after `n` buffers (R184). -/
def FreeList.cutAt (f : FreeList) (size n : Nat) : FreeList :=
  { f with back := f.back.take n, cut := some (min (min size (f.cut.getD size)) (f.taken + (n - f.back.length))) }

/-- Takes one free cell of a region: from the next sub-list in rotation that holds one (log entry 141). -/
def State.popCell (s : State) (g : Nat) : List Nat × State :=
  let r := Table.get zeroN s.net.sub g
  let n := s.totalUnits g
  match ((List.range 32).map fun i => (r + i) % 32).findSome? fun b =>
      ((s.freeList (64 * g + b)).pop (subSize n b) fun i => 32 * i + b).map fun x => (b, x) with
  | some (b, c, f) => ([c], (s.setFreeList (64 * g + b) f).withNet { (s.setFreeList (64 * g + b) f).net with
      sub := Table.put zeroN s.net.sub g ((b + 1) % 32) })
  | none => ([], s)

/-- `n` takes one after the other, and what they took in order. -/
def takeEach (take : State → List Nat × State) : Nat → State → List Nat × State
  | 0, s => ([], s)
  | n + 1, s =>
    let (a, s) := take s
    let (l, s) := takeEach take n s
    (a ++ l, s)

/-- Takes `n` free cells. -/
def State.popCells (s : State) (g n : Nat) : List Nat × State := takeEach (fun s => s.popCell g) n s

/-- Takes the top buffer of a general pool. -/
def State.popPool (s : State) (g j : Nat) : List Nat × State :=
  match (s.freeList (poolList g j)).pop (s.get (Obj.POOL_BUF_COUNT (poolIndex g j))) id with
  | some (c, f) => ([c], s.setFreeList (poolList g j) f)
  | none => ([], s)

/-- The 64 pointers of a pool that are held ready on die: the top of its list (R162). -/
def State.readyPointers (s : State) (g j : Nat) : List Nat :=
  let f := s.freeList (poolList g j)
  let size := s.get (Obj.POOL_BUF_COUNT (poolIndex g j))
  (f.back ++ (List.range (min 64 (min size (f.cut.getD size) - f.taken))).map (f.taken + ·)).take 64

/-- Lowest-numbered free buffer of a privileged pool (R163). -/
def State.popMap (s : State) (g pp : Nat) : List Nat × State :=
  let m := Table.get zeroN s.net.maps (ppKey g pp)
  match (List.range (s.get (Obj.PRIV_POOL_BUF_COUNT (ppIndex g pp)))).find? fun i => !m.testBit i with
  | some i => ([i], s.withNet { s.net with maps := Table.put zeroN s.net.maps (ppKey g pp) (m + 2 ^ i) })
  | none => ([], s)

/-- Allocates `n` buffers of the place a packet has (R161 to R163). -/
def State.alloc (s : State) (g pp j n : Nat) : List Nat × State :=
  if pp ≠ 0 then takeEach (fun s => s.popMap g pp) n s
  else if s.cells g then s.popCells g n
  else s.popPool g j

/-- Every packet that may hold buffers: in the queues, selected, at its MAC, and on the wire. -/
def State.holders (s : State) : List Pkt :=
  s.net.queues.flatMap (·.2) ++ s.net.egress.flatMap (·.2) ++ s.net.tx.flatMap (·.2) ++ s.net.wire.filterMap fun e => e.2.map (·.1)

/-- Successor of a cell in the link memory, as the chains of the stored packets lay it down: of a general cell of a region, or of cell `c`
of its privileged pool `pp` (R160, R163). A packet that has been read out whole holds none. -/
def State.link (s : State) (g pp c : Nat) : Option Nat :=
  s.holders.findSome? fun k =>
    if k.region = g ∧ k.priv = pp ∧ !(k.read && k.complete) then ((k.cells.zip k.cells.tail).find? fun x => Nat.beq x.1 c).map (·.2) else none

/-- Puts buffers back at once. -/
def State.freeNow (s : State) (f : Freed) : State :=
  if f.priv ≠ 0 then
    let s := s.freePool (ppKey f.region f.priv) f.bufs
    forEach f.cells s fun s c =>
      let m := Table.get zeroN s.net.maps (ppKey f.region f.priv)
      s.withNet { s.net with maps := Table.put zeroN s.net.maps (ppKey f.region f.priv) (if m.testBit c then m - 2 ^ c else m) }
  else if s.cells f.region || f.chain then
    (forEach f.cells s fun s c => s.setFreeList (subKey f.region c) ((s.freeList (subKey f.region c)).push c)).freeGeneral f.region f.units
  else
    let k := poolList f.region f.pool
    ((forEach f.cells s fun s c => s.setFreeList k ((s.freeList k).push c)).freePool (poolKey f.region f.pool) f.bufs).freeGeneral f.region f.units

/-- Puts buffers back: during the decisions of a CLK_BUF cycle, at its end (R176). -/
def State.free' (s : State) (f : Freed) : State :=
  if s.net.deciding then s.withNet { s.net with freed := s.net.freed ++ [f] } else s.freeNow f

/-- The cycle's decisions are made: what they have released is free. -/
def State.endDeciding (s : State) : State :=
  forEach s.net.freed (s.withNet { s.net with deciding := false, freed := [] }) fun s f => s.freeNow f

/-- Cells of region 0 taken for reassembly or staging go back. -/
def State.freeCells (s : State) (l : List Nat) : State := s.free' ⟨0, 0, 0, l, l.length, l.length, true⟩

/-- Takes cells of region 0 for reassembly or staging (R173, R174). -/
def State.takeCells (s : State) (n : Nat) : List Nat × State := (s.takeUnits 0 n).popCells 0 n

/-- Usage field of a requester in a region (R167). -/
def usedField (g : Nat) : Field := if g = 0 then Fld.REQ_OCB_USED else if g = 1 then Fld.REQ_HC_USED else Fld.REQ_HBM_USED

/-- Usage of a requester (R166). -/
def State.usage (s : State) (r g : Nat) : Nat := (usedField g).get (s.dom Dom.REQUESTER_TABLE r)
/-- Charges a requester. -/
def State.chargeTo (s : State) (r g n : Nat) : State := s.setField Dom.REQUESTER_TABLE r (usedField g) (s.usage r g + n)
/-- Credits a requester. -/
def State.creditTo (s : State) (r g n : Nat) : State := s.setField Dom.REQUESTER_TABLE r (usedField g) (s.usage r g - n)

/-- Buffer profile of a queue (R168). -/
def State.bufProfile (s : State) (q : Nat) : Nat := Fld.QBM_PROFILE.get (s.dom Dom.QUEUE_BUFFER_MAP q)
/-- A queue is in spill mode. -/
def State.spilled (s : State) (q : Nat) : Bool := Nat.beq (Fld.QBM_SPILL.get (s.dom Dom.QUEUE_BUFFER_MAP q)) 1

/-- Returns `n` units of a packet, with the buffers `l` of them that are allocated, `bufs` of its pool where it came from one, and credits
its requester (R172, R178). -/
def State.giveBack (s : State) (p : Pkt) (l : List Nat) (n bufs : Nat) : State :=
  (s.free' ⟨p.region, p.priv, p.pool, l, n, bufs, false⟩).creditTo p.requester p.region n

/-- Units of a packet's buffers are lost to allocation until the T die's warm reset: they stay taken (R183, R184). -/
def State.leak (s : State) (g n : Nat) : State :=
  s.set (Obj.BUFFER_REGION_LEAKED_UNITS g) (s.get (Obj.BUFFER_REGION_LEAKED_UNITS g) + n)

/-- A queue whose length a dequeue or a discard has left below SPILL_OFF leaves spill mode (R171). -/
def State.spillEnds (s : State) (q : Nat) : State :=
  if s.spilled q = true ∧ s.qlen q < s.get (Obj.BUFFER_PROFILE_SPILL_OFF (s.bufProfile q)) then s.setField Dom.QUEUE_BUFFER_MAP q Fld.QBM_SPILL 0
  else s

/-- Releases a packet's buffers but for the `lost` last cells of its chain, credits its requester and reduces its queue's length; a queue
that falls below SPILL_OFF leaves spill mode (R171, R178, R183). -/
def State.release (s : State) (p : Pkt) (lost : Nat := 0) : State :=
  let kept := p.taken - lost
  let s := (s.giveBack p (p.cells.take (p.cells.length - lost)) kept (if s.cells p.region then kept else 1)).creditTo p.requester p.region lost
  let s := if lost = 0 then s else s.leak p.region lost
  (s.addLen p.queue p.region p.priv false p.units).spillEnds p.queue

/-- Counts into a queue's record (R217). -/
def State.countQueue (s : State) (q : Nat) (f : Field) (n : Nat := 1) : State :=
  if s.isStandby then s else s.countRecord Dom.QUEUE_COUNTERS q f n

/-- Discards an admitted packet (R178, R217); `lost`: cells beyond a broken link (R183). -/
def State.discard (s : State) (p : Pkt) (lost : Nat := 0) : State := ((s.release p lost).countQueue p.queue Fld.QC_DISCARDED).dropPacket p

/-- Takes a packet out of its queue and discards it. -/
def State.discardQueued (s : State) (q id : Nat) (lost : Nat := 0) : State :=
  match (s.queue q).find? fun p => Nat.beq p.id id with
  | some p => (s.changing q fun s => s.setQueue q ((s.queue q).filter fun x => !Nat.beq x.id id)).discard p lost
  | none => s

/-- REFUSED counter of a colour. -/
def refusedField (colour : Nat) : Field :=
  if colour = 0 then Fld.QC_REFUSED_GREEN else if colour = 1 then Fld.QC_REFUSED_YELLOW else Fld.QC_REFUSED_RED

/-- The queue of a packet that has one of these identities. -/
def State.queueOf (s : State) (id : Nat) : Option (Nat × Pkt) :=
  s.net.queues.findSome? fun e => (e.2.find? fun p => Nat.beq p.id id).map fun p => (e.1, p)

/-- A scheduler port is idle (R180): nothing queued under it, in its egress pipeline or in transmission. -/
def State.portIdle (s : State) (p : Nat) : Bool :=
  !(s.net.queues.any fun e => Nat.blt e.1 voqBase && s.hangsUnder e.1 p) &&
  (Table.get noList s.net.egress p).isEmpty && (Table.get noList s.net.tx p).isEmpty &&
  (Table.get (fun _ => none) s.net.wire p).isNone

end Sys2Proof.Machine
end

