-- ==== Sys2Proof/Machine/Sched.lean ====
section
/-! DEFINITION. Dequeue decisions (R191 to R204, R227 to R230, R244, R245, R247), changes to the hierarchy (R206), sampling (R211 to
R216) and errors in the queue-state memory (R223, R249). -/

namespace Sys2Proof.Machine

/-- Sector of a port's egress pipelines (R253): XC's is named by XC_SECTOR; the other special ports count with sector 0. -/
def State.egressSector (s : State) (p : Nat) : Nat :=
  if p < 128 then p / 16 else if p = portXC then s.get Obj.RECOMP_CTRL_XC_SECTOR else 0

/-- The receive list of an HP class: its posted buffers, oldest first (R406). -/
def State.hpBuffers (s : State) (c : Nat) : List Job :=
  let v := s.get (Obj.HOST_CTRL_HP_RING_C c)
  s.host.jobs.filter fun j => j.rx && j.started && j.done.isNone && v.testBit 15 && Nat.beq j.sq (v % 1024)

/-- Every posted buffer of an HP class is taken by a packet already selected for it (R406, R416). -/
def State.hpFull (s : State) (c : Nat) : Bool :=
  let taken := (Table.get (fun _ => ([] : List Pkt)) s.net.egress 128 ++ Table.get (fun _ => ([] : List Pkt)) s.net.tx 128).filter fun k => Nat.beq k.cls c
  Nat.ble (s.hpBuffers c).length taken.length

/-- A class may be decided for at a predicted start: not held, its shaper permits, a group beneath it is eligible, and what its
gate says (R189, R245, R247, R276); a class of HP needs a posted receive buffer (R406). -/
def State.classSays (s : State) (p c ts : Nat) : GateSays :=
  let pc := 8 * p + c
  if !s.permits (nodeClass p c) || s.classHeld p c || (Nat.beq p portHP && s.hpFull c) ||
      !((s.groupList pc).any fun g => s.permits (nodeGroup g) && !(s.wfqOf g).isEmpty) then .closed
  else s.gateSays p c ts 1

/-- wfq_pick (R200, R13). -/
def State.wfqPick (s : State) (g : Nat) : Option Nat :=
  let v : Int := Fld.GRP_V.get (s.dom Dom.GROUPS g)
  let dist := fun u => signed 48 (unsigned 48 ((Fld.USR_F.get (s.dom Dom.USERS u) : Int) - v))
  (s.wfqOf g).foldl (fun best u =>
    match best with
    | none => some u
    | some b => if dist u < dist b then some u else some b) none

/-- A selection: class, whether it is strict, group, user, queue, packet, predicted start and window. -/
structure Pick where
  cls : Nat
  strict : Bool
  group : Nat
  user : Nat
  queue : Nat
  pkt : Pkt
  start : Nat
  window : Option (Nat × Nat)
deriving DecidableEq, Repr

/-- Classes of a port in the order a decision tries them: strict ones highest first, then its list (R194, R197). -/
def State.classOrder (s : State) (p : Nat) : List (Nat × Bool) :=
  (([7, 6, 5, 4, 3, 2, 1, 0].filter fun c => Nat.beq (Fld.PC_STRICT.get (s.dom Dom.PORT_CLASSES (8 * p + c))) 1 &&
      !(s.groupList (8 * p + c)).isEmpty).map fun c => (c, true)) ++
  (s.classList p).map fun c => (c, false)

/-- Bytes a selection is judged and predicted with: its charge, or 16,020 while its length is unknown (R245). -/
def State.judged (s : State) (p : Nat) (k : Pkt) : Nat := if k.complete then s.chargeOf p k.len else 16020

/-- One pass of a decision over the classes not excluded; answers the pick, or the class to pass over, or nothing. -/
def State.pickOnce (s : State) (p ts : Nat) (excluded : List Nat) : Option (Pick × Bool) :=
  match (s.classOrder p).find? fun c => !excluded.contains c.1 &&
      (match s.classSays p c.1 ts with | .openIn _ => true | _ => false) with
  | none => none
  | some (c, strict) =>
    match (s.groupList (8 * p + c)).find? fun g => s.permits (nodeGroup g) && !(s.wfqOf g).isEmpty with
    | none => none
    | some g =>
      match s.wfqPick g with
      | none => none
      | some u =>
        match s.bearerOf u with
        | none => none
        | some b =>
          match s.headOf (4 * u + b) with
          | none => none
          | some k =>
            match s.gateSays p c ts (s.judged p k) with
            | .openIn w => some (⟨c, strict, g, u, 4 * u + b, k, ts, w⟩, true)
            | _ => some (⟨c, strict, g, u, 4 * u + b, k, ts, none⟩, false)

/-- The decision with its retries (R247): the pick and the classes whose head packet the guard withheld. -/
def State.pickLoop (s : State) (p ts : Nat) : Nat → List Nat → Option Pick × List Nat
  | 0, ex => (none, ex)
  | fuel + 1, ex =>
    match s.pickOnce p ts ex with
    | none => (none, ex)
    | some (k, true) => (some k, ex)
    | some (k, false) => State.pickLoop s p ts fuel (k.cls :: ex)

/-- Brings the users under a port to the present shaper step: a released user rejoins with S = V (R201, R229). -/
def State.refreshPort (s : State) (p : Nat) : State :=
  forEach (List.range 8) s fun s c => forEach (s.groupList (8 * p + c)) s fun s g => forEach (s.usersOf g) s fun s u => s.refreshUser u false

/-- OUTSTANDING of a port (R192): the bytes of packets of known length, and TX_WINDOW for one whose length is not known yet. -/
def State.outstanding (s : State) (p : Nat) : Nat :=
  s.get (Obj.SCHED_PORT_OUTSTANDING p) + (s.sched.ctCharges.filter fun t => Nat.beq t.port p).length * s.txWindow p

/-- A port takes part in decisions: scheduling is on, its window has room, no packet of unknown length is selected for it, and its shaper
permits (R192, R203, R222, R247). -/
def State.portReady (s : State) (p : Nat) : Bool :=
  s.on Obj.TM_CTRL_SCHED_ENABLE && Nat.blt (s.outstanding p) (s.txWindow p) && !(s.sched.ctCharges.any fun t => Nat.beq t.port p) &&
    s.permits (nodePort p)

/-- decide(p) of R194 and R247 on a refreshed state. -/
def State.decidePort (s : State) (p : Nat) : Option Pick × List Nat :=
  if s.portReady p then s.pickLoop p (s.predicted p) 9 [] else (none, [])

/-- Counts the classes that only the guard withholds, once for each stretch of decisions in which it does (R245, log entry 142). -/
def State.holdGuards (s : State) (p : Nat) (passed : List Nat) : State :=
  let ts := s.predicted p
  let guarded := if s.portReady p = false then [] else (List.range 8).filter fun c =>
    !(s.groupList (8 * p + c)).isEmpty && (passed.contains c || decide (s.classSays p c ts = .guarded))
  let g := s.gate p
  let s := forEach (guarded.filter fun c => !g.held.contains c) s fun s _ => s.bump (Obj.PORT_TIMING_GUARD_HOLDS p)
  s.setGate p { g with held := guarded }

/-- Recompression profile that a queue under a scheduler port names: those of ports from 128 on are ignored (R251, R252). A write of this
instant is not seen yet (R251, R267). -/
def State.queueRecomp (s : State) (q p : Nat) : Nat := if p < 128 then Fld.RM_PROFILE.get (s.cycleDom Dom.RECOMP_MAP q) else 0

/-- Sending spans of every node on the path of a selection (R227, R230): a packet of unknown length sends until its charge. -/
def State.sendPath (s : State) (p : Nat) (k : Pick) : State :=
  let span := if k.pkt.complete then s.spanOf p (s.chargeOf p k.pkt.len) else 2 ^ 32 - 1
  forEach [nodePort p, nodeClass p k.cls, nodeGroup k.group, nodeUser k.user] s fun s n => s.send n span

/-- Takes the picked packet (R194, R200, R203, R227, R244): tags, deficits, shapers, counters, WIRE_FREE and OUTSTANDING. It carries the
recompression profile its queue names now (R251, R252); a packet in XC's queues keeps that of its admission (R267). Its buffers are held
until it has been read out (R178). -/
def State.select (s : State) (p : Nat) (k : Pick) : State :=
  let known := k.pkt.complete
  let c := s.chargeOf p k.pkt.len
  let user := s.dom Dom.USERS k.user
  -- V becomes F, or S while the length is unknown
  let s := s.setField Dom.GROUPS k.group Fld.GRP_V (if known then Fld.USR_F.get user else Fld.USR_S.get user)
  let s := s.setQueue k.queue ((s.queue k.queue).filter fun x => !Nat.beq x.id k.pkt.id)
  let bytes := s.judged p k.pkt
  let s := s.sendPath p k
  let s := if known then s.chargeGroup k.group c else s
  let s := if known ∧ k.strict = false then s.chargeClass (8 * p + k.cls) c else s
  -- a user still backlogged and eligible takes S = F, that is V; else it leaves
  let s := s.setWfqOf k.group ((s.wfqOf k.group).filter (· != k.user))
  let s := s.refreshUser k.user true
  let s := (s.countQueue k.queue Fld.QC_DEQ_PACKETS).countQueue k.queue Fld.QC_DEQ_BYTES k.pkt.len
  let s := (s.bump (Obj.SCHED_PORT_DEQ_PACKETS p)).bump (Obj.SCHED_PORT_DEQ_BYTES p) k.pkt.len
  let out := if known then k.pkt.len else 0
  let s := s.set (Obj.SCHED_PORT_OUTSTANDING p) (s.get (Obj.SCHED_PORT_OUTSTANDING p) + out)
  let s := s.setGate p { s.gate p with wireFree := k.start + wireNs bytes (s.spanRate p) }
  let s := if known then s
    else
      let t : CtCharge := ⟨k.pkt.id, p, k.cls, k.group, k.user, shaperStep s.time.now⟩
      (s.withSched { s.sched with ctCharges := s.sched.ctCharges ++ [t] })
  -- a frame selected for a line port, a packet for an egress pipeline: both wake (R504)
  let s := (if p < 128 then s.workFor p 0 else s).workFor (128 + s.egressSector p) 4
  let x := { k.pkt with
    charge := bytes, out := out, window := k.window, ct := true, recomp := if p = portXC then k.pkt.recomp else s.queueRecomp k.queue p }
  (s.withNet { s.net with egress := Table.put noList s.net.egress p (Table.get noList s.net.egress p ++ [x]) })

/-- The last unit of a cut-through packet has arrived: its charge goes to every level (R203, R230) and OUTSTANDING takes its
length. -/
def State.chargeLate (s : State) (k : Pkt) : State :=
  match s.sched.ctCharges.find? fun t => Nat.beq t.id k.id with
  | none => s
  | some t =>
    let s : State := (s.withSched { s.sched with ctCharges := s.sched.ctCharges.filter fun x => !Nat.beq x.id k.id })
    let c := s.chargeOf t.port k.len
    let ran := (shaperStep s.time.now - t.step) * 65536
    let left := s.spanOf t.port c - ran
    let s := forEach [nodePort t.port, nodeClass t.port t.cls, nodeGroup t.group, nodeUser t.user] s fun s n =>
      let (e, h) := s.shaperNow n
      if Fld.SN_ENABLE.get e = 0 then s else s.putShaper n (Fld.SN_SEND_LEFT.set e left) h
    let f := tag48 (Fld.GRP_V.get (s.dom Dom.GROUPS t.group) + c * s.invOf t.user)
    let s := s.setField Dom.GROUPS t.group Fld.GRP_V f
    let s := s.setField Dom.USERS t.user Fld.USR_F f
    let s := if (s.wfqOf t.group).contains t.user then s.wfqJoin t.group t.user else s
    let s := s.chargeGroup t.group c
    let strict : Bool := Nat.beq (Fld.PC_STRICT.get (s.dom Dom.PORT_CLASSES (8 * t.port + t.cls))) 1
    let s := if strict then s else s.chargeClass (8 * t.port + t.cls) c
    s.set (Obj.SCHED_PORT_OUTSTANDING t.port) (s.get (Obj.SCHED_PORT_OUTSTANDING t.port) + k.len)

/-- Ports of a slice in the order of its rotation (R190). -/
def slicePorts (n : Nat) : List Nat := (List.range 16).map (fun i => 16 * n + i) ++ [128 + n]

/-- A list rotated to begin at an index (R11). -/
def rotateAt {α : Type} (l : List α) (i : Nat) : List α := l.drop i ++ l.take i

/-- Scheduler port whose path a shaper node lies on (R226). -/
def State.nodeOwner (s : State) (n : Nat) : Nat :=
  if n < 136 then n else if n < 1224 then (n - 136) / 8
  else if n < 17608 then s.groupPort (n - 1224)
  else s.groupPort (Fld.USR_GROUP.get (s.dom Dom.USERS (n - 17608)))

/-- TS sector whose slice serves a queue or a VOQ (R190, R208, R589). -/
def State.uQueue (s : State) (q : Nat) : Nat :=
  if q < voqBase then uSlice (s.groupPort (Fld.USR_GROUP.get (s.dom Dom.USERS (q / 4)))) else uTS ((q - voqBase) / 8 % 8)

/-- The ECC of the queue-state memory repairs itself (R223, R249). Its events are limited per slice (R224; DESIGN CHOICE of the two scopes
the rule names, log entry 143). -/
def State.queueUpset (s : State) (x : QueueUpset) : State :=
  match x with
  | .corrected => s.bump Obj.TM_CTRL_ECC_CORRECTED
  | .classNode p c =>
    let s := s.bump Obj.TM_CTRL_ECC_UNCORRECTED
    let pc := 8 * p.val + c.val
    let l := s.classList p
    let s := if l.contains c.val then (s.setClassDeficit pc (s.classQuantum pc)).setClassList p (l.filter (· != c.val) ++ [c.val]) else s.setClassDeficit pc 0
    s.raise 0x4242 (uSlice p) 0
  | .groupNode g =>
    let s := s.bump Obj.TM_CTRL_ECC_UNCORRECTED
    let pc := s.groupParent g
    let l := s.groupList pc
    let s := if l.contains g.val then (s.setGroupDeficit g (s.groupQuantum g)).setGroupList pc (l.filter (· != g.val) ++ [g.val]) else s.setGroupDeficit g 0
    s.raise 0x4242 (uSlice (s.groupPort g)) 0
  | .userNode u =>
    let s := s.bump Obj.TM_CTRL_ECC_UNCORRECTED
    let g := Fld.USR_GROUP.get (s.dom Dom.USERS u)
    let s := if (s.wfqOf g).contains u.val then s.wfqJoin g u else s
    s.raise 0x4242 (uSlice (s.groupPort g)) 0
  | .shaper n =>
    let s := (s.bump Obj.TM_CTRL_ECC_UNCORRECTED).resetCredit n
    (s.setField Dom.SHAPER_NODES n Fld.SN_SEND_LEFT 0).raise 0x4242 (uSlice (s.nodeOwner n)) 0
  | .gateList p =>
    let s := s.bump Obj.TM_CTRL_ECC_UNCORRECTED
    (s.setGate p { s.gate p with broken := true }).raise 0x4242 (uSlice p) 0
  | .pointers q reachable =>
    let s := s.bump Obj.TM_CTRL_ECC_UNCORRECTED
    let l := s.queue q
    let lost := l.drop reachable
    let s := s.changing q fun s => s.setQueue q []
    let s := forEach (l.take reachable) s fun s k => s.discard k
    -- unreachable packets leave the queue; their buffers are lost to allocation (R184)
    let s := forEach lost s fun s k =>
      let s := (((s.addLen q k.region k.priv false k.units).spillEnds q).creditTo k.requester k.region k.taken).leak k.region k.taken
      (s.countQueue q Fld.QC_DISCARDED).dropPacket k
    s.raise 0x4243 (s.uQueue q) 0

/-- DEQUEUE_DECISION (R191, R194, R247): the next ready and eligible port of a slice. `upsets` are the errors its reads meet. -/
def execDequeueDecision (slice : Fin 8) (upsets : List QueueUpset) (s : State) : Out :=
  s.inCore fun s =>
    if s.tsBlocked slice || s.slicesHeld then s else
    let s := forEach upsets s fun s x => s.queueUpset x
    let ports := slicePorts slice
    let ptr := Table.get zeroN s.sched.portPtr slice
    let s := forEach ports s fun s p => s.refreshPort p
    let turn := rotateAt ports ptr
    match turn.findSome? fun p => (s.decidePort p).1.map fun k => (p, k) with
    | none => forEach turn s fun s p => s.holdGuards p (s.decidePort p).2
    | some (p, k) =>
      -- the ports that its turn passed over, and its own
      let s := forEach (turn.takeWhile (· != p) ++ [p]) s fun s x => s.holdGuards x (s.decidePort x).2
      let s := s.select p k
      let i := if p < 128 then p % 16 else 16
      (s.withSched { s.sched with portPtr := Table.put zeroN s.sched.portPtr slice ((i + 1) % 17) })

/-- SHAPER_RELEASE (R229): the users under a port whose shapers permit again rejoin with S = V. -/
def execShaperRelease (port : Fin 136) (s : State) : Out := s.inCore fun s => s.refreshPort port

/-! ### Changes to the hierarchy (R206) -/

/-- A write of a class entry. -/
def classEntryStatus (image : Nat) : Status :=
  if Fld.PC_QUANTUM.get image < 64 ∨ 524288 ≤ Fld.PC_DEFAULT_QUEUE.get image then .invalid else .ok

/-- Applies it: STRICT takes effect at the next decision. -/
def State.writeClassEntry (s : State) (pc image : Nat) : State := (s.commitDom Dom.PORT_CLASSES pc image).refreshClass pc

/-- Queues of a user hold something. -/
def State.userBusy (s : State) (u : Nat) : Bool := (List.range 4).any fun b => Nat.blt 0 (s.qlen (4 * u + b))

/-- A write of a group entry. -/
def State.groupStatus (s : State) (g image : Nat) : Status :=
  let old := s.dom Dom.GROUPS g
  if 135 < Fld.GRP_PORT.get image ∨ Fld.GRP_QUANTUM.get image < 64 then .invalid
  else if (Fld.GRP_PORT.get image ≠ Fld.GRP_PORT.get old ∨ Fld.GRP_CLASS.get image ≠ Fld.GRP_CLASS.get old ∨
      Fld.GRP_VALID.get image < Fld.GRP_VALID.get old) ∧
      (s.net.lens.any fun e => Nat.beq (e.1 % 32) 3 && Nat.blt (e.1 / 32) voqBase &&
        Nat.beq (Fld.USR_GROUP.get (s.dom Dom.USERS (e.1 / 32 / 4))) g && Nat.beq (Fld.USR_VALID.get (s.dom Dom.USERS (e.1 / 32 / 4))) 1) = true then .busy
  else .ok

/-- A write of a user entry (R206). -/
def State.userStatus (s : State) (u image : Nat) : Status :=
  let old := s.dom Dom.USERS u
  let moved := Fld.USR_GROUP.get image ≠ Fld.USR_GROUP.get old
  let w := Fld.USR_WEIGHT.get image
  if w < 1 ∨ 32768 < w then .invalid
  else if Fld.GRP_VALID.get (s.dom Dom.GROUPS (Fld.USR_GROUP.get image)) = 0 then .invalid
  else if (moved ∨ Fld.USR_VALID.get image < Fld.USR_VALID.get old) ∧ s.userBusy u = true then .busy
  else .ok

/-- Applies it with the inverse weight (R198). -/
def State.writeUser (s : State) (u image : Nat) : State :=
  let (m, e) := invWeight (Fld.USR_WEIGHT.get image)
  s.commitDom Dom.USERS u (Fld.USR_INV_EXP.set (Fld.USR_INV_MANT.set image m) e)

/-- CREDIT_HOLD and CREDIT_RESUME of one record: RESUME stays below HOLD (R222). -/
def ruleCreditHold (hold resume key v : Nat) (s : State) : Res :=
  let h := if key = hold then v else s.get hold
  let r := if key = resume then v else s.get resume
  if h ≤ r then (.invalid, s) else s.plain key v

/-- A write of a marked queue entry keeps MARKED_VALID (R215, R222). -/
def State.writeMarked (s : State) (e image : Nat) : State :=
  let n := s.get Obj.QUEUE_SAMPLING_MARKED_VALID + Fld.MQ_VALID.get image - Fld.MQ_VALID.get (s.dom Dom.MARKED_QUEUES e)
  (s.commitDom Dom.MARKED_QUEUES e image).set Obj.QUEUE_SAMPLING_MARKED_VALID n

/-! ### Sampling -/

/-- Start of the round that holds an instant (R211). -/
def State.roundOf (s : State) (t : Nat) : Nat :=
  if s.on (Obj.AIR_CLOCK_ENABLE 0) then ((t : Int) - ((t : Int) - s.epoch 0) % 4000000).toNat else t - t % 4000000

/-- SAMPLE_ROUND (R211). -/
def execSampleRound (s : State) : Out :=
  s.inCore fun s =>
    let r := s.roundOf s.time.tai
    if s.sched.roundStart = some r then s
    else
      let s : State := (s.withSched { s.sched with roundStart := some r, sampled := 0 })
      (s.bump Obj.QUEUE_SAMPLING_ROUNDS).set Obj.QUEUE_SAMPLING_ROUND_START (time80 r)

/-- Log code of a delay (R213). -/
def delayCode (v : Nat) : Nat :=
  if v < 4096 then v
  else if v < 2 ^ 27 then
    let e := Nat.log2 v - 11
    e * 4096 + v / 2 ^ e
  else 0xFFFF

/-- Depth and delay code of a queue at the present instant (R212). -/
def State.sampleOf (s : State) (q : Nat) : Nat × Nat :=
  (s.qlen q, match s.queue q with
    | k :: _ => delayCode ((s.time.tai % 2 ^ 32 + 2 ^ 32 - k.enqueued) % 2 ^ 32)
    | [] => 0)

/-- Updates a queue's sample record (R214). -/
def State.noteSample (s : State) (q : Nat) (d : Nat × Nat) : State :=
  s.updateRecord Dom.QUEUE_SAMPLES q (domDefault (domKey Dom.QUEUE_SAMPLES q)) fun r =>
  let r := Fld.QS_LAST_DELAY.set (Fld.QS_LAST_DEPTH.set r d.1) d.2
  let r := Fld.QS_MIN_DEPTH.set r (min d.1 (Fld.QS_MIN_DEPTH.get r))
  let r := Fld.QS_MAX_DEPTH.set r (max d.1 (Fld.QS_MAX_DEPTH.get r))
  let r := Fld.QS_MIN_DELAY.set r (min d.2 (Fld.QS_MIN_DELAY.get r))
  let r := Fld.QS_MAX_DELAY.set r (max d.2 (Fld.QS_MAX_DELAY.get r))
  Fld.QS_SAMPLES.set r (satAdd 32 (Fld.QS_SAMPLES.get r) 1)

/-- Instant of a combined index within its round (R211). -/
def sampleOffset (i : Nat) : Nat := i * 3125 / 512

/-- QUEUE_SAMPLE (R211, R212): the sample of one index, at its instant (the next index's instant comes 6 ns later), once in a
round; instants that a backward step repeats are sampled again. -/
def execQueueSample (index : Fin 655360) (s : State) : Out :=
  s.inCore fun s =>
    match s.sched.roundStart with
    | none => s
    | some r =>
      let t := s.time.tai
      let from' := if 0 < s.sched.sampled ∧ t < r + sampleOffset (s.sched.sampled - 1) then 0 else s.sched.sampled
      if (s.dom Dom.SAMPLE_ENABLE (index / 64)).testBit (index % 64) = true ∧ from' ≤ index.val ∧
          r + sampleOffset index ≤ t ∧ t < r + sampleOffset index + 6 then
        (s.withSched { s.sched with sampled := index.val + 1 }).noteSample index (s.sampleOf index)
      else s

/-- One entry of the marked log (R216); an entry overwritten before it was read counts (log entry 15). -/
def State.logMarked (s : State) (image : Nat) : State :=
  let i := s.get Obj.QUEUE_SAMPLING_LOG_INDEX
  let e := i % 2 ^ 20
  let lost : Bool := Nat.ble (2 ^ 20) s.sched.logged && !s.sched.logRead.contains e
  let s := s.writeRecord Dom.MARKED_LOG e image
  let s := s.set Obj.QUEUE_SAMPLING_LOG_INDEX ((i + 1) % 2 ^ 21)
  let s : State := (s.withSched { s.sched with logged := s.sched.logged + 1, logRead := s.sched.logRead.filter (· != e) })
  if lost then (s.bump Obj.QUEUE_SAMPLING_LOG_WRAPS).raise 0x4043 (s.uQueue (Fld.ML_QUEUE.get image)) 0 0 else s

/-- SAMPLE_MARKED (R215): every valid marked queue is latched at the event's instant, then logged in ascending entry order. -/
def execSampleMarked (s : State) : Out :=
  .next (match s.fire 3 with
    | (none, s) => s
    | (some a, s) =>
      let marked := ((s.domEntries Dom.MARKED_QUEUES).filter fun e => Nat.beq (Fld.MQ_VALID.get e.2) 1).map fun e => Fld.MQ_INDEX.get e.2
      let latched := marked.map fun q => (q, s.sampleOf q)
      forEach latched s fun s (x : Nat × Nat × Nat) =>
        let image := Fld.ML_DELAY.set (Fld.ML_DEPTH.set (Fld.ML_SLOT.set (Fld.ML_CLOCK.set (Fld.ML_QUEUE.set 0 x.1) a.clock)
          (unsigned 32 (s.absSlotAt a.clock a.due))) x.2.1) x.2.2
        (s.noteSample x.1 x.2).logMarked image)

end Sys2Proof.Machine
end

