-- ==== Sys2Proof/Machine/Buffer.lean ====
section
/-! DEFINITION. Admission of packets to the buffer and what follows until their last unit has arrived (R149, R158 to R185, R188,
R253). -/

namespace Sys2Proof.Machine

/-- Exponent code of a profile for a region's group and a colour (R168, R169). -/
def State.exponent (s : State) (prof g colour : Nat) : Nat :=
  bits (s.get (Obj.BUFFER_PROFILE_ALPHA_K prof)) ((if g < 2 then 20 else 8) - 4 * min colour 2) 4

/-- T(F, k) from an exponent code (R169). -/
def threshold (f code : Nat) : Nat := if code = 8 then 0 else if code < 8 then f * 2 ^ code else f / 2 ^ (16 - code)

/-- An exponent code is valid (R169). -/
def exponentOk (code : Nat) : Bool := Nat.ble code 3 || Nat.beq code 8 || Nat.ble 0xA code

/-- Kinds of refusal (R175, R173, R188). -/
inductive Refused where
  | threshold (g : Nat) | empty (g : Nat) | quota (g : Nat) | privEmpty (g pp : Nat) | stage
deriving DecidableEq, Repr

/-- Where a packet goes: region, privileged pool, general pool, units and buffers taken. -/
structure Place where
  region : Nat
  priv : Nat
  pool : Nat
  units : Nat
  bufs : Nat
  /-- It came from a pool larger than the smallest that fits (R162). -/
  fellBack : Bool
deriving DecidableEq, Repr

/-- Quota of a requester in a region (R166). -/
def State.quota (s : State) (r g : Nat) : Nat :=
  let p := Fld.REQ_PROFILE.get (s.dom Dom.REQUESTER_TABLE r)
  if g = 0 then s.get (Obj.QUOTA_PROFILE_OCB_MAX p) else if g = 1 then s.get (Obj.QUOTA_PROFILE_HC_MAX p) else s.get (Obj.QUOTA_PROFILE_HBM_MAX p)

/-- A charge of `n` units stays within a requester's quota; 0xFFFF_FFFF is no limit. -/
def State.within (s : State) (r g n : Nat) : Bool := Nat.beq (s.quota r g) 0xFFFFFFFF || Nat.ble (s.usage r g + n) (s.quota r g)

/-- Staging cells in use against STAGE_MAX (R173). -/
def State.staged (s : State) : Nat := ((s.net.staging.filter fun x => x.requester.isNone).map (·.cells.length)).sum

/-- A packet bound for region 2 finds its staging cells (R173). -/
def State.stageOk (s : State) (n : Nat) (held : Bool) : Bool :=
  held || (Nat.ble (s.staged + n) (s.get Obj.BUFFER_CTRL_STAGE_MAX) && Nat.ble n (s.freeUnits 0))

/-- Lowest-numbered pool that fits and has a free buffer (R162), and whether a smaller one fits. -/
def State.fitPool (s : State) (g need : Nat) : Option (Nat × Bool) :=
  let fit := (List.range 8).filter fun j =>
    Nat.blt 0 (s.get (Obj.POOL_BUF_COUNT (poolIndex g j))) && Nat.ble need (s.get (Obj.POOL_BUF_BYTES (poolIndex g j)))
  match fit.find? fun j => Nat.blt 0 (s.poolFree g j) with
  | some j => some (j, decide (fit.head? ≠ some j))
  | none => none

/-- place(p, g) of R175: `n` units, `need` bytes with metadata, `held` reassembly cells in hand (R174). -/
def State.place (s : State) (r q prof colour n need g : Nat) (held : Bool) : Place ⊕ Refused :=
  if g = 2 ∧ s.region2Gone = true then .inr (.empty 2) else
  let k := s.exponent prof g colour
  let pp := s.get (Obj.BUFFER_PROFILE_PRIV_POOL prof)
  let here : Bool := Nat.blt 0 pp && Nat.ble pp 4 && Nat.blt 0 (s.get (Obj.PRIV_POOL_BUF_COUNT (ppIndex g pp))) && !(held && Nat.beq g 0)
  let each := s.ppBytes g pp / 256
  let bufs := if s.cells g then n else 1
  let fits := Nat.ble bufs (s.ppFree g pp) && (s.cells g || Nat.ble need (s.ppBytes g pp))
  if here && Nat.blt (s.len (lenPriv q g pp)) (threshold (s.ppFree g pp * each) k) && fits && s.within r g (bufs * each) then
    if g = 2 ∧ s.stageOk n held = false then .inr .stage else .inl ⟨g, pp, 0, bufs * each, bufs, false⟩
  else if here && Nat.beq (s.get (Obj.BUFFER_PROFILE_PRIV_FALLBACK prof)) 0 then .inr (.privEmpty g pp)
  else if threshold (s.freeUnits g) k ≤ s.len (lenKey q g) then .inr (.threshold g)
  else if held && Nat.beq g 0 then .inl ⟨0, 0, 0, n, 0, false⟩
  else
    let general (b : Place) : Place ⊕ Refused :=
      if s.freeUnits g < b.units then .inr (.empty g)
      else if s.within r g b.units = false then .inr (.quota g)
      else if g = 2 ∧ s.stageOk n held = false then .inr .stage
      else .inl b
    if s.cells g then general ⟨g, 0, 0, n, n, false⟩
    else match s.fitPool g need with
      | some (j, back) => general ⟨g, 0, j, s.get (Obj.POOL_BUF_BYTES (poolIndex g j)) / 256, 1, back⟩
      | none => .inr (.empty g)

/-- A queue enters spill mode (R171). -/
def State.spill (s : State) (q : Nat) : State :=
  (s.setField Dom.QUEUE_BUFFER_MAP q Fld.QBM_SPILL 1).bump Obj.BUFFER_CTRL_SPILL_ENTRIES

/-- The admission of a packet p (R175). -/
def State.admitTo (s : State) (k : Pkt) (q : Nat) : (Place ⊕ Refused) × State :=
  let prof := s.bufProfile q
  let held : Bool := Nat.blt 0 k.cellsHeld
  let known : Bool := k.known && !k.scheduled
  let n := if known then k.whole else 63
  let need := if known then k.bytes.length + 32 else 63 * 256
  let go := fun (s : State) (g : Nat) => s.place k.requester q prof k.colour n need g held
  let spillEn := s.on (Obj.BUFFER_PROFILE_SPILL_EN prof)
  if s.get Obj.BUFFER_CTRL_BUF_ENABLE = 0 then (.inr (.empty 0), s)
  else if s.get (Obj.BUFFER_PROFILE_REGION prof) = 1 then (go s 1, s)
  else
    let s := if known = true ∧ spillEn = true ∧ s.spilled q = false ∧ s.get (Obj.BUFFER_PROFILE_SPILL_ON prof) ≤ s.qlen q then s.spill q else s
    if known = true ∧ s.spilled q = true then (go s 2, s)
    else match go s 0 with
      | .inr (.threshold g) =>
        if known = true ∧ spillEn = true ∧ k.colour = 0 then
          let s := s.spill q
          (go s 2, s)
        else (.inr (.threshold g), s)
      | r => (r, s)

/-- Frees the region 0 cells of a reassembled packet and credits its requester (R174). -/
def State.freeHeld (s : State) (k : Pkt) : State :=
  if k.cellsHeld = 0 then s else (s.freeCells k.cells).creditTo k.requester 0 k.cellsHeld

/-- Counts a refusal (R177). -/
def State.refuse (s : State) (k : Pkt) (q : Nat) (r : Refused) : State :=
  let s := s.bumpField Dom.REQUESTER_TABLE k.requester Fld.REQ_DROPS
  let s := s.bump (Obj.BUFFER_PROFILE_REFUSED (s.bufProfile q))
  let s := match r with
    | .threshold g => s.bump (Obj.BUFFER_REGION_REFUSED_THRESHOLD g)
    | .empty g => s.bump (Obj.BUFFER_REGION_REFUSED_EMPTY g)
    | .quota g => s.bump (Obj.BUFFER_REGION_REFUSED_QUOTA g)
    | .privEmpty g pp => s.bump (Obj.PRIV_POOL_EMPTY (ppIndex g pp))
    | .stage => (s.bump Obj.BUFFER_CTRL_STAGE_FULL).raise 0x4141 uTD2D 0 0
  ((s.countQueue q (refusedField k.colour)).freeHeld k).dropPacket k

/-- A packet comes to hold `n` buffers: its units take cells from what it has taken or reserved as they arrive (R163, R175). -/
def State.store (s : State) (k : Pkt) (n : Nat) : Pkt × State :=
  let more := n - k.cells.length
  let (l, s) := s.alloc k.region k.priv k.pool more
  let s := if k.priv = 0 ∨ more = 0 then s else s.bump (Obj.PRIV_POOL_ALLOCS (ppIndex k.region k.priv)) more
  ({ k with cells := k.cells ++ l }, s)

/-- Buffers a packet holds once `n` of its units have arrived. -/
def State.bufsOf (s : State) (k : Pkt) (n : Nat) : Nat := if s.cells k.region then n else 1

/-- Takes or reserves a packet's buffers (R162, R163, R166, R173, R174) and answers it as it is held, with `now` of its units there. The
cells that a reassembled packet has in hand serve as staging cells until its move, or its copy to the host-control buffer, is complete:
STAGING_DONE tells both (DESIGN CHOICE, log entry 144). -/
def State.takePlace (s : State) (k : Pkt) (q n now : Nat) (b : Place) : Pkt × State :=
  let held : Bool := Nat.blt 0 k.cellsHeld
  let keeps : Bool := held && Nat.beq b.region 0
  let hand := k.cells
  let k := { k with region := b.region, priv := b.priv, pool := b.pool, taken := b.units, units := n, queue := q, cellsHeld := 0 }
  let s := s.addLen q b.region b.priv true n
  if keeps then (k, s)
  else
    let s := if b.priv ≠ 0 then s.takePool (ppKey b.region b.priv) b.bufs
      else if s.cells b.region then s.takeUnits b.region b.units
      else
        let s := ((s.takePool (poolKey b.region b.pool) 1).takeUnits b.region b.units).bump (Obj.POOL_ALLOCS (poolIndex b.region b.pool))
        if b.fellBack then s.bump (Obj.POOL_FALLBACKS (poolIndex b.region b.pool)) else s
    let s := s.chargeTo k.requester b.region b.units
    let (k, s) := s.store { k with cells := [] } (s.bufsOf k now)
    let stage := fun (s : State) (x : Staged) => s.withNet { s.net with staging := s.net.staging ++ [x] }
    if held then (k, stage s ⟨k.id, hand, some k.requester⟩)
    else if b.region = 2 then
      let (l, s) := s.takeCells n
      (k, stage s ⟨k.id, l, none⟩)
    else (k, s)

/-- A packet from the fabric meets the test of R143 for its selector at this device (R210). -/
def State.fabricSelector (s : State) (k : Pkt) : Pkt × State :=
  if k.voq = false ∧ 132 ≤ k.requester then s.selectorAt (uFS (s.egressSector k.dest)) k k.dest else (k, s)

/-- The queue a packet joins (R188, R253): none with the queue named, when it is refused. -/
def State.queueFor (s : State) (k : Pkt) : Option Nat × Option Nat :=
  let byDefault := fun (p : Nat) =>
    let e := s.dom Dom.PORT_CLASSES (8 * p + k.cls)
    let q := Fld.PC_DEFAULT_QUEUE.get e
    if Fld.PC_DEFAULT_VALID.get e = 0 then (none, none)
    else if s.hangsUnder q p then (some q, none)
    else (none, some q)
  if k.voq then
    if k.xcDone = false ∧ Fld.RM_PROFILE.get (s.dom Dom.RECOMP_MAP (voqBase + k.dest)) ≠ 0 then byDefault portXC
    else (some (voqBase + k.dest), none)
  else match k.qsel with
    | some q =>
      if Fld.USR_VALID.get (s.dom Dom.USERS (q / 4)) = 0 then (none, some q)
      else if s.hangsUnder q k.dest then (some q, none)
      else byDefault k.dest
    | none => byDefault k.dest

/-- A packet refused for want of a queue (R188). -/
def State.refuseNoQueue (s : State) (k : Pkt) (named : Option Nat) : State :=
  let p := if k.voq then portXC else k.dest
  let s := s.bump Obj.TM_CTRL_NO_QUEUE_DROPS
  let s := match named with
    | some q => s.countQueue q (refusedField k.colour)
    | none => s
  let s := (s.bumpField Dom.REQUESTER_TABLE k.requester Fld.REQ_DROPS).raise 0x4143 (uSlice p) 0 p
  (s.freeHeld k).dropPacket k

/-- Recompression profile of a packet in a queue (R252 to R254): for a VOQ, that of its map entry at its first admission. -/
def State.recompOf (s : State) (k : Pkt) (q : Nat) : Nat :=
  if k.voq then (if k.xcDone then 0 else Fld.RM_PROFILE.get (s.dom Dom.RECOMP_MAP (voqBase + k.dest))) else s.queueRecomp q k.dest

/-- The packet of unknown length just queued is offered to the scheduler at once (R181, R254). CT_FALLBACK counts LENGTH 0 packets, none
from a scheduled lane. -/
def State.tryCut (s : State) (k : Pkt) (q : Nat) (idle : Bool) : State :=
  let p := k.dest
  let bitSet := if p < 64 then (s.get Obj.BUFFER_CTRL_CT_PORTS_LO).testBit p else (s.get Obj.BUFFER_CTRL_CT_PORTS_HI).testBit (p - 64)
  let ok : Bool := idle && Nat.beq (s.recompOf k q) 0 && bitSet && s.cells 0 && !k.noCut && !s.tsBlocked (sliceOf p) && !s.slicesHeld
  let offered := s.changing q fun s => s.setQueue q ((s.queue q).map fun x => if x.id = k.id then { x with ct := true } else x)
  let picked := (offered.refreshPort p).decidePort p
  let stored := if k.scheduled then s else s.bump Obj.BUFFER_CTRL_CT_FALLBACK
  match picked.1 with
  | some b =>
    if ok = true ∧ b.pkt.id = k.id then ((offered.refreshPort p).bump Obj.BUFFER_CTRL_CT_PACKETS).select p b else stored
  | none => stored

/-- A cut-through packet with a bad FCS whose dequeue has not started is discarded (R182). -/
def State.discardBad (s : State) (k : Pkt) : State :=
  ((s.discardQueued k.queue k.id).bump Obj.BUFFER_CTRL_CT_DISCARDED).raise 0x4142 (uSlice k.dest) 0 0

/-- Changes a packet in its queue. -/
def State.updateQueued (s : State) (q id : Nat) (f : Pkt → Pkt) : State :=
  s.changing q fun s => s.setQueue q ((s.queue q).map fun x => if x.id = id then f x else x)

/-- The last unit of a packet has arrived: the units reserved and not used go back (R172). -/
def State.trim (s : State) (k : Pkt) : Pkt × State :=
  let d := k.units - k.whole
  let back := if s.cells k.region then d else 0
  ({ k with units := k.whole, taken := k.taken - back, arrived := k.whole },
    (s.giveBack k [] back back).addLen k.queue k.region k.priv false d)

/-- A packet resolved to a destination that has long been unreachable is refused (R303, R177). -/
def State.refuseUnreached (s : State) (k : Pkt) : State :=
  let q := voqBase + k.dest
  let s := (s.bump Obj.FABRIC_CTRL_UNREACH_DROPS).bumpField Dom.REQUESTER_TABLE k.requester Fld.REQ_DROPS
  let s := (s.bump (Obj.BUFFER_PROFILE_REFUSED (s.bufProfile q))).countQueue q (refusedField k.colour)
  (s.freeHeld k).dropPacket k

/-- The reassembly context of a packet is freed at its decision (R310). -/
def State.freeCtx (s : State) (id : Nat) : State :=
  if s.fab.ctxs.any fun c => decide (c.pkt = some id) then
    let l := s.fab.ctxs.filter fun c => decide (c.pkt ≠ some id)
    (s.withFab { s.fab with ctxs := l }).set Obj.REASSEMBLY_CTX_IN_USE l.length
  else s

/-- Decides one first unit, or one reassembled packet (R175 to R178, R181, R188, R310). -/
def State.decideAdmission (s : State) (k : Pkt) : State :=
  let s := s.freeCtx k.id
  let k := if k.scheduled then k else { k with whole := unitsOf k.bytes.length, len := k.bytes.length }
  if k.voq = true ∧ s.fab.discarding.contains (k.dest / 512) = true then s.refuseUnreached k else
  let (k, s) := s.fabricSelector k
  match s.queueFor k with
  | (none, named) => s.refuseNoQueue k named
  | (some q, _) =>
    match s.admitTo k q with
    | (.inr r, s) => s.refuse k q r
    | (.inl b, s) =>
      let known : Bool := k.known && !k.scheduled
      let n := if known then k.whole else 63
      let there := if 0 < k.cellsHeld then k.whole else if k.scheduled then k.arrived else 1
      let (k', s) := s.takePlace k q n (if known then n else if k.scheduled then unitsOf k.bytes.length else there) b
      let s := match k.direct with
        | some (sq, i) => s.complete sq i .ok 0
        | none => s
      let k' := { k' with
        direct := none
        arrived := there
        enqueued := s.time.tai % 2 ^ 32
        recomp := if k.voq then s.recompOf k q else 0 }
      let s := (s.countQueue q Fld.QC_ENQ_PACKETS).countQueue q Fld.QC_ENQ_BYTES k.len
      let idle := !k.voq && Nat.blt k.dest 128 && s.portIdle k.dest
      let s := s.changing q fun s => s.setQueue q (s.queue q ++ [k'])
      let later := if 0 < k.cellsHeld ∨ k.scheduled = true then 0 else k.whole - 1
      let s : State := (s.withNet { s.net with units := s.net.units ++ List.replicate later (k.requester, k.id) })
      let tryCut := fun (s : State) (k' : Pkt) => if k.voq ∨ 128 ≤ k.dest then s else s.tryCut k' q idle
      if known then s
      else if k'.complete then
        -- a frame of one unit is whole with its first unit, whose last flit reports its FCS (R149, R172, R182)
        let (k', s) := s.trim k'
        let s := s.updateQueued q k.id fun _ => k'
        if k.fcsBad then s.discardBad k' else tryCut s k'
      else tryCut s k'

/-- Insertion of an element after those with a key at most its own. -/
def insertBy {α : Type} (f : α → Nat) (a : α) : List α → List α
  | [] => [a]
  | b :: l => if f a < f b then a :: b :: l else b :: insertBy f a l

/-- Stable sort by a key. -/
def sortBy {α : Type} (f : α → Nat) (l : List α) : List α := l.foldl (fun acc a => insertBy f a acc) []

/-- Cuts a free list after `left` buffers of `units` units each (R184): how many it loses. -/
def State.cutList (s : State) (k size left : Nat) : Nat × State :=
  let f := s.freeList k
  let f' := f.cutAt size left
  (f.length size - f'.length size, s.setFreeList k f')

/-- A pool manager's memory error (R160, R184). What is lost stays taken, so that LEAKED_UNITS grows by the units that are no longer free,
reserved or charged (staging cells count as in use; DEDUCED, log entry 145). The 64 pointers held ready on die are not lost. -/
def State.poolUpset (s : State) (x : PoolUpset) : State :=
  let lost := fun (s : State) (g n : Nat) => ((s.bump (Obj.BUFFER_REGION_ECC_UNCORRECTED g)).leak g n).raise 0x4241 uTD2D 0 g
  match x with
  | .corrected g => s.bump (Obj.BUFFER_REGION_ECC_CORRECTED g)
  | .cellList g b left =>
    if s.cells g = false then s
    else
      let (n, s) := s.cutList (64 * g + b) (subSize (s.totalUnits g) b) left
      (lost s g n).takeUnits g n
  | .poolList g j left =>
    if s.cells g then s
    else
      let (n, s) := s.cutList (poolList g j) (s.get (Obj.POOL_BUF_COUNT (poolIndex g j))) (max left 64)
      let units := n * (s.get (Obj.POOL_BUF_BYTES (poolIndex g j)) / 256)
      ((lost s g units).takePool (poolKey g j) n).takeUnits g units
  | .bitmap g i word =>
    let pp := i.val + 1
    let m := Table.get zeroN s.net.maps (ppKey g pp)
    let free := ((List.range 64).map fun k => 64 * word.val + k).filter fun k =>
      Nat.blt k (s.get (Obj.PRIV_POOL_BUF_COUNT (ppIndex g pp))) && !m.testBit k
    let s : State := s.withNet { s.net with maps := Table.put zeroN s.net.maps (ppKey g pp) (m + (free.map fun k => 2 ^ k).sum) }
    (lost s g (free.length * (s.ppBytes g pp / 256))).takePool (ppKey g pp) free.length

/-- ADMISSION (R175, R176): one CLK_BUF cycle: up to 64 waiting first units, chosen by rotation over requesters, decided in
ascending requester order. `upsets` are the errors its takes meet. -/
def execAdmission (upsets : List PoolUpset) (s : State) : Out :=
  s.inCore fun s =>
    if s.ev.d2dRetrain.isSome then s else
    let s := forEach upsets s fun s x => s.poolUpset x
    let turn := sortBy (fun (k : Pkt) => (k.requester + 388 - s.net.admitPtr % 388) % 388) s.net.toAdmit
    let chosen := sortBy (fun (k : Pkt) => k.requester) (turn.take 64)
    match chosen with
    | [] => s
    | _ =>
      let ids := chosen.map (·.id)
      let ptr := (chosen.foldl (fun m k => max m k.requester) 0 + 1) % 388
      let s : State := (s.withNet { s.net with
        toAdmit := s.net.toAdmit.filter fun k => !ids.contains k.id, admitPtr := ptr, deciding := true })
      (forEach chosen s fun s k => s.decideAdmission k).endDeciding

/-- Applies a change to a packet wherever it is after its selection. -/
def State.updateSelected (s : State) (id : Nat) (f : Pkt → Pkt) : State :=
  let upd := fun (l : List Pkt) => l.map fun x => if x.id = id then f x else x
  (s.withNet { s.net with
    egress := s.net.egress.map fun e => (e.1, upd e.2)
    tx := s.net.tx.map fun e => (e.1, upd e.2)
    wire := s.net.wire.map fun e => (e.1, e.2.map fun w => (if w.1.id = id then f w.1 else w.1, w.2)) })

/-- The packet selected before its last unit, wherever it is. -/
def State.selected (s : State) (id : Nat) : Option Pkt :=
  let l := s.net.egress.flatMap (·.2) ++ s.net.tx.flatMap (·.2) ++ s.net.wire.filterMap fun e => e.2.map (·.1)
  l.find? fun x => Nat.beq x.id id

/-- The last unit of a packet has arrived: unused reserved units go back (R172), the packet becomes selectable (R189), a late
charge is applied (R203), a bad FCS ends it (R182). -/
def State.lastUnit (s : State) (k : Pkt) (queued : Bool) : State :=
  let (k', s) := s.trim k
  if queued then
    let s := s.updateQueued k.queue k.id fun _ => k'
    if k.fcsBad then s.discardBad k' else s
  else
    let s := s.chargeLate k'
    let s := s.updateSelected k.id fun x => { x with
      units := k'.units, taken := k'.taken, arrived := k'.whole, cells := k'.cells, out := k.len, stomp := x.stomp || k.fcsBad }
    -- it has been read out already but for this unit (R178)
    if k.read then s.release k' k'.cellsLost else s

/-- STAGING_DONE (R173, R174): the oldest HBM write from staging cells, or copy of a reassembled packet, completes and frees them. -/
def execStagingDone (s : State) : Out :=
  s.inCore fun s =>
    match s.net.staging with
    | [] => s
    | x :: l =>
      let s : State := (s.withNet { s.net with staging := l })
      let s := s.freeCells x.cells
      match x.requester with
      | some r => s.creditTo r 0 x.cells.length
      | none => s

/-- IDLE_MAP (R180): the map of idle line ports that the T die sends every 8 ns. -/
def execIdleMap (s : State) : Out :=
  s.inCore fun s => if s.d2dUp = false then s else
    (s.withNet { s.net with idleMap := (List.range 128).filter fun p => s.portIdle p })

/-- Bytes of the buffer memory of a region. -/
def State.regionBytes (s : State) (g : Nat) : Nat := s.regionUnits g * 256

/-- A region's configuration may come into service (R164). -/
def State.regionOk (s : State) (g : Nat) : Bool :=
  let pools := ((List.range 8).map fun j => (s.get (Obj.POOL_BUF_BYTES (poolIndex g j)), s.get (Obj.POOL_BUF_COUNT (poolIndex g j)))).filter fun x => Nat.blt 0 x.2
  let privs := ([1, 2, 3, 4].map fun pp => (s.ppBytes g pp, s.get (Obj.PRIV_POOL_BUF_COUNT (ppIndex g pp)))).filter fun x => Nat.blt 0 x.2
  let size := fun (b : Nat) => Nat.beq (b % 256) 0 && Nat.ble 256 b && Nat.ble b 16384
  let rec rising : List (Nat × Nat) → Bool
    | a :: b :: l => Nat.blt a.1 b.1 && rising (b :: l)
    | _ => true
  let privBytes := (privs.map fun x => x.1 * x.2).sum
  if s.cells g then Nat.ble privBytes (s.regionBytes g)
  else
    pools.all (fun x => size x.1) && privs.all (fun x => size x.1) && rising pools &&
    pools.any (fun x => Nat.ble 16128 x.1) && Nat.ble ((pools.map fun x => x.1 * x.2).sum + privBytes) (s.regionBytes g)

/-- The free lists of a region that holds nothing are formed anew from its configuration (DESIGN CHOICE, log entry 141). -/
def State.formLists (s : State) (g : Nat) : State :=
  if Table.get zeroN s.net.used g ≠ 0 ∨ ([1, 2, 3, 4].any fun pp => Nat.blt 0 (Table.get zeroN s.net.poolUsed (ppKey g pp))) then s
  else s.withNet { s.net with frees := Table.keep (fun k => !Nat.beq (k / 64) g) s.net.frees, sub := Table.put zeroN s.net.sub g 0 }

/-- BUF_ENABLE (R164). -/
def ruleBufEnable (v : Nat) (s : State) : Res :=
  if v = 1 ∧ ((List.range 3).all fun g => s.regionOk g) = false then (.invalid, s)
  else (if v = 1 ∧ s.get Obj.BUFFER_CTRL_BUF_ENABLE = 0 then forEach (List.range 3) s fun s g => s.formLists g else s).plain Obj.BUFFER_CTRL_BUF_ENABLE v

/-- BUF_ENABLE. -/
def execBufEnable (master value : Nat) (s : State) : Out :=
  s.rowWrite master Obj.BUFFER_CTRL_BUF_ENABLE value (ruleBufEnable value)

/-- Region, pool and privileged-pool configuration and HC_SIZE_MB: BUSY while the buffers are enabled (R164). -/
def ruleBufSetting (key v : Nat) (s : State) : Res :=
  if s.on Obj.BUFFER_CTRL_BUF_ENABLE then (.busy, s) else s.plain key v

/-- ALPHA_K, SPILL_ON and SPILL_OFF of a buffer profile (R169, R170). -/
def ruleBufProfile (n key v : Nat) (s : State) : Res :=
  let get := fun k => if k = key then v else s.get k
  let codes := (List.range 6).all fun i => exponentOk (bits (get (Obj.BUFFER_PROFILE_ALPHA_K n)) (4 * i) 4)
  if codes = false ∨ get (Obj.BUFFER_PROFILE_SPILL_ON n) ≤ get (Obj.BUFFER_PROFILE_SPILL_OFF n) then (.invalid, s)
  else s.plain key v

end Sys2Proof.Machine
end

