-- ==== Sys2Proof/Machine/Edit.lean ====
section
/-! DEFINITION. Header editing in the egress pipeline (R135, R150 to R154). The functions work on a frame without its FCS. -/

namespace Sys2Proof.Machine

/-- What stands at a packet's L3 offset. -/
inductive L3Kind where
  | v4 | v6 | label | other
deriving DecidableEq, Repr

/-- The kind an EtherType names. -/
def l3Kind (etype : Nat) : L3Kind :=
  if etype = 0x0800 then .v4 else if etype = 0x86DD then .v6 else if etype = 0x8847 ∨ etype = 0x8848 then .label else .other

/-- EtherType position before an L3 offset. -/
def etypeAt (f : List Byte) (l3 : Nat) : Nat := wordAt f (l3 - 2) 2

/-- Removes `n` bytes from `i`. -/
def cutAt (f : List Byte) (i n : Nat) : List Byte := f.take i ++ f.drop (i + n)
/-- Inserts bytes at `i`. -/
def insertAt (f : List Byte) (i : Nat) (b : List Byte) : List Byte := f.take i ++ b ++ f.drop i

/-- Sets the EtherType before an L3 offset to that of the IP header found there, by its version nibble (log entry 17). -/
def fixEtype (f : List Byte) (l3 : Nat) : List Byte :=
  if l3 < 2 then f
  else match byteAt f l3 / 16 with
  | 4 => putAt f (l3 - 2) 2 0x0800
  | 6 => putAt f (l3 - 2) 2 0x86DD
  | _ => f

/-- L3 offset of an Ethernet frame: after the MAC pair, its VLAN tags and the EtherType. -/
def l3Of (f : List Byte) : Nat :=
  let tag := fun (i : Nat) => decide (wordAt f i 2 = 0x8100 ∨ wordAt f i 2 = 0x88A8)
  if tag 12 then (if tag 16 then 22 else 18) else 14

/-- What `l3` shows is no IP header: its first nibble is neither 4 nor 6. -/
def notIp (f : List Byte) (l3 : Nat) : Bool := !(Nat.beq (byteAt f l3 / 16) 4 || Nat.beq (byteAt f l3 / 16) 6)

/-- Kind of the header at an L3 offset, by the EtherType before it. `bare`: an edit has exposed something there that is no IP header and that
no EtherType names (DEDUCED, log entry 17). No header stands at the offset 0 of a packet without one (DESIGN CHOICE, log entry 180). -/
def kindAt (f : List Byte) (l3 : Nat) (bare : Bool) : L3Kind := if bare || Nat.blt l3 2 then .other else l3Kind (etypeAt f l3)

/-- Writes the EtherType before an L3 offset; at the offset 0 there is none (DESIGN CHOICE, log entry 180). -/
def putEtype (f : List Byte) (l3 v : Nat) : List Byte := if l3 < 2 then f else putAt f (l3 - 2) 2 v

/-- The label operation of R135 at the top label; and whether it has popped the last one off something that is no IP header. -/
def labelEdit (op new l3 : Nat) (f : List Byte) : List Byte × Bool :=
  match op with
  | 1 => (putAt f l3 4 (setBits (wordAt f l3 4) 12 20 new), false)
  | 2 =>
    let bottom := bit (wordAt f l3 4) 8
    let g := cutAt f l3 4
    if bottom then (fixEtype g l3, notIp g l3) else (g, false)
  | _ => (f, false)

/-- Bytes of the label stack at `i`, counted to the bottom of stack. -/
def stackBytes (f : List Byte) (i : Nat) : Nat → Nat
  | 0 => 0
  | n + 1 => if f.length < i + 4 then 0 else if bit (wordAt f i 4) 8 then 4 else 4 + stackBytes f (i + 4) n

/-- Decapsulation (R150): the frame, its L3 offset, and whether what stands there is no IP header and no label. `bare`: that is so already,
after a POP. A packet without a tunnel, whose STRIP_OFF is 0, keeps its bytes in modes 1 and 2 (DESIGN CHOICE, log entry 181). -/
def decapEdit (mode l3 strip : Nat) (bare : Bool) (f : List Byte) : List Byte × Nat × Bool :=
  let exposed := fun (g : List Byte) => (fixEtype g l3, l3, notIp g l3)
  -- a control word begins with nibble 0
  let noControl := fun (g : List Byte) => if byteAt g l3 / 16 = 0 then (cutAt g l3 4, l3, true) else exposed g
  match mode with
  | 1 => if l3 < strip then exposed (cutAt f l3 (strip - l3)) else (f, l3, bare)
  | 2 => if 0 < strip then let g := f.drop strip; (g, l3Of g, false) else (f, l3, bare)
  | 3 =>
    if bare then noControl f
    else if kindAt f l3 false = .label then noControl (cutAt f l3 (stackBytes f l3 64))
    else (f, l3, false)
  | _ => (f, l3, bare)

/-- RFC 1624 update of a checksum when a word changes. -/
def checksumUpdate (c old new : Nat) : Nat :=
  let t := (65535 - c) + (65535 - old) + new
  let t := t % 65536 + t / 65536
  65535 - (t % 65536 + t / 65536)

/-- TTL of the header of kind `k` at an L3 offset. -/
def ttlAt (f : List Byte) (l3 : Nat) (k : L3Kind) : Option Nat :=
  match k with
  | .v4 => some (byteAt f (l3 + 8))
  | .v6 => some (byteAt f (l3 + 7))
  | .label => some (byteAt f (l3 + 3))
  | .other => none

/-- Decrements the outermost TTL (R150, R152). -/
def ttlEdit (f : List Byte) (l3 : Nat) (k : L3Kind) : List Byte :=
  let dec := fun (t : Nat) => (t + 255) % 256
  match k with
  | .v4 =>
    let old := wordAt f (l3 + 8) 2
    let g := putAt f (l3 + 8) 1 (dec (byteAt f (l3 + 8)))
    putAt g (l3 + 10) 2 (checksumUpdate (wordAt f (l3 + 10) 2) old (wordAt g (l3 + 8) 2))
  | .v6 => putAt f (l3 + 7) 1 (dec (byteAt f (l3 + 7)))
  | .label => putAt f (l3 + 3) 1 (dec (byteAt f (l3 + 3)))
  | .other => f

/-- DSCP of the IP header at an L3 offset. -/
def dscpAt (f : List Byte) (l3 : Nat) (k : L3Kind) : Option Nat :=
  match k with
  | .v4 => some (byteAt f (l3 + 1) / 4)
  | .v6 => some (bits (wordAt f l3 4) 22 6)
  | _ => none

/-- Outer IPv4 header (R153; identification, flags and ECN are 0, log entry 18). -/
def ipv4Header (dscp ttl proto len sa da : Nat) : List Byte :=
  let h := bytesBE 2 (0x4500 + dscp * 4) ++ bytesBE 2 (20 + len) ++ bytesBE 4 0 ++ bytesBE 1 ttl ++ bytesBE 1 proto ++ bytesBE 2 0 ++
    bytesBE 4 sa ++ bytesBE 4 da
  putAt h 10 2 (65535 - onesSum (byteAt h) 0 20)

/-- Outer IPv6 header (flow label and ECN are 0, log entry 18). -/
def ipv6Header (dscp ttl next len sa da : Nat) : List Byte :=
  bytesBE 4 (6 * 2 ^ 28 + dscp * 2 ^ 22) ++ bytesBE 2 len ++ bytesBE 1 next ++ bytesBE 1 ttl ++ bytesBE 16 sa ++ bytesBE 16 da

/-- Segment routing header over SIDs in path order, stored last segment first (RFC 8754, log entry 18). -/
def srh (next : Nat) (path : List Nat) : List Byte :=
  let n := path.length
  bytesBE 1 next ++ bytesBE 1 (2 * n) ++ bytesBE 1 4 ++ bytesBE 1 (n - 1) ++ bytesBE 1 (n - 1) ++ bytesBE 3 0 ++
    path.reverse.flatMap fun x => bytesBE 16 x

/-- What an encapsulation needs from its packet and tables. -/
structure EncapIn where
  entry : Nat
  arg : Nat
  pushArg : Bool
  sids : List Nat
  cls : Nat
  entropy : Nat
  dmac : Nat
  smac : Nat
  /-- What stands at the L3 offset. -/
  kind : L3Kind
deriving DecidableEq, Repr

/-- Outer IP and UDP headers before a payload (R153). -/
def udpTunnel (i : EncapIn) (dscp ttl : Nat) (payload : List Byte) : List Byte :=
  let e := i.entry
  let udp := bytesBE 2 (Nat.lor 0xC000 (i.entropy % 2 ^ 14)) ++ bytesBE 2 (Fld.ENC_UDP_DPORT.get e) ++ bytesBE 2 (8 + payload.length) ++ bytesBE 2 0
  let len := 8 + payload.length
  let ip := if Fld.ENC_OUTER_V6.get e = 1 then ipv6Header dscp ttl 17 len (Fld.ENC_OUTER_SA.get e) (Fld.ENC_OUTER_DA.get e)
    else ipv4Header dscp ttl 17 len (Fld.ENC_OUTER_SA.get e % 2 ^ 32) (Fld.ENC_OUTER_DA.get e % 2 ^ 32)
  ip ++ udp

/-- IPv4 outer addresses stand in the low 32 bits of their fields: [383:352] of OUTER_SA and the like place of OUTER_DA. -/
def encapEtype (e : Nat) : Nat := if Fld.ENC_OUTER_V6.get e = 1 then 0x86DD else 0x0800

/-- MPLS labels of an encapsulation entry, label 0 outermost (R151). -/
def encapLabels (e : Nat) : List Nat :=
  (List.range (Fld.ENC_COUNT.get e)).map fun k =>
    bits (if k < 4 then Fld.ENC_OUTER_SA.get e else Fld.ENC_OUTER_DA.get e) (128 - 32 * (k % 4 + 1) + 12) 20

/-- Applies an encapsulation (R153): the frame, its L3 offset and the labels pushed; none: an edit error. -/
def encapEdit (i : EncapIn) (f : List Byte) (l3 : Nat) : Option (List Byte × Nat × Nat) :=
  let e := i.entry
  let ttl := if Fld.ENC_TTL.get e = 0 then (ttlAt f l3 i.kind).getD 64 else Fld.ENC_TTL.get e
  let dscp := if Fld.ENC_DSCP_COPY.get e = 1 then (dscpAt f l3 i.kind).getD (Fld.ENC_DSCP.get e) else Fld.ENC_DSCP.get e
  let kind := Fld.ENC_KIND.get e
  if i.pushArg = true ∧ kind ≠ 1 then none
  else match kind with
  | 0 => some (f, l3, 0)
  | 1 =>
    let labels := encapLabels e ++ if i.pushArg then [i.arg % 2 ^ 20] else []
    let tc := if Fld.ENC_DSCP_COPY.get e = 1 then i.cls else Fld.ENC_DSCP.get e % 8
    let over' : Bool := decide (i.kind = .label)
    let words := (List.range labels.length).map fun k =>
      let s : Nat := if k + 1 = labels.length ∧ over' = false then 1 else 0
      labels.getD k 0 * 2 ^ 12 + tc * 2 ^ 9 + s * 2 ^ 8 + ttl
    if labels = [] then some (f, l3, 0)
    else some (putEtype (insertAt f l3 (words.flatMap fun w => bytesBE 4 w)) l3 0x8847, l3, labels.length)
  | 2 =>
    let inner := bytesBE 1 8 ++ bytesBE 3 0 ++ bytesBE 3 (i.arg % 2 ^ 24) ++ bytesBE 1 0 ++ f
    let eth := bytesBE 6 i.dmac ++ bytesBE 6 i.smac ++ bytesBE 2 (encapEtype e)
    some (eth ++ udpTunnel i dscp ttl inner ++ inner, 14, 0)
  | 3 =>
    let inner := f.drop l3
    let ext := if Fld.ENC_QFI_EXT.get e = 1 then bytesBE 4 0x00000085 ++ bytesBE 4 (0x01000000 + Fld.ENC_QFI.get e * 2 ^ 8) else []
    let gtp := bytesBE 1 (if ext = [] then 0x30 else 0x34) ++ bytesBE 1 0xFF ++ bytesBE 2 (ext.length + inner.length) ++ bytesBE 4 i.arg ++ ext
    some (putEtype (f.take l3) l3 (encapEtype e) ++ udpTunnel i dscp ttl (gtp ++ inner) ++ gtp ++ inner, l3, 0)
  | 4 =>
    let n := Fld.ENC_COUNT.get e
    let next := if i.kind = .v4 then 4 else 41
    let inner := f.drop l3
    if n = 0 ∨ 6 < n then none
    else
      let h := srh next (i.sids.take n)
      some (putEtype (f.take l3) l3 0x86DD ++
        ipv6Header dscp ttl 43 (h.length + inner.length) (Fld.ENC_OUTER_SA.get e) (i.sids.headD 0) ++ h ++ inner, l3, 0)
  | 5 =>
    let n := Fld.ENC_COUNT.get e
    if n = 0 ∨ 6 < n ∨ i.kind ≠ .v6 then none
    else
      let h := srh (byteAt f (l3 + 6)) (i.sids.take n ++ [wordAt f (l3 + 24) 16])
      let g := putAt (putAt (putAt f (l3 + 4) 2 (wordAt f (l3 + 4) 2 + h.length)) (l3 + 6) 1 43) (l3 + 24) 16 (i.sids.headD 0)
      some (insertAt g (l3 + 40) h, l3, 0)
  | _ => none

/-- VLAN operation of a template (R150). -/
def vlanEdit (t cls : Nat) (f : List Byte) : List Byte :=
  let tagged : Bool := decide (wordAt f 12 2 = 0x8100 ∨ wordAt f 12 2 = 0x88A8)
  let pcp := if Fld.TPL_PCP_FROM_CLASS.get t = 1 then cls else Fld.TPL_PCP.get t
  match Fld.TPL_VLAN_OP.get t with
  | 1 => if tagged then cutAt f 12 4 else f
  | 2 => insertAt f 12 (bytesBE 2 0x8100 ++ bytesBE 2 (pcp * 2 ^ 13 + Fld.TPL_VID.get t))
  | 3 => if tagged then putAt f 14 2 (setBits (wordAt f 14 2) 0 12 (Fld.TPL_VID.get t)) else f
  | _ => f

/-- What editing makes of a packet. -/
inductive Edited where
  | frame (body : List Byte) (mtu : Nat)
  | error
  /-- A damaged table entry drops it (R156). -/
  | parity
deriving DecidableEq, Repr

/-- Edits one packet (R152): its frame without FCS, and the MTU that applies. -/
def State.editPacket (s : State) (k : Pkt) : Edited :=
  let f := k.bytes.take (k.bytes.length - 4)
  let (f, bare) := labelEdit k.labelOp k.newLabel k.l3Off f
  -- a label that has been popped stood before the first header after the last tunnel header
  let strip := if k.labelOp = 2 ∧ k.l3Off < k.stripOff then k.stripOff - 4 else k.stripOff
  let run := fun (t : Nat) (nh : Option Nat) =>
    if Fld.TPL_VALID.get t = 0 then Edited.error
    else
      let e := match nh with | some h => s.dom Dom.ENCAPS (Fld.NH_ENCAP.get h) | none => 0
      let arg := match nh with | some h => Fld.NH_EDIT_ARG.get h | none => 0
      let dmac := match nh with | some h => Fld.NH_DMAC.get h | none => wordAt f 0 6
      let sidEntry := s.dom Dom.SID_LISTS (arg % 4096)
      let sids := (List.range 6).map fun j => bits sidEntry (128 * (5 - j)) 128
      let (f1, l3, bare) := decapEdit (Fld.TPL_DECAP.get t) k.l3Off strip bare f
      let kind := kindAt f1 l3 bare
      let f1 := if Fld.TPL_TTL_DEC.get t = 1 then ttlEdit f1 l3 kind else f1
      let i : EncapIn := ⟨e, arg, Nat.beq (Fld.TPL_PUSH_ARG_LABEL.get t) 1, sids, k.cls, k.entropy, dmac, Fld.TPL_SMAC.get t, kind⟩
      match if Fld.TPL_USE_ENCAP.get t = 1 then (if nh.isSome then encapEdit i f1 l3 else none) else some (f1, l3, 0) with
      | none => .error
      | some (f2, _, pushed) =>
        let f3 := vlanEdit t k.cls f2
        let f4 := if Fld.TPL_L2_REWRITE.get t = 1 then bytesBE 6 dmac ++ bytesBE 6 (Fld.TPL_SMAC.get t) ++ f3.drop 12 else f3
        if k.bytes.length + 160 < f4.length + 4 ∨ 8 < pushed then .error else .frame f4 (Fld.TPL_MTU.get t)
  let bad := fun (d e : Nat) => s.isDamaged (domKey d e)
  match k.edit with
  | .none => .frame f 16000
  | .bridge t => if bad Dom.EDIT_TEMPLATES t then .parity else run (s.dom Dom.EDIT_TEMPLATES t) none
  | .nextHop n =>
    let h := s.dom Dom.NEXT_HOPS n
    let t := Fld.NH_TEMPLATE.get h
    let e := Fld.NH_ENCAP.get h
    let tpl := s.dom Dom.EDIT_TEMPLATES t
    let useEncap : Bool := Nat.beq (Fld.TPL_USE_ENCAP.get tpl) 1
    let srv6 : Bool := Nat.ble 4 (Fld.ENC_KIND.get (s.dom Dom.ENCAPS e)) && Nat.ble (Fld.ENC_KIND.get (s.dom Dom.ENCAPS e)) 5
    if bad Dom.NEXT_HOPS n || bad Dom.EDIT_TEMPLATES t || (useEncap && (bad Dom.ENCAPS e || (srv6 && bad Dom.SID_LISTS (Fld.NH_EDIT_ARG.get h % 4096)))) then .parity
    else run tpl (some h)

/-- A frame of a body: padded to 64 bytes with its FCS (log entry 16). -/
def withFcs (body : List Byte) : List Byte :=
  let b := body ++ List.replicate (60 - body.length) 0
  b ++ bytesLE 4 (crc32 b)

end Sys2Proof.Machine
end

