-- ==== Sys2Proof/Machine/Recomp.lean ====
section
/-! DEFINITION. Fronthaul recompression: qualification, section walk, block floating point arithmetic and profile writes (R251 to
R266). The functions work on a frame without its FCS. -/

namespace Sys2Proof.Machine

/-- A format the device accepts: method 1 with widths from 8 to 16, method 0 with width 16 (R256). -/
def formatOk (b : Nat) : Bool :=
  let w := b / 16
  (Nat.beq (b % 16) 0 && Nat.beq w 0) || (Nat.beq (b % 16) 1 && (Nat.beq w 0 || Nat.ble 8 w))

/-- Mantissa width of a format. -/
def formatWidth (b : Nat) : Nat := if b / 16 = 0 then 16 else b / 16

/-- Bytes of a PRB in a format (R256). -/
def prbBytes (b : Nat) : Nat := if b % 16 = 1 then 1 + 3 * formatWidth b else 48

/-- x / 2^e rounded to nearest, ties to even (R259). -/
def rne (x : Int) (e : Nat) : Int :=
  if e = 0 then x
  else
    let q := x.fdiv (2 ^ e : Nat)
    let rem := x - q * (2 ^ e : Nat)
    let half : Int := (2 ^ (e - 1) : Nat)
    if half < rem ∨ (rem = half ∧ q % 2 = 1) then q + 1 else q

/-- Least exponent at which every rounded value fits (R259). -/
def leastExp (w : Nat) (xs : List Int) : Nat :=
  let lo : Int := -(2 ^ (w - 1) : Nat)
  let hi : Int := (2 ^ (w - 1) : Nat) - 1
  ((List.range 16).find? fun e => xs.all fun x => decide (lo ≤ rne x e) && decide (rne x e ≤ hi)).getD 15

/-- Values packed most significant bit first, `w` bits each (R256). -/
def packBits (w : Nat) (xs : List Int) : List Byte :=
  bytesBE (xs.length * w / 8) (xs.foldl (fun a x => a * 2 ^ w + unsigned w x) 0)

/-- The 24 values of packed bytes. -/
def unpackBits (w : Nat) (l : List Byte) : List Int :=
  let n := natBE l
  (List.range 24).map fun i => signed w (n / 2 ^ (w * (23 - i)) % 2 ^ w)

/-- One PRB re-encoded (R258 to R261): bytes, values clipped, whether its input exponent was out of range. -/
def recompPrb (fin fout : Nat) (prb : List Byte) : List Byte × Nat × Bool :=
  let w := formatWidth fin
  let e := if fin % 16 = 1 then byteAt prb 0 % 16 else 0
  let bad : Bool := Nat.beq (fin % 16) 1 && Nat.blt (16 - w) e
  let xs : List Int := if bad then List.replicate 24 0
    else if fin % 16 = 1 then (unpackBits w (prb.drop 1)).map fun m => m * (2 ^ e : Nat)
    else unpackBits 16 prb
  if fout % 16 = 1 then
    let v := formatWidth fout
    let ex := leastExp v xs
    let lo : Int := -(2 ^ (v - 1) : Nat)
    let rs := xs.map fun x => rne x ex
    let clipped := (rs.filter fun r => decide (r = lo)).length
    (bytesBE 1 ex ++ packBits v (rs.map fun r => if r = lo then lo + 1 else r), clipped, bad)
  else (packBits 16 xs, 0, bad)

/-- Counts of one packet. -/
structure RecompCount where
  prbs : Nat := 0
  clipped : Nat := 0
  bad : Nat := 0
deriving DecidableEq, Repr

/-- What a profile says (R266). -/
structure RecompProfile where
  inHdr : Bool
  inFormat : Nat
  outHdr : Bool
  outFormat : Nat
  allPrb : Nat
deriving DecidableEq, Repr

/-- A profile's settings as a packet that enters its pipeline takes them: a write of this instant is not seen yet (R267). -/
def State.recompProfile (s : State) (n : Nat) : RecompProfile :=
  ⟨Nat.beq (s.cycleGet (Obj.RECOMP_PROFILE_IN_HDR (n - 1))) 1, s.cycleGet (Obj.RECOMP_PROFILE_IN_FORMAT (n - 1)),
    Nat.beq (s.cycleGet (Obj.RECOMP_PROFILE_OUT_HDR (n - 1))) 1, s.cycleGet (Obj.RECOMP_PROFILE_OUT_FORMAT (n - 1)),
    s.cycleGet (Obj.RECOMP_PROFILE_ALL_PRB (n - 1))⟩

/-- PRBs of a section re-encoded in order. -/
def recompPrbs (fin fout : Nat) (l : List Byte) : Nat → List Byte × RecompCount
  | 0 => ([], {})
  | n + 1 =>
    let size := prbBytes fin
    let (b, c, bad) := recompPrb fin fout (l.take size)
    let (r, k) := recompPrbs fin fout (l.drop size) n
    (b ++ r, ⟨k.prbs + 1, k.clipped + c, k.bad + ofBool bad⟩)

/-- The sections of a payload (R256, R257): the output and its counts; none when it is malformed. `n` more may come. -/
def recompSections (p : RecompProfile) : Nat → List Byte → Option (List Byte × RecompCount)
  | 0, l => if l = [] then some ([], {}) else none
  | n + 1, l =>
    if l = [] then some ([], {})
    else if l.length < (if p.inHdr then 6 else 4) then none
    else
      let head := l.take 4
      let count := if byteAt head 3 = 0 then p.allPrb else byteAt head 3
      let fin := if p.inHdr then byteAt l 4 else p.inFormat
      let body := l.drop (if p.inHdr then 6 else 4)
      let size := count * prbBytes fin
      if formatOk fin = false ∨ body.length < size then none
      else
        let (out, c) := recompPrbs fin p.outFormat body count
        match recompSections p n (body.drop size) with
        | none => none
        | some (rest, k) =>
          some (head ++ (if p.outHdr then bytesBE 1 p.outFormat ++ bytesBE 1 0 else []) ++ out ++ rest,
            ⟨c.prbs + k.prbs, c.clipped + k.clipped, c.bad + k.bad⟩)

/-- What recompression makes of a frame. -/
inductive Recompressed where
  /-- Sent unchanged (R255). -/
  | passed
  | malformed
  | done (body : List Byte) (c : RecompCount)
deriving DecidableEq, Repr

/-- Recompresses a frame without FCS (R255 to R261, R264). -/
def recompress (p : RecompProfile) (f : List Byte) : Recompressed :=
  let h := l3Of f
  if wordAt f (h - 2) 2 ≠ 0xAEFE ∨ f.length < h + 9 then .passed
  else
    let b0 := byteAt f h
    let size := wordAt f (h + 2) 2
    let start := h + 4
    -- revision 1, C 0, message type 0, O-RAN payload version 1
    if b0 / 16 ≠ 1 ∨ b0 % 2 ≠ 0 ∨ byteAt f (h + 1) ≠ 0 ∨ bits (byteAt f (h + 8)) 4 3 ≠ 1 then .passed
    else if f.length < start + size ∨ size < 8 then .malformed
    else
      let fixed := (f.drop start).take 8
      match recompSections p 64 ((f.drop (start + 8)).take (size - 8)) with
      | none => .malformed
      | some (out, c) => .done (putAt (f.take start) (h + 2) 2 (8 + out.length) ++ fixed ++ out) c

/-- A write of a profile field (R266). -/
def ruleRecompProfile (key v : Nat) (s : State) : Res :=
  if (keySub key = 2 ∨ keySub key = 4) ∧ formatOk v = false then (.invalid, s) else s.plain key v

end Sys2Proof.Machine
end

