-- ==== Sys2Proof/Machine/Egress.lean ====
section
/-! DEFINITION. The egress pipelines and what follows them: editing, recompression, errors of the packet memory, the ways out of
scheduler ports 128 to 135 and recirculation (R152, R155, R183, R244, R252, R253, R264). -/

namespace Sys2Proof.Machine

/-- A selected packet has been read out toward its egress pipeline (R178): its buffers are released once its last unit has been. -/
def State.readOut (s : State) (k : Pkt) : Pkt × State := ({ k with read := true }, if k.complete then s.release k else s)

/-- A selected packet ends, whatever has been read of it: a charge that waits for its last unit is applied and the buffers it still holds
are released, but for the `lost` cells beyond a broken link (R178, R183, R203). -/
def State.settle (s : State) (k : Pkt) (lost : Nat := 0) : Pkt × State :=
  if k.complete then ({ k with read := true }, if k.read then s else s.release k lost)
  else ({ k with out := k.len, arrived := k.whole, read := true }, (s.chargeLate k).release k (max lost k.cellsLost))

/-- A packet has left its scheduler port: OUTSTANDING falls (R192). -/
def State.lessOutstanding (s : State) (p n : Nat) : State :=
  s.set (Obj.SCHED_PORT_OUTSTANDING p) (s.get (Obj.SCHED_PORT_OUTSTANDING p) - n)

/-- A selected packet is discarded before it leaves. -/
def State.dropSelected (s : State) (p : Nat) (k : Pkt) (lost : Nat := 0) : State :=
  let (k, s) := s.settle k lost
  (s.lessOutstanding p k.out).dropPacket k

/-- A packet whose data or links prove bad ends (R183): with its FCS inverted when its transmission has started, and else discarded. -/
def State.endPacket (s : State) (id : Nat) (lost : Nat := 0) : State :=
  match s.queueOf id with
  | some (q, _) => s.discardQueued q id lost
  | none =>
    let find := fun (l : Table (List Pkt)) => l.findSome? fun e => (e.2.find? fun k => Nat.beq k.id id).map fun k => (e.1, k)
    let less := fun (l : Table (List Pkt)) (p : Nat) => Table.put noList l p ((Table.get noList l p).filter fun x => !Nat.beq x.id id)
    match find s.net.egress with
    | some (p, k) => (s.withNet { s.net with egress := less s.net.egress p }).dropSelected p k lost
    | none => match find s.net.tx with
      | some (p, k) => (s.withNet { s.net with tx := less s.net.tx p }).dropSelected p k lost
      | none => s.updateSelected id fun k => { k with stomp := true, broken := if lost = 0 then k.broken else some (k.cells.length - lost) }

/-- What the error correction finds as a packet of a region is read (R160, R183): the cells that a broken link makes unreachable, when the
packet ends. -/
def State.readUpset (s : State) (k : Pkt) (x : ReadUpset) : Option Nat × State :=
  let bad := fun (s : State) => (s.bump (Obj.BUFFER_REGION_ECC_UNCORRECTED k.region)).raise 0x4240 uTD2D 0 k.region
  match x with
  | .clean => (none, s)
  | .corrected => (none, s.bump (Obj.BUFFER_REGION_ECC_CORRECTED k.region))
  | .data => (some 0, bad s)
  | .link n => (some (if s.cells k.region then k.cells.length - (n + 1) else 0), bad s)

/-- A packet that is cut through is read as its bytes come: what the error correction finds in them (R160, R183). -/
def State.readArrived (s : State) (k : Pkt) (x : ReadUpset) : State :=
  match s.readUpset k x with
  | (some lost, s) => s.endPacket k.id lost
  | (none, s) => s

/-- D2D_UNIT (R149): the next later unit of a requester's packets arrives and takes a cell of what its packet has reserved. A packet that is
cut through is read as its units come: `read.ecc` is what that read meets (R183). While the link is down units are discarded. -/
def execD2dUnit (read : UnitRead) (s : State) : Out :=
  s.inCore fun s =>
    if s.ev.d2dRetrain.isSome then s else
    match s.net.units.find? fun u => Nat.beq u.1 read.requester with
    | none => s
    | some u =>
      let rec drop : List (Nat × Nat) → List (Nat × Nat)
        | [] => []
        | v :: l => if v.1 = u.1 then l else v :: drop l
      let s : State := (s.withNet { s.net with units := drop s.net.units })
      if s.ev.d2dFailed then s
      else match s.queueOf u.2 with
        | some (q, k) =>
          let (k', s) := s.store k (s.bufsOf k (k.arrived + 1))
          if k.arrived + 1 = k.whole then s.lastUnit k' true
          else s.setQueue q ((s.queue q).map fun x => if x.id = k.id then { k' with arrived := x.arrived + 1 } else x)
        | none => match s.selected u.2 with
          | some k =>
            let (k', s) := s.store k (s.bufsOf k (k.arrived + 1))
            let last : Bool := Nat.beq (k.arrived + 1) k.whole
            let s := s.updateSelected k.id fun x => { x with arrived := if last then x.arrived else x.arrived + 1, cells := k'.cells }
            let s := if k.read then s.readArrived k' read.ecc else s
            match last, s.selected k.id with
            | true, some x => s.lastUnit x false
            | _, _ => s
          | none => s

/-- Hands an edited packet on (R142, R155, R253, R464); the prediction of its wire time is corrected, or once its last byte has come (R244). A packet that XC has recompressed
keeps the metadata of its header edits, which the egress device makes (R253). -/
def State.handOn (s : State) (p : Nat) (k : Pkt) : State :=
  let toTx := fun (s : State) => (s.withNet { s.net with tx := Table.put noList s.net.tx p (Table.get noList s.net.tx p ++ [k]) })
  let s := if k.unfinished then s else s.wireActual p k.charge k.bytes.length
  if p < 128 then toTx s
  else if p = portHP then toTx s
  else if p = portMP then ((s.lessOutstanding p k.out).sendMate 10 0 0 0 k.bytes).txReport k none
  else if p = portRC then (s.withNet { s.net with recirc := s.net.recirc ++ [k] })
  else if p = portXC then
    let s := (s.lessOutstanding p k.out).bump Obj.RECOMP_CTRL_XC_PACKETS
    let k := { k with requester := 131, xcDone := true, known := true, arrived := 1, ct := false, recomp := 0, cellsHeld := 0, cells := [], read := false }
    (s.withNet { s.net with toAdmit := s.net.toAdmit ++ [k] })
  else (s.lessOutstanding p k.out).dropPacket k

/-- Recompression of an edited frame (R255, R257, R264, R266). -/
def State.recompPacket (s : State) (p : Nat) (k : Pkt) (body : List Byte) (mtu : Nat) : State :=
  let sector := s.egressSector p
  match recompress (s.recompProfile k.recomp) body with
  | .passed => (s.bump Obj.RECOMP_CTRL_PASSED).handOn p { k with bytes := withFcs body }
  | .malformed => ((s.bump Obj.RECOMP_CTRL_MALFORMED).raise 0x3109 (uFS sector) 0).dropSelected p k
  | .done out c =>
    let frame := withFcs out
    if mtu < frame.length then (s.bump Obj.RESOLUTION_MTU_DROPS).dropSelected p k
    else
      let n := k.recomp - 1
      let s := (s.bump (Obj.RECOMP_PROFILE_PACKETS n)).bump (Obj.RECOMP_PROFILE_PRBS n) c.prbs
      let s := (s.bump (Obj.RECOMP_PROFILE_CLIPPED n) c.clipped).bump (Obj.RECOMP_PROFILE_BAD_PRBS n) c.bad
      let s := forEach (List.range c.bad) s fun s _ => s.raise 0x3110 (uFS sector) 0
      s.handOn p { k with bytes := frame }

/-- EGRESS_PIPELINE (R152, R183, R252): the next dequeued packet of a port is read out, edited and recompressed; `read` is what the
read-out meets, and the parity errors of its reads of the resolution tables (R156). On the XC path no header edit is made, and the output
may have 16,000 bytes (R253, R264). -/
def execEgressPipeline (port : Fin 136) (read : EgressRead) (s : State) : Out :=
  s.inCore fun s =>
    match Table.get noList s.net.egress port with
    | [] => s
    | k :: l =>
      if s.ev.d2dRetrain.isSome = true ∨ s.pipesHeld = true then s else
      let s := s.workFor (128 + s.egressSector port) 4
      if (s.part (128 + s.egressSector port) 4).inRun = false then s else
      let s : State := (s.withNet { s.net with egress := Table.put noList s.net.egress port l })
      if s.ev.d2dFailed then s.dropSelected port k else
      match s.readUpset k read.ecc with
      | (some lost, s) => s.dropSelected port k lost
      | (none, s) =>
        let (k, s) := s.readOut k
        let s := forEach read.upsets s fun s u => s.upset false u
        -- a packet of a scheduled lane that is cut through is edited as far as it has come (R181, R333)
        let open' : Bool := k.scheduled && !k.complete
        let k := if open' then { k with bytes := k.bytes ++ List.replicate 4 (0#8) } else k
        match (if port.val = portXC then .frame (k.bytes.take (k.bytes.length - 4)) 16000 else s.editPacket k) with
        | .error => (s.editError (s.egressSector port)).dropSelected port k
        | .parity => (s.bump Obj.RESOLUTION_PARITY_DROPS).dropSelected port k
        | .frame body mtu =>
          let whole := if open' then k.len + (body.length + 4) - k.bytes.length else body.length + 4
          if mtu < whole then (s.bump Obj.RESOLUTION_MTU_DROPS).dropSelected port k
          else if open' then s.handOn port { k with bytes := body, unfinished := true }
          else if k.recomp ≠ 0 then s.recompPacket port k body mtu
          else s.handOn port { k with bytes := withFcs body }

/-- RECIRCULATE (R155): the next packet for RC re-enters an ingress pipeline, or is dropped at PASS 3. -/
def execRecirculate (s : State) : Out :=
  s.inCore fun s =>
    match s.net.recirc with
    | [] => s
    | k :: l =>
      let s : State := (s.withNet { s.net with recirc := l }).lessOutstanding portRC k.out
      let sector := s.get Obj.RESOLUTION_RECIRC_SECTOR
      if 3 ≤ k.pass then ((s.bump Obj.RESOLUTION_RECIRC_DROPS).raise 0x3106 (uFS sector) 0).dropPacket k
      else
        s.toSector sector { id := k.id, bytes := k.bytes, inPort := 130, requester := 130, rxTime := k.rxTime, rxStamp := k.rxStamp, pass := k.pass + 1, recircVrf := k.recircVrf, job := k.job }

end Sys2Proof.Machine
end

