-- ==== Sys2Proof/Machine/Line.lean ====
section
/-! DEFINITION. Line ports: modes, receiving, link state, pause and its watchdog, sending pause, timestamps, transmission, counters
and snapshots (R182, R246, R269 to R288). -/

namespace Sys2Proof.Machine

/-- A line port before anything happened to it. -/
def lineEmpty (_ : Nat) : LineState := {}
/-- Hidden state of a line port. -/
def State.lineOf (s : State) (p : Nat) : LineState := Table.get lineEmpty s.line.ports p
/-- Sets it. -/
def State.setLine (s : State) (p : Nat) (l : LineState) : State :=
  (s.withLine { s.line with ports := Table.put lineEmpty s.line.ports p l })

/-- A pause interval that is not there. -/
def pauseEmpty (_ : Nat) : PauseState := {}
/-- Sets a pause interval; priority 8 stands for the whole port. -/
def State.setPause (s : State) (p k : Nat) (x : PauseState) : State :=
  (s.withLine { s.line with pause := Table.put pauseEmpty s.line.pause (p * 16 + k) x })

/-- No counter. -/
def noCount (_ : Nat) : Option Nat := none

/-- Notes what a counter reads before the present instant, which a snapshot at this instant copies (R284). -/
def State.noteCount (s : State) (k : Nat) : State :=
  let t := if s.line.countedAt = s.time.now then s.line.counted else []
  let t := if (Table.get noCount t k).isSome then t else Table.put noCount t k (some (s.get k))
  s.withLine { s.line with counted := t, countedAt := s.time.now }

/-- What a counter read before the present instant (R284). -/
def State.countBefore (s : State) (k : Nat) : Nat :=
  if s.line.countedAt = s.time.now then (Table.get noCount s.line.counted k).getD (s.get k) else s.get k

/-- Adds to a port counter of 40 bits; each rise of bit 39 raises E-2001 (R283). -/
def State.countPort (s : State) (p sub : Nat) (n : Nat := 1) : State :=
  let k := objKey 0 (0x2100 + p) sub
  let old := s.get k
  let new := wrapAdd 40 old n
  let s := (s.noteCount k).set k new
  if new.testBit 39 = true ∧ old.testBit 39 = false then s.raise 0x2001 (uLane p) (packArg [(16, p), (16, sub)]) p else s

/-- A mode of R270. -/
def lineMode (speed lanes : Nat) : Bool :=
  match speed with
  | 1600000 => Nat.beq lanes 8
  | 800000 => Nat.beq lanes 4 || Nat.beq lanes 8
  | 400000 => Nat.beq lanes 2 || Nat.beq lanes 4
  | 200000 => Nat.beq lanes 1 || Nat.beq lanes 2 || Nat.beq lanes 4
  | 100000 => Nat.beq lanes 1 || Nat.beq lanes 2
  | 50000 => Nat.beq lanes 1
  | 25000 => Nat.beq lanes 1
  | _ => false

/-- PORT_ENABLE (R271). -/
def rulePortEnable (n v : Nat) (s : State) : Res :=
  let lanes := s.get (Obj.LINE_PORT_LANES n)
  let speed := s.get (Obj.LINE_PORT_PORT_SPEED n)
  let clash := (List.range 128).any fun m => !Nat.beq m n && (List.range lanes).any fun i => s.coversLane m (n + i)
  if v = 1 ∧ (lineMode speed lanes = false ∨ n % lanes ≠ 0 ∨ clash = true ∨ s.absentPort n = true ∨
      (s.get (Obj.LINE_PORT_FEC_MODE n) ≠ 0 ∧ speed ≠ 25000)) then (.invalid, s)
  else
    let s := s.commit (Obj.LINE_PORT_PORT_ENABLE n) v
    (.ok, (if v = 0 then (s.set (Obj.LINE_PORT_LINK_STATE n) 0).movePart n 0 {} else s).showPower n)

/-- PORT_ENABLE. -/
def execPortEnable (port : LinePort) (master value : Nat) (s : State) : Out :=
  s.rowWrite master (Obj.LINE_PORT_PORT_ENABLE port) value (rulePortEnable port value)

/-- LANES, PORT_SPEED, FEC_MODE, MAX_FRAME: BUSY while the port is enabled (R271). -/
def rulePortSetting (n key v : Nat) (s : State) : Res :=
  if s.on (Obj.LINE_PORT_PORT_ENABLE n) then (.busy, s)
  else
    let s := s.commit key v
    (.ok, if key = Obj.LINE_PORT_LANES n then s.set (Obj.LINE_PORT_RX_BUF_BYTES n) (65536 * v) else s)

/-- FC_XON stays below FC_XOFF (R289). -/
def ruleFcXon (n key v : Nat) (s : State) : Res :=
  let off := if key = Obj.LINE_PORT_FC_XOFF n then v else s.get (Obj.LINE_PORT_FC_XOFF n)
  let on := if key = Obj.LINE_PORT_FC_XON n then v else s.get (Obj.LINE_PORT_FC_XON n)
  if off ≤ on then (.invalid, s) else s.plain key v

/-- A mode obeys pauses of a priority, 8 for the whole port (R275). -/
def modeAllows (mode k : Nat) : Bool := if mode = 1 then Nat.beq k 8 else if mode = 2 then Nat.blt k 8 else false

/-- FC_RX_MODE (R289): holds that the new mode does not allow end as it takes effect (DEDUCED, log entry 146). -/
def ruleFcRxMode (n v : Nat) (s : State) : Res :=
  let s := s.commit (Obj.LINE_PORT_FC_RX_MODE n) v
  (.ok, forEach ((List.range 9).filter fun k => !modeAllows v k) s fun s k =>
    s.setPause n k { s.pauseOf n k with stop := min (s.pauseOf n k).stop (100 * (s.time.now + 64)) })

/-- Classes that a new PAUSE_EXEMPT exempts and the old one did not. -/
def newlyExempt (old new : Nat) : List Nat := (List.range 8).filter fun c => new.testBit c && !old.testBit c

/-- PAUSE_EXEMPT (R289): the holds of newly exempt classes end as the write takes effect, and stay ended though the bit is cleared again
while the interval runs (log entry 185). -/
def rulePauseExempt (n v : Nat) (s : State) : Res :=
  let classes := newlyExempt (s.get (Obj.LINE_PORT_PAUSE_EXEMPT n)) v
  (.ok, forEach ((List.range 9).filter fun k => Nat.blt (100 * s.time.now) (s.pauseOf n k).stop) (s.commit (Obj.LINE_PORT_PAUSE_EXEMPT n) v) fun s k =>
    let x := s.pauseOf n k
    s.setPause n k { x with spared := x.spared ++ classes.map fun c => ⟨c, 100 * (s.time.now + 64), none⟩ })

/-- A write that has completed takes effect `ns` later: 64 ns for a port setting (R289), and for the settings of a fabric lane from the next frame
that starts, which the device meets at its start on the transmit side and at its end, 165.12 ns later, on the receive side (R345). -/
def State.takesEffect (s : State) (key old ns : Nat) : State :=
  s.withLine { s.line with late := (s.line.late.filter fun w => Nat.blt s.time.now w.at') ++ [⟨key, old, s.time.now + ns⟩] }

/-- Writes of subindices 0x09 to 0x19. -/
def ruleLineSetting (n sub key v : Nat) (s : State) : Res :=
  Res.andThen (if sub = 9 then ruleFcRxMode n v s else if sub = 10 then rulePauseExempt n v s else if sub = 14 ∨ sub = 15 then ruleFcXon n key v s else s.plain key v) fun s' =>
    (.ok, s'.takesEffect key (s.get key) 64)

/-- Instants at which a later mode takes effect, with that mode. -/
def State.modesAhead (s : State) (p : Nat) : List (Nat × Nat) :=
  let l := s.line.late.filter fun w => Nat.beq w.key (Obj.LINE_PORT_FC_RX_MODE p) && Nat.blt s.time.now w.at'
  (l.map (·.at')).zip ((l.drop 1).map (·.old) ++ [s.get (Obj.LINE_PORT_FC_RX_MODE p)])

/-- Writes of PAUSE_EXEMPT that are to take effect: the holds they will end. -/
def State.exemptsAhead (s : State) (p : Nat) : List Spared :=
  let l := s.line.late.filter fun w => Nat.beq w.key (Obj.LINE_PORT_PAUSE_EXEMPT p) && Nat.blt s.time.now w.at'
  (l.zip ((l.drop 1).map (·.old) ++ [s.get (Obj.LINE_PORT_PAUSE_EXEMPT p)])).flatMap fun w =>
    (newlyExempt w.1.old w.2).map fun c => ⟨c, 100 * w.1.at', none⟩

/-- Classes now held: PAUSED. -/
def State.pausedMask (s : State) (p : Nat) : Nat := (List.range 8).foldl (fun a c => a + ofBool (s.classHeld p c) * 2 ^ c) 0

/-! ### Receiving -/

/-- Size bin of a frame (R283). -/
def sizeBin (n : Nat) : Nat :=
  if n ≤ 64 then 0 else if n ≤ 127 then 1 else if n ≤ 255 then 2 else if n ≤ 511 then 3 else if n ≤ 1023 then 4
  else if n ≤ 1518 then 5 else if n ≤ 2047 then 6 else if n ≤ 4095 then 7 else if n ≤ 9216 then 8 else 9

/-- The FCS of a frame is good. -/
def fcsGood (f : List Byte) : Bool :=
  decide (f.drop (f.length - 4) = bytesLE 4 (crc32 (f.take (f.length - 4))))

/-- Counts a good frame; `base` is 0 for receive and 0x20 for transmit (R283). -/
def State.countGood (s : State) (p base : Nat) (f : List Byte) : State :=
  let s := (s.countPort p (base + 1)).countPort p (base + 2) f.length
  let da := wordAt f 0 6
  let s := s.countPort p (base + (if da = 2 ^ 48 - 1 then 5 else if bit (byteAt f 0) 0 then 4 else 3))
  let e := wordAt f 12 2
  let s := if e = 0x8808 ∧ wordAt f 14 2 = 1 then s.countPort p (base + 6)
    else if e = 0x8808 ∧ wordAt f 14 2 = 0x0101 then s.countPort p (base + 7) else s
  if e = 0x8100 ∨ e = 0x88A8 then s.countPort p (base + 8) else s

/-- Bytes of a port's frames that its sector's pipelines have not taken (R273). -/
def State.rxHeld (s : State) (p : Nat) : Nat :=
  (((Table.get noList s.net.rx (p / 16)).filter fun k => Nat.beq k.inPort p).map fun k => k.bytes.length).sum

/-- What a port's buffer held at an elapsed instant, in 2^-16 ns, at or after the last arrival of its frames: what it holds, and what the
pipelines have taken since (R273). -/
def State.rxHeldAt (s : State) (p began : Nat) : Nat :=
  s.rxHeld p + ((s.net.rxTaken.filter fun x => Nat.beq x.port p && Nat.blt began (65536 * x.at')).map fun x => x.bytes).sum

/-- Quanta in hundredths of a nanosecond: q × 512 / S (R276). -/
def State.quantaTime (s : State) (p q : Nat) : Nat := q * 51200000 / s.get (Obj.LINE_PORT_PORT_SPEED p)

/-- The watchdog releases a priority that has been paused continuously for its limit (R278). -/
def State.watchdog (s : State) (p k : Nat) : State :=
  let x := s.pauseOf p k
  let limit := s.setting (Obj.LINE_PORT_WD_LIMIT_MS p) * ms * 100
  if 0 < limit ∧ x.start < x.stop ∧ x.start + limit ≤ 100 * s.time.now ∧ x.start + limit ≤ x.stop then
    let s := s.setPause p k { start := 0, stop := 0, holdoff := x.start + limit + s.setting (Obj.LINE_PORT_WD_HOLDOFF_MS p) * ms * 100, inHoldoff := true }
    (s.countPort p 0x3F).raise 0x2102 (uLane p) 0 p
  else s

/-- One priority of a pause frame whose last bit arrives now (R276, R278): at the release instant it lies in the hold-off span. -/
def State.obeyPause (s : State) (p k q : Nat) : State :=
  let s := s.watchdog p k
  let t := 100 * s.time.now
  let x := s.pauseOf p k
  if x.inHoldoff = true ∧ t < x.holdoff then s
  else
    let running := decide (x.start < x.stop ∧ t ≤ x.stop)
    -- a mode that is to take effect and does not allow the hold ends it then (R289)
    let stop := ((s.modesAhead p).filter fun m => !modeAllows m.2 k).foldl (fun a m => min a (100 * m.1)) (t + s.quantaTime p q)
    if q = 0 then s.setPause p k { start := 0, stop := 0, holdoff := 0, inHoldoff := false }
    else
      -- a class whose hold has ended is held by this frame anew, 64 ns behind it (R276, R289)
      let spared := if running then (x.spared.filter fun y => Nat.ble y.start t).map fun y => { y with stop := some (min (y.stop.getD (t + 6400)) (t + 6400)) } else []
      s.setPause p k { start := if running then x.start else t, stop := stop, holdoff := 0, inHoldoff := false, spared := spared ++ s.exemptsAhead p }

/-- A MAC control frame is obeyed as the port's mode says (R275). -/
def State.macControl (s : State) (p : Nat) (f : List Byte) : State :=
  match s.setting (Obj.LINE_PORT_FC_RX_MODE p), wordAt f 14 2 with
  | 1, 1 => s.obeyPause p 8 (wordAt f 16 2)
  | 2, 0x0101 => forEach (List.range 8) s fun s i => if (wordAt f 16 2).testBit i then s.obeyPause p i (wordAt f (18 + 2 * i) 2) else s
  | _, _ => s

/-- The timebase in 2^-16 ns. -/
def State.stampNow (s : State) : Nat := s.timeNow * 65536 + (if s.inIsland || s.time.reload then s.time.shadowFrac else s.time.frac) / 65536

/-- Time of `n` bytes at a port's speed, in 2^-16 ns. -/
def State.frameTime (s : State) (p n : Nat) : Nat := n * 524288000 / s.get (Obj.LINE_PORT_PORT_SPEED p)

/-- The instant, in 2^-16 ns, at which the first bit behind the start-of-frame delimiter of a frame of `n` bytes crossed the ball (R280): the
time of those bytes at the port's speed before the frame's end (DEDUCED, log entry 52). -/
def State.frameBegan (s : State) (p n : Nat) : Nat := s.stampNow - s.frameTime p n

/-- A frame's first byte found the receive buffer able to hold the whole of MAX_FRAME (R273). -/
def State.rxFits (s : State) (p n : Nat) : Bool :=
  Nat.ble (s.rxHeldAt p (65536 * s.time.now - s.frameTime p n) + s.get (Obj.LINE_PORT_MAX_FRAME p)) (65536 * s.get (Obj.LINE_PORT_LANES p))

/-- A frame arrives whole at a port's MAC (R272, R273, R283). Frames are lost while the lanes are off (R288); no other state of the link loses
one. -/
def State.receive (s : State) (p : Nat) (f : List Byte) (codeError : Bool) : State :=
  if s.get (Obj.LINE_PORT_PORT_ENABLE p) ≠ 1 ∨ s.get (Obj.LINE_PORT_LINK_STATE p) = 2 ∨ (s.part p 0).blocked = true then s
  else
    let n := f.length
    let max := s.get (Obj.LINE_PORT_MAX_FRAME p)
    let good := fcsGood f
    let s := s.countPort p 0x10 n
    let s := if 64 ≤ n ∧ n ≤ 16000 then s.countPort p (0x11 + sizeBin n) else s
    let s := if codeError then s.countPort p 0x0E else s
    if n < 64 then s.countPort p (if good then 0x0A else 0x0B)
    else if max < n then s.countPort p (if good then 0x0C else 0x0D)
    else
      let fits := s.rxFits p n
      let s := if !good then s.countPort p 0x09 else if codeError then s else s.countGood p 0 f
      if codeError then s
      else if wordAt f 12 2 = 0x8808 then (if good then s.macControl p f else s)
      else if fits = false then (s.countPort p 0x0F).raise 0x2103 (uLane p) 0 p
      else
        let began := s.frameBegan p n
        let k : Pkt := {
          id := s.net.serial, bytes := f, fcsBad := !good, inPort := p, requester := p, rxTime := began / 65536
          rxStamp := some ((began : Int) - signed 32 (s.setting (Obj.LINE_PORT_RX_ASYM p))).toNat }
        (s.withNet { s.net with serial := s.net.serial + 1 }).toSector (p / 16) k

/-- RX_FRAME (R272): a frame with its FCS as received, and the FEC codewords decoded since the port's last frame. -/
def execRxFrame (port : LinePort) (frame : List Byte) (codeError : Bool) (corrected uncorrectable symbols : Nat) (s : State) : Out :=
  s.inCore fun s =>
    let s := ((s.countPort port 0x3B corrected).countPort port 0x3C uncorrectable).countPort port 0x3D symbols
    let s := if 0 < uncorrectable then s.raise 0x2104 (uLane port) 0 port else s
    s.receive port frame codeError

/-- Destination of MAC control frames. -/
abbrev controlDa : Nat := 0x0180C2000001

/-- A PAUSE frame (IEEE 802.3x). -/
def pauseFrame (sa quanta : Nat) : List Byte :=
  withFcs (bytesBE 6 controlDa ++ bytesBE 6 sa ++ bytesBE 2 0x8808 ++ bytesBE 2 1 ++ bytesBE 2 quanta)

/-- A PFC frame (IEEE 802.1Qbb): enabled priorities and the quanta of each. -/
def pfcFrame (sa enabled : Nat) (quanta : Nat → Nat) : List Byte :=
  withFcs (bytesBE 6 controlDa ++ bytesBE 6 sa ++ bytesBE 2 0x8808 ++ bytesBE 2 0x0101 ++ bytesBE 2 enabled ++
    (List.range 8).flatMap fun i => bytesBE 2 (quanta i))

/-- PAUSE_FRAME (R275, R276): a PAUSE frame from the given source address arrives. -/
def execPauseFrame (port : LinePort) (source : Nat) (quanta : Fin 65536) (s : State) : Out :=
  s.inCore fun s => s.receive port (pauseFrame source quanta) false

/-- PFC_FRAME (R275, R276): a PFC frame arrives. -/
def execPfcFrame (port : LinePort) (source : Nat) (enabled : Fin 256) (quanta : List Nat) (s : State) : Out :=
  s.inCore fun s => s.receive port (pfcFrame source enabled fun i => quanta.getD i 0) false

/-- PAUSE_EXPIRY (R276): a priority's interval has ended. At that very instant a pause frame still continues it (R278). -/
def execPauseExpiry (port : LinePort) (priority : Fin 9) (s : State) : Out :=
  s.inCore fun s =>
    let s := s.watchdog port priority
    let x := s.pauseOf port priority
    if x.start < x.stop ∧ x.stop < 100 * s.time.now then s.setPause port priority { x with start := 0, stop := 0, spared := [] } else s

/-- WD_RELEASE (R278): the watchdog releases a priority paused continuously for its limit. -/
def execWdRelease (port : LinePort) (priority : Fin 9) (s : State) : Out :=
  s.inCore fun s => s.watchdog port priority

/-- WD_HOLDOFF_END (R278). -/
def execWdHoldoffEnd (port : LinePort) (priority : Fin 9) (s : State) : Out :=
  s.inCore fun s =>
    let x := s.pauseOf port priority
    if x.inHoldoff = true ∧ x.holdoff ≤ 100 * s.time.now then s.setPause port priority { x with holdoff := 0, inHoldoff := false } else s

/-! ### Link -/

/-- LINK_CONDITION (R274): the conditions of a port's lanes change: whether every other one holds, and whether the PCS reports local fault,
which breaks the link too and which the port answers with remote fault. Lanes in OFF meet no condition (R288). -/
def execLinkCondition (port : LinePort) (good localFault : Bool) (s : State) : Out :=
  s.inCore fun s =>
    let l := s.lineOf port
    let off := Nat.beq (s.get (Obj.LINE_PORT_LINK_STATE port)) 2
    let all := good && !localFault && !off
    s.setLine port { l with good := all, since := if all = l.good then l.since else s.time.now, remoteFault := localFault && !off }

/-- LINK_DOWN (R274): a condition has broken the link for longer than LINK_DOWN_HOLD. -/
def execLinkDown (port : LinePort) (s : State) : Out :=
  s.inCore fun s =>
    let l := s.lineOf port
    if s.get (Obj.LINE_PORT_LINK_STATE port) = 1 ∧ l.good = false ∧
        l.since + s.get (Obj.LINE_PORT_LINK_DOWN_HOLD port) * ms < s.time.now then
      ((s.set (Obj.LINE_PORT_LINK_STATE port) 0).countPort port 0x3E).raise 0x2101 (uLane port) 0 port
    else s

/-- LINK_UP (R274). -/
def execLinkUp (port : LinePort) (s : State) : Out :=
  s.inCore fun s =>
    let l := s.lineOf port
    if s.on (Obj.LINE_PORT_PORT_ENABLE port) = true ∧ s.get (Obj.LINE_PORT_LINK_STATE port) = 0 ∧ l.good = true ∧
        l.since + s.get (Obj.LINE_PORT_LINK_UP_HOLD port) * ms ≤ s.time.now then
      (s.set (Obj.LINE_PORT_LINK_STATE port) 1).raise 0x2002 (uLane port) 0 port
    else s

/-! ### Sending pause -/

/-- Usage of a port's requester or its receive buffer has reached a threshold (R279). -/
def State.pauseStarts (s : State) (p : Nat) : Bool :=
  Nat.ble (s.setting (Obj.LINE_PORT_FC_XOFF p)) (s.usage p 0) ||
    Nat.ble (3 * 65536 * s.get (Obj.LINE_PORT_LANES p)) (4 * s.rxHeld p)

/-- Both have fallen (R279). -/
def State.pauseEnds (s : State) (p : Nat) : Bool :=
  Nat.blt (s.usage p 0) (s.setting (Obj.LINE_PORT_FC_XON p)) && Nat.blt (2 * s.rxHeld p) (65536 * s.get (Obj.LINE_PORT_LANES p))

/-- A generated frame leaves. -/
def State.sendControl (s : State) (p : Nat) (f : List Byte) : State := ((s.emit (.frame p f false)).countGood p 0x20 f).countPort p 0x31

/-- Sends a generated pause frame with the given quanta (R279): between frames, so that it waits for the end of the one on the wire. -/
def State.sendPause (s : State) (p quanta : Nat) : State :=
  let pri := s.setting (Obj.LINE_PORT_FC_TX_PRI p)
  let f := if s.setting (Obj.LINE_PORT_FC_TX_MODE p) = 1 then pauseFrame (Config.portMac p) quanta
    else pfcFrame (Config.portMac p) pri fun i => if pri.testBit i then quanta else 0
  if (Table.get (fun _ => none) s.net.wire p).isSome then s.setLine p { s.lineOf p with waiting := (s.lineOf p).waiting ++ [f] }
  else s.sendControl p f

/-- The generated frames that waited for the wire leave. -/
def State.sendWaiting (s : State) (p : Nat) : State :=
  forEach (s.lineOf p).waiting (s.setLine p { s.lineOf p with waiting := [] }) fun s f => s.sendControl p f

/-- A port may send generated frames: flow control is on and the link is up. -/
def State.pauseAble (s : State) (p : Nat) : Bool :=
  Nat.blt 0 (s.setting (Obj.LINE_PORT_FC_TX_MODE p)) && s.on (Obj.LINE_PORT_PORT_ENABLE p) && Nat.beq (s.get (Obj.LINE_PORT_LINK_STATE p)) 1

/-- Half of the quanta time. -/
def State.halfQuanta (s : State) (p : Nat) : Nat := s.quantaTime p (s.setting (Obj.LINE_PORT_FC_QUANTA p)) / 2

/-- PAUSE_TX (R279): a threshold is crossed. -/
def execPauseTx (port : LinePort) (s : State) : Out :=
  s.inCore fun s =>
    let l := s.lineOf port
    if s.pauseAble port = false then s
    else if l.txPause = false ∧ s.pauseStarts port = true then
      (s.setLine port { l with txPause := true, txAgain := 100 * s.time.now + s.halfQuanta port }).sendPause port (s.setting (Obj.LINE_PORT_FC_QUANTA port))
    else if l.txPause = true ∧ s.pauseEnds port = true then (s.setLine port { l with txPause := false, txAgain := 0 }).sendPause port 0
    else s

/-- PAUSE_REPEAT (R279): each time half of the quanta time has passed. Where it has passed more than once, because neither condition held for a
while, one frame leaves and the time starts anew (DEDUCED, log entry 147). -/
def execPauseRepeat (port : LinePort) (s : State) : Out :=
  s.inCore fun s =>
    let l := s.lineOf port
    if s.pauseAble port = true ∧ l.txPause = true ∧ s.pauseStarts port = true ∧ l.txAgain ≤ 100 * s.time.now then
      let next := l.txAgain + s.halfQuanta port
      (s.setLine port { l with txAgain := if next ≤ 100 * s.time.now then 100 * s.time.now + s.halfQuanta port else next }).sendPause port
        (s.setting (Obj.LINE_PORT_FC_QUANTA port))
    else s

/-! ### Transmission -/

/-- Offset of a PTP message carried directly over Ethernet behind at most two VLAN tags (R282). -/
def ptpOverL2 (f : List Byte) : Option Nat := if wordAt f (l3Of f - 2) 2 = 0x88F7 then some (l3Of f) else none

/-- Offset of a PTP message over Ethernet, or over UDP port 319 on IPv4 or IPv6. -/
def ptpOffset (f : List Byte) : Option Nat :=
  let h := l3Of f
  match ptpOverL2 f with
  | some o => some o
  | none =>
    match l3Kind (wordAt f (h - 2) 2) with
    | .v4 =>
      let u := h + 4 * (byteAt f h % 16)
      if byteAt f (h + 9) = 17 ∧ wordAt f (u + 2) 2 = 319 then some (u + 8) else none
    | .v6 => if byteAt f (h + 6) = 17 ∧ wordAt f (h + 42) 2 = 319 then some (h + 48) else none
    | _ => none

/-- Adds to a correctionField, 64-bit two's complement in 2^-16 ns. -/
def addCorrection (f : List Byte) (o d : Nat) : List Byte := putAt f (o + 8) 8 ((wordAt f (o + 8) 8 + d) % 2 ^ 64)

/-- PTP changes a frame takes as it leaves (R281, R282), the FCS recomputed. -/
def State.ptpEdit (s : State) (p : Nat) (k : Pkt) (stamp : Nat) : List Byte :=
  let body := if k.unfinished then k.bytes else k.bytes.take (k.bytes.length - 4)
  let one := if s.setting (Obj.LINE_PORT_PTP_ONE_STEP p) = 1 ∧ k.job.isSome = true then
      match ptpOffset body with
      | some o =>
        if byteAt body o % 16 = 0 then
          let t := stamp / 65536
          addCorrection (putAt (putAt body (o + 34) 6 (t / nsPerS)) (o + 40) 4 (t % nsPerS)) o (stamp % 65536)
        else body
      | none => body
    else body
  let tc := if s.setting (Obj.LINE_PORT_TC_MODE p) = 1 ∧ k.inPort ≠ 128 then
      match ptpOverL2 one with
      | some o => if byteAt one o % 16 < 4 then addCorrection one o ((stamp + 2 ^ 48 - k.rxTime % 2 ^ 32 * 65536) % 2 ^ 48) else one
      | none => one
    else one
  if tc = body then k.bytes else if k.unfinished then tc else withFcs tc

/-- A frame passes the lease gate (R286). -/
def State.leaseOpen (s : State) (p : Nat) (k : Pkt) : Bool :=
  Nat.beq (s.get Obj.PAIR_CTRL_PAIR_ENABLE) 0 || (Nat.beq (s.get Obj.PAIR_CTRL_ROLE) roleACTIVE && Nat.blt s.timeNow s.pair.leaseEnd && Nat.blt s.time.shadow s.pair.leaseEnd) ||
    (k.bypass && Nat.beq (s.setting (Obj.LINE_PORT_GATE_BYPASS_OK p)) 1)

/-- A frame of a gated class starts more than 8 ns outside its window (R246). -/
def windowMissed (w : Option (Nat × Nat)) (t : Nat) : Bool :=
  match w with
  | some (a, b) => Nat.blt (t + 8) a || Nat.blt (b + 8) t
  | none => false

/-- TX_FRAME_START (R246, R280 to R282, R286, R287): the MAC starts its next frame, or discards it. Line egress waits for the end of
the boot (R530). -/
def execTxFrameStart (port : LinePort) (s : State) : Out :=
  s.inCore fun s =>
    match Table.get noList s.net.tx port, Table.get (fun _ => none) s.net.wire port with
    | k :: l, none =>
      let s := s.workFor port 0
      if (s.part port 0).inRun = false ∨ s.boot.ready = false then s else
      let s : State := (s.withNet { s.net with tx := Table.put noList s.net.tx port l })
      if s.get (Obj.LINE_PORT_PORT_ENABLE port) ≠ 1 ∨ s.get (Obj.LINE_PORT_LINK_STATE port) ≠ 1 then (s.countPort port 0x2B).dropSelected port k
      else if s.leaseOpen port k = false then (s.countPort port 0x2A).dropSelected port k
      else
        let s := if windowMissed k.window s.timeNow then (s.bump (Obj.PORT_TIMING_WINDOW_MISSES port)).raise 0x4145 (uSlice port) 0 port else s
        let stamp := ((s.stampNow : Int) + signed 32 (s.setting (Obj.LINE_PORT_TX_ASYM port))).toNat
        let k := { k with bytes := s.ptpEdit port k stamp }
        (s.withNet { s.net with wire := Table.put (fun _ => none) s.net.wire port (some (k, stamp)) })
    | _, _ => s

/-- A frame with its FCS inverted (R182). -/
def invertFcs (f : List Byte) : List Byte :=
  f.take (f.length - 4) ++ bytesLE 4 (Nat.xor (natLE (f.drop (f.length - 4))) 0xFFFFFFFF)

/-- What has been sent of a frame whose next unit has not arrived when the transmitter needs it: what its units that have arrived leave of it
(R149, R182). -/
def Pkt.sentSoFar (k : Pkt) : List Byte :=
  let there := min k.len (224 + 256 * (k.arrived - 1))
  if k.unfinished then k.bytes else k.bytes.take (k.bytes.length - 4 - (k.len - 4 - min there (k.len - 4)))

/-- TX_FRAME_END (R182, R192, R283): the frame on a port's wire ends. -/
def execTxFrameEnd (port : LinePort) (s : State) : Out :=
  s.inCore fun s =>
    match Table.get (fun _ => none) s.net.wire port with
    | none => s
    | some (k, stamp) =>
      let s : State := (s.withNet { s.net with wire := Table.put (fun _ => none) s.net.wire port none })
      let k := if k.complete then k else { k with bytes := withFcs k.sentSoFar }
      let cut : Bool := !k.complete
      let (k, s) := s.settle k
      let s := s.lessOutstanding port k.out
      let s :=
        if k.stomp || cut then
          let s := (s.bump Obj.BUFFER_CTRL_CT_STOMPED).raise 0x4142 (uSlice port) 0 0
          (s.countPort port 0x29).emit (.frame port (invertFcs k.bytes) true)
        else if k.fill then (s.countPort port 0x29).emit (.frame port (invertFcs k.bytes) true)
        else (s.countGood port 0x20 k.bytes).emit (.frame port k.bytes false)
      ((s.countPort port (0x31 + sizeBin k.bytes.length)).txReport k (some stamp)).sendWaiting port

/-! ### Snapshots -/

/-- Enabled members of a snapshot group. -/
def State.snapMembers (s : State) (g : Nat) : List Nat :=
  (List.range 128).filter fun p => s.on (Obj.LINE_PORT_PORT_ENABLE p) && Nat.beq (s.setting (Obj.LINE_PORT_SNAP_GROUP p)) g

/-- A trigger of a group (R284, R285); `cause` is its bit. -/
def State.snapshot (s : State) (g cause : Nat) : State :=
  let members := s.snapMembers g
  let done := Table.get zeroN s.line.snapDone g
  if 0 < done ∧ s.time.now < done then
    if s.time.now = Table.get zeroN s.line.snapAt g then
      forEach members s fun s p => s.set (Obj.PORT_COUNTERS_SNAP_CAUSE p) (Nat.lor (s.get (Obj.PORT_COUNTERS_SNAP_CAUSE p)) (2 ^ cause))
    else s.bump (Obj.SNAPSHOT_GROUP_SNAP_MISSED g)
  else
    let n := Table.get zeroN s.line.snapCount g + 1
    let s : State := (s.withLine { s.line with
      snapDone := Table.put zeroN s.line.snapDone g (s.time.now + 2048)
      snapAt := Table.put zeroN s.line.snapAt g s.time.now
      snapCount := Table.put zeroN s.line.snapCount g n })
    forEach members s fun s p =>
      let s := forEach (List.range 0x3F) s fun s i => s.set (objKey 0 (0x2100 + p) (0x41 + i)) (s.countBefore (objKey 0 (0x2100 + p) (0x01 + i)))
      let s := s.set (Obj.PORT_COUNTERS_SNAP_SEQ p) (n % 2 ^ 32)
      let s := s.set (Obj.PORT_COUNTERS_SNAP_TIME p) (time80 s.timeNow)
      s.set (Obj.PORT_COUNTERS_SNAP_CAUSE p) (2 ^ cause)

/-- A write of TRIGGER (R284). -/
def ruleTrigger (g v : Nat) (s : State) : Res := (.ok, if v = 1 then s.snapshot g 0 else s)

/-- TRIGGER. -/
def execTrigger (group : Fin 16) (master value : Nat) (s : State) : Out :=
  s.rowWrite master (Obj.SNAPSHOT_GROUP_TRIGGER group) value (ruleTrigger group value)

/-- SNAPSHOT air event (R38, R284). -/
def execSnapshot (s : State) : Out :=
  .next (match s.fire 6 with
    | (none, s) => s
    | (some a, s) => s.snapshot (a.target % 16) 1)

end Sys2Proof.Machine
end

