-- ==== Sys2Proof/Machine/PmCount.lean ====
section
/-! DEFINITION. Fabric lanes and what each counts per second: errors, severe errors and availability, and the bins they go into (R291,
R340, R341, R343). -/

namespace Sys2Proof.Machine

/-- Reporting unit of a fabric lane (R291). -/
def uFl (n : Nat) : Nat := unitId 1 (n / 20) (26 + n % 20 / 8) (n % 20 % 8)

/-- A fabric lane before anything happened to it. -/
def flEmpty (_ : Nat) : FabricLaneState := {}
/-- Hidden state of a fabric lane. -/
def State.fl (s : State) (n : Nat) : FabricLaneState := Table.get flEmpty s.fab.lanes n
/-- Sets it. -/
def State.setFl (s : State) (n : Nat) (l : FabricLaneState) : State :=
  (s.withFab { s.fab with lanes := Table.put flEmpty s.fab.lanes n l })

/-- Number of a lane's record: 0 current bin, 1 to 32 history, 33 current day, 34 previous day (R342). -/
def pmIndex (n k : Nat) : Nat := 35 * n + k

/-- A counter field raised or lowered. -/
def pmAddField (image : Nat) (x : Field × Int) : Nat :=
  x.1.set image ((((x.1.get image : Nat) : Int) + x.2) % 2 ^ x.1.width).toNat

/-- A bin begins before the end of second `x`: it holds the second (R8, R344). -/
def pmHolds (image x : Nat) : Bool := Nat.blt (ofTime80 (Fld.PMH_START.get image)) ((x + 1) * nsPerS)

/-- Changes the 15-minute bin and the day bin that hold second `x` (R341, R342). -/
def State.pmChange (s : State) (n x : Nat) (f : Nat → Nat) : State :=
  let one := fun (s : State) (day : Bool) =>
    let e := pmIndex n (if day then 33 else 0)
    let image := s.dom Dom.PM_HISTORY e
    if pmHolds image x then s.setDom Dom.PM_HISTORY e (f image)
    else
      let l := s.fl n
      let closing := (replaceFirst (fun (c : PmClosed) => c.day == day && pmHolds c.image x) (fun c => { c with image := f c.image }) l.pm.closing.reverse).reverse
      s.setFl n { l with pm := { l.pm with closing := closing } }
  one (one s false) true

/-- Adds to fields of the bins of second `x`. -/
def State.pmAdd (s : State) (n x : Nat) (l : List (Field × Int)) : State := s.pmChange n x fun image => l.foldl pmAddField image

/-- ES, SES and BBE of a second (R340). -/
def pmErrors (eb : Nat) (ses : Bool) : List (Field × Int) :=
  [(Fld.PMH_ES, if 0 < eb ∨ ses = true then 1 else 0), (Fld.PMH_SES, if ses then 1 else 0), (Fld.PMH_BBE, if ses then 0 else eb)]

/-- Threshold crossings of the current 15-minute bin (R343). -/
def State.pmThresholds (s : State) (n : Nat) : State :=
  let image := s.dom Dom.PM_HISTORY (pmIndex n 0)
  let params : List (Nat × Field × Nat) := [(0, Fld.PMH_ES, Obj.LINK_PM_TCA_ES), (1, Fld.PMH_SES, Obj.LINK_PM_TCA_SES),
    (2, Fld.PMH_UAS, Obj.LINK_PM_TCA_UAS), (3, Fld.PMH_BBE, Obj.LINK_PM_TCA_BBE)]
  forEach params s fun s p =>
    let l := s.fl n
    if s.get p.2.2 ≠ 0 ∧ s.get p.2.2 ≤ p.2.1.get image ∧ l.pm.crossed.contains p.1 = false then
      (s.setFl n { l with pm := { l.pm with crossed := p.1 :: l.pm.crossed } }).raise 0x5106 (uFl n) 0
    else s

/-- Availability after a second (R341): ten in a row against it turn it, and those ten are counted anew. -/
def State.pmAvail (s : State) (n x eb : Nat) (ses : Bool) : State :=
  let l := s.fl n
  if l.pm.down then
    let s := s.pmAdd n x [(Fld.PMH_UAS, 1)]
    if ses then s.setFl n { s.fl n with pm := { (s.fl n).pm with run := [] } }
    else
      let run := l.pm.run ++ [⟨x, eb⟩]
      if run.length < 10 then s.setFl n { s.fl n with pm := { (s.fl n).pm with run := run } }
      else
        let s := forEach run s fun s r => s.pmAdd n r.sec ((Fld.PMH_UAS, -1) :: pmErrors r.eb false)
        s.setFl n { s.fl n with pm := { (s.fl n).pm with run := [], down := false } }
  else
    let s := s.pmAdd n x (pmErrors eb ses)
    if ses = false then s.setFl n { s.fl n with pm := { (s.fl n).pm with run := [] } }
    else
      let run := l.pm.run ++ [⟨x, eb⟩]
      if run.length < 10 then s.setFl n { s.fl n with pm := { (s.fl n).pm with run := run } }
      else
        let s := forEach run s fun s r => s.pmAdd n r.sec [(Fld.PMH_ES, -1), (Fld.PMH_SES, -1), (Fld.PMH_UAS, 1)]
        s.setFl n { s.fl n with pm := { (s.fl n).pm with run := [], down := true } }

/-- Makes sure the lane's current bins are there: they began with the bins of the timebase. -/
def State.pmOpen (s : State) (n : Nat) : State :=
  let one := fun (s : State) (k start suspect : Nat) =>
    let e := pmIndex n k
    let image := s.dom Dom.PM_HISTORY e
    if Fld.PMH_VALID.get image = 1 then s
    else s.setDom Dom.PM_HISTORY e (Fld.PMH_SUSPECT.set (Fld.PMH_VALID.set (Fld.PMH_START.set image start) 1) suspect)
  let x := s.get Obj.PERF_BIN_CLOCK_SUSPECT
  one (one s 0 (s.get Obj.PERF_BIN_CLOCK_BIN_START) (x % 2)) 33 (s.get Obj.PERF_BIN_CLOCK_DAY_START) (x / 2 % 2)

/-- A lane's second has ended (R340, R341, R343): its counts go into its bins. A second that the timebase skipped or the core did not live
through counts nothing. Whatever counts first at or after the end of a second ends it, so that it belongs to the next (R344). -/
def State.pmTurn (s : State) (lane : Nat) : State :=
  let now := s.time.tai / nsPerS
  let l := s.fl lane
  let p := l.pm
  if now = p.sec then s
  else
    let whole : Bool := Nat.beq now (p.sec + 1)
    let x := p.sec
    let fresh := { p with sec := now, eb := 0, symbols := 0, uncorr := 0, defects := s.get (Obj.FABRIC_LANE_DEFECTS lane)
                          seeded := s.get (Obj.FABRIC_LANE_DEFECTS lane), off := !s.on (Obj.FABRIC_LANE_FL_ENABLE lane) }
    if whole = false then s.setFl lane { l with pm := { fresh with run := [] } }
    else
      let s := s.pmOpen lane
      if p.off then
        (s.setFl lane { l with pm := { fresh with run := [] } }).pmChange lane x fun image => Fld.PMH_SUSPECT.set image 1
      else
        let s := s.setFl lane { l with pm := fresh }
        let d := fun (i : Nat) => (ofBool (p.defects.testBit i) : Int)
        let s := s.pmAdd lane x [(Fld.PMH_LOS_S, d 0), (Fld.PMH_LOF_S, d 1), (Fld.PMH_AIS_S, d 2), (Fld.PMH_RDI_S, d 3), (Fld.PMH_TIM_S, d 4),
          (Fld.PMH_FEC_SYMBOLS, p.symbols), (Fld.PMH_FEC_UNCORR, p.uncorr)]
        let ses : Bool := !Nat.beq (Nat.land p.defects 0x17) 0 || Nat.ble (s.get Obj.LINK_PM_SES_BLOCKS) p.eb
        (s.pmAvail lane x p.eb ses).pmThresholds lane

end Sys2Proof.Machine
end

