-- ==== Sys2Proof/Machine/Fabric.lean ====
section
/-! DEFINITION. The fabric interface toward the fabric: the spray set and reachability, VOQs and cells sent, requests, grants and the
credit scheduler (R207 to R210, R291 to R306, R316). -/

namespace Sys2Proof.Machine

/-! ### Reachability and the spray set -/

/-- A lane is in the spray set. -/
def State.inSpray (s : State) (n : Nat) : Bool := s.on (Obj.FABRIC_LANE_IN_SPRAY n)

/-- Conditions of R301 that do not hold, as LEAVE_CAUSE numbers them but for the rejoin hold. -/
def State.laneCause (s : State) (n : Nat) : Nat :=
  let d := s.get (Obj.FABRIC_LANE_DEFECTS n)
  let zero := (List.range 4).all fun k => Nat.beq (s.get (Obj.FABRIC_LANE_REACH n k)) 0
  ofBool (!(s.on (Obj.FABRIC_LANE_FL_ENABLE n) && s.fabricOn)) + 2 * bits d 0 1 + 4 * bits d 1 1 + 8 * bits d 4 1 + 16 * bits d 2 1 +
    32 * bits d 3 1 + 64 * ofBool zero

/-- Devices of a quarter that some lane of the spray set reaches. -/
def State.quarterReach (s : State) (k : Nat) : Nat :=
  (List.range 160).foldl (fun m n => if s.inSpray n then Nat.lor m (s.get (Obj.FABRIC_LANE_REACH n k)) else m) 0

/-- Unreachability follows the spray set (R303). -/
def State.reachFollow (s : State) : State :=
  let maps := (List.range 4).map fun k => s.quarterReach k
  forEach (List.range 256) s fun s d =>
    let up := (maps.getD (d / 64) 0).testBit (d % 64)
    let was := s.unreachSince d
    if up then
      if was.isNone then s
      else (s.withFab { s.fab with discarding := s.fab.discarding.filter (· != d) }).setUnreach d none
    else if was.isSome then s
    else s.setUnreach d (some s.time.now)

/-- A lane joins the spray set (R301). -/
def State.joinSpray (s : State) (n : Nat) : State :=
  let s := s.setFl n { s.fl n with okSince := none, left := false }
  let s := (s.set (Obj.FABRIC_LANE_IN_SPRAY n) 1).set (Obj.FABRIC_LANE_LEAVE_CAUSE n) 0
  ((s.set Obj.FABRIC_CTRL_SPRAY_LANES (s.get Obj.FABRIC_CTRL_SPRAY_LANES + 1)).raise 0x5001 (uFl n) 0).reachFollow

/-- A lane's place in the spray set is judged again (R301). -/
def State.judgeLane (s : State) (n : Nat) : State :=
  let c := s.laneCause n
  let l := s.fl n
  if s.inSpray n then
    if c = 0 then s
    else
      let s := s.setFl n { l with okSince := none, left := true }
      let s := (s.set (Obj.FABRIC_LANE_IN_SPRAY n) 0).set (Obj.FABRIC_LANE_LEAVE_CAUSE n) c
      let s := (s.set Obj.FABRIC_CTRL_SPRAY_LANES (s.get Obj.FABRIC_CTRL_SPRAY_LANES - 1)).bump (Obj.FABRIC_LANE_LEAVES n)
      (s.raise 0x5101 (uFl n) (packArg [(16, c)])).reachFollow
  else if c ≠ 0 then (s.setFl n { l with okSince := none }).set (Obj.FABRIC_LANE_LEAVE_CAUSE n) c
  else if l.left then
    (s.setFl n { l with okSince := some (l.okSince.getD s.time.now) }).set (Obj.FABRIC_LANE_LEAVE_CAUSE n) 128
  else s.joinSpray n

/-- A condition that sends RDI back is declared (R327). -/
def FabricLaneState.sendRdi (l : FabricLaneState) : Bool :=
  match l.rdi with
  | x :: _ => x.2
  | [] => false

/-- Changes that frames starting at an instant still follow: those of the last 200 ns, and the one before them. -/
def rdiKept (now : Nat) : List (Nat × Bool) → List (Nat × Bool)
  | [] => []
  | x :: l => if x.1 + 200 < now then [x] else x :: rdiKept now l

/-- RDI of a frame that starts at an instant: as it stood more than 200 ns before (R327). -/
def FabricLaneState.rdiSent (l : FabricLaneState) (now : Nat) : Bool :=
  match l.rdi.find? fun x => Nat.blt (x.1 + 200) now with
  | some x => x.2
  | none => false

/-- What follows a change of a lane's defects: RDI sent back from 200 ns later, and its place in the spray set (R327). -/
def State.followDefects (s : State) (n : Nat) : State :=
  let l := s.fl n
  let want : Bool := !Nat.beq (Nat.land (s.get (Obj.FABRIC_LANE_DEFECTS n)) 0x17) 0
  let s := if want = l.sendRdi then s else s.setFl n { l with rdi := (s.time.now, want) :: rdiKept s.time.now l.rdi }
  s.judgeLane n

/-- A REACH message received on a lane (R300). -/
def State.reach (s : State) (n : Nat) (fromElement : Bool) (quarter map : Nat) : State :=
  if s.on (Obj.FABRIC_LANE_FL_ENABLE n) = false then s
  else
    let direct : Bool := Nat.beq (s.get Obj.FABRIC_CTRL_FABRIC_MODE) 1
    if direct && fromElement then s
    else
      let s := s.setFl n { s.fl n with reachAt := s.time.now }
      let s := if direct then forEach (List.range 4) s fun s k => s.set (Obj.FABRIC_LANE_REACH n k) 0 else s
      ((s.set (Obj.FABRIC_LANE_REACH n quarter) (map % 2 ^ 64)).judgeLane n).reachFollow

/-- REACH (R300): a REACH message arrives on a lane. -/
def execReach (lane : FabricLane) (fromElement : Bool) (quarter : Fin 4) (_device : Fin 256) (map : Nat) (s : State) : Out :=
  s.inCore fun s => s.reach lane fromElement quarter map

/-- REACH_TIMEOUT (R300): 16 µs without a REACH message. -/
def execReachTimeout (lane : FabricLane) (s : State) : Out :=
  s.inCore fun s =>
    if s.time.now < (s.fl lane).reachAt + 16000 then s
    else ((forEach (List.range 4) s fun s k => s.set (Obj.FABRIC_LANE_REACH lane k) 0).judgeLane lane).reachFollow

/-- REACH_TX (R300): the announcement goes to every enabled lane in a LINK cell, to each once per µs. -/
def execReachTx (s : State) : Out :=
  s.inCore fun s =>
    let d := s.get Obj.FABRIC_CTRL_DEVICE_ID
    let cell : OutCell := { dest := 0, bytes := s.messageCell cLINK 0 [reachMessage 0 (d / 64) d (2 ^ (d % 64))] }
    forEach ((List.range 160).filter fun n => s.on (Obj.FABRIC_LANE_FL_ENABLE n)) s fun s n =>
      let l := s.fl n
      let due := match l.announced with | some t => Nat.ble (t + 1000) s.time.now | none => true
      if due then s.setFl n { l with ctl := l.ctl ++ [cell], announced := some s.time.now } else s

/-- SPRAY_JOIN (R301): the conditions have held for REJOIN_MS. -/
def execSprayJoin (lane : FabricLane) (s : State) : Out :=
  s.inCore fun s =>
    let s := s.judgeLane lane
    match (s.fl lane).okSince with
    | some t => if t + s.get Obj.FABRIC_CTRL_REJOIN_MS * ms ≤ s.time.now then s.joinSpray lane else s
    | none => s

/-- UNREACH_DISCARD (R303): the packets of a destination's VOQs are discarded, and packets resolved to it refused from now on. -/
def execUnreachDiscard (device : Fin 256) (s : State) : Out :=
  s.inCore fun s =>
    let wait := s.get Obj.FABRIC_CTRL_UNREACH_MS
    match s.unreachSince device with
    | none => s
    | some t =>
      if wait = 0 ∨ s.time.now < t + wait * ms ∨ s.fab.discarding.contains device.val = true then s
      else
        let lo := voqBase + 512 * device
        let all := (s.net.queues.filter fun e => Nat.ble lo e.1 && Nat.blt e.1 (lo + 512)).flatMap fun e => e.2.map fun k => (e.1, k.id)
        let s := forEach all s fun s x => s.discardQueued x.1 x.2
        let s : State := (s.withFab { s.fab with discarding := device.val :: s.fab.discarding })
        s.raise 0x5201 uTD2D (packArg [(16, device)]) device

/-! ### Cells toward the lanes -/

/-- Transmit page of the frame a lane sends next: a pending switch is made at the Loaf boundary (R335). -/
def State.txPage (s : State) (k n : Nat) : Nat :=
  let p := s.get (Obj.SCHED_LANE_TX_PAGE k)
  if s.fab.switching.contains k = true ∧ (s.fl n).txNum = 0 then 1 - p else p

/-- Entries of a lane's next frame, slot by slot, where it is a scheduled lane (R330). -/
def State.txEntries (s : State) (n : Nat) : List (Option Nat) :=
  match s.schedLane n with
  | none => List.replicate 16 none
  | some k => (List.range 16).map fun slot =>
      let e := s.dom Dom.CONN_MEMORY (cmIndex k 0 (s.txPage k n) (s.fl n).txNum slot)
      if Fld.CM_VALID.get e = 1 then some e else none

/-- Slots of a lane's next frame that are not reserved. -/
def State.openSlots (s : State) (n : Nat) : Nat := ((s.txEntries n).filter (·.isNone)).length

/-- A lane of SS(d) (R302). -/
def State.reaches (s : State) (n d : Nat) : Bool := s.inSpray n && (s.get (Obj.FABRIC_LANE_REACH n (d / 64))).testBit (d % 64)

/-- A lane's next frame has a free slot for a DATA cell. -/
def State.dataRoom (s : State) (n : Nat) : Bool := let l := s.fl n; Nat.blt (l.data.length + min 4 l.ctl.length) (s.openSlots n)
/-- It has one for a CONTROL cell: at most 4 of the 16 (R299). -/
def State.controlRoom (s : State) (n : Nat) : Bool := Nat.blt (s.fl n).ctl.length (min 4 (s.openSlots n))

/-- The last lane: the rotation toward a destination begins at FL0. -/
def lastLane (_ : Nat) : Nat := 159

/-- Lane of the next cell to a destination (R302). -/
def State.nextLane (s : State) (d : Nat) (room : Nat → Bool) : Option Nat :=
  (rotateAt (List.range 160) ((Table.get lastLane s.fab.after d + 1) % 160)).find? fun n => s.reaches n d && room n

/-- Remembers the lane used toward a destination. -/
def State.used (s : State) (d n : Nat) : State := (s.withFab { s.fab with after := Table.put lastLane s.fab.after d n })

/-- Hands waiting CONTROL cells to lanes (R302). -/
def State.sprayControl (s : State) : State :=
  let waiting := s.fab.control
  forEach waiting (s.withFab { s.fab with control := [] }) fun s c =>
    match s.nextLane c.dest s.controlRoom with
    | some n => ((s.setFl n { s.fl n with ctl := (s.fl n).ctl ++ [c] }).workFor (136 + n / 20) 0).used c.dest n
    | none => (s.withFab { s.fab with control := s.fab.control ++ [c] })

/-- Cells a slice has handed over. -/
def State.outOf (s : State) (i : Nat) : List OutCell := Table.get noList s.fab.out i

/-- First cell of a slice that finds a lane, with its lane. -/
def State.sliceCell (s : State) (i : Nat) : Option (OutCell × Nat) :=
  (s.outOf i).findSome? fun c => (s.nextLane c.dest s.dataRoom).map fun n => (c, n)

/-- Removes the first element that satisfies `p`. -/
def eraseFirst {α : Type} (p : α → Bool) : List α → List α
  | [] => []
  | a :: l => if p a then l else a :: eraseFirst p l

/-- Takes DATA cells from the slices in rotation while a lane has room (R208, R302). -/
def State.sprayData : Nat → State → State
  | 0, s => s
  | fuel + 1, s =>
    match (rotateAt (List.range 8) (s.fab.turn % 8)).findSome? fun i => (s.sliceCell i).map fun x => (i, x) with
    | none => s
    | some (i, c, n) =>
      let s : State := (s.withFab { s.fab with
        out := Table.put noList s.fab.out i (eraseFirst (fun x => Nat.beq x.dest c.dest) (s.outOf i))
        turn := (i + 1) % 8 })
      State.sprayData fuel (((s.setFl n { s.fl n with data := (s.fl n).data ++ [c] }).workFor (136 + n / 20) 0).used c.dest n)

/-- Cells find their lanes. -/
def State.spray (s : State) : State :=
  if s.fabricOn then State.sprayData ((s.fab.out.map fun e => e.2.length).sum) s.sprayControl else s

/-- CONTROL_CELL_FLUSH (R299): a part-filled CONTROL cell has been packed for 64 ns. -/
def execControlCellFlush (device : Fin 256) (s : State) : Out :=
  s.inCore fun s =>
    match Table.get (fun _ => none) s.fab.packing device with
    | some (t, _) => if s.fabricOn = true ∧ t + 64 ≤ s.time.now then (s.packControl device).spray else s
    | none => s

/-! ### VOQs -/

/-- Metadata of a packet as it crosses (R149). -/
def Pkt.metadata (k : Pkt) : Nat :=
  let nh := match k.edit with | .nextHop n => n | _ => 0
  let l : List (Field × Nat) := [(Fld.MD_LENGTH, k.len), (Fld.MD_CLASS, k.cls), (Fld.MD_COLOUR, k.colour), (Fld.MD_DEST_KIND, ofBool k.voq),
    (Fld.MD_DEST, k.dest), (Fld.MD_NEXT_HOP, nh), (Fld.MD_QSEL_VALID, ofBool k.qsel.isSome), (Fld.MD_QUEUE, k.qsel.getD 0),
    (Fld.MD_IN_PORT, k.inPort), (Fld.MD_LAG_HASH, k.lagHash), (Fld.MD_ENTROPY, k.entropy), (Fld.MD_RX_NS, k.rxTime),
    (Fld.MD_LABEL_OP, k.labelOp), (Fld.MD_NEW_LABEL, k.newLabel), (Fld.MD_STRIP_OFF, k.stripOff), (Fld.MD_RECIRC_VRF, k.recircVrf.getD 0),
    (Fld.MD_PASS, k.pass), (Fld.MD_TRAP_CODE, k.trap), (Fld.MD_L3_OFF, k.l3Off)]
  l.foldl (fun m x => x.1.set m x.2) 0

/-- Payloads of up to 240 bytes (R296). -/
def chunks240 : Nat → List Byte → List (List Byte)
  | 0, _ => []
  | fuel + 1, l => if l = [] then [] else l.take 240 :: chunks240 fuel (l.drop 240)

/-- Headers and payloads of the cells of a packet (R296, R332), but for the fields that set its destination and its order. -/
def State.packetParts (s : State) (k : Pkt) (t : Nat) : List (Nat × List Byte) :=
  let parts := chunks240 67 (bytesBE 32 k.metadata ++ k.bytes)
  (List.range parts.length).map fun i =>
    let part := parts.getD i []
    let x := Fld.CELL_CLASS.set (Fld.CELL_COLOUR.set (s.cellHeader t 0 part.length) k.colour) k.cls
    let x := Fld.CELL_FIRST.set (Fld.CELL_LAST.set x (ofBool (Nat.beq (i + 1) parts.length))) (ofBool (Nat.beq i 0))
    (Fld.CELL_CELL_SEQ.set x i, part)

/-- A header with its destination. -/
def toPort (h d q : Nat) : Nat := Fld.CELL_PORT.set (Fld.CELL_DEST_DEV.set h d) q

/-- A VOQ is eligible (R208, R303, R331). -/
def State.eligibleVoq (s : State) (v : Nat) : Bool :=
  (s.headOf (voqBase + v)).isSome && decide (0 < Fld.VS_BALANCE.getS (s.dom Dom.VOQ_STATE v)) && !s.unreachable (v / 512) && !s.scheduledVoq v

/-- Sends a VOQ's head packet into the fabric (R208, R296, R311, R314). -/
def State.sendVoq (s : State) (v : Nat) (k : Pkt) : State :=
  let q := voqBase + v
  let d := v / 512
  let stream := 8 * d + k.cls
  let n := Table.get zeroN s.fab.tags stream
  let cells := (s.packetParts k cDATA).map fun x =>
    mkCell (Fld.CELL_RESYNC.set (Fld.CELL_PKT_TAG.set (toPort x.1 d (v / 8 % 64)) n) (ofBool (Nat.beq n 0))) x.2
  let i := v / 8 % 8
  let outs := (List.range cells.length).map fun j =>
    ({ dest := d, bytes := cells.getD j [], last := if j + 1 = cells.length then some k else none, pkt := some k.id } : OutCell)
  let s := s.changing q fun s =>
    let s := s.setQueue q ((s.queue q).filter fun x => !Nat.beq x.id k.id)
    s.setField Dom.VOQ_STATE v Fld.VS_BALANCE (unsigned 32 (Fld.VS_BALANCE.getS (s.dom Dom.VOQ_STATE v) - k.len))
  let s := ((s.countQueue q Fld.QC_DEQ_PACKETS).countQueue q Fld.QC_DEQ_BYTES k.len).bump Obj.VOQ_CTRL_FABRIC_PACKETS
  let s : State := ((s.withFab { s.fab with tags := Table.put zeroN s.fab.tags stream (n + 1), out := Table.put noList s.fab.out i (s.outOf i ++ outs) }).withSched { s.sched with voqPtr := Table.put zeroN s.sched.voqPtr i (v + 1) })
  s.spray

/-- VOQ_SEND (R208): a slice serves its next eligible VOQ. -/
def execVoqSend (slice : Fin 8) (ecc : ReadUpset) (s : State) : Out :=
  s.inCore fun s =>
    if s.fabricOn = false ∨ s.on Obj.TM_CTRL_SCHED_ENABLE = false ∨ s.tsBlocked slice = true ∨ s.slicesHeld = true then s
    else
      let vs := ((s.net.queues.filter fun e => Nat.ble voqBase e.1 && Nat.beq ((e.1 - voqBase) / 8 % 8) slice).map fun e => e.1 - voqBase).filter s.eligibleVoq
      let ptr := Table.get zeroN s.sched.voqPtr slice
      match ((vs.find? fun v => Nat.ble ptr v).or vs.head?) with
      | none => s
      | some v =>
        match s.headOf (voqBase + v) with
        | none => s
        | some k =>
          match s.readUpset k ecc with
          | (some lost, s) => s.discardQueued (voqBase + v) k.id lost
          | (none, s) => s.sendVoq v k

/-- A grant arrives (R208, R306). -/
def State.grant (s : State) (granting requesting q cls n : Nat) : State :=
  if requesting ≠ s.get Obj.FABRIC_CTRL_DEVICE_ID ∨ s.fabricOn = false then s.bump Obj.FABRIC_CTRL_BAD_MESSAGES
  else
    let v := (64 * granting + q) * 8 + cls
    let b := Fld.VS_BALANCE.getS (s.dom Dom.VOQ_STATE v) + (n : Int)
    let max : Int := (s.get Obj.VOQ_CTRL_BALANCE_MAX : Nat)
    let s := s.bump Obj.CREDIT_CTRL_GRANTS_RECEIVED
    let s := if max < b then s.bump Obj.VOQ_CTRL_CREDIT_WASTED (b - max).toNat else s
    (s.setField Dom.VOQ_STATE v Fld.VS_BALANCE (unsigned 32 (min b max))).voqFollow v

/-- GRANT (R306). -/
def execGrant (granting requesting : Fin 256) (q : Fin 64) (cls : Fin 8) (bytes : Nat) (s : State) : Out :=
  s.inCore fun s => s.grant granting requesting q cls (bytes % 2 ^ 24)

/-- REQUEST_REFRESH (R304): an ON request is sent again. -/
def execRequestRefresh (voq : Fin 131072) (s : State) : Out :=
  s.inCore fun s =>
    if Fld.VS_REQUEST.get (s.dom Dom.VOQ_STATE voq) = 1 ∧ s.scheduledVoq voq = false ∧
        Table.get zeroN s.fab.reqAt voq + s.get Obj.CREDIT_CTRL_REFRESH_US * 1000 ≤ s.time.now then s.sendRequest voq
    else s

/-- A write of FLUSH_QUEUE (R207). -/
def ruleFlushQueue (v : Nat) (s : State) : Res :=
  if 655360 ≤ v then (.invalid, s)
  else
    let s := forEach ((s.queue v).map (·.id)) s fun s id => s.discardQueued v id
    (.ok, (s.bump Obj.TM_CTRL_FLUSHED).raise 0x4044 (s.uQueue v) 0)

/-- FLUSH_QUEUE. -/
def execFlushQueue (master value : Nat) (s : State) : Out :=
  s.rowSlow master Obj.TM_CTRL_FLUSH_QUEUE value (ruleFlushQueue value)

/-! ### The egress credit scheduler -/

/-- No request has come. -/
def noRequest (_ : Nat) : ReqState := {}

/-- Remote port number mapped to a scheduler port (R209, R316). -/
def State.portQ (s : State) (p : Nat) : Option Nat := (List.range 64).find? fun q => Nat.beq (s.get (Obj.FABRIC_PORT_MAP_MAP_Q q)) p

/-- An ON state has received no REQUEST for 3 × REFRESH_US (R305). -/
def State.reqOver (s : State) (r : ReqCore) : Bool := r.on && Nat.ble (r.at' + 3 * s.get Obj.CREDIT_CTRL_REFRESH_US * 1000) s.time.now

/-- Requesting source devices of (q, class), ascending. -/
def State.requesters (s : State) (q cls : Nat) : List Nat :=
  (s.fab.reqs.filter fun e => Nat.beq (e.1 % 512) (8 * q + cls) && e.2.core.on && !s.reqOver e.2.core).map fun e => e.1 / 512

/-- Deficit 0. -/
def zeroI (_ : Nat) : Int := 0

/-- The classes of a port that have requests join and leave its credit list (R195, R209). -/
def State.creditClasses (s : State) (p : Nat) : State :=
  match s.portQ p with
  | none => s
  | some q =>
    forEach (List.range 8) s fun s c =>
      let pc := 8 * p + c
      let l := Table.get noList s.sched.creditOrder p
      let want : Bool := !(s.requesters q c).isEmpty && Nat.beq (Fld.PC_STRICT.get (s.dom Dom.PORT_CLASSES pc)) 0
      if want && !l.contains c then
        (s.withSched { s.sched with
          creditOrder := Table.put noList s.sched.creditOrder p (l ++ [c])
          creditDeficit := Table.put zeroI s.sched.creditDeficit pc (s.classQuantum pc) })
      else if !want && l.contains c then
        (s.withSched { s.sched with
          creditOrder := Table.put noList s.sched.creditOrder p (l.filter (· != c))
          creditDeficit := Table.put zeroI s.sched.creditDeficit pc 0 })
      else s

/-- Charges a grant to a class of the credit list (R195, R209). -/
def State.creditCharge (s : State) (p c n : Nat) : State :=
  let pc := 8 * p + c
  let l := Table.get noList s.sched.creditOrder p
  if l.contains c = false then s
  else
    let d := Table.get zeroI s.sched.creditDeficit pc - n
    if d ≤ 0 then
      (s.withSched { s.sched with
        creditOrder := Table.put noList s.sched.creditOrder p (l.filter (· != c) ++ [c])
        creditDeficit := Table.put zeroI s.sched.creditDeficit pc (d + s.classQuantum pc) })
    else (s.withSched { s.sched with creditDeficit := Table.put zeroI s.sched.creditDeficit pc d })

/-- CREDIT_GENERATE (R209, R306): a port's credit scheduler issues its next grant. -/
def execCreditGenerate (port : Fin 136) (s : State) : Out :=
  s.inCore fun s =>
    if s.tsBlocked (sliceOf port) then s else
    let s := (s.creditClasses port).creditHeld port
    let (pct, _, _, granted, held) := creditKeys port
    let n := s.get Obj.CREDIT_CTRL_GRANT_BYTES
    let t := s.time.now * 65536
    let due := Table.get zeroN s.sched.creditNext port
    match s.portQ port with
    | none => s
    | some q =>
      if s.fabricOn = false ∨ s.on Obj.TM_CTRL_SCHED_ENABLE = false ∨ s.get held = 1 ∨ t < due then s
      else
        let strict := [7, 6, 5, 4, 3, 2, 1, 0].find? fun c =>
          Nat.beq (Fld.PC_STRICT.get (s.dom Dom.PORT_CLASSES (8 * port.val + c))) 1 && !(s.requesters q c).isEmpty
        match strict.or (Table.get noList s.sched.creditOrder port).head? with
        | none => s
        | some c =>
          let pc := 8 * port.val + c
          let srcs := s.requesters q c
          let ptr := Table.get zeroN s.sched.creditPtr pc
          match (srcs.find? fun d => Nat.ble ptr d).or srcs.head? with
          | none => s
          | some d =>
            let s := s.creditCharge port c n
            let step := n * 800000 * 65536 / (s.spanRate port * s.get pct)
            let s : State := (s.withSched { s.sched with
              creditPtr := Table.put zeroN s.sched.creditPtr pc (d + 1)
              creditNext := Table.put zeroN s.sched.creditNext port (max due t + step) })
            ((s.bump granted n).bump Obj.CREDIT_CTRL_GRANTS_SENT).pushMessage d
              (grantMessage (s.get Obj.FABRIC_CTRL_DEVICE_ID) d q c n)

/-- An ON request state runs out (R305). -/
def State.expireRequest (s : State) (key : Nat) : State :=
  let r := Table.get noRequest s.fab.reqs key
  if s.reqOver r.core then
    let s : State := (s.withFab { s.fab with reqs := Table.put noRequest s.fab.reqs key { core := { r.core with on := false, expired := true } } })
    s.creditClasses (s.get (Obj.FABRIC_PORT_MAP_MAP_Q (key / 8 % 64)))
  else s

/-- One REQUEST, SEQ and ON, applied at an instant, or ignored; the second component counts the ignored ones (R305). -/
def applyRequest (now : Nat) (a : ReqCore × Nat) (x : Nat × Bool) : ReqCore × Nat :=
  let diff := (x.1 + 16 - a.1.seq) % 16
  if a.1.expired = true ∨ (1 ≤ diff ∧ diff ≤ 7) then (⟨x.2, x.1, now, false⟩, a.2) else (a.1, a.2 + 1)

/-- The SEQ that comes first of those of one instant where no last one counts: the one from which the others lie least far ahead, modulo 16
(R305, R315; DEDUCED, log entry 186). -/
def firstSeq (got : List (Nat × Bool)) : Nat :=
  let span := fun (a : Nat) => got.foldl (fun m x => max m ((x.1 + 16 - a) % 16)) 0
  (got.foldl (fun (b : Nat × Nat) x => if span x.1 < b.2 then (x.1, span x.1) else b) (0, 16)).1

/-- A REQUEST arrives (R305); those of one instant are applied in SEQ order (R315). -/
def State.request (s : State) (requesting granting q cls : Nat) (on : Bool) (seq : Nat) : State :=
  if granting ≠ s.get Obj.FABRIC_CTRL_DEVICE_ID ∨ s.fabricOn = false then s
  else
    let key := (64 * requesting + q) * 8 + cls
    let s := s.expireRequest key
    let r := Table.get noRequest s.fab.reqs key
    let r : ReqState := if r.got ≠ [] ∧ r.gotAt = s.time.now then r else { core := r.core, base := r.core, gotAt := s.time.now }
    let got := r.got ++ [(seq, on)]
    let first := if r.base.expired then firstSeq got else r.base.seq
    let got := sortBy (fun (x : Nat × Bool) => (x.1 + 16 - first) % 16) got
    let (core, stale) := got.foldl (applyRequest s.time.now) (r.base, 0)
    let s := if stale = r.stale then s
      else s.set Obj.CREDIT_CTRL_STALE_REQUESTS ((s.get Obj.CREDIT_CTRL_STALE_REQUESTS + 2 ^ 64 + stale - r.stale) % 2 ^ 64)
    let s : State := (s.withFab { s.fab with reqs := Table.put noRequest s.fab.reqs key { r with core := core, got := got, stale := stale } })
    s.creditClasses (s.get (Obj.FABRIC_PORT_MAP_MAP_Q q))

/-- REQUEST (R305). -/
def execRequest (requesting granting : Fin 256) (q : Fin 64) (cls : Fin 8) (on : Bool) (seq : Fin 16) (s : State) : Out :=
  s.inCore fun s => s.request requesting granting q cls on seq

/-- REQUEST_EXPIRY (R305). -/
def execRequestExpiry (requesting : Fin 256) (q : Fin 64) (cls : Fin 8) (s : State) : Out :=
  s.inCore fun s => s.expireRequest ((64 * requesting.val + q.val) * 8 + cls.val)

/-! ### Configuration -/

/-- Cells handed to lanes or waiting for them that a stop discards: the packets they complete are released. -/
def State.dropCells (s : State) (cells : List OutCell) : State :=
  forEach cells s fun s c => match c.last with | some k => s.release k | none => s

/-- FL_ENABLE: an enabled lane starts to hunt; a disabled one stops sending, and its cells are lost (R300, R301, R326). -/
def ruleFlEnable (n v : Nat) (s : State) : Res :=
  let s := s.pmTurn n
  let l := s.fl n
  if s.get (Obj.FABRIC_LANE_FL_ENABLE n) = v then s.plain (Obj.FABRIC_LANE_FL_ENABLE n) v else
  let s := s.commit (Obj.FABRIC_LANE_FL_ENABLE n) v
  let s := s.setFl n { dark := l.dark, darkAt := l.darkAt, reachAt := s.time.now, left := l.left || s.inSpray n, pm := { l.pm with off := l.pm.off || Nat.beq v 0 } }
  let s := s.dropCells (l.ctl ++ l.data)
  let s := (s.set (Obj.FABRIC_LANE_FRAME_STATE n) 0).set (Obj.FABRIC_LANE_DEFECTS n) (if v = 1 ∧ l.dark = true then 1 else 2)
  (.ok, (s.followDefects n).spray)

/-- DEVICE_ID and FABRIC_MODE (R316). -/
def ruleFabricSetting (key v : Nat) (s : State) : Res := if s.fabricOn then (.busy, s) else s.plain key v

/-- FABRIC_PORT_MAP (R316). -/
def rulePortMap (q v : Nat) (s : State) : Res :=
  if s.fabricOn then (.busy, s)
  else if v ≠ 0xFF ∧ ((List.range 64).any fun r => !Nat.beq r q && Nat.beq (s.get (Obj.FABRIC_PORT_MAP_MAP_Q r)) v) = true then (.invalid, s)
  else s.plain (Obj.FABRIC_PORT_MAP_MAP_Q q) v

/-- GRANT_BYTES: a multiple of 256. -/
def ruleGrantBytes (v : Nat) (s : State) : Res := if v % 256 ≠ 0 then (.invalid, s) else s.plain Obj.CREDIT_CTRL_GRANT_BYTES v

/-- REQ_LEVEL: from 16,384 to BALANCE_MAX (R316); the requests follow (R304). -/
def ruleReqLevel (v : Nat) (s : State) : Res :=
  if v < 16384 ∨ s.get Obj.VOQ_CTRL_BALANCE_MAX < v then (.invalid, s) else (.ok, (s.commit Obj.CREDIT_CTRL_REQ_LEVEL v).voqsAgain)

/-- UNREACH_MS from 1 to 10,000, or 0. -/
def ruleUnreachMs (v : Nat) (s : State) : Res := if 10000 < v then (.invalid, s) else s.plain Obj.FABRIC_CTRL_UNREACH_MS v

end Sys2Proof.Machine
end

