-- ==== Sys2Proof/Machine/Reasm.lean ====
section
/-! DEFINITION. What comes out of the fabric: reassembly, reorder and loss, messages, deterministic flows and the check of every cell
(R174, R294 to R298, R307 to R314, R331 to R334, R338). -/

namespace Sys2Proof.Machine

/-- A stream that has never received a cell. -/
def noStream (_ : Nat) : Stream := {}
/-- A stream by source and class. -/
def State.stream (s : State) (k : Nat) : Stream := Table.get noStream s.fab.streams k
/-- Sets it. -/
def State.setStream (s : State) (k : Nat) (x : Stream) : State := (s.withFab { s.fab with streams := Table.put noStream s.fab.streams k x })

/-- Stream of a context. -/
def Ctx.stream (c : Ctx) : Nat := 8 * c.src + c.cls

/-- A context of a stream by tag. -/
def State.ctxOf (s : State) (k tag : Nat) : Option Ctx := s.fab.ctxs.find? fun c => Nat.beq c.stream k && Nat.beq c.tag tag && c.pkt.isNone

/-- Distance of a tag from NEXT (R311). -/
def tagDistance (tag next : Nat) : Nat := (tag + 65536 - next) % 65536

/-- All cells of a context have arrived (R308). -/
def Ctx.complete (c : Ctx) : Bool :=
  c.first && match c.last with
    | some l => Nat.beq c.cells.length (l + 1)
    | none => false

/-- Sets the contexts and their count. -/
def State.setCtxs (s : State) (l : List Ctx) : State :=
  let s : State := (s.withFab { s.fab with ctxs := l })
  let s := s.set Obj.REASSEMBLY_CTX_IN_USE l.length
  s.set Obj.REASSEMBLY_CTX_MAX_USED (max l.length (s.get Obj.REASSEMBLY_CTX_MAX_USED))

/-- Removes a context. -/
def State.dropCtx (s : State) (c : Ctx) : State :=
  s.setCtxs (s.fab.ctxs.filter fun x => !(Nat.beq x.stream c.stream && Nat.beq x.tag c.tag && decide (x.pkt = c.pkt)))

/-- Ends a context: its cells are freed and credited (R174, R308). -/
def State.endCtx (s : State) (c : Ctx) : State :=
  ((s.dropCtx c).freeCells c.held).creditTo (132 + c.src) 0 c.held.length

/-- The packet that metadata and a frame from the fabric make (R149, R210, R310). It carries no IN_VRF for a next pass: POP_VRF keeps its packet
on its device (R155). -/
def State.fabricPacket (s : State) (m : Nat) (frame : List Byte) (src dest : Nat) : Pkt :=
  { id := s.net.serial, bytes := frame, inPort := Fld.MD_IN_PORT.get m, requester := 132 + src, cls := Fld.MD_CLASS.get m
    colour := Fld.MD_COLOUR.get m, dest := dest, edit := .nextHop (Fld.MD_NEXT_HOP.get m)
    qsel := if Fld.MD_QSEL_VALID.get m = 1 then some (Fld.MD_QUEUE.get m) else none
    lagHash := Fld.MD_LAG_HASH.get m, entropy := Fld.MD_ENTROPY.get m, rxTime := Fld.MD_RX_NS.get m
    labelOp := Fld.MD_LABEL_OP.get m, newLabel := Fld.MD_NEW_LABEL.get m, stripOff := Fld.MD_STRIP_OFF.get m
    pass := Fld.MD_PASS.get m, trap := Fld.MD_TRAP_CODE.get m, l3Off := Fld.MD_L3_OFF.get m
    len := frame.length }

/-- Takes a packet's serial number. -/
def State.nextSerial (s : State) : State := (s.withNet { s.net with serial := s.net.serial + 1 })

/-- A complete context is delivered: its packet goes to the admission decision, which frees the context, or is discarded for want of a port
(R310). -/
def State.deliverCtx (s : State) (c : Ctx) : State :=
  let port := s.get (Obj.FABRIC_PORT_MAP_MAP_Q c.port)
  if port = 0xFF then ((s.endCtx c).bump Obj.REASSEMBLY_UNMAPPED).raise 0x5104 uTD2D 0
  else
    let bytes := (sortBy (fun (x : Nat × List Byte) => x.1) c.cells).flatMap (·.2)
    let k := { s.fabricPacket (wordAt bytes 0 32) (bytes.drop 32) c.src port with cellsHeld := c.held.length, cells := c.held }
    let s : State := s.withFab { s.fab with ctxs := s.fab.ctxs.map fun x => if x = c then { c with held := [], pkt := some k.id } else x }
    let s := (s.bump Obj.REASSEMBLY_PACKETS).nextSerial
    (s.withNet { s.net with toAdmit := s.net.toAdmit ++ [k] })

/-- NEXT moves past tags that are lost or can be delivered (R312). -/
def State.advanceStream (k : Nat) : Nat → State → State
  | 0, s => s
  | fuel + 1, s =>
    let x := s.stream k
    let step := fun (s : State) =>
      let n := (x.next + 1) % 65536
      s.setStream k { x with
        next := n, since := s.time.now, lost := x.lost.filter (· != x.next), high := x.high.filter fun h => !Nat.beq h.1 n, lossDue := false }
    if x.lost.contains x.next then State.advanceStream k fuel (step s)
    else match s.ctxOf k x.next with
      | some c => if c.complete then State.advanceStream k fuel (step (s.deliverCtx c)) else s
      | none => s

/-- Advances as far as the stream goes. -/
def State.advance (s : State) (k : Nat) : State := State.advanceStream k ((s.stream k).lost.length + s.fab.ctxs.length + 1) s

/-- A tag is lost (R307 to R309, R313): it is counted and the stream advances. -/
def State.loseTag (s : State) (k tag : Nat) : State :=
  let x := s.stream k
  ((s.bump Obj.REASSEMBLY_LOST_TAGS).setStream k { x with lost := if x.lost.contains tag then x.lost else x.lost ++ [tag] }).advance k

/-- A context reaches its timeout (R309). -/
def State.timeoutCtx (s : State) (c : Ctx) : State :=
  (((s.endCtx c).bump Obj.REASSEMBLY_TIMEOUTS).raise 0x5102 uTD2D 0).loseTag c.stream c.tag

/-- A context's time has run out. -/
def State.expired (s : State) (c : Ctx) : Bool := Nat.ble (c.opened + s.get Obj.REASSEMBLY_REASM_TIMEOUT_NS) s.time.now && !c.complete

/-- REASM_TIMEOUT (R309). -/
def execReasmTimeout (source : Fin 256) (cls : Fin 8) (tag : Fin 65536) (s : State) : Out :=
  s.inCore fun s =>
    match s.ctxOf (8 * source.val + cls.val) tag with
    | some c => if s.expired c then s.timeoutCtx c else s
    | none => s

/-- NEXT of a stream is lost: its context ends and the stream moves on (R313). -/
def State.loseNext (s : State) (k : Nat) : State :=
  let x := s.stream k
  let s := match s.ctxOf k x.next with | some c => s.endCtx c | none => s
  s.loseTag k x.next

/-- Elapsed instant at which NEXT has waited REASM_TIMEOUT_NS behind a higher tag (R313). -/
def State.headLossAt (s : State) (k : Nat) : Option Nat :=
  let x := s.stream k
  match x.high.map (·.2) with
  | [] => none
  | t :: l => some (max x.since (l.foldl min t) + s.get Obj.REASSEMBLY_REASM_TIMEOUT_NS)

/-- HEAD_LOSS (R313): NEXT has waited REASM_TIMEOUT_NS behind a higher tag. At that very instant a completion of NEXT comes first, so that the
loss waits for the instant's end (R315). -/
def execHeadLoss (source : Fin 256) (cls : Fin 8) (s : State) : Out :=
  s.inCore fun s =>
    let k := 8 * source.val + cls.val
    match s.headLossAt k with
    | none => s
    | some t =>
      if t < s.time.now then s.loseNext k
      else if t = s.time.now then s.setStream k { s.stream k with lossDue := true }
      else s

/-- The losses of heads that the present instant still holds back (R315). -/
def State.dueLosses (s : State) : State :=
  forEach ((s.fab.streams.filter fun e => e.2.lossDue).map (·.1)) s fun s k =>
    if (s.stream k).lossDue then (s.setStream k { s.stream k with lossDue := false }).loseNext k else s

/-- Tags passed as NEXT moves on by `n` (R311): complete packets are delivered in tag order, the others are skipped. -/
def State.skipTags (s : State) (k n : Nat) : State :=
  let x := s.stream k
  let passed := sortBy (fun (c : Ctx) => tagDistance c.tag x.next)
    (s.fab.ctxs.filter fun c => Nat.beq c.stream k && c.pkt.isNone && Nat.blt (tagDistance c.tag x.next) n)
  let whole := passed.filter (·.complete)
  let s := forEach passed s fun s c => if c.complete then s.deliverCtx c else s.endCtx c
  let next := (x.next + n) % 65536
  let keep := fun (t : Nat) => Nat.ble n (tagDistance t x.next)
  (s.bump Obj.REASSEMBLY_WINDOW_SKIPS (n - whole.length)).setStream k
    { x with
      next := next, since := s.time.now, lost := x.lost.filter keep, high := x.high.filter fun h => keep h.1 && !Nat.beq h.1 next, lossDue := false }

/-- A stream is reset by a RESYNC cell (R314). -/
def State.resync (s : State) (k tag : Nat) : State :=
  let mine := s.fab.ctxs.filter fun c => Nat.beq c.stream k && c.pkt.isNone
  let s := forEach mine s fun s c => (s.endCtx c).bump Obj.REASSEMBLY_LOST_TAGS
  s.setStream k { seen := true, next := tag, since := s.time.now }

/-- Region 0 cells for bytes that a context newly holds, subject to the quota and to the cells available; false when refused
(R174). -/
def State.holdBytes (s : State) (c : Ctx) (n : Nat) : Bool × Ctx × State :=
  let want := ceilDiv n 256 - c.held.length
  if want = 0 then (true, c, s)
  else if s.freeUnits 0 < want ∨ s.within (132 + c.src) 0 want = false then (false, c, s)
  else
    let (l, s) := s.takeCells want
    (true, { c with held := c.held ++ l }, s.chargeTo (132 + c.src) 0 want)

/-- A cell joins a context that is open (R307, R308). -/
def State.joinCtx (s : State) (lane : Nat) (c : Ctx) (h : Nat) (payload : List Byte) : State :=
  let seq := Fld.CELL_CELL_SEQ.get h
  let isLast := Fld.CELL_LAST.get h = 1
  let bad : Bool := (c.cells.any fun x => Nat.beq x.1 seq) || (match c.last with
    | some l => decide isLast || Nat.blt l seq
    | none => decide isLast && c.cells.any fun x => Nat.blt seq x.1)
  if bad then (((s.endCtx c).bump Obj.REASSEMBLY_FORMAT_ERRORS).raise 0x5103 (uFl lane) 0).loseTag c.stream c.tag
  else
    let c1 := { c with
      cells := c.cells ++ [(seq, payload)]
      last := if isLast then some seq else c.last
      first := c.first || (Nat.beq seq 0 && Nat.beq (Fld.CELL_FIRST.get h) 1) }
    let (ok, c2, s) := s.holdBytes c1 ((c1.cells.map fun x => x.2.length).sum)
    if ok then
      (s.setCtxs (s.fab.ctxs.map fun x => if x = c then c2 else x)).advance c.stream
    else (s.endCtx c).loseTag c.stream c.tag

/-- A cell within the window (R307, R311). -/
def State.windowCell (s : State) (lane h : Nat) (payload : List Byte) : State :=
  let src := Fld.CELL_SRC_DEV.get h
  let cls := Fld.CELL_CLASS.get h
  let tag := Fld.CELL_PKT_TAG.get h
  let k := 8 * src + cls
  let x := s.stream k
  if x.lost.contains tag then s.bump Obj.REASSEMBLY_LATE_CELLS
  else
    let s := if tag = x.next ∨ (x.high.any fun y => Nat.beq y.1 tag) = true then s
      else s.setStream k { x with high := x.high ++ [(tag, s.time.now)] }
    match s.ctxOf k tag with
    | some c => s.joinCtx lane c h payload
    | none =>
      if 4096 ≤ s.fab.ctxs.length ∨ s.get Obj.REASSEMBLY_SRC_CTX_MAX ≤ (s.fab.ctxs.filter fun c => Nat.beq c.src src).length then
        (s.bump Obj.REASSEMBLY_CTX_REFUSED).loseTag k tag
      else
        let c : Ctx := { src, cls, tag, port := Fld.CELL_PORT.get h, opened := s.time.now }
        (s.setCtxs (s.fab.ctxs ++ [c])).joinCtx lane c h payload

/-- A DATA cell (R307 to R314). -/
def State.dataCell (s : State) (lane h : Nat) (payload : List Byte) : State :=
  let k := 8 * Fld.CELL_SRC_DEV.get h + Fld.CELL_CLASS.get h
  let tag := Fld.CELL_PKT_TAG.get h
  -- a context whose time has run out ends before the cell (R309, R315)
  let s := match s.ctxOf k tag with
    | some c => if s.expired c then s.timeoutCtx c else s
    | none => s
  let x := s.stream k
  let s := if x.seen then s else s.setStream k { seen := true, next := tag, since := s.time.now }
  let s := if Fld.CELL_RESYNC.get h = 1 ∧ (s.ctxOf k tag).isNone = true then s.resync k tag else s
  let d := tagDistance tag (s.stream k).next
  if 32768 ≤ d then s.bump Obj.REASSEMBLY_LATE_CELLS
  else if 1024 ≤ d then ((s.skipTags k (d - 1023)).advance k).windowCell lane h payload
  else s.windowCell lane h payload

/-- The DATA cells of a cycle in ascending lane number (R308). -/
def State.dataCells (s : State) : State :=
  forEach (sortBy (fun (c : ArrivedCell) => c.lane) s.fab.arrived) (s.withFab { s.fab with arrived := [] }) fun s c =>
    s.dataCell c.lane c.header c.payload

/-! ### Messages -/

/-- One message of a CONTROL or LINK cell (R298). -/
def State.message (s : State) (lane t m : Nat) : State :=
  let bad := s.bump Obj.FABRIC_CTRL_BAD_MESSAGES
  match bits m 124 4 with
  | 1 => if t ≠ cCONTROL ∨ bits m 0 94 ≠ 0 then bad
    else s.request (bits m 116 8) (bits m 108 8) (bits m 102 6) (bits m 99 3) (bit m 98) (bits m 94 4)
  | 2 => if t ≠ cCONTROL ∨ bits m 0 74 ≠ 0 ∨ bit m 98 = true then bad
    else s.grant (bits m 116 8) (bits m 108 8) (bits m 102 6) (bits m 99 3) (bits m 74 24)
  | 3 => if t ≠ cLINK ∨ bits m 64 49 ≠ 0 then bad else s.reach lane (bit m 123) (bits m 121 2) (bits m 0 64)
  | _ => bad

/-! ### Deterministic flows -/

/-- The packet a flow is receiving. -/
def State.flowRx (s : State) (f : Nat) : Option FlowRx := Table.get (fun _ => none) s.fab.flowRx f
/-- Sets it. -/
def State.setFlowRx (s : State) (f : Nat) (x : Option FlowRx) : State :=
  (s.withFab { s.fab with flowRx := Table.put (fun _ => none) s.fab.flowRx f x })

/-- Changes a packet of a scheduled lane wherever it is: before its decision, in its queue or after its selection. -/
def State.updatePkt (s : State) (id : Nat) (f : Pkt → Pkt) : State :=
  let upd := fun (l : List Pkt) => l.map fun x => if x.id = id then f x else x
  let s : State := (s.withNet { s.net with toAdmit := upd s.net.toAdmit, queues := s.net.queues.map fun e => (e.1, upd e.2) })
  s.updateSelected id f

/-- The last cell of a flow's packet of `n` bytes has come, or stands filled, or the packet is ended as it is (R332 to R334). What was edited
before it came is finished with its FCS. -/
def State.flowEnd (s : State) (id n : Nat) (bad : Bool) : State :=
  let s := match s.selected id with
    | some k => if k.unfinished then s.wireActual k.dest k.charge k.bytes.length else s
    | none => s
  let s := s.updatePkt id fun k => { k with
    len := n, whole := unitsOf n, fcsBad := bad
    bytes := if k.unfinished then withFcs (k.bytes.take (k.bytes.length - 4)) else k.bytes, unfinished := false }
  if s.net.toAdmit.any fun k => Nat.beq k.id id then
    if bad then
      match s.net.toAdmit.find? fun k => Nat.beq k.id id with
      | some k =>
        let s : State := (s.withNet { s.net with toAdmit := s.net.toAdmit.filter fun x => !Nat.beq x.id id })
        ((s.bump Obj.BUFFER_CTRL_CT_DISCARDED).raise 0x4142 (uSlice k.dest) 0 0).dropPacket k
      | none => s
    else s.updatePkt id fun k => { k with arrived := k.whole }
  else match s.queueOf id with
    | some (_, k) => s.lastUnit k true
    | none => match s.selected id with
      | some k => s.lastUnit k false
      | none => s

/-- A flow's packet in progress is ended (R333). -/
def State.endFlow (s : State) (f : Nat) : State :=
  match s.flowRx f with
  | some x => (s.setFlowRx f none).flowEnd x.id (x.bytes - 32) true
  | none => s

/-- A packet of a scheduled lane takes cells from its reservation as its bytes arrive (R172, R175). -/
def State.storeFlow (s : State) (id n : Nat) : State :=
  match s.queueOf id with
  | some (q, k) =>
    let (k', s) := s.store k (s.bufsOf k (unitsOf n))
    s.setQueue q ((s.queue q).map fun x => if x.id = id then k' else x)
  | none => match s.selected id with
    | some k =>
      let (k', s) := s.store k (s.bufsOf k (unitsOf n))
      s.updateSelected id fun x => { x with cells := k'.cells }
    | none => s

/-- Bytes join a flow's packet; `last`: they complete it; `ecc`: what their reading meets where it is cut through (R183). -/
def State.flowBytes (s : State) (f : Nat) (x : FlowRx) (l : List Byte) (last fill : Bool) (ecc : ReadUpset) : State :=
  let s := s.updatePkt x.id fun k => { k with bytes := k.bytes ++ l, fill := k.fill || fill }
  let s := s.storeFlow x.id (x.bytes + l.length - 32)
  let s := match s.selected x.id with
    | some k => if k.read then s.readArrived k ecc else s
    | none => s
  if last then (s.setFlowRx f none).flowEnd x.id (x.bytes + l.length - 32) false
  else s.setFlowRx f (some { x with next := x.next + 1, bytes := x.bytes + l.length, at' := s.time.now })

/-- Scheduled lane whose receive slot a cell came in, and the slot's entry (R333). -/
def State.rxEntry (s : State) (lane frame slot : Nat) : Option (Nat × Nat) :=
  (s.schedLane lane).map fun k => (k, s.dom Dom.CONN_MEMORY (cmIndex k 1 (s.get (Obj.SCHED_LANE_RX_PAGE k)) frame slot))

/-- Valid receive entries of a flow on its lane: N_f of R338. -/
def State.flowSlots (s : State) (k f : Nat) : Nat :=
  ((s.pageEntries k 1 (s.get (Obj.SCHED_LANE_RX_PAGE k))).filter fun e => Nat.beq (Fld.CM_FLOW.get e) f).length

/-- Cell 0 of a flow's packet (R172, R310, R333): the packet goes to its admission decision. -/
def State.openFlow (s : State) (lane k f h : Nat) (payload : List Byte) : State :=
  let m := wordAt payload 0 32
  let port := s.get (Obj.FABRIC_PORT_MAP_MAP_Q (Fld.CELL_PORT.get h))
  let len := Fld.MD_LENGTH.get m
  let x : FlowRx := { id := s.net.serial, next := 1, bytes := payload.length, len := len, at' := s.time.now, lane := lane }
  let slow : Bool := Nat.blt (s.flowSlots k f * 192000000) (s.spanRate port * 1056768)
  let p := { s.fabricPacket m (payload.drop 32) (Fld.CELL_SRC_DEV.get h) port with
    scheduled := true, flow := some f, noCut := slow, arrived := 0, whole := 64, len := len }
  let s := (s.nextSerial).setFlowRx f (some x)
  let s := if port = 0xFF then (s.bump Obj.REASSEMBLY_UNMAPPED).raise 0x5104 uTD2D 0
    else (s.withNet { s.net with toAdmit := s.net.toAdmit ++ [p] })
  if Fld.CELL_LAST.get h = 1 then (s.setFlowRx f none).flowEnd x.id (payload.length - 32) false else s

/-- An event of R333: counted, the flow's packet ended, E-5107. -/
def State.slotError (s : State) (lane f : Nat) (counter : Option Nat) : State :=
  let s := match counter with | some c => s.bump c | none => s
  (s.endFlow f).raise 0x5107 (uFl lane) 0

/-- An AIS cell in a valid receive slot (R334). -/
def State.aisSlot (s : State) (lane k f : Nat) : State :=
  match s.flowRx f with
  | none => s.bump Obj.FABRIC_CTRL_AIS_CELLS
  | some x =>
    if Fld.DF_TRANSPARENT.get (s.dom Dom.DET_FLOWS f) = 0 then (s.bump Obj.FABRIC_CTRL_AIS_CELLS).slotError lane f none
    else
      let s := s.bump (Obj.SCHED_LANE_FILL_CELLS k)
      let left := x.len + 32 - x.bytes
      if x.len = 0 then s.slotError lane f none
      else s.flowBytes f x (List.replicate (min left 240) (0xFF#8)) (Nat.ble left 240) true .clean

/-- A SCHEDULED cell in the slot of a valid entry (R333). -/
def State.scheduledCell (s : State) (lane k e h : Nat) (payload : List Byte) (ecc : ReadUpset) : State :=
  let f := Fld.CM_FLOW.get e
  let fits : Bool := Nat.beq (Fld.CELL_FLOW.get h) f && Nat.beq (Fld.CELL_DEST_DEV.get h) (Fld.CM_DEST_DEV.get e) &&
    Nat.beq (Fld.CELL_PORT.get h) (Fld.CM_DEST_PORT.get e)
  if fits = false then s.slotError lane f (some (Obj.SCHED_LANE_SLOT_MISMATCH k))
  else
    let seq := Fld.CELL_CELL_SEQ.get h
    match s.flowRx f with
    | none => if seq = 0 then s.openFlow lane k f h payload else s.slotError lane f (some (Obj.SCHED_LANE_SEQ_ERRORS k))
    | some x =>
      if seq = x.next then s.flowBytes f x payload (Nat.beq (Fld.CELL_LAST.get h) 1) false ecc
      else s.slotError lane f (some (Obj.SCHED_LANE_SEQ_ERRORS k))

/-- An AIS cell: fill of a deterministic flow, or discarded and counted (R295, R328, R334). -/
def State.aisCell (s : State) (lane frame slot : Nat) : State :=
  match s.rxEntry lane frame slot with
  | some (k, e) => if Fld.CM_VALID.get e = 1 then s.aisSlot lane k (Fld.CM_FLOW.get e) else s.bump Obj.FABRIC_CTRL_AIS_CELLS
  | none => s.bump Obj.FABRIC_CTRL_AIS_CELLS

/-- A cell as its lane delivers it, in a slot of a frame; a DATA cell joins those of its cycle (R295, R308, R297, R316, R328, R333). -/
def State.cell (s : State) (lane frame slot : Nat) (c : List Byte) (ecc : ReadUpset := .clean) : State :=
  let h := wordAt c 0 16
  let t := Fld.CELL_TYPE.get h
  let s := if t = cIDLE then s else s.bump (Obj.FABRIC_LANE_CELLS_RX lane)
  if (c.all fun b => decide (b = 0xFF#8)) then s.aisCell lane frame slot
  else if Fld.CELL_CHECK.get h ≠ cellCheck c then
    let s := (s.bump (Obj.FABRIC_LANE_CHECK_ERRORS lane)).raise 0x5103 (uFl lane) 0
    -- in a valid slot of a scheduled lane it counts as an AIS cell (R328)
    match s.rxEntry lane frame slot with
    | some (k, e) => if Fld.CM_VALID.get e = 1 then s.aisSlot lane k (Fld.CM_FLOW.get e) else s
    | none => s
  else
    let payload := (c.drop 16).take (min 240 (Fld.CELL_VALID_BYTES.get h))
    let away : Bool := !Nat.beq (Fld.CELL_DEST_DEV.get h) (s.get Obj.FABRIC_CTRL_DEVICE_ID)
    let s := if (t = cDATA ∨ t = cCONTROL ∨ t = cSCHEDULED) ∧ away = true then s.bump Obj.FABRIC_CTRL_MISROUTED else s
    if (t = cDATA ∨ t = cCONTROL) ∧ away = true then s
    else if t = cIDLE then
      match s.rxEntry lane frame slot with
      | some (k, e) =>
        let f := Fld.CM_FLOW.get e
        if Fld.CM_VALID.get e = 1 ∧ (s.flowRx f).isSome = true then s.slotError lane f (some (Obj.SCHED_LANE_SEQ_ERRORS k)) else s
      | none => s
    else if t = cSCHEDULED then
      match s.rxEntry lane frame slot with
      | some (k, e) =>
        if s.fabricOn = false then s
        else if Fld.CM_VALID.get e = 1 then
          (if away then s.slotError lane (Fld.CM_FLOW.get e) (some (Obj.SCHED_LANE_SLOT_MISMATCH k)) else s.scheduledCell lane k e h payload ecc)
        else (s.bump (Obj.SCHED_LANE_SLOT_MISMATCH k)).raise 0x5107 (uFl lane) 0
      | none => s
    else if t = cDATA then (if s.fabricOn then s.withFab { s.fab with arrived := s.fab.arrived ++ [⟨lane, h, payload⟩] } else s)
    else if t = cCONTROL ∨ t = cLINK then
      forEach (List.range (min 15 (Fld.CELL_VALID_BYTES.get h / 16))) s fun s i => s.message lane t (wordAt c (16 + 16 * i) 16)
    else s

/-- CELL_RX (R295): a cell arrives in a slot of an enabled lane. -/
def execCellRx (lane : FabricLane) (frame : Fin 64) (slot : Fin 16) (cell : RxCell) (s : State) : Out :=
  s.inCore fun s => if s.on (Obj.FABRIC_LANE_FL_ENABLE lane) && !s.tsBlocked (lane / 20) then s.cell lane frame slot ((cell.bytes ++ List.replicate 256 (0#8)).take 256) cell.ecc else s

/-- FABRIC_ENABLE (R316): a write of 0 stops all cells and messages but IDLE and LINK cells, ends every context and frees its cells, and
resets every stream. The packets of deterministic flows that are in progress end (R333); a packet that waits for its admission decision still
holds its context, and ends with it (DEDUCED, log entry 150). -/
def ruleFabricEnable (v : Nat) (s : State) : Res :=
  let s := s.commit Obj.FABRIC_CTRL_FABRIC_ENABLE v
  let s :=
    if v = 1 then s
    else
      let waiting := s.net.toAdmit.filter fun k => Nat.blt 0 k.cellsHeld
      let s : State := s.withNet { s.net with toAdmit := s.net.toAdmit.filter fun k => Nat.beq k.cellsHeld 0 }
      let s := forEach waiting s fun s k => (s.freeHeld k).dropPacket k
      let s := forEach s.fab.ctxs s fun s c => s.endCtx c
      let s := forEach (s.fab.flowRx.map (·.1)) s fun s f => s.endFlow f
      let s := s.dropCells (s.fab.control ++ s.fab.out.flatMap (·.2))
      let s := forEach (s.fab.lanes.map (·.1)) s fun s n =>
        let l := s.fl n
        (s.setFl n { l with data := [], ctl := l.ctl.filter OutCell.isLink }).dropCells l.data
      let s := forEach s.fab.flowTx s fun s e => match e.2 with | some f => s.release f.pkt | none => s
      (s.withFab { s.fab with
        arrived := [], ctxs := [], streams := [], tags := [], packing := [], control := [], out := [], flowTx := [] })
  (.ok, forEach (List.range 160) s fun s n => s.judgeLane n)

/-- FABRIC_ENABLE. -/
def execFabricEnable (master value : Nat) (s : State) : Out :=
  s.rowWrite master Obj.FABRIC_CTRL_FABRIC_ENABLE value (ruleFabricEnable value)

/-- SCHED_FLOW_TIMEOUT (R333): no cell for REASM_TIMEOUT_NS. -/
def execSchedFlowTimeout (flow : Fin 4096) (s : State) : Out :=
  s.inCore fun s =>
    match s.flowRx flow with
    | some x =>
      if x.at' + s.get Obj.REASSEMBLY_REASM_TIMEOUT_NS ≤ s.time.now then s.slotError x.lane flow (some Obj.REASSEMBLY_TIMEOUTS) else s
    | none => s

end Sys2Proof.Machine
end

