-- ==== Sys2Proof/Machine/Framing.lean ====
section
/-! DEFINITION. Link frames, alignment, defects and scheduled lanes (R318 to R338, R345). -/

namespace Sys2Proof.Machine

/-- Frame alignment word (R319). -/
abbrev FAW : Nat := 0x5AC396E10F7B

/-- One byte of the additive scrambler, most significant bit first, from its 31-bit state (R320). -/
def scrambleByte (st : Nat) (b : Byte) : Nat × Byte :=
  let r := [7, 6, 5, 4, 3, 2, 1, 0].foldl (fun (x : Nat × Nat) i =>
    let k := x.1.testBit 30 != x.1.testBit 27
    ((x.1 * 2 + ofBool k) % 2 ^ 31, x.2 * 2 + ofBool (b.getLsbD i != k))) (st, 0)
  (r.1, toByte r.2)

/-- Scrambles or descrambles bytes. -/
def scrambleBytes : Nat → List Byte → List Byte
  | _, [] => []
  | st, b :: l => let (st, c) := scrambleByte st b; c :: scrambleBytes st l

/-- Scrambles or descrambles a link frame: all but its alignment word (R320). -/
def scrambleFrame (f : List Byte) : List Byte := f.take 6 ++ scrambleBytes 0x7FFFFFFF (f.drop 6)

/-- XOR of all bytes (R321). -/
def xorAll (l : List Byte) : Nat := l.foldl (fun a b => Nat.xor a b.toNat) 0

/-! ### Transmit -/

/-- A pending page switch is made at the Loaf boundary (R335, R337). -/
def State.flipPage (s : State) (k n : Nat) : State :=
  let page := 1 - s.get (Obj.SCHED_LANE_TX_PAGE k)
  let s := (s.set (Obj.SCHED_LANE_TX_PAGE k) page).bump (Obj.SCHED_LANE_SWITCHES k)
  let s : State := (s.withFab { s.fab with switching := s.fab.switching.filter (· != k) })
  let old := s.pageEntries k 0 (1 - page)
  let new := s.pageEntries k 0 page
  let ended := s.fab.flowTx.filter fun e => (old.any fun x => Nat.beq (Fld.CM_FLOW.get x) e.1) && !(new.any fun x => Nat.beq (Fld.CM_FLOW.get x) e.1)
  let s := forEach ended s fun s e =>
    match e.2 with
    | some f =>
      let s := (s.release f.pkt).bump (Obj.SCHED_LANE_FLOW_ABORTS k)
      (s.withFab { s.fab with flowTx := Table.put (fun _ => none) s.fab.flowTx e.1 none })
    | none => s
  (s.raise 0x5004 (uFl n) 0).voqsAgain

/-- The cell of a reserved slot (R332). The VOQs of an unreachable destination send none (R303), and nothing is dequeued while scheduling is
off (R222). -/
def State.reservedCell (s : State) (e : Nat) : List Byte × State :=
  let f := Fld.CM_FLOW.get e
  let cell := fun (c : Nat × List Byte) => mkCell (Fld.CELL_FLOW.set (toPort c.1 (Fld.CM_DEST_DEV.get e) (Fld.CM_DEST_PORT.get e)) f) c.2
  let send := fun (s : State) (k : Pkt) (cells : List (Nat × List Byte)) =>
    match cells with
    | [] => (s.idleCell, s)
    | [c] => (cell c, ((s.release k).withFab { (s.release k).fab with flowTx := Table.put (fun _ => none) s.fab.flowTx f none }))
    | c :: l => (cell c, (s.withFab { s.fab with flowTx := Table.put (fun _ => none) s.fab.flowTx f (some ⟨k, l⟩) }))
  if s.fabricOn = false ∨ s.unreachable (Fld.CM_DEST_DEV.get e) = true then (s.idleCell, s)
  else match Table.get (fun _ => none) s.fab.flowTx f with
    | some x => send s x.pkt x.cells
    | none =>
      let v := s.flowVoq e
      let may := s.servesVoq v f && s.on Obj.TM_CTRL_SCHED_ENABLE && !s.tsBlocked (v / 8 % 8)
      match (if may then s.headOf (voqBase + v) else none) with
      | none => (s.idleCell, s)
      | some k =>
        let q := voqBase + v
        let s := s.changing q fun s => s.setQueue q ((s.queue q).filter fun x => !Nat.beq x.id k.id)
        send (((s.countQueue q Fld.QC_DEQ_PACKETS).countQueue q Fld.QC_DEQ_BYTES k.len).bump Obj.VOQ_CTRL_FABRIC_PACKETS) k (s.packetParts k cSCHEDULED)

/-- The fabric group of a lane is in RUN. -/
def State.groupRuns (s : State) (n : Nat) : Bool := (s.part (136 + n / 20) 0).inRun

/-- A reserved slot of a flow has a cell to send (R332). -/
def State.flowWaits (s : State) (e : Nat) : Bool :=
  let f := Fld.CM_FLOW.get e
  let v := s.flowVoq e
  s.fabricOn && !s.unreachable (Fld.CM_DEST_DEV.get e) &&
    ((Table.get (fun _ => none) s.fab.flowTx f).isSome ||
      (s.servesVoq v f && s.on Obj.TM_CTRL_SCHED_ENABLE && !s.tsBlocked (v / 8 % 8) && (s.headOf (voqBase + v)).isSome))

/-- The cells of a lane's next frame, slot by slot: reserved slots, then up to 4 CONTROL and LINK cells, then DATA cells
(R299, R332). A lane of a group that is not in RUN sends IDLE and LINK cells alone (R502); what its reserved slots have to send wakes it
(R504). -/
def State.frameCells (n : Nat) : List (Option Nat) → Nat → State → List (List Byte) × State
  | [], _, s => ([], s)
  | some e :: l, c, s =>
    let (x, s) := if s.groupRuns n then s.reservedCell e
      else (s.idleCell, if s.flowWaits e then s.workFor (136 + n / 20) 0 else s)
    let (r, s) := State.frameCells n l c s
    (x :: r, s)
  | none :: l, c, s =>
    let h := s.fl n
    let ready := if 4 ≤ c then [] else if s.groupRuns n then h.ctl else h.ctl.filter OutCell.isLink
    match ready, (if s.groupRuns n then h.data else []) with
    | x :: _, _ =>
      let (r, s) := State.frameCells n l (c + 1) (s.setFl n { h with ctl := h.ctl.erase x })
      (x.bytes :: r, s)
    | [], x :: t =>
      let s := (s.setFl n { h with data := t }).dropCells [x]
      let (r, s) := State.frameCells n l c s
      (x.bytes :: r, s)
    | [], [] =>
      let (r, s) := State.frameCells n l c s
      (s.idleCell :: r, s)

/-- A request for a page switch of an enabled scheduled lane (R335): those that come while one is pending merge with it. -/
def State.requestPage (s : State) (k : Nat) : State :=
  if s.on (Obj.SCHED_LANE_SL_ENABLE k) = false then s
  else if s.fab.switching.contains k then s.bump (Obj.SCHED_LANE_SWITCH_MERGED k)
  else (s.withFab { s.fab with switching := k :: s.fab.switching })

/-- A PAGE_SWITCH of a scheduled lane whose instant has come is at its target. -/
def AirAction.switches (a : AirAction) (k t : Nat) : Bool := Nat.beq a.action 2 && Nat.beq (a.target % 16) k && Nat.ble a.due t

/-- The PAGE_SWITCHes of a lane whose instants have come act before the Loaf boundary at that instant (R344), also ahead of the command that
reports them. -/
def State.duePages (s : State) (k : Nat) : State :=
  let due := s.time.fifo.filter fun a => a.switches k s.time.tai
  let s : State := if due = [] then s else s.withTime { s.time with fifo := s.time.fifo.filter fun a => !a.switches k s.time.tai }
  forEach due s fun s a =>
    if s.get Obj.AIR_EVENT_CTRL_DISPATCH_ENABLE = 0 then s.bumpW 32 Obj.AIR_EVENT_CTRL_SKIPPED
    else (s.set Obj.AIR_EVENT_CTRL_LAST_FIRED a.entry).requestPage k

/-- TX_LINK_FRAME (R318, R322, R327, R332, R335): a lane sends its next frame. -/
def execTxLinkFrame (lane : FabricLane) (s : State) : Out :=
  s.inCore fun s =>
    if s.on (Obj.FABRIC_LANE_FL_ENABLE lane) = false ∨ s.tsBlocked (lane / 20) = true then s
    else
      let sched := s.schedLane lane
      let num := (s.fl lane).txNum
      let s := match sched with
        | some k =>
          let s := s.duePages k
          if s.fab.switching.contains k = true ∧ num = 0 then s.flipPage k lane else s
        | none => s
      let s := s.spray
      let (cells, s) := State.frameCells lane (s.txEntries lane) 0 s
      let sent := (cells.filter fun c => !Nat.beq (bits (byteAt c 0) 5 3) cIDLE).length
      let l := s.fl lane
      let rdi := l.rdiSent s.time.now
      let page := match sched with | some k => s.get (Obj.SCHED_LANE_TX_PAGE k) | none => 0
      let crust : List (Field × Nat) := [(Fld.CRUST_FAW, FAW), (Fld.CRUST_FRAME_NUM, num),
        (Fld.CRUST_TRACE, bits (s.setting (Obj.FABRIC_LANE_TRACE_TX lane)) (8 * num) 8), (Fld.CRUST_AIS, s.setting (Obj.FABRIC_LANE_FORCE_AIS lane)),
        (Fld.CRUST_RDI, ofBool rdi), (Fld.CRUST_PAGE, page), (Fld.CRUST_SCHED, ofBool sched.isSome), (Fld.CRUST_BIP8, l.txBip)]
      let image := crust.foldl (fun m x => x.1.set m x.2) 0
      let frame := scrambleFrame (bytesBE 32 image ++ cells.flatten)
      let s := (s.setFl lane { l with txNum := (num + 1) % 64, txBip := xorAll frame }).bump (Obj.FABRIC_LANE_CELLS_TX lane) sent
      s.emit (.linkFrame lane frame)

/-! ### Defects -/

/-- A mask without one of its bits. -/
def dropBit (m d : Nat) : Nat := m - Nat.land m (2 ^ d)

/-- A defect that clears exactly as a second begins was declared at no instant of it (R8, R340). -/
def State.endedBefore (s : State) (n d : Nat) : State :=
  let l := s.fl n
  if l.pm.seeded.testBit d && s.reached (s.time.tai / nsPerS * nsPerS : Nat) then
    s.setFl n { l with pm := { l.pm with defects := dropBit l.pm.defects d, seeded := dropBit l.pm.seeded d } }
  else s

/-- Declares or clears a defect of a lane: [0] LOS, [1] LOF, [2] AIS, [3] RDI, [4] TIM (R326). -/
def State.markDefect (s : State) (n d : Nat) (on : Bool) : State :=
  let k := Obj.FABRIC_LANE_DEFECTS n
  if (s.get k).testBit d = on then s
  else if on then
    let s := s.pmTurn n
    let l := s.fl n
    let s := s.setFl n { l with pm := { l.pm with defects := Nat.lor l.pm.defects (2 ^ d), seeded := dropBit l.pm.seeded d } }
    (s.set k (s.get k + 2 ^ d)).raise 0x5105 (uFl n) (packArg [(16, d)])
  else (((s.pmTurn n).endedBefore n d).set k (s.get k - 2 ^ d)).raise 0x5002 (uFl n) (packArg [(16, d)])

/-- Declares or clears one defect, and what follows from it. -/
def State.setDefect (s : State) (n d : Nat) (on : Bool) : State := (s.markDefect n d on).followDefects n

/-- AIS, RDI and TIM are judged afresh when their mask ends (R326). -/
def State.afresh (s : State) (n : Nat) : State := s.setFl n { s.fl n with ais1 := 0, ais0 := 0, rdi1 := 0, rdi0 := 0 }

/-- AIS, RDI and TIM are masked: they clear (R326). -/
def State.maskDefects (s : State) (n : Nat) : State := (((s.afresh n).markDefect n 2 false).markDefect n 3 false).markDefect n 4 false

/-- LOS or LOF is declared: it masks AIS, RDI and TIM (R326). -/
def State.masked (s : State) (n : Nat) : Bool := !Nat.beq (s.get (Obj.FABRIC_LANE_DEFECTS n) % 4) 0

/-- Alignment is lost: the lane hunts (R323, R324). -/
def State.hunt (s : State) (n : Nat) : State :=
  let s := if s.get (Obj.FABRIC_LANE_FRAME_STATE n) = 2 then s.bump (Obj.FABRIC_LANE_HUNTS n) else s
  (s.setFl n { s.fl n with cands := [], syncDue := none, bad := 0, loafPage := none }).set (Obj.FABRIC_LANE_FRAME_STATE n) 0

/-- LOS (R326): signal detect or FEC lock is lost. -/
def execLos (lane : FabricLane) (s : State) : Out :=
  s.inCore fun s =>
    let s := s.setFl lane { s.fl lane with dark := true, darkAt := s.time.now }
    if s.on (Obj.FABRIC_LANE_FL_ENABLE lane) = false then s
    else (((s.hunt lane).maskDefects lane).markDefect lane 1 false).setDefect lane 0 true

/-- TIM as TIM_ENABLE and the accepted trace say (R326); `now`: a trace has just been accepted, which alone clears it while TIM_ENABLE is 1.
Writes of TIM_ENABLE and TRACE_EXPECT act on frames that start after them (R345). -/
def State.judgeTim (s : State) (n : Nat) (now : Bool) : State :=
  let on : Bool := Nat.beq (s.setting (Obj.FABRIC_LANE_TIM_ENABLE n)) 1
  let same : Bool := Nat.beq (s.get (Obj.FABRIC_LANE_TRACE_RX n)) (s.setting (Obj.FABRIC_LANE_TRACE_EXPECT n))
  if on = false then s.setDefect n 4 false
  else if (s.fl n).accepted = false ∨ same = false then s.setDefect n 4 true
  else if now then s.setDefect n 4 false
  else s

/-- LOS_CLEAR (R326): both have held for 100 µs. LOF is then judged afresh, and where the lane has found SYNC meanwhile, AIS, RDI and TIM
are. -/
def execLosClear (lane : FabricLane) (s : State) : Out :=
  s.inCore fun s =>
    let l := s.fl lane
    if l.dark = false ∨ s.time.now < l.darkAt + 100000 then s
    else
      let s := s.setFl lane { l with dark := false }
      if s.on (Obj.FABRIC_LANE_FL_ENABLE lane) = false then s
      else if s.get (Obj.FABRIC_LANE_FRAME_STATE lane) = 2 then (((s.afresh lane).markDefect lane 0 false).judgeTim lane false).followDefects lane
      else (s.markDefect lane 0 false).setDefect lane 1 true

/-- The lane enters SYNC at a candidate (R323, R326). -/
def State.enterSync (s : State) (n fn : Nat) : State :=
  let s := s.setFl n { s.fl n with
    cands := [], syncDue := none, rxNum := (fn + 1) % 64, rxSlot := 0, bad := 0, rxBip := none, counted := false, loaf := none, same := 0, accepted := false
    ais1 := 0, ais0 := 0, rdi1 := 0, rdi0 := 0, page1 := false, loafPage := none }
  let s := (s.set (Obj.FABRIC_LANE_FRAME_STATE n) 2).markDefect n 1 false
  (if s.masked n then s else s.judgeTim n false).followDefects n

/-- Candidates whose next position has passed without a match are closed: 33,024 bits take 165.12 ns (R323). -/
def State.closeCandidates (s : State) (n : Nat) (open' : List FawCandidate) : State :=
  let l := s.fl n
  if open' = l.cands then s
  else (s.setFl n { l with cands := open' }).set (Obj.FABRIC_LANE_FRAME_STATE n) (if open' = [] then 0 else 1)

/-- Those of every lane, as time passes. -/
def State.staleCandidates (s : State) : State :=
  forEach ((s.fab.lanes.filter fun e => !e.2.cands.isEmpty).map (·.1)) s fun s n =>
    s.closeCandidates n ((s.fl n).cands.filter fun c => Nat.blt s.time.now (c.at' + 167))

/-- The lanes whose third match came in this instant enter SYNC as it ends: a loss of FEC lock within it has won (R344). -/
def State.syncLanes (s : State) : State :=
  forEach (s.fab.lanes.filter fun e => e.2.syncDue.isSome) s fun s e => s.enterSync e.1 (e.2.syncDue.getD 0)

/-- FAW_MATCH (R323): the 48 bits at a position equal the alignment word. It comes while FEC lock holds; a loss at that instant wins, so the
third match of a candidate enters SYNC as the instant ends (R344). -/
def execFawMatch (lane : FabricLane) (position : Nat) (frameNum : Fin 64) (s : State) : Out :=
  s.inCore fun s =>
    let l := s.fl lane
    if s.on (Obj.FABRIC_LANE_FL_ENABLE lane) = false ∨ (l.dark = true ∧ l.darkAt = s.time.now) ∨ l.syncDue.isSome = true ∨
        s.get (Obj.FABRIC_LANE_FRAME_STATE lane) = 2 then s
    else
      -- candidates whose next position has passed without a match are closed
      let open' := l.cands.filter fun c => Nat.ble position (c.x + 33024)
      let keep (s : State) (cs : List FawCandidate) : State :=
        (s.setFl lane { s.fl lane with cands := cs }).set (Obj.FABRIC_LANE_FRAME_STATE lane) (if cs = [] then 0 else 1)
      match open'.find? fun c => Nat.beq (c.x + 33024) position with
      | some c =>
        if frameNum.val = (c.fn + 1) % 64 then
          if c.n + 1 = 3 then s.setFl lane { l with syncDue := some frameNum }
          else keep s (open'.map fun x => if x = c then ⟨position, c.n + 1, frameNum, s.time.now⟩ else x)
        else keep s (open'.filter fun x => x != c)
      | none =>
        if open'.length < 8 then keep s (open' ++ [⟨position, 1, frameNum, s.time.now⟩])
        else (keep s open').bump (Obj.FABRIC_LANE_CAND_OVERFLOW lane)

/-! ### Receive -/

/-- An errored block (R321, R340). -/
def State.erroredBlock (s : State) (n : Nat) : State :=
  let s := s.pmTurn n
  let l := s.fl n
  (s.bump (Obj.FABRIC_LANE_BIP_ERRORS n)).setFl n { l with pm := { l.pm with eb := l.pm.eb + 1 } }

/-- BIP8 and FEC of a received frame (R321). -/
def State.checkBip (s : State) (n bip xor : Nat) (uncorrectable : Bool) : State :=
  let l := s.fl n
  let s := match l.rxBip with
    | some b => if l.counted = false ∧ b ≠ bip then s.erroredBlock n else s
    | none => s
  let s := if uncorrectable then s.erroredBlock n else s
  s.setFl n { s.fl n with rxBip := some xor, counted := uncorrectable }

/-- TRACE bytes of a received frame (R325), and whether they complete a trace that is accepted. -/
def State.checkTrace (s : State) (n byte : Nat) (errored : Bool) : Bool × State :=
  let l := s.fl n
  let loaf := if errored then none else if l.rxNum = 0 then some [byte] else l.loaf.map fun t => t ++ [byte]
  if l.rxNum ≠ 63 then (false, s.setFl n { l with loaf := loaf })
  else match loaf with
    | none => (false, s.setFl n { l with loaf := none, same := 0 })
    | some t =>
      if t.length ≠ 64 then (false, s.setFl n { l with loaf := none, same := 0 })
      else
        let same := if l.trace = t then l.same + 1 else 1
        let s := s.setFl n { l with loaf := none, trace := t, same := same, accepted := l.accepted || Nat.ble 3 same }
        if 3 ≤ same then (true, s.set (Obj.FABRIC_LANE_TRACE_RX n) (t.foldr (fun b a => a * 256 + b) 0)) else (false, s)

/-- AIS and RDI of a received frame (R326). -/
def State.checkIndications (s : State) (n : Nat) (ais rdi : Bool) : State :=
  let l := s.fl n
  let l := { l with
    ais1 := if ais then l.ais1 + 1 else 0, ais0 := if ais then 0 else l.ais0 + 1
    rdi1 := if rdi then l.rdi1 + 1 else 0, rdi0 := if rdi then 0 else l.rdi0 + 1 }
  let s := s.setFl n l
  let s := if 3 ≤ l.ais1 then s.setDefect n 2 true else if 3 ≤ l.ais0 then s.setDefect n 2 false else s
  if 3 ≤ l.rdi1 then s.setDefect n 3 true else if 3 ≤ l.rdi0 then s.setDefect n 3 false else s

/-- Receive page of a scheduled lane (R336). Where frame 0 was errored, frame 1 stands for it; where neither was received in SYNC, no frame of
the Loaf differs from it. -/
def State.checkPage (s : State) (n page : Nat) (errored : Bool) : State :=
  match s.schedLane n with
  | none => s
  | some k =>
    let l := s.fl n
    if l.rxNum = 0 then
      let s := s.setFl n { l with page1 := errored, loafPage := if errored then none else some page }
      if errored then s else s.set (Obj.SCHED_LANE_RX_PAGE k) page
    else if l.rxNum = 1 ∧ l.page1 = true then (s.setFl n { l with loafPage := some page }).set (Obj.SCHED_LANE_RX_PAGE k) page
    else match l.loafPage with
      | some p => if page = p then s else s.bump (Obj.SCHED_LANE_PAGE_ERRORS k)
      | none => s

/-- SL_ENABLE rises: no frame 0 of the Loaf in progress has been read (R336). -/
def State.freshLoaf (s : State) (n : Nat) : State := s.setFl n { s.fl n with page1 := false, loafPage := none }

/-- LOS, LOF, TIM or AIS is declared: cells are replaced (R327, R328). -/
def State.replaces (s : State) (n : Nat) : Bool := !Nat.beq (Nat.land (s.get (Obj.FABRIC_LANE_DEFECTS n)) 0x17) 0

/-- The first bytes of a frame in which the signal or FEC lock is then lost: its whole slots are delivered as received (R328, R344), and the
page of frame 0 applies to them (R336). -/
def State.partFrame (s : State) (n : Nat) (body : List Byte) : State :=
  let crust := wordAt body 0 32
  let num := (s.fl n).rxNum
  let errored : Bool := !Nat.beq (Fld.CRUST_FAW.get crust) FAW || !Nat.beq (Fld.CRUST_FRAME_NUM.get crust) num
  let slots := (body.length - 32) / 256
  let s := forEach (List.range slots) (s.checkPage n (Fld.CRUST_PAGE.get crust) errored) fun s slot =>
    if s.replaces n then s.aisCell n num slot else s.cell n num slot ((body.drop (32 + 256 * slot)).take 256)
  s.setFl n { s.fl n with rxSlot := slots }

/-- RX_LINK_FRAME (R324 to R328, R333, R336): a frame at the expected position of a lane in SYNC, with the RS-FEC symbols corrected
and the uncorrectable codewords that overlap it; FEC_UNCORR counts each codeword once. A frame of fewer than 4,128 bytes is the part that was
received before the lane lost it. -/
def execRxLinkFrame (lane : FabricLane) (frame : List Byte) (symbols : Nat) (uncorrectable : FecErrors) (s : State) : Out :=
  s.inCore fun s =>
    if s.on (Obj.FABRIC_LANE_FL_ENABLE lane) = false ∨ s.tsBlocked (lane / 20) = true then s
    else
      let s := s.pmTurn lane
      let l := s.fl lane
      let s := s.setFl lane { l with pm := { l.pm with symbols := l.pm.symbols + symbols, uncorr := l.pm.uncorr + uncorrectable.overlap - ofBool uncorrectable.carried } }
      if s.get (Obj.FABRIC_LANE_FRAME_STATE lane) ≠ 2 then s
      else if frame.length < 4128 then s.partFrame lane (scrambleFrame frame)
      else
        let raw := frame.take 4128
        let body := scrambleFrame raw
        let crust := wordAt body 0 32
        let num := l.rxNum
        let errored : Bool := !Nat.beq (Fld.CRUST_FAW.get crust) FAW || !Nat.beq (Fld.CRUST_FRAME_NUM.get crust) num
        let s := s.checkBip lane (Fld.CRUST_BIP8.get crust) (xorAll raw) (Nat.blt 0 uncorrectable.overlap)
        let s := if errored then (s.bump (Obj.FABRIC_LANE_FAW_ERRORS lane)).setFl lane { s.fl lane with bad := l.bad + 1 }
          else s.setFl lane { s.fl lane with bad := 0 }
        let (traced, s) := s.checkTrace lane (Fld.CRUST_TRACE.get crust) errored
        -- LOS masks these while it is declared (R326)
        let s := if errored ∨ s.masked lane = true then s
          else s.checkIndications lane (Nat.beq (Fld.CRUST_AIS.get crust) 1) (Nat.beq (Fld.CRUST_RDI.get crust) 1)
        let s := if s.masked lane then s else s.judgeTim lane traced
        let s := s.checkPage lane (Fld.CRUST_PAGE.get crust) errored
        let s := forEach (List.range 16) s fun s slot =>
          if s.replaces lane then s.aisCell lane num slot else s.cell lane num slot ((body.drop (32 + 256 * slot)).take 256)
        let s := s.setFl lane { s.fl lane with rxNum := (num + 1) % 64, rxSlot := 0 }
        if 4 ≤ (s.fl lane).bad then
          let s := (s.hunt lane).maskDefects lane
          if (s.get (Obj.FABRIC_LANE_DEFECTS lane)).testBit 0 then s.followDefects lane else s.setDefect lane 1 true
        else s

/-- RX_FRAME_COUNTER (R328): the receiver's own frame counter times a frame of AIS cells while no frames are received; of
the frame in which the lane lost them, the slots after those that had been accepted (R344). -/
def execRxFrameCounter (lane : FabricLane) (s : State) : Out :=
  s.inCore fun s =>
    if s.on (Obj.FABRIC_LANE_FL_ENABLE lane) = false ∨ s.get (Obj.FABRIC_LANE_FRAME_STATE lane) = 2 then s
    else
      let num := (s.fl lane).rxNum
      let done := (s.fl lane).rxSlot
      let s := forEach ((List.range 16).drop done) s fun s slot => s.aisCell lane num slot
      s.setFl lane { s.fl lane with rxNum := (num + 1) % 64, rxSlot := 0 }

/-! ### Scheduled lanes -/

/-- PAGE_SWITCH air event (R38, R335): a switch is requested for the next Loaf boundary. -/
def execPageSwitch (s : State) : Out :=
  .next (match s.fire 2 with
    | (none, s) => s
    | (some a, s) => s.requestPage (a.target % 16))

/-- SL_ENABLE (R329). -/
def ruleSlEnable (k v : Nat) (s : State) : Res :=
  let lane := s.get (Obj.SCHED_LANE_SL_LANE k)
  if v = 1 ∧ (s.on (Obj.FABRIC_LANE_FL_ENABLE lane) = false ∨ ((List.range 16).any fun j => !Nat.beq j k &&
      s.on (Obj.SCHED_LANE_SL_ENABLE j) && Nat.beq (s.get (Obj.SCHED_LANE_SL_LANE j)) lane) = true) then (.invalid, s)
  else
    let flows := (s.pageEntries k 0 (s.get (Obj.SCHED_LANE_TX_PAGE k))).map Fld.CM_FLOW.get
    let rises : Bool := Nat.beq v 1 && !s.on (Obj.SCHED_LANE_SL_ENABLE k)
    let s := s.commit (Obj.SCHED_LANE_SL_ENABLE k) v
    let s := if v = 1 then (if rises then s.freshLoaf lane else s)
      else
        let s := forEach (s.fab.flowTx.filter fun e => flows.contains e.1) s fun s e =>
          match e.2 with
          | some f =>
            let s := (s.release f.pkt).bump (Obj.SCHED_LANE_FLOW_ABORTS k)
            (s.withFab { s.fab with flowTx := Table.put (fun _ => none) s.fab.flowTx e.1 none })
          | none => s
        (s.withFab { s.fab with switching := s.fab.switching.filter (· != k) })
    (.ok, s.voqsAgain)

/-- SL_ENABLE. -/
def execSlEnable (lane : Fin 16) (master value : Nat) (s : State) : Out :=
  s.rowWrite master (Obj.SCHED_LANE_SL_ENABLE lane) value (ruleSlEnable lane value)

/-- SL_LANE: BUSY while the scheduled lane is in service (R329). -/
def ruleSlLane (k v : Nat) (s : State) : Res :=
  if s.on (Obj.SCHED_LANE_SL_ENABLE k) then (.busy, s) else s.plain (Obj.SCHED_LANE_SL_LANE k) v

/-- A connection memory entry is locked: the active page of its direction, and the standby transmit page from the instant of a PAGE_SWITCH until
the switch (R337, R344). -/
def State.connLocked (s : State) (e : Nat) : Bool :=
  let k := e / 4096
  let dir := e / 2048 % 2
  let page := e / 1024 % 2
  let asked := s.fab.switching.contains k ||
    (s.on (Obj.SCHED_LANE_SL_ENABLE k) && s.on Obj.AIR_EVENT_CTRL_DISPATCH_ENABLE && s.time.fifo.any fun a => a.switches k s.time.tai)
  if dir = 0 then Nat.beq page (s.get (Obj.SCHED_LANE_TX_PAGE k)) || asked else Nat.beq page (s.get (Obj.SCHED_LANE_RX_PAGE k))

end Sys2Proof.Machine
end

