-- ==== Sys2Proof/Machine/Pm.lean ====
section
/-! DEFINITION. Performance monitoring of fabric lanes and the bins of the timebase (R44, R45, R340 to R343), with the snapshots a
bin boundary takes (R284). -/

namespace Sys2Proof.Machine

/-- PM_SECOND (R340): the lane's second has ended. -/
def execPmSecond (lane : FabricLane) (s : State) : Out := s.inCore fun s => s.pmTurn lane

/-- Makes the oldest closed bin of a lane final: it becomes the first of its history (R342). -/
def State.pmFinal (s : State) (n : Nat) (c : PmClosed) : State :=
  let image := Fld.PMH_FINAL.set c.image 1
  if c.day then s.setDom Dom.PM_HISTORY (pmIndex n 34) image
  else
    let s := forEach ((List.range 31).reverse) s fun s i => s.setDom Dom.PM_HISTORY (pmIndex n (i + 2)) (s.dom Dom.PM_HISTORY (pmIndex n (i + 1)))
    s.setDom Dom.PM_HISTORY (pmIndex n 1) image

/-- PM_BIN_FINAL (R342): 10 s after the boundary. -/
def execPmBinFinal (lane : FabricLane) (s : State) : Out :=
  s.inCore fun s =>
    let l := s.fl lane
    let due := l.pm.closing.filter fun c => Nat.ble (c.at' + 10 * nsPerS) s.time.now
    let s := s.setFl lane { l with pm := { l.pm with closing := l.pm.closing.filter fun c => Nat.blt s.time.now (c.at' + 10 * nsPerS) } }
    forEach due s fun s c => s.pmFinal lane c

/-- Closes the current bins of every lane and opens new ones that start at `t`; `day`: where the new day's bin starts, if one does (R44,
R45, R342). A second that has ended goes into its bins first (R344). -/
def State.closeBins (s : State) (t : Nat) (suspect : Nat) (day : Option Nat) : State :=
  let one := fun (s : State) (n : Nat) (isDay : Bool) =>
    let e := pmIndex n (if isDay then 33 else 0)
    let image := s.dom Dom.PM_HISTORY e
    let image := if suspect.testBit (if isDay then 1 else 0) then Fld.PMH_SUSPECT.set image 1 else image
    let l := s.fl n
    let s := s.setFl n { l with pm := { l.pm with
      closing := l.pm.closing ++ [⟨image, isDay, s.time.now⟩], crossed := if isDay then l.pm.crossed else [] } }
    s.setDom Dom.PM_HISTORY e (Fld.PMH_VALID.set (Fld.PMH_START.set 0 (time80 (if isDay then day.getD t else t))) 1)
  let s := forEach (List.range 160) s fun s n =>
    let s := one ((s.pmTurn n).pmOpen n) n false
    if day.isSome then one s n true else s
  let s : State := (s.withTime { s.time with lastBin := some s.time.now })
  let s := (s.set Obj.PERF_BIN_CLOCK_BIN_START (time80 t)).set Obj.PERF_BIN_CLOCK_SUSPECT (if day.isSome then 0 else s.get Obj.PERF_BIN_CLOCK_SUSPECT / 2 * 2)
  match day with
  | some d => s.set Obj.PERF_BIN_CLOCK_DAY_START (time80 d)
  | none => s

/-- Start of the day's bin that a 15-minute boundary at TAI second `x` opens: the last day boundary, when it is this one or the current day
began before it (R44). A step or a load may have passed it together with later 15-minute boundaries. -/
def State.dayOpens (s : State) (x : Nat) : Option Nat :=
  let off := s.get Obj.PERF_BIN_CLOCK_DAY_OFFSET
  let d := (((x : Int) - off).fdiv 86400 * 86400 + off).toNat
  if d = x ∨ ofTime80 (s.get Obj.PERF_BIN_CLOCK_DAY_START) < d * nsPerS then some (d * nsPerS) else none

/-- BIN_BOUNDARY (R44, R45, R284): the last 15-minute boundary has been reached and the current bin began before it, or a backward step
has brought the timebase to it again; at a day's start it is a 24-hour boundary too. Groups with ON_BIN take a snapshot. -/
def execBinBoundary (s : State) : Out :=
  s.inCore fun s =>
    let off := s.get Obj.PERF_BIN_CLOCK_DAY_OFFSET
    let now := s.time.tai / nsPerS
    let past : Int := (now : Int) - off - ((now : Int) - off) % 900
    let x := (past + off).toNat
    if x * nsPerS ≤ ofTime80 (s.get Obj.PERF_BIN_CLOCK_BIN_START) ∧ (s.reached (x * nsPerS : Nat) = false ∨ s.time.lastBin = some s.time.now) then s
    else
      let free : Bool := Nat.beq (s.get Obj.TIMEBASE_STATE) tbFREERUN
      let s := s.closeBins (x * nsPerS) (if free then 3 else s.get Obj.PERF_BIN_CLOCK_SUSPECT) (s.dayOpens x)
      forEach ((List.range 16).filter fun g => s.on (Obj.SNAPSHOT_GROUP_ON_BIN g)) s fun s g => s.snapshot g 2

/-- A write of DAY_OFFSET closes the current bins and marks them suspect (R45). -/
def ruleDayOffset (v : Nat) (s : State) : Res := (.ok, (s.commit Obj.PERF_BIN_CLOCK_DAY_OFFSET v).closeBins s.timeNow 3 (some s.timeNow))

/-- DAY_OFFSET. -/
def execDayOffset (master value : Nat) (s : State) : Out :=
  s.rowWrite master Obj.PERF_BIN_CLOCK_DAY_OFFSET value (ruleDayOffset value)

end Sys2Proof.Machine
end

