-- ==== Sys2Proof/Machine/Hbm.lean ====
section
/-! DEFINITION. HBM controllers: requests and page hints, the queues of a channel and what one CLK_HBMC cycle does with them, refresh,
retraining, errors and scrubbing (R183, R347 to R366). CLK_HBMC is 1.0 GHz, so a cycle is one tick of the model (log entry 151). -/

namespace Sys2Proof.Machine

/-- A channel before anything happened to it. -/
def channelEmpty (_ : Nat) : HbmChannel := {}
/-- Hidden state of a channel. -/
def State.chan (s : State) (k : Nat) : HbmChannel := Table.get channelEmpty s.hbm.channels k
/-- Sets it. -/
def State.setChan (s : State) (k : Nat) (c : HbmChannel) : State :=
  (s.withHbm { s.hbm with channels := Table.put channelEmpty s.hbm.channels k c })
/-- Sets the open row of a bank. -/
def State.setRow (s : State) (k : Nat) (r : Option OpenRow) : State :=
  (s.withHbm { s.hbm with rows := Table.put (fun _ => none) s.hbm.rows k r })

/-! ### Contents -/

/-- Byte `i` of an image of `n` bytes, most significant first. -/
def imageByte (n i image : Nat) : Nat := bits image (8 * (n - 1 - i)) 8

/-- The 64 bytes of a sector. -/
def State.hbmBytes (s : State) (stack sector : Nat) : List Byte :=
  if stack < 3 then bytesBE 64 (Table.get zeroN s.hbm.cells (s.hbmKey stack sector))
  else (List.range 64).map fun j =>
    match hbm3At (64 * sector + j) with
    | some (d, e, i, n) => toByte (imageByte n i (s.dom d e))
    | none => 0#8

/-- Writes the bytes of a sector that the mask selects; bit j stands for byte j. -/
def State.hbmStore (s : State) (stack sector mask : Nat) (data : List Byte) : State :=
  if stack < 3 then
    let old := s.hbmBytes stack sector
    let new := (List.range 64).map fun j => if mask.testBit j then data.getD j 0 else old.getD j 0
    (s.withHbm { s.hbm with cells := Table.put zeroN s.hbm.cells (s.hbmKey stack sector) (natBE new) })
  else forEach ((List.range 64).filter fun j => mask.testBit j) s fun s j =>
    match hbm3At (64 * sector + j) with
    | some (d, e, i, n) => (s.setDom d e (setBits (s.dom d e) (8 * (n - 1 - i)) 8 (byteAt data j))).repair (domKey d e)
    | none => s

/-! ### Requests -/

/-- Place of a requester in the order of R354. -/
def requesterNumber : HbmRequester → Nat
  | .bufWrite => 0
  | .bufRead _ => 1
  | .count _ => 2
  | .sample _ => 3
  | .host => 4
  | .scrub => 5

/-- Page hint of a requester: 0 OPEN, 1 CLOSE, 2 AUTO (R354). -/
def State.hbmHint (s : State) (r : HbmRequester) : Nat :=
  match r with
  | .bufWrite => s.setting Obj.HBM_HINTS_HINT_BUF_WRITE
  | .bufRead _ => s.setting Obj.HBM_HINTS_HINT_BUF_READ
  | .count _ => s.setting Obj.HBM_HINTS_HINT_COUNT
  | .sample _ => s.setting Obj.HBM_HINTS_HINT_SAMPLE
  | .host => s.setting Obj.HBM_HINTS_HINT_HOST
  | .scrub => s.setting Obj.HBM_HINTS_HINT_SCRUB

/-- A requester reaches a region (R354). -/
def hbmAllowed (r : HbmRequester) (g : Nat) : Bool :=
  match r with
  | .bufWrite | .bufRead _ => Nat.beq g 0
  | .count _ | .sample _ => Nat.beq g 1
  | .host => Nat.beq g 1 || Nat.beq g 2
  | .scrub => true

/-- A request arrives at the input of its channel (R354, R359); one that its requester may not make, or that maps to a failed channel, is
not taken (R362, log entry 75). -/
def State.hbmRequest (s : State) (stack sector : Nat) (r : HbmRequester) (write : Option (Nat × List Byte)) (ecc : SectorEcc) : State :=
  let c := (s.hbmPlace stack sector).channel
  if hbmAllowed r (hbmRegion stack sector) = false ∨ s.chanFailed stack c = true then s
  else
    let x := s.chan (stack * 32 + c)
    let q : HbmRequest := { sector := sector, requester := r, hint := s.hbmHint r, at' := s.time.now, write := write, ecc := ecc }
    s.setChan (stack * 32 + c) { x with input := x.input ++ [q] }

/-- HBM_READ (R354, R356, R358): a read arrives at its channel; `ecc` is what the ECC finds if it comes to read DRAM. -/
def execHbmRead (space : HbmSpace) (address : Nat) (requester : HbmRequester) (ecc : SectorEcc) (s : State) : Out :=
  s.inCore fun s => s.hbmRequest (targetPlace space address).1 (targetPlace space address).2 requester none ecc

/-- HBM_WRITE (R354, R356): a write of the bytes its mask selects arrives at its channel. -/
def execHbmWrite (space : HbmSpace) (address : Nat) (requester : HbmRequester) (mask : Nat) (data : List Byte) (s : State) : Out :=
  s.inCore fun s => s.hbmRequest (targetPlace space address).1 (targetPlace space address).2 requester (some (mask % 2 ^ 64, data)) {}

/-! ### Errors -/

/-- Words of a sector that a mask names. -/
def eccWords (m : Nat) : List Nat := (List.range 8).filter fun i => m.testBit i

/-- Corrected words of a read, in a channel that counts them by the second (R363). -/
def State.hbmCorrected (s : State) (stack c words : Nat) : State :=
  let ch := stack * 32 + c
  let x := s.chan ch
  let sec := s.time.now / nsPerS
  let n := if x.ceSec = sec then x.ce + words else words
  let s := (s.setChan ch { x with ceSec := sec, ce := n }).bump (Obj.HBM_STACK_CE_COUNT stack) words
  if s.get Obj.HBM_CTRL_CE_LIMIT < n then s.raise 0x6102 (uChannel stack c) 0 else s

/-- The record of HBM3 that a byte of a sector belongs to. -/
def hbmRecord (sector byte : Nat) : Option (Nat × Nat) := (hbm3At (64 * sector + byte)).map fun x => (x.1, x.2.1)

/-- The record that a requester reads is written anew, which clears the fault in it (R364): a counter record with every counter 0, a sample in
its reset state, an entry of the marked log as read. -/
def State.renewRecord (s : State) (sector byte : Nat) : State :=
  match hbmRecord sector byte with
  | some (d, e) =>
    (if d = Dom.MARKED_LOG then s else s.setDom d e (domDefault (domKey d e))).repair (domKey d e)
  | none => s

/-- Uncorrectable words of a sector (R364). In HBM3 what they hold stays unreadable until it is written. -/
def State.hbmUncorrectable (s : State) (stack sector c : Nat) (words : List Nat) (r : HbmRequester) : State :=
  let s := forEach words s fun s _ => (s.bump (Obj.HBM_STACK_UE_COUNT stack)).raise 0x6201 (uChannel stack c) (packArg [(32, sector)])
  let s := if stack < 3 then s
    else forEach (words.flatMap fun w => (List.range 8).filterMap fun j => hbmRecord sector (8 * w + j)) s fun s x => s.damage (domKey x.1 x.2)
  match r with
  | .bufRead id => ((s.bump (Obj.BUFFER_REGION_ECC_UNCORRECTED 2)).raise 0x4240 uTD2D 0 2).endPacket id
  | .count byte | .sample byte => s.renewRecord sector byte
  | _ => s

/-! ### One CLK_HBMC cycle of a channel -/

/-- Read tags in use on the T side or on the F side (R356). -/
def State.tagsUsed (s : State) (t : Bool) : Nat :=
  ((s.hbm.channels.filter fun e => decide (e.1 / 32 < 3) == t).map fun e => e.2.reads.length).sum

/-- A request at the input of a channel finds what it needs: its region, a place in the queue and, a read, a tag (R353, R356). -/
def State.hbmFits (s : State) (ch : Nat) (r : HbmRequest) : Bool :=
  let x := s.chan ch
  let stack := ch / 32
  !s.regionBusy (hbmRegion stack r.sector) &&
    match r.write with
    | some _ => Nat.blt x.writes.length 64
    | none => Nat.blt x.reads.length 64 && (if stack < 3 then Nat.blt (s.tagsUsed true) 8192 else Nat.blt (s.tagsUsed false) 2048)

/-- A write at a channel's input may be ordered (R356, R358, R359): its requester's earlier requests are ordered, but for reads of its sector
that arrived in its cycle, and so is every write of its sector that arrived in an earlier cycle. -/
def HbmChannel.writeMayGo (x : HbmChannel) (w : HbmRequest) : Bool :=
  ((x.input.takeWhile fun e => e != w).all fun e =>
    !Nat.beq (requesterNumber e.requester) (requesterNumber w.requester) ||
      (e.write.isNone && Nat.beq e.sector w.sector && Nat.beq e.at' w.at')) &&
  !(x.input.any fun e => e.write.isSome && Nat.beq e.sector w.sector && Nat.blt e.at' w.at')

/-- The request a channel orders in this cycle (R11, R356, R359): the first of the next requester in turn whose first finds what it needs;
in place of a read, a write of the same sector that arrived in the same cycle. -/
def State.hbmPick (s : State) (ch : Nat) : Option HbmRequest :=
  let x := s.chan ch
  let first := fun (i : Nat) => (x.input.find? fun r => Nat.beq (requesterNumber r.requester) i).filter (s.hbmFits ch)
  let write := fun (w : HbmRequest) => if x.writeMayGo w && s.hbmFits ch w then some w else none
  ((List.range 6).map fun i => (x.turn + i) % 6).findSome? fun i =>
    match first i with
    | none => none
    | some r =>
      if r.write.isSome then write r
      else match x.input.find? fun w => w.write.isSome && Nat.beq w.sector r.sector && Nat.beq w.at' r.at' with
        | some w => write w
        | none => some r

/-- A read is ordered (R358): forwarded from a queued write, or queued, behind the writes of its sector when one of them is queued. -/
def State.hbmOrderRead (s : State) (ch : Nat) (r : HbmRequest) : State :=
  let stack := ch / 32
  let x := s.chan ch
  let r := { r with data := s.hbmBytes stack r.sector }
  let after := (x.writes.reverse.takeWhile fun w => !Nat.beq w.sector r.sector).length
  match x.writes.reverse.find? fun w => Nat.beq w.sector r.sector with
  | some w =>
    if (w.write.map (·.1)) = some (2 ^ 64 - 1) then (s.bump (Obj.HBM_STACK_FORWARDED stack)).emit (.hbmData stack r.sector r.data)
    else (s.setChan ch { x with reads := x.reads ++ [{ r with behind := x.writes.length - after }] }).bump (Obj.HBM_STACK_RAW_WAITS stack)
  | none => s.setChan ch { x with reads := x.reads ++ [r] }

/-- A channel orders one request of its input (R356, R358, R359). -/
def State.hbmOrder (s : State) (ch : Nat) : State :=
  match s.hbmPick ch with
  | none => s
  | some r =>
    let x := s.chan ch
    let x := { x with input := x.input.erase r, turn := (requesterNumber r.requester + 1) % 6 }
    match r.write with
    | some (mask, data) =>
      (s.setChan ch { x with writes := x.writes ++ [r], burst := x.burst || Nat.ble 48 (x.writes.length + 1) }).hbmStore (ch / 32) r.sector mask data
    | none => (s.setChan ch x).hbmOrderRead ch r

/-- A DRAM access to a row; the page hint says whether the row stays open, AUTO while the channel's queues hold another request to it
(R355). -/
def State.hbmAccess (s : State) (ch : Nat) (r : HbmRequest) : State :=
  let stack := ch / 32
  let p := s.hbmPlace stack r.sector
  let x := s.chan ch
  let more := (x.reads ++ x.writes).any fun w =>
    let q := s.hbmPlace stack w.sector
    Nat.beq q.bank p.bank && Nat.beq q.row p.row
  let k := ch * 16 + p.bank
  let since := match Table.get (fun _ => none) s.hbm.rows k with
    | some o => if o.row = p.row then o.since else s.time.now
    | none => s.time.now
  s.setRow k (if r.hint = 0 ∨ (r.hint = 2 ∧ more = true) then some ⟨p.row, since⟩ else none)

/-- A read of DRAM is issued and answered (R358, R363, R364). -/
def State.hbmIssueRead (s : State) (ch : Nat) (r : HbmRequest) : State :=
  let stack := ch / 32
  let x := s.chan ch
  let s := (s.setChan ch { x with reads := x.reads.erase r }).hbmAccess ch r
  let bad := eccWords r.ecc.bad
  let fixed := (eccWords r.ecc.corrected).filter fun i => !bad.contains i
  let s := if fixed = [] then s else s.hbmCorrected stack (ch % 32) fixed.length
  if bad = [] then s.emit (.hbmData stack r.sector r.data) else s.hbmUncorrectable stack r.sector (ch % 32) bad r.requester

/-- The oldest write is issued (R356): the reads that wait on it come one write nearer. -/
def State.hbmIssueWrite (s : State) (ch : Nat) : State :=
  let x := s.chan ch
  match x.writes with
  | [] => s
  | w :: l =>
    (s.setChan ch { x with
      writes := l, force := x.force - 1, burst := x.burst && Nat.blt 16 l.length
      reads := x.reads.map fun r => { r with behind := r.behind - 1 } }).hbmAccess ch w

/-- Elapsed instant up to which a bank has been refreshed. -/
def State.bankRefreshed (s : State) (ch b : Nat) : Nat := (s.chan ch).refreshed.getD b s.hbm.since

/-- Refresh interval of a bank of a stack in ns (R357). -/
def State.refreshNs (s : State) (stack : Nat) : Nat := if s.on (Obj.HBM_STACK_REFRESH_X2 stack) then 1950 else 3900

/-- Refreshes a bank owes now, never more than 8 (R361). -/
def State.refreshOwed (s : State) (ch b : Nat) : Nat := min 8 ((s.time.now - s.bankRefreshed ch b) / s.refreshNs (ch / 32))

/-- One refresh of a bank (R355, R357): its row closes, and the channel is occupied for 3/128 of the sixteenth of an interval that a refresh
has, 5.7 ns (DEDUCED, log entry 152). -/
def State.refreshBank (s : State) (ch b : Nat) : State :=
  let x := s.chan ch
  let interval := s.refreshNs (ch / 32)
  let done := max (s.bankRefreshed ch b + interval) (s.time.now - 8 * interval)
  let list := ((List.range 16).map fun i => if i = b then done else s.bankRefreshed ch i)
  (s.setRow (ch * 16 + b) none).setChan ch { x with refreshed := list, bank := (b + 1) % 16, refreshing := max x.refreshing s.time.now + 6 }

/-- A channel resumes after a retraining step (R361): it issues the refreshes that fell due, and its waiting writes are made up. -/
def State.hbmResume (s : State) (ch : Nat) : State :=
  let s := s.setChan ch { s.chan ch with pause := none, force := (s.chan ch).writes.length }
  forEach ((List.range 16).flatMap fun b => List.replicate (s.refreshOwed ch b) b) s fun s b => s.refreshBank ch b

/-- What a channel issues in this cycle (R356, R361): nothing while it is paused or refreshes; a read that waits on no write; else the
oldest write when writes drain. -/
def State.hbmIssue (s : State) (ch : Nat) : State :=
  let x := s.chan ch
  let s := match x.pause with
    | some t => if t ≤ s.time.now then s.hbmResume ch else s
    | none => s
  let x := s.chan ch
  if x.pause.isSome = true ∨ s.time.now < x.refreshing then s
  else match x.reads.find? fun r => Nat.beq r.behind 0 with
    | some r => s.hbmIssueRead ch r
    | none => if 0 < x.force ∨ x.burst = true ∨ x.reads ≠ [] then s.hbmIssueWrite ch else s

/-- A stack is in self-refresh: HBM3 as R503 says, every stack in a thermal stop (R581). -/
def State.resting (s : State) (stack : Nat) : Bool := (Nat.beq stack 3 && s.hbm.asleep) || s.on Obj.THERMAL_STOP_ACTIVE

/-- A channel has something to do. -/
def HbmChannel.works (x : HbmChannel) : Bool :=
  !x.input.isEmpty || !x.reads.isEmpty || x.pause.isSome || (!x.writes.isEmpty && (x.burst || Nat.blt 0 x.force))

/-- The F die is in NAP: every FS sector is in NAP or OFF (R503). -/
def State.dieNap (s : State) : Bool := (List.range 8).all fun n => Nat.ble 2 (bits (s.get Obj.POWER_CTRL_SECTOR_STATE) (2 * n) 2)

/-- HBM3 enters self-refresh while the F die is in NAP and nothing is asked of it, and leaves it in 2 µs (R349, R503); its rows are closed and
its banks refreshed in it. -/
def State.hbmSleep (s : State) : State :=
  let idle : Bool := s.dieNap && !((s.hbm.channels.filter fun e => Nat.ble 96 e.1).any fun e => e.2.works)
  if s.hbm.asleep then
    match s.hbm.leaving with
    | none => if idle then s else s.withHbm { s.hbm with leaving := some (s.time.now + 2000) }
    | some t =>
      if s.time.now < t then s
      else s.withHbm { s.hbm with
        asleep := false, leaving := none
        channels := (List.range 32).foldl (fun l c =>
          Table.put channelEmpty l (96 + c) { Table.get channelEmpty l (96 + c) with refreshed := List.replicate 16 s.time.now }) s.hbm.channels }
  else if idle then
    s.withHbm { s.hbm with asleep := true, rows := Table.keep (fun k => !Nat.ble (96 * 16) k) s.hbm.rows }
  else s

/-- What one CLK_HBMC cycle does in every channel that has something to do. -/
def State.hbmCycle (s : State) : State :=
  let s := s.hbmSleep
  forEach ((s.hbm.channels.filter fun e => e.2.works).map (·.1)) s fun s ch =>
    if s.resting (ch / 32) then s else (s.hbmOrder ch).hbmIssue ch

/-! ### Timeouts and refresh -/

/-- WRITE_DRAIN_TIMEOUT (R356): the writes that have waited 2 µs drain. -/
def execWriteDrainTimeout (stack : Fin 4) (channel : Fin 32) (s : State) : Out :=
  s.inCore fun s =>
    let x := s.chan (stack.val * 32 + channel.val)
    let n := (x.writes.takeWhile fun w => Nat.ble (w.at' + 2000) s.time.now).length
    s.setChan (stack.val * 32 + channel.val) { x with force := max x.force n }

/-- ROW_OPEN_TIMEOUT (R355): a row has been open for 2 µs. -/
def execRowOpenTimeout (stack : Fin 4) (channel : Fin 32) (bank : Fin 16) (s : State) : Out :=
  s.inCore fun s =>
    let k := (stack.val * 32 + channel.val) * 16 + bank.val
    match Table.get (fun _ => none) s.hbm.rows k with
    | some r => if r.since + 2000 ≤ s.time.now then s.setRow k none else s
    | none => s

/-- HBM_REFRESH (R355, R357): a channel refreshes its next bank when that is due; in a retraining step the refresh stays owed (R361), and
in self-refresh the stack refreshes itself (R503). -/
def execHbmRefresh (stack : Fin 4) (channel : Fin 32) (s : State) : Out :=
  s.inCore fun s =>
    let ch := stack.val * 32 + channel.val
    let x := s.chan ch
    if x.pause.isSome = true ∨ s.time.now < x.refreshing ∨ s.resting stack = true ∨ s.refreshOwed ch x.bank = 0 then s
    else s.refreshBank ch x.bank

/-- A stack's temperature in °C. -/
def State.stackTemp (s : State) (k : Nat) : Int := signed 32 (s.get (Obj.HBM_STACK_TEMP_C k))

/-- A new temperature of a stack: refresh doubles above 85 °C and is normal again below 83 °C (R357). -/
def State.setStackTemp (s : State) (k : Nat) (t : Int) : State :=
  let s := s.set (Obj.HBM_STACK_TEMP_C k) (unsigned 32 t)
  let x2 := s.on (Obj.HBM_STACK_REFRESH_X2 k)
  if x2 = false ∧ 85 < t then (s.set (Obj.HBM_STACK_REFRESH_X2 k) 1).raise 0x6101 (uStack k) 0
  else if x2 = true ∧ t < 83 then (s.set (Obj.HBM_STACK_REFRESH_X2 k) 0).raise 0x6001 (uStack k) 0
  else s

/-! ### Retraining -/

/-- RETRAIN_DUE (R360): time or temperature asks for a retraining of 8 steps. -/
def execRetrainDue (stack : Fin 4) (channel : Fin 32) (s : State) : Out :=
  s.inCore fun s =>
    let ch := stack.val * 32 + channel.val
    let x := s.chan ch
    let due : Bool := Nat.ble (x.trained + s.get Obj.HBM_CTRL_RETRAIN_MS * ms) s.time.now ||
      decide ((s.get Obj.HBM_CTRL_RETRAIN_TEMP_C : Int) < ((s.stackTemp stack - x.temp).natAbs : Int))
    if x.steps = 0 ∧ due = true ∧ s.chanFailed stack channel = false then s.setChan ch { x with steps := 8, repeated := false } else s

/-- A channel is declared failed (R362). -/
def State.failChannel (s : State) (stack c : Nat) : State :=
  let s := s.set (Obj.HBM_STACK_CHAN_FAILED stack) (Nat.lor (s.get (Obj.HBM_STACK_CHAN_FAILED stack)) (2 ^ c))
  let s := s.setChan (stack * 32 + c) {}
  let s := forEach (List.range 16) s fun s b => s.setRow ((stack * 32 + c) * 16 + b) none
  let s := if stack < 3 then
      let queued := s.net.queues.flatMap fun e => (e.2.filter fun k => Nat.beq k.region 2).map fun k => (e.1, k.id)
      let s := forEach queued s fun s x => s.discardQueued x.1 x.2
      -- and those that are selected and not yet read out
      let chosen := s.net.egress.flatMap fun e => (e.2.filter fun k => Nat.beq k.region 2 && !k.read).map fun k => (k.id, k.queue)
      -- no unit is free any more
      (forEach chosen s fun s x => (s.countQueue x.2 Fld.QC_DISCARDED).endPacket x.1).lowWater 2
    else s
  s.raise 0x6301 (uChannel stack c) 0

/-- RETRAIN_STEP (R361, R362): a step pauses the channel for 600 ns, and as long again when it is repeated (DEDUCED, log entry 153); `good`
says whether its eye margin was at least the minimum, `repeatGood` whether that of its repeat was. No step starts while a refresh is in
progress. -/
def execRetrainStep (stack : Fin 4) (channel : Fin 32) (good repeatGood : Bool) (s : State) : Out :=
  s.inCore fun s =>
    let ch := stack.val * 32 + channel.val
    let x := s.chan ch
    let early : Bool := match Table.get (fun _ => none) s.hbm.stepAt stack with
      | some t => Nat.blt s.time.now (t + 2000)
      | none => false
    if x.steps = 0 ∨ early = true ∨ s.time.now < x.refreshing ∨ x.pause.isSome = true ∨ s.resting stack = true then s
    else
      let s : State := (s.withHbm { s.hbm with stepAt := Table.put (fun _ => none) s.hbm.stepAt stack (some s.time.now) })
      -- every bank is precharged
      let s := forEach (List.range 16) s fun s b => s.setRow (ch * 16 + b) none
      let s := s.bump (Obj.HBM_STACK_RETRAIN_STEPS stack)
      let s := if good then s else (s.bump (Obj.HBM_STACK_STEP_REPEATS stack)).raise 0x6103 (uChannel stack channel) 0
      let again := x.repeated || !good
      if good = false ∧ repeatGood = false then s.failChannel stack channel
      else if x.steps = 1 ∧ again = true ∧ x.failedBefore = true then s.failChannel stack channel
      else
        let x := { x with pause := some (s.time.now + if good then 600 else 1200) }
        s.setChan ch (if x.steps = 1 then
            { x with steps := 0, repeated := false, failedBefore := again, trained := s.time.now, temp := s.stackTemp stack }
          else { x with steps := x.steps - 1, repeated := again })

/-! ### Scrubbing -/

/-- Instant of a stack's next scrub read: a pass over its 2^28 sectors takes SCRUB_HOURS hours (R363). -/
def State.scrubAfter (s : State) (stack : Nat) : Nat :=
  (Table.get (fun _ => none) s.hbm.scrubAt stack).getD s.hbm.since + s.get Obj.HBM_CTRL_SCRUB_HOURS * 3600 * nsPerS / 2 ^ 28

/-- HBM_SCRUB (R358, R363, R364): the patrol scrubber reads the next sector of a stack, when that is due; a corrected sector is written
back. -/
def execHbmScrub (stack : Fin 4) (ecc : SectorEcc) (s : State) : Out :=
  s.inCore fun s =>
    if s.time.now < s.scrubAfter stack then s
    else
      let a := Table.get zeroN s.hbm.scrub stack
      let s : State := (s.withHbm { s.hbm with
        scrub := Table.put zeroN s.hbm.scrub stack ((a + 1) % 2 ^ 28)
        scrubAt := Table.put (fun _ => none) s.hbm.scrubAt stack (some s.time.now) })
      s.hbmRequest stack a .scrub none ecc

/-! ### ORDER and HASH -/

/-- A write of ORDER or HASH (R353): BUSY for H0 while the buffers are enabled; it zeroes H1 or H2. -/
def ruleHbmOrder (g key v : Nat) (s : State) : Res :=
  if g = 0 then (if s.on Obj.BUFFER_CTRL_BUF_ENABLE then (.busy, s) else s.plain key v)
  else
    let s := s.commit key v
    let gone := if g = 1 then [Dom.QUEUE_COUNTERS, Dom.METER_COUNTERS, Dom.MARKED_LOG] else [Dom.HBM_HOST_AREA]
    let s := forEach gone s fun s d => forEach (s.domEntries d) s fun s e => s.setDom d e.1 0
    -- the reset state of a sample record is not zero: every record is listed
    let zeros := (List.range 655360).map fun e => (domKey Dom.QUEUE_SAMPLES e, 0)
    let below := s.doms.filter fun e => Nat.blt (domOf e.1) Dom.QUEUE_SAMPLES
    let above := s.doms.filter fun e => Nat.blt Dom.QUEUE_SAMPLES (domOf e.1)
    let s : State := if g = 1 then (s.withDoms (below ++ zeros ++ above)) else s
    let s : State := (s.withParse { s.parse with damaged := s.parse.damaged.filter fun k => !gone.contains (domOf k) && !(Nat.beq g 1 && Nat.beq (domOf k) Dom.QUEUE_SAMPLES) })
    (.ok, s)

/-- ORDER or HASH of a region (R353). -/
def execHbmRegionOrder (region : Fin 3) (hash : Bool) (master value : Nat) (s : State) : Out :=
  let key := if hash then Obj.HBM_REGION_HASH region else Obj.HBM_REGION_ORDER region
  if region = 0 then s.rowWrite master key value (ruleHbmOrder region key value)
  else s.rowSlow master key value (ruleHbmOrder region key value)

end Sys2Proof.Machine
end

