-- ==== Sys2Proof/Machine/Jobs.lean ====
section
/-! DEFINITION. Running a fetched job (R397, R400, R401, R409 to R414), and the table jobs (R93, R107, R111, R113, R118, R121, R124 to
R126, R471). -/

namespace Sys2Proof.Machine

/-- RETURN of a completion whose status is not OK, where no rule gives it: an open value (log entry 23). -/
def State.openReturn (s : State) : Nat × State :=
  let (x, s) := s.fresh
  (x % 2 ^ 64, s)

/-- The job in flight that may start now under an opcode. -/
def State.startable (s : State) (sq index opcode : Nat) : Option Job :=
  match s.host.jobs.find? (Job.isAt sq index) with
  | some j => if j.opcode = opcode ∧ j.started = false ∧ s.fenced j = false then some j else none
  | none => none

/-- A job ends with a status and a return value. -/
def State.finishJob (s : State) (j : Job) (dma : Dma) (st : Status) (ret : Nat) : State :=
  s.complete j.sq j.index st ret !dma.cpl

/-- A job fails: its RETURN is open. -/
def State.failJob (s : State) (j : Job) (dma : Dma) (st : Status) : State :=
  let (r, s) := s.openReturn
  s.finishJob j dma st r

/-- A read or write of job data has failed (R414): its function reports it (R389), the job ends and the ring goes on. -/
def State.dmaFailed (s : State) (j : Job) (dma : Dma) : State :=
  (((s.emit (.pcieError (s.sqFn j.sq))).set (Obj.SQ_CONFIG_SQ_STATE j.sq) 3).raise 0x8201 uMGMT 0 j.sq).failJob j dma .dmaError

/-- A job ends as its engine answers. -/
def State.endJob (s : State) (j : Job) (dma : Dma) (st : Status) (ret : Nat) : State :=
  match st with
  | .ok => s.finishJob j dma .ok ret
  | .dmaError => s.dmaFailed j dma
  | st => s.failJob j dma st

/-- Runs a job that can start; `f` answers none while it must wait. -/
def State.runJob (s : State) (sq index opcode : Nat) (dma : Dma) (f : Job → State → Option JobRes) : Out :=
  s.inCore fun s =>
    match s.startable sq index opcode with
    | none => s
    | some j =>
      match f j s with
      | none => s
      | some (st, ret, s) => s.endJob j dma st ret

/-- A range of payload bytes that must be 0: first and count. -/
def zeroBytes (b : List Byte) (l : List (Nat × Nat)) : Bool := l.all fun r => Nat.beq (wordAt b r.1 r.2) 0

/-- Largest payload of a request in bytes (R389). -/
abbrev pcieMaxPayload : Nat := 512

/-- Writes data of a job into the memory of the function that owns its ring, in requests of at most 512 bytes (R389). -/
def State.jobWrite (s : State) (j : Job) (addr : Nat) (data : List Byte) : State :=
  forEach (List.range (ceilDiv data.length pcieMaxPayload)) s fun s i =>
    s.emit (.hostWrite (s.sqFn j.sq) (addr + pcieMaxPayload * i) ((data.drop (pcieMaxPayload * i)).take pcieMaxPayload))

/-- A job's turn at its table engine: the jobs of one table, and the learn requests of an exact-match table, are applied in their order
of arrival (R93, R124). -/
def State.tableTurn (s : State) (j : Job) : Bool :=
  let n := j.seq.getD s.tab.arrivals
  !(s.jobBefore j.table n) && match j.table with
    | some (0, t) => !((s.emt t).learn.any fun r => Nat.blt r.seq n)
    | _ => true

/-- What a table job needs besides its effect: whether it changes its table (R471), whether its payload is legal, and which parity
errors are of its own entry (R126). -/
structure TableJob where
  changes : Job → Bool
  legal : State → Job → Bool
  own : State → Job → Upset → Bool

/-- Runs a table job (R124, R126): `upsets` are the parity errors it meets. -/
def State.tableJob (s : State) (k : TableJob) (sq index opcode : Nat) (upsets : List Upset) (dma : Dma) (f : Job → State → Option JobRes) : Out :=
  s.runJob sq index opcode dma fun j s =>
    if s.tableTurn j = false then none
    else if k.legal s j = false then some (.invalid, 0, s)
    else if k.changes j = true ∧ s.isStandby = true then some (.busy, 0, s)
    else
      let bad := upsets.any (k.own s j)
      let s := forEach upsets s fun s u => s.upset false u
      if bad then some (.parity, 0, s) else f j s

/-- TABLE of an exact-match or TCAM job. -/
def Job.tableNo (j : Job) : Nat := byteAt j.bytes 16
/-- FLAGS. -/
def Job.flags (j : Job) : Nat := byteAt j.bytes 17

/-- KEY of an exact-match job: 64 or 160 bits. -/
def State.jobKey (s : State) (j : Job) : Nat := if s.emWide j.tableNo then wordAt j.bytes 24 20 else wordAt j.bytes 24 8

/-- The table is enabled and the key's unused bytes are 0. -/
def State.emLegal (s : State) (j : Job) : Bool :=
  Nat.blt j.tableNo 16 && s.on (Obj.EM_TABLE_ENABLE j.tableNo) && (s.emWide j.tableNo || zeroBytes j.bytes [(32, 12)]) && zeroBytes j.bytes [(44, 20)]

/-- The own entry of an exact-match job (R126). -/
def State.emOwn (s : State) (j : Job) (u : Upset) : Bool :=
  match u with
  | .em t i key _ keyBad => Nat.beq t j.tableNo && (s.emCandidates t (s.jobKey j)).contains i && (keyBad || Nat.beq key (s.jobKey j))
  | _ => false

/-- EM_INSERT (R94, R124). The RESULT of a GENERIC table is a forwarding pointer (R132, R134), that of a USER table a user (R126); the
LOCATION of an L2 table is not judged (DESIGN CHOICE, log entry 178). -/
def execEmInsert (sq : Fin 1024) (index : Nat) (upsets : List Upset) (dma : Dma) (s : State) : Out :=
  s.tableJob
    { changes := fun _ => true
      legal := fun s j => s.emLegal j && zeroBytes j.bytes [(18, 2)] && Nat.blt j.flags 32 && !(bit j.flags 1 && bit j.flags 2) &&
        (match s.get (Obj.EM_TABLE_KIND j.tableNo) with
        | 0 => ptrOk (wordAt j.bytes 20 4)
        | 1 => Nat.blt (wordAt j.bytes 20 4) (2 ^ 17)
        | _ => true)
      own := State.emOwn }
    sq index 0x10 upsets dma fun j s =>
      let r := s.emInsert j.tableNo (s.jobKey j) (wordAt j.bytes 20 4)
        ⟨bit j.flags 0, bit j.flags 1, bit j.flags 2, bit j.flags 3, bit j.flags 4⟩
      if r.waits then none else some (r.status, ofBool r.created * 2 ^ 31 + ofBool r.evicted * 2 ^ 30 + r.index, r.st)

/-- EM_DELETE (R124). -/
def execEmDelete (sq : Fin 1024) (index : Nat) (upsets : List Upset) (dma : Dma) (s : State) : Out :=
  s.tableJob { changes := fun _ => true, legal := fun s j => s.emLegal j && zeroBytes j.bytes [(17, 7)], own := State.emOwn }
    sq index 0x11 upsets dma fun j s =>
      match s.emDelete j.tableNo (s.jobKey j) with
      | (some i, s) => some (.ok, i, s)
      | (none, s) => some (.notFound, 0, s)

/-- EM_LOOKUP (R124): the entry as it stands before LOCK_SET sets its lock. -/
def execEmLookup (sq : Fin 1024) (index : Nat) (upsets : List Upset) (dma : Dma) (s : State) : Out :=
  s.tableJob
    { changes := fun j => bit j.flags 1
      legal := fun s j => s.emLegal j && zeroBytes j.bytes [(18, 6)] && Nat.beq (Nat.land j.flags 0xFD) 0
      own := State.emOwn }
    sq index 0x12 upsets dma fun j s =>
      match s.emFind j.tableNo (s.jobKey j) with
      | some (i, e) =>
        some (.ok, e.result * 2 ^ 32 + e.stamp * 2 ^ 16 + ofBool e.static * 2 ^ 15 + ofBool e.lock * 2 ^ 14,
          if bit j.flags 1 then s.emPut j.tableNo i (some { e with lock := true }) else s)
      | none => some (.notFound, 0, s)

/-- Image of an exact-match entry, 128 or 256 bits (R89); an entry not in use reads 0. -/
def emImage (wide : Bool) : Option EmEntry → Nat
  | none => 0
  | some e =>
    let top := if wide then 192 else 64
    let stampLo := if wide then 236 else 108
    (2 ^ 63 + ofBool e.static * 2 ^ 62 + ofBool e.lock * 2 ^ 61) * 2 ^ top + e.stamp * 2 ^ stampLo + e.key * 2 ^ 32 + e.result

/-- EM_READ_INDEX (R124). -/
def execEmReadIndex (sq : Fin 1024) (index : Nat) (upsets : List Upset) (dma : Dma) (s : State) : Out :=
  s.tableJob
    { changes := fun _ => false
      legal := fun s j => Nat.blt j.tableNo 16 && s.on (Obj.EM_TABLE_ENABLE j.tableNo) && zeroBytes j.bytes [(17, 3), (24, 24), (56, 8)] &&
        Nat.blt (wordAt j.bytes 20 4) (4 * s.emBuckets j.tableNo)
      own := fun _ j u => match u with
        | .em t i _ _ _ => Nat.beq t j.tableNo && Nat.beq i (wordAt j.bytes 20 4)
        | _ => false }
    sq index 0x13 upsets dma fun j s =>
      if dma.ok then
        let wide := s.emWide j.tableNo
        some (.ok, 0, s.jobWrite j (wordAt j.bytes 48 8) (bytesBE (if wide then 32 else 16) (emImage wide (s.emAt j.tableNo (wordAt j.bytes 20 4)))))
      else some (.dmaError, 0, s)

/-- EM_UNLOCK (R103, R124). -/
def execEmUnlock (sq : Fin 1024) (index : Nat) (upsets : List Upset) (dma : Dma) (s : State) : Out :=
  s.tableJob { changes := fun _ => true, legal := fun s j => s.emLegal j && zeroBytes j.bytes [(17, 7)], own := State.emOwn }
    sq index 0x14 upsets dma fun j s =>
      match s.emFind j.tableNo (s.jobKey j) with
      | some (i, e) => some (.ok, 0, s.emPut j.tableNo i (some { e with lock := false }))
      | none => some (.notFound, 0, s)

/-- FAMILY. -/
def Job.family (j : Job) : Nat := byteAt j.bytes 16
/-- VRF. -/
def Job.vrf (j : Job) : Nat := wordAt j.bytes 18 2
/-- PREFIX or ADDRESS. -/
def Job.prefixBits (j : Job) : Nat := wordAt j.bytes 24 16

/-- A structure of the LPM store holds a job's route. -/
def Job.routeIn (j : Job) (family vrf : Nat) (routes : List (Nat × Nat)) : Bool :=
  Nat.beq family j.family && Nat.beq vrf j.vrf && routes.contains (j.prefixBits, j.flags)

/-- Own entry of a route job. -/
def routeOwn (_ : State) (j : Job) (u : Upset) : Bool :=
  match u with
  | .lpm family vrf _ _ _ routes => j.routeIn family vrf routes
  | _ => false

/-- ROUTE_ADD (R110, R111, R124). -/
def execRouteAdd (sq : Fin 1024) (index : Nat) (upsets : List Upset) (dma : Dma) (s : State) : Out :=
  s.tableJob { changes := fun _ => true, legal := fun _ j => zeroBytes j.bytes [(40, 24)], own := routeOwn }
    sq index 0x15 upsets dma fun j s => some (s.routeAdd j.family j.vrf j.flags j.prefixBits (wordAt j.bytes 20 4))

/-- ROUTE_DELETE (R111, R124). -/
def execRouteDelete (sq : Fin 1024) (index : Nat) (upsets : List Upset) (dma : Dma) (s : State) : Out :=
  s.tableJob { changes := fun _ => true, legal := fun _ j => zeroBytes j.bytes [(20, 4), (40, 24)], own := routeOwn }
    sq index 0x16 upsets dma fun j s => some (s.routeDelete j.family j.vrf j.flags j.prefixBits)

/-- ROUTE_READ (R124). -/
def execRouteRead (sq : Fin 1024) (index : Nat) (upsets : List Upset) (dma : Dma) (s : State) : Out :=
  s.tableJob
    { changes := fun _ => false
      legal := fun _ j => zeroBytes j.bytes [(20, 4), (40, 24)] && routeOk j.family j.vrf j.flags j.prefixBits
      own := routeOwn }
    sq index 0x17 upsets dma fun j s =>
      match s.route j.family j.vrf j.flags j.prefixBits with
      | some r => some (.ok, r, s)
      | none => some (.notFound, 0, s)

/-- ROUTE_MATCH (R109, R124). -/
def execRouteMatch (sq : Fin 1024) (index : Nat) (upsets : List Upset) (dma : Dma) (s : State) : Out :=
  s.tableJob
    { changes := fun _ => false
      legal := fun _ j => zeroBytes j.bytes [(17, 1), (20, 4), (40, 24)] && routeOk j.family j.vrf (famBits j.family) j.prefixBits
      own := fun _ j u => match u with
        | .lpm family vrf pfx len _ _ => Nat.beq family j.family && Nat.beq vrf j.vrf && underPrefix family pfx len j.prefixBits
        | _ => false }
    sq index 0x18 upsets dma fun j s =>
      match s.routeMatch j.family j.vrf j.prefixBits with
      | some (r, len) => some (.ok, len * 2 ^ 32 + r, s)
      | none => some (.notFound, 0, s)

/-- LABEL of a label job. -/
def Job.label (j : Job) : Nat := wordAt j.bytes 20 4

/-- Own entry of a label job. -/
def labelOwn (_ : State) (j : Job) (u : Upset) : Bool :=
  match u with
  | .label l => Nat.beq l j.label
  | _ => false

/-- LABEL_WRITE (R113, R124). -/
def execLabelWrite (sq : Fin 1024) (index : Nat) (upsets : List Upset) (dma : Dma) (s : State) : Out :=
  s.tableJob
    { changes := fun _ => true
      legal := fun _ j => zeroBytes j.bytes [(16, 4), (32, 32)] && Nat.blt j.label 1048576 && decide (labelStatus (wordAt j.bytes 24 8) = .ok)
      own := labelOwn }
    sq index 0x19 upsets dma fun j s => some (.ok, 0, s.labelPut j.label (wordAt j.bytes 24 8))

/-- LABEL_READ (R124, R126): an entry with VALID 0 returns 0. -/
def execLabelRead (sq : Fin 1024) (index : Nat) (upsets : List Upset) (dma : Dma) (s : State) : Out :=
  s.inCore fun s =>
    match s.startable sq index 0x1A with
    | none => s
    | some j =>
      if s.tableTurn j = false then s
      else if zeroBytes j.bytes [(16, 4), (24, 40)] = false ∨ 1048576 ≤ j.label then s.failJob j dma .invalid
      else
        let bad := upsets.any (labelOwn s j)
        let s := forEach upsets s fun s u => s.upset false u
        let e := s.dom Dom.LABEL_TABLE j.label
        if bad then s.failJob j dma .parity
        else if bits e 63 1 = 1 then s.finishJob j dma .ok e
        else s.finishJob j dma .notFound 0

/-- Own entries of a TCAM job (R126): the entries of `count` positions from `pos` whose shadow units are lost for want of a majority. -/
def tcamOwn (pos count : Job → Nat) (s : State) (j : Job) (u : Upset) : Bool :=
  match u with
  | .shadow x agree => Nat.blt agree 5 && (List.range (count j)).any fun k => Nat.beq (s.tcamFirst x) (s.tcamAddr j.tableNo (pos j + k))
  | _ => false

/-- POSITION of a TCAM job. -/
def Job.position (j : Job) : Nat := wordAt j.bytes 20 4

/-- TCAM_WRITE (R118, R124). -/
def execTcamWrite (sq : Fin 1024) (index : Nat) (upsets : List Upset) (dma : Dma) (s : State) : Out :=
  s.tableJob { changes := fun _ => true, legal := fun _ j => Nat.blt j.tableNo 4 && zeroBytes j.bytes [(17, 3), (24, 24), (56, 8)], own := fun _ _ _ => false }
    sq index 0x1B upsets dma fun j s =>
      match dma.data with
      | some d => if d.length = 96 then some (s.tcamWrite j.tableNo (wordAt j.bytes 20 4) (natBE d)) else some (.dmaError, 0, s)
      | none => some (.dmaError, 0, s)

/-- TCAM_READ (R124, R126): damaged associated data, which R120 keeps, end the job with PARITY. -/
def execTcamRead (sq : Fin 1024) (index : Nat) (upsets : List Upset) (dma : Dma) (s : State) : Out :=
  s.tableJob
    { changes := fun _ => false
      legal := fun s j => Nat.blt j.tableNo 4 && zeroBytes j.bytes [(17, 3), (24, 24), (56, 8)] && s.on (Obj.TCAM_TABLE_ENABLE j.tableNo) &&
        Nat.blt (wordAt j.bytes 20 4) (s.tcamPositions j.tableNo)
      own := tcamOwn Job.position fun _ => 1 }
    sq index 0x1C upsets dma fun j s =>
      let a := s.tcamAddr j.tableNo (wordAt j.bytes 20 4)
      if s.tab.assocBad.contains a then some (.parity, 0, s.assocParity a)
      else if dma.ok then some (.ok, 0, s.jobWrite j (wordAt j.bytes 48 8) (bytesBE 96 (tcamImage (s.tcamAt a))))
      else some (.dmaError, 0, s)

/-- TCAM_INVALIDATE (R124, R126). -/
def execTcamInvalidate (sq : Fin 1024) (index : Nat) (upsets : List Upset) (dma : Dma) (s : State) : Out :=
  s.tableJob { changes := fun _ => true, legal := fun _ j => Nat.blt j.tableNo 4 && zeroBytes j.bytes [(17, 3), (24, 40)], own := tcamOwn Job.position fun _ => 1 }
    sq index 0x1D upsets dma fun j s => some (s.tcamInvalidate j.tableNo (wordAt j.bytes 20 4))

/-- TCAM_MOVE (R121, R122, R124). -/
def execTcamMove (sq : Fin 1024) (index : Nat) (upsets : List Upset) (dma : Dma) (s : State) : Out :=
  s.tableJob
    { changes := fun _ => true
      legal := fun _ j => Nat.blt j.tableNo 4 && zeroBytes j.bytes [(17, 3), (30, 34)]
      own := tcamOwn Job.position fun j => min (wordAt j.bytes 28 2) 4096 }
    sq index 0x1E upsets dma fun j s =>
      some (s.tcamMove j.tableNo (wordAt j.bytes 20 4) (wordAt j.bytes 24 4) (wordAt j.bytes 28 2))

/-- NOP (R401). -/
def execNop (sq : Fin 1024) (index : Nat) (dma : Dma) (s : State) : Out :=
  s.runJob sq index 0 dma fun j s => some (if zeroBytes j.bytes [(16, 48)] then .ok else .invalid, 0, s)

end Sys2Proof.Machine
end

