-- ==== Sys2Proof/Machine/Host.lean ====
section
/-! DEFINITION. The PCIe function and its rings: doorbells, pushes, fetching, packets to and from the host, interrupts, and the
enabling and lending of rings (R389 to R411, R414, R415, R417). -/

namespace Sys2Proof.Machine

/-- The SQ behind a page of a function's BAR2, with whether the function owns it (R390, R392); a page of a VF beyond its block
has no ring. -/
def State.sqPage (s : State) (fn page : Nat) : Option (Nat × Bool) :=
  if fn = 0 then some (page, Nat.beq (s.sqFn page) 0)
  else if page < s.get (Obj.VF_RESOURCES_SQ_COUNT (fn - 1)) then some (s.sqBase fn + page, true)
  else none

/-- The CQ behind a page. -/
def State.cqPage (s : State) (fn page : Nat) : Option (Nat × Bool) :=
  if fn = 0 then some (page, Nat.beq (s.cqFn page) 0)
  else if page < s.get (Obj.VF_RESOURCES_CQ_COUNT (fn - 1)) then some (s.cqBase fn + page, true)
  else none

/-! ### The BARs -/

/-- PCIe device ID of the PF and of every VF (R389). -/
abbrev pcieDeviceId : Nat := 0xD648
/-- PCIe class code, an Ethernet controller (R389). -/
abbrev pcieClassCode : Nat := 0x020000
/-- TotalVFs of the SR-IOV capability (R389). -/
abbrev pcieTotalVfs : Nat := 32

/-- Size in bytes of a memory BAR, 0, 2 or 4, of a function, 0 the PF (R390). -/
def barBytes (fn bar : Nat) : Nat :=
  if fn = 0 then (if bar = 0 then 2 ^ 28 else if bar = 2 then 2 ^ 23 else 2 ^ 15)
  else if bar = 0 ∨ bar = 2 then 2 ^ 20 else 2 ^ 14

/-- The BAR and the offset in it that a window access names: BAR0 from 0, BAR2 from 2^28, BAR4 from 2^29 (log entry 190). -/
def barAt (offset : Nat) : Nat × Nat :=
  if offset < 2 ^ 28 then (0, offset) else if offset < 2 ^ 29 then (2, offset - 2 ^ 28) else (4, offset - 2 ^ 29)

/-! ### Doorbells and pushes -/

/-- A ring is enabled, or its disabling has not ended (R415). -/
def State.sqLive (s : State) (sq : Nat) : Bool := s.on (Obj.SQ_CONFIG_SQ_ENABLE sq) || s.host.disabling.any fun d => Nat.beq d.sq sq

/-- Scope of E-8103 for a page that has no ring: no ring's (R418). -/
def pageScope (fn page : Nat) (cq : Bool) : Nat := 4096 + (2 * fn + ofBool cq) * 1024 + page

/-- A tail is written in an SQ page of a function (R395, R396). -/
def State.sqTail (s : State) (fn page value : Nat) : State :=
  match s.sqPage fn page with
  | none => s.raise 0x8103 uMGMT 0 (pageScope fn page false)
  | some (sq, owns) =>
    let n := s.get (Obj.SQ_CONFIG_SQ_SIZE sq)
    if owns = true ∧ s.on (Obj.SQ_CONFIG_SQ_ENABLE sq) = true ∧ value < 2 ^ (n + 1) ∧ ringUsed n (s.get (Obj.SQ_CONFIG_SQ_HEAD sq)) value ≤ 2 ^ n then
      s.set (Obj.SQ_CONFIG_SQ_TAIL sq) value
    else (s.bump (Obj.SQ_CONFIG_BAD_DOORBELLS sq)).raise 0x8103 uMGMT 0 sq

/-- SQ_DOORBELL (R395, R396). -/
def execSqDoorbell (fn : Fin 33) (page : Fin 1024) (value : Nat) (s : State) : Out := s.inCore fun s => s.sqTail fn page value

/-- A head is written in a CQ page of a function (R395, R396): a completion ring has no BAD_DOORBELLS of its own. Entries that the host has
consumed no longer wait for a signal (R411). -/
def State.cqHead (s : State) (fn page value : Nat) : State :=
  match s.cqPage fn page with
  | none => s.raise 0x8103 uMGMT 0 (pageScope fn page true)
  | some (cq, owns) =>
    let n := s.get (Obj.CQ_CONFIG_CQ_SIZE cq)
    let head := s.get (Obj.CQ_CONFIG_CQ_HEAD cq)
    let tail := s.get (Obj.CQ_CONFIG_CQ_TAIL cq)
    if owns = true ∧ s.on (Obj.CQ_CONFIG_CQ_ENABLE cq) = true ∧ value < 2 ^ (n + 1) ∧ ringUsed n head value ≤ ringUsed n head tail then
      let old := match (s.cq cq).oldHead with
        | some (t, h) => if t = s.time.now then h else head
        | none => head
      let wait := (s.cq cq).unsignalled
      ((s.setCq cq { s.cq cq with
        oldHead := some (s.time.now, old), unsignalled := wait.drop (wait.length - ringUsed n value tail) }).set (Obj.CQ_CONFIG_CQ_HEAD cq) value).cqShow cq
    else s.raise 0x8103 uMGMT 0 (1024 + cq)

/-- CQ_DOORBELL (R395, R396). -/
def execCqDoorbell (fn : Fin 33) (page : Fin 1024) (value : Nat) (s : State) : Out := s.inCore fun s => s.cqHead fn page value

/-- No push. -/
def noPush (_ : Nat) : Option PushSlot := none

/-- A write in an SQ page that no rule describes is discarded and counted (R390). -/
def State.badWrite (s : State) (fn page : Nat) : State :=
  match s.sqPage fn page with
  | none => s
  | some (sq, _) => s.bump (Obj.SQ_CONFIG_BAD_DOORBELLS sq)

/-- An entry is written into a push slot (R390, R398): one that is not of 64 bytes, or in a page of another function's ring, is discarded. -/
def State.pushEntry (s : State) (fn page slot : Nat) (entry : List Byte) : State :=
  match s.sqPage fn page with
  | some (sq, true) =>
    if entry.length = 64 then (s.withHost { s.host with push := Table.put noPush s.host.push (4 * sq + slot) (some ⟨entry, true, s.time.now⟩) })
    else s.badWrite fn page
  | _ => s.badWrite fn page

/-- PUSH (R390, R398). -/
def execPush (fn : Fin 33) (page : Fin 1024) (slot : Fin 4) (entry : List Byte) (s : State) : Out := s.inCore fun s => s.pushEntry fn page slot entry

/-- A write in BAR2 (R390, R395, R398): the tail or head at offset 0 of a page, in 4 bytes; an entry of 64 bytes in a push slot; any other
write is discarded, and counts for the ring of an SQ page. -/
def State.bar2Write (s : State) (fn offset size value : Nat) : State :=
  let half := barBytes fn 2 / 2
  let page := offset % half / 4096
  let at' := offset % 4096
  if offset < half then
    if at' = 0 ∧ size = 4 then s.sqTail fn page value
    else if size = 64 ∧ [0x100, 0x140, 0x180, 0x1C0].contains at' then s.pushEntry fn page (at' / 64 - 4) (bytesLE 64 value)
    else s.badWrite fn page
  else if at' = 0 ∧ size = 4 then s.cqHead fn page value
  else s

/-- An SQ serves a class of HP (R406). -/
def State.isHpRing (s : State) (sq : Nat) : Bool :=
  (List.range 8).any fun c => Nat.beq (s.get (Obj.HOST_CTRL_HP_RING_C c)) (0x8000 + sq)

/-- Codes of the job catalogue (R401). -/
def knownJob (o : Nat) : Bool := Nat.ble o 4 || (Nat.ble 0x10 o && Nat.ble o 0x1E) || Nat.beq o 0x20 || Nat.beq o 0x21 || Nat.beq o 0x30

/-- Jobs a VF's ring may run (R408). -/
def vfJob (o : Nat) : Bool := [0x00, 0x01, 0x02, 0x20, 0x21].contains o

/-- Status with which a fetched entry ends at once, if it does (R397, R401, R406, R408). -/
def State.entryStatus (s : State) (j : Job) : Option Status :=
  let n := s.get (Obj.SQ_CONFIG_SQ_SIZE j.sq)
  if bits j.header 127 1 ≠ phaseAt n j.index then some .phase
  else if bits j.header 120 7 ≠ 0 ∨ bits j.header 96 14 ≠ 0 ∨ bits j.header 47 17 ≠ 0 ∨ bits j.header 0 30 ≠ 0 then some .invalid
  else if knownJob j.opcode = false then some .invalid
  else if s.sqFn j.sq ≠ 0 ∧ vfJob j.opcode = false then some .denied
  else if s.isHpRing j.sq ≠ Nat.beq j.opcode 0x21 then some .invalid
  else none

/-- Receive buffers of an SQ that are fetched and not filled (R406). -/
def State.rxFetched (s : State) (sq : Nat) : Nat := (s.host.jobs.filter fun j => j.rx && j.done.isNone && Nat.beq j.sq sq).length

/-- An SQ is being disabled, and its unfetched entries are read for the completions they get (R409, R415; log entry 23). -/
def State.aborting (s : State) (sq : Nat) : Bool := s.host.disabling.any fun d => Nat.beq d.sq sq

/-- Entries a visit may fetch from an SQ under the limits of R400 and R406; those of an SQ that is being disabled are not run. -/
def State.fetchRoom (s : State) (sq : Nat) : Nat :=
  if s.aborting sq then s.unfetched sq
  else if s.isHpRing sq then 512 - s.rxFetched sq
  else 2048 - s.get Obj.HOST_CTRL_JOBS_IN_FLIGHT

/-- The fetch engine may serve an SQ (R399, R412, R414, R415). -/
def State.eligibleSq (s : State) (sq : Nat) : Bool :=
  Nat.blt 0 (s.unfetched sq) && Nat.blt 0 (s.fetchRoom sq) && decide ((s.cq (s.sqCq sq)).stash = []) &&
    (s.aborting sq || (s.on (Obj.SQ_CONFIG_SQ_ENABLE sq) && !s.host.stopped.contains sq))

/-- The ring memory's bytes or the pushed copy of the next entry; its slot is consumed either way (R398). -/
def State.takePush (s : State) (sq index : Nat) (memory : Option (List Byte)) : Option (List Byte) × State :=
  let key := 4 * sq + index % 4
  match Table.get noPush s.host.push key with
  | some p =>
    if p.fresh = false ∨ p.at' = s.time.now then (memory, s)
    else
      let s : State := (s.withHost { s.host with push := Table.put noPush s.host.push key (some { p with fresh := false }) })
      let h := wordAt p.bytes 0 16
      if bits h 30 17 = index ∧ bits h 127 1 = phaseAt (s.get (Obj.SQ_CONFIG_SQ_SIZE sq)) index then
        (some p.bytes, s.bump (Obj.SQ_CONFIG_PUSH_USED sq))
      else (memory, s.bump (Obj.SQ_CONFIG_PUSH_DROPS sq))
  | none => (memory, s)

/-- A job joins those in flight. -/
def State.addJob (s : State) (j : Job) : State := s.withHost { s.host with jobs := s.host.jobs ++ [j] }

/-- A job joins those in flight with its completion due: its RETURN is open (log entry 23). -/
def State.addEnded (s : State) (j : Job) (st : Status) : State :=
  let (r, s) := s.openReturn
  s.addJob { j with done := some (st.code, r), doneAt := s.time.now }

/-- Fetches one entry of an SQ, if the limits let it (R398, R400, R414); none: nothing more is fetched in this visit. -/
def State.fetchOne (s : State) (sq : Nat) (memory : Option (List Byte)) : Option State :=
  let n := s.get (Obj.SQ_CONFIG_SQ_SIZE sq)
  let index := s.get (Obj.SQ_CONFIG_SQ_HEAD sq)
  let (entry, s') := (s.set (Obj.SQ_CONFIG_SQ_HEAD sq) ((index + 1) % 2 ^ (n + 1))).takePush sq index memory
  let j : Job := { sq := sq, index := index, bytes := entry.getD [] }
  if s.aborting sq then
    -- the entry is read for its TAG alone; one whose read fails has none (R409, R414, R415)
    match entry with
    | none => some ((((s'.addEnded { j with aborted := true } .dmaError).emit (.pcieError (s.sqFn sq))).set (Obj.SQ_CONFIG_SQ_STATE sq) 3).raise 0x8201 uMGMT 0 sq)
    | some _ => some (s'.addEnded { j with aborted := true } .aborted)
  else if s.host.stopped.contains sq then none
  else match entry with
    | none =>
      let s' := (s'.addEnded j .dmaError).emit (.pcieError (s.sqFn sq))
      let s' : State := s'.withHost { s'.host with stopped := sq :: s'.host.stopped }
      some ((s'.set (Obj.SQ_CONFIG_SQ_STATE sq) 3).raise 0x8201 uMGMT 0 sq)
    | some _ =>
      match s.entryStatus j with
      | some st => if 2048 ≤ s.inFlight then none else some (s'.addEnded j st)
      | none =>
        if j.opcode = 0x21 then some (s'.addJob { j with rx := true })
        else if 2048 ≤ s.inFlight then none
        else some (s'.addJob j)

/-- Fetches entries of an SQ as the reads of ring memory answer, until the limits stop the visit (R400). -/
def State.fetchAll (sq : Nat) : List (Option (List Byte)) → State → State
  | [], s => s
  | m :: l, s =>
    match s.fetchOne sq m with
    | some s => State.fetchAll sq l s
    | none => s

/-- Visits left in the round; a ring that is not listed has none. -/
def State.visitsLeft (s : State) (sq : Nat) : Nat := Table.get (fun _ => 0) s.host.visits sq

/-- The ring the round serves next: the first with visits left at or after `last` counted from the pointer, else from the start
of the next pass (R399). -/
def State.nextVisit (s : State) : Option Nat :=
  let off := fun (r : Nat) => (r + 1024 - s.host.fetchPtr) % 1024
  let l := (List.range 1024).filter fun r => Nat.blt 0 (s.visitsLeft r) && s.eligibleSq r
  let least := fun (l : List Nat) => l.foldl (fun (b : Option Nat) r =>
    match b with
    | none => some r
    | some x => if off r < off x then some r else some x) none
  match least (l.filter fun r => Nat.ble s.host.fetchLast (off r)) with
  | some r => some r
  | none => least l

/-- Starts a round: every eligible ring gets its weight in visits; a round that was under way has moved the pointer on. -/
def State.newRound (s : State) : State :=
  let l := (List.range 1024).filter s.eligibleSq
  (s.withHost { s.host with
    visits := l.map fun r => (r, s.get (Obj.SQ_CONFIG_SQ_WEIGHT r))
    fetchPtr := if s.host.roundOpen then (s.host.fetchPtr + 1) % 1024 else s.host.fetchPtr
    fetchLast := 0, roundOpen := !l.isEmpty })

/-- FETCH_VISIT (R398 to R400): one visit of the fetch engine, at least 2 ns after the last; `memory` are the answers of the reads of ring memory, entry by entry. -/
def execFetchVisit (memory : List (Option (List Byte))) (s : State) : Out :=
  s.inCore fun s =>
    if (match s.host.visitAt with | some t => Nat.blt s.time.now (t + 2) | none => false) then s
    else
    let s := match s.nextVisit with
      | some _ => s
      | none => s.newRound
    match s.nextVisit with
    | none => s
    | some r =>
      let count := min (min (s.get (Obj.SQ_CONFIG_SQ_BURST r)) (s.unfetched r)) (s.fetchRoom r)
      let s : State := (s.withHost { s.host with
        visits := Table.put (fun _ => 0) s.host.visits r (s.visitsLeft r - 1)
        fetchLast := (r + 1024 - s.host.fetchPtr) % 1024 + 1, visitAt := some s.time.now })
      (State.fetchAll r ((List.range count).map fun k => memory.getD k none) s).countJobs.settleDisable

/-- Marks a job as begun: it waits for the rest of its effect. -/
def State.startJob (s : State) (j : Job) : State :=
  (s.withHost { s.host with jobs := replaceFirst (Job.isAt j.sq j.index) (fun k => { k with started := true }) s.host.jobs })

/-- Payload of PKT_TX is legal (R404). -/
def pktLegal (b : List Byte) : Bool :=
  let mode := byteAt b 16
  let length := wordAt b 18 2
  Nat.ble mode 1 && Nat.blt (byteAt b 17) 4 && Nat.ble 60 length && Nat.ble length 15996 &&
    zeroBytes b [(22, 2), (28, 4), (48, 16)] &&
    (Nat.beq mode 1 ||
      (Nat.blt (byteAt b 20) 128 && Nat.blt (byteAt b 21 / 16) 3 && Nat.beq (bits (byteAt b 21) 3 1) 0 && Nat.beq (bits (wordAt b 24 4) 19 12) 0))

/-- PKT_TX (R404, R405, R408): the frame has been read from host memory and is injected. -/
def execPktTx (sq : Fin 1024) (index : Nat) (dma : Dma) (s : State) : Out :=
  s.inCore fun s =>
    match s.startable sq index 0x20 with
    | none => s
    | some j =>
      let b := j.bytes
      let direct : Bool := Nat.beq (byteAt b 16) 0
      let stamp := bit (byteAt b 17) 0
      if s.sqFn sq ≠ 0 ∧ (direct = true ∨ bit (byteAt b 17) 1 = true) then s.failJob j dma .denied
      else if pktLegal b = false then s.failJob j dma .invalid
      else
        match dma.data with
        | none => s.dmaFailed j dma
        | some d =>
          if d.length ≠ wordAt b 18 2 then s.dmaFailed j dma
          else
            let q := wordAt b 24 4
            let k : Pkt := {
              id := s.net.serial, bytes := withFcs d, inPort := 128, requester := 128, rxTime := s.timeNow
              job := if stamp then some (sq.val, index) else none }
            let s : State := ((s.withNet { s.net with serial := s.net.serial + 1 }).withHost { s.host with reports := s.host.reports.filter fun x => !(Nat.beq x.sq sq && Nat.beq x.index index) })
            if direct then
              let k : Pkt := { k with
                dest := byteAt b 20, cls := byteAt b 21 % 8, colour := byteAt b 21 / 16, qsel := if bit q 31 then some (q % 2 ^ 19) else none
                bypass := bit (byteAt b 17) 1, direct := if stamp then none else some (sq.val, index) }
              let s := s.startJob j
              if s.ev.d2dFailed || s.boot.resets.contains 33 then s.dropPacket k else (s.withNet { s.net with toAdmit := s.net.toAdmit ++ [k] })
            else
              let sector := s.get Obj.HOST_CTRL_INJECT_SECTOR
              let s := s.toSector sector k
              if stamp then s.startJob j else s.finishJob j dma .ok 0

/-- The 16-byte stamp record of an instant in 2^-16 ns (R405). -/
def stampRecord (t : Nat) : List Byte := bytesBE 10 (time80 (t / 65536)) ++ bytesBE 2 (t % 65536) ++ bytesBE 4 0

/-- TX_STAMP (R405): the frame of a stamped job has left its port or has been discarded. -/
def execTxStamp (sq : Fin 1024) (index : Nat) (dma : Dma) (s : State) : Out :=
  s.inCore fun s =>
    match s.host.reports.find? (fun r => Nat.beq r.sq sq && Nat.beq r.index index), s.host.jobs.find? (Job.isAt sq index) with
    | some r, some j =>
      if j.opcode ≠ 0x20 ∨ j.started = false then s
      else
        let s : State := (s.withHost { s.host with reports := s.host.reports.filter fun x => !(Nat.beq x.sq sq && Nat.beq x.index index) })
        match r.stamp with
        | none => s.finishJob j dma .ok 2
        | some t =>
          if dma.ok then (s.jobWrite j (wordAt j.bytes 40 8) (stampRecord t)).finishJob j dma .ok 0
          else s.dmaFailed j dma
    | _, _ => s

/-- RX_BUFFER (R406): a receive buffer is posted to the lists of the classes its SQ serves. -/
def execRxBuffer (sq : Fin 1024) (index : Nat) (dma : Dma) (s : State) : Out :=
  s.inCore fun s =>
    match s.startable sq index 0x21 with
    | none => s
    | some j =>
      let length := wordAt j.bytes 20 4
      if zeroBytes j.bytes [(16, 4), (32, 32)] = true ∧ length % 64 = 0 ∧ 2048 ≤ length ∧ length ≤ 16384 ∧ wordAt j.bytes 24 8 % 64 = 0 then s.startJob j
      else s.failJob j dma .invalid

/-- RETURN of a receive completion (R407). -/
def rxReturn (k : Pkt) : Nat :=
  k.bytes.length % 2 ^ 14 * 2 ^ 50 + k.trap % 256 * 2 ^ 42 + k.inPort % 256 * 2 ^ 34 + k.cls % 8 * 2 ^ 31 + k.parseCode % 16 * 2 ^ 27 +
    ofBool (k.ptp && k.rxStamp.isSome) * 2 ^ 26

/-- RX_DELIVER (R407): the oldest packet selected for HP whose class has a buffer is written into it. -/
def execRxDeliver (dma : Dma) (s : State) : Out :=
  s.inCore fun s =>
    let l := Table.get noList s.net.tx portHP
    match l.find? fun k => !(s.hpBuffers k.cls).isEmpty with
    | none => s
    | some k =>
      match s.hpBuffers k.cls with
      | [] => s
      | j :: _ =>
        let s : State := (s.withNet { s.net with tx := Table.put noList s.net.tx portHP (l.filter fun x => !Nat.beq x.id k.id) })
        if wordAt j.bytes 20 4 < k.bytes.length + 16 then (s.bump Obj.HOST_CTRL_HP_TOOBIG).dropSelected portHP k
        else
          let (k, s) := s.settle k
          let s := (s.lessOutstanding portHP k.out).txReport k none
          if dma.ok then (s.jobWrite j (wordAt j.bytes 24 8) (stampRecord (k.rxStamp.getD 0) ++ k.bytes)).finishJob j dma .ok (rxReturn k)
          else s.dmaFailed j dma

/-- The write of the entry that a ring got last has failed (R414): it waits in the stash, and the ring is in ERROR. -/
def State.writeFailed (s : State) (cq : Nat) (e : CqEntry) : State :=
  let n := s.get (Obj.CQ_CONFIG_CQ_SIZE cq)
  let tail := s.get (Obj.CQ_CONFIG_CQ_TAIL cq)
  let s := s.set (Obj.CQ_CONFIG_CQ_TAIL cq) ((tail + 2 ^ (n + 1) - 1) % 2 ^ (n + 1))
  let s := s.set (Obj.CQ_CONFIG_CQ_ENTRIES cq) ((s.get (Obj.CQ_CONFIG_CQ_ENTRIES cq) + 2 ^ 64 - 1) % 2 ^ 64)
  let s := s.setCq cq { s.cq cq with last := none, unsignalled := (s.cq cq).unsignalled.dropLast }
  ((s.cqError cq).stashAdd cq e).stopSqs cq

/-- CQ_STASH_DRAIN (R412, R414, R416): as this instant ends one entry drains, 4 ns after the last, of a ring that learn events do not use;
`ok` 0: the write of an entry has failed, that of the oldest one in the stash or, with an empty stash, of the one that the ring got last and the
host has not taken (log entry 191). -/
def execCqStashDrain (cq : Fin 1024) (ok : Bool) (s : State) : Out :=
  s.inCore fun s =>
    let early : Bool := match (s.cq cq).drained with
      | some t => Nat.blt s.time.now (t + 4)
      | none => false
    if s.get (Obj.CQ_CONFIG_CQ_ENABLE cq) = 0 ∨ s.get (Obj.CQ_CONFIG_CQ_STATE cq) = 3 then s
    else match (s.cq cq).stash, (s.cq cq).last with
      | [], some e => if ok = true ∨ s.get (Obj.CQ_CONFIG_CQ_HEAD cq) = s.get (Obj.CQ_CONFIG_CQ_TAIL cq) then s else s.writeFailed cq e
      | [], none => s
      | _ :: _, _ =>
        if s.boundTables cq ≠ [] ∨ s.cqRoom cq = 0 ∨ early = true then s
        else if ok then s.drainDue cq
        else s.cqError cq

/-- CQ_COALESCE_TIMEOUT (R411). -/
def execCqCoalesceTimeout (cq : Fin 1024) (s : State) : Out := s.inCore fun s => s.cqSignal cq

/-- The masks of a function's vectors with one set or cleared (R411). -/
def MsixState.masked (m : MsixState) (fn : Nat) : MsixMask → MsixState
  | .vector v true => { m with unmasked := m.unmasked.filter fun k => k != vecKey fn v }
  | .vector v false =>
    { m with unmasked := if m.unmasked.contains (vecKey fn v) ∨ vectorsOf fn ≤ v.val then m.unmasked else vecKey fn v :: m.unmasked }
  | .function true => { m with fnMasked := if m.fnMasked.contains fn then m.fnMasked else fn :: m.fnMasked }
  | .function false => { m with fnMasked := m.fnMasked.filter (· != fn) }

/-- A mask of a function changes (R411): recorded signals that nothing masks any longer are delivered. -/
def State.setMask (s : State) (fn : Nat) (c : MsixMask) : State :=
  let m := s.msix.masked fn c
  let ready := fun (k : Nat) => Nat.beq (k / 1024) fn && !m.fnMasked.contains fn && m.unmasked.contains k
  let s : State := (s.withMsix { m with pba := m.pba.filter fun k => !ready k })
  forEach (m.pba.filter ready) s fun s k => s.emit (.msix (k / 1024) (k % 1024))

/-- MSIX_UNMASK (R411): the host clears a vector's mask, or the function's, or sets it again; recorded signals are delivered. -/
def execMsixUnmask (fn : Fin 33) (mask : MsixMask) (s : State) : Out := s.inCore fun s => s.setMask fn mask

/-- Entry of the MSI-X table (R390): message address and data, and the vector's mask in bit 96. -/
def State.msixEntry (s : State) (fn v : Nat) : Nat :=
  Table.get (fun _ => 0) s.msix.table (vecKey fn v) + ofBool (!s.msix.unmasked.contains (vecKey fn v)) * 2 ^ 96

/-- A write in BAR4 (R390, R411): of whole words of a table entry; the PBA is the device's. -/
def State.bar4Write (s : State) (fn offset size value : Nat) : State :=
  let v := offset / 16
  if 16 * vectorsOf fn ≤ offset ∨ (size ≠ 4 ∧ size ≠ 8) then s
  else
    let image := setBits (s.msixEntry fn v) (8 * (offset % 16)) (8 * size) value
    let s : State := s.withMsix { s.msix with table := Table.put (fun _ => 0) s.msix.table (vecKey fn v) (image % 2 ^ 96) }
    s.setMask fn (.vector (Fin.ofNat 1024 v) (image.testBit 96))

/-- What a read of BAR2 or BAR4 returns (R390): 0 from BAR2; the MSI-X table, and the pending bits from the middle of BAR4 on. -/
def State.barValue (s : State) (fn bar offset size : Nat) : Nat :=
  let half := barBytes fn 4 / 2
  if bar ≠ 4 then 0
  else if offset < 16 * vectorsOf fn then bits (s.msixEntry fn (offset / 16)) (8 * (offset % 16)) (8 * size)
  else if half ≤ offset then
    (List.range (8 * size)).foldl (fun a i => a + ofBool (s.msix.pba.contains (vecKey fn (8 * (offset - half) + i)) && Nat.blt (8 * (offset - half) + i) (vectorsOf fn)) * 2 ^ i) 0
  else 0

/-- A write of a function's BAR2 or BAR4. -/
def State.barWrite (s : State) (fn bar offset size value : Nat) : State :=
  if bar = 2 then s.bar2Write fn offset size value else s.bar4Write fn offset size value

/-- The SQ a master has selected (R417). -/
def State.selectedSq (s : State) (master : Nat) : Option Nat :=
  let n := s.get (Obj.SQ_CONFIG_SQ_SELECT master)
  match functionOf master with
  | some (v + 1) => if n < s.get (Obj.VF_RESOURCES_SQ_COUNT v) then some (s.sqBase (v + 1) + n) else none
  | _ => some n

/-- The CQ a master has selected. -/
def State.selectedCq (s : State) (master : Nat) : Option Nat :=
  let n := s.get (Obj.CQ_CONFIG_CQ_SELECT master)
  match functionOf master with
  | some (v + 1) => if n < s.get (Obj.VF_RESOURCES_CQ_COUNT v) then some (s.cqBase (v + 1) + n) else none
  | _ => some n

/-- SQ_SELECT and CQ_SELECT: a number beyond the master's rings is INVALID (R417). -/
def ruleSelect (count : Nat → Nat) (master key v : Nat) (s : State) : Res :=
  let n := match functionOf master with
    | some (f + 1) => count f
    | _ => 1024
  if v < n then s.plain key v else (.invalid, s)

/-- SQ_BASE, SQ_SIZE and SQ_CQ: BUSY while the ring is enabled; a base is 4,096-byte aligned; SQ_CQ may not name the event ring
(R417, R555). -/
def ruleSqSetting (sq key v : Nat) (s : State) : Res :=
  if s.sqLive sq then (.busy, s)
  else if keySub key = 2 ∧ v % 4096 ≠ 0 then (.invalid, s)
  else if keySub key = 4 ∧ v + s.cqBase (s.sqFn sq) = s.get Obj.EVENT_CTRL_EVENT_CQ then (.invalid, s)
  else s.plain key v

/-- The fetched receive buffers of an SQ that is disabled are aborted (R415). -/
def State.abortRx (s : State) (sq : Nat) : State :=
  s.withHost { s.host with
    jobs := s.host.jobs.map fun j => if Nat.beq j.sq sq && j.rx && j.done.isNone then { j with done := some (Status.aborted.code, 0), doneAt := s.time.now } else j }

/-- SQ_ENABLE of a ring (R415, R417). -/
def ruleSqEnable (sq master v : Nat) (s : State) : Res :=
  if v = 1 then
    if s.on (Obj.SQ_CONFIG_SQ_ENABLE sq) then (.ok, s)
    else if s.sqLive sq then (.busy, s)
    else
      let cq := s.sqCq sq
      if 1024 ≤ cq ∨ s.get (Obj.CQ_CONFIG_CQ_ENABLE cq) = 0 ∨ s.cqFn cq ≠ s.sqFn sq ∨ s.boundTables cq ≠ [] ∨ s.get Obj.EVENT_CTRL_EVENT_CQ = cq then
        (.invalid, s)
      else
        let s := ((s.set (Obj.SQ_CONFIG_SQ_ENABLE sq) 1).set (Obj.SQ_CONFIG_SQ_HEAD sq) 0).set (Obj.SQ_CONFIG_SQ_TAIL sq) 0
        let s : State := (s.withHost { s.host with stopped := s.host.stopped.filter (· != sq) })
        (.ok, s.set (Obj.SQ_CONFIG_SQ_STATE sq) (if (s.cq cq).stash = [] then 1 else 2))
  else if s.on (Obj.SQ_CONFIG_SQ_ENABLE sq) then
    -- the entries up to the tail that are not fetched are read for their completions by the fetch engine
    let s := ((s.abortRx sq).set (Obj.SQ_CONFIG_SQ_ENABLE sq) 0).countJobs
    if s.sqEmpty sq then (.ok, s.set (Obj.SQ_CONFIG_SQ_STATE sq) 0)
    else (.ok, (s.withHost { s.host with disabling := s.host.disabling ++ [⟨sq, master, some .direct⟩] }))
  else (.ok, s)

/-- SQ_ENABLE: the ring the master has selected. -/
def execSqEnable (master value : Nat) (s : State) : Out :=
  match s.selectedSq master with
  | some sq => s.rowWrite master (Obj.SQ_CONFIG_SQ_ENABLE sq) value (ruleSqEnable sq master value)
  | none => s.rowWrite master (Obj.SQ_CONFIG_SQ_ENABLE 0) value fun s => (.invalid, s)

/-- CQ_BASE and CQ_SIZE: BUSY while the ring is enabled (R417). -/
def ruleCqSetting (cq key v : Nat) (s : State) : Res :=
  if s.on (Obj.CQ_CONFIG_CQ_ENABLE cq) then (.busy, s)
  else if keySub key = 2 ∧ v % 4096 ≠ 0 then (.invalid, s)
  else s.plain key v

/-- CQ_VECTOR: beyond the function's vectors is INVALID (R391, R417). -/
def ruleCqVector (cq key v : Nat) (s : State) : Res :=
  if v < vectorsOf (s.cqFn cq) ∨ v = 0xFFFF then (.ok, (s.commit key v).cqSignal cq) else (.invalid, s)

/-- CQ_COAL_COUNT and CQ_COAL_NS: entries that now meet R411 are signalled. -/
def ruleCqCoal (cq key v : Nat) (s : State) : Res := (.ok, (s.commit key v).cqSignal cq)

/-- CQ_ENABLE of a ring (R415): enabling sets both indices to 0 (R393). -/
def ruleCqEnable (cq v : Nat) (s : State) : Res :=
  let clear := fun (s : State) => ((s.set (Obj.CQ_CONFIG_CQ_HEAD cq) 0).set (Obj.CQ_CONFIG_CQ_TAIL cq) 0).setCq cq {}
  if v = 1 then
    if s.on (Obj.CQ_CONFIG_CQ_ENABLE cq) then (.ok, s)
    else (.ok, ((clear s).set (Obj.CQ_CONFIG_CQ_ENABLE cq) 1).set (Obj.CQ_CONFIG_CQ_STATE cq) 1)
  else if s.on (Obj.CQ_CONFIG_CQ_ENABLE cq) then
    if s.boundTables cq ≠ [] ∨ ((List.range 1024).any fun q => s.sqLive q && Nat.beq (s.sqCq q) cq) = true then (.busy, s)
    else (.ok, ((((s.setCq cq {}).stashGone cq).set (Obj.CQ_CONFIG_CQ_STASH cq) 0).set (Obj.CQ_CONFIG_CQ_ENABLE cq) 0).set (Obj.CQ_CONFIG_CQ_STATE cq) 0)
  else (.ok, s)

/-- CQ_ENABLE: the ring the master has selected. -/
def execCqEnable (master value : Nat) (s : State) : Out :=
  match s.selectedCq master with
  | some cq => s.rowWrite master (Obj.CQ_CONFIG_CQ_ENABLE cq) value (ruleCqEnable cq value)
  | none => s.rowWrite master (Obj.CQ_CONFIG_CQ_ENABLE 0) value fun s => (.invalid, s)

/-- HP_RING_C0 to HP_RING_C7: bits [14:10] are reserved; BUSY while the SQ named now or by the write is enabled (R371, R417). -/
def ruleHpRing (key v : Nat) (s : State) : Res :=
  let live := fun (x : Nat) => x.testBit 15 && s.sqLive (x % 1024)
  if bits v 10 5 ≠ 0 then (.invalid, s) else if live (s.get key) || live v then (.busy, s) else s.plain key v

/-- Rings of one kind that VF_RESOURCES lends: their first and count objects, and which are in use. -/
structure Lent where
  first : Nat → Nat
  count : Nat → Nat
  live : Nat → Bool

/-- A write of VF_RESOURCES (R392). -/
def ruleVfResources (vf sub key v : Nat) (s : State) : Res :=
  let sqs : Bool := Nat.ble sub 2
  let k : Lent := if sqs then ⟨fun v => s.get (Obj.VF_RESOURCES_SQ_FIRST v), fun v => s.get (Obj.VF_RESOURCES_SQ_COUNT v), s.sqLive⟩
    else ⟨fun v => s.get (Obj.VF_RESOURCES_CQ_FIRST v), fun v => s.get (Obj.VF_RESOURCES_CQ_COUNT v), fun c => s.on (Obj.CQ_CONFIG_CQ_ENABLE c)⟩
  let first := if sub % 2 = 1 then v else k.first vf
  let count := if sub % 2 = 0 then v else k.count vf
  let overlaps := (List.range 32).any fun u => !Nat.beq u vf && Nat.blt 0 count && Nat.blt 0 (k.count u) &&
    Nat.blt first (k.first u + k.count u) && Nat.blt (k.first u) (first + count)
  let used := (List.range count).any (fun i => k.live (first + i)) || (List.range (k.count vf)).any fun i => k.live (k.first vf + i)
  if overlaps = true ∨ 1024 < first + count then (.invalid, s)
  else if used then (.busy, s)
  else s.plain key v

/-- VF_RESOURCES: subindex 1 + `field`: SQ_FIRST, SQ_COUNT, CQ_FIRST, CQ_COUNT. -/
def execVfResources (vf : Fin 32) (field : Fin 4) (master value : Nat) (s : State) : Out :=
  let key := objKey 0 (0x1130 + vf.val) (1 + field.val)
  s.rowWrite master key value (ruleVfResources vf (1 + field.val) key value)

end Sys2Proof.Machine
end

