-- ==== Sys2Proof/Machine/Mailbox.lean ====
section
/-! DEFINITION. Mailboxes and doorbells (R419 to R434). -/

namespace Sys2Proof.Machine

/-- Identities listed in R7. -/
def listedMaster (m : Nat) : Bool := (classOf m).isSome

/-- Identities with a doorbell of their own. -/
def hasDoorbell (m : Nat) : Bool := listedMaster m && !(Nat.beq m MATE) && !(Nat.beq m DBG)

/-- The doorbell of an identity signals its owner (R426). -/
def State.signalOwner (s : State) (m : Nat) : State :=
  match classOf m with
  | some .s => (s.withCoica { s.coica with notify := true })
  | some .f => (s.bump (Obj.DOORBELL_DB_SIGNALS m)).emit .fwInterrupt
  | some .h | some .v =>
    let v := s.get (Obj.DOORBELL_DB_VECTOR m)
    if v = 0xFFFF then s else (s.bump (Obj.DOORBELL_DB_SIGNALS m)).signal (m - 1) v
  | _ => s

/-- A bit of a doorbell was set in this cycle. -/
def Rung.isBit (m b : Nat) (r : Rung) : Bool := Nat.beq r.owner m && Nat.beq r.bit b

/-- An event on a doorbell bit (R425, R426): the bit latches; whether it signals shows at the end of the cycle (R432). -/
def State.ring (s : State) (m b : Nat) : State :=
  if hasDoorbell m then
    let old := s.get (Obj.DOORBELL_DB_PENDING m)
    let s := s.set (Obj.DOORBELL_DB_PENDING m) (Nat.lor old (2 ^ b))
    if s.host.rung.any (Rung.isBit m b) then s
    else s.withHost { s.host with rung := s.host.rung ++ [⟨m, b, old.testBit b⟩] }
  else s

/-- Doorbell bits of an owner that went from 0 to 1 in this cycle, as a mask. -/
def State.freshBits (s : State) (m : Nat) : Nat :=
  s.host.rung.foldl (fun v r => if r.owner = m ∧ r.was = false then Nat.lor v (2 ^ r.bit) else v) 0

/-- The end of a cycle for the doorbells (R426, R432): each bit that went from 0 to 1 and is pending and unmasked signals its owner. -/
def State.doorbellSignals (s : State) : State :=
  forEach s.host.rung (s.withHost { s.host with rung := [] }) fun s r =>
    if r.was || !(s.get (Obj.DOORBELL_DB_PENDING r.owner)).testBit r.bit || (s.get (Obj.DOORBELL_DB_MASK r.owner)).testBit r.bit then s
    else s.signalOwner r.owner

/-- The identity that sends on a channel now: the bound one, or the holder of a shared channel's lock; 0 for none. -/
def State.channelSender (s : State) (n : Nat) : Nat :=
  let b := s.binding n
  if Fld.BND_SHARED.get b = 1 then s.get (Obj.MAILBOX_LOCK n) else Fld.BND_SENDER.get b

/-- TX_BIT rings the sender. -/
def State.ringSender (s : State) (n : Nat) : State := s.ring (s.channelSender n) (Fld.BND_TX_BIT.get (s.binding n))

/-- A legal binding (R420). -/
def bindingOk (v : Nat) : Bool :=
  let r := Fld.BND_RECEIVER.get v
  let d := Fld.BND_SENDER.get v
  let known := fun (m : Nat) => listedMaster m && !Nat.beq m DBG
  Nat.beq (Fld.BND_VALID.get v) 0 ||
    (known r && (if Fld.BND_SHARED.get v = 1 then Nat.blt 0 d && Nat.blt d 32 else known d && !Nat.beq d r))

/-- A write of a binding (R419, R420); [19:16] read 0. -/
def ruleMbBinding (n v : Nat) (s : State) : Res :=
  let v := setBits v 16 4 0
  if bindingOk v = false then (.invalid, s)
  else if s.get (Obj.MAILBOX_STATE n) = 1 ∧ v ≠ s.binding n then (.busy, s)
  else s.plain (Obj.MB_BINDING_BIND_MB n) v

/-- MB_BINDING. -/
def execMbBinding (channel : Fin 64) (master value : Nat) (s : State) : Out :=
  s.rowWrite master (Obj.MB_BINDING_BIND_MB channel) value (ruleMbBinding channel value)

/-- MSG_k: BUSY while the channel is POSTED (R423). -/
def ruleMailboxMsg (n k v : Nat) (s : State) : Res :=
  if s.get (Obj.MAILBOX_STATE n) = 1 then (.busy, s) else s.plain (Obj.MAILBOX_MSG n k) v

/-- A mate mailbox transfer: what it is, the channel's ACK and its message, in an order of the model's own (R430, log entry 25). -/
inductive MateMail where
  | message | acknowledge | refusal
deriving DecidableEq, Repr

/-- Its code in the transfer. -/
def MateMail.code : MateMail → Nat
  | .message => 0 | .acknowledge => 1 | .refusal => 2

/-- The message bytes of a channel. -/
def State.mailBytes (s : State) (n : Nat) : List Byte := (List.range 4).flatMap fun k => bytesLE 16 (s.get (Obj.MAILBOX_MSG n k))

/-- Sends a mate mailbox transfer. -/
def State.sendMail (s : State) (n : Nat) (m : MateMail) : State :=
  s.sendMate 9 0 0 0 (bytesBE 1 n ++ bytesBE 1 m.code ++ bytesBE 4 (s.get (Obj.MAILBOX_ACK n)) ++
    (if m = .message then s.mailBytes n else []))

/-- A channel whose message the device itself ends: ABORTED with a code, and the sender is rung. -/
def State.abortChannel (s : State) (n code : Nat) : State :=
  ((s.set (Obj.MAILBOX_ACK n) (0x40000000 + code)).set (Obj.MAILBOX_STATE n) 3).ringSender n

/-- A transfer to the partner fails (R424, R430, R434). -/
def State.mateMailFailed (s : State) (n code : Nat) : State := (s.abortChannel n code).raise 0x8105 uMGMT (packArg [(16, n)]) n

/-- SEND (R423, R430): with the mate link down the transfer to the partner fails at once. -/
def ruleSend (n v : Nat) (s : State) : Res :=
  if v ≠ 1 then (.invalid, s)
  else if s.get (Obj.MAILBOX_STATE n) = 1 then (.busy, s)
  else
    let s := ((s.set (Obj.MAILBOX_ACK n) 0).bump (Obj.MAILBOX_POSTS n)).set (Obj.MAILBOX_STATE n) 1
    let b := s.binding n
    if Fld.BND_RECEIVER.get b = MATE then
      (.ok, if s.pair.linkUp then s.sendMail n .message else s.mateMailFailed n 0xFFFE)
    else (.ok, s.ring (Fld.BND_RECEIVER.get b) (Fld.BND_RX_BIT.get b))

/-- SEND. -/
def execSend (channel : Fin 64) (master value : Nat) (s : State) : Out :=
  s.rowWrite master (Obj.MAILBOX_SEND channel) value (ruleSend channel value)

/-- ACK (R423, R424): the codes the device writes may not be written; a partner that sent the message gets the answer (R430). -/
def ruleAck (n v : Nat) (s : State) : Res :=
  if bits v 30 2 ≠ 2 ∨ bits v 16 14 ≠ 0 ∨ 0xFFFD ≤ v % 65536 then (.invalid, s)
  else if s.get (Obj.MAILBOX_STATE n) ≠ 1 then (.busy, s)
  else
    let s := (s.set (Obj.MAILBOX_ACK n) v).set (Obj.MAILBOX_STATE n) 2
    let s := s.withHost { s.host with acked := n :: s.host.acked }
    (.ok, if s.channelSender n = MATE then s.sendMail n .acknowledge else s.ringSender n)

/-- ACK. -/
def execAck (channel : Fin 64) (master value : Nat) (s : State) : Out :=
  s.rowWrite master (Obj.MAILBOX_ACK channel) value (ruleAck channel value)

/-- A read of LOCK by a master that may make it (R427): its value and the state after it. -/
def State.readLock (s : State) (n master : Nat) : Nat × State :=
  let h := s.get (Obj.MAILBOX_LOCK n)
  if Fld.BND_SHARED.get (s.binding n) = 0 ∨ Fld.BND_VALID.get (s.binding n) = 0 then (0, s)
  else if master = DBG then (h, s)
  else if h = 0 then (0, s.set (Obj.MAILBOX_LOCK n) master)
  else if h = master then (0, s)
  else (h, s)

/-- A read of a channel's lock waits for the end of its cycle. -/
def State.lockRead (s : State) (r : LockRead) : State := s.withHost { s.host with lockReads := s.host.lockReads ++ [r] }

/-- Channel whose lock an object is. -/
def lockChannel (key : Nat) : Option Nat :=
  let idx := keyIdx key
  if Nat.ble 0x1160 idx && Nat.blt idx 0x11A0 && Nat.beq (keySub key) 8 then some (idx - 0x1160) else none

/-- LOCK_READ (R427): an access the channel refuses is DENIED (R422); a read that is let through is answered at the end of its cycle,
after every release of the cycle and in ascending order of the readers (R12, R432). -/
def execLockRead (channel : Fin 64) (master : Nat) (s : State) : Out :=
  let path := pathOf master
  let key := Obj.MAILBOX_LOCK channel
  .next (
    if s.unreached master then s
    else if s.waits path master true then s.hold ⟨master, keyIdx key, 8, 0, 16, none⟩
    else match s.checkRead path master key with
      | .ok => s.lockRead ⟨channel, master, .master⟩
      | st => (if path = .window then s.noteRefused master key st else s).answer master key st)

/-- A write of LOCK (R428). -/
def ruleLock (n master v : Nat) (s : State) : Res :=
  if Fld.BND_SHARED.get (s.binding n) = 0 then (.ok, s)
  else if v ≠ 0 then (.invalid, s)
  else if s.get (Obj.MAILBOX_LOCK n) = master then s.plain (Obj.MAILBOX_LOCK n) 0
  else (.busy, s)

/-- LOCK_RELEASE. -/
def execLockRelease (channel : Fin 64) (master value : Nat) (s : State) : Out :=
  s.rowWrite master (Obj.MAILBOX_LOCK channel) value (ruleLock channel master value)

/-- A W1C write of DB_PENDING (R426): a bit that an event of the same cycle sets stays set and signals again (R432). -/
def ruleDbPending (master v : Nat) (s : State) : Res :=
  let k := Obj.DOORBELL_DB_PENDING master
  let hit := fun (r : Rung) => Nat.beq r.owner master && v.testBit r.bit
  let again := s.host.rung.foldl (fun w r => if hit r then Nat.lor w (2 ^ r.bit) else w) 0
  let s := s.withHost { s.host with rung := s.host.rung.map fun r => if hit r then { r with was := false } else r }
  s.plain k (Nat.lor (s.get k - Nat.land (s.get k) v) again)

/-- DB_PENDING_CLEAR. -/
def execDbPendingClear (master value : Nat) (s : State) : Out :=
  s.rowWrite master (Obj.DOORBELL_DB_PENDING master) value (ruleDbPending master value)

/-- A write of DB_MASK that unmasks a pending bit signals (R426); a bit that an event of the same cycle sets signals with that event,
under the new mask (R432). -/
def ruleDbMask (master v : Nat) (s : State) : Res :=
  let old := s.get (Obj.DOORBELL_DB_MASK master)
  let s := s.commit (Obj.DOORBELL_DB_MASK master) v
  let due := Nat.land (s.get (Obj.DOORBELL_DB_PENDING master)) (old - Nat.land old v)
  let fresh := due - Nat.land due (s.freshBits master)
  (.ok, if fresh = 0 then s else s.signalOwner master)

/-- DB_MASK. -/
def execDbMask (master value : Nat) (s : State) : Out :=
  s.rowWrite master (Obj.DOORBELL_DB_MASK master) value (ruleDbMask master value)

/-- DB_VECTOR: a number beyond the function's vectors is INVALID (R391). -/
def ruleDbVector (master v : Nat) (s : State) : Res :=
  if v = 0xFFFF ∨ v < vectorsOf (master - 1) then s.plain (Obj.DOORBELL_DB_VECTOR master) v else (.invalid, s)

/-- Zeroes a channel's message. -/
def State.zeroMail (s : State) (n : Nat) : State := forEach (List.range 4) s fun s k => s.set (Obj.MAILBOX_MSG n k) 0

/-- A channel whose receiver is reset (R429): acknowledged in the same cycle it stays ACKED (R432). -/
def State.receiverReset (s : State) (n : Nat) : State :=
  let st := s.get (Obj.MAILBOX_STATE n)
  if s.host.acked.contains n then s
  else if st = 1 ∨ st = 2 then ((s.zeroMail n).abortChannel n 0xFFFF).raise 0x8104 uMGMT (packArg [(16, n)]) n else s

/-- A channel whose sender is reset (R429). -/
def State.senderReset (s : State) (n : Nat) : State :=
  let b := s.binding n
  let r := Fld.BND_RECEIVER.get b
  let bit := Fld.BND_RX_BIT.get b
  let s := (s.zeroMail n).set (Obj.MAILBOX_STATE n) 0
  let keep := (List.range 64).any fun m => Nat.beq (s.get (Obj.MAILBOX_STATE m)) 1 && Nat.beq (Fld.BND_RECEIVER.get (s.binding m)) r &&
    Nat.beq (Fld.BND_RX_BIT.get (s.binding m)) bit && Nat.beq (Fld.BND_VALID.get (s.binding m)) 1
  if hasDoorbell r = true ∧ keep = false then
    s.set (Obj.DOORBELL_DB_PENDING r) (setBits (s.get (Obj.DOORBELL_DB_PENDING r)) bit 1 0)
  else s

/-- What the reset of an identity does to the channels and to its doorbell (R429): the holder of a shared channel's lock may be its
receiver too. A lock it holds is released, also one kept while a channel is bound otherwise (R428). -/
def State.resetIdentityNow (s : State) (id : Nat) : State :=
  let s := forEach (List.range 64) s fun s n =>
    let b := s.binding n
    let s :=
      if Fld.BND_VALID.get b = 0 then s
      else
        let s := if Fld.BND_RECEIVER.get b = id then s.receiverReset n else s
        if s.channelSender n = id ∧ id ≠ 0 then s.senderReset n else s
    if s.get (Obj.MAILBOX_LOCK n) = id ∧ id ≠ 0 then s.set (Obj.MAILBOX_LOCK n) 0 else s
  if hasDoorbell id then
    let s := (s.set (Obj.DOORBELL_DB_PENDING id) 0).set (Obj.DOORBELL_DB_MASK id) 0xFFFFFFFF
    if id = SUPV then (s.withCoica { s.coica with notify := false }) else s
  else s

/-- An identity is reset for its mailboxes (R429): what the same cycle sends or acknowledges comes first (R432). -/
def State.resetIdentity (s : State) (id : Nat) : State :=
  if s.host.resetting.contains id then s else s.withHost { s.host with resetting := s.host.resetting ++ [id] }

/-- The resets of identities of a cycle take effect (R429, R432). -/
def State.applyResets (s : State) : State :=
  forEach s.host.resetting (s.withHost { s.host with resetting := [] }) fun s id => s.resetIdentityNow id

end Sys2Proof.Machine
end

