-- ==== Sys2Proof/Machine/Coica.lean ====
section
/-! DEFINITION. The Coica MAC: frames, the token ring, claims, solicit windows, the known set, polls, emergencies and wake patterns
(R435 to R450, R455 to R460). -/

namespace Sys2Proof.Machine

/-- STATE of the station (R460). -/
abbrev csLISTEN : Nat := 0
/-- CLAIMING. -/
abbrev csCLAIMING : Nat := 1
/-- IN_RING. -/
abbrev csINRING : Nat := 2
/-- HOLDING. -/
abbrev csHOLDING : Nat := 3
/-- SLAVE. -/
abbrev csSLAVE : Nat := 4
/-- SILENT. -/
abbrev csSILENT : Nat := 5

/-- Frame types (R438). -/
abbrev fcTOKEN : Nat := 0x01
/-- CLAIM. -/
abbrev fcCLAIM : Nat := 0x02
/-- SOLICIT. -/
abbrev fcSOLICIT : Nat := 0x03
/-- SET_SUCCESSOR. -/
abbrev fcSETSUCC : Nat := 0x04
/-- POLL. -/
abbrev fcPOLL : Nat := 0x10
/-- OD_REQUEST. -/
abbrev fcODREQ : Nat := 0x20

/-- The station's address. -/
def State.station (s : State) : Nat := s.get Obj.COICA_STATION_STATION_ADDR
/-- STATE. -/
def State.cmbState (s : State) : Nat := s.get Obj.COICA_STATION_STATE
/-- Sets it. -/
def State.setCmb (s : State) (v : Nat) : State := s.set Obj.COICA_STATION_STATE v

/-- The bytes of a frame from FC to FCS (R437). -/
def cmbFrame (da sa type : Nat) (payload : List Byte) : List Byte :=
  let body := bytesBE 1 type ++ bytesBE 1 da ++ bytesBE 1 sa ++ bytesBE 2 payload.length ++ payload
  body ++ bytesBE 4 (crc32 body)

/-- Sends a frame; a station in SILENT or in its silence after jabber sends nothing (R440, R446). A frame follows the carrier before
it after 2 µs and lasts 640 ns a byte (R437). -/
def State.cmbSend (s : State) (da type : Nat) (payload : List Byte) : State :=
  if s.coica.silentUntil.isSome = true ∨ s.cmbState = csSILENT then s
  else
    let s : State := (s.withCoica { s.coica with carrier := max s.time.now (s.coica.carrier + 2000) + 640 * (13 + payload.length) })
    (s.emit (.coica (cmbFrame da s.station type payload))).bump Obj.COICA_STATS_FRAMES_TX

/-- A is a supervisor address. -/
def State.isSupv (s : State) (a : Nat) : Bool :=
  !Nat.beq a 0 && (Nat.beq a (s.get Obj.COICA_STATION_SUPV_ADDR_A) || Nat.beq a (s.get Obj.COICA_STATION_SUPV_ADDR_B))

/-- Bit of an address in KNOWN_LO and KNOWN_HI. -/
def State.knownBit (s : State) (a : Nat) : Bool :=
  if a < 64 then (s.get Obj.COICA_STATION_KNOWN_LO).testBit a else (s.get Obj.COICA_STATION_KNOWN_HI).testBit (a - 64)

/-- Sets it. -/
def State.setKnownBit (s : State) (a v : Nat) : State :=
  if a < 64 then s.set Obj.COICA_STATION_KNOWN_LO (setBits (s.get Obj.COICA_STATION_KNOWN_LO) a 1 v)
  else s.set Obj.COICA_STATION_KNOWN_HI (setBits (s.get Obj.COICA_STATION_KNOWN_HI) (a - 64) 1 v)

/-- An address is in the known set (R449): the supervisors' from the start, the others once observed (log entry 26). -/
def State.known (s : State) (a : Nat) : Bool := s.knownBit a || (s.isSupv a && !s.coica.gone.contains a)

/-- The known set as KNOWN_LO and KNOWN_HI show it: 64 addresses from `base` upward (R460). -/
def State.knownMask (s : State) (base : Nat) : Nat :=
  (List.range 64).foldl (fun v k => if s.known (base + k) then Nat.lor v (2 ^ k) else v) 0

/-- An address is heard now. -/
def State.hear (s : State) (a : Nat) : State :=
  (s.withCoica { s.coica with heard := Table.put (fun _ => 0) s.coica.heard a s.time.now })

/-- An address joins the known set, or is refreshed in it (R449). -/
def State.learnKnown (s : State) (a : Nat) : State :=
  if a = 0 ∨ 126 < a ∨ a = s.station then s
  else ((s.withCoica { s.coica with gone := s.coica.gone.filter (· != a) }).setKnownBit a 1).hear a

/-- An address leaves the known set: a supervisor's resets SUPV for mailboxes (R449). -/
def State.leaveKnown (s : State) (a : Nat) : State :=
  let s := s.setKnownBit a 0
  if s.isSupv a then
    let s : State := (s.withCoica { s.coica with gone := a :: s.coica.gone.filter (· != a) })
    (s.resetIdentity SUPV).raise 0x8111 uAON (packArg [(16, a)])
  else s

/-- Addresses known besides the station's own. -/
def State.others (s : State) : List Nat := (List.range 127).filter fun a => Nat.blt 0 a && !Nat.beq a s.station && s.known a

/-- The next lower known address below `a`, wrapping from lowest to highest; 0 when none is known (R444). -/
def State.nextLower (s : State) (a : Nat) : Nat :=
  match ((s.others.filter fun x => Nat.blt x a).reverse).head? with
  | some x => x
  | none => (s.others.reverse).headD 0

/-- An address k above `a`, wrapping from 126 to 1. -/
def cmbUp (a k : Nat) : Nat := (a + k + 125) % 126 + 1

/-- The range strictly between a successor and a station: its first address and how many (R448). -/
def solicitRange (self succ : Nat) : Nat × Nat := (cmbUp succ 1, if succ = self then 125 else (self + 125 - succ) % 126)

/-- Opens a window on a range. -/
def State.openWindow (s : State) (lo count lowerLo lower : Nat) : State :=
  let s := s.cmbSend 127 fcSOLICIT (bytesBE 1 lo ++ bytesBE 1 (cmbUp lo (count - 1)) ++ bytesBE 1 (s.get Obj.COICA_STATION_SUCCESSOR))
  (s.withCoica { s.coica with window := some ⟨lo, count, lowerLo, lower, none⟩ })

/-- Image of an EMERGENCY record (R455). -/
def emergImage (r : EventRec) : List Byte :=
  bytesBE 2 r.code ++ bytesBE 2 r.unit ++ bytesBE 10 r.time ++ bytesBE 2 (r.num % 65536) ++ bytesBE 8 r.arg ++ bytesBE 8 0

/-- Time of a frame with the gap before it, in ns (R437). -/
def frameNs (payload : Nat) : Nat := 2000 + 640 * (13 + payload)

/-- Sends the queued emergencies that fit within the time left, up to 16 in a frame; answers the time used. -/
def State.sendEmergencies (s : State) (left : Nat) : Nat × State :=
  let n := if s.coica.silentUntil.isSome then 0 else ((List.range 17).filter fun k => Nat.ble k s.coica.emerg.length && Nat.ble (frameNs (32 * k)) left).foldl max 0
  if n = 0 then (0, s)
  else
    let l := s.coica.emerg.take n
    let s : State := (s.withCoica { s.coica with emerg := s.coica.emerg.drop n })
    (frameNs (32 * n), (s.cmbSend 127 0x30 (l.flatMap emergImage)).bump Obj.COICA_STATS_EMERG_SENT n)

/-- Where a DB_NOTIFY goes: SUPV_ADDR_A, or SUPV_ADDR_B when it is outside the known set; 0 for nowhere (R456, R460). -/
def State.notifyTo (s : State) : Nat :=
  let a := s.get Obj.COICA_STATION_SUPV_ADDR_A
  if s.known a then a else s.get Obj.COICA_STATION_SUPV_ADDR_B

/-- Sends a DB_NOTIFY that is due (R456); destination 0 is not sent (R437), and it stays due. -/
def State.sendNotify (s : State) (left : Nat) : Nat × State :=
  let da := s.notifyTo
  if s.coica.notify = false ∨ left < frameNs 4 ∨ da = 0 ∨ s.coica.silentUntil.isSome = true then (0, s)
  else
    let s : State := (s.withCoica { s.coica with notify := false })
    (frameNs 4, (s.cmbSend da 0x31 (bytesBE 4 (s.get (Obj.DOORBELL_DB_PENDING SUPV)))).bump (Obj.DOORBELL_DB_SIGNALS SUPV))

/-- Passes the token to the successor (R442). -/
def State.passToken (s : State) : State :=
  let s := (s.cmbSend (s.get Obj.COICA_STATION_SUCCESSOR) fcTOKEN []).setCmb csINRING
  (s.withCoica { s.coica with passing := some 0, passEnd := s.coica.carrier })

/-- A token visit (R443, R448, R459, R460): what is queued is sent while it fits, then the token is passed; a window that does not fit
waits for the next visit. A station that knows no other
master solicits the whole range and keeps the token (R444). In the silence after jabber a holder sends nothing (R440). -/
def State.visit (s : State) : State :=
  if s.coica.silentUntil.isSome then s.setCmb csHOLDING
  else
  let s : State := ((s.withCoica { s.coica with
    visits := s.coica.visits + 1, age := s.get Obj.COICA_STATION_KNOWN_AGE_MS, emergClass := s.get Obj.COICA_STATION_EMERG_CLASS })).setCmb csHOLDING
  let hold := s.get Obj.COICA_STATION_TOKEN_HOLD_US * 1000 - 2000
  let (t1, s) := s.sendEmergencies hold
  let (t2, s) := s.sendNotify (hold - t1)
  let succ := s.get Obj.COICA_STATION_SUCCESSOR
  let every := s.get Obj.COICA_STATION_SOLICIT_EVERY
  let (lo, n) := solicitRange s.station succ
  let alone : Bool := Nat.beq succ s.station || Nat.beq succ 0
  if alone then (if every = 0 then s else let (lo, n) := solicitRange s.station s.station; s.openWindow lo n 0 0)
  else
    let due : Bool := every != 0 && Nat.blt 0 n && (s.coica.solicitDue || Nat.beq (s.coica.visits % every) 0)
    let fits : Bool := Nat.ble (frameNs 3 + 10000) (hold - t1 - t2)
    let s : State := (s.withCoica { s.coica with solicitDue := due && !fits })
    if due && fits then s.openWindow lo n 0 0 else s.passToken

/-- A holder that keeps the token, with no window open, makes its next visit when it has something to send or a window to open (R443,
R444, log entry 156). -/
def State.cmbIdle (s : State) : State :=
  if s.cmbState = csHOLDING ∧ s.coica.window = none ∧ s.coica.silentUntil = none ∧
      (s.coica.emerg ≠ [] ∨ (s.coica.notify = true ∧ s.notifyTo ≠ 0) ∨ s.get Obj.COICA_STATION_SOLICIT_EVERY ≠ 0) then s.visit
  else s

/-- The oldest frame for the MAC when it is of a type. -/
def State.takeFrame (s : State) (type : Nat) : Option CoicaFrame × State :=
  match s.coica.rx with
  | f :: l => if f.type = type then (some f, (s.withCoica { s.coica with rx := l })) else (none, s)
  | [] => (none, s)

/-- The station takes part in the token ring. -/
def State.tokenStation (s : State) : Bool := Nat.beq (s.get Obj.COICA_STATION_ROLE) 0 && !Nat.beq s.cmbState csSILENT

/-- TOKEN (R442, R443): the token arrives. A station that was listening takes the successor of the SOLICIT it answered; one that is to
rejoin takes no token before (R441). -/
def execToken (s : State) : Out :=
  .next (
    match s.takeFrame fcTOKEN with
    | (none, s) => s
    | (some f, s) =>
      if f.da ≠ s.station ∨ s.tokenStation = false ∨ s.coica.silentUntil.isSome = true ∨ (s.coica.rejoin = true ∧ s.coica.offered = none) then s
      else
        let s := match s.coica.lastToken with
          | some t => s.set Obj.COICA_STATION_ROTATION_US ((s.time.now - t) / 1000 % 2 ^ 32)
          | none => s
        let s := match s.coica.offered with
          | some ns => s.set Obj.COICA_STATION_SUCCESSOR ns
          | none => if s.get Obj.COICA_STATION_SUCCESSOR = 0 then
              (let a := s.nextLower s.station; s.set Obj.COICA_STATION_SUCCESSOR (if a = 0 then s.station else a)) else s
        let s : State := (s.withCoica { s.coica with
          lastToken := some s.time.now, offered := none, rejoin := false, round := none, window := none, passing := none })
        s.visit)

/-- Leaves every activity of the ring. -/
def State.cmbQuiet (s : State) : State :=
  (s.withCoica { s.coica with window := none, passing := none, round := none, offered := none })

/-- CLAIM (R445, R446): with `own` the device's CLAIM reads back, intact or garbled; else the oldest frame is another station's. -/
def execClaim (own : Option Bool) (s : State) : Out :=
  .next (
    match own with
    | some intact =>
      if s.cmbState ≠ csCLAIMING ∨ s.coica.round ≠ some 4 then s
      else if intact then
        let s := (((s.cmbQuiet).bump Obj.COICA_STATS_CLAIMS_WON).raise 0x8003 uAON 0).set Obj.COICA_STATION_SUCCESSOR s.station
        s.visit
      else ((((s.cmbQuiet).setCmb csSILENT).bump Obj.COICA_STATS_DUP_ADDRESS).raise 0x8202 uAON 0)
    | none =>
      match s.takeFrame fcCLAIM with
      | (none, s) => s
      | (some _, s) => if s.cmbState = csCLAIMING then (s.cmbQuiet).setCmb csLISTEN else s)

/-- SOLICIT (R448): a listening station in the range answers. -/
def execSolicit (s : State) : Out :=
  .next (
    match s.takeFrame fcSOLICIT with
    | (none, s) => s
    | (some f, s) =>
      let lo := byteAt f.payload 0
      let hi := byteAt f.payload 1
      let inRange := Nat.ble ((s.station + 126 - lo) % 126) ((hi + 126 - lo) % 126)
      if s.tokenStation = true ∧ s.cmbState = csLISTEN ∧ inRange = true then
        let s := s.cmbSend f.sa fcSETSUCC []
        (s.withCoica { s.coica with offered := some (byteAt f.payload 2) })
      else (s.withCoica { s.coica with offered := none }))

/-- SET_SUCCESSOR (R448): an intact answer in the device's own window admits its sender. -/
def execSetSuccessor (s : State) : Out :=
  .next (
    match s.takeFrame fcSETSUCC with
    | (none, s) => s
    | (some f, s) =>
      match s.coica.window with
      | none => s
      | some w =>
        let inRange := Nat.blt ((f.sa + 126 - w.lo) % 126) w.count
        if s.cmbState = csHOLDING ∧ f.da = s.station ∧ w.answered = none ∧ inRange = true then
          let s : State := (s.withCoica { s.coica with window := some { w with answered := some f.sa } })
          (s.set Obj.COICA_STATION_SUCCESSOR f.sa).learnKnown f.sa
        else s)

/-- The solicit resolution is over. -/
def State.endSolicit (s : State) : State :=
  let s : State := (s.withCoica { s.coica with window := none })
  let succ := s.get Obj.COICA_STATION_SUCCESSOR
  if succ = s.station ∨ succ = 0 then s.visit else s.passToken

/-- The window that the device has answered ends: with its answer intact it takes NS as its successor and is in the ring (R448). -/
def State.admitted (s : State) (garbled : Bool) : State :=
  match s.coica.offered with
  | none => s
  | some ns =>
    if s.cmbState ≠ csLISTEN ∨ s.time.now < s.coica.carrier then s
    else if garbled then (s.withCoica { s.coica with offered := none })
    else ((s.withCoica { s.coica with offered := none, rejoin := false }).set Obj.COICA_STATION_SUCCESSOR ns).setCmb csINRING

/-- SOLICIT_WINDOW_END (R448): a window closes answered, garbled or silent: the device's own, or the one it has answered. -/
def execSolicitWindowEnd (garbled : Bool) (s : State) : Out :=
  .next (
    match s.coica.window with
    | none => s.admitted garbled
    | some w =>
      if s.cmbState ≠ csHOLDING then s
      else if w.answered.isSome then s.endSolicit
      else if garbled = false ∧ s.time.now < s.coica.carrier + 10000 then s
      else if garbled then
        let s := s.bump Obj.COICA_STATS_SOLICIT_COLLISIONS
        if w.count ≤ 1 then s.endSolicit
        else s.openWindow (cmbUp w.lo (w.count / 2)) (w.count - w.count / 2) w.lo (w.count / 2)
      else if 0 < w.lower then s.openWindow w.lowerLo w.lower 0 0
      else s.endSolicit)

/-- TOKEN_PASS_TIMEOUT (R444): the successor has started no frame within S of the TOKEN. -/
def execTokenPassTimeout (s : State) : Out :=
  .next (
    match s.coica.passing with
    | none => s
    | some n =>
      if s.cmbState ≠ csINRING ∨ s.time.now < s.coica.passEnd + 10000 ∨ s.coica.silentUntil.isSome = true then s
      else if n = 0 then
        let s := s.cmbSend (s.get Obj.COICA_STATION_SUCCESSOR) fcTOKEN []
        (s.withCoica { s.coica with passing := some 1, passEnd := s.coica.carrier })
      else
        let a := s.get Obj.COICA_STATION_SUCCESSOR
        let s := (s.bump Obj.COICA_STATS_PASS_FAILURES).leaveKnown a
        let b := s.nextLower a
        if b = 0 then
          let s : State := (s.withCoica { s.coica with passing := none })
          (s.set Obj.COICA_STATION_SUCCESSOR s.station).visit
        else (s.set Obj.COICA_STATION_SUCCESSOR b).passToken)

/-- Address bits that set a contender's pad in a claim round (R445). -/
def claimValue (addr round : Nat) : Nat :=
  match round with
  | 0 => bits addr 5 2
  | 1 => bits addr 3 2
  | 2 => bits addr 1 2
  | _ => bits addr 0 1

/-- The pad of a claim round: 2v slots of carrier. -/
def State.claimPad (s : State) (round : Nat) : State :=
  let s : State := (s.withCoica { s.coica with round := some round })
  let v := claimValue s.station round
  if v = 0 ∨ s.coica.silentUntil.isSome = true then s
  else (s.withCoica { s.coica with carrier := s.coica.roundAt + 20000 * v }).emit (.carrier (20000 * v))

/-- TOKEN_LOST (R445): no carrier for 8 S. A station that is to rejoin finds no ring to rejoin and claims. -/
def execTokenLost (s : State) : Out :=
  .next (
    if s.tokenStation = true ∧ (s.cmbState = csLISTEN ∨ s.cmbState = csINRING ∨ s.cmbState = csHOLDING) ∧ s.coica.ignoring = false ∧
        s.coica.carrier + 80000 ≤ s.time.now then
      let s := ((((s.cmbQuiet).setCmb csCLAIMING).bump Obj.COICA_STATS_CLAIMS).raise 0x8106 uAON 0)
      (s.withCoica { s.coica with roundAt := s.time.now, rejoin := false }).claimPad 0
    else s)

/-- CLAIM_ROUND (R445): the station's sample slot, after its pad of 2v slots, found carrier (`carrier`), and it has lost; or a round of 7 S
ends. -/
def execClaimRound (carrier : Bool) (s : State) : Out :=
  .next (
    match s.coica.round with
    | none => s
    | some r =>
      if s.cmbState ≠ csCLAIMING ∨ 4 ≤ r then s
      else if carrier then
        (if s.time.now < s.coica.roundAt + 20000 * claimValue s.station r then s
        else ((s.withCoica { s.coica with carrier := s.time.now }).cmbQuiet).setCmb csLISTEN)
      else if s.time.now < s.coica.roundAt + 70000 then s
      else if r < 3 then (s.withCoica { s.coica with roundAt := s.coica.roundAt + 70000 }).claimPad (r + 1)
      else
        let s := s.cmbSend 127 fcCLAIM []
        (s.withCoica { s.coica with round := some 4 }))

/-- POLL (R450): in slave role a supervisor's POLL is answered with the state of the queue and its oldest record. -/
def execPoll (s : State) : Out :=
  .next (
    match s.takeFrame fcPOLL with
    | (none, s) => s
    | (some f, s) =>
      if s.get Obj.COICA_STATION_ROLE ≠ 1 ∨ f.da ≠ s.station ∨ s.isSupv f.sa = false then s
      else
        let head := bytesBE 1 s.coica.emerg.length ++ bytesBE 4 (s.get (Obj.DOORBELL_DB_PENDING SUPV))
        if s.coica.silentUntil.isSome then s
        else match s.coica.emerg with
        | [] => s.cmbSend f.sa 0x11 (head ++ bytesBE 32 0)
        | r :: l =>
          let s : State := (s.withCoica { s.coica with emerg := l })
          (s.cmbSend f.sa 0x11 (head ++ emergImage r)).bump Obj.COICA_STATS_EMERG_SENT)

/-- TX_JABBER (R440). -/
def execTxJabber (s : State) : Out :=
  .next
    (((s.withCoica { s.coica with silentUntil := some (s.time.now + 100 * ms) }).bump Obj.COICA_STATS_TX_JABBER).raise 0x8108 uAON 0)

/-- JABBER_SILENCE_END (R440). -/
def execJabberSilenceEnd (s : State) : Out :=
  .next (
    match s.coica.silentUntil with
    | some t => if t ≤ s.time.now then (s.withCoica { s.coica with silentUntil := none }) else s
    | none => s)

/-- RX_JABBER (R440): the bus is ignored until the carrier stops. -/
def execRxJabber (s : State) : Out :=
  .next (((s.withCoica { s.coica with ignoring := true, carrier := s.time.now }).bump Obj.COICA_STATS_RX_JABBER).raise 0x8108 uAON 0)

/-- JABBER_CARRIER_STOP (R440). -/
def execJabberCarrierStop (s : State) : Out :=
  .next (if s.coica.ignoring then (s.withCoica { s.coica with ignoring := false, carrier := s.time.now }) else s)

/-- KNOWN_AGE (R449): a master that has sent no intact frame for KNOWN_AGE_MS leaves the set. -/
def execKnownAge (address : Fin 127) (s : State) : Out :=
  .next (
    if s.known address = true ∧ Table.get (fun _ => 0) s.coica.heard address + s.coica.age * ms ≤ s.time.now then s.leaveKnown address else s)

/-- STATION_ADDR and ROLE (R441, R446): the device falls silent, and as a token station rejoins under the new values through a solicit
window; from SILENT only a new address leads out. -/
def ruleStation (key v : Nat) (s : State) : Res :=
  let s := (s.commit key v).cmbQuiet
  let slave : Bool := s.on Obj.COICA_STATION_ROLE
  let s : State := (s.withCoica { s.coica with
    rx := []
    rejoin := !slave
    age := if slave then s.get Obj.COICA_STATION_KNOWN_AGE_MS else s.coica.age
    emergClass := if slave then s.get Obj.COICA_STATION_EMERG_CLASS else s.coica.emergClass })
  let mute : Bool := Nat.beq s.cmbState csSILENT && Nat.beq key Obj.COICA_STATION_ROLE
  (.ok, (s.set Obj.COICA_STATION_SUCCESSOR 0).setCmb (if mute then csSILENT else if slave then csSLAVE else csLISTEN))

/-- A package reset leads out of SILENT (R446). -/
def State.cmbReset (s : State) : State :=
  if s.cmbState = csSILENT then s.setCmb (if s.on Obj.COICA_STATION_ROLE then csSLAVE else csLISTEN) else s

/-- STATION_ADDR. -/
def execStationAddr (master value : Nat) (s : State) : Out :=
  s.rowWrite master Obj.COICA_STATION_STATION_ADDR value (ruleStation Obj.COICA_STATION_STATION_ADDR value)

/-- ROLE. -/
def execRole (master value : Nat) (s : State) : Out :=
  s.rowWrite master Obj.COICA_STATION_ROLE value (ruleStation Obj.COICA_STATION_ROLE value)

/-- SUPV_ADDR_A and SUPV_ADDR_B: the new address is in the known set (R449). -/
def ruleSupvAddr (key v : Nat) (s : State) : Res :=
  let s := s.commit key v
  (.ok, (s.withCoica { s.coica with gone := s.coica.gone.filter (· != v) }).hear v)

/-- TOKEN_HOLD_US, SOLICIT_EVERY, KNOWN_AGE_MS, EMERG_CLASS: in effect from the next token visit (R460); a slave has none and takes them
at once. -/
def ruleCmbSetting (key v : Nat) (s : State) : Res :=
  let s := s.commit key v
  (.ok, if s.on Obj.COICA_STATION_ROLE then
      (s.withCoica { s.coica with age := s.get Obj.COICA_STATION_KNOWN_AGE_MS, emergClass := s.get Obj.COICA_STATION_EMERG_CLASS })
    else s)

/-- Mask of a wake pattern. -/
def State.wpMask (s : State) (n : Nat) : Nat := s.get (Obj.WAKE_PATTERN_WP_MASK_LO n) + s.get (Obj.WAKE_PATTERN_WP_MASK_HI n) * 2 ^ 64
/-- Bytes of a wake pattern: byte k in bits [8k+7:8k]. -/
def State.wpBytes (s : State) (n : Nat) : Nat := s.get (Obj.WAKE_PATTERN_WP_BYTES_LO n) + s.get (Obj.WAKE_PATTERN_WP_BYTES_HI n) * 2 ^ 512

/-- CRC-16 over the bytes whose mask bit is set, in ascending order (R457). -/
def maskedCrc (mask : Nat) (l : List Byte) : Nat :=
  crc 16 0x1021 0xFFFF ((List.range 128).filterMap fun k => if mask.testBit k then some (l.getD k 0) else none)

/-- WP_CHECK follows every write (R457). -/
def State.wpCheck (s : State) (n : Nat) : State :=
  s.set (Obj.WAKE_PATTERN_WP_CHECK n) (maskedCrc (s.wpMask n) (bytesLE 128 (s.wpBytes n)))

/-- A write of a wake pattern (R457, R460). -/
def ruleWp (n sub key v : Nat) (s : State) : Res :=
  if sub = 1 then
    if v = 1 ∧ s.wpMask n / 2 ^ s.get (Obj.WAKE_PATTERN_WP_LENGTH n) ≠ 0 then (.invalid, s) else (.ok, (s.commit key v).wpCheck n)
  else if s.on (Obj.WAKE_PATTERN_WP_ENABLE n) then (.busy, s)
  else (.ok, (s.commit key v).wpCheck n)

/-- WP_WRITE: subindex 1 + `field`. -/
def execWpWrite (pattern : Fin 8) (field : Fin 6) (master value : Nat) (s : State) : Out :=
  let key := objKey 0 (0x11C0 + pattern.val) (1 + field.val)
  s.rowWrite master key value (ruleWp pattern (1 + field.val) key value)

/-- Compares a frame with the wake patterns (R457). -/
def State.wakeMatch (s : State) (frame : List Byte) : State :=
  forEach (List.range 8) s fun s n =>
    let len := s.get (Obj.WAKE_PATTERN_WP_LENGTH n)
    if s.on (Obj.WAKE_PATTERN_WP_ENABLE n) = true ∧ len ≤ frame.length ∧ maskedCrc (s.wpMask n) (frame.take len) = s.get (Obj.WAKE_PATTERN_WP_CHECK n) then
      ((s.assertWake).bump (Obj.WAKE_PATTERN_WP_MATCHES n)).raise 0x8004 uAON 0
    else s

/-- An OD_RESPONSE payload (R451): status, DONE and data over the request's fields. -/
def odPayload (req : List Byte) (st : Nat) (done : Bool) (length : Nat) (data : List Byte) : List Byte :=
  bytesBE 1 (Nat.lor (byteAt req 0) 128) ++ bytesBE 1 (byteAt req 1) ++ bytesBE 1 st ++ bytesBE 1 (ofBool done) ++
    bytesBE 3 (wordAt req 4 3) ++ bytesBE 1 length ++ bytesBE 4 (wordAt req 8 4) ++ bytesBE 4 0 ++ data

/-- A request that had run on is another request's now: its TXN has been used again (R453). -/
def CoicaRun.replaced (f : CoicaFrame) (payload : List Byte) (r : CoicaRun) : Bool :=
  Nat.beq r.addr f.sa && Nat.beq r.txn (byteAt f.payload 1) && !Nat.beq (byteAt f.payload 0) 0x05 && Nat.beq (byteAt payload 3) 1

/-- Sends a response, and keeps it among the last 8 of a supervisor's address (R453). -/
def State.odSend (s : State) (f : CoicaFrame) (payload : List Byte) : State :=
  let s := s.cmbSend f.sa 0x21 payload
  let s : State := (s.withCoica { s.coica with running := s.coica.running.filter fun r => !r.replaced f payload })
  if s.isSupv f.sa then
    let mine := (⟨f.sa, byteAt f.payload 0, byteAt f.payload 1, payload⟩ : KeptResponse) :: s.coica.kept.filter fun k => Nat.beq k.addr f.sa
    (s.withCoica { s.coica with kept := mine.take 8 ++ s.coica.kept.filter fun k => !Nat.beq k.addr f.sa })
  else s

/-- Answers a request with a status and no data. -/
def State.odStatus (s : State) (f : CoicaFrame) (st : Status) (done : Bool := true) (data : List Byte := []) : State :=
  s.odSend f (odPayload f.payload st.code done (byteAt f.payload 7) data)

/-- The SVC codes of R451. -/
def odServices : List Nat := [0x01, 0x02, 0x03, 0x04, 0x05, 0x10, 0x11, 0x12, 0x13]

/-- Frame types the device knows (R438). -/
def cmbTypes : List Nat := [0x01, 0x02, 0x03, 0x04, 0x10, 0x11, 0x20, 0x21, 0x30, 0x31]

/-- Types on which the MAC acts. -/
def macTypes : List Nat := [0x01, 0x02, 0x03, 0x04, 0x10, 0x20]

/-- Requests that need no service: from a known station that is no supervisor (R452), a repeat of a kept response (R453), an unknown
SVC (R451). None: the request is to be served. -/
def State.odRefuse (s : State) (f : CoicaFrame) : Option State :=
  let svc := byteAt f.payload 0
  let txn := byteAt f.payload 1
  let slave : Bool := s.on Obj.COICA_STATION_ROLE
  if s.isSupv f.sa = false then
    let s := s.bump Obj.COICA_STATS_OD_DENIED
    some (if slave then s else s.odStatus f .denied)
  else
    match s.coica.kept.find? fun k => Nat.beq k.addr f.sa && Nat.beq k.svc svc && Nat.beq k.txn txn with
    | some k => some (s.cmbSend f.sa 0x21 k.payload)
    | none => if odServices.contains svc then none else some (s.odStatus f .invalid)

/-- A frame passed to the MAC (R439, R442, R447, R449): it refreshes the known set, may reveal a second token, may be a stranger's, and
waits for the MAC when it is the device's to act on. A station in SILENT or about to rejoin answers nothing (R441, R446). -/
def State.toMac (s : State) (f : CoicaFrame) : State :=
  let own : Bool := Nat.beq f.da s.station
  let answer : Bool := own && Nat.beq f.type fcSETSUCC && s.coica.window.isSome
  let s := if s.cmbState = csHOLDING ∧ answer = false then
      (((s.cmbQuiet).setCmb csLISTEN).bump Obj.COICA_STATS_DUP_TOKENS).raise 0x8107 uAON 0
    else s
  let inRing : Bool := Nat.beq s.cmbState csINRING || Nat.beq s.cmbState csHOLDING
  let excepted : Bool := Nat.beq f.type fcCLAIM || answer || (Nat.beq f.type fcTOKEN && !inRing)
  let addressed : Bool := own || Nat.beq f.da 127
  if addressed = true ∧ s.known f.sa = false ∧ excepted = false then (s.bump Obj.COICA_STATS_STRANGER_FRAMES).raise 0x8110 uAON (packArg [(16, f.sa)])
  else
    let s := if s.known f.sa then s.hear f.sa else s
    let s := if f.type = fcTOKEN ∨ f.type = fcCLAIM ∨ (f.type = fcSETSUCC ∧ answer = false) then s.learnKnown f.sa else s
    if addressed = false ∨ macTypes.contains f.type = false ∨ (f.type = fcODREQ ∧ own = false) then s
    else if s.cmbState = csSILENT ∨ (s.coica.rejoin = true ∧ f.type ≠ fcSOLICIT ∧ f.type ≠ fcTOKEN) then s
    else if f.type = fcODREQ then
      let s := s.bump Obj.COICA_STATS_OD_REQUESTS
      match s.odRefuse f with
      | some s => s
      | none => (s.withCoica { s.coica with rx := s.coica.rx ++ [f] })
    else (s.withCoica { s.coica with rx := s.coica.rx ++ [f] })

/-- COICA_FRAME_RX (R437 to R439): a frame of bytes FC to FCS ends on the bus; `code`: a code violation, or no end delimiter. A discarded
frame counts as bus activity only: the successor's does not end the wait of R444. -/
def execCoicaFrameRx (frame : List Byte) (code : Bool) (s : State) : Out :=
  .next (
    if s.coica.ignoring then s
    else
      let s : State := (s.withCoica { s.coica with carrier := s.time.now })
      let n := frame.length
      if code then s.bump Obj.COICA_STATS_CODE_ERRORS
      else if n < 9 then s.bump Obj.COICA_STATS_LENGTH_ERRORS
      else if wordAt frame (n - 4) 4 ≠ crc32 (frame.take (n - 4)) then s.bump Obj.COICA_STATS_CRC_ERRORS
      else if 1024 < wordAt frame 3 2 ∨ wordAt frame 3 2 + 9 ≠ n then s.bump Obj.COICA_STATS_LENGTH_ERRORS
      else if cmbTypes.contains (byteAt frame 0) = false then s.bump Obj.COICA_STATS_CODE_ERRORS
      else
        (((s.withCoica { s.coica with passing := none }).bump Obj.COICA_STATS_FRAMES_RX).wakeMatch frame).toMac
          ⟨byteAt frame 0, byteAt frame 1, byteAt frame 2, (frame.drop 5).take (n - 9)⟩)

/-! ### The end of a cycle for the mailboxes -/

/-- The reads of LOCK of a cycle are answered in ascending order of the readers (R12, R427, R432). -/
def State.answerLocks (s : State) : State :=
  let reads := (List.range 64).flatMap fun m => s.host.lockReads.filter fun r => Nat.beq r.master m
  forEach reads (s.withHost { s.host with lockReads := [] }) fun s r =>
    let (v, s) := s.readLock r.channel r.master
    match r.via with
    | .master => s.answer r.master (Obj.MAILBOX_LOCK r.channel) .ok v
    | .job sq index => s.complete sq index .ok v
    | .coica f => s.odStatus f .ok true (bytesBE 1 v)

/-- The end of a cycle for the mailboxes (R432): resets, reads of the lock, signals. -/
def State.mailboxCycle (s : State) : State :=
  let s := s.applyResets.answerLocks.doorbellSignals
  s.withHost { s.host with acked := [] }

end Sys2Proof.Machine
end

