-- ==== Sys2Proof/Machine/Power.lean ====
section
/-! DEFINITION. Power states: the choice of a part's state, entries and wakes, tolerances, pre-wakes and WAKE_N (R497 to R510). -/

namespace Sys2Proof.Machine

/-- A client number is a client now: an enabled line port, a sector, a fabric group (R497). -/
def State.isClient (s : State) (c : Nat) : Bool := clientKind c != .linePort || s.on (Obj.LINE_PORT_PORT_ENABLE c)

/-- Every line port of a sector is OFF or disabled. -/
def State.portsOff (s : State) (n : Nat) : Bool :=
  (List.range 16).all fun k => !s.on (Obj.LINE_PORT_PORT_ENABLE (16 * n + k)) || Nat.beq (s.part (16 * n + k) 0).state 3

/-- A part has work (R500, R502). -/
def State.partBusy (s : State) (c i : Nat) : Bool :=
  match clientKind c with
  | .linePort =>
    !(Table.get (fun _ => ([] : List Pkt)) s.net.egress c).isEmpty || !(Table.get (fun _ => ([] : List Pkt)) s.net.tx c).isEmpty ||
      (Table.get (fun _ => none) s.net.wire c).isSome || !(s.lineOf c).waiting.isEmpty
  | .fabricGroup => (List.range 20).any fun k =>
    let n := 20 * (c - 136) + k
    (s.fl n).ctl.any (fun x => !x.isLink) || !(s.fl n).data.isEmpty ||
      (s.on (Obj.FABRIC_LANE_FL_ENABLE n) && (s.txEntries n).any fun x => match x with
        | some e => s.flowWaits e
        | none => false)
  | .sector =>
    let n := c - 128
    if i < 4 then (s.get (Obj.PIPE_POOL_ACTIVE_MASK n)).testBit i && !(Table.get (fun _ => ([] : List Pkt)) s.net.rx n).isEmpty
    else if i = 4 then (List.range 136).any fun p => Nat.beq (s.egressSector p) n && !(Table.get (fun _ => ([] : List Pkt)) s.net.egress p).isEmpty
    else if i = 5 then !(Table.get (fun _ => ([] : List McJob)) s.net.mc n).isEmpty
    else false

/-- A part may take a state (R497, R500, R502). -/
def State.stateAllowed (s : State) (c i st : Nat) : Bool :=
  match clientKind c with
  | .linePort => Nat.beq st 1 || (Nat.beq st 3 && Nat.beq (s.get (Obj.POWER_CLIENT_PWR_REQ c)) 3)
  | .fabricGroup =>
    Nat.beq st 1 || (Nat.beq st 3 && Nat.beq (s.get (Obj.POWER_CLIENT_PWR_REQ c)) 3 &&
      (List.range 20).all fun k => !s.on (Obj.FABRIC_LANE_FL_ENABLE (20 * (c - 136) + k)))
  | .sector =>
    let n := c - 128
    let named := Nat.beq n (s.get Obj.RECOMP_CTRL_XC_SECTOR) || Nat.beq n (s.get Obj.RESOLUTION_RECIRC_SECTOR) || Nat.beq n (s.get Obj.HOST_CTRL_INJECT_SECTOR)
    if i < 4 then Nat.beq st 1 || !(s.get (Obj.PIPE_POOL_ACTIVE_MASK n)).testBit i
    else if i = 6 then Nat.beq st 3 && (List.range 5).all fun k => Nat.beq (s.part c k).state 3
    else Nat.beq st 1 || (Nat.beq st 3 && s.portsOff n && !(Nat.beq i 4 && named))

/-- Predicted idle time of a part in ns (R501): to the next armed PREWAKE of its client, else the span it has been without work. -/
def State.predictedIdle (s : State) (c i : Nat) : Nat :=
  let now := s.time.tai
  let dues := s.airEntries.flatMap fun e => (s.liveSpans e).filterMap fun v =>
    if Fld.AIR_ACTION.get v.1 = 5 ∧ Fld.AIR_TARGET.get v.1 = c then
      let d := s.dueFrom v.1 (max now v.2.1)
      (match v.2.2 with
      | some e => if d < e then some d else none
      | none => some d)
    else none
  match dues with
  | [] => s.time.now - (s.part c i).idleSince
  | d :: l => l.foldl min d - now

/-- choose(part) of R500; OFF of a line port or fabric group follows PWR_REQ (R502). A tolerance written at this instant applies from the
next evaluation (R506). -/
def State.choosePower (s : State) (c i : Nat) : Nat :=
  let p := s.part c i
  if s.partBusy c i = true ∨ s.time.now < p.holdUntil then 0
  else
    let tol := Table.get objDefault s.dict.cycleObjs (Obj.POWER_CLIENT_LAT_TOL_NS c)
    let k := clientKind c
    let idle := s.predictedIdle c i
    [1, 2, 3].foldl (fun best st =>
      let asked : Bool := Nat.beq st 3 && k != .sector
      if s.stateAllowed c i st = true ∧ (asked = true ∨ (wakeNs k st ≤ tol ∧ breakEven k st ≤ idle)) then st else best) 0

/-- The PREWAKE of this very instant that bars a part from a state: its level and the end of its hold (R506). -/
def State.barsEntry (s : State) (p : PowerPart) (st : Nat) : Option (Nat × Nat) :=
  match p.asked with
  | some (t, level, until') => if t = s.time.now ∧ level < st then some (level, until') else none
  | none => none

/-- One part's turn in an evaluation: it deepens by one state toward the one chosen, unless a PREWAKE of the instant holds it (R506); a
sector's part in an OFF that is not allowed to it any longer wakes. -/
def State.evaluatePart (s : State) (c i : Nat) : State :=
  let p := s.part c i
  if p.waking.isSome ∨ p.blocked = true then s
  else if p.deep = 3 ∧ clientKind c = .sector ∧ s.stateAllowed c i 3 = false then s.wakePart c i
  else if p.entering.isSome then s
  else
    let best := s.choosePower c i
    match [1, 2, 3].find? fun st => Nat.blt p.state st && Nat.ble st best && s.stateAllowed c i st with
    | some st =>
      match s.barsEntry p st with
      | some (level, until') => s.setPart c i { p with holdUntil := until', holdLevel := level }
      | none => s.setPart c i { p with entering := some (st, s.time.now + entryNs st) }
    | none => s

/-- POWER_EVALUATE (R500 to R502, R506): each part of a client deepens by one state toward the one chosen. -/
def execPowerEvaluate (client : Fin 144) (s : State) : Out :=
  s.inCore fun s =>
    if s.isClient client = false then s
    else forEach (List.range (partsOf client)) s fun s i => s.evaluatePart client i

/-- A line port's lanes are powered down (R288). -/
def State.portOff (s : State) (c : Nat) : State :=
  let up : Bool := Nat.beq (s.get (Obj.LINE_PORT_LINK_STATE c)) 1
  let s := (s.set (Obj.LINE_PORT_LINK_STATE c) 2).setLine c { s.lineOf c with good := false, since := s.time.now, remoteFault := false }
  if up then (s.countPort c 0x3E).raise 0x2101 (uLane c) 0 c else s

/-- POWER_ENTRY_DONE (R498). -/
def execPowerEntryDone (client : Fin 144) (part : Fin 7) (s : State) : Out :=
  s.inCore fun s =>
    let p := s.part client part
    match p.entering with
    | some (st, t) =>
      if s.time.now < t then s
      else
        let s := s.setPart client part { p with state := st, entering := none }
        let s := s.bump (Obj.POWER_CLIENT_TRANSITIONS client)
        let s := if client.val < 128 ∧ st = 3 then s.portOff client else s
        s.showPower client
    | none => s

/-- WAKE_DONE (R498): an entry still in progress has completed first. -/
def execWakeDone (client : Fin 144) (part : Fin 7) (s : State) : Out :=
  s.inCore fun s =>
    let p := s.part client part
    match p.waking with
    | some t =>
      if s.time.now < t ∨ p.entering.isSome = true then s
      else
        let was := p.state
        let s := s.setPart client part { p with state := 0, waking := none, idleSince := s.time.now }
        let s := if was = 0 then s else s.bump (Obj.POWER_CLIENT_TRANSITIONS client)
        let s := if client.val < 128 ∧ s.get (Obj.LINE_PORT_LINK_STATE client) = 2 then s.set (Obj.LINE_PORT_LINK_STATE client) 0 else s
        s.showPower client
    | none => s

/-- What the PREWAKEs of an instant ask of a part that none of them finds deeper: the shallower ARG and the later end of the hold (R506). -/
def PowerPart.askedNow (p : PowerPart) (now arg until' : Nat) : Nat × Nat × Nat :=
  match p.asked with
  | some (t, level, u) => if t = now then (now, min level arg, max u until') else (now, arg, until')
  | none => (now, arg, until')

/-- PREWAKE (R505). Where a deepening choice meets it at one instant, the PREWAKE applies and the part is held (R506). -/
def execPrewake (s : State) : Out :=
  .next (
    match s.fire 5 with
    | (none, s) => s
    | (some a, s) =>
      if 144 ≤ a.target ∨ s.isClient a.target = false then s
      else
        let s := s.bump (Obj.POWER_CLIENT_PREWAKES a.target)
        forEach (List.range (partsOf a.target)) s fun s i =>
          let p := s.part a.target i
          let until' := s.time.now + s.get (Obj.POWER_CLIENT_PREWAKE_HOLD_NS a.target)
          if p.deep ≤ a.arg then s.setPart a.target i { p with asked := some (p.askedNow s.time.now a.arg until') }
          else
            let held : Bool := Nat.blt s.time.now p.holdUntil
            let p := { p with
              holdUntil := if held then max p.holdUntil until' else until'
              holdLevel := if held then min p.holdLevel a.arg else a.arg
              entering := if s.entryStarts p = true then none else p.entering }
            let s := s.setPart a.target i p
            if p.entering.isNone = true ∧ p.state ≤ a.arg then s else s.wakePart a.target i)

/-- PREWAKE_HOLD_END (R505). -/
def execPrewakeHoldEnd (client : Fin 144) (s : State) : Out :=
  s.inCore fun s =>
    forEach (List.range (partsOf client)) s fun s i =>
      let p := s.part client i
      if 0 < p.holdUntil ∧ p.holdUntil ≤ s.time.now then s.setPart client i { p with holdUntil := 0, holdLevel := 3 } else s

/-- LAT_TOL_NS (R504): parts whose wake the write makes longer than the tolerance wake, those that PWR_REQ sent to OFF too. -/
def ruleLatTol (c v : Nat) (s : State) : Res :=
  let old := s.get (Obj.POWER_CLIENT_LAT_TOL_NS c)
  let s := s.commit (Obj.POWER_CLIENT_LAT_TOL_NS c) v
  (.ok, forEach (List.range (partsOf c)) s fun s i =>
    let lat := wakeNs (clientKind c) (s.part c i).deep
    if v < lat ∧ lat ≤ old then s.wakePart c i true else s)

/-- LAT_TOL_NS. -/
def execLatTolNs (client : Fin 144) (master value : Nat) (s : State) : Out :=
  s.rowWrite master (Obj.POWER_CLIENT_LAT_TOL_NS client) value (ruleLatTol client value)

/-- PWR_REQ (R502, R510): 3 for line ports and fabric groups alone; 0 starts the wake to RUN. -/
def rulePwrReq (c v : Nat) (s : State) : Res :=
  if v ≠ 0 ∧ (v ≠ 3 ∨ clientKind c = .sector) then (.invalid, s)
  else
    let s := s.commit (Obj.POWER_CLIENT_PWR_REQ c) v
    (.ok, if v = 0 then forEach (List.range (partsOf c)) s fun s i => s.wakePart c i else s)

/-- PWR_REQ. -/
def execPwrReq (client : Fin 144) (master value : Nat) (s : State) : Out :=
  s.rowWrite master (Obj.POWER_CLIENT_PWR_REQ client) value (rulePwrReq client value)

/-- PREWAKE_HOLD_NS. -/
def rulePrewakeHold (c v : Nat) (s : State) : Res := s.plain (Obj.POWER_CLIENT_PREWAKE_HOLD_NS c) v

/-- WAKE_REQ (R509): write only; nothing is stored. -/
def ruleWakeReq (v : Nat) (s : State) : Res := if v = 1 then (.ok, s.assertWake) else (.invalid, s)

/-- WAKE_REQ. -/
def execWakeReq (master value : Nat) (s : State) : Out := s.rowWrite master Obj.POWER_CTRL_WAKE_REQ value (ruleWakeReq value)

/-- WAKE_N_RELEASE (R509). -/
def execWakeNRelease (s : State) : Out :=
  .next (
    match s.pw.wakeLow with
    | some t => if t ≤ s.time.now then ((s.withPw { s.pw with wakeLow := none }).emit (.pin .wakeN true)) else s
    | none => s)

end Sys2Proof.Machine
end

