-- ==== Sys2Proof/Machine/Pair.lean ====
section
/-! DEFINITION. The protection pair: roles, epochs and the lease, cycle ends, HEALTH, handover and takeover, the witness, digests and the
Proof engine (R462 to R496). Applying records and bulk copies is in Sys2Proof/Machine/PairSync.lean. -/

namespace Sys2Proof.Machine

/-- Bytes of a value as the device stores it: most significant first, a string from its byte 0 (R402). -/
def valueBytes (ty : Ty) (v : Nat) : List Byte :=
  match ty with
  | .str n => bytesLE n v
  | ty => bytesBE ty.bytes v

/-- The value of such bytes. -/
def valueOf (ty : Ty) (l : List Byte) : Nat :=
  match ty with
  | .str _ => natLE l
  | _ => natBE l

/-- Kind and body of a journal record (R473). -/
def JRec.body (r : JRec) : Nat × List Byte :=
  match r with
  | .obj idx sub v =>
    let ty := match rowAt idx sub with
      | some w => w.ty
      | none => .u8
    (1, bytesBE 2 idx ++ bytesBE 1 sub ++ bytesBE 1 ty.bytes ++ valueBytes ty v)
  | .dom idx e image =>
    let n := match domRow idx with
      | some d => d.bytes
      | none => 0
    (2, bytesBE 2 idx ++ bytesBE 2 0 ++ bytesBE 4 e ++ bytesBE n image)
  | .emSet t st r k => (3, bytesBE 1 t ++ bytesBE 1 st ++ bytesBE 2 0 ++ bytesBE 4 r ++ bytesBE 20 k)
  | .emDel t k => (4, bytesBE 1 t ++ bytesBE 3 0 ++ bytesBE 20 k)
  | .routeSet f l v r p => (5, bytesBE 1 f ++ bytesBE 1 l ++ bytesBE 2 v ++ bytesBE 4 r ++ bytesBE 16 p)
  | .routeDel f l v p => (6, bytesBE 1 f ++ bytesBE 1 l ++ bytesBE 2 v ++ bytesBE 16 p)
  | .tcamSet t p i => (7, bytesBE 1 t ++ bytesBE 3 0 ++ bytesBE 4 p ++ bytesBE 96 i)
  | .delta idx e ds => (8, bytesBE 2 idx ++ bytesBE 2 0 ++ bytesBE 4 e ++ ds.flatMap (bytesBE 8))

/-- A record as sent: head, body, padding to a multiple of 8 (R473). -/
def JRec.encode (r : JRec) : List Byte :=
  let (kind, b) := r.body
  bytesBE 1 kind ++ bytesBE 5 0 ++ bytesBE 2 b.length ++ b ++ List.replicate ((8 - b.length % 8) % 8) 0

/-- Groups records into segments of at most `limit` bytes, each with the number of its first record (R472, R478). -/
def segments (limit : Nat) : Nat → List JRec → List (Nat × List Byte)
  | n, l => (l.foldl (fun (a : List (Nat × List Byte) × Nat) r =>
      let b := r.encode
      match a.1 with
      | (m, c) :: t => if c.length + b.length ≤ limit then ((m, c ++ b) :: t, a.2 + 1) else ((a.2, b) :: (m, c) :: t, a.2 + 1)
      | [] => ([(a.2, b)], a.2 + 1)) ([], n)).1.reverse

/-- The present mate cycle. -/
def State.cycleNow (s : State) : Int := s.cycleAt s.timeNow

/-- The cycle that a 32-bit cycle number names: the one nearest to the present. -/
def State.cycleOf (s : State) (n : Nat) : Int :=
  let cur := s.cycleNow
  let d : Nat := (cycleNumber cur + 2 ^ 32 - n % 2 ^ 32) % 2 ^ 32
  if d < 2 ^ 31 then cur - (d : Int) else cur + ((2 ^ 32 - d : Nat) : Int)

/-- Epoch a is higher than b (R465). -/
def epochHigher (a b : Nat) : Bool := let d := (a + 2 ^ 32 - b) % 2 ^ 32; Nat.blt 0 d && Nat.blt d (2 ^ 31)

/-- The device is in the pair and of a role. -/
def State.roleIs (s : State) (r : Nat) : Bool := Nat.beq (s.get Obj.PAIR_CTRL_ROLE) r

/-- Changes the role; E-9001 carries the old and the new (R496). In STANDBY no ager's pass runs (R99, R475). -/
def State.setRole (s : State) (r : Nat) : State :=
  let old := s.get Obj.PAIR_CTRL_ROLE
  if old = r then s
  else
    let s := (s.set Obj.PAIR_CTRL_ROLE r).raise 0x9001 uMGMT (packArg [(16, old), (16, r)])
    if r = roleSTANDBY then forEach (List.range 16) s State.stopAger else s

/-- Sets LEASE_END in both lease timers (R470). -/
def State.setLease (s : State) (t : Nat) : State :=
  (s.withPair { s.pair with leaseEnd := t }).set Obj.PAIR_CTRL_LEASE_END (time80 t)

/-- The lease is valid: both timers find t < LEASE_END (R470). -/
def State.leaseValid (s : State) : Bool := Nat.blt s.timeNow s.pair.leaseEnd && Nat.blt s.time.shadow s.pair.leaseEnd

/-- A renewal that names a cycle (R468, R469): refused once the lease has ended, while a granted handover runs, and until the boot
has completed (R467). -/
def State.renew (s : State) (k : Int) : State :=
  if s.boot.ready = true ∧ s.roleIs roleACTIVE = true ∧ s.leaseValid = true ∧ s.pair.releasing = false then
    s.setLease (max s.pair.leaseEnd (s.cycleStart (k + 1 + s.get Obj.PAIR_CTRL_LEASE_CYCLES)))
  else s

/-- The partner is silent (PARTNER [0]). -/
def State.silent (s : State) : Bool := Nat.beq (s.get Obj.PAIR_CTRL_PARTNER % 2) 1
/-- Partner's role, health and SYNC as last reported. -/
def State.partnerRole (s : State) : Nat := bits (s.get Obj.PAIR_CTRL_PARTNER) 24 8
/-- Its health. -/
def State.partnerHealth (s : State) : Nat := bits (s.get Obj.PAIR_CTRL_PARTNER) 16 8
/-- Its SYNC. -/
def State.partnerSync (s : State) : Nat := bits (s.get Obj.PAIR_CTRL_PARTNER) 8 8

/-- At INVASIVE in DEPLOYED the device reports UNHEALTHY and takes control under no rule (R525). -/
def State.barred (s : State) : Bool := Nat.beq s.sec.lc 2 && Nat.beq s.debugLevel 2

/-- HEALTH of this device (R481, R525). -/
def State.healthNow (s : State) : Nat :=
  let f := s.get Obj.PROOF_FAIL_MAP
  if s.barred || f.testBit 6 || s.ev.fatal then 2 else if s.pair.mateEye || f.testBit 4 then 1 else 0

/-- HEALTH follows; a device that is not HEALTHY waits anew to restore (R490). -/
def State.showHealth (s : State) : State :=
  let h := s.healthNow
  (if h = 0 then s else (s.withPair { s.pair with wtrStart := none })).set Obj.PAIR_CTRL_HEALTH h

/-- AC0_MODE as reported (R481). -/
def State.ac0Mode (s : State) : Nat := s.get (Obj.AIR_CLOCK_ENABLE 0) * 128 + s.get (Obj.AIR_CLOCK_NUMEROLOGY 0)

/-- The two devices' AC0 settings differ (R466, R492). -/
def State.ac0Differs (s : State) : Bool :=
  !(Nat.beq s.pair.partner.ac0Mode s.ac0Mode && Nat.beq s.pair.partner.ac0Epoch (s.get (Obj.AIR_CLOCK_EPOCH 0)))

/-- Both or neither device has HOME 1 (R482). -/
def State.homeClash (s : State) : Bool := s.on Obj.PAIR_CTRL_HOME == s.pair.partner.home

/-- Code of the highest-class event of the last second (R481); of equals, the latest. -/
def State.worstEvent (s : State) : Nat :=
  let since := time80 (s.timeNow - nsPerS)
  let l := (s.ev.due.reverse ++ s.ev.log).filter fun r => Nat.ble since r.time
  match l with
  | [] => 0
  | r :: l => (l.foldl (fun (b : EventRec) x => if eventClass b.code < eventClass x.code then x else b) r).code

/-- The 64-byte health report (R481). -/
def State.healthReport (s : State) : List Byte :=
  bytesBE 1 s.healthNow ++ bytesBE 1 (s.get Obj.PAIR_CTRL_SYNC) ++ bytesBE 4 (s.get Obj.PROOF_FAIL_MAP) ++ bytesBE 2 s.worstEvent ++
    bytesBE 10 (time80 s.timeNow) ++ bytesBE 4 s.pair.appliedCycle ++ bytesBE 8 s.pair.appliedSeq ++ bytesBE 1 s.ac0Mode ++
    bytesBE 10 (s.get (Obj.AIR_CLOCK_EPOCH 0)) ++ bytesBE 1 (s.get Obj.PAIR_CTRL_HOME) ++ bytesBE 1 (s.get Obj.PAIR_CTRL_LEASE_CYCLES) ++
    bytesBE 1 (s.get Obj.PAIR_CTRL_WITNESS_MODE) ++ bytesBE 20 0

/-- Sets SYNC; a standby that is no longer SYNCED waits anew to restore (R490). -/
def State.setSync (s : State) (v : Nat) : State :=
  if v = 2 then s.set Obj.PAIR_CTRL_SYNC v else (s.withPair { s.pair with wtrStart := none }).set Obj.PAIR_CTRL_SYNC v

/-- Asks the active for every region (R475, R478, R489): SYNC is NONE until the first region arrives. -/
def State.requestAll (s : State) (regions : List Nat) : State :=
  let s := (s.setSync 0).sendMate 7 0 (cycleNumber s.cycleNow) 0 (bytesBE 2 0xFFFF)
  (s.withPair { s.pair with outstanding := regions, bulk := none, ready := [] })

/-- DOMAIN objects of the replicated set, in ascending order (R471). -/
def replicatedDomains : List Nat :=
  (domRows.filter fun r => decide (r.access = .rw) && !Nat.beq r.idx Dom.HBM_HOST_AREA).map (·.idx)

/-- Every region of the replicated set, in ascending order of its code (R476). -/
def allRegions : List Nat :=
  [0] ++ (List.range 16).map (0x0100 + ·) ++ [0x0204, 0x0206] ++ (List.range 4).map (0x0300 + ·) ++ replicatedDomains

/-- The records of every region are wanted again. -/
def State.resyncAll (s : State) : State := s.requestAll allRegions

/-- A bulk copy that can no longer come is wanted anew: SYNC is NONE. -/
def State.stopCopy (s : State) : State := if s.get Obj.PAIR_CTRL_SYNC = 1 then s.setSync 0 else s

/-- A higher epoch is seen (R468, R489). An active or lapsed device is demoted and resynchronises; a standby follows the new active
from its SEQ 0. A takeover planned under a lower epoch falls away (R468, R485). -/
def State.adoptEpoch (s : State) (e : Nat) : State :=
  let s := s.set Obj.PAIR_CTRL_EPOCH e
  let s : State := (s.withPair { s.pair with
    highest := if epochHigher e s.pair.highest then e else s.pair.highest
    expect := some 0, acked := none, held := [], outstanding := [], bulk := none, ready := [], torn := false, takeover := none })
  let s := s.stopCopy
  if s.roleIs roleACTIVE || s.roleIs roleLAPSED then
    let s := if s.pair.leaseEnd ≤ s.timeNow then s else s.setLease s.timeNow
    let s : State := (s.withPair { s.pair with journal := [], fresh := [], unacked := [], selfRenew := false, releasing := false, expect := none })
    ((s.setRole roleSTANDBY).resyncAll).raise 0x9202 uMGMT 0
  else s

/-- A mate message arrives (R465, R489): whether it is handled. MAILBOX, PACKET and RESET_NOTICE are accepted at any epoch, and in a
device out of the pair. -/
def State.mateIn (s : State) (exempt : Bool) (h : MateHead) : Bool × State :=
  if s.coreOff = true ∨ s.pair.linkUp = false then (false, s)
  else
    let s := s.set Obj.PAIR_CTRL_PARTNER_EPOCH (h.epoch % 2 ^ 32)
    let off : Bool := Nat.beq (s.get Obj.PAIR_CTRL_PAIR_ENABLE) 0
    if off then (exempt, s)
    else
      let own := s.get Obj.PAIR_CTRL_EPOCH
      if epochHigher h.epoch own then (true, s.adoptEpoch (h.epoch % 2 ^ 32))
      else if epochHigher own h.epoch = true ∧ exempt = false then
        (false, (s.bump Obj.PAIR_STATS_STALE_MESSAGES).raise 0x9106 uMGMT (packArg [(32, h.epoch)]))
      else (true, s)

/-- The records whose counters travel as deltas, by domain key (R474). -/
def State.pairCounters (s : State) : Table Nat := s.doms.filter fun x => [Dom.METER_COUNTERS, Dom.QUEUE_COUNTERS].contains (domOf x.1)

/-- Takes control at T, the start of cycle k, which is the first that it journals (R468, R469, R493). -/
def State.takeControl (s : State) (k : Int) (epoch : Option Nat) (selfRenew : Bool) : State :=
  let e := match epoch with
    | some e => e
    | none => (let n := (s.pair.highest + 1) % 2 ^ 32; if n = 0 then 1 else n)
  let s := s.set Obj.PAIR_CTRL_EPOCH e
  let s : State := (s.withPair { s.pair with
    highest := e, seq := 0, journal := [], fresh := [], unacked := [], takeover := none, granted := none, deltaBase := s.pairCounters, acked := none, expect := none, held := [], outstanding := [], bulk := none
    ready := [], torn := false, journalFrom := some k, gaveUp := false, revertDue := false
    selfRenew := selfRenew, releasing := false, wtrStart := none })
  let s := s.setLease (s.cycleStart (k + s.get Obj.PAIR_CTRL_LEASE_CYCLES))
  ((s.bump Obj.PAIR_STATS_TAKEOVERS).setRole roleACTIVE).set Obj.PAIR_CTRL_WTR_LEFT_S 0

/-- The takeover that is due happens, or falls away (R483 to R487). -/
def State.dueTakeover (s : State) : State :=
    match s.pair.takeover with
    | none => s
    | some p =>
      if s.timeNow < p.at' then s
      else
        let s : State := (s.withPair { s.pair with takeover := none })
        let old := s.get Obj.PAIR_CTRL_EPOCH
        let k := s.cycleAt p.at'
        if s.roleIs roleSTANDBY = false ∨ s.barred = true then s
        else match p.cause with
          | .release =>
            let s : State := (s.withPair { s.pair with finalCycle := some (old, cycleNumber (k - 1)) })
            s.takeControl k none false
          | .fault => if s.healthNow = 2 then s else s.takeControl k none false
          | .silence => if s.silent = true ∧ s.get Obj.PAIR_CTRL_WITNESS_MODE = 0 then s.takeControl k none true else s
          | .witness => s.takeControl k p.epoch false

/-- TAKEOVER (R483 to R487). -/
def execTakeover (s : State) : Out := s.inCore State.dueTakeover

/-- 64-bit counters of a DOMAIN image, from its top (R473, R474). -/
def countersOf (d image : Nat) : List Nat :=
  match domRow d with
  | some r => (List.range (r.bytes / 8)).map fun i => bits image (64 * (r.bytes / 8 - 1 - i)) 64
  | none => []

/-- COUNTER_DELTA records of the counters that have changed since the last (R474). -/
def State.counterDeltas (s : State) : List JRec × State :=
  let cur := s.pairCounters
  let base := fun (k : Nat) => Table.get (fun _ => 0) s.pair.deltaBase k
  let recs := cur.filterMap fun x =>
    if x.2 = base x.1 then none
    else some (JRec.delta (domOf x.1) (entryOf x.1)
      (List.zipWith (fun a b => (a + 2 ^ 64 - b) % 2 ^ 64) (countersOf (domOf x.1) x.2) (countersOf (domOf x.1) (base x.1))))
  (recs, (s.withPair { s.pair with deltaBase := cur }))

/-- Size of the buffer of closed journals: 16 MB (R475). -/
abbrev journalBuffer : Nat := 16777216

/-- Bytes of records. -/
def recordBytes (l : List JRec) : Nat := (l.map fun r => r.encode.length).sum

/-- Closes the journal of cycle k (R472, R474, R475). -/
def State.closeJournal (s : State) (k : Int) : State :=
  let (deltas, s) := if k % 16 = 15 then s.counterDeltas else ([], s)
  let recs := s.pair.journal ++ deltas
  let seq := s.pair.seq
  let size := recordBytes recs
  let s : State := (s.withPair { s.pair with journal := [], seq := seq + recs.length })
  if journalBuffer < size + (s.pair.unacked.map fun c => recordBytes c.records).sum then s.raise 0x9107 uMGMT 0
  else
    let segs := match segments 16384 seq recs with
      | [] => [(seq, [])]
      | l => l
    let s := (forEach (segs.zip (List.range segs.length)) s fun s x =>
      s.sendMate 1 (ofBool (Nat.beq (x.2 + 1) segs.length)) (cycleNumber k) x.1.1 x.1.2).bumpSent Obj.PAIR_STATS_JOURNAL_BYTES size
    (s.withPair { s.pair with unacked := s.pair.unacked ++ [⟨k, seq, recs⟩] })

/-- L' of R485: the larger of the two devices' LEASE_CYCLES. -/
def State.longLease (s : State) : Nat := max (s.get Obj.PAIR_CTRL_LEASE_CYCLES) s.pair.partner.leaseCycles

/-- The partner falls silent, or stays so (R481, R485): a standby that has acknowledged schedules its takeover. -/
def State.fallSilent (s : State) : State :=
  let s := if s.silent then s
    else ((s.withPair { s.pair with wtrStart := none }).set Obj.PAIR_CTRL_PARTNER (s.get Obj.PAIR_CTRL_PARTNER + 1)).raise 0x9102 uMGMT 0
  match s.pair.acked, s.pair.takeover with
  | some k, none =>
    if s.roleIs roleSTANDBY = true ∧ s.get Obj.PAIR_CTRL_WITNESS_MODE = 0 then
      (s.withPair { s.pair with takeover := some ⟨s.cycleStart (k + 3 + s.longLease), .silence, none⟩ })
    else s
  | _, _ => s

/-- The device is the one that starts a pair with no active (R482). -/
def State.isStarter (s : State) : Bool :=
  if s.homeClash then Nat.blt s.station Config.partnerStation else s.on Obj.PAIR_CTRL_HOME

/-- The wait to restore runs (R490). -/
def State.wtrRuns (s : State) : Bool :=
  s.on Obj.PAIR_CTRL_HOME && s.on Obj.PAIR_CTRL_REVERTIVE && s.roleIs roleSTANDBY && Nat.beq s.healthNow 0 &&
    Nat.beq (s.get Obj.PAIR_CTRL_SYNC) 2 && Nat.beq s.partnerRole roleACTIVE && !s.silent

/-- WTR_LEFT_S and the start of the count follow its conditions. -/
def State.showWtr (s : State) : State :=
  if s.wtrRuns then
    let start := s.pair.wtrStart.getD s.time.now
    let s : State := (s.withPair { s.pair with wtrStart := some start })
    s.set Obj.PAIR_CTRL_WTR_LEFT_S (s.get Obj.PAIR_CTRL_WTR_S - (s.time.now - start) / nsPerS)
  else (s.withPair { s.pair with wtrStart := none }).set Obj.PAIR_CTRL_WTR_LEFT_S 0

/-- Election at a cycle boundary (R482): with a witness the starter waits for W_TAKEOVER; an UNHEALTHY device is repaired first (R492, log
entry 157). -/
def State.elect (s : State) (k : Int) : State :=
  if s.roleIs roleSTANDBY = true ∧ 4 ≤ s.pair.run ∧ s.pair.takeover = none then
    let s := if s.homeClash then s.raise 0x9203 uMGMT 0 else s
    if Nat.beq (s.get Obj.PAIR_CTRL_WITNESS_MODE) 0 && s.isStarter && !s.barred && !Nat.beq s.healthNow 2 then s.takeControl k none false else s
  else s

/-- Every other air event due by now has fired: what is left of the dispatcher's work is E4095 (R10, R40). -/
def State.airDone (s : State) : Bool :=
  (s.time.fifo.all fun a => Nat.beq a.action 4 || Nat.blt s.time.tai a.due) &&
    (match s.nextAction with | some a => Nat.blt s.time.tai a.due | none => true)

/-- The end of mate cycle `k` at B(k + 1) (R466, R469, R470, R472, R481); the cycle before a takeover was the old active's (R493). -/
def State.endCycle (s : State) (k : Int) : State :=
  let s := (s.withPair { s.pair with cycleEnd := some s.time.now }).showHealth
  let before : Bool := match s.pair.journalFrom with
    | some f => decide (k < f)
    | none => false
  let s : State := (s.withPair { s.pair with journalFrom := none })
  let s := if s.roleIs roleACTIVE && !before then s.closeJournal k else s
  let s := s.sendMate 3 0 (cycleNumber k) 0 s.healthReport
  let s := if s.pair.releasing = true ∧ s.pair.leaseEnd ≤ s.timeNow then
      let s : State := (s.withPair { s.pair with releasing := false, expect := none })
      let s := s.setRole roleSTANDBY
      if s.get Obj.PAIR_CTRL_SYNC = 2 then s else (s.set Obj.PAIR_CTRL_SYNC 2).raise 0x9002 uMGMT 0
    else s
  -- silence: two cycle ends in a row without an intact HEALTH, or no mate link
  let s : State := (s.withPair { s.pair with
    missed := if s.pair.heard then 0 else s.pair.missed + 1
    run := if s.pair.heard then s.pair.run else 0
    heard := false })
  let s := if 2 ≤ s.pair.missed ∨ s.pair.linkUp = false then s.fallSilent else s
  let s := if s.pair.selfRenew = true ∧ s.silent = true then s.renew k else s
  let apart := if s.time.tai < s.time.shadow then s.time.shadow - s.time.tai else s.time.tai - s.time.shadow
  let s := if 1000 < apart ∧ s.time.reload = false then
      (s.set Obj.PROOF_FAIL_MAP (Nat.lor (s.get Obj.PROOF_FAIL_MAP) 32)).raise 0x9301 uMGMT 0
    else s
  (s.elect (k + 1)).showWtr

/-- MATE_CYCLE (R40, R466): after every other air event due at the instant, an armed E4095 fires, and while PAIR_ENABLE is 1 the mate
cycle ends as the timebase reaches B(k), armed or not. -/
def execMateCycle (s : State) : Out :=
  s.inCore fun s =>
    if s.airDone = false then s
    else
      let s := (s.fire 4).2
      let cur := s.cycleNow
      if s.get Obj.PAIR_CTRL_PAIR_ENABLE = 0 ∨ s.reached (s.cycleStart cur) = false ∨ s.pair.cycleEnd = some s.time.now then s
      else s.endCycle (cur - 1)

/-- Hands over (R483): RELEASE names the present cycle, at whose end the lease ends; or the handover is refused. -/
def State.handOver (s : State) : State :=
  let refused : Bool := s.silent || Nat.blt 1 s.partnerHealth || !Nat.beq s.partnerSync 2 || s.ac0Differs
  if refused then (s.bump Obj.PAIR_STATS_REFUSED_HANDOVERS).raise 0x9105 uMGMT 0
  else
    let c := s.cycleNow
    let s := (s.sendMate 4 0 (cycleNumber c) 0 []).bumpSent Obj.PAIR_STATS_RELEASES 1
    let s := s.setLease (s.cycleStart (c + 1))
    (s.withPair { s.pair with releasing := true })

/-- Priority of a waiting message by its TYPE, the first to go 0 (R464). -/
def mateRank (type : Nat) : Nat :=
  match type with
  | 2 | 3 | 4 | 5 => 0
  | 1 => 1
  | 9 | 11 => 2
  | 6 | 7 | 8 => 3
  | _ => 4

/-- The mate link sends the first of the waiting messages of the highest priority once it is free (R464): at 400 Gb/s a message of n bytes
takes n / 50 ns (R462). -/
def State.mateTurn (s : State) : State :=
  if s.pair.linkUp = false ∨ s.time.now < s.pair.mateFree then s
  else
    match (List.range 5).findSome? fun r => s.pair.outbox.find? fun m => Nat.beq (mateRank m.1) r with
    | none => s
    | some m =>
      let rest := s.pair.outbox.erase m
      (s.withPair { s.pair with outbox := rest, mateFree := s.time.now + ceilDiv m.2.length 50 }).emit (.mate m.2)

/-- DOMAIN entries whose changes travel otherwise than by their image: counters as deltas, meters and shapers as the write that made them
(R473, R474). -/
def deltaDoms : List Nat := [Dom.QUEUE_COUNTERS, Dom.METER_COUNTERS, Dom.METERS, Dom.SHAPER_NODES]

/-- Replicated DOMAIN entries that hardware has changed in this instant, as they stand at its end; a change that was journaled as it was made
is not journaled again (R472, R473). -/
def State.hardwareChanges (s : State) : List JRec :=
  if s.doms = s.dict.cycleDoms then []
  else
    let keys := (s.doms.map (·.1) ++ (s.dict.cycleDoms.map (·.1)).filter fun k => !(s.doms.any fun x => Nat.beq x.1 k)).filter fun k =>
      replicatedDom (domOf k) (entryOf k) && !deltaDoms.contains (domOf k)
    keys.filterMap fun k =>
      let v := s.dom (domOf k) (entryOf k)
      let told : Bool := s.pair.fresh.any fun r => match r with
        | .dom d e image => Nat.beq (domKey d e) k && Nat.beq image v
        | _ => false
      if v = Table.get domDefault s.dict.cycleDoms k ∨ told = true then none else some (.dom (domOf k) (entryOf k) v)

/-- The records of an instant join the cycle that contains it, and the journal that it completes is acknowledged (R472, R493); a
REVERT_REQ of the instant is answered (R490, R493), the wait to restore follows its conditions, and the mate link takes its turn. -/
def State.pairCycle (s : State) : State :=
  let s := if s.pair.revertDue then
      let s : State := (s.withPair { s.pair with revertDue := false })
      if s.roleIs roleACTIVE = true ∧ s.pair.partner.home = true ∧ s.pair.releasing = false then s.handOver else s
    else s
  let s := if s.roleIs roleACTIVE then (s.withPair { s.pair with fresh := s.pair.fresh ++ s.hardwareChanges }) else s
  let s := match s.pair.ackDue with
    | some (cycle, seq) =>
      let s := s.sendMate 2 0 cycle seq []
      s.withPair { s.pair with ackDue := none, acked := some (s.cycleOf cycle) }
    | none => s
  let s := if s.pair.fresh = [] then s else s.withPair { s.pair with journal := s.pair.journal ++ s.pair.fresh, fresh := [] }
  s.showWtr.mateTurn

/-- COPY_ACK (R469): the active renews and lets the acknowledged journals go. -/
def execCopyAck (head : MateHead) (s : State) : Out :=
  .next (
    match s.mateIn false head with
    | (false, s) => s
    | (true, s) =>
      let k := s.cycleOf head.cycle
      if s.roleIs roleACTIVE = false ∨ s.cycleNow < k then s
      else
        let s : State := (s.withPair { s.pair with unacked := s.pair.unacked.filter fun c => decide (k < c.cycle) })
        if head.epoch = s.get Obj.PAIR_CTRL_EPOCH then s.renew k else s)

/-- An intact HEALTH, whatever its epoch, shows that the partner lives: it ends silence and self-renewal, and counts towards an
election (R469, R481, R482; log entry 159). -/
def State.hears (s : State) (role : Nat) : State :=
  if s.coreOff = true ∨ s.pair.linkUp = false ∨ s.get Obj.PAIR_CTRL_PAIR_ENABLE = 0 then s
  else
    let free : Bool := Nat.beq role roleSTANDBY || Nat.beq role roleLAPSED
    let s : State := (s.withPair { s.pair with heard := true, missed := 0, run := if free then s.pair.run + 1 else 0, selfRenew := false })
    s.set Obj.PAIR_CTRL_PARTNER (s.get Obj.PAIR_CTRL_PARTNER / 2 * 2)

/-- A device that has given up control learns that its partner is UNHEALTHY too: the lease has lapsed without handover (R484, R492). -/
def State.judgeLoss (s : State) (role : Nat) : State :=
  if s.pair.gaveUp = false then s
  else if role = roleACTIVE then (s.withPair { s.pair with gaveUp := false })
  else if s.partnerHealth = 2 then (s.withPair { s.pair with gaveUp := false }).raise 0x9201 uMGMT 0
  else s

/-- HEALTH (R481, R482, R489): `delay` is the link's measured one-way delay in ns. -/
def execHealth (head : MateHead) (report : List Byte) (delay : Nat) (s : State) : Out :=
  .next (
    match (s.hears head.role).mateIn false head with
    | (false, s) => s
    | (true, s) =>
      let b := fun (i n : Nat) => wordAt report i n
      let p : PartnerHealth := {
        home := Nat.beq (b 41 1) 1, leaseCycles := b 42 1, witnessMode := b 43 1, ac0Mode := b 30 1, ac0Epoch := b 31 10 }
      let s := s.set Obj.PAIR_CTRL_PARTNER (head.role % 256 * 2 ^ 24 + b 0 1 * 2 ^ 16 + b 1 1 * 2 ^ 8)
      let s : State := (s.withPair { s.pair with partner := p })
      let skew : Int := (s.timeNow : Int) - ofTime80 (b 8 10) - delay
      let s := s.set Obj.PAIR_CTRL_SKEW_NS (unsigned 32 skew)
      let s := if 25000 < skew.natAbs then s.raise 0x9104 uMGMT 0 else s
      let s := if s.ac0Differs then s.raise 0x9203 uMGMT 0 else s
      let s := s.judgeLoss head.role
      let s := if s.roleIs roleLAPSED = true ∧ head.role = roleSTANDBY ∧ head.epoch = s.get Obj.PAIR_CTRL_EPOCH then s.setRole roleSTANDBY else s
      let s := if s.roleIs roleSTANDBY = true ∧ head.role = roleACTIVE ∧ s.get Obj.PAIR_CTRL_SYNC = 0 ∧ s.pair.outstanding = [] then s.resyncAll else s
      s.showWtr)

/-- RELEASE (R483, R484): the standby takes control at the end of the named cycle, or at the next boundary after a fault. -/
def execRelease (head : MateHead) (s : State) : Out :=
  .next (
    match s.mateIn false head with
    | (false, s) => s
    | (true, s) =>
      if s.roleIs roleSTANDBY = false then s
      else
        let p : TakeoverPlan := if bit head.flags 0 then ⟨s.cycleStart (s.cycleNow + 1), .fault, none⟩ else ⟨s.cycleStart (s.cycleOf head.cycle + 1), .release, none⟩
        (s.withPair { s.pair with takeover := some p }))

/-- REVERT_REQ (R490, R493): it is answered as the instant ends, with what a HEALTH of the instant says; from a device with HOME 0 it is
ignored. -/
def execRevertReq (head : MateHead) (s : State) : Out :=
  .next (
    match s.mateIn false head with
    | (false, s) => s
    | (true, s) => if s.roleIs roleACTIVE then (s.withPair { s.pair with revertDue := true }) else s)

/-- COMMAND (R483): 1 asks the active device to hand over; a refusal is counted, not answered. -/
def ruleCommand (v : Nat) (s : State) : Res :=
  if v ≠ 1 ∨ s.roleIs roleACTIVE = false then (.invalid, s) else (.ok, if s.pair.releasing then s else s.handOver)

/-- COMMAND. -/
def execCommand (master value : Nat) (s : State) : Out := s.rowWrite master Obj.PAIR_CTRL_COMMAND value (ruleCommand value)

/-- The firmware runs. -/
def State.firmwareRuns (s : State) : Bool := s.boot.ready && !s.boot.restart && !s.sec.halted && !s.coreOff

/-- The firmware sets E4095 to MATE_CYCLE (R40). -/
def State.armMateCycle (s : State) : State :=
  if s.dom Dom.AIR_EVENT_TABLE 4095 = mateCycleImage then s else s.writeAirEntry 4095 mateCycleImage

/-- PAIR_ENABLE (R40, R467). -/
def rulePairEnable (v : Nat) (s : State) : Res :=
  if v = s.get Obj.PAIR_CTRL_PAIR_ENABLE then (.ok, s)
  else
    let s := (s.commit Obj.PAIR_CTRL_PAIR_ENABLE v).set Obj.PAIR_CTRL_SYNC 0
    let s : State := (s.withPair { s.pair with
      journal := [], fresh := [], ackDue := none, granted := none, unacked := [], takeover := none, releasing := false, selfRenew := false, expect := none, acked := none, held := []
      outstanding := [], bulk := none, ready := [], torn := false, journalFrom := none, revertDue := false, gaveUp := false, run := 0, wtrStart := none })
    let s := s.setRole (if v = 1 then roleSTANDBY else roleOFF)
    (.ok, if v = 1 ∧ s.firmwareRuns = true then s.armMateCycle else s)

/-- PAIR_ENABLE. -/
def execPairEnable (master value : Nat) (s : State) : Out := s.rowWrite master Obj.PAIR_CTRL_PAIR_ENABLE value (rulePairEnable value)

/-- HOME, WITNESS_MODE, LEASE_CYCLES: BUSY while the pair is in service (R495). -/
def rulePairSetting (key v : Nat) (s : State) : Res := if s.on Obj.PAIR_CTRL_PAIR_ENABLE then (.busy, s) else s.plain key v

/-- LEASE_EXPIRY (R468): one of the lease timers reaches LEASE_END. -/
def execLeaseExpiry (s : State) : Out :=
  .next (
    if s.roleIs roleACTIVE = true ∧ s.leaseValid = false ∧ s.pair.releasing = false then
      ((s.bump Obj.PAIR_STATS_LEASE_LAPSES).setRole roleLAPSED).raise 0x9201 uMGMT 0
    else s)

/-- W_RENEW (R469). -/
def ruleWRenew (v : Nat) (s : State) : Res :=
  let k := s.cycleOf (v % 2 ^ 32)
  if s.boot.ready = true ∧ s.roleIs roleACTIVE = true ∧ v / 2 ^ 32 = s.get Obj.PAIR_CTRL_EPOCH ∧ k ≤ s.cycleNow ∧ s.leaseValid = true ∧ s.pair.releasing = false then
    (.ok, (s.renew k).set Obj.WITNESS_W_LAST v)
  else (.invalid, s.bump Obj.WITNESS_W_REFUSED)

/-- W_RENEW. -/
def execWRenew (master value : Nat) (s : State) : Out := s.rowWrite master Obj.WITNESS_W_RENEW value (ruleWRenew value)

/-- W_TAKEOVER (R487, R489, R493): the device adopts the granted epoch and takes control at the later of the two instants; a journal of the
same cycle is no longer acknowledged. -/
def ruleWTakeover (v : Nat) (s : State) : Res :=
  let e := v / 2 ^ 32
  if (s.roleIs roleSTANDBY || s.roleIs roleLAPSED) = true ∧ s.get Obj.PAIR_CTRL_WITNESS_MODE = 1 ∧ epochHigher e s.pair.highest = true then
    let c := s.cycleOf (v % 2 ^ 32)
    let k := match s.pair.acked with
      | some a => max a c
      | none => c
    let t := max (s.cycleStart (s.cycleNow + 1)) (s.cycleStart (k + 3 + s.longLease))
    let old := s.get Obj.PAIR_CTRL_EPOCH
    let expect := s.pair.expect
    let s := (s.set Obj.WITNESS_W_LAST v).adoptEpoch e
    (.ok, (s.withPair { s.pair with takeover := some ⟨t, .witness, some e⟩, ackDue := none, granted := some (old, s.cycleNow), expect := expect }))
  else (.invalid, s.bump Obj.WITNESS_W_REFUSED)

/-- W_TAKEOVER. -/
def execWTakeover (master value : Nat) (s : State) : Out := s.rowWrite master Obj.WITNESS_W_TAKEOVER value (ruleWTakeover value)

/-- WTR_EXPIRY (R490). -/
def execWtrExpiry (s : State) : Out :=
  s.inCore fun s =>
    match s.pair.wtrStart with
    | none => s
    | some t =>
      if s.wtrRuns = true ∧ t + s.get Obj.PAIR_CTRL_WTR_S * nsPerS ≤ s.time.now then
        let s : State := (s.withPair { s.pair with wtrStart := none })
        (s.set Obj.PAIR_CTRL_WTR_LEFT_S 0).sendMate 5 0 (cycleNumber s.cycleNow) 0 []
      else s

/-- CRC-64 of a canonical image (R476). -/
def crc64 (l : List Byte) : Nat := crc 64 0x42F0E1EBA9EA3693 0 l

/-- The sum of a region's items. -/
def digestOf (l : List (List Byte)) : Nat := (l.foldl (fun a b => a + crc64 b) 0) % 2 ^ 64

/-- Storable objects of the replicated set, in ascending order (R471). -/
def replicatedKeys : List Nat :=
  (objRecords.filter fun r => Nat.ble 0x2000 r.base && Nat.ble r.last 0x6FFF).flatMap fun r =>
    (List.range (r.last + 1 - r.base)).flatMap fun i =>
      (r.rows.filter ObjRow.storable).flatMap fun w => (List.range w.count).map fun j => objKey 0 (r.base + i) (w.sub + j)

/-- Bytes of an object's value. -/
def State.objBytes (s : State) (key : Nat) : List Byte :=
  match rowAt (keyIdx key) (keySub key) with
  | some w => valueBytes w.ty (s.get key)
  | none => []

/-- The items of a region as (region's) journal records, in ascending order of object, KEY, route, position or entry (R476, R587). -/
def State.regionItems (s : State) (region : Nat) : List JRec :=
  if region = 0 then replicatedKeys.map fun k => .obj (keyIdx k) (keySub k) (s.get k)
  else if region < 0x0200 then
    let t := region % 256
    let l := (s.tab.em.filter fun x => Nat.beq (x.1 / 2 ^ 24) t).filterMap (·.2)
    (sortBy (·.key) l).map fun e => JRec.emSet t (ofBool e.static) e.result e.key
  else if region < 0x0300 then
    let f := region % 256
    s.tab.routes.filterMap fun x => x.2.bind fun r =>
      if x.1 / 2 ^ 148 = f then some (JRec.routeSet f (x.1 / 2 ^ 128 % 256) (x.1 / 2 ^ 136 % 4096) r (x.1 % 2 ^ 128)) else none
  else if region < 0x0400 then
    let t := region % 256
    (List.range (s.tcamPositions t)).map fun p => .tcamSet t p (tcamImage (s.tcamAt (s.tcamAddr t p)))
  else
    match domRow region with
    | some d => ((List.range d.count).filter fun e => replicatedDom region e).map fun e => .dom region e (s.dom region e)
    | none => []

/-- Canonical image of an item (R476): RO fields of a DOMAIN entry are 0. -/
def JRec.canonical (r : JRec) : List Byte :=
  match r with
  | .obj idx sub v =>
    let ty := match rowAt idx sub with
      | some w => w.ty
      | none => .u8
    bytesBE 2 idx ++ bytesBE 1 sub ++ valueBytes ty v
  | .dom idx e image =>
    (match domRow idx with
    | some d => bytesBE 4 e ++ bytesBE d.bytes (Nat.land image d.rw)
    | none => [])
  | .emSet _ st r k => bytesBE 20 k ++ bytesBE 4 r ++ bytesBE 1 st
  | .routeSet f l v r p => bytesBE 1 f ++ bytesBE 2 v ++ bytesBE 1 l ++ bytesBE 16 p ++ bytesBE 4 r
  | .tcamSet _ p i => bytesBE 4 p ++ bytesBE 96 i
  | _ => []

/-- Digest of a region of this device's copy. -/
def State.digest (s : State) (region : Nat) : Nat := digestOf ((s.regionItems region).map JRec.canonical)

/-- SEQ of the next record that a change of the replicated set will make (R472). -/
def State.nextSeq (s : State) : Nat := s.pair.seq + s.pair.journal.length + s.pair.fresh.length

/-- DIGEST_PERIOD (R477): the active sends every region's digest; the computation takes no records in. -/
def execDigestPeriod (s : State) : Out :=
  s.inCore fun s =>
    if s.roleIs roleACTIVE = false ∨ s.time.now < s.pair.digestAt then s
    else
      let s : State := (s.withPair { s.pair with digestAt := s.time.now + s.get Obj.PAIR_CTRL_DIGEST_PERIOD_S * nsPerS })
      let at' := s.nextSeq
      forEach allRegions s fun s r =>
        s.sendMate 6 0 (cycleNumber s.cycleNow) at' (bytesBE 2 r ++ bytesBE 6 0 ++ bytesBE 8 at' ++ bytesBE 8 (s.digest r))

/-- A record belongs to a region. -/
def JRec.touches (r : JRec) (region : Nat) : Bool :=
  match r with
  | .obj _ _ _ => Nat.beq region 0
  | .dom idx _ _ => Nat.beq region idx
  | .emSet t _ _ _ | .emDel t _ => Nat.beq region (0x0100 + t)
  | .routeSet f _ _ _ _ | .routeDel f _ _ _ => Nat.beq region (0x0200 + f)
  | .tcamSet t _ _ => Nat.beq region (0x0300 + t)
  | .delta idx _ _ => Nat.beq region idx

/-- DIGEST (R477): the standby compares once it has applied every record up to the end SEQ, unless a record of the span touches the
region. -/
def execDigest (head : MateHead) (region endSeq digest : Nat) (s : State) : Out :=
  .next (
    match s.mateIn false head with
    | (false, s) => s
    | (true, s) =>
      let touched := s.pair.held.any fun x => Nat.ble head.seq x.1 && Nat.ble x.1 endSeq && x.2.touches region
      if s.roleIs roleSTANDBY = false ∨ s.get Obj.PAIR_CTRL_SYNC ≠ 2 ∨ s.pair.expect ≠ some endSeq ∨ touched = true ∨
          s.digest region = digest then s
      else
        let s := ((s.sendMate 7 0 (cycleNumber s.cycleNow) 0 (bytesBE 2 region)).bump Obj.PAIR_STATS_DIGEST_MISMATCHES).raise 0x9103 uMGMT (packArg [(16, region)])
        (s.withPair { s.pair with outstanding := region :: s.pair.outstanding.filter (· != region) }).setSync 1)

/-- BULK messages of a region, each at most 16,384 bytes with its head (R463, R464); the last of them carries FLAGS [0] (log entry 28). -/
def State.sendRegion (s : State) (region : Nat) : State :=
  let seq := s.nextSeq
  let segs := match segments 16376 0 (s.regionItems region) with
    | [] => [(0, [])]
    | l => l
  forEach (segs.zip (List.range segs.length)) s fun s x =>
    s.sendMate 8 (ofBool (Nat.beq (x.2 + 1) segs.length)) (cycleNumber s.cycleNow) seq (bytesBE 2 region ++ bytesBE 6 0 ++ x.1.2)

/-- RECOPY_REQ (R478): the active sends the requested regions. -/
def execRecopyReq (head : MateHead) (region : Nat) (s : State) : Out :=
  .next (
    match s.mateIn false head with
    | (false, s) => s
    | (true, s) =>
      if s.roleIs roleACTIVE = false then s
      else forEach (if region = 0xFFFF then allRegions else allRegions.filter (· == region)) s fun s r => s.sendRegion r)

/-- PACKET (R464): a frame from the partner's port MP enters through record 0x3181, in the injection sector (log entry 29). -/
def execPacket (head : MateHead) (frame : List Byte) (s : State) : Out :=
  .next (
    match s.mateIn true head with
    | (false, s) => s
    | (true, s) =>
      let k : Pkt := { id := s.net.serial, bytes := frame, inPort := 129, requester := 129, rxTime := s.timeNow }
      let sector := s.get Obj.HOST_CTRL_INJECT_SECTOR
      (s.withNet { s.net with serial := s.net.serial + 1 }).toSector sector k)

/-- RESET_NOTICE (R429, R464): the partner's reset resets MATE for mailboxes. -/
def execResetNotice (head : MateHead) (s : State) : Out :=
  .next (
    match s.mateIn true head with
    | (false, s) => s
    | (true, s) => s.resetIdentity MATE)

/-- MAILBOX (R430): a transfer from the partner for the channel of the same number: a message, an acknowledge, or a refusal. -/
def execMailbox (head : MateHead) (channel : Fin 64) (kind : Fin 3) (ack : Nat) (message : List Byte) (s : State) : Out :=
  .next (
    match s.mateIn true head with
    | (false, s) => s
    | (true, s) =>
      let b := s.binding channel
      let valid : Bool := Nat.beq (Fld.BND_VALID.get b) 1
      let fromMate : Bool := valid && Nat.beq (Fld.BND_SHARED.get b) 0 && Nat.beq (Fld.BND_SENDER.get b) MATE
      let toMate : Bool := valid && Nat.beq (Fld.BND_RECEIVER.get b) MATE && Nat.beq (s.get (Obj.MAILBOX_STATE channel)) 1
      if kind.val = 0 then
        if fromMate then
          let s := forEach (List.range 4) s fun s k => s.set (Obj.MAILBOX_MSG channel k) (natLE ((message.drop (16 * k)).take 16))
          let s := ((s.set (Obj.MAILBOX_ACK channel) 0).bump (Obj.MAILBOX_POSTS channel)).set (Obj.MAILBOX_STATE channel) 1
          s.ring (Fld.BND_RECEIVER.get b) (Fld.BND_RX_BIT.get b)
        else s.sendMate 9 0 0 0 (bytesBE 1 channel ++ bytesBE 1 MateMail.refusal.code ++ bytesBE 4 0)
      else if toMate = false then s
      else if kind.val = 1 then
        let s := ((s.set (Obj.MAILBOX_ACK channel) (ack % 2 ^ 32)).set (Obj.MAILBOX_STATE channel) 2).ringSender channel
        s.withHost { s.host with acked := channel.val :: s.host.acked }
      else s.mateMailFailed channel 0xFFFD)

/-- The mate link goes down (R430, R462, R482): a message to the partner that is posted ends with MATE_DOWN, its bytes zeroed (R424, R429). -/
def State.mateDown (s : State) : State :=
  if s.pair.linkUp = false then s
  else
    let s : State := (s.withPair { s.pair with linkUp := false, outbox := [], outstanding := [], bulk := none, ready := [], run := 0 })
    let s := (s.stopCopy.bump Obj.PAIR_STATS_MATE_LINK_DOWNS).raise 0x9101 uMGMT 0
    let s := forEach (List.range 64) s fun s n =>
      if Fld.BND_VALID.get (s.binding n) = 1 ∧ Fld.BND_RECEIVER.get (s.binding n) = MATE ∧ s.get (Obj.MAILBOX_STATE n) = 1 then (s.zeroMail n).mateMailFailed n 0xFFFE else s
    let s := s.resetIdentity MATE
    if s.get Obj.PAIR_CTRL_PAIR_ENABLE = 1 then s.fallSilent else s

/-- MATE_LINK_DOWN (R462). -/
def execMateLinkDown (s : State) : Out := s.inCore fun s => s.mateDown

/-- MATE_LINK_UP (R462, R481): the partner is silent no longer, unless two cycle ends in a row have passed with no HEALTH from it. -/
def execMateLinkUp (s : State) : Out :=
  s.inCore fun s =>
    if s.pair.linkUp then s
    else
      let s := (s.withPair { s.pair with linkUp := true }).raise 0x9003 uMGMT 0
      if s.pair.missed < 2 then s.set Obj.PAIR_CTRL_PARTNER (s.get Obj.PAIR_CTRL_PARTNER / 2 * 2) else s

/-- MATE_CRC_ERROR (R463, R464). -/
def execMateCrcError (s : State) : Out :=
  s.inCore fun s => if s.pair.linkUp then (s.bump Obj.PAIR_STATS_MATE_CRC_ERRORS).raise 0x9108 uMGMT 0 else s

/-- Sets a bit of FAIL_MAP (R479). -/
def State.fail (s : State) (b : Nat) : State := s.set Obj.PROOF_FAIL_MAP (Nat.lor (s.get Obj.PROOF_FAIL_MAP) (2 ^ b))
/-- Clears it. -/
def State.pass (s : State) (b : Nat) : State := s.set Obj.PROOF_FAIL_MAP (setBits (s.get Obj.PROOF_FAIL_MAP) b 1 0)

/-- MEMORY_BIST (R479): the next slice, and whether the march failed. -/
def execMemoryBist (failed : Bool) (s : State) : Out :=
  s.inCore fun s =>
    let s : State := (s.withPair { s.pair with slice := s.pair.slice + 1 })
    let s := s.bump Obj.PROOF_SLICES_TESTED
    if failed then ((s.fail 0).raise 0x9303 uMGMT 0).showHealth else s

/-- A pipeline lies outside its sector's ACTIVE_MASK: ingress 0 to 31, egress 32 to 63. -/
def State.outsideMask (s : State) (p : Nat) : Bool := !(s.get (Obj.PIPE_POOL_ACTIVE_MASK (p % 32 / 4))).testBit (p % 4)

/-- LOGIC_BIST (R479): the next pipeline outside ACTIVE_MASK in rotation. -/
def execLogicBist (failed : Bool) (s : State) : Out :=
  s.inCore fun s =>
    match (List.range 64).find? fun i => s.outsideMask ((s.pair.nextLbist + i) % 64) with
    | none => s
    | some i =>
      let p := (s.pair.nextLbist + i) % 64
      let s : State := (s.withPair { s.pair with
        nextLbist := (p + 1) % 64, lbist := Table.put (fun _ => 0) s.pair.lbist p s.time.now })
      let s := s.bump Obj.PROOF_LBIST_RUNS
      if failed then ((s.fail 1).raise 0x9302 uMGMT 0).showHealth else s

/-- LBIST_OVERDUE (R479): a pipeline that its pool keeps active. -/
def execLbistOverdue (pipeline : Fin 64) (s : State) : Out :=
  s.inCore fun s =>
    if s.outsideMask pipeline = false ∧ Table.get (fun _ => 0) s.pair.lbist pipeline + s.get Obj.PROOF_LBIST_MAX_S * nsPerS < s.time.now then
      (s.fail 2).raise 0x9109 uMGMT (packArg [(16, pipeline.val)])
    else s

/-- A lane is enabled: line lanes 0 to 127, fabric lanes 128 to 287, mate lanes 288 to 291. -/
def State.laneEnabled (s : State) (l : Nat) : Bool :=
  if l < 128 then (List.range 128).any fun p => s.on (Obj.LINE_PORT_PORT_ENABLE p) && s.coversLane p l
  else if l < 288 then s.on (Obj.FABRIC_LANE_FL_ENABLE (l - 128))
  else true

/-- EYE_CHECK (R479): eye margins in percent of nominal, lane by lane. -/
def execEyeCheck (margins : List (Fin 292 × Nat)) (s : State) : Out :=
  s.inCore fun s =>
    let low := margins.filter fun m => s.laneEnabled m.1 && Nat.blt m.2 (s.get Obj.PROOF_EYE_MIN_PCT)
    let s : State := (s.withPair { s.pair with mateEye := low.any fun m => Nat.ble 288 m.1.val })
    let s := match low with
      | [] => s.pass 3
      | m :: _ => (s.fail 3).raise 0x9110 uMGMT (packArg [(16, m.1.val)])
    s.showHealth

/-- FW_HEARTBEAT (R479): any value; the watch starts anew. -/
def ruleFwHeartbeat (s : State) : Res :=
  (.ok, ((s.withPair { s.pair with heartbeat := s.time.now }).pass 6).showHealth)

/-- FW_HEARTBEAT. -/
def execFwHeartbeat (master value : Nat) (s : State) : Out := s.rowWrite master Obj.PROOF_FW_HEARTBEAT value ruleFwHeartbeat

/-- HEARTBEAT_TIMEOUT (R479). -/
def execHeartbeatTimeout (s : State) : Out :=
  s.inCore fun s =>
    if s.pair.heartbeat + 4 * nsPerS ≤ s.time.now ∧ (s.get Obj.PROOF_FAIL_MAP).testBit 6 = false then ((s.fail 6).raise 0x9204 uMGMT 0).showHealth
    else s

end Sys2Proof.Machine
end

