-- ==== Sys2Proof/Machine/PcieReset.lean ====
section
/-! DEFINITION. Function-level reset, PCIe hot reset and changes of the PCIe link (R415, R418, R429). -/

namespace Sys2Proof.Machine

/-- Applies a change to every packet between the ports and the buffer. -/
def NetState.mapPkts (n : NetState) (f : Pkt → Pkt) : NetState :=
  { n with
    rx := n.rx.map fun e => (e.1, e.2.map f)
    metering := n.metering.map fun m => { m with pkt := f m.pkt }
    mc := n.mc.map fun e => (e.1, e.2.map fun j => { j with pkt := f j.pkt })
    toAdmit := n.toAdmit.map f
    recirc := n.recirc.map f
    queues := n.queues.map fun e => (e.1, e.2.map f)
    egress := n.egress.map fun e => (e.1, e.2.map f)
    tx := n.tx.map fun e => (e.1, e.2.map f)
    wire := n.wire.map fun e => (e.1, e.2.map fun w => (f w.1, w.2)) }

/-- A packet no longer reports to a job of the given rings: the results of a reset function's jobs are discarded (R415). -/
def Pkt.forget (sqs : List Nat) (k : Pkt) : Pkt :=
  let gone := fun (j : Option (Nat × Nat)) => match j with
    | some x => if sqs.contains x.1 then none else some x
    | none => none
  { k with job := gone k.job, direct := gone k.direct }

/-- Every submission ring of the list is disabled at once: its jobs are dropped without a completion, its indices are 0, its
configuration keeps its values (R415). -/
def State.dropSqs (s : State) (sqs : List Nat) : State :=
  let mine := fun (q : Nat) => sqs.contains q
  let owed := s.host.disabling.filter fun d => mine d.sq
  let s : State := ((s.withHost { s.host with
      jobs := s.host.jobs.filter fun j => !mine j.sq
      push := Table.keep (fun k => !mine (k / 4)) s.host.push
      reports := s.host.reports.filter fun r => !mine r.sq
      visits := Table.keep (fun k => !mine k) s.host.visits
      disabling := s.host.disabling.filter fun d => !mine d.sq
      stopped := s.host.stopped.filter fun q => !mine q }).withNet (s.net.mapPkts (Pkt.forget sqs)))
  let s := forEach sqs s fun s q =>
    (((s.set (Obj.SQ_CONFIG_SQ_ENABLE q) 0).set (Obj.SQ_CONFIG_SQ_STATE q) 0).set (Obj.SQ_CONFIG_SQ_HEAD q) 0).set (Obj.SQ_CONFIG_SQ_TAIL q) 0
  (forEach owed s fun s d => s.tellDisabled d).countJobs

/-- Every completion ring of the list is disabled at once, with what its stash holds. -/
def State.dropCqs (s : State) (cqs : List Nat) : State :=
  forEach cqs s fun s q =>
    let s := (((s.set (Obj.CQ_CONFIG_CQ_ENABLE q) 0).set (Obj.CQ_CONFIG_CQ_STATE q) 0).set (Obj.CQ_CONFIG_CQ_HEAD q) 0).set (Obj.CQ_CONFIG_CQ_TAIL q) 0
    ((s.set (Obj.CQ_CONFIG_CQ_STASH q) 0).setCq q {}).stashGone q

/-- MSI-X of a function is masked again and its pending bits are cleared (log entry 7). -/
def State.maskFunction (s : State) (fn : Nat) : State :=
  (s.withMsix {
    table := Table.keep (fun k => !Nat.beq (k / 1024) fn) s.msix.table
    fnMasked := s.msix.fnMasked.filter (· != fn)
    unmasked := s.msix.unmasked.filter fun k => !Nat.beq (k / 1024) fn
    pba := s.msix.pba.filter fun k => !Nat.beq (k / 1024) fn })

/-- The rings of the functions of a list are disabled at once and their MSI-X is masked. -/
def State.dropFunctions (s : State) (fns : List Nat) : State :=
  let sqs := (List.range 1024).filter fun q => fns.contains (s.sqFn q)
  let cqs := (List.range 1024).filter fun q => fns.contains (s.cqFn q)
  let held := s.dict.held.filter fun h => match functionOf h.master with | some f => !fns.contains f | none => true
  forEach fns (((s.dropSqs sqs).dropCqs cqs).withDict { ((s.dropSqs sqs).dropCqs cqs).dict with held := held }) fun s fn => s.maskFunction fn

/-- Every function is reset: each of its rings (R415) and its mailbox identity (R429). -/
def State.resetPcie (s : State) : State :=
  forEach (List.range 33) (s.dropFunctions (List.range 33)) fun s fn => s.resetIdentity (if fn = 0 then HOST else fn + 1)

/-- FUNCTION_LEVEL_RESET (R415, R429): the function's rings; a reset of the PF also resets the mailboxes of every VF. -/
def execFunctionLevelReset (fn : Fin 33) (s : State) : Out :=
  s.inCore fun s =>
    let s := s.dropFunctions [fn.val]
    if fn.val = 0 then forEach (List.range 33) s fun s k => s.resetIdentity (if k = 0 then HOST else k + 1)
    else s.resetIdentity (fn.val + 1)

/-- PCIE_HOT_RESET (R415). -/
def execPcieHotReset (s : State) : Out := s.inCore fun s => s.resetPcie

/-- The PCIe link goes down (R415, R418). -/
def State.pcieDown (s : State) : State :=
  if s.on Obj.PCIE_LINK_LINK_UP then
    let s := (((s.set Obj.PCIE_LINK_LINK_UP 0).set Obj.PCIE_LINK_LINK_SPEED 0).set Obj.PCIE_LINK_LINK_WIDTH 0).set Obj.PCIE_LINK_FLIT_MODE 0
    ((s.bump Obj.PCIE_LINK_LINK_DOWNS).resetPcie).raise 0x8102 uMGMT 0
  else s

/-- PCIE_LINK_DOWN. -/
def execPcieLinkDown (s : State) : Out := s.inCore fun s => s.pcieDown

/-- The functions that the host enables are there for it: the PF and the first VFs, each with the device's identity (R389). -/
def State.enumerate (s : State) (vfs : Nat) : State :=
  let vfs := min vfs pcieTotalVfs
  forEach (List.range (vfs + 1)) (s.set Obj.PCIE_LINK_VFS_ENABLED vfs) fun s fn => s.emit (.identify fn pcieDeviceId pcieClassCode)

/-- PCIE_LINK_UP (R389, R417, R418): speed code less one, base-2 logarithm of the lanes, and the VFs the host enables. FLIT mode is
that of 64 GT/s. While the link is up only the number of VFs is new (log entry 192). -/
def execPcieLinkUp (speed : Fin 6) (width : Fin 5) (vfs : Fin 33) (s : State) : Out :=
  s.inCore fun s =>
    if s.on Obj.PCIE_LINK_LINK_UP then s.enumerate vfs
    else
      let s := (s.set Obj.PCIE_LINK_LINK_UP 1).set Obj.PCIE_LINK_LINK_SPEED (speed.val + 1)
      let s := (s.set Obj.PCIE_LINK_LINK_WIDTH (2 ^ width.val)).set Obj.PCIE_LINK_FLIT_MODE (if speed.val = 5 then 1 else 0)
      (s.enumerate vfs).raise 0x8002 uMGMT 0

end Sys2Proof.Machine
end

