-- ==== Sys2Proof/Machine/Security.lean ====
section
/-! DEFINITION. Life-cycle state and its transitions, keys, images and the anti-rollback counter, debug levels and tokens (R512 to
R527), and the end of writes that run on after their arrival (R376, R514). -/

namespace Sys2Proof.Machine

/-- The end of a write that ran on is told by the way its start fixed: the access status of a window master (R376, R377), an answer,
the completion of a ring job (R402), the final status of a Coica service (R453). -/
def State.endWrite (s : State) (via : SlowVia) (master key : Nat) (st : Status) (ret : Option Nat := none) (data : List Byte := []) : State :=
  match via with
  | .window => s.noteRefused master key st
  | .direct => s.answer master key st
  | .job sq index => match ret with
    | some r => s.complete sq index st r
    | none =>
      if st = .ok then s.complete sq index .ok 0
      else
        let (r, s) := s.openReturn
        s.complete sq index st r
  | .coica addr svc txn => (s.withCoica { s.coica with
      running := replaceFirst (fun r => Nat.beq r.addr addr && Nat.beq r.svc svc && Nat.beq r.txn txn && r.ended.isNone)
        (fun r => { r with ended := some (st.code, data) }) s.coica.running })

/-- Slow writes of an object end with a status (R376). -/
def State.endSlow (s : State) (key : Nat) (st : Status) (ret : Option Nat := none) (data : List Byte := []) : State :=
  let mine := s.dict.slow.filter fun w => Nat.beq w.key key
  let s : State := (s.withDict { s.dict with slow := s.dict.slow.filter fun w => !Nat.beq w.key key })
  forEach mine s fun s w =>
    let s := s.endWrite w.via w.master w.key st ret data
    if w.via = .window then s.notePending w.master else s

/-! ### Life-cycle state -/

/-- State codes of R512. -/
abbrev lcBLANK : Nat := 0
/-- PROVISIONED. -/
abbrev lcPROVISIONED : Nat := 1
/-- DEPLOYED. -/
abbrev lcDEPLOYED : Nat := 2
/-- RMA. -/
abbrev lcRMA : Nat := 3
/-- DECOMMISSIONED. -/
abbrev lcDECOM : Nat := 4

/-- The state a fuse word and its redundant copy read as, and whether they are consistent (R512). -/
def lcOf (primary copy : Nat) : Nat × Bool :=
  if primary ≠ copy then (lcDECOM, false)
  else
    let state := if primary.testBit 3 then lcDECOM
      else match primary % 8 with
        | 0 => lcBLANK | 1 => lcPROVISIONED | 3 => lcDEPLOYED | 7 => lcRMA
        | _ => lcDECOM
    (state, (primary % 8 = 0 ∨ primary % 8 = 1 ∨ primary % 8 = 3 ∨ primary % 8 = 7 : Bool))

/-- Fuses of a state over those already blown (R512, R514). -/
def lcFusesOf (old target : Nat) : Nat :=
  match target with
  | 1 => Nat.lor old 1
  | 2 => Nat.lor old 3
  | 3 => Nat.lor old 7
  | 4 => Nat.lor old 8
  | _ => old

/-- SERIAL (R513, R528). -/
def State.serialNo (s : State) : Nat :=
  match s.sec.serial with
  | some v => v
  | none => if s.sec.uds = .blank then 0 else Config.partValue Obj.SECURITY_SERIAL % 2 ^ 64

/-- The UDS where the fuses hold one. -/
def State.udsValue (s : State) : Option Nat :=
  match s.sec.uds with
  | .factory => some (Config.uds none)
  | .fused v => some (Config.uds (some v))
  | _ => none

/-- An info string of HKDF as bytes (R518). -/
def infoBytes (info : String) : List Byte := info.toList.map fun c => toByte c.toNat

/-- The DeviceID private key (R518). -/
def deviceIdKey (uds : Nat) : Nat := Config.deriveKey uds (infoBytes "DEVICEID")

/-- DEVICE_ID_HASH (R519): SHA-384 of the DeviceID public key. -/
def State.deviceIdHash (s : State) : Nat :=
  if s.sec.lc = lcBLANK ∨ s.sec.lc = lcRMA ∨ s.sec.lc = lcDECOM then 0
  else match s.udsValue with
    | some u => Config.sha384 (bytesBE 97 (Config.publicKey (deviceIdKey u))) % 2 ^ 384
    | none => 0

/-- CDI_L1 of a life-cycle state and the two image headers (R518). -/
def cdiOf (uds lc : Nat) (loader main : List Byte) : Nat :=
  let hash := fun (l : List Byte) => bytesBE 48 (Config.sha384 l)
  Config.hmacSha384 (Config.hmacSha384 uds (hash loader ++ bytesBE 1 lc)) (hash main)

/-- What the Starter and the stage loader derive from the UDS as they boot a slot (R518): the Starter closes the UDS, and CDI_L0 and the
DeviceID private key do not outlive the stage loader. A warm boot derives it all anew (R526, log entry 193). After an INVASIVE grant it
is not derived until the next cold reset (R525). -/
def State.deriveIdentity (s : State) (image : List (Nat × Nat)) : State :=
  let d : Option Dice := match (if s.sec.lc = lcPROVISIONED ∨ s.sec.lc = lcDEPLOYED then s.udsValue else none) with
    | some u =>
      let cdi := cdiOf u s.sec.lc (Config.headerBytes false image) (Config.headerBytes true image)
      let key := Config.deriveKey cdi (infoBytes "ALIAS")
      let pub := Config.publicKey key
      some ⟨cdi, key, pub, Config.sign (deviceIdKey u) (Config.certificateBody pub)⟩
    | none => none
  let d := if s.sec.zeroed then none else d
  (s.withSec { s.sec with udsClosed := true, attested := d.isSome, dice := d })

/-- Owner slot k holds a key and is not revoked (R515). -/
def State.ownerSlot (s : State) (k : Nat) : Bool :=
  Nat.blt k 4 && !Nat.beq (s.get (Obj.SECURITY_KEY_HASH k)) 0 && !(s.get Obj.SECURITY_KEY_REVOKED).testBit k

/-- The vendor key is accepted in the present state (R516). -/
def State.vendorOk (s : State) : Bool := s.sec.lc == lcBLANK || s.sec.lc == lcPROVISIONED || s.sec.lc == lcRMA
/-- Owner keys are accepted in the present state. -/
def State.ownerOk (s : State) : Bool := s.sec.lc == lcPROVISIONED || s.sec.lc == lcDEPLOYED

/-- The bytes of a 48-byte hash as an object holds them: byte k of the string is byte k of the value, least significant first. -/
def hashValue (h : Nat) : Nat := natLE (bytesBE 48 (h % 2 ^ 384))

/-- A public key's hash is accepted for images in the present state (R516). -/
def State.keyAccepted (s : State) (hash : Nat) : Bool :=
  (s.vendorOk && Nat.beq hash (Config.vendorKey % 2 ^ 384)) ||
    (s.ownerOk && (List.range 4).any fun k => s.ownerSlot k && Nat.beq (s.get (Obj.SECURITY_KEY_HASH k)) (hashValue hash))

/-- DBG_LEVEL takes a code; HEALTH follows (R525). Below INVASIVE the balls are the device's own again (R520). -/
def State.setLevel (s : State) (v : Nat) : State :=
  let s := (s.set Obj.DEBUG_DBG_LEVEL v).showHealth
  if v = 2 then s else (s.withSec { s.sec with extest := false })

/-- The level falls to NONE (R513, R521). -/
def State.dropDebug (s : State) : State :=
  if s.get Obj.DEBUG_DBG_LEVEL = 0 then s else (s.setLevel 0).raise 0x0003 uMGMT 0

/-- The level is NONE from DBG_EXPIRES on (R8, R521). -/
def State.expireDebug (s : State) : State :=
  let e := s.get Obj.DEBUG_DBG_EXPIRES
  if e ≠ 0 ∧ ofTime80 e ≤ s.timeNow then s.dropDebug else s

/-! ### Fuses -/

/-- Whether a write may blow fuses now (R514). -/
def State.fusible (s : State) : Status :=
  if s.inIsland then .unavailable else if s.sec.fusing.isSome then .busy else .ok

/-- Begins to blow fuses; the write's status is told at their end. -/
def State.startFuse (s : State) (job : FuseJob) (master key : Nat) : Res :=
  (.ok, (s.withSec { s.sec with fusing := some { job := job, master := master, key := key } }))

/-- PROVISION (R513): in BLANK, to PROVISIONED or to DECOMMISSIONED. -/
def ruleProvision (master v : Nat) (s : State) : Res :=
  match s.fusible with
  | .ok =>
    if s.sec.lc ≠ lcBLANK then (.denied, s)
    else if v = 1 ∨ v = 4 then s.startFuse (.transition v) master Obj.SECURITY_PROVISION
    else (.invalid, s)
  | st => (st, s)

/-- PROVISION_PROVISIONED: a write of 1 to PROVISION. -/
def execProvisionProvisioned (master : Nat) (s : State) : Out :=
  s.rowWrite master Obj.SECURITY_PROVISION 1 (ruleProvision master 1)

/-- PROVISION_DECOMMISSION: a write of 4 to PROVISION. -/
def execProvisionDecommission (master : Nat) (s : State) : Out :=
  s.rowWrite master Obj.SECURITY_PROVISION 4 (ruleProvision master 4)

/-- SVN_ADVANCE (R517). -/
def ruleSvnAdvance (master v : Nat) (s : State) : Res :=
  match s.fusible with
  | .ok =>
    if s.get Obj.SECURITY_SVN_COUNTER < v ∧ v ≤ s.get Obj.IDENTITY_FW_SVN ∧ v ≤ 128 then s.startFuse (.svn v) master Obj.SECURITY_SVN_ADVANCE
    else (.invalid, s)
  | st => (st, s)

/-- SVN_ADVANCE. -/
def execSvnAdvance (master value : Nat) (s : State) : Out :=
  s.rowWrite master Obj.SECURITY_SVN_ADVANCE value (ruleSvnAdvance master value)

/-- KEY_HASH_k (R515). -/
def ruleKeyHash (k master v : Nat) (s : State) : Res :=
  match s.fusible with
  | .ok =>
    if s.get (Obj.SECURITY_KEY_HASH k) ≠ 0 then (.busy, s)
    else if s.sec.lc ≠ lcPROVISIONED then (.denied, s)
    else s.startFuse (.key k v) master (Obj.SECURITY_KEY_HASH k)
  | st => (st, s)

/-- KEY_HASH: a write of 48 bytes, which the window does not take whole (R374): it comes by a ring job or a service. -/
def execKeyHash (slot : Fin 4) (master value : Nat) (s : State) : Out :=
  let key := Obj.SECURITY_KEY_HASH slot
  .next (if s.unreached master then s else State.finish .job master key (s.writeWith .job master key value (ruleKeyHash slot master value)))

/-- What the fuses of a job hold after it. `read` gives the fuses of the primary word and of its copy, or the count, hash or slot,
that read back right when some do not. -/
def State.blow (s : State) (job : FuseJob) (read : Option (Nat × Nat)) : State :=
  match job with
  | .transition t =>
    let want := lcFusesOf s.sec.lcFuses t
    let (p, c) := match read with
      | none => (want, want)
      | some (p, c) => (Nat.lor s.sec.lcFuses (Nat.land p want), Nat.lor s.sec.lcCopy (Nat.land c want))
    -- the UDS and SERIAL are fused before PROGRESS bit 0
    let s : State := if t = 1 ∧ s.sec.uds = .blank then
        let (u, s) := s.fresh
        let (n, s) := s.fresh
        ((s.withSec { s.sec with uds := .fused u, serial := some (n % 2 ^ 64) }).withFlash { s.flash with deviceCert := true })
      else s
    let changed : Bool := !(Nat.beq p s.sec.lcFuses && Nat.beq c s.sec.lcCopy)
    let s : State := (s.withSec { s.sec with lcFuses := p, lcCopy := c })
    if changed then (s.set Obj.SECURITY_LC_PENDING (lcOf p c).1).dropDebug else s
  | .svn v =>
    let old := s.get Obj.SECURITY_SVN_COUNTER
    s.set Obj.SECURITY_SVN_COUNTER (match read with | none => v | some (n, _) => max old (min n v))
  | .key k h => s.set (Obj.SECURITY_KEY_HASH k) (match read with | none => h | some (p, _) => Nat.land p h)
  | .revoke k =>
    (match read with
    | none => s.set Obj.SECURITY_KEY_REVOKED (Nat.lor (s.get Obj.SECURITY_KEY_REVOKED) (2 ^ k))
    | some _ => s)

/-- FUSE_PROGRAM_DONE (R513 to R517): the fuses being blown are done; `failed` gives what reads back where some fuse does not. -/
def execFuseProgramDone (failed : Option (Nat × Nat)) (s : State) : Out :=
  .next (
    match s.sec.fusing with
    | none => s
    | some f =>
      let s : State := (s.withSec { s.sec with fusing := none })
      let s := s.blow f.job failed
      match failed with
      | some _ => (s.raise 0x0202 uMGMT 0).endWrite f.via f.master f.key .parity
      | none =>
        let s := match f.job with
          | .transition _ | .revoke _ => s.raise 0x0001 uMGMT 0
          | .svn _ => s.raise 0x0004 uMGMT 0
          | .key _ _ => s
        s.endWrite f.via f.master f.key .ok)

/-! ### Challenges and tokens -/

/-- 60 s in ns. -/
abbrev minute : Nat := 60 * nsPerS

/-- 48 fresh bytes replace any earlier challenge. -/
def State.drawChallenge (s : State) : Status × Nat × State :=
  let (b, s) := State.freshBytes 48 s
  let v := natLE b
  (.ok, v, (s.withSec { s.sec with challenge := some (v, s.time.now) }))

/-- A read of DBG_CHALLENGE (R522, R524): fresh bytes, or BUSY while challenges are withheld. -/
def State.readChallenge (s : State) : Status × Nat × State :=
  match s.sec.withheld with
  | some t => if s.time.now < t then (.busy, 0, s) else State.drawChallenge (s.withSec { s.sec with withheld := none })
  | none => s.drawChallenge

/-- DBG_CHALLENGE. -/
def execDbgChallenge (master : Nat) (s : State) : Out := s.rowRead master Obj.DEBUG_DBG_CHALLENGE fun s => s.readChallenge

/-- The token in AUTH_RESPONSE, 320 bytes (R523). -/
def State.token (s : State) : List Byte := (List.range 5).flatMap fun e => bytesBE 64 (s.dom Dom.AUTH_RESPONSE e)

/-- The transition that a token asks for is one of R513's, with the key that may sign it. -/
def State.transitionOk (s : State) (target key : Nat) : Bool :=
  let owner : Bool := Nat.ble 1 key
  match s.sec.lc, target with
  | 1, 2 => owner && (List.range 4).any fun k => !Nat.beq (s.get (Obj.SECURITY_KEY_HASH k)) 0
  | 2, 3 => owner
  | 1, 4 => owner
  | 2, 4 => owner
  | 3, 4 => !owner
  | _, _ => false

/-- The first failing step of a token's check (R524); 0 for none. -/
def State.tokenStep (s : State) : Nat :=
  let t := s.token
  let op := byteAt t 56
  let arg := byteAt t 57
  let key := byteAt t 58
  let valid := wordAt t 60 4
  match s.sec.challenge with
  | none => 1
  | some (c, at') =>
    if at' + minute ≤ s.time.now then 1
    else if natLE (t.take 48) ≠ c ∨ wordAt t 48 8 ≠ s.serialNo ∨ byteAt t 59 ≠ s.sec.lc then 2
    else
      let pub := (t.drop 64).take 97
      let hash := Config.sha384 pub % 2 ^ 384
      let keyOk : Bool := if key = 0 then s.vendorOk && Nat.beq hash (Config.vendorKey % 2 ^ 384)
        else s.ownerOk && s.ownerSlot (key - 1) && Nat.beq (s.get (Obj.SECURITY_KEY_HASH (key - 1))) (hashValue hash)
      if keyOk = false then 3
      else if Config.signatureValid (natBE pub) (t.take 168) ((t.drop 168).take 96) = false then 4
      else
        let form : Bool := match op with
          | 1 | 2 => Nat.beq arg 0 && Nat.ble valid 86400
          | 3 => s.transitionOk arg key
          | 4 => Nat.ble 1 key && Nat.blt arg 4 && !Nat.beq arg (key - 1)
          | _ => false
        if form = false then 5
        else if op = 2 ∧ s.sec.lc = lcDEPLOYED ∧ s.get Obj.PAIR_CTRL_ROLE = roleACTIVE then 6
        else 0

/-- AUTH_SUBMIT (R522, R524, R525, R527): the expiry of the level and a takeover of the instant come first; the challenge is spent
whatever the outcome. -/
def ruleAuthSubmit (master : Nat) (s : State) : Res :=
  let s := s.expireDebug
  let s := if s.coreOff then s else s.dueTakeover
  let step := s.tokenStep
  let t := s.token
  let op := byteAt t 56
  let s : State := (s.withSec { s.sec with challenge := none })
  if step ≠ 0 then
    let s := (((s.bump Obj.DEBUG_AUTH_FAILS).set Obj.DEBUG_AUTH_STATUS step).raise 0x0101 uMGMT 0)
    if s.sec.failures + 1 < 8 then (.invalid, (s.withSec { s.sec with failures := s.sec.failures + 1 }))
    else (.invalid, ((s.withSec { s.sec with failures := 0, withheld := some (s.time.now + minute) }).raise 0x0102 uMGMT 0))
  else
    let s : State := (s.withSec { s.sec with failures := 0 })
    if op = 1 ∨ op = 2 then
      let valid := wordAt t 60 4
      let s := (s.set Obj.DEBUG_AUTH_STATUS 0).set Obj.DEBUG_DBG_EXPIRES (if valid = 0 then 0 else time80 (s.timeNow + valid * nsPerS))
      -- a token never lowers the level
      let s := s.setLevel (max op (s.get Obj.DEBUG_DBG_LEVEL))
      let s : State := if op = 2 ∧ (s.sec.lc = lcPROVISIONED ∨ s.sec.lc = lcDEPLOYED) then (s.withSec { s.sec with attested := false, zeroed := true, dice := none }) else s
      (.ok, s.raise 0x0002 uMGMT 0)
    else
      match s.fusible, op with
      | .ok, 3 => (s.set Obj.DEBUG_AUTH_STATUS 0).startFuse (.transition (byteAt t 57)) master Obj.DEBUG_AUTH_SUBMIT
      | .unavailable, 3 => (.unavailable, s)
      | .busy, _ => (.busy, s)
      | _, _ => (s.set Obj.DEBUG_AUTH_STATUS 0).startFuse (.revoke (byteAt t 57)) master Obj.DEBUG_AUTH_SUBMIT

/-- A write of AUTH_SUBMIT. -/
def State.submit (s : State) (master value : Nat) : Out := s.rowWrite master Obj.DEBUG_AUTH_SUBMIT value (ruleAuthSubmit master)

/-- TOKEN_OBSERVE: AUTH_SUBMIT with a token of OP 1. -/
def execTokenObserve (master value : Nat) (s : State) : Out := s.submit master value
/-- TOKEN_INVASIVE: AUTH_SUBMIT with a token of OP 2. -/
def execTokenInvasive (master value : Nat) (s : State) : Out := s.submit master value
/-- TOKEN_TRANSITION: AUTH_SUBMIT with a token of OP 3. -/
def execTokenTransition (master value : Nat) (s : State) : Out := s.submit master value
/-- TOKEN_REVOKE: AUTH_SUBMIT with a token of OP 4. -/
def execTokenRevoke (master value : Nat) (s : State) : Out := s.submit master value

/-- DBG_DROP (R521): a lower code lowers the level at once; a higher one is INVALID. -/
def ruleDbgDrop (v : Nat) (s : State) : Res :=
  let s := s.expireDebug
  let l := s.get Obj.DEBUG_DBG_LEVEL
  if l < v then (.invalid, s)
  else if v = l then (.ok, s)
  else (.ok, (s.setLevel v).raise 0x0003 uMGMT 0)

/-- DBG_DROP. -/
def execDbgDrop (master value : Nat) (s : State) : Out := s.rowWrite master Obj.DEBUG_DBG_DROP value (ruleDbgDrop value)

/-- DBG_EXPIRY (R521). -/
def execDbgExpiry (s : State) : Out := .next s.expireDebug

/-- CHALLENGE_EXPIRY (R522). -/
def execChallengeExpiry (s : State) : Out :=
  .next (
    match s.sec.challenge with
    | some (_, t) => if t + minute ≤ s.time.now then (s.withSec { s.sec with challenge := none }) else s
    | none => s)

/-- CHALLENGE_LOCKOUT_END (R524). -/
def execChallengeLockoutEnd (s : State) : Out :=
  .next (
    match s.sec.withheld with
    | some t => if t ≤ s.time.now then (s.withSec { s.sec with withheld := none }) else s
    | none => s)

/-! ### The debug master -/

/-- An action of D that needs INVASIVE (R520); in ISLAND halting and scanning are UNAVAILABLE (R526). -/
def State.invasive (s : State) (f : State → Res) : State :=
  let s := s.expireDebug
  let r := if s.get Obj.DEBUG_DBG_LEVEL ≠ 2 then (.denied, s)
    else if s.coreOff then (.unavailable, s)
    else f s
  r.2.answer DBG 0 r.1

/-- CORE_HALT (R520, R525): the management cores stop; the data path runs on. -/
def execCoreHalt (s : State) : Out := .next (s.invasive fun s => (.ok, (s.withSec { s.sec with halted := true })))

/-- CORE_STEP (R520): halted cores take one step and halt again; what the firmware does in it is no state of this model. -/
def execCoreStep (s : State) : Out := .next (s.invasive fun s => if s.sec.halted then (.ok, s) else (.busy, s))

/-- The balls that the model holds as SAMPLE captures them: PPS_OUT, ALARM_N and WAKE_N (R520; their order is the model's, log entry 194). -/
def State.balls (s : State) : List Nat := [ofBool s.time.ppsHigh, ofBool (!s.ev.alarmLow), ofBool s.pw.wakeLow.isNone]

/-- EXTEST (R520): the boundary-scan instruction that D selects: 0 IDCODE, which is open to D at every level and shifts the
code of the IDENTITY object out (BYPASS shows nothing of the device), 1 SAMPLE, which captures the balls, 2 EXTEST, which takes them. -/
def execExtest (mode : Fin 3) (s : State) : Out :=
  .next (
    let s := s.expireDebug
    if mode.val = 0 then (s.withSec { s.sec with extest := false }).emit (.debug [s.get Obj.IDENTITY_IDCODE])
    else if s.debugLevel ≠ 2 then s.answer DBG 0 .denied
    else
      let s := s.withSec { s.sec with extest := Nat.beq mode.val 2 }
      (if mode.val = 1 then s.emit (.debug s.balls) else s).answer DBG 0 .ok)

end Sys2Proof.Machine
end

