-- ==== Sys2Proof/Machine/Resets.lean ====
section
/-! DEFINITION. Resets and containment: units, sectors, dies, the package, cold reset (R6, R530 to R533, R558 to R560), the die-to-die
link (R559) and the two ways into and out of ISLAND (R507, R508, R571). -/

namespace Sys2Proof.Machine

/-- Key of a sector: die × 16 + sector. -/
def sectorKey (die n : Nat) : Nat := die * 16 + n

/-- A packet in flight in a sector that is reset is discarded and counted (R6, log entry 32). -/
def State.countDiscard (s : State) (key : Nat) : State :=
  (s.withBoot { s.boot with discards := Table.put zeroN s.boot.discards key (wrapAdd 64 (Table.get zeroN s.boot.discards key) 1) })

/-- Discards and counts. -/
def State.discardAt (s : State) (key : Nat) (k : Pkt) : State := (s.countDiscard key).dropPacket k

/-- Discards a packet that was selected for a port, and counts. -/
def State.discardSelected (s : State) (key p : Nat) (k : Pkt) : State := (s.countDiscard key).dropSelected p k

/-- Marks a sector or die as in reset. -/
def State.beginReset (s : State) (key : Nat) : State :=
  if s.boot.resets.contains key then s else (s.withBoot { s.boot with resets := key :: s.boot.resets })

/-- A part takes no work until its reset ends. -/
def State.blockPart (s : State) (c i : Nat) : State :=
  s.setPart c i { s.part c i with entering := none, waking := none, blocked := true }

/-- The packets in flight in an FS sector are discarded: those that wait for a meter, for replication, in its egress pipelines and in
its ports' MACs. Arrivals stay in the receive buffers (R560). -/
def State.clearFs (s : State) (n : Nat) : State :=
  let key := sectorKey 0 n
  let mine := s.net.metering.filter fun m => Nat.beq m.sector n
  let s : State := (s.withNet { s.net with metering := s.net.metering.filter fun m => !Nat.beq m.sector n })
  let s := forEach mine s fun s m => s.discardAt key m.pkt
  let jobs := Table.get noList s.net.mc n
  let s : State := (s.withNet { s.net with
    mc := Table.put noList s.net.mc n [], rotation := Table.put zeroN s.net.rotation n 0
    arrivals := Table.put noInstants s.net.arrivals n [], busyUntil := Table.keep (fun k => !Nat.beq (k / 4) n) s.net.busyUntil })
  let s := forEach jobs s fun s j => s.discardAt key j.pkt
  let s := forEach ((List.range 136).filter fun p => Nat.beq (s.egressSector p) n) s fun s p =>
    let l := Table.get noList s.net.egress p
    let s : State := (s.withNet { s.net with egress := Table.put noList s.net.egress p [] })
    forEach l s fun s k => s.discardSelected key p k
  forEach ((List.range 16).map fun i => 16 * n + i) s fun s p =>
    let l := Table.get noList s.net.tx p
    let w := Table.get (fun _ => none) s.net.wire p
    let s : State := (s.withNet { s.net with tx := Table.put noList s.net.tx p [], wire := Table.put (fun _ => none) s.net.wire p none })
    let s := forEach l s fun s k => s.discardSelected key p k
    match w with
    | some x => s.discardSelected key p x.1
    | none => s

/-- Reset of an FS sector (R530); its TCAM replica is reloaded from the shadow, which it equals in this model. -/
def State.resetFs (s : State) (n : Nat) : State :=
  let s := (s.clearFs n).beginReset (sectorKey 0 n)
  (forEach (List.range 7) s fun s i => s.blockPart (128 + n) i).showPower (128 + n)

/-- The scheduling state of the nodes under a port starts anew (R223, R530): each class and group on a list has its quantum as deficit,
and every user of a WFQ set rejoins with S = V. -/
def State.resetNodes (s : State) (p : Nat) : State :=
  let s := forEach (s.classList p) s fun s c => s.setClassDeficit (8 * p + c) (s.classQuantum (8 * p + c))
  forEach (List.range 8) s fun s c =>
    forEach (s.groupList (8 * p + c)) s fun s g =>
      forEach (s.wfqOf g) (s.setGroupDeficit g (s.groupQuantum g)) fun s u => s.wfqJoin g u

/-- The lane returns to HUNT: it is out of frame until it is in SYNC again. -/
def State.huntDefect (s : State) (m : Nat) : State := (s.hunt m).setDefect m 1 true

/-- The other cells of packets that have been counted as discarded count them no more. -/
def State.markCounted (s : State) (ids : List Nat) : State :=
  let mark := fun (c : OutCell) => if c.pkt.any ids.contains then { c with counted := true } else c
  s.withFab { s.fab with
    out := s.fab.out.map fun e => (e.1, e.2.map mark)
    lanes := s.fab.lanes.map fun e => (e.1, { e.2 with data := e.2.data.map mark }) }

/-- The cells of a unit are discarded, and every packet that loses one is counted, once (R6). -/
def State.discardCells (s : State) (key : Nat) (l : List OutCell) : State :=
  let ids := ((l.filter fun c => !c.counted).filterMap OutCell.pkt).eraseDups
  forEach ids ((s.dropCells l).markCounted ids) fun s _ => s.countDiscard key

/-- Reset of a fabric lane: it loses its cells and hunts (R6, R530). -/
def State.resetLane (s : State) (m : Nat) : State :=
  let l := s.fl m
  let s : State := s.withFab { s.fab with arrived := s.fab.arrived.filter fun c => !Nat.beq c.lane m }
  let s := (s.setFl m { l with ctl := [], data := [] }).discardCells (sectorKey 1 (m / 20)) (l.ctl ++ l.data)
  if s.on (Obj.FABRIC_LANE_FL_ENABLE m) then s.huntDefect m else s

/-- Reset of a queue-engine slice (R6, R530): the cells in it are discarded, the scheduling state under its ports starts anew (R223), its
rotations return to the lowest index (R11), those of its ports' credit schedulers included. -/
def State.resetSlice (s : State) (n : Nat) : State :=
  let cells := s.outOf n
  let ports := slicePorts n
  let mine := fun (p : Nat) => ports.contains p
  let s : State := ((s.withFab { s.fab with out := Table.put noList s.fab.out n [] }).withSched { s.sched with
      portPtr := Table.put zeroN s.sched.portPtr n 0
      voqPtr := Table.put zeroN s.sched.voqPtr n 0
      creditPtr := Table.keep (fun pc => !mine (pc / 8)) s.sched.creditPtr
      creditOrder := Table.keep (fun p => !mine p) s.sched.creditOrder
      creditDeficit := Table.keep (fun pc => !mine (pc / 8)) s.sched.creditDeficit })
  let s := s.discardCells (sectorKey 1 n) cells
  forEach ports s fun s p => (s.resetNodes p).creditClasses p

/-- Reset of a TS sector (R530): its slice, and its lanes, which hunt and leave the spray set. -/
def State.resetTs (s : State) (n : Nat) : State :=
  let s := forEach ((List.range 20).map fun i => 20 * n + i) (s.resetSlice n) fun s m => s.resetLane m
  ((s.beginReset (sectorKey 1 n)).blockPart (136 + n) 0).showPower (136 + n)

/-- Reset of a sector. -/
def State.resetSector (s : State) (die n : Nat) : State := if die = 0 then s.resetFs n else s.resetTs n

/-- Every part of an FS sector is in OFF. -/
def State.sectorOff (s : State) (n : Nat) : Bool := (List.range 7).all fun i => Nat.beq (s.part (128 + n) i).state 3

/-- The writes of the BOOT record act on parts of the core; in ISLAND those are without power. -/
def State.coreWrite (s : State) (f : State → State) : Res := if s.inIsland then (.unavailable, s) else (.ok, f s)

/-- SECTOR_RESET (R530, R546): a sector in OFF is done at once. -/
def ruleSectorReset (v : Nat) (s : State) : Res :=
  if Nat.land v 0x78 ≠ 0 ∨ 256 ≤ v then (.invalid, s)
  else s.coreWrite fun s => if v < 128 ∧ s.sectorOff (v % 8) = true then s else s.resetSector (v / 128) (v % 8)

/-- SECTOR_RESET. -/
def execSectorReset (master value : Nat) (s : State) : Out := s.rowWrite master Obj.BOOT_SECTOR_RESET value (ruleSectorReset value)

/-- SECTOR_RESET_DONE (R530): the sector resumes, in RUN, unless it is held in OFF. -/
def execSectorResetDone (die : Fin 2) (sector : Fin 8) (s : State) : Out :=
  s.inCore fun s =>
    let key := sectorKey die sector
    if s.boot.resets.contains key = false ∨ s.boot.resets.contains (32 + die) = true ∨ s.on Obj.THERMAL_STOP_ACTIVE = true then s
    else
      let s : State := (s.withBoot { s.boot with resets := s.boot.resets.filter (· != key) })
      let c := if die.val = 0 then 128 + sector.val else 136 + sector.val
      (forEach (List.range (partsOf c)) s fun s i => s.movePart c i { idleSince := s.time.now }).showPower c

/-- UNIT_RESET (R530): the packets in the unit are discarded and its logic starts anew. Of the units that the spec places in an FS or TS
sector a line lane holds the frame that its port is sending, a fabric lane its cells, and the queue-engine slice, cluster 5 unit 2 (R4),
its cells and rotations; a TCAM replica bank holds no packet and is reloaded from the shadow (log entry 108). -/
def State.resetUnit (s : State) (v : Nat) : State :=
  let die := Fld.UID_DIE.get v
  let sector := Fld.UID_SECTOR.get v
  let cluster := Fld.UID_CLUSTER.get v
  let unit := Fld.UID_UNIT.get v
  let key := sectorKey die sector
  if die = 0 ∧ (cluster = 26 ∨ cluster = 27) ∧ unit < 8 then
    let lane := 16 * sector + 8 * (cluster - 26) + unit
    match (List.range 128).find? fun p => s.on (Obj.LINE_PORT_PORT_ENABLE p) && Nat.ble p lane && Nat.blt lane (p + s.get (Obj.LINE_PORT_LANES p)) with
    | none => s
    | some p =>
      match Table.get (fun _ => none) s.net.wire p with
      | some x => (s.withNet { s.net with wire := Table.put (fun _ => none) s.net.wire p none }).discardSelected key p x.1
      | none => s
  else if die = 1 ∧ 26 ≤ cluster ∧ cluster ≤ 28 ∧ unit < 8 ∧ 8 * (cluster - 26) + unit < 20 then
    s.resetLane (20 * sector + 8 * (cluster - 26) + unit)
  else if die = 1 ∧ cluster = 5 ∧ unit = 2 then s.resetSlice sector
  else s

/-- UNIT_RESET: a unit identity in an FS or TS sector. -/
def ruleUnitReset (v : Nat) (s : State) : Res :=
  if 8 ≤ Fld.UID_SECTOR.get v then (.invalid, s) else s.coreWrite fun s => s.resetUnit v

/-- UNIT_RESET. -/
def execUnitReset (master value : Nat) (s : State) : Out := s.rowWrite master Obj.BOOT_UNIT_RESET value (ruleUnitReset value)

/-- SECTOR_FAULT (R558, R560): a fault of a sector resets it; the third automatic reset within 600 s is fatal. -/
def execSectorFault (die : Fin 2) (sector : Fin 8) (s : State) : Out :=
  s.inCore fun s =>
    let key := sectorKey die sector
    let s := s.raise (if die.val = 0 then 0x3212 else 0x4244) (sectorId die sector) 0
    let recent := (key, s.time.now) :: s.ev.autoResets.filter fun r => Nat.blt s.time.now (r.2 + 600 * nsPerS)
    let s : State := (s.withEv { s.ev with autoResets := recent })
    let s := if 3 ≤ (recent.filter fun r => Nat.beq r.1 key).length then s.raise (if die.val = 0 then 0x3312 else 0x4344) (sectorId die sector) 0 else s
    s.resetSector die sector

/-- SCAN_DUMP (R520, R526): of a sector in RUN; the chains' contents are open (log entry 2), and the sector is then reset. -/
def execScanDump (die : Fin 2) (sector : Fin 8) (s : State) : Out :=
  .next (s.invasive fun s =>
    let c := if die.val = 0 then 128 + sector.val else 136 + sector.val
    if ((List.range (partsOf c)).all fun i => (s.part c i).inRun) = false then (.unavailable, s)
    else
      let (x, s) := s.fresh
      (.ok, (s.emit (.debug [x])).resetSector die sector))

/-! ### Dies -/

/-- RESET_NOTICE to the partner (R464, R533). -/
def State.resetNotice (s : State) (scope : Nat) : State :=
  if s.pair.linkUp then s.emit (.mate (s.mateMessage 11 0 0 0 [toByte scope])) else s

/-- Warm reset of the F die (R530): its sectors, the packets it holds, its line links and the engines' work in progress. -/
def State.resetF (s : State) : State :=
  let s := forEach (List.range 8) s fun s n =>
    let s := s.resetFs n
    let l := Table.get noList s.net.rx n
    let s : State := (s.withNet { s.net with rx := Table.put noList s.net.rx n [] })
    forEach l s fun s k => s.discardAt (sectorKey 0 n) k
  let l := s.net.recirc
  let s : State := ((s.withNet { s.net with recirc := [] }).withLine { s.line with pause := [] })
  let s := forEach l s fun s k => s.discardAt (sectorKey 0 (s.get Obj.RESOLUTION_RECIRC_SECTOR)) k
  let s := forEach (List.range 128) s fun s p =>
    let s := s.setLine p { s.lineOf p with good := false, since := s.time.now, txPause := false }
    if s.get (Obj.LINE_PORT_LINK_STATE p) = 1 then ((s.set (Obj.LINE_PORT_LINK_STATE p) 0).countPort p 0x3E).raise 0x2101 (uLane p) 0 p else s
  let s := forEach (List.range 16) s fun s t => s.setEmt t { s.emt t with learn := [], ager := none, agerTick := false, deletes := [] }
  s.beginReset 32

/-- A selected packet whose last unit had not arrived ends with its FCS inverted (R182). -/
def Pkt.cutShort (k : Pkt) : Pkt := if k.complete then k else { k with arrived := k.whole, stomp := true }

/-- Warm reset of the T die (R530): every held packet is discarded, the free lists are rebuilt, LEAKED_UNITS and the credit balances
are 0, the streams are as though no cell had come (R314), and HBM0 to HBM2 are empty. -/
def State.resetT (s : State) : State :=
  let s := forEach (List.range 8) s fun s n => s.resetTs n
  let s := forEach s.net.queues s fun s e => forEach e.2 s fun s k => s.discard k
  -- packets that were selected and are still in the buffer
  let s := forEach s.net.egress s fun s e =>
    let lost := e.2.filter fun k => !k.read
    forEach lost (s.withNet { s.net with egress := Table.put noList s.net.egress e.1 (e.2.filter fun k => k.read) }) fun s k =>
      s.discardSelected (sectorKey 1 (sliceOf e.1)) e.1 k
  let toAdmit := s.net.toAdmit
  let s : State := (s.withNet (s.net.mapPkts Pkt.cutShort))
  let s := forEach toAdmit s fun s k => s.discardAt (sectorKey 1 secD2D) k
  let s : State := ((((s.withNet { s.net with
      toAdmit := [], admitPtr := 0, units := [], frees := [], sub := [], maps := [], deciding := false, freed := [], used := []
      usedMax := [], poolUsed := [], poolMax := [], lowWater := [], lowArmed := [], staging := []
      idleMap := [], lens := [], queues := [] }).withSched { s.sched with
      ctCharges := [], classes := [], groups := [], users := [], wfq := [], portPtr := [], voqPtr := []
      creditPtr := [], creditOrder := [], creditDeficit := [], creditNext := [], roundStart := none, sampled := 0 }).withFab { s.fab with
      packing := [], control := [], out := [], turn := 0, tags := [], reqSeq := [], reqAt := [], reqs := [], arrived := [], ctxs := [], streams := []
      flowTx := [], flowRx := [], switching := [] }).withHbm { s.hbm with
      channels := Table.keep (fun k => Nat.ble 96 k) s.hbm.channels
      rows := Table.keep (fun k => Nat.ble 96 (k / 16)) s.hbm.rows
      cells := []
      stepAt := Table.keep (fun k => Nat.ble 3 k) s.hbm.stepAt
      scrub := Table.keep (fun k => Nat.ble 3 k) s.hbm.scrub
      scrubAt := (List.range 4).foldl (fun l k => Table.put (fun _ => none) l k
        (if k < 3 then some s.time.now else Table.get (fun _ => none) s.hbm.scrubAt k)) [] })
  let s := s.set Obj.REASSEMBLY_CTX_IN_USE 0
  let s := forEach (List.range 3) s fun s g => s.set (Obj.BUFFER_REGION_LEAKED_UNITS g) 0
  let s := forEach (s.domEntries Dom.REQUESTER_TABLE) s fun s e =>
    s.setDom Dom.REQUESTER_TABLE e.1 (Fld.REQ_OCB_USED.set (Fld.REQ_HC_USED.set (Fld.REQ_HBM_USED.set e.2 0) 0) 0)
  let s := forEach (s.domEntries Dom.VOQ_STATE) s fun s e => s.setDom Dom.VOQ_STATE e.1 (Fld.VS_BALANCE.set (Fld.VS_REQUEST.set e.2 0) 0)
  let s := forEach (s.domEntries Dom.QUEUE_BUFFER_MAP) s fun s e => s.setDom Dom.QUEUE_BUFFER_MAP e.1 (Fld.QBM_SPILL.set e.2 0)
  let s := forEach (List.range 136) s fun s p => s.creditHeld p
  s.beginReset 33

/-- DIE_RESET (R530, R533): 0 the F die, 1 the T die, after a notice to the partner. -/
def ruleDieReset (v : Nat) (s : State) : Res :=
  if v = 0 then s.coreWrite fun s => (s.resetNotice 2).resetF
  else if v = 1 then s.coreWrite fun s => (s.resetNotice 3).resetT
  else (.invalid, s)

/-- DIE_RESET_F: a write of 0 to DIE_RESET. -/
def execDieResetF (master : Nat) (s : State) : Out := s.rowWrite master Obj.BOOT_DIE_RESET 0 (ruleDieReset 0)
/-- DIE_RESET_T: a write of 1. -/
def execDieResetT (master : Nat) (s : State) : Out := s.rowWrite master Obj.BOOT_DIE_RESET 1 (ruleDieReset 1)

/-- DIE_RESET_DONE (R530): the die's sectors resume. -/
def execDieResetDone (die : Fin 2) (s : State) : Out :=
  s.inCore fun s =>
    if s.boot.resets.contains (32 + die) = false ∨ s.on Obj.THERMAL_STOP_ACTIVE = true then s
    else
      let s : State := (s.withBoot { s.boot with resets := s.boot.resets.filter fun k => !Nat.beq k (32 + die) && !Nat.beq (k / 16) die })
      forEach (List.range 8) s fun s n =>
        let c := if die.val = 0 then 128 + n else 136 + n
        (forEach (List.range (partsOf c)) s fun s i => s.movePart c i { idleSince := s.time.now }).showPower c

/-! ### The die-to-die link (R559) -/

/-- D2D_REPLAY: a unit with a CRC error is replayed; `good`: the replay arrives intact. -/
def execD2dReplay (good : Bool) (s : State) : Out :=
  s.inCore fun s =>
    if s.d2dUp = false then s
    else
      let s := s.bump Obj.EVENT_CTRL_D2D_REPLAYS
      (s.withEv { s.ev with failedReplays := if good then 0 else s.ev.failedReplays + 1 })

/-- D2D_RETRAIN: after 16 consecutive failed replays. -/
def execD2dRetrain (s : State) : Out :=
  s.inCore fun s =>
    if s.d2dUp = false ∨ s.ev.failedReplays < 16 then s
    else ((s.withEv { s.ev with failedReplays := 0, d2dRetrain := some s.time.now }).raise 0x1120 uFD2D 0)

/-- D2D_RETRAIN_DONE: the traffic that waited resumes. -/
def execD2dRetrainDone (s : State) : Out :=
  s.inCore fun s =>
    match s.ev.d2dRetrain with
    | some t => if s.time.now < t + ms then (s.withEv { s.ev with d2dRetrain := none }) else s
    | none => s

/-- D2D_LINK_FAIL: no training within 1 ms; every unit in flight is discarded, and the link stays down until a package warm reset.
A packet that lacks units ends as one whose last unit is bad (R182). -/
def execD2dLinkFail (s : State) : Out :=
  s.inCore fun s =>
    match s.ev.d2dRetrain with
    | none => s
    | some t =>
      if s.time.now < t + ms then s
      else
        let s := ((s.withEv { s.ev with d2dRetrain := none, d2dFailed := true }).raise 0x1320 uFD2D 0)
        let toAdmit := s.net.toAdmit
        let s : State := (s.withNet { s.net with toAdmit := [], units := [] })
        let s := forEach toAdmit s fun s k => (s.freeCtx k.id).discardAt (sectorKey 0 secD2D) k
        let queued := s.net.queues.flatMap fun e => e.2.filter fun k => !k.complete
        let sent := (s.net.egress.flatMap (·.2) ++ s.net.tx.flatMap (·.2) ++ s.net.wire.filterMap fun e => e.2.map (·.1)).filter fun k => !k.complete
        let s := forEach queued s fun s k => (s.countDiscard (sectorKey 0 secD2D)).lastUnit { k with fcsBad := true } true
        forEach sent s fun s k => (s.countDiscard (sectorKey 0 secD2D)).lastUnit { k with fcsBad := true } false

/-- ALARM_PENDING (R557): W1C; ALARM_N is released at the end of the cycle, when no bit is left. -/
def ruleAlarmPending (v : Nat) (s : State) : Res :=
  let old := s.get Obj.EVENT_CTRL_ALARM_PENDING
  (.ok, s.set Obj.EVENT_CTRL_ALARM_PENDING (old - Nat.land old v))

/-- ALARM_N at the end of a cycle (R557): released when no bit of ALARM_PENDING is left; a bit set again in the cycle of its clear keeps it
low. -/
def State.releaseAlarm (s : State) : State :=
  if s.get Obj.EVENT_CTRL_ALARM_PENDING = 0 ∧ s.ev.alarmLow = true then (s.withEv { s.ev with alarmLow := false }).emit (.pin .alarmN true) else s

/-- ALARM_PENDING_CLEAR. -/
def execAlarmPendingClear (master value : Nat) (s : State) : Out :=
  s.rowWrite master Obj.EVENT_CTRL_ALARM_PENDING value (ruleAlarmPending value)

/-! ### The package -/

/-! ### The boot record -/

/-- A copy of the boot record (R534): its sequence, each slot's STATE, SVN, accepted flag and COMMIT_SEQ, and the CRC-32 of the rest. DESIGN
CHOICE, log entry 231: the order and the widths. -/
def bootRecord (n : Nat) (a b : SlotRec) : List Byte :=
  let slot := fun (r : SlotRec) => bytesBE 1 r.state ++ bytesBE 1 r.svn ++ bytesBE 1 (ofBool r.accepted) ++ bytesBE 8 r.seq
  let body := bytesBE 8 n ++ slot a ++ slot b
  body ++ bytesBE 4 (crc32 body)

/-- A copy is valid: it is whole and its CRC-32 fits (R534). -/
def recordValid (l : List Byte) : Bool := Nat.beq l.length 34 && Nat.beq (wordAt l 30 4) (crc32 (l.take 30))

/-- Record sequence of a copy; that of an invalid one counts as the lowest. -/
def recordSeqOf (l : List Byte) : Nat := if recordValid l then wordAt l 0 8 else 0

/-- A slot as a copy of the record gives it, slot A (false) or B. -/
def recordSlot (l : List Byte) (b : Bool) (r : SlotRec) : SlotRec :=
  let o := if b then 19 else 8
  { r with state := byteAt l o, svn := byteAt l (o + 1), accepted := !Nat.beq (byteAt l (o + 2)) 0, seq := wordAt l (o + 3) 8 }

/-- Rewrites the boot record (R534): the copy with the lower sequence, 0 on equal ones, takes the two slots under the next number. -/
def State.setSlots (s : State) (a b : SlotRec) : State :=
  let n := s.flash.recordSeq + 1
  let image := bootRecord n a b
  let one : Bool := Nat.blt (recordSeqOf s.flash.recordB) (recordSeqOf s.flash.recordA)
  (s.withFlash { s.flash with
    slotA := a, slotB := b, recordSeq := n
    recordA := if one then s.flash.recordA else image
    recordB := if one then image else s.flash.recordB }).emit (.flash (if one then 0x1000 else 0) image)

/-- The boot record as it is read at boot (R534, R536): the valid copy with the higher sequence; with none the slots stay as they are. -/
def State.readRecord (s : State) : State :=
  let l := if recordSeqOf s.flash.recordA < recordSeqOf s.flash.recordB then s.flash.recordB else s.flash.recordA
  if recordValid l then
    s.withFlash { s.flash with slotA := recordSlot l false s.flash.slotA, slotB := recordSlot l true s.flash.slotB, recordSeq := wordAt l 0 8 }
  else s

/-- The slot whose image is in trial fails when a reset of firmware-restart scope or wider comes before its acceptance (R541). -/
def State.failTrial (s : State) : State :=
  let fail := fun (r : SlotRec) => if r.state = 3 then { r with state := 5 } else r
  if s.flash.slotA.state = 3 ∨ s.flash.slotB.state = 3 then
    (((s.setSlots (fail s.flash.slotA) (fail s.flash.slotB)).withBoot { s.boot with trialEnd := none, migrated := none }).set Obj.BOOT_TRIAL_LEFT_S 0).raise 0x7103 uMGMT 0
  else s

/-- STEP_COUNT counts since package reset (R34, R531), and a thermal stop lasts until one (R581). -/
def packageReset (k : Nat) : Bool := Nat.beq k Obj.TIMEBASE_STEP_COUNT || Nat.beq k Obj.THERMAL_STOP_ACTIVE

/-- An object outside the AON sector, or one of those held there that a package warm reset clears (R369, R530, R532): the lock, which
ISLAND keeps until it is left, the
traces of slow writes that are lost, and the power states, which are those of RUN. -/
def lostAtWarm (lock : Bool) (k : Nat) : Bool :=
  Nat.ble 0x2000 (keyIdx k) || (lock && packageReset k) || (lock && Nat.beq (keyIdx k) 0x1501) || Nat.beq (k % 0x1000000) 0x112004 ||
    (Nat.ble 0x1410 (keyIdx k) && Nat.ble (keyIdx k) 0x149F && Nat.beq (keySub k) 3) || Nat.beq k Obj.POWER_CTRL_SECTOR_STATE

/-- An update in progress ends at a package reset (R540). -/
def State.endUpdate (s : State) : State :=
  let u := s.get Obj.FW_UPDATE_UPD_STATE
  if u = 1 ∨ u = 2 ∨ u = 3 then s.set Obj.FW_UPDATE_UPD_STATE 0 else s

/-- What the dictionary keeps where the core is lost (R11, R387): its pointers, which lie in the always-on island, and in ISLAND an update's
slow write of the supervisor (R458). -/
def DictState.lost (d : DictState) (objs : Table Nat) (doms : Table Nat) (island : Bool) : DictState :=
  { cycleObjs := objs, cycleDoms := doms, turns := d.turns
    slow := d.slow.filter fun w => island && Nat.beq w.key Obj.FW_UPDATE_UPD_CTRL && (match w.via with | .coica _ _ _ => true | _ => false) }

/-- Everything outside the AON sector is lost (R507, R530): objects, tables, packets, jobs, HBM. PCIe, the mate link and the firmware
are reset with it (R429, R431). Role, epoch and LEASE_END stay (R467). -/
def State.coreLost (s : State) (lock : Bool := true) : State :=
  let s := s.failTrial
  let s := if s.on Obj.PCIE_LINK_LINK_UP then s.pcieDown else s.resetPcie
  let s := if lock then s.mateDown else s.mateDown.resetIdentity MATE
  let s := ((s.resetIdentity FW).applyResets).answerLocks
  let s := match s.sec.fusing with
    | some f => if f.via = SlowVia.direct then s.answer f.master f.key .unavailable else s
    | none => s
  let s := if s.time.ppsHigh then s.emit (.pin .ppsOut false) else s
  let standby : Bool := Nat.beq (s.get Obj.PAIR_CTRL_ROLE) roleSTANDBY
  let s := (s.withObjs (Table.keep (fun k => !lostAtWarm lock k) s.objs)).withDoms []
  let s := s.withEv { s.ev with fatal := false, failedReplays := 0, d2dRetrain := none, d2dFailed := false }
  let s := s.withTime { s.time with
    reload := true, shadowBefore := s.time.shadow, frac := 0, steps := [], replicaSkew := 0, missed := 0, ppsHigh := false
    versions := [], fifo := [] }
  let s := s.set Obj.AIR_EVENT_CTRL_ARMED_COUNT 0
  let s := (((((s.withParse {}).withTab {}).withNet {}).withSched {}).withLine {}).withFab { darkSince := s.time.now }
  let s := forEach (s.hbm.waiting.filter fun w => w.coica.isNone) s fun s w => s.answer DBG (objKey 0 w.dom 0) .unavailable
  let s := ((((s.withHbm { since := s.time.now }).withDict (s.dict.lost s.objs s.doms (!lock))).withHost { rung := s.host.rung }).withMsix {}).withCqs []
  let s := s.withCoica { s.coica with
    commits := []
    running := s.coica.running.map fun r =>
      if r.ended.isNone = true ∧ (lock = true ∨ r.key ≠ some Obj.FW_UPDATE_UPD_CTRL) then { r with ended := some (Status.unavailable.code, []) } else r }
  let s := s.withPair { leaseEnd := s.pair.leaseEnd, highest := s.pair.highest, partner := s.pair.partner }
  let s := s.withPw { s.pw with parts := [] }
  let s := (s.withSec { s.sec with fusing := none, attested := false, dice := none, halted := false, extest := s.sec.extest && lock }).withBoot {}
  let s := if s.get Obj.PANTRY_STATE = 1 then s.set Obj.PANTRY_STATE 2 else s
  let s := (if lock then s.endUpdate else s).set Obj.HOST_CTRL_JOBS_IN_FLIGHT 0
  (if standby then s.set Obj.PAIR_CTRL_SYNC 0 else s).showHealth

/-- PACKAGE_WARM_RESET (R533): WARM_N has been low for 1 µs; the core is held until its rise. -/
def execPackageWarmReset (s : State) : Out :=
  .next (if s.coreOff then s
    else
      let s := s.coreLost.cmbReset
      (s.withBoot { s.boot with held := true, boot := none }))

/-- A package warm reset that boots at once, with its BOOT_CAUSE (R536, R547). -/
def State.warmBoot (s : State) (cause : Nat) : State :=
  let s := s.coreLost.cmbReset
  (s.withBoot { s.boot with held := false, boot := some cause, bootAt := s.time.now }).set Obj.BOOT_BOOT_STAGE 2

/-- WARM_N_RELEASE (R533, R536): the boot starts, at step 3. -/
def execWarmNRelease (s : State) : Out :=
  .next (if s.boot.held ∧ s.inIsland = false then
      ((s.withBoot { s.boot with held := false, boot := some 1, bootAt := s.time.now }).withTime { s.time with shadowBefore := s.time.shadow }).set Obj.BOOT_BOOT_STAGE 2
    else s)

/-- WARM_RESET (R530, R533). -/
def ruleWarmReset (v : Nat) (s : State) : Res :=
  if v = 1 then s.coreWrite fun s => (s.resetNotice 4).warmBoot 2 else (.invalid, s)

/-- WARM_RESET. -/
def execWarmReset (master value : Nat) (s : State) : Out := s.rowWrite master Obj.BOOT_WARM_RESET value (ruleWarmReset value)

/-- ISLAND_ENTRY (R507, R571): CORE_PG or a core rail fails; `rails` are those out of range. -/
def execIslandEntry (rails : Nat) (s : State) : Out :=
  .next (if s.inIsland then s
    else
      let s := s.coreLost false
      let s : State := ((s.withPw { s.pw with island := true }).withBoot { s.boot with boot := none })
      let s := (s.bump Obj.POWER_CTRL_ISLAND_ENTRIES).set Obj.POWER_CTRL_LAST_ISLAND (time80 s.timeNow)
      -- the always-on supplies keep what was measured of them
      let aon := s.get Obj.SUPPLY_RAIL_GOOD / 2 ^ 17 % 4
      let good := (aon - Nat.land aon (rails / 2 ^ 17 % 4)) * 2 ^ 17 + (2 ^ 17 - 1 - rails % 2 ^ 17)
      let s := (s.set Obj.SUPPLY_LAST_RAIL_FAIL (2 ^ 19 - 1 - good)).set Obj.SUPPLY_RAIL_GOOD good
      s.raise 0x1110 uAON 0)

/-- ISLAND_EXIT (R508, R571): CORE_PG and the core rails have been good for 2 ms; the boot runs with the island's state kept. -/
def execIslandExit (s : State) : Out :=
  .next (if s.inIsland = false then s
    else
      let s := ((s.withObjs (Table.keep (fun k => !lostAtWarm true k) s.objs)).endUpdate.endSlow Obj.FW_UPDATE_UPD_CTRL .unavailable).cmbReset.raise 0x1010 uAON 0
      let s : State := (((s.withPw { s.pw with island := false, parts := [] }).withTime { s.time with reload := true, shadowBefore := s.time.shadow }).withBoot { s.boot with held := false, boot := some 3, bootAt := s.time.now })
      (s.set Obj.SUPPLY_RAIL_GOOD (Nat.lor (s.get Obj.SUPPLY_RAIL_GOOD) (2 ^ 17 - 1))).set Obj.BOOT_BOOT_STAGE 2)

/-- The fuses read at a cold reset (R512, R513): the state in force, and what entering it clears. -/
def State.readFuses (s : State) : State :=
  let (lc, _) := lcOf s.sec.lcFuses s.sec.lcCopy
  let entered : Bool := !Nat.beq lc s.sec.lc && (Nat.beq lc lcRMA || Nat.beq lc lcDECOM)
  let s : State := (s.withSec { s.sec with lc := lc })
  if entered then
    let s := s.set Obj.SECURITY_KEY_REVOKED 15
    let flash := { s.flash with pantryA := [], pantryB := [] }
    let serial := if s.sec.uds = .blank then some 0 else s.sec.serial
    let s := (s.withSec { s.sec with uds := .blown, serial := serial }).withFlash flash
    if lc = lcDECOM then s.setSlots {} {} else s
  else s

/-- The device after POR_N: everything but fuses and flash takes its reset value (R530), and the boot is to run. The queue of
commands, the record of what has left the device and the count of open values are the model's and stay. -/
def State.coldReset (s : State) : State :=
  let trial : Bool := Nat.beq s.flash.slotA.state 3 || Nat.beq s.flash.slotB.state 3
  let s := s.failTrial
  let s := if s.ev.alarmLow then s.emit (.pin .alarmN true) else s
  let s := if s.pw.wakeLow.isSome then s.emit (.pin .wakeN true) else s
  let s := if s.time.ppsHigh then s.emit (.pin .ppsOut false) else s
  let fuses := ([Obj.SECURITY_SVN_COUNTER, Obj.SECURITY_KEY_REVOKED] ++ (List.range 4).map Obj.SECURITY_KEY_HASH).map fun k => (k, s.get k)
  let n : State := {
    pending := s.pending, sent := s.sent, free := s.free, flash := s.flash
    sec := { lcFuses := s.sec.lcFuses, lcCopy := s.sec.lcCopy, lc := s.sec.lc, uds := s.sec.uds, serial := s.sec.serial } }
  let n := (forEach fuses n fun n k => n.set k.1 k.2).readFuses
  let n := if n.sec.lc = lcBLANK then n.set Obj.DEBUG_DBG_LEVEL 2 else n
  let n := if (lcOf n.sec.lcFuses n.sec.lcCopy).2 then n else n.raise 0x0301 uMGMT 0
  if trial then n.raise 0x7103 uMGMT 0 else n

/-- COLD_RESET (R530): POR_N falls and rises. -/
def execColdReset (s : State) : Out := .next s.coldReset

end Sys2Proof.Machine
end

