-- ==== Sys2Proof/Machine/Boot.lean ====
section
/-! DEFINITION. The flash's firmware slots and Pantry copies, the choice of a slot, update, trial and acceptance, firmware restart and
the firmware's mailbox commands (R383 to R386, R534 to R544). The boot itself stands in Sys2Proof/Machine/Restore.lean, after the
dictionary that it restores. -/

namespace Sys2Proof.Machine

/-! ### Slots -/

/-- The boot waits at BOOT_STAGE 4 while a sensor reads 95 °C or more (R581). -/
def State.tooHot (s : State) : Bool :=
  (List.range 19).any fun k => decide ((95 : Int) ≤ signed 32 (s.get (objKey 0 0x14C1 (1 + k))))

/-- BOOT_STAGE while the boot runs (R536): the bounds of the table stand for the instants, from `t` ns after the boot's start, which a package
warm reset begins 1 ms later in the table (DESIGN CHOICE, log entry 154). -/
def bootStage (t : Nat) : Nat :=
  if t < 200000 then 0 else if t < ms then 1 else if t < 12 * ms then 2 else if t < 45 * ms then 3 else if t < 160 * ms then 4
  else if t < 240 * ms then 5 else 6

/-- BOOT_STAGE follows the time since the boot began; it stays at 4 while a sensor reads 95 °C or more (R581). At 5 the
table memory has been zeroed, and its scrubber starts (R127). -/
def State.bootProgress (s : State) : State :=
  match s.boot.boot with
  | none => s
  | some cause =>
    let n := bootStage (s.time.now - s.boot.bootAt + if cause = 0 then 0 else ms)
    let n := if s.tooHot then min n 4 else n
    let s := if s.get Obj.BOOT_BOOT_STAGE < n then s.set Obj.BOOT_BOOT_STAGE n else s
    if 5 ≤ n then s.scrubBegin else s

/-- A firmware slot: false A, true B. -/
def State.slot (s : State) (b : Bool) : SlotRec := if b then s.flash.slotB else s.flash.slotA

/-- Rewrites a slot, and with it the boot record (R534). -/
def State.setSlot (s : State) (b : Bool) (r : SlotRec) : State :=
  s.setSlots (if b then s.flash.slotA else r) (if b then r else s.flash.slotB)

/-- No byte written. -/
def noByte (_ : Nat) : Option Nat := none

/-- The bytes written of a slot, by offset. -/
def SlotRec.bytes (r : SlotRec) : List (Nat × Nat) := r.image.filterMap fun e => e.2.map fun v => (e.1, v)

/-- Header of the stage loader (false) or the main firmware (true) in a slot (R516, log entry 33). -/
def SlotRec.header (r : SlotRec) (main : Bool) : ImageHeader := Config.imageHeader main r.bytes

/-- An image passes R516. -/
def State.imageAccepted (s : State) (h : ImageHeader) : Bool :=
  h.signed && h.bodyOk && Nat.ble (s.get Obj.SECURITY_SVN_COUNTER) h.svn && s.keyAccepted (h.keyHash % 2 ^ 384)

/-- A slot's record lets it boot (R535); its images are verified as they are read. -/
def SlotRec.offered (r : SlotRec) : Bool := Nat.beq r.state 2 || Nat.beq r.state 3 || Nat.beq r.state 4

/-- The slot R535 chooses by record: the higher SVN, on equal SVN the higher COMMIT_SEQ. -/
def State.preferred (s : State) : Option Bool :=
  let a := s.flash.slotA
  let b := s.flash.slotB
  match a.offered, b.offered with
  | true, true => some (Nat.blt a.svn b.svn || (Nat.beq a.svn b.svn && Nat.blt a.seq b.seq))
  | true, false => some false
  | false, true => some true
  | false, false => none

/-- The choice of a slot with its verification: a refused image marks its slot FAILED and the choice starts again (R516, R535,
R536). -/
def State.chooseSlot : Nat → State → Option Bool × State
  | 0, s => (none, s)
  | fuel + 1, s =>
    match s.preferred with
    | none => (none, s)
    | some b =>
      let r := s.slot b
      if s.imageAccepted (r.header false) && s.imageAccepted (r.header true) then (some b, s)
      else State.chooseSlot fuel ((s.setSlot b { r with state := 5 }).raise 0x0201 uMGMT 0)

/-- The main firmware of a slot runs (R541, R547): its identity shows, and it is in TRIAL when its COMMIT_SEQ differs from that of the
last accepted image. -/
def State.runSlot (s : State) (b : Bool) : State :=
  let r := s.slot b
  let l := r.header false
  let m := r.header true
  let s := (s.set Obj.IDENTITY_LOADER_VERSION (l.version % 2 ^ 32)).set Obj.IDENTITY_FW_VERSION (m.version % 2 ^ 32)
  let s := (s.set Obj.IDENTITY_FW_BUILD (m.build % 2 ^ 32)).set Obj.IDENTITY_FW_SVN (m.svn % 256)
  let s := (s.set Obj.IDENTITY_FW_SLOT (ofBool b)).set Obj.IDENTITY_PANTRY_OLDEST (m.oldest % 2 ^ 16)
  let s := s.set Obj.PANTRY_FORMAT_VERSION (m.format % 2 ^ 16)
  let s := s.deriveIdentity r.bytes
  if s.flash.lastAccepted = some r.seq then s else s.setSlot b { r with state := 3 }

/-- The running slot is in TRIAL. -/
def State.inTrial (s : State) : Bool := Nat.beq (s.slot (s.on Obj.IDENTITY_FW_SLOT)).state 3

/-- The trial's span starts at the end of the boot (R541). -/
def State.startTrial (s : State) : State :=
  if s.inTrial then (s.withBoot { s.boot with trialEnd := some (s.time.now + s.get Obj.BOOT_TRIAL_S * nsPerS) }) else s

/-! ### The Pantry -/

/-- The records of a body, up to the first that is not one of R384. -/
def readRecords : Nat → List Byte → List (Nat × Nat)
  | 0, _ => []
  | fuel + 1, l =>
    let idx := wordAt l 0 2
    let sub := byteAt l 2
    let n := byteAt l 3
    let size := 4 + ceilDiv n 4 * 4
    if n = 0 ∨ 64 < n ∨ l.length < size then []
    else
      let value := (l.drop 4).take n
      let v := match rowAt idx sub with
        | some w => valueOf w.ty value
        | none => natBE value
      (objKey 0 idx sub, v) :: readRecords fuel (l.drop size)

/-- What stored bytes hold, when their MAGIC, HEADER_CRC and BODY_CRC are correct (R384, R385). -/
def readCopy (l : List Byte) : Option PantryCopy :=
  let n := wordAt l 12 4
  let body := (l.drop 64).take n
  if l.length < 64 ∨ wordAt l 0 4 ≠ 0x50414E54 ∨ wordAt l 60 4 ≠ crc32 (l.take 60) ∨ body.length < n ∨ wordAt l 20 4 ≠ crc32 body then none
  else some ⟨wordAt l 4 2, wordAt l 8 4, wordAt l 24 10, wordAt l 34 4, readRecords (wordAt l 16 4) body⟩

/-- A Pantry copy, false A, true B: what its bytes hold. -/
def State.pantry (s : State) (b : Bool) : Option PantryCopy := readCopy (if b then s.flash.pantryB else s.flash.pantryA)

/-- Rewrites a copy; no bytes: erases it. -/
def State.setPantry (s : State) (b : Bool) (l : List Byte) : State :=
  (s.withFlash { s.flash with pantryA := if b then s.flash.pantryA else l, pantryB := if b then l else s.flash.pantryB })

/-- A copy that is valid: its marks and checks are right, and the running firmware can read its format, from PANTRY_OLDEST to its own (R385,
R542). -/
def State.readable (s : State) (b : Bool) : Option PantryCopy :=
  (s.pantry b).filter fun c => Nat.ble (s.get Obj.IDENTITY_PANTRY_OLDEST) c.format && Nat.ble c.format (s.get Obj.PANTRY_FORMAT_VERSION)

/-- The active copy: the valid one with the higher SEQUENCE, A when both are equal (R15, R385). -/
def State.activeCopy (s : State) : Option (Bool × PantryCopy) :=
  match s.readable false, s.readable true with
  | some a, some b => if a.seq < b.seq then some (true, b) else some (false, a)
  | some a, none => some (false, a)
  | none, some b => some (true, b)
  | none, none => none

/-- The copy the next store writes: the one that is not active; in TRIAL after a migration, the migrated copy (R15, R383, R542). -/
def State.targetCopy (s : State) : Bool :=
  match s.boot.migrated, s.activeCopy with
  | some b, _ => b
  | none, some (b, _) => !b
  | none, none => false

/-- SEQUENCE of the next copy. -/
def State.nextPantrySeq (s : State) : Nat :=
  match s.activeCopy with
  | some (_, c) => wrapAdd 32 c.seq 1
  | none => 1

/-- The instance of an object that the firmware sees: of an object with one value per master its own, of a ring's object that of the
ring it has selected. -/
def State.firmwareSees (s : State) (k : Nat) : Bool :=
  let n := k / 0x1000000
  let idx := keyIdx k
  if idx = 0x1110 ∧ keySub k ≠ 1 then Nat.beq n (s.get (Obj.SQ_CONFIG_SQ_SELECT FW))
  else if idx = 0x1111 ∧ keySub k ≠ 1 then Nat.beq n (s.get (Obj.CQ_CONFIG_CQ_SELECT FW))
  else if idx = 0x1110 ∨ idx = 0x1111 ∨ idx = 0x1120 ∨ idx = 0x11A0 ∨ k % 0x1000000 = 0x180201 then Nat.beq n FW
  else Nat.beq n 0

/-- An object is storable (R383). -/
def storable (k : Nat) : Bool :=
  Nat.ble 0x1000 (keyIdx k) && Nat.ble (keyIdx k) 0x6FFF && match rowAt (keyIdx k) (keySub k) with
    | some w => w.storable
    | none => false

/-- The snapshot of a store: every storable object whose value differs from its default, in ascending order, with the values from before
the writes of its cycle (R382 to R384). -/
def State.snapshotRecords (s : State) : List (Nat × Nat) :=
  sortBy (fun e => e.1) ((s.dict.cycleObjs.filter fun e => storable e.1 && s.firmwareSees e.1).map fun e => (e.1 % 0x1000000, e.2))

/-- Bytes of a record: the head, the value, zeros to a multiple of 4 (R384). -/
def pantryBytes (k : Nat) : Nat :=
  match rowAt (keyIdx k) (keySub k) with
  | some w => 4 + ceilDiv w.ty.bytes 4 * 4
  | none => 4

/-- Body size of records. -/
def bodyBytes (l : List (Nat × Nat)) : Nat := (l.map fun e => pantryBytes e.1).sum

/-- A record as it is stored: the head, the value most significant byte first, zeros (R384). -/
def recordImage (e : Nat × Nat) : List Byte :=
  let n := match rowAt (keyIdx e.1) (keySub e.1) with
    | some w => w.ty.bytes
    | none => 0
  let value := match rowAt (keyIdx e.1) (keySub e.1) with
    | some w => valueBytes w.ty e.2
    | none => []
  bytesBE 2 (keyIdx e.1) ++ bytesBE 1 (keySub e.1) ++ bytesBE 1 n ++ value ++ List.replicate ((4 - n % 4) % 4) (0#8)

/-- A Pantry copy as it is stored: the 64-byte header and the records (R384). -/
def copyImage (c : PantryCopy) : List Byte :=
  let body := c.records.flatMap recordImage
  let head := bytesBE 4 0x50414E54 ++ bytesBE 2 c.format ++ bytesBE 2 0 ++ bytesBE 4 c.seq ++ bytesBE 4 body.length ++ bytesBE 4 c.records.length ++
    bytesBE 4 (crc32 body) ++ bytesBE 10 c.written ++ bytesBE 4 c.build ++ bytesBE 22 0
  head ++ bytesBE 4 (crc32 head) ++ body

/-- Bytes that the flash does not keep as they were written. -/
def decayed (l : List Byte) (decay : List (Nat × Byte)) : List Byte := decay.foldl (fun l d => setAt l d.1 d.2) l

/-- Flash offset of a Pantry copy: false A, true B (R534). -/
def copyOffset (b : Bool) : Nat := if b then 0x60000 else 0x20000

/-- Starts a store of records (R383): the target copy is erased first. -/
def State.startPantry (s : State) (records : List (Nat × Nat)) (channel : Option Nat) : Res :=
  if s.boot.pantry.isSome then (.busy, s)
  else if 262080 < bodyBytes records then (.full, s)
  else
    let b := s.targetCopy
    let c : PantryCopy := ⟨s.get Obj.PANTRY_FORMAT_VERSION, s.nextPantrySeq, time80 s.timeNow, s.get Obj.IDENTITY_FW_BUILD, records⟩
    let s := (s.setPantry b []).set Obj.PANTRY_STATE 1
    (.ok, (s.withBoot { s.boot with pantry := some ⟨b, c, channel⟩ }))

/-- STORE (R383). -/
def ruleStore (v : Nat) (s : State) : Res := if v = 1 then s.startPantry s.snapshotRecords none else (.invalid, s)
/-- CLEAR (R383): a copy with no records. -/
def ruleClear (v : Nat) (s : State) : Res := if v = 1 then s.startPantry [] none else (.invalid, s)

/-- STORE. -/
def execStore (master value : Nat) (s : State) : Out := s.rowSlow master Obj.PANTRY_STORE value (ruleStore value)
/-- CLEAR. -/
def execClear (master value : Nat) (s : State) : Out := s.rowSlow master Obj.PANTRY_CLEAR value (ruleClear value)

/-- The firmware acknowledges a channel's message with a return code (R424, R544). -/
def State.firmwareAck (s : State) (n code : Nat) : State := (ruleAck n (2 ^ 31 + code) s).2

/-- PANTRY_WRITE_DONE (R383, R386, R543): the copy has been written, or the flash has failed; while the firmware restarts, the store
waits. -/
def execPantryWriteDone (done : FlashEnd) (s : State) : Out :=
  .next <|
    match s.boot.pantry with
    | none => s
    | some j =>
      if s.boot.restart then s
      else
        let s : State := (s.withBoot { s.boot with pantry := none })
        let s := if done.good then
            (((((s.emit (.flash (copyOffset j.toB) (copyImage j.copy))).setPantry j.toB (decayed (copyImage j.copy) done.decay)).set Obj.PANTRY_STATE 0).bump Obj.PANTRY_STORES).raise 0x7001 uMGMT 0)
          else ((s.set Obj.PANTRY_STATE 2).raise 0x7202 uMGMT 0)
        let st : Status := if done.good then .ok else .parity
        match j.channel with
        | some n => s.firmwareAck n (if done.good then 0 else 0x11)
        | none => (s.endSlow Obj.PANTRY_STORE st).endSlow Obj.PANTRY_CLEAR st

/-! ### Update -/

/-- 24 MB. -/
abbrev slotBytes : Nat := 25165824

/-- No update is in progress: IDLE, DONE or FAILED. -/
def State.updateFree (s : State) : Bool := [0, 4, 5].contains (s.get Obj.FW_UPDATE_UPD_STATE)

/-- The slot being filled. -/
def State.updSlot (s : State) : Bool := s.on Obj.FW_UPDATE_UPD_TARGET

/-- UPD_CTRL 1 (R535, R537): into the slot that does not hold the running image; in recovery into slot A. -/
def State.updBegin (s : State) (master : Nat) : Res :=
  let size := s.get Obj.FW_UPDATE_UPD_SIZE
  if s.updateFree = false then (.busy, s)
  else if size = 0 ∨ slotBytes < size ∨ size % 4 ≠ 0 then (.invalid, s)
  else
    let b : Bool := s.get Obj.BOOT_BOOT_STAGE != 8 && !s.on Obj.IDENTITY_FW_SLOT
    let s := s.setSlot b { s.slot b with state := 1, image := [] }
    let s := ((s.set Obj.FW_UPDATE_UPD_OWNER master).set Obj.FW_UPDATE_UPD_TARGET (ofBool b)).set Obj.FW_UPDATE_UPD_STATE 1
    (.ok, (s.set Obj.FW_UPDATE_UPD_RECEIVED 0).set Obj.FW_UPDATE_UPD_RESULT 0)

/-- UPD_CTRL 2 (R539). -/
def State.updCommit (s : State) : Res :=
  if s.get Obj.FW_UPDATE_UPD_STATE ≠ 2 then (.busy, s)
  else (.ok, s.set Obj.FW_UPDATE_UPD_STATE 3)

/-- UPD_CTRL 3 (R540): by UPD_OWNER or by F; the slow write in progress ends with BUSY. -/
def State.updAbort (s : State) (master : Nat) : Res :=
  if master ≠ s.get Obj.FW_UPDATE_UPD_OWNER ∧ master ≠ FW then (.denied, s)
  else (.ok, (s.set Obj.FW_UPDATE_UPD_STATE 0).endSlow Obj.FW_UPDATE_UPD_CTRL .busy)

/-- UPD_CTRL. -/
def ruleUpdCtrl (master v : Nat) (s : State) : Res :=
  match v with
  | 1 => s.updBegin master
  | 2 => s.updCommit
  | 3 => s.updAbort master
  | _ => (.invalid, s)

/-- UPDATE_BEGIN: a slow write of 1 to UPD_CTRL. -/
def execUpdateBegin (master : Nat) (s : State) : Out := s.rowSlow master Obj.FW_UPDATE_UPD_CTRL 1 (ruleUpdCtrl master 1)
/-- UPDATE_COMMIT: a slow write of 2. -/
def execUpdateCommit (master : Nat) (s : State) : Out := s.rowSlow master Obj.FW_UPDATE_UPD_CTRL 2 (ruleUpdCtrl master 2)
/-- UPDATE_ABORT: a write of 3; while a slow write of the same master to UPD_CTRL runs it is BUSY (R376). -/
def execUpdateAbort (master : Nat) (s : State) : Out :=
  s.rowWrite master Obj.FW_UPDATE_UPD_CTRL 3 fun s =>
    if s.slowRuns master Obj.FW_UPDATE_UPD_CTRL then (.busy, s) else ruleUpdCtrl master 3 s

/-- ERASE_DONE (R537). -/
def execEraseDone (s : State) : Out :=
  .next <|
    if s.get Obj.FW_UPDATE_UPD_STATE = 1 then (s.set Obj.FW_UPDATE_UPD_STATE 2).endSlow Obj.FW_UPDATE_UPD_CTRL .ok else s

/-- A block reaches the update engine (R538): its status, its return value and the state it leaves. `good`: the flash verifies. -/
def State.updBlock (s : State) (owner offset : Nat) (data : List Byte) (good : Bool) : Status × Nat × State :=
  let b := s.updSlot
  let r := s.slot b
  let at' := fun (i : Nat) => Table.get noByte r.image (offset + i)
  let idx := List.range data.length
  let clash : Bool := idx.any fun i => match at' i with | some v => !Nat.beq v (byteAt data i) | none => false
  let new := idx.filter fun i => (at' i).isNone
  if owner ≠ s.get Obj.FW_UPDATE_UPD_OWNER then (.denied, 0, s)
  else if s.get Obj.FW_UPDATE_UPD_STATE ≠ 2 then (.busy, 0, s)
  else if offset % 256 ≠ 0 ∨ s.get Obj.FW_UPDATE_UPD_SIZE < offset + data.length then (.invalid, 0, s)
  else if clash then (.occupied, 0, s)
  else if good = false ∧ new ≠ [] then (.parity, 0, (s.set Obj.FW_UPDATE_UPD_STATE 5).set Obj.FW_UPDATE_UPD_RESULT 6)
  else
    let image := new.foldl (fun t i => Table.put noByte t (offset + i) (some (byteAt data i))) r.image
    let n := s.get Obj.FW_UPDATE_UPD_RECEIVED + new.length
    let s : State := (s.withFlash { s.flash with
      slotA := if b then s.flash.slotA else { r with image := image }
      slotB := if b then { r with image := image } else s.flash.slotB })
    (.ok, n, s.set Obj.FW_UPDATE_UPD_RECEIVED n)

/-- FW_BLOCK (R401, R538): a ring job with a block's bytes from host memory; it waits while the firmware restarts (R543). -/
def execFwBlock (sq : Fin 1024) (index : Nat) (good : Bool) (dma : Dma) (s : State) : Out :=
  if s.boot.restart then .next s
  else s.runJob sq index 0x30 dma fun j s =>
    let len := wordAt j.bytes 20 2
    if len = 0 ∨ 4096 < len ∨ zeroBytes j.bytes [(22, 2), (32, 16), (48, 16)] = false then some (.invalid, 0, s)
    else match dma.data with
      | none => some (.dmaError, 0, s)
      | some d => some (s.updBlock (match s.sqFn j.sq with | 0 => HOST | v => v + 1) (wordAt j.bytes 16 4) ((d ++ List.replicate len (0#8)).take len) good)

/-- The commit's checks in their order (R539): the result code, 0 for none, and the first missing offset. -/
def State.commitCheck (s : State) (r : SlotRec) : Nat × Nat :=
  let size := s.get Obj.FW_UPDATE_UPD_SIZE
  let l := r.header false
  let m := r.header true
  match (List.range size).find? fun i => (Table.get noByte r.image i).isNone with
  | some i => (1, i)
  | none =>
    if (l.signed && m.signed) = false then (2, 0)
    else if (s.keyAccepted (l.keyHash % 2 ^ 384) && s.keyAccepted (m.keyHash % 2 ^ 384)) = false then (3, 0)
    else if l.svn < s.get Obj.SECURITY_SVN_COUNTER ∨ m.svn < s.get Obj.SECURITY_SVN_COUNTER then (4, 0)
    else if (l.bodyOk && m.bodyOk) = false then (5, 0)
    else (0, 0)

/-- COMMIT_CHECK_DONE (R539). -/
def execCommitCheckDone (s : State) : Out :=
  .next <|
    if s.get Obj.FW_UPDATE_UPD_STATE ≠ 3 then s
    else
      let b := s.updSlot
      let r := s.slot b
      match s.commitCheck r with
      | (0, _) =>
        let m := r.header true
        let seq := max s.flash.slotA.seq s.flash.slotB.seq + 1
        let s := s.setSlot b { r with state := 2, svn := m.svn % 256, version := m.version % 2 ^ 32, seq := seq, accepted := false }
        (((s.set Obj.FW_UPDATE_UPD_STATE 4).set Obj.FW_UPDATE_UPD_RESULT 0).raise 0x7003 uMGMT 0).endSlow Obj.FW_UPDATE_UPD_CTRL .ok
      | (e, missing) =>
        (((s.set Obj.FW_UPDATE_UPD_STATE 5).set Obj.FW_UPDATE_UPD_RESULT e).raise 0x7104 uMGMT (packArg [(16, e)])).endSlow
          Obj.FW_UPDATE_UPD_CTRL .invalid (if e = 1 then some missing else none)

/-! ### Trial and firmware restart -/

/-- The trial image is accepted (R541). -/
def State.accept (s : State) : State :=
  let b := s.on Obj.IDENTITY_FW_SLOT
  let r := s.slot b
  let o := s.slot (!b)
  let s := s.setSlot b { r with state := 4, accepted := true }
  let s := if o.state = 4 then s.setSlot (!b) { o with state := 2, accepted := false } else s
  ((s.withFlash { s.flash with lastAccepted := some r.seq }).withBoot { s.boot with trialEnd := none, migrated := none }).raise 0x7004 uMGMT 0

/-- FW_ACCEPT (R541, R546): within the span; otherwise BUSY. -/
def ruleFwAccept (v : Nat) (s : State) : Res :=
  if v ≠ 1 then (.invalid, s)
  else match s.boot.trialEnd with
    | some t => if s.time.now < t ∧ s.inTrial = true then (.ok, s.accept) else (.busy, s)
    | none => (.busy, s)

/-- FW_ACCEPT. -/
def execFwAccept (master value : Nat) (s : State) : Out := s.rowWrite master Obj.BOOT_FW_ACCEPT value (ruleFwAccept value)

/-- A firmware restart begins (R533, R541, R543); in recovery it is a boot (R535). -/
def State.restartFirmware (s : State) (cause : Nat) : State :=
  let s := ((s.resetNotice 1).failTrial).resetIdentity FW
  let s : State := (s.withSec { s.sec with halted := false, attested := false, dice := none })
  let s := s.set Obj.BOOT_BOOT_CAUSE cause
  if s.get Obj.BOOT_BOOT_STAGE = 8 then (s.withBoot { s.boot with boot := some cause, bootAt := s.time.now })
  else (s.withBoot { s.boot with restart := true })

/-- FW_RESTART (R543). -/
def ruleFwRestart (v : Nat) (s : State) : Res := if v = 1 then s.coreWrite fun s => s.restartFirmware 4 else (.invalid, s)

/-- FW_RESTART. -/
def execFwRestart (master value : Nat) (s : State) : Out := s.rowWrite master Obj.BOOT_FW_RESTART value (ruleFwRestart value)

/-- TRIAL_END (R541). -/
def execTrialEnd (s : State) : Out :=
  s.inCore fun s =>
    match s.boot.trialEnd with
    | some t => if t ≤ s.time.now then s.restartFirmware 5 else s
    | none => s

/-- Every FS and TS sector is held in OFF (R516, R535, R581). -/
def State.holdOff (s : State) : State :=
  let s := forEach (List.range 128) s fun s p => s.movePart p 0 { s.part p 0 with state := 3, entering := none, waking := none, blocked := true }
  let s := forEach ((List.range 16).map (128 + ·)) s fun s c =>
    forEach (List.range (partsOf c)) s fun s i => s.movePart c i { s.part c i with state := 3, entering := none, waking := none, blocked := true }
  forEach (List.range 144) s fun s c => s.showPower c

/-- Recovery (R535): no slot is bootable. -/
def State.recover (s : State) : State :=
  let s : State := (s.withBoot { s.boot with boot := none, restart := false, ready := false })
  (s.set Obj.BOOT_BOOT_STAGE 8).holdOff.raise 0x7203 uMGMT 0

/-- The running firmware migrates the active copy at its first start in TRIAL when it writes a newer format (R542): records of objects
it does not define are dropped and counted. -/
def State.migrate (s : State) : State :=
  let f := s.get Obj.PANTRY_FORMAT_VERSION
  match s.activeCopy with
  | some (b, c) =>
    if s.inTrial = true ∧ c.format < f ∧ s.boot.migrated = none then
      let kept := c.records.filter fun e => storable e.1
      let s := s.set Obj.PANTRY_RESTORE_REFUSED (wrapAdd 32 (s.get Obj.PANTRY_RESTORE_REFUSED) (c.records.length - kept.length))
      let image := copyImage ⟨f, wrapAdd 32 c.seq 1, time80 s.timeNow, s.get Obj.IDENTITY_FW_BUILD, kept⟩
      let s := (s.emit (.flash (copyOffset (!b)) image)).setPantry (!b) image
      (s.withBoot { s.boot with migrated := some (!b) })
    else s
  | none => s

/-- Blocks committed over the Coica bus while the firmware restarted (R454, R543). -/
def State.lateCommits (s : State) : State :=
  let l := s.coica.commits
  forEach l (s.withCoica { s.coica with commits := [] }) fun s c =>
    let (st, _, s) := s.updBlock SUPV c.offset c.data c.good
    s.endWrite (.coica c.addr 0x12 c.txn) SUPV 0 st

/-- READY (R536, R548); with protection enabled the firmware arms E4095 (R40). -/
def State.bootEnd (s : State) (cause : Nat) : State :=
  let s := if s.on Obj.PAIR_CTRL_PAIR_ENABLE then s.armMateCycle else s
  let s := (s.lateCommits.set Obj.BOOT_BOOT_STAGE 7).set Obj.BOOT_BOOT_CAUSE cause
  (s.bumpW 32 Obj.BOOT_BOOT_COUNT).startTrial.raise 0x7002 uMGMT (packArg [(16, cause)])

/-- FW_READY (R543): the firmware of the slot chosen runs; the Pantry is not restored. -/
def execFwReady (s : State) : Out :=
  s.inCore fun s =>
    if s.boot.restart = false then s
    else
      match State.chooseSlot 2 s.readRecord with
      | (none, s) => s.recover
      | (some b, s) =>
        let s := (s.runSlot b).migrate
        (s.withBoot { s.boot with restart := false }).bootEnd (s.get Obj.BOOT_BOOT_CAUSE)

/-! ### Mailbox commands of the firmware (R544) -/

/-- The firmware takes the message posted to it on a channel: an unknown COMMAND is answered with 0x0001, a non-zero byte 1 with
0x0002; a message with another COMMAND than `code` is that command's. -/
def State.firmwareTakes (s : State) (n code : Nat) (f : State → State) : Out :=
  let b := s.binding n
  .next (
    if s.firmwareRuns = false ∨ Fld.BND_VALID.get b = 0 ∨ Fld.BND_RECEIVER.get b ≠ FW ∨ s.get (Obj.MAILBOX_STATE n) ≠ 1 then s
    else
      let msg := s.mailBytes n
      let c := byteAt msg 0
      if c = 0 ∨ 5 < c then s.firmwareAck n 1
      else if c ≠ code then s
      else if byteAt msg 1 ≠ 0 then s.firmwareAck n 2
      else f s)

/-- PING. -/
def execPing (channel : Fin 64) (s : State) : Out := s.firmwareTakes channel 1 fun s => s.firmwareAck channel 0

/-- PAIR_READY: `reply` is the partner's answer over the mate channel: whether it is STANDBY, HEALTHY and SYNCED; none: it could not be
asked. -/
def execPairReady (channel : Fin 64) (reply : Option Bool) (s : State) : Out :=
  s.firmwareTakes channel 2 fun s =>
    s.firmwareAck channel (if s.pair.linkUp then (match reply with | some true => 0 | some false => 0x10 | none => 0x11) else 0x11)

/-- PANTRY_STORE: answered at the store's end. -/
def execPantryStore (channel : Fin 64) (s : State) : Out :=
  s.firmwareTakes channel 3 fun s =>
    if s.boot.pantry.any fun j => decide (j.channel = some channel.val) then s
    else match s.startPantry s.snapshotRecords (some channel.val) with
      | (.ok, s) => s
      | (.busy, s) => s.firmwareAck channel 3
      | (_, s) => s.firmwareAck channel 0x11

/-- RESTART: for senders HOST and SUPV. -/
def execRestart (channel : Fin 64) (s : State) : Out :=
  s.firmwareTakes channel 4 fun s =>
    let m := s.channelSender channel
    if m = HOST ∨ m = SUPV then (s.firmwareAck channel 0).restartFirmware 4 else s.firmwareAck channel 4

/-- ACCEPT: 0x0004 outside TRIAL. -/
def execAccept (channel : Fin 64) (s : State) : Out :=
  s.firmwareTakes channel 5 fun s =>
    match ruleFwAccept 1 s with
    | (.ok, s) => s.firmwareAck channel 0
    | (_, s) => s.firmwareAck channel 4

end Sys2Proof.Machine
end

