-- ==== Sys2Proof/Machine/Supplies.lean ====
section
/-! DEFINITION. Always-on supplies, reference clocks and temperature (R572, R573, R577, R578, R580 to R582). -/

namespace Sys2Proof.Machine

/-! ### The always-on supplies -/

/-- A measured always-on supply in mV and its bit of RAIL_GOOD: 0.85 V ± 5 % (R568). -/
def State.setVaon (s : State) (b : Bool) (mv : Nat) : State :=
  let s := if b = true ∧ 800 ≤ mv then s.withThermal { s.thermal with lowB := false } else s
  let s := s.set (if b then Obj.SUPPLY_VAON_B_MV else Obj.SUPPLY_VAON_A_MV) (mv % 65536)
  let r := if b then 18 else 17
  s.set Obj.SUPPLY_RAIL_GOOD (setBits (s.get Obj.SUPPLY_RAIL_GOOD) r 1 (ofBool (Nat.ble 8075 (10 * mv) && Nat.ble (10 * mv) 8925)))

/-- AON_SWITCH (R572, R573): VAON_A has been at `vaonA` mV for more than 2 µs, VAON_B is at `vaonB` mV. A switch is made below 0.78 V and
only to a VAON_B of 0.80 V or more. -/
def execAonSwitch (vaonA vaonB : Nat) (s : State) : Out :=
  let s := (s.setVaon false vaonA).setVaon true vaonB
  .next (
    if s.get Obj.SUPPLY_AON_SOURCE = 0 ∧ vaonA < 780 ∧ 800 ≤ vaonB then
      ((s.set Obj.SUPPLY_AON_SOURCE 1).bump Obj.SUPPLY_AON_SWITCHES).raise 0x1112 uAON 0
    else s)

/-- AON_RETURN (R572): VAON_A has stayed at `vaonA` mV, from 0.80 V to 0.90 V, for 10 ms. -/
def execAonReturn (vaonA : Nat) (s : State) : Out :=
  let s := s.setVaon false vaonA
  .next (
    if s.get Obj.SUPPLY_AON_SOURCE = 1 ∧ 800 ≤ vaonA ∧ vaonA ≤ 900 then (s.set Obj.SUPPLY_AON_SOURCE 0).raise 0x1003 uAON 0
    else s)

/-- VAON_B_LOW (R573): VAON_B has been at `vaonB` mV for 10 ms; E-1114 comes once each time it falls below 0.80 V while the island runs on
VAON_A. -/
def execVaonBLow (vaonB : Nat) (s : State) : Out :=
  let s := s.setVaon true vaonB
  .next (
    if 800 ≤ vaonB then s
    else if s.get Obj.SUPPLY_AON_SOURCE = 0 ∧ s.thermal.lowB = false then
      (s.withThermal { s.thermal with lowB := true }).raise 0x1114 uAON 0
    else s)

/-- AON_BROWNOUT (R573): the supply in use has failed with no switch possible: as for POR_N low, and then a cold boot with BOOT_CAUSE 0. -/
def execAonBrownout (s : State) : Out := .next s.coldReset

/-! ### Reference clocks -/

/-- Domains whose PLL runs from CORE_REFCLK (R576). -/
abbrev coreDomains : List Nat := [0, 1, 2, 3, 4, 5, 6, 7, 12, 14]

/-- The reference that feeds a domain: 0 core, 1 time, 2 fabric, 3 PCIe, 4 the crystal; none for a recovered clock (R576). -/
def domainRef (d : Nat) : Option Nat :=
  if coreDomains.contains d then some 0
  else if d = 8 ∨ d = 15 then some 1
  else if d = 10 then some 2
  else if d = 13 then some 3
  else if d = 16 then some 4
  else none

/-- Sets the PLL_LOCK bits of domains. -/
def State.setLocks (s : State) (l : List Nat) (v : Bool) : State :=
  s.set Obj.CLOCKS_PLL_LOCK (l.foldl (fun x d => setBits x d 1 (ofBool v)) (s.get Obj.CLOCKS_PLL_LOCK))

/-- A reference is present. -/
def State.refPresent (s : State) (r : Nat) : Bool := (s.get Obj.CLOCKS_REF_STATUS).testBit r

/-- REF_LOST (R577): 0 CORE_REFCLK, 1 TIME_REFCLK, 2 FAB_REFCLK, 3 PCIE_REFCLK, 4 the crystal. The PLLs of the core lose their frequency,
those of time and fabric hold it. -/
def execRefLost (reference : Fin 5) (s : State) : Out :=
  .next (
    if s.refPresent reference = false then s
    else
      let s := s.set Obj.CLOCKS_REF_STATUS (setBits (s.get Obj.CLOCKS_REF_STATUS) reference 1 0)
      let s := s.bump Obj.CLOCKS_REF_LOSSES
      match reference.val with
      | 0 => (s.setLocks coreDomains false).raise 0x1321 uAON 0
      | 3 => if s.coreOff then s else s.pcieDown
      | 4 => (s.set Obj.CLOCKS_AON_OSC 1).raise 0x1115 uAON 0
      | _ => s.raise 0x1115 uAON 0)

/-- REF_RESTORED (R577): the reference has run for 10 ms without a gap. DESIGN CHOICE, log entry 117: every PLL that it feeds is in lock
again. -/
def execRefRestored (reference : Fin 5) (s : State) : Out :=
  .next (
    if s.refPresent reference then s
    else
      let s := s.set Obj.CLOCKS_REF_STATUS (setBits (s.get Obj.CLOCKS_REF_STATUS) reference 1 1)
      match reference.val with
      | 0 => s.setLocks coreDomains true
      | 4 => (s.setLocks [16] true).set Obj.CLOCKS_AON_OSC 0
      | r => s.setLocks ((List.range 18).filter fun d => domainRef d = some r) true)

/-- PLL_UNLOCK (R577): a PLL loses lock while its reference is present; of a core domain that is fatal. The recovered clocks of the lanes show
their lanes' lock (R576, `State.lockBits`). -/
def execPllUnlock (domain : Fin 18) (s : State) : Out :=
  .next (
    match domainRef domain with
    | some r =>
      if s.refPresent r = false ∨ (s.get Obj.CLOCKS_PLL_LOCK).testBit domain = false then s
      else
        let s := s.setLocks [domain.val] false
        if r = 0 then s.raise 0x1321 uAON 0 else s
    | none => s.setLocks [domain.val] false)

/-! ### Temperature -/

/-- Key of sensor i from 0 to 18, in the order of the objects of SENSORS. -/
def sensorKey (i : Nat) : Nat := objKey 0 0x14C1 (1 + i)

/-- Last reading of a sensor. -/
def State.sensor (s : State) (i : Nat) : Int := signed 32 (s.get (sensorKey i))

/-- Sector identity of a sensor's sector (R578, R589). -/
def sensorUnit (i : Nat) : Nat :=
  if i < 8 then uFS i else if i = 8 then uMGMT else if i = 9 then uFD2D else if i < 18 then uTS (i - 10) else uTD2D

/-- Temperature of a die (R578): the highest of its sensors and of its stacks less 5 °C. -/
def State.dieTemp (s : State) (die : Nat) : Int :=
  let sensors := (if die = 0 then List.range 10 else (List.range 9).map (10 + ·)).map s.sensor
  let fromHbm := (if die = 0 then [3] else [0, 1, 2]).map fun k => s.stackTemp k - 5
  (sensors ++ fromHbm).foldl max (sensors.headD 0)

/-- Takes a die's temperature into its object and its maximum. -/
def State.showTemp (s : State) (die : Nat) : State :=
  let t := s.dieTemp die
  let cur := if die = 0 then Obj.THERMAL_F_TEMP_C else Obj.THERMAL_T_TEMP_C
  let top := if die = 0 then Obj.THERMAL_F_MAX_C else Obj.THERMAL_T_MAX_C
  (s.set cur (unsigned 32 t)).set top (unsigned 32 (max t (signed 32 (s.get top))))

/-- A thermal stop (R581): every sector and lane enters OFF and the event is fatal. A fabric lane in OFF has no frame alignment, and leaves the
spray (R320, R323). -/
def State.thermalStop (s : State) (unit : Nat) : State :=
  let s := forEach ((List.range 128).filter fun p => s.on (Obj.LINE_PORT_PORT_ENABLE p)) s fun s p => s.portOff p
  let s := forEach (List.range 160) s.holdOff fun s m => s.resetLane m
  let s := s.withHbm { s.hbm with rows := [] }
  (((s.set Obj.THERMAL_STOP_ACTIVE 1).bump Obj.THERMAL_THERMAL_STOPS)).raise 0x1310 unit 0

/-- THERMAL_SAMPLE (R578, R581): the readings of the 19 sensors in °C, in the order of the objects of SENSORS, and of the four stacks; one
that is not given stays as it was. -/
def execThermalSample (sensors : List Int) (hbmTemps : List Int) (s : State) : Out :=
  s.inCore fun s =>
    let s := forEach ((sensors.take 19).zip (List.range 19)) s fun s x => s.set (sensorKey x.2) (unsigned 32 x.1)
    let s := forEach ((hbmTemps.take 4).zip (List.range 4)) s fun s x => s.setStackTemp x.2 x.1
    let s := (s.showTemp 0).showTemp 1
    let hot := (List.range 19).filter fun i => decide (110 ≤ s.sensor i)
    let twice := hot.find? fun i => s.thermal.hot.contains i
    let s : State := (s.withThermal { s.thermal with hot := hot })
    if s.on Obj.THERMAL_STOP_ACTIVE then s
    else match twice, (List.range 4).find? fun k => decide (105 ≤ s.stackTemp k) with
      | some i, _ => s.thermalStop (sensorUnit i)
      | none, some k => s.thermalStop (uStack k)
      | none, none => s

/-- One die's throttle rule (R580). -/
def State.throttle (s : State) (die : Nat) : State :=
  let key := if die = 0 then Obj.THERMAL_F_LEVEL else Obj.THERMAL_T_LEVEL
  let unit := if die = 0 then uFD2D else uTD2D
  let level := s.get key
  let t := signed 32 (s.get (if die = 0 then Obj.THERMAL_F_TEMP_C else Obj.THERMAL_T_TEMP_C))
  -- a write of the same instant comes too late (R582)
  let c : Int := ((Table.get objDefault s.dict.cycleObjs Obj.THERMAL_THROTTLE_C : Nat) : Int)
  let changed := if die = 0 then s.thermal.changedF else s.thermal.changedT
  let note := fun (s : State) => (s.withThermal (    if die = 0 then { s.thermal with changedF := s.time.now } else { s.thermal with changedT := s.time.now }))
  if c ≤ t ∧ level < 8 then
    let s := note (s.set key (level + 1))
    if level = 0 then s.raise 0x1113 unit 0 else s
  else if t < c - 5 ∧ 0 < level ∧ changed + 10 * ms ≤ s.time.now then
    let s := note (s.set key (level - 1))
    if level = 1 then s.raise 0x1004 unit 0 else s
  else s

/-- THROTTLE_EVAL (R580), once per millisecond; a thermal stop of the same instant comes first (R582), so the evaluation is carried out
at the instant's end. -/
def execThrottleEval (s : State) : Out :=
  s.inCore fun s => s.withThermal { s.thermal with evalDue := true }

/-- The throttle evaluation of an instant (R580, R582). -/
def State.throttleCycle (s : State) : State :=
  if s.thermal.evalDue = false then s
  else
    let s := s.withThermal { s.thermal with evalDue := false }
    if s.on Obj.THERMAL_STOP_ACTIVE || s.coreOff then s
    else
      let s := if s.get Obj.THERMAL_F_LEVEL = 0 ∧ s.get Obj.THERMAL_T_LEVEL = 0 then s else s.bump Obj.THERMAL_THROTTLE_MS
      (s.throttle 0).throttle 1

end Sys2Proof.Machine
end

