-- ==== Sys2Proof/Machine/Dict.lean ====
section
/-! DEFINITION. The dictionary as a whole (R367 to R387): the object behind an index and subindex, what a write and a read of it do,
and the entries of DOMAIN objects. The checks every path shares stand in Sys2Proof/Machine/Access.lean; each object's own rule stands
with its chapter. -/

namespace Sys2Proof.Machine

/-! ### Objects -/

/-- The key of an object as a master sees it, and whether it names one: rings are those the master has selected (R417), and some
objects hold one value per master (R377, R417, R426, R551). -/
def State.locate (s : State) (master idx sub : Nat) : Nat × Bool :=
  let own := (objKey master idx sub, true)
  let ring := fun (r : Option Nat) => match r with
    | some q => (objKey q idx sub, true)
    | none => (objKey 0 idx sub, false)
  if idx = 0x1110 then (if sub = 1 then own else ring (s.selectedSq master))
  else if idx = 0x1111 then (if sub = 1 then own else ring (s.selectedCq master))
  else if idx = 0x1120 ∨ idx = 0x11A0 ∨ (idx = 0x1802 ∧ sub = 1) then own
  else (objKey 0 idx sub, true)

/-- The client of a power record exists: a line port whose lane another port uses has none (R497). -/
def State.clientThere (s : State) (idx : Nat) : Bool :=
  !s.noClient idx

/-- Writes of the communication objects, 0x1100 to 0x11FF. -/
def State.ruleComm (s : State) (master key v : Nat) : Res :=
  let idx := keyIdx key
  let sub := keySub key
  let inst := key / 0x1000000
  if idx = 0x1101 then (if sub = 1 then s.plain key v else ruleHpRing key v s)
  else if idx = 0x1110 then
    (match sub with
    | 1 => ruleSelect (fun f => s.get (Obj.VF_RESOURCES_SQ_COUNT f)) master key v s
    | 5 | 6 => s.plain key v
    | 7 => ruleSqEnable inst master v s
    | _ => ruleSqSetting inst key v s)
  else if idx = 0x1111 then
    (match sub with
    | 1 => ruleSelect (fun f => s.get (Obj.VF_RESOURCES_CQ_COUNT f)) master key v s
    | 4 => ruleCqVector inst key v s
    | 5 | 6 => ruleCqCoal inst key v s
    | 7 => ruleCqEnable inst v s
    | _ => ruleCqSetting inst key v s)
  else if idx < 0x1150 then ruleVfResources (idx - 0x1130) sub key v s
  else if idx = 0x1150 then ruleMbBinding (sub - 1) v s
  else if idx < 0x11A0 then
    (match sub with
    | 5 => ruleSend (idx - 0x1160) v s
    | 6 => ruleAck (idx - 0x1160) v s
    | 8 => ruleLock (idx - 0x1160) master v s
    | _ => ruleMailboxMsg (idx - 0x1160) (sub - 1) v s)
  else if idx = 0x11A0 then
    (match sub with
    | 1 => ruleDbPending master v s
    | 2 => ruleDbMask master v s
    | _ => ruleDbVector master v s)
  else if idx = 0x11B0 then
    (if sub ≤ 2 then ruleStation key v s else if sub ≤ 4 then ruleSupvAddr key v s else ruleCmbSetting key v s)
  else ruleWp (idx - 0x11C0) sub key v s

/-- DICT_LOCK (R381): a write of 1 sets it and notes the instant. -/
def ruleDictLock (v : Nat) (s : State) : Res :=
  if v = 1 then
    if s.on Obj.LOCK_DICT_LOCK then (.ok, s)
    else (.ok, (s.set Obj.LOCK_DICT_LOCK 1).set Obj.LOCK_LOCKED_AT (time80 s.timeNow))
  else if s.on Obj.LOCK_DICT_LOCK then (.locked, s)
  else (.ok, s)

/-- EVENT_CQ (R555): not a ring to which an SQ is bound, nor one that a learn-event source names. -/
def ruleEventCq (v : Nat) (s : State) : Res :=
  if v ≠ 0xFFFF ∧ (s.boundSqs v ≠ [] ∨ s.boundTables v ≠ []) then (.invalid, s) else s.plain Obj.EVENT_CTRL_EVENT_CQ v

/-- Writes of the timebase, power, security, boot, pair and event objects, 0x1200 to 0x18FF. -/
def State.ruleSystem (s : State) (master key v : Nat) : Res :=
  let idx := keyIdx key
  let sub := keySub key
  match idx, sub with
  | 0x1200, 3 => ruleStateReq master v s
  | 0x1200, 4 => ruleFreqAdj master v s
  | 0x1200, 5 => ruleStep master v s
  | 0x1201, 5 => ruleRclkSel key v s
  | 0x1201, 6 => ruleRclkSel key v s
  | 0x1230, _ => ruleDayOffset v s
  | 0x1400, _ => ruleWakeReq v s
  | 0x14C0, _ => if s.inIsland then (.unavailable, s) else s.plain key v
  | 0x1500, 3 => ruleProvision master v s
  | 0x1500, 5 => ruleSvnAdvance master v s
  | 0x1500, _ => ruleKeyHash (sub - 8) master v s
  | 0x1501, _ => ruleDictLock v s
  | 0x1502, 3 => ruleAuthSubmit master s
  | 0x1502, _ => ruleDbgDrop v s
  | 0x1600, 4 => ruleFwRestart v s
  | 0x1600, 5 => ruleWarmReset v s
  | 0x1600, 6 => ruleDieReset v s
  | 0x1600, 7 => ruleSectorReset v s
  | 0x1600, 8 => ruleUnitReset v s
  | 0x1600, 9 => ruleFwAccept v s
  | 0x1612, 1 => ruleUpdCtrl master v s
  | 0x1620, 1 => ruleStore v s
  | 0x1620, 2 => ruleClear v s
  | 0x1700, 1 => rulePairEnable v s
  | 0x1700, 7 => ruleCommand v s
  | 0x1701, 1 => ruleWRenew v s
  | 0x1701, 2 => ruleWTakeover v s
  | 0x1703, 2 => ruleFwHeartbeat s
  | 0x1800, 1 => ruleEventCq v s
  | 0x1800, 5 => ruleAlarmPending v s
  | 0x1800, 6 => if v < 1024 ∨ v = 0xFFFF then s.plain key v else (.invalid, s)
  | _, _ =>
    if 0x1210 ≤ idx ∧ idx ≤ 0x1213 then (if sub = 1 then ruleAirClockEnable (idx - 0x1210) v s else ruleAirClockSetting (idx - 0x1210) key v s)
    else if 0x1410 ≤ idx ∧ idx < 0x14C0 then
      (match sub with
      | 1 => ruleLatTol (idx - 0x1410) v s
      | 2 => rulePwrReq (idx - 0x1410) v s
      | _ => rulePrewakeHold (idx - 0x1410) v s)
    else if idx = 0x1700 ∧ 2 ≤ sub ∧ sub ≤ 4 then rulePairSetting key v s
    else s.plain key v

/-- Writes of the line and fabric objects, 0x2000 to 0x2FFF. -/
def State.ruleLinks (s : State) (key v : Nat) : Res :=
  let idx := keyIdx key
  let sub := keySub key
  if idx < 0x2080 then
    let n := idx - 0x2000
    match sub with
    | 1 => rulePortEnable n v s
    | 2 | 3 | 4 | 5 => rulePortSetting n key v s
    | 6 | 7 | 8 => s.plain key v
    | _ => ruleLineSetting n sub key v s
  else if idx < 0x2200 then (if sub = 1 then ruleTrigger (idx - 0x2180) v s else s.plain key v)
  else if idx < 0x24A0 then
    let n := idx - 0x2400
    match sub with
    | 1 => ruleFlEnable n v s
    | 0x12 | 0x16 => (.ok, (s.commit key v).takesEffect key (s.get key) 1)
    | 0x13 | 0x15 => (.ok, (s.commit key v).takesEffect key (s.get key) 166)
    | _ => s.plain key v
  else if idx = 0x2500 then
    (match sub with
    | 1 => ruleFabricEnable v s
    | 2 | 3 => ruleFabricSetting key v s
    | 5 => ruleUnreachMs v s
    | _ => s.plain key v)
  else if idx = 0x2502 then rulePortMap (sub - 1) v s
  else if 0x2510 ≤ idx then (if sub = 1 then ruleSlEnable (idx - 0x2510) v s else ruleSlLane (idx - 0x2510) v s)
  else s.plain key v

/-- Writes of the forwarding objects, 0x3000 to 0x37FF. -/
def State.ruleForward (s : State) (key v : Nat) : Res :=
  let idx := keyIdx key
  let sub := keySub key
  if idx = 0x3000 then (if sub = 1 then ruleActiveBank v s else ruleRestoreDefault v s)
  else if 0x3040 ≤ idx ∧ idx < 0x3050 then (if sub = 6 then ruleCommit (idx - 0x3040) s else s.plain key v)
  else if 0x3100 ≤ idx ∧ idx < 0x3200 then (if sub = 4 ∧ actionOk v = false then (.invalid, s) else s.plain key v)
  else if 0x3200 ≤ idx ∧ idx < 0x3300 then ruleKeyProfile (idx - 0x3200) (Nat.beq sub 2) v s
  else if 0x3310 ≤ idx ∧ idx < 0x3320 then
    let t := idx - 0x3310
    match sub with
    | 1 => ruleEmEnable t v s
    | 2 | 8 => ruleEmSetting t key v s
    | 3 | 4 | 5 | 6 | 7 => ruleEmGeometry t key v s
    | 9 => ruleEmEventCq t v s
    | 10 => ruleStampUnit t v s
    | 11 => ruleAgeLimit t v s
    | _ => s.plain key v
  else if 0x3340 ≤ idx ∧ idx < 0x3350 then (if sub = 1 then ruleTcamEnable (idx - 0x3340) v s else ruleTcamSetting (idx - 0x3340) key v s)
  else if idx = 0x3350 then ruleTcamWidth (sub - 1) v s
  else if 0x34A0 ≤ idx ∧ idx < 0x34B0 then
    (if sub ≤ 4 ∧ Nat.land v 0x8FFF0300 ≠ v then (.invalid, s) else s.plain key v)
  else if 0x34B0 ≤ idx ∧ idx < 0x34C0 then
    (if sub ≤ 2 then rulePool (idx - 0x34B0) key v s
    else if (if sub = 4 then v ≤ s.get (key + 1) else s.get (key - 1) ≤ v) then (.invalid, s)
    else s.plain key v)
  else if 0x3500 ≤ idx ∧ idx < 0x3590 then ruleMeterBase key v s
  else s.plain key v

/-- Writes of the traffic manager's, recompression, buffer and HBM objects, 0x4000 to 0x6FFF. -/
def State.ruleTraffic (s : State) (key v : Nat) : Res :=
  let idx := keyIdx key
  let sub := keySub key
  let hold := fun (p : Nat) =>
    if sub = 1 then s.plain key v
    else Res.andThen (ruleCreditHold (key / 0x100 * 0x100 + 2) (key / 0x100 * 0x100 + 3) key v s) fun s => (.ok, s.creditHeld p)
  if idx = 0x4000 then (if sub = 2 then ruleFlushQueue v s else s.plain key v)
  else if 0x40A0 ≤ idx ∧ idx < 0x4120 then hold (idx - 0x40A0)
  else if idx = 0x4131 then
    (match sub with
    | 1 => ruleGrantBytes v s
    | 2 => ruleReqLevel v s
    | _ => s.plain key v)
  else if 0x4138 ≤ idx ∧ idx < 0x4140 then hold (128 + (idx - 0x4138))
  else if 0x4140 ≤ idx ∧ idx < 0x41C8 then
    (if sub = 1 then ruleGateEnable (idx - 0x4140) v s
    else if sub = 9 ∧ idx < 0x41C0 then (.invalid, s)
    else s.plain key v)
  else if 0x4400 ≤ idx ∧ idx < 0x4800 then (if sub ≤ 3 then ruleShaperProfile (idx - 0x4400) key v s else s.plain key v)
  else if 0x5001 ≤ idx ∧ idx < 0x5100 then ruleRecompProfile key v s
  else if idx = 0x5800 then
    (match sub with
    | 1 => ruleBufEnable v s
    | 2 => ruleBufSetting key v s
    | _ => s.plain key v)
  else if 0x5810 ≤ idx ∧ idx < 0x5820 then (if sub = 1 ∨ sub = 5 then ruleBufSetting key v s else s.plain key v)
  else if 0x5820 ≤ idx ∧ idx < 0x5850 then ruleBufSetting key v s
  else if 0x5880 ≤ idx ∧ idx < 0x58C0 then
    (if sub = 2 ∨ sub = 4 ∨ sub = 5 then ruleBufProfile (idx - 0x5880) key v s else s.plain key v)
  else if 0x6020 ≤ idx ∧ idx < 0x6030 then ruleHbmOrder (idx - 0x6020) key v s
  else if idx = 0x6030 then Res.andThen (s.plain key v) fun s' => (.ok, s'.takesEffect key (s.get key) 1)
  else s.plain key v

/-- What a write of an object does once the shared checks have passed. -/
def State.objRule (s : State) (master key v : Nat) : Res :=
  let idx := keyIdx key
  if idx < 0x1200 then s.ruleComm master key v
  else if idx < 0x2000 then s.ruleSystem master key v
  else if idx < 0x3000 then s.ruleLinks key v
  else if idx < 0x4000 then s.ruleForward key v
  else s.ruleTraffic key v

/-- A write of an object runs on after it has been accepted (R376, R537, R539). -/
def slowWrite (key v : Nat) : Bool :=
  let idx := keyIdx key
  let sub := keySub key
  Nat.beq key Obj.TM_CTRL_FLUSH_QUEUE || Nat.beq key Obj.PANTRY_STORE || Nat.beq key Obj.PANTRY_CLEAR ||
    (Nat.beq key Obj.FW_UPDATE_UPD_CTRL && !Nat.beq v 3) ||
    (Nat.ble 0x6021 idx && Nat.ble idx 0x6022) || (Nat.ble 0x3310 idx && Nat.blt idx 0x3320 && Nat.ble 3 sub && Nat.ble sub 7)

/-- Shared checks of a write as a master's path names the object. -/
def State.mayWrite (s : State) (path : Path) (master idx sub v : Nat) : Status :=
  if s.clientThere idx = false ∨ ((domRow idx).isSome = true ∧ sub = 1 ∧ path ≠ .window) then .notFound
  else s.checkWrite path master (s.locate master idx sub).1 v

/-- A write of an object by any path (R370, R376, R415, R514): the status it ends with, or none when its end comes later and is told
by `via`. -/
def State.dictWrite (s : State) (path : Path) (via : SlowVia) (master idx sub v : Nat) : Option Status × State :=
  let (key, there) := s.locate master idx sub
  match s.mayWrite path master idx sub v with
  | .ok =>
    if slowWrite key v = true ∧ s.slowRuns master key = true then (some .busy, s)
    else if Nat.beq key Obj.FW_UPDATE_UPD_CTRL && s.slowRuns master key then (some .busy, s)
    else match (if there then s.inOrder master key fun s => s.objRule master key v else (.invalid, s)) with
      | (.ok, s) =>
        let s := s.serve key master
        if slowWrite key v then (if via = .window then some .ok else none, s.slowStart ⟨master, key, via⟩)
        else
          let (fuse, s) := s.holdFuse via
          if fuse then (none, s)
          else if s.host.disabling.any (fun d => Nat.beq d.sq (key / 0x1000000) && Nat.beq d.master master && decide (d.via = some .direct)) = true ∧
              key % 0x1000000 = 0x111007 then
            -- a job that disables its own ring completes at once: the jobs behind it wait for it
            let own := match via with
              | .job sq _ => Nat.beq sq (key / 0x1000000)
              | _ => false
            let teller := if via = .window then some SlowVia.direct else if own then none else some via
            (if own then some .ok else none, (s.withHost { s.host with
              disabling := s.host.disabling.map fun d => if Nat.beq d.sq (key / 0x1000000) then { d with via := teller } else d }))
          else (some .ok, s)
      | (st, s) => (some st, s)
  | st => (some st, s)

/-! ### Reads -/

/-- BODY_BYTES, SEQUENCE and number of the active Pantry copy (R385). -/
def State.copyField (s : State) (f : Bool × PantryCopy → Nat) (none' : Nat) : Nat :=
  match s.activeCopy with
  | some c => f c
  | none => none'

/-- The record a master has chosen by LOG_SELECT (R551). -/
def State.selectedRecord (s : State) (master : Nat) : Option EventRec :=
  let next := s.get Obj.EVENT_CTRL_LOG_SEQ
  let back := (next + 2 ^ 32 - s.get (Obj.EVENT_LOG_LOG_SELECT master)) % 2 ^ 32
  if back = 0 ∨ 1024 < back then none else s.ev.log[back - 1]?

/-- Least free units of a region since the last read (R164). -/
def State.minFree (s : State) (g : Nat) : Nat :=
  min (s.freeUnits g) (if g = 2 ∧ s.region2Gone = true then 0 else s.totalUnits g - Table.get zeroN s.net.usedMax g)

/-- Free buffers of the pool at a record's index, and the key of its occupancy: a general pool below 0x5838, else a privileged one. -/
def State.poolAt (s : State) (idx : Nat) : Nat × Nat :=
  if idx < 0x5838 then
    let g := (idx - 0x5820) / 8
    let j := (idx - 0x5820) % 8
    (s.poolFree g j, poolKey g j)
  else
    let g := (idx - 0x5838) / 4
    let pp := (idx - 0x5838) % 4 + 1
    (s.ppFree g pp, ppKey g pp)

/-- Slot A or B behind a FW_SLOT record. -/
def State.slotAt (s : State) (idx : Nat) : SlotRec := s.slot (Nat.beq idx 0x1611)

/-- PLL_LOCK (R576): of the clocks recovered from line and fabric lanes a bit reads 1 while every enabled lane is locked. DEDUCED, log entry 117:
a line port whose conditions hold (R274), a fabric lane without loss of signal (R338). -/
def State.lockBits (s : State) : Nat :=
  let line : Bool := (List.range 128).all fun p => !s.on (Obj.LINE_PORT_PORT_ENABLE p) || (s.lineOf p).good
  let fabric : Bool := (List.range 160).all fun m => !s.on (Obj.FABRIC_LANE_FL_ENABLE m) || !(s.get (Obj.FABRIC_LANE_DEFECTS m)).testBit 0
  setBits (setBits (s.get Obj.CLOCKS_PLL_LOCK) 9 1 (ofBool line)) 11 1 (ofBool fabric)

/-- The value an object reports, with the state the read leaves; most report what the object holds, and those a table marks with a dash
report a current value, latched at the read (R369). -/
def State.report (s : State) (master key : Nat) : Status × Nat × State :=
  let idx := keyIdx key
  let sub := keySub key
  let v := fun (n : Nat) => ((.ok, n, s) : Status × Nat × State)
  let stored := v (s.get key)
  match idx, sub with
  | 0x6000, 5 => v (s.tagsUsed true)
  | 0x6000, 6 => v (s.tagsUsed false)
  | 0x1000, 4 => v (Config.partValue Obj.IDENTITY_ROM_VERSION % 2 ^ 32)
  | 0x11B0, 0xB => v (s.knownMask 0)
  | 0x11B0, 0xC => v (s.knownMask 64)
  | 0x1200, 1 => v (time80 s.timeNow)
  | 0x1200, 8 => v (if s.get Obj.TIMEBASE_STATE = 3 then (s.time.now - s.time.holdoverAt) / nsPerS % 2 ^ 32 else 0)
  | 0x14B0, 2 => v s.lockBits
  | 0x1500, 1 => v s.sec.lc
  | 0x1500, 6 => v s.serialNo
  | 0x1500, 7 => v (hashValue s.deviceIdHash)
  | 0x1502, 1 => v (let e := s.get Obj.DEBUG_DBG_EXPIRES; if e ≠ 0 ∧ ofTime80 e ≤ s.timeNow then 0 else s.get key)
  | 0x1502, 2 => s.readChallenge
  | 0x1600, 0xB => v (match s.boot.trialEnd with | some t => ceilDiv (t - s.time.now) nsPerS % 2 ^ 16 | none => 0)
  | 0x1620, 4 => v (s.copyField (fun c => ofBool c.1) 0xFF)
  | 0x1620, 5 => v (s.copyField (fun c => c.2.seq) 0)
  | 0x1620, 7 => v (s.copyField (fun c => bodyBytes c.2.records) 0)
  | 0x1700, 0xA => v (cycleNumber s.cycleNow)
  | 0x1700, 0xD => v s.healthNow
  | 0x1802, 2 => match s.selectedRecord master with
    | some r => v (natLE ((emergImage r).take 16))
    | none => (.notFound, 0, s)
  | 0x1802, 3 => match s.selectedRecord master with
    | some r => v (natLE ((emergImage r).drop 16))
    | none => (.notFound, 0, s)
  | _, _ =>
    if 0x1160 ≤ idx ∧ idx < 0x11A0 then
      (if sub = 8 then let r := s.readLock (idx - 0x1160) master; (.ok, r.1, r.2) else stored)
    else if 0x1210 ≤ idx ∧ idx ≤ 0x1213 then
      let c := idx - 0x1210
      match sub with
      | 4 => (.ok, s.positionOf c, (s.withTime { s.time with absSlot := Table.put zeroN s.time.absSlot c (unsigned 64 (s.absSlotAt c s.timeNow)) }))
      | 5 => v (Table.get zeroN s.time.absSlot c)
      | _ => stored
    else if 0x1610 ≤ idx ∧ idx ≤ 0x1611 then
      v (match sub with
        | 1 => (s.slotAt idx).state
        | 2 => (s.slotAt idx).svn
        | 3 => (s.slotAt idx).version
        | _ => (s.slotAt idx).seq % 2 ^ 32)
    else if 0x2000 ≤ idx ∧ idx < 0x2080 then (if sub = 0x13 then v (s.pausedMask (idx - 0x2000)) else stored)
    else if 0x2100 ≤ idx ∧ idx < 0x2180 then (if s.absentPort (idx - 0x2100) then v 0 else stored)
    else if 0x2180 ≤ idx ∧ idx < 0x2190 then (if sub = 4 then v (s.snapMembers (idx - 0x2180)).length else stored)
    else if 0x3340 ≤ idx ∧ idx < 0x3344 then (if sub = 5 then v (s.tcamPositions (idx - 0x3340)) else if sub = 6 then v (s.tcamValid (idx - 0x3340)) else stored)
    else if 0x4010 ≤ idx ∧ idx < 0x4098 then (if sub = 3 then v (s.outstanding (idx - 0x4010)) else stored)
    else if 0x4140 ≤ idx ∧ idx < 0x41C8 then
      let p := idx - 0x4140
      match sub with
      | 8 => v (s.txLead p)
      | 9 => if p < 128 then v (s.get (Obj.LINE_PORT_PORT_SPEED p)) else stored
      -- the default until the port's first cycle begins (DEDUCED, log entry 148)
      | 0xA => if s.get (Obj.PORT_TIMING_CYCLES p) = 0 then stored else v (s.activeEntry p s.time.tai)
      | _ => stored
    else if 0x5810 ≤ idx ∧ idx < 0x5813 then
      let g := idx - 0x5810
      match sub with
      | 2 => v (s.totalUnits g)
      | 3 => v (s.freeUnits g)
      | 4 => v (s.minFree g)
      | _ => stored
    else if 0x5820 ≤ idx ∧ idx < 0x5844 then
      let (free, k) := s.poolAt idx
      match sub with
      | 3 => v free
      | 4 => v (free + Table.get zeroN s.net.poolUsed k - max (Table.get zeroN s.net.poolUsed k) (Table.get zeroN s.net.poolMax k))
      | _ => stored
    else stored

/-- A read of an RC object clears it (R18): a counter to 0, a maximum or a minimum to the present level. -/
def State.clearRc (s : State) (key : Nat) : State :=
  let idx := keyIdx key
  let sub := keySub key
  if idx = 0x14C0 then s.set key (s.get (key - 2))
  else if key = Obj.REASSEMBLY_CTX_MAX_USED then s.set key (s.get Obj.REASSEMBLY_CTX_IN_USE)
  else if 0x5810 ≤ idx ∧ idx < 0x5813 ∧ sub = 4 then
    let g := idx - 0x5810
    (s.withNet { s.net with usedMax := Table.put zeroN s.net.usedMax g (Table.get zeroN s.net.used g) })
  else if 0x5820 ≤ idx ∧ idx < 0x5844 then
    let k := (s.poolAt idx).2
    (s.withNet { s.net with poolMax := Table.put zeroN s.net.poolMax k (Table.get zeroN s.net.poolUsed k) })
  else s.set key 0

/-- A master has some right at an index (R367). -/
def State.anyRight (s : State) (master idx : Nat) : Bool :=
  match recordAt idx with
  | some r => r.rows.any fun w => decide (s.accOf master (objKey 0 idx w.sub) w ≠ .none)
  | none => false

/-- What DOMAIN_INFO reads (R379): entry count, bytes per entry, generic writes allowed. -/
def domInfo (r : DomRow) : Nat := r.count + r.bytes * 2 ^ 32 + ofBool (decide (r.access = .rw)) * 2 ^ 48

/-- A master may read DOMAIN objects (R370, R379, R526): the virtual functions have no right. -/
def State.domReadable (s : State) (master : Nat) : Bool :=
  match classOf master with
  | some .h | some .f | some .s => !Nat.beq s.sec.lc 4
  | some .d => !Nat.beq s.sec.lc 4 && Nat.ble 1 s.debugLevel
  | _ => false

/-- Subindex 0 of an index, and DOMAIN_INFO in the window (R367, R379). -/
def State.readIndex (s : State) (path : Path) (master idx sub : Nat) : Status × Nat :=
  if s.inIsland ∧ islandGone idx = true then (.unavailable, 0)
  else match domRow idx, recordAt idx with
    | some r, _ =>
      if sub = 1 ∧ path ≠ .window then (.notFound, 0)
      else if s.domReadable master = false then (.denied, 0)
      else (.ok, if sub = 0 then 1 else domInfo r)
    | none, some r => if s.anyRight master idx then (.ok, r.highest) else (.denied, 0)
    | none, none => (.notFound, 0)

/-- A read of a damaged entry of the parser's or the classifier's memories reports it as every read of it does (R80). A read of the graph
or of a key profile by the dictionary is no pipeline's; its event names FS0 (DESIGN CHOICE, log entry 158). -/
def State.damageRead (s : State) (d e : Nat) : State :=
  if s.isDamaged (domKey d e) = false then s
  else if d = Dom.CLASS_NODES then s.classParity d e (nodeBank e)
  else if d = Dom.CLASS_RULES then s.classParity d e (ruleBank e)
  else if d = Dom.VRF_TABLE then s.classParity d e (vrfBank e)
  else if d = Dom.PARSE_GRAPH ∨ d = Dom.PARSE_TRANSITIONS then s.raise 0x3202 (uFS 0) (packArg [(16, e)]) Dom.PARSE_GRAPH
  else s

/-- A read that its channel lets through names a channel's lock: it is answered at the end of its cycle (R427). -/
def State.readsLock (s : State) (path : Path) (master idx sub : Nat) : Bool :=
  (lockChannel (objKey 0 idx sub)).isSome && decide (s.checkRead path master (objKey 0 idx sub) = .ok)

/-- A full read of an object by any path (R367, R370, R374): status, value, and the state it leaves. -/
def State.dictRead (s : State) (path : Path) (master idx sub : Nat) : Status × Nat × State :=
  if s.clientThere idx = false then (.notFound, 0, s)
  else if sub = 0 ∨ ((domRow idx).isSome = true ∧ sub = 1) then
    let (st, v) := s.readIndex path master idx sub
    (st, v, s)
  else
    let (key, there) := s.locate master idx sub
    match s.checkRead path master key with
    | .ok =>
      if there = false then (.invalid, 0, s)
      else if s.isDamaged key then (.parity, 0, s.raise 0x3202 (uFS 0) (packArg [(16, idx - 0x3200)]) 0x3200)
      else
        let (st, v, s) := if s.outOfTurn master key then (.ok, s.cycleGet key, s) else s.report master key
        let rc := match rowAt idx sub with
          | some w => decide (s.accOf master key w = .rc)
          | none => false
        (st, v, if st = .ok ∧ rc = true then s.clearRc key else s)
    | st => (st, 0, s)

/-- Type of an object; subindex 0 is a U8, DOMAIN_INFO has 16 bytes. -/
def objTy (idx sub : Nat) : Ty :=
  match rowAt idx sub with
  | some w => w.ty
  | none => if sub = 0 then .u8 else .str 16

/-! ### DOMAIN entries -/

/-- Rights of a master to write a DOMAIN object (R370, R379, R523). -/
def State.domWritable (s : State) (master d : Nat) : Bool :=
  let auth : Bool := Nat.beq d Dom.AUTH_RESPONSE
  match classOf master with
  | some .h | some .f => !Nat.beq s.sec.lc 4
  | some .s => auth && !Nat.beq s.sec.lc 4
  | some .d => auth || (Nat.beq s.debugLevel 2 && !Nat.beq s.sec.lc 4)
  | _ => false

/-- Image ranges of the resolution tables (R87, R138 to R151): those of a field whose default lies outside them bind valid entries. -/
def resolutionStatus (d image : Nat) : Status :=
  let bad : Bool :=
    if d = Dom.NEXT_HOPS then Nat.beq (Fld.NH_LOCATION.get image / 2 ^ 14) 3
    else if d = Dom.ECMP_GROUPS then
      !(Nat.ble 1 (Fld.ECG_SIZE.get image) && Nat.ble (Fld.ECG_SIZE.get image) 512 &&
        Nat.ble (Fld.ECG_BASE.get image + Fld.ECG_SIZE.get image) 524288)
    else if d = Dom.LAG_GROUPS then
      !(Nat.ble 1 (Fld.LAG_COUNT.get image) && Nat.ble (Fld.LAG_COUNT.get image) 64)
    else if d = Dom.LAG_MEMBERS then !Nat.beq (Fld.LGM_LOCATION.get image / 2 ^ 14) 0 && !Nat.beq (Fld.LGM_LOCATION.get image / 2 ^ 14) 2
    else if d = Dom.MC_GROUPS then
      !(Nat.ble 1 (Fld.MCG_COUNT.get image) && Nat.ble (Fld.MCG_COUNT.get image) 1024 &&
        Nat.ble (Fld.MCG_FIRST.get image + Fld.MCG_COUNT.get image) 262144)
    else if d = Dom.EDIT_TEMPLATES then !(Nat.ble 64 (Fld.TPL_MTU.get image) && Nat.ble (Fld.TPL_MTU.get image) 16000)
    else if d = Dom.ENCAPS then
      let k := Fld.ENC_KIND.get image
      let n := Fld.ENC_COUNT.get image
      Nat.blt 5 k || (Nat.beq k 1 && Nat.blt 8 n) || ((Nat.beq k 4 || Nat.beq k 5) && !(Nat.ble 1 n && Nat.ble n 6))
    else if d = Dom.MARKED_QUEUES then Nat.beq (Fld.MQ_VALID.get image) 1 && Nat.ble 655360 (Fld.MQ_INDEX.get image)
    else false
  if bad then .invalid else .ok

/-- Checks of an entry's own chapter, of the whole image the write would leave. -/
def State.entryCheck (s : State) (master d e image : Nat) : Status :=
  if d = Dom.AIR_EVENT_TABLE then airEntryStatus master e image
  else if d = Dom.PARSE_GRAPH then s.graphStatus e image
  else if d = Dom.PARSE_TRANSITIONS then s.transitionStatus e image
  else if d = Dom.CLASS_NODES then nodeStatus image
  else if d = Dom.CLASS_RULES then ruleStatus image
  else if d = Dom.LABEL_TABLE then labelStatus image
  else if d = Dom.METER_PROFILES then meterProfileStatus image
  else if d = Dom.PORT_CLASSES then classEntryStatus image
  else if d = Dom.GROUPS then s.groupStatus e image
  else if d = Dom.USERS then s.userStatus e image
  else if d = Dom.GATE_LISTS then s.gateListStatus e
  else if d = Dom.CONN_MEMORY then (if s.connLocked e then .busy else .ok)
  else resolutionStatus d image

/-- Applies a write of an entry: its image, and what its chapter ties to it. A rewrite clears a fault of the entry. One that lies in a failed
channel of HBM3 is no longer updated (R362). -/
def State.applyDom (s : State) (d e image : Nat) : State :=
  if (domRow d).any fun r => s.hbm3Lost d e r.bytes then s else
  let s := s.repair (domKey d e)
  if d = Dom.AIR_EVENT_TABLE then s.writeAirEntry e image
  else if d = Dom.LABEL_TABLE then s.labelPut e image
  else if d = Dom.METER_PROFILES then s.writeMeterProfile e image
  else if d = Dom.METERS then s.writeMeter e image
  else if d = Dom.PORT_CLASSES then s.writeClassEntry e image
  else if d = Dom.USERS then s.writeUser e image
  else if d = Dom.MARKED_QUEUES then s.writeMarked e image
  else if d = Dom.SHAPER_NODES then s.writeShaperNode e image
  else if d = Dom.GATE_LISTS then s.writeGateEntry e image
  else if d = Dom.DET_FLOWS then (s.commitDom d e image).voqsAgain
  else s.commitDom d e image

/-- Image a write of an entry leaves: the RW fields of the value, the rest as it stands (R379). -/
def State.mergeDom (s : State) (r : DomRow) (e image : Nat) : Nat :=
  let old := s.dom r.idx e
  Nat.land image r.rw + (old - Nat.land old r.rw)

/-- Bits of an image that are neither RW nor RO. -/
def DomRow.reserved (r : DomRow) (image : Nat) : Nat :=
  let used := Nat.lor r.rw r.ro
  image - Nat.land image used

/-- A write of one DOMAIN entry by any path (R370, R379, R471). One that the partner copies meets no check of rights and not the BUSY of
a standby, but the other checks of a write, as any write that makes it would (R475, R587); a gate list that is active takes it (log entry 96). -/
def State.domWrite (s : State) (path : Path) (master d e image : Nat) : Res :=
  match domRow d with
  | none => (.notFound, s)
  | some r =>
    if s.inIsland then (.unavailable, s)
    else if path ≠ .mate ∧ (s.domWritable master d = false ∨ r.access ≠ .rw) then (.denied, s)
    else if d = Dom.AIR_EVENT_TABLE ∧ e = 4095 ∧ master ≠ FW ∧ path ≠ .mate then (.denied, s)
    else if r.count ≤ e then (.notFound, s)
    else if path ≠ .mate ∧ s.standbyBusy master = true ∧ replicatedDom d e = true then (.busy, s)
    else if 2 ^ (8 * r.bytes) ≤ image ∨ r.reserved image ≠ 0 then (.invalid, s)
    else
      let new := s.mergeDom r e image
      match (if path = .mate ∧ d = Dom.GATE_LISTS then .ok else s.entryCheck (if path = .mate then FW else master) d e new) with
      | .ok => (.ok, s.applyDom d e new)
      | st => (st, s)

/-- A read of one DOMAIN entry by any path: D's reads reset nothing (R214, R370). -/
def State.domRead (s : State) (master d e : Nat) : Status × Nat × State :=
  match domRow d with
  | none => (.notFound, 0, s)
  | some r =>
    if s.inIsland then (.unavailable, 0, s)
    else if s.domReadable master = false then (.denied, 0, s)
    else if r.count ≤ e then (.notFound, 0, s)
    else if s.isDamaged (domKey d e) = true ∨ s.hbm3Lost d e r.bytes = true then (.parity, 0, s.damageRead d e)
    else
      let image := if d = Dom.SHAPER_NODES then (s.shaperNow e).1 else s.dom d e
      let mine := decide (classOf master ≠ some .d)
      let s := if d = Dom.QUEUE_SAMPLES ∧ mine = true then
          -- the RC fields restart; the latest depth and delay stay (R214)
          s.setDom d e (Fld.QS_LAST_DEPTH.set (Fld.QS_LAST_DELAY.set r.dflt (Fld.QS_LAST_DELAY.get image)) (Fld.QS_LAST_DEPTH.get image))
        else if d = Dom.MARKED_LOG ∧ s.sched.logRead.contains e = false then
          (s.withSched { s.sched with logRead := e :: s.sched.logRead })
        else s
      (.ok, image, s)

end Sys2Proof.Machine
end

