-- ==== Sys2Proof/Machine/DictOps.lean ====
section
/-! DEFINITION. The dictionary's commands: window accesses (R373 to R378), the object and DOMAIN jobs (R402, R403), the end of a slow
write (R376, R377) and the lock (R381). -/

namespace Sys2Proof.Machine

/-! ### The window -/

/-- The dictionary index behind a view index of a virtual function (R378, R417, R422): its own objects, or none. -/
def viewIndex (vf v : Nat) : Option Nat :=
  if v < 0x40 then some (0x1000 + v)
  else if v < 0x50 then some (0x1200 + (v - 0x40))
  else if v = 0x50 then some 0x1120
  else if v = 0x80 then some 0x1110
  else if v = 0x81 then some 0x1111
  else if v = 0x82 then some (0x1130 + vf)
  else if v = 0x90 then some 0x1150
  else if v = 0x91 then some 0x11A0
  else if 0xA0 ≤ v ∧ v < 0xE0 then some (0x1160 + (v - 0xA0))
  else none

/-- Index that a window offset names for a master, and whether there is one: the whole dictionary for the physical function and the
firmware, a view for a virtual function (R373, R378). -/
def winIndex (master offset : Nat) : Nat × Bool :=
  match functionOf master with
  | some (vf + 1) =>
    match viewIndex vf (offset / 0x1000 % 0x100) with
    | some idx => (idx, Nat.blt offset (barBytes (vf + 1) 0))
    | none => (offset / 0x1000 % 0x10000, false)
  | _ => (offset / 0x1000 % 0x10000, Nat.blt offset (barBytes 0 0))

/-- A master that reaches the dictionary by a window. -/
def hasWindow (master : Nat) : Bool := decide (pathOf master = .window) && (classOf master).isSome

/-- Size and alignment of a window access (R374). -/
def winShape (offset size : Nat) : Bool := [1, 2, 4, 8, 16].contains size && Nat.beq (offset % size) 0

/-- A write of a slot: it starts at byte 0 and covers the object, and the bytes beyond the object are 0 (R374). -/
def slotWrite (idx sub byte size value : Nat) : Status :=
  match rowAt idx sub with
  | some w =>
    if byte ≠ 0 ∨ size < w.ty.bytes ∨ 16 < w.ty.bytes then .width
    else if 2 ^ (8 * w.ty.bytes) ≤ value then .invalid
    else .ok
  | none => .ok

/-- A write of bytes of a slot through the window (R374, R377). -/
def State.slotWrites (s : State) (master idx sub byte size value : Nat) : State :=
  let key := (s.locate master idx sub).1
  match slotWrite idx sub byte size value with
  | .ok =>
    match s.dictWrite .window .window master idx sub value with
    | (some st, s) => State.finish .window master key (st, s)
    | (none, s) => s
  | st => State.finish .window master key (st, s)

/-- The function of a master and the place in its BAR2 or BAR4 that an access names (R390). -/
def otherBar (master offset size : Nat) : Option (Nat × Nat × Nat) :=
  let (bar, o) := barAt offset
  match functionOf master with
  | some fn => if bar ≠ 0 ∧ o + size ≤ barBytes fn bar then some (fn, bar, o) else none
  | none => none

/-- WINDOW_WRITE (R374, R375, R377, R378): a write of any object through the window; one of BAR2 or BAR4 is what R390 says. -/
def execWindowWrite (master offset size value : Nat) (s : State) : Out :=
  .next (
    if hasWindow master = false ∨ s.unreached master = true then s
    else if 2 ^ 28 ≤ offset then
      match otherBar master offset size with
      | some (fn, bar, o) => if s.coreOff then s else s.barWrite fn bar o size value
      | none => s
    else
      let (idx, there) := winIndex master offset
      let sub := offset / 16 % 0x100
      let value := value % 2 ^ (8 * size)
      if winShape offset size = false then State.finish .window master (s.locate master idx sub).1 (.width, s)
      else if there = false then State.finish .window master (objKey 0 idx sub) (.notFound, s)
      else if s.waits .window master false then s.hold ⟨master, idx, sub, offset % 16, size, some value⟩
      else s.slotWrites master idx sub (offset % 16) size value)

/-- A read of an RC object that does not cover all of it (R374). -/
def State.partialRc (s : State) (master idx sub byte size : Nat) : Bool :=
  match rowAt idx sub with
  | some w => decide (s.accOf master (s.locate master idx sub).1 w = .rc) && !(Nat.beq byte 0 && Nat.ble w.ty.bytes size)
  | none => false

/-- A read of bytes of a slot through the window: a full read of an RC object clears it; a read beyond the object's bytes returns 0 and touches
nothing (R18, R374). -/
def State.slotReads (s : State) (master idx sub byte size : Nat) : State :=
  let key := (s.locate master idx sub).1
  let refuse := fun (s : State) (st : Status) => (s.noteRefused master key st).answer master key st
  if s.partialRc master idx sub byte size then refuse s .width
  else if byte = 0 ∧ s.readsLock .window master idx sub = true then s.lockRead ⟨idx - 0x1160, master, .master⟩
  else match s.dictRead .window master idx sub with
    | (.ok, v, s') => (if byte < (objTy idx sub).bytes then s' else s).answer master key .ok (v % 2 ^ 128 / 2 ^ (8 * byte) % 2 ^ (8 * size))
    | (st, _, s') => refuse s' st

/-- RC_READ (R18, R373 to R375): a read through the window; one of BAR2 or BAR4 is what R390 says. -/
def execRcRead (master offset size : Nat) (s : State) : Out :=
  .next (
    if hasWindow master = false ∨ s.unreached master = true then s
    else if 2 ^ 28 ≤ offset then
      match otherBar master offset size with
      | some (fn, bar, o) => if s.coreOff then s else s.emit (.barRead fn bar o (s.barValue fn bar o size))
      | none => s
    else
      let (idx, there) := winIndex master offset
      let sub := offset / 16 % 0x100
      let refuse := fun (st : Status) (k : Nat) => (s.noteRefused master k st).answer master k st
      if winShape offset size = false then refuse .width (s.locate master idx sub).1
      else if there = false then refuse .notFound (objKey 0 idx sub)
      else if s.waits .window master true then s.hold ⟨master, idx, sub, offset % 16, size, none⟩
      else s.slotReads master idx sub (offset % 16) size)

/-- The window accesses that waited are carried out, in order, once the writes before them have ended (R375). -/
def State.heldTurn (s : State) : State :=
  forEach s.dict.held (s.withDict { s.dict with held := [] }) fun s h =>
    if s.unreached h.master then s
    else if s.waits .window h.master h.write.isNone then s.hold h
    else match h.write with
      | some v => s.slotWrites h.master h.idx h.sub h.byte h.size v
      | none => s.slotReads h.master h.idx h.sub h.byte h.size

/-! ### Jobs -/

/-- The master a job acts for: the function that owns its ring (R392). -/
def State.jobMaster (s : State) (sq : Nat) : Nat :=
  match s.sqFn sq with
  | 0 => HOST
  | v => v + 1

/-- An OBJ_READ job that may start names a channel's lock, and is completed at the end of its cycle (R427, R432). -/
def State.lockJob (s : State) (sq index : Nat) : Option State :=
  match s.startable sq index 0x01 with
  | none => none
  | some j =>
    let idx := wordAt j.bytes 16 2
    let sub := byteAt j.bytes 18
    if s.coreOff = false ∧ zeroBytes j.bytes [(20, 4), (32, 32)] = true ∧ byteAt j.bytes 19 = (objTy idx sub).bytes ∧
        s.readsLock .job (s.jobMaster sq) idx sub = true then some ((s.startJob j).lockRead ⟨idx - 0x1160, s.jobMaster sq, .job sq index⟩)
    else none

/-- OBJ_READ (R402): a value of up to 8 bytes is returned in the completion, a longer one written to the host address. -/
def execObjRead (sq : Fin 1024) (index : Nat) (dma : Dma) (s : State) : Out :=
  match s.lockJob sq index with
  | some s => .next s
  | none => s.runJob sq index 0x01 dma fun j s =>
    let idx := wordAt j.bytes 16 2
    let sub := byteAt j.bytes 18
    let ty := objTy idx sub
    if zeroBytes j.bytes [(20, 4), (32, 32)] = false then some (.invalid, 0, s)
    else if ((rowAt idx sub).isSome = true ∨ sub = 0) ∧ byteAt j.bytes 19 ≠ ty.bytes then some (.width, 0, s)
    else match s.dictRead .job (s.jobMaster sq) idx sub with
      | (.ok, v, s) =>
        if ty.bytes ≤ 8 then some (.ok, natBE (valueBytes ty v), s)
        else if dma.ok then some (.ok, 0, s.jobWrite j (wordAt j.bytes 24 8) (valueBytes ty v))
        else some (.dmaError, 0, s)
      | (st, _, s) => some (st, 0, s)

/-- Value bytes of an OBJ_WRITE: in the payload up to 32 bytes, otherwise from host memory (R402). -/
def objData (j : Job) (dma : Dma) (length : Nat) : Option (List Byte) :=
  if length ≤ 32 then some ((j.bytes.drop 32).take length)
  else match dma.data with
    | some d => if d.length = length then some d else none
    | none => none

/-- OBJ_WRITE (R402): a slow write completes when it ends, a write that blows fuses with their end, a ring's disabling with its last
completion. -/
def execObjWrite (sq : Fin 1024) (index : Nat) (dma : Dma) (s : State) : Out :=
  s.inCore fun s =>
    match s.startable sq index 0x02 with
    | none => s
    | some j =>
      let idx := wordAt j.bytes 16 2
      let sub := byteAt j.bytes 18
      let length := byteAt j.bytes 19
      let ty := objTy idx sub
      let used := if length ≤ 32 then length else 0
      if zeroBytes j.bytes [(20, 4), (32 + used, 32 - used)] = false then s.endJob j dma .invalid 0
      else if ((rowAt idx sub).isSome = true ∨ sub = 0) ∧ length ≠ ty.bytes then s.endJob j dma .width 0
      else match objData j dma length with
        | none => s.endJob j dma .dmaError 0
        | some d =>
          match s.dictWrite .job (.job sq index) (s.jobMaster sq) idx sub (valueOf ty d) with
          | (some st, s) => s.endJob j dma st 0
          | (none, s) => s.startJob j

/-- DOMAIN_READ (R403). -/
def execDomainRead (sq : Fin 1024) (index : Nat) (dma : Dma) (s : State) : Out :=
  s.runJob sq index 0x03 dma fun j s =>
    let d := wordAt j.bytes 16 2
    if zeroBytes j.bytes [(18, 2), (32, 32)] = false then some (.invalid, 0, s)
    else if s.domWaits d = true then none
    else match s.domRead (s.jobMaster sq) d (wordAt j.bytes 20 4) with
      | (.ok, image, s) =>
        let n := match domRow d with
          | some r => r.bytes
          | none => 0
        if dma.ok then some (.ok, 0, s.jobWrite j (wordAt j.bytes 24 8) (bytesBE n image)) else some (.dmaError, 0, s)
      | (st, _, s) => some (st, 0, s)

/-- DOMAIN_WRITE (R403). -/
def execDomainWrite (sq : Fin 1024) (index : Nat) (dma : Dma) (s : State) : Out :=
  s.runJob sq index 0x04 dma fun j s =>
    let d := wordAt j.bytes 16 2
    if zeroBytes j.bytes [(18, 2), (32, 32)] = false then some (.invalid, 0, s)
    else if s.domWaits d = true then none
    else match domRow d with
      | none => some (.notFound, 0, s)
      | some r =>
        match dma.data with
        | some data =>
          if data.length = r.bytes then
            let (st, s) := s.domWrite .job (s.jobMaster sq) d (wordAt j.bytes 20 4) (natBE data)
            some (st, 0, s)
          else some (.dmaError, 0, s)
        | none => some (.dmaError, 0, s)

/-! ### Slow writes and the lock -/

/-- Bytes of an entry of a DOMAIN object. -/
def domBytes (d : Nat) : Nat := ((domRow d).map (·.bytes)).getD 0

/-- The accesses that waited for a region of HBM3 are carried out, oldest first (R353). -/
def State.hbmRelease (s : State) : State :=
  let ready := s.hbm.waiting.filter fun w => !s.domWaits w.dom
  forEach ready (s.withHbm { s.hbm with waiting := s.hbm.waiting.filter fun w => s.domWaits w.dom }) fun s w =>
    let key := objKey 0 w.dom 0
    match w.coica, w.write with
    | some (addr, svc, txn), some image =>
      let (st, s) := s.domWrite .coica SUPV w.dom w.entry image
      s.endWrite (.coica addr svc txn) SUPV key st
    | some (addr, svc, txn), none =>
      let (st, image, s) := s.domRead SUPV w.dom w.entry
      s.endWrite (.coica addr svc txn) SUPV key st none (if st = .ok then bytesBE (domBytes w.dom) image else [])
    | none, some image =>
      let (st, s) := s.domWrite .jtag DBG w.dom w.entry image
      s.answer DBG key st
    | none, none =>
      let (st, image, s) := s.domRead DBG w.dom w.entry
      s.answer DBG key st image

/-- A DOMAIN access of a Coica service or of the debug master waits for its region (R353). -/
def State.hbmDefer (s : State) (w : HbmWaiting) : State := s.withHbm { s.hbm with waiting := s.hbm.waiting ++ [w] }

/-- SLOW_WRITE_DONE (R376, R377): the oldest of a master's slow writes that no other command ends has run to its end. -/
def execSlowWriteDone (master : Nat) (s : State) : Out :=
  let general := fun (w : SlowWrite) => Nat.beq w.master master &&
    !([Obj.PANTRY_STORE, Obj.PANTRY_CLEAR, Obj.FW_UPDATE_UPD_CTRL].contains w.key)
  .next (match s.dict.slow.reverse.find? general with
    | none => s
    | some w =>
      let s : State := (s.withDict { s.dict with slow := s.dict.slow.filter (· != w) })
      let s := s.endWrite w.via w.master w.key .ok
      (if w.via = .window then s.notePending w.master else s).hbmRelease)

/-- DICT_LOCK (R381). -/
def execDictLock (master value : Nat) (s : State) : Out := s.rowWrite master Obj.LOCK_DICT_LOCK value (ruleDictLock value)

end Sys2Proof.Machine
end

