-- ==== Sys2Proof/Machine/CoicaOd.lean ====
section
/-! DEFINITION. The object-dictionary services of the Coica bus and its firmware blocks (R451 to R454). -/

namespace Sys2Proof.Machine

/-- Takes the frame at the front of the MAC's queue when it is a request of a service. -/
def State.takeSvc (s : State) (svc : Nat) : Option CoicaFrame × State :=
  match s.coica.rx with
  | f :: l => if f.type = fcODREQ ∧ byteAt f.payload 0 = svc then (some f, (s.withCoica { s.coica with rx := l })) else (none, s)
  | [] => (none, s)

/-- Serves the request at the front of the queue; a request whose fields that must be 0 are not is INVALID (R371, R451). `zero`: payload
bytes that are 0 in a request of this service. -/
def State.odServe (s : State) (svc : Nat) (zero : List (Nat × Nat)) (f : CoicaFrame → State → State) : Out :=
  .next (match s.takeSvc svc with
    | (none, s) => s
    | (some q, s) => if zeroBytes q.payload ((2, 2) :: zero) then f q s else s.odStatus q .invalid)

/-- A request runs on: its answer carries DONE 0, and its end is kept for STATUS (R453). -/
def State.odRuns (s : State) (f : CoicaFrame) (key : Option Nat) (ended : Option (Nat × List Byte)) : State :=
  let txn := byteAt f.payload 1
  let run : CoicaRun := ⟨f.sa, byteAt f.payload 0, txn, key, ended⟩
  let s : State := (s.withCoica { s.coica with
    running := run :: s.coica.running.filter fun r => !(Nat.beq r.addr f.sa && Nat.beq r.txn txn) })
  s.odStatus f .ok false

/-- OD_READ (R451): LENGTH equals the object's size. -/
def execOdRead (s : State) : Out :=
  s.odServe 0x01 [(12, 4)] fun f s =>
    let idx := wordAt f.payload 4 2
    let sub := byteAt f.payload 6
    let ty := objTy idx sub
    if ((rowAt idx sub).isSome = true ∨ sub = 0) ∧ byteAt f.payload 7 ≠ ty.bytes then s.odStatus f .width
    else if s.readsLock .coica SUPV idx sub then s.lockRead ⟨idx - 0x1160, SUPV, .coica f⟩
    else match s.dictRead .coica SUPV idx sub with
      | (.ok, v, s) => s.odStatus f .ok true (valueBytes ty v)
      | (st, _, s) => s.odStatus f st

/-- OD_WRITE (R451, R453): a write that is not complete at the answer runs on. -/
def execOdWrite (s : State) : Out :=
  s.odServe 0x02 [(12, 4)] fun f s =>
    let idx := wordAt f.payload 4 2
    let sub := byteAt f.payload 6
    let ty := objTy idx sub
    let data := f.payload.drop 16
    if (((rowAt idx sub).isSome = true ∨ sub = 0) ∧ byteAt f.payload 7 ≠ ty.bytes) ∨ data.length ≠ byteAt f.payload 7 then s.odStatus f .width
    else match s.dictWrite .coica (.coica f.sa 0x02 (byteAt f.payload 1)) SUPV idx sub (valueOf ty data) with
      | (some st, s) => s.odStatus f st
      | (none, s) => s.odRuns f (some (s.locate SUPV idx sub).1) none

/-- OD_DOMAIN_READ (R379, R451). -/
def execOdDomainRead (s : State) : Out :=
  s.odServe 0x03 [(12, 4)] fun f s =>
    let d := wordAt f.payload 4 2
    if s.domWaits d then
      (s.hbmDefer ⟨some (f.sa, 0x03, byteAt f.payload 1), d, wordAt f.payload 8 4, none⟩).odRuns f none none
    else match s.domRead SUPV d (wordAt f.payload 8 4) with
    | (.ok, image, s) => s.odStatus f .ok true (bytesBE (domBytes d) image)
    | (st, _, s) => s.odStatus f st

/-- OD_DOMAIN_WRITE (R379, R451): the whole image of the entry. -/
def execOdDomainWrite (s : State) : Out :=
  s.odServe 0x04 [(12, 4)] fun f s =>
    let d := wordAt f.payload 4 2
    let data := f.payload.drop 16
    match domRow d with
    | none => s.odStatus f .notFound
    | some r =>
      if data.length ≠ r.bytes then s.odStatus f .width
      else if s.domWaits d then
        (s.hbmDefer ⟨some (f.sa, 0x04, byteAt f.payload 1), d, wordAt f.payload 8 4, some (natBE data)⟩).odRuns f none none
      else
        let (st, s) := s.domWrite .coica SUPV d (wordAt f.payload 8 4) (natBE data)
        s.odStatus f st

/-- OD_STATUS (R453): the final response of an earlier request of the same station; DONE 0 while it runs. -/
def execOdStatus (s : State) : Out :=
  s.odServe 0x05 [(13, 3)] fun f s =>
    let txn := byteAt f.payload 12
    match s.coica.running.find? fun r => Nat.beq r.addr f.sa && Nat.beq r.txn txn with
    | some r =>
      match r.ended with
      | some (st, data) => s.odSend f (odPayload f.payload st true (byteAt f.payload 7) data)
      | none => s.odStatus f .ok false
    | none =>
      match s.coica.kept.find? fun k => Nat.beq k.addr f.sa && Nat.beq k.txn txn && !Nat.beq k.svc 0x05 with
      | some k => s.odSend f (odPayload f.payload (byteAt k.payload 2) true (byteAt f.payload 7) (k.payload.drop 16))
      | none => s.odStatus f .notFound

/-- BLOCK_OPEN (R454). -/
def execBlockOpen (s : State) : Out :=
  s.odServe 0x10 [(14, 2)] fun f s =>
    let len := wordAt f.payload 12 2
    if len = 0 ∨ 4096 < len then s.odStatus f .invalid
    else
      let b : CoicaBlock := ⟨wordAt f.payload 8 4, wordAt f.payload 16 4, List.replicate len none⟩
      (s.withCoica { s.coica with block := some b }).odStatus f .ok

/-- BLOCK_SEG (R454): a later segment overwrites an earlier one. -/
def execBlockSeg (s : State) : Out :=
  s.odServe 0x11 [(10, 6)] fun f s =>
    let off := wordAt f.payload 8 2
    let data := f.payload.drop 16
    match s.coica.block with
    | none => s.odStatus f .invalid
    | some b =>
      if b.data.length < off + data.length then s.odStatus f .invalid
      else
        let new := b.data.take off ++ data.map some ++ b.data.drop (off + data.length)
        (s.withCoica { s.coica with block := some { b with data := new } }).odStatus f .ok

/-- BLOCK_COMMIT (R453, R454): a block that is whole and intact is handed on as a FW_BLOCK job would be, and like one waits
while the firmware restarts (R543); the flash takes it in ISLAND too (R458). `good`: the flash verifies. -/
def execBlockCommit (good : Bool) (s : State) : Out :=
  s.odServe 0x12 [(12, 4)] fun f s =>
    match s.coica.block with
    | none => s.odStatus f .invalid true (bytesBE 2 0)
    | some b =>
      match (List.range b.data.length).find? fun i => decide (b.data[i]? = some none) with
      | some i => s.odStatus f .invalid true (bytesBE 2 i)
      | none =>
        let data := b.data.filterMap fun x => x
        if crc32 data ≠ b.crc then s.odStatus f .invalid true (bytesBE 2 0xFFFF)
        else
          let s : State := (s.withCoica { s.coica with block := none })
          if s.boot.restart then
            let c : CoicaCommit := ⟨f.sa, byteAt f.payload 1, b.offset, data, good⟩
            (s.withCoica { s.coica with commits := s.coica.commits ++ [c] }).odRuns f none none
          else
            let (st, _, s) := s.updBlock SUPV b.offset data good
            s.odRuns f none (some (st.code, []))

/-- BLOCK_ABORT (R454). -/
def execBlockAbort (s : State) : Out :=
  s.odServe 0x13 [(12, 4)] fun f s => (s.withCoica { s.coica with block := none }).odStatus f .ok

end Sys2Proof.Machine
end

