-- ==== Sys2Proof/Machine/PairSync.lean ====
section
/-! DEFINITION. The standby's side of the state copy: journal records, acknowledgement, bulk copies (R472 to R478, R486, R587). -/

namespace Sys2Proof.Machine

/-! ### Journal records -/

/-- The record that a kind and a body spell (R473); none where they spell none. -/
def recordOf (kind : Nat) (b : List Byte) : Option JRec :=
  let w := fun (i n : Nat) => wordAt b i n
  let n := b.length
  match kind with
  | 1 =>
    match rowAt (w 0 2) (w 2 1) with
    | some r => if n = 4 + r.ty.bytes ∧ w 3 1 = r.ty.bytes then some (.obj (w 0 2) (w 2 1) (valueOf r.ty (b.drop 4))) else none
    | none => none
  | 2 =>
    match domRow (w 0 2) with
    | some r => if n = 8 + r.bytes ∧ w 2 2 = 0 then some (.dom (w 0 2) (w 4 4) (natBE (b.drop 8))) else none
    | none => none
  | 3 => if n = 28 ∧ w 2 2 = 0 then some (.emSet (w 0 1) (w 1 1) (w 4 4) (w 8 20)) else none
  | 4 => if n = 24 ∧ w 1 3 = 0 then some (.emDel (w 0 1) (w 4 20)) else none
  | 5 => if n = 24 then some (.routeSet (w 0 1) (w 1 1) (w 2 2) (w 4 4) (w 8 16)) else none
  | 6 => if n = 20 then some (.routeDel (w 0 1) (w 1 1) (w 2 2) (w 4 16)) else none
  | 7 => if n = 104 ∧ w 1 3 = 0 then some (.tcamSet (w 0 1) (w 4 4) (w 8 96)) else none
  | 8 =>
    if 8 ≤ n ∧ n % 8 = 0 ∧ w 2 2 = 0 then some (.delta (w 0 2) (w 4 4) ((List.range ((n - 8) / 8)).map fun i => w (8 + 8 * i) 8)) else none
  | _ => none

/-- The records of a payload; none where it is not a row of whole records. -/
def parseRecords : Nat → List Byte → Option (List JRec)
  | _, [] => some []
  | 0, _ => none
  | fuel + 1, l =>
    let n := wordAt l 6 2
    let size := 8 + n + (8 - n % 8) % 8
    if l.length < size ∨ wordAt l 1 5 ≠ 0 then none
    else match recordOf (byteAt l 0) ((l.drop 8).take n), parseRecords fuel (l.drop size) with
      | some r, some t => some (r :: t)
      | _, _ => none

/-! ### Applying records -/

/-- Writes an object of the replicated set, as the partner did: no rights are checked (R370). -/
def State.mateWrite (s : State) (idx sub v : Nat) : Res :=
  let key := objKey 0 idx sub
  let commit : Bool := Nat.ble 0x3040 idx && Nat.blt idx 0x3050 && Nat.beq sub 6
  if replicatedObj key = false ∧ commit = false then (.invalid, s)
  else match s.mayWrite .mate MATE idx sub v with
    | .ok =>
      (match rowAt idx sub with
      | some w => if Check.ok w v then s.objRule MATE key v else (.invalid, s)
      | none => (.notFound, s))
    | st => (st, s)

/-- Adds deltas to the counters of a record (R474). -/
def State.addDeltas (s : State) (d e : Nat) (deltas : List Nat) : Res :=
  match domRow d with
  | some r =>
    if (d = Dom.QUEUE_COUNTERS ∨ d = Dom.METER_COUNTERS) ∧ e < r.count ∧ deltas.length = r.bytes / 8 then
      (.ok, s.updateRecord d e 0 fun r =>
        (List.zipWith (fun a b => (a + b) % 2 ^ 64) (countersOf d r) deltas).foldl (fun a c => a * 2 ^ 64 + c) 0)
    else (.invalid, s)
  | none => (.notFound, s)

/-- Applies one record (R475): idempotent; EM_SET evicts nothing. -/
def State.applyRecord (s : State) (r : JRec) : Res :=
  match r with
  | .obj idx sub v => s.mateWrite idx sub v
  | .dom idx e image => if replicatedDom idx e then s.domWrite .mate MATE idx e image else (.invalid, s)
  | .emSet t st result key =>
    if 16 ≤ t ∨ (s.emWide t = false ∧ 2 ^ 64 ≤ key) then (.invalid, s)
    else
      let x := s.emInsert t key result { static := Nat.beq st 1, noEvict := true }
      (x.status, x.st)
  | .emDel t key => if 16 ≤ t then (.invalid, s) else (.ok, (s.emDelete t key).2)
  | .routeSet f len vrf result pfx =>
    let x := s.routeAdd f vrf len pfx result
    (x.1, x.2.2)
  | .routeDel f len vrf pfx =>
    let x := s.routeDelete f vrf len pfx
    (if x.1 = .notFound then .ok else x.1, x.2.2)
  | .tcamSet t pos image =>
    if 4 ≤ t ∨ s.tcamPositions t ≤ pos ∨ tcamImageOk (s.tcamWidth t) image = false then (.invalid, s)
    else
      let a := s.tcamAddr t pos
      let s : State := (s.withTab { s.tab with assocBad := s.tab.assocBad.filter (· != a) })
      (.ok, s.tcamPut a (tcamOfImage image))
  | .delta d e l => s.addDeltas d e l

/-- A record cannot be applied, or records are missing (R475). -/
def State.copyFailed (s : State) : State := (s.resyncAll).raise 0x9107 uMGMT 0

/-- Applies a record, or keeps it for the bulk copy that is to bring its region (R478). -/
def State.takeRecord (s : State) (r : JRec) : State :=
  if s.pair.outstanding.any r.touches then s
  else match s.applyRecord r with
    | (.ok, s) => s
    | (_, s) => s.copyFailed

/-- The partner's JOURNAL cancels the takeover its silence had scheduled, as long as its lease may still run (R486). -/
def State.cancelSilence (s : State) : State :=
  match s.pair.takeover, s.pair.acked with
  | some p, some k =>
    if p.cause = .silence ∧ s.timeNow < s.cycleStart (k + 1 + s.longLease) then (s.withPair { s.pair with takeover := none }) else s
  | _, _ => s

/-- COPY_ACK is withheld once a takeover has been granted (R493), and once the partner has been found silent, unless its JOURNAL came in
time (R485, R486). -/
def State.mayAck (s : State) : Bool :=
  s.pair.granted.isNone && (!s.silent || (Nat.beq (s.get Obj.PAIR_CTRL_WITNESS_MODE) 0 && s.pair.takeover.isNone && s.pair.acked.isSome))

/-- Receives the records of a cycle from SEQ `seq`: acknowledges a complete cycle, then applies them in order (R472, R475). A cycle of which
a message was missing is not acknowledged, whichever message it was. -/
def State.takeJournal (s : State) (head : MateHead) (recs : List JRec) : State :=
  let last : Bool := bit head.flags 0
  let gap : Bool := match s.pair.expect with
    | some e => Nat.blt e head.seq
    | none => false
  let skip := match s.pair.expect with
    | some e => e - head.seq
    | none => 0
  let next := max (head.seq + recs.length) (head.seq + skip)
  let fresh := recs.drop skip
  let first := head.seq + skip
  let s : State := (s.withPair { s.pair with
    expect := some next
    held := ((fresh.zip (List.range fresh.length)).map fun x => (first + x.2, x.1)).reverse ++ s.pair.held })
  let torn := s.pair.torn || gap
  let s : State := (s.withPair { s.pair with torn := torn && !last })
  let s := if last = true ∧ torn = false ∧ s.mayAck = true then
      s.withPair { s.pair with ackDue := some (head.cycle % 2 ^ 32, (next + 2 ^ 64 - 1) % 2 ^ 64) }
    else s
  let s := if gap then s.copyFailed else s
  let s := forEach fresh s fun s r => s.takeRecord r
  (s.withPair { s.pair with
    appliedSeq := (next + 2 ^ 64 - 1) % 2 ^ 64
    appliedCycle := if last then head.cycle % 2 ^ 32 else s.pair.appliedCycle })

/-- The old active's last journal, which a device that has just taken control by a handover still applies (R483). -/
def State.isFinal (s : State) (head : MateHead) : Bool :=
  s.roleIs roleACTIVE && s.pair.linkUp && !s.coreOff &&
    match s.pair.finalCycle with
    | some (e, c) => Nat.beq head.epoch e && Nat.beq (head.cycle % 2 ^ 32) c
    | none => false

/-- The journal of the old epoch that comes in the cycle in which W_TAKEOVER was accepted (R493). -/
def State.isGranted (s : State) (head : MateHead) : Bool :=
  s.roleIs roleSTANDBY && s.pair.linkUp && !s.coreOff && s.pair.granted == some (head.epoch % 2 ^ 32, s.cycleNow)

/-- The deltas that the old active's last journal brought are the partner's already: they are no counts of the new active (R474). -/
def State.baseDelta (s : State) (r : JRec) : State :=
  match r with
  | .delta d e l =>
    let k := domKey d e
    let new := (List.zipWith (fun a b => (a + b) % 2 ^ 64) (countersOf d (Table.get (fun _ => 0) s.pair.deltaBase k)) l).foldl (fun a c => a * 2 ^ 64 + c) 0
    (s.withPair { s.pair with deltaBase := Table.put (fun _ => 0) s.pair.deltaBase k new })
  | _ => s

/-- JOURNAL (R472, R475, R483, R486, R493). -/
def execJournal (head : MateHead) (payload : List Byte) (s : State) : Out :=
  .next (
    let recs := parseRecords payload.length payload
    if s.isFinal head then
      let s := s.bump Obj.PAIR_STATS_JOURNAL_BYTES payload.length
      let s := match recs with
        | some l => forEach l s fun s r => match s.applyRecord r with
          | (.ok, s) => s.baseDelta r
          | (_, s) => s
        | none => s.raise 0x9107 uMGMT 0
      if bit head.flags 0 then (s.withPair { s.pair with finalCycle := none }) else s
    else match (if s.isGranted head then (true, s) else s.mateIn false head) with
      | (false, s) => s
      | (true, s) =>
        if s.roleIs roleSTANDBY = false then s
        else
          let s := (s.bump Obj.PAIR_STATS_JOURNAL_BYTES payload.length).cancelSilence
          match recs with
          | some l => s.takeJournal head l
          | none => s.copyFailed)

/-! ### Bulk copies -/

/-- ENABLE objects whose 1 may make a write of an object BUSY: those of its own index, and those elsewhere that govern it (R123, R164,
R316). -/
def State.governors (s : State) (key : Nat) : List Nat :=
  let idx := keyIdx key
  let own := match recordAt idx with
    | some r => (r.rows.filter fun w => w.enable).map fun w => objKey 0 idx w.sub
    | none => []
  let far := if idx = 0x3350 then
      ((List.range 4).filter fun t =>
        let b := keySub key - 1
        Nat.ble (s.get (Obj.TCAM_TABLE_BANK_FIRST t)) b && Nat.blt b (s.get (Obj.TCAM_TABLE_BANK_FIRST t) + s.get (Obj.TCAM_TABLE_BANK_COUNT t))).map
        Obj.TCAM_TABLE_ENABLE
    else if 0x5810 ≤ idx ∧ idx < 0x5844 then [Obj.BUFFER_CTRL_BUF_ENABLE]
    else if idx = 0x2502 then [Obj.FABRIC_CTRL_FABRIC_ENABLE]
    else []
  (own ++ far).filter fun k => s.on k && !Nat.beq k key

/-- An object is one of the last pass: a BOOL whose name ends in ENABLE. -/
def isEnable (key : Nat) : Bool :=
  match rowAt (keyIdx key) (keySub key) with
  | some w => w.enable
  | none => false

/-- Installs objects in the three passes of R587; a refused write fails the copy. -/
def State.installObjects (s : State) (items : List (Nat × Nat)) : Bool × State :=
  let write := fun (a : Bool × State) (x : Nat × Nat) =>
    if a.2.get x.1 = x.2 then a
    else match a.2.mateWrite (keyIdx x.1) (keySub x.1) x.2 with
      | (.ok, s) => (a.1, s)
      | (_, s) => (false, s)
  let (enables, others) := items.partition fun x => isEnable x.1
  let held := ((others.filter fun x => !Nat.beq (s.get x.1) x.2 && decide ((s.objRule MATE x.1 x.2).1 = .busy)).flatMap fun x => s.governors x.1).eraseDups
  let a := held.foldl (fun a k => write a (k, 0)) (true, s)
  let a := others.foldl write a
  enables.foldl write a

/-- Installs the other regions' items in ascending order; what the snapshot does not hold goes (R478, R587). -/
def State.installItems (s : State) (region : Nat) (items : List JRec) : Bool × State :=
  let s :=
    if 0x0100 ≤ region ∧ region < 0x0110 then
      let t := region - 0x0100
      let keys := items.filterMap fun r => match r with
        | .emSet _ _ _ k => some k
        | _ => none
      forEach (s.tab.em.filter fun x => Nat.beq (x.1 / 2 ^ 24) t) s fun s x => match x.2 with
        | some e => if keys.contains e.key then s else (s.emDelete t e.key).2
        | none => s
    else if region = 0x0204 ∨ region = 0x0206 then
      forEach (s.regionItems region) s fun s r => match r with
        | .routeSet f len vrf _ pfx =>
          if items.any fun i => match i with
            | .routeSet _ l v _ p => Nat.beq l len && Nat.beq v vrf && Nat.beq p pfx
            | _ => false
          then s else (s.routeDelete f vrf len pfx).2.2
        | _ => s
    else s
  items.foldl (fun a r =>
    let same : Bool := match r with
      | .dom d e image => (match domRow d with
        | some w => Nat.beq (Nat.land (a.2.dom d e) w.rw) (Nat.land image w.rw)
        | none => false)
      | _ => false
    if same then a
    else match a.2.applyRecord r with
      | (.ok, s) => (a.1, s)
      | (_, s) => (false, s)) (true, s)

/-- Installs a whole region, replays the held records at or above its snapshot that touch it, and notes that it has come (R478). -/
def State.installRegion (s : State) (b : BulkCopy) : State :=
  let (ok, s) := if b.region = 0 then
      s.installObjects (sortBy (fun x => x.1) (b.items.filterMap fun r => match r with
        | .obj idx sub v => some (objKey 0 idx sub, v)
        | _ => none))
    else s.installItems b.region b.items
  let s : State := (s.withPair { s.pair with outstanding := s.pair.outstanding.filter (· != b.region), bulk := none })
  if ok = false then s.copyFailed
  else
    let s := forEach (s.pair.held.reverse.filter fun x => Nat.ble b.seq x.1 && x.2.touches b.region) s fun s x => s.takeRecord x.2
    if s.pair.outstanding = [] ∧ s.get Obj.PAIR_CTRL_SYNC = 1 then
      ((s.set Obj.PAIR_CTRL_SYNC 2).bump Obj.PAIR_STATS_BULK_COPIES).raise 0x9002 uMGMT 0
    else s

/-- Installs the regions that have come whole, in ascending order of their codes: a region waits for those below it that are still
outstanding (R587). -/
def State.installReady : Nat → State → State
  | 0, s => s
  | n + 1, s =>
    match s.pair.outstanding with
    | [] => s
    | r :: l =>
      let first := l.foldl min r
      match s.pair.ready.find? fun b => Nat.beq b.region first with
      | none => s
      | some b => State.installReady n ((s.withPair { s.pair with ready := s.pair.ready.filter fun x => !Nat.beq x.region first }).installRegion b)

/-- BULK (R478, R587): a message of a region; the last of them, which carries FLAGS [0], completes it (log entry 28). -/
def execBulk (head : MateHead) (payload : List Byte) (s : State) : Out :=
  .next (
    match s.mateIn false head with
    | (false, s) => s
    | (true, s) =>
      let region := wordAt payload 0 2
      if s.roleIs roleSTANDBY = false ∨ s.pair.outstanding.contains region = false then s
      else
        let s := s.setSync 1
        match parseRecords payload.length (payload.drop 8) with
        | none => s.copyFailed
        | some l =>
          let b : BulkCopy := match s.pair.bulk with
            | some b => if b.region = region then { b with seq := min b.seq head.seq, items := b.items ++ l } else ⟨region, head.seq, l⟩
            | none => ⟨region, head.seq, l⟩
          if bit head.flags 0 then
            let ready := b :: s.pair.ready.filter fun x => !Nat.beq x.region region
            State.installReady ready.length (s.withPair { s.pair with bulk := none, ready := ready })
          else (s.withPair { s.pair with bulk := some b }))

end Sys2Proof.Machine
end

