-- ==== Sys2Proof/Machine/Restore.lean ====
section
/-! DEFINITION. The boot's end: the slot chosen, defaults, the Pantry restored, the lock set (R381, R385, R386, R535, R536, R541, R542). -/

namespace Sys2Proof.Machine

/-- Writes a restored record with class F rights (R386); a slow write is complete before the next record. -/
def State.restoreWrite (s : State) (key v : Nat) : Res :=
  let idx := keyIdx key
  let sub := keySub key
  let (k, there) := s.locate FW idx sub
  match s.mayWrite .restore FW idx sub v with
  | .ok => if there then s.objRule FW k v else (.invalid, s)
  | st => (st, s)

/-- Restores one record; one that is refused is skipped and counted. -/
def State.restoreRecord (s : State) (r : Nat × Nat) : State :=
  match s.restoreWrite r.1 r.2 with
  | (.ok, s) => s
  | (_, s) =>
    (s.set Obj.PANTRY_RESTORE_REFUSED (wrapAdd 32 (s.get Obj.PANTRY_RESTORE_REFUSED) 1)).raise 0x7102 uMGMT
      (packArg [(16, keyIdx r.1), (16, keySub r.1)]) r.1

/-- The two passes of R386. -/
def State.restorePantry (s : State) (records : List (Nat × Nat)) : State :=
  let (enables, others) := records.partition fun r => isEnable r.1
  forEach enables (forEach others s State.restoreRecord) State.restoreRecord

/-- RESTORE_AT_BOOT as the firmware reads it from the active copy, which holds only values that differ from their defaults (R383,
R386). -/
def restoreWanted (records : List (Nat × Nat)) : Bool :=
  match records.find? fun r => Nat.beq r.1 Obj.PANTRY_RESTORE_AT_BOOT with
  | some r => Nat.beq r.2 1
  | none => true

/-- Events of the Pantry copies at boot (R385). -/
def State.judgeCopies (s : State) : State :=
  let a := (s.readable false).isSome
  let b := (s.readable true).isSome
  let s := if a then s else s.raise 0x7101 uMGMT 0
  let s := if b then s else s.raise 0x7101 uMGMT 0
  if a || b then s else s.raise 0x7201 uMGMT 0

/-- What starts to run with the data path: the stamps of the exact-match tables (R99), the watches of the Proof engine (R479). -/
def State.startWatches (s : State) : State :=
  let now := s.time.now
  let s := forEach (List.range 16) s fun s t => s.setEmt t { s.emt t with nextTick := some (now + 1000 * s.get (Obj.EM_TABLE_STAMP_UNIT t)) }
  (s.withPair { s.pair with heartbeat := now, lbist := (List.range 64).foldl (fun l p => Table.put (fun _ => 0) l p now) s.pair.lbist })

/-- BOOT_READY (R536): the boot that waits ends: the data path is ready, or the device enters recovery (R535). -/
def execBootReady (s : State) : Out :=
  s.inCore fun s =>
    match s.boot.boot with
    | none => s
    | some cause =>
      let deployed : Bool := Nat.beq s.sec.lc lcDEPLOYED
      if s.tooHot then s.set Obj.BOOT_BOOT_STAGE 4
      else match State.chooseSlot 2 s.scrubBegin.readRecord with
        | (none, s) => s.recover
        | (some b, s) =>
          let s := ((s.runSlot b).set Obj.PANTRY_RESTORE_REFUSED 0).set Obj.CLOCKS_PLL_LOCK 0x3FFFF
          let s := s.judgeCopies.migrate.startWatches
          let s := match s.activeCopy with
            | some c => if restoreWanted c.2.records then s.restorePantry c.2.records else s
            | none => s
          let s := if deployed then (s.set Obj.LOCK_DICT_LOCK 1).set Obj.LOCK_LOCKED_AT (time80 s.timeNow) else s
          (s.withBoot { s.boot with boot := none, ready := true }).bootEnd cause

end Sys2Proof.Machine
end

