-- ==== Sys2Proof/Machine/DebugAccess.lean ====
section
/-! DEFINITION. The two dictionary instruments of the debug master's IEEE 1687 network (R520). -/

namespace Sys2Proof.Machine

/-- DEBUG_OBJECT_ACCESS (R370, R520): moves one object value for D. -/
def execDebugObjectAccess (write : Bool) (idx sub value : Nat) (s : State) : Out :=
  let key := (s.locate DBG idx sub).1
  .next (
    if write then
      match s.dictWrite .jtag .direct DBG idx sub value with
      | (some st, s) => s.answer DBG key st
      | (none, s) => s
    else
      let (st, v, s) := s.dictRead .jtag DBG idx sub
      s.answer DBG key st v)

/-- DEBUG_DOMAIN_ACCESS (R379, R403, R520): moves one entry image for D. -/
def execDebugDomainAccess (write : Bool) (idx entry image : Nat) (s : State) : Out :=
  let key := objKey 0 idx 0
  .next (
    if s.domWaits idx then s.hbmDefer ⟨none, idx, entry, if write then some image else none⟩
    else if write then
      let (st, s) := s.domWrite .jtag DBG idx entry image
      s.answer DBG key st
    else
      let (st, v, s) := s.domRead DBG idx entry
      s.answer DBG key st v)

end Sys2Proof.Machine
end

