-- ==== Sys2Proof/Machine/Dispatch.lean ====
section
/-! DEFINITION. The meaning of every command: one arm per constructor, each one direct call. -/

namespace Sys2Proof.Machine

def exec (i : Instr) (s : State) : Host.Outcome State Fault Refusal :=
  match i with
  | .stateReq master value => Sys2Proof.Machine.execStateReq master value s
  | .autoHoldover lastSample => Sys2Proof.Machine.execAutoHoldover lastSample s
  | .freqAdj master value => Sys2Proof.Machine.execFreqAdj master value s
  | .step master value => Sys2Proof.Machine.execStep master value s
  | .shadowRealign => Sys2Proof.Machine.execShadowRealign s
  | .timebaseLoad => Sys2Proof.Machine.execTimebaseLoad s
  | .timeSyncWord => Sys2Proof.Machine.execTimeSyncWord s
  | .timeWordMissed => Sys2Proof.Machine.execTimeWordMissed s
  | .ppsOut => Sys2Proof.Machine.execPpsOut s
  | .ppsIn => Sys2Proof.Machine.execPpsIn s
  | .todMessage timeEvent bytes => Sys2Proof.Machine.execTodMessage timeEvent bytes s
  | .airClockEnable clock master value => Sys2Proof.Machine.execAirClockEnable clock master value s
  | .dispatch => Sys2Proof.Machine.execDispatch s
  | .airNop => Sys2Proof.Machine.execAirNop s
  | .gateCycle => Sys2Proof.Machine.execGateCycle s
  | .pageSwitch => Sys2Proof.Machine.execPageSwitch s
  | .sampleMarked => Sys2Proof.Machine.execSampleMarked s
  | .mateCycle => Sys2Proof.Machine.execMateCycle s
  | .prewake => Sys2Proof.Machine.execPrewake s
  | .snapshot => Sys2Proof.Machine.execSnapshot s
  | .hostEvent => Sys2Proof.Machine.execHostEvent s
  | .binBoundary => Sys2Proof.Machine.execBinBoundary s
  | .dayOffset master value => Sys2Proof.Machine.execDayOffset master value s
  | .rxFrame port frame codeError corrected uncorrectable symbols => Sys2Proof.Machine.execRxFrame port frame codeError corrected uncorrectable symbols s
  | .ingressPipeline sector upsets => Sys2Proof.Machine.execIngressPipeline sector upsets s
  | .meterDecide meterEcc profileEcc => Sys2Proof.Machine.execMeterDecide meterEcc profileEcc s
  | .mcReplicate read => Sys2Proof.Machine.execMcReplicate read s
  | .d2dReplay good => Sys2Proof.Machine.execD2dReplay good s
  | .d2dRetrain => Sys2Proof.Machine.execD2dRetrain s
  | .d2dLinkFail => Sys2Proof.Machine.execD2dLinkFail s
  | .activeBank master value => Sys2Proof.Machine.execActiveBank master value s
  | .restoreDefault master value => Sys2Proof.Machine.execRestoreDefault master value s
  | .keyProfileSlots profile high master value => Sys2Proof.Machine.execKeyProfileSlots profile high master value s
  | .commit set master value => Sys2Proof.Machine.execCommit set master value s
  | .emInsert sq index upsets dma => Sys2Proof.Machine.execEmInsert sq index upsets dma s
  | .emDelete sq index upsets dma => Sys2Proof.Machine.execEmDelete sq index upsets dma s
  | .emLookup sq index upsets dma => Sys2Proof.Machine.execEmLookup sq index upsets dma s
  | .emReadIndex sq index upsets dma => Sys2Proof.Machine.execEmReadIndex sq index upsets dma s
  | .emUnlock sq index upsets dma => Sys2Proof.Machine.execEmUnlock sq index upsets dma s
  | .routeAdd sq index upsets dma => Sys2Proof.Machine.execRouteAdd sq index upsets dma s
  | .routeDelete sq index upsets dma => Sys2Proof.Machine.execRouteDelete sq index upsets dma s
  | .routeRead sq index upsets dma => Sys2Proof.Machine.execRouteRead sq index upsets dma s
  | .routeMatch sq index upsets dma => Sys2Proof.Machine.execRouteMatch sq index upsets dma s
  | .labelWrite sq index upsets dma => Sys2Proof.Machine.execLabelWrite sq index upsets dma s
  | .labelRead sq index upsets dma => Sys2Proof.Machine.execLabelRead sq index upsets dma s
  | .tcamWrite sq index upsets dma => Sys2Proof.Machine.execTcamWrite sq index upsets dma s
  | .tcamRead sq index upsets dma => Sys2Proof.Machine.execTcamRead sq index upsets dma s
  | .tcamInvalidate sq index upsets dma => Sys2Proof.Machine.execTcamInvalidate sq index upsets dma s
  | .tcamMove sq index upsets dma => Sys2Proof.Machine.execTcamMove sq index upsets dma s
  | .learn table => Sys2Proof.Machine.execLearn table s
  | .learnStashDrain cq => Sys2Proof.Machine.execLearnStashDrain cq s
  | .stampTick table => Sys2Proof.Machine.execStampTick table s
  | .stampUnit table master value => Sys2Proof.Machine.execStampUnit table master value s
  | .agerRead table => Sys2Proof.Machine.execAgerRead table s
  | .agerCompareDelete table => Sys2Proof.Machine.execAgerCompareDelete table s
  | .emTableEnable table master value => Sys2Proof.Machine.execEmTableEnable table master value s
  | .emTableGeometry table field master value => Sys2Proof.Machine.execEmTableGeometry table field master value s
  | .scrubRow upsets => Sys2Proof.Machine.execScrubRow upsets s
  | .lpmLoss => Sys2Proof.Machine.execLpmLoss s
  | .tcamScrub differ shadowBad agree => Sys2Proof.Machine.execTcamScrub differ shadowBad agree s
  | .tcamTableEnable table master value => Sys2Proof.Machine.execTcamTableEnable table master value s
  | .tcamBankWidth bank master value => Sys2Proof.Machine.execTcamBankWidth bank master value s
  | .poolActivate sector pipe => Sys2Proof.Machine.execPoolActivate sector pipe s
  | .poolDeactivate sector pipe => Sys2Proof.Machine.execPoolDeactivate sector pipe s
  | .recirculate => Sys2Proof.Machine.execRecirculate s
  | .egressPipeline port read => Sys2Proof.Machine.execEgressPipeline port read s
  | .bufEnable master value => Sys2Proof.Machine.execBufEnable master value s
  | .admission upsets => Sys2Proof.Machine.execAdmission upsets s
  | .d2dUnit read => Sys2Proof.Machine.execD2dUnit read s
  | .stagingDone => Sys2Proof.Machine.execStagingDone s
  | .idleMap => Sys2Proof.Machine.execIdleMap s
  | .dequeueDecision slice upsets => Sys2Proof.Machine.execDequeueDecision slice upsets s
  | .flushQueue master value => Sys2Proof.Machine.execFlushQueue master value s
  | .voqSend slice ecc => Sys2Proof.Machine.execVoqSend slice ecc s
  | .grant granting requesting q cls bytes => Sys2Proof.Machine.execGrant granting requesting q cls bytes s
  | .creditGenerate port => Sys2Proof.Machine.execCreditGenerate port s
  | .sampleRound => Sys2Proof.Machine.execSampleRound s
  | .queueSample index => Sys2Proof.Machine.execQueueSample index s
  | .shaperRelease port => Sys2Proof.Machine.execShaperRelease port s
  | .shaperProfileWrite profile field master value => Sys2Proof.Machine.execShaperProfileWrite profile field master value s
  | .meterSweep read => Sys2Proof.Machine.execMeterSweep read s
  | .gateEntryEnd port => Sys2Proof.Machine.execGateEntryEnd port s
  | .portEnable port master value => Sys2Proof.Machine.execPortEnable port master value s
  | .linkCondition port good localFault => Sys2Proof.Machine.execLinkCondition port good localFault s
  | .linkDown port => Sys2Proof.Machine.execLinkDown port s
  | .linkUp port => Sys2Proof.Machine.execLinkUp port s
  | .pauseFrame port source quanta => Sys2Proof.Machine.execPauseFrame port source quanta s
  | .pfcFrame port source enabled quanta => Sys2Proof.Machine.execPfcFrame port source enabled quanta s
  | .pauseExpiry port priority => Sys2Proof.Machine.execPauseExpiry port priority s
  | .wdRelease port priority => Sys2Proof.Machine.execWdRelease port priority s
  | .wdHoldoffEnd port priority => Sys2Proof.Machine.execWdHoldoffEnd port priority s
  | .pauseTx port => Sys2Proof.Machine.execPauseTx port s
  | .pauseRepeat port => Sys2Proof.Machine.execPauseRepeat port s
  | .txFrameStart port => Sys2Proof.Machine.execTxFrameStart port s
  | .txFrameEnd port => Sys2Proof.Machine.execTxFrameEnd port s
  | .trigger group master value => Sys2Proof.Machine.execTrigger group master value s
  | .cellRx lane frame slot cell => Sys2Proof.Machine.execCellRx lane frame slot cell s
  | .reach lane fromElement quarter device map => Sys2Proof.Machine.execReach lane fromElement quarter device map s
  | .reachTx => Sys2Proof.Machine.execReachTx s
  | .reachTimeout lane => Sys2Proof.Machine.execReachTimeout lane s
  | .sprayJoin lane => Sys2Proof.Machine.execSprayJoin lane s
  | .unreachDiscard device => Sys2Proof.Machine.execUnreachDiscard device s
  | .request requesting granting q cls on seq => Sys2Proof.Machine.execRequest requesting granting q cls on seq s
  | .requestRefresh voq => Sys2Proof.Machine.execRequestRefresh voq s
  | .requestExpiry requesting q cls => Sys2Proof.Machine.execRequestExpiry requesting q cls s
  | .controlCellFlush device => Sys2Proof.Machine.execControlCellFlush device s
  | .reasmTimeout source cls tag => Sys2Proof.Machine.execReasmTimeout source cls tag s
  | .headLoss source cls => Sys2Proof.Machine.execHeadLoss source cls s
  | .fabricEnable master value => Sys2Proof.Machine.execFabricEnable master value s
  | .txLinkFrame lane => Sys2Proof.Machine.execTxLinkFrame lane s
  | .fawMatch lane position frameNum => Sys2Proof.Machine.execFawMatch lane position frameNum s
  | .rxLinkFrame lane frame symbols uncorrectable => Sys2Proof.Machine.execRxLinkFrame lane frame symbols uncorrectable s
  | .los lane => Sys2Proof.Machine.execLos lane s
  | .losClear lane => Sys2Proof.Machine.execLosClear lane s
  | .schedFlowTimeout flow => Sys2Proof.Machine.execSchedFlowTimeout flow s
  | .slEnable lane master value => Sys2Proof.Machine.execSlEnable lane master value s
  | .pmSecond lane => Sys2Proof.Machine.execPmSecond lane s
  | .pmBinFinal lane => Sys2Proof.Machine.execPmBinFinal lane s
  | .hbmRead space address requester ecc => Sys2Proof.Machine.execHbmRead space address requester ecc s
  | .hbmWrite space address requester mask data => Sys2Proof.Machine.execHbmWrite space address requester mask data s
  | .writeDrainTimeout stack channel => Sys2Proof.Machine.execWriteDrainTimeout stack channel s
  | .rowOpenTimeout stack channel bank => Sys2Proof.Machine.execRowOpenTimeout stack channel bank s
  | .hbmRefresh stack channel => Sys2Proof.Machine.execHbmRefresh stack channel s
  | .retrainDue stack channel => Sys2Proof.Machine.execRetrainDue stack channel s
  | .retrainStep stack channel good repeatGood => Sys2Proof.Machine.execRetrainStep stack channel good repeatGood s
  | .hbmScrub stack ecc => Sys2Proof.Machine.execHbmScrub stack ecc s
  | .hbmRegionOrder region hash master value => Sys2Proof.Machine.execHbmRegionOrder region hash master value s
  | .windowWrite master offset size value => Sys2Proof.Machine.execWindowWrite master offset size value s
  | .rcRead master offset size => Sys2Proof.Machine.execRcRead master offset size s
  | .slowWriteDone master => Sys2Proof.Machine.execSlowWriteDone master s
  | .dictLock master value => Sys2Proof.Machine.execDictLock master value s
  | .store master value => Sys2Proof.Machine.execStore master value s
  | .clear master value => Sys2Proof.Machine.execClear master value s
  | .pantryWriteDone done => Sys2Proof.Machine.execPantryWriteDone done s
  | .objRead sq index dma => Sys2Proof.Machine.execObjRead sq index dma s
  | .objWrite sq index dma => Sys2Proof.Machine.execObjWrite sq index dma s
  | .domainRead sq index dma => Sys2Proof.Machine.execDomainRead sq index dma s
  | .domainWrite sq index dma => Sys2Proof.Machine.execDomainWrite sq index dma s
  | .sqDoorbell fn page value => Sys2Proof.Machine.execSqDoorbell fn page value s
  | .cqDoorbell fn page value => Sys2Proof.Machine.execCqDoorbell fn page value s
  | .push fn page slot entry => Sys2Proof.Machine.execPush fn page slot entry s
  | .fetchVisit memory => Sys2Proof.Machine.execFetchVisit memory s
  | .nop sq index dma => Sys2Proof.Machine.execNop sq index dma s
  | .pktTx sq index dma => Sys2Proof.Machine.execPktTx sq index dma s
  | .txStamp sq index dma => Sys2Proof.Machine.execTxStamp sq index dma s
  | .rxBuffer sq index dma => Sys2Proof.Machine.execRxBuffer sq index dma s
  | .rxDeliver dma => Sys2Proof.Machine.execRxDeliver dma s
  | .cqStashDrain cq ok => Sys2Proof.Machine.execCqStashDrain cq ok s
  | .cqCoalesceTimeout cq => Sys2Proof.Machine.execCqCoalesceTimeout cq s
  | .sqEnable master value => Sys2Proof.Machine.execSqEnable master value s
  | .cqEnable master value => Sys2Proof.Machine.execCqEnable master value s
  | .functionLevelReset fn => Sys2Proof.Machine.execFunctionLevelReset fn s
  | .pcieHotReset => Sys2Proof.Machine.execPcieHotReset s
  | .pcieLinkDown => Sys2Proof.Machine.execPcieLinkDown s
  | .pcieLinkUp speed width vfs => Sys2Proof.Machine.execPcieLinkUp speed width vfs s
  | .vfResources vf field master value => Sys2Proof.Machine.execVfResources vf field master value s
  | .mbBinding channel master value => Sys2Proof.Machine.execMbBinding channel master value s
  | .send channel master value => Sys2Proof.Machine.execSend channel master value s
  | .ack channel master value => Sys2Proof.Machine.execAck channel master value s
  | .lockRead channel master => Sys2Proof.Machine.execLockRead channel master s
  | .lockRelease channel master value => Sys2Proof.Machine.execLockRelease channel master value s
  | .dbPendingClear master value => Sys2Proof.Machine.execDbPendingClear master value s
  | .dbMask master value => Sys2Proof.Machine.execDbMask master value s
  | .mailbox head channel kind ack message => Sys2Proof.Machine.execMailbox head channel kind ack message s
  | .token => Sys2Proof.Machine.execToken s
  | .claim own => Sys2Proof.Machine.execClaim own s
  | .solicit => Sys2Proof.Machine.execSolicit s
  | .setSuccessor => Sys2Proof.Machine.execSetSuccessor s
  | .poll => Sys2Proof.Machine.execPoll s
  | .odRead => Sys2Proof.Machine.execOdRead s
  | .odWrite => Sys2Proof.Machine.execOdWrite s
  | .odDomainRead => Sys2Proof.Machine.execOdDomainRead s
  | .odDomainWrite => Sys2Proof.Machine.execOdDomainWrite s
  | .odStatus => Sys2Proof.Machine.execOdStatus s
  | .blockOpen => Sys2Proof.Machine.execBlockOpen s
  | .blockSeg => Sys2Proof.Machine.execBlockSeg s
  | .blockCommit good => Sys2Proof.Machine.execBlockCommit good s
  | .blockAbort => Sys2Proof.Machine.execBlockAbort s
  | .tokenPassTimeout => Sys2Proof.Machine.execTokenPassTimeout s
  | .tokenLost => Sys2Proof.Machine.execTokenLost s
  | .claimRound carrier => Sys2Proof.Machine.execClaimRound carrier s
  | .solicitWindowEnd garbled => Sys2Proof.Machine.execSolicitWindowEnd garbled s
  | .txJabber => Sys2Proof.Machine.execTxJabber s
  | .jabberSilenceEnd => Sys2Proof.Machine.execJabberSilenceEnd s
  | .rxJabber => Sys2Proof.Machine.execRxJabber s
  | .knownAge address => Sys2Proof.Machine.execKnownAge address s
  | .stationAddr master value => Sys2Proof.Machine.execStationAddr master value s
  | .role master value => Sys2Proof.Machine.execRole master value s
  | .wpWrite pattern field master value => Sys2Proof.Machine.execWpWrite pattern field master value s
  | .journal head payload => Sys2Proof.Machine.execJournal head payload s
  | .copyAck head => Sys2Proof.Machine.execCopyAck head s
  | .health head report delay => Sys2Proof.Machine.execHealth head report delay s
  | .release head => Sys2Proof.Machine.execRelease head s
  | .revertReq head => Sys2Proof.Machine.execRevertReq head s
  | .digest head region endSeq digest => Sys2Proof.Machine.execDigest head region endSeq digest s
  | .recopyReq head region => Sys2Proof.Machine.execRecopyReq head region s
  | .bulk head payload => Sys2Proof.Machine.execBulk head payload s
  | .packet head frame => Sys2Proof.Machine.execPacket head frame s
  | .resetNotice head => Sys2Proof.Machine.execResetNotice head s
  | .leaseExpiry => Sys2Proof.Machine.execLeaseExpiry s
  | .wRenew master value => Sys2Proof.Machine.execWRenew master value s
  | .wTakeover master value => Sys2Proof.Machine.execWTakeover master value s
  | .command master value => Sys2Proof.Machine.execCommand master value s
  | .pairEnable master value => Sys2Proof.Machine.execPairEnable master value s
  | .takeover => Sys2Proof.Machine.execTakeover s
  | .wtrExpiry => Sys2Proof.Machine.execWtrExpiry s
  | .digestPeriod => Sys2Proof.Machine.execDigestPeriod s
  | .mateLinkDown => Sys2Proof.Machine.execMateLinkDown s
  | .mateLinkUp => Sys2Proof.Machine.execMateLinkUp s
  | .memoryBist failed => Sys2Proof.Machine.execMemoryBist failed s
  | .logicBist failed => Sys2Proof.Machine.execLogicBist failed s
  | .lbistOverdue pipeline => Sys2Proof.Machine.execLbistOverdue pipeline s
  | .eyeCheck margins => Sys2Proof.Machine.execEyeCheck margins s
  | .fwHeartbeat master value => Sys2Proof.Machine.execFwHeartbeat master value s
  | .heartbeatTimeout => Sys2Proof.Machine.execHeartbeatTimeout s
  | .powerEvaluate client => Sys2Proof.Machine.execPowerEvaluate client s
  | .powerEntryDone client part => Sys2Proof.Machine.execPowerEntryDone client part s
  | .wakeDone client part => Sys2Proof.Machine.execWakeDone client part s
  | .latTolNs client master value => Sys2Proof.Machine.execLatTolNs client master value s
  | .pwrReq client master value => Sys2Proof.Machine.execPwrReq client master value s
  | .prewakeHoldEnd client => Sys2Proof.Machine.execPrewakeHoldEnd client s
  | .islandEntry rails => Sys2Proof.Machine.execIslandEntry rails s
  | .islandExit => Sys2Proof.Machine.execIslandExit s
  | .wakeReq master value => Sys2Proof.Machine.execWakeReq master value s
  | .wakeNRelease => Sys2Proof.Machine.execWakeNRelease s
  | .provisionProvisioned master => Sys2Proof.Machine.execProvisionProvisioned master s
  | .provisionDecommission master => Sys2Proof.Machine.execProvisionDecommission master s
  | .fuseProgramDone failed => Sys2Proof.Machine.execFuseProgramDone failed s
  | .svnAdvance master value => Sys2Proof.Machine.execSvnAdvance master value s
  | .keyHash slot master value => Sys2Proof.Machine.execKeyHash slot master value s
  | .dbgChallenge master => Sys2Proof.Machine.execDbgChallenge master s
  | .tokenObserve master value => Sys2Proof.Machine.execTokenObserve master value s
  | .tokenInvasive master value => Sys2Proof.Machine.execTokenInvasive master value s
  | .tokenTransition master value => Sys2Proof.Machine.execTokenTransition master value s
  | .tokenRevoke master value => Sys2Proof.Machine.execTokenRevoke master value s
  | .dbgDrop master value => Sys2Proof.Machine.execDbgDrop master value s
  | .dbgExpiry => Sys2Proof.Machine.execDbgExpiry s
  | .challengeExpiry => Sys2Proof.Machine.execChallengeExpiry s
  | .challengeLockoutEnd => Sys2Proof.Machine.execChallengeLockoutEnd s
  | .debugObjectAccess write idx sub value => Sys2Proof.Machine.execDebugObjectAccess write idx sub value s
  | .debugDomainAccess write idx entry image => Sys2Proof.Machine.execDebugDomainAccess write idx entry image s
  | .coreHalt => Sys2Proof.Machine.execCoreHalt s
  | .coreStep => Sys2Proof.Machine.execCoreStep s
  | .scanDump die sector => Sys2Proof.Machine.execScanDump die sector s
  | .extest mode => Sys2Proof.Machine.execExtest mode s
  | .coldReset => Sys2Proof.Machine.execColdReset s
  | .packageWarmReset => Sys2Proof.Machine.execPackageWarmReset s
  | .warmReset master value => Sys2Proof.Machine.execWarmReset master value s
  | .dieResetF master => Sys2Proof.Machine.execDieResetF master s
  | .dieResetT master => Sys2Proof.Machine.execDieResetT master s
  | .sectorReset master value => Sys2Proof.Machine.execSectorReset master value s
  | .unitReset master value => Sys2Proof.Machine.execUnitReset master value s
  | .sectorFault die sector => Sys2Proof.Machine.execSectorFault die sector s
  | .bootReady => Sys2Proof.Machine.execBootReady s
  | .fwRestart master value => Sys2Proof.Machine.execFwRestart master value s
  | .fwReady => Sys2Proof.Machine.execFwReady s
  | .updateBegin master => Sys2Proof.Machine.execUpdateBegin master s
  | .eraseDone => Sys2Proof.Machine.execEraseDone s
  | .fwBlock sq index good dma => Sys2Proof.Machine.execFwBlock sq index good dma s
  | .updateCommit master => Sys2Proof.Machine.execUpdateCommit master s
  | .commitCheckDone => Sys2Proof.Machine.execCommitCheckDone s
  | .updateAbort master => Sys2Proof.Machine.execUpdateAbort master s
  | .fwAccept master value => Sys2Proof.Machine.execFwAccept master value s
  | .trialEnd => Sys2Proof.Machine.execTrialEnd s
  | .ping channel => Sys2Proof.Machine.execPing channel s
  | .pairReady channel reply => Sys2Proof.Machine.execPairReady channel reply s
  | .pantryStore channel => Sys2Proof.Machine.execPantryStore channel s
  | .restart channel => Sys2Proof.Machine.execRestart channel s
  | .accept channel => Sys2Proof.Machine.execAccept channel s
  | .alarmPendingClear master value => Sys2Proof.Machine.execAlarmPendingClear master value s
  | .aonSwitch vaonA vaonB => Sys2Proof.Machine.execAonSwitch vaonA vaonB s
  | .aonReturn vaonA => Sys2Proof.Machine.execAonReturn vaonA s
  | .vaonBLow vaonB => Sys2Proof.Machine.execVaonBLow vaonB s
  | .aonBrownout => Sys2Proof.Machine.execAonBrownout s
  | .refLost reference => Sys2Proof.Machine.execRefLost reference s
  | .refRestored reference => Sys2Proof.Machine.execRefRestored reference s
  | .pllUnlock domain => Sys2Proof.Machine.execPllUnlock domain s
  | .thermalSample sensors hbmTemps => Sys2Proof.Machine.execThermalSample sensors hbmTemps s
  | .throttleEval => Sys2Proof.Machine.execThrottleEval s
  | .msixUnmask fn mask => Sys2Proof.Machine.execMsixUnmask fn mask s
  | .coicaFrameRx frame code => Sys2Proof.Machine.execCoicaFrameRx frame code s
  | .warmNRelease => Sys2Proof.Machine.execWarmNRelease s
  | .sectorResetDone die sector => Sys2Proof.Machine.execSectorResetDone die sector s
  | .dieResetDone die => Sys2Proof.Machine.execDieResetDone die s
  | .d2dRetrainDone => Sys2Proof.Machine.execD2dRetrainDone s
  | .rxFrameCounter lane => Sys2Proof.Machine.execRxFrameCounter lane s
  | .mateCrcError => Sys2Proof.Machine.execMateCrcError s
  | .jabberCarrierStop => Sys2Proof.Machine.execJabberCarrierStop s

end Sys2Proof.Machine
end

