-- ==== Sys2Proof/Machine/Clock.lean ====
section
/-! DEFINITION. What one tick of CLK_TIME (1 ns) does while no command waits: elapsed time, the main timebase (R20, R24), the steps
written to it (R25), the island's shadow counter (R26) and the fall of PPS_OUT (R28). The block has no command for a tick, so an empty queue ticks (log
entry 1). -/

namespace Sys2Proof.Machine

/-- A count in ns with its fraction in 2^-32 ns, `n` ns later as FREQ_ADJ corrects it (R24, R26). -/
def advanced (adj : Int) (n ns frac : Nat) : Nat × Nat :=
  let total := (((ns * 2 ^ 32 + frac : Nat) : Int) + n * (2 ^ 32 + adj)).toNat
  (total / 2 ^ 32 % taiWrap, total % 2 ^ 32)

/-- The main timebase counts (R24); it is lost in ISLAND, and in a package reset until it is loaded (R26). -/
def State.tickTai (s : State) : State :=
  if s.coreOff ∨ s.time.reload = true then s
  else
    let c := advanced (signed 32 (s.get Obj.TIMEBASE_FREQ_ADJ)) 1 s.time.tai s.time.frac
    (s.withTime { s.time with before := s.time.tai, tai := c.1, frac := c.2 })

/-- The error of the island's clock, in 2^-32 ns a ns: none of the crystal, an open value of at most 2 % of the internal oscillator
(R577). -/
def State.oscError (s : State) : Int × State :=
  if s.get Obj.CLOCKS_AON_OSC = 0 then (0, s)
  else
    let (v, s) := s.fresh
    ((v % 171798691 : Nat) - 85899345, s)

/-- The shadow counter adds 40 ns at each tick of CLK_AON, 25 MHz (R26). -/
def State.tickShadow (s : State) : State :=
  if s.time.now % 40 = 0 then
    let (e, s) := s.oscError
    let c := advanced (signed 32 (s.get Obj.TIMEBASE_FREQ_ADJ) + e) 40 s.time.shadow s.time.shadowFrac
    (s.withTime { s.time with shadowBefore := s.time.shadow, shadow := c.1, shadowFrac := c.2 })
  else s

/-- PPS_OUT falls 100 µs after it rose (R28). -/
def State.tickPps (s : State) : State :=
  if s.time.ppsHigh = true ∧ s.time.ppsRise + 100000 ≤ s.time.now then
    (s.withTime { s.time with ppsHigh := false }).emit (.pin .ppsOut false)
  else s

/-- The steps written since the last tick are added, in order (R25). -/
def State.tickSteps (s : State) : State :=
  let l := s.time.steps
  if l = [] then s else forEach l (s.withTime { s.time with steps := [] }) State.applyStep

/-- One tick of CLK_TIME. -/
def State.tick (s : State) : State :=
  (((s.withTime { s.time with now := s.time.now + 1 }).tickTai.tickSteps).tickShadow).tickPps

end Sys2Proof.Machine
end

