-- ==== Sys2Proof/Machine/Instant.lean ====
section
/-! DEFINITION. What a tick does besides counting (log entries 1 and 151). At the end of an instant, in this order: the old meters, profiles and shapers that it kept
are dropped (R239, R248), the priority among masters moves (R11) and the accesses that waited take their turn (R375); its DATA cells are applied
by lane (R308), and the losses it leaves are settled (R315); the compare-and-deletes of the agers are made (R12); what the cycle holds for the mailboxes is resolved (R432); an idle holder of the Coica token sends what is
due (R443); a REVERT_REQ is judged and the mate journal takes in the changes (R493, R472, R473), and the mate link takes up its next
message (R464); the throttle rule is evaluated (R582); the completions of the cycle are
written (R410, R416); the HBM channels run one cycle (R356 to R361); fabric lanes whose
third alignment match came enter SYNC (R344); the records are logged in order (R552), and ALARM_N is released when nothing is pending (R557). After the tick a debug level whose time is over ends
(R521), the candidates for the frame alignment that found no second pattern are dropped (R323), BOOT_STAGE follows the boot (R536), and the objects
as the new cycle finds them are kept (R381, R382). -/

namespace Sys2Proof.Machine

/-- The tick of an instant in which no command waits: what the instant leaves, one tick of CLK_TIME, and what that instant brings. -/
def State.nextInstant (s : State) : State :=
  let s := (s.withSched { s.sched with oldMeters := [], oldShapers := [] }).moveTurns.heldTurn
  let s := ((s.dataCells.dueLosses.ageDeletes.mailboxCycle.cmbIdle.pairCycle.throttleCycle.writeCompletions.hbmCycle.syncLanes.logCycle.releaseAlarm.tick).expireDebug.staleCandidates).bootProgress
  s.withDict { s.dict with cycleObjs := s.objs, cycleDoms := s.doms }

end Sys2Proof.Machine
end

