-- ==== Sys2Proof/Safety.lean ====
section
/-! DEFINITION. The terms in which statements speak of runs: the canonical form of the state's tables, what a command leaves
unchanged, and when an access is applied. -/

namespace Sys2Proof.Machine

/-- The objects' table is in its canonical form: keys strictly rising, no entry equal to its object's default. -/
abbrev State.objsWf (s : State) : Prop := Table.wf objDefault s.objs = true

/-- The DOMAIN entries' table is in its canonical form. -/
abbrev State.domsWf (s : State) : Prop := Table.wf domDefault s.doms = true

/-- The canonical form of both tables of the dictionary: equal contents are equal data. -/
abbrev State.Canonical (s : State) : Prop := s.objsWf ∧ s.domsWf

/-- Image of a DOMAIN entry by its key. -/
def State.domAt (s : State) (k : Nat) : Nat := Table.get domDefault s.doms k

/-- The parts of the state beside the dictionary's objects and DOMAIN entries. -/
inductive Part where
  | pending | free | sent | ev | time | parse | tab | net | sched | line | fab | hbm | dict | host | msix | cqs | coica | pair | pw
  | sec | flash | boot | thermal
deriving DecidableEq, Repr

/-- Two states agree on a part. -/
def Part.same (p : Part) (s t : State) : Prop :=
  match p with
  | .pending => t.pending = s.pending
  | .free => t.free = s.free
  | .sent => t.sent = s.sent
  | .ev => t.ev = s.ev
  | .time => t.time = s.time
  | .parse => t.parse = s.parse
  | .tab => t.tab = s.tab
  | .net => t.net = s.net
  | .sched => t.sched = s.sched
  | .line => t.line = s.line
  | .fab => t.fab = s.fab
  | .hbm => t.hbm = s.hbm
  | .dict => t.dict = s.dict
  | .host => t.host = s.host
  | .msix => t.msix = s.msix
  | .cqs => t.cqs = s.cqs
  | .coica => t.coica = s.coica
  | .pair => t.pair = s.pair
  | .pw => t.pw = s.pw
  | .sec => t.sec = s.sec
  | .flash => t.flash = s.flash
  | .boot => t.boot = s.boot
  | .thermal => t.thermal = s.thermal

/-- What a command leaves unchanged: every object but those that `objs` names, every DOMAIN entry but those that `doms` names (by
key), and every part but those listed. -/
def Frame (objs doms : Nat → Bool) (parts : List Part) (s t : State) : Prop :=
  (∀ k, objs k = false → t.get k = s.get k) ∧ (∀ k, doms k = false → t.domAt k = s.domAt k) ∧ ∀ p, p ∉ parts → p.same s t

/-- No object, and no DOMAIN entry. -/
def noKey (_ : Nat) : Bool := false

/-- The objects of a list. -/
def keysOf (l : List Nat) (k : Nat) : Bool := l.contains k

/-- The objects that the occurrence of an event of class below fatal, code E-6102 apart, may change (R553): the counts of the classes and
SUPPRESSED. Its record is logged and delivered at the end of the instant (R552). -/
def eventObjs (k : Nat) : Bool :=
  (List.range 4).any (fun y => Nat.beq k (Obj.EVENT_LAST_COUNT y)) || Nat.beq k Obj.EVENT_CTRL_SUPPRESSED

/-- The part that the occurrence of an event below fatal may change: the spans, and the records that wait for the end of the instant. -/
def eventParts : List Part := [.ev]

/-- A span of R553 of a code and a scope is open: an occurrence now is suppressed. -/
def State.Suppresses (s : State) (code scope : Nat) : Bool :=
  !Nat.beq (eventPeriod code) 0 && s.ev.spans.any fun x => Nat.beq x.code code && Nat.beq x.scope scope && Nat.blt s.time.now x.until'

/-- From s to t exactly one event occurred (R550, R553): the count of its class rises by 1, and unless a span of its code and scope is open,
when SUPPRESSED rises by 1, a record with its code, its unit, its argument and the present time waits for the log. -/
abbrev Occurred (s t : State) (code unit arg : Nat) (scope : Nat := unit) : Prop :=
  t.get (Obj.EVENT_LAST_COUNT (eventClass code)) = wrapAdd 64 (s.get (Obj.EVENT_LAST_COUNT (eventClass code))) 1 ∧
  t.get Obj.EVENT_CTRL_SUPPRESSED = (if s.Suppresses code scope then wrapAdd 64 (s.get Obj.EVENT_CTRL_SUPPRESSED) 1 else s.get Obj.EVENT_CTRL_SUPPRESSED) ∧
  t.ev.due = (if s.Suppresses code scope then s.ev.due else s.ev.due ++ [⟨code, unit, time80 s.timeNow, 0, arg % 2 ^ 64⟩])

/-- The objects of a list, and those an event may change. -/
def keysAndEvents (l : List Nat) (k : Nat) : Bool := l.contains k || eventObjs k

/-- A master's write of a value to an object by its own path is applied, and its object's own rule decides (R367 to R387): it waits for no
other access of the master (R375), and no write of another master that comes after it in the order of the cycle stands already (R382). -/
abbrev State.Accepts (s : State) (master key v : Nat) : Prop :=
  s.unreached master = false ∧ s.waits (pathOf master) master false = false ∧ s.outOfTurn master key = false ∧
    s.checkWrite (pathOf master) master key v = .ok

/-- The core has power and is not held in reset (R507, R530). -/
abbrev State.CoreOn (s : State) : Prop := s.coreOff = false

/-- The last thing that left the device is the answer to an access: master, object, status. -/
abbrev State.Answered (t : State) (master key : Nat) (st : Status) : Prop := t.sent.head? = some (.access master key st.code 0)

/-- Entries of a bucket that the ager finds old: not static, age at AGE_LIMIT or beyond (R99), with their indices. -/
def State.agedIn (s : State) (t b : Nat) : List (Nat × EmEntry) :=
  (bucketSlots b).filterMap fun i => match s.emAt t i with
    | some x => if x.static = false ∧ s.get (Obj.EM_TABLE_AGE_LIMIT t) ≤ (s.get (Obj.EM_TABLE_STAMP_NOW t) + 65536 - x.stamp) % 65536 then some (i, x) else none
    | none => none

end Sys2Proof.Machine
end

