-- ==== Sys2Proof/Certificates/Slice0/Obligations.lean ====
section
/-! DEFINITION. The statements for the provers, one definition each. A statement about a command gives, for every state and every
operands that meet its hypotheses, the next state that exec answers, or what that state holds and its frame: what it leaves unchanged. -/

open Sys2Proof Sys2Proof.Machine

/-- A step runs the command at the front of the queue: For every command c, state s and queue rest: step of s with c at the front of its
queue is exec of c on s with the queue rest. On an empty queue a step answers a next state one tick of elapsed time later, with the queue
still empty (the idle tick is the model's choice, log entry 1). -/
def Obligations.FrontCommandIsRun : Prop :=
  (∀ (c : Instr) (s : State) (rest : List Instr), step { s with pending := c :: rest } = exec c { s with pending := rest }) ∧
  (∀ s : State, s.pending = [] → ∃ t, step s = .next t ∧ t.time.now = s.time.now + 1 ∧ t.pending = [])

/-- Every command answers a next state: For every command and every state, exec answers a next state: no command of this block ends in a
fault or a refusal. Rests on (parts of) R371. Where these rules leave the point open it states the model's choice: log entry 1. -/
def Obligations.NoCommandStops : Prop :=
  ∀ (c : Instr) (s : State), ∃ t, exec c s = .next t

/-- Every step keeps the dictionary in its canonical form: For every state whose tables of objects and of DOMAIN entries are canonical (keys
strictly rising, no entry equal to its default), the state a step answers is canonical too. Rests on (parts of) R367, R369, R379. Where
these rules leave the point open it states the model's choice: log entry 3. -/
def Obligations.CanonicalTablesKept : Prop :=
  ∀ s t : State, s.Canonical → step s = .next t → t.Canonical

/-- After a cold reset every object reads its default and time starts at 0: State.reset is canonical; every object reads its default and
every DOMAIN entry its default image; the timebase and the shadow counter are 0 and the timebase state is FREERUN; the command queue is
empty. Rests on (parts of) R26, R369. Where these rules leave the point open it states the model's choice: log entries 3, 5, 30, 31. -/
def Obligations.ResetIsCanonicalAndDefault : Prop :=
  State.reset.Canonical ∧ (∀ k, State.reset.get k = objDefault k) ∧ (∀ k, State.reset.domAt k = domDefault k) ∧
  State.reset.time.tai = 0 ∧ State.reset.time.shadow = 0 ∧ State.reset.get Obj.TIMEBASE_STATE = tbFREERUN ∧ State.reset.pending = []

/-- Every step keeps the memory of HBM0 to HBM2 in its canonical form: The memory of the stacks HBM0 to HBM2, by sector number, is canonical
after reset (numbers strictly rising, no sector listed that is all zero, the value an unlisted sector reads as), and for every state in
which it is, the state a step answers has it so too. The form is the model's (log entries 3 and 40). Rests on (parts of) R349 to R351. -/
def Obligations.HbmMemoryStaysCanonical : Prop :=
  Table.wf zeroN State.reset.hbm.cells = true ∧
  ∀ s t : State, Table.wf zeroN s.hbm.cells = true → step s = .next t → Table.wf zeroN t.hbm.cells = true

/-- The servo owner's commands steer the timebase, and another master's are DENIED: From the servo owner, where the write passes the shared
checks (State.Accepts) and no fuse is being blown: STATE_REQ sets STATE to the value; a change to HOLDOVER sets FREQ_ADJ to frozenAdj (the
mean of the last adjustments) and every other STATE_REQ leaves FREQ_ADJ; a change to another state than HOLDOVER makes one occurrence of
E-1001 with the old and the new state; FREQ_ADJ outside HOLDOVER is stored and put before the last 63 adjustments; STEP joins the steps that
wait for the next tick. Each is answered OK. A tick of a running core with one positive step waiting, FREQ_ADJ 0, no reload waiting and no
wrap before its next ns moves the timebase by 1 ns and the step (mod its wrap), adds 1 to STEP_COUNT and to the count of events of class 1,
marks both current bins of the clock suspect and leaves no step waiting. From another master the three are answered DENIED and change only
that master's access status. Rests on (parts of) R23 to R25. Where these rules leave the point open it states the model's choice: log
entries 8, 35, 171. -/
def Obligations.ServoCommandsSteerTimebase : Prop :=
  (∀ (s : State) (m v : Nat), s.Canonical → s.Accepts m Obj.TIMEBASE_STATE_REQ v → m = s.get Obj.TIMEBASE_SERVO_OWNER → s.sec.fusing = none
    → ∃ t, exec (.stateReq m v) s = .next t ∧ t.get Obj.TIMEBASE_STATE = v ∧ t.Answered m Obj.TIMEBASE_STATE_REQ .ok ∧ (v = tbHOLDOVER →
    s.get Obj.TIMEBASE_STATE ≠ tbHOLDOVER → t.get Obj.TIMEBASE_FREQ_ADJ = s.frozenAdj) ∧ ((v ≠ tbHOLDOVER ∨ s.get Obj.TIMEBASE_STATE =
    tbHOLDOVER) → t.get Obj.TIMEBASE_FREQ_ADJ = s.get Obj.TIMEBASE_FREQ_ADJ) ∧ (v ≠ tbHOLDOVER → s.get Obj.TIMEBASE_STATE ≠ v → Occurred
    s t 0x1001 uMGMT (packArg [(16, s.get Obj.TIMEBASE_STATE), (16, v)])) ∧ Frame (keysAndEvents [Obj.TIMEBASE_STATE,
    Obj.TIMEBASE_FREQ_ADJ]) noKey (.time :: .dict :: .sent :: eventParts) s t) ∧
  (∀ (s : State) (m v : Nat), s.Canonical → s.Accepts m Obj.TIMEBASE_FREQ_ADJ v → m = s.get Obj.TIMEBASE_SERVO_OWNER → s.get
    Obj.TIMEBASE_STATE ≠ tbHOLDOVER → s.sec.fusing = none → ∃ t, exec (.freqAdj m v) s = .next t ∧ t.get Obj.TIMEBASE_FREQ_ADJ = v ∧
    t.time.adjustments = (signed 32 v :: s.time.adjustments).take 64 ∧ t.Answered m Obj.TIMEBASE_FREQ_ADJ .ok ∧ Frame (keysOf
    [Obj.TIMEBASE_FREQ_ADJ]) noKey [.time, .dict, .sent] s t) ∧
  (∀ (s : State) (m v : Nat), s.Canonical → s.Accepts m Obj.TIMEBASE_STEP v → m = s.get Obj.TIMEBASE_SERVO_OWNER → s.sec.fusing = none → ∃
    t, exec (.step m v) s = .next t ∧ t.time = { s.time with steps := s.time.steps ++ [signed 64 v] } ∧ t.Answered m Obj.TIMEBASE_STEP
    .ok ∧ Frame noKey noKey [.time, .dict, .sent] s t) ∧
  (∀ (s : State) (d : Int), s.Canonical → s.CoreOn → s.time.reload = false → s.time.frac < 2 ^ 32 → s.time.steps = [d] → 0 < d → s.get
    Obj.TIMEBASE_FREQ_ADJ = 0 → s.time.tai + 1 < taiWrap → s.tick.time.steps = [] ∧ s.tick.time.tai = (((s.time.tai : Int) + 1 + d) %
    (taiWrap : Int)).toNat ∧ s.tick.get Obj.TIMEBASE_STEP_COUNT = wrapAdd 32 (s.get Obj.TIMEBASE_STEP_COUNT) 1 ∧ s.tick.get
    Obj.PERF_BIN_CLOCK_SUSPECT = 3 ∧ s.tick.get (Obj.EVENT_LAST_COUNT 1) = wrapAdd 64 (s.get (Obj.EVENT_LAST_COUNT 1)) 1) ∧
  (∀ (s : State) (m v : Nat), s.Canonical → s.Accepts m Obj.TIMEBASE_STATE_REQ v → m ≠ s.get Obj.TIMEBASE_SERVO_OWNER → s.sec.fusing = none
    → ∃ t, exec (.stateReq m v) s = .next t ∧ t.Answered m Obj.TIMEBASE_STATE_REQ .denied ∧ Frame (keysOf [Obj.ACCESS_STATUS_LAST_STATUS
    m, Obj.ACCESS_STATUS_LAST_OBJECT m, Obj.ACCESS_STATUS_REFUSED m]) noKey [.sent] s t) ∧
  (∀ (s : State) (m v : Nat), s.Canonical → s.Accepts m Obj.TIMEBASE_FREQ_ADJ v → m ≠ s.get Obj.TIMEBASE_SERVO_OWNER → s.sec.fusing = none
    → ∃ t, exec (.freqAdj m v) s = .next t ∧ t.Answered m Obj.TIMEBASE_FREQ_ADJ .denied ∧ Frame (keysOf [Obj.ACCESS_STATUS_LAST_STATUS
    m, Obj.ACCESS_STATUS_LAST_OBJECT m, Obj.ACCESS_STATUS_REFUSED m]) noKey [.sent] s t) ∧
  (∀ (s : State) (m v : Nat), s.Canonical → s.Accepts m Obj.TIMEBASE_STEP v → m ≠ s.get Obj.TIMEBASE_SERVO_OWNER → s.sec.fusing = none → ∃
    t, exec (.step m v) s = .next t ∧ t.Answered m Obj.TIMEBASE_STEP .denied ∧ Frame (keysOf [Obj.ACCESS_STATUS_LAST_STATUS m,
    Obj.ACCESS_STATUS_LAST_OBJECT m, Obj.ACCESS_STATUS_REFUSED m]) noKey [.sent] s t)

/-- Holdover, realignment, reload, the D2D time word and the timing pins: With the core on, except AUTO_HOLDOVER, which does not ask:
AUTO_HOLDOVER in LOCKED, outside a restart of the firmware that owns the servo, 2 s or more after the last sample it names and the entry
into LOCKED, puts the timebase into HOLDOVER with FREQ_ADJ at frozenAdj; SHADOW_REALIGN as the timebase reaches a new second, with no reload
waiting, copies it into the shadow counter; TIMEBASE_LOAD, with a reload waiting, as the shadow counter passes into a new second loads the
timebase from it, ends the wait and leaves FREERUN in FREERUN and every other state in HOLDOVER; TIME_SYNC_WORD on a working die link sets
the replica's skew and the missed words to 0; TIME_WORD_MISSED leaves the replica's skew at a free value (log entry 2), the missed words at
4, and one occurrence of E-1104. With no reload waiting and the pins not held by EXTEST: PPS_OUT, low, rises as the timebase reaches an
integer second plus PPS_OUT_OFFSET; with the core on an edge on PPS_IN writes PPS_IN_STAMP; a time-of-day event message is kept, and any
other adds 1 to TOD_DISCARDS. Rests on (parts of) R21, R24, R26, R28, R46. Where these rules leave the point open it states the model's
choice: log entries 1, 2, 36, 37, 39, 171. -/
def Obligations.TimebaseFollowsClocksAndPins : Prop :=
  (∀ (s : State) (n : Nat), s.Canonical → (s.boot.restart && Nat.beq (s.get Obj.TIMEBASE_SERVO_OWNER) FW) = false → s.get
    Obj.TIMEBASE_STATE = tbLOCKED → max n s.time.lockAt + 2 * nsPerS ≤ s.time.now → ∃ t, exec (.autoHoldover n) s = .next t ∧ t.get
    Obj.TIMEBASE_STATE = tbHOLDOVER ∧ t.get Obj.TIMEBASE_FREQ_ADJ = s.frozenAdj ∧ Frame (keysAndEvents [Obj.TIMEBASE_STATE,
    Obj.TIMEBASE_FREQ_ADJ]) noKey (.time :: eventParts) s t) ∧
  (∀ (s : State), s.CoreOn → s.time.reload = false → s.reached (s.time.tai / nsPerS * nsPerS : Nat) = true → ∃ t, exec (.shadowRealign) s =
    .next t ∧ t.time.shadow = s.time.tai ∧ t.time.shadowFrac = s.time.frac ∧ t.time.tai = s.time.tai ∧ Frame noKey noKey [.time] s t) ∧
  (∀ (s : State), s.Canonical → s.CoreOn → s.time.reload = true → s.time.shadowBefore / nsPerS < s.time.shadow / nsPerS → ∃ t, exec
    (.timebaseLoad) s = .next t ∧ t.time.tai = s.time.shadow ∧ t.time.reload = false ∧ (t.get Obj.TIMEBASE_STATE = if s.get
    Obj.TIMEBASE_STATE = tbFREERUN then tbFREERUN else tbHOLDOVER) ∧ Frame (keysAndEvents [Obj.TIMEBASE_STATE, Obj.TIMEBASE_FREQ_ADJ])
    noKey (.time :: eventParts) s t) ∧
  (∀ (s : State), s.CoreOn → s.d2dUp = true → ∃ t, exec (.timeSyncWord) s = .next t ∧ t.time.replicaSkew = 0 ∧ t.time.missed = 0 ∧ Frame
    noKey noKey [.time] s t) ∧
  (∀ (s : State), s.Canonical → s.CoreOn → ∃ t, exec (.timeWordMissed) s = .next t ∧ t.time.replicaSkew = (Config.freeValue s.free : Nat) ∧
    t.time.missed = 4 ∧ t.free = s.free + 1 ∧ Occurred s t 0x1104 uMGMT 0 ∧ Frame eventObjs noKey (.time :: .free :: eventParts) s t) ∧
  (∀ (s : State), s.CoreOn → s.time.reload = false → s.sec.extest = false → s.time.ppsHigh = false → s.reached (((s.time.tai : Int) -
    signed 32 (s.get Obj.TIME_IO_PPS_OUT_OFFSET)).fdiv nsPerS * nsPerS + signed 32 (s.get Obj.TIME_IO_PPS_OUT_OFFSET)) = true → ∃ t,
    exec (.ppsOut) s = .next t ∧ t.time.ppsHigh = true ∧ t.time.ppsRise = s.time.now ∧ t.sent = .pin .ppsOut true :: s.sent ∧ Frame
    noKey noKey [.time, .sent] s t) ∧
  (∀ (s : State), s.Canonical → s.CoreOn → ∃ t, exec (.ppsIn) s = .next t ∧ t.get Obj.TIME_IO_PPS_IN_STAMP = time80 s.timeNow ∧ Frame
    (keysOf [Obj.TIME_IO_PPS_IN_STAMP]) noKey [] s t) ∧
  (∀ (s : State) (b : List Byte), s.CoreOn → ∃ t, exec (.todMessage true b) s = .next t ∧ t.time.tod = b ∧ Frame noKey noKey [.time] s t) ∧
  (∀ (s : State) (b : List Byte), s.Canonical → s.CoreOn → ∃ t, exec (.todMessage false b) s = .next t ∧ t.get Obj.TIME_IO_TOD_DISCARDS =
    wrapAdd 32 (s.get Obj.TIME_IO_TOD_DISCARDS) 1 ∧ Frame (keysOf [Obj.TIME_IO_TOD_DISCARDS]) noKey [] s t)

/-- ENABLE of an air clock, DISPATCH, and the actions NOP, HOST_EVENT and PAGE_SWITCH: An accepted ENABLE of an air clock is stored, with a
version in force for due instants from 8,192 ns after the write, and answered OK. DISPATCH, with no other issue at this instant and the next
action due at most 4,096 ns ahead of the timebase, puts it at the end of the dispatch FIFO and moves the search on to its due instant and
the next entry. For an action at the front of the FIFO that is due, with DISPATCH_ENABLE 1 and the core on, each of the following takes it
from the FIFO and writes LAST_FIRED: AIR_NOP changes nothing else; HOST_EVENT makes one occurrence of E-1002 with the entry, and with ARG
bit 15 set and the vector neither masked by its function nor by itself also sends that MSI-X message; PAGE_SWITCH of a scheduled lane in
service marks the lane as switching, or, when it is already, adds 1 to SWITCH_MERGED, and of a lane not in service changes nothing else.
Rests on (parts of) R33, R36 to R43, R329, R330. Where these rules leave the point open it states the model's choice: log entries 1, 172. -/
def Obligations.DispatcherIssuesAndActionsFire : Prop :=
  (∀ (s : State) (c : AirClock) (m v : Nat), s.Canonical → s.Accepts m (Obj.AIR_CLOCK_ENABLE c) v → s.sec.fusing = none → ∃ t, exec
    (.airClockEnable c m v) s = .next t ∧ t.get (Obj.AIR_CLOCK_ENABLE c) = v ∧ t.time.clockVersions = ⟨c, s.timeNow + 8192, v⟩ ::
    s.time.clockVersions ∧ t.Answered m (Obj.AIR_CLOCK_ENABLE c) .ok ∧ Frame (keysOf [Obj.AIR_CLOCK_ENABLE c]) noKey [.time, .pair,
    .dict, .sent] s t) ∧
  (∀ (s : State) (a : AirAction), s.CoreOn → s.nextAction = some a → a.due ≤ s.time.tai + 4096 → s.time.issuedAt ≠ some s.time.now → ∃ t,
    exec (.dispatch) s = .next t ∧ t.time.fifo = s.time.fifo ++ [a] ∧ t.time.nextDue = a.due ∧ t.time.nextEntry = a.entry + 1 ∧
    t.time.issuedAt = some s.time.now ∧ Frame noKey noKey [.time] s t) ∧
  (∀ (s : State) (a : AirAction) (l : List AirAction), s.Canonical → s.time.fifo = a :: l → a.action = 0 → a.due ≤ s.time.tai → s.CoreOn →
    s.on Obj.AIR_EVENT_CTRL_DISPATCH_ENABLE = true → ∃ t, exec (.airNop) s = .next t ∧ t.time.fifo = l ∧ t.get
    Obj.AIR_EVENT_CTRL_LAST_FIRED = a.entry ∧ Frame (keysOf [Obj.AIR_EVENT_CTRL_LAST_FIRED]) noKey [.time] s t) ∧
  (∀ (s : State) (a : AirAction) (l : List AirAction), s.Canonical → s.time.fifo = a :: l → a.action = 7 → a.due ≤ s.time.tai → s.CoreOn →
    s.on Obj.AIR_EVENT_CTRL_DISPATCH_ENABLE = true → a.arg.testBit 15 = false → ∃ t, exec (.hostEvent) s = .next t ∧ t.time.fifo = l ∧
    t.get Obj.AIR_EVENT_CTRL_LAST_FIRED = a.entry ∧ Occurred s t 0x1002 uMGMT (packArg [(16, a.entry)]) ∧ Frame (keysAndEvents
    [Obj.AIR_EVENT_CTRL_LAST_FIRED]) noKey (.time :: eventParts) s t) ∧
  (∀ (s : State) (a : AirAction) (l : List AirAction), s.Canonical → s.time.fifo = a :: l → a.action = 7 → a.due ≤ s.time.tai → s.CoreOn →
    s.on Obj.AIR_EVENT_CTRL_DISPATCH_ENABLE = true → a.arg.testBit 15 = true → s.sec.extest = false → s.msix.fnMasked.contains 0 = false
    → s.msix.unmasked.contains (vecKey 0 (a.arg % 1024)) = true → ∃ t, exec (.hostEvent) s = .next t ∧ t.time.fifo = l ∧ t.get
    Obj.AIR_EVENT_CTRL_LAST_FIRED = a.entry ∧ Occurred s t 0x1002 uMGMT (packArg [(16, a.entry)]) ∧ t.sent = .msix 0 (a.arg % 1024) ::
    s.sent ∧ Frame (keysAndEvents [Obj.AIR_EVENT_CTRL_LAST_FIRED]) noKey (.time :: .sent :: eventParts) s t) ∧
  (∀ (s : State) (a : AirAction) (l : List AirAction), s.Canonical → s.time.fifo = a :: l → a.action = 2 → a.due ≤ s.time.tai → s.CoreOn →
    s.on Obj.AIR_EVENT_CTRL_DISPATCH_ENABLE = true → a.target < 16 → s.on (Obj.SCHED_LANE_SL_ENABLE a.target) = true →
    s.fab.switching.contains a.target = false → ∃ t, exec (.pageSwitch) s = .next t ∧ t.time.fifo = l ∧ t.get
    Obj.AIR_EVENT_CTRL_LAST_FIRED = a.entry ∧ t.fab.switching = a.target :: s.fab.switching ∧ Frame (keysOf
    [Obj.AIR_EVENT_CTRL_LAST_FIRED]) noKey [.time, .fab] s t) ∧
  (∀ (s : State) (a : AirAction) (l : List AirAction), s.Canonical → s.time.fifo = a :: l → a.action = 2 → a.due ≤ s.time.tai → s.CoreOn →
    s.on Obj.AIR_EVENT_CTRL_DISPATCH_ENABLE = true → a.target < 16 → s.on (Obj.SCHED_LANE_SL_ENABLE a.target) = true →
    s.fab.switching.contains a.target = true → ∃ t, exec (.pageSwitch) s = .next t ∧ t.time.fifo = l ∧ t.get
    (Obj.SCHED_LANE_SWITCH_MERGED a.target) = wrapAdd 64 (s.get (Obj.SCHED_LANE_SWITCH_MERGED a.target)) 1 ∧ Frame (keysOf
    [Obj.AIR_EVENT_CTRL_LAST_FIRED, Obj.SCHED_LANE_SWITCH_MERGED a.target]) noKey [.time] s t) ∧
  (∀ (s : State) (a : AirAction) (l : List AirAction), s.Canonical → s.time.fifo = a :: l → a.action = 2 → a.due ≤ s.time.tai → s.CoreOn →
    s.on Obj.AIR_EVENT_CTRL_DISPATCH_ENABLE = true → a.target < 16 → s.on (Obj.SCHED_LANE_SL_ENABLE a.target) = false → ∃ t, exec
    (.pageSwitch) s = .next t ∧ t.time.fifo = l ∧ t.get Obj.AIR_EVENT_CTRL_LAST_FIRED = a.entry ∧ Frame (keysOf
    [Obj.AIR_EVENT_CTRL_LAST_FIRED]) noKey [.time] s t)

/-- GATE_CYCLE, SAMPLE_MARKED, PREWAKE, SNAPSHOT and GATE_ENTRY_END: For an action at the front of the FIFO that is due, with
DISPATCH_ENABLE 1 and the core on (the action leaves the FIFO and LAST_FIRED names its entry, where a clause lists it): GATE_CYCLE of a port
adds 1 to CYCLES and takes over GATE_ENABLE and GATED_CLASSES; with ARG bit 0 clear and no window running, the windows and the end of the
cycle are those of the active bank's list; with ARG bit 0 set, a list in the other bank and no swap at this instant yet, the banks swap,
SWAPS rises by 1, one E-4045 occurs and the windows are those of the new active bank. SAMPLE_MARKED with a valid marked queue moves
LOG_INDEX on by their number, mod 2^21. PREWAKE with ARG 3 and no part deeper than 3 adds 1 to the client's PREWAKES and changes no part but
the request it notes of this instant; of a client of the TX groups with one part deeper than ARG, at rest, it holds the part no deeper than
ARG for PREWAKE_HOLD_NS, starts its wake and adds 1 to PREWAKES. SNAPSHOT takes the snapshot of its group with cause 1. GATE_ENTRY_END with
the core on sets ACTIVE_ENTRY to the entry that activeEntry finds at the timebase. Rests on (parts of) R215, R241 to R243, R284, R505. Where
these rules leave the point open it states the model's choice: log entries 14, 15, 24, 183, 209, 227. -/
def Obligations.TimedActionsTakeEffect : Prop :=
  (∀ (s : State) (a : AirAction) (l : List AirAction), s.Canonical → s.time.fifo = a :: l → a.action = 1 → a.due ≤ s.time.tai → s.CoreOn →
    s.on Obj.AIR_EVENT_CTRL_DISPATCH_ENABLE = true → a.target < 136 → ∃ t, exec (.gateCycle) s = .next t ∧ t.time.fifo = l ∧ t.get
    Obj.AIR_EVENT_CTRL_LAST_FIRED = a.entry ∧ t.get (Obj.PORT_TIMING_CYCLES a.target) = wrapAdd 64 (s.get (Obj.PORT_TIMING_CYCLES
    a.target)) 1 ∧ (t.gate a.target).enable = s.on (Obj.PORT_TIMING_GATE_ENABLE a.target) ∧ (t.gate a.target).gated = s.get
    (Obj.PORT_TIMING_GATED_CLASSES a.target) ∧ Frame (keysAndEvents [Obj.AIR_EVENT_CTRL_LAST_FIRED, Obj.PORT_TIMING_CYCLES a.target,
    Obj.PORT_TIMING_CYCLE_OVERRUNS a.target, Obj.PORT_TIMING_ACTIVE_BANK a.target, Obj.PORT_TIMING_SWAPS a.target,
    Obj.PORT_TIMING_SWAP_REFUSED a.target]) noKey (.time :: .sched :: eventParts) s t) ∧
  (∀ (s : State) (a : AirAction) (l : List AirAction), s.Canonical → s.time.fifo = a :: l → a.action = 1 → a.due ≤ s.time.tai → s.CoreOn →
    s.on Obj.AIR_EVENT_CTRL_DISPATCH_ENABLE = true → a.target < 136 → a.arg % 2 = 0 → (s.gate a.target).windows = [] → ∃ t, exec
    (.gateCycle) s = .next t ∧ t.get (Obj.PORT_TIMING_CYCLES a.target) = wrapAdd 64 (s.get (Obj.PORT_TIMING_CYCLES a.target)) 1 ∧
    ((t.gate a.target).windows, (t.gate a.target).last) = s.cycleWindows a.target (s.get (Obj.PORT_TIMING_ACTIVE_BANK a.target)) (s.mu
    a.clock) (s.epoch a.clock) (14 * (airPosition (s.mu a.clock) (s.epoch a.clock) ((a.due : Int) - Fld.AIR_OFFSET.getS
    a.image).toNat).absSlot + Fld.AIR_SYMBOL.get a.image : Int) (Fld.AIR_OFFSET.getS a.image) a.due ∧ (t.gate a.target).broken = (s.gate
    a.target).broken ∧ Frame (keysOf [Obj.AIR_EVENT_CTRL_LAST_FIRED, Obj.PORT_TIMING_CYCLES a.target]) noKey [.time, .sched] s t) ∧
  (∀ (s : State) (a : AirAction) (l : List AirAction), s.Canonical → s.time.fifo = a :: l → a.action = 1 → a.due ≤ s.time.tai → s.CoreOn →
    s.on Obj.AIR_EVENT_CTRL_DISPATCH_ENABLE = true → a.target < 136 → a.arg % 2 = 1 → (s.gate a.target).windows = [] → s.get
    (Obj.PORT_TIMING_COUNT_B a.target (1 - s.get (Obj.PORT_TIMING_ACTIVE_BANK a.target))) ≠ 0 → (s.gate a.target).swapped ≠ some a.due →
    ∃ t, exec (.gateCycle) s = .next t ∧ t.get (Obj.PORT_TIMING_ACTIVE_BANK a.target) = 1 - s.get (Obj.PORT_TIMING_ACTIVE_BANK a.target)
    ∧ t.get (Obj.PORT_TIMING_SWAPS a.target) = wrapAdd 64 (s.get (Obj.PORT_TIMING_SWAPS a.target)) 1 ∧ Occurred s t 0x4045 (uSlice
    a.target) 0 a.target ∧ ((t.gate a.target).windows, (t.gate a.target).last) = s.cycleWindows a.target (1 - s.get
    (Obj.PORT_TIMING_ACTIVE_BANK a.target)) (s.mu a.clock) (s.epoch a.clock) (14 * (airPosition (s.mu a.clock) (s.epoch a.clock) ((a.due
    : Int) - Fld.AIR_OFFSET.getS a.image).toNat).absSlot + Fld.AIR_SYMBOL.get a.image : Int) (Fld.AIR_OFFSET.getS a.image) a.due ∧
    (t.gate a.target).broken = false ∧ Frame (keysAndEvents [Obj.AIR_EVENT_CTRL_LAST_FIRED, Obj.PORT_TIMING_CYCLES a.target,
    Obj.PORT_TIMING_ACTIVE_BANK a.target, Obj.PORT_TIMING_SWAPS a.target]) noKey (.time :: .sched :: eventParts) s t) ∧
  (∀ (s : State) (a : AirAction) (l : List AirAction), s.Canonical → s.time.fifo = a :: l → a.action = 3 → a.due ≤ s.time.tai → s.CoreOn →
    s.on Obj.AIR_EVENT_CTRL_DISPATCH_ENABLE = true → (((s.domEntries Dom.MARKED_QUEUES).filter fun e => Nat.beq (Fld.MQ_VALID.get e.2)
    1) ≠ []) → ∃ t, exec (.sampleMarked) s = .next t ∧ t.time.fifo = l ∧ t.get Obj.AIR_EVENT_CTRL_LAST_FIRED = a.entry ∧ (t.get
    Obj.QUEUE_SAMPLING_LOG_INDEX = (s.get Obj.QUEUE_SAMPLING_LOG_INDEX + ((s.domEntries Dom.MARKED_QUEUES).filter fun e => Nat.beq
    (Fld.MQ_VALID.get e.2) 1).length) % 2 ^ 21) ∧ Frame (keysAndEvents [Obj.AIR_EVENT_CTRL_LAST_FIRED, Obj.QUEUE_SAMPLING_LOG_INDEX,
    Obj.QUEUE_SAMPLING_LOG_WRAPS]) (fun k => Nat.beq (domOf k) Dom.QUEUE_SAMPLES || Nat.beq (domOf k) Dom.MARKED_LOG) (.time :: .sched
    :: eventParts) s t) ∧
  (∀ (s : State) (a : AirAction) (l : List AirAction), s.Canonical → s.time.fifo = a :: l → a.action = 5 → a.due ≤ s.time.tai → s.CoreOn →
    s.on Obj.AIR_EVENT_CTRL_DISPATCH_ENABLE = true → a.target < 144 → s.isClient a.target = true → a.arg = 3 → ((∀ e ∈ s.pw.parts,
    e.2.state ≤ 3 ∧ (e.2.entering.map (·.1)).getD 0 ≤ 3)) → ∃ t, exec (.prewake) s = .next t ∧ t.time.fifo = l ∧ t.get
    (Obj.POWER_CLIENT_PREWAKES a.target) = wrapAdd 64 (s.get (Obj.POWER_CLIENT_PREWAKES a.target)) 1 ∧ t.pw = { s.pw with parts := t.pw.parts }
    ∧ (∀ c, c < 144 → ∀ i, i < 7 → { t.part c i with asked := none } = { s.part c i with asked := none }) ∧ Frame (keysOf
    [Obj.AIR_EVENT_CTRL_LAST_FIRED, Obj.POWER_CLIENT_PREWAKES a.target]) noKey [.time, .pw] s t) ∧
  (∀ (s : State) (a : AirAction) (l : List AirAction), s.time.fifo = a :: l → a.action = 6 → a.due ≤ s.time.tai → s.CoreOn → s.on
    Obj.AIR_EVENT_CTRL_DISPATCH_ENABLE = true → a.target < 16 → exec (.snapshot) s = .next ((s.fire 6).2.snapshot a.target 1)) ∧
  (∀ (s : State) (p : Fin 136), s.Canonical → s.CoreOn → ∃ t, exec (.gateEntryEnd p) s = .next t ∧ t.get (Obj.PORT_TIMING_ACTIVE_ENTRY p) =
    s.activeEntry p s.time.tai ∧ Frame (keysOf [Obj.PORT_TIMING_ACTIVE_ENTRY p]) noKey [] s t) ∧
  (∀ (s : State) (a : AirAction) (l : List AirAction) (p : PowerPart), s.Canonical → s.time.fifo = a :: l → a.action = 5 → a.due ≤
    s.time.tai → s.CoreOn → s.on Obj.AIR_EVENT_CTRL_DISPATCH_ENABLE = true → 136 ≤ a.target → a.target < 144 → s.part a.target 0 = p →
    a.arg < p.state → p.state ≤ 3 → p.entering = none → p.waking = none → p.blocked = false → p.holdUntil = 0 → ∃ t, exec (.prewake) s =
    .next t ∧ t.pw.parts = Table.put partRun (Table.put partRun s.pw.parts (8 * a.target) { p with holdUntil := s.time.now + s.get (Obj.POWER_CLIENT_PREWAKE_HOLD_NS a.target), holdLevel := a.arg })
    (8 * a.target) { p with holdUntil := s.time.now + s.get (Obj.POWER_CLIENT_PREWAKE_HOLD_NS a.target), holdLevel := a.arg, waking := some (s.time.now + wakeNs .fabricGroup p.state) }
    ∧ t.get (Obj.POWER_CLIENT_PREWAKES a.target) = wrapAdd 64 (s.get (Obj.POWER_CLIENT_PREWAKES a.target)) 1 ∧ Frame (keysAndEvents
    [Obj.AIR_EVENT_CTRL_LAST_FIRED, Obj.POWER_CLIENT_PREWAKES a.target, Obj.POWER_CLIENT_LATE_WAKES a.target]) noKey (.time :: .pw ::
    eventParts) s t)

/-- BIN_BOUNDARY, DAY_OFFSET, PM_SECOND and PM_BIN_FINAL: With the core on: BIN_BOUNDARY as the timebase reaches a second that starts a
15-minute bin and at which no day opens (dayOpens), with no group on ON_BIN, notes the instant, sets BIN_START to the second and starts
record 0 of every fabric lane's history, VALID and from that second; an accepted DAY_OFFSET is stored, starts both current bins of the clock
and records 0 and 33 of every lane at the present time, leaves the clock's SUSPECT 0 and is answered OK. PM_SECOND with a second that is
neither the one last taken nor the next restarts the lane's second without counting; of a lane on through the whole second it opens the next
second and adds the second's defects, FEC symbols and availability to the bins, then tests the thresholds; of a lane that was off in it, it
opens the next second and marks the record suspect. PM_BIN_FINAL of the one closed bin, 10 s or more after its close, takes it from the list
and makes it final. Rests on (parts of) R44, R45, R340 to R342. Where these rules leave the point open it states the model's choice: log
entries 73, 212, 216. -/
def Obligations.PerformanceBinsClose : Prop :=
  (∀ (s : State), s.Canonical → s.CoreOn → ((s.time.tai / nsPerS : Nat) - (s.get Obj.PERF_BIN_CLOCK_DAY_OFFSET : Nat) : Int) % 900 = 0 →
    s.dayOpens (s.time.tai / nsPerS) = none → s.reached (s.time.tai / nsPerS * nsPerS : Nat) = true → s.time.lastBin ≠ some s.time.now →
    (((List.range 16).all fun g => !s.on (Obj.SNAPSHOT_GROUP_ON_BIN g)) = true) → ∃ t, exec (.binBoundary) s = .next t ∧ t.get
    Obj.PERF_BIN_CLOCK_BIN_START = time80 (s.time.tai / nsPerS * nsPerS) ∧ t.time.lastBin = some s.time.now ∧ (∀ n ∈ List.range 160,
    t.dom Dom.PM_HISTORY (pmIndex n 0) = Fld.PMH_VALID.set (Fld.PMH_START.set 0 (time80 (s.time.tai / nsPerS * nsPerS))) 1) ∧ Frame
    (keysAndEvents [Obj.PERF_BIN_CLOCK_BIN_START, Obj.PERF_BIN_CLOCK_SUSPECT]) (fun k => Nat.beq (domOf k) Dom.PM_HISTORY) (.time ::
    .fab :: eventParts) s t) ∧
  (∀ (s : State) (m v : Nat), s.Canonical → s.Accepts m Obj.PERF_BIN_CLOCK_DAY_OFFSET v → s.sec.fusing = none → ∃ t, exec (.dayOffset m v)
    s = .next t ∧ t.get Obj.PERF_BIN_CLOCK_DAY_OFFSET = v ∧ t.get Obj.PERF_BIN_CLOCK_BIN_START = time80 s.timeNow ∧ t.get
    Obj.PERF_BIN_CLOCK_DAY_START = time80 s.timeNow ∧ t.get Obj.PERF_BIN_CLOCK_SUSPECT = 0 ∧ (∀ n ∈ List.range 160, t.dom Dom.PM_HISTORY
    (pmIndex n 0) = Fld.PMH_VALID.set (Fld.PMH_START.set 0 (time80 s.timeNow)) 1 ∧ t.dom Dom.PM_HISTORY (pmIndex n 33) =
    Fld.PMH_VALID.set (Fld.PMH_START.set 0 (time80 s.timeNow)) 1) ∧ t.Answered m Obj.PERF_BIN_CLOCK_DAY_OFFSET .ok ∧ Frame
    (keysAndEvents [Obj.PERF_BIN_CLOCK_DAY_OFFSET, Obj.PERF_BIN_CLOCK_BIN_START, Obj.PERF_BIN_CLOCK_DAY_START,
    Obj.PERF_BIN_CLOCK_SUSPECT]) (fun k => Nat.beq (domOf k) Dom.PM_HISTORY) (.time :: .fab :: .pair :: .dict :: .sent :: eventParts) s
    t) ∧
  (∀ (s : State) (n : FabricLane), s.CoreOn → s.time.tai / nsPerS ≠ (s.fl n).pm.sec → s.time.tai / nsPerS ≠ (s.fl n).pm.sec + 1 → exec
    (.pmSecond n) s = .next (s.setFl n { s.fl n with pm := { (s.fl n).pm with sec := s.time.tai / nsPerS, eb := 0, symbols := 0, uncorr := 0, defects := s.get (Obj.FABRIC_LANE_DEFECTS n), seeded := s.get (Obj.FABRIC_LANE_DEFECTS n), off := !s.on (Obj.FABRIC_LANE_FL_ENABLE n), run := [] } })) ∧
  (∀ (s : State) (n : FabricLane), s.CoreOn → s.time.tai / nsPerS = (s.fl n).pm.sec + 1 → (s.fl n).pm.off = false → exec (.pmSecond n) s =
    .next (((((s.pmOpen n).setFl n { s.fl n with pm := { (s.fl n).pm with sec := s.time.tai / nsPerS, eb := 0, symbols := 0, uncorr := 0, defects := s.get (Obj.FABRIC_LANE_DEFECTS n), seeded := s.get (Obj.FABRIC_LANE_DEFECTS n), off := !s.on (Obj.FABRIC_LANE_FL_ENABLE n) } }).pmAdd
    n (s.fl n).pm.sec [(Fld.PMH_LOS_S, ofBool ((s.fl n).pm.defects.testBit 0)), (Fld.PMH_LOF_S, ofBool ((s.fl n).pm.defects.testBit 1)),
    (Fld.PMH_AIS_S, ofBool ((s.fl n).pm.defects.testBit 2)), (Fld.PMH_RDI_S, ofBool ((s.fl n).pm.defects.testBit 3)), (Fld.PMH_TIM_S,
    ofBool ((s.fl n).pm.defects.testBit 4)), (Fld.PMH_FEC_SYMBOLS, (s.fl n).pm.symbols), (Fld.PMH_FEC_UNCORR, (s.fl
    n).pm.uncorr)]).pmAvail n (s.fl n).pm.sec (s.fl n).pm.eb (!Nat.beq (Nat.land (s.fl n).pm.defects 0x17) 0 || Nat.ble (s.get
    Obj.LINK_PM_SES_BLOCKS) (s.fl n).pm.eb)).pmThresholds n)) ∧
  (∀ (s : State) (n : FabricLane), s.CoreOn → s.time.tai / nsPerS = (s.fl n).pm.sec + 1 → (s.fl n).pm.off = true → exec (.pmSecond n) s =
    .next (((s.pmOpen n).setFl n { s.fl n with pm := { (s.fl n).pm with sec := s.time.tai / nsPerS, eb := 0, symbols := 0, uncorr := 0, defects := s.get (Obj.FABRIC_LANE_DEFECTS n), seeded := s.get (Obj.FABRIC_LANE_DEFECTS n), off := !s.on (Obj.FABRIC_LANE_FL_ENABLE n), run := [] } }).pmChange
    n (s.fl n).pm.sec fun image => Fld.PMH_SUSPECT.set image 1)) ∧
  (∀ (s : State) (n : FabricLane) (c : PmClosed), s.CoreOn → (s.fl n).pm.closing = [c] → c.at' + 10 * nsPerS ≤ s.time.now → exec
    (.pmBinFinal n) s = .next ((s.setFl n { s.fl n with pm := { (s.fl n).pm with closing := [] } }).pmFinal n c))

/-- ACTIVE_BANK, RESTORE_DEFAULT, the key profile slots and COMMIT: Where the write passes the shared checks (State.Accepts) and no fuse is
being blown, each answered OK unless said otherwise: a new ACTIVE_BANK is stored and adds 1 to BANK_SWITCHES; RESTORE_DEFAULT of a bank that
is not active sets every one of its 256 states and 2,048 transitions to the default graph's, and of the active bank is BUSY, changing only
the access status; SLOTS_LO or SLOTS_HI of a key profile that no enabled TCAM table uses, naming fields that exist with at most 320 bits in
all, is stored, and WIDTH becomes the profile's width; COMMIT takes the pending count and roots of its tree set over and adds 1 to
GENERATION. Rests on (parts of) R59, R60, R65, R71. Where these rules leave the point open it states the model's choice: log entries 8, 9.
-/
def Obligations.ParserWritesTakeEffect : Prop :=
  (∀ (s : State) (m v : Nat), s.Canonical → s.Accepts m Obj.PARSER_CTRL_ACTIVE_BANK v → v ≠ s.get Obj.PARSER_CTRL_ACTIVE_BANK →
    s.sec.fusing = none → ∃ t, exec (.activeBank m v) s = .next t ∧ t.get Obj.PARSER_CTRL_ACTIVE_BANK = v ∧ t.get
    Obj.PARSER_CTRL_BANK_SWITCHES = wrapAdd 32 (s.get Obj.PARSER_CTRL_BANK_SWITCHES) 1 ∧ t.Answered m Obj.PARSER_CTRL_ACTIVE_BANK .ok ∧
    Frame (keysOf [Obj.PARSER_CTRL_ACTIVE_BANK, Obj.PARSER_CTRL_BANK_SWITCHES]) noKey [.pair, .dict, .sent] s t) ∧
  (∀ (s : State) (i : Fin 256) (j : Fin 2048) (m v : Nat), s.Canonical → s.Accepts m Obj.PARSER_CTRL_RESTORE_DEFAULT v → v < 2 → v ≠ s.get
    Obj.PARSER_CTRL_ACTIVE_BANK → s.sec.fusing = none → ∃ t, exec (.restoreDefault m v) s = .next t ∧ t.dom Dom.PARSE_GRAPH (256 * v +
    i) = parseDefaultState i ∧ t.dom Dom.PARSE_TRANSITIONS (2048 * v + j) = parseDefaultTransition j ∧ t.Answered m
    Obj.PARSER_CTRL_RESTORE_DEFAULT .ok ∧ Frame noKey (fun k => Nat.beq (domOf k) Dom.PARSE_GRAPH || Nat.beq (domOf k)
    Dom.PARSE_TRANSITIONS) [.parse, .pair, .dict, .sent] s t) ∧
  (∀ (s : State) (m v : Nat), s.Canonical → s.Accepts m Obj.PARSER_CTRL_RESTORE_DEFAULT v → v = s.get Obj.PARSER_CTRL_ACTIVE_BANK →
    s.sec.fusing = none → ∃ t, exec (.restoreDefault m v) s = .next t ∧ t.Answered m Obj.PARSER_CTRL_RESTORE_DEFAULT .busy ∧ Frame
    (keysOf [Obj.ACCESS_STATUS_LAST_STATUS m, Obj.ACCESS_STATUS_LAST_OBJECT m, Obj.ACCESS_STATUS_REFUSED m]) noKey [.sent] s t) ∧
  (∀ (s : State) (n : Fin 64) (m v : Nat), s.Canonical → s.Accepts m (Obj.KEY_PROFILE_SLOTS_LO n) v → ((profileFields v (s.get
    (Obj.KEY_PROFILE_SLOTS_HI n))).any (fun id => Nat.beq (fieldWidth id) 0) = false) → profileWidth (profileFields v (s.get
    (Obj.KEY_PROFILE_SLOTS_HI n))) ≤ 320 → (((List.range 4).any fun k => s.on (Obj.TCAM_TABLE_ENABLE k) && Nat.beq (s.get
    (Obj.TCAM_TABLE_KEY_PROFILE k)) n) = false) → s.sec.fusing = none → ∃ t, exec (.keyProfileSlots n false m v) s = .next t ∧ t.get
    (Obj.KEY_PROFILE_SLOTS_LO n) = v ∧ t.get (Obj.KEY_PROFILE_WIDTH n) = profileWidth (profileFields v (s.get (Obj.KEY_PROFILE_SLOTS_HI
    n))) ∧ t.Answered m (Obj.KEY_PROFILE_SLOTS_LO n) .ok ∧ Frame (keysOf [Obj.KEY_PROFILE_SLOTS_LO n, Obj.KEY_PROFILE_WIDTH n]) noKey
    [.parse, .pair, .dict, .sent] s t) ∧
  (∀ (s : State) (n : Fin 64) (m v : Nat), s.Canonical → s.Accepts m (Obj.KEY_PROFILE_SLOTS_HI n) v → ((profileFields (s.get
    (Obj.KEY_PROFILE_SLOTS_LO n)) v).any (fun id => Nat.beq (fieldWidth id) 0) = false) → profileWidth (profileFields (s.get
    (Obj.KEY_PROFILE_SLOTS_LO n)) v) ≤ 320 → (((List.range 4).any fun k => s.on (Obj.TCAM_TABLE_ENABLE k) && Nat.beq (s.get
    (Obj.TCAM_TABLE_KEY_PROFILE k)) n) = false) → s.sec.fusing = none → ∃ t, exec (.keyProfileSlots n true m v) s = .next t ∧ t.get
    (Obj.KEY_PROFILE_SLOTS_HI n) = v ∧ t.get (Obj.KEY_PROFILE_WIDTH n) = profileWidth (profileFields (s.get (Obj.KEY_PROFILE_SLOTS_LO
    n)) v) ∧ t.Answered m (Obj.KEY_PROFILE_SLOTS_HI n) .ok ∧ Frame (keysOf [Obj.KEY_PROFILE_SLOTS_HI n, Obj.KEY_PROFILE_WIDTH n]) noKey
    [.parse, .pair, .dict, .sent] s t) ∧
  (∀ (s : State) (n : Fin 16) (m v : Nat), s.Canonical → s.Accepts m (Obj.TREE_SET_COMMIT n) v → s.sec.fusing = none → ∃ t, exec (.commit n
    m v) s = .next t ∧ (t.parse.roots = Table.put (fun _ => []) s.parse.roots n ((List.range (s.get (Obj.TREE_SET_TREES n))).map fun k
    => s.get (Obj.TREE_SET_ROOT n k))) ∧ t.get (Obj.TREE_SET_GENERATION n) = wrapAdd 32 (s.get (Obj.TREE_SET_GENERATION n)) 1 ∧
    t.Answered m (Obj.TREE_SET_COMMIT n) .ok ∧ Frame (keysOf [Obj.TREE_SET_GENERATION n]) noKey [.parse, .pair, .dict, .sent] s t)

/-- Learning, stamps, ageing and configuration of an exact-match table: With the core on: LEARN, with no job of the table older than its
oldest request, takes that request and runs learnOne on it; LEARN_STASH_DRAIN of a ring with bound tables marks its stash as draining at the
instant's end; the drain then, with room in a ring not in ERROR, takes the oldest entry and shows what is left, and with at most 32 left
clears PAUSED of a table that this ring had paused. STAMP_TICK when due adds 1 to STAMP_NOW, sets the next tick one STAMP_UNIT on and
starts, notes or ends the ager's pass; an accepted STAMP_UNIT is stored, moves the next tick to one new unit after the write and is answered
OK. AGER_READ of an ageing table not paused adds the bucket's old locked entries to DEFERRALS, queues its other old entries for deletion and
moves on to the next bucket or ends the pass; AGER_COMPARE_DELETE of a table not paused puts the oldest queued deletion to the bank ports.
At the instant's end the only one put so, its entry's key and stamp unchanged, not locked, in an enabled table of a device not STANDBY,
deletes it, adds 1 to AGED, journals it and reports it as AGED; with another key or stamp or a lock it is dropped. Accepted ENABLE 1 with a
bank run that overlaps no enabled table, lies within the 615 banks and is not wide for kind L2 enables the table with its choice register
0xACE1, ENABLE 0 disables it and ends the ager's pass; WIDTH, BANK_FIRST, BANK_COUNT, SEED1 or SEED2 of a disabled table, with no slow write
of it running, is stored, clears the table's entries and their three counts and runs on as a slow write; of an enabled table it is BUSY.
Rests on (parts of) R94, R97, R99, R102, R104, R107, R376. Where these rules leave the point open it states the model's choice: log entries
11, 46, 54, 218, 225. -/
def Obligations.ExactMatchEngineWorks : Prop :=
  (∀ (s : State) (n : EmTable) (r : LearnReq) (l : List LearnReq), s.CoreOn → (s.emt n).learn = r :: l → s.jobBefore (some (0, n.val))
    r.seq = false → exec (.learn n) s = .next ((s.setEmt n { s.emt n with learn := l }).learnOne n r.key r.loc)) ∧
  (∀ (s : State) (c : Fin 1024), s.CoreOn → s.boundTables c ≠ [] → exec (.learnStashDrain c) s = .next (s.setCq c { s.cq c with draining := true })) ∧
  (∀ (s : State) (c : Nat) (e : CqEntry) (l : List CqEntry), s.Canonical → (s.cq c).stash = e :: l → 0 < s.cqRoom c → s.get
    (Obj.CQ_CONFIG_CQ_STATE c) ≠ 3 → ((s.drainOne c).cq c).stash = l ∧ (s.drainOne c).get (Obj.CQ_CONFIG_CQ_STASH c) = l.length) ∧
  (∀ (s : State) (c : Nat) (n : EmTable), s.Canonical → (s.cq c).stash.length ≤ 32 → (s.emt n).pausedBy = some c → (s.drainEnd c).get
    (Obj.EM_TABLE_PAUSED n) = 0 ∧ ((s.drainEnd c).emt n).pausedBy = none) ∧
  (∀ (s : State) (n : EmTable) (w : Nat), s.Canonical → s.CoreOn → (s.emt n).nextTick = some w → w ≤ s.time.now → ∃ t, exec (.stampTick n)
    s = .next t ∧ t.get (Obj.EM_TABLE_STAMP_NOW n) = (s.get (Obj.EM_TABLE_STAMP_NOW n) + 1) % 65536 ∧ (t.tab.emt = Table.put emEmpty
    s.tab.emt n (if s.ageing n then { s.emt n with nextTick := some (w + 1000 * s.get (Obj.EM_TABLE_STAMP_UNIT n)), ager := some ((s.emt n).ager.getD 0), agerTick := (s.emt n).ager.isSome || (s.emt n).agerTick }
    else { s.emt n with nextTick := some (w + 1000 * s.get (Obj.EM_TABLE_STAMP_UNIT n)), ager := none, agerTick := false })) ∧ Frame
    (keysOf [Obj.EM_TABLE_STAMP_NOW n]) noKey [.tab] s t) ∧
  (∀ (s : State) (n : EmTable) (m v : Nat), s.Canonical → s.Accepts m (Obj.EM_TABLE_STAMP_UNIT n) v → s.sec.fusing = none → ∃ t, exec
    (.stampUnit n m v) s = .next t ∧ t.get (Obj.EM_TABLE_STAMP_UNIT n) = v ∧ (t.tab.emt = Table.put emEmpty s.tab.emt n { s.emt n with nextTick := (s.emt n).nextTick.map fun _ => s.time.now + 1000 * v })
    ∧ t.Answered m (Obj.EM_TABLE_STAMP_UNIT n) .ok ∧ Frame (keysOf [Obj.EM_TABLE_STAMP_UNIT n]) noKey [.tab, .pair, .dict, .sent] s t) ∧
  (∀ (s : State) (n : EmTable) (b : Nat), s.Canonical → s.CoreOn → s.ageing n = true → s.on (Obj.EM_TABLE_PAUSED n) = false → (s.emt
    n).ager = some b → ∃ t, exec (.agerRead n) s = .next t ∧ (t.get (Obj.EM_TABLE_DEFERRALS n) = wrapAdd 64 (s.get
    (Obj.EM_TABLE_DEFERRALS n)) ((s.agedIn n b).filter fun x => x.2.lock).length) ∧ (t.tab.emt = Table.put emEmpty s.tab.emt n { s.emt n with deletes := (s.emt n).deletes ++ ((s.agedIn n b).filter fun x => !x.2.lock).map fun x => ⟨x.1, x.2.key, x.2.stamp⟩, ager := if s.emBuckets n ≤ b + 1 then (if (s.emt n).agerTick then some 0 else none) else some (b + 1), agerTick := (s.emt n).agerTick && !Nat.ble (s.emBuckets n) (b + 1) })
    ∧ Frame (keysOf [Obj.EM_TABLE_DEFERRALS n]) noKey [.tab] s t) ∧
  (∀ (s : State) (n : EmTable) (d : AgeDelete) (l : List AgeDelete), s.CoreOn → s.on (Obj.EM_TABLE_PAUSED n) = false → (s.emt n).deletes =
    d :: l → exec (.agerCompareDelete n) s = .next ((s.setEmt n { s.emt n with deletes := l }).withTab { (s.setEmt n { s.emt n with deletes := l }).tab with ageDue := s.tab.ageDue ++ [(n.val, d)] })) ∧
  (∀ (s : State) (n : EmTable) (d : AgeDelete) (x : EmEntry), s.tab.ageDue = [(n.val, d)] → s.on (Obj.EM_TABLE_PAUSED n) = false → s.emAt n
    d.index = some x → x.key = d.key → x.stamp = d.stamp → x.lock = false → s.isStandby = false → s.on (Obj.EM_TABLE_ENABLE n) = true →
    s.ageDeletes = ((((s.withTab { s.tab with ageDue := [] }).emPut n d.index none).bump (Obj.EM_TABLE_AGED n)).journal (.emDel n
    x.key)).learnEvent n 2 d.index false x.key x.result ((s.withTab { s.tab with ageDue := [] }).removedData n x)) ∧
  (∀ (s : State) (n : EmTable) (d : AgeDelete) (x : EmEntry), s.tab.ageDue = [(n.val, d)] → s.on (Obj.EM_TABLE_PAUSED n) = false → s.emAt n
    d.index = some x → (x.key ≠ d.key ∨ x.stamp ≠ d.stamp ∨ x.lock = true) → s.ageDeletes = s.withTab { s.tab with ageDue := [] }) ∧
  (∀ (s : State) (n : EmTable) (m v : Nat), s.Canonical → s.Accepts m (Obj.EM_TABLE_ENABLE n) v → v = 1 → s.emOverlap n = false → s.get
    (Obj.EM_TABLE_BANK_FIRST n) + s.get (Obj.EM_TABLE_BANK_COUNT n) ≤ 615 → ¬ (s.get (Obj.EM_TABLE_KIND n) = 2 ∧ s.emWide n = true) →
    s.sec.fusing = none → ∃ t, exec (.emTableEnable n m v) s = .next t ∧ t.get (Obj.EM_TABLE_ENABLE n) = 1 ∧ t.tab.emt = Table.put
    emEmpty s.tab.emt n { s.emt n with lfsr := 0xACE1 } ∧ t.Answered m (Obj.EM_TABLE_ENABLE n) .ok ∧ Frame (keysOf [Obj.EM_TABLE_ENABLE
    n]) noKey [.tab, .pair, .dict, .sent] s t) ∧
  (∀ (s : State) (n : EmTable) (m v : Nat), s.Canonical → s.Accepts m (Obj.EM_TABLE_ENABLE n) v → v = 0 → s.sec.fusing = none → ∃ t, exec
    (.emTableEnable n m v) s = .next t ∧ t.get (Obj.EM_TABLE_ENABLE n) = 0 ∧ t.tab.emt = Table.put emEmpty s.tab.emt n { s.emt n with ager := none, agerTick := false }
    ∧ t.Answered m (Obj.EM_TABLE_ENABLE n) .ok ∧ Frame (keysOf [Obj.EM_TABLE_ENABLE n]) noKey [.tab, .pair, .dict, .sent] s t) ∧
  (∀ (s : State) (n : EmTable) (f : Fin 5) (m v : Nat), s.Canonical → s.Accepts m (objKey 0 (0x3310 + n.val) (3 + f.val)) v → s.slowRuns m
    (objKey 0 (0x3310 + n.val) (3 + f.val)) = false → s.on (Obj.EM_TABLE_ENABLE n) = false → s.sec.fusing = none → ∃ t, exec
    (.emTableGeometry n f m v) s = .next t ∧ t.get (objKey 0 (0x3310 + n.val) (3 + f.val)) = v ∧ (t.tab.em = Table.keep (fun k =>
    !(Nat.beq (k / 2 ^ 24) n)) s.tab.em) ∧ t.get (Obj.EM_TABLE_ENTRIES n) = 0 ∧ t.get (Obj.EM_TABLE_LOCKED n) = 0 ∧ t.get
    (Obj.EM_TABLE_STATIC n) = 0 ∧ (t.dict.slow = ⟨m, objKey 0 (0x3310 + n.val) (3 + f.val), if pathOf m = .window then .window else
    .direct⟩ :: s.dict.slow) ∧ Frame (keysOf [objKey 0 (0x3310 + n.val) (3 + f.val), Obj.EM_TABLE_ENTRIES n, Obj.EM_TABLE_LOCKED n,
    Obj.EM_TABLE_STATIC n, Obj.ACCESS_STATUS_PENDING m]) noKey [.tab, .dict, .pair, .sent] s t) ∧
  (∀ (s : State) (n : EmTable) (f : Fin 5) (m v : Nat), s.Canonical → s.Accepts m (objKey 0 (0x3310 + n.val) (3 + f.val)) v → s.on
    (Obj.EM_TABLE_ENABLE n) = true → s.sec.fusing = none → ∃ t, exec (.emTableGeometry n f m v) s = .next t ∧ t.Answered m (objKey 0
    (0x3310 + n.val) (3 + f.val)) .busy ∧ Frame (keysOf [Obj.ACCESS_STATUS_LAST_STATUS m, Obj.ACCESS_STATUS_LAST_OBJECT m,
    Obj.ACCESS_STATUS_REFUSED m]) noKey [.sent] s t)

/-- RX_FRAME, INGRESS_PIPELINE and RECIRCULATE: With the core on: RX_FRAME of 64 to MAX_FRAME bytes with good FCS and no code error,
EtherType not 0x8808, at an enabled port not in OFF whose part is not held in reset, with room for MAX_FRAME in its receive buffer as its
first byte came (rxFits), puts the packet at the end of its sector's queue with the instant and the stamp (RX_ASYM subtracted) at which it
began; of the network state only the serial number, that queue and the arrivals and busy spans that the packet rate counts change, of the
objects only the port's and the events' counters. INGRESS_PIPELINE, in a cycle that throttling leaves it, with a packet waiting and an
active pipeline that takes work, takes the oldest packet, notes what it took from the receive buffer, moves the rotation past that pipeline,
applies the given upsets and runs the packet through it. RECIRCULATE of a packet that has made fewer than 3 passes puts it at the end of the
recirculation sector's queue as a packet of record 0x3182 (port and requester 130) with its bytes, times, VRF of POP_VRF and job kept and
one pass more, and lowers OUTSTANDING of port RC; of one that has made 3 it drops it with RECIRC_DROPS and E-3106. Rests on (parts of) R147,
R155, R272, R273, R280, R283. Where these rules leave the point open it states the model's choice: log entries 52, 61, 213, 116. -/
def Obligations.FramesEnterAndArePiped : Prop :=
  (∀ (s : State) (p : LinePort) (f : List Byte) (c y : Nat), s.Canonical → s.CoreOn → s.get (Obj.LINE_PORT_PORT_ENABLE p) = 1 → s.get
    (Obj.LINE_PORT_LINK_STATE p) ≠ 2 → (s.part p 0).blocked = false → 64 ≤ f.length → f.length ≤ s.get (Obj.LINE_PORT_MAX_FRAME p) →
    fcsGood f = true → wordAt f 12 2 ≠ 0x8808 → s.rxFits p f.length = true → ∃ t, exec (.rxFrame p f false c 0 y) s = .next t ∧
    t.net.serial = s.net.serial + 1 ∧ t.net.rx = Table.put noList s.net.rx (p / 16) (Table.get noList s.net.rx (p / 16) ++ [{ id := s.net.serial, bytes := f, inPort := p, requester := p, rxTime := s.frameBegan p f.length / 65536, rxStamp := some ((s.frameBegan p f.length : Int) - signed 32 (s.setting (Obj.LINE_PORT_RX_ASYM p))).toNat }])
    ∧ t.net = { s.net with serial := t.net.serial, rx := t.net.rx, arrivals := t.net.arrivals, busyUntil := t.net.busyUntil } ∧ t.line =
    { s.line with counted := t.line.counted, countedAt := s.time.now } ∧ Frame (fun k => Nat.beq (keyIdx k) (0x2100 + p) || eventObjs k)
    noKey (.net :: .line :: eventParts) s t) ∧
  (∀ (s : State) (n : Fin 8) (u : List Upset) (k : Pkt) (l : List Pkt) (i : Nat) (w : State), s.CoreOn → s.pipesHeld = false → Table.get
    noList s.net.rx n = k :: l → (s.workForTurn n).nextPipe n = some i → w = (s.workForTurn n).workFor (128 + n) i → exec
    (.ingressPipeline n u) s = .next ((forEach u (w.withNet { w.net with rx := Table.put noList w.net.rx n l, rxTaken := ⟨k.inPort, k.bytes.length, s.time.now⟩ :: w.net.rxTaken.filter (fun x => Nat.ble s.time.now (x.at' + 5120)), rotation := Table.put (fun _ => 0) w.net.rotation n ((i + 1) % 4) })
    fun s u => s.upset false u).pipeline n { k with pipe := 4 * n + i })) ∧
  (∀ (s : State) (k : Pkt) (l : List Pkt), s.Canonical → s.CoreOn → s.net.recirc = k :: l → k.pass < 3 → ∃ t, exec (.recirculate) s = .next
    t ∧ t.net.recirc = l ∧ Table.get noList t.net.rx (s.get Obj.RESOLUTION_RECIRC_SECTOR) = Table.get noList s.net.rx (s.get
    Obj.RESOLUTION_RECIRC_SECTOR) ++ [{ id := k.id, bytes := k.bytes, inPort := 130, requester := 130, rxTime := k.rxTime, rxStamp := k.rxStamp, pass := k.pass + 1, recircVrf := k.recircVrf, job := k.job }]
    ∧ t.net = { s.net with recirc := t.net.recirc, rx := t.net.rx, arrivals := t.net.arrivals, busyUntil := t.net.busyUntil } ∧ t.get
    (Obj.SCHED_PORT_OUTSTANDING portRC) = s.get (Obj.SCHED_PORT_OUTSTANDING portRC) - k.out ∧ Frame (keysOf [Obj.SCHED_PORT_OUTSTANDING
    portRC]) noKey [.net] s t) ∧
  (∀ (s : State) (k : Pkt) (l : List Pkt), s.CoreOn → s.net.recirc = k :: l → 3 ≤ k.pass → exec (.recirculate) s = .next (((((s.withNet { s.net with recirc := l }).lessOutstanding
    portRC k.out).bump Obj.RESOLUTION_RECIRC_DROPS).raise 0x3106 (uFS (s.get Obj.RESOLUTION_RECIRC_SECTOR)) 0).dropPacket k))

/-- METER_DECIDE, METER_SWEEP, MC_REPLICATE and the active set of pipelines: With the core on: METER_DECIDE of the packet whose turn it is
(meterTurn), of a pipeline cycle that has ended and with a good FCS, reads the meter and decides by meterPacket: a packet it passes stays in
its place as decided, one it drops leaves the queue, and the packets decided at the front then pass on (passMetered). meterPacket on a sound
meter of the present cycle, where meterDecide answers a colour that is not red or a profile that drops no red, answers the packet with that
colour, writes the meter and counts METERED. METER_SWEEP writes what readMeter answers; of a clean meter and profile, with none written in
the cycle, it refills that meter to the present step and changes nothing else. MC_REPLICATE, with a copy left of the oldest job of a sector
whose replicator takes work and its copy and next-hop entries read intact, the copy VALID and not pruned, and toNextHop answering a packet,
lets that packet cross, keeps the job with one copy fewer and its host job reported once, and drops it from the queue with its last copy.
POOL_ACTIVATE of the lowest pipeline of POOL_MASK that is not active, in mode 1 with the rate above HIGH_PCT of the active pipelines, adds
it; POOL_DEACTIVATE of the highest active one, in mode 1 with more than one active and the rate low for its 10 ms, removes it. Rests on
(parts of) R145, R146, R148, R234, R237, R239, R405. Where these rules leave the point open it states the model's choice: log entries 51,
83, 136, 140, 182, 227. -/
def Obligations.MetersCopiesAndPipelinePool : Prop :=
  (∀ (s : State) (a b : Ecc) (j : Metered) (i : Nat) (o : OldMeter) (u w : State) (p : Pkt), s.CoreOn → meterTurn s.net.metering = some (j,
    i) → j.cycle ≠ pipeCycle s.time.now → j.pkt.fcsBad = false → s.readMeter j.meter a b = (o, u) → u.meterPacket j o = (some p, w) →
    exec (.meterDecide a b) s = .next ((w.withNet { w.net with metering := w.net.metering.take i ++ [{ j with pkt := p, decided := true }] ++ w.net.metering.drop (i + 1) }).passMetered)) ∧
  (∀ (s : State) (a b : Ecc) (j : Metered) (i : Nat) (o : OldMeter) (u w : State), s.CoreOn → meterTurn s.net.metering = some (j, i) →
    j.cycle ≠ pipeCycle s.time.now → j.pkt.fcsBad = false → s.readMeter j.meter a b = (o, u) → u.meterPacket j o = (none, w) → exec
    (.meterDecide a b) s = .next ((w.withNet { w.net with metering := w.net.metering.take i ++ w.net.metering.drop (i + 1) }).passMetered)) ∧
  (∀ (s : State) (j : Metered) (o : OldMeter) (out m2 : Nat), s.Canonical → o.bad = false → s.sched.oldMeters = [] → j.meter < 262144 →
    meterDecide o.profile o.entry j.pkt.bytes.length j.pkt.colour = (out, m2) → (out ≠ 2 ∨ Fld.MP_RED_DROP.get o.profile = 0) →
    (s.meterPacket j o).1 = some { j.pkt with colour := out } ∧ (s.meterPacket j o).2.dom Dom.METERS j.meter = m2 ∧ (s.meterPacket j
    o).2.get Obj.METER_CTRL_METERED = wrapAdd 64 (s.get Obj.METER_CTRL_METERED) 1) ∧
  (∀ (s : State) (x : MeterRead), s.CoreOn → exec (.meterSweep x) s = .next ((s.readMeter x.meter x.meterEcc x.profileEcc).2.putMeter
    x.meter (s.readMeter x.meter x.meterEcc x.profileEcc).1.entry false)) ∧
  (∀ (s : State) (n : Fin 262144), s.Canonical → s.CoreOn → s.sched.oldMeters = [] → ∃ t, exec (.meterSweep ⟨n, .clean, .clean⟩) s = .next
    t ∧ t.dom Dom.METERS n = meterRefill (s.dom Dom.METER_PROFILES (Fld.MT_PROFILE.get (s.dom Dom.METERS n))) (s.dom Dom.METERS n)
    (meterStep s.time.now) ∧ Frame noKey (keysOf [domKey Dom.METERS n]) [] s t) ∧
  (∀ (s : State) (n : Fin 8) (u : List Upset) (j : McJob) (l : List McJob) (e h : Nat) (p : Pkt) (a b c : State), s.CoreOn → Table.get
    noList s.net.mc n = j :: l → 0 < j.left → ((s.workFor (128 + n) 5).part (128 + n) 5).inRun = true → ((forEach u (s.workFor (128 + n)
    5) fun s u => s.upset false u).resEntry Dom.MC_COPIES j.next = (some e, a)) → Fld.MCC_VALID.get e = 1 → a.resEntry Dom.NEXT_HOPS
    (Fld.MCC_NEXT_HOP.get e) = (some h, b) → (Fld.MCC_PRUNE.get e = 0 ∨ Fld.NH_LOCATION.get h ≠ b.ownLocation j.pkt.inPort) →
    b.toNextHop n true { j.pkt with id := b.net.serial } (Fld.MCC_NEXT_HOP.get e) = (some p, c) → exec (.mcReplicate ⟨n, u⟩) s = .next
    (((c.withNet { c.net with serial := c.net.serial + 1 }).withNet { c.net with serial := c.net.serial + 1, mc := Table.put noList c.net.mc n (if j.left ≤ 1 then l else { j with pkt := { j.pkt with job := none }, next := j.next + 1, left := j.left - 1 } :: l) }).cross
    p false)) ∧
  (∀ (s : State) (n : Fin 8) (k : Fin 4), s.CoreOn → s.get (Obj.PIPE_POOL_MODE n) = 1 → s.get (Obj.PIPE_POOL_HIGH_PCT n) * s.activePipes n
    * 1250 < s.packetRate n * 100 → (((List.range 4).find? fun k => (s.get (Obj.PIPE_POOL_POOL_MASK n)).testBit k && !(s.get
    (Obj.PIPE_POOL_ACTIVE_MASK n)).testBit k) = some k.val) → exec (.poolActivate n k) s = .next (s.setActive n (s.get
    (Obj.PIPE_POOL_ACTIVE_MASK n) + 2 ^ k.val))) ∧
  (∀ (s : State) (n : Fin 8) (k : Fin 4), s.CoreOn → s.get (Obj.PIPE_POOL_MODE n) = 1 → 1 < s.activePipes n → s.rateLow n = true →
    highestBit 4 (s.get (Obj.PIPE_POOL_ACTIVE_MASK n)) = some k.val → exec (.poolDeactivate n k) s = .next (s.setActive n (s.get
    (Obj.PIPE_POOL_ACTIVE_MASK n) - 2 ^ k.val)))

/-- BUF_ENABLE, ADMISSION, D2D_UNIT, STAGING_DONE and IDLE_MAP: An accepted BUF_ENABLE 1 over three legal regions sets BUF_ENABLE, makes the
free lists anew and is answered OK, over an illegal one is INVALID and changes only the access status; 0 clears it and leaves the lists.
With the core on and the die-to-die link not retraining, ADMISSION applies the given upsets, then decides up to 64 waiting packets: the
first in rotation from the pointer, in ascending order of their requesters; it takes them from the queue, moves the pointer past the highest
requester decided (mod 388) and returns the units that these decisions freed after the last of them. D2D_UNIT, with the link neither
retraining nor failed and a unit waiting of a packet of the requester that is in a queue, takes the oldest such unit and stores it: where
units are still to come the packet counts one more arrived, and the last completes the packet (lastUnit). STAGING_DONE frees the staging
cells of the oldest HBM write, and where it was a reassembled packet's credits them to its requester. IDLE_MAP with the link up sets the
idle map to the idle line ports and changes nothing else. Rests on (parts of) R149, R164, R172 to R176, R180. Where these rules leave the
point open it states the model's choice: log entries 55, 56, 141, 144, 220. -/
def Obligations.BufferCommandsTakeEffect : Prop :=
  (∀ (s : State) (m v : Nat), s.Canonical → s.Accepts m Obj.BUFFER_CTRL_BUF_ENABLE v → v = 1 → (((List.range 3).all fun g => s.regionOk g)
    = true) → s.sec.fusing = none → ∃ t, exec (.bufEnable m v) s = .next t ∧ t.get Obj.BUFFER_CTRL_BUF_ENABLE = 1 ∧ t.net = { s.net with frees := t.net.frees, sub := t.net.sub }
    ∧ t.Answered m Obj.BUFFER_CTRL_BUF_ENABLE .ok ∧ Frame (keysOf [Obj.BUFFER_CTRL_BUF_ENABLE]) noKey [.net, .pair, .dict, .sent] s t) ∧
  (∀ (s : State) (m v : Nat), s.Canonical → s.Accepts m Obj.BUFFER_CTRL_BUF_ENABLE v → v = 0 → s.sec.fusing = none → ∃ t, exec (.bufEnable
    m v) s = .next t ∧ t.get Obj.BUFFER_CTRL_BUF_ENABLE = 0 ∧ t.Answered m Obj.BUFFER_CTRL_BUF_ENABLE .ok ∧ Frame (keysOf
    [Obj.BUFFER_CTRL_BUF_ENABLE]) noKey [.pair, .dict, .sent] s t) ∧
  (∀ (s : State) (m v : Nat), s.Canonical → s.Accepts m Obj.BUFFER_CTRL_BUF_ENABLE v → v = 1 → (((List.range 3).all fun g => s.regionOk g)
    = false) → s.sec.fusing = none → ∃ t, exec (.bufEnable m v) s = .next t ∧ t.Answered m Obj.BUFFER_CTRL_BUF_ENABLE .invalid ∧ Frame
    (keysOf [Obj.ACCESS_STATUS_LAST_STATUS m, Obj.ACCESS_STATUS_LAST_OBJECT m, Obj.ACCESS_STATUS_REFUSED m]) noKey [.sent] s t) ∧
  (∀ (s : State) (u : List PoolUpset) (c : List Pkt) (w : State), s.CoreOn → s.ev.d2dRetrain = none → (w = forEach u s (fun s x =>
    s.poolUpset x)) → (c = sortBy (fun (k : Pkt) => k.requester) ((sortBy (fun (k : Pkt) => (k.requester + 388 - w.net.admitPtr % 388) %
    388) w.net.toAdmit).take 64)) → c ≠ [] → exec (.admission u) s = .next ((forEach c (w.withNet { w.net with toAdmit := w.net.toAdmit.filter (fun k => !(c.map (·.id)).contains k.id), admitPtr := (c.foldl (fun m k => max m k.requester) 0 + 1) % 388, deciding := true })
    fun s k => s.decideAdmission k).endDeciding)) ∧
  (∀ (s : State) (r : Fin 388) (e : ReadUpset) (u : Nat × Nat) (q : Nat) (k k2 : Pkt) (a b : State), s.CoreOn → s.ev.d2dRetrain = none →
    s.ev.d2dFailed = false → ((s.net.units.find? fun u => Nat.beq u.1 r) = some u) → s.queueOf u.2 = some (q, k) → (a = s.withNet { s.net with units := s.net.units.eraseP fun v => Nat.beq v.1 u.1 })
    → a.store k (a.bufsOf k (k.arrived + 1)) = (k2, b) → k.arrived + 1 ≠ k.whole → exec (.d2dUnit ⟨r, e⟩) s = .next (b.setQueue q
    ((b.queue q).map fun x => if x.id = k.id then { k2 with arrived := x.arrived + 1 } else x))) ∧
  (∀ (s : State) (r : Fin 388) (e : ReadUpset) (u : Nat × Nat) (q : Nat) (k k2 : Pkt) (a b : State), s.CoreOn → s.ev.d2dRetrain = none →
    s.ev.d2dFailed = false → ((s.net.units.find? fun u => Nat.beq u.1 r) = some u) → s.queueOf u.2 = some (q, k) → (a = s.withNet { s.net with units := s.net.units.eraseP fun v => Nat.beq v.1 u.1 })
    → a.store k (a.bufsOf k (k.arrived + 1)) = (k2, b) → k.arrived + 1 = k.whole → exec (.d2dUnit ⟨r, e⟩) s = .next (b.lastUnit k2 true)) ∧
  (∀ (s : State) (x : Staged) (l : List Staged), s.CoreOn → s.net.staging = x :: l → x.requester = none → exec (.stagingDone) s = .next
    ((s.withNet { s.net with staging := l }).freeCells x.cells)) ∧
  (∀ (s : State) (x : Staged) (l : List Staged) (r : Nat), s.CoreOn → s.net.staging = x :: l → x.requester = some r → exec (.stagingDone) s
    = .next (((s.withNet { s.net with staging := l }).freeCells x.cells).creditTo r 0 x.cells.length)) ∧
  (∀ (s : State), s.CoreOn → s.d2dUp = true → ∃ t, exec (.idleMap) s = .next t ∧ (t.net = { s.net with idleMap := (List.range 128).filter fun p => s.portIdle p })
    ∧ Frame noKey noKey [.net] s t)

/-- EGRESS_PIPELINE, TX_FRAME_START and TX_FRAME_END: With the core on: EGRESS_PIPELINE, in a cycle that throttling leaves it, of a port but
XC, with the die-to-die link working and the sector's egress part taking work, of a packet read out without error that is whole or not a
scheduled lane's, whose edited frame with its FCS fits the MTU and which carries no recompression profile, hands it to the port with a new
FCS; an error of its data drops it with the read's cause. TX_FRAME_START, with nothing on the wire, the port's part in RUN, the boot READY,
the port enabled and its link up, the lease gate open for the packet and its window not missed, takes the oldest frame of the port, puts it
on the wire with the transmit stamp, TX_ASYM added, and with its PTP edit at that stamp. TX_FRAME_END of a whole frame that after settling
is neither stomped nor filled up emits the frame, lowers OUTSTANDING, counts it good and in its size bin, tells its stamp to the job that
waits for it and sends a pause frame that waits. Rests on (parts of) R152, R153, R183, R280, R282, R283. Where these rules leave the point
open it states the model's choice: log entries 16, 17, 18, 60, 61, 62, 180, 181, 116. -/
def Obligations.PacketsAreEditedAndSent : Prop :=
  (∀ (s : State) (p : Fin 136) (e : ReadUpset) (u : List Upset) (k k2 : Pkt) (l : List Pkt) (b : List Byte) (mtu : Nat) (w x y : State),
    s.CoreOn → s.pipesHeld = false → Table.get noList s.net.egress p = k :: l → s.ev.d2dRetrain = none → s.ev.d2dFailed = false →
    ((s.workFor (128 + s.egressSector p) 4).part (128 + s.egressSector p) 4).inRun = true → w = ((s.workFor (128 + s.egressSector p)
    4).withNet { (s.workFor (128 + s.egressSector p) 4).net with egress := Table.put noList (s.workFor (128 + s.egressSector p) 4).net.egress p l })
    → w.readUpset k e = (none, x) → x.readOut k = (k2, y) → ¬ (k2.scheduled = true ∧ k2.complete = false) → p.val ≠ portXC → ((forEach u
    y fun s u => s.upset false u).editPacket k2 = .frame b mtu) → b.length + 4 ≤ mtu → k2.recomp = 0 → exec (.egressPipeline p ⟨e, u⟩) s
    = .next ((forEach u y fun s u => s.upset false u).handOn p { k2 with bytes := withFcs b })) ∧
  (∀ (s : State) (p : Fin 136) (e : ReadUpset) (u : List Upset) (k : Pkt) (l : List Pkt) (c : Nat) (w x : State), s.CoreOn → s.pipesHeld =
    false → Table.get noList s.net.egress p = k :: l → s.ev.d2dRetrain = none → s.ev.d2dFailed = false → ((s.workFor (128 +
    s.egressSector p) 4).part (128 + s.egressSector p) 4).inRun = true → w = ((s.workFor (128 + s.egressSector p) 4).withNet { (s.workFor (128 + s.egressSector p) 4).net with egress := Table.put noList (s.workFor (128 + s.egressSector p) 4).net.egress p l })
    → w.readUpset k e = (some c, x) → exec (.egressPipeline p ⟨e, u⟩) s = .next (x.dropSelected p k c)) ∧
  (∀ (s : State) (p : LinePort) (k : Pkt) (l : List Pkt) (x : Nat), s.CoreOn → Table.get noList s.net.tx p = k :: l → (Table.get (fun _ =>
    none) s.net.wire p = none) → ((s.workFor p 0).part p 0).inRun = true → s.boot.ready = true → s.get (Obj.LINE_PORT_PORT_ENABLE p) = 1
    → s.get (Obj.LINE_PORT_LINK_STATE p) = 1 → ((s.workFor p 0).withNet { (s.workFor p 0).net with tx := Table.put noList (s.workFor p 0).net.tx p l }).leaseOpen
    p k = true → windowMissed k.window s.timeNow = false → x = ((s.stampNow : Int) + signed 32 (s.setting (Obj.LINE_PORT_TX_ASYM
    p))).toNat → exec (.txFrameStart p) s = .next (((s.workFor p 0).withNet { (s.workFor p 0).net with tx := Table.put noList (s.workFor p 0).net.tx p l }).withNet
    { ((s.workFor p 0).withNet { (s.workFor p 0).net with tx := Table.put noList (s.workFor p 0).net.tx p l }).net with wire := Table.put (fun _ => none) ((s.workFor p 0).withNet { (s.workFor p 0).net with tx := Table.put noList (s.workFor p 0).net.tx p l }).net.wire p (some ({ k with bytes := ((s.workFor p 0).withNet { (s.workFor p 0).net with tx := Table.put noList (s.workFor p 0).net.tx p l }).ptpEdit p k x }, x)) })) ∧
  (∀ (s : State) (p : LinePort) (k k2 : Pkt) (x : Nat) (a : State), s.CoreOn → (Table.get (fun _ => none) s.net.wire p = some (k, x)) →
    k.complete = true → ((s.withNet { s.net with wire := Table.put (fun _ => none) s.net.wire p none }).settle k = (k2, a)) → k2.stomp =
    false → k2.fill = false → exec (.txFrameEnd p) s = .next (((((((a.lessOutstanding p k2.out).countGood p 0x20 k2.bytes).emit (.frame
    p k2.bytes false)).countPort p (0x31 + sizeBin k2.bytes.length))).txReport k2 (some x)).sendWaiting p))

/-- Replays, retraining and failure of the die-to-die link, and the records of an instant: With the core on: D2D_REPLAY on a working link
adds 1 to D2D_REPLAYS and clears the count of failed replays or adds 1 to it; D2D_RETRAIN after 16 failed ones starts retraining, clears the
count and makes one occurrence of E-1120; D2D_RETRAIN_DONE within 1 ms ends it; D2D_LINK_FAIL after 1 ms, with no packet waiting, queued,
selected or on a wire, marks the link failed, raises E-1320 and drops the waiting units. Of two records of one instant the one of the lower
unit, or of the same unit and the lower code, is logged first and leaves the other waiting; a record that is logged takes LOG_SEQ as its
number, stands newest in the log and in LAST of its class, and LOG_SEQ rises by 1 mod 2^32. Rests on (parts of) R551, R552, R554, R559.
Where these rules leave the point open it states the model's choice: log entries 118, 166. -/
def Obligations.DieLinkAndEventLog : Prop :=
  (∀ (s : State) (g : Bool), s.Canonical → s.CoreOn → s.d2dUp = true → ∃ t, exec (.d2dReplay g) s = .next t ∧ t.get
    Obj.EVENT_CTRL_D2D_REPLAYS = wrapAdd 64 (s.get Obj.EVENT_CTRL_D2D_REPLAYS) 1 ∧ (t.ev = { s.ev with failedReplays := if g then 0 else s.ev.failedReplays + 1 })
    ∧ Frame (keysOf [Obj.EVENT_CTRL_D2D_REPLAYS]) noKey [.ev] s t) ∧
  (∀ (s : State), s.Canonical → s.CoreOn → s.d2dUp = true → 16 ≤ s.ev.failedReplays → ∃ t, exec (.d2dRetrain) s = .next t ∧ t.ev.d2dRetrain
    = some s.time.now ∧ t.ev.failedReplays = 0 ∧ Occurred s t 0x1120 uFD2D 0 ∧ Frame eventObjs noKey eventParts s t) ∧
  (∀ (s : State) (b : Nat), s.CoreOn → s.ev.d2dRetrain = some b → s.time.now < b + ms → ∃ t, exec (.d2dRetrainDone) s = .next t ∧ t.ev = { s.ev with d2dRetrain := none }
    ∧ Frame noKey noKey [.ev] s t) ∧
  (∀ (s : State) (b : Nat), s.CoreOn → s.ev.d2dRetrain = some b → b + ms ≤ s.time.now → s.net.toAdmit = [] → s.net.queues = [] →
    s.net.egress = [] → s.net.tx = [] → s.net.wire = [] → exec (.d2dLinkFail) s = .next (((s.withEv { s.ev with d2dRetrain := none, d2dFailed := true }).raise
    0x1320 uFD2D 0).withNet { s.net with units := [] })) ∧
  (∀ (s : State) (a b : EventRec), s.ev.due = [a, b] → (b.unit < a.unit ∨ (b.unit = a.unit ∧ b.code < a.code)) → s.logNext =
    State.raiseList ((s.withEv { s.ev with due := [a] }).logRecord b).1 ((s.withEv { s.ev with due := [a] }).logRecord b).2) ∧
  (∀ (s : State) (r : EventRec), s.Canonical → eventClass r.code < 4 → (s.get Obj.EVENT_CTRL_EVENT_CQ = 0xFFFF ∨ s.get
    Obj.EVENT_CTRL_EVENT_CQ < 1024) → (s.logRecord r).2.ev.log.head? = some { r with num := s.get Obj.EVENT_CTRL_LOG_SEQ } ∧
    (s.logRecord r).2.get Obj.EVENT_CTRL_LOG_SEQ = wrapAdd 32 (s.get Obj.EVENT_CTRL_LOG_SEQ) 1 ∧ (s.logRecord r).2.get
    (Obj.EVENT_LAST_LAST (eventClass r.code)) = r.code * 65536 + s.get Obj.EVENT_CTRL_LOG_SEQ % 65536)

/-- DEQUEUE_DECISION, SHAPER_RELEASE, VOQ_SEND, FLUSH_QUEUE, sampling rounds and a shaper profile write: With the core on: DEQUEUE_DECISION
of a slice whose sector takes work, in a cycle that throttling leaves it, applies the given upsets, refreshes the slice's ports, selects the
pick of the first port in rotation that decidePort offers one for, with the guard holds of that port and of those passed over counted, and
moves the pointer one past that port. SHAPER_RELEASE of a port refreshes it. VOQ_SEND in such a cycle, with the fabric on, SCHED_ENABLE 1
and the slice's sector taking work sends the head of the first eligible VOQ at or after the slice's pointer, else of the lowest one, when
its data are read without error. FLUSH_QUEUE of a queue, with no slow write of it running: of an empty queue adds 1 to FLUSHED and runs on
as a slow write; through the window, of any queue, discards each of its packets in order, adds 1 to FLUSHED, raises E-4044 of the queue's
unit and is answered OK as a slow write that runs. SAMPLE_ROUND at a new round sets ROUND_START, adds 1 to ROUNDS and starts the round with
no index sampled; QUEUE_SAMPLE of an enabled index, within the 6 ns of its instant and not sampled in this pass, marks it and writes its
sample. RISE_RATE, FALL_RATE or MAX_CREDIT of a profile that no shaper uses is stored and answered OK. Rests on (parts of) R191 to R193,
R207, R208, R211, R212, R214, R232, R376. Where these rules leave the point open it states the model's choice: log entries 54, 58, 63, 64,
142, 227, 228, 116. -/
def Obligations.SchedulersServeQueues : Prop :=
  (∀ (s : State) (n : Fin 8) (u : List QueueUpset) (p : Nat) (k : Pick) (w x : State), s.CoreOn → s.tsBlocked n = false → s.slicesHeld =
    false → (w = forEach (slicePorts n) (forEach u s (fun s x => s.queueUpset x)) (fun s p => s.refreshPort p)) → ((rotateAt (slicePorts
    n) (Table.get zeroN (forEach u s (fun s x => s.queueUpset x)).sched.portPtr n)).findSome? (fun p => (w.decidePort p).1.map fun k =>
    (p, k)) = some (p, k)) → (x = forEach ((rotateAt (slicePorts n) (Table.get zeroN (forEach u s (fun s x => s.queueUpset
    x)).sched.portPtr n)).takeWhile (· != p) ++ [p]) w (fun s y => s.holdGuards y (s.decidePort y).2)) → exec (.dequeueDecision n u) s =
    .next ((x.select p k).withSched { (x.select p k).sched with portPtr := Table.put zeroN (x.select p k).sched.portPtr n (((if p < 128 then p % 16 else 16) + 1) % 17) })) ∧
  (∀ (s : State) (p : Fin 136), s.CoreOn → exec (.shaperRelease p) s = .next (s.refreshPort p)) ∧
  (∀ (s : State) (n : Fin 8) (e : ReadUpset) (v : Nat) (k : Pkt) (w : State), s.CoreOn → s.fabricOn = true → s.on Obj.TM_CTRL_SCHED_ENABLE
    = true → s.tsBlocked n = false → s.slicesHeld = false → ((((((s.net.queues.filter fun e => Nat.ble voqBase e.1 && Nat.beq ((e.1 -
    voqBase) / 8 % 8) n).map fun e => e.1 - voqBase).filter s.eligibleVoq).find? fun v => Nat.ble (Table.get zeroN s.sched.voqPtr n)
    v).or (((s.net.queues.filter fun e => Nat.ble voqBase e.1 && Nat.beq ((e.1 - voqBase) / 8 % 8) n).map fun e => e.1 - voqBase).filter
    s.eligibleVoq).head?) = some v) → s.headOf (voqBase + v) = some k → s.readUpset k e = (none, w) → exec (.voqSend n e) s = .next
    (w.sendVoq v k)) ∧
  (∀ (s : State) (m v : Nat), s.Canonical → s.Accepts m Obj.TM_CTRL_FLUSH_QUEUE v → s.slowRuns m Obj.TM_CTRL_FLUSH_QUEUE = false → v <
    655360 → s.queue v = [] → s.sec.fusing = none → ∃ t, exec (.flushQueue m v) s = .next t ∧ t.get Obj.TM_CTRL_FLUSHED = wrapAdd 64
    (s.get Obj.TM_CTRL_FLUSHED) 1 ∧ (t.dict.slow = ⟨m, Obj.TM_CTRL_FLUSH_QUEUE, if pathOf m = .window then .window else .direct⟩ ::
    s.dict.slow) ∧ Frame (keysAndEvents [Obj.TM_CTRL_FLUSHED, Obj.ACCESS_STATUS_PENDING m]) noKey (.dict :: .sent :: eventParts) s t) ∧
  (∀ (s : State) (m v : Nat), s.Accepts m Obj.TM_CTRL_FLUSH_QUEUE v → pathOf m = .window → s.slowRuns m Obj.TM_CTRL_FLUSH_QUEUE = false → v
    < 655360 → exec (.flushQueue m v) s = .next (((((forEach ((s.queue v).map (·.id)) s fun s id => s.discardQueued v id).bump
    Obj.TM_CTRL_FLUSHED).raise 0x4044 ((forEach ((s.queue v).map (·.id)) s fun s id => s.discardQueued v id).uQueue v) 0).slowStart ⟨m,
    Obj.TM_CTRL_FLUSH_QUEUE, .window⟩).answer m Obj.TM_CTRL_FLUSH_QUEUE .ok)) ∧
  (∀ (s : State), s.Canonical → s.CoreOn → s.sched.roundStart ≠ some (s.roundOf s.time.tai) → ∃ t, exec (.sampleRound) s = .next t ∧
    t.sched = { s.sched with roundStart := some (s.roundOf s.time.tai), sampled := 0 } ∧ t.get Obj.QUEUE_SAMPLING_ROUNDS = wrapAdd 64
    (s.get Obj.QUEUE_SAMPLING_ROUNDS) 1 ∧ t.get Obj.QUEUE_SAMPLING_ROUND_START = time80 (s.roundOf s.time.tai) ∧ Frame (keysOf
    [Obj.QUEUE_SAMPLING_ROUNDS, Obj.QUEUE_SAMPLING_ROUND_START]) noKey [.sched] s t) ∧
  (∀ (s : State) (i : Fin 655360) (r : Nat), s.CoreOn → s.sched.roundStart = some r → (s.dom Dom.SAMPLE_ENABLE (i / 64)).testBit (i % 64) =
    true → (s.sched.sampled ≤ i.val ∨ s.time.tai < r + sampleOffset (s.sched.sampled - 1)) → r + sampleOffset i ≤ s.time.tai →
    s.time.tai < r + sampleOffset i + 6 → exec (.queueSample i) s = .next ((s.withSched { s.sched with sampled := i.val + 1 }).noteSample
    i (s.sampleOf i))) ∧
  (∀ (s : State) (n : Fin 1024) (f : Fin 3) (m v : Nat), s.Canonical → s.Accepts m (objKey 0 (0x4400 + n.val) (1 + f.val)) v → s.nodesOf n
    = [] → s.sec.fusing = none → ∃ t, exec (.shaperProfileWrite n f m v) s = .next t ∧ t.get (objKey 0 (0x4400 + n.val) (1 + f.val)) = v
    ∧ t.Answered m (objKey 0 (0x4400 + n.val) (1 + f.val)) .ok ∧ Frame (keysOf [objKey 0 (0x4400 + n.val) (1 + f.val)]) noKey [.pair,
    .dict, .sent] s t)

/-- GRANT, REQUEST, its refresh and expiry, CONTROL cells and CREDIT_GENERATE: With the core on: a GRANT for this device, the fabric on,
whose bytes leave the VOQ's balance within BALANCE_MAX, counts GRANTS_RECEIVED, adds them to the balance and follows it up for the VOQ; for
another device or with the fabric off it counts BAD_MESSAGES only. A REQUEST to this device with the fabric on, for a state not overdue and
the first of its instant: with a sequence 1 to 7 ahead, or after an expiry, becomes the state held; with any other it counts STALE_REQUESTS
and leaves the state held. REQUEST_REFRESH of a VOQ that is not scheduled, with its request ON and REFRESH_US since it was sent, sends it
again; REQUEST_EXPIRY of an ON state not refreshed for three refresh times makes it OFF and expired, and the port's credit classes follow.
CONTROL_CELL_FLUSH with the fabric on closes a cell packed for 64 ns and sprays it. CREDIT_GENERATE of a port with its slice's sector taking
work, mapped to the fabric, the fabric on, SCHED_ENABLE 1, credit not withheld and its instant come, takes the highest strict class with a
requester, else the first of the round, and its next requester from the pointer on, charges GRANT_BYTES, moves the pointer and the instant
of the next grant, counts the bytes and GRANTS_SENT and sends the GRANT. Rests on (parts of) R208, R209, R298, R299, R304 to R306. Where
these rules leave the point open it states the model's choice: log entries 66, 71, 186. -/
def Obligations.CreditIsAskedAndGranted : Prop :=
  (∀ (s : State) (g r : Fin 256) (q : Fin 64) (c : Fin 8) (b : Nat), s.CoreOn → r.val = s.get Obj.FABRIC_CTRL_DEVICE_ID → s.fabricOn = true
    → Fld.VS_BALANCE.getS (s.dom Dom.VOQ_STATE ((64 * g + q) * 8 + c)) + ((b % 2 ^ 24 : Nat) : Int) ≤ (s.get Obj.VOQ_CTRL_BALANCE_MAX :
    Nat) → exec (.grant g r q c b) s = .next (((s.bump Obj.CREDIT_CTRL_GRANTS_RECEIVED).setField Dom.VOQ_STATE ((64 * g + q) * 8 + c)
    Fld.VS_BALANCE (unsigned 32 (Fld.VS_BALANCE.getS (s.dom Dom.VOQ_STATE ((64 * g + q) * 8 + c)) + ((b % 2 ^ 24 : Nat) :
    Int)))).voqFollow ((64 * g + q) * 8 + c))) ∧
  (∀ (s : State) (g r : Fin 256) (q : Fin 64) (c : Fin 8) (b : Nat), s.Canonical → s.CoreOn → (r.val ≠ s.get Obj.FABRIC_CTRL_DEVICE_ID ∨
    s.fabricOn = false) → ∃ t, exec (.grant g r q c b) s = .next t ∧ t.get Obj.FABRIC_CTRL_BAD_MESSAGES = wrapAdd 64 (s.get
    Obj.FABRIC_CTRL_BAD_MESSAGES) 1 ∧ Frame (keysOf [Obj.FABRIC_CTRL_BAD_MESSAGES]) noKey [] s t) ∧
  (∀ (s : State) (r g : Fin 256) (q : Fin 64) (c : Fin 8) (o : Bool) (x : Fin 16) (y : ReqState), s.Canonical → s.CoreOn → g.val = s.get
    Obj.FABRIC_CTRL_DEVICE_ID → s.fabricOn = true → y = Table.get noRequest s.fab.reqs ((64 * r.val + q.val) * 8 + c.val) → s.reqOver
    y.core = false → (y.got = [] ∨ y.gotAt ≠ s.time.now) → (y.core.expired = true ∨ (1 ≤ (x.val + 16 - y.core.seq) % 16 ∧ (x.val + 16 -
    y.core.seq) % 16 ≤ 7)) → ∃ t, exec (.request r g q c o x) s = .next t ∧ (Table.get noRequest t.fab.reqs ((64 * r.val + q.val) * 8 +
    c.val)).core = ⟨o, x, s.time.now, false⟩ ∧ Frame noKey noKey [.fab, .sched] s t) ∧
  (∀ (s : State) (r g : Fin 256) (q : Fin 64) (c : Fin 8) (o : Bool) (x : Fin 16) (y : ReqState), s.Canonical → s.CoreOn → g.val = s.get
    Obj.FABRIC_CTRL_DEVICE_ID → s.fabricOn = true → y = Table.get noRequest s.fab.reqs ((64 * r.val + q.val) * 8 + c.val) → s.reqOver
    y.core = false → (y.got = [] ∨ y.gotAt ≠ s.time.now) → y.core.expired = false → ((x.val + 16 - y.core.seq) % 16 = 0 ∨ 8 ≤ (x.val +
    16 - y.core.seq) % 16) → ∃ t, exec (.request r g q c o x) s = .next t ∧ t.get Obj.CREDIT_CTRL_STALE_REQUESTS = wrapAdd 64 (s.get
    Obj.CREDIT_CTRL_STALE_REQUESTS) 1 ∧ (Table.get noRequest t.fab.reqs ((64 * r.val + q.val) * 8 + c.val)).core = y.core ∧ Frame
    (keysOf [Obj.CREDIT_CTRL_STALE_REQUESTS]) noKey [.fab, .sched] s t) ∧
  (∀ (s : State) (v : Fin 131072), s.CoreOn → s.scheduledVoq v = false → Fld.VS_REQUEST.get (s.dom Dom.VOQ_STATE v) = 1 → Table.get zeroN
    s.fab.reqAt v + s.get Obj.CREDIT_CTRL_REFRESH_US * 1000 ≤ s.time.now → exec (.requestRefresh v) s = .next (s.sendRequest v)) ∧
  (∀ (s : State) (r : Fin 256) (q : Fin 64) (c : Fin 8) (y : ReqCore), s.CoreOn → y = (Table.get noRequest s.fab.reqs ((64 * r.val + q.val)
    * 8 + c.val)).core → y.on = true → y.at' + 3 * s.get Obj.CREDIT_CTRL_REFRESH_US * 1000 ≤ s.time.now → exec (.requestExpiry r q c) s
    = .next ((s.withFab { s.fab with reqs := Table.put noRequest s.fab.reqs ((64 * r.val + q.val) * 8 + c.val) { core := { y with on := false, expired := true } } }).creditClasses
    (s.get (Obj.FABRIC_PORT_MAP_MAP_Q (((64 * r.val + q.val) * 8 + c.val) / 8 % 64))))) ∧
  (∀ (s : State) (d : Fin 256) (b : Nat) (l : List Nat), s.CoreOn → (Table.get (fun _ => none) s.fab.packing d = some (b, l)) → s.fabricOn
    = true → b + 64 ≤ s.time.now → exec (.controlCellFlush d) s = .next ((s.packControl d).spray)) ∧
  (∀ (s : State) (p : Fin 136) (q c d : Nat) (w : State), s.CoreOn → s.tsBlocked (sliceOf p) = false → w = (s.creditClasses p).creditHeld p
    → w.portQ p = some q → w.fabricOn = true → w.on Obj.TM_CTRL_SCHED_ENABLE = true → w.get (creditKeys p).2.2.2.2 ≠ 1 → Table.get zeroN
    w.sched.creditNext p ≤ s.time.now * 65536 → ((([7, 6, 5, 4, 3, 2, 1, 0].find? fun c => Nat.beq (Fld.PC_STRICT.get (w.dom
    Dom.PORT_CLASSES (8 * p.val + c))) 1 && !(w.requesters q c).isEmpty).or (Table.get noList w.sched.creditOrder p).head?) = some c) →
    ((((w.requesters q c).find? fun d => Nat.ble (Table.get zeroN w.sched.creditPtr (8 * p.val + c)) d).or (w.requesters q c).head?) =
    some d) → exec (.creditGenerate p) s = .next (((((w.creditCharge p c (w.get Obj.CREDIT_CTRL_GRANT_BYTES)).withSched { (w.creditCharge p c (w.get Obj.CREDIT_CTRL_GRANT_BYTES)).sched with creditPtr := Table.put zeroN (w.creditCharge p c (w.get Obj.CREDIT_CTRL_GRANT_BYTES)).sched.creditPtr (8 * p.val + c) (d + 1), creditNext := Table.put zeroN (w.creditCharge p c (w.get Obj.CREDIT_CTRL_GRANT_BYTES)).sched.creditNext p (max (Table.get zeroN w.sched.creditNext p) (w.time.now * 65536) + w.get Obj.CREDIT_CTRL_GRANT_BYTES * 800000 * 65536 / ((w.creditCharge p c (w.get Obj.CREDIT_CTRL_GRANT_BYTES)).spanRate p * (w.creditCharge p c (w.get Obj.CREDIT_CTRL_GRANT_BYTES)).get (creditKeys p).1)) }).bump
    (creditKeys p).2.2.2.1 (w.get Obj.CREDIT_CTRL_GRANT_BYTES)).bump Obj.CREDIT_CTRL_GRANTS_SENT).pushMessage d (grantMessage (w.get
    Obj.FABRIC_CTRL_DEVICE_ID) d q c (w.get Obj.CREDIT_CTRL_GRANT_BYTES))))

/-- PORT_ENABLE and the link state of a line port: An accepted PORT_ENABLE 1 of a present port in a legal line mode whose lanes start at a
multiple of their number and are covered by no other port, with FEC_MODE 0 or at 25 Gb/s, is stored; 0 is stored and takes LINK_STATE to 0;
each is answered OK and changes besides only the power states and, for 0, TRANSITIONS. With the core on: LINK_CONDITION of a port not in OFF
keeps whether every condition holds (a remote or local fault is none of them), since when, and the fault flag; LINK_DOWN of a port that is
up, whose conditions have failed for longer than LINK_DOWN_HOLD, takes LINK_STATE to 0 and counts the loss; LINK_UP of an enabled port that
is down, whose conditions have held for LINK_UP_HOLD, takes it to 1 and makes one occurrence of E-2002. Rests on (parts of) R269 to R271,
R274. Where these rules leave the point open it states the model's choice: log entries 20, 39. -/
def Obligations.LinePortsComeUpAndGoDown : Prop :=
  (∀ (s : State) (p : LinePort) (m v : Nat), s.Canonical → s.Accepts m (Obj.LINE_PORT_PORT_ENABLE p) v → v = 1 → lineMode (s.get
    (Obj.LINE_PORT_PORT_SPEED p)) (s.get (Obj.LINE_PORT_LANES p)) = true → p.val % s.get (Obj.LINE_PORT_LANES p) = 0 → s.absentPort p =
    false → (((List.range 128).any fun m => !Nat.beq m p && (List.range (s.get (Obj.LINE_PORT_LANES p))).any fun i => s.coversLane m (p
    + i)) = false) → (s.get (Obj.LINE_PORT_FEC_MODE p) = 0 ∨ s.get (Obj.LINE_PORT_PORT_SPEED p) = 25000) → s.sec.fusing = none → ∃ t,
    exec (.portEnable p m v) s = .next t ∧ t.get (Obj.LINE_PORT_PORT_ENABLE p) = 1 ∧ t.Answered m (Obj.LINE_PORT_PORT_ENABLE p) .ok ∧
    Frame (keysOf [Obj.LINE_PORT_PORT_ENABLE p, Obj.POWER_CLIENT_PWR_STATE p, Obj.POWER_CTRL_SECTOR_STATE]) noKey [.pw, .pair, .dict,
    .sent] s t) ∧
  (∀ (s : State) (p : LinePort) (m v : Nat), s.Canonical → s.Accepts m (Obj.LINE_PORT_PORT_ENABLE p) v → v = 0 → s.sec.fusing = none → ∃ t,
    exec (.portEnable p m v) s = .next t ∧ t.get (Obj.LINE_PORT_PORT_ENABLE p) = 0 ∧ t.get (Obj.LINE_PORT_LINK_STATE p) = 0 ∧ t.Answered
    m (Obj.LINE_PORT_PORT_ENABLE p) .ok ∧ Frame (keysOf [Obj.LINE_PORT_PORT_ENABLE p, Obj.LINE_PORT_LINK_STATE p,
    Obj.POWER_CLIENT_PWR_STATE p, Obj.POWER_CLIENT_TRANSITIONS p, Obj.POWER_CTRL_SECTOR_STATE]) noKey [.pw, .pair, .dict, .sent] s t) ∧
  (∀ (s : State) (p : LinePort) (g f : Bool), s.CoreOn → s.get (Obj.LINE_PORT_LINK_STATE p) ≠ 2 → ∃ t, exec (.linkCondition p g f) s =
    .next t ∧ (t.line.ports = Table.put lineEmpty s.line.ports p { s.lineOf p with good := g && !f, since := if (g && !f) = (s.lineOf p).good then (s.lineOf p).since else s.time.now, remoteFault := f })
    ∧ Frame noKey noKey [.line] s t) ∧
  (∀ (s : State) (p : LinePort), s.Canonical → s.CoreOn → s.get (Obj.LINE_PORT_LINK_STATE p) = 1 → (s.lineOf p).good = false → (s.lineOf
    p).since + s.get (Obj.LINE_PORT_LINK_DOWN_HOLD p) * ms < s.time.now → ∃ t, exec (.linkDown p) s = .next t ∧ t.get
    (Obj.LINE_PORT_LINK_STATE p) = 0 ∧ t.get (objKey 0 (0x2100 + p.val) 0x3E) = wrapAdd 40 (s.get (objKey 0 (0x2100 + p.val) 0x3E)) 1 ∧
    Frame (keysAndEvents [Obj.LINE_PORT_LINK_STATE p, objKey 0 (0x2100 + p.val) 0x3E]) noKey (.line :: eventParts) s t) ∧
  (∀ (s : State) (p : LinePort), s.Canonical → s.CoreOn → s.on (Obj.LINE_PORT_PORT_ENABLE p) = true → s.get (Obj.LINE_PORT_LINK_STATE p) =
    0 → (s.lineOf p).good = true → (s.lineOf p).since + s.get (Obj.LINE_PORT_LINK_UP_HOLD p) * ms ≤ s.time.now → ∃ t, exec (.linkUp p) s
    = .next t ∧ t.get (Obj.LINE_PORT_LINK_STATE p) = 1 ∧ Occurred s t 0x2002 (uLane p) 0 p ∧ Frame (keysAndEvents
    [Obj.LINE_PORT_LINK_STATE p]) noKey eventParts s t)

/-- PAUSE and PFC frames received, their expiry and watchdog, pause frames sent, and TRIGGER: Instants are in units of 10 ps; FC_RX_MODE and
the like are read as in force now. With the core on: PAUSE_FRAME at an enabled port not in OFF and not held in reset, in FC_RX_MODE 1 (for a
quanta with no change of it ahead), outside a hold-off and with no release due: with a quanta holds the port for the quanta's time from now,
its start kept where the pause ran on; with 0 ends the pause. PFC_FRAME is received as the PFC frame of its operands. PAUSE_EXPIRY of a
pause that has run out and is not the watchdog's ends it. WD_RELEASE of a pause that has lasted WD_LIMIT_MS ends it, starts the hold-off of
WD_HOLDOFF_MS at that instant and counts WD_FIRED; WD_HOLDOFF_END in its time ends the hold-off. On a port that may send pause frames, with
no frame on the wire and EXTEST not holding the balls: PAUSE_TX where the threshold is crossed and no pause stands sends the PAUSE or PFC
frame of FC_TX_MODE with FC_QUANTA and sets the repeat half a quanta time on; where it stands and its condition has ended, sends the frame
with quanta 0; PAUSE_REPEAT when due sends the frame again and moves the repeat on, past the present. An accepted TRIGGER 1 of a snapshot
group that is done takes the snapshot, whose copy ends 2,048 ns later, and counts it. Rests on (parts of) R275, R276, R278, R279, R284,
R285. Where these rules leave the point open it states the model's choice: log entries 20, 21, 146, 147, 185. -/
def Obligations.PauseIsObeyedAndSent : Prop :=
  (∀ (s : State) (p : LinePort) (a : Nat) (q : Fin 65536), s.Canonical → s.CoreOn → s.get (Obj.LINE_PORT_PORT_ENABLE p) = 1 → s.get
    (Obj.LINE_PORT_LINK_STATE p) ≠ 2 → (s.part p 0).blocked = false → 64 ≤ s.get (Obj.LINE_PORT_MAX_FRAME p) → s.setting
    (Obj.LINE_PORT_FC_RX_MODE p) = 1 → s.modesAhead p = [] → s.watchdog p 8 = s → ((s.pauseOf p 8).inHoldoff = false ∨ (s.pauseOf p
    8).holdoff ≤ 100 * s.time.now) → q.val ≠ 0 → ∃ t, exec (.pauseFrame p a q) s = .next t ∧ (t.line.pause = Table.put pauseEmpty
    s.line.pause (p.val * 16 + 8) { start := if (s.pauseOf p 8).start < (s.pauseOf p 8).stop ∧ 100 * s.time.now ≤ (s.pauseOf p 8).stop then (s.pauseOf p 8).start else 100 * s.time.now, stop := 100 * s.time.now + s.quantaTime p q, holdoff := 0, inHoldoff := false, spared := (if (s.pauseOf p 8).start < (s.pauseOf p 8).stop ∧ 100 * s.time.now ≤ (s.pauseOf p 8).stop then ((s.pauseOf p 8).spared.filter fun y => Nat.ble y.start (100 * s.time.now)).map fun y => { y with stop := some (min (y.stop.getD (100 * s.time.now + 6400)) (100 * s.time.now + 6400)) } else []) ++ s.exemptsAhead p })
    ∧ Frame (fun k => Nat.beq (keyIdx k) (0x2100 + p) || eventObjs k) noKey (.line :: eventParts) s t) ∧
  (∀ (s : State) (p : LinePort) (a : Nat), s.Canonical → s.CoreOn → s.get (Obj.LINE_PORT_PORT_ENABLE p) = 1 → s.get
    (Obj.LINE_PORT_LINK_STATE p) ≠ 2 → (s.part p 0).blocked = false → 64 ≤ s.get (Obj.LINE_PORT_MAX_FRAME p) → s.setting
    (Obj.LINE_PORT_FC_RX_MODE p) = 1 → s.watchdog p 8 = s → ((s.pauseOf p 8).inHoldoff = false ∨ (s.pauseOf p 8).holdoff ≤ 100 *
    s.time.now) → ∃ t, exec (.pauseFrame p a 0) s = .next t ∧ t.line.pause = Table.put pauseEmpty s.line.pause (p.val * 16 + 8) {} ∧
    Frame (fun k => Nat.beq (keyIdx k) (0x2100 + p) || eventObjs k) noKey (.line :: eventParts) s t) ∧
  (∀ (s : State) (p : LinePort) (a : Nat) (e : Fin 256) (q : List Nat), s.CoreOn → exec (.pfcFrame p a e q) s = .next (s.receive p
    (pfcFrame a e fun i => q.getD i 0) false)) ∧
  (∀ (s : State) (p : LinePort) (k : Fin 9), s.CoreOn → s.watchdog p k = s → (s.pauseOf p k).start < (s.pauseOf p k).stop → (s.pauseOf p
    k).stop < 100 * s.time.now → ∃ t, exec (.pauseExpiry p k) s = .next t ∧ t.line.pause = Table.put pauseEmpty s.line.pause (p.val * 16
    + k.val) { (s.pauseOf p k) with start := 0, stop := 0, spared := [] } ∧ Frame noKey noKey [.line] s t) ∧
  (∀ (s : State) (p : LinePort) (k : Fin 9), s.Canonical → s.CoreOn → 0 < s.setting (Obj.LINE_PORT_WD_LIMIT_MS p) → (s.pauseOf p k).start <
    (s.pauseOf p k).stop → (s.pauseOf p k).start + s.setting (Obj.LINE_PORT_WD_LIMIT_MS p) * ms * 100 ≤ 100 * s.time.now → (s.pauseOf p
    k).start + s.setting (Obj.LINE_PORT_WD_LIMIT_MS p) * ms * 100 ≤ (s.pauseOf p k).stop → ∃ t, exec (.wdRelease p k) s = .next t ∧
    t.line.pause = Table.put pauseEmpty s.line.pause (p.val * 16 + k.val) { start := 0, stop := 0, holdoff := (s.pauseOf p k).start + s.setting (Obj.LINE_PORT_WD_LIMIT_MS p) * ms * 100 + s.setting (Obj.LINE_PORT_WD_HOLDOFF_MS p) * ms * 100, inHoldoff := true }
    ∧ t.get (objKey 0 (0x2100 + p.val) 0x3F) = wrapAdd 40 (s.get (objKey 0 (0x2100 + p.val) 0x3F)) 1 ∧ Frame (keysAndEvents [objKey 0
    (0x2100 + p.val) 0x3F]) noKey (.line :: eventParts) s t) ∧
  (∀ (s : State) (p : LinePort) (k : Fin 9), s.CoreOn → (s.pauseOf p k).inHoldoff = true → (s.pauseOf p k).holdoff ≤ 100 * s.time.now → ∃
    t, exec (.wdHoldoffEnd p k) s = .next t ∧ t.line.pause = Table.put pauseEmpty s.line.pause (p.val * 16 + k.val) { (s.pauseOf p k) with holdoff := 0, inHoldoff := false }
    ∧ Frame noKey noKey [.line] s t) ∧
  (∀ (s : State) (p : LinePort), s.Canonical → s.CoreOn → s.sec.extest = false → s.pauseAble p = true → (s.lineOf p).txPause = false →
    s.pauseStarts p = true → (Table.get (fun _ => none) s.net.wire p = none) → ∃ t, exec (.pauseTx p) s = .next t ∧ (t.sent = .frame p
    (if s.setting (Obj.LINE_PORT_FC_TX_MODE p) = 1 then pauseFrame (Config.portMac p) (s.setting (Obj.LINE_PORT_FC_QUANTA p)) else
    pfcFrame (Config.portMac p) (s.setting (Obj.LINE_PORT_FC_TX_PRI p)) fun i => if (s.setting (Obj.LINE_PORT_FC_TX_PRI p)).testBit i
    then s.setting (Obj.LINE_PORT_FC_QUANTA p) else 0) false :: s.sent) ∧ t.line.ports = Table.put lineEmpty s.line.ports p { s.lineOf p with txPause := true, txAgain := 100 * s.time.now + s.halfQuanta p }
    ∧ Frame (fun k => Nat.beq (keyIdx k) (0x2100 + p) || eventObjs k) noKey (.line :: .sent :: eventParts) s t) ∧
  (∀ (s : State) (p : LinePort), s.Canonical → s.CoreOn → s.sec.extest = false → s.pauseAble p = true → (s.lineOf p).txPause = true →
    s.pauseEnds p = true → (Table.get (fun _ => none) s.net.wire p = none) → ∃ t, exec (.pauseTx p) s = .next t ∧ (t.sent = .frame p (if
    s.setting (Obj.LINE_PORT_FC_TX_MODE p) = 1 then pauseFrame (Config.portMac p) (0) else pfcFrame (Config.portMac p) (s.setting
    (Obj.LINE_PORT_FC_TX_PRI p)) fun i => if (s.setting (Obj.LINE_PORT_FC_TX_PRI p)).testBit i then 0 else 0) false :: s.sent) ∧
    t.line.ports = Table.put lineEmpty s.line.ports p { s.lineOf p with txPause := false, txAgain := 0 } ∧ Frame (fun k => Nat.beq
    (keyIdx k) (0x2100 + p) || eventObjs k) noKey (.line :: .sent :: eventParts) s t) ∧
  (∀ (s : State) (p : LinePort), s.Canonical → s.CoreOn → s.sec.extest = false → s.pauseAble p = true → (s.lineOf p).txPause = true →
    s.pauseStarts p = true → (s.lineOf p).txAgain ≤ 100 * s.time.now → (Table.get (fun _ => none) s.net.wire p = none) → ∃ t, exec
    (.pauseRepeat p) s = .next t ∧ (t.sent = .frame p (if s.setting (Obj.LINE_PORT_FC_TX_MODE p) = 1 then pauseFrame (Config.portMac p)
    (s.setting (Obj.LINE_PORT_FC_QUANTA p)) else pfcFrame (Config.portMac p) (s.setting (Obj.LINE_PORT_FC_TX_PRI p)) fun i => if
    (s.setting (Obj.LINE_PORT_FC_TX_PRI p)).testBit i then s.setting (Obj.LINE_PORT_FC_QUANTA p) else 0) false :: s.sent) ∧
    (t.line.ports = Table.put lineEmpty s.line.ports p { s.lineOf p with txAgain := if (s.lineOf p).txAgain + s.halfQuanta p ≤ 100 * s.time.now then 100 * s.time.now + s.halfQuanta p else (s.lineOf p).txAgain + s.halfQuanta p })
    ∧ Frame (fun k => Nat.beq (keyIdx k) (0x2100 + p) || eventObjs k) noKey (.line :: .sent :: eventParts) s t) ∧
  (∀ (s : State) (g : Fin 16) (m v : Nat), s.Canonical → s.Accepts m (Obj.SNAPSHOT_GROUP_TRIGGER g) v → v = 1 → Table.get zeroN
    s.line.snapDone g ≤ s.time.now → s.sec.fusing = none → ∃ t, exec (.trigger g m v) s = .next t ∧ t.line.snapDone = Table.put zeroN
    s.line.snapDone g (s.time.now + 2048) ∧ t.line.snapCount = Table.put zeroN s.line.snapCount g (Table.get zeroN s.line.snapCount g +
    1) ∧ t.Answered m (Obj.SNAPSHOT_GROUP_TRIGGER g) .ok ∧ Frame (fun k => Nat.ble 0x2100 (keyIdx k) && Nat.ble (keyIdx k) 0x217F) noKey
    [.line, .dict, .sent] s t)

/-- EM_INSERT, EM_DELETE, EM_LOOKUP, EM_READ_INDEX and EM_UNLOCK: With the core on, of a startable job whose turn in its table it is, with
its reserved bytes 0 and a legal key in an enabled table, of a device not STANDBY where it changes the table, and with no upset met:
EM_INSERT with flags below 32, not both 1 and 2, and a RESULT below 2^17 for kind 2, whose insertion need not wait, inserts and ends with
the insertion's status, CREATED, EVICTED and index; EM_DELETE of a key that is there removes it, journals the removal and returns its index,
of one that is not ends NOT_FOUND; EM_LOOKUP of flags 0 returns RESULT, STAMP, STATIC and LOCK, of flags 2 also sets LOCK and returns what
it was before; of a key that is not there ends NOT_FOUND; EM_READ_INDEX of an index in the table, with a DMA that succeeds, writes the
entry's image to host memory and returns 0; EM_UNLOCK of a key that is there clears LOCK and returns 0; EM_DELETE in a STANDBY device ends
BUSY. Rests on (parts of) R94, R98, R124, R126, R400, R413, R471. Where these rules leave the point open it states the model's choice: log
entries 23, 50, 130, 178. -/
def Obligations.ExactMatchJobsRun : Prop :=
  (∀ (s : State) (q : Fin 1024) (i : Nat) (j : Job) (dma : Dma), s.CoreOn → s.startable q i 0x10 = some j → s.tableTurn j = true →
    s.isStandby = false → s.emLegal j = true → zeroBytes j.bytes [(18, 2)] = true → j.flags < 32 → ¬ (bit j.flags 1 = true ∧ bit j.flags
    2 = true) → (s.get (Obj.EM_TABLE_KIND j.tableNo) ≠ 2 ∨ wordAt j.bytes 20 4 < 2 ^ 17) → (s.emInsert j.tableNo (s.jobKey j) (wordAt
    j.bytes 20 4) ⟨bit j.flags 0, bit j.flags 1, bit j.flags 2, bit j.flags 3, bit j.flags 4⟩).waits = false → exec (.emInsert q i []
    dma) s = .next ((s.emInsert j.tableNo (s.jobKey j) (wordAt j.bytes 20 4) ⟨bit j.flags 0, bit j.flags 1, bit j.flags 2, bit j.flags
    3, bit j.flags 4⟩).st.endJob j dma (s.emInsert j.tableNo (s.jobKey j) (wordAt j.bytes 20 4) ⟨bit j.flags 0, bit j.flags 1, bit
    j.flags 2, bit j.flags 3, bit j.flags 4⟩).status (ofBool (s.emInsert j.tableNo (s.jobKey j) (wordAt j.bytes 20 4) ⟨bit j.flags 0,
    bit j.flags 1, bit j.flags 2, bit j.flags 3, bit j.flags 4⟩).created * 2 ^ 31 + ofBool (s.emInsert j.tableNo (s.jobKey j) (wordAt
    j.bytes 20 4) ⟨bit j.flags 0, bit j.flags 1, bit j.flags 2, bit j.flags 3, bit j.flags 4⟩).evicted * 2 ^ 30 + (s.emInsert j.tableNo
    (s.jobKey j) (wordAt j.bytes 20 4) ⟨bit j.flags 0, bit j.flags 1, bit j.flags 2, bit j.flags 3, bit j.flags 4⟩).index))) ∧
  (∀ (s : State) (q : Fin 1024) (i : Nat) (j : Job) (dma : Dma) (x : Nat × EmEntry), s.CoreOn → s.startable q i 0x11 = some j → s.tableTurn
    j = true → s.isStandby = false → s.emLegal j = true → zeroBytes j.bytes [(17, 7)] = true → s.emFind j.tableNo (s.jobKey j) = some x
    → exec (.emDelete q i [] dma) s = .next (((s.emPut j.tableNo x.1 none).journal (.emDel j.tableNo (s.jobKey j))).finishJob j dma .ok
    x.1)) ∧
  (∀ (s : State) (q : Fin 1024) (i : Nat) (j : Job) (dma : Dma), s.CoreOn → s.startable q i 0x11 = some j → s.tableTurn j = true →
    s.isStandby = false → s.emLegal j = true → zeroBytes j.bytes [(17, 7)] = true → s.emFind j.tableNo (s.jobKey j) = none → exec
    (.emDelete q i [] dma) s = .next (s.failJob j dma .notFound)) ∧
  (∀ (s : State) (q : Fin 1024) (i : Nat) (j : Job) (dma : Dma) (x : Nat × EmEntry), s.CoreOn → s.startable q i 0x12 = some j → s.tableTurn
    j = true → s.emLegal j = true → zeroBytes j.bytes [(18, 6)] = true → j.flags = 0 → s.emFind j.tableNo (s.jobKey j) = some x → exec
    (.emLookup q i [] dma) s = .next (s.finishJob j dma .ok (x.2.result * 2 ^ 32 + x.2.stamp * 2 ^ 16 + ofBool x.2.static * 2 ^ 15 +
    ofBool x.2.lock * 2 ^ 14))) ∧
  (∀ (s : State) (q : Fin 1024) (i : Nat) (j : Job) (dma : Dma) (x : Nat × EmEntry), s.CoreOn → s.startable q i 0x12 = some j → s.tableTurn
    j = true → s.isStandby = false → s.emLegal j = true → zeroBytes j.bytes [(18, 6)] = true → j.flags = 2 → s.emFind j.tableNo
    (s.jobKey j) = some x → exec (.emLookup q i [] dma) s = .next ((s.emPut j.tableNo x.1 (some { x.2 with lock := true })).finishJob j
    dma .ok (x.2.result * 2 ^ 32 + x.2.stamp * 2 ^ 16 + ofBool x.2.static * 2 ^ 15 + ofBool x.2.lock * 2 ^ 14))) ∧
  (∀ (s : State) (q : Fin 1024) (i : Nat) (j : Job) (dma : Dma), s.CoreOn → s.startable q i 0x12 = some j → s.tableTurn j = true →
    s.emLegal j = true → zeroBytes j.bytes [(18, 6)] = true → (j.flags = 0 ∨ j.flags = 2 ∧ s.isStandby = false) → s.emFind j.tableNo
    (s.jobKey j) = none → exec (.emLookup q i [] dma) s = .next (s.failJob j dma .notFound)) ∧
  (∀ (s : State) (q : Fin 1024) (i : Nat) (j : Job) (dma : Dma), s.CoreOn → s.startable q i 0x13 = some j → s.tableTurn j = true →
    j.tableNo < 16 → s.on (Obj.EM_TABLE_ENABLE j.tableNo) = true → zeroBytes j.bytes [(17, 3), (24, 24), (56, 8)] = true → wordAt
    j.bytes 20 4 < 4 * s.emBuckets j.tableNo → dma.ok = true → exec (.emReadIndex q i [] dma) s = .next ((s.jobWrite j (wordAt j.bytes
    48 8) (bytesBE (if s.emWide j.tableNo then 32 else 16) (emImage (s.emWide j.tableNo) (s.emAt j.tableNo (wordAt j.bytes 20
    4))))).finishJob j dma .ok 0)) ∧
  (∀ (s : State) (q : Fin 1024) (i : Nat) (j : Job) (dma : Dma) (x : Nat × EmEntry), s.CoreOn → s.startable q i 0x14 = some j → s.tableTurn
    j = true → s.isStandby = false → s.emLegal j = true → zeroBytes j.bytes [(17, 7)] = true → s.emFind j.tableNo (s.jobKey j) = some x
    → exec (.emUnlock q i [] dma) s = .next ((s.emPut j.tableNo x.1 (some { x.2 with lock := false })).finishJob j dma .ok 0)) ∧
  (∀ (s : State) (q : Fin 1024) (i : Nat) (j : Job) (dma : Dma), s.CoreOn → s.startable q i 0x11 = some j → s.tableTurn j = true →
    s.emLegal j = true → zeroBytes j.bytes [(17, 7)] = true → s.isStandby = true → exec (.emDelete q i [] dma) s = .next (s.failJob j
    dma .busy))

/-- ROUTE_ADD, ROUTE_DELETE, ROUTE_READ, ROUTE_MATCH, LABEL_WRITE and LABEL_READ: With the core on, of a startable job whose turn it is,
with its reserved bytes 0, of a device not STANDBY where it changes a table, and with no upset met: ROUTE_ADD and ROUTE_DELETE end with the
status and return value that routeAdd and routeDelete answer, in the state they leave; ROUTE_READ of a legal route returns its RESULT where
it is held and no structure is being removed, and ends NOT_FOUND where it is not held; ROUTE_MATCH of a legal address returns the length and
the RESULT that routeMatch answers. LABEL_WRITE of a label below 2^20 with a legal entry writes it and returns 0; LABEL_READ of a valid
entry returns it, of one that is not valid ends NOT_FOUND. Rests on (parts of) R108 to R113, R124, R126, R400, R413. Where these rules leave
the point open it states the model's choice: log entries 23, 49, 50, 53, 135. -/
def Obligations.RouteAndLabelJobsRun : Prop :=
  (∀ (s : State) (q : Fin 1024) (i : Nat) (j : Job) (dma : Dma), s.CoreOn → s.startable q i 0x15 = some j → s.tableTurn j = true →
    s.isStandby = false → zeroBytes j.bytes [(40, 24)] = true → exec (.routeAdd q i [] dma) s = .next ((s.routeAdd j.family j.vrf
    j.flags j.prefixBits (wordAt j.bytes 20 4)).2.2.endJob j dma (s.routeAdd j.family j.vrf j.flags j.prefixBits (wordAt j.bytes 20
    4)).1 (s.routeAdd j.family j.vrf j.flags j.prefixBits (wordAt j.bytes 20 4)).2.1)) ∧
  (∀ (s : State) (q : Fin 1024) (i : Nat) (j : Job) (dma : Dma), s.CoreOn → s.startable q i 0x16 = some j → s.tableTurn j = true →
    s.isStandby = false → zeroBytes j.bytes [(20, 4), (40, 24)] = true → exec (.routeDelete q i [] dma) s = .next ((s.routeDelete
    j.family j.vrf j.flags j.prefixBits).2.2.endJob j dma (s.routeDelete j.family j.vrf j.flags j.prefixBits).1 (s.routeDelete j.family
    j.vrf j.flags j.prefixBits).2.1)) ∧
  (∀ (s : State) (q : Fin 1024) (i : Nat) (j : Job) (dma : Dma) (r : Nat), s.CoreOn → s.startable q i 0x17 = some j → s.tableTurn j = true
    → zeroBytes j.bytes [(20, 4), (40, 24)] = true → routeOk j.family j.vrf j.flags j.prefixBits = true → s.route j.family j.vrf j.flags
    j.prefixBits = some r → s.tab.lpmDamage = [] → exec (.routeRead q i [] dma) s = .next (s.finishJob j dma .ok r)) ∧
  (∀ (s : State) (q : Fin 1024) (i : Nat) (j : Job) (dma : Dma), s.CoreOn → s.startable q i 0x17 = some j → s.tableTurn j = true →
    zeroBytes j.bytes [(20, 4), (40, 24)] = true → routeOk j.family j.vrf j.flags j.prefixBits = true → s.route j.family j.vrf j.flags
    j.prefixBits = none → exec (.routeRead q i [] dma) s = .next (s.failJob j dma .notFound)) ∧
  (∀ (s : State) (q : Fin 1024) (i : Nat) (j : Job) (dma : Dma) (r n : Nat), s.CoreOn → s.startable q i 0x18 = some j → s.tableTurn j =
    true → zeroBytes j.bytes [(17, 1), (20, 4), (40, 24)] = true → routeOk j.family j.vrf (famBits j.family) j.prefixBits = true →
    s.routeMatch j.family j.vrf j.prefixBits = some (r, n) → exec (.routeMatch q i [] dma) s = .next (s.finishJob j dma .ok (n * 2 ^ 32
    + r))) ∧
  (∀ (s : State) (q : Fin 1024) (i : Nat) (j : Job) (dma : Dma), s.CoreOn → s.startable q i 0x19 = some j → s.tableTurn j = true →
    s.isStandby = false → zeroBytes j.bytes [(16, 4), (32, 32)] = true → j.label < 1048576 → labelStatus (wordAt j.bytes 24 8) = .ok →
    exec (.labelWrite q i [] dma) s = .next ((s.labelPut j.label (wordAt j.bytes 24 8)).finishJob j dma .ok 0)) ∧
  (∀ (s : State) (q : Fin 1024) (i : Nat) (j : Job) (dma : Dma), s.CoreOn → s.startable q i 0x1a = some j → s.tableTurn j = true →
    zeroBytes j.bytes [(16, 4), (24, 40)] = true → j.label < 1048576 → bits (s.dom Dom.LABEL_TABLE j.label) 63 1 = 1 → exec (.labelRead
    q i [] dma) s = .next (s.finishJob j dma .ok (s.dom Dom.LABEL_TABLE j.label))) ∧
  (∀ (s : State) (q : Fin 1024) (i : Nat) (j : Job) (dma : Dma), s.CoreOn → s.startable q i 0x1a = some j → s.tableTurn j = true →
    zeroBytes j.bytes [(16, 4), (24, 40)] = true → j.label < 1048576 → bits (s.dom Dom.LABEL_TABLE j.label) 63 1 = 0 → exec (.labelRead
    q i [] dma) s = .next (s.finishJob j dma .notFound 0))

/-- A route search answers the longest route that covers the address: Where no structure is being removed: a route search that answers a
RESULT and a length answers the RESULT of a route held under that length, whose first length bits are those of the address, and no longer
route of the family and VRF covers the address; it answers none only when no route of any length covers it; and where the VRF holds a route
of length 0, every address of the family finds a route. -/
def Obligations.LongestMatchIsLongest : Prop :=
  (∀ (s : State) (f v a r n : Nat), s.tab.lpmDamage = [] → s.routeMatch f v a = some (r, n) → n ≤ famBits f ∧ s.route f v n (a / 2 ^
    (famBits f - n) * 2 ^ (famBits f - n)) = some r ∧ ∀ m, n < m → m ≤ famBits f → s.route f v m (a / 2 ^ (famBits f - m) * 2 ^ (famBits
    f - m)) = none) ∧
  (∀ (s : State) (f v a n : Nat), s.tab.lpmDamage = [] → s.routeMatch f v a = none → n ≤ famBits f → s.route f v n (a / 2 ^ (famBits f - n)
    * 2 ^ (famBits f - n)) = none) ∧
  (∀ (s : State) (f v a d : Nat), s.tab.lpmDamage = [] → s.route f v 0 0 = some d → a < 2 ^ famBits f → (s.routeMatch f v a).isSome = true)

/-- TCAM_WRITE, TCAM_READ, TCAM_INVALIDATE and TCAM_MOVE: With the core on, of a startable job whose turn it is, of one of the four tables,
with its reserved bytes 0, of a device not STANDBY where it changes the table, and with no upset met; but for TCAM_MOVE, of a position of an
enabled table: TCAM_WRITE with 96 bytes read that are a legal image stores it, the position's data being intact again, and returns 0;
TCAM_READ with a DMA that succeeds writes the image of a position with intact data to host memory and returns 0; of one with damaged data it
counts the parity, raises E-3208 and ends PARITY; TCAM_INVALIDATE of a valid position makes it invalid and returns 0, of an invalid one ends
NOT_FOUND; TCAM_MOVE ends with the status and return value that tcamMove answers, in the state it leaves. Rests on (parts of) R115 to R122,
R124 to R126. Where these rules leave the point open it states the model's choice: log entries 12, 48, 50. -/
def Obligations.TcamJobsRun : Prop :=
  (∀ (s : State) (q : Fin 1024) (i : Nat) (j : Job) (dma : Dma) (d : List Byte), s.CoreOn → s.startable q i 0x1b = some j → s.tableTurn j =
    true → s.isStandby = false → j.tableNo < 4 → zeroBytes j.bytes [(17, 3), (24, 24), (56, 8)] = true → dma.data = some d → d.length =
    96 → s.on (Obj.TCAM_TABLE_ENABLE j.tableNo) = true → (wordAt j.bytes 20 4) < s.tcamPositions j.tableNo → tcamImageOk (s.tcamWidth
    j.tableNo) (natBE d) = true → exec (.tcamWrite q i [] dma) s = .next (((s.assocWritten (s.tcamAddr j.tableNo (wordAt j.bytes 20
    4))).tcamPut (s.tcamAddr j.tableNo (wordAt j.bytes 20 4)) (tcamOfImage (natBE d))).finishJob j dma .ok 0)) ∧
  (∀ (s : State) (q : Fin 1024) (i : Nat) (j : Job) (dma : Dma), s.CoreOn → s.startable q i 0x1c = some j → s.tableTurn j = true →
    j.tableNo < 4 → zeroBytes j.bytes [(17, 3), (24, 24), (56, 8)] = true → s.on (Obj.TCAM_TABLE_ENABLE j.tableNo) = true → (wordAt
    j.bytes 20 4) < s.tcamPositions j.tableNo → s.tab.assocBad.contains (s.tcamAddr j.tableNo (wordAt j.bytes 20 4)) = false → dma.ok =
    true → exec (.tcamRead q i [] dma) s = .next ((s.jobWrite j (wordAt j.bytes 48 8) (bytesBE 96 (tcamImage (s.tcamAt (s.tcamAddr
    j.tableNo (wordAt j.bytes 20 4)))))).finishJob j dma .ok 0)) ∧
  (∀ (s : State) (q : Fin 1024) (i : Nat) (j : Job) (dma : Dma), s.CoreOn → s.startable q i 0x1c = some j → s.tableTurn j = true →
    j.tableNo < 4 → zeroBytes j.bytes [(17, 3), (24, 24), (56, 8)] = true → s.on (Obj.TCAM_TABLE_ENABLE j.tableNo) = true → (wordAt
    j.bytes 20 4) < s.tcamPositions j.tableNo → s.tab.assocBad.contains (s.tcamAddr j.tableNo (wordAt j.bytes 20 4)) = true → exec
    (.tcamRead q i [] dma) s = .next (((s.parityFound (assocBank (s.tcamAddr j.tableNo (wordAt j.bytes 20 4)))).raise 0x3208 (uBank
    (assocBank (s.tcamAddr j.tableNo (wordAt j.bytes 20 4)))) 0 0).failJob j dma .parity)) ∧
  (∀ (s : State) (q : Fin 1024) (i : Nat) (j : Job) (dma : Dma), s.CoreOn → s.startable q i 0x1d = some j → s.tableTurn j = true →
    s.isStandby = false → j.tableNo < 4 → zeroBytes j.bytes [(17, 3), (24, 40)] = true → s.on (Obj.TCAM_TABLE_ENABLE j.tableNo) = true →
    (wordAt j.bytes 20 4) < s.tcamPositions j.tableNo → (s.tcamAt (s.tcamAddr j.tableNo (wordAt j.bytes 20 4))).valid = true → exec
    (.tcamInvalidate q i [] dma) s = .next ((s.tcamPut (s.tcamAddr j.tableNo (wordAt j.bytes 20 4)) { s.tcamAt (s.tcamAddr j.tableNo (wordAt j.bytes 20 4)) with valid := false }).finishJob
    j dma .ok 0)) ∧
  (∀ (s : State) (q : Fin 1024) (i : Nat) (j : Job) (dma : Dma), s.CoreOn → s.startable q i 0x1d = some j → s.tableTurn j = true →
    s.isStandby = false → j.tableNo < 4 → zeroBytes j.bytes [(17, 3), (24, 40)] = true → s.on (Obj.TCAM_TABLE_ENABLE j.tableNo) = true →
    (wordAt j.bytes 20 4) < s.tcamPositions j.tableNo → (s.tcamAt (s.tcamAddr j.tableNo (wordAt j.bytes 20 4))).valid = false → exec
    (.tcamInvalidate q i [] dma) s = .next (s.failJob j dma .notFound)) ∧
  (∀ (s : State) (q : Fin 1024) (i : Nat) (j : Job) (dma : Dma), s.CoreOn → s.startable q i 0x1e = some j → s.tableTurn j = true →
    s.isStandby = false → j.tableNo < 4 → zeroBytes j.bytes [(17, 3), (30, 34)] = true → exec (.tcamMove q i [] dma) s = .next
    ((s.tcamMove j.tableNo (wordAt j.bytes 20 4) (wordAt j.bytes 24 4) (wordAt j.bytes 28 2)).2.2.endJob j dma (s.tcamMove j.tableNo
    (wordAt j.bytes 20 4) (wordAt j.bytes 24 4) (wordAt j.bytes 28 2)).1 (s.tcamMove j.tableNo (wordAt j.bytes 20 4) (wordAt j.bytes 24
    4) (wordAt j.bytes 28 2)).2.1))

/-- SCRUB_ROW, TCAM_SCRUB, LPM_LOSS, and the TCAM's ENABLE and bank widths: With the core on: SCRUB_ROW when due moves on by one row, after
row 2,559 to the next bank and after bank 1,535 to a new pass with the SCRUB_PERIOD in force then; with no damage in the row that is all;
the damage it finds in the row and the given upsets of that row are repaired and reported as upset does. TCAM_SCRUB moves on by one unit mod
65,536; with the shadow intact and one replica differing it also adds 1 to REPLICA_FIXES, and with none nothing else. LPM_LOSS of the oldest
structure marked for removal drops the mark, adds its count to PARITY_LOSSES and 1 to LOSS_NEXT, writes its record with the number, family,
length, VRF, count and prefix into LPM_LOSSES and makes one occurrence of E-3205. An accepted ENABLE of a TCAM table that is 0, or 1 in a
legal configuration, is stored; an accepted width of a bank that no enabled table holds is stored and clears the bank's entries; of a bank
that one holds it is BUSY and changes only the access status. Rests on (parts of) R115, R119, R120, R123, R127, R128. Where these rules
leave the point open it states the model's choice: log entries 47, 48, 49, 133, 177, 219. -/
def Obligations.TablesAreScrubbedConfigured : Prop :=
  (∀ (s : State), s.CoreOn → s.scrubDue = true → s.rowDamage s.tab.scrubBank s.tab.scrubRow = [] → ∃ t, exec (.scrubRow []) s = .next t ∧
    (t.tab = if s.tab.scrubRow + 1 < 2560 then { s.tab with scrubRow := s.tab.scrubRow + 1 } else if s.tab.scrubBank + 1 < 1536 then { s.tab with scrubRow := 0, scrubBank := s.tab.scrubBank + 1 }
    else { s.tab with scrubRow := 0, scrubBank := 0, scrubStart := s.tab.scrubStart.map (· + s.tab.scrubMs * ms), scrubMs := s.get Obj.TABLE_MEMORY_SCRUB_PERIOD })
    ∧ Frame noKey noKey [.tab] s t) ∧
  (∀ (s : State) (l : List Upset), s.CoreOn → s.scrubDue = true → exec (.scrubRow l) s = .next (forEach (s.rowDamage s.tab.scrubBank
    s.tab.scrubRow ++ l.filter fun u => s.upsetIn s.tab.scrubBank s.tab.scrubRow u && !(s.rowDamage s.tab.scrubBank
    s.tab.scrubRow).contains u) s.scrubNext fun s u => s.upset true u)) ∧
  (∀ (s : State) (n : Nat), s.CoreOn → ∃ t, exec (.tcamScrub [] false n) s = .next t ∧ t.tab = { s.tab with tcamScrub := (s.tab.tcamScrub + 1) % 65536 }
    ∧ Frame noKey noKey [.tab] s t) ∧
  (∀ (s : State) (n : Nat) (k : Fin 8), s.Canonical → s.CoreOn → ∃ t, exec (.tcamScrub [k] false n) s = .next t ∧ t.tab = { s.tab with tcamScrub := (s.tab.tcamScrub + 1) % 65536 }
    ∧ t.get Obj.TCAM_SCRUB_REPLICA_FIXES = wrapAdd 64 (s.get Obj.TCAM_SCRUB_REPLICA_FIXES) 1 ∧ Frame (keysAndEvents
    [Obj.TCAM_SCRUB_REPLICA_FIXES]) noKey (.tab :: eventParts) s t) ∧
  (∀ (s : State) (d : LpmDamage) (l : List LpmDamage), s.Canonical → s.CoreOn → s.tab.lpmDamage = d :: l → ∃ t, exec (.lpmLoss) s = .next t
    ∧ t.tab = { s.tab with lpmDamage := l } ∧ t.get Obj.LPM_CTRL_LOSS_NEXT = wrapAdd 32 (s.get Obj.LPM_CTRL_LOSS_NEXT) 1 ∧ t.get
    Obj.LPM_CTRL_PARITY_LOSSES = wrapAdd 64 (s.get Obj.LPM_CTRL_PARITY_LOSSES) d.count ∧ t.dom Dom.LPM_LOSSES (s.get
    Obj.LPM_CTRL_LOSS_NEXT % 256) = Fld.LL_VALID.set (Fld.LL_FAMILY.set (Fld.LL_LENGTH.set (Fld.LL_VRF.set (Fld.LL_COUNT.set
    (Fld.LL_LOSS_NUMBER.set (Fld.LL_PREFIX.set 0 d.pfx) (s.get Obj.LPM_CTRL_LOSS_NEXT)) d.count) d.vrf) d.len) d.family) 1 ∧ Occurred s
    t 0x3205 (uBank d.bank) (d.family * 2 ^ 60 + d.len % 256 * 2 ^ 52 + d.vrf % 4096 * 2 ^ 40 + d.count % 2 ^ 24 * 2 ^ 16 + s.get
    Obj.LPM_CTRL_LOSS_NEXT % 256) d.family ∧ Frame (keysAndEvents [Obj.LPM_CTRL_LOSS_NEXT, Obj.LPM_CTRL_PARITY_LOSSES]) (keysOf [domKey
    Dom.LPM_LOSSES (s.get Obj.LPM_CTRL_LOSS_NEXT % 256)]) (.tab :: eventParts) s t) ∧
  (∀ (s : State) (n : Fin 4) (m v : Nat), s.Canonical → s.Accepts m (Obj.TCAM_TABLE_ENABLE n) v → (v = 0 ∨ s.tcamBad n = false) →
    s.sec.fusing = none → ∃ t, exec (.tcamTableEnable n m v) s = .next t ∧ t.get (Obj.TCAM_TABLE_ENABLE n) = v ∧ t.Answered m
    (Obj.TCAM_TABLE_ENABLE n) .ok ∧ Frame (keysOf [Obj.TCAM_TABLE_ENABLE n]) noKey [.pair, .dict, .sent] s t) ∧
  (∀ (s : State) (b : Fin 16) (m v : Nat), s.Canonical → s.Accepts m (Obj.TCAM_BANKS_WIDTH_TB b) v → s.tcamOwner (4096 * b.val) = none →
    s.sec.fusing = none → ∃ t, exec (.tcamBankWidth b m v) s = .next t ∧ t.get (Obj.TCAM_BANKS_WIDTH_TB b) = v ∧ (t.tab = { s.tab with tcam := Table.keep (fun a => !(Nat.beq (a / 4096) b)) s.tab.tcam, assocBad := s.tab.assocBad.filter fun a => !(Nat.beq (a / 4096) b) })
    ∧ t.Answered m (Obj.TCAM_BANKS_WIDTH_TB b) .ok ∧ Frame (keysOf [Obj.TCAM_BANKS_WIDTH_TB b]) noKey [.tab, .pair, .dict, .sent] s t) ∧
  (∀ (s : State) (b : Fin 16) (m v : Nat), s.Canonical → s.Accepts m (Obj.TCAM_BANKS_WIDTH_TB b) v → (s.tcamOwner (4096 * b.val)).isSome =
    true → s.sec.fusing = none → ∃ t, exec (.tcamBankWidth b m v) s = .next t ∧ t.Answered m (Obj.TCAM_BANKS_WIDTH_TB b) .busy ∧ Frame
    (keysOf [Obj.ACCESS_STATUS_LAST_STATUS m, Obj.ACCESS_STATUS_LAST_OBJECT m, Obj.ACCESS_STATUS_REFUSED m]) noKey [.sent] s t)

/-- REACH, its timeout and sending, the spray set, and unreachable destinations: With the core on: REACH on an enabled lane outside mode 1
notes the instant, sets the named quarter of the lane's map, judges the lane and lets the reachable devices follow; in mode 1 a REACH from a
device sets the named quarter and clears the other three; REACH_TIMEOUT 16 us after the latest clears all four quarters. In mode 1 a REACH
from an element is outside these clauses. REACH_TX puts this device's announcement (its quarter, its number and its bit) at the end of the
control queue of every enabled lane whose last announcement is 1,000 ns or more past, with the instant. SPRAY_JOIN of a lane whose
conditions, judged now, have held for REJOIN_MS lets it join the spray set. UNREACH_DISCARD of a device unreachable for UNREACH_MS (not 0),
not yet noted so, with no packet queued, notes it and raises E-5201 with the device. Rests on (parts of) R300 to R303. Where these rules
leave the point open it states the model's choice: log entries 67, 149. -/
def Obligations.FabricLanesAreReached : Prop :=
  (∀ (s : State) (n : FabricLane) (f : Bool) (q : Fin 4) (d : Fin 256) (x : Nat), s.CoreOn → s.on (Obj.FABRIC_LANE_FL_ENABLE n) = true →
    s.get Obj.FABRIC_CTRL_FABRIC_MODE ≠ 1 → exec (.reach n f q d x) s = .next ((((s.setFl n { s.fl n with reachAt := s.time.now }).set
    (Obj.FABRIC_LANE_REACH n q) (x % 2 ^ 64)).judgeLane n).reachFollow)) ∧
  (∀ (s : State) (n : FabricLane) (q : Fin 4) (d : Fin 256) (x : Nat), s.CoreOn → s.on (Obj.FABRIC_LANE_FL_ENABLE n) = true → s.get
    Obj.FABRIC_CTRL_FABRIC_MODE = 1 → exec (.reach n false q d x) s = .next ((((forEach (List.range 4) (s.setFl n { s.fl n with reachAt := s.time.now })
    fun s k => s.set (Obj.FABRIC_LANE_REACH n k) 0).set (Obj.FABRIC_LANE_REACH n q) (x % 2 ^ 64)).judgeLane n).reachFollow)) ∧
  (∀ (s : State) (n : FabricLane), s.CoreOn → (s.fl n).reachAt + 16000 ≤ s.time.now → exec (.reachTimeout n) s = .next (((forEach
    (List.range 4) s fun s k => s.set (Obj.FABRIC_LANE_REACH n k) 0).judgeLane n).reachFollow)) ∧
  (∀ (s : State), s.CoreOn → exec (.reachTx) s = .next (forEach ((List.range 160).filter fun n => s.on (Obj.FABRIC_LANE_FL_ENABLE n)) s fun
    u n => if ((u.fl n).announced.all fun b => Nat.ble (b + 1000) u.time.now) = true then u.setFl n { u.fl n with ctl := (u.fl n).ctl ++ [{ dest := 0, bytes := s.messageCell cLINK 0 [reachMessage 0 (s.get Obj.FABRIC_CTRL_DEVICE_ID / 64) (s.get Obj.FABRIC_CTRL_DEVICE_ID) (2 ^ (s.get Obj.FABRIC_CTRL_DEVICE_ID % 64))] }], announced := some u.time.now }
    else u)) ∧
  (∀ (s : State) (n : FabricLane) (b : Nat), s.CoreOn → ((s.judgeLane n).fl n).okSince = some b → b + (s.judgeLane n).get
    Obj.FABRIC_CTRL_REJOIN_MS * ms ≤ (s.judgeLane n).time.now → exec (.sprayJoin n) s = .next ((s.judgeLane n).joinSpray n)) ∧
  (∀ (s : State) (d : Fin 256) (b : Nat), s.CoreOn → s.unreachSince d = some b → 0 < s.get Obj.FABRIC_CTRL_UNREACH_MS → b + s.get
    Obj.FABRIC_CTRL_UNREACH_MS * ms ≤ s.time.now → s.fab.discarding.contains d.val = false → s.net.queues = [] → exec (.unreachDiscard
    d) s = .next ((s.withFab { s.fab with discarding := d.val :: s.fab.discarding }).raise 0x5201 uTD2D (packArg [(16, d.val)]) d.val))

/-- CELL_RX, FABRIC_ENABLE, and the timeouts of contexts, heads and scheduled flows: With the core on: CELL_RX of 256 bytes on an enabled
lane whose sector takes work takes the cell, with the outcome of its ECC, as State.cell says; where the cell is not all 0xFF, of type DATA,
with its check right and for another device, that means MISROUTED and CELLS_RX rise by 1 and nothing else changes. An accepted FABRIC_ENABLE
1 is stored, judges each lane anew and is answered as State.finish says. REASM_TIMEOUT of a context that has expired ends it as timeoutCtx
says; HEAD_LOSS of a stream whose next tag has no context loses the tag when its instant lies in the past, and at the instant itself marks
the loss due, so that a completion then comes first; SCHED_FLOW_TIMEOUT of a flow whose last cell is REASM_TIMEOUT_NS or more old ends it as
slotError says, with TIMEOUTS counted. Rests on (parts of) R295, R297, R309, R313, R316, R328, R333. Where these rules leave the point open
it states the model's choice: log entries 65, 68, 69, 70, 164, 187. -/
def Obligations.CellsAreTakenOrLost : Prop :=
  (∀ (s : State) (n : FabricLane) (f : Fin 64) (x : Fin 16) (c : RxCell), s.CoreOn → s.on (Obj.FABRIC_LANE_FL_ENABLE n) = true →
    s.tsBlocked (n / 20) = false → c.bytes.length = 256 → exec (.cellRx n f x c) s = .next (s.cell n f x c.bytes c.ecc)) ∧
  (∀ (s : State) (n : FabricLane) (f : Fin 64) (x : Fin 16) (c : RxCell), s.Canonical → s.CoreOn → s.on (Obj.FABRIC_LANE_FL_ENABLE n) =
    true → s.tsBlocked (n / 20) = false → c.bytes.length = 256 → ((c.bytes.all fun b => decide (b = 0xFF#8)) = false) →
    Fld.CELL_TYPE.get (wordAt c.bytes 0 16) = cDATA → Fld.CELL_CHECK.get (wordAt c.bytes 0 16) = cellCheck c.bytes →
    Fld.CELL_DEST_DEV.get (wordAt c.bytes 0 16) ≠ s.get Obj.FABRIC_CTRL_DEVICE_ID → ∃ t, exec (.cellRx n f x c) s = .next t ∧ t.get
    Obj.FABRIC_CTRL_MISROUTED = wrapAdd 64 (s.get Obj.FABRIC_CTRL_MISROUTED) 1 ∧ t.get (Obj.FABRIC_LANE_CELLS_RX n) = wrapAdd 64 (s.get
    (Obj.FABRIC_LANE_CELLS_RX n)) 1 ∧ Frame (keysOf [Obj.FABRIC_CTRL_MISROUTED, Obj.FABRIC_LANE_CELLS_RX n]) noKey [] s t) ∧
  (∀ (s : State) (m v : Nat), s.Accepts m Obj.FABRIC_CTRL_FABRIC_ENABLE v → v = 1 → exec (.fabricEnable m v) s = .next (State.finish
    (pathOf m) m Obj.FABRIC_CTRL_FABRIC_ENABLE (.ok, forEach (List.range 160) (s.commit Obj.FABRIC_CTRL_FABRIC_ENABLE v) fun s n =>
    s.judgeLane n))) ∧
  (∀ (s : State) (a : Fin 256) (c : Fin 8) (g : Fin 65536) (x : Ctx), s.CoreOn → s.ctxOf (8 * a.val + c.val) g = some x → s.expired x =
    true → exec (.reasmTimeout a c g) s = .next (s.timeoutCtx x)) ∧
  (∀ (s : State) (a : Fin 256) (c : Fin 8) (b : Nat), s.CoreOn → s.headLossAt (8 * a.val + c.val) = some b → b < s.time.now → s.ctxOf (8 *
    a.val + c.val) (s.stream (8 * a.val + c.val)).next = none → exec (.headLoss a c) s = .next (s.loseTag (8 * a.val + c.val) (s.stream
    (8 * a.val + c.val)).next)) ∧
  (∀ (s : State) (a : Fin 256) (c : Fin 8) (b : Nat), s.CoreOn → s.headLossAt (8 * a.val + c.val) = some b → b = s.time.now → exec
    (.headLoss a c) s = .next (s.setStream (8 * a.val + c.val) { s.stream (8 * a.val + c.val) with lossDue := true })) ∧
  (∀ (s : State) (f : Fin 4096) (x : FlowRx), s.CoreOn → s.flowRx f = some x → x.at' + s.get Obj.REASSEMBLY_REASM_TIMEOUT_NS ≤ s.time.now →
    exec (.schedFlowTimeout f) s = .next (s.slotError x.lane f (some Obj.REASSEMBLY_TIMEOUTS)))

/-- TX_LINK_FRAME, RX_LINK_FRAME, FAW_MATCH, RX_FRAME_COUNTER, LOS, LOS_CLEAR and SL_ENABLE: On an enabled lane with the core on:
TX_LINK_FRAME, its sector taking work, first makes a page switch that is due at frame 0, then emits one scrambled frame of the crust (FAW,
FRAME_NUM, the byte of TRACE_TX, AIS, RDI, PAGE, SCHED, the BIP-8 of the frame before) and the cells of frameCells, advances FRAME_NUM mod
64, keeps the frame's BIP-8 and counts the cells that are not IDLE. RX_LINK_FRAME, its sector taking work, first opens a new second of the
lane where one began, and counts its symbols and the codewords not counted with the frame before: in SYNC, of 4,128 bytes with FAW and
number as expected, no defect masking before or after its indications, it checks BIP, trace, AIS, RDI, TIM and page, takes its 16 cells (AIS
cells where a defect replaces them) and, with fewer than 4 of them bad, advances the number; in SYNC of fewer bytes it takes the part that
came (partFrame); outside SYNC that count is all. FAW_MATCH outside SYNC and not at the instant of LOS: the third match of a candidate in
its place enters SYNC at the instant's end, a first match opens a candidate and PRESYNC. RX_FRAME_COUNTER outside SYNC takes AIS cells for
the slots of the frame not yet delivered and advances the number. LOS darkens the lane, hunts, masks the lower defects and declares LOS;
LOS_CLEAR 100 us later clears it, outside SYNC declaring LOF, in SYNC judging TIM and the defects anew. An accepted SL_ENABLE 1 over an
enabled fabric lane that no other scheduled lane in service has is stored, starts the lane's Loaf afresh where it was not in service, and
judges the VOQs' requests anew. Rests on (parts of) R318 to R329. Where these rules leave the point open it states the model's choice: log
entries 68, 69, 70, 214, 215, 216. -/
def Obligations.LinkFramesAreSentAndReceived : Prop :=
  (∀ (s : State) (n : FabricLane) (w : State) (x : List (List Byte) × State) (f : List Byte), s.CoreOn → s.on (Obj.FABRIC_LANE_FL_ENABLE n)
    = true → s.tsBlocked (n / 20) = false → (w = ((s.schedLane n).elim s fun k => if (s.duePages k).fab.switching.contains k = true ∧
    (s.fl n).txNum = 0 then (s.duePages k).flipPage k n else s.duePages k).spray) → x = State.frameCells n (w.txEntries n) 0 w → (f =
    scrambleFrame ((bytesBE 32 (([(Fld.CRUST_FAW, FAW), (Fld.CRUST_FRAME_NUM, (s.fl n).txNum), (Fld.CRUST_TRACE, bits (x.2.setting
    (Obj.FABRIC_LANE_TRACE_TX n)) (8 * (s.fl n).txNum) 8), (Fld.CRUST_AIS, x.2.setting (Obj.FABRIC_LANE_FORCE_AIS n)), (Fld.CRUST_RDI,
    ofBool ((x.2.fl n).rdiSent x.2.time.now)), (Fld.CRUST_PAGE, ((s.schedLane n).map fun k => x.2.get (Obj.SCHED_LANE_TX_PAGE k)).getD
    0), (Fld.CRUST_SCHED, ofBool (s.schedLane n).isSome), (Fld.CRUST_BIP8, (x.2.fl n).txBip)] : List (Field × Nat)).foldl (fun m y =>
    y.1.set m y.2) 0)) ++ x.1.flatten)) → exec (.txLinkFrame n) s = .next (((x.2.setFl n { x.2.fl n with txNum := ((s.fl n).txNum + 1) % 64, txBip := xorAll f }).bump
    (Obj.FABRIC_LANE_CELLS_TX n) (x.1.filter fun c => !Nat.beq (bits (byteAt c 0) 5 3) cIDLE).length).emit (.linkFrame n f))) ∧
  (∀ (s : State) (n : FabricLane) (f : List Byte) (a : Nat) (b : FecErrors) (c : Nat) (p m u : State) (x : Bool × State), s.CoreOn → s.on
    (Obj.FABRIC_LANE_FL_ENABLE n) = true → s.tsBlocked (n / 20) = false → s.get (Obj.FABRIC_LANE_FRAME_STATE n) = 2 → f.length = 4128 →
    c = wordAt (scrambleFrame f) 0 32 → Fld.CRUST_FAW.get c = FAW → Fld.CRUST_FRAME_NUM.get c = (s.fl n).rxNum → p = ((s.pmTurn n).setFl
    n { (s.pmTurn n).fl n with pm := { ((s.pmTurn n).fl n).pm with symbols := ((s.pmTurn n).fl n).pm.symbols + a, uncorr := ((s.pmTurn n).fl n).pm.uncorr + b.overlap - ofBool b.carried } }).checkBip
    n (Fld.CRUST_BIP8.get c) (xorAll f) (Nat.blt 0 b.overlap) → x = (p.setFl n { p.fl n with bad := 0 }).checkTrace n
    (Fld.CRUST_TRACE.get c) false → x.2.masked n = false → m = x.2.checkIndications n (Nat.beq (Fld.CRUST_AIS.get c) 1) (Nat.beq
    (Fld.CRUST_RDI.get c) 1) → m.masked n = false → (u = forEach (List.range 16) ((m.judgeTim n x.1).checkPage n (Fld.CRUST_PAGE.get c)
    false) (fun v k => if v.replaces n then v.aisCell n (s.fl n).rxNum k else v.cell n (s.fl n).rxNum k (((scrambleFrame f).drop (32 +
    256 * k)).take 256))) → (u.fl n).bad < 4 → exec (.rxLinkFrame n f a b) s = .next (u.setFl n { u.fl n with rxNum := ((s.fl n).rxNum + 1) % 64, rxSlot := 0 })) ∧
  (∀ (s : State) (n : FabricLane) (f : List Byte) (a : Nat) (b : FecErrors), s.CoreOn → s.on (Obj.FABRIC_LANE_FL_ENABLE n) = true →
    s.tsBlocked (n / 20) = false → s.get (Obj.FABRIC_LANE_FRAME_STATE n) ≠ 2 → exec (.rxLinkFrame n f a b) s = .next ((s.pmTurn n).setFl
    n { (s.pmTurn n).fl n with pm := { ((s.pmTurn n).fl n).pm with symbols := ((s.pmTurn n).fl n).pm.symbols + a, uncorr := ((s.pmTurn n).fl n).pm.uncorr + b.overlap - ofBool b.carried } })) ∧
  (∀ (s : State) (n : FabricLane) (f : List Byte) (a : Nat) (b : FecErrors) (p : State), s.CoreOn → s.on (Obj.FABRIC_LANE_FL_ENABLE n) =
    true → s.tsBlocked (n / 20) = false → s.get (Obj.FABRIC_LANE_FRAME_STATE n) = 2 → f.length < 4128 → p = (s.pmTurn n).setFl n { (s.pmTurn n).fl n with pm := { ((s.pmTurn n).fl n).pm with symbols := ((s.pmTurn n).fl n).pm.symbols + a, uncorr := ((s.pmTurn n).fl n).pm.uncorr + b.overlap - ofBool b.carried } }
    → exec (.rxLinkFrame n f a b) s = .next (p.partFrame n (scrambleFrame f))) ∧
  (∀ (s : State) (n : FabricLane) (p : Nat) (k : Fin 64) (c : FawCandidate), s.CoreOn → s.on (Obj.FABRIC_LANE_FL_ENABLE n) = true → ((s.fl
    n).dark = false ∨ (s.fl n).darkAt ≠ s.time.now) → s.get (Obj.FABRIC_LANE_FRAME_STATE n) ≠ 2 → ((((s.fl n).cands.filter fun c =>
    Nat.ble p (c.x + 33024)).find? fun c => Nat.beq (c.x + 33024) p) = some c) → (s.fl n).syncDue = none → k.val = (c.fn + 1) % 64 → c.n
    = 2 → exec (.fawMatch n p k) s = .next (s.setFl n { s.fl n with syncDue := some k.val })) ∧
  (∀ (s : State) (n : FabricLane) (p : Nat) (k : Fin 64), s.CoreOn → s.on (Obj.FABRIC_LANE_FL_ENABLE n) = true → ((s.fl n).dark = false ∨
    (s.fl n).darkAt ≠ s.time.now) → s.get (Obj.FABRIC_LANE_FRAME_STATE n) ≠ 2 → (s.fl n).cands = [] → (s.fl n).syncDue = none → exec
    (.fawMatch n p k) s = .next ((s.setFl n { s.fl n with cands := [⟨p, 1, k, s.time.now⟩] }).set (Obj.FABRIC_LANE_FRAME_STATE n) 1)) ∧
  (∀ (s : State) (n : FabricLane), s.CoreOn → s.on (Obj.FABRIC_LANE_FL_ENABLE n) = true → s.get (Obj.FABRIC_LANE_FRAME_STATE n) ≠ 2 → exec
    (.rxFrameCounter n) s = .next ((forEach ((List.range 16).drop (s.fl n).rxSlot) s fun u k => u.aisCell n (s.fl n).rxNum k).setFl n { (forEach ((List.range 16).drop (s.fl n).rxSlot) s fun u k => u.aisCell n (s.fl n).rxNum k).fl n with rxNum := ((s.fl n).rxNum + 1) % 64, rxSlot := 0 })) ∧
  (∀ (s : State) (n : FabricLane), s.CoreOn → s.on (Obj.FABRIC_LANE_FL_ENABLE n) = true → exec (.los n) s = .next (((((s.setFl n { s.fl n with dark := true, darkAt := s.time.now }).hunt
    n).maskDefects n).markDefect n 1 false).setDefect n 0 true)) ∧
  (∀ (s : State) (n : FabricLane), s.CoreOn → s.on (Obj.FABRIC_LANE_FL_ENABLE n) = true → (s.fl n).dark = true → (s.fl n).darkAt + 100000 ≤
    s.time.now → s.get (Obj.FABRIC_LANE_FRAME_STATE n) ≠ 2 → exec (.losClear n) s = .next (((s.setFl n { s.fl n with dark := false }).markDefect
    n 0 false).setDefect n 1 true)) ∧
  (∀ (s : State) (n : FabricLane), s.CoreOn → s.on (Obj.FABRIC_LANE_FL_ENABLE n) = true → (s.fl n).dark = true → (s.fl n).darkAt + 100000 ≤
    s.time.now → s.get (Obj.FABRIC_LANE_FRAME_STATE n) = 2 → exec (.losClear n) s = .next (((((s.setFl n { s.fl n with dark := false }).afresh
    n).markDefect n 0 false).judgeTim n false).followDefects n)) ∧
  (∀ (s : State) (k : Fin 16) (m v : Nat), s.Accepts m (Obj.SCHED_LANE_SL_ENABLE k) v → v = 1 → s.on (Obj.FABRIC_LANE_FL_ENABLE (s.get
    (Obj.SCHED_LANE_SL_LANE k))) = true → (((List.range 16).any fun j => !Nat.beq j k && s.on (Obj.SCHED_LANE_SL_ENABLE j) && Nat.beq
    (s.get (Obj.SCHED_LANE_SL_LANE j)) (s.get (Obj.SCHED_LANE_SL_LANE k))) = false) → exec (.slEnable k m v) s = .next (State.finish
    (pathOf m) m (Obj.SCHED_LANE_SL_ENABLE k) (.ok, (if s.on (Obj.SCHED_LANE_SL_ENABLE k) = true then (s.commit
    (Obj.SCHED_LANE_SL_ENABLE k) v).voqsAgain else ((s.commit (Obj.SCHED_LANE_SL_ENABLE k) v).freshLoaf (s.get (Obj.SCHED_LANE_SL_LANE
    k))).voqsAgain))))

/-- HBM_READ, HBM_WRITE and WRITE_DRAIN_TIMEOUT, and what the order of a write does: With the core on: HBM_READ and HBM_WRITE of a requester
that may use the region, on a channel that has not failed, put the request with its sector, hint and instant at the end of the input of the
channel that the place of the sector gives, the write with its byte mask (mod 2^64) and data, the read with the ECC outcomes of its words;
of a requester that may not, or on a failed channel, they change nothing. A write that the channel's order takes leaves the input, moves the
rotation one past its requester (mod 6), joins the write queue, starts a burst when the queue reaches 48 and stores its bytes; a whole
sector of 64 bytes stored in canonical memory of HBM0 to HBM2 reads back as those bytes and every other sector reads as before.
WRITE_DRAIN_TIMEOUT forces out at least the leading writes of the queue that are 2 us old. Rests on (parts of) R351, R354, R356, R359. Where
these rules leave the point open it states the model's choice: log entries 2, 40, 74, 75, 151, 188, 217. -/
def Obligations.HbmReadsAndWritesSectors : Prop :=
  (∀ (s : State) (x : HbmSpace) (y : Nat) (r : HbmRequester) (e : SectorEcc), s.CoreOn → hbmAllowed r (hbmRegion (targetPlace x y).1
    (targetPlace x y).2) = true → s.chanFailed (targetPlace x y).1 (s.hbmPlace (targetPlace x y).1 (targetPlace x y).2).channel = false
    → exec (.hbmRead x y r e) s = .next (s.setChan ((targetPlace x y).1 * 32 + (s.hbmPlace (targetPlace x y).1 (targetPlace x
    y).2).channel) { s.chan ((targetPlace x y).1 * 32 + (s.hbmPlace (targetPlace x y).1 (targetPlace x y).2).channel) with input := (s.chan ((targetPlace x y).1 * 32 + (s.hbmPlace (targetPlace x y).1 (targetPlace x y).2).channel)).input ++ [{ sector := (targetPlace x y).2, requester := r, hint := s.hbmHint r, at' := s.time.now, write := none, ecc := e }] })) ∧
  (∀ (s : State) (x : HbmSpace) (y : Nat) (r : HbmRequester) (k : Nat) (d : List Byte), s.CoreOn → hbmAllowed r (hbmRegion (targetPlace x
    y).1 (targetPlace x y).2) = true → s.chanFailed (targetPlace x y).1 (s.hbmPlace (targetPlace x y).1 (targetPlace x y).2).channel =
    false → exec (.hbmWrite x y r k d) s = .next (s.setChan ((targetPlace x y).1 * 32 + (s.hbmPlace (targetPlace x y).1 (targetPlace x
    y).2).channel) { s.chan ((targetPlace x y).1 * 32 + (s.hbmPlace (targetPlace x y).1 (targetPlace x y).2).channel) with input := (s.chan ((targetPlace x y).1 * 32 + (s.hbmPlace (targetPlace x y).1 (targetPlace x y).2).channel)).input ++ [{ sector := (targetPlace x y).2, requester := r, hint := s.hbmHint r, at' := s.time.now, write := some (k % 2 ^ 64, d), ecc := {} }] })) ∧
  (∀ (s : State) (x : HbmSpace) (y : Nat) (r : HbmRequester) (e : SectorEcc), s.CoreOn → (hbmAllowed r (hbmRegion (targetPlace x y).1
    (targetPlace x y).2) = false ∨ s.chanFailed (targetPlace x y).1 (s.hbmPlace (targetPlace x y).1 (targetPlace x y).2).channel = true)
    → exec (.hbmRead x y r e) s = .next (s)) ∧
  (∀ (s : State) (x : HbmSpace) (y : Nat) (r : HbmRequester) (k : Nat) (d : List Byte), s.CoreOn → (hbmAllowed r (hbmRegion (targetPlace x
    y).1 (targetPlace x y).2) = false ∨ s.chanFailed (targetPlace x y).1 (s.hbmPlace (targetPlace x y).1 (targetPlace x y).2).channel =
    true) → exec (.hbmWrite x y r k d) s = .next (s)) ∧
  (∀ (s : State) (c : Nat) (q : HbmRequest) (k : Nat) (d : List Byte), s.hbmPick c = some q → q.write = some (k, d) → s.hbmOrder c =
    (s.setChan c { s.chan c with input := (s.chan c).input.erase q, turn := (requesterNumber q.requester + 1) % 6, writes := (s.chan c).writes ++ [q], burst := (s.chan c).burst || Nat.ble 48 ((s.chan c).writes.length + 1) }).hbmStore
    (c / 32) q.sector k d) ∧
  (∀ (s : State) (a i k : Nat) (d : List Byte), a < 3 → Table.wf zeroN s.hbm.cells = true → d.length = 64 → i < 268435456 → k < 268435456 →
    (s.hbmStore a i (2 ^ 64 - 1) d).hbmBytes a k = if k = i then d else s.hbmBytes a k) ∧
  (∀ (s : State) (stack : Fin 4) (c : Fin 32), s.CoreOn → exec (.writeDrainTimeout stack c) s = .next (s.setChan (stack.val * 32 + c.val) { s.chan (stack.val * 32 + c.val) with force := max (s.chan (stack.val * 32 + c.val)).force ((s.chan (stack.val * 32 + c.val)).writes.takeWhile fun w => Nat.ble (w.at' + 2000) s.time.now).length }))

/-- Open rows, refresh, retraining, scrub, and the order of a region: With the core on: ROW_OPEN_TIMEOUT of a row open for 2 us closes it
and changes nothing else. HBM_REFRESH of a channel not paused, not refreshing, not resting, whose bank in turn is owed a refresh, closes
that bank's row, moves to the next bank (mod 16), is busy for 6 ns and keeps its queues; with none owed it changes nothing. RETRAIN_DUE of a
channel that has not failed, with no step left, RETRAIN_MS after its training or with the stack further than RETRAIN_TEMP_C from its
temperature then, gives it 8 steps. RETRAIN_STEP 2 us or more after the stack's last, of a channel not paused, refreshing or resting, closes
the channel's 16 rows and counts RETRAIN_STEPS: with more than one step left, a good step takes one and pauses the channel for 600 ns, a
first step that fails and is good when repeated takes one, pauses it for 1,200 ns, counts STEP_REPEATS and raises E-6103; one that fails
twice counts and raises the same and fails the channel. HBM_SCRUB when due requests a scrub read of the next sector, mod 2^28. An accepted
ORDER or HASH of region 0 with BUF_ENABLE 0 is stored and answered OK, with BUF_ENABLE 1 BUSY; of region 2, with no slow write of it
running, it is stored, HBM_HOST_AREA reads 0 and the write runs on as a slow write. Rests on (parts of) R352, R353, R355, R357, R360 to
R363, R376. Where these rules leave the point open it states the model's choice: log entries 54, 74, 152, 153, 161. -/
def Obligations.HbmIsKeptUp : Prop :=
  (∀ (s : State) (stack : Fin 4) (c : Fin 32) (b : Fin 16) (r : OpenRow), s.CoreOn → (Table.get (fun _ => none) s.hbm.rows ((stack.val * 32
    + c.val) * 16 + b.val) = some r) → r.since + 2000 ≤ s.time.now → ∃ t, exec (.rowOpenTimeout stack c b) s = .next t ∧ (t.hbm = { s.hbm with rows := Table.put (fun _ => none) s.hbm.rows ((stack.val * 32 + c.val) * 16 + b.val) none })
    ∧ Frame noKey noKey [.hbm] s t) ∧
  (∀ (s : State) (stack : Fin 4) (c : Fin 32), s.CoreOn → (s.chan (stack.val * 32 + c.val)).pause = none → (s.chan (stack.val * 32 +
    c.val)).refreshing ≤ s.time.now → s.resting stack = false → 0 < s.refreshOwed (stack.val * 32 + c.val) (s.chan (stack.val * 32 +
    c.val)).bank → ∃ t, exec (.hbmRefresh stack c) s = .next t ∧ (t.hbm.rows = Table.put (fun _ => none) s.hbm.rows ((stack.val * 32 +
    c.val) * 16 + (s.chan (stack.val * 32 + c.val)).bank) none) ∧ (t.chan (stack.val * 32 + c.val)).bank = ((s.chan (stack.val * 32 +
    c.val)).bank + 1) % 16 ∧ (t.chan (stack.val * 32 + c.val)).refreshing = s.time.now + 6 ∧ (t.chan (stack.val * 32 + c.val)).reads =
    (s.chan (stack.val * 32 + c.val)).reads ∧ (t.chan (stack.val * 32 + c.val)).writes = (s.chan (stack.val * 32 + c.val)).writes ∧
    Frame noKey noKey [.hbm] s t) ∧
  (∀ (s : State) (stack : Fin 4) (c : Fin 32), s.CoreOn → s.refreshOwed (stack.val * 32 + c.val) (s.chan (stack.val * 32 + c.val)).bank = 0
    → exec (.hbmRefresh stack c) s = .next (s)) ∧
  (∀ (s : State) (stack : Fin 4) (c : Fin 32), s.CoreOn → (s.chan (stack.val * 32 + c.val)).steps = 0 → s.chanFailed stack c = false →
    ((s.chan (stack.val * 32 + c.val)).trained + s.get Obj.HBM_CTRL_RETRAIN_MS * ms ≤ s.time.now ∨ (s.get Obj.HBM_CTRL_RETRAIN_TEMP_C :
    Int) < ((s.stackTemp stack - (s.chan (stack.val * 32 + c.val)).temp).natAbs : Int)) → ∃ t, exec (.retrainDue stack c) s = .next t ∧
    t.hbm = { s.hbm with channels := Table.put channelEmpty s.hbm.channels (stack.val * 32 + c.val) { s.chan (stack.val * 32 + c.val) with steps := 8, repeated := false } }
    ∧ Frame noKey noKey [.hbm] s t) ∧
  (∀ (s : State) (stack : Fin 4) (c : Fin 32) (g : Bool), s.CoreOn → 1 < (s.chan (stack.val * 32 + c.val)).steps → ((Table.get (fun _ =>
    none) s.hbm.stepAt stack).all (fun b => Nat.ble (b + 2000) s.time.now) = true) → (s.chan (stack.val * 32 + c.val)).refreshing ≤
    s.time.now → (s.chan (stack.val * 32 + c.val)).pause = none → s.resting stack = false → exec (.retrainStep stack c true g) s = .next
    (((forEach (List.range 16) (s.withHbm { s.hbm with stepAt := Table.put (fun _ => none) s.hbm.stepAt stack (some s.time.now) }) fun u
    b => u.setRow ((stack.val * 32 + c.val) * 16 + b) none).bump (Obj.HBM_STACK_RETRAIN_STEPS stack)).setChan (stack.val * 32 + c.val) { s.chan (stack.val * 32 + c.val) with pause := some (s.time.now + 600), steps := (s.chan (stack.val * 32 + c.val)).steps - 1, repeated := (s.chan (stack.val * 32 + c.val)).repeated })) ∧
  (∀ (s : State) (stack : Fin 4) (c : Fin 32), s.CoreOn → 1 < (s.chan (stack.val * 32 + c.val)).steps → ((Table.get (fun _ => none)
    s.hbm.stepAt stack).all (fun b => Nat.ble (b + 2000) s.time.now) = true) → (s.chan (stack.val * 32 + c.val)).refreshing ≤ s.time.now
    → (s.chan (stack.val * 32 + c.val)).pause = none → s.resting stack = false → exec (.retrainStep stack c false true) s = .next
    (((((forEach (List.range 16) (s.withHbm { s.hbm with stepAt := Table.put (fun _ => none) s.hbm.stepAt stack (some s.time.now) }) fun
    u b => u.setRow ((stack.val * 32 + c.val) * 16 + b) none).bump (Obj.HBM_STACK_RETRAIN_STEPS stack)).bump (Obj.HBM_STACK_STEP_REPEATS
    stack)).raise 0x6103 (uChannel stack c) 0).setChan (stack.val * 32 + c.val) { s.chan (stack.val * 32 + c.val) with pause := some (s.time.now + 1200), steps := (s.chan (stack.val * 32 + c.val)).steps - 1, repeated := true })) ∧
  (∀ (s : State) (stack : Fin 4) (c : Fin 32), s.CoreOn → 0 < (s.chan (stack.val * 32 + c.val)).steps → ((Table.get (fun _ => none)
    s.hbm.stepAt stack).all (fun b => Nat.ble (b + 2000) s.time.now) = true) → (s.chan (stack.val * 32 + c.val)).refreshing ≤ s.time.now
    → (s.chan (stack.val * 32 + c.val)).pause = none → s.resting stack = false → exec (.retrainStep stack c false false) s = .next
    (((((forEach (List.range 16) (s.withHbm { s.hbm with stepAt := Table.put (fun _ => none) s.hbm.stepAt stack (some s.time.now) }) fun
    u b => u.setRow ((stack.val * 32 + c.val) * 16 + b) none).bump (Obj.HBM_STACK_RETRAIN_STEPS stack)).bump (Obj.HBM_STACK_STEP_REPEATS
    stack)).raise 0x6103 (uChannel stack c) 0).failChannel stack c)) ∧
  (∀ (s : State) (stack : Fin 4) (e : SectorEcc), s.CoreOn → s.scrubAfter stack ≤ s.time.now → exec (.hbmScrub stack e) s = .next
    ((s.withHbm { s.hbm with scrub := Table.put zeroN s.hbm.scrub stack ((Table.get zeroN s.hbm.scrub stack + 1) % 2 ^ 28), scrubAt := Table.put (fun _ => none) s.hbm.scrubAt stack (some s.time.now) }).hbmRequest
    stack (Table.get zeroN s.hbm.scrub stack) .scrub none e)) ∧
  (∀ (s : State) (h : Bool) (m v : Nat), s.Canonical → (s.Accepts m (if h then Obj.HBM_REGION_HASH 0 else Obj.HBM_REGION_ORDER 0) v) → s.on
    Obj.BUFFER_CTRL_BUF_ENABLE = false → s.sec.fusing = none → ∃ t, exec (.hbmRegionOrder 0 h m v) s = .next t ∧ (t.get (if h then
    Obj.HBM_REGION_HASH 0 else Obj.HBM_REGION_ORDER 0) = v) ∧ (t.Answered m (if h then Obj.HBM_REGION_HASH 0 else Obj.HBM_REGION_ORDER
    0) .ok) ∧ Frame (keysOf [if h then Obj.HBM_REGION_HASH 0 else Obj.HBM_REGION_ORDER 0]) noKey [.pair, .dict, .sent] s t) ∧
  (∀ (s : State) (h : Bool) (m v : Nat), s.Canonical → (s.Accepts m (if h then Obj.HBM_REGION_HASH 0 else Obj.HBM_REGION_ORDER 0) v) → s.on
    Obj.BUFFER_CTRL_BUF_ENABLE = true → s.sec.fusing = none → ∃ t, exec (.hbmRegionOrder 0 h m v) s = .next t ∧ (t.Answered m (if h then
    Obj.HBM_REGION_HASH 0 else Obj.HBM_REGION_ORDER 0) .busy) ∧ Frame (keysOf [Obj.ACCESS_STATUS_LAST_STATUS m,
    Obj.ACCESS_STATUS_LAST_OBJECT m, Obj.ACCESS_STATUS_REFUSED m]) noKey [.sent] s t) ∧
  (∀ (s : State) (h : Bool) (m v e : Nat), s.Canonical → (s.Accepts m (if h then Obj.HBM_REGION_HASH 2 else Obj.HBM_REGION_ORDER 2) v) →
    (s.slowRuns m (if h then Obj.HBM_REGION_HASH 2 else Obj.HBM_REGION_ORDER 2) = false) → ∃ t, exec (.hbmRegionOrder 2 h m v) s = .next
    t ∧ (t.get (if h then Obj.HBM_REGION_HASH 2 else Obj.HBM_REGION_ORDER 2) = v) ∧ t.dom Dom.HBM_HOST_AREA e = 0 ∧ (t.dict.slow = ⟨m,
    if h then Obj.HBM_REGION_HASH 2 else Obj.HBM_REGION_ORDER 2, if pathOf m = .window then .window else .direct⟩ :: s.dict.slow) ∧
    Frame (keysOf [if h then Obj.HBM_REGION_HASH 2 else Obj.HBM_REGION_ORDER 2, Obj.ACCESS_STATUS_PENDING m]) (fun k => Nat.beq (domOf
    k) Dom.HBM_HOST_AREA) [.parse, .dict, .pair, .sent] s t)

/-- WINDOW_WRITE and RC_READ: reads and writes of any object through the window: Of a master that has a window and is reached, at an offset
below 2^28: WINDOW_WRITE of an illegal size or alignment is answered WIDTH, notes WIDTH and the object in LAST_STATUS and LAST_OBJECT and
changes besides only the access status. At an index its view holds, of a legal shape: an access that must wait for one of that master still
unanswered is held; else WINDOW_WRITE, where it covers the object as slotWrite asks and dictWrite decides at once, ends with that status and
state as State.finish says; RC_READ, not a partial read of an RC object and not of a mailbox's LOCK, where dictRead answers OK, is answered
OK with the value's bytes from the offset, the read's effect happening where the offset lies in the object; where it answers another status,
is noted as refused and answered with that status. A partial read of an RC object is WIDTH and changes only the access status; a read of a
LOCK waits for the end of the cycle. At an offset from 2^28 on that lies in another BAR, with the core on, WINDOW_WRITE does what barWrite
says and RC_READ emits the value of barValue. Rests on (parts of) R18, R370, R371, R373 to R375, R377, R390, R427. Where these rules leave
the point open it states the model's choice: log entries 9, 76, 190, 230. -/
def Obligations.WindowAccessesTheDictionary : Prop :=
  (∀ (s : State) (m o n v : Nat), s.Canonical → hasWindow m = true → s.unreached m = false → o < 2 ^ 28 → winShape o n = false →
    s.sec.fusing = none → ∃ t, exec (.windowWrite m o n v) s = .next t ∧ t.Answered m ((s.locate m (winIndex m o).1 (o / 16 % 0x100)).1)
    .width ∧ t.get (Obj.ACCESS_STATUS_LAST_STATUS m) = Status.width.code ∧ t.get (Obj.ACCESS_STATUS_LAST_OBJECT m) = (s.locate m
    (winIndex m o).1 (o / 16 % 0x100)).1 % 0x1000000 ∧ Frame (keysOf [Obj.ACCESS_STATUS_LAST_STATUS m, Obj.ACCESS_STATUS_LAST_OBJECT m,
    Obj.ACCESS_STATUS_REFUSED m]) noKey [.sent] s t) ∧
  (∀ (s : State) (m o n v : Nat) (st : Status) (u : State), hasWindow m = true → s.unreached m = false → o < 2 ^ 28 → winShape o n = true →
    (winIndex m o).2 = true → s.waits .window m false = false → slotWrite (winIndex m o).1 (o / 16 % 0x100) (o % 16) n (v % 2 ^ (8 * n))
    = .ok → s.dictWrite .window .window m (winIndex m o).1 (o / 16 % 0x100) (v % 2 ^ (8 * n)) = (some st, u) → exec (.windowWrite m o n
    v) s = .next (State.finish .window m ((s.locate m (winIndex m o).1 (o / 16 % 0x100)).1) (st, u))) ∧
  (∀ (s : State) (m o n v : Nat) (u : State), hasWindow m = true → s.unreached m = false → o < 2 ^ 28 → winShape o n = true → (winIndex m
    o).2 = true → s.waits .window m true = false → s.partialRc m (winIndex m o).1 (o / 16 % 0x100) (o % 16) n = false → (decide (o % 16
    = 0) && s.readsLock .window m (winIndex m o).1 (o / 16 % 0x100)) = false → s.dictRead .window m (winIndex m o).1 (o / 16 % 0x100) =
    (.ok, v, u) → exec (.rcRead m o n) s = .next ((if o % 16 < (objTy (winIndex m o).1 (o / 16 % 0x100)).bytes then u else s).answer m
    ((s.locate m (winIndex m o).1 (o / 16 % 0x100)).1) .ok (v % 2 ^ 128 / 2 ^ (8 * (o % 16)) % 2 ^ (8 * n)))) ∧
  (∀ (s : State) (m o n v : Nat) (st : Status) (u : State), hasWindow m = true → s.unreached m = false → o < 2 ^ 28 → winShape o n = true →
    (winIndex m o).2 = true → s.waits .window m true = false → s.partialRc m (winIndex m o).1 (o / 16 % 0x100) (o % 16) n = false →
    (decide (o % 16 = 0) && s.readsLock .window m (winIndex m o).1 (o / 16 % 0x100)) = false → s.dictRead .window m (winIndex m o).1 (o
    / 16 % 0x100) = (st, v, u) → st ≠ .ok → exec (.rcRead m o n) s = .next ((u.noteRefused m ((s.locate m (winIndex m o).1 (o / 16 %
    0x100)).1) st).answer m ((s.locate m (winIndex m o).1 (o / 16 % 0x100)).1) st)) ∧
  (∀ (s : State) (m o n : Nat), s.Canonical → hasWindow m = true → s.unreached m = false → o < 2 ^ 28 → winShape o n = true → (winIndex m
    o).2 = true → s.waits .window m true = false → s.partialRc m (winIndex m o).1 (o / 16 % 0x100) (o % 16) n = true → ∃ t, exec
    (.rcRead m o n) s = .next t ∧ t.Answered m ((s.locate m (winIndex m o).1 (o / 16 % 0x100)).1) .width ∧ Frame (keysOf
    [Obj.ACCESS_STATUS_LAST_STATUS m, Obj.ACCESS_STATUS_LAST_OBJECT m, Obj.ACCESS_STATUS_REFUSED m]) noKey [.sent] s t) ∧
  (∀ (s : State) (m o n v : Nat), hasWindow m = true → s.unreached m = false → o < 2 ^ 28 → winShape o n = true → (winIndex m o).2 = true →
    s.waits .window m false = true → exec (.windowWrite m o n v) s = .next (s.hold ⟨m, (winIndex m o).1, (o / 16 % 0x100), o % 16, n,
    some (v % 2 ^ (8 * n))⟩)) ∧
  (∀ (s : State) (m o n : Nat), hasWindow m = true → s.unreached m = false → o < 2 ^ 28 → winShape o n = true → (winIndex m o).2 = true →
    s.waits .window m true = true → exec (.rcRead m o n) s = .next (s.hold ⟨m, (winIndex m o).1, (o / 16 % 0x100), o % 16, n, none⟩)) ∧
  (∀ (s : State) (m o n : Nat), hasWindow m = true → s.unreached m = false → o < 2 ^ 28 → winShape o n = true → (winIndex m o).2 = true →
    s.waits .window m true = false → s.partialRc m (winIndex m o).1 (o / 16 % 0x100) (o % 16) n = false → o % 16 = 0 → s.readsLock
    .window m (winIndex m o).1 (o / 16 % 0x100) = true → exec (.rcRead m o n) s = .next (s.lockRead ⟨(winIndex m o).1 - 0x1160, m,
    .master⟩)) ∧
  (∀ (s : State) (m o n v f b x : Nat), hasWindow m = true → s.unreached m = false → 2 ^ 28 ≤ o → otherBar m o n = some (f, b, x) →
    s.CoreOn → exec (.windowWrite m o n v) s = .next (s.barWrite f b x n v)) ∧
  (∀ (s : State) (m o n f b x : Nat), hasWindow m = true → s.unreached m = false → 2 ^ 28 ≤ o → otherBar m o n = some (f, b, x) → s.CoreOn
    → exec (.rcRead m o n) s = .next (s.emit (.barRead f b x (s.barValue f b x n))))

/-- DICT_LOCK, the end of a slow write, and the Pantry's STORE and CLEAR: An accepted DICT_LOCK 1 while it is 0 sets it, sets LOCKED_AT to
the present time and is answered OK; an accepted 0 while it is 1 ends LOCKED and changes only the access status (no fuse being blown).
SLOW_WRITE_DONE of the one slow write that runs, of that master and of another object than STORE, CLEAR and UPD_CTRL: of the window, with no
access waiting for a region of HBM3, ends it and clears PENDING and changes nothing else; of another path ends it and tells OK by that path,
then carries out the accesses that waited. An accepted STORE or CLEAR 1 by window, with no slow write of it running and a store that may
start, starts one of the snapshot's records, or of none, and is answered OK as a slow write that runs. With the firmware not restarting, of
a store that no mailbox started: PANTRY_WRITE_DONE good emits the copy to flash, keeps it in its place with the bytes that decay, sets STATE
0, counts STORES, raises E-7001 and ends the slow writes OK; not good sets STATE 2, raises E-7202 and ends them PARITY. Rests on (parts of)
R376, R377, R381, R383, R386. Where these rules leave the point open it states the model's choice: log entries 54, 112, 161, 189, 230. -/
def Obligations.LockStoreAndSlowWrites : Prop :=
  (∀ (s : State) (m v : Nat), s.Canonical → s.Accepts m Obj.LOCK_DICT_LOCK v → v = 1 → s.on Obj.LOCK_DICT_LOCK = false → s.sec.fusing =
    none → ∃ t, exec (.dictLock m v) s = .next t ∧ t.get Obj.LOCK_DICT_LOCK = 1 ∧ t.get Obj.LOCK_LOCKED_AT = time80 s.timeNow ∧
    t.Answered m Obj.LOCK_DICT_LOCK .ok ∧ Frame (keysOf [Obj.LOCK_DICT_LOCK, Obj.LOCK_LOCKED_AT]) noKey [.dict, .sent] s t) ∧
  (∀ (s : State) (m v : Nat), s.Canonical → s.Accepts m Obj.LOCK_DICT_LOCK v → v = 0 → s.on Obj.LOCK_DICT_LOCK = true → s.sec.fusing = none
    → ∃ t, exec (.dictLock m v) s = .next t ∧ t.Answered m Obj.LOCK_DICT_LOCK .locked ∧ Frame (keysOf [Obj.ACCESS_STATUS_LAST_STATUS m,
    Obj.ACCESS_STATUS_LAST_OBJECT m, Obj.ACCESS_STATUS_REFUSED m]) noKey [.sent] s t) ∧
  (∀ (s : State) (m : Nat) (w : SlowWrite), s.Canonical → s.hbm.waiting = [] → s.dict.slow = [w] → w.master = m → w.via = .window → w.key ≠
    Obj.PANTRY_STORE → w.key ≠ Obj.PANTRY_CLEAR → w.key ≠ Obj.FW_UPDATE_UPD_CTRL → ∃ t, exec (.slowWriteDone m) s = .next t ∧
    t.dict.slow = [] ∧ t.get (Obj.ACCESS_STATUS_PENDING m) = 0 ∧ Frame (keysOf [Obj.ACCESS_STATUS_PENDING m]) noKey [.dict] s t) ∧
  (∀ (s : State) (m : Nat) (w : SlowWrite), s.dict.slow = [w] → w.master = m → w.via ≠ .window → w.key ≠ Obj.PANTRY_STORE → w.key ≠
    Obj.PANTRY_CLEAR → w.key ≠ Obj.FW_UPDATE_UPD_CTRL → exec (.slowWriteDone m) s = .next (((s.withDict { s.dict with slow := [] }).endWrite
    w.via m w.key .ok).hbmRelease)) ∧
  (∀ (s : State) (m v : Nat), s.Accepts m Obj.PANTRY_STORE v → pathOf m = .window → s.slowRuns m Obj.PANTRY_STORE = false → v = 1 →
    (s.startPantry s.snapshotRecords none).1 = .ok → exec (.store m v) s = .next ((((s.startPantry s.snapshotRecords none).2).slowStart
    ⟨m, Obj.PANTRY_STORE, .window⟩).answer m Obj.PANTRY_STORE .ok)) ∧
  (∀ (s : State) (m v : Nat), s.Accepts m Obj.PANTRY_CLEAR v → pathOf m = .window → s.slowRuns m Obj.PANTRY_CLEAR = false → v = 1 →
    (s.startPantry [] none).1 = .ok → exec (.clear m v) s = .next ((((s.startPantry [] none).2).slowStart ⟨m, Obj.PANTRY_CLEAR,
    .window⟩).answer m Obj.PANTRY_CLEAR .ok)) ∧
  (∀ (s : State) (j : PantryJob) (d : List (Nat × Byte)), s.boot.pantry = some j → s.boot.restart = false → j.channel = none → exec
    (.pantryWriteDone ⟨true, d⟩) s = .next ((((((((s.withBoot { s.boot with pantry := none }).emit (.flash (copyOffset j.toB) (copyImage
    j.copy))).setPantry j.toB (decayed (copyImage j.copy) d)).set Obj.PANTRY_STATE 0).bump Obj.PANTRY_STORES).raise 0x7001 uMGMT
    0).endSlow Obj.PANTRY_STORE .ok).endSlow Obj.PANTRY_CLEAR .ok)) ∧
  (∀ (s : State) (j : PantryJob) (d : List (Nat × Byte)), s.boot.pantry = some j → s.boot.restart = false → j.channel = none → exec
    (.pantryWriteDone ⟨false, d⟩) s = .next (((((s.withBoot { s.boot with pantry := none }).set Obj.PANTRY_STATE 2).raise 0x7202 uMGMT
    0).endSlow Obj.PANTRY_STORE .parity).endSlow Obj.PANTRY_CLEAR .parity))

/-- OBJ_READ, OBJ_WRITE, DOMAIN_READ, DOMAIN_WRITE, NOP and FW_BLOCK: With the core on, of a startable job with its reserved bytes 0:
OBJ_READ, not of a mailbox's LOCK, of the object's length returns a value of at most 8 bytes in RETURN and, with a DMA that succeeds, writes
a longer one to host memory and returns 0; a read that is refused ends with the dictionary's status; a wrong length of an object that exists
ends WIDTH. OBJ_WRITE of at most 32 bytes and the object's length ends with the status that the object's rule answers, or is started and
waits where the write runs on. DOMAIN_READ of an entry that can be read, with a DMA that succeeds, writes its image to host memory and
returns 0; DOMAIN_WRITE with an image of the entry's length ends with what the entry's rule answers. NOP ends OK, and INVALID where a
reserved byte is not 0. FW_BLOCK of a PF's job, of 1 to 4,096 bytes, with the firmware not restarting, hands its block (filled up with zero
bytes) to the update and ends with its status and return value. Rests on (parts of) R18, R369 to R376, R400 to R403, R538. Where these rules
leave the point open it states the model's choice: log entries 9, 23, 88. -/
def Obligations.DictionaryJobsRun : Prop :=
  (∀ (s : State) (q : Fin 1024) (i : Nat) (j : Job) (dma : Dma) (v : Nat) (u : State), s.CoreOn → s.startable q i 0x1 = some j → s.lockJob
    q i = none → zeroBytes j.bytes [(20, 4), (32, 32)] = true → byteAt j.bytes 19 = (objTy (wordAt j.bytes 16 2) (byteAt j.bytes
    18)).bytes → (objTy (wordAt j.bytes 16 2) (byteAt j.bytes 18)).bytes ≤ 8 → s.dictRead .job (s.jobMaster q) (wordAt j.bytes 16 2)
    (byteAt j.bytes 18) = (.ok, v, u) → exec (.objRead q i dma) s = .next (u.finishJob j dma .ok (natBE (valueBytes (objTy (wordAt
    j.bytes 16 2) (byteAt j.bytes 18)) v)))) ∧
  (∀ (s : State) (q : Fin 1024) (i : Nat) (j : Job) (dma : Dma) (v : Nat) (u : State), s.CoreOn → s.startable q i 0x1 = some j → s.lockJob
    q i = none → zeroBytes j.bytes [(20, 4), (32, 32)] = true → byteAt j.bytes 19 = (objTy (wordAt j.bytes 16 2) (byteAt j.bytes
    18)).bytes → 8 < (objTy (wordAt j.bytes 16 2) (byteAt j.bytes 18)).bytes → s.dictRead .job (s.jobMaster q) (wordAt j.bytes 16 2)
    (byteAt j.bytes 18) = (.ok, v, u) → dma.ok = true → exec (.objRead q i dma) s = .next ((u.jobWrite j (wordAt j.bytes 24 8)
    (valueBytes (objTy (wordAt j.bytes 16 2) (byteAt j.bytes 18)) v)).finishJob j dma .ok 0)) ∧
  (∀ (s : State) (q : Fin 1024) (i : Nat) (j : Job) (dma : Dma) (v : Nat) (st : Status) (u : State), s.CoreOn → s.startable q i 0x1 = some
    j → s.lockJob q i = none → zeroBytes j.bytes [(20, 4), (32, 32)] = true → (byteAt j.bytes 19 = (objTy (wordAt j.bytes 16 2) (byteAt
    j.bytes 18)).bytes ∨ (rowAt (wordAt j.bytes 16 2) (byteAt j.bytes 18)).isSome = false ∧ (byteAt j.bytes 18) ≠ 0) → s.dictRead .job
    (s.jobMaster q) (wordAt j.bytes 16 2) (byteAt j.bytes 18) = (st, v, u) → st ≠ .ok → exec (.objRead q i dma) s = .next (u.endJob j
    dma st 0)) ∧
  (∀ (s : State) (q : Fin 1024) (i : Nat) (j : Job) (dma : Dma), s.CoreOn → s.startable q i 0x1 = some j → s.lockJob q i = none → zeroBytes
    j.bytes [(20, 4), (32, 32)] = true → (rowAt (wordAt j.bytes 16 2) (byteAt j.bytes 18)).isSome = true → byteAt j.bytes 19 ≠ (objTy
    (wordAt j.bytes 16 2) (byteAt j.bytes 18)).bytes → exec (.objRead q i dma) s = .next (s.failJob j dma .width)) ∧
  (∀ (s : State) (q : Fin 1024) (i : Nat) (j : Job) (dma : Dma) (st : Status) (u : State), s.CoreOn → s.startable q i 0x2 = some j →
    zeroBytes j.bytes [(20, 4), (32 + byteAt j.bytes 19, 32 - byteAt j.bytes 19)] = true → byteAt j.bytes 19 ≤ 32 → byteAt j.bytes 19 =
    (objTy (wordAt j.bytes 16 2) (byteAt j.bytes 18)).bytes → s.dictWrite .job (.job q i) (s.jobMaster q) (wordAt j.bytes 16 2) (byteAt
    j.bytes 18) (valueOf (objTy (wordAt j.bytes 16 2) (byteAt j.bytes 18)) ((j.bytes.drop 32).take (byteAt j.bytes 19))) = (some st, u)
    → exec (.objWrite q i dma) s = .next (u.endJob j dma st 0)) ∧
  (∀ (s : State) (q : Fin 1024) (i : Nat) (j : Job) (dma : Dma) (u : State), s.CoreOn → s.startable q i 0x2 = some j → zeroBytes j.bytes
    [(20, 4), (32 + byteAt j.bytes 19, 32 - byteAt j.bytes 19)] = true → byteAt j.bytes 19 ≤ 32 → byteAt j.bytes 19 = (objTy (wordAt
    j.bytes 16 2) (byteAt j.bytes 18)).bytes → s.dictWrite .job (.job q i) (s.jobMaster q) (wordAt j.bytes 16 2) (byteAt j.bytes 18)
    (valueOf (objTy (wordAt j.bytes 16 2) (byteAt j.bytes 18)) ((j.bytes.drop 32).take (byteAt j.bytes 19))) = (none, u) → exec
    (.objWrite q i dma) s = .next (u.startJob j)) ∧
  (∀ (s : State) (q : Fin 1024) (i : Nat) (j : Job) (dma : Dma) (r : DomRow) (v : Nat) (u : State), s.CoreOn → s.startable q i 0x3 = some j
    → zeroBytes j.bytes [(18, 2), (32, 32)] = true → domRow (wordAt j.bytes 16 2) = some r → s.domRead (s.jobMaster q) (wordAt j.bytes
    16 2) (wordAt j.bytes 20 4) = (.ok, v, u) → dma.ok = true → exec (.domainRead q i dma) s = .next ((u.jobWrite j (wordAt j.bytes 24
    8) (bytesBE r.bytes v)).finishJob j dma .ok 0)) ∧
  (∀ (s : State) (q : Fin 1024) (i : Nat) (j : Job) (dma : Dma) (r : DomRow) (d : List Byte), s.CoreOn → s.startable q i 0x4 = some j →
    zeroBytes j.bytes [(18, 2), (32, 32)] = true → domRow (wordAt j.bytes 16 2) = some r → dma.data = some d → d.length = r.bytes → exec
    (.domainWrite q i dma) s = .next ((s.domWrite .job (s.jobMaster q) (wordAt j.bytes 16 2) (wordAt j.bytes 20 4) (natBE d)).2.endJob j
    dma (s.domWrite .job (s.jobMaster q) (wordAt j.bytes 16 2) (wordAt j.bytes 20 4) (natBE d)).1 0)) ∧
  (∀ (s : State) (q : Fin 1024) (i : Nat) (j : Job) (dma : Dma), s.CoreOn → s.startable q i 0x0 = some j → zeroBytes j.bytes [(16, 48)] =
    true → exec (.nop q i dma) s = .next (s.finishJob j dma .ok 0)) ∧
  (∀ (s : State) (q : Fin 1024) (i : Nat) (j : Job) (dma : Dma), s.CoreOn → s.startable q i 0x0 = some j → zeroBytes j.bytes [(16, 48)] =
    false → exec (.nop q i dma) s = .next (s.failJob j dma .invalid)) ∧
  (∀ (s : State) (q : Fin 1024) (i : Nat) (j : Job) (good : Bool) (dma : Dma) (d : List Byte), s.CoreOn → s.boot.restart = false →
    s.startable q i 0x30 = some j → 0 < wordAt j.bytes 20 2 → wordAt j.bytes 20 2 ≤ 4096 → zeroBytes j.bytes [(22, 2), (32, 16), (48,
    16)] = true → dma.data = some d → s.sqFn j.sq = 0 → exec (.fwBlock q i good dma) s = .next ((s.updBlock HOST (wordAt j.bytes 16 4)
    ((d ++ List.replicate (wordAt j.bytes 20 2) (0#8)).take (wordAt j.bytes 20 2)) good).2.2.endJob j dma (s.updBlock HOST (wordAt
    j.bytes 16 4) ((d ++ List.replicate (wordAt j.bytes 20 2) (0#8)).take (wordAt j.bytes 20 2)) good).1 (s.updBlock HOST (wordAt
    j.bytes 16 4) ((d ++ List.replicate (wordAt j.bytes 20 2) (0#8)).take (wordAt j.bytes 20 2)) good).2.1))

/-- PKT_TX, TX_STAMP, RX_BUFFER and RX_DELIVER: With the core on: PKT_TX of a startable legal job whose DMA gives the frame's bytes: a
DIRECT frame of the PF, with the die-to-die link not failed and the T die not in reset, goes with its FCS at the end of the packets that
wait for admission, with the job's port, class, colour, queue and bypass; an ingress frame enters at INJECT_SECTOR with host port and stamp
of the present, its job ending OK at once with flags 0 and started, waiting for its stamp, with flags 1; a DIRECT or bypass job of another
function than the PF ends DENIED. TX_STAMP of the one report, of a started PKT_TX: with a stamp, and a DMA that succeeds, writes the stamp
record to host memory and returns 0; with none returns 2. RX_BUFFER of a length from 2,048 to 16,384 and an address that are multiples of
64, with its reserved bytes 0, is posted; of another length or address it ends INVALID. RX_DELIVER of the one packet that waits for the
host, with a DMA that succeeds, into the oldest buffer of its class when it holds 16 bytes more than the packet: writes stamp record and
packet and ends the buffer's job with the receive RETURN; when it does not, HP_TOOBIG rises by 1 and the packet is dropped. Rests on (parts
of) R404 to R408. Where these rules leave the point open it states the model's choice: log entries 16, 83. -/
def Obligations.HostPacketsAreSentAndDelivered : Prop :=
  (∀ (s : State) (q : Fin 1024) (i : Nat) (j : Job) (dma : Dma) (d : List Byte), s.CoreOn → s.startable q i 0x20 = some j → pktLegal
    j.bytes = true → dma.data = some d → d.length = wordAt j.bytes 18 2 → byteAt j.bytes 16 = 0 → s.sqFn q = 0 → s.ev.d2dFailed = false
    → s.boot.resets.contains 33 = false → exec (.pktTx q i dma) s = .next ((((s.withNet { s.net with serial := s.net.serial + 1 }).withHost
    { s.host with reports := s.host.reports.filter fun x => !(Nat.beq x.sq q && Nat.beq x.index i) }).startJob j).withNet { (((s.withNet { s.net with serial := s.net.serial + 1 }).withHost { s.host with reports := s.host.reports.filter fun x => !(Nat.beq x.sq q && Nat.beq x.index i) }).startJob j).net with toAdmit := (((s.withNet { s.net with serial := s.net.serial + 1 }).withHost { s.host with reports := s.host.reports.filter fun x => !(Nat.beq x.sq q && Nat.beq x.index i) }).startJob j).net.toAdmit ++ [({ id := s.net.serial, bytes := withFcs d, inPort := 128, requester := 128, rxTime := s.timeNow, job := if bit (byteAt j.bytes 17) 0 then some (q.val, i) else none, dest := byteAt j.bytes 20, cls := byteAt j.bytes 21 % 8, colour := byteAt j.bytes 21 / 16, qsel := if bit (wordAt j.bytes 24 4) 31 then some (wordAt j.bytes 24 4 % 2 ^ 19) else none, bypass := bit (byteAt j.bytes 17) 1, direct := if bit (byteAt j.bytes 17) 0 then none else some (q.val, i) } : Pkt)] })) ∧
  (∀ (s : State) (q : Fin 1024) (i : Nat) (j : Job) (dma : Dma) (d : List Byte), s.CoreOn → s.startable q i 0x20 = some j → pktLegal
    j.bytes = true → dma.data = some d → d.length = wordAt j.bytes 18 2 → byteAt j.bytes 16 = 1 → byteAt j.bytes 17 = 0 → exec (.pktTx q
    i dma) s = .next ((((s.withNet { s.net with serial := s.net.serial + 1 }).withHost { s.host with reports := s.host.reports.filter fun x => !(Nat.beq x.sq q && Nat.beq x.index i) }).toSector
    (s.get Obj.HOST_CTRL_INJECT_SECTOR) ({ id := s.net.serial, bytes := withFcs d, inPort := 128, requester := 128, rxTime := s.timeNow, job := if bit (byteAt j.bytes 17) 0 then some (q.val, i) else none }
    : Pkt)).finishJob j dma .ok 0)) ∧
  (∀ (s : State) (q : Fin 1024) (i : Nat) (j : Job) (dma : Dma) (d : List Byte), s.CoreOn → s.startable q i 0x20 = some j → pktLegal
    j.bytes = true → dma.data = some d → d.length = wordAt j.bytes 18 2 → byteAt j.bytes 16 = 1 → byteAt j.bytes 17 = 1 → exec (.pktTx q
    i dma) s = .next ((((s.withNet { s.net with serial := s.net.serial + 1 }).withHost { s.host with reports := s.host.reports.filter fun x => !(Nat.beq x.sq q && Nat.beq x.index i) }).toSector
    (s.get Obj.HOST_CTRL_INJECT_SECTOR) ({ id := s.net.serial, bytes := withFcs d, inPort := 128, requester := 128, rxTime := s.timeNow, job := if bit (byteAt j.bytes 17) 0 then some (q.val, i) else none }
    : Pkt)).startJob j)) ∧
  (∀ (s : State) (q : Fin 1024) (i : Nat) (j : Job) (dma : Dma), s.CoreOn → s.startable q i 0x20 = some j → s.sqFn q ≠ 0 → (byteAt j.bytes
    16 = 0 ∨ bit (byteAt j.bytes 17) 1 = true) → exec (.pktTx q i dma) s = .next (s.failJob j dma .denied)) ∧
  (∀ (s : State) (q : Fin 1024) (i a : Nat) (dma : Dma) (r : TxReport) (j : Job), s.CoreOn → s.host.reports = [r] → r.sq = q → r.index = i
    → s.host.jobs.find? (Job.isAt q i) = some j → j.opcode = 0x20 → j.started = true → r.stamp = some a → dma.ok = true → exec (.txStamp
    q i dma) s = .next (((s.withHost { s.host with reports := [] }).jobWrite j (wordAt j.bytes 40 8) (stampRecord a)).finishJob j dma
    .ok 0)) ∧
  (∀ (s : State) (q : Fin 1024) (i : Nat) (dma : Dma) (r : TxReport) (j : Job), s.CoreOn → s.host.reports = [r] → r.sq = q → r.index = i →
    s.host.jobs.find? (Job.isAt q i) = some j → j.opcode = 0x20 → j.started = true → r.stamp = none → exec (.txStamp q i dma) s = .next
    ((s.withHost { s.host with reports := [] }).finishJob j dma .ok 2)) ∧
  (∀ (s : State) (q : Fin 1024) (i : Nat) (j : Job) (dma : Dma), s.CoreOn → s.startable q i 0x21 = some j → zeroBytes j.bytes [(16, 4),
    (32, 32)] = true → wordAt j.bytes 20 4 % 64 = 0 → 2048 ≤ wordAt j.bytes 20 4 → wordAt j.bytes 20 4 ≤ 16384 → wordAt j.bytes 24 8 %
    64 = 0 → exec (.rxBuffer q i dma) s = .next (s.startJob j)) ∧
  (∀ (s : State) (q : Fin 1024) (i : Nat) (j : Job) (dma : Dma), s.CoreOn → s.startable q i 0x21 = some j → (wordAt j.bytes 20 4 % 64 ≠ 0 ∨
    wordAt j.bytes 20 4 < 2048 ∨ 16384 < wordAt j.bytes 20 4 ∨ wordAt j.bytes 24 8 % 64 ≠ 0) → exec (.rxBuffer q i dma) s = .next
    (s.failJob j dma .invalid)) ∧
  (∀ (s : State) (dma : Dma) (k : Pkt) (j : Job), s.CoreOn → Table.get noList s.net.tx portHP = [k] → (s.hpBuffers k.cls).head? = some j →
    k.bytes.length + 16 ≤ wordAt j.bytes 20 4 → dma.ok = true → exec (.rxDeliver dma) s = .next ((((((s.withNet { s.net with tx := Table.put noList s.net.tx portHP [] }).settle
    k).2.lessOutstanding portHP ((s.withNet { s.net with tx := Table.put noList s.net.tx portHP [] }).settle k).1.out).txReport
    ((s.withNet { s.net with tx := Table.put noList s.net.tx portHP [] }).settle k).1 none).jobWrite j (wordAt j.bytes 24 8)
    (stampRecord (((s.withNet { s.net with tx := Table.put noList s.net.tx portHP [] }).settle k).1.rxStamp.getD 0) ++ ((s.withNet { s.net with tx := Table.put noList s.net.tx portHP [] }).settle
    k).1.bytes)).finishJob j dma .ok (rxReturn ((s.withNet { s.net with tx := Table.put noList s.net.tx portHP [] }).settle k).1))) ∧
  (∀ (s : State) (dma : Dma) (k : Pkt) (j : Job), s.CoreOn → Table.get noList s.net.tx portHP = [k] → (s.hpBuffers k.cls).head? = some j →
    wordAt j.bytes 20 4 < k.bytes.length + 16 → exec (.rxDeliver dma) s = .next (((s.withNet { s.net with tx := Table.put noList s.net.tx portHP [] }).bump
    Obj.HOST_CTRL_HP_TOOBIG).dropSelected portHP k))

/-- Doorbells, PUSH, FETCH_VISIT, CQ_STASH_DRAIN and CQ_COALESCE_TIMEOUT: With the core on: SQ_DOORBELL on a page of the function's own
enabled SQ, with a value below twice the ring's size and at most the ring's size past SQ_HEAD, sets SQ_TAIL; on a page of another function,
of a ring that is not enabled, or with another value it counts BAD_DOORBELLS and raises E-8103; on a page of no ring it raises E-8103 of
that page. CQ_DOORBELL of an own enabled CQ, the first of its instant, with a value below twice the size and not past CQ_TAIL, sets CQ_HEAD,
keeps the head of before for the cycle, drops the signals of consumed entries and shows the ring; on another function's page, of a ring not
enabled or with another value it raises E-8103. PUSH of 64 bytes to an own SQ keeps them in the slot with the instant; of another length it
is a bad write (badWrite). FETCH_VISIT 2 ns or more after the last takes one visit of the round's next ring and fetches the smallest of
SQ_BURST, what is unfetched and what may be in flight, counts the jobs and settles a disable. CQ_STASH_DRAIN 4 ns or more after the CQ's
last, of an enabled CQ not in ERROR, of a stash that is not empty and to which no table is bound, with room in the ring: a write that
succeeds marks the stash as draining at the instant's end; one that fails sends the PCIe error, takes the CQ to ERROR and raises E-8201.
CQ_COALESCE_TIMEOUT of a ring with a vector, whose oldest unsignalled entry is CQ_COAL_NS old, signals and leaves none unsignalled; with
none unsignalled it changes nothing. Rests on (parts of) R390, R393 to R400, R411, R412, R414. Where these rules leave the point open it
states the model's choice: log entries 23, 81, 82, 191, 223, 225, 226. -/
def Obligations.RingsAreServed : Prop :=
  (∀ (s : State) (f : Fin 33) (p : Fin 1024) (q v : Nat), s.CoreOn → s.sqPage f p = some (q, true) → s.on (Obj.SQ_CONFIG_SQ_ENABLE q) =
    true → v < 2 ^ (s.get (Obj.SQ_CONFIG_SQ_SIZE q) + 1) → ringUsed (s.get (Obj.SQ_CONFIG_SQ_SIZE q)) (s.get (Obj.SQ_CONFIG_SQ_HEAD q))
    v ≤ 2 ^ s.get (Obj.SQ_CONFIG_SQ_SIZE q) → exec (.sqDoorbell f p v) s = .next (s.set (Obj.SQ_CONFIG_SQ_TAIL q) v)) ∧
  (∀ (s : State) (f : Fin 33) (p : Fin 1024) (q v : Nat) (o : Bool), s.CoreOn → s.sqPage f p = some (q, o) → (o = false ∨ s.on
    (Obj.SQ_CONFIG_SQ_ENABLE q) = false ∨ 2 ^ (s.get (Obj.SQ_CONFIG_SQ_SIZE q) + 1) ≤ v ∨ 2 ^ s.get (Obj.SQ_CONFIG_SQ_SIZE q) < ringUsed
    (s.get (Obj.SQ_CONFIG_SQ_SIZE q)) (s.get (Obj.SQ_CONFIG_SQ_HEAD q)) v) → exec (.sqDoorbell f p v) s = .next ((s.bump
    (Obj.SQ_CONFIG_BAD_DOORBELLS q)).raise 0x8103 uMGMT 0 q)) ∧
  (∀ (s : State) (f : Fin 33) (p : Fin 1024) (q v : Nat), s.CoreOn → s.cqPage f p = some (q, true) → s.on (Obj.CQ_CONFIG_CQ_ENABLE q) =
    true → v < 2 ^ (s.get (Obj.CQ_CONFIG_CQ_SIZE q) + 1) → ringUsed (s.get (Obj.CQ_CONFIG_CQ_SIZE q)) (s.get (Obj.CQ_CONFIG_CQ_HEAD q))
    v ≤ ringUsed (s.get (Obj.CQ_CONFIG_CQ_SIZE q)) (s.get (Obj.CQ_CONFIG_CQ_HEAD q)) (s.get (Obj.CQ_CONFIG_CQ_TAIL q)) → (s.cq
    q).oldHead = none → exec (.cqDoorbell f p v) s = .next (((s.setCq q { s.cq q with oldHead := some (s.time.now, s.get (Obj.CQ_CONFIG_CQ_HEAD q)), unsignalled := (s.cq q).unsignalled.drop ((s.cq q).unsignalled.length - ringUsed (s.get (Obj.CQ_CONFIG_CQ_SIZE q)) v (s.get (Obj.CQ_CONFIG_CQ_TAIL q))) }).set
    (Obj.CQ_CONFIG_CQ_HEAD q) v).cqShow q)) ∧
  (∀ (s : State) (f : Fin 33) (p : Fin 1024) (q : Nat) (v : Nat), s.CoreOn → s.sqPage f p = none → exec (.sqDoorbell f p v) s = .next
    (s.raise 0x8103 uMGMT 0 (pageScope f p false))) ∧
  (∀ (s : State) (f : Fin 33) (p : Fin 1024) (q v : Nat) (o : Bool), s.CoreOn → s.cqPage f p = some (q, o) → (o = false ∨ s.on
    (Obj.CQ_CONFIG_CQ_ENABLE q) = false ∨ 2 ^ (s.get (Obj.CQ_CONFIG_CQ_SIZE q) + 1) ≤ v ∨ ringUsed (s.get (Obj.CQ_CONFIG_CQ_SIZE q))
    (s.get (Obj.CQ_CONFIG_CQ_HEAD q)) (s.get (Obj.CQ_CONFIG_CQ_TAIL q)) < ringUsed (s.get (Obj.CQ_CONFIG_CQ_SIZE q)) (s.get
    (Obj.CQ_CONFIG_CQ_HEAD q)) v) → exec (.cqDoorbell f p v) s = .next (s.raise 0x8103 uMGMT 0 (1024 + q))) ∧
  (∀ (s : State) (f : Fin 33) (p : Fin 1024) (x : Fin 4) (e : List Byte) (q : Nat), s.CoreOn → s.sqPage f p = some (q, true) → e.length =
    64 → exec (.push f p x e) s = .next (s.withHost { s.host with push := Table.put noPush s.host.push (4 * q + x) (some ⟨e, true, s.time.now⟩) })) ∧
  (∀ (s : State) (f : Fin 33) (p : Fin 1024) (x : Fin 4) (e : List Byte) (q : Nat), s.CoreOn → s.sqPage f p = some (q, true) → e.length ≠
    64 → exec (.push f p x e) s = .next (s.badWrite f p)) ∧
  (∀ (s : State) (mem : List (Option (List Byte))) (r : Nat), s.CoreOn → (s.host.visitAt.all (fun b => Nat.ble (b + 2) s.time.now) = true)
    → s.nextVisit = some r → exec (.fetchVisit mem) s = .next ((State.fetchAll r ((List.range (min (min (s.get (Obj.SQ_CONFIG_SQ_BURST
    r)) (s.unfetched r)) (s.fetchRoom r))).map fun k => mem.getD k none) (s.withHost { s.host with visits := Table.put (fun _ => 0) s.host.visits r (s.visitsLeft r - 1), fetchLast := (r + 1024 - s.host.fetchPtr) % 1024 + 1, visitAt := some s.time.now })).countJobs.settleDisable)) ∧
  (∀ (s : State) (q : Fin 1024), s.CoreOn → s.get (Obj.CQ_CONFIG_CQ_ENABLE q) ≠ 0 → s.get (Obj.CQ_CONFIG_CQ_STATE q) ≠ 3 → s.boundTables q
    = [] → (s.cq q).stash ≠ [] → 0 < s.cqRoom q → ((s.cq q).drained.all (fun b => Nat.ble (b + 4) s.time.now) = true) → exec
    (.cqStashDrain q true) s = .next (s.setCq q { s.cq q with draining := true })) ∧
  (∀ (s : State) (q : Fin 1024), s.CoreOn → s.get (Obj.CQ_CONFIG_CQ_ENABLE q) ≠ 0 → s.get (Obj.CQ_CONFIG_CQ_STATE q) ≠ 3 → s.boundTables q
    = [] → (s.cq q).stash ≠ [] → 0 < s.cqRoom q → ((s.cq q).drained.all (fun b => Nat.ble (b + 4) s.time.now) = true) → exec
    (.cqStashDrain q false) s = .next (((s.emit (.pcieError (s.cqFn q))).set (Obj.CQ_CONFIG_CQ_STATE q) 3).raise 0x8201 uMGMT 0 (1024 +
    q))) ∧
  (∀ (s : State) (q : Fin 1024) (w : Nat × Bool) (l : List (Nat × Bool)), s.CoreOn → (s.cq q).unsignalled = w :: l → s.get
    (Obj.CQ_CONFIG_CQ_VECTOR q) ≠ 0xFFFF → w.1 + s.get (Obj.CQ_CONFIG_CQ_COAL_NS q) ≤ s.time.now → exec (.cqCoalesceTimeout q) s = .next
    ((s.setCq q { s.cq q with unsignalled := [] }).signal (s.cqFn q) (s.get (Obj.CQ_CONFIG_CQ_VECTOR q)))) ∧
  (∀ (s : State) (q : Fin 1024), s.CoreOn → (s.cq q).unsignalled = [] → exec (.cqCoalesceTimeout q) s = .next (s))

/-- SQ_ENABLE, CQ_ENABLE and VF_RESOURCES: Of an accepted write for a ring the master has selected: SQ_ENABLE 1 of a ring not live, whose CQ
is below 1,024, enabled, of the same function, bound to no table nor to the events and with an empty stash, sets SQ_ENABLE and STATE to 1
and the indices to 0; SQ_ENABLE 0 of an enabled ring aborts its receive buffers; where nothing of it is left STATE is 0, else the write
waits for its end. Each is finished as State.finish says. CQ_ENABLE 1 of a ring that is not enabled clears its indices and stash and sets
STATE to 1; CQ_ENABLE 0 of one that a live SQ uses is BUSY and changes only the access status. A write of VF_RESOURCES that its rule admits
is stored and answered OK. One of SQ_FIRST is INVALID where the block runs beyond 1,024, or overlaps another VF's block, neither being
empty; where it does neither, it is BUSY with a live SQ in the block, old or new. A refusal changes only the access status. Rests on (parts
of) R392, R393, R415, R417. Where these rules leave the point open it states the model's choice: log entries 84, 226, 230. -/
def Obligations.RingsAreEnabledAndLent : Prop :=
  (∀ (s : State) (q : Nat) (m v : Nat), s.Accepts m (Obj.SQ_CONFIG_SQ_ENABLE q) v → s.selectedSq m = some q → v = 1 → s.sqLive q = false →
    s.sqCq q < 1024 → s.get (Obj.CQ_CONFIG_CQ_ENABLE (s.sqCq q)) = 1 → s.cqFn (s.sqCq q) = s.sqFn q → s.boundTables (s.sqCq q) = [] →
    s.get Obj.EVENT_CTRL_EVENT_CQ ≠ s.sqCq q → (s.cq (s.sqCq q)).stash = [] → exec (.sqEnable m v) s = .next (State.finish (pathOf m) m
    (Obj.SQ_CONFIG_SQ_ENABLE q) (.ok, ((((s.set (Obj.SQ_CONFIG_SQ_ENABLE q) 1).set (Obj.SQ_CONFIG_SQ_HEAD q) 0).set
    (Obj.SQ_CONFIG_SQ_TAIL q) 0).withHost { s.host with stopped := s.host.stopped.filter (· != q) }).set (Obj.SQ_CONFIG_SQ_STATE q) 1))) ∧
  (∀ (s : State) (q m v : Nat) (w : State), s.Accepts m (Obj.SQ_CONFIG_SQ_ENABLE q) v → s.selectedSq m = some q → v = 0 → s.on
    (Obj.SQ_CONFIG_SQ_ENABLE q) = true → w = ((s.abortRx q).set (Obj.SQ_CONFIG_SQ_ENABLE q) 0).countJobs → w.sqEmpty q = true → exec
    (.sqEnable m v) s = .next (State.finish (pathOf m) m (Obj.SQ_CONFIG_SQ_ENABLE q) (.ok, w.set (Obj.SQ_CONFIG_SQ_STATE q) 0))) ∧
  (∀ (s : State) (q m v : Nat) (w : State), s.Accepts m (Obj.SQ_CONFIG_SQ_ENABLE q) v → s.selectedSq m = some q → v = 0 → s.on
    (Obj.SQ_CONFIG_SQ_ENABLE q) = true → w = ((s.abortRx q).set (Obj.SQ_CONFIG_SQ_ENABLE q) 0).countJobs → w.sqEmpty q = false → exec
    (.sqEnable m v) s = .next (State.finish (pathOf m) m (Obj.SQ_CONFIG_SQ_ENABLE q) (.ok, w.withHost { w.host with disabling := w.host.disabling ++ [⟨q, m, some .direct⟩] }))) ∧
  (∀ (s : State) (q : Nat) (m v : Nat), s.Accepts m (Obj.CQ_CONFIG_CQ_ENABLE q) v → s.selectedCq m = some q → v = 1 → s.on
    (Obj.CQ_CONFIG_CQ_ENABLE q) = false → exec (.cqEnable m v) s = .next (State.finish (pathOf m) m (Obj.CQ_CONFIG_CQ_ENABLE q) (.ok,
    ((((s.set (Obj.CQ_CONFIG_CQ_HEAD q) 0).set (Obj.CQ_CONFIG_CQ_TAIL q) 0).setCq q {}).set (Obj.CQ_CONFIG_CQ_ENABLE q) 1).set
    (Obj.CQ_CONFIG_CQ_STATE q) 1))) ∧
  (∀ (s : State) (q : Nat) (m v : Nat), s.Canonical → s.Accepts m (Obj.CQ_CONFIG_CQ_ENABLE q) v → s.selectedCq m = some q → v = 0 → s.on
    (Obj.CQ_CONFIG_CQ_ENABLE q) = true → q < 1024 → (∃ r, r < 1024 ∧ s.sqLive r = true ∧ s.sqCq r = q) → s.sec.fusing = none → ∃ t, exec
    (.cqEnable m v) s = .next t ∧ t.Answered m (Obj.CQ_CONFIG_CQ_ENABLE q) .busy ∧ Frame (keysOf [Obj.ACCESS_STATUS_LAST_STATUS m,
    Obj.ACCESS_STATUS_LAST_OBJECT m, Obj.ACCESS_STATUS_REFUSED m]) noKey [.sent] s t) ∧
  (∀ (s : State) (u : Fin 32) (k : Fin 4) (m v : Nat), s.Canonical → s.Accepts m (objKey 0 (0x1130 + u.val) (1 + k.val)) v →
    (ruleVfResources u (1 + k.val) (objKey 0 (0x1130 + u.val) (1 + k.val)) v s).1 = .ok → s.sec.fusing = none → ∃ t, exec (.vfResources
    u k m v) s = .next t ∧ t.get (objKey 0 (0x1130 + u.val) (1 + k.val)) = v ∧ t.Answered m (objKey 0 (0x1130 + u.val) (1 + k.val)) .ok
    ∧ Frame (keysOf [objKey 0 (0x1130 + u.val) (1 + k.val)]) noKey [.pair, .dict, .sent] s t) ∧
  (∀ (s : State) (u : Fin 32) (m v : Nat), s.Canonical → s.Accepts m (objKey 0 (0x1130 + u.val) 1) v → 1024 < v + s.get
    (Obj.VF_RESOURCES_SQ_COUNT u) → s.sec.fusing = none → ∃ t, exec (.vfResources u 0 m v) s = .next t ∧ t.Answered m (objKey 0 (0x1130
    + u.val) 1) .invalid ∧ Frame (keysOf [Obj.ACCESS_STATUS_LAST_STATUS m, Obj.ACCESS_STATUS_LAST_OBJECT m, Obj.ACCESS_STATUS_REFUSED
    m]) noKey [.sent] s t) ∧
  (∀ (s : State) (u w : Fin 32) (m v : Nat), s.Canonical → s.Accepts m (objKey 0 (0x1130 + u.val) 1) v → w ≠ u → 0 < s.get
    (Obj.VF_RESOURCES_SQ_COUNT u) → 0 < s.get (Obj.VF_RESOURCES_SQ_COUNT w) → v < s.get (Obj.VF_RESOURCES_SQ_FIRST w) + s.get
    (Obj.VF_RESOURCES_SQ_COUNT w) → s.get (Obj.VF_RESOURCES_SQ_FIRST w) < v + s.get (Obj.VF_RESOURCES_SQ_COUNT u) → s.sec.fusing = none
    → ∃ t, exec (.vfResources u 0 m v) s = .next t ∧ t.Answered m (objKey 0 (0x1130 + u.val) 1) .invalid ∧ Frame (keysOf
    [Obj.ACCESS_STATUS_LAST_STATUS m, Obj.ACCESS_STATUS_LAST_OBJECT m, Obj.ACCESS_STATUS_REFUSED m]) noKey [.sent] s t) ∧
  (∀ (s : State) (u : Fin 32) (i : Nat) (m v : Nat), s.Canonical → s.Accepts m (objKey 0 (0x1130 + u.val) 1) v → v + s.get
    (Obj.VF_RESOURCES_SQ_COUNT u) ≤ 1024 → (∀ w : Fin 32, w ≠ u → s.get (Obj.VF_RESOURCES_SQ_COUNT u) = 0 ∨ s.get
    (Obj.VF_RESOURCES_SQ_COUNT w) = 0 ∨ s.get (Obj.VF_RESOURCES_SQ_FIRST w) + s.get (Obj.VF_RESOURCES_SQ_COUNT w) ≤ v ∨ v + s.get
    (Obj.VF_RESOURCES_SQ_COUNT u) ≤ s.get (Obj.VF_RESOURCES_SQ_FIRST w)) → i < s.get (Obj.VF_RESOURCES_SQ_COUNT u) → (s.sqLive (v + i) =
    true ∨ s.sqLive (s.get (Obj.VF_RESOURCES_SQ_FIRST u) + i) = true) → s.sec.fusing = none → ∃ t, exec (.vfResources u 0 m v) s = .next
    t ∧ t.Answered m (objKey 0 (0x1130 + u.val) 1) .busy ∧ Frame (keysOf [Obj.ACCESS_STATUS_LAST_STATUS m, Obj.ACCESS_STATUS_LAST_OBJECT
    m, Obj.ACCESS_STATUS_REFUSED m]) noKey [.sent] s t)

/-- FUNCTION_LEVEL_RESET, PCIE_HOT_RESET, PCIE_LINK_DOWN, PCIE_LINK_UP and MSIX_UNMASK: With the core on: FUNCTION_LEVEL_RESET of a VF drops
its rings and resets its mailbox identity; of the PF drops the PF's rings and resets the identities of HOST and of all 32 VFs.
PCIE_HOT_RESET resets every function, as resetPcie says. PCIE_LINK_DOWN of a link that is up shows it down with speed, width and flit mode
0, counts LINK_DOWNS, does the same reset and raises E-8102. PCIE_LINK_UP of one that is down shows it up with its speed, its width and its
number of VFs, flit mode 1 at the sixth speed only, tells the identity of every function enabled, and changes besides only the event
records. MSIX_UNMASK that unmasks a function's vector which is its only pending one, with nothing unmasked and no function masked before,
unmasks it and sends the signal, which is then no longer pending. Rests on (parts of) R389, R391, R411, R415, R418, R429. Where these rules
leave the point open it states the model's choice: log entries 7, 85, 192. -/
def Obligations.PcieResetsAndLinkChanges : Prop :=
  (∀ (s : State) (f : Fin 33), s.CoreOn → f.val ≠ 0 → exec (.functionLevelReset f) s = .next ((s.dropFunctions [f.val]).resetIdentity
    (f.val + 1))) ∧
  (∀ (s : State), s.CoreOn → exec (.functionLevelReset 0) s = .next (forEach (List.range 33) (s.dropFunctions [0]) fun s k =>
    s.resetIdentity (if k = 0 then HOST else k + 1))) ∧
  (∀ (s : State), s.CoreOn → exec (.pcieHotReset) s = .next (s.resetPcie)) ∧
  (∀ (s : State), s.CoreOn → s.on Obj.PCIE_LINK_LINK_UP = true → exec (.pcieLinkDown) s = .next (((((((s.set Obj.PCIE_LINK_LINK_UP 0).set
    Obj.PCIE_LINK_LINK_SPEED 0).set Obj.PCIE_LINK_LINK_WIDTH 0).set Obj.PCIE_LINK_FLIT_MODE 0).bump
    Obj.PCIE_LINK_LINK_DOWNS).resetPcie).raise 0x8102 uMGMT 0)) ∧
  (∀ (s : State) (v : Fin 6) (w : Fin 5) (n : Fin 33), s.Canonical → s.CoreOn → s.on Obj.PCIE_LINK_LINK_UP = false → ∃ t, exec (.pcieLinkUp
    v w n) s = .next t ∧ t.get Obj.PCIE_LINK_LINK_UP = 1 ∧ t.get Obj.PCIE_LINK_LINK_SPEED = v.val + 1 ∧ t.get Obj.PCIE_LINK_LINK_WIDTH =
    2 ^ w.val ∧ (t.get Obj.PCIE_LINK_FLIT_MODE = if v.val = 5 then 1 else 0) ∧ t.get Obj.PCIE_LINK_VFS_ENABLED = n.val ∧ (∀ k, k ≤ n.val
    → Emission.identify k pcieDeviceId pcieClassCode ∈ t.sent) ∧ Frame (keysAndEvents [Obj.PCIE_LINK_LINK_UP, Obj.PCIE_LINK_LINK_SPEED,
    Obj.PCIE_LINK_LINK_WIDTH, Obj.PCIE_LINK_FLIT_MODE, Obj.PCIE_LINK_VFS_ENABLED]) noKey (.sent :: eventParts) s t) ∧
  (∀ (s : State) (f : Fin 33) (v : Fin 1024), s.CoreOn → s.msix.fnMasked = [] → s.msix.unmasked = [] → s.msix.pba = [vecKey f v] → v.val <
    vectorsOf f → ∃ t, exec (.msixUnmask f (.vector v false)) s = .next t ∧ t.msix.unmasked = [vecKey f v] ∧ t.msix.pba = [] ∧ t.sent =
    .msix f v :: s.sent ∧ Frame noKey noKey [.msix, .sent] s t)

/-- The lock of a shared channel is released by its holder only, or by the holder's reset: On a shared channel an accepted write of 0 to
LOCK by its holder leaves LOCK 0 and is answered OK; a write of 0 by any other master is BUSY, and a write of another value INVALID, each
changing only the access status; SEND by any master leaves LOCK as it was; a reset of the holder's identity, carried out, leaves LOCK 0. -/
def Obligations.HolderReleasesTheLock : Prop :=
  (∀ (s : State) (c : Fin 64) (m v : Nat), s.Canonical → s.Accepts m (Obj.MAILBOX_LOCK c) v → v = 0 → Fld.BND_SHARED.get (s.binding c) = 1
    → s.get (Obj.MAILBOX_LOCK c) = m → s.sec.fusing = none → ∃ t, exec (.lockRelease c m v) s = .next t ∧ t.get (Obj.MAILBOX_LOCK c) = 0
    ∧ t.Answered m (Obj.MAILBOX_LOCK c) .ok ∧ Frame (keysOf [Obj.MAILBOX_LOCK c]) noKey [.pair, .dict, .sent] s t) ∧
  (∀ (s : State) (c : Fin 64) (m v : Nat), s.Canonical → s.Accepts m (Obj.MAILBOX_LOCK c) v → v = 0 → Fld.BND_SHARED.get (s.binding c) = 1
    → s.get (Obj.MAILBOX_LOCK c) ≠ m → s.sec.fusing = none → ∃ t, exec (.lockRelease c m v) s = .next t ∧ t.Answered m (Obj.MAILBOX_LOCK
    c) .busy ∧ Frame (keysOf [Obj.ACCESS_STATUS_LAST_STATUS m, Obj.ACCESS_STATUS_LAST_OBJECT m, Obj.ACCESS_STATUS_REFUSED m]) noKey
    [.sent] s t) ∧
  (∀ (s : State) (c : Fin 64) (m v : Nat), s.Canonical → s.Accepts m (Obj.MAILBOX_LOCK c) v → v ≠ 0 → Fld.BND_SHARED.get (s.binding c) = 1
    → s.sec.fusing = none → ∃ t, exec (.lockRelease c m v) s = .next t ∧ t.Answered m (Obj.MAILBOX_LOCK c) .invalid ∧ Frame (keysOf
    [Obj.ACCESS_STATUS_LAST_STATUS m, Obj.ACCESS_STATUS_LAST_OBJECT m, Obj.ACCESS_STATUS_REFUSED m]) noKey [.sent] s t) ∧
  (∀ (s : State) (c : Fin 64) (m v : Nat), s.Canonical → Fld.BND_SHARED.get (s.binding c) = 1 → ∃ t, exec (.send c m v) s = .next t ∧ t.get
    (Obj.MAILBOX_LOCK c) = s.get (Obj.MAILBOX_LOCK c)) ∧
  (∀ (s : State) (c m : Nat), s.Canonical → c < 64 → m ≠ 0 → s.host.resetting = [] → s.get (Obj.MAILBOX_LOCK c) = m → (s.resetIdentity
    m).applyResets.get (Obj.MAILBOX_LOCK c) = 0)

/-- MB_BINDING, SEND, ACK and LOCK_READ of the mailboxes, DB_PENDING and DB_MASK of the doorbells: Accepted writes: a legal MB_BINDING
(judged with bits 19:16 as 0) of a channel not POSTED is stored; an illegal one is INVALID, one that changes a POSTED channel BUSY. SEND 1
on a channel not POSTED clears ACK, counts POSTS, sets STATE to POSTED and, for another receiver than MATE, rings its doorbell bit; for MATE
with the link up sends the message, and with it down fails as mateMailFailed with 0xFFFE does; on a POSTED channel it is BUSY. ACK with a
legal value ([31:30] 2, [29:16] 0, a code below 0xFFFD) of a POSTED channel is stored, STATE becomes ACKED and the sender is rung; of any
other it is BUSY. A refusal changes only the access status. LOCK_READ through the window of a shared valid channel by a master that may read
it waits for the end of the cycle; there the only reader takes a free lock and reads 0, reads 0 of a lock it holds and the holder of any
other; of two readers the lower identity gets a free lock. With no doorbell rung in the cycle: DB_PENDING clears the bits written 1; DB_MASK
is stored and, where it uncovers a pending bit, signals the owner. A ring sets its bit of DB_PENDING, and at the end of the cycle a fresh
bit that is not masked signals the owner once. Rests on (parts of) R419, R420, R423 to R427, R430, R432. Where these rules leave the point
open it states the model's choice: log entries 25, 86, 165. -/
def Obligations.MailboxesCarryMessages : Prop :=
  (∀ (s : State) (c : Fin 64) (m v : Nat), s.Accepts m (Obj.MB_BINDING_BIND_MB c) v → bindingOk (setBits v 16 4 0) = true → s.get
    (Obj.MAILBOX_STATE c) ≠ 1 → exec (.mbBinding c m v) s = .next (State.finish (pathOf m) m (Obj.MB_BINDING_BIND_MB c) (.ok, s.commit
    (Obj.MB_BINDING_BIND_MB c) (setBits v 16 4 0)))) ∧
  (∀ (s : State) (c : Fin 64) (m v : Nat), s.Canonical → s.Accepts m (Obj.MB_BINDING_BIND_MB c) v → bindingOk (setBits v 16 4 0) = false →
    s.sec.fusing = none → ∃ t, exec (.mbBinding c m v) s = .next t ∧ t.Answered m (Obj.MB_BINDING_BIND_MB c) .invalid ∧ Frame (keysOf
    [Obj.ACCESS_STATUS_LAST_STATUS m, Obj.ACCESS_STATUS_LAST_OBJECT m, Obj.ACCESS_STATUS_REFUSED m]) noKey [.sent] s t) ∧
  (∀ (s : State) (c : Fin 64) (m v : Nat), s.Canonical → s.Accepts m (Obj.MB_BINDING_BIND_MB c) v → bindingOk (setBits v 16 4 0) = true →
    s.get (Obj.MAILBOX_STATE c) = 1 → setBits v 16 4 0 ≠ s.binding c → s.sec.fusing = none → ∃ t, exec (.mbBinding c m v) s = .next t ∧
    t.Answered m (Obj.MB_BINDING_BIND_MB c) .busy ∧ Frame (keysOf [Obj.ACCESS_STATUS_LAST_STATUS m, Obj.ACCESS_STATUS_LAST_OBJECT m,
    Obj.ACCESS_STATUS_REFUSED m]) noKey [.sent] s t) ∧
  (∀ (s : State) (c : Fin 64) (m v : Nat), s.Accepts m (Obj.MAILBOX_SEND c) v → v = 1 → s.get (Obj.MAILBOX_STATE c) ≠ 1 →
    Fld.BND_RECEIVER.get ((((s.set (Obj.MAILBOX_ACK c) 0).bump (Obj.MAILBOX_POSTS c)).set (Obj.MAILBOX_STATE c) 1).binding c) ≠ MATE →
    exec (.send c m v) s = .next (State.finish (pathOf m) m (Obj.MAILBOX_SEND c) (.ok, (((s.set (Obj.MAILBOX_ACK c) 0).bump
    (Obj.MAILBOX_POSTS c)).set (Obj.MAILBOX_STATE c) 1).ring (Fld.BND_RECEIVER.get ((((s.set (Obj.MAILBOX_ACK c) 0).bump
    (Obj.MAILBOX_POSTS c)).set (Obj.MAILBOX_STATE c) 1).binding c)) (Fld.BND_RX_BIT.get ((((s.set (Obj.MAILBOX_ACK c) 0).bump
    (Obj.MAILBOX_POSTS c)).set (Obj.MAILBOX_STATE c) 1).binding c))))) ∧
  (∀ (s : State) (c : Fin 64) (m v : Nat), s.Accepts m (Obj.MAILBOX_SEND c) v → v = 1 → s.get (Obj.MAILBOX_STATE c) ≠ 1 →
    Fld.BND_RECEIVER.get ((((s.set (Obj.MAILBOX_ACK c) 0).bump (Obj.MAILBOX_POSTS c)).set (Obj.MAILBOX_STATE c) 1).binding c) = MATE →
    s.pair.linkUp = true → exec (.send c m v) s = .next (State.finish (pathOf m) m (Obj.MAILBOX_SEND c) (.ok, (((s.set (Obj.MAILBOX_ACK
    c) 0).bump (Obj.MAILBOX_POSTS c)).set (Obj.MAILBOX_STATE c) 1).sendMail c .message))) ∧
  (∀ (s : State) (c : Fin 64) (m v : Nat), s.Accepts m (Obj.MAILBOX_SEND c) v → v = 1 → s.get (Obj.MAILBOX_STATE c) ≠ 1 →
    Fld.BND_RECEIVER.get ((((s.set (Obj.MAILBOX_ACK c) 0).bump (Obj.MAILBOX_POSTS c)).set (Obj.MAILBOX_STATE c) 1).binding c) = MATE →
    s.pair.linkUp = false → exec (.send c m v) s = .next (State.finish (pathOf m) m (Obj.MAILBOX_SEND c) (.ok, (((s.set (Obj.MAILBOX_ACK
    c) 0).bump (Obj.MAILBOX_POSTS c)).set (Obj.MAILBOX_STATE c) 1).mateMailFailed c 0xFFFE))) ∧
  (∀ (s : State) (c : Fin 64) (m v : Nat), s.Canonical → s.Accepts m (Obj.MAILBOX_SEND c) v → v = 1 → s.get (Obj.MAILBOX_STATE c) = 1 →
    s.sec.fusing = none → ∃ t, exec (.send c m v) s = .next t ∧ t.Answered m (Obj.MAILBOX_SEND c) .busy ∧ Frame (keysOf
    [Obj.ACCESS_STATUS_LAST_STATUS m, Obj.ACCESS_STATUS_LAST_OBJECT m, Obj.ACCESS_STATUS_REFUSED m]) noKey [.sent] s t) ∧
  (∀ (s : State) (c : Fin 64) (m v : Nat), s.Accepts m (Obj.MAILBOX_ACK c) v → bits v 30 2 = 2 → bits v 16 14 = 0 → v % 65536 < 0xFFFD →
    s.get (Obj.MAILBOX_STATE c) = 1 → (((s.set (Obj.MAILBOX_ACK c) v).set (Obj.MAILBOX_STATE c) 2).withHost { s.host with acked := c.val :: s.host.acked }).channelSender
    c ≠ MATE → exec (.ack c m v) s = .next (State.finish (pathOf m) m (Obj.MAILBOX_ACK c) (.ok, (((s.set (Obj.MAILBOX_ACK c) v).set
    (Obj.MAILBOX_STATE c) 2).withHost { s.host with acked := c.val :: s.host.acked }).ringSender c))) ∧
  (∀ (s : State) (c : Fin 64) (m v : Nat), s.Canonical → s.Accepts m (Obj.MAILBOX_ACK c) v → bits v 30 2 = 2 → bits v 16 14 = 0 → v % 65536
    < 0xFFFD → s.get (Obj.MAILBOX_STATE c) ≠ 1 → s.sec.fusing = none → ∃ t, exec (.ack c m v) s = .next t ∧ t.Answered m
    (Obj.MAILBOX_ACK c) .busy ∧ Frame (keysOf [Obj.ACCESS_STATUS_LAST_STATUS m, Obj.ACCESS_STATUS_LAST_OBJECT m,
    Obj.ACCESS_STATUS_REFUSED m]) noKey [.sent] s t) ∧
  (∀ (s : State) (c : Fin 64) (m : Nat), s.unreached m = false → s.waits .window m true = false → s.checkRead .window m (Obj.MAILBOX_LOCK
    c) = .ok → pathOf m = .window → Fld.BND_VALID.get (s.binding c) = 1 → Fld.BND_SHARED.get (s.binding c) = 1 → m ≠ DBG → exec
    (.lockRead c m) s = .next (s.withHost { s.host with lockReads := s.host.lockReads ++ [⟨c.val, m, .master⟩] })) ∧
  (∀ (s : State) (c m : Nat), m < 64 → s.host.lockReads = [⟨c, m, .master⟩] → Fld.BND_VALID.get (s.binding c) = 1 → Fld.BND_SHARED.get
    (s.binding c) = 1 → m ≠ DBG → s.get (Obj.MAILBOX_LOCK c) = 0 → s.answerLocks = ((s.withHost { s.host with lockReads := [] }).set
    (Obj.MAILBOX_LOCK c) m).answer m (Obj.MAILBOX_LOCK c) .ok 0) ∧
  (∀ (s : State) (c m : Nat), m < 64 → s.host.lockReads = [⟨c, m, .master⟩] → Fld.BND_VALID.get (s.binding c) = 1 → Fld.BND_SHARED.get
    (s.binding c) = 1 → m ≠ DBG → s.get (Obj.MAILBOX_LOCK c) = m → 0 < m → s.answerLocks = ((s.withHost { s.host with lockReads := [] })).answer
    m (Obj.MAILBOX_LOCK c) .ok 0) ∧
  (∀ (s : State) (c m : Nat), m < 64 → s.host.lockReads = [⟨c, m, .master⟩] → Fld.BND_VALID.get (s.binding c) = 1 → Fld.BND_SHARED.get
    (s.binding c) = 1 → m ≠ DBG → 0 < s.get (Obj.MAILBOX_LOCK c) → s.get (Obj.MAILBOX_LOCK c) ≠ m → s.answerLocks = ((s.withHost { s.host with lockReads := [] })).answer
    m (Obj.MAILBOX_LOCK c) .ok (s.get (Obj.MAILBOX_LOCK c))) ∧
  (∀ (s : State) (m v : Nat), s.Accepts m (Obj.DOORBELL_DB_PENDING m) v → s.host.rung = [] → exec (.dbPendingClear m v) s = .next
    (State.finish (pathOf m) m (Obj.DOORBELL_DB_PENDING m) (.ok, s.commit (Obj.DOORBELL_DB_PENDING m) (s.get (Obj.DOORBELL_DB_PENDING m)
    - Nat.land (s.get (Obj.DOORBELL_DB_PENDING m)) v)))) ∧
  (∀ (s : State) (m v : Nat), s.Accepts m (Obj.DOORBELL_DB_MASK m) v → s.host.rung = [] → Nat.land ((s.commit (Obj.DOORBELL_DB_MASK m)
    v).get (Obj.DOORBELL_DB_PENDING m)) (s.get (Obj.DOORBELL_DB_MASK m) - Nat.land (s.get (Obj.DOORBELL_DB_MASK m)) v) ≠ 0 → exec
    (.dbMask m v) s = .next (State.finish (pathOf m) m (Obj.DOORBELL_DB_MASK m) (.ok, (s.commit (Obj.DOORBELL_DB_MASK m) v).signalOwner
    m))) ∧
  (∀ (s : State) (m v : Nat), s.Accepts m (Obj.DOORBELL_DB_MASK m) v → s.host.rung = [] → Nat.land ((s.commit (Obj.DOORBELL_DB_MASK m)
    v).get (Obj.DOORBELL_DB_PENDING m)) (s.get (Obj.DOORBELL_DB_MASK m) - Nat.land (s.get (Obj.DOORBELL_DB_MASK m)) v) = 0 → exec
    (.dbMask m v) s = .next (State.finish (pathOf m) m (Obj.DOORBELL_DB_MASK m) (.ok, s.commit (Obj.DOORBELL_DB_MASK m) v))) ∧
  (∀ (s : State) (c a b : Nat), c < 64 → b < a → a < 64 → a ≠ DBG → b ≠ DBG → 0 < b → s.Canonical → s.host.lockReads = [⟨c, a, .master⟩,
    ⟨c, b, .master⟩] → Fld.BND_VALID.get (s.binding c) = 1 → Fld.BND_SHARED.get (s.binding c) = 1 → s.get (Obj.MAILBOX_LOCK c) = 0 →
    s.answerLocks.get (Obj.MAILBOX_LOCK c) = b) ∧
  (∀ (s : State) (m b : Nat), s.Canonical → hasDoorbell m = true → (s.ring m b).get (Obj.DOORBELL_DB_PENDING m) = Nat.lor (s.get
    (Obj.DOORBELL_DB_PENDING m)) (2 ^ b)) ∧
  (∀ (s : State) (m b : Nat), s.host.rung = [⟨m, b, false⟩] → (s.get (Obj.DOORBELL_DB_PENDING m)).testBit b = true → (s.get
    (Obj.DOORBELL_DB_MASK m)).testBit b = false → s.doorbellSignals = (s.withHost { s.host with rung := [] }).signalOwner m)

/-- TOKEN, CLAIM, SOLICIT, SET_SUCCESSOR, SOLICIT_WINDOW_END, TOKEN_PASS_TIMEOUT, TOKEN_LOST, CLAIM_ROUND and POLL: Of a frame at the head
of the MAC's queue: a TOKEN for a token station that is not silent is taken, from a known last one, with a successor and nothing offered,
setting ROTATION_US and, where the station had offered itself, the successor offered, and starts a visit. A SOLICIT whose range takes in a
listening token station is answered with SET_SUCCESSOR and what it offers is kept; a SET_SUCCESSOR of an address in the own open window
names the successor. A CLAIM of another ends a claim in LISTEN. Of a claiming station in its last round: its CLAIM read back intact counts
CLAIMS_WON, raises E-8003 and visits with itself as successor; a garbled one silences it, counts DUP_ADDRESS and raises E-8202. CLAIM_ROUND
70,000 ns after the last, with no foreign carrier, sends the next of four pads, then its CLAIM; with one, its own pad over, it listens.
SOLICIT_WINDOW_END of the own window passes the token where it is answered, or silent for 10,000 ns with no lower part left; a garbled one
of more than one address counts SOLICIT_COLLISIONS and opens half of it. TOKEN_PASS_TIMEOUT 10,000 ns after the end of the pass sends the
token once more; the second time counts PASS_FAILURES, drops the successor and passes to the next lower known. TOKEN_LOST after 80,000 ns
without carrier ends a rejoin, counts CLAIMS, raises E-8106 and starts a claim. A POLL of a supervisor at a slave with records waiting sends
the oldest, with the number waiting and DB_PENDING, and counts EMERG_SENT. Rests on (parts of) R441 to R450, R455. Where these rules leave
the point open it states the model's choice: log entries 1, 26, 195, 196, 197. -/
def Obligations.TokenRingTurns : Prop :=
  (∀ (s : State) (f : CoicaFrame) (l : List CoicaFrame) (a : Nat), s.coica.rx = f :: l → f.type = fcTOKEN → f.da = s.station →
    s.tokenStation = true → s.coica.silentUntil = none → s.coica.lastToken = some a → s.coica.offered = none → s.coica.rejoin = false →
    s.get Obj.COICA_STATION_SUCCESSOR ≠ 0 → exec (.token) s = .next ((((s.withCoica { s.coica with rx := l }).set
    Obj.COICA_STATION_ROTATION_US (((s.withCoica { s.coica with rx := l }).time.now - a) / 1000 % 2 ^ 32)).withCoica { ((s.withCoica { s.coica with rx := l }).set Obj.COICA_STATION_ROTATION_US (((s.withCoica { s.coica with rx := l }).time.now - a) / 1000 % 2 ^ 32)).coica with lastToken := some ((s.withCoica { s.coica with rx := l }).set Obj.COICA_STATION_ROTATION_US (((s.withCoica { s.coica with rx := l }).time.now - a) / 1000 % 2 ^ 32)).time.now, offered := none, rejoin := false, round := none, window := none, passing := none }).visit)) ∧
  (∀ (s : State) (f : CoicaFrame) (l : List CoicaFrame) (a : Nat), s.coica.rx = f :: l → f.type = fcTOKEN → f.da = s.station →
    s.tokenStation = true → s.coica.silentUntil = none → s.coica.lastToken = none → s.coica.offered = some a → exec (.token) s = .next
    ((((s.withCoica { s.coica with rx := l }).set Obj.COICA_STATION_SUCCESSOR a).withCoica { ((s.withCoica { s.coica with rx := l }).set Obj.COICA_STATION_SUCCESSOR a).coica with lastToken := some ((s.withCoica { s.coica with rx := l }).set Obj.COICA_STATION_SUCCESSOR a).time.now, offered := none, rejoin := false, round := none, window := none, passing := none }).visit)) ∧
  (∀ (s : State), s.cmbState = csCLAIMING → s.coica.round = some 4 → exec (.claim (some true)) s = .next (((((s.cmbQuiet).bump
    Obj.COICA_STATS_CLAIMS_WON).raise 0x8003 uAON 0).set Obj.COICA_STATION_SUCCESSOR s.station).visit)) ∧
  (∀ (s : State), s.cmbState = csCLAIMING → s.coica.round = some 4 → exec (.claim (some false)) s = .next ((((s.cmbQuiet).setCmb
    csSILENT).bump Obj.COICA_STATS_DUP_ADDRESS).raise 0x8202 uAON 0)) ∧
  (∀ (s : State) (f : CoicaFrame) (l : List CoicaFrame), s.coica.rx = f :: l → f.type = fcCLAIM → s.cmbState = csCLAIMING → exec (.claim
    none) s = .next (((s.withCoica { s.coica with rx := l }).cmbQuiet).setCmb csLISTEN)) ∧
  (∀ (s : State) (f : CoicaFrame) (l : List CoicaFrame), s.coica.rx = f :: l → f.type = fcSOLICIT → s.tokenStation = true → s.cmbState =
    csLISTEN → (s.station + 126 - byteAt f.payload 0) % 126 ≤ (byteAt f.payload 1 + 126 - byteAt f.payload 0) % 126 → exec (.solicit) s
    = .next (((s.withCoica { s.coica with rx := l }).cmbSend f.sa fcSETSUCC []).withCoica { ((s.withCoica { s.coica with rx := l }).cmbSend f.sa fcSETSUCC []).coica with offered := some (byteAt f.payload 2) })) ∧
  (∀ (s : State) (f : CoicaFrame) (l : List CoicaFrame) (w : SolicitWindow), s.coica.rx = f :: l → f.type = fcSETSUCC → s.cmbState =
    csHOLDING → f.da = s.station → s.coica.window = some w → w.answered = none → (f.sa + 126 - w.lo) % 126 < w.count → exec
    (.setSuccessor) s = .next ((((s.withCoica { s.coica with rx := l }).withCoica { (s.withCoica { s.coica with rx := l }).coica with window := some { w with answered := some f.sa } }).set
    Obj.COICA_STATION_SUCCESSOR f.sa).learnKnown f.sa)) ∧
  (∀ (s : State) (b : Bool) (w : SolicitWindow), s.coica.window = some w → s.cmbState = csHOLDING → (w.answered.isSome = true ∨ (b = false
    ∧ w.lower = 0 ∧ s.coica.carrier + 10000 ≤ s.time.now)) → s.get Obj.COICA_STATION_SUCCESSOR ≠ s.station → s.get
    Obj.COICA_STATION_SUCCESSOR ≠ 0 → exec (.solicitWindowEnd b) s = .next ((s.withCoica { s.coica with window := none }).passToken)) ∧
  (∀ (s : State) (w : SolicitWindow), s.coica.window = some w → s.cmbState = csHOLDING → w.answered = none → 1 < w.count → exec
    (.solicitWindowEnd true) s = .next ((s.bump Obj.COICA_STATS_SOLICIT_COLLISIONS).openWindow (cmbUp w.lo (w.count / 2)) (w.count -
    w.count / 2) w.lo (w.count / 2))) ∧
  (∀ (s : State), s.coica.silentUntil = none → s.coica.passing = some 0 → s.cmbState = csINRING → s.coica.passEnd + 10000 ≤ s.time.now →
    exec (.tokenPassTimeout) s = .next ((s.cmbSend (s.get Obj.COICA_STATION_SUCCESSOR) fcTOKEN []).withCoica { (s.cmbSend (s.get Obj.COICA_STATION_SUCCESSOR) fcTOKEN []).coica with passing := some 1, passEnd := (s.cmbSend (s.get Obj.COICA_STATION_SUCCESSOR) fcTOKEN []).coica.carrier })) ∧
  (∀ (s : State) (a : Nat) (w : State), s.coica.silentUntil = none → s.coica.passing = some 1 → s.cmbState = csINRING → s.coica.passEnd +
    10000 ≤ s.time.now → w = (s.bump Obj.COICA_STATS_PASS_FAILURES).leaveKnown (s.get Obj.COICA_STATION_SUCCESSOR) → w.nextLower (s.get
    Obj.COICA_STATION_SUCCESSOR) = a → a ≠ 0 → exec (.tokenPassTimeout) s = .next ((w.set Obj.COICA_STATION_SUCCESSOR a).passToken)) ∧
  (∀ (s : State), s.tokenStation = true → (s.cmbState = csLISTEN ∨ s.cmbState = csINRING ∨ s.cmbState = csHOLDING) → s.coica.ignoring =
    false → s.coica.carrier + 80000 ≤ s.time.now → exec (.tokenLost) s = .next ((((((s.cmbQuiet).setCmb csCLAIMING).bump
    Obj.COICA_STATS_CLAIMS).raise 0x8106 uAON 0).withCoica { ((((s.cmbQuiet).setCmb csCLAIMING).bump Obj.COICA_STATS_CLAIMS).raise 0x8106 uAON 0).coica with roundAt := s.time.now, rejoin := false }).claimPad
    0)) ∧
  (∀ (s : State) (r : Nat), s.coica.round = some r → s.cmbState = csCLAIMING → r < 3 → s.coica.roundAt + 70000 ≤ s.time.now → exec
    (.claimRound false) s = .next ((s.withCoica { s.coica with roundAt := s.coica.roundAt + 70000 }).claimPad (r + 1))) ∧
  (∀ (s : State), s.coica.round = some 3 → s.cmbState = csCLAIMING → s.coica.roundAt + 70000 ≤ s.time.now → exec (.claimRound false) s =
    .next ((s.cmbSend 127 fcCLAIM []).withCoica { (s.cmbSend 127 fcCLAIM []).coica with round := some 4 })) ∧
  (∀ (s : State) (r : Nat), s.coica.round = some r → s.cmbState = csCLAIMING → r < 4 → s.coica.roundAt + 20000 * claimValue s.station r ≤
    s.time.now → exec (.claimRound true) s = .next (((s.withCoica { s.coica with carrier := s.time.now }).cmbQuiet).setCmb csLISTEN)) ∧
  (∀ (s : State) (f : CoicaFrame) (l : List CoicaFrame) (r : EventRec) (e : List EventRec), s.coica.rx = f :: l → f.type = fcPOLL →
    s.coica.silentUntil = none → s.get Obj.COICA_STATION_ROLE = 1 → f.da = s.station → s.isSupv f.sa = true → s.coica.emerg = r :: e →
    exec (.poll) s = .next ((((s.withCoica { s.coica with rx := l }).withCoica { (s.withCoica { s.coica with rx := l }).coica with emerg := e }).cmbSend
    f.sa 0x11 (bytesBE 1 (e.length + 1) ++ bytesBE 4 (s.get (Obj.DOORBELL_DB_PENDING SUPV)) ++ emergImage r)).bump
    Obj.COICA_STATS_EMERG_SENT))

/-- Coica frame reception, the known set's ageing, STATION_ADDR, ROLE and wake patterns: Of a station that does not ignore the bus,
COICA_FRAME_RX notes the carrier and: with a code violation counts CODE_ERRORS; of fewer than 9 bytes LENGTH_ERRORS; with a wrong FCS
CRC_ERRORS; with LENGTH above 1,024 or not the frame's LENGTH_ERRORS; of an unknown type CODE_ERRORS; else ends a token pass, counts
FRAMES_RX, compares the frame with the wake patterns and gives it to the MAC. KNOWN_AGE of an address unheard for its age takes it out of
the known set. An accepted STATION_ADDR of a token station is stored and restarts it in LISTEN with no frame waiting and no successor, to
rejoin by a window; of a slave it is stored and the slave stays one. An accepted ROLE 1 makes a station that is not SILENT a slave, with age
and class read anew; of a SILENT one it is stored and it stays SILENT. A field but WP_ENABLE of a disabled wake pattern is stored with its
WP_CHECK, of an enabled one BUSY with only the access status changed; WP_ENABLE is stored with WP_CHECK unless it is 1 and the mask has a
bit beyond WP_LENGTH. Rests on (parts of) R437 to R441, R446, R447, R449, R457, R460. Where these rules leave the point open it states the
model's choice: log entries 26, 90, 195, 208, 224. -/
def Obligations.BusFaultsAndSettings : Prop :=
  (∀ (s : State) (b : List Byte), s.coica.ignoring = false → exec (.coicaFrameRx b true) s = .next ((s.withCoica { s.coica with carrier := s.time.now }).bump
    Obj.COICA_STATS_CODE_ERRORS)) ∧
  (∀ (s : State) (b : List Byte), s.coica.ignoring = false → 9 ≤ b.length → wordAt b (b.length - 4) 4 ≠ crc32 (b.take (b.length - 4)) →
    exec (.coicaFrameRx b false) s = .next ((s.withCoica { s.coica with carrier := s.time.now }).bump Obj.COICA_STATS_CRC_ERRORS)) ∧
  (∀ (s : State) (b : List Byte), s.coica.ignoring = false → b.length < 9 → exec (.coicaFrameRx b false) s = .next ((s.withCoica { s.coica with carrier := s.time.now }).bump
    Obj.COICA_STATS_LENGTH_ERRORS)) ∧
  (∀ (s : State) (b : List Byte), s.coica.ignoring = false → 9 ≤ b.length → wordAt b (b.length - 4) 4 = crc32 (b.take (b.length - 4)) →
    (1024 < wordAt b 3 2 ∨ wordAt b 3 2 + 9 ≠ b.length) → exec (.coicaFrameRx b false) s = .next ((s.withCoica { s.coica with carrier := s.time.now }).bump
    Obj.COICA_STATS_LENGTH_ERRORS)) ∧
  (∀ (s : State) (b : List Byte), s.coica.ignoring = false → 9 ≤ b.length → wordAt b (b.length - 4) 4 = crc32 (b.take (b.length - 4)) →
    wordAt b 3 2 ≤ 1024 → wordAt b 3 2 + 9 = b.length → cmbTypes.contains (byteAt b 0) = false → exec (.coicaFrameRx b false) s = .next
    ((s.withCoica { s.coica with carrier := s.time.now }).bump Obj.COICA_STATS_CODE_ERRORS)) ∧
  (∀ (s : State) (b : List Byte), s.coica.ignoring = false → 9 ≤ b.length → wordAt b (b.length - 4) 4 = crc32 (b.take (b.length - 4)) →
    wordAt b 3 2 ≤ 1024 → wordAt b 3 2 + 9 = b.length → cmbTypes.contains (byteAt b 0) = true → exec (.coicaFrameRx b false) s = .next
    (((((s.withCoica { s.coica with carrier := s.time.now }).withCoica { (s.withCoica { s.coica with carrier := s.time.now }).coica with passing := none }).bump
    Obj.COICA_STATS_FRAMES_RX).wakeMatch b).toMac ⟨byteAt b 0, byteAt b 1, byteAt b 2, (b.drop 5).take (b.length - 9)⟩)) ∧
  (∀ (s : State) (a : Fin 127), s.known a = true → (Table.get (fun _ => 0) s.coica.heard a + s.coica.age * 1000000 ≤ s.time.now) → exec
    (.knownAge a) s = .next (s.leaveKnown a)) ∧
  (∀ (s : State) (m v : Nat), s.Accepts m Obj.COICA_STATION_STATION_ADDR v → s.on Obj.COICA_STATION_ROLE = false → exec (.stationAddr m v)
    s = .next (State.finish (pathOf m) m Obj.COICA_STATION_STATION_ADDR (.ok, (((s.commit Obj.COICA_STATION_STATION_ADDR
    v).cmbQuiet).withCoica { ((s.commit Obj.COICA_STATION_STATION_ADDR v).cmbQuiet).coica with rx := [], rejoin := true }).set
    Obj.COICA_STATION_SUCCESSOR 0 |>.setCmb csLISTEN))) ∧
  (∀ (s : State) (m v : Nat), s.Accepts m Obj.COICA_STATION_ROLE v → v = 1 → s.cmbState ≠ csSILENT → exec (.role m v) s = .next
    (State.finish (pathOf m) m Obj.COICA_STATION_ROLE (.ok, ((((s.commit Obj.COICA_STATION_ROLE v).cmbQuiet).withCoica { ((s.commit Obj.COICA_STATION_ROLE v).cmbQuiet).coica with rx := [], rejoin := false, age := ((s.commit Obj.COICA_STATION_ROLE v).cmbQuiet).get Obj.COICA_STATION_KNOWN_AGE_MS, emergClass := ((s.commit Obj.COICA_STATION_ROLE v).cmbQuiet).get Obj.COICA_STATION_EMERG_CLASS }).set
    Obj.COICA_STATION_SUCCESSOR 0).setCmb csSLAVE))) ∧
  (∀ (s : State) (m v : Nat), s.Canonical → s.Accepts m Obj.COICA_STATION_ROLE v → s.cmbState = csSILENT → ∃ t, exec (.role m v) s = .next
    t ∧ t.get Obj.COICA_STATION_ROLE = v ∧ t.cmbState = csSILENT) ∧
  (∀ (s : State) (m v : Nat), s.Canonical → s.Accepts m Obj.COICA_STATION_STATION_ADDR v → s.on Obj.COICA_STATION_ROLE = true → ∃ t, exec
    (.stationAddr m v) s = .next t ∧ t.station = v ∧ t.cmbState = csSLAVE) ∧
  (∀ (s : State) (n : Fin 8) (k : Fin 6) (m v : Nat), s.Accepts m (objKey 0 (0x11C0 + n.val) (1 + k.val)) v → k.val ≠ 0 → s.on
    (Obj.WAKE_PATTERN_WP_ENABLE n) = false → exec (.wpWrite n k m v) s = .next (State.finish (pathOf m) m (objKey 0 (0x11C0 + n.val) (1
    + k.val)) (.ok, (s.commit (objKey 0 (0x11C0 + n.val) (1 + k.val)) v).wpCheck n.val))) ∧
  (∀ (s : State) (n : Fin 8) (m v : Nat), s.Accepts m (objKey 0 (0x11C0 + n.val) 1) v → ¬ (v = 1 ∧ s.wpMask n / 2 ^ s.get
    (Obj.WAKE_PATTERN_WP_LENGTH n) ≠ 0) → exec (.wpWrite n 0 m v) s = .next (State.finish (pathOf m) m (objKey 0 (0x11C0 + n.val) 1)
    (.ok, (s.commit (objKey 0 (0x11C0 + n.val) 1) v).wpCheck n.val))) ∧
  (∀ (s : State) (n : Fin 8) (k : Fin 6) (m v : Nat), s.Canonical → s.Accepts m (objKey 0 (0x11C0 + n.val) (1 + k.val)) v → k.val ≠ 0 →
    s.on (Obj.WAKE_PATTERN_WP_ENABLE n) = true → s.sec.fusing = none → ∃ t, exec (.wpWrite n k m v) s = .next t ∧ t.Answered m (objKey 0
    (0x11C0 + n.val) (1 + k.val)) .busy ∧ Frame (keysOf [Obj.ACCESS_STATUS_LAST_STATUS m, Obj.ACCESS_STATUS_LAST_OBJECT m,
    Obj.ACCESS_STATUS_REFUSED m]) noKey [.sent] s t)

/-- Jabber silences the station for 100 ms, and that of another makes it ignore the bus: TX_JABBER (the transmitter cut off after 1 ms)
silences the station until 100 ms later, adds 1 to TX_JABBER and raises E-8108; a silent station sends no frame and no carrier; the silence
ends when the 100 ms have passed and not before. RX_JABBER (a carrier longer than 1 ms) adds 1 to RX_JABBER, raises E-8108 and makes the
station ignore the bus, so that a frame received changes nothing, until JABBER_CARRIER_STOP. Rests on (parts of) R440. -/
def Obligations.JabberSilencesOrIsIgnored : Prop :=
  (∀ (s : State), exec (.txJabber) s = .next (((s.withCoica { s.coica with silentUntil := some (s.time.now + 100000000) }).bump
    Obj.COICA_STATS_TX_JABBER).raise 0x8108 uAON 0)) ∧
  (∀ (s : State) (a x y : Nat) (l : List Byte), s.coica.silentUntil = some a → (s.cmbSend x y l).sent = s.sent ∧ (s.claimPad x).sent =
    s.sent) ∧
  (∀ (s : State) (a : Nat), s.coica.silentUntil = some a → ∃ t, exec (.jabberSilenceEnd) s = .next t ∧ (t.coica.silentUntil = if a ≤
    s.time.now then none else some a) ∧ Frame noKey noKey [.coica] s t) ∧
  (∀ (s : State), exec (.rxJabber) s = .next (((s.withCoica { s.coica with ignoring := true, carrier := s.time.now }).bump
    Obj.COICA_STATS_RX_JABBER).raise 0x8108 uAON 0)) ∧
  (∀ (s : State) (b : List Byte), s.coica.ignoring = true → exec (.coicaFrameRx b true) s = .next (s)) ∧
  (∀ (s : State), ∃ t, exec (.jabberCarrierStop) s = .next t ∧ t.coica.ignoring = false ∧ Frame noKey noKey [.coica] s t)

/-- The Coica dictionary and block services: Of a request at the head of the MAC's queue with its reserved bytes 0: OD_READ, not of a
mailbox's LOCK, of the object's length that may be read is answered OK with its value, of a wrong length WIDTH; OD_WRITE whose payload has
the object's length is answered with what the object's rule decides, or runs on with DONE 0; OD_DOMAIN_READ of an entry that can be read and
does not wait is answered OK with its image; OD_DOMAIN_WRITE of the image's length, of an entry that does not wait, with what the entry's
rule decides; OD_STATUS of a request that has ended sends its final response, of one that runs DONE 0. An OD_READ whose reserved bytes are
not 0 is INVALID. BLOCK_OPEN of 1 to 4,096 bytes opens an empty block with its offset and CRC, another length is INVALID; a BLOCK_SEG that
lies in the open block overwrites its bytes, one that does not is INVALID. BLOCK_COMMIT of a block with a hole is INVALID with the first
missing offset, of a whole one whose CRC-32 differs INVALID with 0xFFFF; a whole intact one leaves no block and, with the firmware not
restarting, goes to the update and runs on with the status it ends in, while the firmware restarts waits and runs on. BLOCK_ABORT drops the
block. Rests on (parts of) R369 to R371, R376, R379, R451, R453, R454, R538. Where these rules leave the point open it states the model's
choice: log entries 88, 89. -/
def Obligations.BusServesTheDictionary : Prop :=
  (∀ (s : State) (f : CoicaFrame) (l : List CoicaFrame) (v : Nat) (u : State), s.coica.rx = f :: l → f.type = fcODREQ → byteAt f.payload 0
    = 0x1 → zeroBytes f.payload [(2, 2), (12, 4)] = true → byteAt f.payload 7 = (objTy (wordAt f.payload 4 2) (byteAt f.payload
    6)).bytes → (s.withCoica { s.coica with rx := l }).readsLock .coica SUPV (wordAt f.payload 4 2) (byteAt f.payload 6) = false →
    (s.withCoica { s.coica with rx := l }).dictRead .coica SUPV (wordAt f.payload 4 2) (byteAt f.payload 6) = (.ok, v, u) → exec
    (.odRead) s = .next (u.odStatus f .ok true (valueBytes (objTy (wordAt f.payload 4 2) (byteAt f.payload 6)) v))) ∧
  (∀ (s : State) (f : CoicaFrame) (l : List CoicaFrame), s.coica.rx = f :: l → f.type = fcODREQ → byteAt f.payload 0 = 0x1 → zeroBytes
    f.payload [(2, 2), (12, 4)] = true → (rowAt (wordAt f.payload 4 2) (byteAt f.payload 6)).isSome = true → byteAt f.payload 7 ≠ (objTy
    (wordAt f.payload 4 2) (byteAt f.payload 6)).bytes → exec (.odRead) s = .next ((s.withCoica { s.coica with rx := l }).odStatus f
    .width)) ∧
  (∀ (s : State) (f : CoicaFrame) (l : List CoicaFrame) (r : Status) (u : State), s.coica.rx = f :: l → f.type = fcODREQ → byteAt f.payload
    0 = 0x2 → zeroBytes f.payload [(2, 2), (12, 4)] = true → byteAt f.payload 7 = (objTy (wordAt f.payload 4 2) (byteAt f.payload
    6)).bytes → (f.payload.drop 16).length = byteAt f.payload 7 → (s.withCoica { s.coica with rx := l }).dictWrite .coica (.coica f.sa
    0x02 (byteAt f.payload 1)) SUPV (wordAt f.payload 4 2) (byteAt f.payload 6) (valueOf (objTy (wordAt f.payload 4 2) (byteAt f.payload
    6)) (f.payload.drop 16)) = (some r, u) → exec (.odWrite) s = .next (u.odStatus f r)) ∧
  (∀ (s : State) (f : CoicaFrame) (l : List CoicaFrame) (u : State), s.coica.rx = f :: l → f.type = fcODREQ → byteAt f.payload 0 = 0x2 →
    zeroBytes f.payload [(2, 2), (12, 4)] = true → byteAt f.payload 7 = (objTy (wordAt f.payload 4 2) (byteAt f.payload 6)).bytes →
    (f.payload.drop 16).length = byteAt f.payload 7 → (s.withCoica { s.coica with rx := l }).dictWrite .coica (.coica f.sa 0x02 (byteAt
    f.payload 1)) SUPV (wordAt f.payload 4 2) (byteAt f.payload 6) (valueOf (objTy (wordAt f.payload 4 2) (byteAt f.payload 6))
    (f.payload.drop 16)) = (none, u) → exec (.odWrite) s = .next (u.odRuns f (some (u.locate SUPV (wordAt f.payload 4 2) (byteAt
    f.payload 6)).1) none)) ∧
  (∀ (s : State) (f : CoicaFrame) (l : List CoicaFrame) (r : DomRow) (v : Nat) (u : State), s.coica.rx = f :: l → f.type = fcODREQ → byteAt
    f.payload 0 = 0x3 → zeroBytes f.payload [(2, 2), (12, 4)] = true → domRow (wordAt f.payload 4 2) = some r → (s.withCoica { s.coica with rx := l }).domWaits
    (wordAt f.payload 4 2) = false → (s.withCoica { s.coica with rx := l }).domRead SUPV (wordAt f.payload 4 2) (wordAt f.payload 8 4) =
    (.ok, v, u) → exec (.odDomainRead) s = .next (u.odStatus f .ok true (bytesBE r.bytes v))) ∧
  (∀ (s : State) (f : CoicaFrame) (l : List CoicaFrame) (r : DomRow), s.coica.rx = f :: l → f.type = fcODREQ → byteAt f.payload 0 = 0x4 →
    zeroBytes f.payload [(2, 2), (12, 4)] = true → domRow (wordAt f.payload 4 2) = some r → (f.payload.drop 16).length = r.bytes →
    (s.withCoica { s.coica with rx := l }).domWaits (wordAt f.payload 4 2) = false → exec (.odDomainWrite) s = .next (((s.withCoica { s.coica with rx := l }).domWrite
    .coica SUPV (wordAt f.payload 4 2) (wordAt f.payload 8 4) (natBE (f.payload.drop 16))).2.odStatus f ((s.withCoica { s.coica with rx := l }).domWrite
    .coica SUPV (wordAt f.payload 4 2) (wordAt f.payload 8 4) (natBE (f.payload.drop 16))).1)) ∧
  (∀ (s : State) (f : CoicaFrame) (l : List CoicaFrame) (r : CoicaRun) (x : Nat) (y : List Byte), s.coica.rx = f :: l → f.type = fcODREQ →
    byteAt f.payload 0 = 0x5 → zeroBytes f.payload [(2, 2), (13, 3)] = true → (s.coica.running.find? (fun r => Nat.beq r.addr f.sa &&
    Nat.beq r.txn (byteAt f.payload 12)) = some r) → r.ended = some (x, y) → exec (.odStatus) s = .next ((s.withCoica { s.coica with rx := l }).odSend
    f (odPayload f.payload x true (byteAt f.payload 7) y))) ∧
  (∀ (s : State) (f : CoicaFrame) (l : List CoicaFrame) (r : CoicaRun), s.coica.rx = f :: l → f.type = fcODREQ → byteAt f.payload 0 = 0x5 →
    zeroBytes f.payload [(2, 2), (13, 3)] = true → (s.coica.running.find? (fun r => Nat.beq r.addr f.sa && Nat.beq r.txn (byteAt
    f.payload 12)) = some r) → r.ended = none → exec (.odStatus) s = .next ((s.withCoica { s.coica with rx := l }).odStatus f .ok false)) ∧
  (∀ (s : State) (f : CoicaFrame) (l : List CoicaFrame), s.coica.rx = f :: l → f.type = fcODREQ → byteAt f.payload 0 = 1 → zeroBytes
    f.payload [(2, 2), (12, 4)] = false → exec (.odRead) s = .next ((s.withCoica { s.coica with rx := l }).odStatus f .invalid)) ∧
  (∀ (s : State) (f : CoicaFrame) (l : List CoicaFrame), s.coica.rx = f :: l → f.type = fcODREQ → byteAt f.payload 0 = 0x10 → zeroBytes
    f.payload [(2, 2), (14, 2)] = true → 0 < wordAt f.payload 12 2 → wordAt f.payload 12 2 ≤ 4096 → exec (.blockOpen) s = .next
    (((s.withCoica { s.coica with rx := l }).withCoica { (s.withCoica { s.coica with rx := l }).coica with block := some ⟨wordAt f.payload 8 4, wordAt f.payload 16 4, List.replicate (wordAt f.payload 12 2) none⟩ }).odStatus
    f .ok)) ∧
  (∀ (s : State) (f : CoicaFrame) (l : List CoicaFrame), s.coica.rx = f :: l → f.type = fcODREQ → byteAt f.payload 0 = 0x10 → zeroBytes
    f.payload [(2, 2), (14, 2)] = true → (wordAt f.payload 12 2 = 0 ∨ 4096 < wordAt f.payload 12 2) → exec (.blockOpen) s = .next
    ((s.withCoica { s.coica with rx := l }).odStatus f .invalid)) ∧
  (∀ (s : State) (f : CoicaFrame) (l : List CoicaFrame) (b : CoicaBlock), s.coica.rx = f :: l → f.type = fcODREQ → byteAt f.payload 0 =
    0x11 → zeroBytes f.payload [(2, 2), (10, 6)] = true → s.coica.block = some b → wordAt f.payload 8 2 + (f.payload.drop 16).length ≤
    b.data.length → exec (.blockSeg) s = .next (((s.withCoica { s.coica with rx := l }).withCoica { (s.withCoica { s.coica with rx := l }).coica with block := some { b with data := b.data.take (wordAt f.payload 8 2) ++ (f.payload.drop 16).map some ++ b.data.drop (wordAt f.payload 8 2 + (f.payload.drop 16).length) } }).odStatus
    f .ok)) ∧
  (∀ (s : State) (f : CoicaFrame) (l : List CoicaFrame) (b : CoicaBlock), s.coica.rx = f :: l → f.type = fcODREQ → byteAt f.payload 0 =
    0x11 → zeroBytes f.payload [(2, 2), (10, 6)] = true → s.coica.block = some b → b.data.length < wordAt f.payload 8 2 +
    (f.payload.drop 16).length → exec (.blockSeg) s = .next ((s.withCoica { s.coica with rx := l }).odStatus f .invalid)) ∧
  (∀ (s : State) (f : CoicaFrame) (l : List CoicaFrame) (good : Bool) (b : CoicaBlock) (n : Nat), s.coica.rx = f :: l → f.type = fcODREQ →
    byteAt f.payload 0 = 0x12 → zeroBytes f.payload [(2, 2), (12, 4)] = true → s.coica.block = some b → ((List.range
    b.data.length).find? (fun i => decide (b.data[i]? = some none)) = some n) → exec (.blockCommit good) s = .next ((s.withCoica { s.coica with rx := l }).odStatus
    f .invalid true (bytesBE 2 n))) ∧
  (∀ (s : State) (f : CoicaFrame) (l : List CoicaFrame) (good : Bool) (b : CoicaBlock), s.coica.rx = f :: l → f.type = fcODREQ → byteAt
    f.payload 0 = 0x12 → zeroBytes f.payload [(2, 2), (12, 4)] = true → s.coica.block = some b → ((List.range b.data.length).find? (fun
    i => decide (b.data[i]? = some none)) = none) → (crc32 (b.data.filterMap fun x => x) ≠ b.crc) → exec (.blockCommit good) s = .next
    ((s.withCoica { s.coica with rx := l }).odStatus f .invalid true (bytesBE 2 0xFFFF))) ∧
  (∀ (s : State) (f : CoicaFrame) (l : List CoicaFrame) (good : Bool) (b : CoicaBlock) (w : State) (r : Status) (n : Nat) (u : State),
    s.coica.rx = f :: l → f.type = fcODREQ → byteAt f.payload 0 = 0x12 → zeroBytes f.payload [(2, 2), (12, 4)] = true → s.coica.block =
    some b → ((List.range b.data.length).find? (fun i => decide (b.data[i]? = some none)) = none) → (crc32 (b.data.filterMap fun x => x)
    = b.crc) → s.boot.restart = false → w = (s.withCoica { s.coica with rx := l }).withCoica { (s.withCoica { s.coica with rx := l }).coica with block := none }
    → (w.updBlock SUPV b.offset (b.data.filterMap fun x => x) good = (r, n, u)) → exec (.blockCommit good) s = .next (u.odRuns f none
    (some (r.code, [])))) ∧
  (∀ (s : State) (f : CoicaFrame) (l : List CoicaFrame), s.coica.rx = f :: l → f.type = fcODREQ → byteAt f.payload 0 = 0x13 → zeroBytes
    f.payload [(2, 2), (12, 4)] = true → exec (.blockAbort) s = .next (((s.withCoica { s.coica with rx := l }).withCoica { (s.withCoica { s.coica with rx := l }).coica with block := none }).odStatus
    f .ok)) ∧
  (∀ (s : State) (f : CoicaFrame) (l : List CoicaFrame) (good : Bool) (b : CoicaBlock) (w : State), s.coica.rx = f :: l → f.type = fcODREQ
    → byteAt f.payload 0 = 0x12 → zeroBytes f.payload [(2, 2), (12, 4)] = true → s.coica.block = some b → ((List.range
    b.data.length).find? (fun i => decide (b.data[i]? = some none)) = none) → (crc32 (b.data.filterMap fun x => x) = b.crc) →
    s.boot.restart = true → w = (s.withCoica { s.coica with rx := l }).withCoica { (s.withCoica { s.coica with rx := l }).coica with block := none }
    → exec (.blockCommit good) s = .next ((w.withCoica { w.coica with commits := w.coica.commits ++ [⟨f.sa, byteAt f.payload 1, b.offset, b.data.filterMap fun x => x, good⟩] }).odRuns
    f none none))

/-- JOURNAL, COPY_ACK, DIGEST, RECOPY_REQ and BULK of the protection pair: With the core on, the mate link up, the pair enabled and the
message's epoch the device's, which is noted as the partner's: at a standby that has granted nothing, a JOURNAL adds its bytes to
JOURNAL_BYTES, cancels a takeover on silence and its records are taken in; one that does not parse fails the copy. At an active, a COPY_ACK
of a cycle not in the future frees the journals up to it and renews the lease of that cycle. At a standby a digest that agrees changes
nothing more; with SYNC 2, its SEQ the one expected and nothing held, one that differs asks for the region with RECOPY_REQ, counts
DIGEST_MISMATCHES, raises E-9103 with the region, notes it as outstanding and sets SYNC 1. At an active a RECOPY_REQ of a region sends that
region, of 0xFFFF every region. At a standby, with no bulk begun, a BULK that parses, of an outstanding region, sets SYNC 1 and is kept, or
with the last flag, nothing else ready, is ready to install; a ready copy is installed when its region is the lowest outstanding, and waits
otherwise. At an instant's end of a device not ACTIVE a due COPY_ACK, with nothing new in the journal and no REVERT_REQ to judge, is sent
once and its cycle noted as acknowledged. Rests on (parts of) R463, R465, R469, R472, R475 to R478. Where these rules leave the point open
it states the model's choice: log entries 28, 94, 95, 96, 168, 202, 204. -/
def Obligations.PairCopiesItsState : Prop :=
  (∀ (s : State) (h : MateHead) (b : List Byte) (l : List JRec), s.CoreOn → s.pair.linkUp = true → s.get Obj.PAIR_CTRL_PAIR_ENABLE = 1 →
    h.epoch = s.get Obj.PAIR_CTRL_EPOCH → s.get Obj.PAIR_CTRL_ROLE = roleSTANDBY → s.pair.granted = none → parseRecords b.length b =
    some l → exec (.journal h b) s = .next ((((s.set Obj.PAIR_CTRL_PARTNER_EPOCH (h.epoch % 2 ^ 32)).bump Obj.PAIR_STATS_JOURNAL_BYTES
    b.length).cancelSilence).takeJournal h l)) ∧
  (∀ (s : State) (h : MateHead) (b : List Byte), s.CoreOn → s.pair.linkUp = true → s.get Obj.PAIR_CTRL_PAIR_ENABLE = 1 → h.epoch = s.get
    Obj.PAIR_CTRL_EPOCH → s.get Obj.PAIR_CTRL_ROLE = roleSTANDBY → s.pair.granted = none → parseRecords b.length b = none → exec
    (.journal h b) s = .next ((((s.set Obj.PAIR_CTRL_PARTNER_EPOCH (h.epoch % 2 ^ 32)).bump Obj.PAIR_STATS_JOURNAL_BYTES
    b.length).cancelSilence).copyFailed)) ∧
  (∀ (s : State) (h : MateHead), s.CoreOn → s.pair.linkUp = true → s.get Obj.PAIR_CTRL_PAIR_ENABLE = 1 → h.epoch = s.get
    Obj.PAIR_CTRL_EPOCH → s.get Obj.PAIR_CTRL_ROLE = roleACTIVE → (s.set Obj.PAIR_CTRL_PARTNER_EPOCH (h.epoch % 2 ^ 32)).cycleOf h.cycle
    ≤ (s.set Obj.PAIR_CTRL_PARTNER_EPOCH (h.epoch % 2 ^ 32)).cycleNow → exec (.copyAck h) s = .next (((s.set Obj.PAIR_CTRL_PARTNER_EPOCH
    (h.epoch % 2 ^ 32)).withPair { (s.set Obj.PAIR_CTRL_PARTNER_EPOCH (h.epoch % 2 ^ 32)).pair with unacked := (s.set Obj.PAIR_CTRL_PARTNER_EPOCH (h.epoch % 2 ^ 32)).pair.unacked.filter fun c => decide ((s.set Obj.PAIR_CTRL_PARTNER_EPOCH (h.epoch % 2 ^ 32)).cycleOf h.cycle < c.cycle) }).renew
    ((s.set Obj.PAIR_CTRL_PARTNER_EPOCH (h.epoch % 2 ^ 32)).cycleOf h.cycle))) ∧
  (∀ (s : State) (h : MateHead) (r e d : Nat), s.CoreOn → s.pair.linkUp = true → s.get Obj.PAIR_CTRL_PAIR_ENABLE = 1 → h.epoch = s.get
    Obj.PAIR_CTRL_EPOCH → s.get Obj.PAIR_CTRL_ROLE = roleSTANDBY → (s.set Obj.PAIR_CTRL_PARTNER_EPOCH (h.epoch % 2 ^ 32)).digest r = d →
    exec (.digest h r e d) s = .next ((s.set Obj.PAIR_CTRL_PARTNER_EPOCH (h.epoch % 2 ^ 32)))) ∧
  (∀ (s : State) (h : MateHead) (r e d : Nat) (w : State), s.CoreOn → s.pair.linkUp = true → s.get Obj.PAIR_CTRL_PAIR_ENABLE = 1 → h.epoch
    = s.get Obj.PAIR_CTRL_EPOCH → s.get Obj.PAIR_CTRL_ROLE = roleSTANDBY → s.get Obj.PAIR_CTRL_SYNC = 2 → s.pair.expect = some e →
    s.pair.held = [] → (s.set Obj.PAIR_CTRL_PARTNER_EPOCH (h.epoch % 2 ^ 32)).digest r ≠ d → w = (((s.set Obj.PAIR_CTRL_PARTNER_EPOCH
    (h.epoch % 2 ^ 32)).sendMate 7 0 (cycleNumber (s.set Obj.PAIR_CTRL_PARTNER_EPOCH (h.epoch % 2 ^ 32)).cycleNow) 0 (bytesBE 2 r)).bump
    Obj.PAIR_STATS_DIGEST_MISMATCHES).raise 0x9103 uMGMT (packArg [(16, r)]) → exec (.digest h r e d) s = .next ((w.withPair { w.pair with outstanding := r :: w.pair.outstanding.filter (· != r) }).setSync
    1)) ∧
  (∀ (s : State) (h : MateHead) (r : Nat), s.CoreOn → s.pair.linkUp = true → s.get Obj.PAIR_CTRL_PAIR_ENABLE = 1 → h.epoch = s.get
    Obj.PAIR_CTRL_EPOCH → s.get Obj.PAIR_CTRL_ROLE = roleACTIVE → r ≠ 0xFFFF → exec (.recopyReq h r) s = .next (forEach
    (allRegions.filter (· == r)) (s.set Obj.PAIR_CTRL_PARTNER_EPOCH (h.epoch % 2 ^ 32)) fun s r => s.sendRegion r)) ∧
  (∀ (s : State) (h : MateHead), s.CoreOn → s.pair.linkUp = true → s.get Obj.PAIR_CTRL_PAIR_ENABLE = 1 → h.epoch = s.get
    Obj.PAIR_CTRL_EPOCH → s.get Obj.PAIR_CTRL_ROLE = roleACTIVE → exec (.recopyReq h 0xFFFF) s = .next (forEach allRegions (s.set
    Obj.PAIR_CTRL_PARTNER_EPOCH (h.epoch % 2 ^ 32)) fun s r => s.sendRegion r)) ∧
  (∀ (s : State) (h : MateHead) (b : List Byte) (l : List JRec), s.CoreOn → s.pair.linkUp = true → s.get Obj.PAIR_CTRL_PAIR_ENABLE = 1 →
    h.epoch = s.get Obj.PAIR_CTRL_EPOCH → s.get Obj.PAIR_CTRL_ROLE = roleSTANDBY → s.pair.outstanding.contains (wordAt b 0 2) = true →
    s.pair.bulk = none → parseRecords b.length (b.drop 8) = some l → bit h.flags 0 = false → exec (.bulk h b) s = .next (((s.set
    Obj.PAIR_CTRL_PARTNER_EPOCH (h.epoch % 2 ^ 32)).setSync 1).withPair { ((s.set Obj.PAIR_CTRL_PARTNER_EPOCH (h.epoch % 2 ^ 32)).setSync 1).pair with bulk := some ⟨wordAt b 0 2, h.seq, l⟩ })) ∧
  (∀ (s : State) (h : MateHead) (b : List Byte) (l : List JRec), s.CoreOn → s.pair.linkUp = true → s.get Obj.PAIR_CTRL_PAIR_ENABLE = 1 →
    h.epoch = s.get Obj.PAIR_CTRL_EPOCH → s.get Obj.PAIR_CTRL_ROLE = roleSTANDBY → s.pair.outstanding.contains (wordAt b 0 2) = true →
    s.pair.bulk = none → s.pair.ready = [] → parseRecords b.length (b.drop 8) = some l → bit h.flags 0 = true → exec (.bulk h b) s =
    .next (State.installReady 1 (((s.set Obj.PAIR_CTRL_PARTNER_EPOCH (h.epoch % 2 ^ 32)).setSync 1).withPair { ((s.set Obj.PAIR_CTRL_PARTNER_EPOCH (h.epoch % 2 ^ 32)).setSync 1).pair with bulk := none, ready := [⟨wordAt b 0 2, h.seq, l⟩] }))) ∧
  (∀ (s : State) (b : BulkCopy) (r : Nat) (l : List Nat), s.pair.outstanding = r :: l → b.region = l.foldl min r → s.pair.ready = [b] →
    State.installReady 1 s = (s.withPair { s.pair with ready := [] }).installRegion b) ∧
  (∀ (s : State) (b : BulkCopy) (r : Nat) (l : List Nat), s.pair.outstanding = r :: l → b.region ≠ l.foldl min r → s.pair.ready = [b] →
    State.installReady 1 s = s) ∧
  (∀ (s : State) (c q : Nat) (w : State), s.pair.ackDue = some (c, q) → s.pair.fresh = [] → s.pair.revertDue = false → s.get
    Obj.PAIR_CTRL_ROLE ≠ roleACTIVE → w = s.sendMate 2 0 c q [] → s.pairCycle = (w.withPair { w.pair with ackDue := none, acked := some (w.cycleOf c) }).showWtr.mateTurn)

/-- HEALTH, RELEASE, REVERT_REQ, PACKET, RESET_NOTICE and MAILBOX from the partner; stale epochs: With the core on, the mate link up, the
pair enabled and the message's epoch the device's, which is noted as the partner's: a HEALTH marks the partner heard, clears the missed
cycles and self-renewal, sets PARTNER from its role and report, counts one more in a row from a STANDBY or LAPSED partner and else starts
anew, and changes besides only the pair's work, SKEW_NS, ROLE, SYNC, WTR_LEFT_S and events. At a standby a RELEASE schedules the takeover
for the end of the cycle it names, or with FAULT for the next boundary. At an active a REVERT_REQ is noted, at another role it changes
nothing more; at the instant's end an active of a HOME partner, not releasing, answers it with handOver: where the partner is heard,
healthy, in sync and of the same AC0 it sends RELEASE, counts it in RELEASES, ends the lease at the next boundary and begins the release;
else it counts REFUSED_HANDOVERS and raises E-9105. A PACKET enters at INJECT_SECTOR from port 129. A RESET_NOTICE resets the identity MATE.
A MAILBOX acknowledge of a POSTED valid channel bound to MATE stores ACK, sets STATE 2, rings the sender and is noted; a MAILBOX message to
a valid channel that is not shared and whose sender is MATE stores the message, clears ACK, counts POSTS, sets STATE 1 and rings the
receiver. A RELEASE of an older epoch notes that epoch, counts STALE_MESSAGES and raises E-9106 with it. Rests on (parts of) R429, R430,
R464, R465, R481 to R483, R489, R490. Where these rules leave the point open it states the model's choice: log entries 25, 29, 91, 93, 159,
201. -/
def Obligations.PairMessagesAreActedOn : Prop :=
  (∀ (s : State) (h : MateHead) (b : List Byte) (d : Nat), s.Canonical → s.CoreOn → s.pair.linkUp = true → s.get Obj.PAIR_CTRL_PAIR_ENABLE
    = 1 → h.epoch = s.get Obj.PAIR_CTRL_EPOCH → ∃ t, exec (.health h b d) s = .next t ∧ t.pair.heard = true ∧ t.pair.missed = 0 ∧
    t.pair.selfRenew = false ∧ t.get Obj.PAIR_CTRL_PARTNER = h.role % 256 * 2 ^ 24 + wordAt b 0 1 * 2 ^ 16 + wordAt b 1 1 * 2 ^ 8 ∧
    (t.pair.run = if h.role = roleSTANDBY ∨ h.role = roleLAPSED then s.pair.run + 1 else 0) ∧ Frame (keysAndEvents
    [Obj.PAIR_CTRL_PARTNER_EPOCH, Obj.PAIR_CTRL_PARTNER, Obj.PAIR_CTRL_SKEW_NS, Obj.PAIR_CTRL_ROLE, Obj.PAIR_CTRL_SYNC,
    Obj.PAIR_CTRL_WTR_LEFT_S]) noKey (.pair :: .sent :: eventParts) s t) ∧
  (∀ (s : State) (h : MateHead), s.CoreOn → s.pair.linkUp = true → s.get Obj.PAIR_CTRL_PAIR_ENABLE = 1 → h.epoch = s.get
    Obj.PAIR_CTRL_EPOCH → s.get Obj.PAIR_CTRL_ROLE = roleSTANDBY → bit h.flags 0 = false → exec (.release h) s = .next ((s.set
    Obj.PAIR_CTRL_PARTNER_EPOCH (h.epoch % 2 ^ 32)).withPair { s.pair with takeover := some ⟨(((s.set Obj.PAIR_CTRL_PARTNER_EPOCH (h.epoch % 2 ^ 32)).cycleStart ((s.set Obj.PAIR_CTRL_PARTNER_EPOCH (h.epoch % 2 ^ 32)).cycleOf h.cycle + 1))), .release, none⟩ })) ∧
  (∀ (s : State) (h : MateHead), s.CoreOn → s.pair.linkUp = true → s.get Obj.PAIR_CTRL_PAIR_ENABLE = 1 → h.epoch = s.get
    Obj.PAIR_CTRL_EPOCH → s.get Obj.PAIR_CTRL_ROLE = roleSTANDBY → bit h.flags 0 = true → exec (.release h) s = .next ((s.set
    Obj.PAIR_CTRL_PARTNER_EPOCH (h.epoch % 2 ^ 32)).withPair { s.pair with takeover := some ⟨(s.set Obj.PAIR_CTRL_PARTNER_EPOCH (h.epoch % 2 ^ 32)).cycleStart ((s.set Obj.PAIR_CTRL_PARTNER_EPOCH (h.epoch % 2 ^ 32)).cycleNow + 1), .fault, none⟩ })) ∧
  (∀ (s : State) (h : MateHead), s.CoreOn → s.pair.linkUp = true → s.get Obj.PAIR_CTRL_PAIR_ENABLE = 1 → h.epoch = s.get
    Obj.PAIR_CTRL_EPOCH → s.get Obj.PAIR_CTRL_ROLE = roleACTIVE → exec (.revertReq h) s = .next ((s.set Obj.PAIR_CTRL_PARTNER_EPOCH
    (h.epoch % 2 ^ 32)).withPair { s.pair with revertDue := true })) ∧
  (∀ (s : State) (h : MateHead), s.CoreOn → s.pair.linkUp = true → s.get Obj.PAIR_CTRL_PAIR_ENABLE = 1 → h.epoch = s.get
    Obj.PAIR_CTRL_EPOCH → s.get Obj.PAIR_CTRL_ROLE ≠ roleACTIVE → exec (.revertReq h) s = .next ((s.set Obj.PAIR_CTRL_PARTNER_EPOCH
    (h.epoch % 2 ^ 32)))) ∧
  (∀ (s : State) (w : State), s.pair.revertDue = true → s.get Obj.PAIR_CTRL_ROLE = roleACTIVE → s.pair.partner.home = true →
    s.pair.releasing = false → w = (s.withPair { s.pair with revertDue := false }).handOver → w.hardwareChanges = [] → w.pair.ackDue =
    none → w.pair.fresh = [] → w.get Obj.PAIR_CTRL_ROLE = roleACTIVE → s.pairCycle = w.showWtr.mateTurn) ∧
  (∀ (s : State) (w : State), s.silent = false → s.partnerHealth ≤ 1 → s.partnerSync = 2 → s.ac0Differs = false → w = (s.sendMate 4 0
    (cycleNumber s.cycleNow) 0 []).bumpSent Obj.PAIR_STATS_RELEASES 1 → s.handOver = (w.setLease (w.cycleStart (s.cycleNow +
    1))).withPair { (w.setLease (w.cycleStart (s.cycleNow + 1))).pair with releasing := true }) ∧
  (∀ (s : State), (s.silent = true ∨ 1 < s.partnerHealth ∨ s.partnerSync ≠ 2 ∨ s.ac0Differs = true) → s.handOver = (s.bump
    Obj.PAIR_STATS_REFUSED_HANDOVERS).raise 0x9105 uMGMT 0) ∧
  (∀ (s : State) (h : MateHead) (b : List Byte), s.CoreOn → s.pair.linkUp = true → s.get Obj.PAIR_CTRL_PAIR_ENABLE = 1 → h.epoch = s.get
    Obj.PAIR_CTRL_EPOCH → exec (.packet h b) s = .next (((s.set Obj.PAIR_CTRL_PARTNER_EPOCH (h.epoch % 2 ^ 32)).withNet { s.net with serial := s.net.serial + 1 }).toSector
    ((s.set Obj.PAIR_CTRL_PARTNER_EPOCH (h.epoch % 2 ^ 32)).get Obj.HOST_CTRL_INJECT_SECTOR) { id := s.net.serial, bytes := b, inPort := 129, requester := 129, rxTime := (s.set Obj.PAIR_CTRL_PARTNER_EPOCH (h.epoch % 2 ^ 32)).timeNow })) ∧
  (∀ (s : State) (h : MateHead), s.CoreOn → s.pair.linkUp = true → s.get Obj.PAIR_CTRL_PAIR_ENABLE = 1 → h.epoch = s.get
    Obj.PAIR_CTRL_EPOCH → exec (.resetNotice h) s = .next ((s.set Obj.PAIR_CTRL_PARTNER_EPOCH (h.epoch % 2 ^ 32)).resetIdentity MATE)) ∧
  (∀ (s : State) (h : MateHead) (c : Fin 64) (a : Nat) (b : List Byte), s.CoreOn → s.pair.linkUp = true → s.get Obj.PAIR_CTRL_PAIR_ENABLE =
    1 → h.epoch = s.get Obj.PAIR_CTRL_EPOCH → Fld.BND_VALID.get ((s.set Obj.PAIR_CTRL_PARTNER_EPOCH (h.epoch % 2 ^ 32)).binding c) = 1 →
    Fld.BND_RECEIVER.get ((s.set Obj.PAIR_CTRL_PARTNER_EPOCH (h.epoch % 2 ^ 32)).binding c) = MATE → (s.set Obj.PAIR_CTRL_PARTNER_EPOCH
    (h.epoch % 2 ^ 32)).get (Obj.MAILBOX_STATE c) = 1 → exec (.mailbox h c 1 a b) s = .next (((((s.set Obj.PAIR_CTRL_PARTNER_EPOCH
    (h.epoch % 2 ^ 32)).set (Obj.MAILBOX_ACK c) (a % 2 ^ 32)).set (Obj.MAILBOX_STATE c) 2).ringSender c).withHost { ((((s.set Obj.PAIR_CTRL_PARTNER_EPOCH (h.epoch % 2 ^ 32)).set (Obj.MAILBOX_ACK c) (a % 2 ^ 32)).set (Obj.MAILBOX_STATE c) 2).ringSender c).host with acked := c.val :: ((((s.set Obj.PAIR_CTRL_PARTNER_EPOCH (h.epoch % 2 ^ 32)).set (Obj.MAILBOX_ACK c) (a % 2 ^ 32)).set (Obj.MAILBOX_STATE c) 2).ringSender c).host.acked })) ∧
  (∀ (s : State) (h : MateHead) (c : Fin 64) (a : Nat) (b : List Byte) (w : State), s.CoreOn → s.pair.linkUp = true → s.get
    Obj.PAIR_CTRL_PAIR_ENABLE = 1 → h.epoch = s.get Obj.PAIR_CTRL_EPOCH → Fld.BND_VALID.get ((s.set Obj.PAIR_CTRL_PARTNER_EPOCH (h.epoch
    % 2 ^ 32)).binding c) = 1 → Fld.BND_SHARED.get ((s.set Obj.PAIR_CTRL_PARTNER_EPOCH (h.epoch % 2 ^ 32)).binding c) = 0 →
    Fld.BND_SENDER.get ((s.set Obj.PAIR_CTRL_PARTNER_EPOCH (h.epoch % 2 ^ 32)).binding c) = MATE → (w = (((forEach (List.range 4) (s.set
    Obj.PAIR_CTRL_PARTNER_EPOCH (h.epoch % 2 ^ 32)) fun s k => s.set (Obj.MAILBOX_MSG c k) (natLE ((b.drop (16 * k)).take 16))).set
    (Obj.MAILBOX_ACK c) 0).bump (Obj.MAILBOX_POSTS c)).set (Obj.MAILBOX_STATE c) 1) → exec (.mailbox h c 0 a b) s = .next (w.ring
    (Fld.BND_RECEIVER.get ((s.set Obj.PAIR_CTRL_PARTNER_EPOCH (h.epoch % 2 ^ 32)).binding c)) (Fld.BND_RX_BIT.get ((s.set
    Obj.PAIR_CTRL_PARTNER_EPOCH (h.epoch % 2 ^ 32)).binding c)))) ∧
  (∀ (s : State) (h : MateHead), s.CoreOn → s.pair.linkUp = true → s.get Obj.PAIR_CTRL_PAIR_ENABLE = 1 → epochHigher (s.get
    Obj.PAIR_CTRL_EPOCH) h.epoch = true → exec (.release h) s = .next (((s.set Obj.PAIR_CTRL_PARTNER_EPOCH (h.epoch % 2 ^ 32)).bump
    Obj.PAIR_STATS_STALE_MESSAGES).raise 0x9106 uMGMT (packArg [(32, h.epoch)])))

/-- MATE_CYCLE, LEASE_EXPIRY, TAKEOVER, WTR_EXPIRY, DIGEST_PERIOD and the mate link's events: MATE_CYCLE, with the core on and the other air
events of the instant done, first takes the due action of E4095; then, where this boundary has not been taken and no takeover at it was, the
pair is enabled and not releasing, a HEALTH was heard, the link is up, it does not renew itself and its shadow differs from TAI by at most
1,000 ns: shows its health, an ACTIVE device closes its journal, sends HEALTH, clears what was heard and missed, and the election and the
wait to restore follow. LEASE_EXPIRY of an active with no valid lease, not releasing, counts LEASE_LAPSES, makes it LAPSED and raises
E-9201; of any other, or with a valid lease, changes nothing. With the core on: TAKEOVER of a due plan of a standby that is not barred, of
cause witness, or of cause silence with the partner silent and WITNESS_MODE 0, takes control at the plan's cycle; before its instant it
changes nothing. WTR_EXPIRY of a wait that runs and whose WTR_S have passed ends it and sends REVERT_REQ. DIGEST_PERIOD when due at an
active sets the next instant and sends the digest of every region under the next SEQ. MATE_LINK_DOWN of a link that is up, the pair enabled,
drops what waits to be sent, ends copies, counts MATE_LINK_DOWNS, raises E-9101, zeroes each POSTED message to MATE and fails it with
0xFFFE, resets the identity MATE and goes on as fallSilent says. MATE_LINK_UP of a link that is down raises E-9003 and, with fewer than 2
cycle ends missed, clears the partner's silence; MATE_CRC_ERROR with the link up counts and raises E-9108. Rests on (parts of) R462 to R464,
R466 to R470, R472, R477, R481, R482, R485, R486, R490. Where these rules leave the point open it states the model's choice: log entries 1,
27, 92, 97, 157, 200, 203. -/
def Obligations.PairKeepsTimeAndRoles : Prop :=
  (∀ (s : State) (f w : State), s.CoreOn → s.airDone = true → f = (s.fire 4).2 → f.reached (f.cycleStart f.cycleNow) = true →
    f.pair.cycleEnd ≠ some f.time.now → f.pair.journalFrom = none → f.get Obj.PAIR_CTRL_PAIR_ENABLE = 1 → f.pair.releasing = false →
    f.pair.heard = true → f.pair.linkUp = true → f.pair.selfRenew = false → f.time.tai ≤ f.time.shadow + 1000 → f.time.shadow ≤
    f.time.tai + 1000 → f.get Obj.PAIR_CTRL_ROLE ≠ roleACTIVE → w = (((f.withPair { f.pair with cycleEnd := some f.time.now }).showHealth).sendMate
    3 0 (cycleNumber (f.cycleNow - 1)) 0 ((f.withPair { f.pair with cycleEnd := some f.time.now }).showHealth).healthReport).withPair { (((f.withPair { f.pair with cycleEnd := some f.time.now }).showHealth).sendMate 3 0 (cycleNumber (f.cycleNow - 1)) 0 ((f.withPair { f.pair with cycleEnd := some f.time.now }).showHealth).healthReport).pair with missed := 0, heard := false }
    → exec (.mateCycle) s = .next ((w.elect f.cycleNow).showWtr)) ∧
  (∀ (s : State) (f w : State), s.CoreOn → s.airDone = true → f = (s.fire 4).2 → f.reached (f.cycleStart f.cycleNow) = true →
    f.pair.cycleEnd ≠ some f.time.now → f.pair.journalFrom = none → f.get Obj.PAIR_CTRL_PAIR_ENABLE = 1 → f.pair.releasing = false →
    f.pair.heard = true → f.pair.linkUp = true → f.pair.selfRenew = false → f.time.tai ≤ f.time.shadow + 1000 → f.time.shadow ≤
    f.time.tai + 1000 → f.get Obj.PAIR_CTRL_ROLE = roleACTIVE → w = ((((f.withPair { f.pair with cycleEnd := some f.time.now }).showHealth).closeJournal
    (f.cycleNow - 1)).sendMate 3 0 (cycleNumber (f.cycleNow - 1)) 0 (((f.withPair { f.pair with cycleEnd := some f.time.now }).showHealth).closeJournal
    (f.cycleNow - 1)).healthReport).withPair { ((((f.withPair { f.pair with cycleEnd := some f.time.now }).showHealth).closeJournal (f.cycleNow - 1)).sendMate 3 0 (cycleNumber (f.cycleNow - 1)) 0 (((f.withPair { f.pair with cycleEnd := some f.time.now }).showHealth).closeJournal (f.cycleNow - 1)).healthReport).pair with missed := 0, heard := false }
    → exec (.mateCycle) s = .next ((w.elect f.cycleNow).showWtr)) ∧
  (∀ (s : State), s.get Obj.PAIR_CTRL_ROLE = roleACTIVE → s.leaseValid = false → s.pair.releasing = false → exec (.leaseExpiry) s = .next
    (((s.bump Obj.PAIR_STATS_LEASE_LAPSES).setRole roleLAPSED).raise 0x9201 uMGMT 0)) ∧
  (∀ (s : State), (s.get Obj.PAIR_CTRL_ROLE ≠ roleACTIVE ∨ s.leaseValid = true) → exec (.leaseExpiry) s = .next (s)) ∧
  (∀ (s : State) (p : TakeoverPlan), s.CoreOn → s.pair.takeover = some p → p.at' ≤ s.timeNow → s.get Obj.PAIR_CTRL_ROLE = roleSTANDBY →
    s.barred = false → p.cause = .witness → exec (.takeover) s = .next ((s.withPair { s.pair with takeover := none }).takeControl
    ((s.withPair { s.pair with takeover := none }).cycleAt p.at') p.epoch false)) ∧
  (∀ (s : State) (p : TakeoverPlan), s.CoreOn → s.pair.takeover = some p → p.at' ≤ s.timeNow → s.get Obj.PAIR_CTRL_ROLE = roleSTANDBY →
    s.barred = false → p.cause = .silence → s.silent = true → s.get Obj.PAIR_CTRL_WITNESS_MODE = 0 → exec (.takeover) s = .next
    ((s.withPair { s.pair with takeover := none }).takeControl ((s.withPair { s.pair with takeover := none }).cycleAt p.at') none true)) ∧
  (∀ (s : State) (p : TakeoverPlan), s.CoreOn → s.pair.takeover = some p → s.timeNow < p.at' → exec (.takeover) s = .next (s)) ∧
  (∀ (s : State) (a : Nat), s.CoreOn → s.pair.wtrStart = some a → s.wtrRuns = true → a + s.get Obj.PAIR_CTRL_WTR_S * nsPerS ≤ s.time.now →
    exec (.wtrExpiry) s = .next (((s.withPair { s.pair with wtrStart := none }).set Obj.PAIR_CTRL_WTR_LEFT_S 0).sendMate 5 0
    (cycleNumber ((s.withPair { s.pair with wtrStart := none }).set Obj.PAIR_CTRL_WTR_LEFT_S 0).cycleNow) 0 [])) ∧
  (∀ (s : State), s.CoreOn → s.get Obj.PAIR_CTRL_ROLE = roleACTIVE → s.pair.digestAt ≤ s.time.now → exec (.digestPeriod) s = .next (forEach
    allRegions (s.withPair { s.pair with digestAt := s.time.now + s.get Obj.PAIR_CTRL_DIGEST_PERIOD_S * nsPerS }) fun s r => s.sendMate
    6 0 (cycleNumber s.cycleNow) (s.withPair { s.pair with digestAt := s.time.now + s.get Obj.PAIR_CTRL_DIGEST_PERIOD_S * nsPerS }).nextSeq
    (bytesBE 2 r ++ bytesBE 6 0 ++ bytesBE 8 (s.withPair { s.pair with digestAt := s.time.now + s.get Obj.PAIR_CTRL_DIGEST_PERIOD_S * nsPerS }).nextSeq
    ++ bytesBE 8 (s.digest r)))) ∧
  (∀ (s : State) (w : State), s.CoreOn → s.pair.linkUp = true → (w = (forEach (List.range 64) ((((s.withPair { s.pair with linkUp := false, outbox := [], outstanding := [], bulk := none, ready := [], run := 0 }).stopCopy.bump
    Obj.PAIR_STATS_MATE_LINK_DOWNS).raise 0x9101 uMGMT 0)) fun s n => if Fld.BND_VALID.get (s.binding n) = 1 ∧ Fld.BND_RECEIVER.get
    (s.binding n) = MATE ∧ s.get (Obj.MAILBOX_STATE n) = 1 then (s.zeroMail n).mateMailFailed n 0xFFFE else s).resetIdentity MATE) →
    w.get Obj.PAIR_CTRL_PAIR_ENABLE = 1 → exec (.mateLinkDown) s = .next (w.fallSilent)) ∧
  (∀ (s : State), s.CoreOn → s.pair.linkUp = false → 2 ≤ s.pair.missed → exec (.mateLinkUp) s = .next ((s.withPair { s.pair with linkUp := true }).raise
    0x9003 uMGMT 0)) ∧
  (∀ (s : State) (w : State), s.CoreOn → s.pair.linkUp = false → s.pair.missed < 2 → w = (s.withPair { s.pair with linkUp := true }).raise
    0x9003 uMGMT 0 → exec (.mateLinkUp) s = .next (w.set Obj.PAIR_CTRL_PARTNER (w.get Obj.PAIR_CTRL_PARTNER / 2 * 2))) ∧
  (∀ (s : State), s.CoreOn → s.pair.linkUp = true → exec (.mateCrcError) s = .next ((s.bump Obj.PAIR_STATS_MATE_CRC_ERRORS).raise 0x9108
    uMGMT 0))

/-- W_RENEW, W_TAKEOVER, COMMAND and PAIR_ENABLE: Accepted writes: W_RENEW of the epoch and of a cycle not in the future, to an active
device with a valid lease that is not releasing and whose boot is READY, renews the lease of that cycle and is stored in W_LAST; to a device
that is not active, of another epoch or with no valid lease it is INVALID and counts W_REFUSED. W_TAKEOVER of an epoch above every one seen,
to a STANDBY or LAPSED device in witness mode that has acknowledged no copy, is stored in W_LAST, adopts the epoch and schedules its
takeover, for the next boundary and not before 3 cycles after the one named, more by the long lease; of an epoch that is not higher it is
INVALID and counts W_REFUSED. COMMAND 1 at an active that is not releasing hands over; at a device that is not active it is INVALID and
changes only the access status. PAIR_ENABLE 1 of a pair that is off makes the device STANDBY with SYNC 0 and no pair work, and with the
firmware running arms the mate cycle; 0 of a pair that is on makes it OFF likewise. Rests on (parts of) R40, R467 to R469, R483, R487. Where
these rules leave the point open it states the model's choice: log entries 97, 98. -/
def Obligations.PairIsCommanded : Prop :=
  (∀ (s : State) (m v : Nat), s.Accepts m Obj.WITNESS_W_RENEW v → s.boot.ready = true → s.get Obj.PAIR_CTRL_ROLE = roleACTIVE → v / 2 ^ 32
    = s.get Obj.PAIR_CTRL_EPOCH → s.cycleOf (v % 2 ^ 32) ≤ s.cycleNow → s.leaseValid = true → s.pair.releasing = false → exec (.wRenew m
    v) s = .next (State.finish (pathOf m) m Obj.WITNESS_W_RENEW (.ok, (s.renew (s.cycleOf (v % 2 ^ 32))).set Obj.WITNESS_W_LAST v))) ∧
  (∀ (s : State) (m v : Nat), s.Accepts m Obj.WITNESS_W_RENEW v → (s.get Obj.PAIR_CTRL_ROLE ≠ roleACTIVE ∨ v / 2 ^ 32 ≠ s.get
    Obj.PAIR_CTRL_EPOCH ∨ s.leaseValid = false) → exec (.wRenew m v) s = .next (State.finish (pathOf m) m Obj.WITNESS_W_RENEW (.invalid,
    s.bump Obj.WITNESS_W_REFUSED))) ∧
  (∀ (s : State) (m v : Nat), s.Accepts m Obj.WITNESS_W_TAKEOVER v → (s.get Obj.PAIR_CTRL_ROLE = roleSTANDBY ∨ s.get Obj.PAIR_CTRL_ROLE =
    roleLAPSED) → s.get Obj.PAIR_CTRL_WITNESS_MODE = 1 → epochHigher (v / 2 ^ 32) s.pair.highest = true → s.pair.acked = none → exec
    (.wTakeover m v) s = .next (State.finish (pathOf m) m Obj.WITNESS_W_TAKEOVER (.ok, ((s.set Obj.WITNESS_W_LAST v).adoptEpoch (v / 2 ^
    32)).withPair { ((s.set Obj.WITNESS_W_LAST v).adoptEpoch (v / 2 ^ 32)).pair with takeover := some ⟨(max (s.cycleStart (s.cycleNow + 1)) (s.cycleStart (s.cycleOf (v % 2 ^ 32) + 3 + s.longLease))), .witness, some (v / 2 ^ 32)⟩, ackDue := none, granted := some (s.get Obj.PAIR_CTRL_EPOCH, ((s.set Obj.WITNESS_W_LAST v).adoptEpoch (v / 2 ^ 32)).cycleNow), expect := s.pair.expect }))) ∧
  (∀ (s : State) (m v : Nat), s.Accepts m Obj.WITNESS_W_TAKEOVER v → epochHigher (v / 2 ^ 32) s.pair.highest = false → exec (.wTakeover m
    v) s = .next (State.finish (pathOf m) m Obj.WITNESS_W_TAKEOVER (.invalid, s.bump Obj.WITNESS_W_REFUSED))) ∧
  (∀ (s : State) (m v : Nat), s.Accepts m Obj.PAIR_CTRL_COMMAND v → v = 1 → s.get Obj.PAIR_CTRL_ROLE = roleACTIVE → s.pair.releasing =
    false → exec (.command m v) s = .next (State.finish (pathOf m) m Obj.PAIR_CTRL_COMMAND (.ok, s.handOver))) ∧
  (∀ (s : State) (m v : Nat), s.Canonical → s.Accepts m Obj.PAIR_CTRL_COMMAND v → s.get Obj.PAIR_CTRL_ROLE ≠ roleACTIVE → s.sec.fusing =
    none → ∃ t, exec (.command m v) s = .next t ∧ t.Answered m Obj.PAIR_CTRL_COMMAND .invalid ∧ Frame (keysOf
    [Obj.ACCESS_STATUS_LAST_STATUS m, Obj.ACCESS_STATUS_LAST_OBJECT m, Obj.ACCESS_STATUS_REFUSED m]) noKey [.sent] s t) ∧
  (∀ (s : State) (m v : Nat), s.Accepts m Obj.PAIR_CTRL_PAIR_ENABLE v → v = 1 → s.get Obj.PAIR_CTRL_PAIR_ENABLE = 0 → ((((s.commit
    Obj.PAIR_CTRL_PAIR_ENABLE v).set Obj.PAIR_CTRL_SYNC 0).withPair { ((s.commit Obj.PAIR_CTRL_PAIR_ENABLE v).set Obj.PAIR_CTRL_SYNC 0).pair with journal := [], fresh := [], ackDue := none, granted := none, unacked := [], takeover := none, releasing := false, selfRenew := false, expect := none, acked := none, held := [], outstanding := [], bulk := none, ready := [], torn := false, journalFrom := none, revertDue := false, gaveUp := false, run := 0, wtrStart := none }).setRole
    roleSTANDBY).firmwareRuns = true → exec (.pairEnable m v) s = .next (State.finish (pathOf m) m Obj.PAIR_CTRL_PAIR_ENABLE (.ok,
    ((((s.commit Obj.PAIR_CTRL_PAIR_ENABLE v).set Obj.PAIR_CTRL_SYNC 0).withPair { ((s.commit Obj.PAIR_CTRL_PAIR_ENABLE v).set Obj.PAIR_CTRL_SYNC 0).pair with journal := [], fresh := [], ackDue := none, granted := none, unacked := [], takeover := none, releasing := false, selfRenew := false, expect := none, acked := none, held := [], outstanding := [], bulk := none, ready := [], torn := false, journalFrom := none, revertDue := false, gaveUp := false, run := 0, wtrStart := none }).setRole
    roleSTANDBY).armMateCycle))) ∧
  (∀ (s : State) (m v : Nat), s.Accepts m Obj.PAIR_CTRL_PAIR_ENABLE v → v = 0 → s.get Obj.PAIR_CTRL_PAIR_ENABLE = 1 → exec (.pairEnable m
    v) s = .next (State.finish (pathOf m) m Obj.PAIR_CTRL_PAIR_ENABLE (.ok, (((s.commit Obj.PAIR_CTRL_PAIR_ENABLE v).set
    Obj.PAIR_CTRL_SYNC 0).withPair { ((s.commit Obj.PAIR_CTRL_PAIR_ENABLE v).set Obj.PAIR_CTRL_SYNC 0).pair with journal := [], fresh := [], ackDue := none, granted := none, unacked := [], takeover := none, releasing := false, selfRenew := false, expect := none, acked := none, held := [], outstanding := [], bulk := none, ready := [], torn := false, journalFrom := none, revertDue := false, gaveUp := false, run := 0, wtrStart := none }).setRole
    roleOFF)))

/-- MEMORY_BIST, LOGIC_BIST, LBIST_OVERDUE, EYE_CHECK, FW_HEARTBEAT and HEARTBEAT_TIMEOUT: With the core on: MEMORY_BIST goes one slice on
and counts SLICES_TESTED; a bad slice also sets FAIL_MAP [0], raises E-9303 and shows the health. LOGIC_BIST tests the next pipeline in
rotation outside the active masks, notes its instant and counts LBIST_RUNS; a failed one also sets FAIL_MAP [1], raises E-9302 and shows the
health. LBIST_OVERDUE of a pipeline outside the masks not tested for more than LBIST_MAX_S sets FAIL_MAP [2] and raises E-9109 with it.
EYE_CHECK with a margin below EYE_MIN_PCT on an enabled lane notes whether such a lane is the mate link's, sets FAIL_MAP [3] and raises
E-9110 with the first; with none it clears the note and the bit; both show the health. An accepted FW_HEARTBEAT notes the instant, clears
FAIL_MAP [6] and shows the health; HEARTBEAT_TIMEOUT 4 s or more after it, with the bit clear, sets it, raises E-9204 and shows the health,
and before that changes nothing. Rests on (parts of) R479, R481. Where these rules leave the point open it states the model's choice: log
entries 1, 39, 99. -/
def Obligations.ProofEngineTests : Prop :=
  (∀ (s : State), s.CoreOn → exec (.memoryBist false) s = .next ((s.withPair { s.pair with slice := s.pair.slice + 1 }).bump
    Obj.PROOF_SLICES_TESTED)) ∧
  (∀ (s : State), s.CoreOn → exec (.memoryBist true) s = .next (((((s.withPair { s.pair with slice := s.pair.slice + 1 }).bump
    Obj.PROOF_SLICES_TESTED).fail 0).raise 0x9303 uMGMT 0).showHealth)) ∧
  (∀ (s : State) (i : Nat), s.CoreOn → ((List.range 64).find? (fun i => s.outsideMask ((s.pair.nextLbist + i) % 64)) = some i) → exec
    (.logicBist false) s = .next ((s.withPair { s.pair with nextLbist := ((s.pair.nextLbist + i) % 64 + 1) % 64, lbist := Table.put (fun _ => 0) s.pair.lbist ((s.pair.nextLbist + i) % 64) s.time.now }).bump
    Obj.PROOF_LBIST_RUNS)) ∧
  (∀ (s : State) (i : Nat), s.CoreOn → ((List.range 64).find? (fun i => s.outsideMask ((s.pair.nextLbist + i) % 64)) = some i) → exec
    (.logicBist true) s = .next (((((s.withPair { s.pair with nextLbist := ((s.pair.nextLbist + i) % 64 + 1) % 64, lbist := Table.put (fun _ => 0) s.pair.lbist ((s.pair.nextLbist + i) % 64) s.time.now }).bump
    Obj.PROOF_LBIST_RUNS).fail 1).raise 0x9302 uMGMT 0).showHealth)) ∧
  (∀ (s : State) (p : Fin 64), s.CoreOn → s.outsideMask p = false → (Table.get (fun _ => 0) s.pair.lbist p + s.get Obj.PROOF_LBIST_MAX_S *
    nsPerS < s.time.now) → exec (.lbistOverdue p) s = .next ((s.fail 2).raise 0x9109 uMGMT (packArg [(16, p.val)]))) ∧
  (∀ (s : State) (l : List (Fin 292 × Nat)) (x : Fin 292 × Nat) (r : List (Fin 292 × Nat)), s.CoreOn → (l.filter (fun m => s.laneEnabled
    m.1 && Nat.blt m.2 (s.get Obj.PROOF_EYE_MIN_PCT)) = x :: r) → exec (.eyeCheck l) s = .next ((((s.withPair { s.pair with mateEye := (x :: r).any fun m => Nat.ble 288 m.1.val }).fail
    3).raise 0x9110 uMGMT (packArg [(16, x.1.val)])).showHealth)) ∧
  (∀ (s : State) (l : List (Fin 292 × Nat)), s.CoreOn → (l.filter (fun m => s.laneEnabled m.1 && Nat.blt m.2 (s.get Obj.PROOF_EYE_MIN_PCT))
    = []) → exec (.eyeCheck l) s = .next (((s.withPair { s.pair with mateEye := false }).pass 3).showHealth)) ∧
  (∀ (s : State) (m v : Nat), s.Accepts m Obj.PROOF_FW_HEARTBEAT v → exec (.fwHeartbeat m v) s = .next (State.finish (pathOf m) m
    Obj.PROOF_FW_HEARTBEAT (.ok, ((s.withPair { s.pair with heartbeat := s.time.now }).pass 6).showHealth))) ∧
  (∀ (s : State), s.CoreOn → s.pair.heartbeat + 4000000000 ≤ s.time.now → (s.get Obj.PROOF_FAIL_MAP).testBit 6 = false → exec
    (.heartbeatTimeout) s = .next (((s.fail 6).raise 0x9204 uMGMT 0).showHealth)) ∧
  (∀ (s : State), s.time.now < s.pair.heartbeat + 4000000000 → exec (.heartbeatTimeout) s = .next (s))

/-- POWER_EVALUATE, POWER_ENTRY_DONE, WAKE_DONE, LAT_TOL_NS, PWR_REQ and PREWAKE_HOLD_END: Of a line port or fabric group with the core on:
POWER_EVALUATE of a part that neither enters, wakes nor is blocked begins to enter the first deeper state that is allowed and not deeper
than the one chosen, or, where a PREWAKE of this instant bars it, holds the part. A sector's part that is to be deep in OFF, which is no
longer allowed, is woken (evaluatePart). POWER_ENTRY_DONE of a part of any client whose entry has run its time leaves it in that state and
counts TRANSITIONS; a line port that goes OFF also goes off as portOff says. WAKE_DONE of a part of a client from 128 on, in a deeper state
than RUN and not entering one, whose wake has run its time, leaves it in RUN, idle from now, and counts TRANSITIONS. Accepted writes for a
port or group: LAT_TOL_NS that falls below the wake time of the part's state is stored and wakes it, one not below it is only stored; for a
group PWR_REQ 0 is stored and wakes it, 3 is stored; PWR_REQ 3 of a sector is INVALID and changes only the access status. PREWAKE_HOLD_END
of a hold that has ended drops it. Rests on (parts of) R497, R498, R500 to R505, R510. Where these rules leave the point open it states the
model's choice: log entries 24, 100, 205, 206, 209. -/
def Obligations.PartsDeepenAndWake : Prop :=
  (∀ (s : State) (c : Fin 144) (n : Nat), s.CoreOn → s.isClient c = true → clientKind c ≠ .sector → (s.part c 0).entering = none → (s.part
    c 0).waking = none → (s.part c 0).blocked = false → ([1, 2, 3].find? (fun x => Nat.blt (s.part c 0).state x && Nat.ble x
    (s.choosePower c 0) && s.stateAllowed c 0 x) = some n) → s.barsEntry (s.part c 0) n = none → exec (.powerEvaluate c) s = .next
    (s.setPart c 0 { (s.part c 0) with entering := some (n, s.time.now + entryNs n) })) ∧
  (∀ (s : State) (c : Fin 144) (n x y : Nat), s.CoreOn → s.isClient c = true → clientKind c ≠ .sector → (s.part c 0).entering = none →
    (s.part c 0).waking = none → (s.part c 0).blocked = false → ([1, 2, 3].find? (fun x => Nat.blt (s.part c 0).state x && Nat.ble x
    (s.choosePower c 0) && s.stateAllowed c 0 x) = some n) → s.barsEntry (s.part c 0) n = some (x, y) → exec (.powerEvaluate c) s =
    .next (s.setPart c 0 { (s.part c 0) with holdUntil := y, holdLevel := x })) ∧
  (∀ (s : State) (c : Fin 144) (i : Nat), (s.part c i).waking = none → (s.part c i).blocked = false → (s.part c i).deep = 3 → clientKind c
    = .sector → s.stateAllowed c i 3 = false → s.evaluatePart c i = s.wakePart c i) ∧
  (∀ (s : State) (c : Fin 144) (i : Fin 7) (n a : Nat), s.CoreOn → (s.part c i).entering = some (n, a) → a ≤ s.time.now → ¬ (c.val < 128 ∧
    n = 3) → exec (.powerEntryDone c i) s = .next (((s.setPart c i { s.part c i with state := n, entering := none }).bump
    (Obj.POWER_CLIENT_TRANSITIONS c)).showPower c)) ∧
  (∀ (s : State) (c : Fin 144) (i : Fin 7) (a : Nat), s.CoreOn → (s.part c i).entering = some (3, a) → a ≤ s.time.now → c.val < 128 → exec
    (.powerEntryDone c i) s = .next ((((s.setPart c i { s.part c i with state := 3, entering := none }).bump
    (Obj.POWER_CLIENT_TRANSITIONS c)).portOff c).showPower c)) ∧
  (∀ (s : State) (c : Fin 144) (i : Fin 7) (a : Nat), s.CoreOn → (s.part c i).waking = some a → a ≤ s.time.now → (s.part c i).entering =
    none → (s.part c i).state ≠ 0 → 128 ≤ c.val → exec (.wakeDone c i) s = .next (((s.setPart c i { s.part c i with state := 0, waking := none, idleSince := s.time.now }).bump
    (Obj.POWER_CLIENT_TRANSITIONS c)).showPower c)) ∧
  (∀ (s : State) (c : Fin 144) (m v : Nat), s.Accepts m (Obj.POWER_CLIENT_LAT_TOL_NS c) v → clientKind c ≠ .sector → v < wakeNs (clientKind
    c) (s.part c 0).deep → wakeNs (clientKind c) (s.part c 0).deep ≤ s.get (Obj.POWER_CLIENT_LAT_TOL_NS c) → exec (.latTolNs c m v) s =
    .next (State.finish (pathOf m) m (Obj.POWER_CLIENT_LAT_TOL_NS c) (.ok, (s.commit (Obj.POWER_CLIENT_LAT_TOL_NS c) v).wakePart c 0
    true))) ∧
  (∀ (s : State) (c : Fin 144) (m v : Nat), s.Canonical → s.Accepts m (Obj.POWER_CLIENT_LAT_TOL_NS c) v → clientKind c ≠ .sector → wakeNs
    (clientKind c) (s.part c 0).deep ≤ v → s.sec.fusing = none → ∃ t, exec (.latTolNs c m v) s = .next t ∧ t.get
    (Obj.POWER_CLIENT_LAT_TOL_NS c) = v ∧ t.Answered m (Obj.POWER_CLIENT_LAT_TOL_NS c) .ok ∧ Frame (keysOf [Obj.POWER_CLIENT_LAT_TOL_NS
    c]) noKey [.pair, .dict, .sent] s t) ∧
  (∀ (s : State) (c : Fin 144) (m v : Nat), s.Accepts m (Obj.POWER_CLIENT_PWR_REQ c) v → v = 0 → clientKind c ≠ .sector → 128 ≤ c.val →
    exec (.pwrReq c m v) s = .next (State.finish (pathOf m) m (Obj.POWER_CLIENT_PWR_REQ c) (.ok, (s.commit (Obj.POWER_CLIENT_PWR_REQ c)
    v).wakePart c 0))) ∧
  (∀ (s : State) (c : Fin 144) (m v : Nat), s.Canonical → s.Accepts m (Obj.POWER_CLIENT_PWR_REQ c) v → v = 3 → clientKind c ≠ .sector → 128
    ≤ c.val → s.sec.fusing = none → ∃ t, exec (.pwrReq c m v) s = .next t ∧ t.get (Obj.POWER_CLIENT_PWR_REQ c) = v ∧ t.Answered m
    (Obj.POWER_CLIENT_PWR_REQ c) .ok ∧ Frame (keysOf [Obj.POWER_CLIENT_PWR_REQ c]) noKey [.pair, .dict, .sent] s t) ∧
  (∀ (s : State) (c : Fin 144) (m v : Nat), s.Canonical → s.Accepts m (Obj.POWER_CLIENT_PWR_REQ c) v → v = 3 → clientKind c = .sector →
    s.sec.fusing = none → ∃ t, exec (.pwrReq c m v) s = .next t ∧ t.Answered m (Obj.POWER_CLIENT_PWR_REQ c) .invalid ∧ Frame (keysOf
    [Obj.ACCESS_STATUS_LAST_STATUS m, Obj.ACCESS_STATUS_LAST_OBJECT m, Obj.ACCESS_STATUS_REFUSED m]) noKey [.sent] s t) ∧
  (∀ (s : State) (c : Fin 144), s.CoreOn → clientKind c ≠ .sector → 0 < (s.part c 0).holdUntil → (s.part c 0).holdUntil ≤ s.time.now → exec
    (.prewakeHoldEnd c) s = .next (s.setPart c 0 { s.part c 0 with holdUntil := 0, holdLevel := 3 }))

/-- WAKE_N is driven low for 10 ms on WAKE_REQ and on a wake-pattern match: An accepted WAKE_REQ 1 with WAKE_N high drives it low until 10
ms later and raises E-1011; with WAKE_N low it restarts the 10 ms. A frame that matches an enabled wake pattern leaves WAKE_N low until 10
ms later; where that pattern alone is enabled it raises E-1011 when WAKE_N was high and only restarts the 10 ms when it was low, and is
counted with E-8004. The pin rises when the 10 ms have passed and not before; in ISLAND the supervisor's WAKE_REQ passes the check of a
write, unless the device is DECOMMISSIONED. -/
def Obligations.WakePinIsDrivenLow : Prop :=
  (∀ (s : State) (m v : Nat), s.Accepts m Obj.POWER_CTRL_WAKE_REQ v → v = 1 → s.pw.wakeLow = none → exec (.wakeReq m v) s = .next
    (State.finish (pathOf m) m Obj.POWER_CTRL_WAKE_REQ (.ok, ((s.withPw { s.pw with wakeLow := some (s.time.now + 10000000) }).emit
    (.pin .wakeN false)).raise 0x1011 uAON 0))) ∧
  (∀ (s : State) (m v : Nat), s.Accepts m Obj.POWER_CTRL_WAKE_REQ v → v = 1 → s.pw.wakeLow ≠ none → exec (.wakeReq m v) s = .next
    (State.finish (pathOf m) m Obj.POWER_CTRL_WAKE_REQ (.ok, (s.withPw { s.pw with wakeLow := some (s.time.now + 10000000) })))) ∧
  (∀ (s : State) (n : Nat) (f : List Byte), n < 8 → s.on (Obj.WAKE_PATTERN_WP_ENABLE n) = true → s.get (Obj.WAKE_PATTERN_WP_LENGTH n) ≤
    f.length → maskedCrc (s.wpMask n) (f.take (s.get (Obj.WAKE_PATTERN_WP_LENGTH n))) = s.get (Obj.WAKE_PATTERN_WP_CHECK n) →
    (s.wakeMatch f).pw.wakeLow = some (s.time.now + 10000000)) ∧
  (∀ (s : State) (n : Nat) (f : List Byte), n < 8 → s.pw.wakeLow ≠ none → s.on (Obj.WAKE_PATTERN_WP_ENABLE n) = true → s.get
    (Obj.WAKE_PATTERN_WP_LENGTH n) ≤ f.length → maskedCrc (s.wpMask n) (f.take (s.get (Obj.WAKE_PATTERN_WP_LENGTH n))) = s.get
    (Obj.WAKE_PATTERN_WP_CHECK n) → (∀ k, k < 8 → k ≠ n → s.on (Obj.WAKE_PATTERN_WP_ENABLE k) = false) → s.wakeMatch f = ((s.withPw { s.pw with wakeLow := some (s.time.now + 10000000) }).bump
    (Obj.WAKE_PATTERN_WP_MATCHES n)).raise 0x8004 uAON 0) ∧
  (∀ (s : State) (n : Nat) (f : List Byte), n < 8 → s.pw.wakeLow = none → s.on (Obj.WAKE_PATTERN_WP_ENABLE n) = true → s.get
    (Obj.WAKE_PATTERN_WP_LENGTH n) ≤ f.length → maskedCrc (s.wpMask n) (f.take (s.get (Obj.WAKE_PATTERN_WP_LENGTH n))) = s.get
    (Obj.WAKE_PATTERN_WP_CHECK n) → (∀ k, k < 8 → k ≠ n → s.on (Obj.WAKE_PATTERN_WP_ENABLE k) = false) → s.wakeMatch f = ((((s.withPw { s.pw with wakeLow := some (s.time.now + 10000000) }).emit
    (.pin .wakeN false)).raise 0x1011 uAON 0).bump (Obj.WAKE_PATTERN_WP_MATCHES n)).raise 0x8004 uAON 0) ∧
  (∀ (s : State) (a : Nat), s.pw.wakeLow = some a → a ≤ s.time.now → exec (.wakeNRelease) s = .next ((s.withPw { s.pw with wakeLow := none }).emit
    (.pin .wakeN true))) ∧
  (∀ (s : State) (a : Nat), s.pw.wakeLow = some a → s.time.now < a → exec (.wakeNRelease) s = .next (s)) ∧
  (∀ (s : State), s.pw.island = true → s.sec.lc ≠ 4 → s.checkWrite .coica SUPV Obj.POWER_CTRL_WAKE_REQ 1 = .ok)

/-- PROVISION, SVN_ADVANCE, KEY_HASH and FUSE_PROGRAM_DONE: Accepted writes outside ISLAND, with no fuses being blown: PROVISION 1 in BLANK,
and PROVISION 4 in BLANK, begin to blow their transition; PROVISION 1 outside BLANK is DENIED; an SVN_ADVANCE above SVN_COUNTER, at most
FW_SVN and 128, begins; the hash of an unused key slot, by a job, in PROVISIONED begins. PROVISION 4 while fuses are blown is BUSY.
FUSE_PROGRAM_DONE of what is being blown: an SVN sets SVN_COUNTER, raises E-0004 and ends the write OK; a key hash is set and ends OK; a
transition blows its fuses, raises E-0001 and ends OK; where a fuse reads back wrong, what was blown is blown but for it, E-0202 is raised
and the write ends PARITY. Rests on (parts of) R512 to R517. Where these rules leave the point open it states the model's choice: log
entries 102, 103, 105, 211. -/
def Obligations.FusesAreBlown : Prop :=
  (∀ (s : State) (m : Nat), s.Accepts m Obj.SECURITY_PROVISION 1 → s.pw.island = false → s.sec.fusing = none → s.sec.lc = lcBLANK → exec
    (.provisionProvisioned m) s = .next (State.finish (pathOf m) m Obj.SECURITY_PROVISION (.ok, s.withSec { s.sec with fusing := some { job := .transition 1, master := m, key := Obj.SECURITY_PROVISION } }))) ∧
  (∀ (s : State) (m : Nat), s.Accepts m Obj.SECURITY_PROVISION 4 → s.pw.island = false → s.sec.fusing = none → s.sec.lc = lcBLANK → exec
    (.provisionDecommission m) s = .next (State.finish (pathOf m) m Obj.SECURITY_PROVISION (.ok, s.withSec { s.sec with fusing := some { job := .transition 4, master := m, key := Obj.SECURITY_PROVISION } }))) ∧
  (∀ (s : State) (m : Nat), s.Accepts m Obj.SECURITY_PROVISION 1 → s.pw.island = false → s.sec.fusing = none → s.sec.lc ≠ lcBLANK → exec
    (.provisionProvisioned m) s = .next (State.finish (pathOf m) m Obj.SECURITY_PROVISION (.denied, s))) ∧
  (∀ (s : State) (m : Nat), s.Accepts m Obj.SECURITY_PROVISION 4 → s.pw.island = false → s.sec.fusing.isSome = true → exec
    (.provisionDecommission m) s = .next (State.finish (pathOf m) m Obj.SECURITY_PROVISION (.busy, s))) ∧
  (∀ (s : State) (m v : Nat), s.Accepts m Obj.SECURITY_SVN_ADVANCE v → s.pw.island = false → s.sec.fusing = none → s.get
    Obj.SECURITY_SVN_COUNTER < v → v ≤ s.get Obj.IDENTITY_FW_SVN → v ≤ 128 → exec (.svnAdvance m v) s = .next (State.finish (pathOf m) m
    Obj.SECURITY_SVN_ADVANCE (.ok, s.withSec { s.sec with fusing := some { job := .svn v, master := m, key := Obj.SECURITY_SVN_ADVANCE } }))) ∧
  (∀ (s : State) (k : Fin 4) (m v : Nat), s.unreached m = false → s.checkWrite .job m (Obj.SECURITY_KEY_HASH k) v = .ok → s.pw.island =
    false → s.sec.fusing = none → s.sec.lc = lcPROVISIONED → s.get (Obj.SECURITY_KEY_HASH k) = 0 → exec (.keyHash k m v) s = .next
    (State.finish .job m (Obj.SECURITY_KEY_HASH k) (.ok, s.withSec { s.sec with fusing := some { job := .key k v, master := m, key := (Obj.SECURITY_KEY_HASH k) } }))) ∧
  (∀ (s : State) (f : Fusing) (n : Nat), s.sec.fusing = some f → f.job = .svn n → exec (.fuseProgramDone none) s = .next (((((s.withSec { s.sec with fusing := none })).set
    Obj.SECURITY_SVN_COUNTER n).raise 0x0004 uMGMT 0).endWrite f.via f.master f.key .ok)) ∧
  (∀ (s : State) (f : Fusing) (k n : Nat), s.sec.fusing = some f → f.job = .key k n → exec (.fuseProgramDone none) s = .next ((((s.withSec
    { s.sec with fusing := none })).set (Obj.SECURITY_KEY_HASH k) n).endWrite f.via f.master f.key .ok)) ∧
  (∀ (s : State) (f : Fusing) (n : Nat), s.sec.fusing = some f → f.job = .transition n → exec (.fuseProgramDone none) s = .next
    (((((s.withSec { s.sec with fusing := none })).blow (.transition n) none).raise 0x0001 uMGMT 0).endWrite f.via f.master f.key .ok)) ∧
  (∀ (s : State) (f : Fusing) (x : Nat × Nat), s.sec.fusing = some f → exec (.fuseProgramDone (some x)) s = .next (((((s.withSec { s.sec with fusing := none })).blow
    f.job (some x)).raise 0x0202 uMGMT 0).endWrite f.via f.master f.key .parity))

/-- A challenge is 48 fresh bytes, valid for 60 s and for one submission: A read of DBG_CHALLENGE that is not withheld answers 48 fresh
bytes, which with the instant of the read replace any challenge held; a submission at or after 60 s from the read fails step 1 of its check,
and one within them does not; an accepted AUTH_SUBMIT leaves no challenge, whatever its outcome; CHALLENGE_EXPIRY drops a challenge whose 60
s have passed and no other. -/
def Obligations.ChallengeServesOnceWithinAMinute : Prop :=
  (∀ (s : State) (m : Nat), s.unreached m = false → s.waits (pathOf m) m true = false → s.outOfTurn m Obj.DEBUG_DBG_CHALLENGE = false →
    s.checkRead (pathOf m) m Obj.DEBUG_DBG_CHALLENGE = .ok → s.sec.withheld = none → ∃ t, exec (.dbgChallenge m) s = .next t ∧
    t.sec.challenge = some (natLE (State.freshBytes 48 s).1, s.time.now) ∧ (t.sent = .access m Obj.DEBUG_DBG_CHALLENGE Status.ok.code
    (if pathOf m = .window then natLE (State.freshBytes 48 s).1 % 2 ^ 128 else natLE (State.freshBytes 48 s).1) :: s.sent) ∧ Frame noKey
    noKey [.sec, .free, .sent] s t) ∧
  (∀ (s : State) (c a : Nat), s.sec.challenge = some (c, a) → a + 60000000000 ≤ s.time.now → s.tokenStep = 1) ∧
  (∀ (s : State) (c a : Nat), s.sec.challenge = some (c, a) → s.time.now < a + 60000000000 → s.tokenStep ≠ 1) ∧
  (∀ (s : State) (m v : Nat), s.Accepts m Obj.DEBUG_AUTH_SUBMIT v → ∃ t, exec (.tokenObserve m v) s = .next t ∧ t.sec.challenge = none) ∧
  (∀ (s : State) (m v : Nat), s.Accepts m Obj.DEBUG_AUTH_SUBMIT v → ∃ t, exec (.tokenInvasive m v) s = .next t ∧ t.sec.challenge = none) ∧
  (∀ (s : State) (m v : Nat), s.Accepts m Obj.DEBUG_AUTH_SUBMIT v → ∃ t, exec (.tokenTransition m v) s = .next t ∧ t.sec.challenge = none) ∧
  (∀ (s : State) (m v : Nat), s.Accepts m Obj.DEBUG_AUTH_SUBMIT v → ∃ t, exec (.tokenRevoke m v) s = .next t ∧ t.sec.challenge = none) ∧
  (∀ (s : State) (c a : Nat), s.sec.challenge = some (c, a) → exec (.challengeExpiry) s = .next (if a + 60000000000 ≤ s.time.now then
    s.withSec { s.sec with challenge := none } else s))

/-- Tokens, DBG_DROP, DBG_EXPIRY and the end of a challenge lockout: Of an accepted AUTH_SUBMIT with no takeover scheduled, after an expired
level has ended: a token that passes its check clears the challenge, the failures and AUTH_STATUS; OP 1 sets DBG_EXPIRES and raises the
level to at least 1 with E-0002, OP 2 in PROVISIONED or DEPLOYED to 2 and drops the attestation keys; OP 3 and OP 4, outside ISLAND with no
fuses being blown, begin to blow their transition or revocation. One that fails, submitted as TOKEN_OBSERVE, is INVALID, clears the
challenge, counts AUTH_FAILS, shows the failing step in AUTH_STATUS and raises E-0101; the eighth failure in a row starts the count anew,
withholds challenges for 60 s and raises E-0102. An accepted DBG_DROP below the level lowers it with E-0003, above it is INVALID. DBG_EXPIRY
past DBG_EXPIRES (not 0) of a level that is not NONE makes it NONE with E-0003. CHALLENGE_LOCKOUT_END ends a lockout whose time has passed
and no other. Rests on (parts of) R513, R515, R521, R523 to R525, R527. Where these rules leave the point open it states the model's choice:
log entries 4, 104, 193, 210. -/
def Obligations.DebugLevelRuns : Prop :=
  (∀ (s : State) (m v : Nat), s.Accepts m Obj.DEBUG_AUTH_SUBMIT v → s.expireDebug.tokenStep = 0 → byteAt s.expireDebug.token 56 = 1 →
    s.pair.takeover = none → exec (.tokenObserve m v) s = .next (State.finish (pathOf m) m Obj.DEBUG_AUTH_SUBMIT (.ok,
    ((((s.expireDebug.withSec { s.expireDebug.sec with challenge := none, failures := 0 }).set Obj.DEBUG_AUTH_STATUS 0).set
    Obj.DEBUG_DBG_EXPIRES (if wordAt s.expireDebug.token 60 4 = 0 then 0 else time80 ((s.expireDebug.withSec { s.expireDebug.sec with challenge := none, failures := 0 }).timeNow
    + wordAt s.expireDebug.token 60 4 * 1000000000))).setLevel (max 1 ((((s.expireDebug.withSec { s.expireDebug.sec with challenge := none, failures := 0 }).set
    Obj.DEBUG_AUTH_STATUS 0).set Obj.DEBUG_DBG_EXPIRES (if wordAt s.expireDebug.token 60 4 = 0 then 0 else time80
    ((s.expireDebug.withSec { s.expireDebug.sec with challenge := none, failures := 0 }).timeNow + wordAt s.expireDebug.token 60 4 *
    1000000000))).get Obj.DEBUG_DBG_LEVEL))).raise 0x0002 uMGMT 0))) ∧
  (∀ (s : State) (m v : Nat), s.Accepts m Obj.DEBUG_AUTH_SUBMIT v → s.expireDebug.tokenStep = 0 → byteAt s.expireDebug.token 56 = 2 →
    (s.expireDebug.sec.lc = lcPROVISIONED ∨ s.expireDebug.sec.lc = lcDEPLOYED) → s.pair.takeover = none → exec (.tokenInvasive m v) s =
    .next (State.finish (pathOf m) m Obj.DEBUG_AUTH_SUBMIT (.ok, (((((s.expireDebug.withSec { s.expireDebug.sec with challenge := none, failures := 0 }).set
    Obj.DEBUG_AUTH_STATUS 0).set Obj.DEBUG_DBG_EXPIRES (if wordAt s.expireDebug.token 60 4 = 0 then 0 else time80
    ((s.expireDebug.withSec { s.expireDebug.sec with challenge := none, failures := 0 }).timeNow + wordAt s.expireDebug.token 60 4 *
    1000000000))).setLevel (max 2 ((((s.expireDebug.withSec { s.expireDebug.sec with challenge := none, failures := 0 }).set
    Obj.DEBUG_AUTH_STATUS 0).set Obj.DEBUG_DBG_EXPIRES (if wordAt s.expireDebug.token 60 4 = 0 then 0 else time80
    ((s.expireDebug.withSec { s.expireDebug.sec with challenge := none, failures := 0 }).timeNow + wordAt s.expireDebug.token 60 4 *
    1000000000))).get Obj.DEBUG_DBG_LEVEL))).withSec { ((((s.expireDebug.withSec { s.expireDebug.sec with challenge := none, failures := 0 }).set Obj.DEBUG_AUTH_STATUS 0).set Obj.DEBUG_DBG_EXPIRES (if wordAt s.expireDebug.token 60 4 = 0 then 0 else time80 ((s.expireDebug.withSec { s.expireDebug.sec with challenge := none, failures := 0 }).timeNow + wordAt s.expireDebug.token 60 4 * 1000000000))).setLevel (max 2 ((((s.expireDebug.withSec { s.expireDebug.sec with challenge := none, failures := 0 }).set Obj.DEBUG_AUTH_STATUS 0).set Obj.DEBUG_DBG_EXPIRES (if wordAt s.expireDebug.token 60 4 = 0 then 0 else time80 ((s.expireDebug.withSec { s.expireDebug.sec with challenge := none, failures := 0 }).timeNow + wordAt s.expireDebug.token 60 4 * 1000000000))).get Obj.DEBUG_DBG_LEVEL))).sec with attested := false, zeroed := true, dice := none }).raise
    0x0002 uMGMT 0))) ∧
  (∀ (s : State) (m v : Nat), s.Accepts m Obj.DEBUG_AUTH_SUBMIT v → s.expireDebug.tokenStep = 0 → byteAt s.expireDebug.token 56 = 3 →
    s.pw.island = false → s.sec.fusing = none → s.pair.takeover = none → exec (.tokenTransition m v) s = .next (State.finish (pathOf m)
    m Obj.DEBUG_AUTH_SUBMIT (.ok, ((s.expireDebug.withSec { s.expireDebug.sec with challenge := none, failures := 0 }).set
    Obj.DEBUG_AUTH_STATUS 0).withSec { (s.expireDebug.withSec { s.expireDebug.sec with challenge := none, failures := 0 }).sec with fusing := some { job := .transition (byteAt s.expireDebug.token 57), master := m, key := Obj.DEBUG_AUTH_SUBMIT } }))) ∧
  (∀ (s : State) (m v : Nat), s.Accepts m Obj.DEBUG_AUTH_SUBMIT v → s.expireDebug.tokenStep = 0 → byteAt s.expireDebug.token 56 = 4 →
    s.pw.island = false → s.sec.fusing = none → s.pair.takeover = none → exec (.tokenRevoke m v) s = .next (State.finish (pathOf m) m
    Obj.DEBUG_AUTH_SUBMIT (.ok, ((s.expireDebug.withSec { s.expireDebug.sec with challenge := none, failures := 0 }).set
    Obj.DEBUG_AUTH_STATUS 0).withSec { (s.expireDebug.withSec { s.expireDebug.sec with challenge := none, failures := 0 }).sec with fusing := some { job := .revoke (byteAt s.expireDebug.token 57), master := m, key := Obj.DEBUG_AUTH_SUBMIT } }))) ∧
  (∀ (s : State) (m v : Nat), s.Accepts m Obj.DEBUG_AUTH_SUBMIT v → s.pair.takeover = none → s.expireDebug.tokenStep ≠ 0 →
    ((((s.expireDebug.withSec { s.expireDebug.sec with challenge := none }).bump Obj.DEBUG_AUTH_FAILS).set Obj.DEBUG_AUTH_STATUS
    s.expireDebug.tokenStep).raise 0x0101 uMGMT 0).sec.failures + 1 < 8 → exec (.tokenObserve m v) s = .next (State.finish (pathOf m) m
    Obj.DEBUG_AUTH_SUBMIT (.invalid, ((((s.expireDebug.withSec { s.expireDebug.sec with challenge := none }).bump
    Obj.DEBUG_AUTH_FAILS).set Obj.DEBUG_AUTH_STATUS s.expireDebug.tokenStep).raise 0x0101 uMGMT 0).withSec { ((((s.expireDebug.withSec { s.expireDebug.sec with challenge := none }).bump Obj.DEBUG_AUTH_FAILS).set Obj.DEBUG_AUTH_STATUS s.expireDebug.tokenStep).raise 0x0101 uMGMT 0).sec with failures := ((((s.expireDebug.withSec { s.expireDebug.sec with challenge := none }).bump Obj.DEBUG_AUTH_FAILS).set Obj.DEBUG_AUTH_STATUS s.expireDebug.tokenStep).raise 0x0101 uMGMT 0).sec.failures + 1 }))) ∧
  (∀ (s : State) (m v : Nat), s.Accepts m Obj.DEBUG_AUTH_SUBMIT v → s.pair.takeover = none → s.expireDebug.tokenStep ≠ 0 → 8 ≤
    ((((s.expireDebug.withSec { s.expireDebug.sec with challenge := none }).bump Obj.DEBUG_AUTH_FAILS).set Obj.DEBUG_AUTH_STATUS
    s.expireDebug.tokenStep).raise 0x0101 uMGMT 0).sec.failures + 1 → exec (.tokenObserve m v) s = .next (State.finish (pathOf m) m
    Obj.DEBUG_AUTH_SUBMIT (.invalid, (((((s.expireDebug.withSec { s.expireDebug.sec with challenge := none }).bump
    Obj.DEBUG_AUTH_FAILS).set Obj.DEBUG_AUTH_STATUS s.expireDebug.tokenStep).raise 0x0101 uMGMT 0).withSec { ((((s.expireDebug.withSec { s.expireDebug.sec with challenge := none }).bump Obj.DEBUG_AUTH_FAILS).set Obj.DEBUG_AUTH_STATUS s.expireDebug.tokenStep).raise 0x0101 uMGMT 0).sec with failures := 0, withheld := some (s.time.now + 60000000000) }).raise
    0x0102 uMGMT 0))) ∧
  (∀ (s : State) (m v : Nat), s.Accepts m Obj.DEBUG_DBG_DROP v → v < s.expireDebug.get Obj.DEBUG_DBG_LEVEL → exec (.dbgDrop m v) s = .next
    (State.finish (pathOf m) m Obj.DEBUG_DBG_DROP (.ok, (s.expireDebug.setLevel v).raise 0x0003 uMGMT 0))) ∧
  (∀ (s : State) (m v : Nat), s.Accepts m Obj.DEBUG_DBG_DROP v → s.expireDebug.get Obj.DEBUG_DBG_LEVEL < v → exec (.dbgDrop m v) s = .next
    (State.finish (pathOf m) m Obj.DEBUG_DBG_DROP (.invalid, s.expireDebug))) ∧
  (∀ (s : State), s.get Obj.DEBUG_DBG_EXPIRES ≠ 0 → ofTime80 (s.get Obj.DEBUG_DBG_EXPIRES) ≤ s.timeNow → s.get Obj.DEBUG_DBG_LEVEL ≠ 0 →
    exec (.dbgExpiry) s = .next ((s.setLevel 0).raise 0x0003 uMGMT 0)) ∧
  (∀ (s : State) (a : Nat), s.sec.withheld = some a → exec (.challengeLockoutEnd) s = .next (if a ≤ s.time.now then s.withSec { s.sec with withheld := none }
    else s))

/-- DEBUG_OBJECT_ACCESS, DEBUG_DOMAIN_ACCESS, CORE_HALT, CORE_STEP, SCAN_DUMP and EXTEST: DEBUG_OBJECT_ACCESS answers the status that a
write of the debug master ends with at once, or the status and value of its read; DEBUG_DOMAIN_ACCESS of an entry that does not wait answers
what its write or read ends with. After an expired level has ended, at INVASIVE with the core powered: CORE_HALT halts the management cores,
CORE_STEP of halted cores is OK, SCAN_DUMP of a sector all of whose parts are in RUN lets its chains' contents (a free value) out and resets
the sector. Below INVASIVE CORE_HALT is DENIED. At INVASIVE outside ISLAND EXTEST 2 takes the balls, and 1 (SAMPLE) gives them back and lets
their values out; EXTEST 0 gives them back and lets IDCODE out. Rests on (parts of) R520, R521, R525, R526. Where these rules leave the
point open it states the model's choice: log entries 2, 77, 106, 194. -/
def Obligations.DebugMasterActs : Prop :=
  (∀ (s : State) (i u v : Nat) (r : Status) (w : State), s.dictWrite .jtag .direct DBG i u v = (some r, w) → exec (.debugObjectAccess true
    i u v) s = .next (w.answer DBG (s.locate DBG i u).1 r)) ∧
  (∀ (s : State) (i u v x : Nat) (r : Status) (w : State), s.dictRead .jtag DBG i u = (r, x, w) → exec (.debugObjectAccess false i u v) s =
    .next (w.answer DBG (s.locate DBG i u).1 r x)) ∧
  (∀ (s : State) (i e v : Nat), s.domWaits i = false → exec (.debugDomainAccess true i e v) s = .next ((s.domWrite .jtag DBG i e
    v).2.answer DBG (objKey 0 i 0) (s.domWrite .jtag DBG i e v).1)) ∧
  (∀ (s : State) (i e v : Nat), s.domWaits i = false → exec (.debugDomainAccess false i e v) s = .next ((s.domRead DBG i e).2.2.answer DBG
    (objKey 0 i 0) (s.domRead DBG i e).1 (s.domRead DBG i e).2.1)) ∧
  (∀ (s : State), s.expireDebug.get Obj.DEBUG_DBG_LEVEL = 2 → s.expireDebug.coreOff = false → exec (.coreHalt) s = .next
    ((s.expireDebug.withSec { s.expireDebug.sec with halted := true }).answer DBG 0 .ok)) ∧
  (∀ (s : State), s.expireDebug.get Obj.DEBUG_DBG_LEVEL ≠ 2 → exec (.coreHalt) s = .next (s.expireDebug.answer DBG 0 .denied)) ∧
  (∀ (s : State), s.expireDebug.get Obj.DEBUG_DBG_LEVEL = 2 → s.expireDebug.coreOff = false → s.expireDebug.sec.halted = true → exec
    (.coreStep) s = .next (s.expireDebug.answer DBG 0 .ok)) ∧
  (∀ (s : State) (d : Fin 2) (n : Fin 8) (c : Nat), s.expireDebug.get Obj.DEBUG_DBG_LEVEL = 2 → s.expireDebug.coreOff = false → (c = if
    d.val = 0 then 128 + n.val else 136 + n.val) → ((List.range (partsOf c)).all (fun i => (s.expireDebug.part c i).inRun) = true) →
    exec (.scanDump d n) s = .next (((s.expireDebug.fresh.2.emit (.debug [s.expireDebug.fresh.1])).resetSector d n).answer DBG 0 .ok)) ∧
  (∀ (s : State), s.expireDebug.get Obj.DEBUG_DBG_LEVEL = 2 → s.expireDebug.pw.island = false → s.expireDebug.debugLevel = 2 → exec
    (.extest 2) s = .next ((s.expireDebug.withSec { s.expireDebug.sec with extest := true }).answer DBG 0 .ok)) ∧
  (∀ (s : State), s.expireDebug.get Obj.DEBUG_DBG_LEVEL = 2 → s.expireDebug.pw.island = false → s.expireDebug.debugLevel = 2 → exec
    (.extest 1) s = .next (((s.expireDebug.withSec { s.expireDebug.sec with extest := false }).emit (.debug s.expireDebug.balls)).answer
    DBG 0 .ok)) ∧
  (∀ (s : State), exec (.extest 0) s = .next ((s.expireDebug.withSec { s.expireDebug.sec with extest := false }).emit (.debug
    [s.expireDebug.get Obj.IDENTITY_IDCODE])))

/-- SECTOR_RESET, UNIT_RESET, DIE_RESET, their ends, SECTOR_FAULT and ALARM_PENDING: Accepted writes outside ISLAND: SECTOR_RESET of a
sector that exists and is not an FS sector in OFF resets it, of an FS sector in OFF does nothing and is OK; UNIT_RESET of a unit of a sector
resets it as resetUnit says; DIE_RESET 0 and 1 send a RESET_NOTICE and reset the F die or the T die. With the core on and no thermal stop:
SECTOR_RESET_DONE of a sector in reset whose die is not, and DIE_RESET_DONE of a die in reset, end the reset, with the parts of the sector,
or of every sector of the die, moved to RUN (movePart), idle from now and shown. SECTOR_FAULT raises E-3212 of an F or E-4244 of a T sector,
adds its instant to those of the last 600 s and resets the sector; the third of a sector in them also raises the fatal E-3312 or E-4344
before the reset. ALARM_PENDING clears the bits written 1 and is answered OK; at the end of the cycle ALARM_N, low with no bit left, rises,
and otherwise stays. Rests on (parts of) R530, R533, R546, R557, R558, R560. Where these rules leave the point open it states the model's
choice: log entries 107, 108. -/
def Obligations.SectorsAndDiesAreReset : Prop :=
  (∀ (s : State) (m v : Nat), s.Accepts m Obj.BOOT_SECTOR_RESET v → s.pw.island = false → Nat.land v 0x78 = 0 → v < 256 → ¬ (v < 128 ∧
    s.sectorOff (v % 8) = true) → exec (.sectorReset m v) s = .next (State.finish (pathOf m) m Obj.BOOT_SECTOR_RESET (.ok, s.resetSector
    (v / 128) (v % 8)))) ∧
  (∀ (s : State) (m v : Nat), s.Accepts m Obj.BOOT_SECTOR_RESET v → s.pw.island = false → Nat.land v 0x78 = 0 → v < 128 → s.sectorOff (v %
    8) = true → exec (.sectorReset m v) s = .next (State.finish (pathOf m) m Obj.BOOT_SECTOR_RESET (.ok, s))) ∧
  (∀ (s : State) (m v : Nat), s.Accepts m Obj.BOOT_UNIT_RESET v → s.pw.island = false → Fld.UID_SECTOR.get v < 8 → exec (.unitReset m v) s
    = .next (State.finish (pathOf m) m Obj.BOOT_UNIT_RESET (.ok, s.resetUnit v))) ∧
  (∀ (s : State) (m : Nat), s.Accepts m Obj.BOOT_DIE_RESET 0 → s.pw.island = false → exec (.dieResetF m) s = .next (State.finish (pathOf m)
    m Obj.BOOT_DIE_RESET (.ok, (s.resetNotice 2).resetF))) ∧
  (∀ (s : State) (m : Nat), s.Accepts m Obj.BOOT_DIE_RESET 1 → s.pw.island = false → exec (.dieResetT m) s = .next (State.finish (pathOf m)
    m Obj.BOOT_DIE_RESET (.ok, (s.resetNotice 3).resetT))) ∧
  (∀ (s : State) (d : Fin 2) (n : Fin 8) (c : Nat), s.CoreOn → s.boot.resets.contains (sectorKey d n) = true → s.boot.resets.contains (32 +
    d.val) = false → s.on Obj.THERMAL_STOP_ACTIVE = false → (c = if d.val = 0 then 128 + n.val else 136 + n.val) → exec
    (.sectorResetDone d n) s = .next ((forEach (List.range (partsOf c)) (s.withBoot { s.boot with resets := s.boot.resets.filter (· != sectorKey d n) })
    fun s i => s.movePart c i { idleSince := s.time.now }).showPower c)) ∧
  (∀ (s : State) (d : Fin 2), s.CoreOn → s.boot.resets.contains (32 + d.val) = true → s.on Obj.THERMAL_STOP_ACTIVE = false → exec
    (.dieResetDone d) s = .next (forEach (List.range 8) (s.withBoot { s.boot with resets := s.boot.resets.filter fun k => !Nat.beq k (32 + d) && !Nat.beq (k / 16) d })
    fun s n => (forEach (List.range (partsOf (if d.val = 0 then 128 + n else 136 + n))) s fun s i => s.movePart (if d.val = 0 then 128 +
    n else 136 + n) i { idleSince := s.time.now }).showPower (if d.val = 0 then 128 + n else 136 + n))) ∧
  (∀ (s : State) (d : Fin 2) (n : Fin 8), s.CoreOn → ((((sectorKey d n, (s.raise (if d.val = 0 then 0x3212 else 0x4244) (sectorId d n)
    0).time.now) :: (s.raise (if d.val = 0 then 0x3212 else 0x4244) (sectorId d n) 0).ev.autoResets.filter fun r => Nat.blt (s.raise (if
    d.val = 0 then 0x3212 else 0x4244) (sectorId d n) 0).time.now (r.2 + 600 * nsPerS)).filter fun r => Nat.beq r.1 (sectorKey d
    n)).length < 3) → exec (.sectorFault d n) s = .next (((s.raise (if d.val = 0 then 0x3212 else 0x4244) (sectorId d n) 0).withEv { (s.raise (if d.val = 0 then 0x3212 else 0x4244) (sectorId d n) 0).ev with autoResets := ((sectorKey d n, (s.raise (if d.val = 0 then 0x3212 else 0x4244) (sectorId d n) 0).time.now) :: (s.raise (if d.val = 0 then 0x3212 else 0x4244) (sectorId d n) 0).ev.autoResets.filter fun r => Nat.blt (s.raise (if d.val = 0 then 0x3212 else 0x4244) (sectorId d n) 0).time.now (r.2 + 600 * nsPerS)) }).resetSector
    d n)) ∧
  (∀ (s : State) (d : Fin 2) (n : Fin 8), s.CoreOn → (3 ≤ (((sectorKey d n, (s.raise (if d.val = 0 then 0x3212 else 0x4244) (sectorId d n)
    0).time.now) :: (s.raise (if d.val = 0 then 0x3212 else 0x4244) (sectorId d n) 0).ev.autoResets.filter fun r => Nat.blt (s.raise (if
    d.val = 0 then 0x3212 else 0x4244) (sectorId d n) 0).time.now (r.2 + 600 * nsPerS)).filter fun r => Nat.beq r.1 (sectorKey d
    n)).length) → exec (.sectorFault d n) s = .next ((((s.raise (if d.val = 0 then 0x3212 else 0x4244) (sectorId d n) 0).withEv { (s.raise (if d.val = 0 then 0x3212 else 0x4244) (sectorId d n) 0).ev with autoResets := ((sectorKey d n, (s.raise (if d.val = 0 then 0x3212 else 0x4244) (sectorId d n) 0).time.now) :: (s.raise (if d.val = 0 then 0x3212 else 0x4244) (sectorId d n) 0).ev.autoResets.filter fun r => Nat.blt (s.raise (if d.val = 0 then 0x3212 else 0x4244) (sectorId d n) 0).time.now (r.2 + 600 * nsPerS)) }).raise
    (if d.val = 0 then 0x3312 else 0x4344) (sectorId d n) 0).resetSector d n)) ∧
  (∀ (s : State) (m v : Nat), s.Accepts m Obj.EVENT_CTRL_ALARM_PENDING v → exec (.alarmPendingClear m v) s = .next (State.finish (pathOf m)
    m Obj.EVENT_CTRL_ALARM_PENDING (.ok, s.set Obj.EVENT_CTRL_ALARM_PENDING (s.get Obj.EVENT_CTRL_ALARM_PENDING - Nat.land (s.get
    Obj.EVENT_CTRL_ALARM_PENDING) v)))) ∧
  (∀ (s : State), s.get Obj.EVENT_CTRL_ALARM_PENDING = 0 → s.ev.alarmLow = true → s.sec.extest = false → s.releaseAlarm.ev.alarmLow = false
    ∧ s.releaseAlarm.sent = .pin .alarmN true :: s.sent) ∧
  (∀ (s : State), (s.get Obj.EVENT_CTRL_ALARM_PENDING ≠ 0 ∨ s.ev.alarmLow = false) → s.releaseAlarm = s)

/-- COLD_RESET, PACKAGE_WARM_RESET, WARM_N_RELEASE, WARM_RESET, ISLAND_ENTRY and ISLAND_EXIT: COLD_RESET answers the state that coldReset
gives, in which the queue, the lifecycle fuses and their copy and the serial number stand, no fuses are being blown, and time, packets,
tables, host, power, pair and boot are at their reset values. PACKAGE_WARM_RESET with the core powered loses what the core holds, resets the
bus and holds the core; WARM_N_RELEASE of a held core outside ISLAND starts the boot of cause 1 with BOOT_STAGE 2. An accepted WARM_RESET 1
outside ISLAND sends a RESET_NOTICE and boots with cause 2; that boot loses what the core holds, resets the bus and starts at BOOT_STAGE 2.
ISLAND_ENTRY outside ISLAND loses what the core holds, ends a boot, counts ISLAND_ENTRIES with the instant, shows the failed rails in
LAST_RAIL_FAIL and the good ones of the two always-on rails in RAIL_GOOD and raises E-1110; in ISLAND it changes nothing. ISLAND_EXIT puts
the objects that a warm reset loses to their defaults, ends an update with its slow write UNAVAILABLE, resets the bus, raises E-1010, has
every part in RUN, shows the core rails good and boots with cause 3, the shadow counter to be loaded. Rests on (parts of) R507, R508, R530,
R532, R533, R536, R571. Where these rules leave the point open it states the model's choice: log entries 107, 110, 193, 221. -/
def Obligations.PackageIsReset : Prop :=
  (∀ (s : State), exec (.coldReset) s = .next (s.coldReset)) ∧
  (∀ (s : State), ∃ t, exec (.coldReset) s = .next t ∧ t.pending = s.pending ∧ t.sec.lcFuses = s.sec.lcFuses ∧ t.sec.lcCopy = s.sec.lcCopy
    ∧ t.sec.serial = s.sec.serial ∧ t.sec.fusing = none ∧ t.time = {} ∧ t.net = {} ∧ t.tab = {} ∧ t.host = {} ∧ t.pw = {} ∧ t.pair = {}
    ∧ t.boot = {}) ∧
  (∀ (s : State), s.coreOff = false → exec (.packageWarmReset) s = .next (s.coreLost.cmbReset.withBoot { s.coreLost.cmbReset.boot with held := true, boot := none })) ∧
  (∀ (s : State), s.boot.held = true → s.pw.island = false → exec (.warmNRelease) s = .next (((s.withBoot { s.boot with held := false, boot := some 1, bootAt := s.time.now }).withTime
    { s.time with shadowBefore := s.time.shadow }).set Obj.BOOT_BOOT_STAGE 2)) ∧
  (∀ (s : State) (m v : Nat), s.Accepts m Obj.BOOT_WARM_RESET v → v = 1 → s.pw.island = false → exec (.warmReset m v) s = .next
    (State.finish (pathOf m) m Obj.BOOT_WARM_RESET (.ok, (s.resetNotice 4).warmBoot 2))) ∧
  (∀ (s : State) (c : Nat), s.warmBoot c = (s.coreLost.cmbReset.withBoot { s.coreLost.cmbReset.boot with held := false, boot := some c, bootAt := s.coreLost.cmbReset.time.now }).set
    Obj.BOOT_BOOT_STAGE 2) ∧
  (∀ (s : State) (r : Nat) (w : State), s.pw.island = false → w = ((((s.coreLost false).withPw { (s.coreLost false).pw with island := true }).withBoot
    { (s.coreLost false).boot with boot := none }).bump Obj.POWER_CTRL_ISLAND_ENTRIES).set Obj.POWER_CTRL_LAST_ISLAND (time80
    ((((s.coreLost false).withPw { (s.coreLost false).pw with island := true }).withBoot { (s.coreLost false).boot with boot := none }).bump
    Obj.POWER_CTRL_ISLAND_ENTRIES).timeNow) → exec (.islandEntry r) s = .next (((w.set Obj.SUPPLY_LAST_RAIL_FAIL (2 ^ 19 - 1 - (((w.get
    Obj.SUPPLY_RAIL_GOOD / 2 ^ 17 % 4) - Nat.land (w.get Obj.SUPPLY_RAIL_GOOD / 2 ^ 17 % 4) (r / 2 ^ 17 % 4)) * 2 ^ 17 + (2 ^ 17 - 1 - r
    % 2 ^ 17)))).set Obj.SUPPLY_RAIL_GOOD (((w.get Obj.SUPPLY_RAIL_GOOD / 2 ^ 17 % 4) - Nat.land (w.get Obj.SUPPLY_RAIL_GOOD / 2 ^ 17 %
    4) (r / 2 ^ 17 % 4)) * 2 ^ 17 + (2 ^ 17 - 1 - r % 2 ^ 17))).raise 0x1110 uAON 0)) ∧
  (∀ (s : State) (r : Nat), s.pw.island = true → exec (.islandEntry r) s = .next (s)) ∧
  (∀ (s : State) (w : State), s.pw.island = true → (w = (((((((s.withObjs (Table.keep (fun k => !lostAtWarm true k)
    s.objs)).endUpdate.endSlow Obj.FW_UPDATE_UPD_CTRL .unavailable).cmbReset).raise 0x1010 uAON 0).withPw { ((((s.withObjs (Table.keep (fun k => !lostAtWarm true k) s.objs)).endUpdate.endSlow Obj.FW_UPDATE_UPD_CTRL .unavailable).cmbReset).raise 0x1010 uAON 0).pw with island := false, parts := [] }).withTime
    { ((((s.withObjs (Table.keep (fun k => !lostAtWarm true k) s.objs)).endUpdate.endSlow Obj.FW_UPDATE_UPD_CTRL .unavailable).cmbReset).raise 0x1010 uAON 0).time with reload := true, shadowBefore := ((((s.withObjs (Table.keep (fun k => !lostAtWarm true k) s.objs)).endUpdate.endSlow Obj.FW_UPDATE_UPD_CTRL .unavailable).cmbReset).raise 0x1010 uAON 0).time.shadow }).withBoot
    { ((((s.withObjs (Table.keep (fun k => !lostAtWarm true k) s.objs)).endUpdate.endSlow Obj.FW_UPDATE_UPD_CTRL .unavailable).cmbReset).raise 0x1010 uAON 0).boot with held := false, boot := some 3, bootAt := ((((s.withObjs (Table.keep (fun k => !lostAtWarm true k) s.objs)).endUpdate.endSlow Obj.FW_UPDATE_UPD_CTRL .unavailable).cmbReset).raise 0x1010 uAON 0).time.now }))
    → exec (.islandExit) s = .next ((w.set Obj.SUPPLY_RAIL_GOOD (Nat.lor (w.get Obj.SUPPLY_RAIL_GOOD) (2 ^ 17 - 1))).set
    Obj.BOOT_BOOT_STAGE 2))

/-- BOOT_READY, FW_RESTART, FW_READY, the update commands, FW_ACCEPT and TRIAL_END: With the core on: BOOT_READY, not too hot, starts the
scrubber's pass where none runs and reads the boot record; of a boot with a slot to run it ends READY with BOOT_STAGE 7 and its cause, in
DEPLOYED with DICT_LOCK 1; with no slot in recovery; while too hot it stays at BOOT_STAGE 4. FW_READY of a firmware restart, the boot record
read, with a slot to run ends it with BOOT_STAGE 7 and BOOT_CAUSE as it was, with none in recovery. An accepted FW_RESTART 1 outside ISLAND
restarts the firmware with cause 4. Accepted writes of UPD_CTRL outside ISLAND with no slow write of it running: 1 through the window, of an
update that may start and a legal UPD_SIZE, empties the slot that does not run, sets owner, target and UPD_STATE 1 and runs on as a slow
write; 2 through the window in state 2 sets 3 and runs on; 3 by the owner or FW sets 0 and ends the slow write BUSY. With the core on:
ERASE_DONE in state 1 sets 2 and ends the write OK; COMMIT_CHECK_DONE in state 3 of an image that passes makes the slot bootable, newest and
not accepted, sets state 4 and result 0, raises E-7003 and ends OK; of one that fails sets state 5 and the result, raises E-7104 and ends
INVALID, with the first missing offset for result 1. FW_ACCEPT 1 outside ISLAND before the end of a trial accepts the image; with no trial
it is BUSY and changes only the access status. TRIAL_END when its time has come restarts the firmware with cause 5, and before it changes
nothing. Rests on (parts of) R376, R533, R535 to R537, R539 to R541, R543. Where these rules leave the point open it states the model's
choice: log entries 33, 109, 112, 113, 154, 219, 231. -/
def Obligations.DeviceBootsAndUpdates : Prop :=
  (∀ (s : State) (c : Nat) (b : Bool) (w : State), s.Canonical → s.CoreOn → s.boot.boot = some c → s.tooHot = false → State.chooseSlot 2
    s.scrubBegin.readRecord = (some b, w) → ∃ t, exec (.bootReady) s = .next t ∧ t.boot.ready = true ∧ t.boot.boot = none ∧ t.get
    Obj.BOOT_BOOT_STAGE = 7 ∧ t.get Obj.BOOT_BOOT_CAUSE = c ∧ (s.sec.lc = lcDEPLOYED → t.get Obj.LOCK_DICT_LOCK = 1)) ∧
  (∀ (s : State) (c : Nat) (w : State), s.CoreOn → s.boot.boot = some c → s.tooHot = false → State.chooseSlot 2 s.scrubBegin.readRecord =
    (none, w) → exec (.bootReady) s = .next (w.recover)) ∧
  (∀ (s : State) (c : Nat), s.CoreOn → s.boot.boot = some c → s.tooHot = true → exec (.bootReady) s = .next (s.set Obj.BOOT_BOOT_STAGE 4)) ∧
  (∀ (s : State) (b : Bool) (w : State), s.Canonical → s.CoreOn → s.boot.restart = true → State.chooseSlot 2 s.readRecord = (some b, w) → ∃
    t, exec (.fwReady) s = .next t ∧ t.boot.restart = false ∧ t.get Obj.BOOT_BOOT_STAGE = 7 ∧ t.get Obj.BOOT_BOOT_CAUSE = s.get
    Obj.BOOT_BOOT_CAUSE) ∧
  (∀ (s : State) (w : State), s.CoreOn → s.boot.restart = true → State.chooseSlot 2 s.readRecord = (none, w) → exec (.fwReady) s = .next
    (w.recover)) ∧
  (∀ (s : State) (m v : Nat), s.Accepts m Obj.BOOT_FW_RESTART v → v = 1 → s.pw.island = false → exec (.fwRestart m v) s = .next
    (State.finish (pathOf m) m Obj.BOOT_FW_RESTART (.ok, s.restartFirmware 4))) ∧
  (∀ (s : State) (m : Nat), s.Accepts m Obj.FW_UPDATE_UPD_CTRL 1 → pathOf m = .window → s.slowRuns m Obj.FW_UPDATE_UPD_CTRL = false →
    s.pw.island = false → s.updateFree = true → 0 < s.get Obj.FW_UPDATE_UPD_SIZE → s.get Obj.FW_UPDATE_UPD_SIZE ≤ 25165824 → s.get
    Obj.FW_UPDATE_UPD_SIZE % 4 = 0 → exec (.updateBegin m) s = .next ((((((((s.setSlot (s.get Obj.BOOT_BOOT_STAGE != 8 && !s.on
    Obj.IDENTITY_FW_SLOT) { s.slot (s.get Obj.BOOT_BOOT_STAGE != 8 && !s.on Obj.IDENTITY_FW_SLOT) with state := 1, image := [] }).set
    Obj.FW_UPDATE_UPD_OWNER m).set Obj.FW_UPDATE_UPD_TARGET (ofBool (s.get Obj.BOOT_BOOT_STAGE != 8 && !s.on Obj.IDENTITY_FW_SLOT))).set
    Obj.FW_UPDATE_UPD_STATE 1).set Obj.FW_UPDATE_UPD_RECEIVED 0).set Obj.FW_UPDATE_UPD_RESULT 0).slowStart ⟨m, Obj.FW_UPDATE_UPD_CTRL,
    .window⟩).answer m Obj.FW_UPDATE_UPD_CTRL .ok)) ∧
  (∀ (s : State), s.CoreOn → s.get Obj.FW_UPDATE_UPD_STATE = 1 → exec (.eraseDone) s = .next ((s.set Obj.FW_UPDATE_UPD_STATE 2).endSlow
    Obj.FW_UPDATE_UPD_CTRL .ok)) ∧
  (∀ (s : State) (m : Nat), s.Accepts m Obj.FW_UPDATE_UPD_CTRL 2 → pathOf m = .window → s.slowRuns m Obj.FW_UPDATE_UPD_CTRL = false →
    s.pw.island = false → s.get Obj.FW_UPDATE_UPD_STATE = 2 → exec (.updateCommit m) s = .next (((s.set Obj.FW_UPDATE_UPD_STATE
    3).slowStart ⟨m, Obj.FW_UPDATE_UPD_CTRL, .window⟩).answer m Obj.FW_UPDATE_UPD_CTRL .ok)) ∧
  (∀ (s : State), s.CoreOn → s.get Obj.FW_UPDATE_UPD_STATE = 3 → (s.commitCheck (s.slot s.updSlot)).1 = 0 → exec (.commitCheckDone) s =
    .next (((((s.setSlot s.updSlot { s.slot s.updSlot with state := 2, svn := ((s.slot s.updSlot).header true).svn % 256, version := ((s.slot s.updSlot).header true).version % 2 ^ 32, seq := max s.flash.slotA.seq s.flash.slotB.seq + 1, accepted := false }).set
    Obj.FW_UPDATE_UPD_STATE 4).set Obj.FW_UPDATE_UPD_RESULT 0).raise 0x7003 uMGMT 0).endSlow Obj.FW_UPDATE_UPD_CTRL .ok)) ∧
  (∀ (s : State) (e x : Nat), s.CoreOn → s.get Obj.FW_UPDATE_UPD_STATE = 3 → s.commitCheck (s.slot s.updSlot) = (e, x) → e ≠ 0 → exec
    (.commitCheckDone) s = .next ((((s.set Obj.FW_UPDATE_UPD_STATE 5).set Obj.FW_UPDATE_UPD_RESULT e).raise 0x7104 uMGMT (packArg [(16,
    e)])).endSlow Obj.FW_UPDATE_UPD_CTRL .invalid (if e = 1 then some x else none))) ∧
  (∀ (s : State) (m : Nat), s.Accepts m Obj.FW_UPDATE_UPD_CTRL 3 → s.pw.island = false → s.slowRuns m Obj.FW_UPDATE_UPD_CTRL = false → (m =
    s.get Obj.FW_UPDATE_UPD_OWNER ∨ m = FW) → exec (.updateAbort m) s = .next (State.finish (pathOf m) m Obj.FW_UPDATE_UPD_CTRL (.ok,
    (s.set Obj.FW_UPDATE_UPD_STATE 0).endSlow Obj.FW_UPDATE_UPD_CTRL .busy))) ∧
  (∀ (s : State) (a : Nat) (m v : Nat), s.Accepts m Obj.BOOT_FW_ACCEPT v → v = 1 → s.pw.island = false → s.boot.trialEnd = some a →
    s.time.now < a → s.inTrial = true → exec (.fwAccept m v) s = .next (State.finish (pathOf m) m Obj.BOOT_FW_ACCEPT (.ok, s.accept))) ∧
  (∀ (s : State) (m v : Nat), s.Canonical → s.Accepts m Obj.BOOT_FW_ACCEPT v → v = 1 → s.pw.island = false → s.boot.trialEnd = none →
    s.sec.fusing = none → ∃ t, exec (.fwAccept m v) s = .next t ∧ t.Answered m Obj.BOOT_FW_ACCEPT .busy ∧ Frame (keysOf
    [Obj.ACCESS_STATUS_LAST_STATUS m, Obj.ACCESS_STATUS_LAST_OBJECT m, Obj.ACCESS_STATUS_REFUSED m]) noKey [.sent] s t) ∧
  (∀ (s : State) (a : Nat), s.CoreOn → s.boot.trialEnd = some a → exec (.trialEnd) s = .next (if a ≤ s.time.now then s.restartFirmware 5
    else s))

/-- PING, PAIR_READY, PANTRY_STORE, RESTART and ACCEPT: With the firmware running, of a POSTED message on a valid channel whose receiver is
FW, its second byte 0: PING acknowledges 0; PAIR_READY acknowledges 0 or 0x10 as the partner replies with the link up, and 0x11 where there
is no reply; PANTRY_STORE with no store running and one that may start starts it, to be acknowledged at its end; RESTART of a channel of
HOST or SUPV acknowledges 0 and restarts the firmware with cause 4, of another sender 4; ACCEPT outside ISLAND accepts the image of a
running trial with 0 and acknowledges 4 with none. An unknown command is acknowledged with 1, and a PING whose second byte is not 0 with 2.
Rests on (parts of) R383, R544. Where these rules leave the point open it states the model's choice: log entry 112. -/
def Obligations.FirmwareServesItsMailboxes : Prop :=
  (∀ (s : State) (c : Fin 64), s.firmwareRuns = true → Fld.BND_VALID.get (s.binding c) = 1 → Fld.BND_RECEIVER.get (s.binding c) = FW →
    s.get (Obj.MAILBOX_STATE c) = 1 → byteAt (s.mailBytes c) 0 = 1 → byteAt (s.mailBytes c) 1 = 0 → exec (.ping c) s = .next
    (s.firmwareAck c 0)) ∧
  (∀ (s : State) (c : Fin 64), s.firmwareRuns = true → Fld.BND_VALID.get (s.binding c) = 1 → Fld.BND_RECEIVER.get (s.binding c) = FW →
    s.get (Obj.MAILBOX_STATE c) = 1 → (byteAt (s.mailBytes c) 0 = 0 ∨ 5 < byteAt (s.mailBytes c) 0) → exec (.ping c) s = .next
    (s.firmwareAck c 1)) ∧
  (∀ (s : State) (c : Fin 64), s.firmwareRuns = true → Fld.BND_VALID.get (s.binding c) = 1 → Fld.BND_RECEIVER.get (s.binding c) = FW →
    s.get (Obj.MAILBOX_STATE c) = 1 → byteAt (s.mailBytes c) 0 = 1 → byteAt (s.mailBytes c) 1 ≠ 0 → exec (.ping c) s = .next
    (s.firmwareAck c 2)) ∧
  (∀ (s : State) (c : Fin 64) (r : Bool), s.firmwareRuns = true → Fld.BND_VALID.get (s.binding c) = 1 → Fld.BND_RECEIVER.get (s.binding c)
    = FW → s.get (Obj.MAILBOX_STATE c) = 1 → byteAt (s.mailBytes c) 0 = 2 → byteAt (s.mailBytes c) 1 = 0 → s.pair.linkUp = true → exec
    (.pairReady c (some r)) s = .next (s.firmwareAck c (if r then 0 else 0x10))) ∧
  (∀ (s : State) (c : Fin 64), s.firmwareRuns = true → Fld.BND_VALID.get (s.binding c) = 1 → Fld.BND_RECEIVER.get (s.binding c) = FW →
    s.get (Obj.MAILBOX_STATE c) = 1 → byteAt (s.mailBytes c) 0 = 2 → byteAt (s.mailBytes c) 1 = 0 → exec (.pairReady c none) s = .next
    (s.firmwareAck c 0x11)) ∧
  (∀ (s : State) (c : Fin 64), s.firmwareRuns = true → Fld.BND_VALID.get (s.binding c) = 1 → Fld.BND_RECEIVER.get (s.binding c) = FW →
    s.get (Obj.MAILBOX_STATE c) = 1 → byteAt (s.mailBytes c) 0 = 3 → byteAt (s.mailBytes c) 1 = 0 → s.boot.pantry = none →
    (s.startPantry s.snapshotRecords (some c.val)).1 = .ok → exec (.pantryStore c) s = .next ((s.startPantry s.snapshotRecords (some
    c.val)).2)) ∧
  (∀ (s : State) (c : Fin 64), s.firmwareRuns = true → Fld.BND_VALID.get (s.binding c) = 1 → Fld.BND_RECEIVER.get (s.binding c) = FW →
    s.get (Obj.MAILBOX_STATE c) = 1 → byteAt (s.mailBytes c) 0 = 4 → byteAt (s.mailBytes c) 1 = 0 → (s.channelSender c = HOST ∨
    s.channelSender c = SUPV) → exec (.restart c) s = .next ((s.firmwareAck c 0).restartFirmware 4)) ∧
  (∀ (s : State) (c : Fin 64), s.firmwareRuns = true → Fld.BND_VALID.get (s.binding c) = 1 → Fld.BND_RECEIVER.get (s.binding c) = FW →
    s.get (Obj.MAILBOX_STATE c) = 1 → byteAt (s.mailBytes c) 0 = 4 → byteAt (s.mailBytes c) 1 = 0 → s.channelSender c ≠ HOST →
    s.channelSender c ≠ SUPV → exec (.restart c) s = .next (s.firmwareAck c 4)) ∧
  (∀ (s : State) (c : Fin 64) (a : Nat), s.firmwareRuns = true → Fld.BND_VALID.get (s.binding c) = 1 → Fld.BND_RECEIVER.get (s.binding c) =
    FW → s.get (Obj.MAILBOX_STATE c) = 1 → byteAt (s.mailBytes c) 0 = 5 → byteAt (s.mailBytes c) 1 = 0 → s.pw.island = false →
    s.boot.trialEnd = some a → s.time.now < a → s.inTrial = true → exec (.accept c) s = .next (s.accept.firmwareAck c 0)) ∧
  (∀ (s : State) (c : Fin 64), s.firmwareRuns = true → Fld.BND_VALID.get (s.binding c) = 1 → Fld.BND_RECEIVER.get (s.binding c) = FW →
    s.get (Obj.MAILBOX_STATE c) = 1 → byteAt (s.mailBytes c) 0 = 5 → byteAt (s.mailBytes c) 1 = 0 → s.boot.trialEnd = none → s.pw.island
    = false → exec (.accept c) s = .next (s.firmwareAck c 4))

/-- The always-on supplies, the reference clocks and PLLs, temperature sampling and throttling: AON_SWITCH of a VAON_A below 780 mV with
VAON_B at 800 or more, on source A, switches, counts and raises E-1112; AON_RETURN of a VAON_A of 800 to 900, on source B, returns with
E-1003; VAON_B_LOW of one below 800 on source A not yet reported raises E-1114; AON_BROWNOUT is a cold reset. REF_LOST of a present
reference clears its status bit and counts; 0 also loses the core locks with E-1321, 1, 2 and 4 raise E-1115, 4 also runs on the internal
oscillator, 3 with the core powered takes the PCIe link down. REF_RESTORED of an absent 0 sets its bit and the core locks, of 1 to 3 its bit
and the locks of the domains that it feeds. PLL_UNLOCK of a held lock whose reference is present clears it; in a domain of reference 0 it is
fatal, E-1321. With the core on, THERMAL_SAMPLE stores the sensors, stack and shown temperatures; with no thermal stop active: no sensor at
110 degrees C and no stack at 105, it notes none hot; no sensor at 110 and a stack at 105 or more, that stack stops the device; a sensor at
110 that was so the time before does. THROTTLE_EVAL with the core on is due at the end of its instant: then, with no thermal stop active,
THROTTLE_MS rises by 1 where a level is not 0, and both dies are judged; with one active none is. An F die at a level of 1 to 7, at or above
THROTTLE_C of the cycle's start, goes up a level and notes the instant. Rests on (parts of) R572, R573, R577, R578, R580 to R582. Where
these rules leave the point open it states the model's choice: log entries 34, 39, 116, 117. -/
def Obligations.SuppliesClocksAndHeat : Prop :=
  (∀ (s : State) (a b : Nat), ((s.setVaon false a).setVaon true b).get Obj.SUPPLY_AON_SOURCE = 0 → a < 780 → 800 ≤ b → exec (.aonSwitch a
    b) s = .next (((((s.setVaon false a).setVaon true b).set Obj.SUPPLY_AON_SOURCE 1).bump Obj.SUPPLY_AON_SWITCHES).raise 0x1112 uAON 0)) ∧
  (∀ (s : State) (a : Nat), (s.setVaon false a).get Obj.SUPPLY_AON_SOURCE = 1 → 800 ≤ a → a ≤ 900 → exec (.aonReturn a) s = .next
    (((s.setVaon false a).set Obj.SUPPLY_AON_SOURCE 0).raise 0x1003 uAON 0)) ∧
  (∀ (s : State) (b : Nat), (s.setVaon true b).get Obj.SUPPLY_AON_SOURCE = 0 → s.thermal.lowB = false → b < 800 → exec (.vaonBLow b) s =
    .next (((s.setVaon true b).withThermal { (s.setVaon true b).thermal with lowB := true }).raise 0x1114 uAON 0)) ∧
  (∀ (s : State), exec (.aonBrownout) s = .next (s.coldReset)) ∧
  (∀ (s : State), s.refPresent 0 = true → exec (.refLost 0) s = .next ((((s.set Obj.CLOCKS_REF_STATUS (setBits (s.get
    Obj.CLOCKS_REF_STATUS) 0 1 0)).bump Obj.CLOCKS_REF_LOSSES).setLocks coreDomains false).raise 0x1321 uAON 0)) ∧
  (∀ (s : State) (r : Fin 5), s.refPresent r = true → (r.val = 1 ∨ r.val = 2) → exec (.refLost r) s = .next (((s.set Obj.CLOCKS_REF_STATUS
    (setBits (s.get Obj.CLOCKS_REF_STATUS) r 1 0)).bump Obj.CLOCKS_REF_LOSSES).raise 0x1115 uAON 0)) ∧
  (∀ (s : State), s.refPresent 4 = true → exec (.refLost 4) s = .next ((((s.set Obj.CLOCKS_REF_STATUS (setBits (s.get
    Obj.CLOCKS_REF_STATUS) 4 1 0)).bump Obj.CLOCKS_REF_LOSSES).set Obj.CLOCKS_AON_OSC 1).raise 0x1115 uAON 0)) ∧
  (∀ (s : State), s.refPresent 3 = true → ((s.set Obj.CLOCKS_REF_STATUS (setBits (s.get Obj.CLOCKS_REF_STATUS) 3 1 0)).bump
    Obj.CLOCKS_REF_LOSSES).coreOff = false → exec (.refLost 3) s = .next (((s.set Obj.CLOCKS_REF_STATUS (setBits (s.get
    Obj.CLOCKS_REF_STATUS) 3 1 0)).bump Obj.CLOCKS_REF_LOSSES).pcieDown)) ∧
  (∀ (s : State), s.refPresent 0 = false → exec (.refRestored 0) s = .next ((s.set Obj.CLOCKS_REF_STATUS (setBits (s.get
    Obj.CLOCKS_REF_STATUS) 0 1 1)).setLocks coreDomains true)) ∧
  (∀ (s : State) (r : Fin 5), s.refPresent r = false → r.val ≠ 0 → r.val ≠ 4 → exec (.refRestored r) s = .next ((s.set
    Obj.CLOCKS_REF_STATUS (setBits (s.get Obj.CLOCKS_REF_STATUS) r 1 1)).setLocks ((List.range 18).filter fun d => domainRef d = some
    r.val) true)) ∧
  (∀ (s : State) (d : Fin 18), domainRef d = some 0 → s.refPresent 0 = true → (s.get Obj.CLOCKS_PLL_LOCK).testBit d = true → exec
    (.pllUnlock d) s = .next ((s.setLocks [d.val] false).raise 0x1321 uAON 0)) ∧
  (∀ (s : State) (d : Fin 18) (r : Nat), domainRef d = some r → r ≠ 0 → s.refPresent r = true → (s.get Obj.CLOCKS_PLL_LOCK).testBit d =
    true → exec (.pllUnlock d) s = .next (s.setLocks [d.val] false)) ∧
  (∀ (s : State) (x y : List Int) (w : State), s.CoreOn → (w = (((forEach ((y.take 4).zip (List.range 4)) (((forEach ((x.take 19).zip
    (List.range 19)) s fun s x => s.set (sensorKey x.2) (unsigned 32 x.1)))) fun s x => s.setStackTemp x.2 x.1).showTemp 0).showTemp 1))
    → ((List.range 19).filter (fun i => decide (110 ≤ w.sensor i)) = []) → w.on Obj.THERMAL_STOP_ACTIVE = false → (∀ k, k < 4 →
    w.stackTemp k < 105) → exec (.thermalSample x y) s = .next (w.withThermal { w.thermal with hot := [] })) ∧
  (∀ (s : State) (x y : List Int) (w : State) (k : Nat), s.CoreOn → (w = (((forEach ((y.take 4).zip (List.range 4)) (((forEach ((x.take
    19).zip (List.range 19)) s fun s x => s.set (sensorKey x.2) (unsigned 32 x.1)))) fun s x => s.setStackTemp x.2 x.1).showTemp
    0).showTemp 1)) → ((List.range 19).filter (fun i => decide (110 ≤ w.sensor i)) = []) → w.on Obj.THERMAL_STOP_ACTIVE = false →
    ((List.range 4).find? (fun k => decide (105 ≤ w.stackTemp k)) = some k) → exec (.thermalSample x y) s = .next ((w.withThermal { w.thermal with hot := [] }).thermalStop
    (uStack k))) ∧
  (∀ (s : State) (x y : List Int) (w : State) (i : Nat), s.CoreOn → (w = (((forEach ((y.take 4).zip (List.range 4)) (((forEach ((x.take
    19).zip (List.range 19)) s fun s x => s.set (sensorKey x.2) (unsigned 32 x.1)))) fun s x => s.setStackTemp x.2 x.1).showTemp
    0).showTemp 1)) → (((List.range 19).filter (fun i => decide (110 ≤ w.sensor i))).find? (fun i => w.thermal.hot.contains i) = some i)
    → w.on Obj.THERMAL_STOP_ACTIVE = false → exec (.thermalSample x y) s = .next ((w.withThermal { w.thermal with hot := (List.range 19).filter (fun i => decide (110 ≤ w.sensor i)) }).thermalStop
    (sensorUnit i))) ∧
  (∀ (s : State), s.CoreOn → exec (.throttleEval) s = .next (s.withThermal { s.thermal with evalDue := true })) ∧
  (∀ (s : State), s.CoreOn → s.thermal.evalDue = true → s.on Obj.THERMAL_STOP_ACTIVE = false → s.get Obj.THERMAL_F_LEVEL = 0 → s.get
    Obj.THERMAL_T_LEVEL = 0 → s.throttleCycle = ((s.withThermal { s.thermal with evalDue := false }).throttle 0).throttle 1) ∧
  (∀ (s : State), s.CoreOn → s.thermal.evalDue = true → s.on Obj.THERMAL_STOP_ACTIVE = false → (s.get Obj.THERMAL_F_LEVEL ≠ 0 ∨ s.get
    Obj.THERMAL_T_LEVEL ≠ 0) → s.throttleCycle = (((s.withThermal { s.thermal with evalDue := false }).bump
    Obj.THERMAL_THROTTLE_MS).throttle 0).throttle 1) ∧
  (∀ (s : State), s.on Obj.THERMAL_STOP_ACTIVE = true → s.throttleCycle = if s.thermal.evalDue then (s.withThermal { s.thermal with evalDue := false })
    else s) ∧
  (∀ (s : State), ((Table.get objDefault s.dict.cycleObjs Obj.THERMAL_THROTTLE_C : Nat) : Int) ≤ signed 32 (s.get Obj.THERMAL_F_TEMP_C) →
    s.get Obj.THERMAL_F_LEVEL < 8 → 0 < s.get Obj.THERMAL_F_LEVEL → s.throttle 0 = (s.set Obj.THERMAL_F_LEVEL (s.get Obj.THERMAL_F_LEVEL
    + 1)).withThermal { s.thermal with changedF := s.time.now })
end

