-- ==== Sys2Proof/Laws/State.lean ====
section
/-! SUPPORT. One lemma per field of the state for each elementary update: what the update leaves alone. -/

namespace Sys2Proof.Machine

variable (s : State)

@[simp] theorem State.set_pending (k v : Nat) : (s.set k v).pending = s.pending := rfl
@[simp] theorem State.set_doms (k v : Nat) : (s.set k v).doms = s.doms := rfl
@[simp] theorem State.set_free (k v : Nat) : (s.set k v).free = s.free := rfl
@[simp] theorem State.set_sent (k v : Nat) : (s.set k v).sent = s.sent := rfl
@[simp] theorem State.set_ev (k v : Nat) : (s.set k v).ev = s.ev := rfl
@[simp] theorem State.set_time (k v : Nat) : (s.set k v).time = s.time := rfl
@[simp] theorem State.set_parse (k v : Nat) : (s.set k v).parse = s.parse := rfl
@[simp] theorem State.set_tab (k v : Nat) : (s.set k v).tab = s.tab := rfl
@[simp] theorem State.set_net (k v : Nat) : (s.set k v).net = s.net := rfl
@[simp] theorem State.set_sched (k v : Nat) : (s.set k v).sched = s.sched := rfl
@[simp] theorem State.set_line (k v : Nat) : (s.set k v).line = s.line := rfl
@[simp] theorem State.set_fab (k v : Nat) : (s.set k v).fab = s.fab := rfl
@[simp] theorem State.set_hbm (k v : Nat) : (s.set k v).hbm = s.hbm := rfl
@[simp] theorem State.set_dict (k v : Nat) : (s.set k v).dict = s.dict := rfl
@[simp] theorem State.set_host (k v : Nat) : (s.set k v).host = s.host := rfl
@[simp] theorem State.set_msix (k v : Nat) : (s.set k v).msix = s.msix := rfl
@[simp] theorem State.set_cqs (k v : Nat) : (s.set k v).cqs = s.cqs := rfl
@[simp] theorem State.set_coica (k v : Nat) : (s.set k v).coica = s.coica := rfl
@[simp] theorem State.set_pair (k v : Nat) : (s.set k v).pair = s.pair := rfl
@[simp] theorem State.set_pw (k v : Nat) : (s.set k v).pw = s.pw := rfl
@[simp] theorem State.set_sec (k v : Nat) : (s.set k v).sec = s.sec := rfl
@[simp] theorem State.set_flash (k v : Nat) : (s.set k v).flash = s.flash := rfl
@[simp] theorem State.set_boot (k v : Nat) : (s.set k v).boot = s.boot := rfl
@[simp] theorem State.set_thermal (k v : Nat) : (s.set k v).thermal = s.thermal := rfl

@[simp] theorem State.bump_pending (k n : Nat) : (s.bump k n).pending = s.pending := rfl
@[simp] theorem State.bump_doms (k n : Nat) : (s.bump k n).doms = s.doms := rfl
@[simp] theorem State.bump_free (k n : Nat) : (s.bump k n).free = s.free := rfl
@[simp] theorem State.bump_sent (k n : Nat) : (s.bump k n).sent = s.sent := rfl
@[simp] theorem State.bump_ev (k n : Nat) : (s.bump k n).ev = s.ev := rfl
@[simp] theorem State.bump_time (k n : Nat) : (s.bump k n).time = s.time := rfl
@[simp] theorem State.bump_parse (k n : Nat) : (s.bump k n).parse = s.parse := rfl
@[simp] theorem State.bump_tab (k n : Nat) : (s.bump k n).tab = s.tab := rfl
@[simp] theorem State.bump_net (k n : Nat) : (s.bump k n).net = s.net := rfl
@[simp] theorem State.bump_sched (k n : Nat) : (s.bump k n).sched = s.sched := rfl
@[simp] theorem State.bump_line (k n : Nat) : (s.bump k n).line = s.line := rfl
@[simp] theorem State.bump_fab (k n : Nat) : (s.bump k n).fab = s.fab := rfl
@[simp] theorem State.bump_hbm (k n : Nat) : (s.bump k n).hbm = s.hbm := rfl
@[simp] theorem State.bump_dict (k n : Nat) : (s.bump k n).dict = s.dict := rfl
@[simp] theorem State.bump_host (k n : Nat) : (s.bump k n).host = s.host := rfl
@[simp] theorem State.bump_msix (k n : Nat) : (s.bump k n).msix = s.msix := rfl
@[simp] theorem State.bump_cqs (k n : Nat) : (s.bump k n).cqs = s.cqs := rfl
@[simp] theorem State.bump_coica (k n : Nat) : (s.bump k n).coica = s.coica := rfl
@[simp] theorem State.bump_pair (k n : Nat) : (s.bump k n).pair = s.pair := rfl
@[simp] theorem State.bump_pw (k n : Nat) : (s.bump k n).pw = s.pw := rfl
@[simp] theorem State.bump_sec (k n : Nat) : (s.bump k n).sec = s.sec := rfl
@[simp] theorem State.bump_flash (k n : Nat) : (s.bump k n).flash = s.flash := rfl
@[simp] theorem State.bump_boot (k n : Nat) : (s.bump k n).boot = s.boot := rfl
@[simp] theorem State.bump_thermal (k n : Nat) : (s.bump k n).thermal = s.thermal := rfl

@[simp] theorem State.bumpW_pending (w k n : Nat) : (s.bumpW w k n).pending = s.pending := rfl
@[simp] theorem State.bumpW_doms (w k n : Nat) : (s.bumpW w k n).doms = s.doms := rfl
@[simp] theorem State.bumpW_free (w k n : Nat) : (s.bumpW w k n).free = s.free := rfl
@[simp] theorem State.bumpW_sent (w k n : Nat) : (s.bumpW w k n).sent = s.sent := rfl
@[simp] theorem State.bumpW_ev (w k n : Nat) : (s.bumpW w k n).ev = s.ev := rfl
@[simp] theorem State.bumpW_time (w k n : Nat) : (s.bumpW w k n).time = s.time := rfl
@[simp] theorem State.bumpW_parse (w k n : Nat) : (s.bumpW w k n).parse = s.parse := rfl
@[simp] theorem State.bumpW_tab (w k n : Nat) : (s.bumpW w k n).tab = s.tab := rfl
@[simp] theorem State.bumpW_net (w k n : Nat) : (s.bumpW w k n).net = s.net := rfl
@[simp] theorem State.bumpW_sched (w k n : Nat) : (s.bumpW w k n).sched = s.sched := rfl
@[simp] theorem State.bumpW_line (w k n : Nat) : (s.bumpW w k n).line = s.line := rfl
@[simp] theorem State.bumpW_fab (w k n : Nat) : (s.bumpW w k n).fab = s.fab := rfl
@[simp] theorem State.bumpW_hbm (w k n : Nat) : (s.bumpW w k n).hbm = s.hbm := rfl
@[simp] theorem State.bumpW_dict (w k n : Nat) : (s.bumpW w k n).dict = s.dict := rfl
@[simp] theorem State.bumpW_host (w k n : Nat) : (s.bumpW w k n).host = s.host := rfl
@[simp] theorem State.bumpW_msix (w k n : Nat) : (s.bumpW w k n).msix = s.msix := rfl
@[simp] theorem State.bumpW_cqs (w k n : Nat) : (s.bumpW w k n).cqs = s.cqs := rfl
@[simp] theorem State.bumpW_coica (w k n : Nat) : (s.bumpW w k n).coica = s.coica := rfl
@[simp] theorem State.bumpW_pair (w k n : Nat) : (s.bumpW w k n).pair = s.pair := rfl
@[simp] theorem State.bumpW_pw (w k n : Nat) : (s.bumpW w k n).pw = s.pw := rfl
@[simp] theorem State.bumpW_sec (w k n : Nat) : (s.bumpW w k n).sec = s.sec := rfl
@[simp] theorem State.bumpW_flash (w k n : Nat) : (s.bumpW w k n).flash = s.flash := rfl
@[simp] theorem State.bumpW_boot (w k n : Nat) : (s.bumpW w k n).boot = s.boot := rfl
@[simp] theorem State.bumpW_thermal (w k n : Nat) : (s.bumpW w k n).thermal = s.thermal := rfl

@[simp] theorem State.setDom_pending (d e v : Nat) : (s.setDom d e v).pending = s.pending := rfl
@[simp] theorem State.setDom_objs (d e v : Nat) : (s.setDom d e v).objs = s.objs := rfl
@[simp] theorem State.setDom_free (d e v : Nat) : (s.setDom d e v).free = s.free := rfl
@[simp] theorem State.setDom_sent (d e v : Nat) : (s.setDom d e v).sent = s.sent := rfl
@[simp] theorem State.setDom_ev (d e v : Nat) : (s.setDom d e v).ev = s.ev := rfl
@[simp] theorem State.setDom_time (d e v : Nat) : (s.setDom d e v).time = s.time := rfl
@[simp] theorem State.setDom_parse (d e v : Nat) : (s.setDom d e v).parse = s.parse := rfl
@[simp] theorem State.setDom_tab (d e v : Nat) : (s.setDom d e v).tab = s.tab := rfl
@[simp] theorem State.setDom_net (d e v : Nat) : (s.setDom d e v).net = s.net := rfl
@[simp] theorem State.setDom_sched (d e v : Nat) : (s.setDom d e v).sched = s.sched := rfl
@[simp] theorem State.setDom_line (d e v : Nat) : (s.setDom d e v).line = s.line := rfl
@[simp] theorem State.setDom_fab (d e v : Nat) : (s.setDom d e v).fab = s.fab := rfl
@[simp] theorem State.setDom_hbm (d e v : Nat) : (s.setDom d e v).hbm = s.hbm := rfl
@[simp] theorem State.setDom_dict (d e v : Nat) : (s.setDom d e v).dict = s.dict := rfl
@[simp] theorem State.setDom_host (d e v : Nat) : (s.setDom d e v).host = s.host := rfl
@[simp] theorem State.setDom_msix (d e v : Nat) : (s.setDom d e v).msix = s.msix := rfl
@[simp] theorem State.setDom_cqs (d e v : Nat) : (s.setDom d e v).cqs = s.cqs := rfl
@[simp] theorem State.setDom_coica (d e v : Nat) : (s.setDom d e v).coica = s.coica := rfl
@[simp] theorem State.setDom_pair (d e v : Nat) : (s.setDom d e v).pair = s.pair := rfl
@[simp] theorem State.setDom_pw (d e v : Nat) : (s.setDom d e v).pw = s.pw := rfl
@[simp] theorem State.setDom_sec (d e v : Nat) : (s.setDom d e v).sec = s.sec := rfl
@[simp] theorem State.setDom_flash (d e v : Nat) : (s.setDom d e v).flash = s.flash := rfl
@[simp] theorem State.setDom_boot (d e v : Nat) : (s.setDom d e v).boot = s.boot := rfl
@[simp] theorem State.setDom_thermal (d e v : Nat) : (s.setDom d e v).thermal = s.thermal := rfl

@[simp] theorem State.setField_pending (d e : Nat) (f : Field) (v : Nat) : (s.setField d e f v).pending = s.pending := rfl
@[simp] theorem State.setField_objs (d e : Nat) (f : Field) (v : Nat) : (s.setField d e f v).objs = s.objs := rfl
@[simp] theorem State.setField_free (d e : Nat) (f : Field) (v : Nat) : (s.setField d e f v).free = s.free := rfl
@[simp] theorem State.setField_sent (d e : Nat) (f : Field) (v : Nat) : (s.setField d e f v).sent = s.sent := rfl
@[simp] theorem State.setField_ev (d e : Nat) (f : Field) (v : Nat) : (s.setField d e f v).ev = s.ev := rfl
@[simp] theorem State.setField_time (d e : Nat) (f : Field) (v : Nat) : (s.setField d e f v).time = s.time := rfl
@[simp] theorem State.setField_parse (d e : Nat) (f : Field) (v : Nat) : (s.setField d e f v).parse = s.parse := rfl
@[simp] theorem State.setField_tab (d e : Nat) (f : Field) (v : Nat) : (s.setField d e f v).tab = s.tab := rfl
@[simp] theorem State.setField_net (d e : Nat) (f : Field) (v : Nat) : (s.setField d e f v).net = s.net := rfl
@[simp] theorem State.setField_sched (d e : Nat) (f : Field) (v : Nat) : (s.setField d e f v).sched = s.sched := rfl
@[simp] theorem State.setField_line (d e : Nat) (f : Field) (v : Nat) : (s.setField d e f v).line = s.line := rfl
@[simp] theorem State.setField_fab (d e : Nat) (f : Field) (v : Nat) : (s.setField d e f v).fab = s.fab := rfl
@[simp] theorem State.setField_hbm (d e : Nat) (f : Field) (v : Nat) : (s.setField d e f v).hbm = s.hbm := rfl
@[simp] theorem State.setField_dict (d e : Nat) (f : Field) (v : Nat) : (s.setField d e f v).dict = s.dict := rfl
@[simp] theorem State.setField_host (d e : Nat) (f : Field) (v : Nat) : (s.setField d e f v).host = s.host := rfl
@[simp] theorem State.setField_msix (d e : Nat) (f : Field) (v : Nat) : (s.setField d e f v).msix = s.msix := rfl
@[simp] theorem State.setField_cqs (d e : Nat) (f : Field) (v : Nat) : (s.setField d e f v).cqs = s.cqs := rfl
@[simp] theorem State.setField_coica (d e : Nat) (f : Field) (v : Nat) : (s.setField d e f v).coica = s.coica := rfl
@[simp] theorem State.setField_pair (d e : Nat) (f : Field) (v : Nat) : (s.setField d e f v).pair = s.pair := rfl
@[simp] theorem State.setField_pw (d e : Nat) (f : Field) (v : Nat) : (s.setField d e f v).pw = s.pw := rfl
@[simp] theorem State.setField_sec (d e : Nat) (f : Field) (v : Nat) : (s.setField d e f v).sec = s.sec := rfl
@[simp] theorem State.setField_flash (d e : Nat) (f : Field) (v : Nat) : (s.setField d e f v).flash = s.flash := rfl
@[simp] theorem State.setField_boot (d e : Nat) (f : Field) (v : Nat) : (s.setField d e f v).boot = s.boot := rfl
@[simp] theorem State.setField_thermal (d e : Nat) (f : Field) (v : Nat) : (s.setField d e f v).thermal = s.thermal := rfl

@[simp] theorem State.bumpField_pending (d e : Nat) (f : Field) (n : Nat) : (s.bumpField d e f n).pending = s.pending := rfl
@[simp] theorem State.bumpField_objs (d e : Nat) (f : Field) (n : Nat) : (s.bumpField d e f n).objs = s.objs := rfl
@[simp] theorem State.bumpField_free (d e : Nat) (f : Field) (n : Nat) : (s.bumpField d e f n).free = s.free := rfl
@[simp] theorem State.bumpField_sent (d e : Nat) (f : Field) (n : Nat) : (s.bumpField d e f n).sent = s.sent := rfl
@[simp] theorem State.bumpField_ev (d e : Nat) (f : Field) (n : Nat) : (s.bumpField d e f n).ev = s.ev := rfl
@[simp] theorem State.bumpField_time (d e : Nat) (f : Field) (n : Nat) : (s.bumpField d e f n).time = s.time := rfl
@[simp] theorem State.bumpField_parse (d e : Nat) (f : Field) (n : Nat) : (s.bumpField d e f n).parse = s.parse := rfl
@[simp] theorem State.bumpField_tab (d e : Nat) (f : Field) (n : Nat) : (s.bumpField d e f n).tab = s.tab := rfl
@[simp] theorem State.bumpField_net (d e : Nat) (f : Field) (n : Nat) : (s.bumpField d e f n).net = s.net := rfl
@[simp] theorem State.bumpField_sched (d e : Nat) (f : Field) (n : Nat) : (s.bumpField d e f n).sched = s.sched := rfl
@[simp] theorem State.bumpField_line (d e : Nat) (f : Field) (n : Nat) : (s.bumpField d e f n).line = s.line := rfl
@[simp] theorem State.bumpField_fab (d e : Nat) (f : Field) (n : Nat) : (s.bumpField d e f n).fab = s.fab := rfl
@[simp] theorem State.bumpField_hbm (d e : Nat) (f : Field) (n : Nat) : (s.bumpField d e f n).hbm = s.hbm := rfl
@[simp] theorem State.bumpField_dict (d e : Nat) (f : Field) (n : Nat) : (s.bumpField d e f n).dict = s.dict := rfl
@[simp] theorem State.bumpField_host (d e : Nat) (f : Field) (n : Nat) : (s.bumpField d e f n).host = s.host := rfl
@[simp] theorem State.bumpField_msix (d e : Nat) (f : Field) (n : Nat) : (s.bumpField d e f n).msix = s.msix := rfl
@[simp] theorem State.bumpField_cqs (d e : Nat) (f : Field) (n : Nat) : (s.bumpField d e f n).cqs = s.cqs := rfl
@[simp] theorem State.bumpField_coica (d e : Nat) (f : Field) (n : Nat) : (s.bumpField d e f n).coica = s.coica := rfl
@[simp] theorem State.bumpField_pair (d e : Nat) (f : Field) (n : Nat) : (s.bumpField d e f n).pair = s.pair := rfl
@[simp] theorem State.bumpField_pw (d e : Nat) (f : Field) (n : Nat) : (s.bumpField d e f n).pw = s.pw := rfl
@[simp] theorem State.bumpField_sec (d e : Nat) (f : Field) (n : Nat) : (s.bumpField d e f n).sec = s.sec := rfl
@[simp] theorem State.bumpField_flash (d e : Nat) (f : Field) (n : Nat) : (s.bumpField d e f n).flash = s.flash := rfl
@[simp] theorem State.bumpField_boot (d e : Nat) (f : Field) (n : Nat) : (s.bumpField d e f n).boot = s.boot := rfl
@[simp] theorem State.bumpField_thermal (d e : Nat) (f : Field) (n : Nat) : (s.bumpField d e f n).thermal = s.thermal := rfl

@[simp] theorem State.defaultObjs_pending (p : Nat → Bool) : (s.defaultObjs p).pending = s.pending := rfl
@[simp] theorem State.defaultObjs_doms (p : Nat → Bool) : (s.defaultObjs p).doms = s.doms := rfl
@[simp] theorem State.defaultObjs_free (p : Nat → Bool) : (s.defaultObjs p).free = s.free := rfl
@[simp] theorem State.defaultObjs_sent (p : Nat → Bool) : (s.defaultObjs p).sent = s.sent := rfl
@[simp] theorem State.defaultObjs_ev (p : Nat → Bool) : (s.defaultObjs p).ev = s.ev := rfl
@[simp] theorem State.defaultObjs_time (p : Nat → Bool) : (s.defaultObjs p).time = s.time := rfl
@[simp] theorem State.defaultObjs_parse (p : Nat → Bool) : (s.defaultObjs p).parse = s.parse := rfl
@[simp] theorem State.defaultObjs_tab (p : Nat → Bool) : (s.defaultObjs p).tab = s.tab := rfl
@[simp] theorem State.defaultObjs_net (p : Nat → Bool) : (s.defaultObjs p).net = s.net := rfl
@[simp] theorem State.defaultObjs_sched (p : Nat → Bool) : (s.defaultObjs p).sched = s.sched := rfl
@[simp] theorem State.defaultObjs_line (p : Nat → Bool) : (s.defaultObjs p).line = s.line := rfl
@[simp] theorem State.defaultObjs_fab (p : Nat → Bool) : (s.defaultObjs p).fab = s.fab := rfl
@[simp] theorem State.defaultObjs_hbm (p : Nat → Bool) : (s.defaultObjs p).hbm = s.hbm := rfl
@[simp] theorem State.defaultObjs_dict (p : Nat → Bool) : (s.defaultObjs p).dict = s.dict := rfl
@[simp] theorem State.defaultObjs_host (p : Nat → Bool) : (s.defaultObjs p).host = s.host := rfl
@[simp] theorem State.defaultObjs_msix (p : Nat → Bool) : (s.defaultObjs p).msix = s.msix := rfl
@[simp] theorem State.defaultObjs_cqs (p : Nat → Bool) : (s.defaultObjs p).cqs = s.cqs := rfl
@[simp] theorem State.defaultObjs_coica (p : Nat → Bool) : (s.defaultObjs p).coica = s.coica := rfl
@[simp] theorem State.defaultObjs_pair (p : Nat → Bool) : (s.defaultObjs p).pair = s.pair := rfl
@[simp] theorem State.defaultObjs_pw (p : Nat → Bool) : (s.defaultObjs p).pw = s.pw := rfl
@[simp] theorem State.defaultObjs_sec (p : Nat → Bool) : (s.defaultObjs p).sec = s.sec := rfl
@[simp] theorem State.defaultObjs_flash (p : Nat → Bool) : (s.defaultObjs p).flash = s.flash := rfl
@[simp] theorem State.defaultObjs_boot (p : Nat → Bool) : (s.defaultObjs p).boot = s.boot := rfl
@[simp] theorem State.defaultObjs_thermal (p : Nat → Bool) : (s.defaultObjs p).thermal = s.thermal := rfl

@[simp] theorem State.defaultDoms_pending (p : Nat → Bool) : (s.defaultDoms p).pending = s.pending := rfl
@[simp] theorem State.defaultDoms_objs (p : Nat → Bool) : (s.defaultDoms p).objs = s.objs := rfl
@[simp] theorem State.defaultDoms_free (p : Nat → Bool) : (s.defaultDoms p).free = s.free := rfl
@[simp] theorem State.defaultDoms_sent (p : Nat → Bool) : (s.defaultDoms p).sent = s.sent := rfl
@[simp] theorem State.defaultDoms_ev (p : Nat → Bool) : (s.defaultDoms p).ev = s.ev := rfl
@[simp] theorem State.defaultDoms_time (p : Nat → Bool) : (s.defaultDoms p).time = s.time := rfl
@[simp] theorem State.defaultDoms_parse (p : Nat → Bool) : (s.defaultDoms p).parse = s.parse := rfl
@[simp] theorem State.defaultDoms_tab (p : Nat → Bool) : (s.defaultDoms p).tab = s.tab := rfl
@[simp] theorem State.defaultDoms_net (p : Nat → Bool) : (s.defaultDoms p).net = s.net := rfl
@[simp] theorem State.defaultDoms_sched (p : Nat → Bool) : (s.defaultDoms p).sched = s.sched := rfl
@[simp] theorem State.defaultDoms_line (p : Nat → Bool) : (s.defaultDoms p).line = s.line := rfl
@[simp] theorem State.defaultDoms_fab (p : Nat → Bool) : (s.defaultDoms p).fab = s.fab := rfl
@[simp] theorem State.defaultDoms_hbm (p : Nat → Bool) : (s.defaultDoms p).hbm = s.hbm := rfl
@[simp] theorem State.defaultDoms_dict (p : Nat → Bool) : (s.defaultDoms p).dict = s.dict := rfl
@[simp] theorem State.defaultDoms_host (p : Nat → Bool) : (s.defaultDoms p).host = s.host := rfl
@[simp] theorem State.defaultDoms_msix (p : Nat → Bool) : (s.defaultDoms p).msix = s.msix := rfl
@[simp] theorem State.defaultDoms_cqs (p : Nat → Bool) : (s.defaultDoms p).cqs = s.cqs := rfl
@[simp] theorem State.defaultDoms_coica (p : Nat → Bool) : (s.defaultDoms p).coica = s.coica := rfl
@[simp] theorem State.defaultDoms_pair (p : Nat → Bool) : (s.defaultDoms p).pair = s.pair := rfl
@[simp] theorem State.defaultDoms_pw (p : Nat → Bool) : (s.defaultDoms p).pw = s.pw := rfl
@[simp] theorem State.defaultDoms_sec (p : Nat → Bool) : (s.defaultDoms p).sec = s.sec := rfl
@[simp] theorem State.defaultDoms_flash (p : Nat → Bool) : (s.defaultDoms p).flash = s.flash := rfl
@[simp] theorem State.defaultDoms_boot (p : Nat → Bool) : (s.defaultDoms p).boot = s.boot := rfl
@[simp] theorem State.defaultDoms_thermal (p : Nat → Bool) : (s.defaultDoms p).thermal = s.thermal := rfl

@[simp] theorem State.emit_pending (e : Emission) : (s.emit e).pending = s.pending := by unfold State.emit; split <;> rfl
@[simp] theorem State.emit_objs (e : Emission) : (s.emit e).objs = s.objs := by unfold State.emit; split <;> rfl
@[simp] theorem State.emit_doms (e : Emission) : (s.emit e).doms = s.doms := by unfold State.emit; split <;> rfl
@[simp] theorem State.emit_free (e : Emission) : (s.emit e).free = s.free := by unfold State.emit; split <;> rfl
@[simp] theorem State.emit_ev (e : Emission) : (s.emit e).ev = s.ev := by unfold State.emit; split <;> rfl
@[simp] theorem State.emit_time (e : Emission) : (s.emit e).time = s.time := by unfold State.emit; split <;> rfl
@[simp] theorem State.emit_parse (e : Emission) : (s.emit e).parse = s.parse := by unfold State.emit; split <;> rfl
@[simp] theorem State.emit_tab (e : Emission) : (s.emit e).tab = s.tab := by unfold State.emit; split <;> rfl
@[simp] theorem State.emit_net (e : Emission) : (s.emit e).net = s.net := by unfold State.emit; split <;> rfl
@[simp] theorem State.emit_sched (e : Emission) : (s.emit e).sched = s.sched := by unfold State.emit; split <;> rfl
@[simp] theorem State.emit_line (e : Emission) : (s.emit e).line = s.line := by unfold State.emit; split <;> rfl
@[simp] theorem State.emit_fab (e : Emission) : (s.emit e).fab = s.fab := by unfold State.emit; split <;> rfl
@[simp] theorem State.emit_hbm (e : Emission) : (s.emit e).hbm = s.hbm := by unfold State.emit; split <;> rfl
@[simp] theorem State.emit_dict (e : Emission) : (s.emit e).dict = s.dict := by unfold State.emit; split <;> rfl
@[simp] theorem State.emit_host (e : Emission) : (s.emit e).host = s.host := by unfold State.emit; split <;> rfl
@[simp] theorem State.emit_msix (e : Emission) : (s.emit e).msix = s.msix := by unfold State.emit; split <;> rfl
@[simp] theorem State.emit_cqs (e : Emission) : (s.emit e).cqs = s.cqs := by unfold State.emit; split <;> rfl
@[simp] theorem State.emit_coica (e : Emission) : (s.emit e).coica = s.coica := by unfold State.emit; split <;> rfl
@[simp] theorem State.emit_pair (e : Emission) : (s.emit e).pair = s.pair := by unfold State.emit; split <;> rfl
@[simp] theorem State.emit_pw (e : Emission) : (s.emit e).pw = s.pw := by unfold State.emit; split <;> rfl
@[simp] theorem State.emit_sec (e : Emission) : (s.emit e).sec = s.sec := by unfold State.emit; split <;> rfl
@[simp] theorem State.emit_flash (e : Emission) : (s.emit e).flash = s.flash := by unfold State.emit; split <;> rfl
@[simp] theorem State.emit_boot (e : Emission) : (s.emit e).boot = s.boot := by unfold State.emit; split <;> rfl
@[simp] theorem State.emit_thermal (e : Emission) : (s.emit e).thermal = s.thermal := by unfold State.emit; split <;> rfl

@[simp] theorem State.answer_pending (m k : Nat) (st : Status) (v : Nat) : (s.answer m k st v).pending = s.pending := State.emit_pending s _
@[simp] theorem State.answer_objs (m k : Nat) (st : Status) (v : Nat) : (s.answer m k st v).objs = s.objs := State.emit_objs s _
@[simp] theorem State.answer_doms (m k : Nat) (st : Status) (v : Nat) : (s.answer m k st v).doms = s.doms := State.emit_doms s _
@[simp] theorem State.answer_free (m k : Nat) (st : Status) (v : Nat) : (s.answer m k st v).free = s.free := State.emit_free s _
@[simp] theorem State.answer_ev (m k : Nat) (st : Status) (v : Nat) : (s.answer m k st v).ev = s.ev := State.emit_ev s _
@[simp] theorem State.answer_time (m k : Nat) (st : Status) (v : Nat) : (s.answer m k st v).time = s.time := State.emit_time s _
@[simp] theorem State.answer_parse (m k : Nat) (st : Status) (v : Nat) : (s.answer m k st v).parse = s.parse := State.emit_parse s _
@[simp] theorem State.answer_tab (m k : Nat) (st : Status) (v : Nat) : (s.answer m k st v).tab = s.tab := State.emit_tab s _
@[simp] theorem State.answer_net (m k : Nat) (st : Status) (v : Nat) : (s.answer m k st v).net = s.net := State.emit_net s _
@[simp] theorem State.answer_sched (m k : Nat) (st : Status) (v : Nat) : (s.answer m k st v).sched = s.sched := State.emit_sched s _
@[simp] theorem State.answer_line (m k : Nat) (st : Status) (v : Nat) : (s.answer m k st v).line = s.line := State.emit_line s _
@[simp] theorem State.answer_fab (m k : Nat) (st : Status) (v : Nat) : (s.answer m k st v).fab = s.fab := State.emit_fab s _
@[simp] theorem State.answer_hbm (m k : Nat) (st : Status) (v : Nat) : (s.answer m k st v).hbm = s.hbm := State.emit_hbm s _
@[simp] theorem State.answer_dict (m k : Nat) (st : Status) (v : Nat) : (s.answer m k st v).dict = s.dict := State.emit_dict s _
@[simp] theorem State.answer_host (m k : Nat) (st : Status) (v : Nat) : (s.answer m k st v).host = s.host := State.emit_host s _
@[simp] theorem State.answer_msix (m k : Nat) (st : Status) (v : Nat) : (s.answer m k st v).msix = s.msix := State.emit_msix s _
@[simp] theorem State.answer_cqs (m k : Nat) (st : Status) (v : Nat) : (s.answer m k st v).cqs = s.cqs := State.emit_cqs s _
@[simp] theorem State.answer_coica (m k : Nat) (st : Status) (v : Nat) : (s.answer m k st v).coica = s.coica := State.emit_coica s _
@[simp] theorem State.answer_pair (m k : Nat) (st : Status) (v : Nat) : (s.answer m k st v).pair = s.pair := State.emit_pair s _
@[simp] theorem State.answer_pw (m k : Nat) (st : Status) (v : Nat) : (s.answer m k st v).pw = s.pw := State.emit_pw s _
@[simp] theorem State.answer_sec (m k : Nat) (st : Status) (v : Nat) : (s.answer m k st v).sec = s.sec := State.emit_sec s _
@[simp] theorem State.answer_flash (m k : Nat) (st : Status) (v : Nat) : (s.answer m k st v).flash = s.flash := State.emit_flash s _
@[simp] theorem State.answer_boot (m k : Nat) (st : Status) (v : Nat) : (s.answer m k st v).boot = s.boot := State.emit_boot s _
@[simp] theorem State.answer_thermal (m k : Nat) (st : Status) (v : Nat) : (s.answer m k st v).thermal = s.thermal := State.emit_thermal s _

@[simp] theorem State.withObjs_pending (x : Table Nat) : (s.withObjs x).pending = s.pending := rfl
@[simp] theorem State.withObjs_objs (x : Table Nat) : (s.withObjs x).objs = x := rfl
@[simp] theorem State.withObjs_doms (x : Table Nat) : (s.withObjs x).doms = s.doms := rfl
@[simp] theorem State.withObjs_free (x : Table Nat) : (s.withObjs x).free = s.free := rfl
@[simp] theorem State.withObjs_sent (x : Table Nat) : (s.withObjs x).sent = s.sent := rfl
@[simp] theorem State.withObjs_ev (x : Table Nat) : (s.withObjs x).ev = s.ev := rfl
@[simp] theorem State.withObjs_time (x : Table Nat) : (s.withObjs x).time = s.time := rfl
@[simp] theorem State.withObjs_parse (x : Table Nat) : (s.withObjs x).parse = s.parse := rfl
@[simp] theorem State.withObjs_tab (x : Table Nat) : (s.withObjs x).tab = s.tab := rfl
@[simp] theorem State.withObjs_net (x : Table Nat) : (s.withObjs x).net = s.net := rfl
@[simp] theorem State.withObjs_sched (x : Table Nat) : (s.withObjs x).sched = s.sched := rfl
@[simp] theorem State.withObjs_line (x : Table Nat) : (s.withObjs x).line = s.line := rfl
@[simp] theorem State.withObjs_fab (x : Table Nat) : (s.withObjs x).fab = s.fab := rfl
@[simp] theorem State.withObjs_hbm (x : Table Nat) : (s.withObjs x).hbm = s.hbm := rfl
@[simp] theorem State.withObjs_dict (x : Table Nat) : (s.withObjs x).dict = s.dict := rfl
@[simp] theorem State.withObjs_host (x : Table Nat) : (s.withObjs x).host = s.host := rfl
@[simp] theorem State.withObjs_msix (x : Table Nat) : (s.withObjs x).msix = s.msix := rfl
@[simp] theorem State.withObjs_cqs (x : Table Nat) : (s.withObjs x).cqs = s.cqs := rfl
@[simp] theorem State.withObjs_coica (x : Table Nat) : (s.withObjs x).coica = s.coica := rfl
@[simp] theorem State.withObjs_pair (x : Table Nat) : (s.withObjs x).pair = s.pair := rfl
@[simp] theorem State.withObjs_pw (x : Table Nat) : (s.withObjs x).pw = s.pw := rfl
@[simp] theorem State.withObjs_sec (x : Table Nat) : (s.withObjs x).sec = s.sec := rfl
@[simp] theorem State.withObjs_flash (x : Table Nat) : (s.withObjs x).flash = s.flash := rfl
@[simp] theorem State.withObjs_boot (x : Table Nat) : (s.withObjs x).boot = s.boot := rfl
@[simp] theorem State.withObjs_thermal (x : Table Nat) : (s.withObjs x).thermal = s.thermal := rfl
@[simp] theorem State.dom_withObjs (x : Table Nat) (d e : Nat) : (s.withObjs x).dom d e = s.dom d e := rfl

@[simp] theorem State.withDoms_pending (x : Table Nat) : (s.withDoms x).pending = s.pending := rfl
@[simp] theorem State.withDoms_objs (x : Table Nat) : (s.withDoms x).objs = s.objs := rfl
@[simp] theorem State.withDoms_doms (x : Table Nat) : (s.withDoms x).doms = x := rfl
@[simp] theorem State.withDoms_free (x : Table Nat) : (s.withDoms x).free = s.free := rfl
@[simp] theorem State.withDoms_sent (x : Table Nat) : (s.withDoms x).sent = s.sent := rfl
@[simp] theorem State.withDoms_ev (x : Table Nat) : (s.withDoms x).ev = s.ev := rfl
@[simp] theorem State.withDoms_time (x : Table Nat) : (s.withDoms x).time = s.time := rfl
@[simp] theorem State.withDoms_parse (x : Table Nat) : (s.withDoms x).parse = s.parse := rfl
@[simp] theorem State.withDoms_tab (x : Table Nat) : (s.withDoms x).tab = s.tab := rfl
@[simp] theorem State.withDoms_net (x : Table Nat) : (s.withDoms x).net = s.net := rfl
@[simp] theorem State.withDoms_sched (x : Table Nat) : (s.withDoms x).sched = s.sched := rfl
@[simp] theorem State.withDoms_line (x : Table Nat) : (s.withDoms x).line = s.line := rfl
@[simp] theorem State.withDoms_fab (x : Table Nat) : (s.withDoms x).fab = s.fab := rfl
@[simp] theorem State.withDoms_hbm (x : Table Nat) : (s.withDoms x).hbm = s.hbm := rfl
@[simp] theorem State.withDoms_dict (x : Table Nat) : (s.withDoms x).dict = s.dict := rfl
@[simp] theorem State.withDoms_host (x : Table Nat) : (s.withDoms x).host = s.host := rfl
@[simp] theorem State.withDoms_msix (x : Table Nat) : (s.withDoms x).msix = s.msix := rfl
@[simp] theorem State.withDoms_cqs (x : Table Nat) : (s.withDoms x).cqs = s.cqs := rfl
@[simp] theorem State.withDoms_coica (x : Table Nat) : (s.withDoms x).coica = s.coica := rfl
@[simp] theorem State.withDoms_pair (x : Table Nat) : (s.withDoms x).pair = s.pair := rfl
@[simp] theorem State.withDoms_pw (x : Table Nat) : (s.withDoms x).pw = s.pw := rfl
@[simp] theorem State.withDoms_sec (x : Table Nat) : (s.withDoms x).sec = s.sec := rfl
@[simp] theorem State.withDoms_flash (x : Table Nat) : (s.withDoms x).flash = s.flash := rfl
@[simp] theorem State.withDoms_boot (x : Table Nat) : (s.withDoms x).boot = s.boot := rfl
@[simp] theorem State.withDoms_thermal (x : Table Nat) : (s.withDoms x).thermal = s.thermal := rfl
@[simp] theorem State.get_withDoms (x : Table Nat) (k : Nat) : (s.withDoms x).get k = s.get k := rfl

@[simp] theorem State.withEv_pending (x : EventState) : (s.withEv x).pending = s.pending := rfl
@[simp] theorem State.withEv_objs (x : EventState) : (s.withEv x).objs = s.objs := rfl
@[simp] theorem State.withEv_doms (x : EventState) : (s.withEv x).doms = s.doms := rfl
@[simp] theorem State.withEv_free (x : EventState) : (s.withEv x).free = s.free := rfl
@[simp] theorem State.withEv_sent (x : EventState) : (s.withEv x).sent = s.sent := rfl
@[simp] theorem State.withEv_ev (x : EventState) : (s.withEv x).ev = x := rfl
@[simp] theorem State.withEv_time (x : EventState) : (s.withEv x).time = s.time := rfl
@[simp] theorem State.withEv_parse (x : EventState) : (s.withEv x).parse = s.parse := rfl
@[simp] theorem State.withEv_tab (x : EventState) : (s.withEv x).tab = s.tab := rfl
@[simp] theorem State.withEv_net (x : EventState) : (s.withEv x).net = s.net := rfl
@[simp] theorem State.withEv_sched (x : EventState) : (s.withEv x).sched = s.sched := rfl
@[simp] theorem State.withEv_line (x : EventState) : (s.withEv x).line = s.line := rfl
@[simp] theorem State.withEv_fab (x : EventState) : (s.withEv x).fab = s.fab := rfl
@[simp] theorem State.withEv_hbm (x : EventState) : (s.withEv x).hbm = s.hbm := rfl
@[simp] theorem State.withEv_dict (x : EventState) : (s.withEv x).dict = s.dict := rfl
@[simp] theorem State.withEv_host (x : EventState) : (s.withEv x).host = s.host := rfl
@[simp] theorem State.withEv_msix (x : EventState) : (s.withEv x).msix = s.msix := rfl
@[simp] theorem State.withEv_cqs (x : EventState) : (s.withEv x).cqs = s.cqs := rfl
@[simp] theorem State.withEv_coica (x : EventState) : (s.withEv x).coica = s.coica := rfl
@[simp] theorem State.withEv_pair (x : EventState) : (s.withEv x).pair = s.pair := rfl
@[simp] theorem State.withEv_pw (x : EventState) : (s.withEv x).pw = s.pw := rfl
@[simp] theorem State.withEv_sec (x : EventState) : (s.withEv x).sec = s.sec := rfl
@[simp] theorem State.withEv_flash (x : EventState) : (s.withEv x).flash = s.flash := rfl
@[simp] theorem State.withEv_boot (x : EventState) : (s.withEv x).boot = s.boot := rfl
@[simp] theorem State.withEv_thermal (x : EventState) : (s.withEv x).thermal = s.thermal := rfl
@[simp] theorem State.get_withEv (x : EventState) (k : Nat) : (s.withEv x).get k = s.get k := rfl
@[simp] theorem State.dom_withEv (x : EventState) (d e : Nat) : (s.withEv x).dom d e = s.dom d e := rfl

@[simp] theorem State.withTime_pending (x : TimeState) : (s.withTime x).pending = s.pending := rfl
@[simp] theorem State.withTime_objs (x : TimeState) : (s.withTime x).objs = s.objs := rfl
@[simp] theorem State.withTime_doms (x : TimeState) : (s.withTime x).doms = s.doms := rfl
@[simp] theorem State.withTime_free (x : TimeState) : (s.withTime x).free = s.free := rfl
@[simp] theorem State.withTime_sent (x : TimeState) : (s.withTime x).sent = s.sent := rfl
@[simp] theorem State.withTime_ev (x : TimeState) : (s.withTime x).ev = s.ev := rfl
@[simp] theorem State.withTime_time (x : TimeState) : (s.withTime x).time = x := rfl
@[simp] theorem State.withTime_parse (x : TimeState) : (s.withTime x).parse = s.parse := rfl
@[simp] theorem State.withTime_tab (x : TimeState) : (s.withTime x).tab = s.tab := rfl
@[simp] theorem State.withTime_net (x : TimeState) : (s.withTime x).net = s.net := rfl
@[simp] theorem State.withTime_sched (x : TimeState) : (s.withTime x).sched = s.sched := rfl
@[simp] theorem State.withTime_line (x : TimeState) : (s.withTime x).line = s.line := rfl
@[simp] theorem State.withTime_fab (x : TimeState) : (s.withTime x).fab = s.fab := rfl
@[simp] theorem State.withTime_hbm (x : TimeState) : (s.withTime x).hbm = s.hbm := rfl
@[simp] theorem State.withTime_dict (x : TimeState) : (s.withTime x).dict = s.dict := rfl
@[simp] theorem State.withTime_host (x : TimeState) : (s.withTime x).host = s.host := rfl
@[simp] theorem State.withTime_msix (x : TimeState) : (s.withTime x).msix = s.msix := rfl
@[simp] theorem State.withTime_cqs (x : TimeState) : (s.withTime x).cqs = s.cqs := rfl
@[simp] theorem State.withTime_coica (x : TimeState) : (s.withTime x).coica = s.coica := rfl
@[simp] theorem State.withTime_pair (x : TimeState) : (s.withTime x).pair = s.pair := rfl
@[simp] theorem State.withTime_pw (x : TimeState) : (s.withTime x).pw = s.pw := rfl
@[simp] theorem State.withTime_sec (x : TimeState) : (s.withTime x).sec = s.sec := rfl
@[simp] theorem State.withTime_flash (x : TimeState) : (s.withTime x).flash = s.flash := rfl
@[simp] theorem State.withTime_boot (x : TimeState) : (s.withTime x).boot = s.boot := rfl
@[simp] theorem State.withTime_thermal (x : TimeState) : (s.withTime x).thermal = s.thermal := rfl
@[simp] theorem State.get_withTime (x : TimeState) (k : Nat) : (s.withTime x).get k = s.get k := rfl
@[simp] theorem State.dom_withTime (x : TimeState) (d e : Nat) : (s.withTime x).dom d e = s.dom d e := rfl

@[simp] theorem State.withParse_pending (x : ParseState) : (s.withParse x).pending = s.pending := rfl
@[simp] theorem State.withParse_objs (x : ParseState) : (s.withParse x).objs = s.objs := rfl
@[simp] theorem State.withParse_doms (x : ParseState) : (s.withParse x).doms = s.doms := rfl
@[simp] theorem State.withParse_free (x : ParseState) : (s.withParse x).free = s.free := rfl
@[simp] theorem State.withParse_sent (x : ParseState) : (s.withParse x).sent = s.sent := rfl
@[simp] theorem State.withParse_ev (x : ParseState) : (s.withParse x).ev = s.ev := rfl
@[simp] theorem State.withParse_time (x : ParseState) : (s.withParse x).time = s.time := rfl
@[simp] theorem State.withParse_parse (x : ParseState) : (s.withParse x).parse = x := rfl
@[simp] theorem State.withParse_tab (x : ParseState) : (s.withParse x).tab = s.tab := rfl
@[simp] theorem State.withParse_net (x : ParseState) : (s.withParse x).net = s.net := rfl
@[simp] theorem State.withParse_sched (x : ParseState) : (s.withParse x).sched = s.sched := rfl
@[simp] theorem State.withParse_line (x : ParseState) : (s.withParse x).line = s.line := rfl
@[simp] theorem State.withParse_fab (x : ParseState) : (s.withParse x).fab = s.fab := rfl
@[simp] theorem State.withParse_hbm (x : ParseState) : (s.withParse x).hbm = s.hbm := rfl
@[simp] theorem State.withParse_dict (x : ParseState) : (s.withParse x).dict = s.dict := rfl
@[simp] theorem State.withParse_host (x : ParseState) : (s.withParse x).host = s.host := rfl
@[simp] theorem State.withParse_msix (x : ParseState) : (s.withParse x).msix = s.msix := rfl
@[simp] theorem State.withParse_cqs (x : ParseState) : (s.withParse x).cqs = s.cqs := rfl
@[simp] theorem State.withParse_coica (x : ParseState) : (s.withParse x).coica = s.coica := rfl
@[simp] theorem State.withParse_pair (x : ParseState) : (s.withParse x).pair = s.pair := rfl
@[simp] theorem State.withParse_pw (x : ParseState) : (s.withParse x).pw = s.pw := rfl
@[simp] theorem State.withParse_sec (x : ParseState) : (s.withParse x).sec = s.sec := rfl
@[simp] theorem State.withParse_flash (x : ParseState) : (s.withParse x).flash = s.flash := rfl
@[simp] theorem State.withParse_boot (x : ParseState) : (s.withParse x).boot = s.boot := rfl
@[simp] theorem State.withParse_thermal (x : ParseState) : (s.withParse x).thermal = s.thermal := rfl
@[simp] theorem State.get_withParse (x : ParseState) (k : Nat) : (s.withParse x).get k = s.get k := rfl
@[simp] theorem State.dom_withParse (x : ParseState) (d e : Nat) : (s.withParse x).dom d e = s.dom d e := rfl

@[simp] theorem State.withTab_pending (x : TableState) : (s.withTab x).pending = s.pending := rfl
@[simp] theorem State.withTab_objs (x : TableState) : (s.withTab x).objs = s.objs := rfl
@[simp] theorem State.withTab_doms (x : TableState) : (s.withTab x).doms = s.doms := rfl
@[simp] theorem State.withTab_free (x : TableState) : (s.withTab x).free = s.free := rfl
@[simp] theorem State.withTab_sent (x : TableState) : (s.withTab x).sent = s.sent := rfl
@[simp] theorem State.withTab_ev (x : TableState) : (s.withTab x).ev = s.ev := rfl
@[simp] theorem State.withTab_time (x : TableState) : (s.withTab x).time = s.time := rfl
@[simp] theorem State.withTab_parse (x : TableState) : (s.withTab x).parse = s.parse := rfl
@[simp] theorem State.withTab_tab (x : TableState) : (s.withTab x).tab = x := rfl
@[simp] theorem State.withTab_net (x : TableState) : (s.withTab x).net = s.net := rfl
@[simp] theorem State.withTab_sched (x : TableState) : (s.withTab x).sched = s.sched := rfl
@[simp] theorem State.withTab_line (x : TableState) : (s.withTab x).line = s.line := rfl
@[simp] theorem State.withTab_fab (x : TableState) : (s.withTab x).fab = s.fab := rfl
@[simp] theorem State.withTab_hbm (x : TableState) : (s.withTab x).hbm = s.hbm := rfl
@[simp] theorem State.withTab_dict (x : TableState) : (s.withTab x).dict = s.dict := rfl
@[simp] theorem State.withTab_host (x : TableState) : (s.withTab x).host = s.host := rfl
@[simp] theorem State.withTab_msix (x : TableState) : (s.withTab x).msix = s.msix := rfl
@[simp] theorem State.withTab_cqs (x : TableState) : (s.withTab x).cqs = s.cqs := rfl
@[simp] theorem State.withTab_coica (x : TableState) : (s.withTab x).coica = s.coica := rfl
@[simp] theorem State.withTab_pair (x : TableState) : (s.withTab x).pair = s.pair := rfl
@[simp] theorem State.withTab_pw (x : TableState) : (s.withTab x).pw = s.pw := rfl
@[simp] theorem State.withTab_sec (x : TableState) : (s.withTab x).sec = s.sec := rfl
@[simp] theorem State.withTab_flash (x : TableState) : (s.withTab x).flash = s.flash := rfl
@[simp] theorem State.withTab_boot (x : TableState) : (s.withTab x).boot = s.boot := rfl
@[simp] theorem State.withTab_thermal (x : TableState) : (s.withTab x).thermal = s.thermal := rfl
@[simp] theorem State.get_withTab (x : TableState) (k : Nat) : (s.withTab x).get k = s.get k := rfl
@[simp] theorem State.dom_withTab (x : TableState) (d e : Nat) : (s.withTab x).dom d e = s.dom d e := rfl

@[simp] theorem State.withNet_pending (x : NetState) : (s.withNet x).pending = s.pending := rfl
@[simp] theorem State.withNet_objs (x : NetState) : (s.withNet x).objs = s.objs := rfl
@[simp] theorem State.withNet_doms (x : NetState) : (s.withNet x).doms = s.doms := rfl
@[simp] theorem State.withNet_free (x : NetState) : (s.withNet x).free = s.free := rfl
@[simp] theorem State.withNet_sent (x : NetState) : (s.withNet x).sent = s.sent := rfl
@[simp] theorem State.withNet_ev (x : NetState) : (s.withNet x).ev = s.ev := rfl
@[simp] theorem State.withNet_time (x : NetState) : (s.withNet x).time = s.time := rfl
@[simp] theorem State.withNet_parse (x : NetState) : (s.withNet x).parse = s.parse := rfl
@[simp] theorem State.withNet_tab (x : NetState) : (s.withNet x).tab = s.tab := rfl
@[simp] theorem State.withNet_net (x : NetState) : (s.withNet x).net = x := rfl
@[simp] theorem State.withNet_sched (x : NetState) : (s.withNet x).sched = s.sched := rfl
@[simp] theorem State.withNet_line (x : NetState) : (s.withNet x).line = s.line := rfl
@[simp] theorem State.withNet_fab (x : NetState) : (s.withNet x).fab = s.fab := rfl
@[simp] theorem State.withNet_hbm (x : NetState) : (s.withNet x).hbm = s.hbm := rfl
@[simp] theorem State.withNet_dict (x : NetState) : (s.withNet x).dict = s.dict := rfl
@[simp] theorem State.withNet_host (x : NetState) : (s.withNet x).host = s.host := rfl
@[simp] theorem State.withNet_msix (x : NetState) : (s.withNet x).msix = s.msix := rfl
@[simp] theorem State.withNet_cqs (x : NetState) : (s.withNet x).cqs = s.cqs := rfl
@[simp] theorem State.withNet_coica (x : NetState) : (s.withNet x).coica = s.coica := rfl
@[simp] theorem State.withNet_pair (x : NetState) : (s.withNet x).pair = s.pair := rfl
@[simp] theorem State.withNet_pw (x : NetState) : (s.withNet x).pw = s.pw := rfl
@[simp] theorem State.withNet_sec (x : NetState) : (s.withNet x).sec = s.sec := rfl
@[simp] theorem State.withNet_flash (x : NetState) : (s.withNet x).flash = s.flash := rfl
@[simp] theorem State.withNet_boot (x : NetState) : (s.withNet x).boot = s.boot := rfl
@[simp] theorem State.withNet_thermal (x : NetState) : (s.withNet x).thermal = s.thermal := rfl
@[simp] theorem State.get_withNet (x : NetState) (k : Nat) : (s.withNet x).get k = s.get k := rfl
@[simp] theorem State.dom_withNet (x : NetState) (d e : Nat) : (s.withNet x).dom d e = s.dom d e := rfl

@[simp] theorem State.withSched_pending (x : SchedState) : (s.withSched x).pending = s.pending := rfl
@[simp] theorem State.withSched_objs (x : SchedState) : (s.withSched x).objs = s.objs := rfl
@[simp] theorem State.withSched_doms (x : SchedState) : (s.withSched x).doms = s.doms := rfl
@[simp] theorem State.withSched_free (x : SchedState) : (s.withSched x).free = s.free := rfl
@[simp] theorem State.withSched_sent (x : SchedState) : (s.withSched x).sent = s.sent := rfl
@[simp] theorem State.withSched_ev (x : SchedState) : (s.withSched x).ev = s.ev := rfl
@[simp] theorem State.withSched_time (x : SchedState) : (s.withSched x).time = s.time := rfl
@[simp] theorem State.withSched_parse (x : SchedState) : (s.withSched x).parse = s.parse := rfl
@[simp] theorem State.withSched_tab (x : SchedState) : (s.withSched x).tab = s.tab := rfl
@[simp] theorem State.withSched_net (x : SchedState) : (s.withSched x).net = s.net := rfl
@[simp] theorem State.withSched_sched (x : SchedState) : (s.withSched x).sched = x := rfl
@[simp] theorem State.withSched_line (x : SchedState) : (s.withSched x).line = s.line := rfl
@[simp] theorem State.withSched_fab (x : SchedState) : (s.withSched x).fab = s.fab := rfl
@[simp] theorem State.withSched_hbm (x : SchedState) : (s.withSched x).hbm = s.hbm := rfl
@[simp] theorem State.withSched_dict (x : SchedState) : (s.withSched x).dict = s.dict := rfl
@[simp] theorem State.withSched_host (x : SchedState) : (s.withSched x).host = s.host := rfl
@[simp] theorem State.withSched_msix (x : SchedState) : (s.withSched x).msix = s.msix := rfl
@[simp] theorem State.withSched_cqs (x : SchedState) : (s.withSched x).cqs = s.cqs := rfl
@[simp] theorem State.withSched_coica (x : SchedState) : (s.withSched x).coica = s.coica := rfl
@[simp] theorem State.withSched_pair (x : SchedState) : (s.withSched x).pair = s.pair := rfl
@[simp] theorem State.withSched_pw (x : SchedState) : (s.withSched x).pw = s.pw := rfl
@[simp] theorem State.withSched_sec (x : SchedState) : (s.withSched x).sec = s.sec := rfl
@[simp] theorem State.withSched_flash (x : SchedState) : (s.withSched x).flash = s.flash := rfl
@[simp] theorem State.withSched_boot (x : SchedState) : (s.withSched x).boot = s.boot := rfl
@[simp] theorem State.withSched_thermal (x : SchedState) : (s.withSched x).thermal = s.thermal := rfl
@[simp] theorem State.get_withSched (x : SchedState) (k : Nat) : (s.withSched x).get k = s.get k := rfl
@[simp] theorem State.dom_withSched (x : SchedState) (d e : Nat) : (s.withSched x).dom d e = s.dom d e := rfl

@[simp] theorem State.withLine_pending (x : LinesState) : (s.withLine x).pending = s.pending := rfl
@[simp] theorem State.withLine_objs (x : LinesState) : (s.withLine x).objs = s.objs := rfl
@[simp] theorem State.withLine_doms (x : LinesState) : (s.withLine x).doms = s.doms := rfl
@[simp] theorem State.withLine_free (x : LinesState) : (s.withLine x).free = s.free := rfl
@[simp] theorem State.withLine_sent (x : LinesState) : (s.withLine x).sent = s.sent := rfl
@[simp] theorem State.withLine_ev (x : LinesState) : (s.withLine x).ev = s.ev := rfl
@[simp] theorem State.withLine_time (x : LinesState) : (s.withLine x).time = s.time := rfl
@[simp] theorem State.withLine_parse (x : LinesState) : (s.withLine x).parse = s.parse := rfl
@[simp] theorem State.withLine_tab (x : LinesState) : (s.withLine x).tab = s.tab := rfl
@[simp] theorem State.withLine_net (x : LinesState) : (s.withLine x).net = s.net := rfl
@[simp] theorem State.withLine_sched (x : LinesState) : (s.withLine x).sched = s.sched := rfl
@[simp] theorem State.withLine_line (x : LinesState) : (s.withLine x).line = x := rfl
@[simp] theorem State.withLine_fab (x : LinesState) : (s.withLine x).fab = s.fab := rfl
@[simp] theorem State.withLine_hbm (x : LinesState) : (s.withLine x).hbm = s.hbm := rfl
@[simp] theorem State.withLine_dict (x : LinesState) : (s.withLine x).dict = s.dict := rfl
@[simp] theorem State.withLine_host (x : LinesState) : (s.withLine x).host = s.host := rfl
@[simp] theorem State.withLine_msix (x : LinesState) : (s.withLine x).msix = s.msix := rfl
@[simp] theorem State.withLine_cqs (x : LinesState) : (s.withLine x).cqs = s.cqs := rfl
@[simp] theorem State.withLine_coica (x : LinesState) : (s.withLine x).coica = s.coica := rfl
@[simp] theorem State.withLine_pair (x : LinesState) : (s.withLine x).pair = s.pair := rfl
@[simp] theorem State.withLine_pw (x : LinesState) : (s.withLine x).pw = s.pw := rfl
@[simp] theorem State.withLine_sec (x : LinesState) : (s.withLine x).sec = s.sec := rfl
@[simp] theorem State.withLine_flash (x : LinesState) : (s.withLine x).flash = s.flash := rfl
@[simp] theorem State.withLine_boot (x : LinesState) : (s.withLine x).boot = s.boot := rfl
@[simp] theorem State.withLine_thermal (x : LinesState) : (s.withLine x).thermal = s.thermal := rfl
@[simp] theorem State.get_withLine (x : LinesState) (k : Nat) : (s.withLine x).get k = s.get k := rfl
@[simp] theorem State.dom_withLine (x : LinesState) (d e : Nat) : (s.withLine x).dom d e = s.dom d e := rfl

@[simp] theorem State.withFab_pending (x : FabricState) : (s.withFab x).pending = s.pending := rfl
@[simp] theorem State.withFab_objs (x : FabricState) : (s.withFab x).objs = s.objs := rfl
@[simp] theorem State.withFab_doms (x : FabricState) : (s.withFab x).doms = s.doms := rfl
@[simp] theorem State.withFab_free (x : FabricState) : (s.withFab x).free = s.free := rfl
@[simp] theorem State.withFab_sent (x : FabricState) : (s.withFab x).sent = s.sent := rfl
@[simp] theorem State.withFab_ev (x : FabricState) : (s.withFab x).ev = s.ev := rfl
@[simp] theorem State.withFab_time (x : FabricState) : (s.withFab x).time = s.time := rfl
@[simp] theorem State.withFab_parse (x : FabricState) : (s.withFab x).parse = s.parse := rfl
@[simp] theorem State.withFab_tab (x : FabricState) : (s.withFab x).tab = s.tab := rfl
@[simp] theorem State.withFab_net (x : FabricState) : (s.withFab x).net = s.net := rfl
@[simp] theorem State.withFab_sched (x : FabricState) : (s.withFab x).sched = s.sched := rfl
@[simp] theorem State.withFab_line (x : FabricState) : (s.withFab x).line = s.line := rfl
@[simp] theorem State.withFab_fab (x : FabricState) : (s.withFab x).fab = x := rfl
@[simp] theorem State.withFab_hbm (x : FabricState) : (s.withFab x).hbm = s.hbm := rfl
@[simp] theorem State.withFab_dict (x : FabricState) : (s.withFab x).dict = s.dict := rfl
@[simp] theorem State.withFab_host (x : FabricState) : (s.withFab x).host = s.host := rfl
@[simp] theorem State.withFab_msix (x : FabricState) : (s.withFab x).msix = s.msix := rfl
@[simp] theorem State.withFab_cqs (x : FabricState) : (s.withFab x).cqs = s.cqs := rfl
@[simp] theorem State.withFab_coica (x : FabricState) : (s.withFab x).coica = s.coica := rfl
@[simp] theorem State.withFab_pair (x : FabricState) : (s.withFab x).pair = s.pair := rfl
@[simp] theorem State.withFab_pw (x : FabricState) : (s.withFab x).pw = s.pw := rfl
@[simp] theorem State.withFab_sec (x : FabricState) : (s.withFab x).sec = s.sec := rfl
@[simp] theorem State.withFab_flash (x : FabricState) : (s.withFab x).flash = s.flash := rfl
@[simp] theorem State.withFab_boot (x : FabricState) : (s.withFab x).boot = s.boot := rfl
@[simp] theorem State.withFab_thermal (x : FabricState) : (s.withFab x).thermal = s.thermal := rfl
@[simp] theorem State.get_withFab (x : FabricState) (k : Nat) : (s.withFab x).get k = s.get k := rfl
@[simp] theorem State.dom_withFab (x : FabricState) (d e : Nat) : (s.withFab x).dom d e = s.dom d e := rfl

@[simp] theorem State.withHbm_pending (x : HbmState) : (s.withHbm x).pending = s.pending := rfl
@[simp] theorem State.withHbm_objs (x : HbmState) : (s.withHbm x).objs = s.objs := rfl
@[simp] theorem State.withHbm_doms (x : HbmState) : (s.withHbm x).doms = s.doms := rfl
@[simp] theorem State.withHbm_free (x : HbmState) : (s.withHbm x).free = s.free := rfl
@[simp] theorem State.withHbm_sent (x : HbmState) : (s.withHbm x).sent = s.sent := rfl
@[simp] theorem State.withHbm_ev (x : HbmState) : (s.withHbm x).ev = s.ev := rfl
@[simp] theorem State.withHbm_time (x : HbmState) : (s.withHbm x).time = s.time := rfl
@[simp] theorem State.withHbm_parse (x : HbmState) : (s.withHbm x).parse = s.parse := rfl
@[simp] theorem State.withHbm_tab (x : HbmState) : (s.withHbm x).tab = s.tab := rfl
@[simp] theorem State.withHbm_net (x : HbmState) : (s.withHbm x).net = s.net := rfl
@[simp] theorem State.withHbm_sched (x : HbmState) : (s.withHbm x).sched = s.sched := rfl
@[simp] theorem State.withHbm_line (x : HbmState) : (s.withHbm x).line = s.line := rfl
@[simp] theorem State.withHbm_fab (x : HbmState) : (s.withHbm x).fab = s.fab := rfl
@[simp] theorem State.withHbm_hbm (x : HbmState) : (s.withHbm x).hbm = x := rfl
@[simp] theorem State.withHbm_dict (x : HbmState) : (s.withHbm x).dict = s.dict := rfl
@[simp] theorem State.withHbm_host (x : HbmState) : (s.withHbm x).host = s.host := rfl
@[simp] theorem State.withHbm_msix (x : HbmState) : (s.withHbm x).msix = s.msix := rfl
@[simp] theorem State.withHbm_cqs (x : HbmState) : (s.withHbm x).cqs = s.cqs := rfl
@[simp] theorem State.withHbm_coica (x : HbmState) : (s.withHbm x).coica = s.coica := rfl
@[simp] theorem State.withHbm_pair (x : HbmState) : (s.withHbm x).pair = s.pair := rfl
@[simp] theorem State.withHbm_pw (x : HbmState) : (s.withHbm x).pw = s.pw := rfl
@[simp] theorem State.withHbm_sec (x : HbmState) : (s.withHbm x).sec = s.sec := rfl
@[simp] theorem State.withHbm_flash (x : HbmState) : (s.withHbm x).flash = s.flash := rfl
@[simp] theorem State.withHbm_boot (x : HbmState) : (s.withHbm x).boot = s.boot := rfl
@[simp] theorem State.withHbm_thermal (x : HbmState) : (s.withHbm x).thermal = s.thermal := rfl
@[simp] theorem State.get_withHbm (x : HbmState) (k : Nat) : (s.withHbm x).get k = s.get k := rfl
@[simp] theorem State.dom_withHbm (x : HbmState) (d e : Nat) : (s.withHbm x).dom d e = s.dom d e := rfl

@[simp] theorem State.withDict_pending (x : DictState) : (s.withDict x).pending = s.pending := rfl
@[simp] theorem State.withDict_objs (x : DictState) : (s.withDict x).objs = s.objs := rfl
@[simp] theorem State.withDict_doms (x : DictState) : (s.withDict x).doms = s.doms := rfl
@[simp] theorem State.withDict_free (x : DictState) : (s.withDict x).free = s.free := rfl
@[simp] theorem State.withDict_sent (x : DictState) : (s.withDict x).sent = s.sent := rfl
@[simp] theorem State.withDict_ev (x : DictState) : (s.withDict x).ev = s.ev := rfl
@[simp] theorem State.withDict_time (x : DictState) : (s.withDict x).time = s.time := rfl
@[simp] theorem State.withDict_parse (x : DictState) : (s.withDict x).parse = s.parse := rfl
@[simp] theorem State.withDict_tab (x : DictState) : (s.withDict x).tab = s.tab := rfl
@[simp] theorem State.withDict_net (x : DictState) : (s.withDict x).net = s.net := rfl
@[simp] theorem State.withDict_sched (x : DictState) : (s.withDict x).sched = s.sched := rfl
@[simp] theorem State.withDict_line (x : DictState) : (s.withDict x).line = s.line := rfl
@[simp] theorem State.withDict_fab (x : DictState) : (s.withDict x).fab = s.fab := rfl
@[simp] theorem State.withDict_hbm (x : DictState) : (s.withDict x).hbm = s.hbm := rfl
@[simp] theorem State.withDict_dict (x : DictState) : (s.withDict x).dict = x := rfl
@[simp] theorem State.withDict_host (x : DictState) : (s.withDict x).host = s.host := rfl
@[simp] theorem State.withDict_msix (x : DictState) : (s.withDict x).msix = s.msix := rfl
@[simp] theorem State.withDict_cqs (x : DictState) : (s.withDict x).cqs = s.cqs := rfl
@[simp] theorem State.withDict_coica (x : DictState) : (s.withDict x).coica = s.coica := rfl
@[simp] theorem State.withDict_pair (x : DictState) : (s.withDict x).pair = s.pair := rfl
@[simp] theorem State.withDict_pw (x : DictState) : (s.withDict x).pw = s.pw := rfl
@[simp] theorem State.withDict_sec (x : DictState) : (s.withDict x).sec = s.sec := rfl
@[simp] theorem State.withDict_flash (x : DictState) : (s.withDict x).flash = s.flash := rfl
@[simp] theorem State.withDict_boot (x : DictState) : (s.withDict x).boot = s.boot := rfl
@[simp] theorem State.withDict_thermal (x : DictState) : (s.withDict x).thermal = s.thermal := rfl
@[simp] theorem State.get_withDict (x : DictState) (k : Nat) : (s.withDict x).get k = s.get k := rfl
@[simp] theorem State.dom_withDict (x : DictState) (d e : Nat) : (s.withDict x).dom d e = s.dom d e := rfl

@[simp] theorem State.withHost_pending (x : HostState) : (s.withHost x).pending = s.pending := rfl
@[simp] theorem State.withHost_objs (x : HostState) : (s.withHost x).objs = s.objs := rfl
@[simp] theorem State.withHost_doms (x : HostState) : (s.withHost x).doms = s.doms := rfl
@[simp] theorem State.withHost_free (x : HostState) : (s.withHost x).free = s.free := rfl
@[simp] theorem State.withHost_sent (x : HostState) : (s.withHost x).sent = s.sent := rfl
@[simp] theorem State.withHost_ev (x : HostState) : (s.withHost x).ev = s.ev := rfl
@[simp] theorem State.withHost_time (x : HostState) : (s.withHost x).time = s.time := rfl
@[simp] theorem State.withHost_parse (x : HostState) : (s.withHost x).parse = s.parse := rfl
@[simp] theorem State.withHost_tab (x : HostState) : (s.withHost x).tab = s.tab := rfl
@[simp] theorem State.withHost_net (x : HostState) : (s.withHost x).net = s.net := rfl
@[simp] theorem State.withHost_sched (x : HostState) : (s.withHost x).sched = s.sched := rfl
@[simp] theorem State.withHost_line (x : HostState) : (s.withHost x).line = s.line := rfl
@[simp] theorem State.withHost_fab (x : HostState) : (s.withHost x).fab = s.fab := rfl
@[simp] theorem State.withHost_hbm (x : HostState) : (s.withHost x).hbm = s.hbm := rfl
@[simp] theorem State.withHost_dict (x : HostState) : (s.withHost x).dict = s.dict := rfl
@[simp] theorem State.withHost_host (x : HostState) : (s.withHost x).host = x := rfl
@[simp] theorem State.withHost_msix (x : HostState) : (s.withHost x).msix = s.msix := rfl
@[simp] theorem State.withHost_cqs (x : HostState) : (s.withHost x).cqs = s.cqs := rfl
@[simp] theorem State.withHost_coica (x : HostState) : (s.withHost x).coica = s.coica := rfl
@[simp] theorem State.withHost_pair (x : HostState) : (s.withHost x).pair = s.pair := rfl
@[simp] theorem State.withHost_pw (x : HostState) : (s.withHost x).pw = s.pw := rfl
@[simp] theorem State.withHost_sec (x : HostState) : (s.withHost x).sec = s.sec := rfl
@[simp] theorem State.withHost_flash (x : HostState) : (s.withHost x).flash = s.flash := rfl
@[simp] theorem State.withHost_boot (x : HostState) : (s.withHost x).boot = s.boot := rfl
@[simp] theorem State.withHost_thermal (x : HostState) : (s.withHost x).thermal = s.thermal := rfl
@[simp] theorem State.get_withHost (x : HostState) (k : Nat) : (s.withHost x).get k = s.get k := rfl
@[simp] theorem State.dom_withHost (x : HostState) (d e : Nat) : (s.withHost x).dom d e = s.dom d e := rfl

@[simp] theorem State.withMsix_pending (x : MsixState) : (s.withMsix x).pending = s.pending := rfl
@[simp] theorem State.withMsix_objs (x : MsixState) : (s.withMsix x).objs = s.objs := rfl
@[simp] theorem State.withMsix_doms (x : MsixState) : (s.withMsix x).doms = s.doms := rfl
@[simp] theorem State.withMsix_free (x : MsixState) : (s.withMsix x).free = s.free := rfl
@[simp] theorem State.withMsix_sent (x : MsixState) : (s.withMsix x).sent = s.sent := rfl
@[simp] theorem State.withMsix_ev (x : MsixState) : (s.withMsix x).ev = s.ev := rfl
@[simp] theorem State.withMsix_time (x : MsixState) : (s.withMsix x).time = s.time := rfl
@[simp] theorem State.withMsix_parse (x : MsixState) : (s.withMsix x).parse = s.parse := rfl
@[simp] theorem State.withMsix_tab (x : MsixState) : (s.withMsix x).tab = s.tab := rfl
@[simp] theorem State.withMsix_net (x : MsixState) : (s.withMsix x).net = s.net := rfl
@[simp] theorem State.withMsix_sched (x : MsixState) : (s.withMsix x).sched = s.sched := rfl
@[simp] theorem State.withMsix_line (x : MsixState) : (s.withMsix x).line = s.line := rfl
@[simp] theorem State.withMsix_fab (x : MsixState) : (s.withMsix x).fab = s.fab := rfl
@[simp] theorem State.withMsix_hbm (x : MsixState) : (s.withMsix x).hbm = s.hbm := rfl
@[simp] theorem State.withMsix_dict (x : MsixState) : (s.withMsix x).dict = s.dict := rfl
@[simp] theorem State.withMsix_host (x : MsixState) : (s.withMsix x).host = s.host := rfl
@[simp] theorem State.withMsix_msix (x : MsixState) : (s.withMsix x).msix = x := rfl
@[simp] theorem State.withMsix_cqs (x : MsixState) : (s.withMsix x).cqs = s.cqs := rfl
@[simp] theorem State.withMsix_coica (x : MsixState) : (s.withMsix x).coica = s.coica := rfl
@[simp] theorem State.withMsix_pair (x : MsixState) : (s.withMsix x).pair = s.pair := rfl
@[simp] theorem State.withMsix_pw (x : MsixState) : (s.withMsix x).pw = s.pw := rfl
@[simp] theorem State.withMsix_sec (x : MsixState) : (s.withMsix x).sec = s.sec := rfl
@[simp] theorem State.withMsix_flash (x : MsixState) : (s.withMsix x).flash = s.flash := rfl
@[simp] theorem State.withMsix_boot (x : MsixState) : (s.withMsix x).boot = s.boot := rfl
@[simp] theorem State.withMsix_thermal (x : MsixState) : (s.withMsix x).thermal = s.thermal := rfl
@[simp] theorem State.get_withMsix (x : MsixState) (k : Nat) : (s.withMsix x).get k = s.get k := rfl
@[simp] theorem State.dom_withMsix (x : MsixState) (d e : Nat) : (s.withMsix x).dom d e = s.dom d e := rfl

@[simp] theorem State.withCqs_pending (x : Table CqState) : (s.withCqs x).pending = s.pending := rfl
@[simp] theorem State.withCqs_objs (x : Table CqState) : (s.withCqs x).objs = s.objs := rfl
@[simp] theorem State.withCqs_doms (x : Table CqState) : (s.withCqs x).doms = s.doms := rfl
@[simp] theorem State.withCqs_free (x : Table CqState) : (s.withCqs x).free = s.free := rfl
@[simp] theorem State.withCqs_sent (x : Table CqState) : (s.withCqs x).sent = s.sent := rfl
@[simp] theorem State.withCqs_ev (x : Table CqState) : (s.withCqs x).ev = s.ev := rfl
@[simp] theorem State.withCqs_time (x : Table CqState) : (s.withCqs x).time = s.time := rfl
@[simp] theorem State.withCqs_parse (x : Table CqState) : (s.withCqs x).parse = s.parse := rfl
@[simp] theorem State.withCqs_tab (x : Table CqState) : (s.withCqs x).tab = s.tab := rfl
@[simp] theorem State.withCqs_net (x : Table CqState) : (s.withCqs x).net = s.net := rfl
@[simp] theorem State.withCqs_sched (x : Table CqState) : (s.withCqs x).sched = s.sched := rfl
@[simp] theorem State.withCqs_line (x : Table CqState) : (s.withCqs x).line = s.line := rfl
@[simp] theorem State.withCqs_fab (x : Table CqState) : (s.withCqs x).fab = s.fab := rfl
@[simp] theorem State.withCqs_hbm (x : Table CqState) : (s.withCqs x).hbm = s.hbm := rfl
@[simp] theorem State.withCqs_dict (x : Table CqState) : (s.withCqs x).dict = s.dict := rfl
@[simp] theorem State.withCqs_host (x : Table CqState) : (s.withCqs x).host = s.host := rfl
@[simp] theorem State.withCqs_msix (x : Table CqState) : (s.withCqs x).msix = s.msix := rfl
@[simp] theorem State.withCqs_cqs (x : Table CqState) : (s.withCqs x).cqs = x := rfl
@[simp] theorem State.withCqs_coica (x : Table CqState) : (s.withCqs x).coica = s.coica := rfl
@[simp] theorem State.withCqs_pair (x : Table CqState) : (s.withCqs x).pair = s.pair := rfl
@[simp] theorem State.withCqs_pw (x : Table CqState) : (s.withCqs x).pw = s.pw := rfl
@[simp] theorem State.withCqs_sec (x : Table CqState) : (s.withCqs x).sec = s.sec := rfl
@[simp] theorem State.withCqs_flash (x : Table CqState) : (s.withCqs x).flash = s.flash := rfl
@[simp] theorem State.withCqs_boot (x : Table CqState) : (s.withCqs x).boot = s.boot := rfl
@[simp] theorem State.withCqs_thermal (x : Table CqState) : (s.withCqs x).thermal = s.thermal := rfl
@[simp] theorem State.get_withCqs (x : Table CqState) (k : Nat) : (s.withCqs x).get k = s.get k := rfl
@[simp] theorem State.dom_withCqs (x : Table CqState) (d e : Nat) : (s.withCqs x).dom d e = s.dom d e := rfl

@[simp] theorem State.withCoica_pending (x : CoicaState) : (s.withCoica x).pending = s.pending := rfl
@[simp] theorem State.withCoica_objs (x : CoicaState) : (s.withCoica x).objs = s.objs := rfl
@[simp] theorem State.withCoica_doms (x : CoicaState) : (s.withCoica x).doms = s.doms := rfl
@[simp] theorem State.withCoica_free (x : CoicaState) : (s.withCoica x).free = s.free := rfl
@[simp] theorem State.withCoica_sent (x : CoicaState) : (s.withCoica x).sent = s.sent := rfl
@[simp] theorem State.withCoica_ev (x : CoicaState) : (s.withCoica x).ev = s.ev := rfl
@[simp] theorem State.withCoica_time (x : CoicaState) : (s.withCoica x).time = s.time := rfl
@[simp] theorem State.withCoica_parse (x : CoicaState) : (s.withCoica x).parse = s.parse := rfl
@[simp] theorem State.withCoica_tab (x : CoicaState) : (s.withCoica x).tab = s.tab := rfl
@[simp] theorem State.withCoica_net (x : CoicaState) : (s.withCoica x).net = s.net := rfl
@[simp] theorem State.withCoica_sched (x : CoicaState) : (s.withCoica x).sched = s.sched := rfl
@[simp] theorem State.withCoica_line (x : CoicaState) : (s.withCoica x).line = s.line := rfl
@[simp] theorem State.withCoica_fab (x : CoicaState) : (s.withCoica x).fab = s.fab := rfl
@[simp] theorem State.withCoica_hbm (x : CoicaState) : (s.withCoica x).hbm = s.hbm := rfl
@[simp] theorem State.withCoica_dict (x : CoicaState) : (s.withCoica x).dict = s.dict := rfl
@[simp] theorem State.withCoica_host (x : CoicaState) : (s.withCoica x).host = s.host := rfl
@[simp] theorem State.withCoica_msix (x : CoicaState) : (s.withCoica x).msix = s.msix := rfl
@[simp] theorem State.withCoica_cqs (x : CoicaState) : (s.withCoica x).cqs = s.cqs := rfl
@[simp] theorem State.withCoica_coica (x : CoicaState) : (s.withCoica x).coica = x := rfl
@[simp] theorem State.withCoica_pair (x : CoicaState) : (s.withCoica x).pair = s.pair := rfl
@[simp] theorem State.withCoica_pw (x : CoicaState) : (s.withCoica x).pw = s.pw := rfl
@[simp] theorem State.withCoica_sec (x : CoicaState) : (s.withCoica x).sec = s.sec := rfl
@[simp] theorem State.withCoica_flash (x : CoicaState) : (s.withCoica x).flash = s.flash := rfl
@[simp] theorem State.withCoica_boot (x : CoicaState) : (s.withCoica x).boot = s.boot := rfl
@[simp] theorem State.withCoica_thermal (x : CoicaState) : (s.withCoica x).thermal = s.thermal := rfl
@[simp] theorem State.get_withCoica (x : CoicaState) (k : Nat) : (s.withCoica x).get k = s.get k := rfl
@[simp] theorem State.dom_withCoica (x : CoicaState) (d e : Nat) : (s.withCoica x).dom d e = s.dom d e := rfl

@[simp] theorem State.withPair_pending (x : PairState) : (s.withPair x).pending = s.pending := rfl
@[simp] theorem State.withPair_objs (x : PairState) : (s.withPair x).objs = s.objs := rfl
@[simp] theorem State.withPair_doms (x : PairState) : (s.withPair x).doms = s.doms := rfl
@[simp] theorem State.withPair_free (x : PairState) : (s.withPair x).free = s.free := rfl
@[simp] theorem State.withPair_sent (x : PairState) : (s.withPair x).sent = s.sent := rfl
@[simp] theorem State.withPair_ev (x : PairState) : (s.withPair x).ev = s.ev := rfl
@[simp] theorem State.withPair_time (x : PairState) : (s.withPair x).time = s.time := rfl
@[simp] theorem State.withPair_parse (x : PairState) : (s.withPair x).parse = s.parse := rfl
@[simp] theorem State.withPair_tab (x : PairState) : (s.withPair x).tab = s.tab := rfl
@[simp] theorem State.withPair_net (x : PairState) : (s.withPair x).net = s.net := rfl
@[simp] theorem State.withPair_sched (x : PairState) : (s.withPair x).sched = s.sched := rfl
@[simp] theorem State.withPair_line (x : PairState) : (s.withPair x).line = s.line := rfl
@[simp] theorem State.withPair_fab (x : PairState) : (s.withPair x).fab = s.fab := rfl
@[simp] theorem State.withPair_hbm (x : PairState) : (s.withPair x).hbm = s.hbm := rfl
@[simp] theorem State.withPair_dict (x : PairState) : (s.withPair x).dict = s.dict := rfl
@[simp] theorem State.withPair_host (x : PairState) : (s.withPair x).host = s.host := rfl
@[simp] theorem State.withPair_msix (x : PairState) : (s.withPair x).msix = s.msix := rfl
@[simp] theorem State.withPair_cqs (x : PairState) : (s.withPair x).cqs = s.cqs := rfl
@[simp] theorem State.withPair_coica (x : PairState) : (s.withPair x).coica = s.coica := rfl
@[simp] theorem State.withPair_pair (x : PairState) : (s.withPair x).pair = x := rfl
@[simp] theorem State.withPair_pw (x : PairState) : (s.withPair x).pw = s.pw := rfl
@[simp] theorem State.withPair_sec (x : PairState) : (s.withPair x).sec = s.sec := rfl
@[simp] theorem State.withPair_flash (x : PairState) : (s.withPair x).flash = s.flash := rfl
@[simp] theorem State.withPair_boot (x : PairState) : (s.withPair x).boot = s.boot := rfl
@[simp] theorem State.withPair_thermal (x : PairState) : (s.withPair x).thermal = s.thermal := rfl
@[simp] theorem State.get_withPair (x : PairState) (k : Nat) : (s.withPair x).get k = s.get k := rfl
@[simp] theorem State.dom_withPair (x : PairState) (d e : Nat) : (s.withPair x).dom d e = s.dom d e := rfl

@[simp] theorem State.withPw_pending (x : PowerState) : (s.withPw x).pending = s.pending := rfl
@[simp] theorem State.withPw_objs (x : PowerState) : (s.withPw x).objs = s.objs := rfl
@[simp] theorem State.withPw_doms (x : PowerState) : (s.withPw x).doms = s.doms := rfl
@[simp] theorem State.withPw_free (x : PowerState) : (s.withPw x).free = s.free := rfl
@[simp] theorem State.withPw_sent (x : PowerState) : (s.withPw x).sent = s.sent := rfl
@[simp] theorem State.withPw_ev (x : PowerState) : (s.withPw x).ev = s.ev := rfl
@[simp] theorem State.withPw_time (x : PowerState) : (s.withPw x).time = s.time := rfl
@[simp] theorem State.withPw_parse (x : PowerState) : (s.withPw x).parse = s.parse := rfl
@[simp] theorem State.withPw_tab (x : PowerState) : (s.withPw x).tab = s.tab := rfl
@[simp] theorem State.withPw_net (x : PowerState) : (s.withPw x).net = s.net := rfl
@[simp] theorem State.withPw_sched (x : PowerState) : (s.withPw x).sched = s.sched := rfl
@[simp] theorem State.withPw_line (x : PowerState) : (s.withPw x).line = s.line := rfl
@[simp] theorem State.withPw_fab (x : PowerState) : (s.withPw x).fab = s.fab := rfl
@[simp] theorem State.withPw_hbm (x : PowerState) : (s.withPw x).hbm = s.hbm := rfl
@[simp] theorem State.withPw_dict (x : PowerState) : (s.withPw x).dict = s.dict := rfl
@[simp] theorem State.withPw_host (x : PowerState) : (s.withPw x).host = s.host := rfl
@[simp] theorem State.withPw_msix (x : PowerState) : (s.withPw x).msix = s.msix := rfl
@[simp] theorem State.withPw_cqs (x : PowerState) : (s.withPw x).cqs = s.cqs := rfl
@[simp] theorem State.withPw_coica (x : PowerState) : (s.withPw x).coica = s.coica := rfl
@[simp] theorem State.withPw_pair (x : PowerState) : (s.withPw x).pair = s.pair := rfl
@[simp] theorem State.withPw_pw (x : PowerState) : (s.withPw x).pw = x := rfl
@[simp] theorem State.withPw_sec (x : PowerState) : (s.withPw x).sec = s.sec := rfl
@[simp] theorem State.withPw_flash (x : PowerState) : (s.withPw x).flash = s.flash := rfl
@[simp] theorem State.withPw_boot (x : PowerState) : (s.withPw x).boot = s.boot := rfl
@[simp] theorem State.withPw_thermal (x : PowerState) : (s.withPw x).thermal = s.thermal := rfl
@[simp] theorem State.get_withPw (x : PowerState) (k : Nat) : (s.withPw x).get k = s.get k := rfl
@[simp] theorem State.dom_withPw (x : PowerState) (d e : Nat) : (s.withPw x).dom d e = s.dom d e := rfl

@[simp] theorem State.withSec_pending (x : SecState) : (s.withSec x).pending = s.pending := rfl
@[simp] theorem State.withSec_objs (x : SecState) : (s.withSec x).objs = s.objs := rfl
@[simp] theorem State.withSec_doms (x : SecState) : (s.withSec x).doms = s.doms := rfl
@[simp] theorem State.withSec_free (x : SecState) : (s.withSec x).free = s.free := rfl
@[simp] theorem State.withSec_sent (x : SecState) : (s.withSec x).sent = s.sent := rfl
@[simp] theorem State.withSec_ev (x : SecState) : (s.withSec x).ev = s.ev := rfl
@[simp] theorem State.withSec_time (x : SecState) : (s.withSec x).time = s.time := rfl
@[simp] theorem State.withSec_parse (x : SecState) : (s.withSec x).parse = s.parse := rfl
@[simp] theorem State.withSec_tab (x : SecState) : (s.withSec x).tab = s.tab := rfl
@[simp] theorem State.withSec_net (x : SecState) : (s.withSec x).net = s.net := rfl
@[simp] theorem State.withSec_sched (x : SecState) : (s.withSec x).sched = s.sched := rfl
@[simp] theorem State.withSec_line (x : SecState) : (s.withSec x).line = s.line := rfl
@[simp] theorem State.withSec_fab (x : SecState) : (s.withSec x).fab = s.fab := rfl
@[simp] theorem State.withSec_hbm (x : SecState) : (s.withSec x).hbm = s.hbm := rfl
@[simp] theorem State.withSec_dict (x : SecState) : (s.withSec x).dict = s.dict := rfl
@[simp] theorem State.withSec_host (x : SecState) : (s.withSec x).host = s.host := rfl
@[simp] theorem State.withSec_msix (x : SecState) : (s.withSec x).msix = s.msix := rfl
@[simp] theorem State.withSec_cqs (x : SecState) : (s.withSec x).cqs = s.cqs := rfl
@[simp] theorem State.withSec_coica (x : SecState) : (s.withSec x).coica = s.coica := rfl
@[simp] theorem State.withSec_pair (x : SecState) : (s.withSec x).pair = s.pair := rfl
@[simp] theorem State.withSec_pw (x : SecState) : (s.withSec x).pw = s.pw := rfl
@[simp] theorem State.withSec_sec (x : SecState) : (s.withSec x).sec = x := rfl
@[simp] theorem State.withSec_flash (x : SecState) : (s.withSec x).flash = s.flash := rfl
@[simp] theorem State.withSec_boot (x : SecState) : (s.withSec x).boot = s.boot := rfl
@[simp] theorem State.withSec_thermal (x : SecState) : (s.withSec x).thermal = s.thermal := rfl
@[simp] theorem State.get_withSec (x : SecState) (k : Nat) : (s.withSec x).get k = s.get k := rfl
@[simp] theorem State.dom_withSec (x : SecState) (d e : Nat) : (s.withSec x).dom d e = s.dom d e := rfl

@[simp] theorem State.withFlash_pending (x : FlashState) : (s.withFlash x).pending = s.pending := rfl
@[simp] theorem State.withFlash_objs (x : FlashState) : (s.withFlash x).objs = s.objs := rfl
@[simp] theorem State.withFlash_doms (x : FlashState) : (s.withFlash x).doms = s.doms := rfl
@[simp] theorem State.withFlash_free (x : FlashState) : (s.withFlash x).free = s.free := rfl
@[simp] theorem State.withFlash_sent (x : FlashState) : (s.withFlash x).sent = s.sent := rfl
@[simp] theorem State.withFlash_ev (x : FlashState) : (s.withFlash x).ev = s.ev := rfl
@[simp] theorem State.withFlash_time (x : FlashState) : (s.withFlash x).time = s.time := rfl
@[simp] theorem State.withFlash_parse (x : FlashState) : (s.withFlash x).parse = s.parse := rfl
@[simp] theorem State.withFlash_tab (x : FlashState) : (s.withFlash x).tab = s.tab := rfl
@[simp] theorem State.withFlash_net (x : FlashState) : (s.withFlash x).net = s.net := rfl
@[simp] theorem State.withFlash_sched (x : FlashState) : (s.withFlash x).sched = s.sched := rfl
@[simp] theorem State.withFlash_line (x : FlashState) : (s.withFlash x).line = s.line := rfl
@[simp] theorem State.withFlash_fab (x : FlashState) : (s.withFlash x).fab = s.fab := rfl
@[simp] theorem State.withFlash_hbm (x : FlashState) : (s.withFlash x).hbm = s.hbm := rfl
@[simp] theorem State.withFlash_dict (x : FlashState) : (s.withFlash x).dict = s.dict := rfl
@[simp] theorem State.withFlash_host (x : FlashState) : (s.withFlash x).host = s.host := rfl
@[simp] theorem State.withFlash_msix (x : FlashState) : (s.withFlash x).msix = s.msix := rfl
@[simp] theorem State.withFlash_cqs (x : FlashState) : (s.withFlash x).cqs = s.cqs := rfl
@[simp] theorem State.withFlash_coica (x : FlashState) : (s.withFlash x).coica = s.coica := rfl
@[simp] theorem State.withFlash_pair (x : FlashState) : (s.withFlash x).pair = s.pair := rfl
@[simp] theorem State.withFlash_pw (x : FlashState) : (s.withFlash x).pw = s.pw := rfl
@[simp] theorem State.withFlash_sec (x : FlashState) : (s.withFlash x).sec = s.sec := rfl
@[simp] theorem State.withFlash_flash (x : FlashState) : (s.withFlash x).flash = x := rfl
@[simp] theorem State.withFlash_boot (x : FlashState) : (s.withFlash x).boot = s.boot := rfl
@[simp] theorem State.withFlash_thermal (x : FlashState) : (s.withFlash x).thermal = s.thermal := rfl
@[simp] theorem State.get_withFlash (x : FlashState) (k : Nat) : (s.withFlash x).get k = s.get k := rfl
@[simp] theorem State.dom_withFlash (x : FlashState) (d e : Nat) : (s.withFlash x).dom d e = s.dom d e := rfl

@[simp] theorem State.withBoot_pending (x : BootState) : (s.withBoot x).pending = s.pending := rfl
@[simp] theorem State.withBoot_objs (x : BootState) : (s.withBoot x).objs = s.objs := rfl
@[simp] theorem State.withBoot_doms (x : BootState) : (s.withBoot x).doms = s.doms := rfl
@[simp] theorem State.withBoot_free (x : BootState) : (s.withBoot x).free = s.free := rfl
@[simp] theorem State.withBoot_sent (x : BootState) : (s.withBoot x).sent = s.sent := rfl
@[simp] theorem State.withBoot_ev (x : BootState) : (s.withBoot x).ev = s.ev := rfl
@[simp] theorem State.withBoot_time (x : BootState) : (s.withBoot x).time = s.time := rfl
@[simp] theorem State.withBoot_parse (x : BootState) : (s.withBoot x).parse = s.parse := rfl
@[simp] theorem State.withBoot_tab (x : BootState) : (s.withBoot x).tab = s.tab := rfl
@[simp] theorem State.withBoot_net (x : BootState) : (s.withBoot x).net = s.net := rfl
@[simp] theorem State.withBoot_sched (x : BootState) : (s.withBoot x).sched = s.sched := rfl
@[simp] theorem State.withBoot_line (x : BootState) : (s.withBoot x).line = s.line := rfl
@[simp] theorem State.withBoot_fab (x : BootState) : (s.withBoot x).fab = s.fab := rfl
@[simp] theorem State.withBoot_hbm (x : BootState) : (s.withBoot x).hbm = s.hbm := rfl
@[simp] theorem State.withBoot_dict (x : BootState) : (s.withBoot x).dict = s.dict := rfl
@[simp] theorem State.withBoot_host (x : BootState) : (s.withBoot x).host = s.host := rfl
@[simp] theorem State.withBoot_msix (x : BootState) : (s.withBoot x).msix = s.msix := rfl
@[simp] theorem State.withBoot_cqs (x : BootState) : (s.withBoot x).cqs = s.cqs := rfl
@[simp] theorem State.withBoot_coica (x : BootState) : (s.withBoot x).coica = s.coica := rfl
@[simp] theorem State.withBoot_pair (x : BootState) : (s.withBoot x).pair = s.pair := rfl
@[simp] theorem State.withBoot_pw (x : BootState) : (s.withBoot x).pw = s.pw := rfl
@[simp] theorem State.withBoot_sec (x : BootState) : (s.withBoot x).sec = s.sec := rfl
@[simp] theorem State.withBoot_flash (x : BootState) : (s.withBoot x).flash = s.flash := rfl
@[simp] theorem State.withBoot_boot (x : BootState) : (s.withBoot x).boot = x := rfl
@[simp] theorem State.withBoot_thermal (x : BootState) : (s.withBoot x).thermal = s.thermal := rfl
@[simp] theorem State.get_withBoot (x : BootState) (k : Nat) : (s.withBoot x).get k = s.get k := rfl
@[simp] theorem State.dom_withBoot (x : BootState) (d e : Nat) : (s.withBoot x).dom d e = s.dom d e := rfl

@[simp] theorem State.withThermal_pending (x : ThermalState) : (s.withThermal x).pending = s.pending := rfl
@[simp] theorem State.withThermal_objs (x : ThermalState) : (s.withThermal x).objs = s.objs := rfl
@[simp] theorem State.withThermal_doms (x : ThermalState) : (s.withThermal x).doms = s.doms := rfl
@[simp] theorem State.withThermal_free (x : ThermalState) : (s.withThermal x).free = s.free := rfl
@[simp] theorem State.withThermal_sent (x : ThermalState) : (s.withThermal x).sent = s.sent := rfl
@[simp] theorem State.withThermal_ev (x : ThermalState) : (s.withThermal x).ev = s.ev := rfl
@[simp] theorem State.withThermal_time (x : ThermalState) : (s.withThermal x).time = s.time := rfl
@[simp] theorem State.withThermal_parse (x : ThermalState) : (s.withThermal x).parse = s.parse := rfl
@[simp] theorem State.withThermal_tab (x : ThermalState) : (s.withThermal x).tab = s.tab := rfl
@[simp] theorem State.withThermal_net (x : ThermalState) : (s.withThermal x).net = s.net := rfl
@[simp] theorem State.withThermal_sched (x : ThermalState) : (s.withThermal x).sched = s.sched := rfl
@[simp] theorem State.withThermal_line (x : ThermalState) : (s.withThermal x).line = s.line := rfl
@[simp] theorem State.withThermal_fab (x : ThermalState) : (s.withThermal x).fab = s.fab := rfl
@[simp] theorem State.withThermal_hbm (x : ThermalState) : (s.withThermal x).hbm = s.hbm := rfl
@[simp] theorem State.withThermal_dict (x : ThermalState) : (s.withThermal x).dict = s.dict := rfl
@[simp] theorem State.withThermal_host (x : ThermalState) : (s.withThermal x).host = s.host := rfl
@[simp] theorem State.withThermal_msix (x : ThermalState) : (s.withThermal x).msix = s.msix := rfl
@[simp] theorem State.withThermal_cqs (x : ThermalState) : (s.withThermal x).cqs = s.cqs := rfl
@[simp] theorem State.withThermal_coica (x : ThermalState) : (s.withThermal x).coica = s.coica := rfl
@[simp] theorem State.withThermal_pair (x : ThermalState) : (s.withThermal x).pair = s.pair := rfl
@[simp] theorem State.withThermal_pw (x : ThermalState) : (s.withThermal x).pw = s.pw := rfl
@[simp] theorem State.withThermal_sec (x : ThermalState) : (s.withThermal x).sec = s.sec := rfl
@[simp] theorem State.withThermal_flash (x : ThermalState) : (s.withThermal x).flash = s.flash := rfl
@[simp] theorem State.withThermal_boot (x : ThermalState) : (s.withThermal x).boot = s.boot := rfl
@[simp] theorem State.withThermal_thermal (x : ThermalState) : (s.withThermal x).thermal = x := rfl
@[simp] theorem State.get_withThermal (x : ThermalState) (k : Nat) : (s.withThermal x).get k = s.get k := rfl
@[simp] theorem State.dom_withThermal (x : ThermalState) (d e : Nat) : (s.withThermal x).dom d e = s.dom d e := rfl

@[simp] theorem State.get_setDom (d e v k : Nat) : (s.setDom d e v).get k = s.get k := rfl
@[simp] theorem State.get_setField (d e : Nat) (f : Field) (v k : Nat) : (s.setField d e f v).get k = s.get k := rfl
@[simp] theorem State.get_bumpField (d e : Nat) (f : Field) (n k : Nat) : (s.bumpField d e f n).get k = s.get k := rfl
@[simp] theorem State.get_defaultDoms (p : Nat → Bool) (k : Nat) : (s.defaultDoms p).get k = s.get k := rfl
@[simp] theorem State.get_emit (e : Emission) (k : Nat) : (s.emit e).get k = s.get k := by simp only [State.get, State.emit_objs]
@[simp] theorem State.get_answer (m j : Nat) (st : Status) (v k : Nat) : (s.answer m j st v).get k = s.get k := State.get_emit s _ k
@[simp] theorem State.dom_set (k v d e : Nat) : (s.set k v).dom d e = s.dom d e := rfl
@[simp] theorem State.dom_bump (k n d e : Nat) : (s.bump k n).dom d e = s.dom d e := rfl
@[simp] theorem State.dom_bumpW (w k n d e : Nat) : (s.bumpW w k n).dom d e = s.dom d e := rfl
@[simp] theorem State.dom_defaultObjs (p : Nat → Bool) (d e : Nat) : (s.defaultObjs p).dom d e = s.dom d e := rfl
@[simp] theorem State.dom_emit (x : Emission) (d e : Nat) : (s.emit x).dom d e = s.dom d e := by simp only [State.dom, State.emit_doms]
@[simp] theorem State.dom_answer (m j : Nat) (st : Status) (v d e : Nat) : (s.answer m j st v).dom d e = s.dom d e := State.dom_emit s _ d e

end Sys2Proof.Machine
end

