-- ==== Sys2Proof/Laws/Table.lean ====
section
/-! SUPPORT. Sparse tables in canonical form: what is read after a write, and that writes and filters keep the form. -/

namespace Sys2Proof.Machine

variable {α : Type} [DecidableEq α] {d : Nat → α}

/-- An entry of a canonical table lies above its lower bound. -/
theorem Table.get_below {t : Table α} {lo k : Nat} (h : Table.wfFrom d (some lo) t = true) (hk : k ≤ lo) : Table.get d t k = d k := by
  cases t with
  | nil => rfl
  | cons e t =>
    obtain ⟨k', v'⟩ := e
    simp only [Table.wfFrom, Bool.and_eq_true, decide_eq_true_eq] at h
    have h1 : k ≠ k' := by omega
    have h2 : k < k' := by omega
    simp [Table.get, h1, h2]

/-- A bound may be lowered. -/
theorem Table.wfFrom_weaken {t : Table α} {lo : Nat} {lo' : Option Nat} (h : Table.wfFrom d (some lo) t = true)
    (hl : ∀ l, lo' = some l → l ≤ lo) : Table.wfFrom d lo' t = true := by
  cases t with
  | nil => rfl
  | cons e t =>
    obtain ⟨k', v'⟩ := e
    simp only [Table.wfFrom, Bool.and_eq_true, decide_eq_true_eq] at h ⊢
    refine ⟨⟨?_, h.1.2⟩, h.2⟩
    cases lo' with
    | none => rfl
    | some l => have := hl l rfl; simp only [decide_eq_true_eq]; omega

theorem Table.put_wfFrom {t : Table α} {lo : Option Nat} {k : Nat} {v : α} (h : Table.wfFrom d lo t = true)
    (hk : ∀ l, lo = some l → l < k) : Table.wfFrom d lo (Table.put d t k v) = true := by
  induction t generalizing lo with
  | nil =>
    unfold Table.put
    split
    · rfl
    · rename_i hv
      simp only [Table.wfFrom, Bool.and_eq_true, decide_eq_true_eq]
      refine ⟨⟨?_, hv⟩, trivial⟩
      cases lo with
      | none => rfl
      | some l => simpa using hk l rfl
  | cons e t ih =>
    obtain ⟨k', v'⟩ := e
    have h0 := h
    simp only [Table.wfFrom, Bool.and_eq_true, decide_eq_true_eq] at h
    obtain ⟨⟨hlo, hne⟩, ht⟩ := h
    unfold Table.put
    split
    · rename_i hlt
      split
      · exact h0
      · rename_i hv
        simp only [Table.wfFrom, Bool.and_eq_true, decide_eq_true_eq]
        refine ⟨⟨?_, hv⟩, ⟨hlt, hne⟩, ht⟩
        cases lo with
        | none => rfl
        | some l => simpa using hk l rfl
    · rename_i hge
      split
      · rename_i heq
        subst heq
        split
        · exact Table.wfFrom_weaken ht (fun l hl => Nat.le_of_lt (hk l hl))
        · rename_i hv
          simp only [Table.wfFrom, Bool.and_eq_true, decide_eq_true_eq]
          exact ⟨⟨hlo, hv⟩, ht⟩
      · rename_i hkk
        simp only [Table.wfFrom, Bool.and_eq_true, decide_eq_true_eq]
        exact ⟨⟨hlo, hne⟩, ih ht (fun l hl => by cases hl; omega)⟩

/-- A write keeps the canonical form. -/
theorem Table.put_wf {t : Table α} {k : Nat} {v : α} (h : Table.wf d t = true) : Table.wf d (Table.put d t k v) = true :=
  Table.put_wfFrom h (fun _ hl => by cases hl)

theorem Table.get_put_self_from {t : Table α} {lo : Option Nat} {k : Nat} {v : α} (h : Table.wfFrom d lo t = true) :
    Table.get d (Table.put d t k v) k = v := by
  induction t generalizing lo with
  | nil =>
    unfold Table.put
    split
    · rename_i hv; rw [hv]; rfl
    · simp [Table.get]
  | cons e t ih =>
    obtain ⟨k', v'⟩ := e
    simp only [Table.wfFrom, Bool.and_eq_true, decide_eq_true_eq] at h
    unfold Table.put
    split
    · rename_i hlt
      split
      · rename_i hv
        have : k ≠ k' := by omega
        simp [Table.get, this, hlt, hv]
      · simp [Table.get]
    · split
      · rename_i heq
        split
        · rename_i hv
          rw [Table.get_below h.2 (by omega), hv]
        · simp [Table.get]
      · rename_i h1 h2
        simp only [Table.get, h1, h2, if_false]
        exact ih h.2

/-- What is written is read. -/
theorem Table.get_put_self {t : Table α} {k : Nat} {v : α} (h : Table.wf d t = true) : Table.get d (Table.put d t k v) k = v :=
  Table.get_put_self_from h

theorem Table.get_put_ne_from {t : Table α} {lo : Option Nat} {k j : Nat} {v : α} (h : Table.wfFrom d lo t = true) (hj : j ≠ k) :
    Table.get d (Table.put d t k v) j = Table.get d t j := by
  induction t generalizing lo with
  | nil =>
    unfold Table.put
    split
    · rfl
    · simp [Table.get, hj]
  | cons e t ih =>
    obtain ⟨k', v'⟩ := e
    simp only [Table.wfFrom, Bool.and_eq_true, decide_eq_true_eq] at h
    unfold Table.put
    split
    · rename_i hlt
      split
      · rfl
      · by_cases hjk : j < k
        · have h1 : j ≠ k' := by omega
          have h2 : j < k' := by omega
          simp [Table.get, hj, hjk, h1, h2]
        · simp [Table.get, hj, hjk]
    · split
      · rename_i heq
        subst heq
        split
        · by_cases hjk : j < k
          · rw [Table.get_below h.2 (by omega)]
            simp [Table.get, hj, hjk]
          · simp [Table.get, hj, hjk]
        · simp [Table.get, hj]
      · simp only [Table.get]
        split
        · rfl
        · split
          · rfl
          · exact ih h.2

/-- A write leaves every other entry alone. -/
theorem Table.get_put_ne {t : Table α} {k j : Nat} {v : α} (h : Table.wf d t = true) (hj : j ≠ k) :
    Table.get d (Table.put d t k v) j = Table.get d t j :=
  Table.get_put_ne_from h hj

theorem Table.filter_wfFrom {p : Nat × α → Bool} {t : Table α} {lo : Option Nat} (h : Table.wfFrom d lo t = true) :
    Table.wfFrom d lo (t.filter p) = true := by
  induction t generalizing lo with
  | nil => rfl
  | cons e t ih =>
    obtain ⟨k', v'⟩ := e
    have h0 := h
    simp only [Table.wfFrom, Bool.and_eq_true, decide_eq_true_eq] at h
    by_cases hp : p (k', v') = true
    · rw [List.filter_cons_of_pos hp]
      simp only [Table.wfFrom, Bool.and_eq_true, decide_eq_true_eq]
      exact ⟨h.1, ih h.2⟩
    · rw [List.filter_cons_of_neg hp]
      refine Table.wfFrom_weaken (ih h.2) (fun l hl => ?_)
      subst hl
      have := h.1.1
      simp only [decide_eq_true_eq] at this
      omega

/-- Leaving out entries keeps the canonical form. -/
theorem Table.keep_wf {p : Nat → Bool} {t : Table α} (h : Table.wf d t = true) : Table.wf d (Table.keep p t) = true :=
  Table.filter_wfFrom h

/-- An entry that is kept reads as before, one that is left out reads its default. -/
theorem Table.get_keep_from {p : Nat → Bool} {t : Table α} {lo : Option Nat} (k : Nat) (h : Table.wfFrom d lo t = true) :
    Table.get d (Table.keep p t) k = if p k then Table.get d t k else d k := by
  unfold Table.keep
  induction t generalizing lo with
  | nil => simp [Table.get]
  | cons e t ih =>
    obtain ⟨k', v'⟩ := e
    have h0 := h
    simp only [Table.wfFrom, Bool.and_eq_true, decide_eq_true_eq] at h
    have hi := ih h.2
    by_cases hp : p k' = true
    · rw [List.filter_cons_of_pos (by simpa using hp)]
      simp only [Table.get]
      by_cases hk : k = k'
      · subst hk; simp [hp]
      · by_cases hl : k < k'
        · simp [hk, hl]
        · simp [hk, hl, hi]
    · rw [List.filter_cons_of_neg (by simpa using hp), hi]
      by_cases hk : k = k'
      · subst hk; simp [hp]
      · by_cases hl : k < k'
        · simp [Table.get, hk, hl, Table.get_below h.2 (Nat.le_of_lt hl)]
        · simp [Table.get, hk, hl]

theorem Table.get_keep {p : Nat → Bool} {t : Table α} (k : Nat) (h : Table.wf d t = true) :
    Table.get d (Table.keep p t) k = if p k then Table.get d t k else d k :=
  Table.get_keep_from k h

end Sys2Proof.Machine
end

