-- ==== Sys2Proof/Laws/Ops.lean ====
section
/-! SUPPORT. Objects and DOMAIN entries after an elementary update of a canonical state, and the frames of statements. -/

namespace Sys2Proof.Machine

variable {s t u : State}

theorem State.objsWf_of_objs (h : s.objsWf) (e : t.objs = s.objs) : t.objsWf := by simpa only [State.objsWf, e] using h
theorem State.domsWf_of_doms (h : s.domsWf) (e : t.doms = s.doms) : t.domsWf := by simpa only [State.domsWf, e] using h

theorem State.objsWf_set (h : s.objsWf) (k v : Nat) : (s.set k v).objsWf := Table.put_wf h
theorem State.objsWf_bump (h : s.objsWf) (k n : Nat) : (s.bump k n).objsWf := Table.put_wf h
theorem State.objsWf_bumpW (h : s.objsWf) (w k n : Nat) : (s.bumpW w k n).objsWf := Table.put_wf h
theorem State.objsWf_defaultObjs (h : s.objsWf) (p : Nat → Bool) : (s.defaultObjs p).objsWf :=
  Table.keep_wf (p := fun k => !p k) h
theorem State.domsWf_setDom (h : s.domsWf) (d e v : Nat) : (s.setDom d e v).domsWf := Table.put_wf h
theorem State.domsWf_setField (h : s.domsWf) (d e : Nat) (f : Field) (v : Nat) : (s.setField d e f v).domsWf := Table.put_wf h
theorem State.domsWf_bumpField (h : s.domsWf) (d e : Nat) (f : Field) (n : Nat) : (s.bumpField d e f n).domsWf := Table.put_wf h
theorem State.domsWf_defaultDoms (h : s.domsWf) (p : Nat → Bool) : (s.defaultDoms p).domsWf :=
  Table.keep_wf (p := fun k => !p k) h

/-- A written object reads as written. -/
theorem State.get_set_self (h : s.objsWf) (k v : Nat) : (s.set k v).get k = v := Table.get_put_self h
/-- Every other object reads as before. -/
theorem State.get_set_ne (h : s.objsWf) {k j : Nat} (hj : j ≠ k) (v : Nat) : (s.set k v).get j = s.get j := Table.get_put_ne h hj
theorem State.get_bump_self (h : s.objsWf) (k n : Nat) : (s.bump k n).get k = wrapAdd 64 (s.get k) n := Table.get_put_self h
theorem State.get_bump_ne (h : s.objsWf) {k j : Nat} (hj : j ≠ k) (n : Nat) : (s.bump k n).get j = s.get j := Table.get_put_ne h hj
theorem State.get_bumpW_self (h : s.objsWf) (w k n : Nat) : (s.bumpW w k n).get k = wrapAdd w (s.get k) n := Table.get_put_self h
theorem State.get_bumpW_ne (h : s.objsWf) {k j : Nat} (hj : j ≠ k) (w n : Nat) : (s.bumpW w k n).get j = s.get j :=
  Table.get_put_ne h hj
theorem State.get_defaultObjs (h : s.objsWf) (p : Nat → Bool) (k : Nat) :
    (s.defaultObjs p).get k = if p k then objDefault k else s.get k := by
  have := Table.get_keep (p := fun k => !p k) k h
  simp only [State.get, State.defaultObjs, this]
  cases p k <;> rfl

/-- A written DOMAIN entry reads as written. -/
theorem State.domAt_setDom_self (h : s.domsWf) (d e v : Nat) : (s.setDom d e v).domAt (domKey d e) = v := Table.get_put_self h
/-- Every other DOMAIN entry reads as before. -/
theorem State.domAt_setDom_ne (h : s.domsWf) {d e k : Nat} (hk : k ≠ domKey d e) (v : Nat) : (s.setDom d e v).domAt k = s.domAt k :=
  Table.get_put_ne h hk
theorem State.dom_setDom_self (h : s.domsWf) (d e v : Nat) : (s.setDom d e v).dom d e = v := Table.get_put_self h

@[simp] theorem State.domAt_set (k v j : Nat) : (s.set k v).domAt j = s.domAt j := rfl
@[simp] theorem State.domAt_bump (k n j : Nat) : (s.bump k n).domAt j = s.domAt j := rfl
@[simp] theorem State.domAt_bumpW (w k n j : Nat) : (s.bumpW w k n).domAt j = s.domAt j := rfl
@[simp] theorem State.domAt_emit (e : Emission) (j : Nat) : (s.emit e).domAt j = s.domAt j := by simp only [State.domAt, State.emit_doms]

/-- Nothing changes. -/
theorem Frame.refl (objs doms : Nat → Bool) (parts : List Part) (s : State) : Frame objs doms parts s s :=
  ⟨fun _ _ => rfl, fun _ _ => rfl, fun p _ => by cases p <;> rfl⟩

/-- Two changes in a row. -/
theorem Frame.trans {objs doms : Nat → Bool} {parts : List Part} (h : Frame objs doms parts s t) (g : Frame objs doms parts t u) :
    Frame objs doms parts s u :=
  ⟨fun k hk => (g.1 k hk).trans (h.1 k hk), fun k hk => (g.2.1 k hk).trans (h.2.1 k hk), fun p hp => by
    have a := h.2.2 p hp
    have b := g.2.2 p hp
    cases p <;> simp only [Part.same] at a b ⊢ <;> exact b.trans a⟩

/-- A frame may allow more. -/
theorem Frame.mono {objs objs' doms doms' : Nat → Bool} {parts parts' : List Part} (h : Frame objs doms parts s t)
    (ho : ∀ k, objs' k = false → objs k = false) (hd : ∀ k, doms' k = false → doms k = false) (hp : ∀ p, p ∈ parts → p ∈ parts') :
    Frame objs' doms' parts' s t :=
  ⟨fun k hk => h.1 k (ho k hk), fun k hk => h.2.1 k (hd k hk), fun p hn => h.2.2 p (fun hm => hn (hp p hm))⟩

/-- Setting an object changes that object. -/
theorem Frame.set (h : s.objsWf) {objs doms : Nat → Bool} {parts : List Part} {k : Nat} (hk : objs k = true) (v : Nat) :
    Frame objs doms parts s (s.set k v) :=
  ⟨fun j hj => State.get_set_ne h (fun e => by rw [e, hk] at hj; cases hj) v, fun _ _ => rfl, fun p _ => by cases p <;> rfl⟩

/-- What leaves the device is recorded in `sent` only. -/
theorem Frame.emit {objs doms : Nat → Bool} {parts : List Part} (hp : Part.sent ∈ parts) (e : Emission) :
    Frame objs doms parts s (s.emit e) :=
  ⟨fun k _ => State.get_emit s e k, fun k _ => State.domAt_emit e k, fun p hn => by
    cases p <;> first | exact absurd hp hn | (simp only [Part.same, State.emit_pending, State.emit_free, State.emit_ev, State.emit_time,
      State.emit_parse, State.emit_tab, State.emit_net, State.emit_sched, State.emit_line, State.emit_fab, State.emit_hbm, State.emit_dict,
      State.emit_host, State.emit_msix, State.emit_cqs, State.emit_coica, State.emit_pair, State.emit_pw, State.emit_sec, State.emit_flash,
      State.emit_boot, State.emit_thermal])⟩

/-- The machine right after reset is canonical. -/
theorem State.reset_objs : State.reset.objs = [] := rfl
theorem State.reset_doms : State.reset.doms = [] := rfl

end Sys2Proof.Machine
end

