-- ==== Sys2Proof/Laws/Events.lean ====
section
/-! SUPPORT. What raising an event and logging its record may change (R549 to R557): frames below fatal, and the canonical form. -/

namespace Sys2Proof.Machine

variable {s t : State} {objs : Nat → Bool} {parts : List Part}

/-- The objects that logging and delivering a record may change (R551, R554 to R557): CQ_CONFIG, EVENT_CTRL, EVENT_LAST and EMERG_DROPS. -/
def deliveryObjs (k : Nat) : Bool :=
  Nat.beq (keyIdx k) 0x1111 || Nat.beq (keyIdx k) 0x1800 || Nat.beq (keyIdx k) 0x1801 || Nat.beq k Obj.COICA_STATS_EMERG_DROPS

/-- The parts that logging and delivering a record may change: the log, the rings, MSI-X, the emergency queue and what leaves. -/
def deliveryParts : List Part := [.ev, .sent, .msix, .cqs, .coica]

/-- What an operation of the event machinery keeps: canonical tables, DOMAIN entries, and everything its frame does not name. -/
structure EventStep (objs : Nat → Bool) (parts : List Part) (s t : State) : Prop where
  wf : s.objsWf → t.objsWf
  doms : t.doms = s.doms
  frame : s.objsWf → Frame objs noKey parts s t

theorem EventStep.refl (s : State) : EventStep objs parts s s := ⟨id, rfl, fun _ => Frame.refl _ _ _ s⟩

theorem EventStep.trans {u : State} (h : EventStep objs parts s t) (g : EventStep objs parts t u) : EventStep objs parts s u :=
  ⟨fun w => g.wf (h.wf w), g.doms.trans h.doms, fun w => (h.frame w).trans (g.frame (h.wf w))⟩

/-- An object of the frame is set. -/
theorem EventStep.set {k : Nat} (hk : objs k = true) (v : Nat) : EventStep objs parts s (s.set k v) :=
  ⟨fun w => State.objsWf_set w k v, rfl, fun w => Frame.set w hk v⟩

/-- Parts of the frame change. -/
theorem EventStep.ofParts (ho : t.objs = s.objs) (hd : t.doms = s.doms) (hp : ∀ p, p ∉ parts → p.same s t) :
    EventStep objs parts s t :=
  ⟨fun w => State.objsWf_of_objs w ho, hd,
   fun _ => ⟨fun k _ => by simp only [State.get, ho], fun k _ => by simp only [State.domAt, hd], hp⟩⟩

theorem EventStep.emit (h : Part.sent ∈ parts) (e : Emission) : EventStep objs parts s (s.emit e) :=
  ⟨fun w => State.objsWf_of_objs w (State.emit_objs s e), State.emit_doms s e, fun _ => Frame.emit h e⟩

theorem EventStep.withEv (h : Part.ev ∈ parts) (x : EventState) : EventStep objs parts s (s.withEv x) :=
  EventStep.ofParts rfl rfl (fun p hp => by cases p <;> first | rfl | exact absurd h hp)

/-! ### The occurrence of an event -/

theorem eventClass_lt (code : Nat) : eventClass code < 16 := by
  unfold eventClass bits
  exact Nat.mod_lt _ (by decide)

theorem eventObjs_count {y : Nat} (h : y < 4) : eventObjs (Obj.EVENT_LAST_COUNT y) = true := by
  have : y = 0 ∨ y = 1 ∨ y = 2 ∨ y = 3 := by omega
  rcases this with rfl | rfl | rfl | rfl <;> decide

theorem EventStep.countEvent (e : Ev) (hc : eventClass e.code < 4) : EventStep eventObjs eventParts s (s.countEvent e).2 := by
  have hb : EventStep eventObjs eventParts s (s.bump (Obj.EVENT_LAST_COUNT (eventClass e.code))) := EventStep.set (eventObjs_count hc) _
  unfold State.countEvent
  dsimp only
  split
  · exact hb.trans (EventStep.set (by decide) _)
  · split
    · exact hb
    · exact hb.trans (EventStep.withEv (by decide) _)

/-- An occurrence below fatal, E-6102 apart, is counted and perhaps left for the log; nothing follows at once. -/
theorem EventStep.raise1 (e : Ev) (hf : eventClass e.code < 3) (hh : e.code ≠ 0x6102) :
    EventStep eventObjs eventParts s (s.raise1 e).2 ∧ (s.raise1 e).1 = [] := by
  have h0 := EventStep.countEvent (s := s) e (by omega)
  have h3 : eventClass e.code ≠ 3 := by omega
  unfold State.raise1
  dsimp only
  rw [if_neg h3, if_neg hh]
  refine ⟨?_, rfl⟩
  dsimp only
  split
  · exact h0.trans (EventStep.withEv (by decide) _)
  · exact h0

theorem EventStep.raiseList (l : List Ev) (s : State) (hl : ∀ e ∈ l, eventClass e.code < 3 ∧ e.code ≠ 0x6102) :
    EventStep eventObjs eventParts s (State.raiseList l s) := by
  induction l generalizing s with
  | nil => exact EventStep.refl s
  | cons e l ih =>
    have h := (EventStep.raise1 (s := s) e (hl e (by simp)).1 (hl e (by simp)).2).1
    exact h.trans (ih _ fun x hx => hl x (by simp [hx]))

/-- Raising an event below fatal, E-6102 apart, changes what R550 and R553 name and nothing else. -/
theorem EventStep.raise (code unit arg scope : Nat) (hf : eventClass code < 3) (hh : code ≠ 0x6102) :
    EventStep eventObjs eventParts s (s.raise code unit arg scope) := by
  have h := EventStep.raise1 (s := s) ⟨code, unit, arg, scope⟩ hf hh
  unfold State.raise
  dsimp only
  rw [h.2]
  exact h.1

/-- An object outside the event machinery reads as before. -/
theorem State.get_raise (w : s.objsWf) {code unit arg scope k : Nat} (hf : eventClass code < 3) (hh : code ≠ 0x6102)
    (hk : eventObjs k = false) : (s.raise code unit arg scope).get k = s.get k :=
  ((EventStep.raise code unit arg scope hf hh).frame w).1 k hk

/-! ### Its record -/

theorem deliveryObjs_key {n i sub : Nat} (hi : i = 0x1111 ∨ i = 0x1800 ∨ i = 0x1801) (hs : sub < 256) :
    deliveryObjs (objKey n i sub) = true := by
  have h : keyIdx (objKey n i sub) = i := by simp only [keyIdx, objKey]; omega
  unfold deliveryObjs
  rw [h]
  rcases hi with rfl | rfl | rfl <;> rfl

/-- Every step of an occurrence is one of logging. -/
theorem EventStep.deliver (h : EventStep eventObjs eventParts s t) : EventStep deliveryObjs deliveryParts s t :=
  ⟨h.wf, h.doms, fun w => (h.frame w).mono
    (fun k hk => by
      cases he : eventObjs k
      · rfl
      · unfold eventObjs at he
        simp only [Bool.or_eq_true, List.any_eq_true, List.mem_range] at he
        rcases he with ⟨y, hy, e⟩ | e
        · rw [Nat.eq_of_beq_eq_true e] at hk
          have : deliveryObjs (Obj.EVENT_LAST_COUNT y) = true := deliveryObjs_key (by simp) (by omega)
          rw [this] at hk; cases hk
        · rw [Nat.eq_of_beq_eq_true e] at hk; exact absurd hk (by decide))
    (fun _ h => h) (fun p hp => by cases p <;> first | decide | exact absurd hp (by decide))⟩

abbrev Delivery (s t : State) : Prop := EventStep deliveryObjs deliveryParts s t

theorem Delivery.signal (fn vec : Nat) : Delivery s (s.signal fn vec) := by
  unfold State.signal
  split
  · exact EventStep.ofParts rfl rfl (fun p hp => by cases p <;> first | rfl | exact absurd (by decide) hp)
  · exact EventStep.emit (by decide) _

theorem Delivery.setCq (n : Nat) (c : CqState) : Delivery s (s.setCq n c) :=
  EventStep.ofParts rfl rfl (fun p hp => by cases p <;> first | rfl | exact absurd (by decide) hp)

theorem Delivery.setKey {n i sub : Nat} (hi : i = 0x1111 ∨ i = 0x1800 ∨ i = 0x1801) (hs : sub < 256) (v : Nat) :
    Delivery s (s.set (objKey n i sub) v) := EventStep.set (deliveryObjs_key hi hs) v

theorem Delivery.cqSignal (cq : Nat) : Delivery s (s.cqSignal cq) := by
  unfold State.cqSignal
  dsimp only
  split
  · exact EventStep.refl s
  · split
    · exact (Delivery.setCq _ _).trans (Delivery.signal _ _)
    · exact EventStep.refl s

theorem Delivery.cqShow (cq : Nat) : Delivery s (s.cqShow cq) := by
  unfold State.cqShow
  dsimp only
  split
  · exact EventStep.refl s
  · exact Delivery.setKey (by simp) (by decide) _

theorem Delivery.cqWrite (cq : Nat) (e : CqEntry) : Delivery s (s.cqWrite cq e) := by
  unfold State.cqWrite
  dsimp only
  exact (((((EventStep.emit (by decide) _).trans (Delivery.setKey (by simp) (by decide) _)).trans
    (Delivery.setKey (by simp) (by decide) _)).trans (Delivery.cqShow _)).trans (Delivery.setCq _ _)).trans (Delivery.cqSignal _)

theorem Delivery.stashPush (cq : Nat) (e : CqEntry) : Delivery s (s.stashPush cq e) := by
  unfold State.stashPush
  dsimp only
  exact ((Delivery.setCq _ _).trans (Delivery.setKey (by simp) (by decide) _)).trans (Delivery.cqShow _)

theorem Delivery.stashFull (cq : Nat) : Delivery s (s.stashFull cq) :=
  (Delivery.setCq _ _).trans (Delivery.setKey (by simp) (by decide) _)

theorem Delivery.alarm (y : Nat) : Delivery s (s.alarm y) := by
  unfold State.alarm
  split
  · exact EventStep.refl s
  · dsimp only
    have h1 : Delivery s (s.set Obj.EVENT_CTRL_ALARM_PENDING (Nat.lor (s.get Obj.EVENT_CTRL_ALARM_PENDING) (2 ^ y))) :=
      Delivery.setKey (by simp) (by decide) _
    split
    · exact h1
    · split
      · exact (h1.trans (EventStep.withEv (by decide) _)).trans (EventStep.emit (by decide) _)
      · exact ((h1.trans (EventStep.withEv (by decide) _)).trans (EventStep.emit (by decide) _)).trans (Delivery.signal _ _)

/-- Events that follow from a delivery: rings that fill, drop or lose entries, never fatal. -/
def followCode (c : Nat) : Bool := Nat.beq c 0x8101 || Nat.beq c 0x1130 || Nat.beq c 0x8109

theorem followCode_class {c : Nat} (h : followCode c = true) : eventClass c < 3 ∧ c ≠ 0x6102 := by
  simp only [followCode, Bool.or_eq_true] at h
  rcases h with (h | h) | h <;> (obtain rfl := Nat.eq_of_beq_eq_true h; decide)

theorem Delivery.eventRing (e : Ev) (num : Nat) :
    Delivery s (s.eventRing e num).2 ∧ ∀ x ∈ (s.eventRing e num).1, followCode x.code = true := by
  unfold State.eventRing
  dsimp only
  split
  · exact ⟨EventStep.refl s, by simp⟩
  · split
    · exact ⟨Delivery.cqWrite _ _, by simp⟩
    · split
      · split
        · exact ⟨(Delivery.stashPush _ _).trans (Delivery.stashFull _), by simp [followCode]⟩
        · exact ⟨Delivery.stashPush _ _, by simp⟩
      · exact ⟨Delivery.setKey (by simp) (by decide) _, by simp [followCode]⟩

theorem Delivery.emergency (r : EventRec) :
    Delivery s (s.emergency r).2 ∧ ∀ x ∈ (s.emergency r).1, followCode x.code = true := by
  unfold State.emergency
  split
  · exact ⟨EventStep.refl s, by simp⟩
  · split
    · exact ⟨EventStep.ofParts rfl rfl (fun p hp => by cases p <;> first | rfl | exact absurd (by decide) hp), by simp⟩
    · exact ⟨EventStep.set (by decide) _, by simp [followCode]⟩

/-- Logging a record changes what R551 and R554 to R557 name, and what follows from its delivery is never fatal. -/
theorem Delivery.logRecord (d : EventRec) :
    Delivery s (s.logRecord d).2 ∧ ∀ x ∈ (s.logRecord d).1, followCode x.code = true := by
  have hc := eventClass_lt d.code
  unfold State.logRecord
  refine ⟨?_, ?_⟩
  · dsimp only
    refine EventStep.trans ?_ (Delivery.alarm _)
    refine EventStep.trans ?_ (Delivery.emergency _).1
    refine EventStep.trans ?_ (Delivery.eventRing _ _).1
    refine EventStep.trans ?_ (Delivery.setKey (by simp) (by omega) _)
    refine EventStep.trans ?_ (Delivery.setKey (by simp) (by decide) _)
    split
    · exact (EventStep.withEv (by decide) _).trans (Delivery.setKey (by simp) (by decide) _)
    · exact EventStep.withEv (by decide) _
  · intro x hx
    dsimp only at hx
    rcases List.mem_append.mp hx with hx | hx
    · exact (Delivery.eventRing _ _).2 x hx
    · exact (Delivery.emergency _).2 x hx

/-- Logging the first record of an instant changes what R550 to R557 name and nothing else. -/
theorem Delivery.logNext (s : State) : Delivery s s.logNext := by
  unfold State.logNext
  split
  · exact EventStep.refl s
  · dsimp only
    refine EventStep.trans ?_ (EventStep.raiseList _ _ fun e he => followCode_class ((Delivery.logRecord _).2 e he)).deliver
    exact (EventStep.withEv (by decide) _).trans (Delivery.logRecord _).1

/-- So does the end of an instant for the events. -/
theorem Delivery.logCycle (s : State) : Delivery s s.logCycle := by
  unfold State.logCycle
  generalize List.range _ = l
  induction l generalizing s with
  | nil => exact EventStep.refl s
  | cons _ l ih => exact (Delivery.logNext s).trans (ih _)

end Sys2Proof.Machine
end

