-- ==== Sys2Proof/Laws/Hbm.lean ====
section
/-! SUPPORT. What storing a sector may change: the memory of HBM0 to HBM2 in its canonical form, the records of HBM3, and nothing else. -/

namespace Sys2Proof.Machine

/-- What every element's step keeps, the whole loop keeps. -/
theorem forEach_keeps {α : Type} {P : State → Prop} {f : State → α → State} (l : List α) (s : State) (h : P s)
    (hf : ∀ (s : State) (a : α), P s → P (f s a)) : P (forEach l s f) := by
  unfold forEach
  induction l generalizing s with
  | nil => exact h
  | cons a l ih => exact ih _ (hf s a h)

/-- A store keeps the canonical form of the sectors of HBM0 to HBM2. -/
theorem State.hbmStore_wf {s : State} (h : Table.wf zeroN s.hbm.cells = true) (stack sector mask : Nat) (data : List Byte) :
    Table.wf zeroN (s.hbmStore stack sector mask data).hbm.cells = true := by
  unfold State.hbmStore
  split
  · exact Table.put_wf h
  · refine forEach_keeps (P := fun s => Table.wf zeroN s.hbm.cells = true) _ s h (fun s j hs => ?_)
    split <;> exact hs

/-- A store leaves every other sector of HBM0 to HBM2 alone. -/
theorem State.hbmStore_cells {s : State} (h : Table.wf zeroN s.hbm.cells = true) {stack : Nat} (hs : stack < 3) (sector mask k : Nat)
    (data : List Byte) (hk : k ≠ s.hbmKey stack sector) :
    Table.get zeroN (s.hbmStore stack sector mask data).hbm.cells k = Table.get zeroN s.hbm.cells k := by
  unfold State.hbmStore
  rw [if_pos hs]
  exact Table.get_put_ne h hk

end Sys2Proof.Machine
end

