-- ==== Sys2Proof/WellFormed.lean ====
section
/-! DEFINITION. Which commands the outside can present: an access comes from a master identity of R7, a frame has bytes, a cell 256
and a link frame 4,128 of them, a pushed entry 64, an HBM address lies in its space, a mate header's fields fit their places. -/

namespace Sys2Proof

/-- The master identities of R7. -/
def listedMaster (m : Nat) : Bool := (Nat.ble 1 m && Nat.ble m 33) || (Nat.ble 40 m && Nat.ble m 43)

/-- A byte of the 48 GB of H0's buffers, or a sector of a stack's 2^28 (R351). -/
def addressOk : HbmSpace → Nat → Bool
  | .buffer, b => Nat.blt b 51539607552
  | .stack _, a => Nat.blt a 268435456

/-- Header fields of a mate message within their places (R463). -/
def headOk (h : MateHead) : Bool :=
  Nat.blt h.epoch (2 ^ 32) && Nat.blt h.cycle (2 ^ 32) && Nat.blt h.seq (2 ^ 64) && Nat.blt h.flags 256 && Nat.blt h.role 4

/-- The master whose access a command is. -/
def Instr.sender : Instr → Option Nat
  | .stateReq master _ => some master
  | .freqAdj master _ => some master
  | .step master _ => some master
  | .airClockEnable _ master _ => some master
  | .dayOffset master _ => some master
  | .activeBank master _ => some master
  | .restoreDefault master _ => some master
  | .keyProfileSlots _ _ master _ => some master
  | .commit _ master _ => some master
  | .stampUnit _ master _ => some master
  | .emTableEnable _ master _ => some master
  | .emTableGeometry _ _ master _ => some master
  | .tcamTableEnable _ master _ => some master
  | .tcamBankWidth _ master _ => some master
  | .bufEnable master _ => some master
  | .flushQueue master _ => some master
  | .shaperProfileWrite _ _ master _ => some master
  | .portEnable _ master _ => some master
  | .trigger _ master _ => some master
  | .fabricEnable master _ => some master
  | .slEnable _ master _ => some master
  | .hbmRegionOrder _ _ master _ => some master
  | .windowWrite master _ _ _ => some master
  | .rcRead master _ _ => some master
  | .slowWriteDone master => some master
  | .dictLock master _ => some master
  | .store master _ => some master
  | .clear master _ => some master
  | .sqEnable master _ => some master
  | .cqEnable master _ => some master
  | .vfResources _ _ master _ => some master
  | .mbBinding _ master _ => some master
  | .send _ master _ => some master
  | .ack _ master _ => some master
  | .lockRead _ master => some master
  | .lockRelease _ master _ => some master
  | .dbPendingClear master _ => some master
  | .dbMask master _ => some master
  | .stationAddr master _ => some master
  | .role master _ => some master
  | .wpWrite _ _ master _ => some master
  | .wRenew master _ => some master
  | .wTakeover master _ => some master
  | .command master _ => some master
  | .pairEnable master _ => some master
  | .fwHeartbeat master _ => some master
  | .latTolNs _ master _ => some master
  | .pwrReq _ master _ => some master
  | .wakeReq master _ => some master
  | .provisionProvisioned master => some master
  | .provisionDecommission master => some master
  | .svnAdvance master _ => some master
  | .keyHash _ master _ => some master
  | .dbgChallenge master => some master
  | .tokenObserve master _ => some master
  | .tokenInvasive master _ => some master
  | .tokenTransition master _ => some master
  | .tokenRevoke master _ => some master
  | .dbgDrop master _ => some master
  | .warmReset master _ => some master
  | .dieResetF master => some master
  | .dieResetT master => some master
  | .sectorReset master _ => some master
  | .unitReset master _ => some master
  | .fwRestart master _ => some master
  | .updateBegin master => some master
  | .updateCommit master => some master
  | .updateAbort master => some master
  | .fwAccept master _ => some master
  | .alarmPendingClear master _ => some master
  | .autoHoldover .. | .shadowRealign | .timebaseLoad | .timeSyncWord | .timeWordMissed | .ppsOut | .ppsIn | .todMessage ..
  | .dispatch | .airNop | .gateCycle | .pageSwitch | .sampleMarked | .mateCycle | .prewake | .snapshot | .hostEvent
  | .binBoundary | .rxFrame .. | .ingressPipeline .. | .meterDecide .. | .mcReplicate .. | .d2dReplay .. | .d2dRetrain
  | .d2dLinkFail | .emInsert .. | .emDelete .. | .emLookup .. | .emReadIndex .. | .emUnlock .. | .routeAdd ..
  | .routeDelete .. | .routeRead .. | .routeMatch .. | .labelWrite .. | .labelRead .. | .tcamWrite .. | .tcamRead ..
  | .tcamInvalidate .. | .tcamMove .. | .learn .. | .learnStashDrain .. | .stampTick .. | .agerRead ..
  | .agerCompareDelete .. | .scrubRow .. | .lpmLoss | .tcamScrub .. | .poolActivate .. | .poolDeactivate .. | .recirculate
  | .egressPipeline .. | .admission .. | .d2dUnit .. | .stagingDone | .idleMap | .dequeueDecision .. | .voqSend ..
  | .grant .. | .creditGenerate .. | .sampleRound | .queueSample .. | .shaperRelease .. | .meterSweep .. | .gateEntryEnd ..
  | .linkCondition .. | .linkDown .. | .linkUp .. | .pauseFrame .. | .pfcFrame .. | .pauseExpiry .. | .wdRelease ..
  | .wdHoldoffEnd .. | .pauseTx .. | .pauseRepeat .. | .txFrameStart .. | .txFrameEnd .. | .cellRx .. | .reach ..
  | .reachTx | .reachTimeout .. | .sprayJoin .. | .unreachDiscard .. | .request .. | .requestRefresh .. | .requestExpiry ..
  | .controlCellFlush .. | .reasmTimeout .. | .headLoss .. | .txLinkFrame .. | .fawMatch .. | .rxLinkFrame .. | .los ..
  | .losClear .. | .schedFlowTimeout .. | .pmSecond .. | .pmBinFinal .. | .hbmRead .. | .hbmWrite ..
  | .writeDrainTimeout .. | .rowOpenTimeout .. | .hbmRefresh .. | .retrainDue .. | .retrainStep .. | .hbmScrub ..
  | .pantryWriteDone .. | .objRead .. | .objWrite .. | .domainRead .. | .domainWrite .. | .sqDoorbell .. | .cqDoorbell ..
  | .push .. | .fetchVisit .. | .nop .. | .pktTx .. | .txStamp .. | .rxBuffer .. | .rxDeliver .. | .cqStashDrain ..
  | .cqCoalesceTimeout .. | .functionLevelReset .. | .pcieHotReset | .pcieLinkDown | .pcieLinkUp .. | .mailbox .. | .token
  | .claim .. | .solicit | .setSuccessor | .poll | .odRead | .odWrite | .odDomainRead | .odDomainWrite | .odStatus
  | .blockOpen | .blockSeg | .blockCommit .. | .blockAbort | .tokenPassTimeout | .tokenLost | .claimRound ..
  | .solicitWindowEnd .. | .txJabber | .jabberSilenceEnd | .rxJabber | .knownAge .. | .journal .. | .copyAck ..
  | .health .. | .release .. | .revertReq .. | .digest .. | .recopyReq .. | .bulk .. | .packet .. | .resetNotice ..
  | .leaseExpiry | .takeover | .wtrExpiry | .digestPeriod | .mateLinkDown | .mateLinkUp | .memoryBist .. | .logicBist ..
  | .lbistOverdue .. | .eyeCheck .. | .heartbeatTimeout | .powerEvaluate .. | .powerEntryDone .. | .wakeDone ..
  | .prewakeHoldEnd .. | .islandEntry .. | .islandExit | .wakeNRelease | .fuseProgramDone .. | .dbgExpiry
  | .challengeExpiry | .challengeLockoutEnd | .debugObjectAccess .. | .debugDomainAccess .. | .coreHalt | .coreStep
  | .scanDump .. | .extest .. | .coldReset | .packageWarmReset | .sectorFault .. | .bootReady | .fwReady | .eraseDone
  | .fwBlock .. | .commitCheckDone | .trialEnd | .ping .. | .pairReady .. | .pantryStore .. | .restart .. | .accept ..
  | .aonSwitch .. | .aonReturn .. | .vaonBLow .. | .aonBrownout | .refLost .. | .refRestored .. | .pllUnlock ..
  | .thermalSample .. | .throttleEval | .msixUnmask .. | .coicaFrameRx .. | .warmNRelease | .sectorResetDone ..
  | .dieResetDone .. | .d2dRetrainDone | .rxFrameCounter .. | .mateCrcError | .jabberCarrierStop => none

/-- A command the outside can present. -/
def Instr.wf : Instr → Bool
  | .stateReq master _ => listedMaster master
  | .freqAdj master _ => listedMaster master
  | .step master _ => listedMaster master
  | .airClockEnable _ master _ => listedMaster master
  | .dayOffset master _ => listedMaster master
  | .rxFrame _ frame _ _ _ _ => decide (1 ≤ frame.length)
  | .activeBank master _ => listedMaster master
  | .restoreDefault master _ => listedMaster master
  | .keyProfileSlots _ _ master _ => listedMaster master
  | .commit _ master _ => listedMaster master
  | .stampUnit _ master _ => listedMaster master
  | .emTableEnable _ master _ => listedMaster master
  | .emTableGeometry _ _ master _ => listedMaster master
  | .tcamTableEnable _ master _ => listedMaster master
  | .tcamBankWidth _ master _ => listedMaster master
  | .bufEnable master _ => listedMaster master
  | .flushQueue master _ => listedMaster master
  | .shaperProfileWrite _ _ master _ => listedMaster master
  | .portEnable _ master _ => listedMaster master
  | .pfcFrame _ _ _ quanta => Nat.beq quanta.length 8 && quanta.all fun q => Nat.blt q 65536
  | .trigger _ master _ => listedMaster master
  | .cellRx _ _ _ cell => Nat.beq cell.bytes.length 256
  | .reach _ _ _ _ map => Nat.blt map (2 ^ 64)
  | .fabricEnable master _ => listedMaster master
  | .rxLinkFrame _ frame _ u => Nat.ble 288 frame.length && Nat.ble frame.length 4128 && (Nat.blt 0 u.overlap || !u.carried)
  | .slEnable _ master _ => listedMaster master
  | .hbmRead space address _ ecc => addressOk space address && Nat.beq (Nat.land ecc.corrected ecc.bad) 0
  | .hbmScrub _ ecc => Nat.beq (Nat.land ecc.corrected ecc.bad) 0
  | .hbmWrite space address _ mask _ => addressOk space address && Nat.blt mask (2 ^ 64)
  | .hbmRegionOrder _ _ master _ => listedMaster master
  | .windowWrite master _ size value => listedMaster master && Nat.blt value (2 ^ (8 * size))
  | .rcRead master _ _ => listedMaster master
  | .slowWriteDone master => listedMaster master
  | .dictLock master _ => listedMaster master
  | .store master _ => listedMaster master
  | .clear master _ => listedMaster master
  | .push _ _ _ entry => Nat.beq entry.length 64
  | .sqEnable master _ => listedMaster master
  | .cqEnable master _ => listedMaster master
  | .vfResources _ _ master _ => listedMaster master
  | .mbBinding _ master _ => listedMaster master
  | .send _ master _ => listedMaster master
  | .ack _ master _ => listedMaster master
  | .lockRead _ master => listedMaster master
  | .lockRelease _ master _ => listedMaster master
  | .dbPendingClear master _ => listedMaster master
  | .dbMask master _ => listedMaster master
  | .mailbox head _ _ _ _ => headOk head
  | .stationAddr master _ => listedMaster master
  | .role master _ => listedMaster master
  | .wpWrite _ _ master _ => listedMaster master
  | .journal head _ => headOk head
  | .copyAck head => headOk head
  | .health head _ _ => headOk head
  | .release head => headOk head
  | .revertReq head => headOk head
  | .digest head _ _ _ => headOk head
  | .recopyReq head _ => headOk head
  | .bulk head _ => headOk head
  | .packet head _ => headOk head
  | .resetNotice head => headOk head
  | .wRenew master _ => listedMaster master
  | .wTakeover master _ => listedMaster master
  | .command master _ => listedMaster master
  | .pairEnable master _ => listedMaster master
  | .fwHeartbeat master _ => listedMaster master
  | .latTolNs _ master _ => listedMaster master
  | .pwrReq _ master _ => listedMaster master
  | .wakeReq master _ => listedMaster master
  | .provisionProvisioned master => listedMaster master
  | .provisionDecommission master => listedMaster master
  | .svnAdvance master _ => listedMaster master
  | .keyHash _ master _ => listedMaster master
  | .dbgChallenge master => listedMaster master
  | .tokenObserve master _ => listedMaster master
  | .tokenInvasive master _ => listedMaster master
  | .tokenTransition master _ => listedMaster master
  | .tokenRevoke master _ => listedMaster master
  | .dbgDrop master _ => listedMaster master
  | .warmReset master _ => listedMaster master
  | .dieResetF master => listedMaster master
  | .dieResetT master => listedMaster master
  | .sectorReset master _ => listedMaster master
  | .unitReset master _ => listedMaster master
  | .fwRestart master _ => listedMaster master
  | .updateBegin master => listedMaster master
  | .updateCommit master => listedMaster master
  | .updateAbort master => listedMaster master
  | .fwAccept master _ => listedMaster master
  | .alarmPendingClear master _ => listedMaster master
  | .thermalSample sensors hbmTemps => Nat.beq sensors.length 19 && Nat.beq hbmTemps.length 4
  | .autoHoldover .. | .shadowRealign | .timebaseLoad | .timeSyncWord | .timeWordMissed | .ppsOut | .ppsIn | .todMessage ..
  | .dispatch | .airNop | .gateCycle | .pageSwitch | .sampleMarked | .mateCycle | .prewake | .snapshot | .hostEvent
  | .binBoundary | .ingressPipeline .. | .meterDecide .. | .mcReplicate .. | .d2dReplay .. | .d2dRetrain | .d2dLinkFail
  | .emInsert .. | .emDelete .. | .emLookup .. | .emReadIndex .. | .emUnlock .. | .routeAdd .. | .routeDelete ..
  | .routeRead .. | .routeMatch .. | .labelWrite .. | .labelRead .. | .tcamWrite .. | .tcamRead .. | .tcamInvalidate ..
  | .tcamMove .. | .learn .. | .learnStashDrain .. | .stampTick .. | .agerRead .. | .agerCompareDelete .. | .scrubRow ..
  | .lpmLoss | .tcamScrub .. | .poolActivate .. | .poolDeactivate .. | .recirculate | .egressPipeline .. | .admission ..
  | .d2dUnit .. | .stagingDone | .idleMap | .dequeueDecision .. | .voqSend .. | .grant .. | .creditGenerate ..
  | .sampleRound | .queueSample .. | .shaperRelease .. | .meterSweep .. | .gateEntryEnd .. | .linkCondition ..
  | .linkDown .. | .linkUp .. | .pauseFrame .. | .pauseExpiry .. | .wdRelease .. | .wdHoldoffEnd .. | .pauseTx ..
  | .pauseRepeat .. | .txFrameStart .. | .txFrameEnd .. | .reachTx | .reachTimeout .. | .sprayJoin .. | .unreachDiscard ..
  | .request .. | .requestRefresh .. | .requestExpiry .. | .controlCellFlush .. | .reasmTimeout .. | .headLoss ..
  | .txLinkFrame .. | .fawMatch .. | .los .. | .losClear .. | .schedFlowTimeout .. | .pmSecond .. | .pmBinFinal ..
  | .writeDrainTimeout .. | .rowOpenTimeout .. | .hbmRefresh .. | .retrainDue .. | .retrainStep ..
  | .pantryWriteDone .. | .objRead .. | .objWrite .. | .domainRead .. | .domainWrite .. | .sqDoorbell ..
  | .cqDoorbell .. | .fetchVisit .. | .nop .. | .pktTx .. | .txStamp .. | .rxBuffer .. | .rxDeliver .. | .cqStashDrain ..
  | .cqCoalesceTimeout .. | .functionLevelReset .. | .pcieHotReset | .pcieLinkDown | .pcieLinkUp .. | .token | .claim ..
  | .solicit | .setSuccessor | .poll | .odRead | .odWrite | .odDomainRead | .odDomainWrite | .odStatus | .blockOpen
  | .blockSeg | .blockCommit .. | .blockAbort | .tokenPassTimeout | .tokenLost | .claimRound .. | .solicitWindowEnd ..
  | .txJabber | .jabberSilenceEnd | .rxJabber | .knownAge .. | .leaseExpiry | .takeover | .wtrExpiry | .digestPeriod
  | .mateLinkDown | .mateLinkUp | .memoryBist .. | .logicBist .. | .lbistOverdue .. | .eyeCheck .. | .heartbeatTimeout
  | .powerEvaluate .. | .powerEntryDone .. | .wakeDone .. | .prewakeHoldEnd .. | .islandEntry .. | .islandExit
  | .wakeNRelease | .fuseProgramDone .. | .dbgExpiry | .challengeExpiry | .challengeLockoutEnd | .debugObjectAccess ..
  | .debugDomainAccess .. | .coreHalt | .coreStep | .scanDump .. | .extest .. | .coldReset | .packageWarmReset
  | .sectorFault .. | .bootReady | .fwReady | .eraseDone | .fwBlock .. | .commitCheckDone | .trialEnd | .ping ..
  | .pairReady .. | .pantryStore .. | .restart .. | .accept .. | .aonSwitch .. | .aonReturn .. | .vaonBLow ..
  | .aonBrownout | .refLost .. | .refRestored .. | .pllUnlock .. | .throttleEval | .msixUnmask .. | .coicaFrameRx ..
  | .warmNRelease | .sectorResetDone .. | .dieResetDone .. | .d2dRetrainDone | .rxFrameCounter .. | .mateCrcError
  | .jabberCarrierStop => true

end Sys2Proof
end

