-- ==== Sys2Proof/Laws/PerInstr.lean ====
section
/-! SUPPORT. A statement about every command as syntax, one lemma per constructor. -/

namespace Sys2Proof.Laws.WellFormed

/-- A well-formed command that is a master's access comes from a master identity of R7. -/
def Statement (i : Instr) : Prop := i.wf = true → ∀ m, i.sender = some m → listedMaster m = true

theorem stateReq (master : Nat) (value : Nat) : Statement (.stateReq master value) := fun h _ e => Option.some.inj e ▸ h
theorem autoHoldover (lastSample : Nat) : Statement (.autoHoldover lastSample) := fun _ _ e => nomatch e
theorem freqAdj (master : Nat) (value : Nat) : Statement (.freqAdj master value) := fun h _ e => Option.some.inj e ▸ h
theorem step (master : Nat) (value : Nat) : Statement (.step master value) := fun h _ e => Option.some.inj e ▸ h
theorem shadowRealign : Statement (.shadowRealign) := fun _ _ e => nomatch e
theorem timebaseLoad : Statement (.timebaseLoad) := fun _ _ e => nomatch e
theorem timeSyncWord : Statement (.timeSyncWord) := fun _ _ e => nomatch e
theorem timeWordMissed : Statement (.timeWordMissed) := fun _ _ e => nomatch e
theorem ppsOut : Statement (.ppsOut) := fun _ _ e => nomatch e
theorem ppsIn : Statement (.ppsIn) := fun _ _ e => nomatch e
theorem todMessage (timeEvent : Bool) (bytes : List Byte) : Statement (.todMessage timeEvent bytes) := fun _ _ e => nomatch e
theorem airClockEnable (clock : AirClock) (master : Nat) (value : Nat) : Statement (.airClockEnable clock master value) := fun h _ e => Option.some.inj e ▸ h
theorem dispatch : Statement (.dispatch) := fun _ _ e => nomatch e
theorem airNop : Statement (.airNop) := fun _ _ e => nomatch e
theorem gateCycle : Statement (.gateCycle) := fun _ _ e => nomatch e
theorem pageSwitch : Statement (.pageSwitch) := fun _ _ e => nomatch e
theorem sampleMarked : Statement (.sampleMarked) := fun _ _ e => nomatch e
theorem mateCycle : Statement (.mateCycle) := fun _ _ e => nomatch e
theorem prewake : Statement (.prewake) := fun _ _ e => nomatch e
theorem snapshot : Statement (.snapshot) := fun _ _ e => nomatch e
theorem hostEvent : Statement (.hostEvent) := fun _ _ e => nomatch e
theorem binBoundary : Statement (.binBoundary) := fun _ _ e => nomatch e
theorem dayOffset (master : Nat) (value : Nat) : Statement (.dayOffset master value) := fun h _ e => Option.some.inj e ▸ h
theorem rxFrame (port : LinePort) (frame : List Byte) (codeError : Bool) (corrected : Nat) (uncorrectable : Nat) (symbols : Nat) : Statement (.rxFrame port frame codeError corrected uncorrectable symbols) := fun _ _ e => nomatch e
theorem ingressPipeline (sector : Fin 8) (upsets : List Upset) : Statement (.ingressPipeline sector upsets) := fun _ _ e => nomatch e
theorem meterDecide (meterEcc : Ecc) (profileEcc : Ecc) : Statement (.meterDecide meterEcc profileEcc) := fun _ _ e => nomatch e
theorem mcReplicate (read : McRead) : Statement (.mcReplicate read) := fun _ _ e => nomatch e
theorem d2dReplay (good : Bool) : Statement (.d2dReplay good) := fun _ _ e => nomatch e
theorem d2dRetrain : Statement (.d2dRetrain) := fun _ _ e => nomatch e
theorem d2dLinkFail : Statement (.d2dLinkFail) := fun _ _ e => nomatch e
theorem activeBank (master : Nat) (value : Nat) : Statement (.activeBank master value) := fun h _ e => Option.some.inj e ▸ h
theorem restoreDefault (master : Nat) (value : Nat) : Statement (.restoreDefault master value) := fun h _ e => Option.some.inj e ▸ h
theorem keyProfileSlots (profile : Fin 64) (high : Bool) (master : Nat) (value : Nat) : Statement (.keyProfileSlots profile high master value) := fun h _ e => Option.some.inj e ▸ h
theorem commit (set : Fin 16) (master : Nat) (value : Nat) : Statement (.commit set master value) := fun h _ e => Option.some.inj e ▸ h
theorem emInsert (sq : Fin 1024) (index : Nat) (upsets : List Upset) (dma : Dma) : Statement (.emInsert sq index upsets dma) := fun _ _ e => nomatch e
theorem emDelete (sq : Fin 1024) (index : Nat) (upsets : List Upset) (dma : Dma) : Statement (.emDelete sq index upsets dma) := fun _ _ e => nomatch e
theorem emLookup (sq : Fin 1024) (index : Nat) (upsets : List Upset) (dma : Dma) : Statement (.emLookup sq index upsets dma) := fun _ _ e => nomatch e
theorem emReadIndex (sq : Fin 1024) (index : Nat) (upsets : List Upset) (dma : Dma) : Statement (.emReadIndex sq index upsets dma) := fun _ _ e => nomatch e
theorem emUnlock (sq : Fin 1024) (index : Nat) (upsets : List Upset) (dma : Dma) : Statement (.emUnlock sq index upsets dma) := fun _ _ e => nomatch e
theorem routeAdd (sq : Fin 1024) (index : Nat) (upsets : List Upset) (dma : Dma) : Statement (.routeAdd sq index upsets dma) := fun _ _ e => nomatch e
theorem routeDelete (sq : Fin 1024) (index : Nat) (upsets : List Upset) (dma : Dma) : Statement (.routeDelete sq index upsets dma) := fun _ _ e => nomatch e
theorem routeRead (sq : Fin 1024) (index : Nat) (upsets : List Upset) (dma : Dma) : Statement (.routeRead sq index upsets dma) := fun _ _ e => nomatch e
theorem routeMatch (sq : Fin 1024) (index : Nat) (upsets : List Upset) (dma : Dma) : Statement (.routeMatch sq index upsets dma) := fun _ _ e => nomatch e
theorem labelWrite (sq : Fin 1024) (index : Nat) (upsets : List Upset) (dma : Dma) : Statement (.labelWrite sq index upsets dma) := fun _ _ e => nomatch e
theorem labelRead (sq : Fin 1024) (index : Nat) (upsets : List Upset) (dma : Dma) : Statement (.labelRead sq index upsets dma) := fun _ _ e => nomatch e
theorem tcamWrite (sq : Fin 1024) (index : Nat) (upsets : List Upset) (dma : Dma) : Statement (.tcamWrite sq index upsets dma) := fun _ _ e => nomatch e
theorem tcamRead (sq : Fin 1024) (index : Nat) (upsets : List Upset) (dma : Dma) : Statement (.tcamRead sq index upsets dma) := fun _ _ e => nomatch e
theorem tcamInvalidate (sq : Fin 1024) (index : Nat) (upsets : List Upset) (dma : Dma) : Statement (.tcamInvalidate sq index upsets dma) := fun _ _ e => nomatch e
theorem tcamMove (sq : Fin 1024) (index : Nat) (upsets : List Upset) (dma : Dma) : Statement (.tcamMove sq index upsets dma) := fun _ _ e => nomatch e
theorem learn (table : EmTable) : Statement (.learn table) := fun _ _ e => nomatch e
theorem learnStashDrain (cq : Fin 1024) : Statement (.learnStashDrain cq) := fun _ _ e => nomatch e
theorem stampTick (table : EmTable) : Statement (.stampTick table) := fun _ _ e => nomatch e
theorem stampUnit (table : EmTable) (master : Nat) (value : Nat) : Statement (.stampUnit table master value) := fun h _ e => Option.some.inj e ▸ h
theorem agerRead (table : EmTable) : Statement (.agerRead table) := fun _ _ e => nomatch e
theorem agerCompareDelete (table : EmTable) : Statement (.agerCompareDelete table) := fun _ _ e => nomatch e
theorem emTableEnable (table : EmTable) (master : Nat) (value : Nat) : Statement (.emTableEnable table master value) := fun h _ e => Option.some.inj e ▸ h
theorem emTableGeometry (table : EmTable) (field : Fin 5) (master : Nat) (value : Nat) : Statement (.emTableGeometry table field master value) := fun h _ e => Option.some.inj e ▸ h
theorem scrubRow (upsets : List Upset) : Statement (.scrubRow upsets) := fun _ _ e => nomatch e
theorem lpmLoss : Statement (.lpmLoss) := fun _ _ e => nomatch e
theorem tcamScrub (differ : List (Fin 8)) (shadowBad : Bool) (agree : Nat) : Statement (.tcamScrub differ shadowBad agree) := fun _ _ e => nomatch e
theorem tcamTableEnable (table : Fin 4) (master : Nat) (value : Nat) : Statement (.tcamTableEnable table master value) := fun h _ e => Option.some.inj e ▸ h
theorem tcamBankWidth (bank : Fin 16) (master : Nat) (value : Nat) : Statement (.tcamBankWidth bank master value) := fun h _ e => Option.some.inj e ▸ h
theorem poolActivate (sector : Fin 8) (pipe : Fin 4) : Statement (.poolActivate sector pipe) := fun _ _ e => nomatch e
theorem poolDeactivate (sector : Fin 8) (pipe : Fin 4) : Statement (.poolDeactivate sector pipe) := fun _ _ e => nomatch e
theorem recirculate : Statement (.recirculate) := fun _ _ e => nomatch e
theorem egressPipeline (port : Fin 136) (read : EgressRead) : Statement (.egressPipeline port read) := fun _ _ e => nomatch e
theorem bufEnable (master : Nat) (value : Nat) : Statement (.bufEnable master value) := fun h _ e => Option.some.inj e ▸ h
theorem admission (upsets : List PoolUpset) : Statement (.admission upsets) := fun _ _ e => nomatch e
theorem d2dUnit (read : UnitRead) : Statement (.d2dUnit read) := fun _ _ e => nomatch e
theorem stagingDone : Statement (.stagingDone) := fun _ _ e => nomatch e
theorem idleMap : Statement (.idleMap) := fun _ _ e => nomatch e
theorem dequeueDecision (slice : Fin 8) (upsets : List QueueUpset) : Statement (.dequeueDecision slice upsets) := fun _ _ e => nomatch e
theorem flushQueue (master : Nat) (value : Nat) : Statement (.flushQueue master value) := fun h _ e => Option.some.inj e ▸ h
theorem voqSend (slice : Fin 8) (ecc : ReadUpset) : Statement (.voqSend slice ecc) := fun _ _ e => nomatch e
theorem grant (granting : Fin 256) (requesting : Fin 256) (q : Fin 64) (cls : Fin 8) (bytes : Nat) : Statement (.grant granting requesting q cls bytes) := fun _ _ e => nomatch e
theorem creditGenerate (port : Fin 136) : Statement (.creditGenerate port) := fun _ _ e => nomatch e
theorem sampleRound : Statement (.sampleRound) := fun _ _ e => nomatch e
theorem queueSample (index : Fin 655360) : Statement (.queueSample index) := fun _ _ e => nomatch e
theorem shaperRelease (port : Fin 136) : Statement (.shaperRelease port) := fun _ _ e => nomatch e
theorem shaperProfileWrite (profile : Fin 1024) (field : Fin 3) (master : Nat) (value : Nat) : Statement (.shaperProfileWrite profile field master value) := fun h _ e => Option.some.inj e ▸ h
theorem meterSweep (read : MeterRead) : Statement (.meterSweep read) := fun _ _ e => nomatch e
theorem gateEntryEnd (port : Fin 136) : Statement (.gateEntryEnd port) := fun _ _ e => nomatch e
theorem portEnable (port : LinePort) (master : Nat) (value : Nat) : Statement (.portEnable port master value) := fun h _ e => Option.some.inj e ▸ h
theorem linkCondition (port : LinePort) (good : Bool) (localFault : Bool) : Statement (.linkCondition port good localFault) := fun _ _ e => nomatch e
theorem linkDown (port : LinePort) : Statement (.linkDown port) := fun _ _ e => nomatch e
theorem linkUp (port : LinePort) : Statement (.linkUp port) := fun _ _ e => nomatch e
theorem pauseFrame (port : LinePort) (source : Nat) (quanta : Fin 65536) : Statement (.pauseFrame port source quanta) := fun _ _ e => nomatch e
theorem pfcFrame (port : LinePort) (source : Nat) (enabled : Fin 256) (quanta : List Nat) : Statement (.pfcFrame port source enabled quanta) := fun _ _ e => nomatch e
theorem pauseExpiry (port : LinePort) (priority : Fin 9) : Statement (.pauseExpiry port priority) := fun _ _ e => nomatch e
theorem wdRelease (port : LinePort) (priority : Fin 9) : Statement (.wdRelease port priority) := fun _ _ e => nomatch e
theorem wdHoldoffEnd (port : LinePort) (priority : Fin 9) : Statement (.wdHoldoffEnd port priority) := fun _ _ e => nomatch e
theorem pauseTx (port : LinePort) : Statement (.pauseTx port) := fun _ _ e => nomatch e
theorem pauseRepeat (port : LinePort) : Statement (.pauseRepeat port) := fun _ _ e => nomatch e
theorem txFrameStart (port : LinePort) : Statement (.txFrameStart port) := fun _ _ e => nomatch e
theorem txFrameEnd (port : LinePort) : Statement (.txFrameEnd port) := fun _ _ e => nomatch e
theorem trigger (group : Fin 16) (master : Nat) (value : Nat) : Statement (.trigger group master value) := fun h _ e => Option.some.inj e ▸ h
theorem cellRx (lane : FabricLane) (frame : Fin 64) (slot : Fin 16) (cell : RxCell) : Statement (.cellRx lane frame slot cell) := fun _ _ e => nomatch e
theorem reach (lane : FabricLane) (fromElement : Bool) (quarter : Fin 4) (device : Fin 256) (map : Nat) : Statement (.reach lane fromElement quarter device map) := fun _ _ e => nomatch e
theorem reachTx : Statement (.reachTx) := fun _ _ e => nomatch e
theorem reachTimeout (lane : FabricLane) : Statement (.reachTimeout lane) := fun _ _ e => nomatch e
theorem sprayJoin (lane : FabricLane) : Statement (.sprayJoin lane) := fun _ _ e => nomatch e
theorem unreachDiscard (device : Fin 256) : Statement (.unreachDiscard device) := fun _ _ e => nomatch e
theorem request (requesting : Fin 256) (granting : Fin 256) (q : Fin 64) (cls : Fin 8) (on : Bool) (seq : Fin 16) : Statement (.request requesting granting q cls on seq) := fun _ _ e => nomatch e
theorem requestRefresh (voq : Fin 131072) : Statement (.requestRefresh voq) := fun _ _ e => nomatch e
theorem requestExpiry (requesting : Fin 256) (q : Fin 64) (cls : Fin 8) : Statement (.requestExpiry requesting q cls) := fun _ _ e => nomatch e
theorem controlCellFlush (device : Fin 256) : Statement (.controlCellFlush device) := fun _ _ e => nomatch e
theorem reasmTimeout (source : Fin 256) (cls : Fin 8) (tag : Fin 65536) : Statement (.reasmTimeout source cls tag) := fun _ _ e => nomatch e
theorem headLoss (source : Fin 256) (cls : Fin 8) : Statement (.headLoss source cls) := fun _ _ e => nomatch e
theorem fabricEnable (master : Nat) (value : Nat) : Statement (.fabricEnable master value) := fun h _ e => Option.some.inj e ▸ h
theorem txLinkFrame (lane : FabricLane) : Statement (.txLinkFrame lane) := fun _ _ e => nomatch e
theorem fawMatch (lane : FabricLane) (position : Nat) (frameNum : Fin 64) : Statement (.fawMatch lane position frameNum) := fun _ _ e => nomatch e
theorem rxLinkFrame (lane : FabricLane) (frame : List Byte) (symbols : Nat) (uncorrectable : FecErrors) : Statement (.rxLinkFrame lane frame symbols uncorrectable) := fun _ _ e => nomatch e
theorem los (lane : FabricLane) : Statement (.los lane) := fun _ _ e => nomatch e
theorem losClear (lane : FabricLane) : Statement (.losClear lane) := fun _ _ e => nomatch e
theorem schedFlowTimeout (flow : Fin 4096) : Statement (.schedFlowTimeout flow) := fun _ _ e => nomatch e
theorem slEnable (lane : Fin 16) (master : Nat) (value : Nat) : Statement (.slEnable lane master value) := fun h _ e => Option.some.inj e ▸ h
theorem pmSecond (lane : FabricLane) : Statement (.pmSecond lane) := fun _ _ e => nomatch e
theorem pmBinFinal (lane : FabricLane) : Statement (.pmBinFinal lane) := fun _ _ e => nomatch e
theorem hbmRead (space : HbmSpace) (address : Nat) (requester : HbmRequester) (ecc : SectorEcc) : Statement (.hbmRead space address requester ecc) := fun _ _ e => nomatch e
theorem hbmWrite (space : HbmSpace) (address : Nat) (requester : HbmRequester) (mask : Nat) (data : List Byte) :
    Statement (.hbmWrite space address requester mask data) := fun _ _ e => nomatch e
theorem writeDrainTimeout (stack : Fin 4) (channel : Fin 32) : Statement (.writeDrainTimeout stack channel) := fun _ _ e => nomatch e
theorem rowOpenTimeout (stack : Fin 4) (channel : Fin 32) (bank : Fin 16) : Statement (.rowOpenTimeout stack channel bank) := fun _ _ e => nomatch e
theorem hbmRefresh (stack : Fin 4) (channel : Fin 32) : Statement (.hbmRefresh stack channel) := fun _ _ e => nomatch e
theorem retrainDue (stack : Fin 4) (channel : Fin 32) : Statement (.retrainDue stack channel) := fun _ _ e => nomatch e
theorem retrainStep (stack : Fin 4) (channel : Fin 32) (good : Bool) (repeatGood : Bool) : Statement (.retrainStep stack channel good repeatGood) := fun _ _ e => nomatch e
theorem hbmScrub (stack : Fin 4) (ecc : SectorEcc) : Statement (.hbmScrub stack ecc) := fun _ _ e => nomatch e
theorem hbmRegionOrder (region : Fin 3) (hash : Bool) (master : Nat) (value : Nat) : Statement (.hbmRegionOrder region hash master value) := fun h _ e => Option.some.inj e ▸ h
theorem windowWrite (master : Nat) (offset : Nat) (size : Nat) (value : Nat) : Statement (.windowWrite master offset size value) := fun h m e => by
  cases e; exact (Bool.and_eq_true_iff.mp h).1
theorem rcRead (master : Nat) (offset : Nat) (size : Nat) : Statement (.rcRead master offset size) := fun h _ e => Option.some.inj e ▸ h
theorem slowWriteDone (master : Nat) : Statement (.slowWriteDone master) := fun h _ e => Option.some.inj e ▸ h
theorem dictLock (master : Nat) (value : Nat) : Statement (.dictLock master value) := fun h _ e => Option.some.inj e ▸ h
theorem store (master : Nat) (value : Nat) : Statement (.store master value) := fun h _ e => Option.some.inj e ▸ h
theorem clear (master : Nat) (value : Nat) : Statement (.clear master value) := fun h _ e => Option.some.inj e ▸ h
theorem pantryWriteDone (done : FlashEnd) : Statement (.pantryWriteDone done) := fun _ _ e => nomatch e
theorem objRead (sq : Fin 1024) (index : Nat) (dma : Dma) : Statement (.objRead sq index dma) := fun _ _ e => nomatch e
theorem objWrite (sq : Fin 1024) (index : Nat) (dma : Dma) : Statement (.objWrite sq index dma) := fun _ _ e => nomatch e
theorem domainRead (sq : Fin 1024) (index : Nat) (dma : Dma) : Statement (.domainRead sq index dma) := fun _ _ e => nomatch e
theorem domainWrite (sq : Fin 1024) (index : Nat) (dma : Dma) : Statement (.domainWrite sq index dma) := fun _ _ e => nomatch e
theorem sqDoorbell (fn : Fin 33) (page : Fin 1024) (value : Nat) : Statement (.sqDoorbell fn page value) := fun _ _ e => nomatch e
theorem cqDoorbell (fn : Fin 33) (page : Fin 1024) (value : Nat) : Statement (.cqDoorbell fn page value) := fun _ _ e => nomatch e
theorem push (fn : Fin 33) (page : Fin 1024) (slot : Fin 4) (entry : List Byte) : Statement (.push fn page slot entry) := fun _ _ e => nomatch e
theorem fetchVisit (memory : List (Option (List Byte))) : Statement (.fetchVisit memory) := fun _ _ e => nomatch e
theorem nop (sq : Fin 1024) (index : Nat) (dma : Dma) : Statement (.nop sq index dma) := fun _ _ e => nomatch e
theorem pktTx (sq : Fin 1024) (index : Nat) (dma : Dma) : Statement (.pktTx sq index dma) := fun _ _ e => nomatch e
theorem txStamp (sq : Fin 1024) (index : Nat) (dma : Dma) : Statement (.txStamp sq index dma) := fun _ _ e => nomatch e
theorem rxBuffer (sq : Fin 1024) (index : Nat) (dma : Dma) : Statement (.rxBuffer sq index dma) := fun _ _ e => nomatch e
theorem rxDeliver (dma : Dma) : Statement (.rxDeliver dma) := fun _ _ e => nomatch e
theorem cqStashDrain (cq : Fin 1024) (ok : Bool) : Statement (.cqStashDrain cq ok) := fun _ _ e => nomatch e
theorem cqCoalesceTimeout (cq : Fin 1024) : Statement (.cqCoalesceTimeout cq) := fun _ _ e => nomatch e
theorem sqEnable (master : Nat) (value : Nat) : Statement (.sqEnable master value) := fun h _ e => Option.some.inj e ▸ h
theorem cqEnable (master : Nat) (value : Nat) : Statement (.cqEnable master value) := fun h _ e => Option.some.inj e ▸ h
theorem functionLevelReset (fn : Fin 33) : Statement (.functionLevelReset fn) := fun _ _ e => nomatch e
theorem pcieHotReset : Statement (.pcieHotReset) := fun _ _ e => nomatch e
theorem pcieLinkDown : Statement (.pcieLinkDown) := fun _ _ e => nomatch e
theorem pcieLinkUp (speed : Fin 6) (width : Fin 5) (vfs : Fin 33) : Statement (.pcieLinkUp speed width vfs) := fun _ _ e => nomatch e
theorem vfResources (vf : Fin 32) (field : Fin 4) (master : Nat) (value : Nat) : Statement (.vfResources vf field master value) := fun h _ e => Option.some.inj e ▸ h
theorem mbBinding (channel : Fin 64) (master : Nat) (value : Nat) : Statement (.mbBinding channel master value) := fun h _ e => Option.some.inj e ▸ h
theorem send (channel : Fin 64) (master : Nat) (value : Nat) : Statement (.send channel master value) := fun h _ e => Option.some.inj e ▸ h
theorem ack (channel : Fin 64) (master : Nat) (value : Nat) : Statement (.ack channel master value) := fun h _ e => Option.some.inj e ▸ h
theorem lockRead (channel : Fin 64) (master : Nat) : Statement (.lockRead channel master) := fun h _ e => Option.some.inj e ▸ h
theorem lockRelease (channel : Fin 64) (master : Nat) (value : Nat) : Statement (.lockRelease channel master value) := fun h _ e => Option.some.inj e ▸ h
theorem dbPendingClear (master : Nat) (value : Nat) : Statement (.dbPendingClear master value) := fun h _ e => Option.some.inj e ▸ h
theorem dbMask (master : Nat) (value : Nat) : Statement (.dbMask master value) := fun h _ e => Option.some.inj e ▸ h
theorem mailbox (head : MateHead) (channel : Fin 64) (kind : Fin 3) (ack : Nat) (message : List Byte) : Statement (.mailbox head channel kind ack message) := fun _ _ e => nomatch e
theorem token : Statement (.token) := fun _ _ e => nomatch e
theorem claim (own : Option Bool) : Statement (.claim own) := fun _ _ e => nomatch e
theorem solicit : Statement (.solicit) := fun _ _ e => nomatch e
theorem setSuccessor : Statement (.setSuccessor) := fun _ _ e => nomatch e
theorem poll : Statement (.poll) := fun _ _ e => nomatch e
theorem odRead : Statement (.odRead) := fun _ _ e => nomatch e
theorem odWrite : Statement (.odWrite) := fun _ _ e => nomatch e
theorem odDomainRead : Statement (.odDomainRead) := fun _ _ e => nomatch e
theorem odDomainWrite : Statement (.odDomainWrite) := fun _ _ e => nomatch e
theorem odStatus : Statement (.odStatus) := fun _ _ e => nomatch e
theorem blockOpen : Statement (.blockOpen) := fun _ _ e => nomatch e
theorem blockSeg : Statement (.blockSeg) := fun _ _ e => nomatch e
theorem blockCommit (good : Bool) : Statement (.blockCommit good) := fun _ _ e => nomatch e
theorem blockAbort : Statement (.blockAbort) := fun _ _ e => nomatch e
theorem tokenPassTimeout : Statement (.tokenPassTimeout) := fun _ _ e => nomatch e
theorem tokenLost : Statement (.tokenLost) := fun _ _ e => nomatch e
theorem claimRound (carrier : Bool) : Statement (.claimRound carrier) := fun _ _ e => nomatch e
theorem solicitWindowEnd (garbled : Bool) : Statement (.solicitWindowEnd garbled) := fun _ _ e => nomatch e
theorem txJabber : Statement (.txJabber) := fun _ _ e => nomatch e
theorem jabberSilenceEnd : Statement (.jabberSilenceEnd) := fun _ _ e => nomatch e
theorem rxJabber : Statement (.rxJabber) := fun _ _ e => nomatch e
theorem knownAge (address : Fin 127) : Statement (.knownAge address) := fun _ _ e => nomatch e
theorem stationAddr (master : Nat) (value : Nat) : Statement (.stationAddr master value) := fun h _ e => Option.some.inj e ▸ h
theorem role (master : Nat) (value : Nat) : Statement (.role master value) := fun h _ e => Option.some.inj e ▸ h
theorem wpWrite (pattern : Fin 8) (field : Fin 6) (master : Nat) (value : Nat) : Statement (.wpWrite pattern field master value) := fun h _ e => Option.some.inj e ▸ h
theorem journal (head : MateHead) (payload : List Byte) : Statement (.journal head payload) := fun _ _ e => nomatch e
theorem copyAck (head : MateHead) : Statement (.copyAck head) := fun _ _ e => nomatch e
theorem health (head : MateHead) (report : List Byte) (delay : Nat) : Statement (.health head report delay) := fun _ _ e => nomatch e
theorem release (head : MateHead) : Statement (.release head) := fun _ _ e => nomatch e
theorem revertReq (head : MateHead) : Statement (.revertReq head) := fun _ _ e => nomatch e
theorem digest (head : MateHead) (region : Nat) (endSeq : Nat) (digest : Nat) : Statement (.digest head region endSeq digest) := fun _ _ e => nomatch e
theorem recopyReq (head : MateHead) (region : Nat) : Statement (.recopyReq head region) := fun _ _ e => nomatch e
theorem bulk (head : MateHead) (payload : List Byte) : Statement (.bulk head payload) := fun _ _ e => nomatch e
theorem packet (head : MateHead) (frame : List Byte) : Statement (.packet head frame) := fun _ _ e => nomatch e
theorem resetNotice (head : MateHead) : Statement (.resetNotice head) := fun _ _ e => nomatch e
theorem leaseExpiry : Statement (.leaseExpiry) := fun _ _ e => nomatch e
theorem wRenew (master : Nat) (value : Nat) : Statement (.wRenew master value) := fun h _ e => Option.some.inj e ▸ h
theorem wTakeover (master : Nat) (value : Nat) : Statement (.wTakeover master value) := fun h _ e => Option.some.inj e ▸ h
theorem command (master : Nat) (value : Nat) : Statement (.command master value) := fun h _ e => Option.some.inj e ▸ h
theorem pairEnable (master : Nat) (value : Nat) : Statement (.pairEnable master value) := fun h _ e => Option.some.inj e ▸ h
theorem takeover : Statement (.takeover) := fun _ _ e => nomatch e
theorem wtrExpiry : Statement (.wtrExpiry) := fun _ _ e => nomatch e
theorem digestPeriod : Statement (.digestPeriod) := fun _ _ e => nomatch e
theorem mateLinkDown : Statement (.mateLinkDown) := fun _ _ e => nomatch e
theorem mateLinkUp : Statement (.mateLinkUp) := fun _ _ e => nomatch e
theorem memoryBist (failed : Bool) : Statement (.memoryBist failed) := fun _ _ e => nomatch e
theorem logicBist (failed : Bool) : Statement (.logicBist failed) := fun _ _ e => nomatch e
theorem lbistOverdue (pipeline : Fin 64) : Statement (.lbistOverdue pipeline) := fun _ _ e => nomatch e
theorem eyeCheck (margins : List (Fin 292 × Nat)) : Statement (.eyeCheck margins) := fun _ _ e => nomatch e
theorem fwHeartbeat (master : Nat) (value : Nat) : Statement (.fwHeartbeat master value) := fun h _ e => Option.some.inj e ▸ h
theorem heartbeatTimeout : Statement (.heartbeatTimeout) := fun _ _ e => nomatch e
theorem powerEvaluate (client : Fin 144) : Statement (.powerEvaluate client) := fun _ _ e => nomatch e
theorem powerEntryDone (client : Fin 144) (part : Fin 7) : Statement (.powerEntryDone client part) := fun _ _ e => nomatch e
theorem wakeDone (client : Fin 144) (part : Fin 7) : Statement (.wakeDone client part) := fun _ _ e => nomatch e
theorem latTolNs (client : Fin 144) (master : Nat) (value : Nat) : Statement (.latTolNs client master value) := fun h _ e => Option.some.inj e ▸ h
theorem pwrReq (client : Fin 144) (master : Nat) (value : Nat) : Statement (.pwrReq client master value) := fun h _ e => Option.some.inj e ▸ h
theorem prewakeHoldEnd (client : Fin 144) : Statement (.prewakeHoldEnd client) := fun _ _ e => nomatch e
theorem islandEntry (rails : Nat) : Statement (.islandEntry rails) := fun _ _ e => nomatch e
theorem islandExit : Statement (.islandExit) := fun _ _ e => nomatch e
theorem wakeReq (master : Nat) (value : Nat) : Statement (.wakeReq master value) := fun h _ e => Option.some.inj e ▸ h
theorem wakeNRelease : Statement (.wakeNRelease) := fun _ _ e => nomatch e
theorem provisionProvisioned (master : Nat) : Statement (.provisionProvisioned master) := fun h _ e => Option.some.inj e ▸ h
theorem provisionDecommission (master : Nat) : Statement (.provisionDecommission master) := fun h _ e => Option.some.inj e ▸ h
theorem fuseProgramDone (failed : Option (Nat × Nat)) : Statement (.fuseProgramDone failed) := fun _ _ e => nomatch e
theorem svnAdvance (master : Nat) (value : Nat) : Statement (.svnAdvance master value) := fun h _ e => Option.some.inj e ▸ h
theorem keyHash (slot : Fin 4) (master : Nat) (value : Nat) : Statement (.keyHash slot master value) := fun h _ e => Option.some.inj e ▸ h
theorem dbgChallenge (master : Nat) : Statement (.dbgChallenge master) := fun h _ e => Option.some.inj e ▸ h
theorem tokenObserve (master : Nat) (value : Nat) : Statement (.tokenObserve master value) := fun h _ e => Option.some.inj e ▸ h
theorem tokenInvasive (master : Nat) (value : Nat) : Statement (.tokenInvasive master value) := fun h _ e => Option.some.inj e ▸ h
theorem tokenTransition (master : Nat) (value : Nat) : Statement (.tokenTransition master value) := fun h _ e => Option.some.inj e ▸ h
theorem tokenRevoke (master : Nat) (value : Nat) : Statement (.tokenRevoke master value) := fun h _ e => Option.some.inj e ▸ h
theorem dbgDrop (master : Nat) (value : Nat) : Statement (.dbgDrop master value) := fun h _ e => Option.some.inj e ▸ h
theorem dbgExpiry : Statement (.dbgExpiry) := fun _ _ e => nomatch e
theorem challengeExpiry : Statement (.challengeExpiry) := fun _ _ e => nomatch e
theorem challengeLockoutEnd : Statement (.challengeLockoutEnd) := fun _ _ e => nomatch e
theorem debugObjectAccess (write : Bool) (idx : Nat) (sub : Nat) (value : Nat) : Statement (.debugObjectAccess write idx sub value) := fun _ _ e => nomatch e
theorem debugDomainAccess (write : Bool) (idx : Nat) (entry : Nat) (image : Nat) : Statement (.debugDomainAccess write idx entry image) := fun _ _ e => nomatch e
theorem coreHalt : Statement (.coreHalt) := fun _ _ e => nomatch e
theorem coreStep : Statement (.coreStep) := fun _ _ e => nomatch e
theorem scanDump (die : Fin 2) (sector : Fin 8) : Statement (.scanDump die sector) := fun _ _ e => nomatch e
theorem extest (mode : Fin 3) : Statement (.extest mode) := fun _ _ e => nomatch e
theorem coldReset : Statement (.coldReset) := fun _ _ e => nomatch e
theorem packageWarmReset : Statement (.packageWarmReset) := fun _ _ e => nomatch e
theorem warmReset (master : Nat) (value : Nat) : Statement (.warmReset master value) := fun h _ e => Option.some.inj e ▸ h
theorem dieResetF (master : Nat) : Statement (.dieResetF master) := fun h _ e => Option.some.inj e ▸ h
theorem dieResetT (master : Nat) : Statement (.dieResetT master) := fun h _ e => Option.some.inj e ▸ h
theorem sectorReset (master : Nat) (value : Nat) : Statement (.sectorReset master value) := fun h _ e => Option.some.inj e ▸ h
theorem unitReset (master : Nat) (value : Nat) : Statement (.unitReset master value) := fun h _ e => Option.some.inj e ▸ h
theorem sectorFault (die : Fin 2) (sector : Fin 8) : Statement (.sectorFault die sector) := fun _ _ e => nomatch e
theorem bootReady : Statement (.bootReady) := fun _ _ e => nomatch e
theorem fwRestart (master : Nat) (value : Nat) : Statement (.fwRestart master value) := fun h _ e => Option.some.inj e ▸ h
theorem fwReady : Statement (.fwReady) := fun _ _ e => nomatch e
theorem updateBegin (master : Nat) : Statement (.updateBegin master) := fun h _ e => Option.some.inj e ▸ h
theorem eraseDone : Statement (.eraseDone) := fun _ _ e => nomatch e
theorem fwBlock (sq : Fin 1024) (index : Nat) (good : Bool) (dma : Dma) : Statement (.fwBlock sq index good dma) := fun _ _ e => nomatch e
theorem updateCommit (master : Nat) : Statement (.updateCommit master) := fun h _ e => Option.some.inj e ▸ h
theorem commitCheckDone : Statement (.commitCheckDone) := fun _ _ e => nomatch e
theorem updateAbort (master : Nat) : Statement (.updateAbort master) := fun h _ e => Option.some.inj e ▸ h
theorem fwAccept (master : Nat) (value : Nat) : Statement (.fwAccept master value) := fun h _ e => Option.some.inj e ▸ h
theorem trialEnd : Statement (.trialEnd) := fun _ _ e => nomatch e
theorem ping (channel : Fin 64) : Statement (.ping channel) := fun _ _ e => nomatch e
theorem pairReady (channel : Fin 64) (reply : Option Bool) : Statement (.pairReady channel reply) := fun _ _ e => nomatch e
theorem pantryStore (channel : Fin 64) : Statement (.pantryStore channel) := fun _ _ e => nomatch e
theorem restart (channel : Fin 64) : Statement (.restart channel) := fun _ _ e => nomatch e
theorem accept (channel : Fin 64) : Statement (.accept channel) := fun _ _ e => nomatch e
theorem alarmPendingClear (master : Nat) (value : Nat) : Statement (.alarmPendingClear master value) := fun h _ e => Option.some.inj e ▸ h
theorem aonSwitch (vaonA : Nat) (vaonB : Nat) : Statement (.aonSwitch vaonA vaonB) := fun _ _ e => nomatch e
theorem aonReturn (vaonA : Nat) : Statement (.aonReturn vaonA) := fun _ _ e => nomatch e
theorem vaonBLow (vaonB : Nat) : Statement (.vaonBLow vaonB) := fun _ _ e => nomatch e
theorem aonBrownout : Statement (.aonBrownout) := fun _ _ e => nomatch e
theorem refLost (reference : Fin 5) : Statement (.refLost reference) := fun _ _ e => nomatch e
theorem refRestored (reference : Fin 5) : Statement (.refRestored reference) := fun _ _ e => nomatch e
theorem pllUnlock (domain : Fin 18) : Statement (.pllUnlock domain) := fun _ _ e => nomatch e
theorem thermalSample (sensors : List Int) (hbmTemps : List Int) : Statement (.thermalSample sensors hbmTemps) := fun _ _ e => nomatch e
theorem throttleEval : Statement (.throttleEval) := fun _ _ e => nomatch e
theorem msixUnmask (fn : Fin 33) (mask : MsixMask) : Statement (.msixUnmask fn mask) := fun _ _ e => nomatch e
theorem coicaFrameRx (frame : List Byte) (code : Bool) : Statement (.coicaFrameRx frame code) := fun _ _ e => nomatch e
theorem warmNRelease : Statement (.warmNRelease) := fun _ _ e => nomatch e
theorem sectorResetDone (die : Fin 2) (sector : Fin 8) : Statement (.sectorResetDone die sector) := fun _ _ e => nomatch e
theorem dieResetDone (die : Fin 2) : Statement (.dieResetDone die) := fun _ _ e => nomatch e
theorem d2dRetrainDone : Statement (.d2dRetrainDone) := fun _ _ e => nomatch e
theorem rxFrameCounter (lane : FabricLane) : Statement (.rxFrameCounter lane) := fun _ _ e => nomatch e
theorem mateCrcError : Statement (.mateCrcError) := fun _ _ e => nomatch e
theorem jabberCarrierStop : Statement (.jabberCarrierStop) := fun _ _ e => nomatch e

end Sys2Proof.Laws.WellFormed
end

