-- ==== Sys2Proof/Tests/Slice0.lean ====
section
/-! SUPPORT. Tests of the model against the spec's worked examples, ill-formed commands that WellFormed refuses, and for every statement a
state and operands that meet its hypotheses. -/

set_option maxRecDepth 100000
set_option Elab.async false
set_option linter.unusedVariables false

namespace Sys2Proof.Machine

/-- A state after reset with objects set. -/
def withObjs' (l : List (Nat × Nat)) (s : State := State.reset) : State := l.foldl (fun s x => s.set x.1 x.2) s

/-- A state with DOMAIN entries set: index, entry, image. -/
def withDoms' (l : List (Nat × Nat × Nat)) (s : State := State.reset) : State := l.foldl (fun s x => s.setDom x.1 x.2.1 x.2.2) s

/-- The state after reset with its boot ended. -/
def running : State := State.reset.withBoot { ready := true, boot := none }

/-- A state with compare-and-deletes at the bank ports. -/
def State.withAgeDue (s : State) (l : List (Nat × AgeDelete)) : State := s.withTab { s.tab with ageDue := l }

/-! ### Well-formedness -/

/-- Accesses by a master that R7 does not list. -/
theorem test_unlisted_master_is_ill_formed : (
  [.stateReq 44 0, .freqAdj 44 0, .step 44 0, .airClockEnable 0 44 0, .dayOffset 44 0, .activeBank 44 0, .restoreDefault 44 0,
    .keyProfileSlots 0 0 44 0, .commit 0 44 0, .stampUnit 0 44 0, .emTableEnable 0 44 0, .emTableGeometry 0 0 44 0,
    .tcamTableEnable 0 44 0, .tcamBankWidth 0 44 0, .bufEnable 44 0, .flushQueue 44 0, .shaperProfileWrite 0 0 44 0,
    .portEnable 0 44 0, .trigger 0 44 0, .fabricEnable 44 0, .slEnable 0 44 0, .hbmRegionOrder 0 0 44 0, .windowWrite 44 0 0 0,
    .rcRead 44 0 0, .slowWriteDone 44, .dictLock 44 0, .store 44 0, .clear 44 0, .sqEnable 44 0, .cqEnable 44 0, .vfResources 0 0 44 0,
    .mbBinding 0 44 0, .send 0 44 0, .ack 0 44 0, .lockRead 0 44, .lockRelease 0 44 0, .dbPendingClear 44 0, .dbMask 44 0,
    .stationAddr 44 0, .role 44 0, .wpWrite 0 0 44 0, .wRenew 44 0, .wTakeover 44 0, .command 44 0, .pairEnable 44 0] ++
  [.fwHeartbeat 44 0, .latTolNs 0 44 0, .pwrReq 0 44 0, .wakeReq 44 0, .provisionProvisioned 44, .provisionDecommission 44,
    .svnAdvance 44 0, .keyHash 0 44 0, .dbgChallenge 44, .tokenObserve 44 0, .tokenInvasive 44 0, .tokenTransition 44 0,
    .tokenRevoke 44 0, .dbgDrop 44 0, .warmReset 44 0, .dieResetF 44, .dieResetT 44, .sectorReset 44 0, .unitReset 44 0,
    .fwRestart 44 0, .updateBegin 44, .updateCommit 44, .updateAbort 44, .fwAccept 44 0, .alarmPendingClear 44 0] : List Instr).all (fun i => !i.wf) = true := by decide +kernel

/-- Mate messages whose epoch does not fit its place. -/
theorem test_mate_head_too_wide_is_ill_formed : (
  [.mailbox ⟨2 ^ 32, 0, 0, 0, 0⟩ 0 0 0 [], .journal ⟨2 ^ 32, 0, 0, 0, 0⟩ [], .copyAck ⟨2 ^ 32, 0, 0, 0, 0⟩,
    .health ⟨2 ^ 32, 0, 0, 0, 0⟩ [] 0, .release ⟨2 ^ 32, 0, 0, 0, 0⟩, .revertReq ⟨2 ^ 32, 0, 0, 0, 0⟩,
    .digest ⟨2 ^ 32, 0, 0, 0, 0⟩ 0 0 0, .recopyReq ⟨2 ^ 32, 0, 0, 0, 0⟩ 0, .bulk ⟨2 ^ 32, 0, 0, 0, 0⟩ [],
    .packet ⟨2 ^ 32, 0, 0, 0, 0⟩ [], .resetNotice ⟨2 ^ 32, 0, 0, 0, 0⟩] : List Instr).all (fun i => !i.wf) = true := by decide +kernel

theorem test_mate_head_fields_are_checked :
    (headOk ⟨0, 2 ^ 32, 0, 0, 0⟩ || headOk ⟨0, 0, 2 ^ 64, 0, 0⟩ || headOk ⟨0, 0, 0, 256, 0⟩ || headOk ⟨0, 0, 0, 0, 4⟩) = false := by
  decide +kernel

/-- Frames, cells, entries and maps of a wrong size. -/
theorem test_wrong_sizes_are_ill_formed : (
  [.rxFrame 0 [] false 0 0 0, .pfcFrame 0 0 0 [], .pfcFrame 0 0 0 (List.replicate 8 65536), .cellRx 0 0 0 ⟨[], .clean⟩,
    .reach 0 false 0 0 (2 ^ 64), .rxLinkFrame 0 [] 0 ⟨0, false⟩, .rxLinkFrame 0 (List.replicate 4128 0) 0 ⟨0, true⟩, .hbmWrite (.stack 0) 0 .scrub (2 ^ 64) [], .hbmWrite (.stack 0) (2 ^ 28) .scrub 0 [],
    .hbmRead .buffer 51539607552 .host ⟨0, 0⟩, .hbmRead (.stack 3) (2 ^ 28) .host ⟨0, 0⟩, .hbmRead (.stack 0) 0 .host ⟨3, 1⟩, .hbmScrub 0 ⟨5, 4⟩, .windowWrite 1 0 1 256, .push 0 0 0 [],
    .thermalSample [] []] : List Instr).all (fun i => !i.wf) = true := by decide +kernel

theorem test_listed_master_is_well_formed : (Instr.windowWrite 1 0x2048030 4 400000).wf = true := by decide +kernel

/-! ### Worked examples of the spec -/

/-- R4 to R6: T.TS3.C05.U02, T.HBM.C01.U17 and table bank 1,000 (R82). -/
theorem test_unit_identities : unitId 1 3 5 2 = 0x9942 ∧ uChannel 1 17 = 0xD851 ∧ uBank 1000 = 0x2C50 := by decide +kernel

/-- R31, R32: 3,750,260 ns into frame 512 lies in symbol 6 of slot 1 of subframe 3, the next ns opens symbol 7. -/
theorem test_air_position :
    (airPosition 1 0 5123750260).symbol = 6 ∧ (airPosition 1 0 5123750261).symbol = 7 ∧ (airPosition 1 0 5123750261).slot = 1 ∧
      (airPosition 1 0 5123750261).subframe = 3 ∧ (airPosition 1 0 5123750261).sfn = 512 ∧ startNs 1 21 = 750261 := by decide +kernel

/-- R90, R91: eight banks from bank 40 hold 20,480 narrow buckets, and entry 30,720 lies in table-memory bank 146. -/
theorem test_em_geometry :
    (withObjs' [(Obj.EM_TABLE_BANK_FIRST 1, 40), (Obj.EM_TABLE_BANK_COUNT 1, 8)]).emBuckets 1 = 20480 ∧
      (withObjs' [(Obj.EM_TABLE_BANK_FIRST 1, 40), (Obj.EM_TABLE_BANK_COUNT 1, 8)]).emBank 1 30720 = 146 := by decide +kernel

/-- R149: a 64-byte frame counts 1 unit and one of 1,418 bytes 6. -/
theorem test_units : unitsOf 64 = 1 ∧ unitsOf 1418 = 6 := by decide +kernel

/-- R296: the 1,418-byte frame takes 7 cells, the last of 10 bytes. -/
theorem test_cells : ((chunks240 67 (List.replicate 1450 0)).map (·.length)) = [240, 240, 240, 240, 240, 240, 10] := by decide +kernel

/-- R198, R200: the increments of a charge of 1,520 bytes at weights 2, 1 and 3. -/
theorem test_wfq_increments :
    [2, 1, 3].map (fun w => 1520 * ((invWeight w).1 * 2 ^ (invWeight w).2)) = [51002736640, 102005473280, 34005975040] := by decide +kernel

/-- R212: sample instants of Q16682, V0 and V131071. -/
theorem test_sample_instants : sampleOffset 16682 = 101818 ∧ sampleOffset 524288 = 3200000 ∧ sampleOffset 655359 = 3999993 := by
  decide +kernel

/-- R227: the span of 1,520 bytes at 400 Gb/s. -/
theorem test_span : (withObjs' [(Obj.LINE_PORT_PORT_SPEED 12, 400000)]).spanOf 12 1520 = 46695 := by decide +kernel

/-- R276: one quanta period of 0xFFFF at 400 Gb/s is 83,884.8 ns. -/
theorem test_quanta : (withObjs' [(Obj.LINE_PORT_PORT_SPEED 12, 400000)]).quantaTime 12 65535 = 8388480 := by decide +kernel

/-- PRB A of R262: four stated values, the others within their range. -/
def prbA : List Byte := packBits 16 ([3000, -2500, 1234, -7] ++ List.replicate 10 2000 ++ List.replicate 10 (-2000))

/-- R259, R261: PRB A at BFP 9 has exponent 4 and begins with the bytes the example gives. -/
theorem test_prb_to_bfp9 : (recompPrb 0x00 0x91 prbA).1.take 4 = [0x04, 0x5E, 0x59, 0x09] ∧ (recompPrb 0x00 0x91 prbA).1.length = 28 := by
  decide +kernel

/-- R261: PRB C at BFP 8 has exponent 8 and clips one value: -32,768, 20,000 and 128 become -127, 78 and 0. -/
theorem test_prb_clips :
    (recompPrb 0x00 0x81 (packBits 16 ([-32768, 20000, 128] ++ List.replicate 21 0))).1.take 4 = [0x08, 0x81, 78, 0] ∧
      (recompPrb 0x00 0x81 (packBits 16 ([-32768, 20000, 128] ++ List.replicate 21 0))).2.1 = 1 := by decide +kernel

/-- R261: PRB B widened from BFP 9 at exponent 6 is exact. -/
theorem test_prb_widens :
    (recompPrb 0x91 0x00 (6#8 :: packBits 9 ([255, -256, -3] ++ List.replicate 21 0))).1.take 6 =
      (packBits 16 [16320, -16384, -192]).take 6 := by decide +kernel

/-- Site port LP72 enabled at 200 Gb/s (R374's example). -/
def lp72 : State := withObjs' [(Obj.LINE_PORT_PORT_SPEED 72, 200000), (Obj.LINE_PORT_PORT_ENABLE 72, 1)] running

/-- R271, R374, R377: a write of PORT_SPEED while the port is enabled ends BUSY, as LAST_STATUS and LAST_OBJECT say. -/
theorem test_window_write_of_an_enabled_port :
    (match execWindowWrite 1 0x2048030 4 400000 lp72 with
      | .next t => decide (t.get (Obj.ACCESS_STATUS_LAST_STATUS 1) = 2 ∧ t.get (Obj.ACCESS_STATUS_LAST_OBJECT 1) = 0x204803 ∧
          t.get (Obj.LINE_PORT_PORT_SPEED 72) = 200000)
      | _ => false) = true := by decide +kernel

/-- The fronthaul frame of the parsing chapter's example: VLAN 310 with PCP 7, eCPRI IQ data of eAxC 0x0213, O-RAN header 0x10. -/
def fronthaul : List Byte :=
  ([2, 0, 0, 0, 0, 1, 2, 0, 0, 0, 0, 2, 0x81, 0x00, 0xE1, 0x36, 0xAE, 0xFE, 0x10, 0x00, 0x00, 0x40, 0x02, 0x13, 0x00, 0x00,
    0x10, 0x00, 0x00, 0x00] : List Nat).map toByte ++ List.replicate 34 0

/-- R52: its headers by type, offset and length. -/
theorem test_fronthaul_walk : (running.parseFrame 6 100 fronthaul).1.headers = [(0, 0, 14), (1, 14, 4), (18, 18, 8), (19, 26, 4)] := by
  decide +kernel

/-- Its fields ECPRI_MSG, ECPRI_EAXC and ORAN_HDR, and no L4 port. -/
theorem test_fronthaul_fields :
    (running.parseFrame 6 100 fronthaul).1.field 29 = 0 ∧ (running.parseFrame 6 100 fronthaul).1.field 30 = 0x0213 ∧
      (running.parseFrame 6 100 fronthaul).1.field 31 = 0x10 ∧ (running.parseFrame 6 100 fronthaul).1.code = 0 := by decide +kernel

/-- The transit frame of the example: labels 24001 (TC 5), 16005 and 299 over IPv6 and UDP. -/
def transit : List Byte :=
  ([2, 0, 0, 0, 0, 1, 2, 0, 0, 0, 0, 2, 0x88, 0x47] : List Nat).map toByte ++ bytesBE 4 (24001 * 4096 + 5 * 512 + 64) ++
    bytesBE 4 (16005 * 4096 + 64) ++ bytesBE 4 (299 * 4096 + 256 + 64) ++
    ([0x60, 0, 0, 0, 0, 8, 17, 64] : List Nat).map toByte ++ List.replicate 32 1 ++ bytesBE 8 0x1000200000080000

/-- R52, R58: its headers, and MPLS_DEPTH 3. -/
theorem test_transit_walk :
    ((running.parseFrame 0 0 transit).1.headers.map fun h => (h.1, h.2.1)) = [(0, 0), (3, 14), (3, 18), (3, 22), (6, 26), (12, 66)] ∧
      (running.parseFrame 0 0 transit).1.field 11 = 3 := by decide +kernel

/-! ### States and operands that meet each statement's hypotheses -/

theorem witness_FrontCommandIsRun : ∃ s : State, s.pending = [] := ⟨State.reset, rfl⟩

theorem witness_CanonicalTablesKept : ∃ s t : State, s.Canonical ∧ step s = .next t :=
  ⟨State.reset, State.reset.nextInstant, by decide +kernel, rfl⟩

theorem witness_HbmMemoryStaysCanonical : ∃ s t : State, Table.wf zeroN s.hbm.cells = true ∧ step s = .next t :=
  ⟨State.reset, State.reset.nextInstant, by decide +kernel, rfl⟩

theorem witness_ServoCommandsSteerTimebase_1 : ∃ (s : State) (m v : Nat), s.Canonical ∧ s.Accepts m Obj.TIMEBASE_STATE_REQ v ∧ m = s.get
    Obj.TIMEBASE_SERVO_OWNER ∧ s.sec.fusing = none :=
  ⟨withObjs' [(Obj.TIMEBASE_FREQ_ADJ, 5)], 40, 3, by decide +kernel⟩

theorem witness_ServoCommandsSteerTimebase_2 : ∃ (s : State) (m v : Nat), s.Canonical ∧ s.Accepts m Obj.TIMEBASE_FREQ_ADJ v ∧ m = s.get
    Obj.TIMEBASE_SERVO_OWNER ∧ s.get Obj.TIMEBASE_STATE ≠ tbHOLDOVER ∧ s.sec.fusing = none :=
  ⟨State.reset, 40, 4294967295, by decide +kernel⟩

theorem witness_ServoCommandsSteerTimebase_3 : ∃ (s : State) (m v : Nat), s.Canonical ∧ s.Accepts m Obj.TIMEBASE_STEP v ∧ m = s.get
    Obj.TIMEBASE_SERVO_OWNER ∧ s.sec.fusing = none :=
  ⟨running, 40, 1000, by decide +kernel⟩

theorem witness_ServoCommandsSteerTimebase_4 : ∃ (s : State) (d : Int), s.Canonical ∧ s.CoreOn ∧ s.time.reload = false ∧ s.time.frac < 2
    ^ 32 ∧ s.time.steps = [d] ∧ 0 < d ∧ s.get Obj.TIMEBASE_FREQ_ADJ = 0 ∧ s.time.tai + 1 < taiWrap :=
  ⟨running.withTime { steps := [1000] }, 1000, by decide +kernel⟩

theorem witness_ServoCommandsSteerTimebase_5 : ∃ (s : State) (m v : Nat), s.Canonical ∧ s.Accepts m Obj.TIMEBASE_STATE_REQ v ∧ m ≠ s.get
    Obj.TIMEBASE_SERVO_OWNER ∧ s.sec.fusing = none :=
  ⟨State.reset, 1, 1, by decide +kernel⟩

theorem witness_ServoCommandsSteerTimebase_6 : ∃ (s : State) (m v : Nat), s.Canonical ∧ s.Accepts m Obj.TIMEBASE_FREQ_ADJ v ∧ m ≠ s.get
    Obj.TIMEBASE_SERVO_OWNER ∧ s.sec.fusing = none :=
  ⟨State.reset, 1, 1, by decide +kernel⟩

theorem witness_ServoCommandsSteerTimebase_7 : ∃ (s : State) (m v : Nat), s.Canonical ∧ s.Accepts m Obj.TIMEBASE_STEP v ∧ m ≠ s.get
    Obj.TIMEBASE_SERVO_OWNER ∧ s.sec.fusing = none :=
  ⟨State.reset, 1, 1, by decide +kernel⟩

theorem witness_TimebaseFollowsClocksAndPins_1 : ∃ (s : State) (n : Nat), s.Canonical ∧ (s.boot.restart && Nat.beq (s.get
    Obj.TIMEBASE_SERVO_OWNER) FW) = false ∧ s.get Obj.TIMEBASE_STATE = tbLOCKED ∧ max n s.time.lockAt + 2 * nsPerS ≤ s.time.now :=
  ⟨(withObjs' [(Obj.TIMEBASE_STATE, 2)]).withTime { now := 3000000000, adjustments := [3, 4] }, 0, by decide +kernel⟩

theorem witness_TimebaseFollowsClocksAndPins_2 : ∃ (s : State), s.CoreOn ∧ s.time.reload = false ∧ s.reached (s.time.tai / nsPerS *
    nsPerS : Nat) = true :=
  ⟨State.reset.withTime { tai := 2000000000, before := 1999999999 }, by decide +kernel⟩

theorem witness_TimebaseFollowsClocksAndPins_3 : ∃ (s : State), s.Canonical ∧ s.CoreOn ∧ s.time.reload = true ∧ s.time.shadowBefore /
    nsPerS < s.time.shadow / nsPerS :=
  ⟨(withObjs' [(Obj.TIMEBASE_STATE, 2)]).withTime { shadow := 5000000000, shadowBefore := 4999999960, reload := true }, by decide +kernel⟩

theorem witness_TimebaseFollowsClocksAndPins_4 : ∃ (s : State), s.CoreOn ∧ s.d2dUp = true :=
  ⟨State.reset, by decide +kernel⟩

theorem witness_TimebaseFollowsClocksAndPins_5 : ∃ (s : State), s.Canonical ∧ s.CoreOn :=
  ⟨State.reset, by decide +kernel⟩

theorem witness_TimebaseFollowsClocksAndPins_6 : ∃ (s : State), s.CoreOn ∧ s.time.reload = false ∧ s.sec.extest = false ∧ s.time.ppsHigh
    = false ∧ s.reached (((s.time.tai : Int) - signed 32 (s.get Obj.TIME_IO_PPS_OUT_OFFSET)).fdiv nsPerS * nsPerS + signed 32 (s.get
    Obj.TIME_IO_PPS_OUT_OFFSET)) = true :=
  ⟨State.reset.withTime { tai := 5000000000, before := 4999999999 }, by decide +kernel⟩

theorem witness_TimebaseFollowsClocksAndPins_7 : ∃ (s : State), s.Canonical ∧ s.CoreOn :=
  ⟨State.reset, by decide +kernel⟩

theorem witness_TimebaseFollowsClocksAndPins_8 : ∃ (s : State) (b : List Byte), s.CoreOn :=
  ⟨State.reset, [1, 2], by decide +kernel⟩

theorem witness_TimebaseFollowsClocksAndPins_9 : ∃ (s : State) (b : List Byte), s.Canonical ∧ s.CoreOn :=
  ⟨State.reset, [1, 2], by decide +kernel⟩

theorem witness_DispatcherIssuesAndActionsFire_1 : ∃ (s : State) (c : AirClock) (m v : Nat), s.Canonical ∧ s.Accepts m
    (Obj.AIR_CLOCK_ENABLE c) v ∧ s.sec.fusing = none :=
  ⟨running, 1, 1, 1, by decide +kernel⟩

theorem witness_DispatcherIssuesAndActionsFire_2 : ∃ (s : State) (a : AirAction), s.CoreOn ∧ s.nextAction = some a ∧ a.due ≤ s.time.tai
    + 4096 ∧ s.time.issuedAt ≠ some s.time.now :=
  ⟨(withDoms' [(Dom.AIR_EVENT_TABLE, 7, 2 ^ 127 + 2 ^ 96)]).withTime { clockVersions := [⟨0, 0, 1⟩], tai := 315964819000000000, nextDue := 315964818999999999, now := 9 }, ⟨315964819000000000, 7, 0, 0, 0, 0, 2 ^ 127 + 2 ^ 96⟩, by decide +kernel⟩

theorem witness_DispatcherIssuesAndActionsFire_3 : ∃ (s : State) (a : AirAction) (l : List AirAction), s.Canonical ∧ s.time.fifo = a ::
    l ∧ a.action = 0 ∧ a.due ≤ s.time.tai ∧ s.CoreOn ∧ s.on Obj.AIR_EVENT_CTRL_DISPATCH_ENABLE = true :=
  ⟨((withObjs' []).withTime { fifo := [⟨5, 3, 0, 0, 0, 0, 0⟩], tai := 6 }), ⟨5, 3, 0, 0, 0, 0, 0⟩, [], by decide +kernel⟩

theorem witness_DispatcherIssuesAndActionsFire_4 : ∃ (s : State) (a : AirAction) (l : List AirAction), s.Canonical ∧ s.time.fifo = a ::
    l ∧ a.action = 7 ∧ a.due ≤ s.time.tai ∧ s.CoreOn ∧ s.on Obj.AIR_EVENT_CTRL_DISPATCH_ENABLE = true ∧ a.arg.testBit 15 = false :=
  ⟨((withObjs' []).withTime { fifo := [⟨5, 3, 0, 7, 0, 0, 0⟩], tai := 6 }), ⟨5, 3, 0, 7, 0, 0, 0⟩, [], by decide +kernel⟩

theorem witness_DispatcherIssuesAndActionsFire_5 : ∃ (s : State) (a : AirAction) (l : List AirAction), s.Canonical ∧ s.time.fifo = a ::
    l ∧ a.action = 7 ∧ a.due ≤ s.time.tai ∧ s.CoreOn ∧ s.on Obj.AIR_EVENT_CTRL_DISPATCH_ENABLE = true ∧ a.arg.testBit 15 = true ∧
    s.sec.extest = false ∧ s.msix.fnMasked.contains 0 = false ∧ s.msix.unmasked.contains (vecKey 0 (a.arg % 1024)) = true :=
  ⟨((withObjs' []).withTime { fifo := [⟨5, 3, 0, 7, 0, 32773, 0⟩], tai := 6 }).withMsix { unmasked := [vecKey 0 5] }, ⟨5, 3, 0, 7, 0, 32773, 0⟩, [], by decide +kernel⟩

theorem witness_DispatcherIssuesAndActionsFire_6 : ∃ (s : State) (a : AirAction) (l : List AirAction), s.Canonical ∧ s.time.fifo = a ::
    l ∧ a.action = 2 ∧ a.due ≤ s.time.tai ∧ s.CoreOn ∧ s.on Obj.AIR_EVENT_CTRL_DISPATCH_ENABLE = true ∧ a.target < 16 ∧ s.on
    (Obj.SCHED_LANE_SL_ENABLE a.target) = true ∧ s.fab.switching.contains a.target = false :=
  ⟨((withObjs' [(Obj.SCHED_LANE_SL_ENABLE 3, 1)]).withTime { fifo := [⟨5, 3, 0, 2, 3, 0, 0⟩], tai := 6 }), ⟨5, 3, 0, 2, 3, 0, 0⟩, [], by decide +kernel⟩

theorem witness_DispatcherIssuesAndActionsFire_7 : ∃ (s : State) (a : AirAction) (l : List AirAction), s.Canonical ∧ s.time.fifo = a ::
    l ∧ a.action = 2 ∧ a.due ≤ s.time.tai ∧ s.CoreOn ∧ s.on Obj.AIR_EVENT_CTRL_DISPATCH_ENABLE = true ∧ a.target < 16 ∧ s.on
    (Obj.SCHED_LANE_SL_ENABLE a.target) = true ∧ s.fab.switching.contains a.target = true :=
  ⟨((withObjs' [(Obj.SCHED_LANE_SL_ENABLE 3, 1)]).withTime { fifo := [⟨5, 3, 0, 2, 3, 0, 0⟩], tai := 6 }).withFab { switching := [3] }, ⟨5, 3, 0, 2, 3, 0, 0⟩, [], by decide +kernel⟩

theorem witness_DispatcherIssuesAndActionsFire_8 : ∃ (s : State) (a : AirAction) (l : List AirAction), s.Canonical ∧ s.time.fifo = a ::
    l ∧ a.action = 2 ∧ a.due ≤ s.time.tai ∧ s.CoreOn ∧ s.on Obj.AIR_EVENT_CTRL_DISPATCH_ENABLE = true ∧ a.target < 16 ∧ s.on
    (Obj.SCHED_LANE_SL_ENABLE a.target) = false :=
  ⟨((withObjs' []).withTime { fifo := [⟨5, 3, 0, 2, 3, 0, 0⟩], tai := 6 }), ⟨5, 3, 0, 2, 3, 0, 0⟩, [], by decide +kernel⟩

theorem witness_TimedActionsTakeEffect_1 : ∃ (s : State) (a : AirAction) (l : List AirAction), s.Canonical ∧ s.time.fifo = a :: l ∧
    a.action = 1 ∧ a.due ≤ s.time.tai ∧ s.CoreOn ∧ s.on Obj.AIR_EVENT_CTRL_DISPATCH_ENABLE = true ∧ a.target < 136 :=
  ⟨((withObjs' []).withTime { fifo := [⟨5, 3, 0, 1, 7, 1, 0⟩], tai := 6 }), ⟨5, 3, 0, 1, 7, 1, 0⟩, [], by decide +kernel⟩

theorem witness_TimedActionsTakeEffect_2 : ∃ (s : State) (a : AirAction) (l : List AirAction), s.Canonical ∧ s.time.fifo = a :: l ∧
    a.action = 1 ∧ a.due ≤ s.time.tai ∧ s.CoreOn ∧ s.on Obj.AIR_EVENT_CTRL_DISPATCH_ENABLE = true ∧ a.target < 136 ∧ a.arg % 2 = 0 ∧
    (s.gate a.target).windows = [] :=
  ⟨((withObjs' [(Obj.PORT_TIMING_COUNT_B 7 0, 1)]).withTime { fifo := [⟨5, 3, 0, 1, 7, 0, 0⟩], tai := 6 }), ⟨5, 3, 0, 1, 7, 0, 0⟩, [], by decide +kernel⟩

theorem witness_TimedActionsTakeEffect_3 : ∃ (s : State) (a : AirAction) (l : List AirAction), s.Canonical ∧ s.time.fifo = a :: l ∧
    a.action = 1 ∧ a.due ≤ s.time.tai ∧ s.CoreOn ∧ s.on Obj.AIR_EVENT_CTRL_DISPATCH_ENABLE = true ∧ a.target < 136 ∧ a.arg % 2 = 1 ∧
    (s.gate a.target).windows = [] ∧ s.get (Obj.PORT_TIMING_COUNT_B a.target (1 - s.get (Obj.PORT_TIMING_ACTIVE_BANK a.target))) ≠ 0 ∧
    (s.gate a.target).swapped ≠ some a.due :=
  ⟨((withObjs' [(Obj.PORT_TIMING_COUNT_B 7 1, 1)]).withTime { fifo := [⟨5, 3, 0, 1, 7, 1, 0⟩], tai := 6 }), ⟨5, 3, 0, 1, 7, 1, 0⟩, [], by decide +kernel⟩

theorem witness_TimedActionsTakeEffect_4 : ∃ (s : State) (a : AirAction) (l : List AirAction), s.Canonical ∧ s.time.fifo = a :: l ∧
    a.action = 3 ∧ a.due ≤ s.time.tai ∧ s.CoreOn ∧ s.on Obj.AIR_EVENT_CTRL_DISPATCH_ENABLE = true ∧ (((s.domEntries
    Dom.MARKED_QUEUES).filter fun e => Nat.beq (Fld.MQ_VALID.get e.2) 1) ≠ []) :=
  ⟨(withDoms' [(Dom.MARKED_QUEUES, 2, Fld.MQ_VALID.set (Fld.MQ_INDEX.set 0 77) 1), (Dom.MARKED_QUEUES, 5, Fld.MQ_VALID.set 0 1)]).withTime { fifo := [⟨5, 3, 0, 3, 0, 0, 0⟩], tai := 6 }, ⟨5, 3, 0, 3, 0, 0, 0⟩, [], by decide +kernel⟩

theorem witness_TimedActionsTakeEffect_5 : ∃ (s : State) (a : AirAction) (l : List AirAction), s.Canonical ∧ s.time.fifo = a :: l ∧
    a.action = 5 ∧ a.due ≤ s.time.tai ∧ s.CoreOn ∧ s.on Obj.AIR_EVENT_CTRL_DISPATCH_ENABLE = true ∧ a.target < 144 ∧ s.isClient a.target
    = true ∧ a.arg = 3 ∧ ((∀ e ∈ s.pw.parts, e.2.state ≤ 3 ∧ (e.2.entering.map (·.1)).getD 0 ≤ 3)) :=
  ⟨((withObjs' []).withTime { fifo := [⟨5, 3, 0, 5, 130, 3, 0⟩], tai := 6 }), ⟨5, 3, 0, 5, 130, 3, 0⟩, [], by decide +kernel⟩

theorem witness_TimedActionsTakeEffect_6 : ∃ (s : State) (a : AirAction) (l : List AirAction), s.time.fifo = a :: l ∧ a.action = 6 ∧
    a.due ≤ s.time.tai ∧ s.CoreOn ∧ s.on Obj.AIR_EVENT_CTRL_DISPATCH_ENABLE = true ∧ a.target < 16 :=
  ⟨((withObjs' []).withTime { fifo := [⟨5, 3, 0, 6, 2, 0, 0⟩], tai := 6 }), ⟨5, 3, 0, 6, 2, 0, 0⟩, [], by decide +kernel⟩

theorem witness_TimedActionsTakeEffect_7 : ∃ (s : State) (p : Fin 136), s.Canonical ∧ s.CoreOn :=
  ⟨running, 5, by decide +kernel⟩

theorem witness_TimedActionsTakeEffect_8 : ∃ (s : State) (a : AirAction) (l : List AirAction) (p : PowerPart), s.Canonical ∧ s.time.fifo
    = a :: l ∧ a.action = 5 ∧ a.due ≤ s.time.tai ∧ s.CoreOn ∧ s.on Obj.AIR_EVENT_CTRL_DISPATCH_ENABLE = true ∧ 136 ≤ a.target ∧ a.target
    < 144 ∧ s.part a.target 0 = p ∧ a.arg < p.state ∧ p.state ≤ 3 ∧ p.entering = none ∧ p.waking = none ∧ p.blocked = false ∧
    p.holdUntil = 0 :=
  ⟨((withObjs' []).withTime { fifo := [⟨5, 3, 0, 5, 137, 0, 0⟩], tai := 6 }).withPw { parts := [(1096, { state := 1 })] }, ⟨5, 3, 0, 5, 137, 0, 0⟩, [], { state := 1 }, by decide +kernel⟩

theorem witness_PerformanceBinsClose_1 : ∃ (s : State), s.Canonical ∧ s.CoreOn ∧ ((s.time.tai / nsPerS : Nat) - (s.get
    Obj.PERF_BIN_CLOCK_DAY_OFFSET : Nat) : Int) % 900 = 0 ∧ s.dayOpens (s.time.tai / nsPerS) = none ∧ s.reached (s.time.tai / nsPerS *
    nsPerS : Nat) = true ∧ s.time.lastBin ≠ some s.time.now ∧ (((List.range 16).all fun g => !s.on (Obj.SNAPSHOT_GROUP_ON_BIN g)) =
    true) :=
  ⟨(running.withTime { tai := 900000000001, before := 899999999999 }).set Obj.PERF_BIN_CLOCK_DAY_START 0, by decide +kernel⟩

theorem witness_PerformanceBinsClose_2 : ∃ (s : State) (m v : Nat), s.Canonical ∧ s.Accepts m Obj.PERF_BIN_CLOCK_DAY_OFFSET v ∧
    s.sec.fusing = none :=
  ⟨running.withTime { tai := 900000000001 }, 1, 77, by decide +kernel⟩

theorem witness_PerformanceBinsClose_3 : ∃ (s : State) (n : FabricLane), s.CoreOn ∧ s.time.tai / nsPerS ≠ (s.fl n).pm.sec ∧ s.time.tai /
    nsPerS ≠ (s.fl n).pm.sec + 1 :=
  ⟨running.withTime { tai := 5000000000 }, 3, by decide +kernel⟩

theorem witness_PerformanceBinsClose_4 : ∃ (s : State) (n : FabricLane), s.CoreOn ∧ s.time.tai / nsPerS = (s.fl n).pm.sec + 1 ∧ (s.fl
    n).pm.off = false :=
  ⟨(running.setFl 3 { pm := { off := false } }).withTime { tai := 1000000000 }, 3, by decide +kernel⟩

theorem witness_PerformanceBinsClose_5 : ∃ (s : State) (n : FabricLane), s.CoreOn ∧ s.time.tai / nsPerS = (s.fl n).pm.sec + 1 ∧ (s.fl
    n).pm.off = true :=
  ⟨(running.setFl 3 { pm := { off := true } }).withTime { tai := 1000000000 }, 3, by decide +kernel⟩

theorem witness_PerformanceBinsClose_6 : ∃ (s : State) (n : FabricLane) (c : PmClosed), s.CoreOn ∧ (s.fl n).pm.closing = [c] ∧ c.at' +
    10 * nsPerS ≤ s.time.now :=
  ⟨(running.setFl 3 { pm := { closing := [⟨5, true, 0⟩] } }).withTime { now := 10000000000 }, 3, ⟨5, true, 0⟩, by decide +kernel⟩

theorem witness_ParserWritesTakeEffect_1 : ∃ (s : State) (m v : Nat), s.Canonical ∧ s.Accepts m Obj.PARSER_CTRL_ACTIVE_BANK v ∧ v ≠
    s.get Obj.PARSER_CTRL_ACTIVE_BANK ∧ s.sec.fusing = none :=
  ⟨running, 1, 1, by decide +kernel⟩

theorem witness_ParserWritesTakeEffect_2 : ∃ (s : State) (i : Fin 256) (j : Fin 2048) (m v : Nat), s.Canonical ∧ s.Accepts m
    Obj.PARSER_CTRL_RESTORE_DEFAULT v ∧ v < 2 ∧ v ≠ s.get Obj.PARSER_CTRL_ACTIVE_BANK ∧ s.sec.fusing = none :=
  ⟨running, 7, 9, 1, 1, by decide +kernel⟩

theorem witness_ParserWritesTakeEffect_3 : ∃ (s : State) (m v : Nat), s.Canonical ∧ s.Accepts m Obj.PARSER_CTRL_RESTORE_DEFAULT v ∧ v =
    s.get Obj.PARSER_CTRL_ACTIVE_BANK ∧ s.sec.fusing = none :=
  ⟨running, 1, 0, by decide +kernel⟩

theorem witness_ParserWritesTakeEffect_4 : ∃ (s : State) (n : Fin 64) (m v : Nat), s.Canonical ∧ s.Accepts m (Obj.KEY_PROFILE_SLOTS_LO
    n) v ∧ ((profileFields v (s.get (Obj.KEY_PROFILE_SLOTS_HI n))).any (fun id => Nat.beq (fieldWidth id) 0) = false) ∧ profileWidth
    (profileFields v (s.get (Obj.KEY_PROFILE_SLOTS_HI n))) ≤ 320 ∧ (((List.range 4).any fun k => s.on (Obj.TCAM_TABLE_ENABLE k) &&
    Nat.beq (s.get (Obj.TCAM_TABLE_KEY_PROFILE k)) n) = false) ∧ s.sec.fusing = none :=
  ⟨running, 3, 1, 0x0000000000000001, by decide +kernel⟩

theorem witness_ParserWritesTakeEffect_5 : ∃ (s : State) (n : Fin 64) (m v : Nat), s.Canonical ∧ s.Accepts m (Obj.KEY_PROFILE_SLOTS_HI
    n) v ∧ ((profileFields (s.get (Obj.KEY_PROFILE_SLOTS_LO n)) v).any (fun id => Nat.beq (fieldWidth id) 0) = false) ∧ profileWidth
    (profileFields (s.get (Obj.KEY_PROFILE_SLOTS_LO n)) v) ≤ 320 ∧ (((List.range 4).any fun k => s.on (Obj.TCAM_TABLE_ENABLE k) &&
    Nat.beq (s.get (Obj.TCAM_TABLE_KEY_PROFILE k)) n) = false) ∧ s.sec.fusing = none :=
  ⟨running, 3, 1, 0x0000000000000001, by decide +kernel⟩

theorem witness_ParserWritesTakeEffect_6 : ∃ (s : State) (n : Fin 16) (m v : Nat), s.Canonical ∧ s.Accepts m (Obj.TREE_SET_COMMIT n) v ∧
    s.sec.fusing = none :=
  ⟨running, 3, 1, 1, by decide +kernel⟩

theorem witness_ExactMatchEngineWorks_1 : ∃ (s : State) (n : EmTable) (r : LearnReq) (l : List LearnReq), s.CoreOn ∧ (s.emt n).learn = r
    :: l ∧ s.jobBefore (some (0, n.val)) r.seq = false :=
  ⟨(withObjs' [(Obj.EM_TABLE_ENABLE 3, 1), (Obj.EM_TABLE_BANK_COUNT 3, 1)] running).setEmt 3 { learn := [⟨5, 77, 0⟩] }, 3, ⟨5, 77, 0⟩, [], by decide +kernel⟩

theorem witness_ExactMatchEngineWorks_2 : ∃ (s : State) (c : Fin 1024), s.CoreOn ∧ s.boundTables c ≠ [] :=
  ⟨withObjs' [(Obj.EM_TABLE_EVENT_CQ 3, 9)] running, 9, by decide +kernel⟩

theorem witness_ExactMatchEngineWorks_3 : ∃ (s : State) (c : Nat) (e : CqEntry) (l : List CqEntry), s.Canonical ∧ (s.cq c).stash = e ::
    l ∧ 0 < s.cqRoom c ∧ s.get (Obj.CQ_CONFIG_CQ_STATE c) ≠ 3 :=
  ⟨(withObjs' [(Obj.EM_TABLE_EVENT_CQ 3, 9), (Obj.CQ_CONFIG_CQ_ENABLE 9, 1), (Obj.CQ_CONFIG_CQ_SIZE 9, 6), (Obj.CQ_CONFIG_CQ_STATE 9, 2)] running).setCq 9 { stash := List.replicate 33 ⟨7, false⟩ }, 9, ⟨7, false⟩, List.replicate 32 ⟨7, false⟩, by decide +kernel⟩

theorem witness_ExactMatchEngineWorks_4 : ∃ (s : State) (c : Nat) (n : EmTable), s.Canonical ∧ (s.cq c).stash.length ≤ 32 ∧ (s.emt
    n).pausedBy = some c :=
  ⟨((withObjs' [(Obj.EM_TABLE_PAUSED 3, 1)] running).setCq 9 { stash := List.replicate 32 ⟨7, false⟩ }).setEmt 3 { pausedBy := some 9 }, 9, 3, by decide +kernel⟩

theorem witness_ExactMatchEngineWorks_5 : ∃ (s : State) (n : EmTable) (w : Nat), s.Canonical ∧ s.CoreOn ∧ (s.emt n).nextTick = some w ∧
    w ≤ s.time.now :=
  ⟨(withObjs' [(Obj.EM_TABLE_ENABLE 3, 1), (Obj.EM_TABLE_BANK_COUNT 3, 1), (Obj.EM_TABLE_AGE_LIMIT 3, 5)] running).setEmt 3 { nextTick := some 0 }, 3, 0, by decide +kernel⟩

theorem witness_ExactMatchEngineWorks_6 : ∃ (s : State) (n : EmTable) (m v : Nat), s.Canonical ∧ s.Accepts m (Obj.EM_TABLE_STAMP_UNIT n)
    v ∧ s.sec.fusing = none :=
  ⟨(withObjs' [(Obj.EM_TABLE_ENABLE 3, 1), (Obj.EM_TABLE_BANK_COUNT 3, 1)] running).setEmt 3 { nextTick := some 9 }, 3, 1, 5000, by decide +kernel⟩

theorem witness_ExactMatchEngineWorks_7 : ∃ (s : State) (n : EmTable) (b : Nat), s.Canonical ∧ s.CoreOn ∧ s.ageing n = true ∧ s.on
    (Obj.EM_TABLE_PAUSED n) = false ∧ (s.emt n).ager = some b :=
  ⟨(withObjs' [(Obj.EM_TABLE_ENABLE 3, 1), (Obj.EM_TABLE_BANK_COUNT 3, 1), (Obj.EM_TABLE_AGE_LIMIT 3, 5), (Obj.EM_TABLE_STAMP_NOW 3, 9)] running).setEmt 3 { ager := some 0 } |>.emPut 3 2 (some ⟨false, false, 0, 5, 77⟩), 3, 0, by decide +kernel⟩

theorem witness_ExactMatchEngineWorks_8 : ∃ (s : State) (n : EmTable) (d : AgeDelete) (l : List AgeDelete), s.CoreOn ∧ s.on
    (Obj.EM_TABLE_PAUSED n) = false ∧ (s.emt n).deletes = d :: l :=
  ⟨(withObjs' [(Obj.EM_TABLE_ENABLE 3, 1), (Obj.EM_TABLE_BANK_COUNT 3, 1), (Obj.EM_TABLE_AGE_LIMIT 3, 5)] running).setEmt 3 { deletes := [⟨2, 5, 0⟩] }, 3, ⟨2, 5, 0⟩, [], by decide +kernel⟩

theorem witness_ExactMatchEngineWorks_9 : ∃ (s : State) (n : EmTable) (d : AgeDelete) (x : EmEntry), s.tab.ageDue = [(n.val, d)] ∧ s.on
    (Obj.EM_TABLE_PAUSED n) = false ∧ s.emAt n d.index = some x ∧ x.key = d.key ∧ x.stamp = d.stamp ∧ x.lock = false ∧ s.isStandby =
    false ∧ s.on (Obj.EM_TABLE_ENABLE n) = true :=
  ⟨((withObjs' [(Obj.EM_TABLE_ENABLE 3, 1), (Obj.EM_TABLE_BANK_COUNT 3, 1), (Obj.EM_TABLE_AGE_LIMIT 3, 5)] running).emPut 3 2 (some ⟨false, false, 0, 5, 77⟩)).withAgeDue [(3, ⟨2, 5, 0⟩)], 3, ⟨2, 5, 0⟩, ⟨false, false, 0, 5, 77⟩, by decide +kernel⟩

theorem witness_ExactMatchEngineWorks_10 : ∃ (s : State) (n : EmTable) (d : AgeDelete) (x : EmEntry), s.tab.ageDue = [(n.val, d)] ∧ s.on
    (Obj.EM_TABLE_PAUSED n) = false ∧ s.emAt n d.index = some x ∧ (x.key ≠ d.key ∨ x.stamp ≠ d.stamp ∨ x.lock = true) :=
  ⟨((withObjs' [(Obj.EM_TABLE_ENABLE 3, 1), (Obj.EM_TABLE_BANK_COUNT 3, 1), (Obj.EM_TABLE_AGE_LIMIT 3, 5)] running).emPut 3 2 (some ⟨false, false, 0, 5, 77⟩)).withAgeDue [(3, ⟨2, 5, 7⟩)], 3, ⟨2, 5, 7⟩, ⟨false, false, 0, 5, 77⟩, by decide +kernel⟩

theorem witness_ExactMatchEngineWorks_11 : ∃ (s : State) (n : EmTable) (m v : Nat), s.Canonical ∧ s.Accepts m (Obj.EM_TABLE_ENABLE n) v
    ∧ v = 1 ∧ s.emOverlap n = false ∧ s.get (Obj.EM_TABLE_BANK_FIRST n) + s.get (Obj.EM_TABLE_BANK_COUNT n) ≤ 615 ∧ ¬ (s.get
    (Obj.EM_TABLE_KIND n) = 2 ∧ s.emWide n = true) ∧ s.sec.fusing = none :=
  ⟨running, 3, 1, 1, by decide +kernel⟩

theorem witness_ExactMatchEngineWorks_12 : ∃ (s : State) (n : EmTable) (m v : Nat), s.Canonical ∧ s.Accepts m (Obj.EM_TABLE_ENABLE n) v
    ∧ v = 0 ∧ s.sec.fusing = none :=
  ⟨(withObjs' [(Obj.EM_TABLE_ENABLE 3, 1), (Obj.EM_TABLE_BANK_COUNT 3, 1)] running), 3, 1, 0, by decide +kernel⟩

theorem witness_ExactMatchEngineWorks_13 : ∃ (s : State) (n : EmTable) (f : Fin 5) (m v : Nat), s.Canonical ∧ s.Accepts m (objKey 0
    (0x3310 + n.val) (3 + f.val)) v ∧ s.slowRuns m (objKey 0 (0x3310 + n.val) (3 + f.val)) = false ∧ s.on (Obj.EM_TABLE_ENABLE n) =
    false ∧ s.sec.fusing = none :=
  ⟨running, 3, 2, 1, 4, by decide +kernel⟩

theorem witness_ExactMatchEngineWorks_14 : ∃ (s : State) (n : EmTable) (f : Fin 5) (m v : Nat), s.Canonical ∧ s.Accepts m (objKey 0
    (0x3310 + n.val) (3 + f.val)) v ∧ s.on (Obj.EM_TABLE_ENABLE n) = true ∧ s.sec.fusing = none :=
  ⟨(withObjs' [(Obj.EM_TABLE_ENABLE 3, 1), (Obj.EM_TABLE_BANK_COUNT 3, 1)] running), 3, 2, 1, 4, by decide +kernel⟩

theorem witness_FramesEnterAndArePiped_1 : ∃ (s : State) (p : LinePort) (f : List Byte) (c y : Nat), s.Canonical ∧ s.CoreOn ∧ s.get
    (Obj.LINE_PORT_PORT_ENABLE p) = 1 ∧ s.get (Obj.LINE_PORT_LINK_STATE p) ≠ 2 ∧ (s.part p 0).blocked = false ∧ 64 ≤ f.length ∧ f.length
    ≤ s.get (Obj.LINE_PORT_MAX_FRAME p) ∧ fcsGood f = true ∧ wordAt f 12 2 ≠ 0x8808 ∧ s.rxFits p f.length = true :=
  ⟨withObjs' [(Obj.LINE_PORT_PORT_ENABLE 5, 1), (Obj.LINE_PORT_LINK_STATE 5, 1)] running, 5, withFcs (List.replicate 60 (7#8)), 0, 0, by decide +kernel⟩

theorem witness_FramesEnterAndArePiped_2 : ∃ (s : State) (n : Fin 8) (u : List Upset) (k : Pkt) (l : List Pkt) (i : Nat) (w : State),
    s.CoreOn ∧ s.pipesHeld = false ∧ Table.get noList s.net.rx n = k :: l ∧ (s.workForTurn n).nextPipe n = some i ∧ w = (s.workForTurn
    n).workFor (128 + n) i :=
  ⟨running.withNet { rx := [(2, [({ id := 3, bytes := withFcs (List.replicate 60 (7#8)), inPort := 5, requester := 5 } : Pkt)])] }, 2, [], ({ id := 3, bytes := withFcs (List.replicate 60 (7#8)), inPort := 5, requester := 5 } : Pkt), [], 0, (running.withNet { rx := [(2, [({ id := 3, bytes := withFcs (List.replicate 60 (7#8)), inPort := 5, requester := 5 } : Pkt)])] }).workFor 130 0, by decide +kernel⟩

theorem witness_FramesEnterAndArePiped_3 : ∃ (s : State) (k : Pkt) (l : List Pkt), s.Canonical ∧ s.CoreOn ∧ s.net.recirc = k :: l ∧
    k.pass < 3 :=
  ⟨running.withNet { recirc := [({ id := 3, bytes := withFcs (List.replicate 60 (7#8)), inPort := 5, requester := 5 } : Pkt)] }, ({ id := 3, bytes := withFcs (List.replicate 60 (7#8)), inPort := 5, requester := 5 } : Pkt), [], by decide +kernel⟩

theorem witness_FramesEnterAndArePiped_4 : ∃ (s : State) (k : Pkt) (l : List Pkt), s.CoreOn ∧ s.net.recirc = k :: l ∧ 3 ≤ k.pass :=
  ⟨running.withNet { recirc := [{ ({ id := 3, bytes := withFcs (List.replicate 60 (7#8)), inPort := 5, requester := 5 } : Pkt) with pass := 3 }] }, { ({ id := 3, bytes := withFcs (List.replicate 60 (7#8)), inPort := 5, requester := 5 } : Pkt) with pass := 3 }, [], by decide +kernel⟩

theorem witness_MetersCopiesAndPipelinePool_1 : ∃ (s : State) (a b : Ecc) (j : Metered) (i : Nat) (o : OldMeter) (u w : State) (p :
    Pkt), s.CoreOn ∧ meterTurn s.net.metering = some (j, i) ∧ j.cycle ≠ pipeCycle s.time.now ∧ j.pkt.fcsBad = false ∧ s.readMeter
    j.meter a b = (o, u) ∧ u.meterPacket j o = (some p, w) :=
  ⟨running.withNet { metering := [({ pkt := ({ id := 3, bytes := withFcs (List.replicate 60 (7#8)), inPort := 5, requester := 5 } : Pkt), meter := 9, source := 5, sector := 2, cycle := 0, mcast := none } : Metered)] } |>.withTime { now := 512 }, .clean, .clean, ({ pkt := ({ id := 3, bytes := withFcs (List.replicate 60 (7#8)), inPort := 5, requester := 5 } : Pkt), meter := 9, source := 5, sector := 2, cycle := 0, mcast := none } : Metered), 0, ((running.withNet { metering := [({ pkt := ({ id := 3, bytes := withFcs (List.replicate 60 (7#8)), inPort := 5, requester := 5 } : Pkt), meter := 9, source := 5, sector := 2, cycle := 0, mcast := none } : Metered)] } |>.withTime { now := 512 }).readMeter 9 .clean .clean).1, running.withNet { metering := [({ pkt := ({ id := 3, bytes := withFcs (List.replicate 60 (7#8)), inPort := 5, requester := 5 } : Pkt), meter := 9, source := 5, sector := 2, cycle := 0, mcast := none } : Metered)] } |>.withTime { now := 512 }, ((running.withNet { metering := [({ pkt := ({ id := 3, bytes := withFcs (List.replicate 60 (7#8)), inPort := 5, requester := 5 } : Pkt), meter := 9, source := 5, sector := 2, cycle := 0, mcast := none } : Metered)] } |>.withTime { now := 512 }).meterPacket ({ pkt := ({ id := 3, bytes := withFcs (List.replicate 60 (7#8)), inPort := 5, requester := 5 } : Pkt), meter := 9, source := 5, sector := 2, cycle := 0, mcast := none } : Metered) (((running.withNet { metering := [({ pkt := ({ id := 3, bytes := withFcs (List.replicate 60 (7#8)), inPort := 5, requester := 5 } : Pkt), meter := 9, source := 5, sector := 2, cycle := 0, mcast := none } : Metered)] } |>.withTime { now := 512 }).readMeter 9 .clean .clean).1)).2, { ({ id := 3, bytes := withFcs (List.replicate 60 (7#8)), inPort := 5, requester := 5 } : Pkt) with colour := 0 }, by decide +kernel⟩

theorem witness_MetersCopiesAndPipelinePool_2 : ∃ (s : State) (a b : Ecc) (j : Metered) (i : Nat) (o : OldMeter) (u w : State), s.CoreOn
    ∧ meterTurn s.net.metering = some (j, i) ∧ j.cycle ≠ pipeCycle s.time.now ∧ j.pkt.fcsBad = false ∧ s.readMeter j.meter a b = (o, u)
    ∧ u.meterPacket j o = (none, w) :=
  ⟨((withDoms' [(Dom.METER_PROFILES, 0, Fld.MP_RED_DROP.set 0 1)] running).withNet { metering := [({ pkt := { ({ id := 3, bytes := withFcs (List.replicate 60 (7#8)), inPort := 5, requester := 5 } : Pkt) with colour := 2 }, meter := 9, source := 5, sector := 2, cycle := 0, mcast := none } : Metered)] }).withTime { now := 512 }, .clean, .clean, ({ pkt := { ({ id := 3, bytes := withFcs (List.replicate 60 (7#8)), inPort := 5, requester := 5 } : Pkt) with colour := 2 }, meter := 9, source := 5, sector := 2, cycle := 0, mcast := none } : Metered), 0, ((((withDoms' [(Dom.METER_PROFILES, 0, Fld.MP_RED_DROP.set 0 1)] running).withNet { metering := [({ pkt := { ({ id := 3, bytes := withFcs (List.replicate 60 (7#8)), inPort := 5, requester := 5 } : Pkt) with colour := 2 }, meter := 9, source := 5, sector := 2, cycle := 0, mcast := none } : Metered)] }).withTime { now := 512 }).readMeter 9 .clean .clean).1, ((withDoms' [(Dom.METER_PROFILES, 0, Fld.MP_RED_DROP.set 0 1)] running).withNet { metering := [({ pkt := { ({ id := 3, bytes := withFcs (List.replicate 60 (7#8)), inPort := 5, requester := 5 } : Pkt) with colour := 2 }, meter := 9, source := 5, sector := 2, cycle := 0, mcast := none } : Metered)] }).withTime { now := 512 }, ((((withDoms' [(Dom.METER_PROFILES, 0, Fld.MP_RED_DROP.set 0 1)] running).withNet { metering := [({ pkt := { ({ id := 3, bytes := withFcs (List.replicate 60 (7#8)), inPort := 5, requester := 5 } : Pkt) with colour := 2 }, meter := 9, source := 5, sector := 2, cycle := 0, mcast := none } : Metered)] }).withTime { now := 512 }).meterPacket ({ pkt := { ({ id := 3, bytes := withFcs (List.replicate 60 (7#8)), inPort := 5, requester := 5 } : Pkt) with colour := 2 }, meter := 9, source := 5, sector := 2, cycle := 0, mcast := none } : Metered) (((((withDoms' [(Dom.METER_PROFILES, 0, Fld.MP_RED_DROP.set 0 1)] running).withNet { metering := [({ pkt := { ({ id := 3, bytes := withFcs (List.replicate 60 (7#8)), inPort := 5, requester := 5 } : Pkt) with colour := 2 }, meter := 9, source := 5, sector := 2, cycle := 0, mcast := none } : Metered)] }).withTime { now := 512 }).readMeter 9 .clean .clean).1)).2, by decide +kernel⟩

theorem witness_MetersCopiesAndPipelinePool_3 : ∃ (s : State) (j : Metered) (o : OldMeter) (out m2 : Nat), s.Canonical ∧ o.bad = false ∧
    s.sched.oldMeters = [] ∧ j.meter < 262144 ∧ meterDecide o.profile o.entry j.pkt.bytes.length j.pkt.colour = (out, m2) ∧ (out ≠ 2 ∨
    Fld.MP_RED_DROP.get o.profile = 0) :=
  ⟨running, ({ pkt := ({ id := 3, bytes := withFcs (List.replicate 60 (7#8)), inPort := 5, requester := 5 } : Pkt), meter := 9, source := 5, sector := 2, cycle := 0, mcast := none } : Metered), (⟨9, 0, 0, false⟩ : OldMeter), 0, 0, by decide +kernel⟩

theorem witness_MetersCopiesAndPipelinePool_4 : ∃ (s : State) (x : MeterRead), s.CoreOn :=
  ⟨running.withTime { now := 512 }, ⟨9, .corrected, .uncorrectable⟩, by decide +kernel⟩

theorem witness_MetersCopiesAndPipelinePool_5 : ∃ (s : State) (n : Fin 262144), s.Canonical ∧ s.CoreOn ∧ s.sched.oldMeters = [] :=
  ⟨running.withTime { now := 512 }, 9, by decide +kernel⟩

theorem witness_MetersCopiesAndPipelinePool_6 : ∃ (s : State) (n : Fin 8) (u : List Upset) (j : McJob) (l : List McJob) (e h : Nat) (p :
    Pkt) (a b c : State), s.CoreOn ∧ Table.get noList s.net.mc n = j :: l ∧ 0 < j.left ∧ ((s.workFor (128 + n) 5).part (128 + n)
    5).inRun = true ∧ ((forEach u (s.workFor (128 + n) 5) fun s u => s.upset false u).resEntry Dom.MC_COPIES j.next = (some e, a)) ∧
    Fld.MCC_VALID.get e = 1 ∧ a.resEntry Dom.NEXT_HOPS (Fld.MCC_NEXT_HOP.get e) = (some h, b) ∧ (Fld.MCC_PRUNE.get e = 0 ∨
    Fld.NH_LOCATION.get h ≠ b.ownLocation j.pkt.inPort) ∧ b.toNextHop n true { j.pkt with id := b.net.serial } (Fld.MCC_NEXT_HOP.get e)
    = (some p, c) :=
  ⟨(withDoms' [(Dom.MC_COPIES, 4, Fld.MCC_VALID.set (Fld.MCC_NEXT_HOP.set 0 6) 1), (Dom.NEXT_HOPS, 6, Fld.NH_VALID.set (Fld.NH_LOCATION.set 0 9) 1)] running).withNet { mc := [(2, [⟨({ id := 3, bytes := withFcs (List.replicate 60 (7#8)), inPort := 5, requester := 5 } : Pkt), 4, 2⟩])] }, 2, [], ⟨({ id := 3, bytes := withFcs (List.replicate 60 (7#8)), inPort := 5, requester := 5 } : Pkt), 4, 2⟩, [], Fld.MCC_VALID.set (Fld.MCC_NEXT_HOP.set 0 6) 1, Fld.NH_VALID.set (Fld.NH_LOCATION.set 0 9) 1, { id := 0, bytes := withFcs (List.replicate 60 (7#8)), inPort := 5, requester := 5, edit := .nextHop 6, dest := 9 }, (((withDoms' [(Dom.MC_COPIES, 4, Fld.MCC_VALID.set (Fld.MCC_NEXT_HOP.set 0 6) 1), (Dom.NEXT_HOPS, 6, Fld.NH_VALID.set (Fld.NH_LOCATION.set 0 9) 1)] running).withNet { mc := [(2, [⟨({ id := 3, bytes := withFcs (List.replicate 60 (7#8)), inPort := 5, requester := 5 } : Pkt), 4, 2⟩])] }).workFor 130 5), (((withDoms' [(Dom.MC_COPIES, 4, Fld.MCC_VALID.set (Fld.MCC_NEXT_HOP.set 0 6) 1), (Dom.NEXT_HOPS, 6, Fld.NH_VALID.set (Fld.NH_LOCATION.set 0 9) 1)] running).withNet { mc := [(2, [⟨({ id := 3, bytes := withFcs (List.replicate 60 (7#8)), inPort := 5, requester := 5 } : Pkt), 4, 2⟩])] }).workFor 130 5), (((withDoms' [(Dom.MC_COPIES, 4, Fld.MCC_VALID.set (Fld.MCC_NEXT_HOP.set 0 6) 1), (Dom.NEXT_HOPS, 6, Fld.NH_VALID.set (Fld.NH_LOCATION.set 0 9) 1)] running).withNet { mc := [(2, [⟨({ id := 3, bytes := withFcs (List.replicate 60 (7#8)), inPort := 5, requester := 5 } : Pkt), 4, 2⟩])] }).workFor 130 5), by decide +kernel⟩

theorem witness_MetersCopiesAndPipelinePool_7 : ∃ (s : State) (n : Fin 8) (k : Fin 4), s.CoreOn ∧ s.get (Obj.PIPE_POOL_MODE n) = 1 ∧
    s.get (Obj.PIPE_POOL_HIGH_PCT n) * s.activePipes n * 1250 < s.packetRate n * 100 ∧ (((List.range 4).find? fun k => (s.get
    (Obj.PIPE_POOL_POOL_MASK n)).testBit k && !(s.get (Obj.PIPE_POOL_ACTIVE_MASK n)).testBit k) = some k.val) :=
  ⟨(withObjs' [(Obj.PIPE_POOL_MODE 2, 1), (Obj.PIPE_POOL_ACTIVE_MASK 2, 1)] running).withNet { arrivals := [(2, List.replicate 1300 0)] }, 2, 1, by decide +kernel⟩

theorem witness_MetersCopiesAndPipelinePool_8 : ∃ (s : State) (n : Fin 8) (k : Fin 4), s.CoreOn ∧ s.get (Obj.PIPE_POOL_MODE n) = 1 ∧ 1 <
    s.activePipes n ∧ s.rateLow n = true ∧ highestBit 4 (s.get (Obj.PIPE_POOL_ACTIVE_MASK n)) = some k.val :=
  ⟨withObjs' [(Obj.PIPE_POOL_MODE 2, 1)] running |>.withTime { now := 20000000 }, 2, 3, by decide +kernel⟩

theorem witness_BufferCommandsTakeEffect_1 : ∃ (s : State) (m v : Nat), s.Canonical ∧ s.Accepts m Obj.BUFFER_CTRL_BUF_ENABLE v ∧ v = 1 ∧
    (((List.range 3).all fun g => s.regionOk g) = true) ∧ s.sec.fusing = none :=
  ⟨running, 1, 1, by decide +kernel⟩

theorem witness_BufferCommandsTakeEffect_2 : ∃ (s : State) (m v : Nat), s.Canonical ∧ s.Accepts m Obj.BUFFER_CTRL_BUF_ENABLE v ∧ v = 0 ∧
    s.sec.fusing = none :=
  ⟨running, 1, 0, by decide +kernel⟩

theorem witness_BufferCommandsTakeEffect_3 : ∃ (s : State) (m v : Nat), s.Canonical ∧ s.Accepts m Obj.BUFFER_CTRL_BUF_ENABLE v ∧ v = 1 ∧
    (((List.range 3).all fun g => s.regionOk g) = false) ∧ s.sec.fusing = none :=
  ⟨withObjs' [(Obj.BUFFER_REGION_MODE 0, 1)] running, 1, 1, by decide +kernel⟩

theorem witness_BufferCommandsTakeEffect_4 : ∃ (s : State) (u : List PoolUpset) (c : List Pkt) (w : State), s.CoreOn ∧ s.ev.d2dRetrain =
    none ∧ (w = forEach u s (fun s x => s.poolUpset x)) ∧ (c = sortBy (fun (k : Pkt) => k.requester) ((sortBy (fun (k : Pkt) =>
    (k.requester + 388 - w.net.admitPtr % 388) % 388) w.net.toAdmit).take 64)) ∧ c ≠ [] :=
  ⟨running.withNet { toAdmit := [({ id := 3, bytes := withFcs (List.replicate 60 (7#8)), inPort := 5, requester := 5 } : Pkt)] }, [], [({ id := 3, bytes := withFcs (List.replicate 60 (7#8)), inPort := 5, requester := 5 } : Pkt)], running.withNet { toAdmit := [({ id := 3, bytes := withFcs (List.replicate 60 (7#8)), inPort := 5, requester := 5 } : Pkt)] }, by decide +kernel⟩

theorem witness_BufferCommandsTakeEffect_5 : ∃ (s : State) (r : Fin 388) (e : ReadUpset) (u : Nat × Nat) (q : Nat) (k k2 : Pkt) (a b :
    State), s.CoreOn ∧ s.ev.d2dRetrain = none ∧ s.ev.d2dFailed = false ∧ ((s.net.units.find? fun u => Nat.beq u.1 r) = some u) ∧
    s.queueOf u.2 = some (q, k) ∧ (a = s.withNet { s.net with units := s.net.units.eraseP fun v => Nat.beq v.1 u.1 }) ∧ a.store k
    (a.bufsOf k (k.arrived + 1)) = (k2, b) ∧ k.arrived + 1 ≠ k.whole :=
  ⟨running.withNet { units := [(5, 3), (5, 3)], queues := [(8, [({ id := 3, bytes := withFcs (List.replicate 600 (7#8)), inPort := 5, requester := 5, whole := 3, units := 3, dest := 5, queue := 8, len := 604, arrived := 1 } : Pkt)])] }, 5, .clean, (5, 3), 8, ({ id := 3, bytes := withFcs (List.replicate 600 (7#8)), inPort := 5, requester := 5, whole := 3, units := 3, dest := 5, queue := 8, len := 604, arrived := 1 } : Pkt), ((running.withNet { units := [(5, 3)], queues := [(8, [({ id := 3, bytes := withFcs (List.replicate 600 (7#8)), inPort := 5, requester := 5, whole := 3, units := 3, dest := 5, queue := 8, len := 604, arrived := 1 } : Pkt)])] }).store (({ id := 3, bytes := withFcs (List.replicate 600 (7#8)), inPort := 5, requester := 5, whole := 3, units := 3, dest := 5, queue := 8, len := 604, arrived := 1 } : Pkt)) ((running.withNet { units := [(5, 3)], queues := [(8, [({ id := 3, bytes := withFcs (List.replicate 600 (7#8)), inPort := 5, requester := 5, whole := 3, units := 3, dest := 5, queue := 8, len := 604, arrived := 1 } : Pkt)])] }).bufsOf (({ id := 3, bytes := withFcs (List.replicate 600 (7#8)), inPort := 5, requester := 5, whole := 3, units := 3, dest := 5, queue := 8, len := 604, arrived := 1 } : Pkt)) 2)).1, (running.withNet { units := [(5, 3)], queues := [(8, [({ id := 3, bytes := withFcs (List.replicate 600 (7#8)), inPort := 5, requester := 5, whole := 3, units := 3, dest := 5, queue := 8, len := 604, arrived := 1 } : Pkt)])] }), ((running.withNet { units := [(5, 3)], queues := [(8, [({ id := 3, bytes := withFcs (List.replicate 600 (7#8)), inPort := 5, requester := 5, whole := 3, units := 3, dest := 5, queue := 8, len := 604, arrived := 1 } : Pkt)])] }).store (({ id := 3, bytes := withFcs (List.replicate 600 (7#8)), inPort := 5, requester := 5, whole := 3, units := 3, dest := 5, queue := 8, len := 604, arrived := 1 } : Pkt)) ((running.withNet { units := [(5, 3)], queues := [(8, [({ id := 3, bytes := withFcs (List.replicate 600 (7#8)), inPort := 5, requester := 5, whole := 3, units := 3, dest := 5, queue := 8, len := 604, arrived := 1 } : Pkt)])] }).bufsOf (({ id := 3, bytes := withFcs (List.replicate 600 (7#8)), inPort := 5, requester := 5, whole := 3, units := 3, dest := 5, queue := 8, len := 604, arrived := 1 } : Pkt)) 2)).2, by decide +kernel⟩

theorem witness_BufferCommandsTakeEffect_6 : ∃ (s : State) (r : Fin 388) (e : ReadUpset) (u : Nat × Nat) (q : Nat) (k k2 : Pkt) (a b :
    State), s.CoreOn ∧ s.ev.d2dRetrain = none ∧ s.ev.d2dFailed = false ∧ ((s.net.units.find? fun u => Nat.beq u.1 r) = some u) ∧
    s.queueOf u.2 = some (q, k) ∧ (a = s.withNet { s.net with units := s.net.units.eraseP fun v => Nat.beq v.1 u.1 }) ∧ a.store k
    (a.bufsOf k (k.arrived + 1)) = (k2, b) ∧ k.arrived + 1 = k.whole :=
  ⟨running.withNet { units := [(5, 3)], queues := [(8, [({ id := 3, bytes := withFcs (List.replicate 600 (7#8)), inPort := 5, requester := 5, whole := 3, units := 3, dest := 5, queue := 8, len := 604, arrived := 2 } : Pkt)])] }, 5, .clean, (5, 3), 8, ({ id := 3, bytes := withFcs (List.replicate 600 (7#8)), inPort := 5, requester := 5, whole := 3, units := 3, dest := 5, queue := 8, len := 604, arrived := 2 } : Pkt), ((running.withNet { units := [], queues := [(8, [({ id := 3, bytes := withFcs (List.replicate 600 (7#8)), inPort := 5, requester := 5, whole := 3, units := 3, dest := 5, queue := 8, len := 604, arrived := 2 } : Pkt)])] }).store (({ id := 3, bytes := withFcs (List.replicate 600 (7#8)), inPort := 5, requester := 5, whole := 3, units := 3, dest := 5, queue := 8, len := 604, arrived := 2 } : Pkt)) ((running.withNet { units := [], queues := [(8, [({ id := 3, bytes := withFcs (List.replicate 600 (7#8)), inPort := 5, requester := 5, whole := 3, units := 3, dest := 5, queue := 8, len := 604, arrived := 2 } : Pkt)])] }).bufsOf (({ id := 3, bytes := withFcs (List.replicate 600 (7#8)), inPort := 5, requester := 5, whole := 3, units := 3, dest := 5, queue := 8, len := 604, arrived := 2 } : Pkt)) 3)).1, (running.withNet { units := [], queues := [(8, [({ id := 3, bytes := withFcs (List.replicate 600 (7#8)), inPort := 5, requester := 5, whole := 3, units := 3, dest := 5, queue := 8, len := 604, arrived := 2 } : Pkt)])] }), ((running.withNet { units := [], queues := [(8, [({ id := 3, bytes := withFcs (List.replicate 600 (7#8)), inPort := 5, requester := 5, whole := 3, units := 3, dest := 5, queue := 8, len := 604, arrived := 2 } : Pkt)])] }).store (({ id := 3, bytes := withFcs (List.replicate 600 (7#8)), inPort := 5, requester := 5, whole := 3, units := 3, dest := 5, queue := 8, len := 604, arrived := 2 } : Pkt)) ((running.withNet { units := [], queues := [(8, [({ id := 3, bytes := withFcs (List.replicate 600 (7#8)), inPort := 5, requester := 5, whole := 3, units := 3, dest := 5, queue := 8, len := 604, arrived := 2 } : Pkt)])] }).bufsOf (({ id := 3, bytes := withFcs (List.replicate 600 (7#8)), inPort := 5, requester := 5, whole := 3, units := 3, dest := 5, queue := 8, len := 604, arrived := 2 } : Pkt)) 3)).2, by decide +kernel⟩

theorem witness_BufferCommandsTakeEffect_7 : ∃ (s : State) (x : Staged) (l : List Staged), s.CoreOn ∧ s.net.staging = x :: l ∧
    x.requester = none :=
  ⟨running.withNet { staging := [⟨3, [4, 5], none⟩], used := [(0, 9)] }, ⟨3, [4, 5], none⟩, [], by decide +kernel⟩

theorem witness_BufferCommandsTakeEffect_8 : ∃ (s : State) (x : Staged) (l : List Staged) (r : Nat), s.CoreOn ∧ s.net.staging = x :: l ∧
    x.requester = some r :=
  ⟨running.withNet { staging := [⟨3, [4, 5], some 140⟩], used := [(0, 9)] }, ⟨3, [4, 5], some 140⟩, [], 140, by decide +kernel⟩

theorem witness_BufferCommandsTakeEffect_9 : ∃ (s : State), s.CoreOn ∧ s.d2dUp = true :=
  ⟨running, by decide +kernel⟩

theorem witness_PacketsAreEditedAndSent_1 : ∃ (s : State) (p : Fin 136) (e : ReadUpset) (u : List Upset) (k k2 : Pkt) (l : List Pkt) (b
    : List Byte) (mtu : Nat) (w x y : State), s.CoreOn ∧ s.pipesHeld = false ∧ Table.get noList s.net.egress p = k :: l ∧
    s.ev.d2dRetrain = none ∧ s.ev.d2dFailed = false ∧ ((s.workFor (128 + s.egressSector p) 4).part (128 + s.egressSector p) 4).inRun =
    true ∧ w = ((s.workFor (128 + s.egressSector p) 4).withNet { (s.workFor (128 + s.egressSector p) 4).net with egress := Table.put noList (s.workFor (128 + s.egressSector p) 4).net.egress p l })
    ∧ w.readUpset k e = (none, x) ∧ x.readOut k = (k2, y) ∧ ¬ (k2.scheduled = true ∧ k2.complete = false) ∧ p.val ≠ portXC ∧ ((forEach u
    y fun s u => s.upset false u).editPacket k2 = .frame b mtu) ∧ b.length + 4 ≤ mtu ∧ k2.recomp = 0 :=
  ⟨running.withNet { egress := [(5, [({ id := 3, bytes := withFcs (List.replicate 60 (7#8)), inPort := 5, requester := 5 } : Pkt)])] }, 5, .clean, [], ({ id := 3, bytes := withFcs (List.replicate 60 (7#8)), inPort := 5, requester := 5 } : Pkt), ((((running.withNet { egress := [(5, [({ id := 3, bytes := withFcs (List.replicate 60 (7#8)), inPort := 5, requester := 5 } : Pkt)])] }).workFor 128 4).withNet { ((running.withNet { egress := [(5, [({ id := 3, bytes := withFcs (List.replicate 60 (7#8)), inPort := 5, requester := 5 } : Pkt)])] }).workFor 128 4).net with egress := Table.put noList ((running.withNet { egress := [(5, [({ id := 3, bytes := withFcs (List.replicate 60 (7#8)), inPort := 5, requester := 5 } : Pkt)])] }).workFor 128 4).net.egress 5 [] }).readOut ({ id := 3, bytes := withFcs (List.replicate 60 (7#8)), inPort := 5, requester := 5 } : Pkt)).1, [], List.replicate 60 (7#8), 16000, (((running.withNet { egress := [(5, [({ id := 3, bytes := withFcs (List.replicate 60 (7#8)), inPort := 5, requester := 5 } : Pkt)])] }).workFor 128 4).withNet { ((running.withNet { egress := [(5, [({ id := 3, bytes := withFcs (List.replicate 60 (7#8)), inPort := 5, requester := 5 } : Pkt)])] }).workFor 128 4).net with egress := Table.put noList ((running.withNet { egress := [(5, [({ id := 3, bytes := withFcs (List.replicate 60 (7#8)), inPort := 5, requester := 5 } : Pkt)])] }).workFor 128 4).net.egress 5 [] }), (((running.withNet { egress := [(5, [({ id := 3, bytes := withFcs (List.replicate 60 (7#8)), inPort := 5, requester := 5 } : Pkt)])] }).workFor 128 4).withNet { ((running.withNet { egress := [(5, [({ id := 3, bytes := withFcs (List.replicate 60 (7#8)), inPort := 5, requester := 5 } : Pkt)])] }).workFor 128 4).net with egress := Table.put noList ((running.withNet { egress := [(5, [({ id := 3, bytes := withFcs (List.replicate 60 (7#8)), inPort := 5, requester := 5 } : Pkt)])] }).workFor 128 4).net.egress 5 [] }), ((((running.withNet { egress := [(5, [({ id := 3, bytes := withFcs (List.replicate 60 (7#8)), inPort := 5, requester := 5 } : Pkt)])] }).workFor 128 4).withNet { ((running.withNet { egress := [(5, [({ id := 3, bytes := withFcs (List.replicate 60 (7#8)), inPort := 5, requester := 5 } : Pkt)])] }).workFor 128 4).net with egress := Table.put noList ((running.withNet { egress := [(5, [({ id := 3, bytes := withFcs (List.replicate 60 (7#8)), inPort := 5, requester := 5 } : Pkt)])] }).workFor 128 4).net.egress 5 [] }).readOut ({ id := 3, bytes := withFcs (List.replicate 60 (7#8)), inPort := 5, requester := 5 } : Pkt)).2, by decide +kernel⟩

theorem witness_PacketsAreEditedAndSent_2 : ∃ (s : State) (p : Fin 136) (e : ReadUpset) (u : List Upset) (k : Pkt) (l : List Pkt) (c :
    Nat) (w x : State), s.CoreOn ∧ s.pipesHeld = false ∧ Table.get noList s.net.egress p = k :: l ∧ s.ev.d2dRetrain = none ∧
    s.ev.d2dFailed = false ∧ ((s.workFor (128 + s.egressSector p) 4).part (128 + s.egressSector p) 4).inRun = true ∧ w = ((s.workFor
    (128 + s.egressSector p) 4).withNet { (s.workFor (128 + s.egressSector p) 4).net with egress := Table.put noList (s.workFor (128 + s.egressSector p) 4).net.egress p l })
    ∧ w.readUpset k e = (some c, x) :=
  ⟨running.withNet { egress := [(5, [({ id := 3, bytes := withFcs (List.replicate 60 (7#8)), inPort := 5, requester := 5 } : Pkt)])] }, 5, .data, [], ({ id := 3, bytes := withFcs (List.replicate 60 (7#8)), inPort := 5, requester := 5 } : Pkt), [], (((((running.withNet { egress := [(5, [({ id := 3, bytes := withFcs (List.replicate 60 (7#8)), inPort := 5, requester := 5 } : Pkt)])] }).workFor 128 4).withNet { ((running.withNet { egress := [(5, [({ id := 3, bytes := withFcs (List.replicate 60 (7#8)), inPort := 5, requester := 5 } : Pkt)])] }).workFor 128 4).net with egress := Table.put noList ((running.withNet { egress := [(5, [({ id := 3, bytes := withFcs (List.replicate 60 (7#8)), inPort := 5, requester := 5 } : Pkt)])] }).workFor 128 4).net.egress 5 [] }).readUpset ({ id := 3, bytes := withFcs (List.replicate 60 (7#8)), inPort := 5, requester := 5 } : Pkt) .data).1).getD 0, (((running.withNet { egress := [(5, [({ id := 3, bytes := withFcs (List.replicate 60 (7#8)), inPort := 5, requester := 5 } : Pkt)])] }).workFor 128 4).withNet { ((running.withNet { egress := [(5, [({ id := 3, bytes := withFcs (List.replicate 60 (7#8)), inPort := 5, requester := 5 } : Pkt)])] }).workFor 128 4).net with egress := Table.put noList ((running.withNet { egress := [(5, [({ id := 3, bytes := withFcs (List.replicate 60 (7#8)), inPort := 5, requester := 5 } : Pkt)])] }).workFor 128 4).net.egress 5 [] }), ((((running.withNet { egress := [(5, [({ id := 3, bytes := withFcs (List.replicate 60 (7#8)), inPort := 5, requester := 5 } : Pkt)])] }).workFor 128 4).withNet { ((running.withNet { egress := [(5, [({ id := 3, bytes := withFcs (List.replicate 60 (7#8)), inPort := 5, requester := 5 } : Pkt)])] }).workFor 128 4).net with egress := Table.put noList ((running.withNet { egress := [(5, [({ id := 3, bytes := withFcs (List.replicate 60 (7#8)), inPort := 5, requester := 5 } : Pkt)])] }).workFor 128 4).net.egress 5 [] }).readUpset ({ id := 3, bytes := withFcs (List.replicate 60 (7#8)), inPort := 5, requester := 5 } : Pkt) .data).2, by decide +kernel⟩

theorem witness_PacketsAreEditedAndSent_3 : ∃ (s : State) (p : LinePort) (k : Pkt) (l : List Pkt) (x : Nat), s.CoreOn ∧ Table.get noList
    s.net.tx p = k :: l ∧ (Table.get (fun _ => none) s.net.wire p = none) ∧ ((s.workFor p 0).part p 0).inRun = true ∧ s.boot.ready =
    true ∧ s.get (Obj.LINE_PORT_PORT_ENABLE p) = 1 ∧ s.get (Obj.LINE_PORT_LINK_STATE p) = 1 ∧ ((s.workFor p 0).withNet { (s.workFor p 0).net with tx := Table.put noList (s.workFor p 0).net.tx p l }).leaseOpen
    p k = true ∧ windowMissed k.window s.timeNow = false ∧ x = ((s.stampNow : Int) + signed 32 (s.setting (Obj.LINE_PORT_TX_ASYM
    p))).toNat :=
  ⟨(withObjs' [(Obj.LINE_PORT_PORT_ENABLE 5, 1), (Obj.LINE_PORT_LINK_STATE 5, 1)] running).withNet { tx := [(5, [({ id := 3, bytes := withFcs (List.replicate 60 (7#8)), inPort := 5, requester := 5 } : Pkt)])] }, 5, ({ id := 3, bytes := withFcs (List.replicate 60 (7#8)), inPort := 5, requester := 5 } : Pkt), [], 0, by decide +kernel⟩

theorem witness_PacketsAreEditedAndSent_4 : ∃ (s : State) (p : LinePort) (k k2 : Pkt) (x : Nat) (a : State), s.CoreOn ∧ (Table.get (fun
    _ => none) s.net.wire p = some (k, x)) ∧ k.complete = true ∧ ((s.withNet { s.net with wire := Table.put (fun _ => none) s.net.wire p none }).settle
    k = (k2, a)) ∧ k2.stomp = false ∧ k2.fill = false :=
  ⟨running.withNet { wire := [(5, some (({ id := 3, bytes := withFcs (List.replicate 60 (7#8)), inPort := 5, requester := 5 } : Pkt), 77))] }, 5, ({ id := 3, bytes := withFcs (List.replicate 60 (7#8)), inPort := 5, requester := 5 } : Pkt), ((running.withNet { wire := [] }).settle ({ id := 3, bytes := withFcs (List.replicate 60 (7#8)), inPort := 5, requester := 5 } : Pkt)).1, 77, ((running.withNet { wire := [] }).settle ({ id := 3, bytes := withFcs (List.replicate 60 (7#8)), inPort := 5, requester := 5 } : Pkt)).2, by decide +kernel⟩

theorem witness_DieLinkAndEventLog_1 : ∃ (s : State) (g : Bool), s.Canonical ∧ s.CoreOn ∧ s.d2dUp = true :=
  ⟨running, false, by decide +kernel⟩

theorem witness_DieLinkAndEventLog_2 : ∃ (s : State), s.Canonical ∧ s.CoreOn ∧ s.d2dUp = true ∧ 16 ≤ s.ev.failedReplays :=
  ⟨running.withEv { failedReplays := 16 }, by decide +kernel⟩

theorem witness_DieLinkAndEventLog_3 : ∃ (s : State) (b : Nat), s.CoreOn ∧ s.ev.d2dRetrain = some b ∧ s.time.now < b + ms :=
  ⟨running.withEv { d2dRetrain := some 7 }, 7, by decide +kernel⟩

theorem witness_DieLinkAndEventLog_4 : ∃ (s : State) (b : Nat), s.CoreOn ∧ s.ev.d2dRetrain = some b ∧ b + ms ≤ s.time.now ∧
    s.net.toAdmit = [] ∧ s.net.queues = [] ∧ s.net.egress = [] ∧ s.net.tx = [] ∧ s.net.wire = [] :=
  ⟨(running.withEv { d2dRetrain := some 7 }).withTime { now := 2000000 }, 7, by decide +kernel⟩

theorem witness_DieLinkAndEventLog_5 : ∃ (s : State) (a b : EventRec), s.ev.due = [a, b] ∧ (b.unit < a.unit ∨ (b.unit = a.unit ∧ b.code
    < a.code)) :=
  ⟨running.withEv { due := [⟨0x2001, 9, 0, 0, 1⟩, ⟨0x1101, 9, 0, 0, 2⟩] }, ⟨0x2001, 9, 0, 0, 1⟩, ⟨0x1101, 9, 0, 0, 2⟩, by decide +kernel⟩

theorem witness_DieLinkAndEventLog_6 : ∃ (s : State) (r : EventRec), s.Canonical ∧ eventClass r.code < 4 ∧ (s.get
    Obj.EVENT_CTRL_EVENT_CQ = 0xFFFF ∨ s.get Obj.EVENT_CTRL_EVENT_CQ < 1024) :=
  ⟨running, ⟨0x1101, 9, 0, 0, 2⟩, by decide +kernel⟩

theorem witness_SchedulersServeQueues_1 : ∃ (s : State) (n : Fin 8) (u : List QueueUpset) (p : Nat) (k : Pick) (w x : State), s.CoreOn ∧
    s.tsBlocked n = false ∧ s.slicesHeld = false ∧ (w = forEach (slicePorts n) (forEach u s (fun s x => s.queueUpset x)) (fun s p =>
    s.refreshPort p)) ∧ ((rotateAt (slicePorts n) (Table.get zeroN (forEach u s (fun s x => s.queueUpset x)).sched.portPtr n)).findSome?
    (fun p => (w.decidePort p).1.map fun k => (p, k)) = some (p, k)) ∧ (x = forEach ((rotateAt (slicePorts n) (Table.get zeroN (forEach
    u s (fun s x => s.queueUpset x)).sched.portPtr n)).takeWhile (· != p) ++ [p]) w (fun s y => s.holdGuards y (s.decidePort y).2)) :=
  ⟨(State.decideAdmission (withDoms' [(Dom.USERS, 2, Fld.USR_VALID.set (Fld.USR_GROUP.set 0 3) 1), (Dom.GROUPS, 3, Fld.GRP_VALID.set (Fld.GRP_PORT.set 0 5) 1)] (withObjs' [(Obj.BUFFER_CTRL_BUF_ENABLE, 1), (Obj.TM_CTRL_SCHED_ENABLE, 1), (Obj.FABRIC_CTRL_FABRIC_ENABLE, 1)] running)) ({ id := 3, bytes := withFcs (List.replicate 60 (7#8)), inPort := 5, requester := 5, dest := 5, qsel := some 8, voq := false } : Pkt)), 0, [], 5, (((forEach (slicePorts 0) (State.decideAdmission (withDoms' [(Dom.USERS, 2, Fld.USR_VALID.set (Fld.USR_GROUP.set 0 3) 1), (Dom.GROUPS, 3, Fld.GRP_VALID.set (Fld.GRP_PORT.set 0 5) 1)] (withObjs' [(Obj.BUFFER_CTRL_BUF_ENABLE, 1), (Obj.TM_CTRL_SCHED_ENABLE, 1), (Obj.FABRIC_CTRL_FABRIC_ENABLE, 1)] running)) ({ id := 3, bytes := withFcs (List.replicate 60 (7#8)), inPort := 5, requester := 5, dest := 5, qsel := some 8, voq := false } : Pkt)) fun s p => s.refreshPort p).decidePort 5).1.get (by decide +kernel)), (forEach (slicePorts 0) (State.decideAdmission (withDoms' [(Dom.USERS, 2, Fld.USR_VALID.set (Fld.USR_GROUP.set 0 3) 1), (Dom.GROUPS, 3, Fld.GRP_VALID.set (Fld.GRP_PORT.set 0 5) 1)] (withObjs' [(Obj.BUFFER_CTRL_BUF_ENABLE, 1), (Obj.TM_CTRL_SCHED_ENABLE, 1), (Obj.FABRIC_CTRL_FABRIC_ENABLE, 1)] running)) ({ id := 3, bytes := withFcs (List.replicate 60 (7#8)), inPort := 5, requester := 5, dest := 5, qsel := some 8, voq := false } : Pkt)) fun s p => s.refreshPort p), (forEach [0, 1, 2, 3, 4, 5] (forEach (slicePorts 0) (State.decideAdmission (withDoms' [(Dom.USERS, 2, Fld.USR_VALID.set (Fld.USR_GROUP.set 0 3) 1), (Dom.GROUPS, 3, Fld.GRP_VALID.set (Fld.GRP_PORT.set 0 5) 1)] (withObjs' [(Obj.BUFFER_CTRL_BUF_ENABLE, 1), (Obj.TM_CTRL_SCHED_ENABLE, 1), (Obj.FABRIC_CTRL_FABRIC_ENABLE, 1)] running)) ({ id := 3, bytes := withFcs (List.replicate 60 (7#8)), inPort := 5, requester := 5, dest := 5, qsel := some 8, voq := false } : Pkt)) fun s p => s.refreshPort p) fun s y => s.holdGuards y (s.decidePort y).2), by decide +kernel⟩

theorem witness_SchedulersServeQueues_2 : ∃ (s : State) (p : Fin 136), s.CoreOn :=
  ⟨(State.decideAdmission (withDoms' [(Dom.USERS, 2, Fld.USR_VALID.set (Fld.USR_GROUP.set 0 3) 1), (Dom.GROUPS, 3, Fld.GRP_VALID.set (Fld.GRP_PORT.set 0 5) 1)] (withObjs' [(Obj.BUFFER_CTRL_BUF_ENABLE, 1), (Obj.TM_CTRL_SCHED_ENABLE, 1), (Obj.FABRIC_CTRL_FABRIC_ENABLE, 1)] running)) ({ id := 3, bytes := withFcs (List.replicate 60 (7#8)), inPort := 5, requester := 5, dest := 5, qsel := some 8, voq := false } : Pkt)), 5, by decide +kernel⟩

theorem witness_SchedulersServeQueues_3 : ∃ (s : State) (n : Fin 8) (e : ReadUpset) (v : Nat) (k : Pkt) (w : State), s.CoreOn ∧
    s.fabricOn = true ∧ s.on Obj.TM_CTRL_SCHED_ENABLE = true ∧ s.tsBlocked n = false ∧ s.slicesHeld = false ∧ ((((((s.net.queues.filter
    fun e => Nat.ble voqBase e.1 && Nat.beq ((e.1 - voqBase) / 8 % 8) n).map fun e => e.1 - voqBase).filter s.eligibleVoq).find? fun v
    => Nat.ble (Table.get zeroN s.sched.voqPtr n) v).or (((s.net.queues.filter fun e => Nat.ble voqBase e.1 && Nat.beq ((e.1 - voqBase)
    / 8 % 8) n).map fun e => e.1 - voqBase).filter s.eligibleVoq).head?) = some v) ∧ s.headOf (voqBase + v) = some k ∧ s.readUpset k e =
    (none, w) :=
  ⟨((withDoms' [(Dom.VOQ_STATE, 8, Fld.VS_BALANCE.setS 0 5000)] (State.decideAdmission (withDoms' [(Dom.USERS, 2, Fld.USR_VALID.set (Fld.USR_GROUP.set 0 3) 1), (Dom.GROUPS, 3, Fld.GRP_VALID.set (Fld.GRP_PORT.set 0 5) 1)] (withObjs' [(Obj.BUFFER_CTRL_BUF_ENABLE, 1), (Obj.TM_CTRL_SCHED_ENABLE, 1), (Obj.FABRIC_CTRL_FABRIC_ENABLE, 1)] running)) ({ id := 3, bytes := withFcs (List.replicate 60 (7#8)), inPort := 5, requester := 5, dest := 8, qsel := none, voq := true } : Pkt))).withFab { unreach := [(0, some none)] }), 1, .clean, 8, (((State.decideAdmission (withDoms' [(Dom.USERS, 2, Fld.USR_VALID.set (Fld.USR_GROUP.set 0 3) 1), (Dom.GROUPS, 3, Fld.GRP_VALID.set (Fld.GRP_PORT.set 0 5) 1)] (withObjs' [(Obj.BUFFER_CTRL_BUF_ENABLE, 1), (Obj.TM_CTRL_SCHED_ENABLE, 1), (Obj.FABRIC_CTRL_FABRIC_ENABLE, 1)] running)) ({ id := 3, bytes := withFcs (List.replicate 60 (7#8)), inPort := 5, requester := 5, dest := 8, qsel := none, voq := true } : Pkt)).headOf (voqBase + 8)).get (by decide +kernel)), ((withDoms' [(Dom.VOQ_STATE, 8, Fld.VS_BALANCE.setS 0 5000)] (State.decideAdmission (withDoms' [(Dom.USERS, 2, Fld.USR_VALID.set (Fld.USR_GROUP.set 0 3) 1), (Dom.GROUPS, 3, Fld.GRP_VALID.set (Fld.GRP_PORT.set 0 5) 1)] (withObjs' [(Obj.BUFFER_CTRL_BUF_ENABLE, 1), (Obj.TM_CTRL_SCHED_ENABLE, 1), (Obj.FABRIC_CTRL_FABRIC_ENABLE, 1)] running)) ({ id := 3, bytes := withFcs (List.replicate 60 (7#8)), inPort := 5, requester := 5, dest := 8, qsel := none, voq := true } : Pkt))).withFab { unreach := [(0, some none)] }), by decide +kernel⟩

theorem witness_SchedulersServeQueues_4 : ∃ (s : State) (m v : Nat), s.Canonical ∧ s.Accepts m Obj.TM_CTRL_FLUSH_QUEUE v ∧ s.slowRuns m
    Obj.TM_CTRL_FLUSH_QUEUE = false ∧ v < 655360 ∧ s.queue v = [] ∧ s.sec.fusing = none :=
  ⟨running, 1, 8, by decide +kernel⟩

theorem witness_SchedulersServeQueues_5 : ∃ (s : State) (m v : Nat), s.Accepts m Obj.TM_CTRL_FLUSH_QUEUE v ∧ pathOf m = .window ∧
    s.slowRuns m Obj.TM_CTRL_FLUSH_QUEUE = false ∧ v < 655360 :=
  ⟨(State.decideAdmission (withDoms' [(Dom.USERS, 2, Fld.USR_VALID.set (Fld.USR_GROUP.set 0 3) 1), (Dom.GROUPS, 3, Fld.GRP_VALID.set (Fld.GRP_PORT.set 0 5) 1)] (withObjs' [(Obj.BUFFER_CTRL_BUF_ENABLE, 1), (Obj.TM_CTRL_SCHED_ENABLE, 1), (Obj.FABRIC_CTRL_FABRIC_ENABLE, 1)] running)) ({ id := 3, bytes := withFcs (List.replicate 60 (7#8)), inPort := 5, requester := 5, dest := 5, qsel := some 8, voq := false } : Pkt)), 1, 8, by decide +kernel⟩

theorem witness_SchedulersServeQueues_6 : ∃ (s : State), s.Canonical ∧ s.CoreOn ∧ s.sched.roundStart ≠ some (s.roundOf s.time.tai) :=
  ⟨running, by decide +kernel⟩

theorem witness_SchedulersServeQueues_7 : ∃ (s : State) (i : Fin 655360) (r : Nat), s.CoreOn ∧ s.sched.roundStart = some r ∧ (s.dom
    Dom.SAMPLE_ENABLE (i / 64)).testBit (i % 64) = true ∧ (s.sched.sampled ≤ i.val ∨ s.time.tai < r + sampleOffset (s.sched.sampled -
    1)) ∧ r + sampleOffset i ≤ s.time.tai ∧ s.time.tai < r + sampleOffset i + 6 :=
  ⟨((withDoms' [(Dom.SAMPLE_ENABLE, 0, 2 ^ 8)] running).withSched { roundStart := some 0 }).withTime { tai := 50 }, 8, 0, by decide +kernel⟩

theorem witness_SchedulersServeQueues_8 : ∃ (s : State) (n : Fin 1024) (f : Fin 3) (m v : Nat), s.Canonical ∧ s.Accepts m (objKey 0
    (0x4400 + n.val) (1 + f.val)) v ∧ s.nodesOf n = [] ∧ s.sec.fusing = none :=
  ⟨running, 7, 1, 1, 9, by decide +kernel⟩

theorem witness_CreditIsAskedAndGranted_1 : ∃ (s : State) (g r : Fin 256) (q : Fin 64) (c : Fin 8) (b : Nat), s.CoreOn ∧ r.val = s.get
    Obj.FABRIC_CTRL_DEVICE_ID ∧ s.fabricOn = true ∧ Fld.VS_BALANCE.getS (s.dom Dom.VOQ_STATE ((64 * g + q) * 8 + c)) + ((b % 2 ^ 24 :
    Nat) : Int) ≤ (s.get Obj.VOQ_CTRL_BALANCE_MAX : Nat) :=
  ⟨(State.decideAdmission (withDoms' [(Dom.USERS, 2, Fld.USR_VALID.set (Fld.USR_GROUP.set 0 3) 1), (Dom.GROUPS, 3, Fld.GRP_VALID.set (Fld.GRP_PORT.set 0 5) 1)] (withObjs' [(Obj.BUFFER_CTRL_BUF_ENABLE, 1), (Obj.TM_CTRL_SCHED_ENABLE, 1), (Obj.FABRIC_CTRL_FABRIC_ENABLE, 1)] running)) ({ id := 3, bytes := withFcs (List.replicate 60 (7#8)), inPort := 5, requester := 5, dest := 8, qsel := none, voq := true } : Pkt)), 7, 0, 1, 0, 100, by decide +kernel⟩

theorem witness_CreditIsAskedAndGranted_2 : ∃ (s : State) (g r : Fin 256) (q : Fin 64) (c : Fin 8) (b : Nat), s.Canonical ∧ s.CoreOn ∧
    (r.val ≠ s.get Obj.FABRIC_CTRL_DEVICE_ID ∨ s.fabricOn = false) :=
  ⟨(State.decideAdmission (withDoms' [(Dom.USERS, 2, Fld.USR_VALID.set (Fld.USR_GROUP.set 0 3) 1), (Dom.GROUPS, 3, Fld.GRP_VALID.set (Fld.GRP_PORT.set 0 5) 1)] (withObjs' [(Obj.BUFFER_CTRL_BUF_ENABLE, 1), (Obj.TM_CTRL_SCHED_ENABLE, 1), (Obj.FABRIC_CTRL_FABRIC_ENABLE, 1)] running)) ({ id := 3, bytes := withFcs (List.replicate 60 (7#8)), inPort := 5, requester := 5, dest := 8, qsel := none, voq := true } : Pkt)), 7, 4, 1, 0, 100, by decide +kernel⟩

theorem witness_CreditIsAskedAndGranted_3 : ∃ (s : State) (r g : Fin 256) (q : Fin 64) (c : Fin 8) (o : Bool) (x : Fin 16) (y :
    ReqState), s.Canonical ∧ s.CoreOn ∧ g.val = s.get Obj.FABRIC_CTRL_DEVICE_ID ∧ s.fabricOn = true ∧ y = Table.get noRequest s.fab.reqs
    ((64 * r.val + q.val) * 8 + c.val) ∧ s.reqOver y.core = false ∧ (y.got = [] ∨ y.gotAt ≠ s.time.now) ∧ (y.core.expired = true ∨ (1 ≤
    (x.val + 16 - y.core.seq) % 16 ∧ (x.val + 16 - y.core.seq) % 16 ≤ 7)) :=
  ⟨(withDoms' [(Dom.USERS, 2, Fld.USR_VALID.set (Fld.USR_GROUP.set 0 3) 1), (Dom.GROUPS, 3, Fld.GRP_VALID.set (Fld.GRP_PORT.set 0 5) 1)] (withObjs' [(Obj.BUFFER_CTRL_BUF_ENABLE, 1), (Obj.TM_CTRL_SCHED_ENABLE, 1), (Obj.FABRIC_CTRL_FABRIC_ENABLE, 1), (Obj.FABRIC_PORT_MAP_MAP_Q 1, 5)] running)), 7, 0, 1, 0, true, 1, {}, by decide +kernel⟩

theorem witness_CreditIsAskedAndGranted_4 : ∃ (s : State) (r g : Fin 256) (q : Fin 64) (c : Fin 8) (o : Bool) (x : Fin 16) (y :
    ReqState), s.Canonical ∧ s.CoreOn ∧ g.val = s.get Obj.FABRIC_CTRL_DEVICE_ID ∧ s.fabricOn = true ∧ y = Table.get noRequest s.fab.reqs
    ((64 * r.val + q.val) * 8 + c.val) ∧ s.reqOver y.core = false ∧ (y.got = [] ∨ y.gotAt ≠ s.time.now) ∧ y.core.expired = false ∧
    ((x.val + 16 - y.core.seq) % 16 = 0 ∨ 8 ≤ (x.val + 16 - y.core.seq) % 16) :=
  ⟨(withDoms' [(Dom.USERS, 2, Fld.USR_VALID.set (Fld.USR_GROUP.set 0 3) 1), (Dom.GROUPS, 3, Fld.GRP_VALID.set (Fld.GRP_PORT.set 0 5) 1)] (withObjs' [(Obj.BUFFER_CTRL_BUF_ENABLE, 1), (Obj.TM_CTRL_SCHED_ENABLE, 1), (Obj.FABRIC_CTRL_FABRIC_ENABLE, 1)] running)).withFab { reqs := [(3592, { core := ⟨false, 4, 0, false⟩ })] }, 7, 0, 1, 0, true, 4, { core := ⟨false, 4, 0, false⟩ }, by decide +kernel⟩

theorem witness_CreditIsAskedAndGranted_5 : ∃ (s : State) (v : Fin 131072), s.CoreOn ∧ s.scheduledVoq v = false ∧ Fld.VS_REQUEST.get
    (s.dom Dom.VOQ_STATE v) = 1 ∧ Table.get zeroN s.fab.reqAt v + s.get Obj.CREDIT_CTRL_REFRESH_US * 1000 ≤ s.time.now :=
  ⟨((withDoms' [(Dom.VOQ_STATE, 8, Fld.VS_REQUEST.set 0 1)] (withDoms' [(Dom.USERS, 2, Fld.USR_VALID.set (Fld.USR_GROUP.set 0 3) 1), (Dom.GROUPS, 3, Fld.GRP_VALID.set (Fld.GRP_PORT.set 0 5) 1)] (withObjs' [(Obj.BUFFER_CTRL_BUF_ENABLE, 1), (Obj.TM_CTRL_SCHED_ENABLE, 1), (Obj.FABRIC_CTRL_FABRIC_ENABLE, 1)] running))).withFab { unreach := [(0, some none)] }).withTime { now := 90000000 }, 8, by decide +kernel⟩

theorem witness_CreditIsAskedAndGranted_6 : ∃ (s : State) (r : Fin 256) (q : Fin 64) (c : Fin 8) (y : ReqCore), s.CoreOn ∧ y =
    (Table.get noRequest s.fab.reqs ((64 * r.val + q.val) * 8 + c.val)).core ∧ y.on = true ∧ y.at' + 3 * s.get
    Obj.CREDIT_CTRL_REFRESH_US * 1000 ≤ s.time.now :=
  ⟨((withDoms' [(Dom.USERS, 2, Fld.USR_VALID.set (Fld.USR_GROUP.set 0 3) 1), (Dom.GROUPS, 3, Fld.GRP_VALID.set (Fld.GRP_PORT.set 0 5) 1)] (withObjs' [(Obj.BUFFER_CTRL_BUF_ENABLE, 1), (Obj.TM_CTRL_SCHED_ENABLE, 1), (Obj.FABRIC_CTRL_FABRIC_ENABLE, 1)] running)).withFab { reqs := [(3592, { core := ⟨true, 4, 0, false⟩ })] }).withTime { now := 90000000 }, 7, 1, 0, ⟨true, 4, 0, false⟩, by decide +kernel⟩

theorem witness_CreditIsAskedAndGranted_7 : ∃ (s : State) (d : Fin 256) (b : Nat) (l : List Nat), s.CoreOn ∧ (Table.get (fun _ => none)
    s.fab.packing d = some (b, l)) ∧ s.fabricOn = true ∧ b + 64 ≤ s.time.now :=
  ⟨((withDoms' [(Dom.USERS, 2, Fld.USR_VALID.set (Fld.USR_GROUP.set 0 3) 1), (Dom.GROUPS, 3, Fld.GRP_VALID.set (Fld.GRP_PORT.set 0 5) 1)] (withObjs' [(Obj.BUFFER_CTRL_BUF_ENABLE, 1), (Obj.TM_CTRL_SCHED_ENABLE, 1), (Obj.FABRIC_CTRL_FABRIC_ENABLE, 1)] running)).withFab { packing := [(7, some (0, [9]))] }).withTime { now := 64 }, 7, 0, [9], by decide +kernel⟩

theorem witness_CreditIsAskedAndGranted_8 : ∃ (s : State) (p : Fin 136) (q c d : Nat) (w : State), s.CoreOn ∧ s.tsBlocked (sliceOf p) =
    false ∧ w = (s.creditClasses p).creditHeld p ∧ w.portQ p = some q ∧ w.fabricOn = true ∧ w.on Obj.TM_CTRL_SCHED_ENABLE = true ∧ w.get
    (creditKeys p).2.2.2.2 ≠ 1 ∧ Table.get zeroN w.sched.creditNext p ≤ s.time.now * 65536 ∧ ((([7, 6, 5, 4, 3, 2, 1, 0].find? fun c =>
    Nat.beq (Fld.PC_STRICT.get (w.dom Dom.PORT_CLASSES (8 * p.val + c))) 1 && !(w.requesters q c).isEmpty).or (Table.get noList
    w.sched.creditOrder p).head?) = some c) ∧ ((((w.requesters q c).find? fun d => Nat.ble (Table.get zeroN w.sched.creditPtr (8 * p.val
    + c)) d).or (w.requesters q c).head?) = some d) :=
  ⟨(withDoms' [(Dom.USERS, 2, Fld.USR_VALID.set (Fld.USR_GROUP.set 0 3) 1), (Dom.GROUPS, 3, Fld.GRP_VALID.set (Fld.GRP_PORT.set 0 5) 1)] (withObjs' [(Obj.BUFFER_CTRL_BUF_ENABLE, 1), (Obj.TM_CTRL_SCHED_ENABLE, 1), (Obj.FABRIC_CTRL_FABRIC_ENABLE, 1), (Obj.FABRIC_PORT_MAP_MAP_Q 1, 5)] running)).withFab { reqs := [(3592, { core := ⟨true, 4, 0, false⟩ })] }, 5, 1, 0, 7, (((withDoms' [(Dom.USERS, 2, Fld.USR_VALID.set (Fld.USR_GROUP.set 0 3) 1), (Dom.GROUPS, 3, Fld.GRP_VALID.set (Fld.GRP_PORT.set 0 5) 1)] (withObjs' [(Obj.BUFFER_CTRL_BUF_ENABLE, 1), (Obj.TM_CTRL_SCHED_ENABLE, 1), (Obj.FABRIC_CTRL_FABRIC_ENABLE, 1), (Obj.FABRIC_PORT_MAP_MAP_Q 1, 5)] running)).withFab { reqs := [(3592, { core := ⟨true, 4, 0, false⟩ })] }).creditClasses 5).creditHeld 5, by decide +kernel⟩

theorem witness_LinePortsComeUpAndGoDown_1 : ∃ (s : State) (p : LinePort) (m v : Nat), s.Canonical ∧ s.Accepts m
    (Obj.LINE_PORT_PORT_ENABLE p) v ∧ v = 1 ∧ lineMode (s.get (Obj.LINE_PORT_PORT_SPEED p)) (s.get (Obj.LINE_PORT_LANES p)) = true ∧
    p.val % s.get (Obj.LINE_PORT_LANES p) = 0 ∧ s.absentPort p = false ∧ (((List.range 128).any fun m => !Nat.beq m p && (List.range
    (s.get (Obj.LINE_PORT_LANES p))).any fun i => s.coversLane m (p + i)) = false) ∧ (s.get (Obj.LINE_PORT_FEC_MODE p) = 0 ∨ s.get
    (Obj.LINE_PORT_PORT_SPEED p) = 25000) ∧ s.sec.fusing = none :=
  ⟨running, 8, 1, 1, by decide +kernel⟩

theorem witness_LinePortsComeUpAndGoDown_2 : ∃ (s : State) (p : LinePort) (m v : Nat), s.Canonical ∧ s.Accepts m
    (Obj.LINE_PORT_PORT_ENABLE p) v ∧ v = 0 ∧ s.sec.fusing = none :=
  ⟨(withObjs' [(Obj.LINE_PORT_PORT_ENABLE 5, 1), (Obj.LINE_PORT_LINK_STATE 5, 1)] running), 5, 1, 0, by decide +kernel⟩

theorem witness_LinePortsComeUpAndGoDown_3 : ∃ (s : State) (p : LinePort) (g f : Bool), s.CoreOn ∧ s.get (Obj.LINE_PORT_LINK_STATE p) ≠
    2 :=
  ⟨running, 5, true, false, by decide +kernel⟩

theorem witness_LinePortsComeUpAndGoDown_4 : ∃ (s : State) (p : LinePort), s.Canonical ∧ s.CoreOn ∧ s.get (Obj.LINE_PORT_LINK_STATE p) =
    1 ∧ (s.lineOf p).good = false ∧ (s.lineOf p).since + s.get (Obj.LINE_PORT_LINK_DOWN_HOLD p) * ms < s.time.now :=
  ⟨(withObjs' [(Obj.LINE_PORT_PORT_ENABLE 5, 1), (Obj.LINE_PORT_LINK_STATE 5, 1)] running).withTime { now := 9000000000 }, 5, by decide +kernel⟩

theorem witness_LinePortsComeUpAndGoDown_5 : ∃ (s : State) (p : LinePort), s.Canonical ∧ s.CoreOn ∧ s.on (Obj.LINE_PORT_PORT_ENABLE p) =
    true ∧ s.get (Obj.LINE_PORT_LINK_STATE p) = 0 ∧ (s.lineOf p).good = true ∧ (s.lineOf p).since + s.get (Obj.LINE_PORT_LINK_UP_HOLD p)
    * ms ≤ s.time.now :=
  ⟨((withObjs' [(Obj.LINE_PORT_PORT_ENABLE 5, 1)] running).setLine 5 { good := true }).withTime { now := 9000000000 }, 5, by decide +kernel⟩

theorem witness_PauseIsObeyedAndSent_1 : ∃ (s : State) (p : LinePort) (a : Nat) (q : Fin 65536), s.Canonical ∧ s.CoreOn ∧ s.get
    (Obj.LINE_PORT_PORT_ENABLE p) = 1 ∧ s.get (Obj.LINE_PORT_LINK_STATE p) ≠ 2 ∧ (s.part p 0).blocked = false ∧ 64 ≤ s.get
    (Obj.LINE_PORT_MAX_FRAME p) ∧ s.setting (Obj.LINE_PORT_FC_RX_MODE p) = 1 ∧ s.modesAhead p = [] ∧ s.watchdog p 8 = s ∧ ((s.pauseOf p
    8).inHoldoff = false ∨ (s.pauseOf p 8).holdoff ≤ 100 * s.time.now) ∧ q.val ≠ 0 :=
  ⟨(withObjs' [(Obj.LINE_PORT_PORT_ENABLE 5, 1), (Obj.LINE_PORT_LINK_STATE 5, 1), (Obj.LINE_PORT_FC_RX_MODE 5, 1)] running).withTime { now := 1 }, 5, 7, 9, by decide +kernel⟩

theorem witness_PauseIsObeyedAndSent_2 : ∃ (s : State) (p : LinePort) (a : Nat), s.Canonical ∧ s.CoreOn ∧ s.get
    (Obj.LINE_PORT_PORT_ENABLE p) = 1 ∧ s.get (Obj.LINE_PORT_LINK_STATE p) ≠ 2 ∧ (s.part p 0).blocked = false ∧ 64 ≤ s.get
    (Obj.LINE_PORT_MAX_FRAME p) ∧ s.setting (Obj.LINE_PORT_FC_RX_MODE p) = 1 ∧ s.watchdog p 8 = s ∧ ((s.pauseOf p 8).inHoldoff = false ∨
    (s.pauseOf p 8).holdoff ≤ 100 * s.time.now) :=
  ⟨(withObjs' [(Obj.LINE_PORT_PORT_ENABLE 5, 1), (Obj.LINE_PORT_LINK_STATE 5, 1), (Obj.LINE_PORT_FC_RX_MODE 5, 1)] running).setPause 5 8 { start := 1, stop := 9 }, 5, 7, by decide +kernel⟩

theorem witness_PauseIsObeyedAndSent_3 : ∃ (s : State) (p : LinePort) (a : Nat) (e : Fin 256) (q : List Nat), s.CoreOn :=
  ⟨(withObjs' [(Obj.LINE_PORT_PORT_ENABLE 5, 1), (Obj.LINE_PORT_LINK_STATE 5, 1)] running), 5, 7, 3, [1, 2], by decide +kernel⟩

theorem witness_PauseIsObeyedAndSent_4 : ∃ (s : State) (p : LinePort) (k : Fin 9), s.CoreOn ∧ s.watchdog p k = s ∧ (s.pauseOf p k).start
    < (s.pauseOf p k).stop ∧ (s.pauseOf p k).stop < 100 * s.time.now :=
  ⟨(running.setPause 5 8 { start := 1, stop := 50 }).withTime { now := 9 }, 5, 8, by decide +kernel⟩

theorem witness_PauseIsObeyedAndSent_5 : ∃ (s : State) (p : LinePort) (k : Fin 9), s.Canonical ∧ s.CoreOn ∧ 0 < s.setting
    (Obj.LINE_PORT_WD_LIMIT_MS p) ∧ (s.pauseOf p k).start < (s.pauseOf p k).stop ∧ (s.pauseOf p k).start + s.setting
    (Obj.LINE_PORT_WD_LIMIT_MS p) * ms * 100 ≤ 100 * s.time.now ∧ (s.pauseOf p k).start + s.setting (Obj.LINE_PORT_WD_LIMIT_MS p) * ms *
    100 ≤ (s.pauseOf p k).stop :=
  ⟨((withObjs' [(Obj.LINE_PORT_WD_LIMIT_MS 5, 100)] running).setPause 5 8 { start := 1, stop := 90000000000 }).withTime { now := 200000000 }, 5, 8, by decide +kernel⟩

theorem witness_PauseIsObeyedAndSent_6 : ∃ (s : State) (p : LinePort) (k : Fin 9), s.CoreOn ∧ (s.pauseOf p k).inHoldoff = true ∧
    (s.pauseOf p k).holdoff ≤ 100 * s.time.now :=
  ⟨(running.setPause 5 8 { holdoff := 50, inHoldoff := true }).withTime { now := 9 }, 5, 8, by decide +kernel⟩

theorem witness_PauseIsObeyedAndSent_7 : ∃ (s : State) (p : LinePort), s.Canonical ∧ s.CoreOn ∧ s.sec.extest = false ∧ s.pauseAble p =
    true ∧ (s.lineOf p).txPause = false ∧ s.pauseStarts p = true ∧ (Table.get (fun _ => none) s.net.wire p = none) :=
  ⟨withDoms' [(Dom.REQUESTER_TABLE, 5, (usedField 0).set (domDefault (domKey Dom.REQUESTER_TABLE 5)) 4000)] (withObjs' [(Obj.LINE_PORT_PORT_ENABLE 5, 1), (Obj.LINE_PORT_LINK_STATE 5, 1), (Obj.LINE_PORT_FC_TX_MODE 5, 1), (Obj.LINE_PORT_FC_XOFF 5, 100)] running), 5, by decide +kernel⟩

theorem witness_PauseIsObeyedAndSent_8 : ∃ (s : State) (p : LinePort), s.Canonical ∧ s.CoreOn ∧ s.sec.extest = false ∧ s.pauseAble p =
    true ∧ (s.lineOf p).txPause = true ∧ s.pauseEnds p = true ∧ (Table.get (fun _ => none) s.net.wire p = none) :=
  ⟨(withObjs' [(Obj.LINE_PORT_PORT_ENABLE 5, 1), (Obj.LINE_PORT_LINK_STATE 5, 1), (Obj.LINE_PORT_FC_TX_MODE 5, 1), (Obj.LINE_PORT_FC_XON 5, 100)] running).setLine 5 { txPause := true }, 5, by decide +kernel⟩

theorem witness_PauseIsObeyedAndSent_9 : ∃ (s : State) (p : LinePort), s.Canonical ∧ s.CoreOn ∧ s.sec.extest = false ∧ s.pauseAble p =
    true ∧ (s.lineOf p).txPause = true ∧ s.pauseStarts p = true ∧ (s.lineOf p).txAgain ≤ 100 * s.time.now ∧ (Table.get (fun _ => none)
    s.net.wire p = none) :=
  ⟨(withDoms' [(Dom.REQUESTER_TABLE, 5, (usedField 0).set (domDefault (domKey Dom.REQUESTER_TABLE 5)) 4000)] (withObjs' [(Obj.LINE_PORT_PORT_ENABLE 5, 1), (Obj.LINE_PORT_LINK_STATE 5, 1), (Obj.LINE_PORT_FC_TX_MODE 5, 1), (Obj.LINE_PORT_FC_XOFF 5, 100)] running)).setLine 5 { txPause := true }, 5, by decide +kernel⟩

theorem witness_PauseIsObeyedAndSent_10 : ∃ (s : State) (g : Fin 16) (m v : Nat), s.Canonical ∧ s.Accepts m (Obj.SNAPSHOT_GROUP_TRIGGER
    g) v ∧ v = 1 ∧ Table.get zeroN s.line.snapDone g ≤ s.time.now ∧ s.sec.fusing = none :=
  ⟨withObjs' [(Obj.SNAPSHOT_GROUP_MEMBERS 3, 5)] running, 3, 1, 1, by decide +kernel⟩

theorem witness_ExactMatchJobsRun_1 : ∃ (s : State) (q : Fin 1024) (i : Nat) (j : Job) (dma : Dma), s.CoreOn ∧ s.startable q i 0x10 =
    some j ∧ s.tableTurn j = true ∧ s.isStandby = false ∧ s.emLegal j = true ∧ zeroBytes j.bytes [(18, 2)] = true ∧ j.flags < 32 ∧ ¬
    (bit j.flags 1 = true ∧ bit j.flags 2 = true) ∧ (s.get (Obj.EM_TABLE_KIND j.tableNo) ≠ 2 ∨ wordAt j.bytes 20 4 < 2 ^ 17) ∧
    (s.emInsert j.tableNo (s.jobKey j) (wordAt j.bytes 20 4) ⟨bit j.flags 0, bit j.flags 1, bit j.flags 2, bit j.flags 3, bit j.flags
    4⟩).waits = false :=
  ⟨((withObjs' [(Obj.SQ_CONFIG_SQ_ENABLE 5, 1), (Obj.SQ_CONFIG_SQ_SIZE 5, 6), (Obj.SQ_CONFIG_SQ_CQ 5, 9), (Obj.SQ_CONFIG_SQ_STATE 5, 1), (Obj.CQ_CONFIG_CQ_ENABLE 9, 1), (Obj.CQ_CONFIG_CQ_SIZE 9, 6), (Obj.CQ_CONFIG_CQ_STATE 9, 1), (Obj.EM_TABLE_ENABLE 3, 1), (Obj.EM_TABLE_BANK_COUNT 3, 1)] running).withHost { jobs := [({ sq := 5, index := 2, bytes := (([0, 16, 0, 0, 0, 0, 0, 0, 0, 0, 0, 0, 0, 0, 0, 0, 3, 0, 0, 0, 0, 0, 0, 77, 0, 0, 0, 0, 0, 0, 0, 5, 0, 0, 0, 0, 0, 0, 0, 0, 0, 0, 0, 0, 0, 0, 0, 0, 0, 0, 0, 0, 0, 0, 0, 0, 0, 0, 0, 0, 0, 0, 0, 0] : List Nat).map toByte) } : Job)] }), 5, 2, ({ sq := 5, index := 2, bytes := (([0, 16, 0, 0, 0, 0, 0, 0, 0, 0, 0, 0, 0, 0, 0, 0, 3, 0, 0, 0, 0, 0, 0, 77, 0, 0, 0, 0, 0, 0, 0, 5, 0, 0, 0, 0, 0, 0, 0, 0, 0, 0, 0, 0, 0, 0, 0, 0, 0, 0, 0, 0, 0, 0, 0, 0, 0, 0, 0, 0, 0, 0, 0, 0] : List Nat).map toByte) } : Job), ⟨none, true, true⟩, by decide +kernel⟩

theorem witness_ExactMatchJobsRun_2 : ∃ (s : State) (q : Fin 1024) (i : Nat) (j : Job) (dma : Dma) (x : Nat × EmEntry), s.CoreOn ∧
    s.startable q i 0x11 = some j ∧ s.tableTurn j = true ∧ s.isStandby = false ∧ s.emLegal j = true ∧ zeroBytes j.bytes [(17, 7)] = true
    ∧ s.emFind j.tableNo (s.jobKey j) = some x :=
  ⟨((withObjs' [(Obj.SQ_CONFIG_SQ_ENABLE 5, 1), (Obj.SQ_CONFIG_SQ_SIZE 5, 6), (Obj.SQ_CONFIG_SQ_CQ 5, 9), (Obj.SQ_CONFIG_SQ_STATE 5, 1), (Obj.CQ_CONFIG_CQ_ENABLE 9, 1), (Obj.CQ_CONFIG_CQ_SIZE 9, 6), (Obj.CQ_CONFIG_CQ_STATE 9, 1), (Obj.EM_TABLE_ENABLE 3, 1), (Obj.EM_TABLE_BANK_COUNT 3, 1)] running).withHost { jobs := [({ sq := 5, index := 2, bytes := (([0, 17, 0, 0, 0, 0, 0, 0, 0, 0, 0, 0, 0, 0, 0, 0, 3, 0, 0, 0, 0, 0, 0, 0, 0, 0, 0, 0, 0, 0, 0, 5, 0, 0, 0, 0, 0, 0, 0, 0, 0, 0, 0, 0, 0, 0, 0, 0, 0, 0, 0, 0, 0, 0, 0, 0, 0, 0, 0, 0, 0, 0, 0, 0] : List Nat).map toByte) } : Job)] }).emPut 3 (((withObjs' [(Obj.EM_TABLE_ENABLE 3, 1), (Obj.EM_TABLE_BANK_COUNT 3, 1)] running).emCandidates 3 5).headD 0) (some ⟨false, false, 0, 5, 77⟩), 5, 2, ({ sq := 5, index := 2, bytes := (([0, 17, 0, 0, 0, 0, 0, 0, 0, 0, 0, 0, 0, 0, 0, 0, 3, 0, 0, 0, 0, 0, 0, 0, 0, 0, 0, 0, 0, 0, 0, 5, 0, 0, 0, 0, 0, 0, 0, 0, 0, 0, 0, 0, 0, 0, 0, 0, 0, 0, 0, 0, 0, 0, 0, 0, 0, 0, 0, 0, 0, 0, 0, 0] : List Nat).map toByte) } : Job), ⟨none, true, true⟩, (((withObjs' [(Obj.EM_TABLE_ENABLE 3, 1), (Obj.EM_TABLE_BANK_COUNT 3, 1)] running).emCandidates 3 5).headD 0, ⟨false, false, 0, 5, 77⟩), by decide +kernel⟩

theorem witness_ExactMatchJobsRun_3 : ∃ (s : State) (q : Fin 1024) (i : Nat) (j : Job) (dma : Dma), s.CoreOn ∧ s.startable q i 0x11 =
    some j ∧ s.tableTurn j = true ∧ s.isStandby = false ∧ s.emLegal j = true ∧ zeroBytes j.bytes [(17, 7)] = true ∧ s.emFind j.tableNo
    (s.jobKey j) = none :=
  ⟨((withObjs' [(Obj.SQ_CONFIG_SQ_ENABLE 5, 1), (Obj.SQ_CONFIG_SQ_SIZE 5, 6), (Obj.SQ_CONFIG_SQ_CQ 5, 9), (Obj.SQ_CONFIG_SQ_STATE 5, 1), (Obj.CQ_CONFIG_CQ_ENABLE 9, 1), (Obj.CQ_CONFIG_CQ_SIZE 9, 6), (Obj.CQ_CONFIG_CQ_STATE 9, 1), (Obj.EM_TABLE_ENABLE 3, 1), (Obj.EM_TABLE_BANK_COUNT 3, 1)] running).withHost { jobs := [({ sq := 5, index := 2, bytes := (([0, 17, 0, 0, 0, 0, 0, 0, 0, 0, 0, 0, 0, 0, 0, 0, 3, 0, 0, 0, 0, 0, 0, 0, 0, 0, 0, 0, 0, 0, 0, 5, 0, 0, 0, 0, 0, 0, 0, 0, 0, 0, 0, 0, 0, 0, 0, 0, 0, 0, 0, 0, 0, 0, 0, 0, 0, 0, 0, 0, 0, 0, 0, 0] : List Nat).map toByte) } : Job)] }), 5, 2, ({ sq := 5, index := 2, bytes := (([0, 17, 0, 0, 0, 0, 0, 0, 0, 0, 0, 0, 0, 0, 0, 0, 3, 0, 0, 0, 0, 0, 0, 0, 0, 0, 0, 0, 0, 0, 0, 5, 0, 0, 0, 0, 0, 0, 0, 0, 0, 0, 0, 0, 0, 0, 0, 0, 0, 0, 0, 0, 0, 0, 0, 0, 0, 0, 0, 0, 0, 0, 0, 0] : List Nat).map toByte) } : Job), ⟨none, true, true⟩, by decide +kernel⟩

theorem witness_ExactMatchJobsRun_4 : ∃ (s : State) (q : Fin 1024) (i : Nat) (j : Job) (dma : Dma) (x : Nat × EmEntry), s.CoreOn ∧
    s.startable q i 0x12 = some j ∧ s.tableTurn j = true ∧ s.emLegal j = true ∧ zeroBytes j.bytes [(18, 6)] = true ∧ j.flags = 0 ∧
    s.emFind j.tableNo (s.jobKey j) = some x :=
  ⟨((withObjs' [(Obj.SQ_CONFIG_SQ_ENABLE 5, 1), (Obj.SQ_CONFIG_SQ_SIZE 5, 6), (Obj.SQ_CONFIG_SQ_CQ 5, 9), (Obj.SQ_CONFIG_SQ_STATE 5, 1), (Obj.CQ_CONFIG_CQ_ENABLE 9, 1), (Obj.CQ_CONFIG_CQ_SIZE 9, 6), (Obj.CQ_CONFIG_CQ_STATE 9, 1), (Obj.EM_TABLE_ENABLE 3, 1), (Obj.EM_TABLE_BANK_COUNT 3, 1)] running).withHost { jobs := [({ sq := 5, index := 2, bytes := (([0, 18, 0, 0, 0, 0, 0, 0, 0, 0, 0, 0, 0, 0, 0, 0, 3, 0, 0, 0, 0, 0, 0, 0, 0, 0, 0, 0, 0, 0, 0, 5, 0, 0, 0, 0, 0, 0, 0, 0, 0, 0, 0, 0, 0, 0, 0, 0, 0, 0, 0, 0, 0, 0, 0, 0, 0, 0, 0, 0, 0, 0, 0, 0] : List Nat).map toByte) } : Job)] }).emPut 3 (((withObjs' [(Obj.EM_TABLE_ENABLE 3, 1), (Obj.EM_TABLE_BANK_COUNT 3, 1)] running).emCandidates 3 5).headD 0) (some ⟨false, false, 0, 5, 77⟩), 5, 2, ({ sq := 5, index := 2, bytes := (([0, 18, 0, 0, 0, 0, 0, 0, 0, 0, 0, 0, 0, 0, 0, 0, 3, 0, 0, 0, 0, 0, 0, 0, 0, 0, 0, 0, 0, 0, 0, 5, 0, 0, 0, 0, 0, 0, 0, 0, 0, 0, 0, 0, 0, 0, 0, 0, 0, 0, 0, 0, 0, 0, 0, 0, 0, 0, 0, 0, 0, 0, 0, 0] : List Nat).map toByte) } : Job), ⟨none, true, true⟩, (((withObjs' [(Obj.EM_TABLE_ENABLE 3, 1), (Obj.EM_TABLE_BANK_COUNT 3, 1)] running).emCandidates 3 5).headD 0, ⟨false, false, 0, 5, 77⟩), by decide +kernel⟩

theorem witness_ExactMatchJobsRun_5 : ∃ (s : State) (q : Fin 1024) (i : Nat) (j : Job) (dma : Dma) (x : Nat × EmEntry), s.CoreOn ∧
    s.startable q i 0x12 = some j ∧ s.tableTurn j = true ∧ s.isStandby = false ∧ s.emLegal j = true ∧ zeroBytes j.bytes [(18, 6)] = true
    ∧ j.flags = 2 ∧ s.emFind j.tableNo (s.jobKey j) = some x :=
  ⟨((withObjs' [(Obj.SQ_CONFIG_SQ_ENABLE 5, 1), (Obj.SQ_CONFIG_SQ_SIZE 5, 6), (Obj.SQ_CONFIG_SQ_CQ 5, 9), (Obj.SQ_CONFIG_SQ_STATE 5, 1), (Obj.CQ_CONFIG_CQ_ENABLE 9, 1), (Obj.CQ_CONFIG_CQ_SIZE 9, 6), (Obj.CQ_CONFIG_CQ_STATE 9, 1), (Obj.EM_TABLE_ENABLE 3, 1), (Obj.EM_TABLE_BANK_COUNT 3, 1)] running).withHost { jobs := [({ sq := 5, index := 2, bytes := (([0, 18, 0, 0, 0, 0, 0, 0, 0, 0, 0, 0, 0, 0, 0, 0, 3, 2, 0, 0, 0, 0, 0, 0, 0, 0, 0, 0, 0, 0, 0, 5, 0, 0, 0, 0, 0, 0, 0, 0, 0, 0, 0, 0, 0, 0, 0, 0, 0, 0, 0, 0, 0, 0, 0, 0, 0, 0, 0, 0, 0, 0, 0, 0] : List Nat).map toByte) } : Job)] }).emPut 3 (((withObjs' [(Obj.EM_TABLE_ENABLE 3, 1), (Obj.EM_TABLE_BANK_COUNT 3, 1)] running).emCandidates 3 5).headD 0) (some ⟨false, false, 0, 5, 77⟩), 5, 2, ({ sq := 5, index := 2, bytes := (([0, 18, 0, 0, 0, 0, 0, 0, 0, 0, 0, 0, 0, 0, 0, 0, 3, 2, 0, 0, 0, 0, 0, 0, 0, 0, 0, 0, 0, 0, 0, 5, 0, 0, 0, 0, 0, 0, 0, 0, 0, 0, 0, 0, 0, 0, 0, 0, 0, 0, 0, 0, 0, 0, 0, 0, 0, 0, 0, 0, 0, 0, 0, 0] : List Nat).map toByte) } : Job), ⟨none, true, true⟩, (((withObjs' [(Obj.EM_TABLE_ENABLE 3, 1), (Obj.EM_TABLE_BANK_COUNT 3, 1)] running).emCandidates 3 5).headD 0, ⟨false, false, 0, 5, 77⟩), by decide +kernel⟩

theorem witness_ExactMatchJobsRun_6 : ∃ (s : State) (q : Fin 1024) (i : Nat) (j : Job) (dma : Dma), s.CoreOn ∧ s.startable q i 0x12 =
    some j ∧ s.tableTurn j = true ∧ s.emLegal j = true ∧ zeroBytes j.bytes [(18, 6)] = true ∧ (j.flags = 0 ∨ j.flags = 2 ∧ s.isStandby =
    false) ∧ s.emFind j.tableNo (s.jobKey j) = none :=
  ⟨((withObjs' [(Obj.SQ_CONFIG_SQ_ENABLE 5, 1), (Obj.SQ_CONFIG_SQ_SIZE 5, 6), (Obj.SQ_CONFIG_SQ_CQ 5, 9), (Obj.SQ_CONFIG_SQ_STATE 5, 1), (Obj.CQ_CONFIG_CQ_ENABLE 9, 1), (Obj.CQ_CONFIG_CQ_SIZE 9, 6), (Obj.CQ_CONFIG_CQ_STATE 9, 1), (Obj.EM_TABLE_ENABLE 3, 1), (Obj.EM_TABLE_BANK_COUNT 3, 1)] running).withHost { jobs := [({ sq := 5, index := 2, bytes := (([0, 18, 0, 0, 0, 0, 0, 0, 0, 0, 0, 0, 0, 0, 0, 0, 3, 0, 0, 0, 0, 0, 0, 0, 0, 0, 0, 0, 0, 0, 0, 5, 0, 0, 0, 0, 0, 0, 0, 0, 0, 0, 0, 0, 0, 0, 0, 0, 0, 0, 0, 0, 0, 0, 0, 0, 0, 0, 0, 0, 0, 0, 0, 0] : List Nat).map toByte) } : Job)] }), 5, 2, ({ sq := 5, index := 2, bytes := (([0, 18, 0, 0, 0, 0, 0, 0, 0, 0, 0, 0, 0, 0, 0, 0, 3, 0, 0, 0, 0, 0, 0, 0, 0, 0, 0, 0, 0, 0, 0, 5, 0, 0, 0, 0, 0, 0, 0, 0, 0, 0, 0, 0, 0, 0, 0, 0, 0, 0, 0, 0, 0, 0, 0, 0, 0, 0, 0, 0, 0, 0, 0, 0] : List Nat).map toByte) } : Job), ⟨none, true, true⟩, by decide +kernel⟩

theorem witness_ExactMatchJobsRun_7 : ∃ (s : State) (q : Fin 1024) (i : Nat) (j : Job) (dma : Dma), s.CoreOn ∧ s.startable q i 0x13 =
    some j ∧ s.tableTurn j = true ∧ j.tableNo < 16 ∧ s.on (Obj.EM_TABLE_ENABLE j.tableNo) = true ∧ zeroBytes j.bytes [(17, 3), (24, 24),
    (56, 8)] = true ∧ wordAt j.bytes 20 4 < 4 * s.emBuckets j.tableNo ∧ dma.ok = true :=
  ⟨((withObjs' [(Obj.SQ_CONFIG_SQ_ENABLE 5, 1), (Obj.SQ_CONFIG_SQ_SIZE 5, 6), (Obj.SQ_CONFIG_SQ_CQ 5, 9), (Obj.SQ_CONFIG_SQ_STATE 5, 1), (Obj.CQ_CONFIG_CQ_ENABLE 9, 1), (Obj.CQ_CONFIG_CQ_SIZE 9, 6), (Obj.CQ_CONFIG_CQ_STATE 9, 1), (Obj.EM_TABLE_ENABLE 3, 1), (Obj.EM_TABLE_BANK_COUNT 3, 1)] running).withHost { jobs := [({ sq := 5, index := 2, bytes := (([0, 19, 0, 0, 0, 0, 0, 0, 0, 0, 0, 0, 0, 0, 0, 0, 3, 0, 0, 0, 0, 0, 0, 0, 0, 0, 0, 0, 0, 0, 0, 0, 0, 0, 0, 0, 0, 0, 0, 0, 0, 0, 0, 0, 0, 0, 0, 0, 0, 0, 0, 0, 0, 0, 0, 64, 0, 0, 0, 0, 0, 0, 0, 0] : List Nat).map toByte) } : Job)] }), 5, 2, ({ sq := 5, index := 2, bytes := (([0, 19, 0, 0, 0, 0, 0, 0, 0, 0, 0, 0, 0, 0, 0, 0, 3, 0, 0, 0, 0, 0, 0, 0, 0, 0, 0, 0, 0, 0, 0, 0, 0, 0, 0, 0, 0, 0, 0, 0, 0, 0, 0, 0, 0, 0, 0, 0, 0, 0, 0, 0, 0, 0, 0, 64, 0, 0, 0, 0, 0, 0, 0, 0] : List Nat).map toByte) } : Job), ⟨none, true, true⟩, by decide +kernel⟩

theorem witness_ExactMatchJobsRun_8 : ∃ (s : State) (q : Fin 1024) (i : Nat) (j : Job) (dma : Dma) (x : Nat × EmEntry), s.CoreOn ∧
    s.startable q i 0x14 = some j ∧ s.tableTurn j = true ∧ s.isStandby = false ∧ s.emLegal j = true ∧ zeroBytes j.bytes [(17, 7)] = true
    ∧ s.emFind j.tableNo (s.jobKey j) = some x :=
  ⟨((withObjs' [(Obj.SQ_CONFIG_SQ_ENABLE 5, 1), (Obj.SQ_CONFIG_SQ_SIZE 5, 6), (Obj.SQ_CONFIG_SQ_CQ 5, 9), (Obj.SQ_CONFIG_SQ_STATE 5, 1), (Obj.CQ_CONFIG_CQ_ENABLE 9, 1), (Obj.CQ_CONFIG_CQ_SIZE 9, 6), (Obj.CQ_CONFIG_CQ_STATE 9, 1), (Obj.EM_TABLE_ENABLE 3, 1), (Obj.EM_TABLE_BANK_COUNT 3, 1)] running).withHost { jobs := [({ sq := 5, index := 2, bytes := (([0, 20, 0, 0, 0, 0, 0, 0, 0, 0, 0, 0, 0, 0, 0, 0, 3, 0, 0, 0, 0, 0, 0, 0, 0, 0, 0, 0, 0, 0, 0, 5, 0, 0, 0, 0, 0, 0, 0, 0, 0, 0, 0, 0, 0, 0, 0, 0, 0, 0, 0, 0, 0, 0, 0, 0, 0, 0, 0, 0, 0, 0, 0, 0] : List Nat).map toByte) } : Job)] }).emPut 3 (((withObjs' [(Obj.EM_TABLE_ENABLE 3, 1), (Obj.EM_TABLE_BANK_COUNT 3, 1)] running).emCandidates 3 5).headD 0) (some ⟨false, false, 0, 5, 77⟩), 5, 2, ({ sq := 5, index := 2, bytes := (([0, 20, 0, 0, 0, 0, 0, 0, 0, 0, 0, 0, 0, 0, 0, 0, 3, 0, 0, 0, 0, 0, 0, 0, 0, 0, 0, 0, 0, 0, 0, 5, 0, 0, 0, 0, 0, 0, 0, 0, 0, 0, 0, 0, 0, 0, 0, 0, 0, 0, 0, 0, 0, 0, 0, 0, 0, 0, 0, 0, 0, 0, 0, 0] : List Nat).map toByte) } : Job), ⟨none, true, true⟩, (((withObjs' [(Obj.EM_TABLE_ENABLE 3, 1), (Obj.EM_TABLE_BANK_COUNT 3, 1)] running).emCandidates 3 5).headD 0, ⟨false, false, 0, 5, 77⟩), by decide +kernel⟩

theorem witness_ExactMatchJobsRun_9 : ∃ (s : State) (q : Fin 1024) (i : Nat) (j : Job) (dma : Dma), s.CoreOn ∧ s.startable q i 0x11 =
    some j ∧ s.tableTurn j = true ∧ s.emLegal j = true ∧ zeroBytes j.bytes [(17, 7)] = true ∧ s.isStandby = true :=
  ⟨((withObjs' [(Obj.SQ_CONFIG_SQ_ENABLE 5, 1), (Obj.SQ_CONFIG_SQ_SIZE 5, 6), (Obj.SQ_CONFIG_SQ_CQ 5, 9), (Obj.SQ_CONFIG_SQ_STATE 5, 1), (Obj.CQ_CONFIG_CQ_ENABLE 9, 1), (Obj.CQ_CONFIG_CQ_SIZE 9, 6), (Obj.CQ_CONFIG_CQ_STATE 9, 1), (Obj.EM_TABLE_ENABLE 3, 1), (Obj.EM_TABLE_BANK_COUNT 3, 1), (Obj.PAIR_CTRL_ROLE, roleSTANDBY)] running).withHost { jobs := [({ sq := 5, index := 2, bytes := (([0, 17, 0, 0, 0, 0, 0, 0, 0, 0, 0, 0, 0, 0, 0, 0, 3, 0, 0, 0, 0, 0, 0, 0, 0, 0, 0, 0, 0, 0, 0, 5, 0, 0, 0, 0, 0, 0, 0, 0, 0, 0, 0, 0, 0, 0, 0, 0, 0, 0, 0, 0, 0, 0, 0, 0, 0, 0, 0, 0, 0, 0, 0, 0] : List Nat).map toByte) } : Job)] }), 5, 2, ({ sq := 5, index := 2, bytes := (([0, 17, 0, 0, 0, 0, 0, 0, 0, 0, 0, 0, 0, 0, 0, 0, 3, 0, 0, 0, 0, 0, 0, 0, 0, 0, 0, 0, 0, 0, 0, 5, 0, 0, 0, 0, 0, 0, 0, 0, 0, 0, 0, 0, 0, 0, 0, 0, 0, 0, 0, 0, 0, 0, 0, 0, 0, 0, 0, 0, 0, 0, 0, 0] : List Nat).map toByte) } : Job), ⟨none, true, true⟩, by decide +kernel⟩

theorem witness_RouteAndLabelJobsRun_1 : ∃ (s : State) (q : Fin 1024) (i : Nat) (j : Job) (dma : Dma), s.CoreOn ∧ s.startable q i 0x15 =
    some j ∧ s.tableTurn j = true ∧ s.isStandby = false ∧ zeroBytes j.bytes [(40, 24)] = true :=
  ⟨((withObjs' [(Obj.SQ_CONFIG_SQ_ENABLE 5, 1), (Obj.SQ_CONFIG_SQ_SIZE 5, 6), (Obj.SQ_CONFIG_SQ_CQ 5, 9), (Obj.SQ_CONFIG_SQ_STATE 5, 1), (Obj.CQ_CONFIG_CQ_ENABLE 9, 1), (Obj.CQ_CONFIG_CQ_SIZE 9, 6), (Obj.CQ_CONFIG_CQ_STATE 9, 1)] running).withHost { jobs := [({ sq := 5, index := 2, bytes := (([0, 21, 0, 0, 0, 0, 0, 0, 0, 0, 0, 0, 0, 0, 0, 0, 4, 8, 0, 1, 0, 0, 0, 77, 0, 0, 0, 0, 0, 0, 0, 0, 0, 0, 0, 0, 10, 0, 0, 0, 0, 0, 0, 0, 0, 0, 0, 0, 0, 0, 0, 0, 0, 0, 0, 0, 0, 0, 0, 0, 0, 0, 0, 0] : List Nat).map toByte) } : Job)] }), 5, 2, ({ sq := 5, index := 2, bytes := (([0, 21, 0, 0, 0, 0, 0, 0, 0, 0, 0, 0, 0, 0, 0, 0, 4, 8, 0, 1, 0, 0, 0, 77, 0, 0, 0, 0, 0, 0, 0, 0, 0, 0, 0, 0, 10, 0, 0, 0, 0, 0, 0, 0, 0, 0, 0, 0, 0, 0, 0, 0, 0, 0, 0, 0, 0, 0, 0, 0, 0, 0, 0, 0] : List Nat).map toByte) } : Job), ⟨none, true, true⟩, by decide +kernel⟩

theorem witness_RouteAndLabelJobsRun_2 : ∃ (s : State) (q : Fin 1024) (i : Nat) (j : Job) (dma : Dma), s.CoreOn ∧ s.startable q i 0x16 =
    some j ∧ s.tableTurn j = true ∧ s.isStandby = false ∧ zeroBytes j.bytes [(20, 4), (40, 24)] = true :=
  ⟨((withObjs' [(Obj.SQ_CONFIG_SQ_ENABLE 5, 1), (Obj.SQ_CONFIG_SQ_SIZE 5, 6), (Obj.SQ_CONFIG_SQ_CQ 5, 9), (Obj.SQ_CONFIG_SQ_STATE 5, 1), (Obj.CQ_CONFIG_CQ_ENABLE 9, 1), (Obj.CQ_CONFIG_CQ_SIZE 9, 6), (Obj.CQ_CONFIG_CQ_STATE 9, 1)] running).withHost { jobs := [({ sq := 5, index := 2, bytes := (([0, 22, 0, 0, 0, 0, 0, 0, 0, 0, 0, 0, 0, 0, 0, 0, 4, 8, 0, 1, 0, 0, 0, 0, 0, 0, 0, 0, 0, 0, 0, 0, 0, 0, 0, 0, 10, 0, 0, 0, 0, 0, 0, 0, 0, 0, 0, 0, 0, 0, 0, 0, 0, 0, 0, 0, 0, 0, 0, 0, 0, 0, 0, 0] : List Nat).map toByte) } : Job)] }).setRoute 4 1 8 (10 * 2 ^ 24) (some 77), 5, 2, ({ sq := 5, index := 2, bytes := (([0, 22, 0, 0, 0, 0, 0, 0, 0, 0, 0, 0, 0, 0, 0, 0, 4, 8, 0, 1, 0, 0, 0, 0, 0, 0, 0, 0, 0, 0, 0, 0, 0, 0, 0, 0, 10, 0, 0, 0, 0, 0, 0, 0, 0, 0, 0, 0, 0, 0, 0, 0, 0, 0, 0, 0, 0, 0, 0, 0, 0, 0, 0, 0] : List Nat).map toByte) } : Job), ⟨none, true, true⟩, by decide +kernel⟩

theorem witness_RouteAndLabelJobsRun_3 : ∃ (s : State) (q : Fin 1024) (i : Nat) (j : Job) (dma : Dma) (r : Nat), s.CoreOn ∧ s.startable
    q i 0x17 = some j ∧ s.tableTurn j = true ∧ zeroBytes j.bytes [(20, 4), (40, 24)] = true ∧ routeOk j.family j.vrf j.flags
    j.prefixBits = true ∧ s.route j.family j.vrf j.flags j.prefixBits = some r ∧ s.tab.lpmDamage = [] :=
  ⟨((withObjs' [(Obj.SQ_CONFIG_SQ_ENABLE 5, 1), (Obj.SQ_CONFIG_SQ_SIZE 5, 6), (Obj.SQ_CONFIG_SQ_CQ 5, 9), (Obj.SQ_CONFIG_SQ_STATE 5, 1), (Obj.CQ_CONFIG_CQ_ENABLE 9, 1), (Obj.CQ_CONFIG_CQ_SIZE 9, 6), (Obj.CQ_CONFIG_CQ_STATE 9, 1)] running).withHost { jobs := [({ sq := 5, index := 2, bytes := (([0, 23, 0, 0, 0, 0, 0, 0, 0, 0, 0, 0, 0, 0, 0, 0, 4, 8, 0, 1, 0, 0, 0, 0, 0, 0, 0, 0, 0, 0, 0, 0, 0, 0, 0, 0, 10, 0, 0, 0, 0, 0, 0, 0, 0, 0, 0, 0, 0, 0, 0, 0, 0, 0, 0, 0, 0, 0, 0, 0, 0, 0, 0, 0] : List Nat).map toByte) } : Job)] }).setRoute 4 1 8 (10 * 2 ^ 24) (some 77), 5, 2, ({ sq := 5, index := 2, bytes := (([0, 23, 0, 0, 0, 0, 0, 0, 0, 0, 0, 0, 0, 0, 0, 0, 4, 8, 0, 1, 0, 0, 0, 0, 0, 0, 0, 0, 0, 0, 0, 0, 0, 0, 0, 0, 10, 0, 0, 0, 0, 0, 0, 0, 0, 0, 0, 0, 0, 0, 0, 0, 0, 0, 0, 0, 0, 0, 0, 0, 0, 0, 0, 0] : List Nat).map toByte) } : Job), ⟨none, true, true⟩, 77, by decide +kernel⟩

theorem witness_RouteAndLabelJobsRun_4 : ∃ (s : State) (q : Fin 1024) (i : Nat) (j : Job) (dma : Dma), s.CoreOn ∧ s.startable q i 0x17 =
    some j ∧ s.tableTurn j = true ∧ zeroBytes j.bytes [(20, 4), (40, 24)] = true ∧ routeOk j.family j.vrf j.flags j.prefixBits = true ∧
    s.route j.family j.vrf j.flags j.prefixBits = none :=
  ⟨((withObjs' [(Obj.SQ_CONFIG_SQ_ENABLE 5, 1), (Obj.SQ_CONFIG_SQ_SIZE 5, 6), (Obj.SQ_CONFIG_SQ_CQ 5, 9), (Obj.SQ_CONFIG_SQ_STATE 5, 1), (Obj.CQ_CONFIG_CQ_ENABLE 9, 1), (Obj.CQ_CONFIG_CQ_SIZE 9, 6), (Obj.CQ_CONFIG_CQ_STATE 9, 1)] running).withHost { jobs := [({ sq := 5, index := 2, bytes := (([0, 23, 0, 0, 0, 0, 0, 0, 0, 0, 0, 0, 0, 0, 0, 0, 4, 8, 0, 1, 0, 0, 0, 0, 0, 0, 0, 0, 0, 0, 0, 0, 0, 0, 0, 0, 10, 0, 0, 0, 0, 0, 0, 0, 0, 0, 0, 0, 0, 0, 0, 0, 0, 0, 0, 0, 0, 0, 0, 0, 0, 0, 0, 0] : List Nat).map toByte) } : Job)] }), 5, 2, ({ sq := 5, index := 2, bytes := (([0, 23, 0, 0, 0, 0, 0, 0, 0, 0, 0, 0, 0, 0, 0, 0, 4, 8, 0, 1, 0, 0, 0, 0, 0, 0, 0, 0, 0, 0, 0, 0, 0, 0, 0, 0, 10, 0, 0, 0, 0, 0, 0, 0, 0, 0, 0, 0, 0, 0, 0, 0, 0, 0, 0, 0, 0, 0, 0, 0, 0, 0, 0, 0] : List Nat).map toByte) } : Job), ⟨none, true, true⟩, by decide +kernel⟩

theorem witness_RouteAndLabelJobsRun_5 : ∃ (s : State) (q : Fin 1024) (i : Nat) (j : Job) (dma : Dma) (r n : Nat), s.CoreOn ∧
    s.startable q i 0x18 = some j ∧ s.tableTurn j = true ∧ zeroBytes j.bytes [(17, 1), (20, 4), (40, 24)] = true ∧ routeOk j.family
    j.vrf (famBits j.family) j.prefixBits = true ∧ s.routeMatch j.family j.vrf j.prefixBits = some (r, n) :=
  ⟨((withObjs' [(Obj.SQ_CONFIG_SQ_ENABLE 5, 1), (Obj.SQ_CONFIG_SQ_SIZE 5, 6), (Obj.SQ_CONFIG_SQ_CQ 5, 9), (Obj.SQ_CONFIG_SQ_STATE 5, 1), (Obj.CQ_CONFIG_CQ_ENABLE 9, 1), (Obj.CQ_CONFIG_CQ_SIZE 9, 6), (Obj.CQ_CONFIG_CQ_STATE 9, 1)] running).withHost { jobs := [({ sq := 5, index := 2, bytes := (([0, 24, 0, 0, 0, 0, 0, 0, 0, 0, 0, 0, 0, 0, 0, 0, 4, 0, 0, 1, 0, 0, 0, 0, 0, 0, 0, 0, 0, 0, 0, 0, 0, 0, 0, 0, 10, 0, 0, 7, 0, 0, 0, 0, 0, 0, 0, 0, 0, 0, 0, 0, 0, 0, 0, 0, 0, 0, 0, 0, 0, 0, 0, 0] : List Nat).map toByte) } : Job)] }).setRoute 4 1 8 (10 * 2 ^ 24) (some 77), 5, 2, ({ sq := 5, index := 2, bytes := (([0, 24, 0, 0, 0, 0, 0, 0, 0, 0, 0, 0, 0, 0, 0, 0, 4, 0, 0, 1, 0, 0, 0, 0, 0, 0, 0, 0, 0, 0, 0, 0, 0, 0, 0, 0, 10, 0, 0, 7, 0, 0, 0, 0, 0, 0, 0, 0, 0, 0, 0, 0, 0, 0, 0, 0, 0, 0, 0, 0, 0, 0, 0, 0] : List Nat).map toByte) } : Job), ⟨none, true, true⟩, 77, 8, by decide +kernel⟩

theorem witness_RouteAndLabelJobsRun_6 : ∃ (s : State) (q : Fin 1024) (i : Nat) (j : Job) (dma : Dma), s.CoreOn ∧ s.startable q i 0x19 =
    some j ∧ s.tableTurn j = true ∧ s.isStandby = false ∧ zeroBytes j.bytes [(16, 4), (32, 32)] = true ∧ j.label < 1048576 ∧ labelStatus
    (wordAt j.bytes 24 8) = .ok :=
  ⟨((withObjs' [(Obj.SQ_CONFIG_SQ_ENABLE 5, 1), (Obj.SQ_CONFIG_SQ_SIZE 5, 6), (Obj.SQ_CONFIG_SQ_CQ 5, 9), (Obj.SQ_CONFIG_SQ_STATE 5, 1), (Obj.CQ_CONFIG_CQ_ENABLE 9, 1), (Obj.CQ_CONFIG_CQ_SIZE 9, 6), (Obj.CQ_CONFIG_CQ_STATE 9, 1)] running).withHost { jobs := [({ sq := 5, index := 2, bytes := (([0, 25, 0, 0, 0, 0, 0, 0, 0, 0, 0, 0, 0, 0, 0, 0, 0, 0, 0, 0, 0, 0, 0, 16, 128, 0, 0, 0, 0, 0, 0, 5, 0, 0, 0, 0, 0, 0, 0, 0, 0, 0, 0, 0, 0, 0, 0, 0, 0, 0, 0, 0, 0, 0, 0, 0, 0, 0, 0, 0, 0, 0, 0, 0] : List Nat).map toByte) } : Job)] }), 5, 2, ({ sq := 5, index := 2, bytes := (([0, 25, 0, 0, 0, 0, 0, 0, 0, 0, 0, 0, 0, 0, 0, 0, 0, 0, 0, 0, 0, 0, 0, 16, 128, 0, 0, 0, 0, 0, 0, 5, 0, 0, 0, 0, 0, 0, 0, 0, 0, 0, 0, 0, 0, 0, 0, 0, 0, 0, 0, 0, 0, 0, 0, 0, 0, 0, 0, 0, 0, 0, 0, 0] : List Nat).map toByte) } : Job), ⟨none, true, true⟩, by decide +kernel⟩

theorem witness_RouteAndLabelJobsRun_7 : ∃ (s : State) (q : Fin 1024) (i : Nat) (j : Job) (dma : Dma), s.CoreOn ∧ s.startable q i 0x1a =
    some j ∧ s.tableTurn j = true ∧ zeroBytes j.bytes [(16, 4), (24, 40)] = true ∧ j.label < 1048576 ∧ bits (s.dom Dom.LABEL_TABLE
    j.label) 63 1 = 1 :=
  ⟨((withDoms' [(Dom.LABEL_TABLE, 16, 2 ^ 63 + 5)] (withObjs' [(Obj.SQ_CONFIG_SQ_ENABLE 5, 1), (Obj.SQ_CONFIG_SQ_SIZE 5, 6), (Obj.SQ_CONFIG_SQ_CQ 5, 9), (Obj.SQ_CONFIG_SQ_STATE 5, 1), (Obj.CQ_CONFIG_CQ_ENABLE 9, 1), (Obj.CQ_CONFIG_CQ_SIZE 9, 6), (Obj.CQ_CONFIG_CQ_STATE 9, 1)] running)).withHost { jobs := [({ sq := 5, index := 2, bytes := (([0, 26, 0, 0, 0, 0, 0, 0, 0, 0, 0, 0, 0, 0, 0, 0, 0, 0, 0, 0, 0, 0, 0, 16, 0, 0, 0, 0, 0, 0, 0, 0, 0, 0, 0, 0, 0, 0, 0, 0, 0, 0, 0, 0, 0, 0, 0, 0, 0, 0, 0, 0, 0, 0, 0, 0, 0, 0, 0, 0, 0, 0, 0, 0] : List Nat).map toByte) } : Job)] }), 5, 2, ({ sq := 5, index := 2, bytes := (([0, 26, 0, 0, 0, 0, 0, 0, 0, 0, 0, 0, 0, 0, 0, 0, 0, 0, 0, 0, 0, 0, 0, 16, 0, 0, 0, 0, 0, 0, 0, 0, 0, 0, 0, 0, 0, 0, 0, 0, 0, 0, 0, 0, 0, 0, 0, 0, 0, 0, 0, 0, 0, 0, 0, 0, 0, 0, 0, 0, 0, 0, 0, 0] : List Nat).map toByte) } : Job), ⟨none, true, true⟩, by decide +kernel⟩

theorem witness_RouteAndLabelJobsRun_8 : ∃ (s : State) (q : Fin 1024) (i : Nat) (j : Job) (dma : Dma), s.CoreOn ∧ s.startable q i 0x1a =
    some j ∧ s.tableTurn j = true ∧ zeroBytes j.bytes [(16, 4), (24, 40)] = true ∧ j.label < 1048576 ∧ bits (s.dom Dom.LABEL_TABLE
    j.label) 63 1 = 0 :=
  ⟨((withObjs' [(Obj.SQ_CONFIG_SQ_ENABLE 5, 1), (Obj.SQ_CONFIG_SQ_SIZE 5, 6), (Obj.SQ_CONFIG_SQ_CQ 5, 9), (Obj.SQ_CONFIG_SQ_STATE 5, 1), (Obj.CQ_CONFIG_CQ_ENABLE 9, 1), (Obj.CQ_CONFIG_CQ_SIZE 9, 6), (Obj.CQ_CONFIG_CQ_STATE 9, 1)] running).withHost { jobs := [({ sq := 5, index := 2, bytes := (([0, 26, 0, 0, 0, 0, 0, 0, 0, 0, 0, 0, 0, 0, 0, 0, 0, 0, 0, 0, 0, 0, 0, 16, 0, 0, 0, 0, 0, 0, 0, 0, 0, 0, 0, 0, 0, 0, 0, 0, 0, 0, 0, 0, 0, 0, 0, 0, 0, 0, 0, 0, 0, 0, 0, 0, 0, 0, 0, 0, 0, 0, 0, 0] : List Nat).map toByte) } : Job)] }), 5, 2, ({ sq := 5, index := 2, bytes := (([0, 26, 0, 0, 0, 0, 0, 0, 0, 0, 0, 0, 0, 0, 0, 0, 0, 0, 0, 0, 0, 0, 0, 16, 0, 0, 0, 0, 0, 0, 0, 0, 0, 0, 0, 0, 0, 0, 0, 0, 0, 0, 0, 0, 0, 0, 0, 0, 0, 0, 0, 0, 0, 0, 0, 0, 0, 0, 0, 0, 0, 0, 0, 0] : List Nat).map toByte) } : Job), ⟨none, true, true⟩, by decide +kernel⟩

theorem witness_LongestMatchIsLongest_1 : ∃ (s : State) (f v a r n : Nat), s.tab.lpmDamage = [] ∧ s.routeMatch f v a = some (r, n) :=
  ⟨(running.setRoute 4 1 8 (10 * 2 ^ 24) (some 77)).setRoute 4 1 0 0 (some 5), 4, 1, 10 * 2 ^ 24 + 7, 77, 8, by decide +kernel⟩

theorem witness_LongestMatchIsLongest_2 : ∃ (s : State) (f v a n : Nat), s.tab.lpmDamage = [] ∧ s.routeMatch f v a = none ∧ n ≤ famBits
    f :=
  ⟨running.setRoute 4 1 8 (10 * 2 ^ 24) (some 77), 4, 1, 11 * 2 ^ 24, 8, by decide +kernel⟩

theorem witness_LongestMatchIsLongest_3 : ∃ (s : State) (f v a d : Nat), s.tab.lpmDamage = [] ∧ s.route f v 0 0 = some d ∧ a < 2 ^
    famBits f :=
  ⟨running.setRoute 4 1 0 0 (some 5), 4, 1, 11 * 2 ^ 24, 5, by decide +kernel⟩

theorem witness_TcamJobsRun_1 : ∃ (s : State) (q : Fin 1024) (i : Nat) (j : Job) (dma : Dma) (d : List Byte), s.CoreOn ∧ s.startable q i
    0x1b = some j ∧ s.tableTurn j = true ∧ s.isStandby = false ∧ j.tableNo < 4 ∧ zeroBytes j.bytes [(17, 3), (24, 24), (56, 8)] = true ∧
    dma.data = some d ∧ d.length = 96 ∧ s.on (Obj.TCAM_TABLE_ENABLE j.tableNo) = true ∧ (wordAt j.bytes 20 4) < s.tcamPositions
    j.tableNo ∧ tcamImageOk (s.tcamWidth j.tableNo) (natBE d) = true :=
  ⟨((withObjs' [(Obj.SQ_CONFIG_SQ_ENABLE 5, 1), (Obj.SQ_CONFIG_SQ_SIZE 5, 6), (Obj.SQ_CONFIG_SQ_CQ 5, 9), (Obj.SQ_CONFIG_SQ_STATE 5, 1), (Obj.CQ_CONFIG_CQ_ENABLE 9, 1), (Obj.CQ_CONFIG_CQ_SIZE 9, 6), (Obj.CQ_CONFIG_CQ_STATE 9, 1), (Obj.TCAM_TABLE_ENABLE 1, 1), (Obj.TCAM_TABLE_BANK_COUNT 1, 1)] running).withHost { jobs := [({ sq := 5, index := 2, bytes := (([0, 27, 0, 0, 0, 0, 0, 0, 0, 0, 0, 0, 0, 0, 0, 0, 1, 0, 0, 0, 0, 0, 0, 9, 0, 0, 0, 0, 0, 0, 0, 0, 0, 0, 0, 0, 0, 0, 0, 0, 0, 0, 0, 0, 0, 0, 0, 0, 0, 0, 0, 0, 0, 0, 0, 64, 0, 0, 0, 0, 0, 0, 0, 0] : List Nat).map toByte) } : Job)] }), 5, 2, ({ sq := 5, index := 2, bytes := (([0, 27, 0, 0, 0, 0, 0, 0, 0, 0, 0, 0, 0, 0, 0, 0, 1, 0, 0, 0, 0, 0, 0, 9, 0, 0, 0, 0, 0, 0, 0, 0, 0, 0, 0, 0, 0, 0, 0, 0, 0, 0, 0, 0, 0, 0, 0, 0, 0, 0, 0, 0, 0, 0, 0, 64, 0, 0, 0, 0, 0, 0, 0, 0] : List Nat).map toByte) } : Job), ⟨some (bytesBE 96 (tcamImage ⟨true, 5 * 2 ^ 240, 2 ^ 320 - 2 ^ 240, 7⟩)), true, true⟩, bytesBE 96 (tcamImage ⟨true, 5 * 2 ^ 240, 2 ^ 320 - 2 ^ 240, 7⟩), by decide +kernel⟩

theorem witness_TcamJobsRun_2 : ∃ (s : State) (q : Fin 1024) (i : Nat) (j : Job) (dma : Dma), s.CoreOn ∧ s.startable q i 0x1c = some j ∧
    s.tableTurn j = true ∧ j.tableNo < 4 ∧ zeroBytes j.bytes [(17, 3), (24, 24), (56, 8)] = true ∧ s.on (Obj.TCAM_TABLE_ENABLE
    j.tableNo) = true ∧ (wordAt j.bytes 20 4) < s.tcamPositions j.tableNo ∧ s.tab.assocBad.contains (s.tcamAddr j.tableNo (wordAt
    j.bytes 20 4)) = false ∧ dma.ok = true :=
  ⟨((withObjs' [(Obj.SQ_CONFIG_SQ_ENABLE 5, 1), (Obj.SQ_CONFIG_SQ_SIZE 5, 6), (Obj.SQ_CONFIG_SQ_CQ 5, 9), (Obj.SQ_CONFIG_SQ_STATE 5, 1), (Obj.CQ_CONFIG_CQ_ENABLE 9, 1), (Obj.CQ_CONFIG_CQ_SIZE 9, 6), (Obj.CQ_CONFIG_CQ_STATE 9, 1), (Obj.TCAM_TABLE_ENABLE 1, 1), (Obj.TCAM_TABLE_BANK_COUNT 1, 1)] running).withHost { jobs := [({ sq := 5, index := 2, bytes := (([0, 28, 0, 0, 0, 0, 0, 0, 0, 0, 0, 0, 0, 0, 0, 0, 1, 0, 0, 0, 0, 0, 0, 9, 0, 0, 0, 0, 0, 0, 0, 0, 0, 0, 0, 0, 0, 0, 0, 0, 0, 0, 0, 0, 0, 0, 0, 0, 0, 0, 0, 0, 0, 0, 0, 64, 0, 0, 0, 0, 0, 0, 0, 0] : List Nat).map toByte) } : Job)] }).withTab { tcam := [(9, ⟨true, 5 * 2 ^ 240, 2 ^ 320 - 2 ^ 240, 7⟩)] }, 5, 2, ({ sq := 5, index := 2, bytes := (([0, 28, 0, 0, 0, 0, 0, 0, 0, 0, 0, 0, 0, 0, 0, 0, 1, 0, 0, 0, 0, 0, 0, 9, 0, 0, 0, 0, 0, 0, 0, 0, 0, 0, 0, 0, 0, 0, 0, 0, 0, 0, 0, 0, 0, 0, 0, 0, 0, 0, 0, 0, 0, 0, 0, 64, 0, 0, 0, 0, 0, 0, 0, 0] : List Nat).map toByte) } : Job), ⟨none, true, true⟩, by decide +kernel⟩

theorem witness_TcamJobsRun_3 : ∃ (s : State) (q : Fin 1024) (i : Nat) (j : Job) (dma : Dma), s.CoreOn ∧ s.startable q i 0x1c = some j ∧
    s.tableTurn j = true ∧ j.tableNo < 4 ∧ zeroBytes j.bytes [(17, 3), (24, 24), (56, 8)] = true ∧ s.on (Obj.TCAM_TABLE_ENABLE
    j.tableNo) = true ∧ (wordAt j.bytes 20 4) < s.tcamPositions j.tableNo ∧ s.tab.assocBad.contains (s.tcamAddr j.tableNo (wordAt
    j.bytes 20 4)) = true :=
  ⟨((withObjs' [(Obj.SQ_CONFIG_SQ_ENABLE 5, 1), (Obj.SQ_CONFIG_SQ_SIZE 5, 6), (Obj.SQ_CONFIG_SQ_CQ 5, 9), (Obj.SQ_CONFIG_SQ_STATE 5, 1), (Obj.CQ_CONFIG_CQ_ENABLE 9, 1), (Obj.CQ_CONFIG_CQ_SIZE 9, 6), (Obj.CQ_CONFIG_CQ_STATE 9, 1), (Obj.TCAM_TABLE_ENABLE 1, 1), (Obj.TCAM_TABLE_BANK_COUNT 1, 1)] running).withHost { jobs := [({ sq := 5, index := 2, bytes := (([0, 28, 0, 0, 0, 0, 0, 0, 0, 0, 0, 0, 0, 0, 0, 0, 1, 0, 0, 0, 0, 0, 0, 9, 0, 0, 0, 0, 0, 0, 0, 0, 0, 0, 0, 0, 0, 0, 0, 0, 0, 0, 0, 0, 0, 0, 0, 0, 0, 0, 0, 0, 0, 0, 0, 64, 0, 0, 0, 0, 0, 0, 0, 0] : List Nat).map toByte) } : Job)] }).withTab { assocBad := [9] }, 5, 2, ({ sq := 5, index := 2, bytes := (([0, 28, 0, 0, 0, 0, 0, 0, 0, 0, 0, 0, 0, 0, 0, 0, 1, 0, 0, 0, 0, 0, 0, 9, 0, 0, 0, 0, 0, 0, 0, 0, 0, 0, 0, 0, 0, 0, 0, 0, 0, 0, 0, 0, 0, 0, 0, 0, 0, 0, 0, 0, 0, 0, 0, 64, 0, 0, 0, 0, 0, 0, 0, 0] : List Nat).map toByte) } : Job), ⟨none, true, true⟩, by decide +kernel⟩

theorem witness_TcamJobsRun_4 : ∃ (s : State) (q : Fin 1024) (i : Nat) (j : Job) (dma : Dma), s.CoreOn ∧ s.startable q i 0x1d = some j ∧
    s.tableTurn j = true ∧ s.isStandby = false ∧ j.tableNo < 4 ∧ zeroBytes j.bytes [(17, 3), (24, 40)] = true ∧ s.on
    (Obj.TCAM_TABLE_ENABLE j.tableNo) = true ∧ (wordAt j.bytes 20 4) < s.tcamPositions j.tableNo ∧ (s.tcamAt (s.tcamAddr j.tableNo
    (wordAt j.bytes 20 4))).valid = true :=
  ⟨((withObjs' [(Obj.SQ_CONFIG_SQ_ENABLE 5, 1), (Obj.SQ_CONFIG_SQ_SIZE 5, 6), (Obj.SQ_CONFIG_SQ_CQ 5, 9), (Obj.SQ_CONFIG_SQ_STATE 5, 1), (Obj.CQ_CONFIG_CQ_ENABLE 9, 1), (Obj.CQ_CONFIG_CQ_SIZE 9, 6), (Obj.CQ_CONFIG_CQ_STATE 9, 1), (Obj.TCAM_TABLE_ENABLE 1, 1), (Obj.TCAM_TABLE_BANK_COUNT 1, 1)] running).withHost { jobs := [({ sq := 5, index := 2, bytes := (([0, 29, 0, 0, 0, 0, 0, 0, 0, 0, 0, 0, 0, 0, 0, 0, 1, 0, 0, 0, 0, 0, 0, 9, 0, 0, 0, 0, 0, 0, 0, 0, 0, 0, 0, 0, 0, 0, 0, 0, 0, 0, 0, 0, 0, 0, 0, 0, 0, 0, 0, 0, 0, 0, 0, 0, 0, 0, 0, 0, 0, 0, 0, 0] : List Nat).map toByte) } : Job)] }).withTab { tcam := [(9, ⟨true, 5 * 2 ^ 240, 2 ^ 320 - 2 ^ 240, 7⟩)] }, 5, 2, ({ sq := 5, index := 2, bytes := (([0, 29, 0, 0, 0, 0, 0, 0, 0, 0, 0, 0, 0, 0, 0, 0, 1, 0, 0, 0, 0, 0, 0, 9, 0, 0, 0, 0, 0, 0, 0, 0, 0, 0, 0, 0, 0, 0, 0, 0, 0, 0, 0, 0, 0, 0, 0, 0, 0, 0, 0, 0, 0, 0, 0, 0, 0, 0, 0, 0, 0, 0, 0, 0] : List Nat).map toByte) } : Job), ⟨none, true, true⟩, by decide +kernel⟩

theorem witness_TcamJobsRun_5 : ∃ (s : State) (q : Fin 1024) (i : Nat) (j : Job) (dma : Dma), s.CoreOn ∧ s.startable q i 0x1d = some j ∧
    s.tableTurn j = true ∧ s.isStandby = false ∧ j.tableNo < 4 ∧ zeroBytes j.bytes [(17, 3), (24, 40)] = true ∧ s.on
    (Obj.TCAM_TABLE_ENABLE j.tableNo) = true ∧ (wordAt j.bytes 20 4) < s.tcamPositions j.tableNo ∧ (s.tcamAt (s.tcamAddr j.tableNo
    (wordAt j.bytes 20 4))).valid = false :=
  ⟨((withObjs' [(Obj.SQ_CONFIG_SQ_ENABLE 5, 1), (Obj.SQ_CONFIG_SQ_SIZE 5, 6), (Obj.SQ_CONFIG_SQ_CQ 5, 9), (Obj.SQ_CONFIG_SQ_STATE 5, 1), (Obj.CQ_CONFIG_CQ_ENABLE 9, 1), (Obj.CQ_CONFIG_CQ_SIZE 9, 6), (Obj.CQ_CONFIG_CQ_STATE 9, 1), (Obj.TCAM_TABLE_ENABLE 1, 1), (Obj.TCAM_TABLE_BANK_COUNT 1, 1)] running).withHost { jobs := [({ sq := 5, index := 2, bytes := (([0, 29, 0, 0, 0, 0, 0, 0, 0, 0, 0, 0, 0, 0, 0, 0, 1, 0, 0, 0, 0, 0, 0, 9, 0, 0, 0, 0, 0, 0, 0, 0, 0, 0, 0, 0, 0, 0, 0, 0, 0, 0, 0, 0, 0, 0, 0, 0, 0, 0, 0, 0, 0, 0, 0, 0, 0, 0, 0, 0, 0, 0, 0, 0] : List Nat).map toByte) } : Job)] }), 5, 2, ({ sq := 5, index := 2, bytes := (([0, 29, 0, 0, 0, 0, 0, 0, 0, 0, 0, 0, 0, 0, 0, 0, 1, 0, 0, 0, 0, 0, 0, 9, 0, 0, 0, 0, 0, 0, 0, 0, 0, 0, 0, 0, 0, 0, 0, 0, 0, 0, 0, 0, 0, 0, 0, 0, 0, 0, 0, 0, 0, 0, 0, 0, 0, 0, 0, 0, 0, 0, 0, 0] : List Nat).map toByte) } : Job), ⟨none, true, true⟩, by decide +kernel⟩

theorem witness_TcamJobsRun_6 : ∃ (s : State) (q : Fin 1024) (i : Nat) (j : Job) (dma : Dma), s.CoreOn ∧ s.startable q i 0x1e = some j ∧
    s.tableTurn j = true ∧ s.isStandby = false ∧ j.tableNo < 4 ∧ zeroBytes j.bytes [(17, 3), (30, 34)] = true :=
  ⟨((withObjs' [(Obj.SQ_CONFIG_SQ_ENABLE 5, 1), (Obj.SQ_CONFIG_SQ_SIZE 5, 6), (Obj.SQ_CONFIG_SQ_CQ 5, 9), (Obj.SQ_CONFIG_SQ_STATE 5, 1), (Obj.CQ_CONFIG_CQ_ENABLE 9, 1), (Obj.CQ_CONFIG_CQ_SIZE 9, 6), (Obj.CQ_CONFIG_CQ_STATE 9, 1), (Obj.TCAM_TABLE_ENABLE 1, 1), (Obj.TCAM_TABLE_BANK_COUNT 1, 1)] running).withHost { jobs := [({ sq := 5, index := 2, bytes := (([0, 30, 0, 0, 0, 0, 0, 0, 0, 0, 0, 0, 0, 0, 0, 0, 1, 0, 0, 0, 0, 0, 0, 9, 0, 0, 0, 20, 0, 2, 0, 0, 0, 0, 0, 0, 0, 0, 0, 0, 0, 0, 0, 0, 0, 0, 0, 0, 0, 0, 0, 0, 0, 0, 0, 0, 0, 0, 0, 0, 0, 0, 0, 0] : List Nat).map toByte) } : Job)] }).withTab { tcam := [(9, ⟨true, 5 * 2 ^ 240, 2 ^ 320 - 2 ^ 240, 7⟩)] }, 5, 2, ({ sq := 5, index := 2, bytes := (([0, 30, 0, 0, 0, 0, 0, 0, 0, 0, 0, 0, 0, 0, 0, 0, 1, 0, 0, 0, 0, 0, 0, 9, 0, 0, 0, 20, 0, 2, 0, 0, 0, 0, 0, 0, 0, 0, 0, 0, 0, 0, 0, 0, 0, 0, 0, 0, 0, 0, 0, 0, 0, 0, 0, 0, 0, 0, 0, 0, 0, 0, 0, 0] : List Nat).map toByte) } : Job), ⟨none, true, true⟩, by decide +kernel⟩

theorem witness_TablesAreScrubbedConfigured_1 : ∃ (s : State), s.CoreOn ∧ s.scrubDue = true ∧ s.rowDamage s.tab.scrubBank s.tab.scrubRow
    = [] :=
  ⟨(running.withTab { scrubRow := 2559, scrubStart := some 0, scrubMs := 100 }).withTime { now := 900000000 }, by decide +kernel⟩

theorem witness_TablesAreScrubbedConfigured_2 : ∃ (s : State) (l : List Upset), s.CoreOn ∧ s.scrubDue = true :=
  ⟨running.withTab { scrubStart := some 0, scrubMs := 100 }, [.label 7], by decide +kernel⟩

theorem witness_TablesAreScrubbedConfigured_3 : ∃ (s : State) (n : Nat), s.CoreOn :=
  ⟨running.withTab { tcamScrub := 65535 }, 8, by decide +kernel⟩

theorem witness_TablesAreScrubbedConfigured_4 : ∃ (s : State) (n : Nat) (k : Fin 8), s.Canonical ∧ s.CoreOn :=
  ⟨running, 7, 3, by decide +kernel⟩

theorem witness_TablesAreScrubbedConfigured_5 : ∃ (s : State) (d : LpmDamage) (l : List LpmDamage), s.Canonical ∧ s.CoreOn ∧
    s.tab.lpmDamage = d :: l :=
  ⟨running.withTab { lpmDamage := [⟨4, 1, 10 * 2 ^ 24, 8, 5, 800⟩] }, ⟨4, 1, 10 * 2 ^ 24, 8, 5, 800⟩, [], by decide +kernel⟩

theorem witness_TablesAreScrubbedConfigured_6 : ∃ (s : State) (n : Fin 4) (m v : Nat), s.Canonical ∧ s.Accepts m (Obj.TCAM_TABLE_ENABLE
    n) v ∧ (v = 0 ∨ s.tcamBad n = false) ∧ s.sec.fusing = none :=
  ⟨withObjs' [(Obj.TCAM_TABLE_BANK_COUNT 1, 1)] running, 1, 1, 1, by decide +kernel⟩

theorem witness_TablesAreScrubbedConfigured_7 : ∃ (s : State) (b : Fin 16) (m v : Nat), s.Canonical ∧ s.Accepts m
    (Obj.TCAM_BANKS_WIDTH_TB b) v ∧ s.tcamOwner (4096 * b.val) = none ∧ s.sec.fusing = none :=
  ⟨running.withTab { assocBad := [8192] }, 2, 1, 2, by decide +kernel⟩

theorem witness_TablesAreScrubbedConfigured_8 : ∃ (s : State) (b : Fin 16) (m v : Nat), s.Canonical ∧ s.Accepts m
    (Obj.TCAM_BANKS_WIDTH_TB b) v ∧ (s.tcamOwner (4096 * b.val)).isSome = true ∧ s.sec.fusing = none :=
  ⟨withObjs' [(Obj.TCAM_TABLE_ENABLE 1, 1), (Obj.TCAM_TABLE_BANK_COUNT 1, 1)] running, 0, 1, 2, by decide +kernel⟩

theorem witness_FabricLanesAreReached_1 : ∃ (s : State) (n : FabricLane) (f : Bool) (q : Fin 4) (d : Fin 256) (x : Nat), s.CoreOn ∧ s.on
    (Obj.FABRIC_LANE_FL_ENABLE n) = true ∧ s.get Obj.FABRIC_CTRL_FABRIC_MODE ≠ 1 :=
  ⟨(withObjs' [(Obj.FABRIC_LANE_FL_ENABLE 7, 1), (Obj.FABRIC_CTRL_FABRIC_ENABLE, 1), (Obj.FABRIC_CTRL_FABRIC_MODE, 0)] running), 7, true, 1, 0, 5, by decide +kernel⟩

theorem witness_FabricLanesAreReached_2 : ∃ (s : State) (n : FabricLane) (q : Fin 4) (d : Fin 256) (x : Nat), s.CoreOn ∧ s.on
    (Obj.FABRIC_LANE_FL_ENABLE n) = true ∧ s.get Obj.FABRIC_CTRL_FABRIC_MODE = 1 :=
  ⟨(withObjs' [(Obj.FABRIC_LANE_FL_ENABLE 7, 1), (Obj.FABRIC_CTRL_FABRIC_ENABLE, 1), (Obj.FABRIC_CTRL_FABRIC_MODE, 1)] running), 7, 1, 0, 5, by decide +kernel⟩

theorem witness_FabricLanesAreReached_3 : ∃ (s : State) (n : FabricLane), s.CoreOn ∧ (s.fl n).reachAt + 16000 ≤ s.time.now :=
  ⟨(withObjs' [(Obj.FABRIC_LANE_FL_ENABLE 7, 1), (Obj.FABRIC_CTRL_FABRIC_ENABLE, 1)] running).withTime { now := 16000 }, 7, by decide +kernel⟩

theorem witness_FabricLanesAreReached_4 : ∃ (s : State), s.CoreOn :=
  ⟨(withObjs' [(Obj.FABRIC_LANE_FL_ENABLE 7, 1), (Obj.FABRIC_CTRL_FABRIC_ENABLE, 1)] running), by decide +kernel⟩

theorem witness_FabricLanesAreReached_5 : ∃ (s : State) (n : FabricLane) (b : Nat), s.CoreOn ∧ ((s.judgeLane n).fl n).okSince = some b ∧
    b + (s.judgeLane n).get Obj.FABRIC_CTRL_REJOIN_MS * ms ≤ (s.judgeLane n).time.now :=
  ⟨(withObjs' [(Obj.FABRIC_LANE_FL_ENABLE 7, 1), (Obj.FABRIC_CTRL_FABRIC_ENABLE, 1), (Obj.FABRIC_LANE_DEFECTS 7, 0), (Obj.FABRIC_LANE_REACH 7 0, 6)] running).setFl 7 { left := true, okSince := some 0 } |>.withTime { now := 90000000000 }, 7, 0, by decide +kernel⟩

theorem witness_FabricLanesAreReached_6 : ∃ (s : State) (d : Fin 256) (b : Nat), s.CoreOn ∧ s.unreachSince d = some b ∧ 0 < s.get
    Obj.FABRIC_CTRL_UNREACH_MS ∧ b + s.get Obj.FABRIC_CTRL_UNREACH_MS * ms ≤ s.time.now ∧ s.fab.discarding.contains d.val = false ∧
    s.net.queues = [] :=
  ⟨(withObjs' [(Obj.FABRIC_LANE_FL_ENABLE 7, 1), (Obj.FABRIC_CTRL_FABRIC_ENABLE, 1), (Obj.FABRIC_CTRL_UNREACH_MS, 5)] running).withTime { now := 90000000000 }, 9, 0, by decide +kernel⟩

theorem witness_CellsAreTakenOrLost_1 : ∃ (s : State) (n : FabricLane) (f : Fin 64) (x : Fin 16) (c : RxCell), s.CoreOn ∧ s.on
    (Obj.FABRIC_LANE_FL_ENABLE n) = true ∧ s.tsBlocked (n / 20) = false ∧ c.bytes.length = 256 :=
  ⟨(withObjs' [(Obj.FABRIC_LANE_FL_ENABLE 7, 1), (Obj.FABRIC_CTRL_FABRIC_ENABLE, 1)] running), 7, 1, 2, ⟨(bytesBE 16 (Fld.CELL_CHECK.set (Fld.CELL_DEST_DEV.set (Fld.CELL_TYPE.set 0 cDATA) 9) (cellCheck (bytesBE 16 (Fld.CELL_DEST_DEV.set (Fld.CELL_TYPE.set 0 cDATA) 9) ++ List.replicate 240 (0#8)))) ++ List.replicate 240 (0#8)), .clean⟩, by decide +kernel⟩

theorem witness_CellsAreTakenOrLost_2 : ∃ (s : State) (n : FabricLane) (f : Fin 64) (x : Fin 16) (c : RxCell), s.Canonical ∧ s.CoreOn ∧
    s.on (Obj.FABRIC_LANE_FL_ENABLE n) = true ∧ s.tsBlocked (n / 20) = false ∧ c.bytes.length = 256 ∧ ((c.bytes.all fun b => decide (b =
    0xFF#8)) = false) ∧ Fld.CELL_TYPE.get (wordAt c.bytes 0 16) = cDATA ∧ Fld.CELL_CHECK.get (wordAt c.bytes 0 16) = cellCheck c.bytes ∧
    Fld.CELL_DEST_DEV.get (wordAt c.bytes 0 16) ≠ s.get Obj.FABRIC_CTRL_DEVICE_ID :=
  ⟨(withObjs' [(Obj.FABRIC_LANE_FL_ENABLE 7, 1), (Obj.FABRIC_CTRL_FABRIC_ENABLE, 1)] running), 7, 1, 2, ⟨(bytesBE 16 (Fld.CELL_CHECK.set (Fld.CELL_DEST_DEV.set (Fld.CELL_TYPE.set 0 cDATA) 9) (cellCheck (bytesBE 16 (Fld.CELL_DEST_DEV.set (Fld.CELL_TYPE.set 0 cDATA) 9) ++ List.replicate 240 (0#8)))) ++ List.replicate 240 (0#8)), .clean⟩, by decide +kernel⟩

theorem witness_CellsAreTakenOrLost_3 : ∃ (s : State) (m v : Nat), s.Accepts m Obj.FABRIC_CTRL_FABRIC_ENABLE v ∧ v = 1 :=
  ⟨running, 1, 1, by decide +kernel⟩

theorem witness_CellsAreTakenOrLost_4 : ∃ (s : State) (a : Fin 256) (c : Fin 8) (g : Fin 65536) (x : Ctx), s.CoreOn ∧ s.ctxOf (8 * a.val
    + c.val) g = some x ∧ s.expired x = true :=
  ⟨(withObjs' [(Obj.FABRIC_LANE_FL_ENABLE 7, 1), (Obj.FABRIC_CTRL_FABRIC_ENABLE, 1)] running).withFab { ctxs := [{ src := 9, cls := 1, tag := 5, port := 3, opened := 0 }] } |>.withTime { now := 90000000000 }, 9, 1, 5, { src := 9, cls := 1, tag := 5, port := 3, opened := 0 }, by decide +kernel⟩

theorem witness_CellsAreTakenOrLost_5 : ∃ (s : State) (a : Fin 256) (c : Fin 8) (b : Nat), s.CoreOn ∧ s.headLossAt (8 * a.val + c.val) =
    some b ∧ b < s.time.now ∧ s.ctxOf (8 * a.val + c.val) (s.stream (8 * a.val + c.val)).next = none :=
  ⟨(withObjs' [(Obj.FABRIC_LANE_FL_ENABLE 7, 1), (Obj.FABRIC_CTRL_FABRIC_ENABLE, 1)] running).setStream 73 { seen := true, next := 4, high := [(6, 0)] } |>.withTime { now := 90000000000 }, 9, 1, (((withObjs' [(Obj.FABRIC_LANE_FL_ENABLE 7, 1), (Obj.FABRIC_CTRL_FABRIC_ENABLE, 1)] running).setStream 73 { seen := true, next := 4, high := [(6, 0)] }).headLossAt 73).getD 0, by decide +kernel⟩

theorem witness_CellsAreTakenOrLost_6 : ∃ (s : State) (a : Fin 256) (c : Fin 8) (b : Nat), s.CoreOn ∧ s.headLossAt (8 * a.val + c.val) =
    some b ∧ b = s.time.now :=
  ⟨(withObjs' [(Obj.FABRIC_LANE_FL_ENABLE 7, 1), (Obj.FABRIC_CTRL_FABRIC_ENABLE, 1)] running).setStream 73 { seen := true, next := 4, high := [(6, 0)] } |>.withTime { now := (((withObjs' [(Obj.FABRIC_LANE_FL_ENABLE 7, 1), (Obj.FABRIC_CTRL_FABRIC_ENABLE, 1)] running).setStream 73 { seen := true, next := 4, high := [(6, 0)] }).headLossAt 73).getD 0 }, 9, 1, (((withObjs' [(Obj.FABRIC_LANE_FL_ENABLE 7, 1), (Obj.FABRIC_CTRL_FABRIC_ENABLE, 1)] running).setStream 73 { seen := true, next := 4, high := [(6, 0)] }).headLossAt 73).getD 0, by decide +kernel⟩

theorem witness_CellsAreTakenOrLost_7 : ∃ (s : State) (f : Fin 4096) (x : FlowRx), s.CoreOn ∧ s.flowRx f = some x ∧ x.at' + s.get
    Obj.REASSEMBLY_REASM_TIMEOUT_NS ≤ s.time.now :=
  ⟨(withObjs' [(Obj.FABRIC_LANE_FL_ENABLE 7, 1), (Obj.FABRIC_CTRL_FABRIC_ENABLE, 1)] running).setFlowRx 5 (some { id := 3, next := 1, bytes := 9, len := 0, at' := 0, lane := 7 }) |>.withTime { now := 90000000000 }, 5, { id := 3, next := 1, bytes := 9, len := 0, at' := 0, lane := 7 }, by decide +kernel⟩

theorem witness_LinkFramesAreSentAndReceived_1 : ∃ (s : State) (n : FabricLane) (w : State) (x : List (List Byte) × State) (f : List
    Byte), s.CoreOn ∧ s.on (Obj.FABRIC_LANE_FL_ENABLE n) = true ∧ s.tsBlocked (n / 20) = false ∧ (w = ((s.schedLane n).elim s fun k =>
    if (s.duePages k).fab.switching.contains k = true ∧ (s.fl n).txNum = 0 then (s.duePages k).flipPage k n else s.duePages k).spray) ∧
    x = State.frameCells n (w.txEntries n) 0 w ∧ (f = scrambleFrame ((bytesBE 32 (([(Fld.CRUST_FAW, FAW), (Fld.CRUST_FRAME_NUM, (s.fl
    n).txNum), (Fld.CRUST_TRACE, bits (x.2.setting (Obj.FABRIC_LANE_TRACE_TX n)) (8 * (s.fl n).txNum) 8), (Fld.CRUST_AIS, x.2.setting
    (Obj.FABRIC_LANE_FORCE_AIS n)), (Fld.CRUST_RDI, ofBool ((x.2.fl n).rdiSent x.2.time.now)), (Fld.CRUST_PAGE, ((s.schedLane n).map fun
    k => x.2.get (Obj.SCHED_LANE_TX_PAGE k)).getD 0), (Fld.CRUST_SCHED, ofBool (s.schedLane n).isSome), (Fld.CRUST_BIP8, (x.2.fl
    n).txBip)] : List (Field × Nat)).foldl (fun m y => y.1.set m y.2) 0)) ++ x.1.flatten)) :=
  ⟨(withObjs' [(Obj.FABRIC_LANE_FL_ENABLE 7, 1), (Obj.FABRIC_CTRL_FABRIC_ENABLE, 1)] running), 7, _, _, _, by decide +kernel, by decide +kernel, by decide +kernel, rfl, rfl, rfl⟩

theorem witness_LinkFramesAreSentAndReceived_2 : ∃ (s : State) (n : FabricLane) (f : List Byte) (a : Nat) (b : FecErrors) (c : Nat) (p m
    u : State) (x : Bool × State), s.CoreOn ∧ s.on (Obj.FABRIC_LANE_FL_ENABLE n) = true ∧ s.tsBlocked (n / 20) = false ∧ s.get
    (Obj.FABRIC_LANE_FRAME_STATE n) = 2 ∧ f.length = 4128 ∧ c = wordAt (scrambleFrame f) 0 32 ∧ Fld.CRUST_FAW.get c = FAW ∧
    Fld.CRUST_FRAME_NUM.get c = (s.fl n).rxNum ∧ p = ((s.pmTurn n).setFl n { (s.pmTurn n).fl n with pm := { ((s.pmTurn n).fl n).pm with symbols := ((s.pmTurn n).fl n).pm.symbols + a, uncorr := ((s.pmTurn n).fl n).pm.uncorr + b.overlap - ofBool b.carried } }).checkBip
    n (Fld.CRUST_BIP8.get c) (xorAll f) (Nat.blt 0 b.overlap) ∧ x = (p.setFl n { p.fl n with bad := 0 }).checkTrace n
    (Fld.CRUST_TRACE.get c) false ∧ x.2.masked n = false ∧ m = x.2.checkIndications n (Nat.beq (Fld.CRUST_AIS.get c) 1) (Nat.beq
    (Fld.CRUST_RDI.get c) 1) ∧ m.masked n = false ∧ (u = forEach (List.range 16) ((m.judgeTim n x.1).checkPage n (Fld.CRUST_PAGE.get c)
    false) (fun v k => if v.replaces n then v.aisCell n (s.fl n).rxNum k else v.cell n (s.fl n).rxNum k (((scrambleFrame f).drop (32 +
    256 * k)).take 256))) ∧ (u.fl n).bad < 4 :=
  ⟨((withObjs' [(Obj.FABRIC_LANE_FL_ENABLE 7, 1), (Obj.FABRIC_CTRL_FABRIC_ENABLE, 1), (Obj.FABRIC_LANE_FRAME_STATE 7, 2), (Obj.FABRIC_LANE_DEFECTS 7, 4)] running).setFl 7 { rxNum := 4 }), 7, (scrambleFrame (bytesBE 32 (Fld.CRUST_FRAME_NUM.set (Fld.CRUST_FAW.set 0 FAW) 4) ++ List.replicate 4096 (0#8))), 0, ⟨0, false⟩, _, _, _, _, _, by decide +kernel, by decide +kernel, by decide +kernel, by decide +kernel, by decide +kernel, rfl, by decide +kernel, by decide +kernel, rfl, rfl, by decide +kernel, rfl, by decide +kernel, rfl, by decide +kernel⟩

theorem witness_LinkFramesAreSentAndReceived_3 : ∃ (s : State) (n : FabricLane) (f : List Byte) (a : Nat) (b : FecErrors), s.CoreOn ∧
    s.on (Obj.FABRIC_LANE_FL_ENABLE n) = true ∧ s.tsBlocked (n / 20) = false ∧ s.get (Obj.FABRIC_LANE_FRAME_STATE n) ≠ 2 :=
  ⟨(withObjs' [(Obj.FABRIC_LANE_FL_ENABLE 7, 1), (Obj.FABRIC_CTRL_FABRIC_ENABLE, 1)] running), 7, [], 3, ⟨2, true⟩, by decide +kernel⟩

theorem witness_LinkFramesAreSentAndReceived_4 : ∃ (s : State) (n : FabricLane) (f : List Byte) (a : Nat) (b : FecErrors) (p : State),
    s.CoreOn ∧ s.on (Obj.FABRIC_LANE_FL_ENABLE n) = true ∧ s.tsBlocked (n / 20) = false ∧ s.get (Obj.FABRIC_LANE_FRAME_STATE n) = 2 ∧
    f.length < 4128 ∧ p = (s.pmTurn n).setFl n { (s.pmTurn n).fl n with pm := { ((s.pmTurn n).fl n).pm with symbols := ((s.pmTurn n).fl n).pm.symbols + a, uncorr := ((s.pmTurn n).fl n).pm.uncorr + b.overlap - ofBool b.carried } }
    :=
  ⟨((withObjs' [(Obj.FABRIC_LANE_FL_ENABLE 7, 1), (Obj.FABRIC_CTRL_FABRIC_ENABLE, 1), (Obj.FABRIC_LANE_FRAME_STATE 7, 2), (Obj.FABRIC_LANE_DEFECTS 7, 4)] running).setFl 7 { rxNum := 4 }), 7, (((scrambleFrame (bytesBE 32 (Fld.CRUST_FRAME_NUM.set (Fld.CRUST_FAW.set 0 FAW) 4) ++ List.replicate 4096 (0#8)))).take 800), 0, ⟨0, false⟩, _, by decide +kernel, by decide +kernel, by decide +kernel, by decide +kernel, by decide +kernel, rfl⟩

theorem witness_LinkFramesAreSentAndReceived_5 : ∃ (s : State) (n : FabricLane) (p : Nat) (k : Fin 64) (c : FawCandidate), s.CoreOn ∧
    s.on (Obj.FABRIC_LANE_FL_ENABLE n) = true ∧ ((s.fl n).dark = false ∨ (s.fl n).darkAt ≠ s.time.now) ∧ s.get
    (Obj.FABRIC_LANE_FRAME_STATE n) ≠ 2 ∧ ((((s.fl n).cands.filter fun c => Nat.ble p (c.x + 33024)).find? fun c => Nat.beq (c.x +
    33024) p) = some c) ∧ (s.fl n).syncDue = none ∧ k.val = (c.fn + 1) % 64 ∧ c.n = 2 :=
  ⟨(withObjs' [(Obj.FABRIC_LANE_FL_ENABLE 7, 1), (Obj.FABRIC_CTRL_FABRIC_ENABLE, 1)] running).setFl 7 { cands := [⟨100, 2, 6, 0⟩] }, 7, 33124, 7, ⟨100, 2, 6, 0⟩, by decide +kernel⟩

theorem witness_LinkFramesAreSentAndReceived_6 : ∃ (s : State) (n : FabricLane) (p : Nat) (k : Fin 64), s.CoreOn ∧ s.on
    (Obj.FABRIC_LANE_FL_ENABLE n) = true ∧ ((s.fl n).dark = false ∨ (s.fl n).darkAt ≠ s.time.now) ∧ s.get (Obj.FABRIC_LANE_FRAME_STATE
    n) ≠ 2 ∧ (s.fl n).cands = [] ∧ (s.fl n).syncDue = none :=
  ⟨(withObjs' [(Obj.FABRIC_LANE_FL_ENABLE 7, 1), (Obj.FABRIC_CTRL_FABRIC_ENABLE, 1)] running), 7, 33124, 7, by decide +kernel⟩

theorem witness_LinkFramesAreSentAndReceived_7 : ∃ (s : State) (n : FabricLane), s.CoreOn ∧ s.on (Obj.FABRIC_LANE_FL_ENABLE n) = true ∧
    s.get (Obj.FABRIC_LANE_FRAME_STATE n) ≠ 2 :=
  ⟨(withObjs' [(Obj.FABRIC_LANE_FL_ENABLE 7, 1), (Obj.FABRIC_CTRL_FABRIC_ENABLE, 1)] running).setFl 7 { rxSlot := 3 }, 7, by decide +kernel⟩

theorem witness_LinkFramesAreSentAndReceived_8 : ∃ (s : State) (n : FabricLane), s.CoreOn ∧ s.on (Obj.FABRIC_LANE_FL_ENABLE n) = true :=
  ⟨(withObjs' [(Obj.FABRIC_LANE_FL_ENABLE 7, 1), (Obj.FABRIC_CTRL_FABRIC_ENABLE, 1)] running), 7, by decide +kernel⟩

theorem witness_LinkFramesAreSentAndReceived_9 : ∃ (s : State) (n : FabricLane), s.CoreOn ∧ s.on (Obj.FABRIC_LANE_FL_ENABLE n) = true ∧
    (s.fl n).dark = true ∧ (s.fl n).darkAt + 100000 ≤ s.time.now ∧ s.get (Obj.FABRIC_LANE_FRAME_STATE n) ≠ 2 :=
  ⟨(withObjs' [(Obj.FABRIC_LANE_FL_ENABLE 7, 1), (Obj.FABRIC_CTRL_FABRIC_ENABLE, 1)] running).setFl 7 { dark := true } |>.withTime { now := 100000 }, 7, by decide +kernel⟩

theorem witness_LinkFramesAreSentAndReceived_10 : ∃ (s : State) (n : FabricLane), s.CoreOn ∧ s.on (Obj.FABRIC_LANE_FL_ENABLE n) = true ∧
    (s.fl n).dark = true ∧ (s.fl n).darkAt + 100000 ≤ s.time.now ∧ s.get (Obj.FABRIC_LANE_FRAME_STATE n) = 2 :=
  ⟨(withObjs' [(Obj.FABRIC_LANE_FL_ENABLE 7, 1), (Obj.FABRIC_CTRL_FABRIC_ENABLE, 1), (Obj.FABRIC_LANE_FRAME_STATE 7, 2)] running).setFl 7 { dark := true } |>.withTime { now := 100000 }, 7, by decide +kernel⟩

theorem witness_LinkFramesAreSentAndReceived_11 : ∃ (s : State) (k : Fin 16) (m v : Nat), s.Accepts m (Obj.SCHED_LANE_SL_ENABLE k) v ∧ v
    = 1 ∧ s.on (Obj.FABRIC_LANE_FL_ENABLE (s.get (Obj.SCHED_LANE_SL_LANE k))) = true ∧ (((List.range 16).any fun j => !Nat.beq j k &&
    s.on (Obj.SCHED_LANE_SL_ENABLE j) && Nat.beq (s.get (Obj.SCHED_LANE_SL_LANE j)) (s.get (Obj.SCHED_LANE_SL_LANE k))) = false) :=
  ⟨(withObjs' [(Obj.FABRIC_LANE_FL_ENABLE 7, 1), (Obj.FABRIC_CTRL_FABRIC_ENABLE, 1), (Obj.SCHED_LANE_SL_LANE 3, 7)] running), 3, 1, 1, by decide +kernel⟩

theorem witness_HbmReadsAndWritesSectors_1 : ∃ (s : State) (x : HbmSpace) (y : Nat) (r : HbmRequester) (e : SectorEcc), s.CoreOn ∧
    hbmAllowed r (hbmRegion (targetPlace x y).1 (targetPlace x y).2) = true ∧ s.chanFailed (targetPlace x y).1 (s.hbmPlace (targetPlace
    x y).1 (targetPlace x y).2).channel = false :=
  ⟨running, (.stack 1), 77, .bufRead 3, ⟨3, 4⟩, by decide +kernel⟩

theorem witness_HbmReadsAndWritesSectors_2 : ∃ (s : State) (x : HbmSpace) (y : Nat) (r : HbmRequester) (k : Nat) (d : List Byte),
    s.CoreOn ∧ hbmAllowed r (hbmRegion (targetPlace x y).1 (targetPlace x y).2) = true ∧ s.chanFailed (targetPlace x y).1 (s.hbmPlace
    (targetPlace x y).1 (targetPlace x y).2).channel = false :=
  ⟨running, (.stack 1), 77, .bufWrite, 2 ^ 64 - 1, List.replicate 64 (7#8), by decide +kernel⟩

theorem witness_HbmReadsAndWritesSectors_3 : ∃ (s : State) (x : HbmSpace) (y : Nat) (r : HbmRequester) (e : SectorEcc), s.CoreOn ∧
    (hbmAllowed r (hbmRegion (targetPlace x y).1 (targetPlace x y).2) = false ∨ s.chanFailed (targetPlace x y).1 (s.hbmPlace
    (targetPlace x y).1 (targetPlace x y).2).channel = true) :=
  ⟨running, (.stack 1), 77, .count 0, {}, by decide +kernel⟩

theorem witness_HbmReadsAndWritesSectors_4 : ∃ (s : State) (x : HbmSpace) (y : Nat) (r : HbmRequester) (k : Nat) (d : List Byte),
    s.CoreOn ∧ (hbmAllowed r (hbmRegion (targetPlace x y).1 (targetPlace x y).2) = false ∨ s.chanFailed (targetPlace x y).1 (s.hbmPlace
    (targetPlace x y).1 (targetPlace x y).2).channel = true) :=
  ⟨running, (.stack 1), 77, .count 0, 1, [], by decide +kernel⟩

theorem witness_HbmReadsAndWritesSectors_5 : ∃ (s : State) (c : Nat) (q : HbmRequest) (k : Nat) (d : List Byte), s.hbmPick c = some q ∧
    q.write = some (k, d) :=
  ⟨running.setChan 37 { input := [{ sector := 77, requester := .bufWrite, hint := 0, at' := 0, write := some (3, [9#8]) }] }, 37, { sector := 77, requester := .bufWrite, hint := 0, at' := 0, write := some (3, [9#8]) }, 3, [9#8], by decide +kernel⟩

theorem witness_HbmReadsAndWritesSectors_6 : ∃ (s : State) (a i k : Nat) (d : List Byte), a < 3 ∧ Table.wf zeroN s.hbm.cells = true ∧
    d.length = 64 ∧ i < 268435456 ∧ k < 268435456 :=
  ⟨running, 1, 77, 77, List.replicate 64 (7#8), by decide +kernel⟩

theorem witness_HbmReadsAndWritesSectors_7 : ∃ (s : State) (stack : Fin 4) (c : Fin 32), s.CoreOn :=
  ⟨running, 1, 3, by decide +kernel⟩

theorem witness_HbmIsKeptUp_1 : ∃ (s : State) (stack : Fin 4) (c : Fin 32) (b : Fin 16) (r : OpenRow), s.CoreOn ∧ (Table.get (fun _ =>
    none) s.hbm.rows ((stack.val * 32 + c.val) * 16 + b.val) = some r) ∧ r.since + 2000 ≤ s.time.now :=
  ⟨(running.setRow ((1 * 32 + 3) * 16 + 5) (some ⟨9, 0⟩)).withTime { now := 2000 }, 1, 3, 5, ⟨9, 0⟩, by decide +kernel⟩

theorem witness_HbmIsKeptUp_2 : ∃ (s : State) (stack : Fin 4) (c : Fin 32), s.CoreOn ∧ (s.chan (stack.val * 32 + c.val)).pause = none ∧
    (s.chan (stack.val * 32 + c.val)).refreshing ≤ s.time.now ∧ s.resting stack = false ∧ 0 < s.refreshOwed (stack.val * 32 + c.val)
    (s.chan (stack.val * 32 + c.val)).bank :=
  ⟨running.withTime { now := 9000 }, 1, 3, by decide +kernel⟩

theorem witness_HbmIsKeptUp_3 : ∃ (s : State) (stack : Fin 4) (c : Fin 32), s.CoreOn ∧ s.refreshOwed (stack.val * 32 + c.val) (s.chan
    (stack.val * 32 + c.val)).bank = 0 :=
  ⟨running.withTime { now := 9 }, 1, 3, by decide +kernel⟩

theorem witness_HbmIsKeptUp_4 : ∃ (s : State) (stack : Fin 4) (c : Fin 32), s.CoreOn ∧ (s.chan (stack.val * 32 + c.val)).steps = 0 ∧
    s.chanFailed stack c = false ∧ ((s.chan (stack.val * 32 + c.val)).trained + s.get Obj.HBM_CTRL_RETRAIN_MS * ms ≤ s.time.now ∨ (s.get
    Obj.HBM_CTRL_RETRAIN_TEMP_C : Int) < ((s.stackTemp stack - (s.chan (stack.val * 32 + c.val)).temp).natAbs : Int)) :=
  ⟨running.withTime { now := 900000000000000 }, 1, 3, by decide +kernel⟩

theorem witness_HbmIsKeptUp_5 : ∃ (s : State) (stack : Fin 4) (c : Fin 32) (g : Bool), s.CoreOn ∧ 1 < (s.chan (stack.val * 32 +
    c.val)).steps ∧ ((Table.get (fun _ => none) s.hbm.stepAt stack).all (fun b => Nat.ble (b + 2000) s.time.now) = true) ∧ (s.chan
    (stack.val * 32 + c.val)).refreshing ≤ s.time.now ∧ (s.chan (stack.val * 32 + c.val)).pause = none ∧ s.resting stack = false :=
  ⟨running.setChan (1 * 32 + 3) { steps := 8 }, 1, 3, true, by decide +kernel⟩

theorem witness_HbmIsKeptUp_6 : ∃ (s : State) (stack : Fin 4) (c : Fin 32), s.CoreOn ∧ 1 < (s.chan (stack.val * 32 + c.val)).steps ∧
    ((Table.get (fun _ => none) s.hbm.stepAt stack).all (fun b => Nat.ble (b + 2000) s.time.now) = true) ∧ (s.chan (stack.val * 32 +
    c.val)).refreshing ≤ s.time.now ∧ (s.chan (stack.val * 32 + c.val)).pause = none ∧ s.resting stack = false :=
  ⟨running.setChan (1 * 32 + 3) { steps := 8 }, 1, 3, by decide +kernel⟩

theorem witness_HbmIsKeptUp_7 : ∃ (s : State) (stack : Fin 4) (c : Fin 32), s.CoreOn ∧ 0 < (s.chan (stack.val * 32 + c.val)).steps ∧
    ((Table.get (fun _ => none) s.hbm.stepAt stack).all (fun b => Nat.ble (b + 2000) s.time.now) = true) ∧ (s.chan (stack.val * 32 +
    c.val)).refreshing ≤ s.time.now ∧ (s.chan (stack.val * 32 + c.val)).pause = none ∧ s.resting stack = false :=
  ⟨running.setChan (1 * 32 + 3) { steps := 8 }, 1, 3, by decide +kernel⟩

theorem witness_HbmIsKeptUp_8 : ∃ (s : State) (stack : Fin 4) (e : SectorEcc), s.CoreOn ∧ s.scrubAfter stack ≤ s.time.now :=
  ⟨running.withTime { now := 9000000000 }, 1, ⟨3, 4⟩, by decide +kernel⟩

theorem witness_HbmIsKeptUp_9 : ∃ (s : State) (h : Bool) (m v : Nat), s.Canonical ∧ (s.Accepts m (if h then Obj.HBM_REGION_HASH 0 else
    Obj.HBM_REGION_ORDER 0) v) ∧ s.on Obj.BUFFER_CTRL_BUF_ENABLE = false ∧ s.sec.fusing = none :=
  ⟨running, false, 1, 1, by decide +kernel⟩

theorem witness_HbmIsKeptUp_10 : ∃ (s : State) (h : Bool) (m v : Nat), s.Canonical ∧ (s.Accepts m (if h then Obj.HBM_REGION_HASH 0 else
    Obj.HBM_REGION_ORDER 0) v) ∧ s.on Obj.BUFFER_CTRL_BUF_ENABLE = true ∧ s.sec.fusing = none :=
  ⟨withObjs' [(Obj.BUFFER_CTRL_BUF_ENABLE, 1)] running, false, 1, 1, by decide +kernel⟩

theorem witness_HbmIsKeptUp_11 : ∃ (s : State) (h : Bool) (m v e : Nat), s.Canonical ∧ (s.Accepts m (if h then Obj.HBM_REGION_HASH 2
    else Obj.HBM_REGION_ORDER 2) v) ∧ (s.slowRuns m (if h then Obj.HBM_REGION_HASH 2 else Obj.HBM_REGION_ORDER 2) = false) :=
  ⟨withDoms' [(Dom.HBM_HOST_AREA, 5, 9)] running, true, 1, 1, 5, by decide +kernel⟩

theorem witness_WindowAccessesTheDictionary_1 : ∃ (s : State) (m o n v : Nat), s.Canonical ∧ hasWindow m = true ∧ s.unreached m = false
    ∧ o < 2 ^ 28 ∧ winShape o n = false ∧ s.sec.fusing = none :=
  ⟨running, 1, 0x2000160, 3, 0, by decide +kernel⟩

theorem witness_WindowAccessesTheDictionary_2 : ∃ (s : State) (m o n v : Nat) (st : Status) (u : State), hasWindow m = true ∧
    s.unreached m = false ∧ o < 2 ^ 28 ∧ winShape o n = true ∧ (winIndex m o).2 = true ∧ s.waits .window m false = false ∧ slotWrite
    (winIndex m o).1 (o / 16 % 0x100) (o % 16) n (v % 2 ^ (8 * n)) = .ok ∧ s.dictWrite .window .window m (winIndex m o).1 (o / 16 %
    0x100) (v % 2 ^ (8 * n)) = (some st, u) :=
  ⟨running, 1, 0x2000010, 4, 0, ((running.dictWrite .window .window 1 (winIndex 1 0x2000010).1 (0x2000010 / 16 % 0x100) 0).1.getD .busy), (running.dictWrite .window .window 1 (winIndex 1 0x2000010).1 (0x2000010 / 16 % 0x100) 0).2, by decide +kernel⟩

theorem witness_WindowAccessesTheDictionary_3 : ∃ (s : State) (m o n v : Nat) (u : State), hasWindow m = true ∧ s.unreached m = false ∧
    o < 2 ^ 28 ∧ winShape o n = true ∧ (winIndex m o).2 = true ∧ s.waits .window m true = false ∧ s.partialRc m (winIndex m o).1 (o / 16
    % 0x100) (o % 16) n = false ∧ (decide (o % 16 = 0) && s.readsLock .window m (winIndex m o).1 (o / 16 % 0x100)) = false ∧ s.dictRead
    .window m (winIndex m o).1 (o / 16 % 0x100) = (.ok, v, u) :=
  ⟨running, 1, 0x2000010, 4, (running.dictRead .window 1 (winIndex 1 0x2000010).1 (0x2000010 / 16 % 0x100)).2.1, (running.dictRead .window 1 (winIndex 1 0x2000010).1 (0x2000010 / 16 % 0x100)).2.2, by decide +kernel⟩

theorem witness_WindowAccessesTheDictionary_4 : ∃ (s : State) (m o n v : Nat) (st : Status) (u : State), hasWindow m = true ∧
    s.unreached m = false ∧ o < 2 ^ 28 ∧ winShape o n = true ∧ (winIndex m o).2 = true ∧ s.waits .window m true = false ∧ s.partialRc m
    (winIndex m o).1 (o / 16 % 0x100) (o % 16) n = false ∧ (decide (o % 16 = 0) && s.readsLock .window m (winIndex m o).1 (o / 16 %
    0x100)) = false ∧ s.dictRead .window m (winIndex m o).1 (o / 16 % 0x100) = (st, v, u) ∧ st ≠ .ok :=
  ⟨running, 1, 0x0FFF010, 4, 0, .notFound, running, by decide +kernel⟩

theorem witness_WindowAccessesTheDictionary_5 : ∃ (s : State) (m o n : Nat), s.Canonical ∧ hasWindow m = true ∧ s.unreached m = false ∧
    o < 2 ^ 28 ∧ winShape o n = true ∧ (winIndex m o).2 = true ∧ s.waits .window m true = false ∧ s.partialRc m (winIndex m o).1 (o / 16
    % 0x100) (o % 16) n = true :=
  ⟨running, 1, 0x1201040, 1, by decide +kernel⟩

theorem witness_WindowAccessesTheDictionary_6 : ∃ (s : State) (m o n v : Nat), hasWindow m = true ∧ s.unreached m = false ∧ o < 2 ^ 28 ∧
    winShape o n = true ∧ (winIndex m o).2 = true ∧ s.waits .window m false = true :=
  ⟨running.withDict { held := [⟨1, 0x2000, 1, 0, 4, none⟩] }, 1, 0x2000010, 4, 0, by decide +kernel⟩

theorem witness_WindowAccessesTheDictionary_7 : ∃ (s : State) (m o n : Nat), hasWindow m = true ∧ s.unreached m = false ∧ o < 2 ^ 28 ∧
    winShape o n = true ∧ (winIndex m o).2 = true ∧ s.waits .window m true = true :=
  ⟨running.withDict { held := [⟨1, 0x2000, 1, 0, 4, none⟩] }, 1, 0x2000010, 4, by decide +kernel⟩

theorem witness_WindowAccessesTheDictionary_8 : ∃ (s : State) (m o n : Nat), hasWindow m = true ∧ s.unreached m = false ∧ o < 2 ^ 28 ∧
    winShape o n = true ∧ (winIndex m o).2 = true ∧ s.waits .window m true = false ∧ s.partialRc m (winIndex m o).1 (o / 16 % 0x100) (o
    % 16) n = false ∧ o % 16 = 0 ∧ s.readsLock .window m (winIndex m o).1 (o / 16 % 0x100) = true :=
  ⟨withObjs' [(Obj.MB_BINDING_BIND_MB 3, Fld.BND_VALID.set (Fld.BND_SHARED.set (Fld.BND_SENDER.set (Fld.BND_RECEIVER.set 0 40) 1) 1) 1)] running, 1, 0x1163080, 4, by decide +kernel⟩

theorem witness_WindowAccessesTheDictionary_9 : ∃ (s : State) (m o n v f b x : Nat), hasWindow m = true ∧ s.unreached m = false ∧ 2 ^ 28
    ≤ o ∧ otherBar m o n = some (f, b, x) ∧ s.CoreOn :=
  ⟨running, 1, 2 ^ 28 + 8, 4, 7, 0, 2, 8, by decide +kernel⟩

theorem witness_WindowAccessesTheDictionary_10 : ∃ (s : State) (m o n f b x : Nat), hasWindow m = true ∧ s.unreached m = false ∧ 2 ^ 28
    ≤ o ∧ otherBar m o n = some (f, b, x) ∧ s.CoreOn :=
  ⟨running, 1, 2 ^ 29 + 8, 4, 0, 4, 8, by decide +kernel⟩

theorem witness_LockStoreAndSlowWrites_1 : ∃ (s : State) (m v : Nat), s.Canonical ∧ s.Accepts m Obj.LOCK_DICT_LOCK v ∧ v = 1 ∧ s.on
    Obj.LOCK_DICT_LOCK = false ∧ s.sec.fusing = none :=
  ⟨running, 1, 1, by decide +kernel⟩

theorem witness_LockStoreAndSlowWrites_2 : ∃ (s : State) (m v : Nat), s.Canonical ∧ s.Accepts m Obj.LOCK_DICT_LOCK v ∧ v = 0 ∧ s.on
    Obj.LOCK_DICT_LOCK = true ∧ s.sec.fusing = none :=
  ⟨withObjs' [(Obj.LOCK_DICT_LOCK, 1)] running, 1, 0, by decide +kernel⟩

theorem witness_LockStoreAndSlowWrites_3 : ∃ (s : State) (m : Nat) (w : SlowWrite), s.Canonical ∧ s.hbm.waiting = [] ∧ s.dict.slow = [w]
    ∧ w.master = m ∧ w.via = .window ∧ w.key ≠ Obj.PANTRY_STORE ∧ w.key ≠ Obj.PANTRY_CLEAR ∧ w.key ≠ Obj.FW_UPDATE_UPD_CTRL :=
  ⟨(withObjs' [(Obj.ACCESS_STATUS_PENDING 1, 2 ^ 31 + Obj.TM_CTRL_FLUSH_QUEUE)] running).withDict { slow := [⟨1, Obj.TM_CTRL_FLUSH_QUEUE, .window⟩] }, 1, ⟨1, Obj.TM_CTRL_FLUSH_QUEUE, .window⟩, by decide +kernel⟩

theorem witness_LockStoreAndSlowWrites_4 : ∃ (s : State) (m : Nat) (w : SlowWrite), s.dict.slow = [w] ∧ w.master = m ∧ w.via ≠ .window ∧
    w.key ≠ Obj.PANTRY_STORE ∧ w.key ≠ Obj.PANTRY_CLEAR ∧ w.key ≠ Obj.FW_UPDATE_UPD_CTRL :=
  ⟨running.withDict { slow := [⟨34, Obj.TM_CTRL_FLUSH_QUEUE, .direct⟩] }, 34, ⟨34, Obj.TM_CTRL_FLUSH_QUEUE, .direct⟩, by decide +kernel⟩

theorem witness_LockStoreAndSlowWrites_5 : ∃ (s : State) (m v : Nat), s.Accepts m Obj.PANTRY_STORE v ∧ pathOf m = .window ∧ s.slowRuns m
    Obj.PANTRY_STORE = false ∧ v = 1 ∧ (s.startPantry s.snapshotRecords none).1 = .ok :=
  ⟨running, 1, 1, by decide +kernel⟩

theorem witness_LockStoreAndSlowWrites_6 : ∃ (s : State) (m v : Nat), s.Accepts m Obj.PANTRY_CLEAR v ∧ pathOf m = .window ∧ s.slowRuns m
    Obj.PANTRY_CLEAR = false ∧ v = 1 ∧ (s.startPantry [] none).1 = .ok :=
  ⟨running, 1, 1, by decide +kernel⟩

theorem witness_LockStoreAndSlowWrites_7 : ∃ (s : State) (j : PantryJob) (d : List (Nat × Byte)), s.boot.pantry = some j ∧
    s.boot.restart = false ∧ j.channel = none :=
  ⟨running.withBoot { running.boot with pantry := some ⟨true, ⟨1, 2, 3, 4, []⟩, none⟩ }, ⟨true, ⟨1, 2, 3, 4, []⟩, none⟩, [(1, 0xFF#8)], by decide +kernel⟩

theorem witness_LockStoreAndSlowWrites_8 : ∃ (s : State) (j : PantryJob) (d : List (Nat × Byte)), s.boot.pantry = some j ∧
    s.boot.restart = false ∧ j.channel = none :=
  ⟨running.withBoot { running.boot with pantry := some ⟨true, ⟨1, 2, 3, 4, []⟩, none⟩ }, ⟨true, ⟨1, 2, 3, 4, []⟩, none⟩, [], by decide +kernel⟩

theorem witness_DictionaryJobsRun_1 : ∃ (s : State) (q : Fin 1024) (i : Nat) (j : Job) (dma : Dma) (v : Nat) (u : State), s.CoreOn ∧
    s.startable q i 0x1 = some j ∧ s.lockJob q i = none ∧ zeroBytes j.bytes [(20, 4), (32, 32)] = true ∧ byteAt j.bytes 19 = (objTy
    (wordAt j.bytes 16 2) (byteAt j.bytes 18)).bytes ∧ (objTy (wordAt j.bytes 16 2) (byteAt j.bytes 18)).bytes ≤ 8 ∧ s.dictRead .job
    (s.jobMaster q) (wordAt j.bytes 16 2) (byteAt j.bytes 18) = (.ok, v, u) :=
  ⟨((withObjs' [(Obj.SQ_CONFIG_SQ_ENABLE 5, 1), (Obj.SQ_CONFIG_SQ_SIZE 5, 6), (Obj.SQ_CONFIG_SQ_CQ 5, 9), (Obj.SQ_CONFIG_SQ_STATE 5, 1), (Obj.CQ_CONFIG_CQ_ENABLE 9, 1), (Obj.CQ_CONFIG_CQ_SIZE 9, 6), (Obj.CQ_CONFIG_CQ_STATE 9, 1)] running).withHost { jobs := [({ sq := 5, index := 2, bytes := (([0, 1, 0, 0, 0, 0, 0, 0, 0, 0, 0, 0, 0, 0, 0, 0, 18, 1, 4, 4, 0, 0, 0, 0, 0, 0, 0, 0, 0, 0, 0, 0, 0, 0, 0, 0, 0, 0, 0, 0, 0, 0, 0, 0, 0, 0, 0, 0, 0, 0, 0, 0, 0, 0, 0, 0, 0, 0, 0, 0, 0, 0, 0, 0] : List Nat).map toByte) } : Job)] }), 5, 2, ({ sq := 5, index := 2, bytes := (([0, 1, 0, 0, 0, 0, 0, 0, 0, 0, 0, 0, 0, 0, 0, 0, 18, 1, 4, 4, 0, 0, 0, 0, 0, 0, 0, 0, 0, 0, 0, 0, 0, 0, 0, 0, 0, 0, 0, 0, 0, 0, 0, 0, 0, 0, 0, 0, 0, 0, 0, 0, 0, 0, 0, 0, 0, 0, 0, 0, 0, 0, 0, 0] : List Nat).map toByte) } : Job), ⟨none, true, true⟩, ((((withObjs' [(Obj.SQ_CONFIG_SQ_ENABLE 5, 1), (Obj.SQ_CONFIG_SQ_SIZE 5, 6), (Obj.SQ_CONFIG_SQ_CQ 5, 9), (Obj.SQ_CONFIG_SQ_STATE 5, 1), (Obj.CQ_CONFIG_CQ_ENABLE 9, 1), (Obj.CQ_CONFIG_CQ_SIZE 9, 6), (Obj.CQ_CONFIG_CQ_STATE 9, 1)] running).withHost { jobs := [({ sq := 5, index := 2, bytes := (([0, 1, 0, 0, 0, 0, 0, 0, 0, 0, 0, 0, 0, 0, 0, 0, 18, 1, 4, 4, 0, 0, 0, 0, 0, 0, 0, 0, 0, 0, 0, 0, 0, 0, 0, 0, 0, 0, 0, 0, 0, 0, 0, 0, 0, 0, 0, 0, 0, 0, 0, 0, 0, 0, 0, 0, 0, 0, 0, 0, 0, 0, 0, 0] : List Nat).map toByte) } : Job)] })).dictRead .job ((((withObjs' [(Obj.SQ_CONFIG_SQ_ENABLE 5, 1), (Obj.SQ_CONFIG_SQ_SIZE 5, 6), (Obj.SQ_CONFIG_SQ_CQ 5, 9), (Obj.SQ_CONFIG_SQ_STATE 5, 1), (Obj.CQ_CONFIG_CQ_ENABLE 9, 1), (Obj.CQ_CONFIG_CQ_SIZE 9, 6), (Obj.CQ_CONFIG_CQ_STATE 9, 1)] running).withHost { jobs := [({ sq := 5, index := 2, bytes := (([0, 1, 0, 0, 0, 0, 0, 0, 0, 0, 0, 0, 0, 0, 0, 0, 18, 1, 4, 4, 0, 0, 0, 0, 0, 0, 0, 0, 0, 0, 0, 0, 0, 0, 0, 0, 0, 0, 0, 0, 0, 0, 0, 0, 0, 0, 0, 0, 0, 0, 0, 0, 0, 0, 0, 0, 0, 0, 0, 0, 0, 0, 0, 0] : List Nat).map toByte) } : Job)] })).jobMaster 5) 0x1201 4).2.1, ((((withObjs' [(Obj.SQ_CONFIG_SQ_ENABLE 5, 1), (Obj.SQ_CONFIG_SQ_SIZE 5, 6), (Obj.SQ_CONFIG_SQ_CQ 5, 9), (Obj.SQ_CONFIG_SQ_STATE 5, 1), (Obj.CQ_CONFIG_CQ_ENABLE 9, 1), (Obj.CQ_CONFIG_CQ_SIZE 9, 6), (Obj.CQ_CONFIG_CQ_STATE 9, 1)] running).withHost { jobs := [({ sq := 5, index := 2, bytes := (([0, 1, 0, 0, 0, 0, 0, 0, 0, 0, 0, 0, 0, 0, 0, 0, 18, 1, 4, 4, 0, 0, 0, 0, 0, 0, 0, 0, 0, 0, 0, 0, 0, 0, 0, 0, 0, 0, 0, 0, 0, 0, 0, 0, 0, 0, 0, 0, 0, 0, 0, 0, 0, 0, 0, 0, 0, 0, 0, 0, 0, 0, 0, 0] : List Nat).map toByte) } : Job)] })).dictRead .job ((((withObjs' [(Obj.SQ_CONFIG_SQ_ENABLE 5, 1), (Obj.SQ_CONFIG_SQ_SIZE 5, 6), (Obj.SQ_CONFIG_SQ_CQ 5, 9), (Obj.SQ_CONFIG_SQ_STATE 5, 1), (Obj.CQ_CONFIG_CQ_ENABLE 9, 1), (Obj.CQ_CONFIG_CQ_SIZE 9, 6), (Obj.CQ_CONFIG_CQ_STATE 9, 1)] running).withHost { jobs := [({ sq := 5, index := 2, bytes := (([0, 1, 0, 0, 0, 0, 0, 0, 0, 0, 0, 0, 0, 0, 0, 0, 18, 1, 4, 4, 0, 0, 0, 0, 0, 0, 0, 0, 0, 0, 0, 0, 0, 0, 0, 0, 0, 0, 0, 0, 0, 0, 0, 0, 0, 0, 0, 0, 0, 0, 0, 0, 0, 0, 0, 0, 0, 0, 0, 0, 0, 0, 0, 0] : List Nat).map toByte) } : Job)] })).jobMaster 5) 0x1201 4).2.2, by decide +kernel⟩

theorem witness_DictionaryJobsRun_2 : ∃ (s : State) (q : Fin 1024) (i : Nat) (j : Job) (dma : Dma) (v : Nat) (u : State), s.CoreOn ∧
    s.startable q i 0x1 = some j ∧ s.lockJob q i = none ∧ zeroBytes j.bytes [(20, 4), (32, 32)] = true ∧ byteAt j.bytes 19 = (objTy
    (wordAt j.bytes 16 2) (byteAt j.bytes 18)).bytes ∧ 8 < (objTy (wordAt j.bytes 16 2) (byteAt j.bytes 18)).bytes ∧ s.dictRead .job
    (s.jobMaster q) (wordAt j.bytes 16 2) (byteAt j.bytes 18) = (.ok, v, u) ∧ dma.ok = true :=
  ⟨((withObjs' [(Obj.SQ_CONFIG_SQ_ENABLE 5, 1), (Obj.SQ_CONFIG_SQ_SIZE 5, 6), (Obj.SQ_CONFIG_SQ_CQ 5, 9), (Obj.SQ_CONFIG_SQ_STATE 5, 1), (Obj.CQ_CONFIG_CQ_ENABLE 9, 1), (Obj.CQ_CONFIG_CQ_SIZE 9, 6), (Obj.CQ_CONFIG_CQ_STATE 9, 1)] running).withHost { jobs := [({ sq := 5, index := 2, bytes := (([0, 1, 0, 0, 0, 0, 0, 0, 0, 0, 0, 0, 0, 0, 0, 0, 21, 1, 2, 10, 0, 0, 0, 0, 0, 0, 0, 0, 0, 0, 0, 64, 0, 0, 0, 0, 0, 0, 0, 0, 0, 0, 0, 0, 0, 0, 0, 0, 0, 0, 0, 0, 0, 0, 0, 0, 0, 0, 0, 0, 0, 0, 0, 0] : List Nat).map toByte) } : Job)] }), 5, 2, ({ sq := 5, index := 2, bytes := (([0, 1, 0, 0, 0, 0, 0, 0, 0, 0, 0, 0, 0, 0, 0, 0, 21, 1, 2, 10, 0, 0, 0, 0, 0, 0, 0, 0, 0, 0, 0, 64, 0, 0, 0, 0, 0, 0, 0, 0, 0, 0, 0, 0, 0, 0, 0, 0, 0, 0, 0, 0, 0, 0, 0, 0, 0, 0, 0, 0, 0, 0, 0, 0] : List Nat).map toByte) } : Job), ⟨none, true, true⟩, ((((withObjs' [(Obj.SQ_CONFIG_SQ_ENABLE 5, 1), (Obj.SQ_CONFIG_SQ_SIZE 5, 6), (Obj.SQ_CONFIG_SQ_CQ 5, 9), (Obj.SQ_CONFIG_SQ_STATE 5, 1), (Obj.CQ_CONFIG_CQ_ENABLE 9, 1), (Obj.CQ_CONFIG_CQ_SIZE 9, 6), (Obj.CQ_CONFIG_CQ_STATE 9, 1)] running).withHost { jobs := [({ sq := 5, index := 2, bytes := (([0, 1, 0, 0, 0, 0, 0, 0, 0, 0, 0, 0, 0, 0, 0, 0, 21, 1, 2, 10, 0, 0, 0, 0, 0, 0, 0, 0, 0, 0, 0, 64, 0, 0, 0, 0, 0, 0, 0, 0, 0, 0, 0, 0, 0, 0, 0, 0, 0, 0, 0, 0, 0, 0, 0, 0, 0, 0, 0, 0, 0, 0, 0, 0] : List Nat).map toByte) } : Job)] })).dictRead .job ((((withObjs' [(Obj.SQ_CONFIG_SQ_ENABLE 5, 1), (Obj.SQ_CONFIG_SQ_SIZE 5, 6), (Obj.SQ_CONFIG_SQ_CQ 5, 9), (Obj.SQ_CONFIG_SQ_STATE 5, 1), (Obj.CQ_CONFIG_CQ_ENABLE 9, 1), (Obj.CQ_CONFIG_CQ_SIZE 9, 6), (Obj.CQ_CONFIG_CQ_STATE 9, 1)] running).withHost { jobs := [({ sq := 5, index := 2, bytes := (([0, 1, 0, 0, 0, 0, 0, 0, 0, 0, 0, 0, 0, 0, 0, 0, 21, 1, 2, 10, 0, 0, 0, 0, 0, 0, 0, 0, 0, 0, 0, 64, 0, 0, 0, 0, 0, 0, 0, 0, 0, 0, 0, 0, 0, 0, 0, 0, 0, 0, 0, 0, 0, 0, 0, 0, 0, 0, 0, 0, 0, 0, 0, 0] : List Nat).map toByte) } : Job)] })).jobMaster 5) 0x1501 2).2.1, ((((withObjs' [(Obj.SQ_CONFIG_SQ_ENABLE 5, 1), (Obj.SQ_CONFIG_SQ_SIZE 5, 6), (Obj.SQ_CONFIG_SQ_CQ 5, 9), (Obj.SQ_CONFIG_SQ_STATE 5, 1), (Obj.CQ_CONFIG_CQ_ENABLE 9, 1), (Obj.CQ_CONFIG_CQ_SIZE 9, 6), (Obj.CQ_CONFIG_CQ_STATE 9, 1)] running).withHost { jobs := [({ sq := 5, index := 2, bytes := (([0, 1, 0, 0, 0, 0, 0, 0, 0, 0, 0, 0, 0, 0, 0, 0, 21, 1, 2, 10, 0, 0, 0, 0, 0, 0, 0, 0, 0, 0, 0, 64, 0, 0, 0, 0, 0, 0, 0, 0, 0, 0, 0, 0, 0, 0, 0, 0, 0, 0, 0, 0, 0, 0, 0, 0, 0, 0, 0, 0, 0, 0, 0, 0] : List Nat).map toByte) } : Job)] })).dictRead .job ((((withObjs' [(Obj.SQ_CONFIG_SQ_ENABLE 5, 1), (Obj.SQ_CONFIG_SQ_SIZE 5, 6), (Obj.SQ_CONFIG_SQ_CQ 5, 9), (Obj.SQ_CONFIG_SQ_STATE 5, 1), (Obj.CQ_CONFIG_CQ_ENABLE 9, 1), (Obj.CQ_CONFIG_CQ_SIZE 9, 6), (Obj.CQ_CONFIG_CQ_STATE 9, 1)] running).withHost { jobs := [({ sq := 5, index := 2, bytes := (([0, 1, 0, 0, 0, 0, 0, 0, 0, 0, 0, 0, 0, 0, 0, 0, 21, 1, 2, 10, 0, 0, 0, 0, 0, 0, 0, 0, 0, 0, 0, 64, 0, 0, 0, 0, 0, 0, 0, 0, 0, 0, 0, 0, 0, 0, 0, 0, 0, 0, 0, 0, 0, 0, 0, 0, 0, 0, 0, 0, 0, 0, 0, 0] : List Nat).map toByte) } : Job)] })).jobMaster 5) 0x1501 2).2.2, by decide +kernel⟩

theorem witness_DictionaryJobsRun_3 : ∃ (s : State) (q : Fin 1024) (i : Nat) (j : Job) (dma : Dma) (v : Nat) (st : Status) (u : State),
    s.CoreOn ∧ s.startable q i 0x1 = some j ∧ s.lockJob q i = none ∧ zeroBytes j.bytes [(20, 4), (32, 32)] = true ∧ (byteAt j.bytes 19 =
    (objTy (wordAt j.bytes 16 2) (byteAt j.bytes 18)).bytes ∨ (rowAt (wordAt j.bytes 16 2) (byteAt j.bytes 18)).isSome = false ∧ (byteAt
    j.bytes 18) ≠ 0) ∧ s.dictRead .job (s.jobMaster q) (wordAt j.bytes 16 2) (byteAt j.bytes 18) = (st, v, u) ∧ st ≠ .ok :=
  ⟨((withObjs' [(Obj.SQ_CONFIG_SQ_ENABLE 5, 1), (Obj.SQ_CONFIG_SQ_SIZE 5, 6), (Obj.SQ_CONFIG_SQ_CQ 5, 9), (Obj.SQ_CONFIG_SQ_STATE 5, 1), (Obj.CQ_CONFIG_CQ_ENABLE 9, 1), (Obj.CQ_CONFIG_CQ_SIZE 9, 6), (Obj.CQ_CONFIG_CQ_STATE 9, 1)] running).withHost { jobs := [({ sq := 5, index := 2, bytes := (([0, 1, 0, 0, 0, 0, 0, 0, 0, 0, 0, 0, 0, 0, 0, 0, 15, 1, 4, 0, 0, 0, 0, 0, 0, 0, 0, 0, 0, 0, 0, 0, 0, 0, 0, 0, 0, 0, 0, 0, 0, 0, 0, 0, 0, 0, 0, 0, 0, 0, 0, 0, 0, 0, 0, 0, 0, 0, 0, 0, 0, 0, 0, 0] : List Nat).map toByte) } : Job)] }), 5, 2, ({ sq := 5, index := 2, bytes := (([0, 1, 0, 0, 0, 0, 0, 0, 0, 0, 0, 0, 0, 0, 0, 0, 15, 1, 4, 0, 0, 0, 0, 0, 0, 0, 0, 0, 0, 0, 0, 0, 0, 0, 0, 0, 0, 0, 0, 0, 0, 0, 0, 0, 0, 0, 0, 0, 0, 0, 0, 0, 0, 0, 0, 0, 0, 0, 0, 0, 0, 0, 0, 0] : List Nat).map toByte) } : Job), ⟨none, true, true⟩, ((((withObjs' [(Obj.SQ_CONFIG_SQ_ENABLE 5, 1), (Obj.SQ_CONFIG_SQ_SIZE 5, 6), (Obj.SQ_CONFIG_SQ_CQ 5, 9), (Obj.SQ_CONFIG_SQ_STATE 5, 1), (Obj.CQ_CONFIG_CQ_ENABLE 9, 1), (Obj.CQ_CONFIG_CQ_SIZE 9, 6), (Obj.CQ_CONFIG_CQ_STATE 9, 1)] running).withHost { jobs := [({ sq := 5, index := 2, bytes := (([0, 1, 0, 0, 0, 0, 0, 0, 0, 0, 0, 0, 0, 0, 0, 0, 15, 1, 4, 0, 0, 0, 0, 0, 0, 0, 0, 0, 0, 0, 0, 0, 0, 0, 0, 0, 0, 0, 0, 0, 0, 0, 0, 0, 0, 0, 0, 0, 0, 0, 0, 0, 0, 0, 0, 0, 0, 0, 0, 0, 0, 0, 0, 0] : List Nat).map toByte) } : Job)] })).dictRead .job ((((withObjs' [(Obj.SQ_CONFIG_SQ_ENABLE 5, 1), (Obj.SQ_CONFIG_SQ_SIZE 5, 6), (Obj.SQ_CONFIG_SQ_CQ 5, 9), (Obj.SQ_CONFIG_SQ_STATE 5, 1), (Obj.CQ_CONFIG_CQ_ENABLE 9, 1), (Obj.CQ_CONFIG_CQ_SIZE 9, 6), (Obj.CQ_CONFIG_CQ_STATE 9, 1)] running).withHost { jobs := [({ sq := 5, index := 2, bytes := (([0, 1, 0, 0, 0, 0, 0, 0, 0, 0, 0, 0, 0, 0, 0, 0, 15, 1, 4, 0, 0, 0, 0, 0, 0, 0, 0, 0, 0, 0, 0, 0, 0, 0, 0, 0, 0, 0, 0, 0, 0, 0, 0, 0, 0, 0, 0, 0, 0, 0, 0, 0, 0, 0, 0, 0, 0, 0, 0, 0, 0, 0, 0, 0] : List Nat).map toByte) } : Job)] })).jobMaster 5) 0x0F01 4).2.1, .notFound, ((((withObjs' [(Obj.SQ_CONFIG_SQ_ENABLE 5, 1), (Obj.SQ_CONFIG_SQ_SIZE 5, 6), (Obj.SQ_CONFIG_SQ_CQ 5, 9), (Obj.SQ_CONFIG_SQ_STATE 5, 1), (Obj.CQ_CONFIG_CQ_ENABLE 9, 1), (Obj.CQ_CONFIG_CQ_SIZE 9, 6), (Obj.CQ_CONFIG_CQ_STATE 9, 1)] running).withHost { jobs := [({ sq := 5, index := 2, bytes := (([0, 1, 0, 0, 0, 0, 0, 0, 0, 0, 0, 0, 0, 0, 0, 0, 15, 1, 4, 0, 0, 0, 0, 0, 0, 0, 0, 0, 0, 0, 0, 0, 0, 0, 0, 0, 0, 0, 0, 0, 0, 0, 0, 0, 0, 0, 0, 0, 0, 0, 0, 0, 0, 0, 0, 0, 0, 0, 0, 0, 0, 0, 0, 0] : List Nat).map toByte) } : Job)] })).dictRead .job ((((withObjs' [(Obj.SQ_CONFIG_SQ_ENABLE 5, 1), (Obj.SQ_CONFIG_SQ_SIZE 5, 6), (Obj.SQ_CONFIG_SQ_CQ 5, 9), (Obj.SQ_CONFIG_SQ_STATE 5, 1), (Obj.CQ_CONFIG_CQ_ENABLE 9, 1), (Obj.CQ_CONFIG_CQ_SIZE 9, 6), (Obj.CQ_CONFIG_CQ_STATE 9, 1)] running).withHost { jobs := [({ sq := 5, index := 2, bytes := (([0, 1, 0, 0, 0, 0, 0, 0, 0, 0, 0, 0, 0, 0, 0, 0, 15, 1, 4, 0, 0, 0, 0, 0, 0, 0, 0, 0, 0, 0, 0, 0, 0, 0, 0, 0, 0, 0, 0, 0, 0, 0, 0, 0, 0, 0, 0, 0, 0, 0, 0, 0, 0, 0, 0, 0, 0, 0, 0, 0, 0, 0, 0, 0] : List Nat).map toByte) } : Job)] })).jobMaster 5) 0x0F01 4).2.2, by decide +kernel⟩

theorem witness_DictionaryJobsRun_4 : ∃ (s : State) (q : Fin 1024) (i : Nat) (j : Job) (dma : Dma), s.CoreOn ∧ s.startable q i 0x1 =
    some j ∧ s.lockJob q i = none ∧ zeroBytes j.bytes [(20, 4), (32, 32)] = true ∧ (rowAt (wordAt j.bytes 16 2) (byteAt j.bytes
    18)).isSome = true ∧ byteAt j.bytes 19 ≠ (objTy (wordAt j.bytes 16 2) (byteAt j.bytes 18)).bytes :=
  ⟨((withObjs' [(Obj.SQ_CONFIG_SQ_ENABLE 5, 1), (Obj.SQ_CONFIG_SQ_SIZE 5, 6), (Obj.SQ_CONFIG_SQ_CQ 5, 9), (Obj.SQ_CONFIG_SQ_STATE 5, 1), (Obj.CQ_CONFIG_CQ_ENABLE 9, 1), (Obj.CQ_CONFIG_CQ_SIZE 9, 6), (Obj.CQ_CONFIG_CQ_STATE 9, 1)] running).withHost { jobs := [({ sq := 5, index := 2, bytes := (([0, 1, 0, 0, 0, 0, 0, 0, 0, 0, 0, 0, 0, 0, 0, 0, 18, 1, 4, 2, 0, 0, 0, 0, 0, 0, 0, 0, 0, 0, 0, 0, 0, 0, 0, 0, 0, 0, 0, 0, 0, 0, 0, 0, 0, 0, 0, 0, 0, 0, 0, 0, 0, 0, 0, 0, 0, 0, 0, 0, 0, 0, 0, 0] : List Nat).map toByte) } : Job)] }), 5, 2, ({ sq := 5, index := 2, bytes := (([0, 1, 0, 0, 0, 0, 0, 0, 0, 0, 0, 0, 0, 0, 0, 0, 18, 1, 4, 2, 0, 0, 0, 0, 0, 0, 0, 0, 0, 0, 0, 0, 0, 0, 0, 0, 0, 0, 0, 0, 0, 0, 0, 0, 0, 0, 0, 0, 0, 0, 0, 0, 0, 0, 0, 0, 0, 0, 0, 0, 0, 0, 0, 0] : List Nat).map toByte) } : Job), ⟨none, true, true⟩, by decide +kernel⟩

theorem witness_DictionaryJobsRun_5 : ∃ (s : State) (q : Fin 1024) (i : Nat) (j : Job) (dma : Dma) (st : Status) (u : State), s.CoreOn ∧
    s.startable q i 0x2 = some j ∧ zeroBytes j.bytes [(20, 4), (32 + byteAt j.bytes 19, 32 - byteAt j.bytes 19)] = true ∧ byteAt j.bytes
    19 ≤ 32 ∧ byteAt j.bytes 19 = (objTy (wordAt j.bytes 16 2) (byteAt j.bytes 18)).bytes ∧ s.dictWrite .job (.job q i) (s.jobMaster q)
    (wordAt j.bytes 16 2) (byteAt j.bytes 18) (valueOf (objTy (wordAt j.bytes 16 2) (byteAt j.bytes 18)) ((j.bytes.drop 32).take (byteAt
    j.bytes 19))) = (some st, u) :=
  ⟨((withObjs' [(Obj.SQ_CONFIG_SQ_ENABLE 5, 1), (Obj.SQ_CONFIG_SQ_SIZE 5, 6), (Obj.SQ_CONFIG_SQ_CQ 5, 9), (Obj.SQ_CONFIG_SQ_STATE 5, 1), (Obj.CQ_CONFIG_CQ_ENABLE 9, 1), (Obj.CQ_CONFIG_CQ_SIZE 9, 6), (Obj.CQ_CONFIG_CQ_STATE 9, 1)] running).withHost { jobs := [({ sq := 5, index := 2, bytes := (([0, 2, 0, 0, 0, 0, 0, 0, 0, 0, 0, 0, 0, 0, 0, 0, 17, 1, 1, 1, 0, 0, 0, 0, 0, 0, 0, 0, 0, 0, 0, 0, 6, 0, 0, 0, 0, 0, 0, 0, 0, 0, 0, 0, 0, 0, 0, 0, 0, 0, 0, 0, 0, 0, 0, 0, 0, 0, 0, 0, 0, 0, 0, 0] : List Nat).map toByte) } : Job)] }), 5, 2, ({ sq := 5, index := 2, bytes := (([0, 2, 0, 0, 0, 0, 0, 0, 0, 0, 0, 0, 0, 0, 0, 0, 17, 1, 1, 1, 0, 0, 0, 0, 0, 0, 0, 0, 0, 0, 0, 0, 6, 0, 0, 0, 0, 0, 0, 0, 0, 0, 0, 0, 0, 0, 0, 0, 0, 0, 0, 0, 0, 0, 0, 0, 0, 0, 0, 0, 0, 0, 0, 0] : List Nat).map toByte) } : Job), ⟨none, true, true⟩, .ok, ((((withObjs' [(Obj.SQ_CONFIG_SQ_ENABLE 5, 1), (Obj.SQ_CONFIG_SQ_SIZE 5, 6), (Obj.SQ_CONFIG_SQ_CQ 5, 9), (Obj.SQ_CONFIG_SQ_STATE 5, 1), (Obj.CQ_CONFIG_CQ_ENABLE 9, 1), (Obj.CQ_CONFIG_CQ_SIZE 9, 6), (Obj.CQ_CONFIG_CQ_STATE 9, 1)] running).withHost { jobs := [({ sq := 5, index := 2, bytes := (([0, 2, 0, 0, 0, 0, 0, 0, 0, 0, 0, 0, 0, 0, 0, 0, 17, 1, 1, 1, 0, 0, 0, 0, 0, 0, 0, 0, 0, 0, 0, 0, 6, 0, 0, 0, 0, 0, 0, 0, 0, 0, 0, 0, 0, 0, 0, 0, 0, 0, 0, 0, 0, 0, 0, 0, 0, 0, 0, 0, 0, 0, 0, 0] : List Nat).map toByte) } : Job)] })).dictWrite .job (.job 5 2) ((((withObjs' [(Obj.SQ_CONFIG_SQ_ENABLE 5, 1), (Obj.SQ_CONFIG_SQ_SIZE 5, 6), (Obj.SQ_CONFIG_SQ_CQ 5, 9), (Obj.SQ_CONFIG_SQ_STATE 5, 1), (Obj.CQ_CONFIG_CQ_ENABLE 9, 1), (Obj.CQ_CONFIG_CQ_SIZE 9, 6), (Obj.CQ_CONFIG_CQ_STATE 9, 1)] running).withHost { jobs := [({ sq := 5, index := 2, bytes := (([0, 2, 0, 0, 0, 0, 0, 0, 0, 0, 0, 0, 0, 0, 0, 0, 17, 1, 1, 1, 0, 0, 0, 0, 0, 0, 0, 0, 0, 0, 0, 0, 6, 0, 0, 0, 0, 0, 0, 0, 0, 0, 0, 0, 0, 0, 0, 0, 0, 0, 0, 0, 0, 0, 0, 0, 0, 0, 0, 0, 0, 0, 0, 0] : List Nat).map toByte) } : Job)] })).jobMaster 5) 0x1101 1 6).2, by decide +kernel⟩

theorem witness_DictionaryJobsRun_6 : ∃ (s : State) (q : Fin 1024) (i : Nat) (j : Job) (dma : Dma) (u : State), s.CoreOn ∧ s.startable q
    i 0x2 = some j ∧ zeroBytes j.bytes [(20, 4), (32 + byteAt j.bytes 19, 32 - byteAt j.bytes 19)] = true ∧ byteAt j.bytes 19 ≤ 32 ∧
    byteAt j.bytes 19 = (objTy (wordAt j.bytes 16 2) (byteAt j.bytes 18)).bytes ∧ s.dictWrite .job (.job q i) (s.jobMaster q) (wordAt
    j.bytes 16 2) (byteAt j.bytes 18) (valueOf (objTy (wordAt j.bytes 16 2) (byteAt j.bytes 18)) ((j.bytes.drop 32).take (byteAt j.bytes
    19))) = (none, u) :=
  ⟨((withObjs' [(Obj.SQ_CONFIG_SQ_ENABLE 5, 1), (Obj.SQ_CONFIG_SQ_SIZE 5, 6), (Obj.SQ_CONFIG_SQ_CQ 5, 9), (Obj.SQ_CONFIG_SQ_STATE 5, 1), (Obj.CQ_CONFIG_CQ_ENABLE 9, 1), (Obj.CQ_CONFIG_CQ_SIZE 9, 6), (Obj.CQ_CONFIG_CQ_STATE 9, 1)] running).withHost { jobs := [({ sq := 5, index := 2, bytes := (([0, 2, 0, 0, 0, 0, 0, 0, 0, 0, 0, 0, 0, 0, 0, 0, 22, 32, 1, 1, 0, 0, 0, 0, 0, 0, 0, 0, 0, 0, 0, 0, 1, 0, 0, 0, 0, 0, 0, 0, 0, 0, 0, 0, 0, 0, 0, 0, 0, 0, 0, 0, 0, 0, 0, 0, 0, 0, 0, 0, 0, 0, 0, 0] : List Nat).map toByte) } : Job)] }), 5, 2, ({ sq := 5, index := 2, bytes := (([0, 2, 0, 0, 0, 0, 0, 0, 0, 0, 0, 0, 0, 0, 0, 0, 22, 32, 1, 1, 0, 0, 0, 0, 0, 0, 0, 0, 0, 0, 0, 0, 1, 0, 0, 0, 0, 0, 0, 0, 0, 0, 0, 0, 0, 0, 0, 0, 0, 0, 0, 0, 0, 0, 0, 0, 0, 0, 0, 0, 0, 0, 0, 0] : List Nat).map toByte) } : Job), ⟨none, true, true⟩, ((((withObjs' [(Obj.SQ_CONFIG_SQ_ENABLE 5, 1), (Obj.SQ_CONFIG_SQ_SIZE 5, 6), (Obj.SQ_CONFIG_SQ_CQ 5, 9), (Obj.SQ_CONFIG_SQ_STATE 5, 1), (Obj.CQ_CONFIG_CQ_ENABLE 9, 1), (Obj.CQ_CONFIG_CQ_SIZE 9, 6), (Obj.CQ_CONFIG_CQ_STATE 9, 1)] running).withHost { jobs := [({ sq := 5, index := 2, bytes := (([0, 2, 0, 0, 0, 0, 0, 0, 0, 0, 0, 0, 0, 0, 0, 0, 22, 32, 1, 1, 0, 0, 0, 0, 0, 0, 0, 0, 0, 0, 0, 0, 1, 0, 0, 0, 0, 0, 0, 0, 0, 0, 0, 0, 0, 0, 0, 0, 0, 0, 0, 0, 0, 0, 0, 0, 0, 0, 0, 0, 0, 0, 0, 0] : List Nat).map toByte) } : Job)] })).dictWrite .job (.job 5 2) ((((withObjs' [(Obj.SQ_CONFIG_SQ_ENABLE 5, 1), (Obj.SQ_CONFIG_SQ_SIZE 5, 6), (Obj.SQ_CONFIG_SQ_CQ 5, 9), (Obj.SQ_CONFIG_SQ_STATE 5, 1), (Obj.CQ_CONFIG_CQ_ENABLE 9, 1), (Obj.CQ_CONFIG_CQ_SIZE 9, 6), (Obj.CQ_CONFIG_CQ_STATE 9, 1)] running).withHost { jobs := [({ sq := 5, index := 2, bytes := (([0, 2, 0, 0, 0, 0, 0, 0, 0, 0, 0, 0, 0, 0, 0, 0, 22, 32, 1, 1, 0, 0, 0, 0, 0, 0, 0, 0, 0, 0, 0, 0, 1, 0, 0, 0, 0, 0, 0, 0, 0, 0, 0, 0, 0, 0, 0, 0, 0, 0, 0, 0, 0, 0, 0, 0, 0, 0, 0, 0, 0, 0, 0, 0] : List Nat).map toByte) } : Job)] })).jobMaster 5) 0x1620 1 1).2, by decide +kernel⟩

theorem witness_DictionaryJobsRun_7 : ∃ (s : State) (q : Fin 1024) (i : Nat) (j : Job) (dma : Dma) (r : DomRow) (v : Nat) (u : State),
    s.CoreOn ∧ s.startable q i 0x3 = some j ∧ zeroBytes j.bytes [(18, 2), (32, 32)] = true ∧ domRow (wordAt j.bytes 16 2) = some r ∧
    s.domRead (s.jobMaster q) (wordAt j.bytes 16 2) (wordAt j.bytes 20 4) = (.ok, v, u) ∧ dma.ok = true :=
  ⟨((withObjs' [(Obj.SQ_CONFIG_SQ_ENABLE 5, 1), (Obj.SQ_CONFIG_SQ_SIZE 5, 6), (Obj.SQ_CONFIG_SQ_CQ 5, 9), (Obj.SQ_CONFIG_SQ_STATE 5, 1), (Obj.CQ_CONFIG_CQ_ENABLE 9, 1), (Obj.CQ_CONFIG_CQ_SIZE 9, 6), (Obj.CQ_CONFIG_CQ_STATE 9, 1)] running).withHost { jobs := [({ sq := 5, index := 2, bytes := (([0, 3, 0, 0, 0, 0, 0, 0, 0, 0, 0, 0, 0, 0, 0, 0, 116, 2, 0, 0, 0, 0, 0, 3, 0, 0, 0, 0, 0, 0, 0, 64, 0, 0, 0, 0, 0, 0, 0, 0, 0, 0, 0, 0, 0, 0, 0, 0, 0, 0, 0, 0, 0, 0, 0, 0, 0, 0, 0, 0, 0, 0, 0, 0] : List Nat).map toByte) } : Job)] }), 5, 2, ({ sq := 5, index := 2, bytes := (([0, 3, 0, 0, 0, 0, 0, 0, 0, 0, 0, 0, 0, 0, 0, 0, 116, 2, 0, 0, 0, 0, 0, 3, 0, 0, 0, 0, 0, 0, 0, 64, 0, 0, 0, 0, 0, 0, 0, 0, 0, 0, 0, 0, 0, 0, 0, 0, 0, 0, 0, 0, 0, 0, 0, 0, 0, 0, 0, 0, 0, 0, 0, 0] : List Nat).map toByte) } : Job), ⟨none, true, true⟩, ((domRow 0x7402).get (by decide +kernel)), ((((withObjs' [(Obj.SQ_CONFIG_SQ_ENABLE 5, 1), (Obj.SQ_CONFIG_SQ_SIZE 5, 6), (Obj.SQ_CONFIG_SQ_CQ 5, 9), (Obj.SQ_CONFIG_SQ_STATE 5, 1), (Obj.CQ_CONFIG_CQ_ENABLE 9, 1), (Obj.CQ_CONFIG_CQ_SIZE 9, 6), (Obj.CQ_CONFIG_CQ_STATE 9, 1)] running).withHost { jobs := [({ sq := 5, index := 2, bytes := (([0, 3, 0, 0, 0, 0, 0, 0, 0, 0, 0, 0, 0, 0, 0, 0, 116, 2, 0, 0, 0, 0, 0, 3, 0, 0, 0, 0, 0, 0, 0, 64, 0, 0, 0, 0, 0, 0, 0, 0, 0, 0, 0, 0, 0, 0, 0, 0, 0, 0, 0, 0, 0, 0, 0, 0, 0, 0, 0, 0, 0, 0, 0, 0] : List Nat).map toByte) } : Job)] })).domRead ((((withObjs' [(Obj.SQ_CONFIG_SQ_ENABLE 5, 1), (Obj.SQ_CONFIG_SQ_SIZE 5, 6), (Obj.SQ_CONFIG_SQ_CQ 5, 9), (Obj.SQ_CONFIG_SQ_STATE 5, 1), (Obj.CQ_CONFIG_CQ_ENABLE 9, 1), (Obj.CQ_CONFIG_CQ_SIZE 9, 6), (Obj.CQ_CONFIG_CQ_STATE 9, 1)] running).withHost { jobs := [({ sq := 5, index := 2, bytes := (([0, 3, 0, 0, 0, 0, 0, 0, 0, 0, 0, 0, 0, 0, 0, 0, 116, 2, 0, 0, 0, 0, 0, 3, 0, 0, 0, 0, 0, 0, 0, 64, 0, 0, 0, 0, 0, 0, 0, 0, 0, 0, 0, 0, 0, 0, 0, 0, 0, 0, 0, 0, 0, 0, 0, 0, 0, 0, 0, 0, 0, 0, 0, 0] : List Nat).map toByte) } : Job)] })).jobMaster 5) 0x7402 3).2.1, ((((withObjs' [(Obj.SQ_CONFIG_SQ_ENABLE 5, 1), (Obj.SQ_CONFIG_SQ_SIZE 5, 6), (Obj.SQ_CONFIG_SQ_CQ 5, 9), (Obj.SQ_CONFIG_SQ_STATE 5, 1), (Obj.CQ_CONFIG_CQ_ENABLE 9, 1), (Obj.CQ_CONFIG_CQ_SIZE 9, 6), (Obj.CQ_CONFIG_CQ_STATE 9, 1)] running).withHost { jobs := [({ sq := 5, index := 2, bytes := (([0, 3, 0, 0, 0, 0, 0, 0, 0, 0, 0, 0, 0, 0, 0, 0, 116, 2, 0, 0, 0, 0, 0, 3, 0, 0, 0, 0, 0, 0, 0, 64, 0, 0, 0, 0, 0, 0, 0, 0, 0, 0, 0, 0, 0, 0, 0, 0, 0, 0, 0, 0, 0, 0, 0, 0, 0, 0, 0, 0, 0, 0, 0, 0] : List Nat).map toByte) } : Job)] })).domRead ((((withObjs' [(Obj.SQ_CONFIG_SQ_ENABLE 5, 1), (Obj.SQ_CONFIG_SQ_SIZE 5, 6), (Obj.SQ_CONFIG_SQ_CQ 5, 9), (Obj.SQ_CONFIG_SQ_STATE 5, 1), (Obj.CQ_CONFIG_CQ_ENABLE 9, 1), (Obj.CQ_CONFIG_CQ_SIZE 9, 6), (Obj.CQ_CONFIG_CQ_STATE 9, 1)] running).withHost { jobs := [({ sq := 5, index := 2, bytes := (([0, 3, 0, 0, 0, 0, 0, 0, 0, 0, 0, 0, 0, 0, 0, 0, 116, 2, 0, 0, 0, 0, 0, 3, 0, 0, 0, 0, 0, 0, 0, 64, 0, 0, 0, 0, 0, 0, 0, 0, 0, 0, 0, 0, 0, 0, 0, 0, 0, 0, 0, 0, 0, 0, 0, 0, 0, 0, 0, 0, 0, 0, 0, 0] : List Nat).map toByte) } : Job)] })).jobMaster 5) 0x7402 3).2.2, by decide +kernel⟩

theorem witness_DictionaryJobsRun_8 : ∃ (s : State) (q : Fin 1024) (i : Nat) (j : Job) (dma : Dma) (r : DomRow) (d : List Byte),
    s.CoreOn ∧ s.startable q i 0x4 = some j ∧ zeroBytes j.bytes [(18, 2), (32, 32)] = true ∧ domRow (wordAt j.bytes 16 2) = some r ∧
    dma.data = some d ∧ d.length = r.bytes :=
  ⟨((withObjs' [(Obj.SQ_CONFIG_SQ_ENABLE 5, 1), (Obj.SQ_CONFIG_SQ_SIZE 5, 6), (Obj.SQ_CONFIG_SQ_CQ 5, 9), (Obj.SQ_CONFIG_SQ_STATE 5, 1), (Obj.CQ_CONFIG_CQ_ENABLE 9, 1), (Obj.CQ_CONFIG_CQ_SIZE 9, 6), (Obj.CQ_CONFIG_CQ_STATE 9, 1)] running).withHost { jobs := [({ sq := 5, index := 2, bytes := (([0, 4, 0, 0, 0, 0, 0, 0, 0, 0, 0, 0, 0, 0, 0, 0, 116, 2, 0, 0, 0, 0, 0, 3, 0, 0, 0, 0, 0, 0, 0, 64, 0, 0, 0, 0, 0, 0, 0, 0, 0, 0, 0, 0, 0, 0, 0, 0, 0, 0, 0, 0, 0, 0, 0, 0, 0, 0, 0, 0, 0, 0, 0, 0] : List Nat).map toByte) } : Job)] }), 5, 2, ({ sq := 5, index := 2, bytes := (([0, 4, 0, 0, 0, 0, 0, 0, 0, 0, 0, 0, 0, 0, 0, 0, 116, 2, 0, 0, 0, 0, 0, 3, 0, 0, 0, 0, 0, 0, 0, 64, 0, 0, 0, 0, 0, 0, 0, 0, 0, 0, 0, 0, 0, 0, 0, 0, 0, 0, 0, 0, 0, 0, 0, 0, 0, 0, 0, 0, 0, 0, 0, 0] : List Nat).map toByte) } : Job), ⟨some (List.replicate 16 0), true, true⟩, ((domRow 0x7402).get (by decide +kernel)), List.replicate 16 0, by decide +kernel⟩

theorem witness_DictionaryJobsRun_9 : ∃ (s : State) (q : Fin 1024) (i : Nat) (j : Job) (dma : Dma), s.CoreOn ∧ s.startable q i 0x0 =
    some j ∧ zeroBytes j.bytes [(16, 48)] = true :=
  ⟨((withObjs' [(Obj.SQ_CONFIG_SQ_ENABLE 5, 1), (Obj.SQ_CONFIG_SQ_SIZE 5, 6), (Obj.SQ_CONFIG_SQ_CQ 5, 9), (Obj.SQ_CONFIG_SQ_STATE 5, 1), (Obj.CQ_CONFIG_CQ_ENABLE 9, 1), (Obj.CQ_CONFIG_CQ_SIZE 9, 6), (Obj.CQ_CONFIG_CQ_STATE 9, 1)] running).withHost { jobs := [({ sq := 5, index := 2, bytes := (([0, 0, 0, 0, 0, 0, 0, 0, 0, 0, 0, 0, 0, 0, 0, 0, 0, 0, 0, 0, 0, 0, 0, 0, 0, 0, 0, 0, 0, 0, 0, 0, 0, 0, 0, 0, 0, 0, 0, 0, 0, 0, 0, 0, 0, 0, 0, 0, 0, 0, 0, 0, 0, 0, 0, 0, 0, 0, 0, 0, 0, 0, 0, 0] : List Nat).map toByte) } : Job)] }), 5, 2, ({ sq := 5, index := 2, bytes := (([0, 0, 0, 0, 0, 0, 0, 0, 0, 0, 0, 0, 0, 0, 0, 0, 0, 0, 0, 0, 0, 0, 0, 0, 0, 0, 0, 0, 0, 0, 0, 0, 0, 0, 0, 0, 0, 0, 0, 0, 0, 0, 0, 0, 0, 0, 0, 0, 0, 0, 0, 0, 0, 0, 0, 0, 0, 0, 0, 0, 0, 0, 0, 0] : List Nat).map toByte) } : Job), ⟨none, true, true⟩, by decide +kernel⟩

theorem witness_DictionaryJobsRun_10 : ∃ (s : State) (q : Fin 1024) (i : Nat) (j : Job) (dma : Dma), s.CoreOn ∧ s.startable q i 0x0 =
    some j ∧ zeroBytes j.bytes [(16, 48)] = false :=
  ⟨((withObjs' [(Obj.SQ_CONFIG_SQ_ENABLE 5, 1), (Obj.SQ_CONFIG_SQ_SIZE 5, 6), (Obj.SQ_CONFIG_SQ_CQ 5, 9), (Obj.SQ_CONFIG_SQ_STATE 5, 1), (Obj.CQ_CONFIG_CQ_ENABLE 9, 1), (Obj.CQ_CONFIG_CQ_SIZE 9, 6), (Obj.CQ_CONFIG_CQ_STATE 9, 1)] running).withHost { jobs := [({ sq := 5, index := 2, bytes := (([0, 0, 0, 0, 0, 0, 0, 0, 0, 0, 0, 0, 0, 0, 0, 0, 1, 0, 0, 0, 0, 0, 0, 0, 0, 0, 0, 0, 0, 0, 0, 0, 0, 0, 0, 0, 0, 0, 0, 0, 0, 0, 0, 0, 0, 0, 0, 0, 0, 0, 0, 0, 0, 0, 0, 0, 0, 0, 0, 0, 0, 0, 0, 0] : List Nat).map toByte) } : Job)] }), 5, 2, ({ sq := 5, index := 2, bytes := (([0, 0, 0, 0, 0, 0, 0, 0, 0, 0, 0, 0, 0, 0, 0, 0, 1, 0, 0, 0, 0, 0, 0, 0, 0, 0, 0, 0, 0, 0, 0, 0, 0, 0, 0, 0, 0, 0, 0, 0, 0, 0, 0, 0, 0, 0, 0, 0, 0, 0, 0, 0, 0, 0, 0, 0, 0, 0, 0, 0, 0, 0, 0, 0] : List Nat).map toByte) } : Job), ⟨none, true, true⟩, by decide +kernel⟩

theorem witness_DictionaryJobsRun_11 : ∃ (s : State) (q : Fin 1024) (i : Nat) (j : Job) (good : Bool) (dma : Dma) (d : List Byte),
    s.CoreOn ∧ s.boot.restart = false ∧ s.startable q i 0x30 = some j ∧ 0 < wordAt j.bytes 20 2 ∧ wordAt j.bytes 20 2 ≤ 4096 ∧ zeroBytes
    j.bytes [(22, 2), (32, 16), (48, 16)] = true ∧ dma.data = some d ∧ s.sqFn j.sq = 0 :=
  ⟨((withObjs' [(Obj.SQ_CONFIG_SQ_ENABLE 5, 1), (Obj.SQ_CONFIG_SQ_SIZE 5, 6), (Obj.SQ_CONFIG_SQ_CQ 5, 9), (Obj.SQ_CONFIG_SQ_STATE 5, 1), (Obj.CQ_CONFIG_CQ_ENABLE 9, 1), (Obj.CQ_CONFIG_CQ_SIZE 9, 6), (Obj.CQ_CONFIG_CQ_STATE 9, 1), (Obj.FW_UPDATE_UPD_STATE, 2), (Obj.FW_UPDATE_UPD_OWNER, HOST), (Obj.FW_UPDATE_UPD_SIZE, 100)] running).withHost { jobs := [({ sq := 5, index := 2, bytes := (([0, 48, 0, 0, 0, 0, 0, 0, 0, 0, 0, 0, 0, 0, 0, 0, 0, 0, 0, 0, 0, 4, 0, 0, 0, 0, 0, 0, 0, 0, 0, 0, 0, 0, 0, 0, 0, 0, 0, 0, 0, 0, 0, 0, 0, 0, 0, 0, 0, 0, 0, 0, 0, 0, 0, 0, 0, 0, 0, 0, 0, 0, 0, 0] : List Nat).map toByte) } : Job)] }), 5, 2, ({ sq := 5, index := 2, bytes := (([0, 48, 0, 0, 0, 0, 0, 0, 0, 0, 0, 0, 0, 0, 0, 0, 0, 0, 0, 0, 0, 4, 0, 0, 0, 0, 0, 0, 0, 0, 0, 0, 0, 0, 0, 0, 0, 0, 0, 0, 0, 0, 0, 0, 0, 0, 0, 0, 0, 0, 0, 0, 0, 0, 0, 0, 0, 0, 0, 0, 0, 0, 0, 0] : List Nat).map toByte) } : Job), true, ⟨some [1, 2, 3, 4], true, true⟩, [1, 2, 3, 4], by decide +kernel⟩

theorem witness_HostPacketsAreSentAndDelivered_1 : ∃ (s : State) (q : Fin 1024) (i : Nat) (j : Job) (dma : Dma) (d : List Byte),
    s.CoreOn ∧ s.startable q i 0x20 = some j ∧ pktLegal j.bytes = true ∧ dma.data = some d ∧ d.length = wordAt j.bytes 18 2 ∧ byteAt
    j.bytes 16 = 0 ∧ s.sqFn q = 0 ∧ s.ev.d2dFailed = false ∧ s.boot.resets.contains 33 = false :=
  ⟨((withObjs' [(Obj.SQ_CONFIG_SQ_ENABLE 5, 1), (Obj.SQ_CONFIG_SQ_SIZE 5, 6), (Obj.SQ_CONFIG_SQ_CQ 5, 9), (Obj.SQ_CONFIG_SQ_STATE 5, 1), (Obj.CQ_CONFIG_CQ_ENABLE 9, 1), (Obj.CQ_CONFIG_CQ_SIZE 9, 6), (Obj.CQ_CONFIG_CQ_STATE 9, 1)] running).withHost { jobs := [({ sq := 5, index := 2, bytes := (([0, 32, 0, 0, 0, 0, 0, 0, 0, 0, 0, 0, 0, 0, 0, 0, 0, 0, 0, 60, 5, 16, 0, 0, 0, 0, 0, 0, 0, 0, 0, 0, 0, 0, 0, 0, 0, 0, 0, 64, 0, 0, 0, 0, 0, 0, 0, 0, 0, 0, 0, 0, 0, 0, 0, 0, 0, 0, 0, 0, 0, 0, 0, 0] : List Nat).map toByte) } : Job)] }), 5, 2, ({ sq := 5, index := 2, bytes := (([0, 32, 0, 0, 0, 0, 0, 0, 0, 0, 0, 0, 0, 0, 0, 0, 0, 0, 0, 60, 5, 16, 0, 0, 0, 0, 0, 0, 0, 0, 0, 0, 0, 0, 0, 0, 0, 0, 0, 64, 0, 0, 0, 0, 0, 0, 0, 0, 0, 0, 0, 0, 0, 0, 0, 0, 0, 0, 0, 0, 0, 0, 0, 0] : List Nat).map toByte) } : Job), ⟨some (List.replicate 60 (1 : Byte)), true, true⟩, List.replicate 60 1, by decide +kernel⟩

theorem witness_HostPacketsAreSentAndDelivered_2 : ∃ (s : State) (q : Fin 1024) (i : Nat) (j : Job) (dma : Dma) (d : List Byte),
    s.CoreOn ∧ s.startable q i 0x20 = some j ∧ pktLegal j.bytes = true ∧ dma.data = some d ∧ d.length = wordAt j.bytes 18 2 ∧ byteAt
    j.bytes 16 = 1 ∧ byteAt j.bytes 17 = 0 :=
  ⟨((withObjs' [(Obj.SQ_CONFIG_SQ_ENABLE 5, 1), (Obj.SQ_CONFIG_SQ_SIZE 5, 6), (Obj.SQ_CONFIG_SQ_CQ 5, 9), (Obj.SQ_CONFIG_SQ_STATE 5, 1), (Obj.CQ_CONFIG_CQ_ENABLE 9, 1), (Obj.CQ_CONFIG_CQ_SIZE 9, 6), (Obj.CQ_CONFIG_CQ_STATE 9, 1)] running).withHost { jobs := [({ sq := 5, index := 2, bytes := (([0, 32, 0, 0, 0, 0, 0, 0, 0, 0, 0, 0, 0, 0, 0, 0, 1, 0, 0, 60, 0, 0, 0, 0, 0, 0, 0, 0, 0, 0, 0, 0, 0, 0, 0, 0, 0, 0, 0, 0, 0, 0, 0, 0, 0, 0, 0, 0, 0, 0, 0, 0, 0, 0, 0, 0, 0, 0, 0, 0, 0, 0, 0, 0] : List Nat).map toByte) } : Job)] }), 5, 2, ({ sq := 5, index := 2, bytes := (([0, 32, 0, 0, 0, 0, 0, 0, 0, 0, 0, 0, 0, 0, 0, 0, 1, 0, 0, 60, 0, 0, 0, 0, 0, 0, 0, 0, 0, 0, 0, 0, 0, 0, 0, 0, 0, 0, 0, 0, 0, 0, 0, 0, 0, 0, 0, 0, 0, 0, 0, 0, 0, 0, 0, 0, 0, 0, 0, 0, 0, 0, 0, 0] : List Nat).map toByte) } : Job), ⟨some (List.replicate 60 (1 : Byte)), true, true⟩, List.replicate 60 1, by decide +kernel⟩

theorem witness_HostPacketsAreSentAndDelivered_3 : ∃ (s : State) (q : Fin 1024) (i : Nat) (j : Job) (dma : Dma) (d : List Byte),
    s.CoreOn ∧ s.startable q i 0x20 = some j ∧ pktLegal j.bytes = true ∧ dma.data = some d ∧ d.length = wordAt j.bytes 18 2 ∧ byteAt
    j.bytes 16 = 1 ∧ byteAt j.bytes 17 = 1 :=
  ⟨((withObjs' [(Obj.SQ_CONFIG_SQ_ENABLE 5, 1), (Obj.SQ_CONFIG_SQ_SIZE 5, 6), (Obj.SQ_CONFIG_SQ_CQ 5, 9), (Obj.SQ_CONFIG_SQ_STATE 5, 1), (Obj.CQ_CONFIG_CQ_ENABLE 9, 1), (Obj.CQ_CONFIG_CQ_SIZE 9, 6), (Obj.CQ_CONFIG_CQ_STATE 9, 1)] running).withHost { jobs := [({ sq := 5, index := 2, bytes := (([0, 32, 0, 0, 0, 0, 0, 0, 0, 0, 0, 0, 0, 0, 0, 0, 1, 1, 0, 60, 0, 0, 0, 0, 0, 0, 0, 0, 0, 0, 0, 0, 0, 0, 0, 0, 0, 0, 0, 0, 0, 0, 0, 0, 0, 0, 0, 0, 0, 0, 0, 0, 0, 0, 0, 0, 0, 0, 0, 0, 0, 0, 0, 0] : List Nat).map toByte) } : Job)] }), 5, 2, ({ sq := 5, index := 2, bytes := (([0, 32, 0, 0, 0, 0, 0, 0, 0, 0, 0, 0, 0, 0, 0, 0, 1, 1, 0, 60, 0, 0, 0, 0, 0, 0, 0, 0, 0, 0, 0, 0, 0, 0, 0, 0, 0, 0, 0, 0, 0, 0, 0, 0, 0, 0, 0, 0, 0, 0, 0, 0, 0, 0, 0, 0, 0, 0, 0, 0, 0, 0, 0, 0] : List Nat).map toByte) } : Job), ⟨some (List.replicate 60 (1 : Byte)), true, true⟩, List.replicate 60 1, by decide +kernel⟩

theorem witness_HostPacketsAreSentAndDelivered_4 : ∃ (s : State) (q : Fin 1024) (i : Nat) (j : Job) (dma : Dma), s.CoreOn ∧ s.startable
    q i 0x20 = some j ∧ s.sqFn q ≠ 0 ∧ (byteAt j.bytes 16 = 0 ∨ bit (byteAt j.bytes 17) 1 = true) :=
  ⟨((withObjs' [(Obj.SQ_CONFIG_SQ_ENABLE 5, 1), (Obj.SQ_CONFIG_SQ_SIZE 5, 6), (Obj.SQ_CONFIG_SQ_CQ 5, 9), (Obj.SQ_CONFIG_SQ_STATE 5, 1), (Obj.CQ_CONFIG_CQ_ENABLE 9, 1), (Obj.CQ_CONFIG_CQ_SIZE 9, 6), (Obj.CQ_CONFIG_CQ_STATE 9, 1), (Obj.VF_RESOURCES_SQ_FIRST 0, 5), (Obj.VF_RESOURCES_SQ_COUNT 0, 1)] running).withHost { jobs := [({ sq := 5, index := 2, bytes := (([0, 32, 0, 0, 0, 0, 0, 0, 0, 0, 0, 0, 0, 0, 0, 0, 0, 0, 0, 60, 5, 16, 0, 0, 0, 0, 0, 0, 0, 0, 0, 0, 0, 0, 0, 0, 0, 0, 0, 64, 0, 0, 0, 0, 0, 0, 0, 0, 0, 0, 0, 0, 0, 0, 0, 0, 0, 0, 0, 0, 0, 0, 0, 0] : List Nat).map toByte) } : Job)] }), 5, 2, ({ sq := 5, index := 2, bytes := (([0, 32, 0, 0, 0, 0, 0, 0, 0, 0, 0, 0, 0, 0, 0, 0, 0, 0, 0, 60, 5, 16, 0, 0, 0, 0, 0, 0, 0, 0, 0, 0, 0, 0, 0, 0, 0, 0, 0, 64, 0, 0, 0, 0, 0, 0, 0, 0, 0, 0, 0, 0, 0, 0, 0, 0, 0, 0, 0, 0, 0, 0, 0, 0] : List Nat).map toByte) } : Job), ⟨some (List.replicate 60 (1 : Byte)), true, true⟩, by decide +kernel⟩

theorem witness_HostPacketsAreSentAndDelivered_5 : ∃ (s : State) (q : Fin 1024) (i a : Nat) (dma : Dma) (r : TxReport) (j : Job),
    s.CoreOn ∧ s.host.reports = [r] ∧ r.sq = q ∧ r.index = i ∧ s.host.jobs.find? (Job.isAt q i) = some j ∧ j.opcode = 0x20 ∧ j.started =
    true ∧ r.stamp = some a ∧ dma.ok = true :=
  ⟨(withObjs' [(Obj.SQ_CONFIG_SQ_ENABLE 5, 1), (Obj.SQ_CONFIG_SQ_SIZE 5, 6), (Obj.SQ_CONFIG_SQ_CQ 5, 9), (Obj.SQ_CONFIG_SQ_STATE 5, 1), (Obj.CQ_CONFIG_CQ_ENABLE 9, 1), (Obj.CQ_CONFIG_CQ_SIZE 9, 6), (Obj.CQ_CONFIG_CQ_STATE 9, 1)] running).withHost { jobs := [({ sq := 5, index := 2, bytes := (([0, 32, 0, 0, 0, 0, 0, 0, 0, 0, 0, 0, 0, 0, 0, 0, 0, 0, 0, 60, 5, 16, 0, 0, 0, 0, 0, 0, 0, 0, 0, 0, 0, 0, 0, 0, 0, 0, 0, 64, 0, 0, 0, 0, 0, 0, 0, 0, 0, 0, 0, 0, 0, 0, 0, 0, 0, 0, 0, 0, 0, 0, 0, 0] : List Nat).map toByte), started := true } : Job)], reports := [⟨5, 2, some 7⟩] }, 5, 2, 7, ⟨none, true, true⟩, ⟨5, 2, some 7⟩, ({ sq := 5, index := 2, bytes := (([0, 32, 0, 0, 0, 0, 0, 0, 0, 0, 0, 0, 0, 0, 0, 0, 0, 0, 0, 60, 5, 16, 0, 0, 0, 0, 0, 0, 0, 0, 0, 0, 0, 0, 0, 0, 0, 0, 0, 64, 0, 0, 0, 0, 0, 0, 0, 0, 0, 0, 0, 0, 0, 0, 0, 0, 0, 0, 0, 0, 0, 0, 0, 0] : List Nat).map toByte), started := true } : Job), by decide +kernel⟩

theorem witness_HostPacketsAreSentAndDelivered_6 : ∃ (s : State) (q : Fin 1024) (i : Nat) (dma : Dma) (r : TxReport) (j : Job), s.CoreOn
    ∧ s.host.reports = [r] ∧ r.sq = q ∧ r.index = i ∧ s.host.jobs.find? (Job.isAt q i) = some j ∧ j.opcode = 0x20 ∧ j.started = true ∧
    r.stamp = none :=
  ⟨(withObjs' [(Obj.SQ_CONFIG_SQ_ENABLE 5, 1), (Obj.SQ_CONFIG_SQ_SIZE 5, 6), (Obj.SQ_CONFIG_SQ_CQ 5, 9), (Obj.SQ_CONFIG_SQ_STATE 5, 1), (Obj.CQ_CONFIG_CQ_ENABLE 9, 1), (Obj.CQ_CONFIG_CQ_SIZE 9, 6), (Obj.CQ_CONFIG_CQ_STATE 9, 1)] running).withHost { jobs := [({ sq := 5, index := 2, bytes := (([0, 32, 0, 0, 0, 0, 0, 0, 0, 0, 0, 0, 0, 0, 0, 0, 0, 0, 0, 60, 5, 16, 0, 0, 0, 0, 0, 0, 0, 0, 0, 0, 0, 0, 0, 0, 0, 0, 0, 64, 0, 0, 0, 0, 0, 0, 0, 0, 0, 0, 0, 0, 0, 0, 0, 0, 0, 0, 0, 0, 0, 0, 0, 0] : List Nat).map toByte), started := true } : Job)], reports := [⟨5, 2, none⟩] }, 5, 2, ⟨none, true, true⟩, ⟨5, 2, none⟩, ({ sq := 5, index := 2, bytes := (([0, 32, 0, 0, 0, 0, 0, 0, 0, 0, 0, 0, 0, 0, 0, 0, 0, 0, 0, 60, 5, 16, 0, 0, 0, 0, 0, 0, 0, 0, 0, 0, 0, 0, 0, 0, 0, 0, 0, 64, 0, 0, 0, 0, 0, 0, 0, 0, 0, 0, 0, 0, 0, 0, 0, 0, 0, 0, 0, 0, 0, 0, 0, 0] : List Nat).map toByte), started := true } : Job), by decide +kernel⟩

theorem witness_HostPacketsAreSentAndDelivered_7 : ∃ (s : State) (q : Fin 1024) (i : Nat) (j : Job) (dma : Dma), s.CoreOn ∧ s.startable
    q i 0x21 = some j ∧ zeroBytes j.bytes [(16, 4), (32, 32)] = true ∧ wordAt j.bytes 20 4 % 64 = 0 ∧ 2048 ≤ wordAt j.bytes 20 4 ∧
    wordAt j.bytes 20 4 ≤ 16384 ∧ wordAt j.bytes 24 8 % 64 = 0 :=
  ⟨((withObjs' [(Obj.SQ_CONFIG_SQ_ENABLE 5, 1), (Obj.SQ_CONFIG_SQ_SIZE 5, 6), (Obj.SQ_CONFIG_SQ_CQ 5, 9), (Obj.SQ_CONFIG_SQ_STATE 5, 1), (Obj.CQ_CONFIG_CQ_ENABLE 9, 1), (Obj.CQ_CONFIG_CQ_SIZE 9, 6), (Obj.CQ_CONFIG_CQ_STATE 9, 1)] running).withHost { jobs := [({ sq := 5, index := 2, bytes := (([0, 33, 0, 0, 0, 0, 0, 0, 0, 0, 0, 0, 0, 0, 0, 0, 0, 0, 0, 0, 0, 0, 8, 0, 0, 0, 0, 0, 0, 0, 4, 0, 0, 0, 0, 0, 0, 0, 0, 0, 0, 0, 0, 0, 0, 0, 0, 0, 0, 0, 0, 0, 0, 0, 0, 0, 0, 0, 0, 0, 0, 0, 0, 0] : List Nat).map toByte) } : Job)] }), 5, 2, ({ sq := 5, index := 2, bytes := (([0, 33, 0, 0, 0, 0, 0, 0, 0, 0, 0, 0, 0, 0, 0, 0, 0, 0, 0, 0, 0, 0, 8, 0, 0, 0, 0, 0, 0, 0, 4, 0, 0, 0, 0, 0, 0, 0, 0, 0, 0, 0, 0, 0, 0, 0, 0, 0, 0, 0, 0, 0, 0, 0, 0, 0, 0, 0, 0, 0, 0, 0, 0, 0] : List Nat).map toByte) } : Job), ⟨none, true, true⟩, by decide +kernel⟩

theorem witness_HostPacketsAreSentAndDelivered_8 : ∃ (s : State) (q : Fin 1024) (i : Nat) (j : Job) (dma : Dma), s.CoreOn ∧ s.startable
    q i 0x21 = some j ∧ (wordAt j.bytes 20 4 % 64 ≠ 0 ∨ wordAt j.bytes 20 4 < 2048 ∨ 16384 < wordAt j.bytes 20 4 ∨ wordAt j.bytes 24 8 %
    64 ≠ 0) :=
  ⟨((withObjs' [(Obj.SQ_CONFIG_SQ_ENABLE 5, 1), (Obj.SQ_CONFIG_SQ_SIZE 5, 6), (Obj.SQ_CONFIG_SQ_CQ 5, 9), (Obj.SQ_CONFIG_SQ_STATE 5, 1), (Obj.CQ_CONFIG_CQ_ENABLE 9, 1), (Obj.CQ_CONFIG_CQ_SIZE 9, 6), (Obj.CQ_CONFIG_CQ_STATE 9, 1)] running).withHost { jobs := [({ sq := 5, index := 2, bytes := (([0, 33, 0, 0, 0, 0, 0, 0, 0, 0, 0, 0, 0, 0, 0, 0, 0, 0, 0, 0, 0, 0, 8, 0, 0, 0, 0, 0, 0, 0, 0, 1, 0, 0, 0, 0, 0, 0, 0, 0, 0, 0, 0, 0, 0, 0, 0, 0, 0, 0, 0, 0, 0, 0, 0, 0, 0, 0, 0, 0, 0, 0, 0, 0] : List Nat).map toByte) } : Job)] }), 5, 2, ({ sq := 5, index := 2, bytes := (([0, 33, 0, 0, 0, 0, 0, 0, 0, 0, 0, 0, 0, 0, 0, 0, 0, 0, 0, 0, 0, 0, 8, 0, 0, 0, 0, 0, 0, 0, 0, 1, 0, 0, 0, 0, 0, 0, 0, 0, 0, 0, 0, 0, 0, 0, 0, 0, 0, 0, 0, 0, 0, 0, 0, 0, 0, 0, 0, 0, 0, 0, 0, 0] : List Nat).map toByte) } : Job), ⟨none, true, true⟩, by decide +kernel⟩

theorem witness_HostPacketsAreSentAndDelivered_9 : ∃ (s : State) (dma : Dma) (k : Pkt) (j : Job), s.CoreOn ∧ Table.get noList s.net.tx
    portHP = [k] ∧ (s.hpBuffers k.cls).head? = some j ∧ k.bytes.length + 16 ≤ wordAt j.bytes 20 4 ∧ dma.ok = true :=
  ⟨((((withObjs' [(Obj.SQ_CONFIG_SQ_ENABLE 5, 1), (Obj.SQ_CONFIG_SQ_SIZE 5, 6), (Obj.SQ_CONFIG_SQ_CQ 5, 9), (Obj.SQ_CONFIG_SQ_STATE 5, 1), (Obj.CQ_CONFIG_CQ_ENABLE 9, 1), (Obj.CQ_CONFIG_CQ_SIZE 9, 6), (Obj.CQ_CONFIG_CQ_STATE 9, 1), (Obj.HOST_CTRL_HP_RING_C 2, 0x8005)] running).withHost { jobs := [({ sq := 5, index := 2, bytes := (([0, 33, 0, 0, 0, 0, 0, 0, 0, 0, 0, 0, 0, 0, 0, 0, 0, 0, 0, 0, 0, 0, 8, 0, 0, 0, 0, 0, 0, 0, 4, 0, 0, 0, 0, 0, 0, 0, 0, 0, 0, 0, 0, 0, 0, 0, 0, 0, 0, 0, 0, 0, 0, 0, 0, 0, 0, 0, 0, 0, 0, 0, 0, 0] : List Nat).map toByte), started := true, rx := true } : Job)] }).withNet { tx := [(128, [({ id := 3, bytes := withFcs (List.replicate 60 (7#8)), inPort := 5, requester := 5, dest := 128, cls := 2 } : Pkt)])] })), ⟨none, true, true⟩, ({ id := 3, bytes := withFcs (List.replicate 60 (7#8)), inPort := 5, requester := 5, dest := 128, cls := 2 } : Pkt), ({ sq := 5, index := 2, bytes := (([0, 33, 0, 0, 0, 0, 0, 0, 0, 0, 0, 0, 0, 0, 0, 0, 0, 0, 0, 0, 0, 0, 8, 0, 0, 0, 0, 0, 0, 0, 4, 0, 0, 0, 0, 0, 0, 0, 0, 0, 0, 0, 0, 0, 0, 0, 0, 0, 0, 0, 0, 0, 0, 0, 0, 0, 0, 0, 0, 0, 0, 0, 0, 0] : List Nat).map toByte), started := true, rx := true } : Job), by decide +kernel⟩

theorem witness_HostPacketsAreSentAndDelivered_10 : ∃ (s : State) (dma : Dma) (k : Pkt) (j : Job), s.CoreOn ∧ Table.get noList s.net.tx
    portHP = [k] ∧ (s.hpBuffers k.cls).head? = some j ∧ wordAt j.bytes 20 4 < k.bytes.length + 16 :=
  ⟨((((withObjs' [(Obj.SQ_CONFIG_SQ_ENABLE 5, 1), (Obj.SQ_CONFIG_SQ_SIZE 5, 6), (Obj.SQ_CONFIG_SQ_CQ 5, 9), (Obj.SQ_CONFIG_SQ_STATE 5, 1), (Obj.CQ_CONFIG_CQ_ENABLE 9, 1), (Obj.CQ_CONFIG_CQ_SIZE 9, 6), (Obj.CQ_CONFIG_CQ_STATE 9, 1), (Obj.HOST_CTRL_HP_RING_C 2, 0x8005)] running).withHost { jobs := [({ sq := 5, index := 2, bytes := (([0, 33, 0, 0, 0, 0, 0, 0, 0, 0, 0, 0, 0, 0, 0, 0, 0, 0, 0, 0, 0, 0, 0, 79, 0, 0, 0, 0, 0, 0, 4, 0, 0, 0, 0, 0, 0, 0, 0, 0, 0, 0, 0, 0, 0, 0, 0, 0, 0, 0, 0, 0, 0, 0, 0, 0, 0, 0, 0, 0, 0, 0, 0, 0] : List Nat).map toByte), started := true, rx := true } : Job)] }).withNet { tx := [(128, [({ id := 3, bytes := withFcs (List.replicate 60 (7#8)), inPort := 5, requester := 5, dest := 128, cls := 2 } : Pkt)])] })), ⟨none, true, true⟩, ({ id := 3, bytes := withFcs (List.replicate 60 (7#8)), inPort := 5, requester := 5, dest := 128, cls := 2 } : Pkt), ({ sq := 5, index := 2, bytes := (([0, 33, 0, 0, 0, 0, 0, 0, 0, 0, 0, 0, 0, 0, 0, 0, 0, 0, 0, 0, 0, 0, 0, 79, 0, 0, 0, 0, 0, 0, 4, 0, 0, 0, 0, 0, 0, 0, 0, 0, 0, 0, 0, 0, 0, 0, 0, 0, 0, 0, 0, 0, 0, 0, 0, 0, 0, 0, 0, 0, 0, 0, 0, 0] : List Nat).map toByte), started := true, rx := true } : Job), by decide +kernel⟩

theorem witness_RingsAreServed_1 : ∃ (s : State) (f : Fin 33) (p : Fin 1024) (q v : Nat), s.CoreOn ∧ s.sqPage f p = some (q, true) ∧
    s.on (Obj.SQ_CONFIG_SQ_ENABLE q) = true ∧ v < 2 ^ (s.get (Obj.SQ_CONFIG_SQ_SIZE q) + 1) ∧ ringUsed (s.get (Obj.SQ_CONFIG_SQ_SIZE q))
    (s.get (Obj.SQ_CONFIG_SQ_HEAD q)) v ≤ 2 ^ s.get (Obj.SQ_CONFIG_SQ_SIZE q) :=
  ⟨(withObjs' [(Obj.SQ_CONFIG_SQ_ENABLE 5, 1), (Obj.SQ_CONFIG_SQ_SIZE 5, 6), (Obj.SQ_CONFIG_SQ_CQ 5, 9), (Obj.SQ_CONFIG_SQ_STATE 5, 1), (Obj.CQ_CONFIG_CQ_ENABLE 9, 1), (Obj.CQ_CONFIG_CQ_SIZE 9, 6), (Obj.CQ_CONFIG_CQ_STATE 9, 1)] running), 0, 5, 5, 64, by decide +kernel⟩

theorem witness_RingsAreServed_2 : ∃ (s : State) (f : Fin 33) (p : Fin 1024) (q v : Nat) (o : Bool), s.CoreOn ∧ s.sqPage f p = some (q,
    o) ∧ (o = false ∨ s.on (Obj.SQ_CONFIG_SQ_ENABLE q) = false ∨ 2 ^ (s.get (Obj.SQ_CONFIG_SQ_SIZE q) + 1) ≤ v ∨ 2 ^ s.get
    (Obj.SQ_CONFIG_SQ_SIZE q) < ringUsed (s.get (Obj.SQ_CONFIG_SQ_SIZE q)) (s.get (Obj.SQ_CONFIG_SQ_HEAD q)) v) :=
  ⟨(withObjs' [(Obj.SQ_CONFIG_SQ_ENABLE 5, 1), (Obj.SQ_CONFIG_SQ_SIZE 5, 6), (Obj.SQ_CONFIG_SQ_CQ 5, 9), (Obj.SQ_CONFIG_SQ_STATE 5, 1), (Obj.CQ_CONFIG_CQ_ENABLE 9, 1), (Obj.CQ_CONFIG_CQ_SIZE 9, 6), (Obj.CQ_CONFIG_CQ_STATE 9, 1)] running), 0, 5, 5, 65, true, by decide +kernel⟩

theorem witness_RingsAreServed_3 : ∃ (s : State) (f : Fin 33) (p : Fin 1024) (q v : Nat), s.CoreOn ∧ s.cqPage f p = some (q, true) ∧
    s.on (Obj.CQ_CONFIG_CQ_ENABLE q) = true ∧ v < 2 ^ (s.get (Obj.CQ_CONFIG_CQ_SIZE q) + 1) ∧ ringUsed (s.get (Obj.CQ_CONFIG_CQ_SIZE q))
    (s.get (Obj.CQ_CONFIG_CQ_HEAD q)) v ≤ ringUsed (s.get (Obj.CQ_CONFIG_CQ_SIZE q)) (s.get (Obj.CQ_CONFIG_CQ_HEAD q)) (s.get
    (Obj.CQ_CONFIG_CQ_TAIL q)) ∧ (s.cq q).oldHead = none :=
  ⟨(withObjs' [(Obj.SQ_CONFIG_SQ_ENABLE 5, 1), (Obj.SQ_CONFIG_SQ_SIZE 5, 6), (Obj.SQ_CONFIG_SQ_CQ 5, 9), (Obj.SQ_CONFIG_SQ_STATE 5, 1), (Obj.CQ_CONFIG_CQ_ENABLE 9, 1), (Obj.CQ_CONFIG_CQ_SIZE 9, 6), (Obj.CQ_CONFIG_CQ_STATE 9, 1)] running).set (Obj.CQ_CONFIG_CQ_TAIL 9) 3, 0, 9, 9, 3, by decide +kernel⟩

theorem witness_RingsAreServed_4 : ∃ (s : State) (f : Fin 33) (p : Fin 1024) (q : Nat) (v : Nat), s.CoreOn ∧ s.sqPage f p = none :=
  ⟨(withObjs' [(Obj.SQ_CONFIG_SQ_ENABLE 5, 1), (Obj.SQ_CONFIG_SQ_SIZE 5, 6), (Obj.SQ_CONFIG_SQ_CQ 5, 9), (Obj.SQ_CONFIG_SQ_STATE 5, 1), (Obj.CQ_CONFIG_CQ_ENABLE 9, 1), (Obj.CQ_CONFIG_CQ_SIZE 9, 6), (Obj.CQ_CONFIG_CQ_STATE 9, 1)] running), 3, 5, 5, 65, by decide +kernel⟩

theorem witness_RingsAreServed_5 : ∃ (s : State) (f : Fin 33) (p : Fin 1024) (q v : Nat) (o : Bool), s.CoreOn ∧ s.cqPage f p = some (q,
    o) ∧ (o = false ∨ s.on (Obj.CQ_CONFIG_CQ_ENABLE q) = false ∨ 2 ^ (s.get (Obj.CQ_CONFIG_CQ_SIZE q) + 1) ≤ v ∨ ringUsed (s.get
    (Obj.CQ_CONFIG_CQ_SIZE q)) (s.get (Obj.CQ_CONFIG_CQ_HEAD q)) (s.get (Obj.CQ_CONFIG_CQ_TAIL q)) < ringUsed (s.get
    (Obj.CQ_CONFIG_CQ_SIZE q)) (s.get (Obj.CQ_CONFIG_CQ_HEAD q)) v) :=
  ⟨(withObjs' [(Obj.SQ_CONFIG_SQ_ENABLE 5, 1), (Obj.SQ_CONFIG_SQ_SIZE 5, 6), (Obj.SQ_CONFIG_SQ_CQ 5, 9), (Obj.SQ_CONFIG_SQ_STATE 5, 1), (Obj.CQ_CONFIG_CQ_ENABLE 9, 1), (Obj.CQ_CONFIG_CQ_SIZE 9, 6), (Obj.CQ_CONFIG_CQ_STATE 9, 1)] running).set (Obj.CQ_CONFIG_CQ_TAIL 9) 3, 0, 9, 9, 4, true, by decide +kernel⟩

theorem witness_RingsAreServed_6 : ∃ (s : State) (f : Fin 33) (p : Fin 1024) (x : Fin 4) (e : List Byte) (q : Nat), s.CoreOn ∧ s.sqPage
    f p = some (q, true) ∧ e.length = 64 :=
  ⟨(withObjs' [(Obj.SQ_CONFIG_SQ_ENABLE 5, 1), (Obj.SQ_CONFIG_SQ_SIZE 5, 6), (Obj.SQ_CONFIG_SQ_CQ 5, 9), (Obj.SQ_CONFIG_SQ_STATE 5, 1), (Obj.CQ_CONFIG_CQ_ENABLE 9, 1), (Obj.CQ_CONFIG_CQ_SIZE 9, 6), (Obj.CQ_CONFIG_CQ_STATE 9, 1)] running), 0, 5, 1, (([128, 0, 0, 0, 0, 0, 0, 0, 0, 0, 0, 0, 0, 0, 0, 0, 0, 0, 0, 0, 0, 0, 0, 0, 0, 0, 0, 0, 0, 0, 0, 0, 0, 0, 0, 0, 0, 0, 0, 0, 0, 0, 0, 0, 0, 0, 0, 0, 0, 0, 0, 0, 0, 0, 0, 0, 0, 0, 0, 0, 0, 0, 0, 0] : List Nat).map toByte), 5, by decide +kernel⟩

theorem witness_RingsAreServed_7 : ∃ (s : State) (f : Fin 33) (p : Fin 1024) (x : Fin 4) (e : List Byte) (q : Nat), s.CoreOn ∧ s.sqPage
    f p = some (q, true) ∧ e.length ≠ 64 :=
  ⟨(withObjs' [(Obj.SQ_CONFIG_SQ_ENABLE 5, 1), (Obj.SQ_CONFIG_SQ_SIZE 5, 6), (Obj.SQ_CONFIG_SQ_CQ 5, 9), (Obj.SQ_CONFIG_SQ_STATE 5, 1), (Obj.CQ_CONFIG_CQ_ENABLE 9, 1), (Obj.CQ_CONFIG_CQ_SIZE 9, 6), (Obj.CQ_CONFIG_CQ_STATE 9, 1)] running), 0, 5, 1, [], 5, by decide +kernel⟩

theorem witness_RingsAreServed_8 : ∃ (s : State) (mem : List (Option (List Byte))) (r : Nat), s.CoreOn ∧ (s.host.visitAt.all (fun b =>
    Nat.ble (b + 2) s.time.now) = true) ∧ s.nextVisit = some r :=
  ⟨(withObjs' [(Obj.SQ_CONFIG_SQ_ENABLE 5, 1), (Obj.SQ_CONFIG_SQ_SIZE 5, 6), (Obj.SQ_CONFIG_SQ_CQ 5, 9), (Obj.SQ_CONFIG_SQ_STATE 5, 1), (Obj.CQ_CONFIG_CQ_ENABLE 9, 1), (Obj.CQ_CONFIG_CQ_SIZE 9, 6), (Obj.CQ_CONFIG_CQ_STATE 9, 1), (Obj.SQ_CONFIG_SQ_TAIL 5, 1), (Obj.SQ_CONFIG_SQ_WEIGHT 5, 4), (Obj.SQ_CONFIG_SQ_BURST 5, 8)] running).newRound, [some (([128, 0, 0, 0, 0, 0, 0, 0, 0, 0, 0, 0, 0, 0, 0, 0, 0, 0, 0, 0, 0, 0, 0, 0, 0, 0, 0, 0, 0, 0, 0, 0, 0, 0, 0, 0, 0, 0, 0, 0, 0, 0, 0, 0, 0, 0, 0, 0, 0, 0, 0, 0, 0, 0, 0, 0, 0, 0, 0, 0, 0, 0, 0, 0] : List Nat).map toByte)], 5, by decide +kernel⟩

theorem witness_RingsAreServed_9 : ∃ (s : State) (q : Fin 1024), s.CoreOn ∧ s.get (Obj.CQ_CONFIG_CQ_ENABLE q) ≠ 0 ∧ s.get
    (Obj.CQ_CONFIG_CQ_STATE q) ≠ 3 ∧ s.boundTables q = [] ∧ (s.cq q).stash ≠ [] ∧ 0 < s.cqRoom q ∧ ((s.cq q).drained.all (fun b =>
    Nat.ble (b + 4) s.time.now) = true) :=
  ⟨((withObjs' [(Obj.SQ_CONFIG_SQ_ENABLE 5, 1), (Obj.SQ_CONFIG_SQ_SIZE 5, 6), (Obj.SQ_CONFIG_SQ_CQ 5, 9), (Obj.SQ_CONFIG_SQ_STATE 5, 1), (Obj.CQ_CONFIG_CQ_ENABLE 9, 1), (Obj.CQ_CONFIG_CQ_SIZE 9, 6), (Obj.CQ_CONFIG_CQ_STATE 9, 1)] running).withHost {}).setCq 9 { stash := [⟨5, 0⟩] }, 9, by decide +kernel⟩

theorem witness_RingsAreServed_10 : ∃ (s : State) (q : Fin 1024), s.CoreOn ∧ s.get (Obj.CQ_CONFIG_CQ_ENABLE q) ≠ 0 ∧ s.get
    (Obj.CQ_CONFIG_CQ_STATE q) ≠ 3 ∧ s.boundTables q = [] ∧ (s.cq q).stash ≠ [] ∧ 0 < s.cqRoom q ∧ ((s.cq q).drained.all (fun b =>
    Nat.ble (b + 4) s.time.now) = true) :=
  ⟨((withObjs' [(Obj.SQ_CONFIG_SQ_ENABLE 5, 1), (Obj.SQ_CONFIG_SQ_SIZE 5, 6), (Obj.SQ_CONFIG_SQ_CQ 5, 9), (Obj.SQ_CONFIG_SQ_STATE 5, 1), (Obj.CQ_CONFIG_CQ_ENABLE 9, 1), (Obj.CQ_CONFIG_CQ_SIZE 9, 6), (Obj.CQ_CONFIG_CQ_STATE 9, 1)] running).withHost {}).setCq 9 { stash := [⟨5, 0⟩] }, 9, by decide +kernel⟩

theorem witness_RingsAreServed_11 : ∃ (s : State) (q : Fin 1024) (w : Nat × Bool) (l : List (Nat × Bool)), s.CoreOn ∧ (s.cq
    q).unsignalled = w :: l ∧ s.get (Obj.CQ_CONFIG_CQ_VECTOR q) ≠ 0xFFFF ∧ w.1 + s.get (Obj.CQ_CONFIG_CQ_COAL_NS q) ≤ s.time.now :=
  ⟨((withObjs' [(Obj.SQ_CONFIG_SQ_ENABLE 5, 1), (Obj.SQ_CONFIG_SQ_SIZE 5, 6), (Obj.SQ_CONFIG_SQ_CQ 5, 9), (Obj.SQ_CONFIG_SQ_STATE 5, 1), (Obj.CQ_CONFIG_CQ_ENABLE 9, 1), (Obj.CQ_CONFIG_CQ_SIZE 9, 6), (Obj.CQ_CONFIG_CQ_STATE 9, 1)] running).set (Obj.CQ_CONFIG_CQ_VECTOR 9) 3).setCq 9 { unsignalled := [(0, true)] }, 9, (0, true), [], by decide +kernel⟩

theorem witness_RingsAreServed_12 : ∃ (s : State) (q : Fin 1024), s.CoreOn ∧ (s.cq q).unsignalled = [] :=
  ⟨(withObjs' [(Obj.SQ_CONFIG_SQ_ENABLE 5, 1), (Obj.SQ_CONFIG_SQ_SIZE 5, 6), (Obj.SQ_CONFIG_SQ_CQ 5, 9), (Obj.SQ_CONFIG_SQ_STATE 5, 1), (Obj.CQ_CONFIG_CQ_ENABLE 9, 1), (Obj.CQ_CONFIG_CQ_SIZE 9, 6), (Obj.CQ_CONFIG_CQ_STATE 9, 1)] running), 9, by decide +kernel⟩

theorem witness_RingsAreEnabledAndLent_1 : ∃ (s : State) (q : Nat) (m v : Nat), s.Accepts m (Obj.SQ_CONFIG_SQ_ENABLE q) v ∧ s.selectedSq
    m = some q ∧ v = 1 ∧ s.sqLive q = false ∧ s.sqCq q < 1024 ∧ s.get (Obj.CQ_CONFIG_CQ_ENABLE (s.sqCq q)) = 1 ∧ s.cqFn (s.sqCq q) =
    s.sqFn q ∧ s.boundTables (s.sqCq q) = [] ∧ s.get Obj.EVENT_CTRL_EVENT_CQ ≠ s.sqCq q ∧ (s.cq (s.sqCq q)).stash = [] :=
  ⟨(withObjs' [(Obj.SQ_CONFIG_SQ_ENABLE 5, 1), (Obj.SQ_CONFIG_SQ_SIZE 5, 6), (Obj.SQ_CONFIG_SQ_CQ 5, 9), (Obj.SQ_CONFIG_SQ_STATE 5, 1), (Obj.CQ_CONFIG_CQ_ENABLE 9, 1), (Obj.CQ_CONFIG_CQ_SIZE 9, 6), (Obj.CQ_CONFIG_CQ_STATE 9, 1)] running).set (Obj.SQ_CONFIG_SQ_ENABLE 5) 0 |>.set (Obj.SQ_CONFIG_SQ_SELECT 1) 5, 5, 1, 1, by decide +kernel⟩

theorem witness_RingsAreEnabledAndLent_2 : ∃ (s : State) (q m v : Nat) (w : State), s.Accepts m (Obj.SQ_CONFIG_SQ_ENABLE q) v ∧
    s.selectedSq m = some q ∧ v = 0 ∧ s.on (Obj.SQ_CONFIG_SQ_ENABLE q) = true ∧ w = ((s.abortRx q).set (Obj.SQ_CONFIG_SQ_ENABLE q)
    0).countJobs ∧ w.sqEmpty q = true :=
  ⟨(withObjs' [(Obj.SQ_CONFIG_SQ_ENABLE 5, 1), (Obj.SQ_CONFIG_SQ_SIZE 5, 6), (Obj.SQ_CONFIG_SQ_CQ 5, 9), (Obj.SQ_CONFIG_SQ_STATE 5, 1), (Obj.CQ_CONFIG_CQ_ENABLE 9, 1), (Obj.CQ_CONFIG_CQ_SIZE 9, 6), (Obj.CQ_CONFIG_CQ_STATE 9, 1)] running).set (Obj.SQ_CONFIG_SQ_SELECT 1) 5, 5, 1, 0, ((((withObjs' [(Obj.SQ_CONFIG_SQ_ENABLE 5, 1), (Obj.SQ_CONFIG_SQ_SIZE 5, 6), (Obj.SQ_CONFIG_SQ_CQ 5, 9), (Obj.SQ_CONFIG_SQ_STATE 5, 1), (Obj.CQ_CONFIG_CQ_ENABLE 9, 1), (Obj.CQ_CONFIG_CQ_SIZE 9, 6), (Obj.CQ_CONFIG_CQ_STATE 9, 1)] running).set (Obj.SQ_CONFIG_SQ_SELECT 1) 5).abortRx 5).set (Obj.SQ_CONFIG_SQ_ENABLE 5) 0).countJobs, by decide +kernel⟩

theorem witness_RingsAreEnabledAndLent_3 : ∃ (s : State) (q m v : Nat) (w : State), s.Accepts m (Obj.SQ_CONFIG_SQ_ENABLE q) v ∧
    s.selectedSq m = some q ∧ v = 0 ∧ s.on (Obj.SQ_CONFIG_SQ_ENABLE q) = true ∧ w = ((s.abortRx q).set (Obj.SQ_CONFIG_SQ_ENABLE q)
    0).countJobs ∧ w.sqEmpty q = false :=
  ⟨(withObjs' [(Obj.SQ_CONFIG_SQ_ENABLE 5, 1), (Obj.SQ_CONFIG_SQ_SIZE 5, 6), (Obj.SQ_CONFIG_SQ_CQ 5, 9), (Obj.SQ_CONFIG_SQ_STATE 5, 1), (Obj.CQ_CONFIG_CQ_ENABLE 9, 1), (Obj.CQ_CONFIG_CQ_SIZE 9, 6), (Obj.CQ_CONFIG_CQ_STATE 9, 1)] running).set (Obj.SQ_CONFIG_SQ_SELECT 1) 5 |>.set (Obj.SQ_CONFIG_SQ_TAIL 5) 1, 5, 1, 0, ((((withObjs' [(Obj.SQ_CONFIG_SQ_ENABLE 5, 1), (Obj.SQ_CONFIG_SQ_SIZE 5, 6), (Obj.SQ_CONFIG_SQ_CQ 5, 9), (Obj.SQ_CONFIG_SQ_STATE 5, 1), (Obj.CQ_CONFIG_CQ_ENABLE 9, 1), (Obj.CQ_CONFIG_CQ_SIZE 9, 6), (Obj.CQ_CONFIG_CQ_STATE 9, 1)] running).set (Obj.SQ_CONFIG_SQ_SELECT 1) 5 |>.set (Obj.SQ_CONFIG_SQ_TAIL 5) 1).abortRx 5).set (Obj.SQ_CONFIG_SQ_ENABLE 5) 0).countJobs, by decide +kernel⟩

theorem witness_RingsAreEnabledAndLent_4 : ∃ (s : State) (q : Nat) (m v : Nat), s.Accepts m (Obj.CQ_CONFIG_CQ_ENABLE q) v ∧ s.selectedCq
    m = some q ∧ v = 1 ∧ s.on (Obj.CQ_CONFIG_CQ_ENABLE q) = false :=
  ⟨withObjs' [(Obj.CQ_CONFIG_CQ_SELECT 1, 9), (Obj.CQ_CONFIG_CQ_SIZE 9, 6)] running, 9, 1, 1, by decide +kernel⟩

theorem witness_RingsAreEnabledAndLent_5 : ∃ (s : State) (q : Nat) (m v : Nat), s.Canonical ∧ s.Accepts m (Obj.CQ_CONFIG_CQ_ENABLE q) v
    ∧ s.selectedCq m = some q ∧ v = 0 ∧ s.on (Obj.CQ_CONFIG_CQ_ENABLE q) = true ∧ q < 1024 ∧ (∃ r, r < 1024 ∧ s.sqLive r = true ∧ s.sqCq
    r = q) ∧ s.sec.fusing = none :=
  ⟨(withObjs' [(Obj.SQ_CONFIG_SQ_ENABLE 5, 1), (Obj.SQ_CONFIG_SQ_SIZE 5, 6), (Obj.SQ_CONFIG_SQ_CQ 5, 9), (Obj.SQ_CONFIG_SQ_STATE 5, 1), (Obj.CQ_CONFIG_CQ_ENABLE 9, 1), (Obj.CQ_CONFIG_CQ_SIZE 9, 6), (Obj.CQ_CONFIG_CQ_STATE 9, 1)] running).set (Obj.CQ_CONFIG_CQ_SELECT 1) 9, 9, 1, 0, by decide +kernel⟩

theorem witness_RingsAreEnabledAndLent_6 : ∃ (s : State) (u : Fin 32) (k : Fin 4) (m v : Nat), s.Canonical ∧ s.Accepts m (objKey 0
    (0x1130 + u.val) (1 + k.val)) v ∧ (ruleVfResources u (1 + k.val) (objKey 0 (0x1130 + u.val) (1 + k.val)) v s).1 = .ok ∧ s.sec.fusing
    = none :=
  ⟨running, 3, 0, 1, 7, by decide +kernel⟩

theorem witness_RingsAreEnabledAndLent_7 : ∃ (s : State) (u : Fin 32) (m v : Nat), s.Canonical ∧ s.Accepts m (objKey 0 (0x1130 + u.val)
    1) v ∧ 1024 < v + s.get (Obj.VF_RESOURCES_SQ_COUNT u) ∧ s.sec.fusing = none :=
  ⟨withObjs' [(Obj.VF_RESOURCES_SQ_COUNT 3, 8)] running, 3, 1, 1020, by decide +kernel⟩

theorem witness_RingsAreEnabledAndLent_8 : ∃ (s : State) (u w : Fin 32) (m v : Nat), s.Canonical ∧ s.Accepts m (objKey 0 (0x1130 +
    u.val) 1) v ∧ w ≠ u ∧ 0 < s.get (Obj.VF_RESOURCES_SQ_COUNT u) ∧ 0 < s.get (Obj.VF_RESOURCES_SQ_COUNT w) ∧ v < s.get
    (Obj.VF_RESOURCES_SQ_FIRST w) + s.get (Obj.VF_RESOURCES_SQ_COUNT w) ∧ s.get (Obj.VF_RESOURCES_SQ_FIRST w) < v + s.get
    (Obj.VF_RESOURCES_SQ_COUNT u) ∧ s.sec.fusing = none :=
  ⟨withObjs' [(Obj.VF_RESOURCES_SQ_COUNT 3, 4), (Obj.VF_RESOURCES_SQ_FIRST 4, 10), (Obj.VF_RESOURCES_SQ_COUNT 4, 4)] running, 3, 4, 1, 7, by decide +kernel⟩

theorem witness_RingsAreEnabledAndLent_9 : ∃ (s : State) (u : Fin 32) (i : Nat) (m v : Nat), s.Canonical ∧ s.Accepts m (objKey 0 (0x1130
    + u.val) 1) v ∧ v + s.get (Obj.VF_RESOURCES_SQ_COUNT u) ≤ 1024 ∧ (∀ w : Fin 32, w ≠ u → s.get (Obj.VF_RESOURCES_SQ_COUNT u) = 0 ∨
    s.get (Obj.VF_RESOURCES_SQ_COUNT w) = 0 ∨ s.get (Obj.VF_RESOURCES_SQ_FIRST w) + s.get (Obj.VF_RESOURCES_SQ_COUNT w) ≤ v ∨ v + s.get
    (Obj.VF_RESOURCES_SQ_COUNT u) ≤ s.get (Obj.VF_RESOURCES_SQ_FIRST w)) ∧ i < s.get (Obj.VF_RESOURCES_SQ_COUNT u) ∧ (s.sqLive (v + i) =
    true ∨ s.sqLive (s.get (Obj.VF_RESOURCES_SQ_FIRST u) + i) = true) ∧ s.sec.fusing = none :=
  ⟨withObjs' [(Obj.VF_RESOURCES_SQ_COUNT 3, 4), (Obj.SQ_CONFIG_SQ_ENABLE 5, 1)] running, 3, 0, 1, 5, by decide +kernel⟩

theorem witness_PcieResetsAndLinkChanges_1 : ∃ (s : State) (f : Fin 33), s.CoreOn ∧ f.val ≠ 0 :=
  ⟨(withObjs' [(Obj.SQ_CONFIG_SQ_ENABLE 5, 1), (Obj.SQ_CONFIG_SQ_SIZE 5, 6), (Obj.SQ_CONFIG_SQ_CQ 5, 9), (Obj.SQ_CONFIG_SQ_STATE 5, 1), (Obj.CQ_CONFIG_CQ_ENABLE 9, 1), (Obj.CQ_CONFIG_CQ_SIZE 9, 6), (Obj.CQ_CONFIG_CQ_STATE 9, 1)] running), 3, by decide +kernel⟩

theorem witness_PcieResetsAndLinkChanges_2 : ∃ (s : State), s.CoreOn :=
  ⟨(withObjs' [(Obj.SQ_CONFIG_SQ_ENABLE 5, 1), (Obj.SQ_CONFIG_SQ_SIZE 5, 6), (Obj.SQ_CONFIG_SQ_CQ 5, 9), (Obj.SQ_CONFIG_SQ_STATE 5, 1), (Obj.CQ_CONFIG_CQ_ENABLE 9, 1), (Obj.CQ_CONFIG_CQ_SIZE 9, 6), (Obj.CQ_CONFIG_CQ_STATE 9, 1)] running), by decide +kernel⟩

theorem witness_PcieResetsAndLinkChanges_3 : ∃ (s : State), s.CoreOn :=
  ⟨(withObjs' [(Obj.SQ_CONFIG_SQ_ENABLE 5, 1), (Obj.SQ_CONFIG_SQ_SIZE 5, 6), (Obj.SQ_CONFIG_SQ_CQ 5, 9), (Obj.SQ_CONFIG_SQ_STATE 5, 1), (Obj.CQ_CONFIG_CQ_ENABLE 9, 1), (Obj.CQ_CONFIG_CQ_SIZE 9, 6), (Obj.CQ_CONFIG_CQ_STATE 9, 1)] running), by decide +kernel⟩

theorem witness_PcieResetsAndLinkChanges_4 : ∃ (s : State), s.CoreOn ∧ s.on Obj.PCIE_LINK_LINK_UP = true :=
  ⟨(withObjs' [(Obj.SQ_CONFIG_SQ_ENABLE 5, 1), (Obj.SQ_CONFIG_SQ_SIZE 5, 6), (Obj.SQ_CONFIG_SQ_CQ 5, 9), (Obj.SQ_CONFIG_SQ_STATE 5, 1), (Obj.CQ_CONFIG_CQ_ENABLE 9, 1), (Obj.CQ_CONFIG_CQ_SIZE 9, 6), (Obj.CQ_CONFIG_CQ_STATE 9, 1)] running).set Obj.PCIE_LINK_LINK_UP 1, by decide +kernel⟩

theorem witness_PcieResetsAndLinkChanges_5 : ∃ (s : State) (v : Fin 6) (w : Fin 5) (n : Fin 33), s.Canonical ∧ s.CoreOn ∧ s.on
    Obj.PCIE_LINK_LINK_UP = false :=
  ⟨(withObjs' [(Obj.SQ_CONFIG_SQ_ENABLE 5, 1), (Obj.SQ_CONFIG_SQ_SIZE 5, 6), (Obj.SQ_CONFIG_SQ_CQ 5, 9), (Obj.SQ_CONFIG_SQ_STATE 5, 1), (Obj.CQ_CONFIG_CQ_ENABLE 9, 1), (Obj.CQ_CONFIG_CQ_SIZE 9, 6), (Obj.CQ_CONFIG_CQ_STATE 9, 1)] running), 4, 4, 2, by decide +kernel⟩

theorem witness_PcieResetsAndLinkChanges_6 : ∃ (s : State) (f : Fin 33) (v : Fin 1024), s.CoreOn ∧ s.msix.fnMasked = [] ∧
    s.msix.unmasked = [] ∧ s.msix.pba = [vecKey f v] ∧ v.val < vectorsOf f :=
  ⟨(withObjs' [(Obj.SQ_CONFIG_SQ_ENABLE 5, 1), (Obj.SQ_CONFIG_SQ_SIZE 5, 6), (Obj.SQ_CONFIG_SQ_CQ 5, 9), (Obj.SQ_CONFIG_SQ_STATE 5, 1), (Obj.CQ_CONFIG_CQ_ENABLE 9, 1), (Obj.CQ_CONFIG_CQ_SIZE 9, 6), (Obj.CQ_CONFIG_CQ_STATE 9, 1)] running).withMsix { pba := [vecKey 2 7] }, 2, 7, by decide +kernel⟩

theorem witness_HolderReleasesTheLock_1 : ∃ (s : State) (c : Fin 64) (m v : Nat), s.Canonical ∧ s.Accepts m (Obj.MAILBOX_LOCK c) v ∧ v =
    0 ∧ Fld.BND_SHARED.get (s.binding c) = 1 ∧ s.get (Obj.MAILBOX_LOCK c) = m ∧ s.sec.fusing = none :=
  ⟨withObjs' [(Obj.MB_BINDING_BIND_MB 4, 3323986216), (Obj.MAILBOX_LOCK 4, 1)] running, 4, 1, 0, by decide +kernel⟩

theorem witness_HolderReleasesTheLock_2 : ∃ (s : State) (c : Fin 64) (m v : Nat), s.Canonical ∧ s.Accepts m (Obj.MAILBOX_LOCK c) v ∧ v =
    0 ∧ Fld.BND_SHARED.get (s.binding c) = 1 ∧ s.get (Obj.MAILBOX_LOCK c) ≠ m ∧ s.sec.fusing = none :=
  ⟨withObjs' [(Obj.MB_BINDING_BIND_MB 4, 3323986728), (Obj.MAILBOX_LOCK 4, 5)] running, 4, 1, 0, by decide +kernel⟩

theorem witness_HolderReleasesTheLock_3 : ∃ (s : State) (c : Fin 64) (m v : Nat), s.Canonical ∧ s.Accepts m (Obj.MAILBOX_LOCK c) v ∧ v ≠
    0 ∧ Fld.BND_SHARED.get (s.binding c) = 1 ∧ s.sec.fusing = none :=
  ⟨withObjs' [(Obj.MB_BINDING_BIND_MB 4, 3323986216), (Obj.MAILBOX_LOCK 4, 1)] running, 4, 1, 1, by decide +kernel⟩

theorem witness_HolderReleasesTheLock_4 : ∃ (s : State) (c : Fin 64) (m v : Nat), s.Canonical ∧ Fld.BND_SHARED.get (s.binding c) = 1 :=
  ⟨withObjs' [(Obj.MB_BINDING_BIND_MB 4, 3323986216), (Obj.MAILBOX_LOCK 4, 1)] running, 4, 1, 1, by decide +kernel⟩

theorem witness_HolderReleasesTheLock_5 : ∃ (s : State) (c m : Nat), s.Canonical ∧ c < 64 ∧ m ≠ 0 ∧ s.host.resetting = [] ∧ s.get
    (Obj.MAILBOX_LOCK c) = m :=
  ⟨withObjs' [(Obj.MB_BINDING_BIND_MB 4, 3323986216), (Obj.MAILBOX_LOCK 4, 1)] running, 4, 1, by decide +kernel⟩

theorem witness_MailboxesCarryMessages_1 : ∃ (s : State) (c : Fin 64) (m v : Nat), s.Accepts m (Obj.MB_BINDING_BIND_MB c) v ∧ bindingOk
    (setBits v 16 4 0) = true ∧ s.get (Obj.MAILBOX_STATE c) ≠ 1 :=
  ⟨running, 4, 1, 2250244392, by decide +kernel⟩

theorem witness_MailboxesCarryMessages_2 : ∃ (s : State) (c : Fin 64) (m v : Nat), s.Canonical ∧ s.Accepts m (Obj.MB_BINDING_BIND_MB c)
    v ∧ bindingOk (setBits v 16 4 0) = false ∧ s.sec.fusing = none :=
  ⟨running, 4, 1, 2147493928, by decide +kernel⟩

theorem witness_MailboxesCarryMessages_3 : ∃ (s : State) (c : Fin 64) (m v : Nat), s.Canonical ∧ s.Accepts m (Obj.MB_BINDING_BIND_MB c)
    v ∧ bindingOk (setBits v 16 4 0) = true ∧ s.get (Obj.MAILBOX_STATE c) = 1 ∧ setBits v 16 4 0 ≠ s.binding c ∧ s.sec.fusing = none :=
  ⟨withObjs' [(Obj.MB_BINDING_BIND_MB 4, 3323986216), (Obj.MAILBOX_STATE 4, 1)] running, 4, 1, 2250244392, by decide +kernel⟩

theorem witness_MailboxesCarryMessages_4 : ∃ (s : State) (c : Fin 64) (m v : Nat), s.Accepts m (Obj.MAILBOX_SEND c) v ∧ v = 1 ∧ s.get
    (Obj.MAILBOX_STATE c) ≠ 1 ∧ Fld.BND_RECEIVER.get ((((s.set (Obj.MAILBOX_ACK c) 0).bump (Obj.MAILBOX_POSTS c)).set (Obj.MAILBOX_STATE
    c) 1).binding c) ≠ MATE :=
  ⟨withObjs' [(Obj.MB_BINDING_BIND_MB 4, 2250244392)] running, 4, 1, 1, by decide +kernel⟩

theorem witness_MailboxesCarryMessages_5 : ∃ (s : State) (c : Fin 64) (m v : Nat), s.Accepts m (Obj.MAILBOX_SEND c) v ∧ v = 1 ∧ s.get
    (Obj.MAILBOX_STATE c) ≠ 1 ∧ Fld.BND_RECEIVER.get ((((s.set (Obj.MAILBOX_ACK c) 0).bump (Obj.MAILBOX_POSTS c)).set (Obj.MAILBOX_STATE
    c) 1).binding c) = MATE ∧ s.pair.linkUp = true :=
  ⟨(withObjs' [(Obj.MB_BINDING_BIND_MB 4, 2147483945)] running).withPair { linkUp := true }, 4, 1, 1, by decide +kernel⟩

theorem witness_MailboxesCarryMessages_6 : ∃ (s : State) (c : Fin 64) (m v : Nat), s.Accepts m (Obj.MAILBOX_SEND c) v ∧ v = 1 ∧ s.get
    (Obj.MAILBOX_STATE c) ≠ 1 ∧ Fld.BND_RECEIVER.get ((((s.set (Obj.MAILBOX_ACK c) 0).bump (Obj.MAILBOX_POSTS c)).set (Obj.MAILBOX_STATE
    c) 1).binding c) = MATE ∧ s.pair.linkUp = false :=
  ⟨withObjs' [(Obj.MB_BINDING_BIND_MB 4, 2147483945)] running, 4, 1, 1, by decide +kernel⟩

theorem witness_MailboxesCarryMessages_7 : ∃ (s : State) (c : Fin 64) (m v : Nat), s.Canonical ∧ s.Accepts m (Obj.MAILBOX_SEND c) v ∧ v
    = 1 ∧ s.get (Obj.MAILBOX_STATE c) = 1 ∧ s.sec.fusing = none :=
  ⟨withObjs' [(Obj.MB_BINDING_BIND_MB 4, 2250244392), (Obj.MAILBOX_STATE 4, 1)] running, 4, 1, 1, by decide +kernel⟩

theorem witness_MailboxesCarryMessages_8 : ∃ (s : State) (c : Fin 64) (m v : Nat), s.Accepts m (Obj.MAILBOX_ACK c) v ∧ bits v 30 2 = 2 ∧
    bits v 16 14 = 0 ∧ v % 65536 < 0xFFFD ∧ s.get (Obj.MAILBOX_STATE c) = 1 ∧ (((s.set (Obj.MAILBOX_ACK c) v).set (Obj.MAILBOX_STATE c)
    2).withHost { s.host with acked := c.val :: s.host.acked }).channelSender c ≠ MATE :=
  ⟨withObjs' [(Obj.MB_BINDING_BIND_MB 4, 2250244392), (Obj.MAILBOX_STATE 4, 1)] running, 4, 40, 2147483655, by decide +kernel⟩

theorem witness_MailboxesCarryMessages_9 : ∃ (s : State) (c : Fin 64) (m v : Nat), s.Canonical ∧ s.Accepts m (Obj.MAILBOX_ACK c) v ∧
    bits v 30 2 = 2 ∧ bits v 16 14 = 0 ∧ v % 65536 < 0xFFFD ∧ s.get (Obj.MAILBOX_STATE c) ≠ 1 ∧ s.sec.fusing = none :=
  ⟨withObjs' [(Obj.MB_BINDING_BIND_MB 4, 2250244392)] running, 4, 40, 2147483655, by decide +kernel⟩

theorem witness_MailboxesCarryMessages_10 : ∃ (s : State) (c : Fin 64) (m : Nat), s.unreached m = false ∧ s.waits .window m true = false
    ∧ s.checkRead .window m (Obj.MAILBOX_LOCK c) = .ok ∧ pathOf m = .window ∧ Fld.BND_VALID.get (s.binding c) = 1 ∧ Fld.BND_SHARED.get
    (s.binding c) = 1 ∧ m ≠ DBG :=
  ⟨withObjs' [(Obj.MB_BINDING_BIND_MB 4, 3323986216)] running, 4, 1, by decide +kernel⟩

theorem witness_MailboxesCarryMessages_11 : ∃ (s : State) (c m : Nat), m < 64 ∧ s.host.lockReads = [⟨c, m, .master⟩] ∧ Fld.BND_VALID.get
    (s.binding c) = 1 ∧ Fld.BND_SHARED.get (s.binding c) = 1 ∧ m ≠ DBG ∧ s.get (Obj.MAILBOX_LOCK c) = 0 :=
  ⟨(withObjs' [(Obj.MB_BINDING_BIND_MB 4, 3323986216)] running).withHost { lockReads := [⟨4, 1, .master⟩] }, 4, 1, by decide +kernel⟩

theorem witness_MailboxesCarryMessages_12 : ∃ (s : State) (c m : Nat), m < 64 ∧ s.host.lockReads = [⟨c, m, .master⟩] ∧ Fld.BND_VALID.get
    (s.binding c) = 1 ∧ Fld.BND_SHARED.get (s.binding c) = 1 ∧ m ≠ DBG ∧ s.get (Obj.MAILBOX_LOCK c) = m ∧ 0 < m :=
  ⟨(withObjs' [(Obj.MB_BINDING_BIND_MB 4, 3323986216), (Obj.MAILBOX_LOCK 4, 1)] running).withHost { lockReads := [⟨4, 1, .master⟩] }, 4, 1, by decide +kernel⟩

theorem witness_MailboxesCarryMessages_13 : ∃ (s : State) (c m : Nat), m < 64 ∧ s.host.lockReads = [⟨c, m, .master⟩] ∧ Fld.BND_VALID.get
    (s.binding c) = 1 ∧ Fld.BND_SHARED.get (s.binding c) = 1 ∧ m ≠ DBG ∧ 0 < s.get (Obj.MAILBOX_LOCK c) ∧ s.get (Obj.MAILBOX_LOCK c) ≠ m
    :=
  ⟨(withObjs' [(Obj.MB_BINDING_BIND_MB 4, 3323986728), (Obj.MAILBOX_LOCK 4, 5)] running).withHost { lockReads := [⟨4, 1, .master⟩] }, 4, 1, by decide +kernel⟩

theorem witness_MailboxesCarryMessages_14 : ∃ (s : State) (m v : Nat), s.Accepts m (Obj.DOORBELL_DB_PENDING m) v ∧ s.host.rung = [] :=
  ⟨withObjs' [(Obj.DOORBELL_DB_PENDING 1, 7)] running, 1, 5, by decide +kernel⟩

theorem witness_MailboxesCarryMessages_15 : ∃ (s : State) (m v : Nat), s.Accepts m (Obj.DOORBELL_DB_MASK m) v ∧ s.host.rung = [] ∧
    Nat.land ((s.commit (Obj.DOORBELL_DB_MASK m) v).get (Obj.DOORBELL_DB_PENDING m)) (s.get (Obj.DOORBELL_DB_MASK m) - Nat.land (s.get
    (Obj.DOORBELL_DB_MASK m)) v) ≠ 0 :=
  ⟨withObjs' [(Obj.DOORBELL_DB_PENDING 1, 7)] running, 1, 0, by decide +kernel⟩

theorem witness_MailboxesCarryMessages_16 : ∃ (s : State) (m v : Nat), s.Accepts m (Obj.DOORBELL_DB_MASK m) v ∧ s.host.rung = [] ∧
    Nat.land ((s.commit (Obj.DOORBELL_DB_MASK m) v).get (Obj.DOORBELL_DB_PENDING m)) (s.get (Obj.DOORBELL_DB_MASK m) - Nat.land (s.get
    (Obj.DOORBELL_DB_MASK m)) v) = 0 :=
  ⟨running, 1, 0, by decide +kernel⟩

theorem witness_MailboxesCarryMessages_17 : ∃ (s : State) (c a b : Nat), c < 64 ∧ b < a ∧ a < 64 ∧ a ≠ DBG ∧ b ≠ DBG ∧ 0 < b ∧
    s.Canonical ∧ s.host.lockReads = [⟨c, a, .master⟩, ⟨c, b, .master⟩] ∧ Fld.BND_VALID.get (s.binding c) = 1 ∧ Fld.BND_SHARED.get
    (s.binding c) = 1 ∧ s.get (Obj.MAILBOX_LOCK c) = 0 :=
  ⟨(withObjs' [(Obj.MB_BINDING_BIND_MB 4, 3323986728)] running).withHost { lockReads := [⟨4, 5, .master⟩, ⟨4, 1, .master⟩] }, 4, 5, 1, by decide +kernel⟩

theorem witness_MailboxesCarryMessages_18 : ∃ (s : State) (m b : Nat), s.Canonical ∧ hasDoorbell m = true :=
  ⟨running, 1, 3, by decide +kernel⟩

theorem witness_MailboxesCarryMessages_19 : ∃ (s : State) (m b : Nat), s.host.rung = [⟨m, b, false⟩] ∧ (s.get (Obj.DOORBELL_DB_PENDING
    m)).testBit b = true ∧ (s.get (Obj.DOORBELL_DB_MASK m)).testBit b = false :=
  ⟨(withObjs' [(Obj.DOORBELL_DB_PENDING 1, 8), (Obj.DOORBELL_DB_MASK 1, 0)] running).withHost { rung := [⟨1, 3, false⟩] }, 1, 3, by decide +kernel⟩

theorem witness_TokenRingTurns_1 : ∃ (s : State) (f : CoicaFrame) (l : List CoicaFrame) (a : Nat), s.coica.rx = f :: l ∧ f.type =
    fcTOKEN ∧ f.da = s.station ∧ s.tokenStation = true ∧ s.coica.silentUntil = none ∧ s.coica.lastToken = some a ∧ s.coica.offered =
    none ∧ s.coica.rejoin = false ∧ s.get Obj.COICA_STATION_SUCCESSOR ≠ 0 :=
  ⟨(((withObjs' [(Obj.COICA_STATION_STATE, 2), (Obj.COICA_STATION_SUCCESSOR, 20)] (running.withObjs [(Obj.COICA_STATION_STATION_ADDR, 30)])).withCoica { rx := [(⟨1, 30, 20, []⟩ : CoicaFrame)], lastToken := some 999990000 }).withTime { now := 1000000000 }), (⟨1, 30, 20, []⟩ : CoicaFrame), [], 999990000, by decide +kernel⟩

theorem witness_TokenRingTurns_2 : ∃ (s : State) (f : CoicaFrame) (l : List CoicaFrame) (a : Nat), s.coica.rx = f :: l ∧ f.type =
    fcTOKEN ∧ f.da = s.station ∧ s.tokenStation = true ∧ s.coica.silentUntil = none ∧ s.coica.lastToken = none ∧ s.coica.offered = some
    a :=
  ⟨(((withObjs' [(Obj.COICA_STATION_STATE, 0)] (running.withObjs [(Obj.COICA_STATION_STATION_ADDR, 30)])).withCoica { rx := [(⟨1, 30, 20, []⟩ : CoicaFrame)], offered := some 15 }).withTime { now := 1000000000 }), (⟨1, 30, 20, []⟩ : CoicaFrame), [], 15, by decide +kernel⟩

theorem witness_TokenRingTurns_3 : ∃ (s : State), s.cmbState = csCLAIMING ∧ s.coica.round = some 4 :=
  ⟨(((withObjs' [(Obj.COICA_STATION_STATE, 1)] (running.withObjs [(Obj.COICA_STATION_STATION_ADDR, 30)])).withCoica { round := some 4 }).withTime { now := 1000000000 }), by decide +kernel⟩

theorem witness_TokenRingTurns_4 : ∃ (s : State), s.cmbState = csCLAIMING ∧ s.coica.round = some 4 :=
  ⟨(((withObjs' [(Obj.COICA_STATION_STATE, 1)] (running.withObjs [(Obj.COICA_STATION_STATION_ADDR, 30)])).withCoica { round := some 4 }).withTime { now := 1000000000 }), by decide +kernel⟩

theorem witness_TokenRingTurns_5 : ∃ (s : State) (f : CoicaFrame) (l : List CoicaFrame), s.coica.rx = f :: l ∧ f.type = fcCLAIM ∧
    s.cmbState = csCLAIMING :=
  ⟨(((withObjs' [(Obj.COICA_STATION_STATE, 1)] (running.withObjs [(Obj.COICA_STATION_STATION_ADDR, 30)])).withCoica { rx := [(⟨2, 127, 20, []⟩ : CoicaFrame)], round := some 2 }).withTime { now := 1000000000 }), (⟨2, 127, 20, []⟩ : CoicaFrame), [], by decide +kernel⟩

theorem witness_TokenRingTurns_6 : ∃ (s : State) (f : CoicaFrame) (l : List CoicaFrame), s.coica.rx = f :: l ∧ f.type = fcSOLICIT ∧
    s.tokenStation = true ∧ s.cmbState = csLISTEN ∧ (s.station + 126 - byteAt f.payload 0) % 126 ≤ (byteAt f.payload 1 + 126 - byteAt
    f.payload 0) % 126 :=
  ⟨(((withObjs' [(Obj.COICA_STATION_STATE, 0)] (running.withObjs [(Obj.COICA_STATION_STATION_ADDR, 30)])).withCoica { rx := [(⟨3, 127, 40, [21, 39, 20]⟩ : CoicaFrame)] }).withTime { now := 1000000000 }), (⟨3, 127, 40, [21, 39, 20]⟩ : CoicaFrame), [], by decide +kernel⟩

theorem witness_TokenRingTurns_7 : ∃ (s : State) (f : CoicaFrame) (l : List CoicaFrame) (w : SolicitWindow), s.coica.rx = f :: l ∧
    f.type = fcSETSUCC ∧ s.cmbState = csHOLDING ∧ f.da = s.station ∧ s.coica.window = some w ∧ w.answered = none ∧ (f.sa + 126 - w.lo) %
    126 < w.count :=
  ⟨(((withObjs' [(Obj.COICA_STATION_STATE, 3), (Obj.COICA_STATION_SUCCESSOR, 20)] (running.withObjs [(Obj.COICA_STATION_STATION_ADDR, 30)])).withCoica { rx := [(⟨4, 30, 25, []⟩ : CoicaFrame)], window := some ⟨21, 9, 0, 0, none⟩ }).withTime { now := 1000000000 }), (⟨4, 30, 25, []⟩ : CoicaFrame), [], ⟨21, 9, 0, 0, none⟩, by decide +kernel⟩

theorem witness_TokenRingTurns_8 : ∃ (s : State) (b : Bool) (w : SolicitWindow), s.coica.window = some w ∧ s.cmbState = csHOLDING ∧
    (w.answered.isSome = true ∨ (b = false ∧ w.lower = 0 ∧ s.coica.carrier + 10000 ≤ s.time.now)) ∧ s.get Obj.COICA_STATION_SUCCESSOR ≠
    s.station ∧ s.get Obj.COICA_STATION_SUCCESSOR ≠ 0 :=
  ⟨(((withObjs' [(Obj.COICA_STATION_STATE, 3), (Obj.COICA_STATION_SUCCESSOR, 20)] (running.withObjs [(Obj.COICA_STATION_STATION_ADDR, 30)])).withCoica { window := some ⟨21, 9, 0, 0, none⟩ }).withTime { now := 1000000000 }), false, ⟨21, 9, 0, 0, none⟩, by decide +kernel⟩

theorem witness_TokenRingTurns_9 : ∃ (s : State) (w : SolicitWindow), s.coica.window = some w ∧ s.cmbState = csHOLDING ∧ w.answered =
    none ∧ 1 < w.count :=
  ⟨(((withObjs' [(Obj.COICA_STATION_STATE, 3), (Obj.COICA_STATION_SUCCESSOR, 20)] (running.withObjs [(Obj.COICA_STATION_STATION_ADDR, 30)])).withCoica { window := some ⟨21, 9, 0, 0, none⟩ }).withTime { now := 1000000000 }), ⟨21, 9, 0, 0, none⟩, by decide +kernel⟩

theorem witness_TokenRingTurns_10 : ∃ (s : State), s.coica.silentUntil = none ∧ s.coica.passing = some 0 ∧ s.cmbState = csINRING ∧
    s.coica.passEnd + 10000 ≤ s.time.now :=
  ⟨(((withObjs' [(Obj.COICA_STATION_STATE, 2), (Obj.COICA_STATION_SUCCESSOR, 20)] (running.withObjs [(Obj.COICA_STATION_STATION_ADDR, 30)])).withCoica { passing := some 0 }).withTime { now := 1000000000 }), by decide +kernel⟩

theorem witness_TokenRingTurns_11 : ∃ (s : State) (a : Nat) (w : State), s.coica.silentUntil = none ∧ s.coica.passing = some 1 ∧
    s.cmbState = csINRING ∧ s.coica.passEnd + 10000 ≤ s.time.now ∧ w = (s.bump Obj.COICA_STATS_PASS_FAILURES).leaveKnown (s.get
    Obj.COICA_STATION_SUCCESSOR) ∧ w.nextLower (s.get Obj.COICA_STATION_SUCCESSOR) = a ∧ a ≠ 0 :=
  ⟨(((withObjs' [(Obj.COICA_STATION_STATE, 2), (Obj.COICA_STATION_SUCCESSOR, 20), (Obj.COICA_STATION_KNOWN_LO, 1049600)] (running.withObjs [(Obj.COICA_STATION_STATION_ADDR, 30)])).withCoica { passing := some 1 }).withTime { now := 1000000000 }), 10, ((((withObjs' [(Obj.COICA_STATION_STATE, 2), (Obj.COICA_STATION_SUCCESSOR, 20), (Obj.COICA_STATION_KNOWN_LO, 1049600)] (running.withObjs [(Obj.COICA_STATION_STATION_ADDR, 30)])).withCoica { passing := some 1 }).withTime { now := 1000000000 }).bump Obj.COICA_STATS_PASS_FAILURES).leaveKnown 20, by decide +kernel⟩

theorem witness_TokenRingTurns_12 : ∃ (s : State), s.tokenStation = true ∧ (s.cmbState = csLISTEN ∨ s.cmbState = csINRING ∨ s.cmbState =
    csHOLDING) ∧ s.coica.ignoring = false ∧ s.coica.carrier + 80000 ≤ s.time.now :=
  ⟨(((withObjs' [(Obj.COICA_STATION_STATE, 0)] (running.withObjs [(Obj.COICA_STATION_STATION_ADDR, 30)])).withCoica {  }).withTime { now := 1000000000 }), by decide +kernel⟩

theorem witness_TokenRingTurns_13 : ∃ (s : State) (r : Nat), s.coica.round = some r ∧ s.cmbState = csCLAIMING ∧ r < 3 ∧ s.coica.roundAt
    + 70000 ≤ s.time.now :=
  ⟨(((withObjs' [(Obj.COICA_STATION_STATE, 1)] (running.withObjs [(Obj.COICA_STATION_STATION_ADDR, 30)])).withCoica { round := some 1 }).withTime { now := 1000000000 }), 1, by decide +kernel⟩

theorem witness_TokenRingTurns_14 : ∃ (s : State), s.coica.round = some 3 ∧ s.cmbState = csCLAIMING ∧ s.coica.roundAt + 70000 ≤
    s.time.now :=
  ⟨(((withObjs' [(Obj.COICA_STATION_STATE, 1)] (running.withObjs [(Obj.COICA_STATION_STATION_ADDR, 30)])).withCoica { round := some 3 }).withTime { now := 1000000000 }), by decide +kernel⟩

theorem witness_TokenRingTurns_15 : ∃ (s : State) (r : Nat), s.coica.round = some r ∧ s.cmbState = csCLAIMING ∧ r < 4 ∧ s.coica.roundAt
    + 20000 * claimValue s.station r ≤ s.time.now :=
  ⟨(((withObjs' [(Obj.COICA_STATION_STATE, 1)] (running.withObjs [(Obj.COICA_STATION_STATION_ADDR, 30)])).withCoica { round := some 1 }).withTime { now := 1000000000 }), 1, by decide +kernel⟩

theorem witness_TokenRingTurns_16 : ∃ (s : State) (f : CoicaFrame) (l : List CoicaFrame) (r : EventRec) (e : List EventRec), s.coica.rx
    = f :: l ∧ f.type = fcPOLL ∧ s.coica.silentUntil = none ∧ s.get Obj.COICA_STATION_ROLE = 1 ∧ f.da = s.station ∧ s.isSupv f.sa = true
    ∧ s.coica.emerg = r :: e :=
  ⟨(((withObjs' [(Obj.COICA_STATION_STATE, 4), (Obj.COICA_STATION_ROLE, 1)] (running.withObjs [(Obj.COICA_STATION_STATION_ADDR, 30)])).withCoica { rx := [(⟨16, 30, 126, []⟩ : CoicaFrame)], emerg := [{ code := 0x1001, num := 1, time := 5, unit := 3, arg := 9 }] }).withTime { now := 1000000000 }), (⟨16, 30, 126, []⟩ : CoicaFrame), [], { code := 0x1001, num := 1, time := 5, unit := 3, arg := 9 }, [], by decide +kernel⟩

theorem witness_BusFaultsAndSettings_1 : ∃ (s : State) (b : List Byte), s.coica.ignoring = false :=
  ⟨(((withObjs' [] (running.withObjs [(Obj.COICA_STATION_STATION_ADDR, 30)])).withCoica {  }).withTime { now := 1000000000 }), [1], by decide +kernel⟩

theorem witness_BusFaultsAndSettings_2 : ∃ (s : State) (b : List Byte), s.coica.ignoring = false ∧ 9 ≤ b.length ∧ wordAt b (b.length -
    4) 4 ≠ crc32 (b.take (b.length - 4)) :=
  ⟨(((withObjs' [] (running.withObjs [(Obj.COICA_STATION_STATION_ADDR, 30)])).withCoica {  }).withTime { now := 1000000000 }), List.replicate 9 1, by decide +kernel⟩

theorem witness_BusFaultsAndSettings_3 : ∃ (s : State) (b : List Byte), s.coica.ignoring = false ∧ b.length < 9 :=
  ⟨(((withObjs' [(Obj.COICA_STATION_STATE, 0)] (running.withObjs [(Obj.COICA_STATION_STATION_ADDR, 30)])).withCoica {  }).withTime { now := 1000000000 }), [1], by decide +kernel⟩

theorem witness_BusFaultsAndSettings_4 : ∃ (s : State) (b : List Byte), s.coica.ignoring = false ∧ 9 ≤ b.length ∧ wordAt b (b.length -
    4) 4 = crc32 (b.take (b.length - 4)) ∧ (1024 < wordAt b 3 2 ∨ wordAt b 3 2 + 9 ≠ b.length) :=
  ⟨(((withObjs' [(Obj.COICA_STATION_STATE, 0)] (running.withObjs [(Obj.COICA_STATION_STATION_ADDR, 30)])).withCoica {  }).withTime { now := 1000000000 }), [1, 30, 20, 0, 1] ++ bytesBE 4 (crc32 [1, 30, 20, 0, 1]), by decide +kernel⟩

theorem witness_BusFaultsAndSettings_5 : ∃ (s : State) (b : List Byte), s.coica.ignoring = false ∧ 9 ≤ b.length ∧ wordAt b (b.length -
    4) 4 = crc32 (b.take (b.length - 4)) ∧ wordAt b 3 2 ≤ 1024 ∧ wordAt b 3 2 + 9 = b.length ∧ cmbTypes.contains (byteAt b 0) = false :=
  ⟨(((withObjs' [(Obj.COICA_STATION_STATE, 0)] (running.withObjs [(Obj.COICA_STATION_STATION_ADDR, 30)])).withCoica {  }).withTime { now := 1000000000 }), [0x77, 30, 20, 0, 0] ++ bytesBE 4 (crc32 [0x77, 30, 20, 0, 0]), by decide +kernel⟩

theorem witness_BusFaultsAndSettings_6 : ∃ (s : State) (b : List Byte), s.coica.ignoring = false ∧ 9 ≤ b.length ∧ wordAt b (b.length -
    4) 4 = crc32 (b.take (b.length - 4)) ∧ wordAt b 3 2 ≤ 1024 ∧ wordAt b 3 2 + 9 = b.length ∧ cmbTypes.contains (byteAt b 0) = true :=
  ⟨(((withObjs' [(Obj.COICA_STATION_STATE, 0)] (running.withObjs [(Obj.COICA_STATION_STATION_ADDR, 30)])).withCoica {  }).withTime { now := 1000000000 }), [1, 30, 20, 0, 0] ++ bytesBE 4 (crc32 [1, 30, 20, 0, 0]), by decide +kernel⟩

theorem witness_BusFaultsAndSettings_7 : ∃ (s : State) (a : Fin 127), s.known a = true ∧ (Table.get (fun _ => 0) s.coica.heard a +
    s.coica.age * 1000000 ≤ s.time.now) :=
  ⟨(((withObjs' [(Obj.COICA_STATION_KNOWN_LO, 32)] (running.withObjs [(Obj.COICA_STATION_STATION_ADDR, 30)])).withCoica {  }).withTime { now := 1000000000 }), 5, by decide +kernel⟩

theorem witness_BusFaultsAndSettings_8 : ∃ (s : State) (m v : Nat), s.Accepts m Obj.COICA_STATION_STATION_ADDR v ∧ s.on
    Obj.COICA_STATION_ROLE = false :=
  ⟨(((withObjs' [(Obj.COICA_STATION_STATE, 2)] (running.withObjs [(Obj.COICA_STATION_STATION_ADDR, 30)])).withCoica {  }).withTime { now := 1000000000 }), 1, 31, by decide +kernel⟩

theorem witness_BusFaultsAndSettings_9 : ∃ (s : State) (m v : Nat), s.Accepts m Obj.COICA_STATION_ROLE v ∧ v = 1 ∧ s.cmbState ≠ csSILENT
    :=
  ⟨(((withObjs' [(Obj.COICA_STATION_STATE, 2)] (running.withObjs [(Obj.COICA_STATION_STATION_ADDR, 30)])).withCoica {  }).withTime { now := 1000000000 }), 1, 1, by decide +kernel⟩

theorem witness_BusFaultsAndSettings_10 : ∃ (s : State) (m v : Nat), s.Canonical ∧ s.Accepts m Obj.COICA_STATION_ROLE v ∧ s.cmbState =
    csSILENT :=
  ⟨withObjs' [(Obj.COICA_STATION_STATE, 5)] running, 1, 1, by decide +kernel⟩

theorem witness_BusFaultsAndSettings_11 : ∃ (s : State) (m v : Nat), s.Canonical ∧ s.Accepts m Obj.COICA_STATION_STATION_ADDR v ∧ s.on
    Obj.COICA_STATION_ROLE = true :=
  ⟨withObjs' [(Obj.COICA_STATION_ROLE, 1), (Obj.COICA_STATION_STATE, 4)] running, 1, 31, by decide +kernel⟩

theorem witness_BusFaultsAndSettings_12 : ∃ (s : State) (n : Fin 8) (k : Fin 6) (m v : Nat), s.Accepts m (objKey 0 (0x11C0 + n.val) (1 +
    k.val)) v ∧ k.val ≠ 0 ∧ s.on (Obj.WAKE_PATTERN_WP_ENABLE n) = false :=
  ⟨(((withObjs' [] (running.withObjs [(Obj.COICA_STATION_STATION_ADDR, 30)])).withCoica {  }).withTime { now := 1000000000 }), 3, 3, 1, 9, by decide +kernel⟩

theorem witness_BusFaultsAndSettings_13 : ∃ (s : State) (n : Fin 8) (m v : Nat), s.Accepts m (objKey 0 (0x11C0 + n.val) 1) v ∧ ¬ (v = 1
    ∧ s.wpMask n / 2 ^ s.get (Obj.WAKE_PATTERN_WP_LENGTH n) ≠ 0) :=
  ⟨(((withObjs' [] (running.withObjs [(Obj.COICA_STATION_STATION_ADDR, 30)])).withCoica {  }).withTime { now := 1000000000 }), 3, 1, 1, by decide +kernel⟩

theorem witness_BusFaultsAndSettings_14 : ∃ (s : State) (n : Fin 8) (k : Fin 6) (m v : Nat), s.Canonical ∧ s.Accepts m (objKey 0 (0x11C0
    + n.val) (1 + k.val)) v ∧ k.val ≠ 0 ∧ s.on (Obj.WAKE_PATTERN_WP_ENABLE n) = true ∧ s.sec.fusing = none :=
  ⟨withObjs' [(Obj.WAKE_PATTERN_WP_ENABLE 3, 1)] running, 3, 3, 1, 9, by decide +kernel⟩

theorem witness_JabberSilencesOrIsIgnored_2 : ∃ (s : State) (a x y : Nat) (l : List Byte), s.coica.silentUntil = some a :=
  ⟨(((withObjs' [] (running.withObjs [(Obj.COICA_STATION_STATION_ADDR, 30)])).withCoica { silentUntil := some 5 }).withTime { now := 1000000000 }), 5, 1, 2, [], by decide +kernel⟩

theorem witness_JabberSilencesOrIsIgnored_3 : ∃ (s : State) (a : Nat), s.coica.silentUntil = some a :=
  ⟨(((withObjs' [] (running.withObjs [(Obj.COICA_STATION_STATION_ADDR, 30)])).withCoica { silentUntil := some 5 }).withTime { now := 1000000000 }), 5, by decide +kernel⟩

theorem witness_JabberSilencesOrIsIgnored_5 : ∃ (s : State) (b : List Byte), s.coica.ignoring = true :=
  ⟨(((withObjs' [] (running.withObjs [(Obj.COICA_STATION_STATION_ADDR, 30)])).withCoica { ignoring := true }).withTime { now := 1000000000 }), [1], by decide +kernel⟩

theorem witness_BusServesTheDictionary_1 : ∃ (s : State) (f : CoicaFrame) (l : List CoicaFrame) (v : Nat) (u : State), s.coica.rx = f ::
    l ∧ f.type = fcODREQ ∧ byteAt f.payload 0 = 0x1 ∧ zeroBytes f.payload [(2, 2), (12, 4)] = true ∧ byteAt f.payload 7 = (objTy (wordAt
    f.payload 4 2) (byteAt f.payload 6)).bytes ∧ (s.withCoica { s.coica with rx := l }).readsLock .coica SUPV (wordAt f.payload 4 2)
    (byteAt f.payload 6) = false ∧ (s.withCoica { s.coica with rx := l }).dictRead .coica SUPV (wordAt f.payload 4 2) (byteAt f.payload
    6) = (.ok, v, u) :=
  ⟨(((withObjs' [(Obj.COICA_STATION_STATE, 2)] (running.withObjs [(Obj.COICA_STATION_STATION_ADDR, 30)])).withCoica { rx := [(⟨0x20, 30, 126, (([1, 7, 0, 0, 17, 1, 1, 1, 0, 0, 0, 0, 0, 0, 0, 0] : List Nat).map toByte)⟩ : CoicaFrame)] }).withTime { now := 1000000000 }), (⟨0x20, 30, 126, (([1, 7, 0, 0, 17, 1, 1, 1, 0, 0, 0, 0, 0, 0, 0, 0] : List Nat).map toByte)⟩ : CoicaFrame), [], (((((((withObjs' [(Obj.COICA_STATION_STATE, 2)] (running.withObjs [(Obj.COICA_STATION_STATION_ADDR, 30)])).withCoica { rx := [(⟨0x20, 30, 126, (([1, 7, 0, 0, 17, 1, 1, 1, 0, 0, 0, 0, 0, 0, 0, 0] : List Nat).map toByte)⟩ : CoicaFrame)] }).withTime { now := 1000000000 })).withCoica { ((((withObjs' [(Obj.COICA_STATION_STATE, 2)] (running.withObjs [(Obj.COICA_STATION_STATION_ADDR, 30)])).withCoica { rx := [(⟨0x20, 30, 126, (([1, 7, 0, 0, 17, 1, 1, 1, 0, 0, 0, 0, 0, 0, 0, 0] : List Nat).map toByte)⟩ : CoicaFrame)] }).withTime { now := 1000000000 })).coica with rx := [] })).dictRead .coica SUPV 0x1101 1).2.1, (((((((withObjs' [(Obj.COICA_STATION_STATE, 2)] (running.withObjs [(Obj.COICA_STATION_STATION_ADDR, 30)])).withCoica { rx := [(⟨0x20, 30, 126, (([1, 7, 0, 0, 17, 1, 1, 1, 0, 0, 0, 0, 0, 0, 0, 0] : List Nat).map toByte)⟩ : CoicaFrame)] }).withTime { now := 1000000000 })).withCoica { ((((withObjs' [(Obj.COICA_STATION_STATE, 2)] (running.withObjs [(Obj.COICA_STATION_STATION_ADDR, 30)])).withCoica { rx := [(⟨0x20, 30, 126, (([1, 7, 0, 0, 17, 1, 1, 1, 0, 0, 0, 0, 0, 0, 0, 0] : List Nat).map toByte)⟩ : CoicaFrame)] }).withTime { now := 1000000000 })).coica with rx := [] })).dictRead .coica SUPV 0x1101 1).2.2, by decide +kernel⟩

theorem witness_BusServesTheDictionary_2 : ∃ (s : State) (f : CoicaFrame) (l : List CoicaFrame), s.coica.rx = f :: l ∧ f.type = fcODREQ
    ∧ byteAt f.payload 0 = 0x1 ∧ zeroBytes f.payload [(2, 2), (12, 4)] = true ∧ (rowAt (wordAt f.payload 4 2) (byteAt f.payload
    6)).isSome = true ∧ byteAt f.payload 7 ≠ (objTy (wordAt f.payload 4 2) (byteAt f.payload 6)).bytes :=
  ⟨(((withObjs' [(Obj.COICA_STATION_STATE, 2)] (running.withObjs [(Obj.COICA_STATION_STATION_ADDR, 30)])).withCoica { rx := [(⟨0x20, 30, 126, (([1, 7, 0, 0, 18, 1, 4, 2, 0, 0, 0, 0, 0, 0, 0, 0] : List Nat).map toByte)⟩ : CoicaFrame)] }).withTime { now := 1000000000 }), (⟨0x20, 30, 126, (([1, 7, 0, 0, 18, 1, 4, 2, 0, 0, 0, 0, 0, 0, 0, 0] : List Nat).map toByte)⟩ : CoicaFrame), [], by decide +kernel⟩

theorem witness_BusServesTheDictionary_3 : ∃ (s : State) (f : CoicaFrame) (l : List CoicaFrame) (r : Status) (u : State), s.coica.rx = f
    :: l ∧ f.type = fcODREQ ∧ byteAt f.payload 0 = 0x2 ∧ zeroBytes f.payload [(2, 2), (12, 4)] = true ∧ byteAt f.payload 7 = (objTy
    (wordAt f.payload 4 2) (byteAt f.payload 6)).bytes ∧ (f.payload.drop 16).length = byteAt f.payload 7 ∧ (s.withCoica { s.coica with rx := l }).dictWrite
    .coica (.coica f.sa 0x02 (byteAt f.payload 1)) SUPV (wordAt f.payload 4 2) (byteAt f.payload 6) (valueOf (objTy (wordAt f.payload 4
    2) (byteAt f.payload 6)) (f.payload.drop 16)) = (some r, u) :=
  ⟨(((withObjs' [(Obj.COICA_STATION_STATE, 2)] (running.withObjs [(Obj.COICA_STATION_STATION_ADDR, 30)])).withCoica { rx := [(⟨0x20, 30, 126, (([2, 7, 0, 0, 17, 1, 1, 1, 0, 0, 0, 0, 0, 0, 0, 0] : List Nat).map toByte ++ [6])⟩ : CoicaFrame)] }).withTime { now := 1000000000 }), (⟨0x20, 30, 126, (([2, 7, 0, 0, 17, 1, 1, 1, 0, 0, 0, 0, 0, 0, 0, 0] : List Nat).map toByte ++ [6])⟩ : CoicaFrame), [], ((((((((withObjs' [(Obj.COICA_STATION_STATE, 2)] (running.withObjs [(Obj.COICA_STATION_STATION_ADDR, 30)])).withCoica { rx := [(⟨0x20, 30, 126, (([2, 7, 0, 0, 17, 1, 1, 1, 0, 0, 0, 0, 0, 0, 0, 0] : List Nat).map toByte ++ [6])⟩ : CoicaFrame)] }).withTime { now := 1000000000 })).withCoica { ((((withObjs' [(Obj.COICA_STATION_STATE, 2)] (running.withObjs [(Obj.COICA_STATION_STATION_ADDR, 30)])).withCoica { rx := [(⟨0x20, 30, 126, (([2, 7, 0, 0, 17, 1, 1, 1, 0, 0, 0, 0, 0, 0, 0, 0] : List Nat).map toByte ++ [6])⟩ : CoicaFrame)] }).withTime { now := 1000000000 })).coica with rx := [] })).dictWrite .coica (.coica 126 2 7) SUPV 0x1101 1 6).1.getD .busy), (((((((withObjs' [(Obj.COICA_STATION_STATE, 2)] (running.withObjs [(Obj.COICA_STATION_STATION_ADDR, 30)])).withCoica { rx := [(⟨0x20, 30, 126, (([2, 7, 0, 0, 17, 1, 1, 1, 0, 0, 0, 0, 0, 0, 0, 0] : List Nat).map toByte ++ [6])⟩ : CoicaFrame)] }).withTime { now := 1000000000 })).withCoica { ((((withObjs' [(Obj.COICA_STATION_STATE, 2)] (running.withObjs [(Obj.COICA_STATION_STATION_ADDR, 30)])).withCoica { rx := [(⟨0x20, 30, 126, (([2, 7, 0, 0, 17, 1, 1, 1, 0, 0, 0, 0, 0, 0, 0, 0] : List Nat).map toByte ++ [6])⟩ : CoicaFrame)] }).withTime { now := 1000000000 })).coica with rx := [] })).dictWrite .coica (.coica 126 2 7) SUPV 0x1101 1 6).2, by decide +kernel⟩

theorem witness_BusServesTheDictionary_4 : ∃ (s : State) (f : CoicaFrame) (l : List CoicaFrame) (u : State), s.coica.rx = f :: l ∧
    f.type = fcODREQ ∧ byteAt f.payload 0 = 0x2 ∧ zeroBytes f.payload [(2, 2), (12, 4)] = true ∧ byteAt f.payload 7 = (objTy (wordAt
    f.payload 4 2) (byteAt f.payload 6)).bytes ∧ (f.payload.drop 16).length = byteAt f.payload 7 ∧ (s.withCoica { s.coica with rx := l }).dictWrite
    .coica (.coica f.sa 0x02 (byteAt f.payload 1)) SUPV (wordAt f.payload 4 2) (byteAt f.payload 6) (valueOf (objTy (wordAt f.payload 4
    2) (byteAt f.payload 6)) (f.payload.drop 16)) = (none, u) :=
  ⟨(((withObjs' [(Obj.COICA_STATION_STATE, 2)] (running.withObjs [(Obj.COICA_STATION_STATION_ADDR, 30)])).withCoica { rx := [(⟨0x20, 30, 126, (([2, 7, 0, 0, 22, 32, 1, 1, 0, 0, 0, 0, 0, 0, 0, 0] : List Nat).map toByte ++ [1])⟩ : CoicaFrame)] }).withTime { now := 1000000000 }), (⟨0x20, 30, 126, (([2, 7, 0, 0, 22, 32, 1, 1, 0, 0, 0, 0, 0, 0, 0, 0] : List Nat).map toByte ++ [1])⟩ : CoicaFrame), [], (((((((withObjs' [(Obj.COICA_STATION_STATE, 2)] (running.withObjs [(Obj.COICA_STATION_STATION_ADDR, 30)])).withCoica { rx := [(⟨0x20, 30, 126, (([2, 7, 0, 0, 22, 32, 1, 1, 0, 0, 0, 0, 0, 0, 0, 0] : List Nat).map toByte ++ [1])⟩ : CoicaFrame)] }).withTime { now := 1000000000 })).withCoica { ((((withObjs' [(Obj.COICA_STATION_STATE, 2)] (running.withObjs [(Obj.COICA_STATION_STATION_ADDR, 30)])).withCoica { rx := [(⟨0x20, 30, 126, (([2, 7, 0, 0, 22, 32, 1, 1, 0, 0, 0, 0, 0, 0, 0, 0] : List Nat).map toByte ++ [1])⟩ : CoicaFrame)] }).withTime { now := 1000000000 })).coica with rx := [] })).dictWrite .coica (.coica 126 2 7) SUPV 0x1620 1 1).2, by decide +kernel⟩

theorem witness_BusServesTheDictionary_5 : ∃ (s : State) (f : CoicaFrame) (l : List CoicaFrame) (r : DomRow) (v : Nat) (u : State),
    s.coica.rx = f :: l ∧ f.type = fcODREQ ∧ byteAt f.payload 0 = 0x3 ∧ zeroBytes f.payload [(2, 2), (12, 4)] = true ∧ domRow (wordAt
    f.payload 4 2) = some r ∧ (s.withCoica { s.coica with rx := l }).domWaits (wordAt f.payload 4 2) = false ∧ (s.withCoica { s.coica with rx := l }).domRead
    SUPV (wordAt f.payload 4 2) (wordAt f.payload 8 4) = (.ok, v, u) :=
  ⟨(((withObjs' [(Obj.COICA_STATION_STATE, 2)] (running.withObjs [(Obj.COICA_STATION_STATION_ADDR, 30)])).withCoica { rx := [(⟨0x20, 30, 126, (([3, 7, 0, 0, 116, 2, 0, 0, 0, 0, 0, 3, 0, 0, 0, 0] : List Nat).map toByte)⟩ : CoicaFrame)] }).withTime { now := 1000000000 }), (⟨0x20, 30, 126, (([3, 7, 0, 0, 116, 2, 0, 0, 0, 0, 0, 3, 0, 0, 0, 0] : List Nat).map toByte)⟩ : CoicaFrame), [], ((domRow 0x7402).get (by decide +kernel)), (((((((withObjs' [(Obj.COICA_STATION_STATE, 2)] (running.withObjs [(Obj.COICA_STATION_STATION_ADDR, 30)])).withCoica { rx := [(⟨0x20, 30, 126, (([3, 7, 0, 0, 116, 2, 0, 0, 0, 0, 0, 3, 0, 0, 0, 0] : List Nat).map toByte)⟩ : CoicaFrame)] }).withTime { now := 1000000000 })).withCoica { ((((withObjs' [(Obj.COICA_STATION_STATE, 2)] (running.withObjs [(Obj.COICA_STATION_STATION_ADDR, 30)])).withCoica { rx := [(⟨0x20, 30, 126, (([3, 7, 0, 0, 116, 2, 0, 0, 0, 0, 0, 3, 0, 0, 0, 0] : List Nat).map toByte)⟩ : CoicaFrame)] }).withTime { now := 1000000000 })).coica with rx := [] })).domRead SUPV 0x7402 3).2.1, (((((((withObjs' [(Obj.COICA_STATION_STATE, 2)] (running.withObjs [(Obj.COICA_STATION_STATION_ADDR, 30)])).withCoica { rx := [(⟨0x20, 30, 126, (([3, 7, 0, 0, 116, 2, 0, 0, 0, 0, 0, 3, 0, 0, 0, 0] : List Nat).map toByte)⟩ : CoicaFrame)] }).withTime { now := 1000000000 })).withCoica { ((((withObjs' [(Obj.COICA_STATION_STATE, 2)] (running.withObjs [(Obj.COICA_STATION_STATION_ADDR, 30)])).withCoica { rx := [(⟨0x20, 30, 126, (([3, 7, 0, 0, 116, 2, 0, 0, 0, 0, 0, 3, 0, 0, 0, 0] : List Nat).map toByte)⟩ : CoicaFrame)] }).withTime { now := 1000000000 })).coica with rx := [] })).domRead SUPV 0x7402 3).2.2, by decide +kernel⟩

theorem witness_BusServesTheDictionary_6 : ∃ (s : State) (f : CoicaFrame) (l : List CoicaFrame) (r : DomRow), s.coica.rx = f :: l ∧
    f.type = fcODREQ ∧ byteAt f.payload 0 = 0x4 ∧ zeroBytes f.payload [(2, 2), (12, 4)] = true ∧ domRow (wordAt f.payload 4 2) = some r
    ∧ (f.payload.drop 16).length = r.bytes ∧ (s.withCoica { s.coica with rx := l }).domWaits (wordAt f.payload 4 2) = false :=
  ⟨(((withObjs' [(Obj.COICA_STATION_STATE, 2)] (running.withObjs [(Obj.COICA_STATION_STATION_ADDR, 30)])).withCoica { rx := [(⟨0x20, 30, 126, (([4, 7, 0, 0, 116, 2, 0, 0, 0, 0, 0, 3, 0, 0, 0, 0] : List Nat).map toByte ++ List.replicate 16 0)⟩ : CoicaFrame)] }).withTime { now := 1000000000 }), (⟨0x20, 30, 126, (([4, 7, 0, 0, 116, 2, 0, 0, 0, 0, 0, 3, 0, 0, 0, 0] : List Nat).map toByte ++ List.replicate 16 0)⟩ : CoicaFrame), [], ((domRow 0x7402).get (by decide +kernel)), by decide +kernel⟩

theorem witness_BusServesTheDictionary_7 : ∃ (s : State) (f : CoicaFrame) (l : List CoicaFrame) (r : CoicaRun) (x : Nat) (y : List
    Byte), s.coica.rx = f :: l ∧ f.type = fcODREQ ∧ byteAt f.payload 0 = 0x5 ∧ zeroBytes f.payload [(2, 2), (13, 3)] = true ∧
    (s.coica.running.find? (fun r => Nat.beq r.addr f.sa && Nat.beq r.txn (byteAt f.payload 12)) = some r) ∧ r.ended = some (x, y) :=
  ⟨(((withObjs' [(Obj.COICA_STATION_STATE, 2)] (running.withObjs [(Obj.COICA_STATION_STATION_ADDR, 30)])).withCoica { rx := [(⟨0x20, 30, 126, (([5, 7, 0, 0, 0, 0, 0, 0, 0, 0, 0, 0, 3, 0, 0, 0] : List Nat).map toByte)⟩ : CoicaFrame)], running := [⟨126, 2, 3, none, some (0, [])⟩] }).withTime { now := 1000000000 }), (⟨0x20, 30, 126, (([5, 7, 0, 0, 0, 0, 0, 0, 0, 0, 0, 0, 3, 0, 0, 0] : List Nat).map toByte)⟩ : CoicaFrame), [], ⟨126, 2, 3, none, some (0, [])⟩, 0, [], by decide +kernel⟩

theorem witness_BusServesTheDictionary_8 : ∃ (s : State) (f : CoicaFrame) (l : List CoicaFrame) (r : CoicaRun), s.coica.rx = f :: l ∧
    f.type = fcODREQ ∧ byteAt f.payload 0 = 0x5 ∧ zeroBytes f.payload [(2, 2), (13, 3)] = true ∧ (s.coica.running.find? (fun r =>
    Nat.beq r.addr f.sa && Nat.beq r.txn (byteAt f.payload 12)) = some r) ∧ r.ended = none :=
  ⟨(((withObjs' [(Obj.COICA_STATION_STATE, 2)] (running.withObjs [(Obj.COICA_STATION_STATION_ADDR, 30)])).withCoica { rx := [(⟨0x20, 30, 126, (([5, 7, 0, 0, 0, 0, 0, 0, 0, 0, 0, 0, 3, 0, 0, 0] : List Nat).map toByte)⟩ : CoicaFrame)], running := [⟨126, 2, 3, none, none⟩] }).withTime { now := 1000000000 }), (⟨0x20, 30, 126, (([5, 7, 0, 0, 0, 0, 0, 0, 0, 0, 0, 0, 3, 0, 0, 0] : List Nat).map toByte)⟩ : CoicaFrame), [], ⟨126, 2, 3, none, none⟩, by decide +kernel⟩

theorem witness_BusServesTheDictionary_9 : ∃ (s : State) (f : CoicaFrame) (l : List CoicaFrame), s.coica.rx = f :: l ∧ f.type = fcODREQ
    ∧ byteAt f.payload 0 = 1 ∧ zeroBytes f.payload [(2, 2), (12, 4)] = false :=
  ⟨(((withObjs' [(Obj.COICA_STATION_STATE, 2)] (running.withObjs [(Obj.COICA_STATION_STATION_ADDR, 30)])).withCoica { rx := [(⟨0x20, 30, 126, (([1, 7, 0, 0, 0, 0, 0, 0, 0, 0, 0, 0, 0, 1, 0, 0] : List Nat).map toByte)⟩ : CoicaFrame)] }).withTime { now := 1000000000 }), (⟨0x20, 30, 126, (([1, 7, 0, 0, 0, 0, 0, 0, 0, 0, 0, 0, 0, 1, 0, 0] : List Nat).map toByte)⟩ : CoicaFrame), [], by decide +kernel⟩

theorem witness_BusServesTheDictionary_10 : ∃ (s : State) (f : CoicaFrame) (l : List CoicaFrame), s.coica.rx = f :: l ∧ f.type = fcODREQ
    ∧ byteAt f.payload 0 = 0x10 ∧ zeroBytes f.payload [(2, 2), (14, 2)] = true ∧ 0 < wordAt f.payload 12 2 ∧ wordAt f.payload 12 2 ≤
    4096 :=
  ⟨(((withObjs' [(Obj.COICA_STATION_STATE, 2)] (running.withObjs [(Obj.COICA_STATION_STATION_ADDR, 30)])).withCoica { rx := [(⟨0x20, 30, 126, (([16, 7, 0, 0, 0, 0, 0, 0, 0, 0, 0, 0, 0, 8, 0, 0] : List Nat).map toByte ++ [0, 0, 0, 0])⟩ : CoicaFrame)] }).withTime { now := 1000000000 }), (⟨0x20, 30, 126, (([16, 7, 0, 0, 0, 0, 0, 0, 0, 0, 0, 0, 0, 8, 0, 0] : List Nat).map toByte ++ [0, 0, 0, 0])⟩ : CoicaFrame), [], by decide +kernel⟩

theorem witness_BusServesTheDictionary_11 : ∃ (s : State) (f : CoicaFrame) (l : List CoicaFrame), s.coica.rx = f :: l ∧ f.type = fcODREQ
    ∧ byteAt f.payload 0 = 0x10 ∧ zeroBytes f.payload [(2, 2), (14, 2)] = true ∧ (wordAt f.payload 12 2 = 0 ∨ 4096 < wordAt f.payload 12
    2) :=
  ⟨(((withObjs' [(Obj.COICA_STATION_STATE, 2)] (running.withObjs [(Obj.COICA_STATION_STATION_ADDR, 30)])).withCoica { rx := [(⟨0x20, 30, 126, (([16, 7, 0, 0, 0, 0, 0, 0, 0, 0, 0, 0, 0, 0, 0, 0] : List Nat).map toByte ++ [0, 0, 0, 0])⟩ : CoicaFrame)] }).withTime { now := 1000000000 }), (⟨0x20, 30, 126, (([16, 7, 0, 0, 0, 0, 0, 0, 0, 0, 0, 0, 0, 0, 0, 0] : List Nat).map toByte ++ [0, 0, 0, 0])⟩ : CoicaFrame), [], by decide +kernel⟩

theorem witness_BusServesTheDictionary_12 : ∃ (s : State) (f : CoicaFrame) (l : List CoicaFrame) (b : CoicaBlock), s.coica.rx = f :: l ∧
    f.type = fcODREQ ∧ byteAt f.payload 0 = 0x11 ∧ zeroBytes f.payload [(2, 2), (10, 6)] = true ∧ s.coica.block = some b ∧ wordAt
    f.payload 8 2 + (f.payload.drop 16).length ≤ b.data.length :=
  ⟨(((withObjs' [(Obj.COICA_STATION_STATE, 2)] (running.withObjs [(Obj.COICA_STATION_STATION_ADDR, 30)])).withCoica { rx := [(⟨0x20, 30, 126, (([17, 7, 0, 0, 0, 0, 0, 0, 0, 1, 0, 0, 0, 0, 0, 0] : List Nat).map toByte ++ [9])⟩ : CoicaFrame)], block := some ⟨0, 0, [some 1, some 2]⟩ }).withTime { now := 1000000000 }), (⟨0x20, 30, 126, (([17, 7, 0, 0, 0, 0, 0, 0, 0, 1, 0, 0, 0, 0, 0, 0] : List Nat).map toByte ++ [9])⟩ : CoicaFrame), [], ⟨0, 0, [some 1, some 2]⟩, by decide +kernel⟩

theorem witness_BusServesTheDictionary_13 : ∃ (s : State) (f : CoicaFrame) (l : List CoicaFrame) (b : CoicaBlock), s.coica.rx = f :: l ∧
    f.type = fcODREQ ∧ byteAt f.payload 0 = 0x11 ∧ zeroBytes f.payload [(2, 2), (10, 6)] = true ∧ s.coica.block = some b ∧ b.data.length
    < wordAt f.payload 8 2 + (f.payload.drop 16).length :=
  ⟨(((withObjs' [(Obj.COICA_STATION_STATE, 2)] (running.withObjs [(Obj.COICA_STATION_STATION_ADDR, 30)])).withCoica { rx := [(⟨0x20, 30, 126, (([17, 7, 0, 0, 0, 0, 0, 0, 0, 2, 0, 0, 0, 0, 0, 0] : List Nat).map toByte ++ [9])⟩ : CoicaFrame)], block := some ⟨0, 0, [some 1, some 2]⟩ }).withTime { now := 1000000000 }), (⟨0x20, 30, 126, (([17, 7, 0, 0, 0, 0, 0, 0, 0, 2, 0, 0, 0, 0, 0, 0] : List Nat).map toByte ++ [9])⟩ : CoicaFrame), [], ⟨0, 0, [some 1, some 2]⟩, by decide +kernel⟩

theorem witness_BusServesTheDictionary_14 : ∃ (s : State) (f : CoicaFrame) (l : List CoicaFrame) (good : Bool) (b : CoicaBlock) (n :
    Nat), s.coica.rx = f :: l ∧ f.type = fcODREQ ∧ byteAt f.payload 0 = 0x12 ∧ zeroBytes f.payload [(2, 2), (12, 4)] = true ∧
    s.coica.block = some b ∧ ((List.range b.data.length).find? (fun i => decide (b.data[i]? = some none)) = some n) :=
  ⟨(((withObjs' [(Obj.COICA_STATION_STATE, 2)] (running.withObjs [(Obj.COICA_STATION_STATION_ADDR, 30)])).withCoica { rx := [(⟨0x20, 30, 126, (([18, 7, 0, 0, 0, 0, 0, 0, 0, 0, 0, 0, 0, 0, 0, 0] : List Nat).map toByte)⟩ : CoicaFrame)], block := some ⟨0, 0, [some 1, none]⟩ }).withTime { now := 1000000000 }), (⟨0x20, 30, 126, (([18, 7, 0, 0, 0, 0, 0, 0, 0, 0, 0, 0, 0, 0, 0, 0] : List Nat).map toByte)⟩ : CoicaFrame), [], true, ⟨0, 0, [some 1, none]⟩, 1, by decide +kernel⟩

theorem witness_BusServesTheDictionary_15 : ∃ (s : State) (f : CoicaFrame) (l : List CoicaFrame) (good : Bool) (b : CoicaBlock),
    s.coica.rx = f :: l ∧ f.type = fcODREQ ∧ byteAt f.payload 0 = 0x12 ∧ zeroBytes f.payload [(2, 2), (12, 4)] = true ∧ s.coica.block =
    some b ∧ ((List.range b.data.length).find? (fun i => decide (b.data[i]? = some none)) = none) ∧ (crc32 (b.data.filterMap fun x => x)
    ≠ b.crc) :=
  ⟨(((withObjs' [(Obj.COICA_STATION_STATE, 2)] (running.withObjs [(Obj.COICA_STATION_STATION_ADDR, 30)])).withCoica { rx := [(⟨0x20, 30, 126, (([18, 7, 0, 0, 0, 0, 0, 0, 0, 0, 0, 0, 0, 0, 0, 0] : List Nat).map toByte)⟩ : CoicaFrame)], block := some ⟨0, 0, [some 1, some 2]⟩ }).withTime { now := 1000000000 }), (⟨0x20, 30, 126, (([18, 7, 0, 0, 0, 0, 0, 0, 0, 0, 0, 0, 0, 0, 0, 0] : List Nat).map toByte)⟩ : CoicaFrame), [], true, ⟨0, 0, [some 1, some 2]⟩, by decide +kernel⟩

theorem witness_BusServesTheDictionary_16 : ∃ (s : State) (f : CoicaFrame) (l : List CoicaFrame) (good : Bool) (b : CoicaBlock) (w :
    State) (r : Status) (n : Nat) (u : State), s.coica.rx = f :: l ∧ f.type = fcODREQ ∧ byteAt f.payload 0 = 0x12 ∧ zeroBytes f.payload
    [(2, 2), (12, 4)] = true ∧ s.coica.block = some b ∧ ((List.range b.data.length).find? (fun i => decide (b.data[i]? = some none)) =
    none) ∧ (crc32 (b.data.filterMap fun x => x) = b.crc) ∧ s.boot.restart = false ∧ w = (s.withCoica { s.coica with rx := l }).withCoica
    { (s.withCoica { s.coica with rx := l }).coica with block := none } ∧ (w.updBlock SUPV b.offset (b.data.filterMap fun x => x) good =
    (r, n, u)) :=
  ⟨(((withObjs' [(Obj.COICA_STATION_STATE, 2)] (running.withObjs [(Obj.COICA_STATION_STATION_ADDR, 30)])).withCoica { rx := [(⟨0x20, 30, 126, (([18, 7, 0, 0, 0, 0, 0, 0, 0, 0, 0, 0, 0, 0, 0, 0] : List Nat).map toByte)⟩ : CoicaFrame)], block := some ⟨0, crc32 [1, 2], [some 1, some 2]⟩ }).withTime { now := 1000000000 }), (⟨0x20, 30, 126, (([18, 7, 0, 0, 0, 0, 0, 0, 0, 0, 0, 0, 0, 0, 0, 0] : List Nat).map toByte)⟩ : CoicaFrame), [], true, ⟨0, crc32 [1, 2], [some 1, some 2]⟩, ((((((withObjs' [(Obj.COICA_STATION_STATE, 2)] (running.withObjs [(Obj.COICA_STATION_STATION_ADDR, 30)])).withCoica { rx := [(⟨0x20, 30, 126, (([18, 7, 0, 0, 0, 0, 0, 0, 0, 0, 0, 0, 0, 0, 0, 0] : List Nat).map toByte)⟩ : CoicaFrame)], block := some ⟨0, crc32 [1, 2], [some 1, some 2]⟩ }).withTime { now := 1000000000 })).withCoica { ((((withObjs' [(Obj.COICA_STATION_STATE, 2)] (running.withObjs [(Obj.COICA_STATION_STATION_ADDR, 30)])).withCoica { rx := [(⟨0x20, 30, 126, (([18, 7, 0, 0, 0, 0, 0, 0, 0, 0, 0, 0, 0, 0, 0, 0] : List Nat).map toByte)⟩ : CoicaFrame)], block := some ⟨0, crc32 [1, 2], [some 1, some 2]⟩ }).withTime { now := 1000000000 })).coica with rx := [] })).withCoica { ((((((withObjs' [(Obj.COICA_STATION_STATE, 2)] (running.withObjs [(Obj.COICA_STATION_STATION_ADDR, 30)])).withCoica { rx := [(⟨0x20, 30, 126, (([18, 7, 0, 0, 0, 0, 0, 0, 0, 0, 0, 0, 0, 0, 0, 0] : List Nat).map toByte)⟩ : CoicaFrame)], block := some ⟨0, crc32 [1, 2], [some 1, some 2]⟩ }).withTime { now := 1000000000 })).withCoica { ((((withObjs' [(Obj.COICA_STATION_STATE, 2)] (running.withObjs [(Obj.COICA_STATION_STATION_ADDR, 30)])).withCoica { rx := [(⟨0x20, 30, 126, (([18, 7, 0, 0, 0, 0, 0, 0, 0, 0, 0, 0, 0, 0, 0, 0] : List Nat).map toByte)⟩ : CoicaFrame)], block := some ⟨0, crc32 [1, 2], [some 1, some 2]⟩ }).withTime { now := 1000000000 })).coica with rx := [] })).coica with block := none }, ((((((((withObjs' [(Obj.COICA_STATION_STATE, 2)] (running.withObjs [(Obj.COICA_STATION_STATION_ADDR, 30)])).withCoica { rx := [(⟨0x20, 30, 126, (([18, 7, 0, 0, 0, 0, 0, 0, 0, 0, 0, 0, 0, 0, 0, 0] : List Nat).map toByte)⟩ : CoicaFrame)], block := some ⟨0, crc32 [1, 2], [some 1, some 2]⟩ }).withTime { now := 1000000000 })).withCoica { ((((withObjs' [(Obj.COICA_STATION_STATE, 2)] (running.withObjs [(Obj.COICA_STATION_STATION_ADDR, 30)])).withCoica { rx := [(⟨0x20, 30, 126, (([18, 7, 0, 0, 0, 0, 0, 0, 0, 0, 0, 0, 0, 0, 0, 0] : List Nat).map toByte)⟩ : CoicaFrame)], block := some ⟨0, crc32 [1, 2], [some 1, some 2]⟩ }).withTime { now := 1000000000 })).coica with rx := [] })).withCoica { ((((((withObjs' [(Obj.COICA_STATION_STATE, 2)] (running.withObjs [(Obj.COICA_STATION_STATION_ADDR, 30)])).withCoica { rx := [(⟨0x20, 30, 126, (([18, 7, 0, 0, 0, 0, 0, 0, 0, 0, 0, 0, 0, 0, 0, 0] : List Nat).map toByte)⟩ : CoicaFrame)], block := some ⟨0, crc32 [1, 2], [some 1, some 2]⟩ }).withTime { now := 1000000000 })).withCoica { ((((withObjs' [(Obj.COICA_STATION_STATE, 2)] (running.withObjs [(Obj.COICA_STATION_STATION_ADDR, 30)])).withCoica { rx := [(⟨0x20, 30, 126, (([18, 7, 0, 0, 0, 0, 0, 0, 0, 0, 0, 0, 0, 0, 0, 0] : List Nat).map toByte)⟩ : CoicaFrame)], block := some ⟨0, crc32 [1, 2], [some 1, some 2]⟩ }).withTime { now := 1000000000 })).coica with rx := [] })).coica with block := none }).updBlock SUPV 0 [1, 2] true).1, ((((((((withObjs' [(Obj.COICA_STATION_STATE, 2)] (running.withObjs [(Obj.COICA_STATION_STATION_ADDR, 30)])).withCoica { rx := [(⟨0x20, 30, 126, (([18, 7, 0, 0, 0, 0, 0, 0, 0, 0, 0, 0, 0, 0, 0, 0] : List Nat).map toByte)⟩ : CoicaFrame)], block := some ⟨0, crc32 [1, 2], [some 1, some 2]⟩ }).withTime { now := 1000000000 })).withCoica { ((((withObjs' [(Obj.COICA_STATION_STATE, 2)] (running.withObjs [(Obj.COICA_STATION_STATION_ADDR, 30)])).withCoica { rx := [(⟨0x20, 30, 126, (([18, 7, 0, 0, 0, 0, 0, 0, 0, 0, 0, 0, 0, 0, 0, 0] : List Nat).map toByte)⟩ : CoicaFrame)], block := some ⟨0, crc32 [1, 2], [some 1, some 2]⟩ }).withTime { now := 1000000000 })).coica with rx := [] })).withCoica { ((((((withObjs' [(Obj.COICA_STATION_STATE, 2)] (running.withObjs [(Obj.COICA_STATION_STATION_ADDR, 30)])).withCoica { rx := [(⟨0x20, 30, 126, (([18, 7, 0, 0, 0, 0, 0, 0, 0, 0, 0, 0, 0, 0, 0, 0] : List Nat).map toByte)⟩ : CoicaFrame)], block := some ⟨0, crc32 [1, 2], [some 1, some 2]⟩ }).withTime { now := 1000000000 })).withCoica { ((((withObjs' [(Obj.COICA_STATION_STATE, 2)] (running.withObjs [(Obj.COICA_STATION_STATION_ADDR, 30)])).withCoica { rx := [(⟨0x20, 30, 126, (([18, 7, 0, 0, 0, 0, 0, 0, 0, 0, 0, 0, 0, 0, 0, 0] : List Nat).map toByte)⟩ : CoicaFrame)], block := some ⟨0, crc32 [1, 2], [some 1, some 2]⟩ }).withTime { now := 1000000000 })).coica with rx := [] })).coica with block := none }).updBlock SUPV 0 [1, 2] true).2.1, ((((((((withObjs' [(Obj.COICA_STATION_STATE, 2)] (running.withObjs [(Obj.COICA_STATION_STATION_ADDR, 30)])).withCoica { rx := [(⟨0x20, 30, 126, (([18, 7, 0, 0, 0, 0, 0, 0, 0, 0, 0, 0, 0, 0, 0, 0] : List Nat).map toByte)⟩ : CoicaFrame)], block := some ⟨0, crc32 [1, 2], [some 1, some 2]⟩ }).withTime { now := 1000000000 })).withCoica { ((((withObjs' [(Obj.COICA_STATION_STATE, 2)] (running.withObjs [(Obj.COICA_STATION_STATION_ADDR, 30)])).withCoica { rx := [(⟨0x20, 30, 126, (([18, 7, 0, 0, 0, 0, 0, 0, 0, 0, 0, 0, 0, 0, 0, 0] : List Nat).map toByte)⟩ : CoicaFrame)], block := some ⟨0, crc32 [1, 2], [some 1, some 2]⟩ }).withTime { now := 1000000000 })).coica with rx := [] })).withCoica { ((((((withObjs' [(Obj.COICA_STATION_STATE, 2)] (running.withObjs [(Obj.COICA_STATION_STATION_ADDR, 30)])).withCoica { rx := [(⟨0x20, 30, 126, (([18, 7, 0, 0, 0, 0, 0, 0, 0, 0, 0, 0, 0, 0, 0, 0] : List Nat).map toByte)⟩ : CoicaFrame)], block := some ⟨0, crc32 [1, 2], [some 1, some 2]⟩ }).withTime { now := 1000000000 })).withCoica { ((((withObjs' [(Obj.COICA_STATION_STATE, 2)] (running.withObjs [(Obj.COICA_STATION_STATION_ADDR, 30)])).withCoica { rx := [(⟨0x20, 30, 126, (([18, 7, 0, 0, 0, 0, 0, 0, 0, 0, 0, 0, 0, 0, 0, 0] : List Nat).map toByte)⟩ : CoicaFrame)], block := some ⟨0, crc32 [1, 2], [some 1, some 2]⟩ }).withTime { now := 1000000000 })).coica with rx := [] })).coica with block := none }).updBlock SUPV 0 [1, 2] true).2.2, by decide +kernel⟩

theorem witness_BusServesTheDictionary_17 : ∃ (s : State) (f : CoicaFrame) (l : List CoicaFrame), s.coica.rx = f :: l ∧ f.type = fcODREQ
    ∧ byteAt f.payload 0 = 0x13 ∧ zeroBytes f.payload [(2, 2), (12, 4)] = true :=
  ⟨(((withObjs' [(Obj.COICA_STATION_STATE, 2)] (running.withObjs [(Obj.COICA_STATION_STATION_ADDR, 30)])).withCoica { rx := [(⟨0x20, 30, 126, (([19, 7, 0, 0, 0, 0, 0, 0, 0, 0, 0, 0, 0, 0, 0, 0] : List Nat).map toByte)⟩ : CoicaFrame)], block := some ⟨0, 0, [some 1, some 2]⟩ }).withTime { now := 1000000000 }), (⟨0x20, 30, 126, (([19, 7, 0, 0, 0, 0, 0, 0, 0, 0, 0, 0, 0, 0, 0, 0] : List Nat).map toByte)⟩ : CoicaFrame), [], by decide +kernel⟩

theorem witness_BusServesTheDictionary_18 : ∃ (s : State) (f : CoicaFrame) (l : List CoicaFrame) (good : Bool) (b : CoicaBlock) (w :
    State), s.coica.rx = f :: l ∧ f.type = fcODREQ ∧ byteAt f.payload 0 = 0x12 ∧ zeroBytes f.payload [(2, 2), (12, 4)] = true ∧
    s.coica.block = some b ∧ ((List.range b.data.length).find? (fun i => decide (b.data[i]? = some none)) = none) ∧ (crc32
    (b.data.filterMap fun x => x) = b.crc) ∧ s.boot.restart = true ∧ w = (s.withCoica { s.coica with rx := l }).withCoica { (s.withCoica { s.coica with rx := l }).coica with block := none }
    :=
  ⟨(((withObjs' [(Obj.COICA_STATION_STATE, 2)] (running.withObjs [(Obj.COICA_STATION_STATION_ADDR, 30)])).withCoica { rx := [(⟨0x20, 30, 126, (([18, 7, 0, 0, 0, 0, 0, 0, 0, 0, 0, 0, 0, 0, 0, 0] : List Nat).map toByte)⟩ : CoicaFrame)], block := some ⟨0, crc32 [1, 2], [some 1, some 2]⟩ }).withTime { now := 1000000000 }).withBoot { running.boot with restart := true }, (⟨0x20, 30, 126, (([18, 7, 0, 0, 0, 0, 0, 0, 0, 0, 0, 0, 0, 0, 0, 0] : List Nat).map toByte)⟩ : CoicaFrame), [], true, ⟨0, crc32 [1, 2], [some 1, some 2]⟩, ((((((withObjs' [(Obj.COICA_STATION_STATE, 2)] (running.withObjs [(Obj.COICA_STATION_STATION_ADDR, 30)])).withCoica { rx := [(⟨0x20, 30, 126, (([18, 7, 0, 0, 0, 0, 0, 0, 0, 0, 0, 0, 0, 0, 0, 0] : List Nat).map toByte)⟩ : CoicaFrame)], block := some ⟨0, crc32 [1, 2], [some 1, some 2]⟩ }).withTime { now := 1000000000 }).withBoot { running.boot with restart := true }).withCoica { ((((withObjs' [(Obj.COICA_STATION_STATE, 2)] (running.withObjs [(Obj.COICA_STATION_STATION_ADDR, 30)])).withCoica { rx := [(⟨0x20, 30, 126, (([18, 7, 0, 0, 0, 0, 0, 0, 0, 0, 0, 0, 0, 0, 0, 0] : List Nat).map toByte)⟩ : CoicaFrame)], block := some ⟨0, crc32 [1, 2], [some 1, some 2]⟩ }).withTime { now := 1000000000 }).withBoot { running.boot with restart := true }).coica with rx := [] })).withCoica { ((((((withObjs' [(Obj.COICA_STATION_STATE, 2)] (running.withObjs [(Obj.COICA_STATION_STATION_ADDR, 30)])).withCoica { rx := [(⟨0x20, 30, 126, (([18, 7, 0, 0, 0, 0, 0, 0, 0, 0, 0, 0, 0, 0, 0, 0] : List Nat).map toByte)⟩ : CoicaFrame)], block := some ⟨0, crc32 [1, 2], [some 1, some 2]⟩ }).withTime { now := 1000000000 }).withBoot { running.boot with restart := true }).withCoica { ((((withObjs' [(Obj.COICA_STATION_STATE, 2)] (running.withObjs [(Obj.COICA_STATION_STATION_ADDR, 30)])).withCoica { rx := [(⟨0x20, 30, 126, (([18, 7, 0, 0, 0, 0, 0, 0, 0, 0, 0, 0, 0, 0, 0, 0] : List Nat).map toByte)⟩ : CoicaFrame)], block := some ⟨0, crc32 [1, 2], [some 1, some 2]⟩ }).withTime { now := 1000000000 }).withBoot { running.boot with restart := true }).coica with rx := [] })).coica with block := none }, by decide +kernel⟩

theorem witness_PairCopiesItsState_1 : ∃ (s : State) (h : MateHead) (b : List Byte) (l : List JRec), s.CoreOn ∧ s.pair.linkUp = true ∧
    s.get Obj.PAIR_CTRL_PAIR_ENABLE = 1 ∧ h.epoch = s.get Obj.PAIR_CTRL_EPOCH ∧ s.get Obj.PAIR_CTRL_ROLE = roleSTANDBY ∧ s.pair.granted
    = none ∧ parseRecords b.length b = some l :=
  ⟨(((withObjs' [(Obj.PAIR_CTRL_PAIR_ENABLE, 1), (Obj.PAIR_CTRL_ROLE, 1), (Obj.PAIR_CTRL_EPOCH, 5)] (running.withObjs [(Obj.COICA_STATION_STATION_ADDR, 30)])).withPair { linkUp := true, highest := 5, expect := some 0 }).withTime { tai := 10000000, now := 10000000, shadow := 10000000 }), (⟨5, 39, 0, 1, 2⟩ : MateHead), (JRec.emDel 3 77).encode, [.emDel 3 77], by decide +kernel⟩

theorem witness_PairCopiesItsState_2 : ∃ (s : State) (h : MateHead) (b : List Byte), s.CoreOn ∧ s.pair.linkUp = true ∧ s.get
    Obj.PAIR_CTRL_PAIR_ENABLE = 1 ∧ h.epoch = s.get Obj.PAIR_CTRL_EPOCH ∧ s.get Obj.PAIR_CTRL_ROLE = roleSTANDBY ∧ s.pair.granted = none
    ∧ parseRecords b.length b = none :=
  ⟨(((withObjs' [(Obj.PAIR_CTRL_PAIR_ENABLE, 1), (Obj.PAIR_CTRL_ROLE, 1), (Obj.PAIR_CTRL_EPOCH, 5)] (running.withObjs [(Obj.COICA_STATION_STATION_ADDR, 30)])).withPair { linkUp := true, highest := 5 }).withTime { tai := 10000000, now := 10000000, shadow := 10000000 }), (⟨5, 39, 0, 0, 2⟩ : MateHead), [1], by decide +kernel⟩

theorem witness_PairCopiesItsState_3 : ∃ (s : State) (h : MateHead), s.CoreOn ∧ s.pair.linkUp = true ∧ s.get Obj.PAIR_CTRL_PAIR_ENABLE =
    1 ∧ h.epoch = s.get Obj.PAIR_CTRL_EPOCH ∧ s.get Obj.PAIR_CTRL_ROLE = roleACTIVE ∧ (s.set Obj.PAIR_CTRL_PARTNER_EPOCH (h.epoch % 2 ^
    32)).cycleOf h.cycle ≤ (s.set Obj.PAIR_CTRL_PARTNER_EPOCH (h.epoch % 2 ^ 32)).cycleNow :=
  ⟨(((withObjs' [(Obj.PAIR_CTRL_PAIR_ENABLE, 1), (Obj.PAIR_CTRL_ROLE, 2), (Obj.PAIR_CTRL_EPOCH, 5)] (running.withObjs [(Obj.COICA_STATION_STATION_ADDR, 30)])).withPair { linkUp := true, highest := 5, leaseEnd := 20000000, unacked := [⟨39, 0, []⟩] }).withTime { tai := 10000000, now := 10000000, shadow := 10000000 }), (⟨5, 39, 0, 0, 1⟩ : MateHead), by decide +kernel⟩

theorem witness_PairCopiesItsState_4 : ∃ (s : State) (h : MateHead) (r e d : Nat), s.CoreOn ∧ s.pair.linkUp = true ∧ s.get
    Obj.PAIR_CTRL_PAIR_ENABLE = 1 ∧ h.epoch = s.get Obj.PAIR_CTRL_EPOCH ∧ s.get Obj.PAIR_CTRL_ROLE = roleSTANDBY ∧ (s.set
    Obj.PAIR_CTRL_PARTNER_EPOCH (h.epoch % 2 ^ 32)).digest r = d :=
  ⟨(((withObjs' [(Obj.PAIR_CTRL_PAIR_ENABLE, 1), (Obj.PAIR_CTRL_ROLE, 1), (Obj.PAIR_CTRL_EPOCH, 5), (Obj.PAIR_CTRL_SYNC, 2)] (running.withObjs [(Obj.COICA_STATION_STATION_ADDR, 30)])).withPair { linkUp := true, highest := 5, expect := some 9 }).withTime { tai := 10000000, now := 10000000, shadow := 10000000 }), (⟨5, 39, 0, 0, 2⟩ : MateHead), 0x0203, 9, 0, by decide +kernel⟩

theorem witness_PairCopiesItsState_5 : ∃ (s : State) (h : MateHead) (r e d : Nat) (w : State), s.CoreOn ∧ s.pair.linkUp = true ∧ s.get
    Obj.PAIR_CTRL_PAIR_ENABLE = 1 ∧ h.epoch = s.get Obj.PAIR_CTRL_EPOCH ∧ s.get Obj.PAIR_CTRL_ROLE = roleSTANDBY ∧ s.get
    Obj.PAIR_CTRL_SYNC = 2 ∧ s.pair.expect = some e ∧ s.pair.held = [] ∧ (s.set Obj.PAIR_CTRL_PARTNER_EPOCH (h.epoch % 2 ^ 32)).digest r
    ≠ d ∧ w = (((s.set Obj.PAIR_CTRL_PARTNER_EPOCH (h.epoch % 2 ^ 32)).sendMate 7 0 (cycleNumber (s.set Obj.PAIR_CTRL_PARTNER_EPOCH
    (h.epoch % 2 ^ 32)).cycleNow) 0 (bytesBE 2 r)).bump Obj.PAIR_STATS_DIGEST_MISMATCHES).raise 0x9103 uMGMT (packArg [(16, r)]) :=
  ⟨(((withObjs' [(Obj.PAIR_CTRL_PAIR_ENABLE, 1), (Obj.PAIR_CTRL_ROLE, 1), (Obj.PAIR_CTRL_EPOCH, 5), (Obj.PAIR_CTRL_SYNC, 2)] (running.withObjs [(Obj.COICA_STATION_STATION_ADDR, 30)])).withPair { linkUp := true, highest := 5, expect := some 9 }).withTime { tai := 10000000, now := 10000000, shadow := 10000000 }), (⟨5, 39, 0, 0, 2⟩ : MateHead), 0x0203, 9, 4, _, by decide +kernel, by decide +kernel, by decide +kernel, by decide +kernel, by decide +kernel, by decide +kernel, by decide +kernel, by decide +kernel, by decide +kernel, rfl⟩

theorem witness_PairCopiesItsState_6 : ∃ (s : State) (h : MateHead) (r : Nat), s.CoreOn ∧ s.pair.linkUp = true ∧ s.get
    Obj.PAIR_CTRL_PAIR_ENABLE = 1 ∧ h.epoch = s.get Obj.PAIR_CTRL_EPOCH ∧ s.get Obj.PAIR_CTRL_ROLE = roleACTIVE ∧ r ≠ 0xFFFF :=
  ⟨(((withObjs' [(Obj.PAIR_CTRL_PAIR_ENABLE, 1), (Obj.PAIR_CTRL_ROLE, 2), (Obj.PAIR_CTRL_EPOCH, 5)] (running.withObjs [(Obj.COICA_STATION_STATION_ADDR, 30)])).withPair { linkUp := true, highest := 5 }).withTime { tai := 10000000, now := 10000000, shadow := 10000000 }), (⟨5, 39, 0, 0, 1⟩ : MateHead), 0x0100, by decide +kernel⟩

theorem witness_PairCopiesItsState_7 : ∃ (s : State) (h : MateHead), s.CoreOn ∧ s.pair.linkUp = true ∧ s.get Obj.PAIR_CTRL_PAIR_ENABLE =
    1 ∧ h.epoch = s.get Obj.PAIR_CTRL_EPOCH ∧ s.get Obj.PAIR_CTRL_ROLE = roleACTIVE :=
  ⟨(((withObjs' [(Obj.PAIR_CTRL_PAIR_ENABLE, 1), (Obj.PAIR_CTRL_ROLE, 2), (Obj.PAIR_CTRL_EPOCH, 5)] (running.withObjs [(Obj.COICA_STATION_STATION_ADDR, 30)])).withPair { linkUp := true, highest := 5 }).withTime { tai := 10000000, now := 10000000, shadow := 10000000 }), (⟨5, 39, 0, 0, 1⟩ : MateHead), by decide +kernel⟩

theorem witness_PairCopiesItsState_8 : ∃ (s : State) (h : MateHead) (b : List Byte) (l : List JRec), s.CoreOn ∧ s.pair.linkUp = true ∧
    s.get Obj.PAIR_CTRL_PAIR_ENABLE = 1 ∧ h.epoch = s.get Obj.PAIR_CTRL_EPOCH ∧ s.get Obj.PAIR_CTRL_ROLE = roleSTANDBY ∧
    s.pair.outstanding.contains (wordAt b 0 2) = true ∧ s.pair.bulk = none ∧ parseRecords b.length (b.drop 8) = some l ∧ bit h.flags 0 =
    false :=
  ⟨(((withObjs' [(Obj.PAIR_CTRL_PAIR_ENABLE, 1), (Obj.PAIR_CTRL_ROLE, 1), (Obj.PAIR_CTRL_EPOCH, 5)] (running.withObjs [(Obj.COICA_STATION_STATION_ADDR, 30)])).withPair { linkUp := true, highest := 5, outstanding := [0x0100] }).withTime { tai := 10000000, now := 10000000, shadow := 10000000 }), (⟨5, 39, 0, 0, 2⟩ : MateHead), [1, 0, 0, 0, 0, 0, 0, 0], [], by decide +kernel⟩

theorem witness_PairCopiesItsState_9 : ∃ (s : State) (h : MateHead) (b : List Byte) (l : List JRec), s.CoreOn ∧ s.pair.linkUp = true ∧
    s.get Obj.PAIR_CTRL_PAIR_ENABLE = 1 ∧ h.epoch = s.get Obj.PAIR_CTRL_EPOCH ∧ s.get Obj.PAIR_CTRL_ROLE = roleSTANDBY ∧
    s.pair.outstanding.contains (wordAt b 0 2) = true ∧ s.pair.bulk = none ∧ s.pair.ready = [] ∧ parseRecords b.length (b.drop 8) = some
    l ∧ bit h.flags 0 = true :=
  ⟨(((withObjs' [(Obj.PAIR_CTRL_PAIR_ENABLE, 1), (Obj.PAIR_CTRL_ROLE, 1), (Obj.PAIR_CTRL_EPOCH, 5)] (running.withObjs [(Obj.COICA_STATION_STATION_ADDR, 30)])).withPair { linkUp := true, highest := 5, outstanding := [0x0100] }).withTime { tai := 10000000, now := 10000000, shadow := 10000000 }), (⟨5, 39, 0, 1, 2⟩ : MateHead), [1, 0, 0, 0, 0, 0, 0, 0], [], by decide +kernel⟩

theorem witness_PairCopiesItsState_10 : ∃ (s : State) (b : BulkCopy) (r : Nat) (l : List Nat), s.pair.outstanding = r :: l ∧ b.region =
    l.foldl min r ∧ s.pair.ready = [b] :=
  ⟨(((withObjs' [(Obj.PAIR_CTRL_PAIR_ENABLE, 1), (Obj.PAIR_CTRL_ROLE, 1), (Obj.PAIR_CTRL_EPOCH, 5)] (running.withObjs [(Obj.COICA_STATION_STATION_ADDR, 30)])).withPair { linkUp := true, highest := 5, outstanding := [0x0203, 0x0100], ready := [⟨0x0100, 3, []⟩] }).withTime { tai := 10000000, now := 10000000, shadow := 10000000 }), ⟨0x0100, 3, []⟩, 0x0203, [0x0100], by decide +kernel⟩

theorem witness_PairCopiesItsState_11 : ∃ (s : State) (b : BulkCopy) (r : Nat) (l : List Nat), s.pair.outstanding = r :: l ∧ b.region ≠
    l.foldl min r ∧ s.pair.ready = [b] :=
  ⟨(((withObjs' [(Obj.PAIR_CTRL_PAIR_ENABLE, 1), (Obj.PAIR_CTRL_ROLE, 1), (Obj.PAIR_CTRL_EPOCH, 5)] (running.withObjs [(Obj.COICA_STATION_STATION_ADDR, 30)])).withPair { linkUp := true, highest := 5, outstanding := [0x0203, 0x0100], ready := [⟨0x0203, 3, []⟩] }).withTime { tai := 10000000, now := 10000000, shadow := 10000000 }), ⟨0x0203, 3, []⟩, 0x0203, [0x0100], by decide +kernel⟩

theorem witness_PairCopiesItsState_12 : ∃ (s : State) (c q : Nat) (w : State), s.pair.ackDue = some (c, q) ∧ s.pair.fresh = [] ∧
    s.pair.revertDue = false ∧ s.get Obj.PAIR_CTRL_ROLE ≠ roleACTIVE ∧ w = s.sendMate 2 0 c q [] :=
  ⟨(((withObjs' [(Obj.PAIR_CTRL_PAIR_ENABLE, 1), (Obj.PAIR_CTRL_ROLE, 1), (Obj.PAIR_CTRL_EPOCH, 5)] (running.withObjs [(Obj.COICA_STATION_STATION_ADDR, 30)])).withPair { linkUp := true, highest := 5, ackDue := some (39, 7) }).withTime { tai := 10000000, now := 10000000, shadow := 10000000 }), 39, 7, _, by decide +kernel, by decide +kernel, by decide +kernel, by decide +kernel, rfl⟩

theorem witness_PairMessagesAreActedOn_1 : ∃ (s : State) (h : MateHead) (b : List Byte) (d : Nat), s.Canonical ∧ s.CoreOn ∧
    s.pair.linkUp = true ∧ s.get Obj.PAIR_CTRL_PAIR_ENABLE = 1 ∧ h.epoch = s.get Obj.PAIR_CTRL_EPOCH :=
  ⟨withObjs' [(Obj.PAIR_CTRL_PAIR_ENABLE, 1), (Obj.PAIR_CTRL_ROLE, 2), (Obj.PAIR_CTRL_EPOCH, 5)] (running.withPair { linkUp := true, highest := 5 }), (⟨5, 39, 0, 0, 1⟩ : MateHead), List.replicate 64 0, 100, by decide +kernel⟩

theorem witness_PairMessagesAreActedOn_2 : ∃ (s : State) (h : MateHead), s.CoreOn ∧ s.pair.linkUp = true ∧ s.get
    Obj.PAIR_CTRL_PAIR_ENABLE = 1 ∧ h.epoch = s.get Obj.PAIR_CTRL_EPOCH ∧ s.get Obj.PAIR_CTRL_ROLE = roleSTANDBY ∧ bit h.flags 0 = false
    :=
  ⟨(((withObjs' [(Obj.PAIR_CTRL_PAIR_ENABLE, 1), (Obj.PAIR_CTRL_ROLE, 1), (Obj.PAIR_CTRL_EPOCH, 5)] (running.withObjs [(Obj.COICA_STATION_STATION_ADDR, 30)])).withPair { linkUp := true, highest := 5 }).withTime { tai := 10000000, now := 10000000, shadow := 10000000 }), (⟨5, 39, 0, 0, 2⟩ : MateHead), by decide +kernel⟩

theorem witness_PairMessagesAreActedOn_3 : ∃ (s : State) (h : MateHead), s.CoreOn ∧ s.pair.linkUp = true ∧ s.get
    Obj.PAIR_CTRL_PAIR_ENABLE = 1 ∧ h.epoch = s.get Obj.PAIR_CTRL_EPOCH ∧ s.get Obj.PAIR_CTRL_ROLE = roleSTANDBY ∧ bit h.flags 0 = true
    :=
  ⟨(((withObjs' [(Obj.PAIR_CTRL_PAIR_ENABLE, 1), (Obj.PAIR_CTRL_ROLE, 1), (Obj.PAIR_CTRL_EPOCH, 5)] (running.withObjs [(Obj.COICA_STATION_STATION_ADDR, 30)])).withPair { linkUp := true, highest := 5 }).withTime { tai := 10000000, now := 10000000, shadow := 10000000 }), (⟨5, 39, 0, 1, 2⟩ : MateHead), by decide +kernel⟩

theorem witness_PairMessagesAreActedOn_4 : ∃ (s : State) (h : MateHead), s.CoreOn ∧ s.pair.linkUp = true ∧ s.get
    Obj.PAIR_CTRL_PAIR_ENABLE = 1 ∧ h.epoch = s.get Obj.PAIR_CTRL_EPOCH ∧ s.get Obj.PAIR_CTRL_ROLE = roleACTIVE :=
  ⟨(((withObjs' [(Obj.PAIR_CTRL_PAIR_ENABLE, 1), (Obj.PAIR_CTRL_ROLE, 2), (Obj.PAIR_CTRL_EPOCH, 5)] (running.withObjs [(Obj.COICA_STATION_STATION_ADDR, 30)])).withPair { linkUp := true, highest := 5 }).withTime { tai := 10000000, now := 10000000, shadow := 10000000 }), (⟨5, 39, 0, 0, 1⟩ : MateHead), by decide +kernel⟩

theorem witness_PairMessagesAreActedOn_5 : ∃ (s : State) (h : MateHead), s.CoreOn ∧ s.pair.linkUp = true ∧ s.get
    Obj.PAIR_CTRL_PAIR_ENABLE = 1 ∧ h.epoch = s.get Obj.PAIR_CTRL_EPOCH ∧ s.get Obj.PAIR_CTRL_ROLE ≠ roleACTIVE :=
  ⟨(((withObjs' [(Obj.PAIR_CTRL_PAIR_ENABLE, 1), (Obj.PAIR_CTRL_ROLE, 1), (Obj.PAIR_CTRL_EPOCH, 5)] (running.withObjs [(Obj.COICA_STATION_STATION_ADDR, 30)])).withPair { linkUp := true, highest := 5 }).withTime { tai := 10000000, now := 10000000, shadow := 10000000 }), (⟨5, 39, 0, 0, 1⟩ : MateHead), by decide +kernel⟩

theorem witness_PairMessagesAreActedOn_6 : ∃ (s : State) (w : State), s.pair.revertDue = true ∧ s.get Obj.PAIR_CTRL_ROLE = roleACTIVE ∧
    s.pair.partner.home = true ∧ s.pair.releasing = false ∧ w = (s.withPair { s.pair with revertDue := false }).handOver ∧
    w.hardwareChanges = [] ∧ w.pair.ackDue = none ∧ w.pair.fresh = [] ∧ w.get Obj.PAIR_CTRL_ROLE = roleACTIVE :=
  ⟨(((withObjs' [(Obj.PAIR_CTRL_PAIR_ENABLE, 1), (Obj.PAIR_CTRL_ROLE, 2), (Obj.PAIR_CTRL_EPOCH, 5), (Obj.PAIR_CTRL_PARTNER, 16777728), (Obj.PAIR_CTRL_HOME, 0)] (running.withObjs [(Obj.COICA_STATION_STATION_ADDR, 30)])).withPair { linkUp := true, highest := 5, revertDue := true, partner := { home := true, ac0Mode := 1, ac0Epoch := 1357058564291559424 }, leaseEnd := 20000000 }).withTime { tai := 10000000, now := 10000000, shadow := 10000000 }), _, by decide +kernel, by decide +kernel, by decide +kernel, by decide +kernel, rfl, by decide +kernel, by decide +kernel, by decide +kernel, by decide +kernel⟩

theorem witness_PairMessagesAreActedOn_7 : ∃ (s : State) (w : State), s.silent = false ∧ s.partnerHealth ≤ 1 ∧ s.partnerSync = 2 ∧
    s.ac0Differs = false ∧ w = (s.sendMate 4 0 (cycleNumber s.cycleNow) 0 []).bumpSent Obj.PAIR_STATS_RELEASES 1 :=
  ⟨(((withObjs' [(Obj.PAIR_CTRL_PAIR_ENABLE, 1), (Obj.PAIR_CTRL_ROLE, 2), (Obj.PAIR_CTRL_EPOCH, 5), (Obj.PAIR_CTRL_PARTNER, 16777728), (Obj.PAIR_CTRL_HOME, 0)] (running.withObjs [(Obj.COICA_STATION_STATION_ADDR, 30)])).withPair { linkUp := true, highest := 5, partner := { home := true, ac0Mode := 1, ac0Epoch := 1357058564291559424 }, leaseEnd := 20000000 }).withTime { tai := 10000000, now := 10000000, shadow := 10000000 }), _, by decide +kernel, by decide +kernel, by decide +kernel, by decide +kernel, rfl⟩

theorem witness_PairMessagesAreActedOn_8 : ∃ (s : State), (s.silent = true ∨ 1 < s.partnerHealth ∨ s.partnerSync ≠ 2 ∨ s.ac0Differs =
    true) :=
  ⟨(((withObjs' [(Obj.PAIR_CTRL_PAIR_ENABLE, 1), (Obj.PAIR_CTRL_ROLE, 2), (Obj.PAIR_CTRL_EPOCH, 5), (Obj.PAIR_CTRL_PARTNER, 1)] (running.withObjs [(Obj.COICA_STATION_STATION_ADDR, 30)])).withPair { linkUp := true, highest := 5, partner := { home := true } }).withTime { tai := 10000000, now := 10000000, shadow := 10000000 }), by decide +kernel⟩

theorem witness_PairMessagesAreActedOn_9 : ∃ (s : State) (h : MateHead) (b : List Byte), s.CoreOn ∧ s.pair.linkUp = true ∧ s.get
    Obj.PAIR_CTRL_PAIR_ENABLE = 1 ∧ h.epoch = s.get Obj.PAIR_CTRL_EPOCH :=
  ⟨(((withObjs' [(Obj.PAIR_CTRL_PAIR_ENABLE, 1), (Obj.PAIR_CTRL_ROLE, 2), (Obj.PAIR_CTRL_EPOCH, 5)] (running.withObjs [(Obj.COICA_STATION_STATION_ADDR, 30)])).withPair { linkUp := true, highest := 5 }).withTime { tai := 10000000, now := 10000000, shadow := 10000000 }), (⟨5, 39, 0, 0, 1⟩ : MateHead), withFcs (List.replicate 60 1), by decide +kernel⟩

theorem witness_PairMessagesAreActedOn_10 : ∃ (s : State) (h : MateHead), s.CoreOn ∧ s.pair.linkUp = true ∧ s.get
    Obj.PAIR_CTRL_PAIR_ENABLE = 1 ∧ h.epoch = s.get Obj.PAIR_CTRL_EPOCH :=
  ⟨(((withObjs' [(Obj.PAIR_CTRL_PAIR_ENABLE, 1), (Obj.PAIR_CTRL_ROLE, 2), (Obj.PAIR_CTRL_EPOCH, 5)] (running.withObjs [(Obj.COICA_STATION_STATION_ADDR, 30)])).withPair { linkUp := true, highest := 5 }).withTime { tai := 10000000, now := 10000000, shadow := 10000000 }), (⟨5, 39, 0, 0, 1⟩ : MateHead), by decide +kernel⟩

theorem witness_PairMessagesAreActedOn_11 : ∃ (s : State) (h : MateHead) (c : Fin 64) (a : Nat) (b : List Byte), s.CoreOn ∧
    s.pair.linkUp = true ∧ s.get Obj.PAIR_CTRL_PAIR_ENABLE = 1 ∧ h.epoch = s.get Obj.PAIR_CTRL_EPOCH ∧ Fld.BND_VALID.get ((s.set
    Obj.PAIR_CTRL_PARTNER_EPOCH (h.epoch % 2 ^ 32)).binding c) = 1 ∧ Fld.BND_RECEIVER.get ((s.set Obj.PAIR_CTRL_PARTNER_EPOCH (h.epoch %
    2 ^ 32)).binding c) = MATE ∧ (s.set Obj.PAIR_CTRL_PARTNER_EPOCH (h.epoch % 2 ^ 32)).get (Obj.MAILBOX_STATE c) = 1 :=
  ⟨(((withObjs' [(Obj.PAIR_CTRL_PAIR_ENABLE, 1), (Obj.PAIR_CTRL_ROLE, 2), (Obj.PAIR_CTRL_EPOCH, 5), (Obj.MB_BINDING_BIND_MB 4, 2147483945), (Obj.MAILBOX_STATE 4, 1)] (running.withObjs [(Obj.COICA_STATION_STATION_ADDR, 30)])).withPair { linkUp := true, highest := 5 }).withTime { tai := 10000000, now := 10000000, shadow := 10000000 }), (⟨5, 39, 0, 0, 1⟩ : MateHead), 4, 2147483648, [], by decide +kernel⟩

theorem witness_PairMessagesAreActedOn_12 : ∃ (s : State) (h : MateHead) (c : Fin 64) (a : Nat) (b : List Byte) (w : State), s.CoreOn ∧
    s.pair.linkUp = true ∧ s.get Obj.PAIR_CTRL_PAIR_ENABLE = 1 ∧ h.epoch = s.get Obj.PAIR_CTRL_EPOCH ∧ Fld.BND_VALID.get ((s.set
    Obj.PAIR_CTRL_PARTNER_EPOCH (h.epoch % 2 ^ 32)).binding c) = 1 ∧ Fld.BND_SHARED.get ((s.set Obj.PAIR_CTRL_PARTNER_EPOCH (h.epoch % 2
    ^ 32)).binding c) = 0 ∧ Fld.BND_SENDER.get ((s.set Obj.PAIR_CTRL_PARTNER_EPOCH (h.epoch % 2 ^ 32)).binding c) = MATE ∧ (w =
    (((forEach (List.range 4) (s.set Obj.PAIR_CTRL_PARTNER_EPOCH (h.epoch % 2 ^ 32)) fun s k => s.set (Obj.MAILBOX_MSG c k) (natLE
    ((b.drop (16 * k)).take 16))).set (Obj.MAILBOX_ACK c) 0).bump (Obj.MAILBOX_POSTS c)).set (Obj.MAILBOX_STATE c) 1) :=
  ⟨(((withObjs' [(Obj.PAIR_CTRL_PAIR_ENABLE, 1), (Obj.PAIR_CTRL_ROLE, 2), (Obj.PAIR_CTRL_EPOCH, 5), (Obj.MB_BINDING_BIND_MB 4, 2147494184)] (running.withObjs [(Obj.COICA_STATION_STATION_ADDR, 30)])).withPair { linkUp := true, highest := 5 }).withTime { tai := 10000000, now := 10000000, shadow := 10000000 }), (⟨5, 39, 0, 0, 1⟩ : MateHead), 4, 0, List.replicate 64 7, (((forEach (List.range 4) ((((withObjs' [(Obj.PAIR_CTRL_PAIR_ENABLE, 1), (Obj.PAIR_CTRL_ROLE, 2), (Obj.PAIR_CTRL_EPOCH, 5), (Obj.MB_BINDING_BIND_MB 4, 2147494184)] (running.withObjs [(Obj.COICA_STATION_STATION_ADDR, 30)])).withPair { linkUp := true, highest := 5 }).withTime { tai := 10000000, now := 10000000, shadow := 10000000 }).set Obj.PAIR_CTRL_PARTNER_EPOCH 5) fun s k => s.set (Obj.MAILBOX_MSG 4 k) (natLE (((List.replicate 64 7).drop (16 * k)).take 16))).set (Obj.MAILBOX_ACK 4) 0).bump (Obj.MAILBOX_POSTS 4)).set (Obj.MAILBOX_STATE 4) 1, by decide +kernel⟩

theorem witness_PairMessagesAreActedOn_13 : ∃ (s : State) (h : MateHead), s.CoreOn ∧ s.pair.linkUp = true ∧ s.get
    Obj.PAIR_CTRL_PAIR_ENABLE = 1 ∧ epochHigher (s.get Obj.PAIR_CTRL_EPOCH) h.epoch = true :=
  ⟨(((withObjs' [(Obj.PAIR_CTRL_PAIR_ENABLE, 1), (Obj.PAIR_CTRL_ROLE, 1), (Obj.PAIR_CTRL_EPOCH, 5)] (running.withObjs [(Obj.COICA_STATION_STATION_ADDR, 30)])).withPair { linkUp := true, highest := 5 }).withTime { tai := 10000000, now := 10000000, shadow := 10000000 }), (⟨4, 39, 0, 0, 2⟩ : MateHead), by decide +kernel⟩

theorem witness_PairKeepsTimeAndRoles_1 : ∃ (s : State) (f w : State), s.CoreOn ∧ s.airDone = true ∧ f = (s.fire 4).2 ∧ f.reached
    (f.cycleStart f.cycleNow) = true ∧ f.pair.cycleEnd ≠ some f.time.now ∧ f.pair.journalFrom = none ∧ f.get Obj.PAIR_CTRL_PAIR_ENABLE =
    1 ∧ f.pair.releasing = false ∧ f.pair.heard = true ∧ f.pair.linkUp = true ∧ f.pair.selfRenew = false ∧ f.time.tai ≤ f.time.shadow +
    1000 ∧ f.time.shadow ≤ f.time.tai + 1000 ∧ f.get Obj.PAIR_CTRL_ROLE ≠ roleACTIVE ∧ w = (((f.withPair { f.pair with cycleEnd := some f.time.now }).showHealth).sendMate
    3 0 (cycleNumber (f.cycleNow - 1)) 0 ((f.withPair { f.pair with cycleEnd := some f.time.now }).showHealth).healthReport).withPair { (((f.withPair { f.pair with cycleEnd := some f.time.now }).showHealth).sendMate 3 0 (cycleNumber (f.cycleNow - 1)) 0 ((f.withPair { f.pair with cycleEnd := some f.time.now }).showHealth).healthReport).pair with missed := 0, heard := false }
    :=
  ⟨(((withObjs' [(Obj.PAIR_CTRL_PAIR_ENABLE, 1), (Obj.PAIR_CTRL_ROLE, 1), (Obj.PAIR_CTRL_EPOCH, 5)] (running.withObjs [(Obj.COICA_STATION_STATION_ADDR, 30)])).withPair { linkUp := true, highest := 5, heard := true, leaseEnd := 20000000 }).withTime { tai := 10000000, now := 10000000, shadow := 10000000, before := 9999999 }), (((withObjs' [(Obj.PAIR_CTRL_PAIR_ENABLE, 1), (Obj.PAIR_CTRL_ROLE, 1), (Obj.PAIR_CTRL_EPOCH, 5)] (running.withObjs [(Obj.COICA_STATION_STATION_ADDR, 30)])).withPair { linkUp := true, highest := 5, heard := true, leaseEnd := 20000000 }).withTime { tai := 10000000, now := 10000000, shadow := 10000000, before := 9999999 }), ((((((withObjs' [(Obj.PAIR_CTRL_PAIR_ENABLE, 1), (Obj.PAIR_CTRL_ROLE, 1), (Obj.PAIR_CTRL_EPOCH, 5)] (running.withObjs [(Obj.COICA_STATION_STATION_ADDR, 30)])).withPair { linkUp := true, highest := 5, heard := true, leaseEnd := 20000000 }).withTime { tai := 10000000, now := 10000000, shadow := 10000000, before := 9999999 }).withPair { (((withObjs' [(Obj.PAIR_CTRL_PAIR_ENABLE, 1), (Obj.PAIR_CTRL_ROLE, 1), (Obj.PAIR_CTRL_EPOCH, 5)] (running.withObjs [(Obj.COICA_STATION_STATION_ADDR, 30)])).withPair { linkUp := true, highest := 5, heard := true, leaseEnd := 20000000 }).withTime { tai := 10000000, now := 10000000, shadow := 10000000, before := 9999999 }).pair with cycleEnd := some (((withObjs' [(Obj.PAIR_CTRL_PAIR_ENABLE, 1), (Obj.PAIR_CTRL_ROLE, 1), (Obj.PAIR_CTRL_EPOCH, 5)] (running.withObjs [(Obj.COICA_STATION_STATION_ADDR, 30)])).withPair { linkUp := true, highest := 5, heard := true, leaseEnd := 20000000 }).withTime { tai := 10000000, now := 10000000, shadow := 10000000, before := 9999999 }).time.now }).showHealth).sendMate 3 0 (cycleNumber ((((withObjs' [(Obj.PAIR_CTRL_PAIR_ENABLE, 1), (Obj.PAIR_CTRL_ROLE, 1), (Obj.PAIR_CTRL_EPOCH, 5)] (running.withObjs [(Obj.COICA_STATION_STATION_ADDR, 30)])).withPair { linkUp := true, highest := 5, heard := true, leaseEnd := 20000000 }).withTime { tai := 10000000, now := 10000000, shadow := 10000000, before := 9999999 }).cycleNow - 1)) 0 (((((withObjs' [(Obj.PAIR_CTRL_PAIR_ENABLE, 1), (Obj.PAIR_CTRL_ROLE, 1), (Obj.PAIR_CTRL_EPOCH, 5)] (running.withObjs [(Obj.COICA_STATION_STATION_ADDR, 30)])).withPair { linkUp := true, highest := 5, heard := true, leaseEnd := 20000000 }).withTime { tai := 10000000, now := 10000000, shadow := 10000000, before := 9999999 }).withPair { (((withObjs' [(Obj.PAIR_CTRL_PAIR_ENABLE, 1), (Obj.PAIR_CTRL_ROLE, 1), (Obj.PAIR_CTRL_EPOCH, 5)] (running.withObjs [(Obj.COICA_STATION_STATION_ADDR, 30)])).withPair { linkUp := true, highest := 5, heard := true, leaseEnd := 20000000 }).withTime { tai := 10000000, now := 10000000, shadow := 10000000, before := 9999999 }).pair with cycleEnd := some (((withObjs' [(Obj.PAIR_CTRL_PAIR_ENABLE, 1), (Obj.PAIR_CTRL_ROLE, 1), (Obj.PAIR_CTRL_EPOCH, 5)] (running.withObjs [(Obj.COICA_STATION_STATION_ADDR, 30)])).withPair { linkUp := true, highest := 5, heard := true, leaseEnd := 20000000 }).withTime { tai := 10000000, now := 10000000, shadow := 10000000, before := 9999999 }).time.now }).showHealth).healthReport).withPair { ((((((withObjs' [(Obj.PAIR_CTRL_PAIR_ENABLE, 1), (Obj.PAIR_CTRL_ROLE, 1), (Obj.PAIR_CTRL_EPOCH, 5)] (running.withObjs [(Obj.COICA_STATION_STATION_ADDR, 30)])).withPair { linkUp := true, highest := 5, heard := true, leaseEnd := 20000000 }).withTime { tai := 10000000, now := 10000000, shadow := 10000000, before := 9999999 }).withPair { (((withObjs' [(Obj.PAIR_CTRL_PAIR_ENABLE, 1), (Obj.PAIR_CTRL_ROLE, 1), (Obj.PAIR_CTRL_EPOCH, 5)] (running.withObjs [(Obj.COICA_STATION_STATION_ADDR, 30)])).withPair { linkUp := true, highest := 5, heard := true, leaseEnd := 20000000 }).withTime { tai := 10000000, now := 10000000, shadow := 10000000, before := 9999999 }).pair with cycleEnd := some (((withObjs' [(Obj.PAIR_CTRL_PAIR_ENABLE, 1), (Obj.PAIR_CTRL_ROLE, 1), (Obj.PAIR_CTRL_EPOCH, 5)] (running.withObjs [(Obj.COICA_STATION_STATION_ADDR, 30)])).withPair { linkUp := true, highest := 5, heard := true, leaseEnd := 20000000 }).withTime { tai := 10000000, now := 10000000, shadow := 10000000, before := 9999999 }).time.now }).showHealth).sendMate 3 0 (cycleNumber ((((withObjs' [(Obj.PAIR_CTRL_PAIR_ENABLE, 1), (Obj.PAIR_CTRL_ROLE, 1), (Obj.PAIR_CTRL_EPOCH, 5)] (running.withObjs [(Obj.COICA_STATION_STATION_ADDR, 30)])).withPair { linkUp := true, highest := 5, heard := true, leaseEnd := 20000000 }).withTime { tai := 10000000, now := 10000000, shadow := 10000000, before := 9999999 }).cycleNow - 1)) 0 (((((withObjs' [(Obj.PAIR_CTRL_PAIR_ENABLE, 1), (Obj.PAIR_CTRL_ROLE, 1), (Obj.PAIR_CTRL_EPOCH, 5)] (running.withObjs [(Obj.COICA_STATION_STATION_ADDR, 30)])).withPair { linkUp := true, highest := 5, heard := true, leaseEnd := 20000000 }).withTime { tai := 10000000, now := 10000000, shadow := 10000000, before := 9999999 }).withPair { (((withObjs' [(Obj.PAIR_CTRL_PAIR_ENABLE, 1), (Obj.PAIR_CTRL_ROLE, 1), (Obj.PAIR_CTRL_EPOCH, 5)] (running.withObjs [(Obj.COICA_STATION_STATION_ADDR, 30)])).withPair { linkUp := true, highest := 5, heard := true, leaseEnd := 20000000 }).withTime { tai := 10000000, now := 10000000, shadow := 10000000, before := 9999999 }).pair with cycleEnd := some (((withObjs' [(Obj.PAIR_CTRL_PAIR_ENABLE, 1), (Obj.PAIR_CTRL_ROLE, 1), (Obj.PAIR_CTRL_EPOCH, 5)] (running.withObjs [(Obj.COICA_STATION_STATION_ADDR, 30)])).withPair { linkUp := true, highest := 5, heard := true, leaseEnd := 20000000 }).withTime { tai := 10000000, now := 10000000, shadow := 10000000, before := 9999999 }).time.now }).showHealth).healthReport).pair with missed := 0, heard := false }, by decide +kernel⟩

theorem witness_PairKeepsTimeAndRoles_2 : ∃ (s : State) (f w : State), s.CoreOn ∧ s.airDone = true ∧ f = (s.fire 4).2 ∧ f.reached
    (f.cycleStart f.cycleNow) = true ∧ f.pair.cycleEnd ≠ some f.time.now ∧ f.pair.journalFrom = none ∧ f.get Obj.PAIR_CTRL_PAIR_ENABLE =
    1 ∧ f.pair.releasing = false ∧ f.pair.heard = true ∧ f.pair.linkUp = true ∧ f.pair.selfRenew = false ∧ f.time.tai ≤ f.time.shadow +
    1000 ∧ f.time.shadow ≤ f.time.tai + 1000 ∧ f.get Obj.PAIR_CTRL_ROLE = roleACTIVE ∧ w = ((((f.withPair { f.pair with cycleEnd := some f.time.now }).showHealth).closeJournal
    (f.cycleNow - 1)).sendMate 3 0 (cycleNumber (f.cycleNow - 1)) 0 (((f.withPair { f.pair with cycleEnd := some f.time.now }).showHealth).closeJournal
    (f.cycleNow - 1)).healthReport).withPair { ((((f.withPair { f.pair with cycleEnd := some f.time.now }).showHealth).closeJournal (f.cycleNow - 1)).sendMate 3 0 (cycleNumber (f.cycleNow - 1)) 0 (((f.withPair { f.pair with cycleEnd := some f.time.now }).showHealth).closeJournal (f.cycleNow - 1)).healthReport).pair with missed := 0, heard := false }
    :=
  ⟨(((withObjs' [(Obj.PAIR_CTRL_PAIR_ENABLE, 1), (Obj.PAIR_CTRL_ROLE, 2), (Obj.PAIR_CTRL_EPOCH, 5)] (running.withObjs [(Obj.COICA_STATION_STATION_ADDR, 30)])).withPair { linkUp := true, highest := 5, heard := true, leaseEnd := 20000000 }).withTime { tai := 10000000, now := 10000000, shadow := 10000000, before := 9999999 }), (((withObjs' [(Obj.PAIR_CTRL_PAIR_ENABLE, 1), (Obj.PAIR_CTRL_ROLE, 2), (Obj.PAIR_CTRL_EPOCH, 5)] (running.withObjs [(Obj.COICA_STATION_STATION_ADDR, 30)])).withPair { linkUp := true, highest := 5, heard := true, leaseEnd := 20000000 }).withTime { tai := 10000000, now := 10000000, shadow := 10000000, before := 9999999 }), (((((((withObjs' [(Obj.PAIR_CTRL_PAIR_ENABLE, 1), (Obj.PAIR_CTRL_ROLE, 2), (Obj.PAIR_CTRL_EPOCH, 5)] (running.withObjs [(Obj.COICA_STATION_STATION_ADDR, 30)])).withPair { linkUp := true, highest := 5, heard := true, leaseEnd := 20000000 }).withTime { tai := 10000000, now := 10000000, shadow := 10000000, before := 9999999 }).withPair { (((withObjs' [(Obj.PAIR_CTRL_PAIR_ENABLE, 1), (Obj.PAIR_CTRL_ROLE, 2), (Obj.PAIR_CTRL_EPOCH, 5)] (running.withObjs [(Obj.COICA_STATION_STATION_ADDR, 30)])).withPair { linkUp := true, highest := 5, heard := true, leaseEnd := 20000000 }).withTime { tai := 10000000, now := 10000000, shadow := 10000000, before := 9999999 }).pair with cycleEnd := some (((withObjs' [(Obj.PAIR_CTRL_PAIR_ENABLE, 1), (Obj.PAIR_CTRL_ROLE, 2), (Obj.PAIR_CTRL_EPOCH, 5)] (running.withObjs [(Obj.COICA_STATION_STATION_ADDR, 30)])).withPair { linkUp := true, highest := 5, heard := true, leaseEnd := 20000000 }).withTime { tai := 10000000, now := 10000000, shadow := 10000000, before := 9999999 }).time.now }).showHealth).closeJournal ((((withObjs' [(Obj.PAIR_CTRL_PAIR_ENABLE, 1), (Obj.PAIR_CTRL_ROLE, 2), (Obj.PAIR_CTRL_EPOCH, 5)] (running.withObjs [(Obj.COICA_STATION_STATION_ADDR, 30)])).withPair { linkUp := true, highest := 5, heard := true, leaseEnd := 20000000 }).withTime { tai := 10000000, now := 10000000, shadow := 10000000, before := 9999999 }).cycleNow - 1)).sendMate 3 0 (cycleNumber ((((withObjs' [(Obj.PAIR_CTRL_PAIR_ENABLE, 1), (Obj.PAIR_CTRL_ROLE, 2), (Obj.PAIR_CTRL_EPOCH, 5)] (running.withObjs [(Obj.COICA_STATION_STATION_ADDR, 30)])).withPair { linkUp := true, highest := 5, heard := true, leaseEnd := 20000000 }).withTime { tai := 10000000, now := 10000000, shadow := 10000000, before := 9999999 }).cycleNow - 1)) 0 ((((((withObjs' [(Obj.PAIR_CTRL_PAIR_ENABLE, 1), (Obj.PAIR_CTRL_ROLE, 2), (Obj.PAIR_CTRL_EPOCH, 5)] (running.withObjs [(Obj.COICA_STATION_STATION_ADDR, 30)])).withPair { linkUp := true, highest := 5, heard := true, leaseEnd := 20000000 }).withTime { tai := 10000000, now := 10000000, shadow := 10000000, before := 9999999 }).withPair { (((withObjs' [(Obj.PAIR_CTRL_PAIR_ENABLE, 1), (Obj.PAIR_CTRL_ROLE, 2), (Obj.PAIR_CTRL_EPOCH, 5)] (running.withObjs [(Obj.COICA_STATION_STATION_ADDR, 30)])).withPair { linkUp := true, highest := 5, heard := true, leaseEnd := 20000000 }).withTime { tai := 10000000, now := 10000000, shadow := 10000000, before := 9999999 }).pair with cycleEnd := some (((withObjs' [(Obj.PAIR_CTRL_PAIR_ENABLE, 1), (Obj.PAIR_CTRL_ROLE, 2), (Obj.PAIR_CTRL_EPOCH, 5)] (running.withObjs [(Obj.COICA_STATION_STATION_ADDR, 30)])).withPair { linkUp := true, highest := 5, heard := true, leaseEnd := 20000000 }).withTime { tai := 10000000, now := 10000000, shadow := 10000000, before := 9999999 }).time.now }).showHealth).closeJournal ((((withObjs' [(Obj.PAIR_CTRL_PAIR_ENABLE, 1), (Obj.PAIR_CTRL_ROLE, 2), (Obj.PAIR_CTRL_EPOCH, 5)] (running.withObjs [(Obj.COICA_STATION_STATION_ADDR, 30)])).withPair { linkUp := true, highest := 5, heard := true, leaseEnd := 20000000 }).withTime { tai := 10000000, now := 10000000, shadow := 10000000, before := 9999999 }).cycleNow - 1)).healthReport).withPair { (((((((withObjs' [(Obj.PAIR_CTRL_PAIR_ENABLE, 1), (Obj.PAIR_CTRL_ROLE, 2), (Obj.PAIR_CTRL_EPOCH, 5)] (running.withObjs [(Obj.COICA_STATION_STATION_ADDR, 30)])).withPair { linkUp := true, highest := 5, heard := true, leaseEnd := 20000000 }).withTime { tai := 10000000, now := 10000000, shadow := 10000000, before := 9999999 }).withPair { (((withObjs' [(Obj.PAIR_CTRL_PAIR_ENABLE, 1), (Obj.PAIR_CTRL_ROLE, 2), (Obj.PAIR_CTRL_EPOCH, 5)] (running.withObjs [(Obj.COICA_STATION_STATION_ADDR, 30)])).withPair { linkUp := true, highest := 5, heard := true, leaseEnd := 20000000 }).withTime { tai := 10000000, now := 10000000, shadow := 10000000, before := 9999999 }).pair with cycleEnd := some (((withObjs' [(Obj.PAIR_CTRL_PAIR_ENABLE, 1), (Obj.PAIR_CTRL_ROLE, 2), (Obj.PAIR_CTRL_EPOCH, 5)] (running.withObjs [(Obj.COICA_STATION_STATION_ADDR, 30)])).withPair { linkUp := true, highest := 5, heard := true, leaseEnd := 20000000 }).withTime { tai := 10000000, now := 10000000, shadow := 10000000, before := 9999999 }).time.now }).showHealth).closeJournal ((((withObjs' [(Obj.PAIR_CTRL_PAIR_ENABLE, 1), (Obj.PAIR_CTRL_ROLE, 2), (Obj.PAIR_CTRL_EPOCH, 5)] (running.withObjs [(Obj.COICA_STATION_STATION_ADDR, 30)])).withPair { linkUp := true, highest := 5, heard := true, leaseEnd := 20000000 }).withTime { tai := 10000000, now := 10000000, shadow := 10000000, before := 9999999 }).cycleNow - 1)).sendMate 3 0 (cycleNumber ((((withObjs' [(Obj.PAIR_CTRL_PAIR_ENABLE, 1), (Obj.PAIR_CTRL_ROLE, 2), (Obj.PAIR_CTRL_EPOCH, 5)] (running.withObjs [(Obj.COICA_STATION_STATION_ADDR, 30)])).withPair { linkUp := true, highest := 5, heard := true, leaseEnd := 20000000 }).withTime { tai := 10000000, now := 10000000, shadow := 10000000, before := 9999999 }).cycleNow - 1)) 0 ((((((withObjs' [(Obj.PAIR_CTRL_PAIR_ENABLE, 1), (Obj.PAIR_CTRL_ROLE, 2), (Obj.PAIR_CTRL_EPOCH, 5)] (running.withObjs [(Obj.COICA_STATION_STATION_ADDR, 30)])).withPair { linkUp := true, highest := 5, heard := true, leaseEnd := 20000000 }).withTime { tai := 10000000, now := 10000000, shadow := 10000000, before := 9999999 }).withPair { (((withObjs' [(Obj.PAIR_CTRL_PAIR_ENABLE, 1), (Obj.PAIR_CTRL_ROLE, 2), (Obj.PAIR_CTRL_EPOCH, 5)] (running.withObjs [(Obj.COICA_STATION_STATION_ADDR, 30)])).withPair { linkUp := true, highest := 5, heard := true, leaseEnd := 20000000 }).withTime { tai := 10000000, now := 10000000, shadow := 10000000, before := 9999999 }).pair with cycleEnd := some (((withObjs' [(Obj.PAIR_CTRL_PAIR_ENABLE, 1), (Obj.PAIR_CTRL_ROLE, 2), (Obj.PAIR_CTRL_EPOCH, 5)] (running.withObjs [(Obj.COICA_STATION_STATION_ADDR, 30)])).withPair { linkUp := true, highest := 5, heard := true, leaseEnd := 20000000 }).withTime { tai := 10000000, now := 10000000, shadow := 10000000, before := 9999999 }).time.now }).showHealth).closeJournal ((((withObjs' [(Obj.PAIR_CTRL_PAIR_ENABLE, 1), (Obj.PAIR_CTRL_ROLE, 2), (Obj.PAIR_CTRL_EPOCH, 5)] (running.withObjs [(Obj.COICA_STATION_STATION_ADDR, 30)])).withPair { linkUp := true, highest := 5, heard := true, leaseEnd := 20000000 }).withTime { tai := 10000000, now := 10000000, shadow := 10000000, before := 9999999 }).cycleNow - 1)).healthReport).pair with missed := 0, heard := false }, by decide +kernel⟩

theorem witness_PairKeepsTimeAndRoles_3 : ∃ (s : State), s.get Obj.PAIR_CTRL_ROLE = roleACTIVE ∧ s.leaseValid = false ∧ s.pair.releasing
    = false :=
  ⟨(((withObjs' [(Obj.PAIR_CTRL_PAIR_ENABLE, 1), (Obj.PAIR_CTRL_ROLE, 2), (Obj.PAIR_CTRL_EPOCH, 5)] (running.withObjs [(Obj.COICA_STATION_STATION_ADDR, 30)])).withPair { linkUp := true, highest := 5 }).withTime { tai := 10000000, now := 10000000, shadow := 10000000 }), by decide +kernel⟩

theorem witness_PairKeepsTimeAndRoles_4 : ∃ (s : State), (s.get Obj.PAIR_CTRL_ROLE ≠ roleACTIVE ∨ s.leaseValid = true) :=
  ⟨(((withObjs' [(Obj.PAIR_CTRL_PAIR_ENABLE, 1), (Obj.PAIR_CTRL_ROLE, 1), (Obj.PAIR_CTRL_EPOCH, 5)] (running.withObjs [(Obj.COICA_STATION_STATION_ADDR, 30)])).withPair { linkUp := true, highest := 5 }).withTime { tai := 10000000, now := 10000000, shadow := 10000000 }), by decide +kernel⟩

theorem witness_PairKeepsTimeAndRoles_5 : ∃ (s : State) (p : TakeoverPlan), s.CoreOn ∧ s.pair.takeover = some p ∧ p.at' ≤ s.timeNow ∧
    s.get Obj.PAIR_CTRL_ROLE = roleSTANDBY ∧ s.barred = false ∧ p.cause = .witness :=
  ⟨(((withObjs' [(Obj.PAIR_CTRL_PAIR_ENABLE, 1), (Obj.PAIR_CTRL_ROLE, 1), (Obj.PAIR_CTRL_EPOCH, 5)] (running.withObjs [(Obj.COICA_STATION_STATION_ADDR, 30)])).withPair { linkUp := true, highest := 5, takeover := some ⟨9000000, .witness, some 9⟩ }).withTime { tai := 10000000, now := 10000000, shadow := 10000000 }), ⟨9000000, .witness, some 9⟩, by decide +kernel⟩

theorem witness_PairKeepsTimeAndRoles_6 : ∃ (s : State) (p : TakeoverPlan), s.CoreOn ∧ s.pair.takeover = some p ∧ p.at' ≤ s.timeNow ∧
    s.get Obj.PAIR_CTRL_ROLE = roleSTANDBY ∧ s.barred = false ∧ p.cause = .silence ∧ s.silent = true ∧ s.get Obj.PAIR_CTRL_WITNESS_MODE
    = 0 :=
  ⟨(((withObjs' [(Obj.PAIR_CTRL_PAIR_ENABLE, 1), (Obj.PAIR_CTRL_ROLE, 1), (Obj.PAIR_CTRL_EPOCH, 5), (Obj.PAIR_CTRL_PARTNER, 1)] (running.withObjs [(Obj.COICA_STATION_STATION_ADDR, 30)])).withPair { linkUp := true, highest := 5, takeover := some ⟨9000000, .silence, none⟩ }).withTime { tai := 10000000, now := 10000000, shadow := 10000000 }), ⟨9000000, .silence, none⟩, by decide +kernel⟩

theorem witness_PairKeepsTimeAndRoles_7 : ∃ (s : State) (p : TakeoverPlan), s.CoreOn ∧ s.pair.takeover = some p ∧ s.timeNow < p.at' :=
  ⟨(((withObjs' [(Obj.PAIR_CTRL_PAIR_ENABLE, 1), (Obj.PAIR_CTRL_ROLE, 1), (Obj.PAIR_CTRL_EPOCH, 5)] (running.withObjs [(Obj.COICA_STATION_STATION_ADDR, 30)])).withPair { linkUp := true, highest := 5, takeover := some ⟨11000000, .witness, some 9⟩ }).withTime { tai := 10000000, now := 10000000, shadow := 10000000 }), ⟨11000000, .witness, some 9⟩, by decide +kernel⟩

theorem witness_PairKeepsTimeAndRoles_8 : ∃ (s : State) (a : Nat), s.CoreOn ∧ s.pair.wtrStart = some a ∧ s.wtrRuns = true ∧ a + s.get
    Obj.PAIR_CTRL_WTR_S * nsPerS ≤ s.time.now :=
  ⟨(((withObjs' [(Obj.PAIR_CTRL_PAIR_ENABLE, 1), (Obj.PAIR_CTRL_ROLE, 1), (Obj.PAIR_CTRL_EPOCH, 5), (Obj.PAIR_CTRL_HOME, 1), (Obj.PAIR_CTRL_REVERTIVE, 1), (Obj.PAIR_CTRL_SYNC, 2), (Obj.PAIR_CTRL_PARTNER, 33554432)] (running.withObjs [(Obj.COICA_STATION_STATION_ADDR, 30)])).withPair { linkUp := true, highest := 5, wtrStart := some 0 }).withTime { tai := 7200000000000, now := 7200000000000, shadow := 7200000000000 }), 0, by decide +kernel⟩

theorem witness_PairKeepsTimeAndRoles_9 : ∃ (s : State), s.CoreOn ∧ s.get Obj.PAIR_CTRL_ROLE = roleACTIVE ∧ s.pair.digestAt ≤ s.time.now
    :=
  ⟨(((withObjs' [(Obj.PAIR_CTRL_PAIR_ENABLE, 1), (Obj.PAIR_CTRL_ROLE, 2), (Obj.PAIR_CTRL_EPOCH, 5)] (running.withObjs [(Obj.COICA_STATION_STATION_ADDR, 30)])).withPair { linkUp := true, highest := 5 }).withTime { tai := 10000000, now := 10000000, shadow := 10000000 }), by decide +kernel⟩

theorem witness_PairKeepsTimeAndRoles_10 : ∃ (s : State) (w : State), s.CoreOn ∧ s.pair.linkUp = true ∧ (w = (forEach (List.range 64)
    ((((s.withPair { s.pair with linkUp := false, outbox := [], outstanding := [], bulk := none, ready := [], run := 0 }).stopCopy.bump
    Obj.PAIR_STATS_MATE_LINK_DOWNS).raise 0x9101 uMGMT 0)) fun s n => if Fld.BND_VALID.get (s.binding n) = 1 ∧ Fld.BND_RECEIVER.get
    (s.binding n) = MATE ∧ s.get (Obj.MAILBOX_STATE n) = 1 then (s.zeroMail n).mateMailFailed n 0xFFFE else s).resetIdentity MATE) ∧
    w.get Obj.PAIR_CTRL_PAIR_ENABLE = 1 :=
  ⟨(((withObjs' [(Obj.PAIR_CTRL_PAIR_ENABLE, 1), (Obj.PAIR_CTRL_ROLE, 1), (Obj.PAIR_CTRL_EPOCH, 5)] (running.withObjs [(Obj.COICA_STATION_STATION_ADDR, 30)])).withPair { linkUp := true, highest := 5, acked := some 38 }).withTime { tai := 10000000, now := 10000000, shadow := 10000000 }), (forEach (List.range 64) (((((((withObjs' [(Obj.PAIR_CTRL_PAIR_ENABLE, 1), (Obj.PAIR_CTRL_ROLE, 1), (Obj.PAIR_CTRL_EPOCH, 5)] (running.withObjs [(Obj.COICA_STATION_STATION_ADDR, 30)])).withPair { linkUp := true, highest := 5, acked := some 38 }).withTime { tai := 10000000, now := 10000000, shadow := 10000000 }).withPair { (((withObjs' [(Obj.PAIR_CTRL_PAIR_ENABLE, 1), (Obj.PAIR_CTRL_ROLE, 1), (Obj.PAIR_CTRL_EPOCH, 5)] (running.withObjs [(Obj.COICA_STATION_STATION_ADDR, 30)])).withPair { linkUp := true, highest := 5, acked := some 38 }).withTime { tai := 10000000, now := 10000000, shadow := 10000000 }).pair with linkUp := false, outbox := [], outstanding := [], bulk := none, ready := [], run := 0 }).stopCopy.bump Obj.PAIR_STATS_MATE_LINK_DOWNS).raise 0x9101 uMGMT 0)) fun s n => if Fld.BND_VALID.get (s.binding n) = 1 ∧ Fld.BND_RECEIVER.get (s.binding n) = MATE ∧ s.get (Obj.MAILBOX_STATE n) = 1 then (s.zeroMail n).mateMailFailed n 0xFFFE else s).resetIdentity MATE, by decide +kernel⟩

theorem witness_PairKeepsTimeAndRoles_11 : ∃ (s : State), s.CoreOn ∧ s.pair.linkUp = false ∧ 2 ≤ s.pair.missed :=
  ⟨running.withPair { missed := 2 }, by decide +kernel⟩

theorem witness_PairKeepsTimeAndRoles_12 : ∃ (s : State) (w : State), s.CoreOn ∧ s.pair.linkUp = false ∧ s.pair.missed < 2 ∧ w =
    (s.withPair { s.pair with linkUp := true }).raise 0x9003 uMGMT 0 :=
  ⟨running.set Obj.PAIR_CTRL_PARTNER 1, _, by decide +kernel, by decide +kernel, by decide +kernel, rfl⟩

theorem witness_PairKeepsTimeAndRoles_13 : ∃ (s : State), s.CoreOn ∧ s.pair.linkUp = true :=
  ⟨(((withObjs' [(Obj.PAIR_CTRL_PAIR_ENABLE, 1), (Obj.PAIR_CTRL_ROLE, 1), (Obj.PAIR_CTRL_EPOCH, 5)] (running.withObjs [(Obj.COICA_STATION_STATION_ADDR, 30)])).withPair { linkUp := true, highest := 5 }).withTime { tai := 10000000, now := 10000000, shadow := 10000000 }), by decide +kernel⟩

theorem witness_PairIsCommanded_1 : ∃ (s : State) (m v : Nat), s.Accepts m Obj.WITNESS_W_RENEW v ∧ s.boot.ready = true ∧ s.get
    Obj.PAIR_CTRL_ROLE = roleACTIVE ∧ v / 2 ^ 32 = s.get Obj.PAIR_CTRL_EPOCH ∧ s.cycleOf (v % 2 ^ 32) ≤ s.cycleNow ∧ s.leaseValid = true
    ∧ s.pair.releasing = false :=
  ⟨(((withObjs' [(Obj.PAIR_CTRL_PAIR_ENABLE, 1), (Obj.PAIR_CTRL_ROLE, 2), (Obj.PAIR_CTRL_EPOCH, 5), (Obj.PAIR_CTRL_WITNESS_MODE, 1)] (running.withObjs [(Obj.COICA_STATION_STATION_ADDR, 30)])).withPair { linkUp := true, highest := 5, leaseEnd := 20000000 }).withTime { tai := 10000000, now := 10000000, shadow := 10000000 }), 42, 21474836519, by decide +kernel⟩

theorem witness_PairIsCommanded_2 : ∃ (s : State) (m v : Nat), s.Accepts m Obj.WITNESS_W_RENEW v ∧ (s.get Obj.PAIR_CTRL_ROLE ≠
    roleACTIVE ∨ v / 2 ^ 32 ≠ s.get Obj.PAIR_CTRL_EPOCH ∨ s.leaseValid = false) :=
  ⟨(((withObjs' [(Obj.PAIR_CTRL_PAIR_ENABLE, 1), (Obj.PAIR_CTRL_ROLE, 1), (Obj.PAIR_CTRL_EPOCH, 5), (Obj.PAIR_CTRL_WITNESS_MODE, 1)] (running.withObjs [(Obj.COICA_STATION_STATION_ADDR, 30)])).withPair { linkUp := true, highest := 5 }).withTime { tai := 10000000, now := 10000000, shadow := 10000000 }), 42, 7, by decide +kernel⟩

theorem witness_PairIsCommanded_3 : ∃ (s : State) (m v : Nat), s.Accepts m Obj.WITNESS_W_TAKEOVER v ∧ (s.get Obj.PAIR_CTRL_ROLE =
    roleSTANDBY ∨ s.get Obj.PAIR_CTRL_ROLE = roleLAPSED) ∧ s.get Obj.PAIR_CTRL_WITNESS_MODE = 1 ∧ epochHigher (v / 2 ^ 32)
    s.pair.highest = true ∧ s.pair.acked = none :=
  ⟨(((withObjs' [(Obj.PAIR_CTRL_PAIR_ENABLE, 1), (Obj.PAIR_CTRL_ROLE, 1), (Obj.PAIR_CTRL_EPOCH, 5), (Obj.PAIR_CTRL_WITNESS_MODE, 1)] (running.withObjs [(Obj.COICA_STATION_STATION_ADDR, 30)])).withPair { linkUp := true, highest := 5 }).withTime { tai := 10000000, now := 10000000, shadow := 10000000 }), 42, 38654705703, by decide +kernel⟩

theorem witness_PairIsCommanded_4 : ∃ (s : State) (m v : Nat), s.Accepts m Obj.WITNESS_W_TAKEOVER v ∧ epochHigher (v / 2 ^ 32)
    s.pair.highest = false :=
  ⟨(((withObjs' [(Obj.PAIR_CTRL_PAIR_ENABLE, 1), (Obj.PAIR_CTRL_ROLE, 1), (Obj.PAIR_CTRL_EPOCH, 5), (Obj.PAIR_CTRL_WITNESS_MODE, 1)] (running.withObjs [(Obj.COICA_STATION_STATION_ADDR, 30)])).withPair { linkUp := true, highest := 5 }).withTime { tai := 10000000, now := 10000000, shadow := 10000000 }), 42, 21474836519, by decide +kernel⟩

theorem witness_PairIsCommanded_5 : ∃ (s : State) (m v : Nat), s.Accepts m Obj.PAIR_CTRL_COMMAND v ∧ v = 1 ∧ s.get Obj.PAIR_CTRL_ROLE =
    roleACTIVE ∧ s.pair.releasing = false :=
  ⟨(((withObjs' [(Obj.PAIR_CTRL_PAIR_ENABLE, 1), (Obj.PAIR_CTRL_ROLE, 2), (Obj.PAIR_CTRL_EPOCH, 5)] (running.withObjs [(Obj.COICA_STATION_STATION_ADDR, 30)])).withPair { linkUp := true, highest := 5 }).withTime { tai := 10000000, now := 10000000, shadow := 10000000 }), 1, 1, by decide +kernel⟩

theorem witness_PairIsCommanded_6 : ∃ (s : State) (m v : Nat), s.Canonical ∧ s.Accepts m Obj.PAIR_CTRL_COMMAND v ∧ s.get
    Obj.PAIR_CTRL_ROLE ≠ roleACTIVE ∧ s.sec.fusing = none :=
  ⟨(((withObjs' [(Obj.PAIR_CTRL_PAIR_ENABLE, 1), (Obj.PAIR_CTRL_ROLE, 1), (Obj.PAIR_CTRL_EPOCH, 5)] running).withPair { linkUp := true, highest := 5 }).withTime { tai := 10000000, now := 10000000, shadow := 10000000 }), 1, 1, by decide +kernel⟩

theorem witness_PairIsCommanded_7 : ∃ (s : State) (m v : Nat), s.Accepts m Obj.PAIR_CTRL_PAIR_ENABLE v ∧ v = 1 ∧ s.get
    Obj.PAIR_CTRL_PAIR_ENABLE = 0 ∧ ((((s.commit Obj.PAIR_CTRL_PAIR_ENABLE v).set Obj.PAIR_CTRL_SYNC 0).withPair { ((s.commit Obj.PAIR_CTRL_PAIR_ENABLE v).set Obj.PAIR_CTRL_SYNC 0).pair with journal := [], fresh := [], ackDue := none, granted := none, unacked := [], takeover := none, releasing := false, selfRenew := false, expect := none, acked := none, held := [], outstanding := [], bulk := none, ready := [], torn := false, journalFrom := none, revertDue := false, gaveUp := false, run := 0, wtrStart := none }).setRole
    roleSTANDBY).firmwareRuns = true :=
  ⟨running, 1, 1, by decide +kernel⟩

theorem witness_PairIsCommanded_8 : ∃ (s : State) (m v : Nat), s.Accepts m Obj.PAIR_CTRL_PAIR_ENABLE v ∧ v = 0 ∧ s.get
    Obj.PAIR_CTRL_PAIR_ENABLE = 1 :=
  ⟨(((withObjs' [(Obj.PAIR_CTRL_PAIR_ENABLE, 1), (Obj.PAIR_CTRL_ROLE, 1), (Obj.PAIR_CTRL_EPOCH, 5)] (running.withObjs [(Obj.COICA_STATION_STATION_ADDR, 30)])).withPair { linkUp := true, highest := 5 }).withTime { tai := 10000000, now := 10000000, shadow := 10000000 }), 1, 0, by decide +kernel⟩

theorem witness_ProofEngineTests_1 : ∃ (s : State), s.CoreOn :=
  ⟨running, by decide +kernel⟩

theorem witness_ProofEngineTests_2 : ∃ (s : State), s.CoreOn :=
  ⟨running, by decide +kernel⟩

theorem witness_ProofEngineTests_3 : ∃ (s : State) (i : Nat), s.CoreOn ∧ ((List.range 64).find? (fun i => s.outsideMask
    ((s.pair.nextLbist + i) % 64)) = some i) :=
  ⟨withObjs' [(Obj.PIPE_POOL_ACTIVE_MASK 0, 14)] running, 0, by decide +kernel⟩

theorem witness_ProofEngineTests_4 : ∃ (s : State) (i : Nat), s.CoreOn ∧ ((List.range 64).find? (fun i => s.outsideMask
    ((s.pair.nextLbist + i) % 64)) = some i) :=
  ⟨withObjs' [(Obj.PIPE_POOL_ACTIVE_MASK 0, 14)] running, 0, by decide +kernel⟩

theorem witness_ProofEngineTests_5 : ∃ (s : State) (p : Fin 64), s.CoreOn ∧ s.outsideMask p = false ∧ (Table.get (fun _ => 0)
    s.pair.lbist p + s.get Obj.PROOF_LBIST_MAX_S * nsPerS < s.time.now) :=
  ⟨running.withTime { now := 100000000000000 }, 3, by decide +kernel⟩

theorem witness_ProofEngineTests_6 : ∃ (s : State) (l : List (Fin 292 × Nat)) (x : Fin 292 × Nat) (r : List (Fin 292 × Nat)), s.CoreOn ∧
    (l.filter (fun m => s.laneEnabled m.1 && Nat.blt m.2 (s.get Obj.PROOF_EYE_MIN_PCT)) = x :: r) :=
  ⟨running, [(290, 0)], (290, 0), [], by decide +kernel⟩

theorem witness_ProofEngineTests_7 : ∃ (s : State) (l : List (Fin 292 × Nat)), s.CoreOn ∧ (l.filter (fun m => s.laneEnabled m.1 &&
    Nat.blt m.2 (s.get Obj.PROOF_EYE_MIN_PCT)) = []) :=
  ⟨running, [(290, 100)], by decide +kernel⟩

theorem witness_ProofEngineTests_8 : ∃ (s : State) (m v : Nat), s.Accepts m Obj.PROOF_FW_HEARTBEAT v :=
  ⟨running, 40, 1, by decide +kernel⟩

theorem witness_ProofEngineTests_9 : ∃ (s : State), s.CoreOn ∧ s.pair.heartbeat + 4000000000 ≤ s.time.now ∧ (s.get
    Obj.PROOF_FAIL_MAP).testBit 6 = false :=
  ⟨running.withTime { now := 5000000000 }, by decide +kernel⟩

theorem witness_ProofEngineTests_10 : ∃ (s : State), s.time.now < s.pair.heartbeat + 4000000000 :=
  ⟨running, by decide +kernel⟩

theorem witness_PartsDeepenAndWake_1 : ∃ (s : State) (c : Fin 144) (n : Nat), s.CoreOn ∧ s.isClient c = true ∧ clientKind c ≠ .sector ∧
    (s.part c 0).entering = none ∧ (s.part c 0).waking = none ∧ (s.part c 0).blocked = false ∧ ([1, 2, 3].find? (fun x => Nat.blt
    (s.part c 0).state x && Nat.ble x (s.choosePower c 0) && s.stateAllowed c 0 x) = some n) ∧ s.barsEntry (s.part c 0) n = none :=
  ⟨(((withObjs' [(Obj.POWER_CLIENT_LAT_TOL_NS 140, 40)] running).withPw { parts := [(1120, {})] }).withTime { now := 100000000, tai := 100000000 }), 140, 1, by decide +kernel⟩

theorem witness_PartsDeepenAndWake_2 : ∃ (s : State) (c : Fin 144) (n x y : Nat), s.CoreOn ∧ s.isClient c = true ∧ clientKind c ≠
    .sector ∧ (s.part c 0).entering = none ∧ (s.part c 0).waking = none ∧ (s.part c 0).blocked = false ∧ ([1, 2, 3].find? (fun x =>
    Nat.blt (s.part c 0).state x && Nat.ble x (s.choosePower c 0) && s.stateAllowed c 0 x) = some n) ∧ s.barsEntry (s.part c 0) n = some
    (x, y) :=
  ⟨(((withObjs' [(Obj.POWER_CLIENT_LAT_TOL_NS 140, 40)] running).withPw { parts := [(1120, { asked := some (100000000, 0, 7) })] }).withTime { now := 100000000, tai := 100000000 }), 140, 1, 0, 7, by decide +kernel⟩

theorem witness_PartsDeepenAndWake_3 : ∃ (s : State) (c : Fin 144) (i : Nat), (s.part c i).waking = none ∧ (s.part c i).blocked = false
    ∧ (s.part c i).deep = 3 ∧ clientKind c = .sector ∧ s.stateAllowed c i 3 = false :=
  ⟨running.withPw { parts := [(8 * 128, { state := 3 })] }, 128, 0, by decide +kernel⟩

theorem witness_PartsDeepenAndWake_4 : ∃ (s : State) (c : Fin 144) (i : Fin 7) (n a : Nat), s.CoreOn ∧ (s.part c i).entering = some (n,
    a) ∧ a ≤ s.time.now ∧ ¬ (c.val < 128 ∧ n = 3) :=
  ⟨(((withObjs' [] running).withPw { parts := [(1120, { entering := some (1, 5) })] }).withTime { now := 100000000, tai := 100000000 }), 140, 0, 1, 5, by decide +kernel⟩

theorem witness_PartsDeepenAndWake_5 : ∃ (s : State) (c : Fin 144) (i : Fin 7) (a : Nat), s.CoreOn ∧ (s.part c i).entering = some (3, a)
    ∧ a ≤ s.time.now ∧ c.val < 128 :=
  ⟨(((withObjs' [] running).withPw { parts := [(56, { entering := some (3, 5) })] }).withTime { now := 100000000, tai := 100000000 }), 7, 0, 5, by decide +kernel⟩

theorem witness_PartsDeepenAndWake_6 : ∃ (s : State) (c : Fin 144) (i : Fin 7) (a : Nat), s.CoreOn ∧ (s.part c i).waking = some a ∧ a ≤
    s.time.now ∧ (s.part c i).entering = none ∧ (s.part c i).state ≠ 0 ∧ 128 ≤ c.val :=
  ⟨(((withObjs' [] running).withPw { parts := [(1120, { state := 1, waking := some 5 })] }).withTime { now := 100000000, tai := 100000000 }), 140, 0, 5, by decide +kernel⟩

theorem witness_PartsDeepenAndWake_7 : ∃ (s : State) (c : Fin 144) (m v : Nat), s.Accepts m (Obj.POWER_CLIENT_LAT_TOL_NS c) v ∧
    clientKind c ≠ .sector ∧ v < wakeNs (clientKind c) (s.part c 0).deep ∧ wakeNs (clientKind c) (s.part c 0).deep ≤ s.get
    (Obj.POWER_CLIENT_LAT_TOL_NS c) :=
  ⟨(((withObjs' [(Obj.POWER_CLIENT_LAT_TOL_NS 140, 40)] running).withPw { parts := [(1120, { state := 1 })] }).withTime { now := 100000000, tai := 100000000 }), 140, 1, 39, by decide +kernel⟩

theorem witness_PartsDeepenAndWake_8 : ∃ (s : State) (c : Fin 144) (m v : Nat), s.Canonical ∧ s.Accepts m (Obj.POWER_CLIENT_LAT_TOL_NS
    c) v ∧ clientKind c ≠ .sector ∧ wakeNs (clientKind c) (s.part c 0).deep ≤ v ∧ s.sec.fusing = none :=
  ⟨running, 140, 1, 50, by decide +kernel⟩

theorem witness_PartsDeepenAndWake_9 : ∃ (s : State) (c : Fin 144) (m v : Nat), s.Accepts m (Obj.POWER_CLIENT_PWR_REQ c) v ∧ v = 0 ∧
    clientKind c ≠ .sector ∧ 128 ≤ c.val :=
  ⟨(((withObjs' [(Obj.POWER_CLIENT_PWR_REQ 140, 3)] running).withPw { parts := [(1120, { state := 3 })] }).withTime { now := 100000000, tai := 100000000 }), 140, 1, 0, by decide +kernel⟩

theorem witness_PartsDeepenAndWake_10 : ∃ (s : State) (c : Fin 144) (m v : Nat), s.Canonical ∧ s.Accepts m (Obj.POWER_CLIENT_PWR_REQ c)
    v ∧ v = 3 ∧ clientKind c ≠ .sector ∧ 128 ≤ c.val ∧ s.sec.fusing = none :=
  ⟨running, 140, 1, 3, by decide +kernel⟩

theorem witness_PartsDeepenAndWake_11 : ∃ (s : State) (c : Fin 144) (m v : Nat), s.Canonical ∧ s.Accepts m (Obj.POWER_CLIENT_PWR_REQ c)
    v ∧ v = 3 ∧ clientKind c = .sector ∧ s.sec.fusing = none :=
  ⟨running, 130, 1, 3, by decide +kernel⟩

theorem witness_PartsDeepenAndWake_12 : ∃ (s : State) (c : Fin 144), s.CoreOn ∧ clientKind c ≠ .sector ∧ 0 < (s.part c 0).holdUntil ∧
    (s.part c 0).holdUntil ≤ s.time.now :=
  ⟨(((withObjs' [] running).withPw { parts := [(1120, { holdUntil := 5, holdLevel := 1 })] }).withTime { now := 100000000, tai := 100000000 }), 140, by decide +kernel⟩

theorem witness_WakePinIsDrivenLow_1 : ∃ (s : State) (m v : Nat), s.Accepts m Obj.POWER_CTRL_WAKE_REQ v ∧ v = 1 ∧ s.pw.wakeLow = none :=
  ⟨running, 1, 1, by decide +kernel⟩

theorem witness_WakePinIsDrivenLow_2 : ∃ (s : State) (m v : Nat), s.Accepts m Obj.POWER_CTRL_WAKE_REQ v ∧ v = 1 ∧ s.pw.wakeLow ≠ none :=
  ⟨running.withPw { wakeLow := some 5 }, 1, 1, by decide +kernel⟩

theorem witness_WakePinIsDrivenLow_3 : ∃ (s : State) (n : Nat) (f : List Byte), n < 8 ∧ s.on (Obj.WAKE_PATTERN_WP_ENABLE n) = true ∧
    s.get (Obj.WAKE_PATTERN_WP_LENGTH n) ≤ f.length ∧ maskedCrc (s.wpMask n) (f.take (s.get (Obj.WAKE_PATTERN_WP_LENGTH n))) = s.get
    (Obj.WAKE_PATTERN_WP_CHECK n) :=
  ⟨withObjs' [(Obj.WAKE_PATTERN_WP_ENABLE 3, 1), (Obj.WAKE_PATTERN_WP_LENGTH 3, 1)] running, 3, [1], by decide +kernel⟩

theorem witness_WakePinIsDrivenLow_4 : ∃ (s : State) (n : Nat) (f : List Byte), n < 8 ∧ s.pw.wakeLow ≠ none ∧ s.on
    (Obj.WAKE_PATTERN_WP_ENABLE n) = true ∧ s.get (Obj.WAKE_PATTERN_WP_LENGTH n) ≤ f.length ∧ maskedCrc (s.wpMask n) (f.take (s.get
    (Obj.WAKE_PATTERN_WP_LENGTH n))) = s.get (Obj.WAKE_PATTERN_WP_CHECK n) ∧ (∀ k, k < 8 → k ≠ n → s.on (Obj.WAKE_PATTERN_WP_ENABLE k) =
    false) :=
  ⟨(withObjs' [(Obj.WAKE_PATTERN_WP_ENABLE 3, 1), (Obj.WAKE_PATTERN_WP_LENGTH 3, 1)] running).withPw { wakeLow := some 5 }, 3, [1], by decide +kernel⟩

theorem witness_WakePinIsDrivenLow_5 : ∃ (s : State) (n : Nat) (f : List Byte), n < 8 ∧ s.pw.wakeLow = none ∧ s.on
    (Obj.WAKE_PATTERN_WP_ENABLE n) = true ∧ s.get (Obj.WAKE_PATTERN_WP_LENGTH n) ≤ f.length ∧ maskedCrc (s.wpMask n) (f.take (s.get
    (Obj.WAKE_PATTERN_WP_LENGTH n))) = s.get (Obj.WAKE_PATTERN_WP_CHECK n) ∧ (∀ k, k < 8 → k ≠ n → s.on (Obj.WAKE_PATTERN_WP_ENABLE k) =
    false) :=
  ⟨withObjs' [(Obj.WAKE_PATTERN_WP_ENABLE 3, 1), (Obj.WAKE_PATTERN_WP_LENGTH 3, 1)] running, 3, [1], by decide +kernel⟩

theorem witness_WakePinIsDrivenLow_6 : ∃ (s : State) (a : Nat), s.pw.wakeLow = some a ∧ a ≤ s.time.now :=
  ⟨(running.withPw { wakeLow := some 5 }).withTime { now := 5 }, 5, by decide +kernel⟩

theorem witness_WakePinIsDrivenLow_7 : ∃ (s : State) (a : Nat), s.pw.wakeLow = some a ∧ s.time.now < a :=
  ⟨(running.withPw { wakeLow := some 5 }).withTime { now := 4 }, 5, by decide +kernel⟩

theorem witness_WakePinIsDrivenLow_8 : ∃ (s : State), s.pw.island = true ∧ s.sec.lc ≠ 4 :=
  ⟨running.withPw { island := true }, by decide +kernel⟩

theorem witness_FusesAreBlown_1 : ∃ (s : State) (m : Nat), s.Accepts m Obj.SECURITY_PROVISION 1 ∧ s.pw.island = false ∧ s.sec.fusing =
    none ∧ s.sec.lc = lcBLANK :=
  ⟨((withObjs' [] running).withSec { lc := 0 }), 1, by decide +kernel⟩

theorem witness_FusesAreBlown_2 : ∃ (s : State) (m : Nat), s.Accepts m Obj.SECURITY_PROVISION 4 ∧ s.pw.island = false ∧ s.sec.fusing =
    none ∧ s.sec.lc = lcBLANK :=
  ⟨((withObjs' [] running).withSec { lc := 0 }), 1, by decide +kernel⟩

theorem witness_FusesAreBlown_3 : ∃ (s : State) (m : Nat), s.Accepts m Obj.SECURITY_PROVISION 1 ∧ s.pw.island = false ∧ s.sec.fusing =
    none ∧ s.sec.lc ≠ lcBLANK :=
  ⟨((withObjs' [] running).withSec { lc := 1 }), 1, by decide +kernel⟩

theorem witness_FusesAreBlown_4 : ∃ (s : State) (m : Nat), s.Accepts m Obj.SECURITY_PROVISION 4 ∧ s.pw.island = false ∧
    s.sec.fusing.isSome = true :=
  ⟨((withObjs' [] running).withSec { lc := 0, fusing := some { job := .svn 3, master := 1, key := 0 } }), 1, by decide +kernel⟩

theorem witness_FusesAreBlown_5 : ∃ (s : State) (m v : Nat), s.Accepts m Obj.SECURITY_SVN_ADVANCE v ∧ s.pw.island = false ∧ s.sec.fusing
    = none ∧ s.get Obj.SECURITY_SVN_COUNTER < v ∧ v ≤ s.get Obj.IDENTITY_FW_SVN ∧ v ≤ 128 :=
  ⟨((withObjs' [] (running.withObjs [(Obj.IDENTITY_FW_SVN, 5)])).withSec { lc := 1 }), 1, 3, by decide +kernel⟩

theorem witness_FusesAreBlown_6 : ∃ (s : State) (k : Fin 4) (m v : Nat), s.unreached m = false ∧ s.checkWrite .job m
    (Obj.SECURITY_KEY_HASH k) v = .ok ∧ s.pw.island = false ∧ s.sec.fusing = none ∧ s.sec.lc = lcPROVISIONED ∧ s.get
    (Obj.SECURITY_KEY_HASH k) = 0 :=
  ⟨((withObjs' [] running).withSec { lc := 1 }), 2, 1, 7, by decide +kernel⟩

theorem witness_FusesAreBlown_7 : ∃ (s : State) (f : Fusing) (n : Nat), s.sec.fusing = some f ∧ f.job = .svn n :=
  ⟨((withObjs' [] running).withSec { lc := 1, fusing := some { job := .svn 3, master := 1, key := Obj.SECURITY_SVN_ADVANCE } }), { job := .svn 3, master := 1, key := Obj.SECURITY_SVN_ADVANCE }, 3, by decide +kernel⟩

theorem witness_FusesAreBlown_8 : ∃ (s : State) (f : Fusing) (k n : Nat), s.sec.fusing = some f ∧ f.job = .key k n :=
  ⟨((withObjs' [] running).withSec { lc := 1, fusing := some { job := .key 2 9, master := 1, key := Obj.SECURITY_KEY_HASH 2 } }), { job := .key 2 9, master := 1, key := Obj.SECURITY_KEY_HASH 2 }, 2, 9, by decide +kernel⟩

theorem witness_FusesAreBlown_9 : ∃ (s : State) (f : Fusing) (n : Nat), s.sec.fusing = some f ∧ f.job = .transition n :=
  ⟨((withObjs' [] running).withSec { lc := 1, fusing := some { job := .transition 2, master := 1, key := Obj.DEBUG_AUTH_SUBMIT } }), { job := .transition 2, master := 1, key := Obj.DEBUG_AUTH_SUBMIT }, 2, by decide +kernel⟩

theorem witness_FusesAreBlown_10 : ∃ (s : State) (f : Fusing) (x : Nat × Nat), s.sec.fusing = some f :=
  ⟨((withObjs' [] running).withSec { lc := 1, fusing := some { job := .svn 3, master := 1, key := Obj.SECURITY_SVN_ADVANCE } }), { job := .svn 3, master := 1, key := Obj.SECURITY_SVN_ADVANCE }, (1, 0), by decide +kernel⟩

theorem witness_ChallengeServesOnceWithinAMinute_1 : ∃ (s : State) (m : Nat), s.unreached m = false ∧ s.waits (pathOf m) m true = false
    ∧ s.outOfTurn m Obj.DEBUG_DBG_CHALLENGE = false ∧ s.checkRead (pathOf m) m Obj.DEBUG_DBG_CHALLENGE = .ok ∧ s.sec.withheld = none :=
  ⟨running, 1, by decide +kernel⟩

theorem witness_ChallengeServesOnceWithinAMinute_2 : ∃ (s : State) (c a : Nat), s.sec.challenge = some (c, a) ∧ a + 60000000000 ≤
    s.time.now :=
  ⟨(running.withSec { challenge := some (5, 0) }).withTime { now := 60000000000 }, 5, 0, by decide +kernel⟩

theorem witness_ChallengeServesOnceWithinAMinute_3 : ∃ (s : State) (c a : Nat), s.sec.challenge = some (c, a) ∧ s.time.now < a +
    60000000000 :=
  ⟨(running.withSec { challenge := some (5, 0) }).withTime { now := 59999999999 }, 5, 0, by decide +kernel⟩

theorem witness_ChallengeServesOnceWithinAMinute_4 : ∃ (s : State) (m v : Nat), s.Accepts m Obj.DEBUG_AUTH_SUBMIT v :=
  ⟨running.withSec { challenge := some (5, 0) }, 1, 1, by decide +kernel⟩

theorem witness_ChallengeServesOnceWithinAMinute_5 : ∃ (s : State) (m v : Nat), s.Accepts m Obj.DEBUG_AUTH_SUBMIT v :=
  ⟨running.withSec { challenge := some (5, 0) }, 1, 1, by decide +kernel⟩

theorem witness_ChallengeServesOnceWithinAMinute_6 : ∃ (s : State) (m v : Nat), s.Accepts m Obj.DEBUG_AUTH_SUBMIT v :=
  ⟨running.withSec { challenge := some (5, 0) }, 1, 1, by decide +kernel⟩

theorem witness_ChallengeServesOnceWithinAMinute_7 : ∃ (s : State) (m v : Nat), s.Accepts m Obj.DEBUG_AUTH_SUBMIT v :=
  ⟨running.withSec { challenge := some (5, 0) }, 1, 1, by decide +kernel⟩

theorem witness_ChallengeServesOnceWithinAMinute_8 : ∃ (s : State) (c a : Nat), s.sec.challenge = some (c, a) :=
  ⟨(running.withSec { challenge := some (5, 0) }).withTime { now := 60000000000 }, 5, 0, by decide +kernel⟩

/-- A device whose challenge is 0, with a token of OP 1 in AUTH_RESPONSE. -/
def token_1State : State :=
  ((withDoms' [(Dom.AUTH_RESPONSE, 0, 72057598332898832)] (withObjs' [] running)).withSec { lc := 1, serial := some 0, challenge := some (0, 0) })

theorem token_1_passes (hk : Nat.beq (Config.sha384 ((token_1State.token.drop 64).take 97) % 2 ^ 384) (Config.vendorKey % 2 ^ 384) = true) (hs : Config.signatureValid (natBE ((token_1State.token.drop 64).take 97)) (token_1State.token.take 168) ((token_1State.token.drop 168).take 96) = true) :
    token_1State.tokenStep = 0 := by
  have h : token_1State.tokenStep = (if (token_1State.vendorOk && Nat.beq (Config.sha384 ((token_1State.token.drop 64).take 97) % 2 ^ 384) (Config.vendorKey % 2 ^ 384)) = false then 3
      else if Config.signatureValid (natBE ((token_1State.token.drop 64).take 97)) (token_1State.token.take 168) ((token_1State.token.drop 168).take 96) = false then 4 else 0) := by
    have a : token_1State.sec.challenge = some (0, 0) := rfl
    have b : ¬ (0 + minute ≤ token_1State.time.now) := by decide +kernel
    have c : ¬ (natLE (token_1State.token.take 48) ≠ 0 ∨ wordAt token_1State.token 48 8 ≠ token_1State.serialNo ∨ byteAt token_1State.token 59 ≠ token_1State.sec.lc) := by
      decide +kernel
    have d : byteAt token_1State.token 58 = 0 := by decide +kernel
    have e : byteAt token_1State.token 56 = 1 := by decide +kernel
    have f : byteAt token_1State.token 57 = 0 := by decide +kernel
    have g : wordAt token_1State.token 60 4 = 3600 := by decide +kernel
    unfold State.tokenStep
    simp only [a, d, e, f, g, if_neg b, if_neg c]
    rfl
  rw [h, hk, hs]
  decide +kernel

theorem token_1_keeps : token_1State.expireDebug = token_1State := by decide +kernel

theorem witness_DebugLevelRuns_1 (hk : Nat.beq (Config.sha384 ((token_1State.token.drop 64).take 97) % 2 ^ 384) (Config.vendorKey % 2 ^
    384) = true) (hs : Config.signatureValid (natBE ((token_1State.token.drop 64).take 97)) (token_1State.token.take 168)
    ((token_1State.token.drop 168).take 96) = true) : ∃ (s : State) (m v : Nat), s.Accepts m Obj.DEBUG_AUTH_SUBMIT v ∧
    s.expireDebug.tokenStep = 0 ∧ byteAt s.expireDebug.token 56 = 1 ∧ s.pair.takeover = none :=
  ⟨token_1State, 1, 1, by decide +kernel, by rw [token_1_keeps]; exact token_1_passes hk hs, by decide +kernel⟩

/-- A device whose challenge is 0, with a token of OP 2 in AUTH_RESPONSE. -/
def token_2State : State :=
  ((withDoms' [(Dom.AUTH_RESPONSE, 0, 144115192370826768)] (withObjs' [] running)).withSec { lc := 1, serial := some 0, challenge := some (0, 0) })

theorem token_2_passes (hk : Nat.beq (Config.sha384 ((token_2State.token.drop 64).take 97) % 2 ^ 384) (Config.vendorKey % 2 ^ 384) = true) (hs : Config.signatureValid (natBE ((token_2State.token.drop 64).take 97)) (token_2State.token.take 168) ((token_2State.token.drop 168).take 96) = true) :
    token_2State.tokenStep = 0 := by
  have h : token_2State.tokenStep = (if (token_2State.vendorOk && Nat.beq (Config.sha384 ((token_2State.token.drop 64).take 97) % 2 ^ 384) (Config.vendorKey % 2 ^ 384)) = false then 3
      else if Config.signatureValid (natBE ((token_2State.token.drop 64).take 97)) (token_2State.token.take 168) ((token_2State.token.drop 168).take 96) = false then 4 else 0) := by
    have a : token_2State.sec.challenge = some (0, 0) := rfl
    have b : ¬ (0 + minute ≤ token_2State.time.now) := by decide +kernel
    have c : ¬ (natLE (token_2State.token.take 48) ≠ 0 ∨ wordAt token_2State.token 48 8 ≠ token_2State.serialNo ∨ byteAt token_2State.token 59 ≠ token_2State.sec.lc) := by
      decide +kernel
    have d : byteAt token_2State.token 58 = 0 := by decide +kernel
    have e : byteAt token_2State.token 56 = 2 := by decide +kernel
    have f : byteAt token_2State.token 57 = 0 := by decide +kernel
    have g : wordAt token_2State.token 60 4 = 3600 := by decide +kernel
    unfold State.tokenStep
    simp only [a, d, e, f, g, if_neg b, if_neg c]
    rfl
  rw [h, hk, hs]
  decide +kernel

theorem token_2_keeps : token_2State.expireDebug = token_2State := by decide +kernel

theorem witness_DebugLevelRuns_2 (hk : Nat.beq (Config.sha384 ((token_2State.token.drop 64).take 97) % 2 ^ 384) (Config.vendorKey % 2 ^
    384) = true) (hs : Config.signatureValid (natBE ((token_2State.token.drop 64).take 97)) (token_2State.token.take 168)
    ((token_2State.token.drop 168).take 96) = true) : ∃ (s : State) (m v : Nat), s.Accepts m Obj.DEBUG_AUTH_SUBMIT v ∧
    s.expireDebug.tokenStep = 0 ∧ byteAt s.expireDebug.token 56 = 2 ∧ (s.expireDebug.sec.lc = lcPROVISIONED ∨ s.expireDebug.sec.lc =
    lcDEPLOYED) ∧ s.pair.takeover = none :=
  ⟨token_2State, 1, 1, by decide +kernel, by rw [token_2_keeps]; exact token_2_passes hk hs, by decide +kernel⟩

/-- A device whose challenge is 0, with a token of OP 3 in AUTH_RESPONSE. -/
def token_3State : State :=
  ((withDoms' [(Dom.AUTH_RESPONSE, 0, 217298694905528320)] (withObjs' [] running)).withSec { lc := 3, serial := some 0, challenge := some (0, 0) })

theorem token_3_passes (hk : Nat.beq (Config.sha384 ((token_3State.token.drop 64).take 97) % 2 ^ 384) (Config.vendorKey % 2 ^ 384) = true) (hs : Config.signatureValid (natBE ((token_3State.token.drop 64).take 97)) (token_3State.token.take 168) ((token_3State.token.drop 168).take 96) = true) :
    token_3State.tokenStep = 0 := by
  have h : token_3State.tokenStep = (if (token_3State.vendorOk && Nat.beq (Config.sha384 ((token_3State.token.drop 64).take 97) % 2 ^ 384) (Config.vendorKey % 2 ^ 384)) = false then 3
      else if Config.signatureValid (natBE ((token_3State.token.drop 64).take 97)) (token_3State.token.take 168) ((token_3State.token.drop 168).take 96) = false then 4 else 0) := by
    have a : token_3State.sec.challenge = some (0, 0) := rfl
    have b : ¬ (0 + minute ≤ token_3State.time.now) := by decide +kernel
    have c : ¬ (natLE (token_3State.token.take 48) ≠ 0 ∨ wordAt token_3State.token 48 8 ≠ token_3State.serialNo ∨ byteAt token_3State.token 59 ≠ token_3State.sec.lc) := by
      decide +kernel
    have d : byteAt token_3State.token 58 = 0 := by decide +kernel
    have e : byteAt token_3State.token 56 = 3 := by decide +kernel
    have f : byteAt token_3State.token 57 = 4 := by decide +kernel
    have g : wordAt token_3State.token 60 4 = 0 := by decide +kernel
    unfold State.tokenStep
    simp only [a, d, e, f, g, if_neg b, if_neg c]
    rfl
  rw [h, hk, hs]
  decide +kernel

theorem token_3_keeps : token_3State.expireDebug = token_3State := by decide +kernel

theorem witness_DebugLevelRuns_3 (hk : Nat.beq (Config.sha384 ((token_3State.token.drop 64).take 97) % 2 ^ 384) (Config.vendorKey % 2 ^
    384) = true) (hs : Config.signatureValid (natBE ((token_3State.token.drop 64).take 97)) (token_3State.token.take 168)
    ((token_3State.token.drop 168).take 96) = true) : ∃ (s : State) (m v : Nat), s.Accepts m Obj.DEBUG_AUTH_SUBMIT v ∧
    s.expireDebug.tokenStep = 0 ∧ byteAt s.expireDebug.token 56 = 3 ∧ s.pw.island = false ∧ s.sec.fusing = none ∧ s.pair.takeover = none
    :=
  ⟨token_3State, 1, 1, by decide +kernel, by rw [token_3_keeps]; exact token_3_passes hk hs, by decide +kernel⟩

/-- A device whose challenge is 0, with a token of OP 4 in AUTH_RESPONSE. -/
def token_4State : State :=
  ((withDoms' [(Dom.AUTH_RESPONSE, 0, 288512954935017472)] (withObjs' [(Obj.SECURITY_KEY_HASH 0, 7), (Obj.SECURITY_KEY_HASH 1, 9)] running)).withSec { lc := 1, serial := some 0, challenge := some (0, 0) })

theorem token_4_passes (hk : Nat.beq 7 (hashValue (Config.sha384 ((token_4State.token.drop 64).take 97) % 2 ^ 384)) = true) (hs : Config.signatureValid (natBE ((token_4State.token.drop 64).take 97)) (token_4State.token.take 168) ((token_4State.token.drop 168).take 96) = true) :
    token_4State.tokenStep = 0 := by
  have h : token_4State.tokenStep = (if (token_4State.ownerOk && token_4State.ownerSlot (1 - 1) && Nat.beq (token_4State.get (Obj.SECURITY_KEY_HASH (1 - 1))) (hashValue (Config.sha384 ((token_4State.token.drop 64).take 97) % 2 ^ 384))) = false then 3
      else if Config.signatureValid (natBE ((token_4State.token.drop 64).take 97)) (token_4State.token.take 168) ((token_4State.token.drop 168).take 96) = false then 4 else 0) := by
    have a : token_4State.sec.challenge = some (0, 0) := rfl
    have b : ¬ (0 + minute ≤ token_4State.time.now) := by decide +kernel
    have c : ¬ (natLE (token_4State.token.take 48) ≠ 0 ∨ wordAt token_4State.token 48 8 ≠ token_4State.serialNo ∨ byteAt token_4State.token 59 ≠ token_4State.sec.lc) := by
      decide +kernel
    have d : byteAt token_4State.token 58 = 1 := by decide +kernel
    have e : byteAt token_4State.token 56 = 4 := by decide +kernel
    have f : byteAt token_4State.token 57 = 1 := by decide +kernel
    have g : wordAt token_4State.token 60 4 = 0 := by decide +kernel
    unfold State.tokenStep
    simp only [a, d, e, f, g, if_neg b, if_neg c]
    rfl
  have kg : token_4State.get (Obj.SECURITY_KEY_HASH (1 - 1)) = 7 := by decide +kernel
  rw [h, kg, hk, hs]
  decide +kernel

theorem token_4_keeps : token_4State.expireDebug = token_4State := by decide +kernel

theorem witness_DebugLevelRuns_4 (hk : Nat.beq 7 (hashValue (Config.sha384 ((token_4State.token.drop 64).take 97) % 2 ^ 384)) = true)
    (hs : Config.signatureValid (natBE ((token_4State.token.drop 64).take 97)) (token_4State.token.take 168) ((token_4State.token.drop
    168).take 96) = true) : ∃ (s : State) (m v : Nat), s.Accepts m Obj.DEBUG_AUTH_SUBMIT v ∧ s.expireDebug.tokenStep = 0 ∧ byteAt
    s.expireDebug.token 56 = 4 ∧ s.pw.island = false ∧ s.sec.fusing = none ∧ s.pair.takeover = none :=
  ⟨token_4State, 1, 1, by decide +kernel, by rw [token_4_keeps]; exact token_4_passes hk hs, by decide +kernel⟩

theorem witness_DebugLevelRuns_5 : ∃ (s : State) (m v : Nat), s.Accepts m Obj.DEBUG_AUTH_SUBMIT v ∧ s.pair.takeover = none ∧
    s.expireDebug.tokenStep ≠ 0 ∧ ((((s.expireDebug.withSec { s.expireDebug.sec with challenge := none }).bump Obj.DEBUG_AUTH_FAILS).set
    Obj.DEBUG_AUTH_STATUS s.expireDebug.tokenStep).raise 0x0101 uMGMT 0).sec.failures + 1 < 8 :=
  ⟨running, 1, 1, by decide +kernel⟩

theorem witness_DebugLevelRuns_6 : ∃ (s : State) (m v : Nat), s.Accepts m Obj.DEBUG_AUTH_SUBMIT v ∧ s.pair.takeover = none ∧
    s.expireDebug.tokenStep ≠ 0 ∧ 8 ≤ ((((s.expireDebug.withSec { s.expireDebug.sec with challenge := none }).bump
    Obj.DEBUG_AUTH_FAILS).set Obj.DEBUG_AUTH_STATUS s.expireDebug.tokenStep).raise 0x0101 uMGMT 0).sec.failures + 1 :=
  ⟨running.withSec { failures := 7 }, 1, 1, by decide +kernel⟩

theorem witness_DebugLevelRuns_7 : ∃ (s : State) (m v : Nat), s.Accepts m Obj.DEBUG_DBG_DROP v ∧ v < s.expireDebug.get
    Obj.DEBUG_DBG_LEVEL :=
  ⟨withObjs' [(Obj.DEBUG_DBG_LEVEL, 2)] running, 1, 1, by decide +kernel⟩

theorem witness_DebugLevelRuns_8 : ∃ (s : State) (m v : Nat), s.Accepts m Obj.DEBUG_DBG_DROP v ∧ s.expireDebug.get Obj.DEBUG_DBG_LEVEL <
    v :=
  ⟨running, 1, 1, by decide +kernel⟩

theorem witness_DebugLevelRuns_9 : ∃ (s : State), s.get Obj.DEBUG_DBG_EXPIRES ≠ 0 ∧ ofTime80 (s.get Obj.DEBUG_DBG_EXPIRES) ≤ s.timeNow ∧
    s.get Obj.DEBUG_DBG_LEVEL ≠ 0 :=
  ⟨withObjs' [(Obj.DEBUG_DBG_LEVEL, 2), (Obj.DEBUG_DBG_EXPIRES, 7)] (running.withTime { tai := 9 }), by decide +kernel⟩

theorem witness_DebugLevelRuns_10 : ∃ (s : State) (a : Nat), s.sec.withheld = some a :=
  ⟨running.withSec { withheld := some 0 }, 0, by decide +kernel⟩

theorem witness_DebugMasterActs_1 : ∃ (s : State) (i u v : Nat) (r : Status) (w : State), s.dictWrite .jtag .direct DBG i u v = (some r,
    w) :=
  ⟨(withObjs' [(Obj.DEBUG_DBG_LEVEL, 2)] running), 0x1101, 1, 6, (((withObjs' [(Obj.DEBUG_DBG_LEVEL, 2)] running).dictWrite .jtag .direct DBG 0x1101 1 6).1.getD .busy), ((withObjs' [(Obj.DEBUG_DBG_LEVEL, 2)] running).dictWrite .jtag .direct DBG 0x1101 1 6).2, by decide +kernel⟩

theorem witness_DebugMasterActs_2 : ∃ (s : State) (i u v x : Nat) (r : Status) (w : State), s.dictRead .jtag DBG i u = (r, x, w) :=
  ⟨(withObjs' [(Obj.DEBUG_DBG_LEVEL, 2)] running), 0x1101, 1, 0, ((withObjs' [(Obj.DEBUG_DBG_LEVEL, 2)] running).dictRead .jtag DBG 0x1101 1).2.1, ((withObjs' [(Obj.DEBUG_DBG_LEVEL, 2)] running).dictRead .jtag DBG 0x1101 1).1, ((withObjs' [(Obj.DEBUG_DBG_LEVEL, 2)] running).dictRead .jtag DBG 0x1101 1).2.2, by decide +kernel⟩

theorem witness_DebugMasterActs_3 : ∃ (s : State) (i e v : Nat), s.domWaits i = false :=
  ⟨(withObjs' [(Obj.DEBUG_DBG_LEVEL, 2)] running), 0x7402, 3, 0, by decide +kernel⟩

theorem witness_DebugMasterActs_4 : ∃ (s : State) (i e v : Nat), s.domWaits i = false :=
  ⟨(withObjs' [(Obj.DEBUG_DBG_LEVEL, 2)] running), 0x7402, 3, 0, by decide +kernel⟩

theorem witness_DebugMasterActs_5 : ∃ (s : State), s.expireDebug.get Obj.DEBUG_DBG_LEVEL = 2 ∧ s.expireDebug.coreOff = false :=
  ⟨(withObjs' [(Obj.DEBUG_DBG_LEVEL, 2)] running), by decide +kernel⟩

theorem witness_DebugMasterActs_6 : ∃ (s : State), s.expireDebug.get Obj.DEBUG_DBG_LEVEL ≠ 2 :=
  ⟨running, by decide +kernel⟩

theorem witness_DebugMasterActs_7 : ∃ (s : State), s.expireDebug.get Obj.DEBUG_DBG_LEVEL = 2 ∧ s.expireDebug.coreOff = false ∧
    s.expireDebug.sec.halted = true :=
  ⟨(withObjs' [(Obj.DEBUG_DBG_LEVEL, 2)] running).withSec { halted := true }, by decide +kernel⟩

theorem witness_DebugMasterActs_8 : ∃ (s : State) (d : Fin 2) (n : Fin 8) (c : Nat), s.expireDebug.get Obj.DEBUG_DBG_LEVEL = 2 ∧
    s.expireDebug.coreOff = false ∧ (c = if d.val = 0 then 128 + n.val else 136 + n.val) ∧ ((List.range (partsOf c)).all (fun i =>
    (s.expireDebug.part c i).inRun) = true) :=
  ⟨(withObjs' [(Obj.DEBUG_DBG_LEVEL, 2)] running), 1, 3, 139, by decide +kernel⟩

theorem witness_DebugMasterActs_9 : ∃ (s : State), s.expireDebug.get Obj.DEBUG_DBG_LEVEL = 2 ∧ s.expireDebug.pw.island = false ∧
    s.expireDebug.debugLevel = 2 :=
  ⟨(withObjs' [(Obj.DEBUG_DBG_LEVEL, 2)] running), by decide +kernel⟩

theorem witness_DebugMasterActs_10 : ∃ (s : State), s.expireDebug.get Obj.DEBUG_DBG_LEVEL = 2 ∧ s.expireDebug.pw.island = false ∧
    s.expireDebug.debugLevel = 2 :=
  ⟨(withObjs' [(Obj.DEBUG_DBG_LEVEL, 2)] running), by decide +kernel⟩

theorem witness_SectorsAndDiesAreReset_1 : ∃ (s : State) (m v : Nat), s.Accepts m Obj.BOOT_SECTOR_RESET v ∧ s.pw.island = false ∧
    Nat.land v 0x78 = 0 ∧ v < 256 ∧ ¬ (v < 128 ∧ s.sectorOff (v % 8) = true) :=
  ⟨running, 1, 131, by decide +kernel⟩

theorem witness_SectorsAndDiesAreReset_2 : ∃ (s : State) (m v : Nat), s.Accepts m Obj.BOOT_SECTOR_RESET v ∧ s.pw.island = false ∧
    Nat.land v 0x78 = 0 ∧ v < 128 ∧ s.sectorOff (v % 8) = true :=
  ⟨running.withPw { parts := (List.range 7).map fun i => (8 * 131 + i, { state := 3 }) }, 1, 3, by decide +kernel⟩

theorem witness_SectorsAndDiesAreReset_3 : ∃ (s : State) (m v : Nat), s.Accepts m Obj.BOOT_UNIT_RESET v ∧ s.pw.island = false ∧
    Fld.UID_SECTOR.get v < 8 :=
  ⟨running, 1, 0x8001, by decide +kernel⟩

theorem witness_SectorsAndDiesAreReset_4 : ∃ (s : State) (m : Nat), s.Accepts m Obj.BOOT_DIE_RESET 0 ∧ s.pw.island = false :=
  ⟨running, 1, by decide +kernel⟩

theorem witness_SectorsAndDiesAreReset_5 : ∃ (s : State) (m : Nat), s.Accepts m Obj.BOOT_DIE_RESET 1 ∧ s.pw.island = false :=
  ⟨running, 1, by decide +kernel⟩

theorem witness_SectorsAndDiesAreReset_6 : ∃ (s : State) (d : Fin 2) (n : Fin 8) (c : Nat), s.CoreOn ∧ s.boot.resets.contains (sectorKey
    d n) = true ∧ s.boot.resets.contains (32 + d.val) = false ∧ s.on Obj.THERMAL_STOP_ACTIVE = false ∧ (c = if d.val = 0 then 128 +
    n.val else 136 + n.val) :=
  ⟨running.withBoot { running.boot with resets := [19] }, 1, 3, 139, by decide +kernel⟩

theorem witness_SectorsAndDiesAreReset_7 : ∃ (s : State) (d : Fin 2), s.CoreOn ∧ s.boot.resets.contains (32 + d.val) = true ∧ s.on
    Obj.THERMAL_STOP_ACTIVE = false :=
  ⟨running.withBoot { running.boot with resets := [33, 19] }, 1, by decide +kernel⟩

theorem witness_SectorsAndDiesAreReset_8 : ∃ (s : State) (d : Fin 2) (n : Fin 8), s.CoreOn ∧ ((((sectorKey d n, (s.raise (if d.val = 0
    then 0x3212 else 0x4244) (sectorId d n) 0).time.now) :: (s.raise (if d.val = 0 then 0x3212 else 0x4244) (sectorId d n)
    0).ev.autoResets.filter fun r => Nat.blt (s.raise (if d.val = 0 then 0x3212 else 0x4244) (sectorId d n) 0).time.now (r.2 + 600 *
    nsPerS)).filter fun r => Nat.beq r.1 (sectorKey d n)).length < 3) :=
  ⟨running, 1, 3, by decide +kernel⟩

theorem witness_SectorsAndDiesAreReset_9 : ∃ (s : State) (d : Fin 2) (n : Fin 8), s.CoreOn ∧ (3 ≤ (((sectorKey d n, (s.raise (if d.val =
    0 then 0x3212 else 0x4244) (sectorId d n) 0).time.now) :: (s.raise (if d.val = 0 then 0x3212 else 0x4244) (sectorId d n)
    0).ev.autoResets.filter fun r => Nat.blt (s.raise (if d.val = 0 then 0x3212 else 0x4244) (sectorId d n) 0).time.now (r.2 + 600 *
    nsPerS)).filter fun r => Nat.beq r.1 (sectorKey d n)).length) :=
  ⟨running.withEv { autoResets := [(19, 0), (19, 0)] }, 1, 3, by decide +kernel⟩

theorem witness_SectorsAndDiesAreReset_10 : ∃ (s : State) (m v : Nat), s.Accepts m Obj.EVENT_CTRL_ALARM_PENDING v :=
  ⟨(withObjs' [(Obj.EVENT_CTRL_ALARM_PENDING, 6)] running).withEv { alarmLow := true }, 1, 4, by decide +kernel⟩

theorem witness_SectorsAndDiesAreReset_11 : ∃ (s : State), s.get Obj.EVENT_CTRL_ALARM_PENDING = 0 ∧ s.ev.alarmLow = true ∧ s.sec.extest
    = false :=
  ⟨running.withEv { alarmLow := true }, by decide +kernel⟩

theorem witness_SectorsAndDiesAreReset_12 : ∃ (s : State), (s.get Obj.EVENT_CTRL_ALARM_PENDING ≠ 0 ∨ s.ev.alarmLow = false) :=
  ⟨(withObjs' [(Obj.EVENT_CTRL_ALARM_PENDING, 6)] running).withEv { alarmLow := true }, by decide +kernel⟩

theorem witness_PackageIsReset_3 : ∃ (s : State), s.coreOff = false :=
  ⟨running, by decide +kernel⟩

theorem witness_PackageIsReset_4 : ∃ (s : State), s.boot.held = true ∧ s.pw.island = false :=
  ⟨running.withBoot { held := true }, by decide +kernel⟩

theorem witness_PackageIsReset_5 : ∃ (s : State) (m v : Nat), s.Accepts m Obj.BOOT_WARM_RESET v ∧ v = 1 ∧ s.pw.island = false :=
  ⟨running, 1, 1, by decide +kernel⟩

theorem witness_PackageIsReset_7 : ∃ (s : State) (r : Nat) (w : State), s.pw.island = false ∧ w = ((((s.coreLost false).withPw { (s.coreLost false).pw with island := true }).withBoot
    { (s.coreLost false).boot with boot := none }).bump Obj.POWER_CTRL_ISLAND_ENTRIES).set Obj.POWER_CTRL_LAST_ISLAND (time80
    ((((s.coreLost false).withPw { (s.coreLost false).pw with island := true }).withBoot { (s.coreLost false).boot with boot := none }).bump
    Obj.POWER_CTRL_ISLAND_ENTRIES).timeNow) :=
  ⟨running, 4, ((((running.coreLost false).withPw { (running.coreLost false).pw with island := true }).withBoot { (running.coreLost false).boot with boot := none }).bump Obj.POWER_CTRL_ISLAND_ENTRIES).set Obj.POWER_CTRL_LAST_ISLAND (time80 ((((running.coreLost false).withPw { (running.coreLost false).pw with island := true }).withBoot { (running.coreLost false).boot with boot := none }).bump Obj.POWER_CTRL_ISLAND_ENTRIES).timeNow), by decide +kernel, rfl⟩

theorem witness_PackageIsReset_8 : ∃ (s : State) (r : Nat), s.pw.island = true :=
  ⟨running.withPw { island := true }, 4, by decide +kernel⟩

theorem witness_PackageIsReset_9 : ∃ (s : State) (w : State), s.pw.island = true ∧ (w = (((((((s.withObjs (Table.keep (fun k =>
    !lostAtWarm true k) s.objs)).endUpdate.endSlow Obj.FW_UPDATE_UPD_CTRL .unavailable).cmbReset).raise 0x1010 uAON 0).withPw { ((((s.withObjs (Table.keep (fun k => !lostAtWarm true k) s.objs)).endUpdate.endSlow Obj.FW_UPDATE_UPD_CTRL .unavailable).cmbReset).raise 0x1010 uAON 0).pw with island := false, parts := [] }).withTime
    { ((((s.withObjs (Table.keep (fun k => !lostAtWarm true k) s.objs)).endUpdate.endSlow Obj.FW_UPDATE_UPD_CTRL .unavailable).cmbReset).raise 0x1010 uAON 0).time with reload := true, shadowBefore := ((((s.withObjs (Table.keep (fun k => !lostAtWarm true k) s.objs)).endUpdate.endSlow Obj.FW_UPDATE_UPD_CTRL .unavailable).cmbReset).raise 0x1010 uAON 0).time.shadow }).withBoot
    { ((((s.withObjs (Table.keep (fun k => !lostAtWarm true k) s.objs)).endUpdate.endSlow Obj.FW_UPDATE_UPD_CTRL .unavailable).cmbReset).raise 0x1010 uAON 0).boot with held := false, boot := some 3, bootAt := ((((s.withObjs (Table.keep (fun k => !lostAtWarm true k) s.objs)).endUpdate.endSlow Obj.FW_UPDATE_UPD_CTRL .unavailable).cmbReset).raise 0x1010 uAON 0).time.now }))
    :=
  ⟨running.withPw { island := true }, _, by decide +kernel, rfl⟩

/-- A device in DEPLOYED with an owner key, and slot A READY with no bytes written; the boot waits. -/
def bootable : State :=
  (((withObjs' [(Obj.SECURITY_KEY_HASH 0, hashValue 5)] State.reset).withSec { lc := 2 }).withFlash { slotA := { state := 2, svn := 7 } }).withBoot { boot := some 0 }

/-- The header of an image that passes its checks on it. -/
def goodHeader : ImageHeader := ⟨5, 7, 3, 4, 1, 1, true, true⟩

theorem chooses_boot (hl : Config.imageHeader false [] = goodHeader) (hm : Config.imageHeader true [] = goodHeader) : State.chooseSlot 2 bootable.scrubBegin.readRecord = (some false, bootable.scrubBegin.readRecord) := by
  have hp : (bootable.scrubBegin.readRecord).preferred = some false := by decide +kernel
  have hb : ((bootable.scrubBegin.readRecord).slot false).bytes = [] := by decide +kernel
  have ha : ((bootable.scrubBegin.readRecord).imageAccepted (((bootable.scrubBegin.readRecord).slot false).header false) && (bootable.scrubBegin.readRecord).imageAccepted (((bootable.scrubBegin.readRecord).slot false).header true)) = true := by
    simp only [SlotRec.header, hb, hl, hm]
    decide +kernel
  unfold State.chooseSlot
  simp only [hp, ha]
  rfl

theorem witness_DeviceBootsAndUpdates_1 (hl : Config.imageHeader false [] = goodHeader) (hm : Config.imageHeader true [] = goodHeader) :
    ∃ (s : State) (c : Nat) (b : Bool) (w : State), s.Canonical ∧ s.CoreOn ∧ s.boot.boot = some c ∧ s.tooHot = false ∧ State.chooseSlot
    2 s.scrubBegin.readRecord = (some b, w) :=
  ⟨bootable, 0, false, bootable.scrubBegin.readRecord, by decide +kernel, by decide +kernel, by decide +kernel, by decide +kernel, chooses_boot hl hm⟩

theorem witness_DeviceBootsAndUpdates_2 : ∃ (s : State) (c : Nat) (w : State), s.CoreOn ∧ s.boot.boot = some c ∧ s.tooHot = false ∧
    State.chooseSlot 2 s.scrubBegin.readRecord = (none, w) :=
  ⟨State.reset.withBoot { boot := some 1 }, 1, (State.reset.withBoot { boot := some 1 }).scrubBegin.readRecord, by decide +kernel⟩

theorem witness_DeviceBootsAndUpdates_3 : ∃ (s : State) (c : Nat), s.CoreOn ∧ s.boot.boot = some c ∧ s.tooHot = true :=
  ⟨withObjs' [(objKey 0 0x14C1 3, 96)] (State.reset.withBoot { boot := some 1 }), 1, by decide +kernel⟩

theorem chooses_restart (hl : Config.imageHeader false [] = goodHeader) (hm : Config.imageHeader true [] = goodHeader) : State.chooseSlot 2 (bootable.withBoot { ready := true, restart := true }).readRecord = (some false, (bootable.withBoot { ready := true, restart := true }).readRecord) := by
  have hp : ((bootable.withBoot { ready := true, restart := true }).readRecord).preferred = some false := by decide +kernel
  have hb : (((bootable.withBoot { ready := true, restart := true }).readRecord).slot false).bytes = [] := by decide +kernel
  have ha : (((bootable.withBoot { ready := true, restart := true }).readRecord).imageAccepted ((((bootable.withBoot { ready := true, restart := true }).readRecord).slot false).header false) && ((bootable.withBoot { ready := true, restart := true }).readRecord).imageAccepted ((((bootable.withBoot { ready := true, restart := true }).readRecord).slot false).header true)) = true := by
    simp only [SlotRec.header, hb, hl, hm]
    decide +kernel
  unfold State.chooseSlot
  simp only [hp, ha]
  rfl

theorem witness_DeviceBootsAndUpdates_4 (hl : Config.imageHeader false [] = goodHeader) (hm : Config.imageHeader true [] = goodHeader) :
    ∃ (s : State) (b : Bool) (w : State), s.Canonical ∧ s.CoreOn ∧ s.boot.restart = true ∧ State.chooseSlot 2 s.readRecord = (some b, w)
    :=
  ⟨(bootable.withBoot { ready := true, restart := true }), false, (bootable.withBoot { ready := true, restart := true }).readRecord, by decide +kernel, by decide +kernel, by decide +kernel, chooses_restart hl hm⟩

theorem witness_DeviceBootsAndUpdates_5 : ∃ (s : State) (w : State), s.CoreOn ∧ s.boot.restart = true ∧ State.chooseSlot 2 s.readRecord
    = (none, w) :=
  ⟨running.withBoot { ready := true, restart := true }, (running.withBoot { ready := true, restart := true }).readRecord, by decide +kernel⟩

theorem witness_DeviceBootsAndUpdates_6 : ∃ (s : State) (m v : Nat), s.Accepts m Obj.BOOT_FW_RESTART v ∧ v = 1 ∧ s.pw.island = false :=
  ⟨running, 1, 1, by decide +kernel⟩

theorem witness_DeviceBootsAndUpdates_7 : ∃ (s : State) (m : Nat), s.Accepts m Obj.FW_UPDATE_UPD_CTRL 1 ∧ pathOf m = .window ∧
    s.slowRuns m Obj.FW_UPDATE_UPD_CTRL = false ∧ s.pw.island = false ∧ s.updateFree = true ∧ 0 < s.get Obj.FW_UPDATE_UPD_SIZE ∧ s.get
    Obj.FW_UPDATE_UPD_SIZE ≤ 25165824 ∧ s.get Obj.FW_UPDATE_UPD_SIZE % 4 = 0 :=
  ⟨withObjs' [(Obj.FW_UPDATE_UPD_SIZE, 4096)] running, 1, by decide +kernel⟩

theorem witness_DeviceBootsAndUpdates_8 : ∃ (s : State), s.CoreOn ∧ s.get Obj.FW_UPDATE_UPD_STATE = 1 :=
  ⟨withObjs' [(Obj.FW_UPDATE_UPD_STATE, 1)] running, by decide +kernel⟩

theorem witness_DeviceBootsAndUpdates_9 : ∃ (s : State) (m : Nat), s.Accepts m Obj.FW_UPDATE_UPD_CTRL 2 ∧ pathOf m = .window ∧
    s.slowRuns m Obj.FW_UPDATE_UPD_CTRL = false ∧ s.pw.island = false ∧ s.get Obj.FW_UPDATE_UPD_STATE = 2 :=
  ⟨withObjs' [(Obj.FW_UPDATE_UPD_STATE, 2)] running, 1, by decide +kernel⟩

theorem witness_DeviceBootsAndUpdates_10 (hl : Config.imageHeader false [] = goodHeader) (hm : Config.imageHeader true [] = goodHeader)
    : ∃ (s : State), s.CoreOn ∧ s.get Obj.FW_UPDATE_UPD_STATE = 3 ∧ (s.commitCheck (s.slot s.updSlot)).1 = 0 :=
  ⟨((withObjs' [(Obj.FW_UPDATE_UPD_STATE, 3)] bootable).withBoot { ready := true }), by decide +kernel, by decide +kernel, by
    have hb : (((withObjs' [(Obj.FW_UPDATE_UPD_STATE, 3)] bootable).withBoot { ready := true }).slot
        ((withObjs' [(Obj.FW_UPDATE_UPD_STATE, 3)] bootable).withBoot { ready := true }).updSlot).bytes = [] := by decide +kernel
    simp only [State.commitCheck, SlotRec.header, hb, hl, hm]
    decide +kernel⟩

theorem witness_DeviceBootsAndUpdates_11 : ∃ (s : State) (e x : Nat), s.CoreOn ∧ s.get Obj.FW_UPDATE_UPD_STATE = 3 ∧ s.commitCheck
    (s.slot s.updSlot) = (e, x) ∧ e ≠ 0 :=
  ⟨withObjs' [(Obj.FW_UPDATE_UPD_STATE, 3), (Obj.FW_UPDATE_UPD_SIZE, 4)] running, 1, 0, by decide +kernel⟩

theorem witness_DeviceBootsAndUpdates_12 : ∃ (s : State) (m : Nat), s.Accepts m Obj.FW_UPDATE_UPD_CTRL 3 ∧ s.pw.island = false ∧
    s.slowRuns m Obj.FW_UPDATE_UPD_CTRL = false ∧ (m = s.get Obj.FW_UPDATE_UPD_OWNER ∨ m = FW) :=
  ⟨withObjs' [(Obj.FW_UPDATE_UPD_STATE, 2), (Obj.FW_UPDATE_UPD_OWNER, 1)] running, 1, by decide +kernel⟩

theorem witness_DeviceBootsAndUpdates_13 : ∃ (s : State) (a : Nat) (m v : Nat), s.Accepts m Obj.BOOT_FW_ACCEPT v ∧ v = 1 ∧ s.pw.island =
    false ∧ s.boot.trialEnd = some a ∧ s.time.now < a ∧ s.inTrial = true :=
  ⟨(running.withBoot { ready := true, trialEnd := some 9 }).withFlash { slotA := { state := 3 } }, 9, 1, 1, by decide +kernel⟩

theorem witness_DeviceBootsAndUpdates_14 : ∃ (s : State) (m v : Nat), s.Canonical ∧ s.Accepts m Obj.BOOT_FW_ACCEPT v ∧ v = 1 ∧
    s.pw.island = false ∧ s.boot.trialEnd = none ∧ s.sec.fusing = none :=
  ⟨running, 1, 1, by decide +kernel⟩

theorem witness_DeviceBootsAndUpdates_15 : ∃ (s : State) (a : Nat), s.CoreOn ∧ s.boot.trialEnd = some a :=
  ⟨(running.withBoot { ready := true, trialEnd := some 0 }).withFlash { slotA := { state := 3 } }, 0, by decide +kernel⟩

theorem witness_FirmwareServesItsMailboxes_1 : ∃ (s : State) (c : Fin 64), s.firmwareRuns = true ∧ Fld.BND_VALID.get (s.binding c) = 1 ∧
    Fld.BND_RECEIVER.get (s.binding c) = FW ∧ s.get (Obj.MAILBOX_STATE c) = 1 ∧ byteAt (s.mailBytes c) 0 = 1 ∧ byteAt (s.mailBytes c) 1
    = 0 :=
  ⟨(withObjs' [(Obj.MB_BINDING_BIND_MB 4, 2147483944), (Obj.MAILBOX_STATE 4, 1), (Obj.MAILBOX_MSG 4 0, 1)] running), 4, by decide +kernel⟩

theorem witness_FirmwareServesItsMailboxes_2 : ∃ (s : State) (c : Fin 64), s.firmwareRuns = true ∧ Fld.BND_VALID.get (s.binding c) = 1 ∧
    Fld.BND_RECEIVER.get (s.binding c) = FW ∧ s.get (Obj.MAILBOX_STATE c) = 1 ∧ (byteAt (s.mailBytes c) 0 = 0 ∨ 5 < byteAt (s.mailBytes
    c) 0) :=
  ⟨(withObjs' [(Obj.MB_BINDING_BIND_MB 4, 2147483944), (Obj.MAILBOX_STATE 4, 1), (Obj.MAILBOX_MSG 4 0, 9)] running), 4, by decide +kernel⟩

theorem witness_FirmwareServesItsMailboxes_3 : ∃ (s : State) (c : Fin 64), s.firmwareRuns = true ∧ Fld.BND_VALID.get (s.binding c) = 1 ∧
    Fld.BND_RECEIVER.get (s.binding c) = FW ∧ s.get (Obj.MAILBOX_STATE c) = 1 ∧ byteAt (s.mailBytes c) 0 = 1 ∧ byteAt (s.mailBytes c) 1
    ≠ 0 :=
  ⟨(withObjs' [(Obj.MB_BINDING_BIND_MB 4, 2147483944), (Obj.MAILBOX_STATE 4, 1), (Obj.MAILBOX_MSG 4 0, 257)] running), 4, by decide +kernel⟩

theorem witness_FirmwareServesItsMailboxes_4 : ∃ (s : State) (c : Fin 64) (r : Bool), s.firmwareRuns = true ∧ Fld.BND_VALID.get
    (s.binding c) = 1 ∧ Fld.BND_RECEIVER.get (s.binding c) = FW ∧ s.get (Obj.MAILBOX_STATE c) = 1 ∧ byteAt (s.mailBytes c) 0 = 2 ∧
    byteAt (s.mailBytes c) 1 = 0 ∧ s.pair.linkUp = true :=
  ⟨(withObjs' [(Obj.MB_BINDING_BIND_MB 4, 2147483944), (Obj.MAILBOX_STATE 4, 1), (Obj.MAILBOX_MSG 4 0, 2)] running).withPair { linkUp := true }, 4, true, by decide +kernel⟩

theorem witness_FirmwareServesItsMailboxes_5 : ∃ (s : State) (c : Fin 64), s.firmwareRuns = true ∧ Fld.BND_VALID.get (s.binding c) = 1 ∧
    Fld.BND_RECEIVER.get (s.binding c) = FW ∧ s.get (Obj.MAILBOX_STATE c) = 1 ∧ byteAt (s.mailBytes c) 0 = 2 ∧ byteAt (s.mailBytes c) 1
    = 0 :=
  ⟨(withObjs' [(Obj.MB_BINDING_BIND_MB 4, 2147483944), (Obj.MAILBOX_STATE 4, 1), (Obj.MAILBOX_MSG 4 0, 2)] running), 4, by decide +kernel⟩

theorem witness_FirmwareServesItsMailboxes_6 : ∃ (s : State) (c : Fin 64), s.firmwareRuns = true ∧ Fld.BND_VALID.get (s.binding c) = 1 ∧
    Fld.BND_RECEIVER.get (s.binding c) = FW ∧ s.get (Obj.MAILBOX_STATE c) = 1 ∧ byteAt (s.mailBytes c) 0 = 3 ∧ byteAt (s.mailBytes c) 1
    = 0 ∧ s.boot.pantry = none ∧ (s.startPantry s.snapshotRecords (some c.val)).1 = .ok :=
  ⟨(withObjs' [(Obj.MB_BINDING_BIND_MB 4, 2147483944), (Obj.MAILBOX_STATE 4, 1), (Obj.MAILBOX_MSG 4 0, 3)] running), 4, by decide +kernel⟩

theorem witness_FirmwareServesItsMailboxes_7 : ∃ (s : State) (c : Fin 64), s.firmwareRuns = true ∧ Fld.BND_VALID.get (s.binding c) = 1 ∧
    Fld.BND_RECEIVER.get (s.binding c) = FW ∧ s.get (Obj.MAILBOX_STATE c) = 1 ∧ byteAt (s.mailBytes c) 0 = 4 ∧ byteAt (s.mailBytes c) 1
    = 0 ∧ (s.channelSender c = HOST ∨ s.channelSender c = SUPV) :=
  ⟨(withObjs' [(Obj.MB_BINDING_BIND_MB 4, 2147483944), (Obj.MAILBOX_STATE 4, 1), (Obj.MAILBOX_MSG 4 0, 4)] running), 4, by decide +kernel⟩

theorem witness_FirmwareServesItsMailboxes_8 : ∃ (s : State) (c : Fin 64), s.firmwareRuns = true ∧ Fld.BND_VALID.get (s.binding c) = 1 ∧
    Fld.BND_RECEIVER.get (s.binding c) = FW ∧ s.get (Obj.MAILBOX_STATE c) = 1 ∧ byteAt (s.mailBytes c) 0 = 4 ∧ byteAt (s.mailBytes c) 1
    = 0 ∧ s.channelSender c ≠ HOST ∧ s.channelSender c ≠ SUPV :=
  ⟨(withObjs' [(Obj.MB_BINDING_BIND_MB 4, 2147484968), (Obj.MAILBOX_STATE 4, 1), (Obj.MAILBOX_MSG 4 0, 4)] running), 4, by decide +kernel⟩

theorem witness_FirmwareServesItsMailboxes_9 : ∃ (s : State) (c : Fin 64) (a : Nat), s.firmwareRuns = true ∧ Fld.BND_VALID.get
    (s.binding c) = 1 ∧ Fld.BND_RECEIVER.get (s.binding c) = FW ∧ s.get (Obj.MAILBOX_STATE c) = 1 ∧ byteAt (s.mailBytes c) 0 = 5 ∧
    byteAt (s.mailBytes c) 1 = 0 ∧ s.pw.island = false ∧ s.boot.trialEnd = some a ∧ s.time.now < a ∧ s.inTrial = true :=
  ⟨(withObjs' [(Obj.MB_BINDING_BIND_MB 4, 2147483944), (Obj.MAILBOX_STATE 4, 1), (Obj.MAILBOX_MSG 4 0, 5)] running).withBoot { ready := true, trialEnd := some 9 } |>.withFlash { slotA := { state := 3 } }, 4, 9, by decide +kernel⟩

theorem witness_FirmwareServesItsMailboxes_10 : ∃ (s : State) (c : Fin 64), s.firmwareRuns = true ∧ Fld.BND_VALID.get (s.binding c) = 1
    ∧ Fld.BND_RECEIVER.get (s.binding c) = FW ∧ s.get (Obj.MAILBOX_STATE c) = 1 ∧ byteAt (s.mailBytes c) 0 = 5 ∧ byteAt (s.mailBytes c)
    1 = 0 ∧ s.boot.trialEnd = none ∧ s.pw.island = false :=
  ⟨(withObjs' [(Obj.MB_BINDING_BIND_MB 4, 2147483944), (Obj.MAILBOX_STATE 4, 1), (Obj.MAILBOX_MSG 4 0, 5)] running), 4, by decide +kernel⟩

theorem witness_SuppliesClocksAndHeat_1 : ∃ (s : State) (a b : Nat), ((s.setVaon false a).setVaon true b).get Obj.SUPPLY_AON_SOURCE = 0
    ∧ a < 780 ∧ 800 ≤ b :=
  ⟨running, 700, 850, by decide +kernel⟩

theorem witness_SuppliesClocksAndHeat_2 : ∃ (s : State) (a : Nat), (s.setVaon false a).get Obj.SUPPLY_AON_SOURCE = 1 ∧ 800 ≤ a ∧ a ≤ 900
    :=
  ⟨(withObjs' [(Obj.SUPPLY_AON_SOURCE, 1)] running), 850, by decide +kernel⟩

theorem witness_SuppliesClocksAndHeat_3 : ∃ (s : State) (b : Nat), (s.setVaon true b).get Obj.SUPPLY_AON_SOURCE = 0 ∧ s.thermal.lowB =
    false ∧ b < 800 :=
  ⟨running, 790, by decide +kernel⟩

theorem witness_SuppliesClocksAndHeat_5 : ∃ (s : State), s.refPresent 0 = true :=
  ⟨running, by decide +kernel⟩

theorem witness_SuppliesClocksAndHeat_6 : ∃ (s : State) (r : Fin 5), s.refPresent r = true ∧ (r.val = 1 ∨ r.val = 2) :=
  ⟨running, 2, by decide +kernel⟩

theorem witness_SuppliesClocksAndHeat_7 : ∃ (s : State), s.refPresent 4 = true :=
  ⟨running, by decide +kernel⟩

theorem witness_SuppliesClocksAndHeat_8 : ∃ (s : State), s.refPresent 3 = true ∧ ((s.set Obj.CLOCKS_REF_STATUS (setBits (s.get
    Obj.CLOCKS_REF_STATUS) 3 1 0)).bump Obj.CLOCKS_REF_LOSSES).coreOff = false :=
  ⟨running, by decide +kernel⟩

theorem witness_SuppliesClocksAndHeat_9 : ∃ (s : State), s.refPresent 0 = false :=
  ⟨(withObjs' [(Obj.CLOCKS_REF_STATUS, 30)] running), by decide +kernel⟩

theorem witness_SuppliesClocksAndHeat_10 : ∃ (s : State) (r : Fin 5), s.refPresent r = false ∧ r.val ≠ 0 ∧ r.val ≠ 4 :=
  ⟨(withObjs' [(Obj.CLOCKS_REF_STATUS, 27)] running), 2, by decide +kernel⟩

theorem witness_SuppliesClocksAndHeat_11 : ∃ (s : State) (d : Fin 18), domainRef d = some 0 ∧ s.refPresent 0 = true ∧ (s.get
    Obj.CLOCKS_PLL_LOCK).testBit d = true :=
  ⟨(withObjs' [(Obj.CLOCKS_PLL_LOCK, 262143)] running), 3, by decide +kernel⟩

theorem witness_SuppliesClocksAndHeat_12 : ∃ (s : State) (d : Fin 18) (r : Nat), domainRef d = some r ∧ r ≠ 0 ∧ s.refPresent r = true ∧
    (s.get Obj.CLOCKS_PLL_LOCK).testBit d = true :=
  ⟨(withObjs' [(Obj.CLOCKS_PLL_LOCK, 262143)] running), 10, 2, by decide +kernel⟩

theorem witness_SuppliesClocksAndHeat_13 : ∃ (s : State) (x y : List Int) (w : State), s.CoreOn ∧ (w = (((forEach ((y.take 4).zip
    (List.range 4)) (((forEach ((x.take 19).zip (List.range 19)) s fun s x => s.set (sensorKey x.2) (unsigned 32 x.1)))) fun s x =>
    s.setStackTemp x.2 x.1).showTemp 0).showTemp 1)) ∧ ((List.range 19).filter (fun i => decide (110 ≤ w.sensor i)) = []) ∧ w.on
    Obj.THERMAL_STOP_ACTIVE = false ∧ (∀ k, k < 4 → w.stackTemp k < 105) :=
  ⟨running, [40, 41], [], (((forEach ((([40, 41] : List Int).take 19).zip (List.range 19)) running fun s x => s.set (sensorKey x.2) (unsigned 32 x.1))).showTemp 0).showTemp 1, by decide +kernel⟩

theorem witness_SuppliesClocksAndHeat_14 : ∃ (s : State) (x y : List Int) (w : State) (k : Nat), s.CoreOn ∧ (w = (((forEach ((y.take
    4).zip (List.range 4)) (((forEach ((x.take 19).zip (List.range 19)) s fun s x => s.set (sensorKey x.2) (unsigned 32 x.1)))) fun s x
    => s.setStackTemp x.2 x.1).showTemp 0).showTemp 1)) ∧ ((List.range 19).filter (fun i => decide (110 ≤ w.sensor i)) = []) ∧ w.on
    Obj.THERMAL_STOP_ACTIVE = false ∧ ((List.range 4).find? (fun k => decide (105 ≤ w.stackTemp k)) = some k) :=
  ⟨(withObjs' [(Obj.HBM_STACK_TEMP_C 2, 110)] running), [40, 41], [], (((forEach ((([40, 41] : List Int).take 19).zip (List.range 19)) (withObjs' [(Obj.HBM_STACK_TEMP_C 2, 110)] running) fun s x => s.set (sensorKey x.2) (unsigned 32 x.1))).showTemp 0).showTemp 1, 2, by decide +kernel⟩

theorem witness_SuppliesClocksAndHeat_15 : ∃ (s : State) (x y : List Int) (w : State) (i : Nat), s.CoreOn ∧ (w = (((forEach ((y.take
    4).zip (List.range 4)) (((forEach ((x.take 19).zip (List.range 19)) s fun s x => s.set (sensorKey x.2) (unsigned 32 x.1)))) fun s x
    => s.setStackTemp x.2 x.1).showTemp 0).showTemp 1)) ∧ (((List.range 19).filter (fun i => decide (110 ≤ w.sensor i))).find? (fun i =>
    w.thermal.hot.contains i) = some i) ∧ w.on Obj.THERMAL_STOP_ACTIVE = false :=
  ⟨(running.withThermal { hot := [1] }), [40, 111], [], (((forEach ((([40, 111] : List Int).take 19).zip (List.range 19)) (running.withThermal { hot := [1] }) fun s x => s.set (sensorKey x.2) (unsigned 32 x.1))).showTemp 0).showTemp 1, 1, by decide +kernel⟩

theorem witness_SuppliesClocksAndHeat_16 : ∃ (s : State), s.CoreOn :=
  ⟨(withObjs' [(Obj.THERMAL_F_TEMP_C, 120)] running), by decide +kernel⟩

theorem witness_SuppliesClocksAndHeat_17 : ∃ (s : State), s.CoreOn ∧ s.thermal.evalDue = true ∧ s.on Obj.THERMAL_STOP_ACTIVE = false ∧
    s.get Obj.THERMAL_F_LEVEL = 0 ∧ s.get Obj.THERMAL_T_LEVEL = 0 :=
  ⟨(withObjs' [(Obj.THERMAL_F_TEMP_C, 120)] running).withThermal { evalDue := true }, by decide +kernel⟩

theorem witness_SuppliesClocksAndHeat_18 : ∃ (s : State), s.CoreOn ∧ s.thermal.evalDue = true ∧ s.on Obj.THERMAL_STOP_ACTIVE = false ∧
    (s.get Obj.THERMAL_F_LEVEL ≠ 0 ∨ s.get Obj.THERMAL_T_LEVEL ≠ 0) :=
  ⟨(withObjs' [(Obj.THERMAL_F_LEVEL, 1)] running).withThermal { evalDue := true }, by decide +kernel⟩

theorem witness_SuppliesClocksAndHeat_19 : ∃ (s : State), s.on Obj.THERMAL_STOP_ACTIVE = true :=
  ⟨(withObjs' [(Obj.THERMAL_STOP_ACTIVE, 1)] running).withThermal { evalDue := true }, by decide +kernel⟩

theorem witness_SuppliesClocksAndHeat_20 : ∃ (s : State), ((Table.get objDefault s.dict.cycleObjs Obj.THERMAL_THROTTLE_C : Nat) : Int) ≤
    signed 32 (s.get Obj.THERMAL_F_TEMP_C) ∧ s.get Obj.THERMAL_F_LEVEL < 8 ∧ 0 < s.get Obj.THERMAL_F_LEVEL :=
  ⟨(withObjs' [(Obj.THERMAL_F_LEVEL, 1), (Obj.THERMAL_F_TEMP_C, 120)] running), by decide +kernel⟩


end Sys2Proof.Machine
end

section
/-! PROOFS. Family 03_tables: the longest-match search of the LPM store (R109). The search tries the lengths from the address width down,
so it answers at the first length that holds a route covering the address. -/

namespace Sys2Proof.Machine

/-- A search from the greatest number down answers what the greatest number with an answer gives. -/
theorem findSome?_reverse_range_eq_some_iff {α : Type} (g : Nat → Option α) (n : Nat) (b : α) :
    (List.range n).reverse.findSome? g = some b ↔ ∃ k < n, g k = some b ∧ ∀ m, k < m → m < n → g m = none := by
  induction n with
  | zero => simp
  | succ n ih =>
    rw [List.range_succ, List.reverse_concat, List.findSome?_cons]
    cases hn : g n with
    | some c =>
      constructor
      · rintro ⟨⟩
        exact ⟨n, n.lt_succ_self, hn, fun m hlo hhi => absurd hlo (by omega)⟩
      · rintro ⟨k, hk, hkb, hgap⟩
        obtain rfl | hkn := (Nat.le_of_lt_succ hk).eq_or_lt
        · exact hn.symm.trans hkb
        · exact absurd ((hgap n hkn n.lt_succ_self).symm.trans hn) (by simp)
    | none =>
      refine ih.trans ⟨?_, ?_⟩
      · rintro ⟨k, hk, hkb, hgap⟩
        refine ⟨k, by omega, hkb, fun m hlo hhi => ?_⟩
        obtain rfl | hmn := (Nat.le_of_lt_succ hhi).eq_or_lt
        · exact hn
        · exact hgap m hlo hmn
      · rintro ⟨k, hk, hkb, hgap⟩
        have hkn : k ≠ n := by
          rintro rfl
          simp [hn] at hkb
        exact ⟨k, by omega, hkb, fun m hlo hhi => hgap m hlo (by omega)⟩

/-- The RESULT of the route of a length whose first bits are those of the address; the prefix of a route holds no 1 beyond its length
(R108). -/
def State.coveringRoute (s : State) (family vrf addr len : Nat) : Option Nat :=
  s.route family vrf len (addr / 2 ^ (famBits family - len) * 2 ^ (famBits family - len))

theorem State.coveringRoute_zero (s : State) {family addr : Nat} (vrf : Nat) (ha : addr < 2 ^ famBits family) :
    s.coveringRoute family vrf addr 0 = s.route family vrf 0 0 := by
  simp [coveringRoute, Nat.div_eq_of_lt ha]

/-- With no structure being removed, a search reads the covering routes from the greatest length down. -/
theorem State.routeMatch_eq_findSome? {s : State} (hs : s.tab.lpmDamage = []) (family vrf addr : Nat) :
    s.routeMatch family vrf addr = (List.range (famBits family + 1)).reverse.findSome? fun len =>
      (s.coveringRoute family vrf addr len).map fun r => (r, len) := by
  simp [routeMatch, coveringRoute, hs]

theorem State.routeMatch_eq_some_iff {s : State} (hs : s.tab.lpmDamage = []) (family vrf addr r n : Nat) :
    s.routeMatch family vrf addr = some (r, n) ↔ n ≤ famBits family ∧ s.coveringRoute family vrf addr n = some r ∧
      ∀ m, n < m → m ≤ famBits family → s.coveringRoute family vrf addr m = none := by
  simp [routeMatch_eq_findSome? hs, findSome?_reverse_range_eq_some_iff]

theorem State.routeMatch_eq_none_iff {s : State} (hs : s.tab.lpmDamage = []) (family vrf addr : Nat) :
    s.routeMatch family vrf addr = none ↔ ∀ n ≤ famBits family, s.coveringRoute family vrf addr n = none := by
  simp [routeMatch_eq_findSome? hs]

/-- Settles O24: a search answers at the greatest length of a covering route, and a default route covers every address (R109). -/
theorem longestMatchIsLongest : Obligations.LongestMatchIsLongest := by
  refine ⟨fun s f v a r n hs hfound => ?_, fun s f v a n hs hmiss => ?_, fun s f v a d hs hdefault ha => ?_⟩
  · exact (State.routeMatch_eq_some_iff hs f v a r n).mp hfound
  · exact (State.routeMatch_eq_none_iff hs f v a).mp hmiss n
  · by_contra hmiss
    have hnone := (State.routeMatch_eq_none_iff hs f v a).mp (Option.not_isSome_iff_eq_none.mp hmiss) 0 (Nat.zero_le _)
    rw [State.coveringRoute_zero s v ha, hdefault] at hnone
    exact Option.some_ne_none d hnone

end Sys2Proof.Machine
end

section
/-! PROOFS. Family 15_mailboxes: the lock of a shared channel (R427, R428). A write that passes the shared checks is its object's rule and
its ending; every operation of the mailboxes but a lock's own read, write and reset leaves every lock alone. -/

namespace Sys2Proof.Machine

variable {s t : State}

/-! ### Keys of objects -/

theorem keyIdx_objKey (n : Nat) {i sub : Nat} (hi : i < 0x10000) (hs : sub < 0x100) : keyIdx (objKey n i sub) = i := by
  simp only [keyIdx, objKey]
  omega

theorem keySub_objKey (n i : Nat) {sub : Nat} (hs : sub < 0x100) : keySub (objKey n i sub) = sub := by
  simp only [keySub, objKey]
  omega

/-! ### Updates of one part of a frame -/

section
variable {objs : Nat → Bool} {parts : List Part}

theorem EventStep.withDict (h : Part.dict ∈ parts) (x : DictState) : EventStep objs parts s (s.withDict x) :=
  EventStep.ofParts rfl rfl fun p hp => by
    cases p with
    | dict => exact absurd h hp
    | _ => rfl

theorem EventStep.withHost (h : Part.host ∈ parts) (x : HostState) : EventStep objs parts s (s.withHost x) :=
  EventStep.ofParts rfl rfl fun p hp => by
    cases p with
    | host => exact absurd h hp
    | _ => rfl

theorem EventStep.withCoica (h : Part.coica ∈ parts) (x : CoicaState) : EventStep objs parts s (s.withCoica x) :=
  EventStep.ofParts rfl rfl fun p hp => by
    cases p with
    | coica => exact absurd h hp
    | _ => rfl

theorem EventStep.withPair (h : Part.pair ∈ parts) (x : PairState) : EventStep objs parts s (s.withPair x) :=
  EventStep.ofParts rfl rfl fun p hp => by
    cases p with
    | pair => exact absurd h hp
    | _ => rfl

theorem EventStep.withSec (h : Part.sec ∈ parts) (x : SecState) : EventStep objs parts s (s.withSec x) :=
  EventStep.ofParts rfl rfl fun p hp => by
    cases p with
    | sec => exact absurd h hp
    | _ => rfl

end

/-! ### A write by a master's own path -/

/-- Past the shared checks a write is its object's rule, ended with the answer. -/
theorem State.rowWrite_of_accepts {master key v : Nat} (h : s.Accepts master key v) (rule : State → Res) :
    s.rowWrite master key v rule = .next (State.finish (pathOf master) master key (rule s)) := by
  obtain ⟨hreach, hwait, hturn, hcheck⟩ := h
  simp [State.rowWrite, State.writeWith, State.inOrder, hreach, hwait, hturn, hcheck]

/-- While no fuse is being blown no answer waits for the end of one. -/
theorem State.holdFuse_of_idle (h : s.sec.fusing = none) (via : SlowVia) : s.holdFuse via = (false, s) := by
  simp [State.holdFuse, h]

/-- An answer to an access does not leave over the balls, so that EXTEST does not hold it back. -/
theorem State.answered_answer (s : State) (master key : Nat) (st : Status) : (s.answer master key st).Answered master key st := by
  simp [State.Answered, State.answer, State.emit, Emission.onBalls]

theorem State.noteRefused_ok (s : State) (master key : Nat) : s.noteRefused master key .ok = s := rfl

theorem State.noteRefused_sec (s : State) (master key : Nat) (st : Status) : (s.noteRefused master key st).sec = s.sec := by
  unfold State.noteRefused
  split <;> rfl

theorem State.serve_objs (s : State) (key master : Nat) : (s.serve key master).objs = s.objs := by
  unfold State.serve
  split <;> rfl

theorem State.serve_sec (s : State) (key master : Nat) : (s.serve key master).sec = s.sec := by
  unfold State.serve
  split <;> rfl

/-- An applied write is noted in its order of the cycle and answered; SQ_ENABLE alone may be answered later. -/
theorem State.finish_ok (path : Path) (master : Nat) {key : Nat} (hf : s.sec.fusing = none) (hk : key % 0x1000000 ≠ 0x111007) :
    State.finish path master key (.ok, s) = (s.serve key master).answer master key .ok := by
  have hidle : (s.serve key master).sec.fusing = none := by rw [State.serve_sec, hf]
  simp [State.finish, State.noteRefused_ok, State.holdFuse_of_idle hidle, hk]

/-- A refused write is noted for a window master and answered. -/
theorem State.finish_refused (path : Path) (master key : Nat) {st : Status} (hf : s.sec.fusing = none) (hst : st ≠ .ok) :
    State.finish path master key (st, s) =
      (if path = .window then s.noteRefused master key st else s).answer master key st := by
  have hidle : (if path = .window then s.noteRefused master key st else s).sec.fusing = none := by
    split
    · rw [State.noteRefused_sec, hf]
    · exact hf
  simp [State.finish, hst, State.holdFuse_of_idle hidle]

/-- The access status of a master that a refused access through the window sets (R377). -/
abbrev refusalObjs (master : Nat) : List Nat :=
  [Obj.ACCESS_STATUS_LAST_STATUS master, Obj.ACCESS_STATUS_LAST_OBJECT master, Obj.ACCESS_STATUS_REFUSED master]

theorem EventStep.noteRefused {objs : Nat → Bool} {parts : List Part} {master : Nat}
    (ho : ∀ k ∈ refusalObjs master, objs k = true) (key : Nat) (st : Status) :
    EventStep objs parts s (s.noteRefused master key st) := by
  unfold State.noteRefused
  split
  · exact EventStep.refl s
  · exact ((EventStep.set (ho _ (by simp)) _).trans (EventStep.set (ho _ (by simp)) _)).trans (EventStep.set (ho _ (by simp)) _)

theorem EventStep.serve {objs : Nat → Bool} {parts : List Part} (hp : Part.dict ∈ parts) (key master : Nat) :
    EventStep objs parts s (s.serve key master) := by
  unfold State.serve
  split
  · exact EventStep.refl s
  · exact EventStep.withDict hp _

/-- An accepted write that its rule refuses answers the refusal, and changes nothing but the access status. -/
theorem State.rowWrite_refused (hc : s.Canonical) {master key v : Nat} (ha : s.Accepts master key v) (hf : s.sec.fusing = none)
    {rule : State → Res} {st : Status} (hst : st ≠ .ok) (hr : rule s = (st, s)) :
    ∃ t, s.rowWrite master key v rule = .next t ∧ t.Answered master key st ∧
      Frame (keysOf (refusalObjs master)) noKey [.sent] s t := by
  refine ⟨_, State.rowWrite_of_accepts ha rule, ?_⟩
  rw [hr, State.finish_refused _ _ _ hf hst]
  refine ⟨State.answered_answer _ _ _ _, EventStep.frame (EventStep.trans ?_ (EventStep.emit (by simp) _)) hc.1⟩
  split
  · exact EventStep.noteRefused (fun k hk => by simpa [keysOf] using hk) key st
  · exact EventStep.refl s

/-! ### The rule of LOCK -/

/-- LOCK is not journaled: its index lies below the replicated set (R471). -/
theorem State.commit_lock (s : State) (c : Fin 64) (v : Nat) : s.commit (Obj.MAILBOX_LOCK c) v = s.set (Obj.MAILBOX_LOCK c) v := by
  have hidx : keyIdx (Obj.MAILBOX_LOCK c) = 0x1160 + c := keyIdx_objKey 0 (by omega) (by decide)
  have hlow : ¬ 0x2000 ≤ keyIdx (Obj.MAILBOX_LOCK c) := by omega
  simp [State.commit, replicatedObj, hlow]

theorem ruleLock_of_holder {c : Fin 64} {master : Nat} (hs : Fld.BND_SHARED.get (s.binding c) = 1)
    (hh : s.get (Obj.MAILBOX_LOCK c) = master) : ruleLock c master 0 s = (.ok, s.set (Obj.MAILBOX_LOCK c) 0) := by
  simp [ruleLock, hs, hh, State.plain, State.commit_lock]

theorem ruleLock_of_other {c : Fin 64} {master : Nat} (hs : Fld.BND_SHARED.get (s.binding c) = 1)
    (hh : s.get (Obj.MAILBOX_LOCK c) ≠ master) : ruleLock c master 0 s = (.busy, s) := by
  simp [ruleLock, hs, hh]

theorem ruleLock_of_nonzero {c : Fin 64} {master v : Nat} (hs : Fld.BND_SHARED.get (s.binding c) = 1) (hv : v ≠ 0) :
    ruleLock c master v s = (.invalid, s) := by
  simp [ruleLock, hs, hv]

/-- The holder's release: the lock is free, and the answer is OK (R428). -/
theorem State.lockRelease_of_holder (hc : s.Canonical) {c : Fin 64} {master : Nat} (ha : s.Accepts master (Obj.MAILBOX_LOCK c) 0)
    (hs : Fld.BND_SHARED.get (s.binding c) = 1) (hh : s.get (Obj.MAILBOX_LOCK c) = master) (hf : s.sec.fusing = none) :
    ∃ t, exec (.lockRelease c master 0) s = .next t ∧ t.get (Obj.MAILBOX_LOCK c) = 0 ∧
      t.Answered master (Obj.MAILBOX_LOCK c) .ok ∧ Frame (keysOf [Obj.MAILBOX_LOCK c]) noKey [.pair, .dict, .sent] s t := by
  have hkey : Obj.MAILBOX_LOCK c % 0x1000000 ≠ 0x111007 := by
    simp only [Obj.MAILBOX_LOCK, objKey]
    omega
  refine ⟨_, State.rowWrite_of_accepts ha _, ?_⟩
  rw [ruleLock_of_holder hs hh, State.finish_ok (s := s.set (Obj.MAILBOX_LOCK c) 0) _ _ hf hkey]
  refine ⟨?_, State.answered_answer _ _ _ _, ?_⟩
  · rw [State.get_answer, State.get, State.serve_objs]
    exact State.get_set_self hc.1 _ _
  · have hset : EventStep (keysOf [Obj.MAILBOX_LOCK c]) [.pair, .dict, .sent] s (s.set (Obj.MAILBOX_LOCK c) 0) :=
      EventStep.set (by simp [keysOf]) 0
    exact ((hset.trans (EventStep.serve (by simp) _ _)).trans (EventStep.emit (by simp) _)).frame hc.1

/-! ### What leaves every lock alone -/

/-- The objects that are no channel's lock. -/
def offLocks (k : Nat) : Bool := (lockChannel k).isNone

theorem offLocks_lock {c : Nat} (h : c < 64) : offLocks (Obj.MAILBOX_LOCK c) = false := by
  have hidx : keyIdx (Obj.MAILBOX_LOCK c) = 0x1160 + c := keyIdx_objKey 0 (by omega) (by decide)
  have hsub : keySub (Obj.MAILBOX_LOCK c) = 8 := keySub_objKey 0 _ (by decide)
  have hrange : 0x1160 + c < 0x11A0 := by omega
  simp [offLocks, lockChannel, hidx, hsub, hrange]

theorem offLocks_of_sub {k : Nat} (h : keySub k ≠ 8) : offLocks k = true := by
  simp [offLocks, lockChannel, h]

theorem offLocks_of_idx {k : Nat} (h : keyIdx k < 0x1160 ∨ 0x11A0 ≤ keyIdx k) : offLocks k = true := by
  obtain h | h := h
  · simp [offLocks, lockChannel, Nat.not_le.mpr h]
  · simp [offLocks, lockChannel, Nat.not_lt.mpr h]

/-- The other objects of a channel: MSG, SEND, ACK, STATE and POSTS. -/
theorem offLocks_channel (c : Nat) {sub : Nat} (hs : sub < 256) (h : sub ≠ 8) : offLocks (objKey 0 (0x1160 + c) sub) = true :=
  offLocks_of_sub (by rwa [keySub_objKey 0 _ hs])

/-- The doorbells. -/
theorem offLocks_doorbell (master : Nat) {sub : Nat} (hs : sub < 256) : offLocks (objKey master 0x11A0 sub) = true :=
  offLocks_of_idx (.inr (keyIdx_objKey master (by decide) hs).ge)

/-- The access status. -/
theorem offLocks_refusal {master k : Nat} (hk : k ∈ refusalObjs master) : offLocks k = true := by
  have hidx : keyIdx k = 0x1120 := by
    simp only [List.mem_cons, List.not_mem_nil, or_false] at hk
    obtain rfl | rfl | rfl := hk <;> exact keyIdx_objKey master (by decide) (by decide)
  exact offLocks_of_idx (by omega)

/-- The event counts. -/
theorem offLocks_eventObjs {k : Nat} (hk : eventObjs k = true) : offLocks k = true := by
  have hidx : 0x1800 ≤ keyIdx k := by
    simp only [eventObjs, Bool.or_eq_true, List.any_eq_true, List.mem_range] at hk
    obtain ⟨y, hy, hcount⟩ | hsuppressed := hk
    · rw [Nat.eq_of_beq_eq_true hcount, keyIdx_objKey 0 (by decide) (by omega)]
      decide
    · rw [Nat.eq_of_beq_eq_true hsuppressed]
      decide
  exact offLocks_of_idx (by omega)

/-- The parts that operations of the mailboxes change: events, answers, the order of the cycle, doorbells and their signals, the messages to
the partner, and the fuses whose end an answer waits for. -/
def mailboxParts : List Part := [.ev, .sent, .dict, .host, .coica, .pair, .sec]

/-- Every lock keeps its holder, and the tables their canonical form. -/
abbrev KeepsLocks (s t : State) : Prop := EventStep offLocks mailboxParts s t

theorem KeepsLocks.get_lock (h : KeepsLocks s t) (w : s.objsWf) {c : Nat} (hc : c < 64) :
    t.get (Obj.MAILBOX_LOCK c) = s.get (Obj.MAILBOX_LOCK c) :=
  (h.frame w).1 _ (offLocks_lock hc)

theorem KeepsLocks.setChannel (c : Nat) {sub : Nat} (hs : sub < 256) (h : sub ≠ 8) (v : Nat) :
    KeepsLocks s (s.set (objKey 0 (0x1160 + c) sub) v) :=
  EventStep.set (offLocks_channel c hs h) v

theorem KeepsLocks.setDoorbell (master : Nat) {sub : Nat} (hs : sub < 256) (v : Nat) :
    KeepsLocks s (s.set (objKey master 0x11A0 sub) v) :=
  EventStep.set (offLocks_doorbell master hs) v

/-- An event below fatal touches its counts and its record alone. -/
theorem KeepsLocks.raise {code : Nat} (hf : eventClass code < 3) (hh : code ≠ 0x6102) (unit arg scope : Nat) :
    KeepsLocks s (s.raise code unit arg scope) := by
  have h : EventStep eventObjs eventParts s (s.raise code unit arg scope) := EventStep.raise code unit arg scope hf hh
  refine ⟨h.wf, h.doms, fun w => (h.frame w).mono (fun k hk => ?_) (fun _ hk => hk) (by decide)⟩
  exact Bool.eq_false_iff.mpr fun he => absurd (offLocks_eventObjs he) (by simp [hk])

theorem KeepsLocks.forEach {α : Type} {f : State → α → State} {l : List α} (h : ∀ s, ∀ a ∈ l, KeepsLocks s (f s a)) (s : State) :
    KeepsLocks s (Machine.forEach l s f) := by
  induction l generalizing s with
  | nil => exact EventStep.refl s
  | cons a l ih => exact (h s a List.mem_cons_self).trans (ih (fun s b hb => h s b (List.mem_cons_of_mem a hb)) (f s a))

theorem KeepsLocks.ring (master bit : Nat) : KeepsLocks s (s.ring master bit) := by
  unfold State.ring
  split
  · dsimp only
    split
    · exact KeepsLocks.setDoorbell master (by decide) _
    · exact (KeepsLocks.setDoorbell master (by decide) _).trans (EventStep.withHost (by decide) _)
  · exact EventStep.refl s

theorem KeepsLocks.sendMail (c : Nat) (m : MateMail) : KeepsLocks s (s.sendMail c m) := by
  unfold State.sendMail State.sendMate
  split
  · exact EventStep.withPair (by decide) _
  · exact EventStep.refl s

theorem KeepsLocks.abortChannel (c code : Nat) : KeepsLocks s (s.abortChannel c code) :=
  ((KeepsLocks.setChannel c (by decide) (by decide) _).trans (KeepsLocks.setChannel c (by decide) (by decide) _)).trans
    (KeepsLocks.ring _ _)

theorem KeepsLocks.mateMailFailed (c code : Nat) : KeepsLocks s (s.mateMailFailed c code) :=
  (KeepsLocks.abortChannel c code).trans (KeepsLocks.raise (by decide) (by decide) _ _ _)

/-- A send does not release the lock (R428). -/
theorem KeepsLocks.ruleSend (c v : Nat) : KeepsLocks s (ruleSend c v s).2 := by
  unfold Machine.ruleSend
  split
  · exact EventStep.refl s
  split
  · exact EventStep.refl s
  have hposted : KeepsLocks s (((s.set (Obj.MAILBOX_ACK c) 0).bump (Obj.MAILBOX_POSTS c)).set (Obj.MAILBOX_STATE c) 1) :=
    ((KeepsLocks.setChannel c (by decide) (by decide) 0).trans (KeepsLocks.setChannel c (by decide) (by decide) _)).trans
      (KeepsLocks.setChannel c (by decide) (by decide) 1)
  dsimp only
  split
  · split
    · exact hposted.trans (KeepsLocks.sendMail c .message)
    · exact hposted.trans (KeepsLocks.mateMailFailed c _)
  · exact hposted.trans (KeepsLocks.ring _ _)

/-! ### A write whose rule leaves every lock alone -/

theorem KeepsLocks.holdFuse (via : SlowVia) : KeepsLocks s (s.holdFuse via).2 := by
  unfold State.holdFuse
  split
  · split
    · exact EventStep.withSec (by decide) _
    · exact EventStep.refl s
  · exact EventStep.refl s

theorem KeepsLocks.finish (path : Path) (master key : Nat) {r : Res} (h : KeepsLocks s r.2) :
    KeepsLocks s (State.finish path master key r) := by
  have hserved : KeepsLocks s (if r.1 = .ok then r.2.serve key master else r.2) := by
    split
    · exact h.trans (EventStep.serve (by decide) key master)
    · exact h
  unfold State.finish
  dsimp only
  generalize (if r.1 = .ok then r.2.serve key master else r.2) = served at hserved ⊢
  have hnoted : KeepsLocks s (if path = .window then served.noteRefused master key r.1 else served) := by
    split
    · exact hserved.trans (EventStep.noteRefused (fun _ hk => offLocks_refusal hk) key r.1)
    · exact hserved
  generalize (if path = .window then served.noteRefused master key r.1 else served) = noted at hnoted ⊢
  have hheld := hnoted.trans (KeepsLocks.holdFuse (if path = .window then .window else .direct))
  generalize noted.holdFuse (if path = .window then .window else .direct) = held at hheld ⊢
  split
  · exact hheld
  split
  · exact hheld
  · exact hheld.trans (EventStep.emit (by decide) _)

theorem KeepsLocks.writeWith (path : Path) (master key v : Nat) {rule : State → Res} (h : KeepsLocks s (rule s).2) :
    KeepsLocks s (s.writeWith path master key v rule).2 := by
  unfold State.writeWith State.inOrder
  split
  · split
    · exact EventStep.refl s
    · exact h
  · exact EventStep.refl s

theorem KeepsLocks.rowWrite (master key v : Nat) {rule : State → Res} (h : KeepsLocks s (rule s).2) :
    ∃ t, s.rowWrite master key v rule = .next t ∧ KeepsLocks s t := by
  refine ⟨_, rfl, ?_⟩
  split
  · exact EventStep.refl s
  split
  · exact EventStep.withDict (by decide) _
  · exact KeepsLocks.finish _ _ _ (KeepsLocks.writeWith _ _ _ _ h)

/-! ### The reset of an identity -/

theorem KeepsLocks.zeroMail (c : Nat) : KeepsLocks s (s.zeroMail c) :=
  KeepsLocks.forEach (fun _ k hk =>
    have hword : k < 4 := List.mem_range.mp hk
    KeepsLocks.setChannel c (by omega) (by omega) 0) s

theorem KeepsLocks.receiverReset (c : Nat) : KeepsLocks s (s.receiverReset c) := by
  unfold State.receiverReset
  dsimp only
  split
  · exact EventStep.refl s
  split
  · exact ((KeepsLocks.zeroMail c).trans (KeepsLocks.abortChannel c _)).trans (KeepsLocks.raise (by decide) (by decide) _ _ _)
  · exact EventStep.refl s

theorem KeepsLocks.senderReset (c : Nat) : KeepsLocks s (s.senderReset c) := by
  have hidle : KeepsLocks s ((s.zeroMail c).set (Obj.MAILBOX_STATE c) 0) :=
    (KeepsLocks.zeroMail c).trans (KeepsLocks.setChannel c (by decide) (by decide) 0)
  unfold State.senderReset
  dsimp only
  split
  · exact hidle.trans (KeepsLocks.setDoorbell _ (by decide) _)
  · exact hidle

/-- What the reset of an identity does to a channel of which it is the receiver or the sender, apart from the lock. -/
def State.resetChannelEnds (s : State) (id n : Nat) : State :=
  if Fld.BND_VALID.get (s.binding n) = 0 then s
  else
    let s := if Fld.BND_RECEIVER.get (s.binding n) = id then s.receiverReset n else s
    if s.channelSender n = id ∧ id ≠ 0 then s.senderReset n else s

theorem KeepsLocks.resetChannelEnds (id n : Nat) : KeepsLocks s (s.resetChannelEnds id n) := by
  unfold State.resetChannelEnds
  split
  · exact EventStep.refl s
  have hreceiver : KeepsLocks s (if Fld.BND_RECEIVER.get (s.binding n) = id then s.receiverReset n else s) := by
    split
    · exact KeepsLocks.receiverReset n
    · exact EventStep.refl s
  dsimp only
  generalize (if Fld.BND_RECEIVER.get (s.binding n) = id then s.receiverReset n else s) = u at hreceiver ⊢
  split
  · exact hreceiver.trans (KeepsLocks.senderReset n)
  · exact hreceiver

/-- What it does to a channel, and to its lock where the identity holds it. -/
def State.resetChannel (id : Nat) (s : State) (n : Nat) : State :=
  let s := s.resetChannelEnds id n
  if s.get (Obj.MAILBOX_LOCK n) = id ∧ id ≠ 0 then s.set (Obj.MAILBOX_LOCK n) 0 else s

/-- The reset of an identity is that of the 64 channels, then of its doorbell. -/
theorem State.resetIdentityNow_eq (s : State) (id : Nat) :
    s.resetIdentityNow id =
      let s := forEach (List.range 64) s (State.resetChannel id)
      if hasDoorbell id then
        let s := (s.set (Obj.DOORBELL_DB_PENDING id) 0).set (Obj.DOORBELL_DB_MASK id) 0xFFFFFFFF
        if id = SUPV then (s.withCoica { s.coica with notify := false }) else s
      else s := rfl

theorem State.objsWf_resetChannel (w : s.objsWf) (id n : Nat) : (s.resetChannel id n).objsWf := by
  have hends := (KeepsLocks.resetChannelEnds id n).wf w
  unfold State.resetChannel
  dsimp only
  split
  · exact State.objsWf_set hends _ _
  · exact hends

/-- The reset of one channel releases that channel's lock where the identity holds it, and no other. -/
theorem State.get_lock_resetChannel (w : s.objsWf) {c : Nat} (hc : c < 64) {id : Nat} (hid : id ≠ 0) (n : Nat) :
    (s.resetChannel id n).get (Obj.MAILBOX_LOCK c) =
      if n = c ∧ s.get (Obj.MAILBOX_LOCK c) = id then 0 else s.get (Obj.MAILBOX_LOCK c) := by
  have hends := KeepsLocks.resetChannelEnds (s := s) id n
  have hkept := hends.get_lock w hc
  unfold State.resetChannel
  dsimp only
  by_cases hn : n = c
  · subst hn
    rw [hkept]
    by_cases hheld : s.get (Obj.MAILBOX_LOCK n) = id
    · simp [hheld, hid, State.get_set_self (hends.wf w)]
    · simp [hheld, hkept]
  · have hother : Obj.MAILBOX_LOCK c ≠ Obj.MAILBOX_LOCK n := by
      simp only [Obj.MAILBOX_LOCK, objKey]
      omega
    simp only [hn, false_and, if_false]
    split
    · rw [State.get_set_ne (hends.wf w) hother, hkept]
    · exact hkept

/-- The reset of a list of channels releases the locks that the identity holds among them. -/
theorem State.get_lock_resetChannels {c : Nat} (hc : c < 64) {id : Nat} (hid : id ≠ 0) (l : List Nat) (w : s.objsWf) :
    (forEach l s (State.resetChannel id)).objsWf ∧ (forEach l s (State.resetChannel id)).get (Obj.MAILBOX_LOCK c) =
      if c ∈ l ∧ s.get (Obj.MAILBOX_LOCK c) = id then 0 else s.get (Obj.MAILBOX_LOCK c) := by
  induction l generalizing s with
  | nil => exact ⟨w, by simp [forEach]⟩
  | cons n l ih =>
    obtain ⟨hwf, hget⟩ := ih (State.objsWf_resetChannel w id n)
    refine ⟨hwf, hget.trans ?_⟩
    rw [State.get_lock_resetChannel w hc hid n]
    by_cases hheld : s.get (Obj.MAILBOX_LOCK c) = id
    · by_cases hn : n = c
      · simp [hn, hheld, hid.symm]
      · simp [hn, Ne.symm hn, hheld]
    · simp [hheld]

/-- A lock that an identity holds is free after the identity's reset (R428, R429). -/
theorem State.get_lock_resetIdentityNow (w : s.objsWf) {c : Nat} (hc : c < 64) {id : Nat} (hid : id ≠ 0)
    (hheld : s.get (Obj.MAILBOX_LOCK c) = id) : (s.resetIdentityNow id).get (Obj.MAILBOX_LOCK c) = 0 := by
  obtain ⟨hwf, hget⟩ := State.get_lock_resetChannels hc hid (List.range 64) w
  rw [if_pos ⟨List.mem_range.mpr hc, hheld⟩] at hget
  rw [State.resetIdentityNow_eq]
  generalize forEach (List.range 64) s (State.resetChannel id) = u at hwf hget ⊢
  have hbell : KeepsLocks u ((u.set (Obj.DOORBELL_DB_PENDING id) 0).set (Obj.DOORBELL_DB_MASK id) 0xFFFFFFFF) :=
    (KeepsLocks.setDoorbell id (by decide) 0).trans (KeepsLocks.setDoorbell id (by decide) _)
  dsimp only
  split
  · split
    · exact (KeepsLocks.get_lock (hbell.trans (EventStep.withCoica (by decide) _)) hwf hc).trans hget
    · exact (hbell.get_lock hwf hc).trans hget
  · exact hget

/-- With no other reset waiting, the resets of the cycle are the one that was asked for. -/
theorem State.applyResets_resetIdentity (h : s.host.resetting = []) (id : Nat) :
    (s.resetIdentity id).applyResets = s.resetIdentityNow id := by
  have hnone : s.withHost { s.host with resetting := [] } = s := by rw [← h]; rfl
  calc (s.resetIdentity id).applyResets = (s.withHost { s.host with resetting := [] }).resetIdentityNow id := by
        simp [State.resetIdentity, State.applyResets, h, forEach, State.withHost]
    _ = s.resetIdentityNow id := by rw [hnone]

/-- Settles O39: the rule of LOCK gives the three answers to its write, every object that a send writes is no lock, and the reset of an
identity goes through all 64 channels (R428, R429; log entry 86 for INVALID before BUSY). -/
theorem holderReleasesTheLock : Obligations.HolderReleasesTheLock := by
  refine ⟨?release, ?other, ?nonzero, ?send, ?reset⟩
  case release =>
    rintro s c m v hc ha rfl hs hh hf
    exact State.lockRelease_of_holder hc ha hs hh hf
  case other =>
    rintro s c m v hc ha rfl hs hh hf
    exact State.rowWrite_refused hc ha hf (by decide) (ruleLock_of_other hs hh)
  case nonzero =>
    intro s c m v hc ha hv hs hf
    exact State.rowWrite_refused hc ha hf (by decide) (ruleLock_of_nonzero hs hv)
  case send =>
    intro s c m v hc _
    obtain ⟨t, hexec, hkeeps⟩ := KeepsLocks.rowWrite (s := s) m (Obj.MAILBOX_SEND c) v (KeepsLocks.ruleSend c v)
    exact ⟨t, hexec, hkeeps.get_lock hc.1 c.isLt⟩
  case reset =>
    intro s c m hc hlt hm hidle hh
    rw [State.applyResets_resetIdentity hidle]
    exact State.get_lock_resetIdentityNow hc.1 hlt hm hh

end Sys2Proof.Machine
end

section
/-! PROOFS. Family 18_power_states: WAKE_N (R509) and the wake patterns that drive it low (R457). What drives the pin, and when it rises,
holds of every state. That a frame does no more than match the one pattern in force needs the canonical form of the objects' table, which
the statement does not ask for. -/

namespace Sys2Proof.Machine

variable {s : State}

/-! ### The pin -/

/-- Raising an event below fatal leaves the power states and the time alone, whatever the form of the tables. -/
theorem State.raise_pw_time (s : State) {code : Nat} (hf : eventClass code ≠ 3) (hh : code ≠ 0x6102) (unit arg scope : Nat) :
    (s.raise code unit arg scope).pw = s.pw ∧ (s.raise code unit arg scope).time = s.time := by
  have hcount (e : Ev) : (s.countEvent e).2.pw = s.pw ∧ (s.countEvent e).2.time = s.time := by
    unfold State.countEvent
    dsimp only
    split
    · exact ⟨rfl, rfl⟩
    · split <;> exact ⟨rfl, rfl⟩
  simp only [State.raise, State.raise1, hf, hh, if_false, State.raiseList, List.foldl_nil]
  split
  · exact hcount _
  · exact hcount _

/-- The end of an assertion that starts now. -/
abbrev State.wakeEnd (s : State) : Nat := s.time.now + 10000000

theorem State.assertWake_of_high (h : s.pw.wakeLow = none) :
    s.assertWake = ((s.withPw { s.pw with wakeLow := some s.wakeEnd }).emit (.pin .wakeN false)).raise 0x1011 uAON 0 := by
  simp only [State.assertWake, h]
  rfl

theorem State.assertWake_of_low (h : s.pw.wakeLow ≠ none) : s.assertWake = s.withPw { s.pw with wakeLow := some s.wakeEnd } := by
  obtain ⟨t, ht⟩ := Option.ne_none_iff_exists'.mp h
  simp only [State.assertWake, ht]
  rfl

theorem State.assertWake_pw_time (s : State) :
    s.assertWake.pw = { s.pw with wakeLow := some s.wakeEnd } ∧ s.assertWake.time = s.time := by
  by_cases h : s.pw.wakeLow = none
  · obtain ⟨hpw, htime⟩ := ((s.withPw { s.pw with wakeLow := some s.wakeEnd }).emit (.pin .wakeN false)).raise_pw_time
      (code := 0x1011) (by decide) (by decide) uAON 0 uAON
    rw [State.assertWake_of_high h, hpw, htime]
    simp
  · rw [State.assertWake_of_low h]
    exact ⟨rfl, rfl⟩

theorem State.objsWf_assertWake (w : s.objsWf) : s.assertWake.objsWf := by
  by_cases h : s.pw.wakeLow = none
  · rw [State.assertWake_of_high h]
    exact (EventStep.raise _ _ _ _ (by decide) (by decide)).wf (State.objsWf_of_objs w (State.emit_objs _ _))
  · rw [State.assertWake_of_low h]
    exact w

/-- E-1011 apart, an assertion changes no object. -/
theorem State.get_assertWake (w : s.objsWf) {k : Nat} (hk : eventObjs k = false) : s.assertWake.get k = s.get k := by
  by_cases h : s.pw.wakeLow = none
  · rw [State.assertWake_of_high h]
    refine (State.get_raise (State.objsWf_of_objs w ?_) (by decide) (by decide) hk).trans ?_ <;> simp
  · rw [State.assertWake_of_low h, State.get_withPw]

/-- An accepted WAKE_REQ 1 asserts WAKE_N. -/
theorem exec_wakeReq_of_accepts {m : Nat} (ha : s.Accepts m Obj.POWER_CTRL_WAKE_REQ 1) :
    exec (.wakeReq m 1) s = .next (State.finish (pathOf m) m Obj.POWER_CTRL_WAKE_REQ (.ok, s.assertWake)) :=
  State.rowWrite_of_accepts ha _

theorem exec_wakeNRelease_of_due {a : Nat} (h : s.pw.wakeLow = some a) (ha : a ≤ s.time.now) :
    exec .wakeNRelease s = .next ((s.withPw { s.pw with wakeLow := none }).emit (.pin .wakeN true)) := by
  change execWakeNRelease s = _
  simp only [execWakeNRelease, h, if_pos ha]

theorem exec_wakeNRelease_of_early {a : Nat} (h : s.pw.wakeLow = some a) (ha : s.time.now < a) :
    exec .wakeNRelease s = .next s := by
  change execWakeNRelease s = _
  simp only [execWakeNRelease, h, if_neg (Nat.not_le.mpr ha)]

/-- WAKE_REQ is there in ISLAND (R387, R509), to the supervisor of a device that is not DECOMMISSIONED (R526). -/
theorem State.checkWrite_wakeReq_supv (hlc : s.sec.lc ≠ 4) :
    s.checkWrite .coica SUPV Obj.POWER_CTRL_WAKE_REQ 1 = .ok := by
  have hidx : keyIdx Obj.POWER_CTRL_WAKE_REQ = 0x1400 := rfl
  have hsub : keySub Obj.POWER_CTRL_WAKE_REQ = 2 := rfl
  have hrow : rowAt 0x1400 2 = some ⟨0x02, 1, "WAKE_REQ", .u8, Rights.aHWOFWOSWO, [], .rng 1 1, false⟩ := rfl
  have hthere : islandGone 0x1400 = false := rfl
  have hclient : s.noClient 0x1400 = false := rfl
  have hpair : replicatedObj Obj.POWER_CTRL_WAKE_REQ = false := rfl
  have hacc (w : ObjRow) (hw : w.acc = Rights.aHWOFWOSWO) : s.accOf SUPV Obj.POWER_CTRL_WAKE_REQ w = .wo := by
    have hclass : classOf SUPV = some .s := rfl
    simp [State.accOf, hclass, hlc, hw, Rights.aHWOFWOSWO]
  simp [State.checkWrite, hidx, hsub, hrow, hthere, hclient, hpair, hacc, Check.ok, Ty.bytes]

/-! ### The wake patterns -/

/-- Wake pattern n is in force and a frame matches it (R457). -/
abbrev State.PatternMatches (s : State) (f : List Byte) (n : Nat) : Prop :=
  s.on (Obj.WAKE_PATTERN_WP_ENABLE n) = true ∧ s.get (Obj.WAKE_PATTERN_WP_LENGTH n) ≤ f.length ∧
    maskedCrc (s.wpMask n) (f.take (s.get (Obj.WAKE_PATTERN_WP_LENGTH n))) = s.get (Obj.WAKE_PATTERN_WP_CHECK n)

/-- What a match of wake pattern n does. -/
def State.patternMatched (s : State) (n : Nat) : State :=
  (s.assertWake.bump (Obj.WAKE_PATTERN_WP_MATCHES n)).raise 0x8004 uAON 0

/-- The comparison of a frame with wake pattern n. -/
def State.comparePattern (f : List Byte) (s : State) (n : Nat) : State :=
  if s.PatternMatches f n then s.patternMatched n else s

theorem State.wakeMatch_eq (s : State) (f : List Byte) : s.wakeMatch f = forEach (List.range 8) s (State.comparePattern f) := rfl

theorem State.comparePattern_of_match {f : List Byte} {n : Nat} (h : s.PatternMatches f n) :
    s.comparePattern f n = s.patternMatched n := if_pos h

theorem State.comparePattern_of_not_match {f : List Byte} {n : Nat} (h : ¬ s.PatternMatches f n) : s.comparePattern f n = s :=
  if_neg h

theorem State.comparePattern_of_off {f : List Byte} {n : Nat} (h : s.on (Obj.WAKE_PATTERN_WP_ENABLE n) = false) :
    s.comparePattern f n = s :=
  State.comparePattern_of_not_match fun hm => absurd hm.1 (by simp [h])

theorem State.patternMatched_pw_time (s : State) (n : Nat) :
    (s.patternMatched n).pw = { s.pw with wakeLow := some s.wakeEnd } ∧ (s.patternMatched n).time = s.time := by
  obtain ⟨hpw, htime⟩ := (s.assertWake.bump (Obj.WAKE_PATTERN_WP_MATCHES n)).raise_pw_time
    (code := 0x8004) (by decide) (by decide) uAON 0 uAON
  exact ⟨hpw.trans s.assertWake_pw_time.1, htime.trans s.assertWake_pw_time.2⟩

/-- WAKE_N is low for 10 ms more from the time `now` on, and it is that time. -/
def State.LowFrom (now : Nat) (s : State) : Prop := s.pw.wakeLow = some (now + 10000000) ∧ s.time.now = now

theorem State.lowFrom_patternMatched (s : State) (n : Nat) : (s.patternMatched n).LowFrom s.time.now := by
  obtain ⟨hpw, htime⟩ := s.patternMatched_pw_time n
  exact ⟨by rw [hpw], by rw [htime]⟩

/-- The patterns that follow a match leave WAKE_N low for the same 10 ms. -/
theorem State.LowFrom.comparePattern {now : Nat} (f : List Byte) (h : s.LowFrom now) (n : Nat) :
    (s.comparePattern f n).LowFrom now := by
  by_cases hm : s.PatternMatches f n
  · rw [State.comparePattern_of_match hm, ← h.2]
    exact s.lowFrom_patternMatched n
  · rwa [State.comparePattern_of_not_match hm]

/-- A frame that matches one pattern of a list leaves WAKE_N low: the first pattern that matches drives it. -/
theorem State.lowFrom_comparePatterns {f : List Byte} {n : Nat} (hm : s.PatternMatches f n) {l : List Nat} (hn : n ∈ l) :
    (forEach l s (State.comparePattern f)).LowFrom s.time.now := by
  induction l with
  | nil => cases hn
  | cons k l ih =>
    change (forEach l (s.comparePattern f k) (State.comparePattern f)).LowFrom s.time.now
    by_cases hk : s.PatternMatches f k
    · rw [State.comparePattern_of_match hk]
      exact forEach_keeps l _ (s.lowFrom_patternMatched k) fun _ j h => h.comparePattern f j
    · have hnk : n ≠ k := fun e => hk (e ▸ hm)
      rw [State.comparePattern_of_not_match hk]
      exact ih (List.mem_of_ne_of_mem hnk hn)

theorem State.wakeLow_wakeMatch {f : List Byte} {n : Nat} (hn : n < 8) (hm : s.PatternMatches f n) :
    (s.wakeMatch f).pw.wakeLow = some s.wakeEnd := by
  rw [State.wakeMatch_eq]
  exact (State.lowFrom_comparePatterns hm (List.mem_range.mpr hn)).1

/-- A match switches no pattern on or off in a canonical table. -/
theorem State.on_patternMatched (w : s.objsWf) (n : Nat) {k : Nat} (hk : k < 8) :
    (s.patternMatched n).on (Obj.WAKE_PATTERN_WP_ENABLE k) = s.on (Obj.WAKE_PATTERN_WP_ENABLE k) := by
  have hevent : ∀ k < 8, eventObjs (Obj.WAKE_PATTERN_WP_ENABLE k) = false := by decide
  have hcount : Obj.WAKE_PATTERN_WP_ENABLE k ≠ Obj.WAKE_PATTERN_WP_MATCHES n := by
    simp only [Obj.WAKE_PATTERN_WP_ENABLE, Obj.WAKE_PATTERN_WP_MATCHES, objKey]
    omega
  have hwake := State.objsWf_assertWake w
  unfold State.on State.patternMatched
  rw [State.get_raise (State.objsWf_bump hwake _ _) (by decide) (by decide) (hevent k hk), State.get_bump_ne hwake hcount,
    State.get_assertWake w (hevent k hk)]

/-- Patterns that are not in force leave the state alone. -/
theorem State.comparePatterns_of_off {f : List Byte} {l : List Nat}
    (h : ∀ k ∈ l, s.on (Obj.WAKE_PATTERN_WP_ENABLE k) = false) : forEach l s (State.comparePattern f) = s := by
  induction l with
  | nil => rfl
  | cons k l ih =>
    change forEach l (s.comparePattern f k) (State.comparePattern f) = s
    rw [State.comparePattern_of_off (h k List.mem_cons_self)]
    exact ih fun j hj => h j (List.mem_cons_of_mem k hj)

/-- A frame that matches the only pattern in force does what that match does, where the objects' table is canonical. -/
theorem State.wakeMatch_of_alone (w : s.objsWf) {f : List Byte} {n : Nat} (hn : n < 8) (hm : s.PatternMatches f n)
    (halone : ∀ k, k < 8 → k ≠ n → s.on (Obj.WAKE_PATTERN_WP_ENABLE k) = false) : s.wakeMatch f = s.patternMatched n := by
  obtain ⟨before, after, hsplit⟩ := List.append_of_mem (List.mem_range.mpr hn)
  have hlt {k : Nat} (hk : k ∈ before ∨ k ∈ after) : k < 8 := by
    rw [← List.mem_range, hsplit]
    simp only [List.mem_append, List.mem_cons]
    tauto
  have hne {k : Nat} (hk : k ∈ before ∨ k ∈ after) : k ≠ n := by
    have hnodup : (n :: (before ++ after)).Nodup := List.nodup_middle.mp (hsplit ▸ List.nodup_range)
    exact fun e => (List.nodup_cons.mp hnodup).1 (List.mem_append.mpr (e ▸ hk))
  have hbefore : forEach before s (State.comparePattern f) = s :=
    State.comparePatterns_of_off fun k hk => halone k (hlt (.inl hk)) (hne (.inl hk))
  have hafter : forEach after (s.patternMatched n) (State.comparePattern f) = s.patternMatched n :=
    State.comparePatterns_of_off fun k hk =>
      (State.on_patternMatched w n (hlt (.inr hk))).trans (halone k (hlt (.inr hk)) (hne (.inr hk)))
  calc s.wakeMatch f = forEach after ((forEach before s (State.comparePattern f)).comparePattern f n) (State.comparePattern f) := by
        rw [State.wakeMatch_eq, hsplit]
        exact List.foldl_append
    _ = s.patternMatched n := by rw [hbefore, State.comparePattern_of_match hm, hafter]

/-! ### A table out of order -/

/-- WAKE_N is low, pattern 0 is in force, and the entry of pattern 1 stands out of order behind the count of events of class 0, which is
about to wrap. -/
def hiddenPattern : State :=
  (State.reset.withObjs [(Obj.WAKE_PATTERN_WP_ENABLE 0, 1), (Obj.EVENT_LAST_COUNT 0, 2 ^ 64 - 1), (Obj.WAKE_PATTERN_WP_ENABLE 1, 1)]).withPw
    { wakeLow := some 5 }

/-- The table is not of the form that `Obligations.CanonicalTablesKept` is about. -/
theorem hiddenPattern_not_canonical : ¬ hiddenPattern.objsWf := by decide +kernel

/-- The entry out of order is not read. -/
theorem hiddenPattern_alone : ∀ k, k < 8 → k ≠ 0 → hiddenPattern.on (Obj.WAKE_PATTERN_WP_ENABLE k) = false := by decide +kernel

/-- A frame of 128 bytes matches both patterns, which compare no byte of it. The E-8004 of pattern 0 wraps the count to its default, so that
its entry goes and pattern 1 is found in force; the match of pattern 0 by itself counts nothing there. -/
theorem hiddenPattern_counts :
    (hiddenPattern.wakeMatch (List.replicate 128 0)).get (Obj.WAKE_PATTERN_WP_MATCHES 1) = 1 ∧
      (hiddenPattern.patternMatched 0).get (Obj.WAKE_PATTERN_WP_MATCHES 1) = 0 := by decide +kernel

/-- Refutes O51, by its clause of the pattern that alone is enabled, with WAKE_N low: the clause is asked of every table of objects, and
where an entry out of order hides WP_ENABLE of pattern 1, the match of pattern 0 uncovers it and the frame is counted at pattern 1 too. In a
canonical table this clause and the next hold (`State.wakeMatch_of_alone`, with what an assertion does: `State.assertWake_of_low`,
`State.assertWake_of_high`). The others hold of every state: `exec_wakeReq_of_accepts`, `State.wakeLow_wakeMatch`,
`exec_wakeNRelease_of_due`, `exec_wakeNRelease_of_early`, `State.checkWrite_wakeReq_supv`. -/
theorem not_wakePinIsDrivenLow : ¬ Obligations.WakePinIsDrivenLow := by
  rintro ⟨-, -, -, hlow, -⟩
  have hmatch : hiddenPattern.PatternMatches (List.replicate 128 0) 0 := by decide +kernel
  obtain ⟨henable, hlength, hcheck⟩ := hmatch
  have heq : hiddenPattern.wakeMatch (List.replicate 128 0) = hiddenPattern.patternMatched 0 :=
    (hlow hiddenPattern 0 (List.replicate 128 0) (by decide) (by decide) henable hlength hcheck hiddenPattern_alone).trans
      (by rw [State.patternMatched, State.assertWake_of_low (by decide)])
  obtain ⟨hcounted, hnot⟩ := hiddenPattern_counts
  rw [heq, hnot] at hcounted
  exact absurd hcounted (by decide)

end Sys2Proof.Machine
end

section
/-! PROOFS. Family 19_security_debug: the debug challenge (R522). A submission spends it before it decides, and nothing that a
submission does after that gives one; a read draws the bytes and changes nothing else. -/

namespace Sys2Proof.Machine

variable {s t : State}

/-! ### A submission spends the challenge -/

/-- Raising an event below fatal changes objects and the events' own part alone, whatever the form of the tables. -/
theorem State.raise_eq_withObjs_withEv (s : State) {code : Nat} (hf : eventClass code ≠ 3) (hh : code ≠ 0x6102)
    (unit arg scope : Nat) : ∃ objs ev, s.raise code unit arg scope = (s.withObjs objs).withEv ev := by
  have hcount (e : Ev) :
      (s.countEvent e).2 = (s.withObjs (s.countEvent e).2.objs).withEv (s.countEvent e).2.ev := by
    unfold State.countEvent
    dsimp only
    split
    · rfl
    · split <;> rfl
  obtain ⟨objs, ev, hcounted⟩ : ∃ objs ev, (s.countEvent ⟨code, unit, arg, scope⟩).2 = (s.withObjs objs).withEv ev :=
    ⟨_, _, hcount _⟩
  simp only [State.raise, State.raise1, hf, hh, if_false, State.raiseList, List.foldl_nil, hcounted]
  split
  · exact ⟨objs, _, rfl⟩
  · exact ⟨objs, ev, rfl⟩

theorem State.raise_sec (s : State) {code : Nat} (hf : eventClass code ≠ 3) (hh : code ≠ 0x6102) (unit arg scope : Nat) :
    (s.raise code unit arg scope).sec = s.sec := by
  obtain ⟨objs, ev, hraised⟩ := s.raise_eq_withObjs_withEv hf hh unit arg scope
  rw [hraised]
  rfl

theorem State.showHealth_sec (s : State) : s.showHealth.sec = s.sec := by
  unfold State.showHealth
  dsimp only
  split <;> rfl

/-- A new debug level leaves the challenge alone. -/
theorem State.setLevel_challenge (s : State) (v : Nat) : (s.setLevel v).sec.challenge = s.sec.challenge := by
  have hshown : (s.set Obj.DEBUG_DBG_LEVEL v).showHealth.sec = s.sec := State.showHealth_sec _
  unfold State.setLevel
  dsimp only
  split <;> simp [hshown]

theorem State.startFuse_challenge (s : State) (job : FuseJob) (master key : Nat) :
    (s.startFuse job master key).2.sec.challenge = s.sec.challenge := rfl

/-- The way an answer takes while fuses are being blown leaves the challenge alone. -/
theorem State.holdFuse_challenge (s : State) (via : SlowVia) : (s.holdFuse via).2.sec.challenge = s.sec.challenge := by
  unfold State.holdFuse
  split
  · split <;> rfl
  · rfl

/-- The end of a write leaves the challenge alone. -/
theorem State.finish_challenge (path : Path) (master key : Nat) (r : Res) :
    (State.finish path master key r).sec.challenge = r.2.sec.challenge := by
  unfold State.finish
  dsimp only
  generalize hnoted : (if path = .window then State.noteRefused _ _ _ _ else _) = u
  have hsec : u.sec = r.2.sec := by
    rw [← hnoted]
    split
    · rw [State.noteRefused_sec]
      split <;> simp [State.serve_sec]
    · split <;> simp [State.serve_sec]
  generalize (if path = .window then SlowVia.window else SlowVia.direct) = via
  have hheld : (u.holdFuse via).2.sec.challenge = r.2.sec.challenge := by rw [State.holdFuse_challenge, hsec]
  split
  · exact hheld
  · split
    · exact hheld
    · rwa [State.answer_sec]

/-- Whatever the outcome of a submission, no challenge is left. -/
theorem ruleAuthSubmit_challenge (master : Nat) (s : State) : (ruleAuthSubmit master s).2.sec.challenge = none := by
  unfold ruleAuthSubmit
  dsimp only
  generalize (if s.expireDebug.coreOff = true then s.expireDebug else s.expireDebug.dueTakeover) = u
  split
  case isTrue =>
    split
    · simp (disch := decide) [State.raise_sec]
    · simp (disch := decide) [State.raise_sec]
  case isFalse =>
    split
    · rw [State.raise_sec _ (by decide) (by decide)]
      generalize hlevel : State.setLevel _ _ = w
      have hspent : w.sec.challenge = none := by
        rw [← hlevel, State.setLevel_challenge]
        rfl
      split <;> exact hspent
    · split <;> simp [State.startFuse_challenge]

/-- An accepted AUTH_SUBMIT leaves no challenge. -/
theorem State.submit_of_accepts {m v : Nat} (ha : s.Accepts m Obj.DEBUG_AUTH_SUBMIT v) :
    ∃ t, s.submit m v = .next t ∧ t.sec.challenge = none :=
  ⟨_, State.rowWrite_of_accepts ha _, (State.finish_challenge _ _ _ _).trans (ruleAuthSubmit_challenge m s)⟩

/-! ### Its minute -/

theorem State.tokenStep_of_lapsed {c a : Nat} (h : s.sec.challenge = some (c, a)) (hlapsed : a + 60000000000 ≤ s.time.now) :
    s.tokenStep = 1 := by
  simp only [State.tokenStep, h]
  exact if_pos hlapsed

/-- Within its minute a challenge passes step 1, and every later step has a number of its own. -/
theorem State.tokenStep_of_running {c a : Nat} (h : s.sec.challenge = some (c, a)) (hruns : s.time.now < a + 60000000000) :
    s.tokenStep ≠ 1 := by
  have hstep : ¬ a + minute ≤ s.time.now := Nat.not_le.mpr hruns
  simp only [State.tokenStep, h, if_neg hstep]
  split_ifs <;> decide

theorem exec_challengeExpiry {c a : Nat} (h : s.sec.challenge = some (c, a)) :
    exec .challengeExpiry s =
      .next (if a + 60000000000 ≤ s.time.now then s.withSec { s.sec with challenge := none } else s) := by
  change execChallengeExpiry s = _
  simp only [execChallengeExpiry, h]
  rfl

/-! ### A read draws it -/

/-- A read by a master's own path that passes the shared checks and that its object answers. -/
theorem State.rowRead_of_answers {master key v : Nat} (hreach : s.unreached master = false)
    (hwait : s.waits (pathOf master) master true = false) (hturn : s.outOfTurn master key = false)
    (hcheck : s.checkRead (pathOf master) master key = .ok) {rule : State → Status × Nat × State} (hr : rule s = (.ok, v, t)) :
    s.rowRead master key rule =
      .next (t.answer master key .ok (if pathOf master = .window then v % 2 ^ 128 else v)) := by
  simp [State.rowRead, hreach, hwait, hturn, hcheck, hr, State.noteRefused_ok]

/-- Open bytes use up open values and nothing else. -/
theorem State.freshBytes_state (n : Nat) (s : State) : (State.freshBytes n s).2 = { s with free := s.free + n } := by
  induction n generalizing s with
  | zero => rfl
  | succ n ih =>
    change (State.freshBytes n { s with free := s.free + 1 }).2 = _
    rw [ih, Nat.add_assoc, Nat.add_comm 1 n]

/-- The state with 48 fresh bytes as the challenge, read now. -/
def State.challenged (s : State) : State :=
  State.withSec { s with free := s.free + 48 } { s.sec with challenge := some (natLE (State.freshBytes 48 s).1, s.time.now) }

theorem State.drawChallenge_eq (s : State) :
    s.drawChallenge = (.ok, natLE (State.freshBytes 48 s).1, s.challenged) := by
  unfold State.drawChallenge
  dsimp only
  rw [State.freshBytes_state]
  rfl

theorem State.readChallenge_of_given (h : s.sec.withheld = none) :
    s.readChallenge = (.ok, natLE (State.freshBytes 48 s).1, s.challenged) := by
  simp only [State.readChallenge, h]
  exact s.drawChallenge_eq

/-- A new challenge changes the security state and uses up open values. -/
theorem State.frame_challenged (s : State) : Frame noKey noKey [.sec, .free, .sent] s s.challenged :=
  ⟨fun _ _ => rfl, fun _ _ => rfl, fun p hp => by
    cases p with
    | sec | free => exact absurd hp (by decide)
    | _ => rfl⟩

/-- An answer leaves under EXTEST too: it takes no ball. -/
theorem State.sent_answer (s : State) (master key : Nat) (st : Status) (v : Nat) :
    (s.answer master key st v).sent = .access master key st.code v :: s.sent := by
  simp [State.answer, State.emit, Emission.onBalls]

/-- Settles O53: a submission spends the challenge before it decides, a challenge held fails step 1 once it lapses, and a read draws 48 bytes
(R522); through the window it answers the first 16 of them (R374). -/
theorem challengeServesOnceWithinAMinute : Obligations.ChallengeServesOnceWithinAMinute := by
  refine ⟨?read, ?lapsed, ?running, ?observe, ?invasive, ?transition, ?revoke, ?expiry⟩
  case read =>
    intro s m hreach hwait hturn hcheck hgiven
    refine ⟨_, State.rowRead_of_answers hreach hwait hturn hcheck (State.readChallenge_of_given hgiven), ?_, ?_, ?_⟩
    · rw [State.answer_sec]
      rfl
    · exact State.sent_answer _ _ _ _ _
    · exact s.frame_challenged.trans (Frame.emit (by simp) _)
  case lapsed =>
    intro s c a h hlapsed
    exact State.tokenStep_of_lapsed h hlapsed
  case running =>
    intro s c a h hruns
    exact State.tokenStep_of_running h hruns
  case observe =>
    intro s m v ha
    exact State.submit_of_accepts ha
  case invasive =>
    intro s m v ha
    exact State.submit_of_accepts ha
  case transition =>
    intro s m v ha
    exact State.submit_of_accepts ha
  case revoke =>
    intro s m v ha
    exact State.submit_of_accepts ha
  case expiry =>
    intro s c a h
    exact exec_challengeExpiry h

end Sys2Proof.Machine
end

section
/-! PROOFS. Every step keeps the canonical form of the dictionary's two tables and of the memory of HBM0 to HBM2 (R349 to R351, R367, R369,
R379), the commands that wait and, but for a tick, the elapsed time. One lemma per operation of the model, named after it and in the
shape of its body: from a state that has kept all this, the operation answers one that has. -/

-- one thread: a thousand theorems elaborated at once would reserve more stacks than the memory limit allows
set_option Elab.async false

namespace Sys2Proof.Machine

/-! ### What is kept -/

/-- From s₀ to s the tables and the memory kept their canonical form. -/
structure KeptForm (s₀ s : State) : Prop where
  objs : s₀.objsWf → s.objsWf
  doms : s₀.domsWf → s.domsWf
  cells : Table.wf zeroN s₀.hbm.cells = true → Table.wf zeroN s.hbm.cells = true

/-- From s₀ to s the canonical form was kept, no command was queued and no time passed. -/
structure Kept (s₀ s : State) : Prop extends KeptForm s₀ s where
  pending : s.pending = s₀.pending
  now : s.time.now = s₀.time.now

/-- An outcome is a next state that has kept the form. -/
def Ends (s₀ : State) (o : Out) : Prop := ∃ t, o = .next t ∧ Kept s₀ t

variable {s₀ s t : State}

theorem Kept.refl (s : State) : Kept s s := ⟨⟨id, id, id⟩, rfl, rfl⟩

theorem Ends.next (h : Kept s₀ s) : Ends s₀ (.next s) := ⟨s, rfl, h⟩

/-! ### Branches, pairs and loops -/

theorem Kept.ite {c : Prop} [Decidable c] (h : Kept s₀ s) (g : Kept s₀ t) : Kept s₀ (if c then s else t) := by
  split <;> assumption

theorem Kept.iteSnd {α : Type} {c : Prop} [Decidable c] {a b : α × State} (h : Kept s₀ a.2) (g : Kept s₀ b.2) :
    Kept s₀ (if c then a else b).2 := by
  split <;> assumption

theorem Kept.iteSnd₂ {α β : Type} {c : Prop} [Decidable c] {a b : α × β × State} (h : Kept s₀ a.2.2) (g : Kept s₀ b.2.2) :
    Kept s₀ (if c then a else b).2.2 := by
  split <;> assumption

/-- The state of a pair that an operation answered. -/
theorem Kept.of_eq {α : Type} {a : α} {r : α × State} (h : Kept s₀ r.2) (e : r = (a, t)) : Kept s₀ t := by
  rwa [e] at h

theorem Kept.of_eq₂ {α β : Type} {a : α} {b : β} {r : α × β × State} (h : Kept s₀ r.2.2) (e : r = (a, b, t)) : Kept s₀ t := by
  rwa [e] at h

/-- What is known of a state that several branches use. -/
theorem Kept.share {p : Prop} (h : Kept s₀ s) (f : Kept s₀ s → p) : p := f h

theorem Kept.forEach {α : Type} {f : State → α → State} {l : List α} (h : Kept s₀ s)
    (hf : ∀ s a, Kept s₀ s → Kept s₀ (f s a)) : Kept s₀ (Machine.forEach l s f) := by
  unfold Machine.forEach
  induction l generalizing s with
  | nil => exact h
  | cons a l ih => exact ih (hf s a h)

theorem Kept.foldlSnd {α β : Type} {f : α × State → β → α × State} {l : List β} {r : α × State} (h : Kept s₀ r.2)
    (hf : ∀ r b, Kept s₀ r.2 → Kept s₀ (f r b).2) : Kept s₀ (l.foldl f r).2 := by
  induction l generalizing r with
  | nil => exact h
  | cons b l ih => exact ih (hf r b h)

theorem Kept.foldlFst {α β : Type} {f : State × α → β → State × α} {l : List β} {r : State × α} (h : Kept s₀ r.1)
    (hf : ∀ r b, Kept s₀ r.1 → Kept s₀ (f r b).1) : Kept s₀ (l.foldl f r).1 := by
  induction l generalizing r with
  | nil => exact h
  | cons b l ih => exact ih (hf r b h)

/-! ### Updates of one part -/

theorem Kept.set {k v : Nat} (h : Kept s₀ s) : Kept s₀ (s.set k v) :=
  { h with objs := fun w => State.objsWf_set (h.objs w) k v }

theorem Kept.setDom {d e v : Nat} (h : Kept s₀ s) : Kept s₀ (s.setDom d e v) :=
  { h with doms := fun w => State.domsWf_setDom (h.doms w) d e v }

theorem Kept.defaultObjs {p : Nat → Bool} (h : Kept s₀ s) : Kept s₀ (s.defaultObjs p) :=
  { h with objs := fun w => State.objsWf_defaultObjs (h.objs w) p }

theorem Kept.defaultDoms {p : Nat → Bool} (h : Kept s₀ s) : Kept s₀ (s.defaultDoms p) :=
  { h with doms := fun w => State.domsWf_defaultDoms (h.doms w) p }

theorem Kept.emit {e : Emission} (h : Kept s₀ s) : Kept s₀ (s.emit e) :=
  ⟨⟨fun w => State.objsWf_of_objs (h.objs w) (State.emit_objs s e), fun w => State.domsWf_of_doms (h.doms w) (State.emit_doms s e),
    fun w => by rw [State.emit_hbm]; exact h.cells w⟩, by rw [State.emit_pending, h.pending], by rw [State.emit_time, h.now]⟩

theorem Kept.withObjs {x : Table Nat} (h : Kept s₀ s)
    (hx : s.objsWf → Table.wf objDefault x = true := by exact Table.keep_wf) : Kept s₀ (s.withObjs x) :=
  { h with objs := fun w => hx (h.objs w) }

theorem Kept.withDoms {x : Table Nat} (h : Kept s₀ s)
    (hx : s.domsWf → Table.wf domDefault x = true := by exact Table.keep_wf) : Kept s₀ (s.withDoms x) :=
  { h with doms := fun w => hx (h.doms w) }

theorem Kept.withTime {x : TimeState} (h : Kept s₀ s) (hx : x.now = s.time.now := by rfl) : Kept s₀ (s.withTime x) :=
  { h with now := hx.trans h.now }

theorem Kept.withHbm {x : HbmState} (h : Kept s₀ s)
    (hx : Table.wf zeroN s.hbm.cells = true → Table.wf zeroN x.cells = true := by exact id) :
    Kept s₀ (s.withHbm x) :=
  { h with cells := fun w => hx (h.cells w) }

theorem Kept.withEv {x : EventState} (h : Kept s₀ s) : Kept s₀ (s.withEv x) := { h with }
theorem Kept.withParse {x : ParseState} (h : Kept s₀ s) : Kept s₀ (s.withParse x) := { h with }
theorem Kept.withTab {x : TableState} (h : Kept s₀ s) : Kept s₀ (s.withTab x) := { h with }
theorem Kept.withNet {x : NetState} (h : Kept s₀ s) : Kept s₀ (s.withNet x) := { h with }
theorem Kept.withSched {x : SchedState} (h : Kept s₀ s) : Kept s₀ (s.withSched x) := { h with }
theorem Kept.withLine {x : LinesState} (h : Kept s₀ s) : Kept s₀ (s.withLine x) := { h with }
theorem Kept.withFab {x : FabricState} (h : Kept s₀ s) : Kept s₀ (s.withFab x) := { h with }
theorem Kept.withDict {x : DictState} (h : Kept s₀ s) : Kept s₀ (s.withDict x) := { h with }
theorem Kept.withHost {x : HostState} (h : Kept s₀ s) : Kept s₀ (s.withHost x) := { h with }
theorem Kept.withMsix {x : MsixState} (h : Kept s₀ s) : Kept s₀ (s.withMsix x) := { h with }
theorem Kept.withCqs {x : Table CqState} (h : Kept s₀ s) : Kept s₀ (s.withCqs x) := { h with }
theorem Kept.withCoica {x : CoicaState} (h : Kept s₀ s) : Kept s₀ (s.withCoica x) := { h with }
theorem Kept.withPair {x : PairState} (h : Kept s₀ s) : Kept s₀ (s.withPair x) := { h with }
theorem Kept.withPw {x : PowerState} (h : Kept s₀ s) : Kept s₀ (s.withPw x) := { h with }
theorem Kept.withSec {x : SecState} (h : Kept s₀ s) : Kept s₀ (s.withSec x) := { h with }
theorem Kept.withFlash {x : FlashState} (h : Kept s₀ s) : Kept s₀ (s.withFlash x) := { h with }
theorem Kept.withBoot {x : BootState} (h : Kept s₀ s) : Kept s₀ (s.withBoot x) := { h with }
theorem Kept.withThermal {x : ThermalState} (h : Kept s₀ s) : Kept s₀ (s.withThermal x) := { h with }

/-! ### Answers of a job's engine, results of an insertion, canonical tables -/

/-- Whatever a job's engine answers has kept the form. -/
def Answers (s₀ : State) (o : Option JobRes) : Prop := ∀ r, o = some r → Kept s₀ r.2.2

theorem Answers.none : Answers s₀ none := fun _ e => nomatch e

theorem Answers.some {st : Status} {ret : Nat} (h : Kept s₀ s) : Answers s₀ (some (st, ret, s)) := by
  rintro _ ⟨⟩
  exact h

theorem Answers.ite {c : Prop} [Decidable c] {a b : Option JobRes} (ha : Answers s₀ a) (hb : Answers s₀ b) :
    Answers s₀ (if c then a else b) := by
  split <;> assumption

theorem Ends.ite {c : Prop} [Decidable c] {a b : Out} (ha : Ends s₀ a) (hb : Ends s₀ b) : Ends s₀ (if c then a else b) := by
  split <;> assumption

theorem Kept.iteSt {c : Prop} [Decidable c] {a b : InsertEnd} (h : Kept s₀ a.st) (g : Kept s₀ b.st) :
    Kept s₀ (if c then a else b).st := by
  split <;> assumption

theorem Kept.snd {α : Type} {a : α} (h : Kept s₀ s) : Kept s₀ (a, s).2 := h

theorem Kept.foldl {α : Type} {f : State → α → State} {l : List α} (h : Kept s₀ s)
    (hf : ∀ s a, Kept s₀ s → Kept s₀ (f s a)) : Kept s₀ (l.foldl f s) := h.forEach hf

theorem Table.wfFrom_iff {α : Type} [DecidableEq α] {d : Nat → α} {t : Table α} {lo : Option Nat} :
    Table.wfFrom d lo t = true ↔
      (∀ l, lo = some l → ∀ e ∈ t, l < e.1) ∧ t.Pairwise (fun a b => a.1 < b.1) ∧ ∀ e ∈ t, e.2 ≠ d e.1 := by
  induction t generalizing lo with
  | nil => simp [Table.wfFrom]
  | cons e t ih =>
    cases lo with
    | none =>
      simp only [Table.wfFrom, Bool.and_eq_true, decide_eq_true_eq, ih, List.mem_cons, forall_eq_or_imp, List.pairwise_cons,
        Option.some.injEq, forall_eq', true_and]
      tauto
    | some lo =>
      simp only [Table.wfFrom, Bool.and_eq_true, decide_eq_true_eq, ih, List.mem_cons, forall_eq_or_imp, List.pairwise_cons,
        Option.some.injEq, forall_eq']
      constructor
      · rintro ⟨⟨h₁, h₂⟩, h₃, h₄, h₅⟩
        exact ⟨⟨h₁, fun a ha => h₁.trans (h₃ a ha)⟩, ⟨h₃, h₄⟩, h₂, h₅⟩
      · rintro ⟨⟨h₁, -⟩, ⟨h₃, h₄⟩, h₂, h₅⟩
        exact ⟨⟨h₁, h₂⟩, h₃, h₄, h₅⟩

/-- A table is canonical where its keys rise and no entry equals its default. -/
theorem Table.wf_iff {α : Type} [DecidableEq α] {d : Nat → α} {t : Table α} :
    Table.wf d t = true ↔ t.Pairwise (fun a b => a.1 < b.1) ∧ ∀ e ∈ t, e.2 ≠ d e.1 := by
  simp [Table.wf, Table.wfFrom_iff]

/-- Every entry of one DOMAIN object replaced by a full list of entries that differ from the default. -/
theorem domsWf_relisted {l : Table Nat} {d n v : Nat} (h : Table.wf domDefault l = true) (hn : n ≤ 2 ^ 32)
    (hv : ∀ e < n, v ≠ domDefault (domKey d e)) :
    Table.wf domDefault ((l.filter fun e => Nat.blt (domOf e.1) d) ++ ((List.range n).map fun e => (domKey d e, v)) ++
      l.filter fun e => Nat.blt d (domOf e.1)) = true := by
  rw [Table.wf_iff] at h ⊢
  obtain ⟨hs, hd⟩ := h
  have hzeros : ((List.range n).map fun e => (domKey d e, v)).Pairwise fun a b => a.1 < b.1 :=
    List.pairwise_map.2 (List.pairwise_lt_range.imp fun h => by simpa [domKey] using h)
  simp only [List.pairwise_append, List.mem_append, List.mem_filter, List.mem_map, List.mem_range, Nat.blt_eq, domOf, domKey] at *
  refine ⟨⟨⟨hs.filter _, hzeros, ?_⟩, hs.filter _, ?_⟩, ?_⟩
  · rintro a ⟨-, ha⟩ _ ⟨e, he, rfl⟩
    dsimp only
    omega
  · rintro a (⟨-, ha⟩ | ⟨e, he, rfl⟩) b ⟨-, hb⟩
    · omega
    · dsimp only
      omega
  · rintro a ((⟨ha, -⟩ | ⟨e, he, rfl⟩) | ⟨ha, -⟩)
    · exact hd a ha
    · exact hv e he
    · exact hd a ha

/-! ### The operations of the model, in the order of its text -/

theorem Kept.setField {d e : Nat} {f : Field} {v : Nat} (h : Kept s₀ s) : Kept s₀ (s.setField d e f v) :=
  h.setDom

theorem Kept.bump {k n : Nat} (h : Kept s₀ s) : Kept s₀ (s.bump k n) :=
  h.set

theorem Kept.bumpW {w k n : Nat} (h : Kept s₀ s) : Kept s₀ (s.bumpW w k n) :=
  h.set

theorem Kept.bumpField {d e : Nat} {f : Field} {n : Nat} (h : Kept s₀ s) : Kept s₀ (s.bumpField d e f n) :=
  h.setField

theorem Kept.fresh (h : Kept s₀ s) : Kept s₀ s.fresh.2 := { h with }

theorem Kept.freshBytes {n : Nat} (h : Kept s₀ s) : Kept s₀ (State.freshBytes n s).2 := by
  induction n generalizing s with
  | zero => exact h
  | succ n ih => exact ih h.fresh

theorem Kept.andThen {r : Res} {f : State → Res} (h : Kept s₀ r.2) (hf : ∀ s, Kept s₀ s → Kept s₀ (f s).2) :
    Kept s₀ (r.andThen f).2 := by
  unfold Res.andThen
  split
  · exact hf _ h
  · exact h

theorem Kept.inCore {f : State → State} (h : Kept s₀ s) (hf : ∀ s, Kept s₀ s → Kept s₀ (f s)) : Ends s₀ (s.inCore f) :=
  .next (.ite h (hf s h))

theorem Kept.signal {fn vec : Nat} (h : Kept s₀ s) : Kept s₀ (s.signal fn vec) :=
  .ite h.withMsix h.emit

theorem Kept.setCq {n : Nat} {c : CqState} (h : Kept s₀ s) : Kept s₀ (s.setCq n c) :=
  h.withCqs

theorem Kept.cqSignal {cq : Nat} (h : Kept s₀ s) : Kept s₀ (s.cqSignal cq) := by
  unfold State.cqSignal
  dsimp only
  split
  · exact h
  · exact .ite h.setCq.signal h

theorem Kept.cqShow {cq : Nat} (h : Kept s₀ s) : Kept s₀ (s.cqShow cq) :=
  .ite h h.set

theorem Kept.cqWrite {cq : Nat} {e : CqEntry} (h : Kept s₀ s) : Kept s₀ (s.cqWrite cq e) :=
  h.emit.set.bump.cqShow.setCq.cqSignal

theorem Kept.sendMate {type flags cycle seq : Nat} {payload : List Byte} (h : Kept s₀ s) : Kept s₀ (s.sendMate type flags cycle seq
    payload) :=
  .ite h.withPair h

theorem Kept.bumpSent {key n : Nat} (h : Kept s₀ s) : Kept s₀ (s.bumpSent key n) :=
  .ite h.bump h

theorem Kept.alarm {y : Nat} (h : Kept s₀ s) : Kept s₀ (s.alarm y) :=
  .ite h (.ite h.set (.share h.set.withEv.emit fun h₂ => .ite h₂ h₂.signal))

theorem Kept.countEvent {e : Ev} (h : Kept s₀ s) : Kept s₀ (s.countEvent e).2 :=
  .iteSnd h.bump.bump (.iteSnd h.bump h.bump.withEv)

theorem Kept.giveUp (h : Kept s₀ s) : Kept s₀ s.giveUp.2 :=
  .share h.withEv.set fun h₁ => .iteSnd h₁.set.withPair.sendMate.bumpSent.set.set h₁.withPair

theorem Kept.stashPush {cq : Nat} {e : CqEntry} (h : Kept s₀ s) : Kept s₀ (s.stashPush cq e) :=
  h.setCq.set.cqShow

theorem Kept.stashFull {cq : Nat} (h : Kept s₀ s) : Kept s₀ (s.stashFull cq) :=
  h.setCq.bump

theorem Kept.eventRing {e : Ev} {num : Nat} (h : Kept s₀ s) : Kept s₀ (s.eventRing e num).2 :=
  .iteSnd h (.iteSnd h.cqWrite (.iteSnd (.iteSnd h.stashPush.stashFull h.stashPush) h.bump))

theorem Kept.emergency {r : EventRec} (h : Kept s₀ s) : Kept s₀ (s.emergency r).2 :=
  .iteSnd h (.iteSnd h.withCoica h.bump)

theorem Kept.raise1 {e : Ev} (h : Kept s₀ s) : Kept s₀ (s.raise1 e).2 :=
  .share h.countEvent fun h₁ => .share (.ite h₁.set h₁) fun h₂ => .share (.ite h₂.withEv h₂) fun h₃ => .iteSnd h₃.giveUp h₃

theorem Kept.raiseList {l : List Ev} (h : Kept s₀ s) : Kept s₀ (State.raiseList l s) :=
  h.forEach fun _ _ h₁ => h₁.raise1

theorem Kept.raise {code unit arg scope : Nat} (h : Kept s₀ s) : Kept s₀ (s.raise code unit arg scope) :=
  h.raise1.raiseList

theorem Kept.logRecord {d : EventRec} (h : Kept s₀ s) : Kept s₀ (s.logRecord d).2 :=
  (Kept.ite h.withEv.bump h.withEv).bumpW.set.eventRing.emergency.alarm

theorem Kept.logNext (h : Kept s₀ s) : Kept s₀ s.logNext := by
  unfold State.logNext
  split
  · exact h
  · exact h.withEv.logRecord.raiseList

theorem Kept.logCycle (h : Kept s₀ s) : Kept s₀ s.logCycle :=
  h.forEach fun _ _ h₁ => h₁.logNext

theorem Kept.answer {master key : Nat} {st : Status} {value : Nat} (h : Kept s₀ s) : Kept s₀ (s.answer master key st value) :=
  h.emit

theorem Kept.journal {r : JRec} (h : Kept s₀ s) : Kept s₀ (s.journal r) :=
  .ite h.withPair h

theorem Kept.commit {key v : Nat} (h : Kept s₀ s) : Kept s₀ (s.commit key v) :=
  .ite h.set.journal h.set

theorem Kept.plain {key v : Nat} (h : Kept s₀ s) : Kept s₀ (s.plain key v).2 :=
  h.commit

theorem Kept.commitDom {d e image : Nat} (h : Kept s₀ s) : Kept s₀ (s.commitDom d e image) :=
  .ite h.setDom.journal h.setDom

theorem Kept.serve {key master : Nat} (h : Kept s₀ s) : Kept s₀ (s.serve key master) :=
  .ite h h.withDict

theorem Kept.inOrder {master key : Nat} {rule : State → Res} (h : Kept s₀ s) (hr : ∀ s, Kept s₀ s → Kept s₀ (rule s).2) :
    Kept s₀ (s.inOrder master key rule).2 :=
  .iteSnd h (hr s h)

theorem Kept.moveTurns (h : Kept s₀ s) : Kept s₀ s.moveTurns :=
  h.withDict

theorem Kept.writeWith {path : Path} {master key v : Nat} {rule : State → Res} (h : Kept s₀ s)
    (hr : ∀ s, Kept s₀ s → Kept s₀ (rule s).2) : Kept s₀ (s.writeWith path master key v rule).2 := by
  unfold State.writeWith
  split
  · exact h.inOrder hr
  · exact h

theorem Kept.noteRefused {master key : Nat} {st : Status} (h : Kept s₀ s) : Kept s₀ (s.noteRefused master key st) :=
  .ite h h.set.set.bump

theorem Kept.holdFuse {via : SlowVia} (h : Kept s₀ s) : Kept s₀ (s.holdFuse via).2 := by
  unfold State.holdFuse
  split
  · exact .iteSnd h.withSec h
  · exact h

theorem Kept.finish {path : Path} {master key : Nat} {r : Res} (h : Kept s₀ r.2) : Kept s₀ (State.finish path master key r) :=
  .share (.ite h.serve h) fun h₁ => .share (Kept.ite h₁.noteRefused h₁).holdFuse fun h₃ => .ite h₃ (.ite h₃ h₃.answer)

theorem Kept.hold {x : HeldAccess} (h : Kept s₀ s) : Kept s₀ (s.hold x) :=
  h.withDict

theorem Kept.rowRead {master key : Nat} {rule : State → Status × Nat × State} (h : Kept s₀ s)
    (hr : ∀ s, Kept s₀ s → Kept s₀ (rule s).2.2) : Ends s₀ (s.rowRead master key rule) := by
  refine .next (.ite h (.ite h.hold ?_))
  split
  · exact .share (.iteSnd₂ h (hr s h)) fun h₁ => (Kept.ite h₁.noteRefused h₁).answer
  · exact (Kept.ite h.noteRefused h).answer

theorem Kept.rowWrite {master key v : Nat} {rule : State → Res} (h : Kept s₀ s)
    (hr : ∀ s, Kept s₀ s → Kept s₀ (rule s).2) : Ends s₀ (s.rowWrite master key v rule) :=
  .next (.ite h (.ite h.hold (h.writeWith hr).finish))

theorem Kept.notePending {master : Nat} (h : Kept s₀ s) : Kept s₀ (s.notePending master) :=
  h.set

theorem Kept.slowStart {w : SlowWrite} (h : Kept s₀ s) : Kept s₀ (s.slowStart w) :=
  .share h.withDict.serve fun h₁ => .ite h₁.notePending h₁

theorem Kept.rowSlow {master key v : Nat} {rule : State → Res} (h : Kept s₀ s)
    (hr : ∀ s, Kept s₀ s → Kept s₀ (rule s).2) : Ends s₀ (s.rowSlow master key v rule) := by
  refine .next (.ite h (.ite h.hold (.ite h.finish ?_)))
  split
  · rename_i heq
    have h₁ := (h.writeWith hr).of_eq heq
    exact .ite h₁.slowStart.answer h₁.slowStart
  · exact (h.writeWith hr).finish

theorem Kept.damage {k : Nat} (h : Kept s₀ s) : Kept s₀ (s.damage k) :=
  .ite h h.withParse

theorem Kept.repair {k : Nat} (h : Kept s₀ s) : Kept s₀ (s.repair k) :=
  h.withParse

theorem Kept.updateRecord {d e fresh : Nat} {f : Nat → Nat} (h : Kept s₀ s) : Kept s₀ (s.updateRecord d e fresh f) := by
  unfold State.updateRecord
  split
  · exact .ite h (.ite h.bump.raise.setDom.repair h.setDom)
  · exact h

theorem Kept.countRecord {d e : Nat} {f : Field} {n : Nat} (h : Kept s₀ s) : Kept s₀ (s.countRecord d e f n) :=
  h.updateRecord

theorem Kept.writeRecord {d e image : Nat} (h : Kept s₀ s) : Kept s₀ (s.writeRecord d e image) := by
  unfold State.writeRecord
  split
  · exact .ite h h.setDom.repair
  · exact h

theorem Kept.setPart {c i : Nat} {p : PowerPart} (h : Kept s₀ s) : Kept s₀ (s.setPart c i p) :=
  h.withPw

theorem Kept.movePart {c i : Nat} {p : PowerPart} (h : Kept s₀ s) : Kept s₀ (s.movePart c i p) :=
  .ite h.setPart h.setPart.bump

theorem Kept.showPower {c : Nat} (h : Kept s₀ s) : Kept s₀ (s.showPower c) :=
  h.set.set

theorem Kept.wakeOne {c i : Nat} {lowered : Bool} (h : Kept s₀ s) : Kept s₀ (s.wakeOne c i lowered) :=
  .ite h (.ite h.setPart.bump.raise h.setPart)

theorem Kept.wakePart {c i : Nat} {lowered : Bool} (h : Kept s₀ s) : Kept s₀ (s.wakePart c i lowered) :=
  .ite h.wakeOne.wakeOne h.wakeOne

theorem Kept.workFor {c i : Nat} (h : Kept s₀ s) : Kept s₀ (s.workFor c i) :=
  h.setPart.wakePart

theorem Kept.assertWake (h : Kept s₀ s) : Kept s₀ s.assertWake := by
  unfold State.assertWake
  dsimp only
  split
  · exact h.withPw
  · exact h.withPw.emit.raise

theorem Kept.workForTurn {n : Nat} (h : Kept s₀ s) : Kept s₀ (s.workForTurn n) := by
  unfold State.workForTurn
  split
  · exact h
  · exact h.workFor

theorem Kept.arriveJobs (h : Kept s₀ s) : Kept s₀ s.arriveJobs :=
  h.withHost.withTab

theorem Kept.setEmt {t : Nat} {e : EmState} (h : Kept s₀ s) : Kept s₀ (s.setEmt t e) :=
  h.withTab

theorem Kept.pauseTable {cq t : Nat} (h : Kept s₀ s) : Kept s₀ (s.pauseTable cq t) :=
  h.setEmt.set.raise

theorem Kept.stashAdd {cq : Nat} {e : CqEntry} (h : Kept s₀ s) : Kept s₀ (s.stashAdd cq e) :=
  .ite (h.stashPush.stashFull.raise.forEach (fun _ _ h₁ => h₁.pauseTable)) h.stashPush

theorem Kept.unpause {cq : Nat} (h : Kept s₀ s) : Kept s₀ (s.unpause cq) :=
  h.forEach fun _ _ h₁ => .ite h₁.setEmt.set.raise h₁

theorem Kept.stashGone {cq : Nat} (h : Kept s₀ s) : Kept s₀ (s.stashGone cq) :=
  (h.forEach (fun _ _ h₁ => h₁.setEmt)).unpause

theorem Kept.refill {cq : Nat} (h : Kept s₀ s) : Kept s₀ (s.refill cq) := by
  unfold State.refill
  refine h.forEach fun _ _ h₁ => ?_
  split
  · exact .ite h₁.setEmt.stashAdd h₁
  · exact h₁

theorem Kept.cqError {cq : Nat} (h : Kept s₀ s) : Kept s₀ (s.cqError cq) :=
  h.emit.set.raise

theorem Kept.stopSqs {cq : Nat} (h : Kept s₀ s) : Kept s₀ (s.stopSqs cq) :=
  h.forEach fun _ _ h₁ => .ite h₁.set h₁

theorem Kept.deliver {j : Job} {st ret : Nat} (h : Kept s₀ s) : Kept s₀ (s.deliver j st ret).2 := by
  unfold State.deliver
  extract_lets cq c e writes s₁
  have h₁ : Kept s₀ s₁ := .ite h.cqError h
  clear_value s₁
  exact .iteSnd h (.iteSnd (.snd h.cqWrite) (.iteSnd (.snd h₁.stashAdd.stopSqs) h))

theorem Kept.countJobs (h : Kept s₀ s) : Kept s₀ s.countJobs :=
  h.arriveJobs.set

theorem Kept.flushJobs {fuel : Nat} {full : List Nat} (h : Kept s₀ s) : Kept s₀ (State.flushJobs fuel full s) := by
  induction fuel generalizing full s with
  | zero => exact h
  | succ fuel ih =>
    unfold State.flushJobs
    split
    · exact h
    · exact .ite (ih h.deliver.withHost.bump) (ih h)

theorem Kept.tellDisabled {d : Disabling} (h : Kept s₀ s) : Kept s₀ (s.tellDisabled d) := by
  unfold State.tellDisabled
  split
  · exact h
  · exact h.withHost.flushJobs.countJobs
  · exact h.withCoica
  · exact h.answer

theorem Kept.settleDisable (h : Kept s₀ s) : Kept s₀ s.settleDisable :=
  h.forEach (fun _ _ h₁ => h₁.forEach (fun _ _ h₂ => .ite h₂ h₂.withHost.set.tellDisabled))

theorem Kept.complete {sq index : Nat} {st : Status} {ret : Nat} {fails : Bool} (h : Kept s₀ s) : Kept s₀ (s.complete sq index st ret
    fails) :=
  h.withHost.countJobs

theorem Kept.drainOne {cq : Nat} (h : Kept s₀ s) : Kept s₀ (s.drainOne cq) := by
  unfold State.drainOne
  dsimp only
  split
  · exact h
  · exact .ite h h.setCq.cqWrite.set

theorem Kept.drainEnd {cq : Nat} (h : Kept s₀ s) : Kept s₀ (s.drainEnd cq) :=
  .share (.ite h.unpause h) fun h₁ => .ite (.share (h₁.cqShow.forEach (fun _ _ h₃ => .ite h₃.set h₃)) fun h₃ => .ite h₃.setCq.raise h₃) h₁

theorem Kept.drainDue {cq : Nat} (h : Kept s₀ s) : Kept s₀ (s.drainDue cq) :=
  h.setCq

theorem Kept.writeCompletions (h : Kept s₀ s) : Kept s₀ s.writeCompletions :=
  .ite h ((((h.forEach (fun _ _ h₁ => h₁.setCq.drainOne.refill)).flushJobs.forEach (fun _ _ h₃ => h₃.drainEnd)).countJobs).settleDisable)

theorem Kept.txReport {p : Pkt} {stamp : Option Nat} (h : Kept s₀ s) : Kept s₀ (s.txReport p stamp) := by
  have h₁ : Kept s₀ (match p.direct with | some (sq, i) => s.complete sq i .ok 1 | none => s) := by
    split
    · exact h.complete
    · exact h
  unfold State.txReport
  dsimp only
  split
  · exact h₁.withHost
  · exact h₁

theorem Kept.parityFound {bank : Nat} (h : Kept s₀ s) : Kept s₀ (s.parityFound bank) :=
  h.bump.set

theorem Kept.parseFrame {sector port : Nat} {frame : List Byte} (h : Kept s₀ s) : Kept s₀ (s.parseFrame sector port frame).2 := by
  unfold State.parseFrame
  refine .share ?_ fun h₂ => (.ite h₂.raise h₂)
  split
  · exact (Kept.ite h.bump (.ite h.bump h.bump)).raise
  · exact (.ite h.bump (.ite h.bump h.bump))

theorem Kept.classParity {d e bank : Nat} (h : Kept s₀ s) : Kept s₀ (s.classParity d e bank) :=
  h.parityFound.raise

theorem Kept.classify {sector set key absent : Nat} {ports : Option (Nat × Nat)} (h : Kept s₀ s) : Kept s₀ (s.classify sector set key
    absent ports).2 := by
  unfold State.classify
  refine (h.foldlSnd (fun _ _ h₁ => ?_))
  dsimp only
  split
  · exact h₁.bump.classParity
  · exact h₁.bump.raise
  · refine h₁.foldlSnd (fun _ _ h₂ => .iteSnd h₂.classParity (.iteSnd ?_ h₂))
    split
    · exact h₂
    · exact .iteSnd h₂ h₂

theorem Kept.classifyPacket {sector port : Nat} {p : Parsed} (h : Kept s₀ s) : Kept s₀ (s.classifyPacket sector port p).2 := by
  unfold State.classifyPacket
  refine .iteSnd h (.iteSnd h.bump.raise ?_)
  split
  split
  · rename_i _ heq
    have h₁ := h.classify.of_eq heq
    exact h₁
  · rename_i _ heq
    have h₁ := h.classify.of_eq heq
    exact h₁.bump

theorem Kept.ruleActiveBank {v : Nat} (h : Kept s₀ s) : Kept s₀ (ruleActiveBank v s).2 :=
  .iteSnd h h.commit.bumpW

theorem Kept.execActiveBank {master value : Nat} (h : Kept s₀ s) : Ends s₀ (execActiveBank master value s) :=
  h.rowWrite fun _ h₁ => h₁.ruleActiveBank

theorem Kept.loadDom {d e image : Nat} (h : Kept s₀ s) : Kept s₀ (s.loadDom d e image) :=
  .ite h.repair h.repair.commitDom

theorem Kept.ruleRestoreDefault {v : Nat} (h : Kept s₀ s) : Kept s₀ (Machine.ruleRestoreDefault v s).2 := by
  unfold Machine.ruleRestoreDefault
  extract_lets s₁
  have h₁ : Kept s₀ s₁ := h.foldl fun _ _ h₁ => h₁.loadDom
  exact .iteSnd h (.snd (h₁.foldl fun _ _ h₂ => h₂.loadDom))

theorem Kept.execRestoreDefault {master value : Nat} (h : Kept s₀ s) : Ends s₀ (execRestoreDefault master value s) := by
  unfold Machine.execRestoreDefault
  exact h.rowWrite fun _ h₁ => h₁.ruleRestoreDefault

theorem Kept.ruleKeyProfile {n : Nat} {high : Bool} {v : Nat} (h : Kept s₀ s) : Kept s₀ (ruleKeyProfile n high v s).2 :=
  .iteSnd h h.commit.set.repair

theorem Kept.execKeyProfileSlots {profile : Fin 64} {high : Bool} {master value : Nat} (h : Kept s₀ s) : Ends s₀ (execKeyProfileSlots
    profile high master value s) :=
  h.rowWrite fun _ h₁ => h₁.ruleKeyProfile

theorem Kept.ruleCommit {set : Nat} (h : Kept s₀ s) : Kept s₀ (ruleCommit set s).2 :=
  h.withParse.bumpW.journal

theorem Kept.execCommit {set : Fin 16} {master value : Nat} (h : Kept s₀ s) : Ends s₀ (execCommit set master value s) :=
  h.rowWrite fun _ h₁ => h₁.ruleCommit

theorem Kept.emPut {t i : Nat} {e : Option EmEntry} (h : Kept s₀ s) : Kept s₀ (s.emPut t i e) :=
  h.withTab.set.set.set

theorem Kept.learnEvent {t kind i : Nat} {keyBad : Bool} {key result data : Nat} (h : Kept s₀ s) : Kept s₀ (s.learnEvent t kind i keyBad
    key result data) :=
  .ite h (.ite h.cqWrite (.ite h.stashAdd (.ite h.setEmt h.bump)))

theorem Kept.emMove {t : Nat} {path : List Nat} {free : Nat} (h : Kept s₀ s) : Kept s₀ (s.emMove t path free) :=
  h.foldlFst fun _ _ h₁ => h₁.emPut.emPut.bump

theorem Kept.emCreate {t i key result : Nat} {f : EmFlags} (h : Kept s₀ s) : Kept s₀ (s.emCreate t i key result f) :=
  h.emPut.journal

theorem Kept.emInsert {t key result : Nat} {f : EmFlags} (h : Kept s₀ s) : Kept s₀ (s.emInsert t key result f).st := by
  unfold State.emInsert
  split
  · exact h.emPut.journal
  · refine .iteSt h ?_
    dsimp only
    split
    · exact h.emCreate
    · split
      · exact h.setEmt.bump.emMove.emCreate
      · refine .iteSt h.setEmt.bump.bump.raise ?_
        split
        · exact h.setEmt.bump.bump.raise
        · refine .iteSt h (Kept.emCreate ?_)
          split
          · exact h.setEmt.bump.setEmt.bump.journal.learnEvent
          · exact h.setEmt.bump.setEmt

theorem Kept.emDelete {t key : Nat} (h : Kept s₀ s) : Kept s₀ (s.emDelete t key).2 := by
  unfold State.emDelete
  split
  · exact h.emPut.journal
  · exact h

theorem Kept.emParity {t i key result : Nat} {keyBad : Bool} (h : Kept s₀ s) : Kept s₀ (s.emParity t i key result keyBad) := by
  unfold State.emParity
  dsimp only
  split
  · exact h.parityFound.raise.emPut.bump.journal.learnEvent
  · exact h.parityFound.raise

theorem Kept.countArrival (h : Kept s₀ s) : Kept s₀ s.countArrival :=
  h.withTab

theorem Kept.learnRequest {t key loc : Nat} (h : Kept s₀ s) : Kept s₀ (s.learnRequest t key loc) :=
  .ite h (.ite h.bump h.setEmt.countArrival)

theorem Kept.emSearch {t key : Nat} (h : Kept s₀ s) : Kept s₀ (s.emSearch t key).2 := by
  unfold State.emSearch
  refine .iteSnd ?_ h
  split
  · exact .ite h.emPut h
  · exact h

theorem Kept.learnOne {t key loc : Nat} (h : Kept s₀ s) : Kept s₀ (s.learnOne t key loc) := by
  unfold State.learnOne
  refine .ite h.bump ?_
  split
  · exact .ite h.bump (.ite h.emPut (.ite h.bump (.ite (.share h.bump.raise fun h₁ => .ite h₁.setEmt.learnEvent h₁)
      h.emPut.bump.journal.learnEvent)))
  · exact .ite h.bump (.ite h.emInsert.bump.learnEvent h.emInsert)

theorem Kept.execLearn {table : EmTable} (h : Kept s₀ s) : Ends s₀ (execLearn table s) := by
  unfold Machine.execLearn
  refine h.inCore fun _ h₁ => ?_
  split
  · exact h₁
  · exact .ite h₁ h₁.setEmt.learnOne

theorem Kept.execLearnStashDrain {cq : Fin 1024} (h : Kept s₀ s) : Ends s₀ (execLearnStashDrain cq s) :=
  h.inCore fun _ h₁ => .ite h₁ h₁.drainDue

theorem Kept.ruleEmEventCq {t v : Nat} (h : Kept s₀ s) : Kept s₀ (ruleEmEventCq t v s).2 :=
  .iteSnd h (.ite h.commit.pauseTable h.commit)

theorem Kept.stopAger {t : Nat} (h : Kept s₀ s) : Kept s₀ (s.stopAger t) :=
  h.setEmt

theorem Kept.execStampTick {table : EmTable} (h : Kept s₀ s) : Ends s₀ (execStampTick table s) := by
  unfold Machine.execStampTick
  refine h.inCore fun _ h₁ => ?_
  dsimp only
  split
  · exact h₁
  · exact .ite h₁.set.setEmt h₁

theorem Kept.ruleStampUnit {t v : Nat} (h : Kept s₀ s) : Kept s₀ (ruleStampUnit t v s).2 :=
  h.commit.setEmt

theorem Kept.execStampUnit {table : EmTable} {master value : Nat} (h : Kept s₀ s) : Ends s₀ (execStampUnit table master value s) :=
  h.rowWrite fun _ h₁ => h₁.ruleStampUnit

theorem Kept.ruleAgeLimit {t v : Nat} (h : Kept s₀ s) : Kept s₀ (ruleAgeLimit t v s).2 :=
  .ite h.commit.stopAger h.commit

theorem Kept.execAgerRead {table : EmTable} (h : Kept s₀ s) : Ends s₀ (execAgerRead table s) := by
  unfold Machine.execAgerRead
  refine h.inCore (fun _ h₁ => .ite h₁.setEmt (.ite h₁ ?_))
  split
  · exact h₁
  · exact h₁.setEmt.bump

theorem Kept.ageDelete {t : Nat} {d : AgeDelete} (h : Kept s₀ s) : Kept s₀ (s.ageDelete t d) := by
  unfold State.ageDelete
  refine .ite h.setEmt ?_
  split
  · exact .ite h.emPut.bump.journal.learnEvent h
  · exact h

theorem Kept.ageDeletes (h : Kept s₀ s) : Kept s₀ s.ageDeletes :=
  .ite h (h.withTab.forEach (fun _ _ h₁ => h₁.ageDelete))

theorem Kept.execAgerCompareDelete {table : EmTable} (h : Kept s₀ s) : Ends s₀ (execAgerCompareDelete table s) := by
  unfold Machine.execAgerCompareDelete
  refine h.inCore fun _ h₁ => .ite h₁ ?_
  split
  · exact h₁
  · exact h₁.setEmt.withTab

theorem Kept.ruleEmEnable {t v : Nat} (h : Kept s₀ s) : Kept s₀ (ruleEmEnable t v s).2 :=
  .iteSnd h.commit.stopAger (.iteSnd h h.commit.setEmt)

theorem Kept.execEmTableEnable {table : EmTable} {master value : Nat} (h : Kept s₀ s) : Ends s₀ (execEmTableEnable table master value s)
    :=
  h.rowWrite fun _ h₁ => h₁.ruleEmEnable

theorem Kept.emClear {t : Nat} (h : Kept s₀ s) : Kept s₀ (s.emClear t) :=
  h.withTab.set.set.set

theorem Kept.ruleEmSetting {t key v : Nat} (h : Kept s₀ s) : Kept s₀ (ruleEmSetting t key v s).2 :=
  .iteSnd h h.plain

theorem Kept.ruleEmGeometry {t key v : Nat} (h : Kept s₀ s) : Kept s₀ (ruleEmGeometry t key v s).2 :=
  .iteSnd h h.commit.emClear

theorem Kept.execEmTableGeometry {table : EmTable} {field : Fin 5} {master value : Nat} (h : Kept s₀ s) : Ends s₀ (execEmTableGeometry
    table field master value s) :=
  h.rowSlow fun _ h₁ => h₁.ruleEmGeometry

theorem Kept.setRoute {family vrf len pfx : Nat} {r : Option Nat} (h : Kept s₀ s) : Kept s₀ (s.setRoute family vrf len pfx r) :=
  h.withTab

theorem Kept.fullWarn {family : Nat} (h : Kept s₀ s) : Kept s₀ (s.fullWarn family) :=
  .ite h.withTab.raise (.ite h.withTab h)

theorem Kept.routeCount {family vrf add sub : Nat} (h : Kept s₀ s) : Kept s₀ (s.routeCount family vrf add sub) :=
  h.set.commitDom.fullWarn

theorem Kept.routeAdd {family vrf len pfx result : Nat} (h : Kept s₀ s) : Kept s₀ (s.routeAdd family vrf len pfx result).2.2 := by
  unfold State.routeAdd
  refine .iteSnd₂ h ?_
  split
  · exact h.setRoute.bump.journal
  · exact .iteSnd₂ h (.iteSnd₂ h h.setRoute.routeCount.bump.journal)

theorem Kept.routeDelete {family vrf len pfx : Nat} (h : Kept s₀ s) : Kept s₀ (s.routeDelete family vrf len pfx).2.2 := by
  unfold State.routeDelete
  refine .iteSnd₂ h ?_
  split
  · exact h
  · exact h.setRoute.routeCount.bump.journal

theorem Kept.lpmFound {family vrf pfx len bank : Nat} {routes : List (Nat × Nat)} (h : Kept s₀ s) : Kept s₀ (s.lpmFound family vrf pfx
    len bank routes) := by
  unfold State.lpmFound
  refine (h.parityFound.foldlFst (fun _ _ h₁ => ?_)).withTab
  split
  · exact h₁.setRoute.routeCount.journal
  · exact h₁

theorem Kept.execLpmLoss (h : Kept s₀ s) : Ends s₀ (execLpmLoss s) := by
  unfold Machine.execLpmLoss
  refine h.inCore fun _ h₁ => ?_
  split
  · exact h₁
  · exact h₁.withTab.bump.setDom.bumpW.raise

theorem Kept.labelPut {l image : Nat} (h : Kept s₀ s) : Kept s₀ (s.labelPut l image) :=
  h.commitDom.set

theorem Kept.labelParity {l : Nat} (h : Kept s₀ s) : Kept s₀ (s.labelParity l) :=
  h.parityFound.labelPut.raise

theorem Kept.tcamKeep (h : Kept s₀ s) : Kept s₀ s.tcamKeep :=
  .ite h h.withTab

theorem Kept.assocWritten {addr : Nat} (h : Kept s₀ s) : Kept s₀ (s.assocWritten addr) :=
  h.tcamKeep.withTab

theorem Kept.tcamPut {addr : Nat} {e : TcamEntry} (h : Kept s₀ s) : Kept s₀ (s.tcamPut addr e) := by
  unfold State.tcamPut
  dsimp only
  split
  · exact h.tcamKeep.withTab.journal
  · exact h.tcamKeep.withTab

theorem Kept.shadowParity {u agree : Nat} (h : Kept s₀ s) : Kept s₀ (s.shadowParity u agree) :=
  .share h.parityFound fun h₁ => .ite h₁.bump h₁.tcamPut.bump.raise

theorem Kept.assocParity {a : Nat} (h : Kept s₀ s) : Kept s₀ (s.assocParity a) :=
  h.parityFound.raise

theorem Kept.tcamSearch {t key absent : Nat} (h : Kept s₀ s) : Kept s₀ (s.tcamSearch t key absent).2 := by
  unfold State.tcamSearch
  refine .iteSnd ?_ h
  dsimp only
  split
  · exact .iteSnd h.bump.assocParity h.bump.bump
  · exact h.bump

theorem Kept.tcamWrite {t pos image : Nat} (h : Kept s₀ s) : Kept s₀ (s.tcamWrite t pos image).2.2 :=
  .iteSnd₂ h h.assocWritten.tcamPut

theorem Kept.tcamInvalidate {t pos : Nat} (h : Kept s₀ s) : Kept s₀ (s.tcamInvalidate t pos).2.2 :=
  .iteSnd₂ h (.iteSnd₂ h.tcamPut h)

theorem Kept.tcamCopy {src dst : Nat} (h : Kept s₀ s) : Kept s₀ (s.tcamCopy src dst) :=
  .share ((Kept.ite h.assocParity h).assocWritten) fun h₁ => (Kept.ite h₁.withTab h₁).tcamPut.bump

theorem Kept.tcamMove {t src dst count : Nat} (h : Kept s₀ s) : Kept s₀ (s.tcamMove t src dst count).2.2 :=
  .iteSnd₂ h (.iteSnd₂ h ((h.forEach (fun _ _ h₁ => h₁.tcamCopy)).forEach (fun _ _ h₂ => .ite h₂ h₂.tcamPut)))

theorem Kept.execTcamScrub {differ : List (Fin 8)} {shadowBad : Bool} {agree : Nat} (h : Kept s₀ s) : Ends s₀ (execTcamScrub differ
    shadowBad agree s) :=
  h.inCore (fun _ h₁ => (Kept.ite h₁.withTab.shadowParity h₁.withTab).forEach (fun _ _ h₃ => h₃.bump.raise))

theorem Kept.ruleTcamEnable {t v : Nat} (h : Kept s₀ s) : Kept s₀ (ruleTcamEnable t v s).2 :=
  .iteSnd h h.plain

theorem Kept.execTcamTableEnable {table : Fin 4} {master value : Nat} (h : Kept s₀ s) : Ends s₀ (execTcamTableEnable table master value
    s) :=
  h.rowWrite fun _ h₁ => h₁.ruleTcamEnable

theorem Kept.ruleTcamSetting {t key v : Nat} (h : Kept s₀ s) : Kept s₀ (ruleTcamSetting t key v s).2 :=
  .iteSnd h h.plain

theorem Kept.ruleTcamWidth {b v : Nat} (h : Kept s₀ s) : Kept s₀ (ruleTcamWidth b v s).2 :=
  .iteSnd h h.commit.withTab

theorem Kept.execTcamBankWidth {bank : Fin 16} {master value : Nat} (h : Kept s₀ s) : Ends s₀ (execTcamBankWidth bank master value s) :=
  h.rowWrite fun _ h₁ => h₁.ruleTcamWidth

theorem Kept.upset {scrub : Bool} {u : Upset} (h : Kept s₀ s) : Kept s₀ (s.upset scrub u) := by
  unfold State.upset
  split
  · exact h.emParity
  · exact h.lpmFound
  · exact h.labelParity
  · exact .ite (.ite h h.damage.parityFound.raise) (.ite h.damage.classParity (.ite h.damage.classParity h.damage))
  · exact h.damage
  · exact .ite h.withTab.assocParity h.withTab
  · exact h.shadowParity

theorem Kept.scrubBegin (h : Kept s₀ s) : Kept s₀ s.scrubBegin :=
  .ite h h.withTab

theorem Kept.scrubNext (h : Kept s₀ s) : Kept s₀ s.scrubNext :=
  h.withTab

theorem Kept.execScrubRow {upsets : List Upset} (h : Kept s₀ s) : Ends s₀ (execScrubRow upsets s) :=
  h.inCore (fun _ h₁ => .ite h₁ (h₁.scrubNext.forEach (fun _ _ h₂ => h₂.upset)))

theorem Kept.resEntry {d e : Nat} (h : Kept s₀ s) : Kept s₀ (s.resEntry d e).2 :=
  .iteSnd h.bump h

theorem Kept.dropPacket {p : Pkt} (h : Kept s₀ s) : Kept s₀ (s.dropPacket p) :=
  h.txReport

theorem Kept.editError {sector : Nat} (h : Kept s₀ s) : Kept s₀ (s.editError sector) :=
  h.bump.raise

theorem Kept.lagMember {loc hash : Nat} (h : Kept s₀ s) : Kept s₀ (s.lagMember loc hash).2 := by
  unfold State.lagMember
  refine .iteSnd ?_ h
  dsimp only
  split
  · rename_i heq
    exact h.resEntry.of_eq heq
  · rename_i heq
    have h₁ := h.resEntry.of_eq heq
    split
    · exact h₁.bump
    · split
      · rename_i heq
        exact h₁.resEntry.of_eq heq
      · rename_i heq
        exact h₁.resEntry.of_eq heq

theorem Kept.selectorAt {unit : Nat} {p : Pkt} {port : Nat} (h : Kept s₀ s) : Kept s₀ (s.selectorAt unit p port).2 := by
  unfold State.selectorAt
  split
  · exact h
  · exact .iteSnd h h.bump.raise

theorem Kept.toLocation {sector : Nat} {copy : Bool} {p : Pkt} {loc : Nat} (h : Kept s₀ s) : Kept s₀ (s.toLocation sector copy p loc).2
    := by
  unfold State.toLocation
  split
  · rename_i _ heq
    have h₁ := h.lagMember.of_eq heq
    exact h₁
  · rename_i _ heq
    have h₁ := h.lagMember.of_eq heq
    exact .iteSnd h₁.selectorAt (.iteSnd (.iteSnd h₁.bump h₁) h₁.editError)

theorem Kept.toNextHop {sector : Nat} {copy : Bool} {p : Pkt} {n : Nat} (h : Kept s₀ s) : Kept s₀ (s.toNextHop sector copy p n).2 := by
  unfold State.toNextHop
  refine .iteSnd h.bump ?_
  split
  · rename_i _ heq
    have h₁ := h.resEntry.of_eq heq
    exact h₁
  · rename_i _ heq
    have h₁ := h.resEntry.of_eq heq
    exact .iteSnd h₁.bump h₁.toLocation

theorem Kept.ofOption {r : Option Pkt × State} (h : Kept s₀ r.2) : Kept s₀ (Resolved.ofOption r).2 := by
  obtain ⟨_ | p, s⟩ := r <;> exact h

theorem Kept.follow {sector : Nat} {p : Pkt} {ptr : Nat} (h : Kept s₀ s) : Kept s₀ (s.follow sector p ptr).2 := by
  unfold State.follow
  dsimp only
  split
  · exact h.bump
  · exact h.toNextHop.ofOption
  · refine .iteSnd h.bump ?_
    split
    · rename_i _ heq
      have h₁ := h.resEntry.of_eq heq
      exact h₁
    · rename_i _ heq
      have h₁ := h.resEntry.of_eq heq
      refine .iteSnd h₁.bump ?_
      split
      · rename_i _ heq
        have h₂ := h₁.resEntry.of_eq heq
        exact h₂
      · rename_i _ heq
        have h₂ := h₁.resEntry.of_eq heq
        exact h₂.toNextHop.ofOption
  · refine .iteSnd h.bump ?_
    split
    · rename_i _ heq
      have h₁ := h.resEntry.of_eq heq
      exact h₁
    · rename_i _ heq
      have h₁ := h.resEntry.of_eq heq
      exact .iteSnd h₁.bump h₁
  · exact h.bump
  · exact h.bump
  · exact h.toLocation.ofOption
  · exact h.editError

theorem Kept.emSlot {port : Nat} {q : Parsed} {w : Nat} (h : Kept s₀ s) : Kept s₀ (s.emSlot port q w).2 := by
  unfold State.emSlot
  refine .iteSnd ?_ h
  dsimp only
  split
  · exact h
  · split
    · exact .ite h.emSearch.learnRequest h.emSearch
    · exact .ite h.emSearch.learnRequest h.emSearch

theorem Kept.userSearch {value : Nat} {q : Parsed} (h : Kept s₀ s) : Kept s₀ (s.userSearch value q).2 := by
  unfold State.userSearch
  refine .iteSnd ?_ h.bump
  split
  · rename_i _ heq
    have h₁ := h.emSearch.of_eq heq
    exact h₁
  · rename_i _ heq
    have h₁ := h.emSearch.of_eq heq
    exact h₁.bump

theorem Kept.lookups {sector : Nat} {p : Pkt} {q : Parsed} {a : Actions} {labelTtl : Nat} (h : Kept s₀ s) :
    Kept s₀ (s.lookups sector p q a labelTtl).2 := by
  unfold State.lookups
  extract_lets prof slots em s₁
  have h₁ : Kept s₀ s₁ := h.foldlSnd (r := (none, s)) fun _ _ h₁ => h₁.emSlot
  clear_value s₁
  have h₂ : Kept s₀ (if a.mode = 2 then s₁.userSearch a.value q else if a.mode = 1 then (some a.value, s₁) else (none, s₁)).2 :=
    .iteSnd h₁.userSearch (.iteSnd h₁ h₁)
  revert h₂
  generalize (if a.mode = 2 then s₁.userSearch a.value q else if a.mode = 1 then (some a.value, s₁) else (none, s₁)) = r
  obtain ⟨qsel, s₂⟩ := r
  intro (h₂ : Kept s₀ s₂)
  dsimp -zeta only
  extract_lets mode byLabel e c c₂ t kp r popVrf ttl p
  have h₃ : Kept s₀ r.2.2.2 := by
    unfold r
    split
    · exact h₂
    · split
      · exact h₂.raise
      · split
        · rename_i heq
          exact h₂.tcamSearch.of_eq heq
        · rename_i heq
          exact h₂.tcamSearch.of_eq heq
  clear_value r popVrf p
  refine .iteSnd (.snd h₃.bump) ?_
  split
  · exact .iteSnd h₃.selectorAt (.iteSnd h₃.follow h₃.follow)
  · exact h₃.follow

theorem Kept.cross {p : Pkt} {cut : Bool} (h : Kept s₀ s) : Kept s₀ (s.cross p cut) :=
  .ite h.dropPacket (.ite h.dropPacket h.withNet)

theorem Kept.toReplicate {sector : Nat} {p : Pkt} {first count : Nat} (h : Kept s₀ s) : Kept s₀ (s.toReplicate sector p first count) :=
  .ite h.dropPacket (.ite h.dropPacket.bump.raise h.withNet)

theorem Kept.passMetered (h : Kept s₀ s) : Kept s₀ s.passMetered := by
  unfold State.passMetered
  refine h.withNet.forEach fun _ _ h₁ => ?_
  split
  · exact h₁.toReplicate
  · exact h₁.cross

theorem Kept.afterResolve {sector : Nat} {p0 : Pkt} {r : Resolved} (h : Kept s₀ s) : Kept s₀ (s.afterResolve sector p0 r) := by
  unfold State.afterResolve
  dsimp only
  split
  · exact h.dropPacket
  · exact .ite h.withNet h.cross
  · exact .ite h.withNet h.toReplicate

theorem Kept.pipeline {sector : Nat} {p : Pkt} (h : Kept s₀ s) : Kept s₀ (s.pipeline sector p) := by
  have h₁ : Kept s₀ (s.parseFrame sector p.inPort (p.bytes.take (p.bytes.length - 4))).2 := h.parseFrame
  unfold State.pipeline
  extract_lets frame 
  generalize s.parseFrame sector p.inPort (p.bytes.take (p.bytes.length - 4)) = r at h₁ ⊢
  obtain ⟨q₁, s₁⟩ := r
  dsimp only
  refine .ite ?_ (Kept.classifyPacket h₁).lookups.afterResolve
  have h₂ (k : Nat) : Kept s₀ (s₁.bump k) := Kept.bump h₁
  split
  · exact (h₂ _).dropPacket
  · exact (h₂ _).classifyPacket.lookups.afterResolve
  · exact (h₂ _).classifyPacket.afterResolve

theorem Kept.toSector {n : Nat} {p : Pkt} (h : Kept s₀ s) : Kept s₀ (s.toSector n p) :=
  h.withNet

theorem Kept.execIngressPipeline {sector : Fin 8} {upsets : List Upset} (h : Kept s₀ s) : Ends s₀ (execIngressPipeline sector upsets s)
    := by
  unfold Machine.execIngressPipeline
  refine h.inCore fun _ h₁ => ?_
  split
  · exact h₁
  · refine .ite h₁ ?_
    dsimp only
    split
    · exact h₁.workForTurn
    · exact (h₁.workForTurn.workFor.withNet.forEach (fun _ _ h₅ => h₅.upset)).pipeline

theorem Kept.execMcReplicate {read : McRead} (h : Kept s₀ s) : Ends s₀ (execMcReplicate read s) := by
  unfold Machine.execMcReplicate
  refine h.inCore fun _ h₁ => ?_
  split
  · exact h₁
  · refine .ite h₁.workFor (.ite (.ite (h₁.workFor.forEach (fun _ _ h₂ => h₂.upset)).withNet.dropPacket (h₁.workFor.forEach (fun _ _ h₂
      => h₂.upset)).withNet) ?_)
    split
    · rename_i _ heq
      have h₃ := (h₁.workFor.forEach (fun _ _ h₂ => h₂.upset)).resEntry.of_eq heq
      exact .ite h₃.withNet.dropPacket h₃.withNet
    · rename_i _ heq
      have h₃ := (h₁.workFor.forEach (fun _ _ h₂ => h₂.upset)).resEntry.of_eq heq
      refine .ite (.ite h₃.withNet.dropPacket h₃.withNet) ?_
      split
      · rename_i _ heq
        have h₄ := h₃.resEntry.of_eq heq
        exact .ite h₄.withNet.dropPacket h₄.withNet
      · rename_i _ heq
        have h₄ := h₃.resEntry.of_eq heq
        refine .ite (.ite h₄.withNet.dropPacket h₄.withNet) ?_
        split
        · rename_i _ heq
          have h₅ := h₄.toNextHop.of_eq heq
          exact .ite h₅.withNet.dropPacket h₅.withNet
        · rename_i _ heq
          have h₅ := h₄.toNextHop.of_eq heq
          exact h₅.withNet.withNet.cross

theorem Kept.setActive {n mask : Nat} (h : Kept s₀ s) : Kept s₀ (s.setActive n mask) :=
  .ite h (h.set.bump.raise.forEach (fun _ _ h₂ => .ite (.ite h₂ h₂.workFor) (.ite h₂.setPart h₂)))

theorem Kept.execPoolActivate {sector : Fin 8} {pipe : Fin 4} (h : Kept s₀ s) : Ends s₀ (execPoolActivate sector pipe s) := by
  unfold Machine.execPoolActivate
  refine h.inCore fun _ h₁ => .ite ?_ h₁
  split
  · exact .ite h₁.setActive h₁
  · exact h₁

theorem Kept.execPoolDeactivate {sector : Fin 8} {pipe : Fin 4} (h : Kept s₀ s) : Ends s₀ (execPoolDeactivate sector pipe s) := by
  unfold Machine.execPoolDeactivate
  refine h.inCore fun _ h₁ => .ite ?_ h₁
  split
  · exact .ite h₁.setActive h₁
  · exact h₁

theorem Kept.rulePool {n key v : Nat} (h : Kept s₀ s) : Kept s₀ (rulePool n key v s).2 :=
  .iteSnd h h.commit.setActive

theorem Kept.meterEcc {e : Ecc} (h : Kept s₀ s) : Kept s₀ (s.meterEcc e) := by
  unfold State.meterEcc
  split
  · exact h
  · exact h.bump
  · exact h.bump

theorem Kept.keepMeter {n : Nat} (h : Kept s₀ s) : Kept s₀ (s.keepMeter n) :=
  .ite h h.withSched

theorem Kept.putMeter {n m : Nat} {decided : Bool} (h : Kept s₀ s) : Kept s₀ (s.putMeter n m decided) :=
  .ite h.withSched (.ite h.commitDom h.setDom)

theorem Kept.readMeter {n : Nat} {meterEcc profileEcc : Ecc} (h : Kept s₀ s) : Kept s₀ (s.readMeter n meterEcc profileEcc).2 :=
  .share h.meterEcc.meterEcc fun h₁ => .share (.ite h₁.withSched.raise h₁) fun h₂ => .iteSnd h₂.raise h₂

theorem Kept.meterPacket {j : Metered} {o : OldMeter} (h : Kept s₀ s) : Kept s₀ (s.meterPacket j o).2 :=
  .share h.putMeter.bump fun h₁ => .share (.ite h₁ h₁.countRecord.countRecord) fun h₂ => .iteSnd h₂.bump.bump.dropPacket h₂

theorem Kept.execMeterDecide {meterEcc profileEcc : Ecc} (h : Kept s₀ s) : Ends s₀ (execMeterDecide meterEcc profileEcc s) := by
  unfold Machine.execMeterDecide
  refine h.inCore fun _ h₁ => ?_
  split
  · exact h₁
  · refine .ite h₁ (.ite h₁.dropPacket.withNet.passMetered ?_)
    split
    · rename_i _ heq
      have h₂ := h₁.readMeter.of_eq heq
      split
      · rename_i _ heq
        have h₃ := h₂.meterPacket.of_eq heq
        exact h₃.withNet.passMetered
      · rename_i _ heq
        have h₃ := h₂.meterPacket.of_eq heq
        exact h₃.withNet.passMetered

theorem Kept.execMeterSweep {read : MeterRead} (h : Kept s₀ s) : Ends s₀ (execMeterSweep read s) :=
  h.inCore fun _ h₁ => h₁.readMeter.putMeter

theorem Kept.ruleMeterBase {key v : Nat} (h : Kept s₀ s) : Kept s₀ (ruleMeterBase key v s).2 :=
  .iteSnd h h.plain

theorem Kept.writeMeterProfile {n image : Nat} (h : Kept s₀ s) : Kept s₀ (s.writeMeterProfile n image) :=
  (h.forEach (fun _ _ h₁ => h₁.keepMeter)).commitDom.withSched.forEach fun _ _ h₄ => h₄.setDom

theorem Kept.writeMeter {m image : Nat} (h : Kept s₀ s) : Kept s₀ (s.writeMeter m image) :=
  h.keepMeter.commitDom.setDom

theorem Kept.enterTimebase {new : Nat} (h : Kept s₀ s) : Kept s₀ (s.enterTimebase new) :=
  .ite h (.ite h.set.raise.set.withTime.raise (.ite h.set.raise.withTime h.set.raise))

theorem Kept.asServo {master : Nat} {rule : State → Res} (h : Kept s₀ s) (hr : ∀ s, Kept s₀ s → Kept s₀ (rule s).2) :
    Kept s₀ (s.asServo master rule).2 :=
  .iteSnd (hr s h) h

theorem Kept.ruleStateReq {master v : Nat} (h : Kept s₀ s) : Kept s₀ (ruleStateReq master v s).2 :=
  h.asServo fun _ h₁ => h₁.enterTimebase

theorem Kept.ruleFreqAdj {master v : Nat} (h : Kept s₀ s) : Kept s₀ (ruleFreqAdj master v s).2 :=
  h.asServo fun _ h₁ => .iteSnd h₁ h₁.set.withTime

theorem Kept.execDispatch (h : Kept s₀ s) : Ends s₀ (execDispatch s) := by
  unfold Machine.execDispatch
  refine .next (.ite h ?_)
  split
  · exact h
  · exact .ite h.withTime h

theorem Kept.fire {action : Nat} (h : Kept s₀ s) : Kept s₀ (s.fire action).2 := by
  unfold State.fire
  split
  · exact .iteSnd (.iteSnd h.withTime.bumpW h.withTime.set) h
  · exact h

theorem Kept.execAirNop (h : Kept s₀ s) : Ends s₀ (execAirNop s) :=
  .next h.fire

theorem Kept.execHostEvent (h : Kept s₀ s) : Ends s₀ (execHostEvent s) := by
  unfold Machine.execHostEvent
  refine .next ?_
  split
  · rename_i _ heq
    have h₁ := h.fire.of_eq heq
    exact h₁
  · rename_i _ heq
    have h₁ := h.fire.of_eq heq
    exact .ite h₁.raise.signal h₁.raise

theorem Kept.suspectBins (h : Kept s₀ s) : Kept s₀ s.suspectBins :=
  h.set.forEach (fun _ _ h₁ => .ite ((Kept.ite h₁.setField h₁).setField) (.ite h₁.setField h₁))

theorem Kept.applyStep {d : ℤ} (h : Kept s₀ s) : Kept s₀ (s.applyStep d) :=
  .share (.ite h.bumpW h) fun h₁ => .share (Kept.ite h₁ h₁.withTime).bumpW.suspectBins fun h₃ => .ite h₃.raise (.ite h₃.raise h₃)

theorem Kept.ruleStep {master v : Nat} (h : Kept s₀ s) : Kept s₀ (ruleStep master v s).2 :=
  h.asServo fun _ h₁ => h₁.withTime

theorem Kept.execStateReq {master value : Nat} (h : Kept s₀ s) : Ends s₀ (execStateReq master value s) :=
  h.rowWrite fun _ h₁ => h₁.ruleStateReq

theorem Kept.execFreqAdj {master value : Nat} (h : Kept s₀ s) : Ends s₀ (execFreqAdj master value s) :=
  h.rowWrite fun _ h₁ => h₁.ruleFreqAdj

theorem Kept.execStep {master value : Nat} (h : Kept s₀ s) : Ends s₀ (execStep master value s) :=
  h.rowWrite fun _ h₁ => h₁.ruleStep

theorem Kept.execAutoHoldover {lastSample : Nat} (h : Kept s₀ s) : Ends s₀ (execAutoHoldover lastSample s) :=
  .next (.ite h.enterTimebase h)

theorem Kept.execShadowRealign (h : Kept s₀ s) : Ends s₀ (execShadowRealign s) :=
  .next (.ite h h.withTime)

theorem Kept.execTimebaseLoad (h : Kept s₀ s) : Ends s₀ (execTimebaseLoad s) :=
  .next (.ite (.ite h.withTime h.withTime.enterTimebase) h)

theorem Kept.execTimeSyncWord (h : Kept s₀ s) : Ends s₀ (execTimeSyncWord s) :=
  h.inCore fun _ h₁ => .ite h₁ h₁.withTime

theorem Kept.execTimeWordMissed (h : Kept s₀ s) : Ends s₀ (execTimeWordMissed s) :=
  h.inCore fun _ h₁ => h₁.fresh.withTime.raise

theorem Kept.execPpsOut (h : Kept s₀ s) : Ends s₀ (execPpsOut s) :=
  .next (.ite h (.ite h.withTime h.withTime.emit))

theorem Kept.execPpsIn (h : Kept s₀ s) : Ends s₀ (execPpsIn s) :=
  .next (.ite h h.set)

theorem Kept.execTodMessage {timeEvent : Bool} {bytes : List Byte} (h : Kept s₀ s) : Ends s₀ (execTodMessage timeEvent bytes s) :=
  .next (.ite h (.ite h.withTime h.bumpW))

theorem Kept.ruleAirClockEnable {c v : Nat} (h : Kept s₀ s) : Kept s₀ (ruleAirClockEnable c v s).2 :=
  h.commit.withTime

theorem Kept.execAirClockEnable {clock : AirClock} {master value : Nat} (h : Kept s₀ s) : Ends s₀ (execAirClockEnable clock master value
    s) :=
  h.rowWrite fun _ h₁ => h₁.ruleAirClockEnable

theorem Kept.ruleAirClockSetting {c key v : Nat} (h : Kept s₀ s) : Kept s₀ (ruleAirClockSetting c key v s).2 :=
  .iteSnd h h.plain

theorem Kept.ruleRclkSel {key v : Nat} (h : Kept s₀ s) : Kept s₀ (ruleRclkSel key v s).2 :=
  .iteSnd h h.plain

theorem Kept.writeAirEntry {e image : Nat} (h : Kept s₀ s) : Kept s₀ (s.writeAirEntry e image) :=
  h.withTime.commitDom.set

theorem Kept.putShaper {n e : Nat} {x : ShaperState} (h : Kept s₀ s) : Kept s₀ (s.putShaper n e x) :=
  h.setDom.withSched

theorem Kept.keepShaper {n : Nat} (h : Kept s₀ s) : Kept s₀ (s.keepShaper n) :=
  .ite h h.withSched

theorem Kept.send {n span : Nat} (h : Kept s₀ s) : Kept s₀ (s.send n span) :=
  .ite h h.putShaper

theorem Kept.resetCredit {n : Nat} (h : Kept s₀ s) : Kept s₀ (s.resetCredit n) :=
  h.putShaper

theorem Kept.ruleShaperProfile {p key v : Nat} (h : Kept s₀ s) : Kept s₀ (ruleShaperProfile p key v s).2 :=
  (h.forEach (fun _ _ h₁ => h₁.keepShaper.putShaper)).commit.forEach fun _ _ h₃ => h₃.resetCredit

theorem Kept.execShaperProfileWrite {profile : Fin 1024} {field : Fin 3} {master value : Nat} (h : Kept s₀ s) : Ends s₀
    (execShaperProfileWrite profile field master value s) :=
  h.rowWrite fun _ h₁ => h₁.ruleShaperProfile

theorem Kept.writeShaperNode {n image : Nat} (h : Kept s₀ s) : Kept s₀ (s.writeShaperNode n image) :=
  .share h.keepShaper fun h₁ => (Kept.ite ((Kept.ite h₁.putShaper.set h₁.putShaper).set) (.ite h₁.putShaper.set
      h₁.putShaper)).resetCredit.journal

theorem Kept.setGate {p : Nat} {g : GateState} (h : Kept s₀ s) : Kept s₀ (s.setGate p g) :=
  h.withSched

theorem Kept.execGateCycle (h : Kept s₀ s) : Ends s₀ (execGateCycle s) := by
  unfold Machine.execGateCycle
  refine .next ?_
  split
  · rename_i _ heq
    have h₁ := h.fire.of_eq heq
    exact h₁
  · rename_i _ heq
    have h₁ := h.fire.of_eq heq
    exact .share (.ite h₁.bump.raise h₁) fun h₂ => (Kept.ite h₂.bump (.ite h₂.set.bump.raise h₂)).bump.setGate

theorem Kept.execGateEntryEnd {port : Fin 136} (h : Kept s₀ s) : Ends s₀ (execGateEntryEnd port s) :=
  h.inCore fun _ h₁ => h₁.set

theorem Kept.ruleGateEnable {p v : Nat} (h : Kept s₀ s) : Kept s₀ (ruleGateEnable p v s).2 :=
  .ite h.commit.setGate h.commit

theorem Kept.writeGateEntry {e image : Nat} (h : Kept s₀ s) : Kept s₀ (s.writeGateEntry e image) :=
  .ite h.commitDom.setGate h.commitDom

theorem Kept.wireActual {p charged len : Nat} (h : Kept s₀ s) : Kept s₀ (s.wireActual p charged len) :=
  h.setGate

theorem Kept.packControl {d : Nat} (h : Kept s₀ s) : Kept s₀ (s.packControl d) := by
  unfold State.packControl
  split
  · exact h
  · exact h.withFab

theorem Kept.pushMessage {d msg : Nat} (h : Kept s₀ s) : Kept s₀ (s.pushMessage d msg) :=
  .ite h.withFab h.withFab.packControl

theorem Kept.setUnreach {d : Nat} {x : Option Nat} (h : Kept s₀ s) : Kept s₀ (s.setUnreach d x) :=
  h.withFab

theorem Kept.sendRequest {v : Nat} (h : Kept s₀ s) : Kept s₀ (s.sendRequest v) :=
  .ite h h.withFab.bump.pushMessage

theorem Kept.creditHeld {p : Nat} (h : Kept s₀ s) : Kept s₀ (s.creditHeld p) :=
  .ite h.set (.ite h.set h)

theorem Kept.addLen {q g pp : Nat} {up : Bool} {n : Nat} (h : Kept s₀ s) : Kept s₀ (s.addLen q g pp up n) :=
  .ite h.withNet h.withNet.creditHeld

theorem Kept.setQueue {q : Nat} {l : List Pkt} (h : Kept s₀ s) : Kept s₀ (s.setQueue q l) :=
  h.withNet

theorem Kept.setClassList {p : Nat} {l : List Nat} (h : Kept s₀ s) : Kept s₀ (s.setClassList p l) :=
  h.withSched

theorem Kept.setGroupList {pc : Nat} {l : List Nat} (h : Kept s₀ s) : Kept s₀ (s.setGroupList pc l) :=
  h.withSched

theorem Kept.setUsersOf {g : Nat} {l : List Nat} (h : Kept s₀ s) : Kept s₀ (s.setUsersOf g l) :=
  h.withSched

theorem Kept.setWfqOf {g : Nat} {l : List Nat} (h : Kept s₀ s) : Kept s₀ (s.setWfqOf g l) :=
  h.withSched

theorem Kept.setClassDeficit {pc : Nat} {d : ℤ} (h : Kept s₀ s) : Kept s₀ (s.setClassDeficit pc d) :=
  h.setField

theorem Kept.setGroupDeficit {g : Nat} {d : ℤ} (h : Kept s₀ s) : Kept s₀ (s.setGroupDeficit g d) :=
  h.setField

theorem Kept.refreshClass {pc : Nat} (h : Kept s₀ s) : Kept s₀ (s.refreshClass pc) :=
  .ite h.setClassDeficit.setClassList (.ite h.setClassDeficit.setClassList h)

theorem Kept.refreshGroup {g : Nat} (h : Kept s₀ s) : Kept s₀ (s.refreshGroup g) :=
  (Kept.ite h.setGroupDeficit.setGroupList (.ite h.setGroupDeficit.setGroupList h)).refreshClass

theorem Kept.setFinish {g u : Nat} (h : Kept s₀ s) : Kept s₀ (s.setFinish g u) := by
  unfold State.setFinish
  split
  · exact h.setField
  · exact h

theorem Kept.wfqJoin {g u : Nat} (h : Kept s₀ s) : Kept s₀ (s.wfqJoin g u) :=
  h.setField.setFinish.setWfqOf

theorem Kept.refreshUser {u : Nat} {changed : Bool} (h : Kept s₀ s) : Kept s₀ (s.refreshUser u changed) :=
  .share h.setUsersOf fun h₁ => (Kept.ite h₁.wfqJoin (.ite h₁.setWfqOf (.ite h₁.setFinish h₁))).refreshGroup

theorem Kept.wasteCredit {v : Nat} (h : Kept s₀ s) : Kept s₀ (s.wasteCredit v) :=
  .ite h.setField.bump h

theorem Kept.voqRequest {v : Nat} (h : Kept s₀ s) : Kept s₀ (s.voqRequest v) :=
  .ite h (.ite h.setField h.setField.sendRequest)

theorem Kept.voqFollow {v : Nat} (h : Kept s₀ s) : Kept s₀ (s.voqFollow v) :=
  (Kept.ite h.wasteCredit h).voqRequest

theorem Kept.voqsAgain (h : Kept s₀ s) : Kept s₀ s.voqsAgain :=
  h.forEach fun _ _ h₁ => h₁.voqRequest

theorem Kept.changing {q : Nat} {f : State → State} (h : Kept s₀ s) (hf : ∀ s, Kept s₀ s → Kept s₀ (f s)) :
    Kept s₀ (s.changing q f) :=
  .ite (hf s h).voqFollow (hf s h).refreshUser

theorem Kept.chargeGroup {g c : Nat} (h : Kept s₀ s) : Kept s₀ (s.chargeGroup g c) :=
  .ite h (.ite h.setGroupDeficit.setGroupList h.setGroupDeficit)

theorem Kept.chargeClass {pc c : Nat} (h : Kept s₀ s) : Kept s₀ (s.chargeClass pc c) :=
  .ite h (.ite h.setClassDeficit.setClassList h.setClassDeficit)

theorem Kept.lowWater {g : Nat} (h : Kept s₀ s) : Kept s₀ (s.lowWater g) :=
  .ite h (.ite (.ite h h.withNet.raise) (.ite h.withNet.withNet.raise h.withNet))

theorem Kept.takeUnits {g n : Nat} (h : Kept s₀ s) : Kept s₀ (s.takeUnits g n) :=
  h.withNet.lowWater

theorem Kept.freeGeneral {g n : Nat} (h : Kept s₀ s) : Kept s₀ (s.freeGeneral g n) :=
  h.withNet.lowWater

theorem Kept.takePool {k n : Nat} (h : Kept s₀ s) : Kept s₀ (s.takePool k n) :=
  h.withNet

theorem Kept.freePool {k n : Nat} (h : Kept s₀ s) : Kept s₀ (s.freePool k n) :=
  h.withNet

theorem Kept.setFreeList {k : Nat} {f : FreeList} (h : Kept s₀ s) : Kept s₀ (s.setFreeList k f) :=
  h.withNet

theorem Kept.popCell {g : Nat} (h : Kept s₀ s) : Kept s₀ (s.popCell g).2 := by
  unfold State.popCell
  dsimp only
  split
  · exact h.setFreeList.withNet
  · exact h

theorem Kept.takeEach {take : State → List Nat × State} {n : Nat} (h : Kept s₀ s) (ht : ∀ s, Kept s₀ s → Kept s₀ (take s).2) :
    Kept s₀ (Machine.takeEach take n s).2 := by
  induction n generalizing s with
  | zero => exact h
  | succ n ih => exact ih (ht s h)

theorem Kept.popCells {g n : Nat} (h : Kept s₀ s) : Kept s₀ (s.popCells g n).2 :=
  h.takeEach fun _ h₁ => h₁.popCell

theorem Kept.popPool {g j : Nat} (h : Kept s₀ s) : Kept s₀ (s.popPool g j).2 := by
  unfold State.popPool
  split
  · exact h.setFreeList
  · exact h

theorem Kept.popMap {g pp : Nat} (h : Kept s₀ s) : Kept s₀ (s.popMap g pp).2 := by
  unfold State.popMap
  dsimp only
  split
  · exact h.withNet
  · exact h

theorem Kept.alloc {g pp j n : Nat} (h : Kept s₀ s) : Kept s₀ (s.alloc g pp j n).2 :=
  .iteSnd (h.takeEach (fun _ h₁ => h₁.popMap)) (.iteSnd h.popCells h.popPool)

theorem Kept.freeNow {f : Freed} (h : Kept s₀ s) : Kept s₀ (s.freeNow f) :=
  .ite (h.freePool.forEach (fun _ _ h₁ => h₁.withNet)) (.ite ((h.forEach (fun _ _ h₁ => h₁.setFreeList)).freeGeneral) (((h.forEach (fun _
      _ h₁ => h₁.setFreeList)).freePool).freeGeneral))

theorem Kept.free' {f : Freed} (h : Kept s₀ s) : Kept s₀ (s.free' f) :=
  .ite h.withNet h.freeNow

theorem Kept.endDeciding (h : Kept s₀ s) : Kept s₀ s.endDeciding :=
  h.withNet.forEach fun _ _ h₁ => h₁.freeNow

theorem Kept.freeCells {l : List Nat} (h : Kept s₀ s) : Kept s₀ (s.freeCells l) :=
  h.free'

theorem Kept.takeCells {n : Nat} (h : Kept s₀ s) : Kept s₀ (s.takeCells n).2 :=
  h.takeUnits.popCells

theorem Kept.chargeTo {r g n : Nat} (h : Kept s₀ s) : Kept s₀ (s.chargeTo r g n) :=
  h.setField

theorem Kept.creditTo {r g n : Nat} (h : Kept s₀ s) : Kept s₀ (s.creditTo r g n) :=
  h.setField

theorem Kept.giveBack {p : Pkt} {l : List Nat} {n bufs : Nat} (h : Kept s₀ s) : Kept s₀ (s.giveBack p l n bufs) :=
  h.free'.creditTo

theorem Kept.leak {g n : Nat} (h : Kept s₀ s) : Kept s₀ (s.leak g n) :=
  h.set

theorem Kept.spillEnds {q : Nat} (h : Kept s₀ s) : Kept s₀ (s.spillEnds q) :=
  .ite h.setField h

theorem Kept.release {p : Pkt} {lost : Nat} (h : Kept s₀ s) : Kept s₀ (s.release p lost) :=
  .share h.giveBack.creditTo fun h₁ => (Kept.ite h₁ h₁.leak).addLen.spillEnds

theorem Kept.countQueue {q : Nat} {f : Field} {n : Nat} (h : Kept s₀ s) : Kept s₀ (s.countQueue q f n) :=
  .ite h h.countRecord

theorem Kept.discard {p : Pkt} {lost : Nat} (h : Kept s₀ s) : Kept s₀ (s.discard p lost) :=
  h.release.countQueue.dropPacket

theorem Kept.discardQueued {q id lost : Nat} (h : Kept s₀ s) : Kept s₀ (s.discardQueued q id lost) := by
  unfold State.discardQueued
  split
  · exact (h.changing (fun _ h₁ => h₁.setQueue)).discard
  · exact h

theorem Kept.refreshPort {p : Nat} (h : Kept s₀ s) : Kept s₀ (s.refreshPort p) :=
  h.forEach (fun _ _ h₁ => h₁.forEach (fun _ _ h₂ => h₂.forEach (fun _ _ h₃ => h₃.refreshUser)))

theorem Kept.holdGuards {p : Nat} {passed : List Nat} (h : Kept s₀ s) : Kept s₀ (s.holdGuards p passed) :=
  (h.forEach (fun _ _ h₁ => h₁.bump)).setGate

theorem Kept.sendPath {p : Nat} {k : Pick} (h : Kept s₀ s) : Kept s₀ (s.sendPath p k) :=
  h.forEach fun _ _ h₁ => h₁.send

theorem Kept.select {p : Nat} {k : Pick} (h : Kept s₀ s) : Kept s₀ (s.select p k) :=
  .share h.setField.setQueue.sendPath fun h₂ => .share (.ite h₂.chargeGroup h₂) fun h₃ => .share (Kept.ite h₃.chargeClass
      h₃).setWfqOf.refreshUser.countQueue.countQueue.bump.bump.set.setGate fun h₁₀ => .share (.ite h₁₀ h₁₀.withSched) fun h₁₁ =>
          ((Kept.ite h₁₁.workFor h₁₁).workFor).withNet

theorem Kept.chargeLate {k : Pkt} (h : Kept s₀ s) : Kept s₀ (s.chargeLate k) := by
  unfold State.chargeLate
  split
  · exact h
  · exact .share (h.withSched.forEach (fun _ _ h₁ => .ite h₁ h₁.putShaper)).setField.setField fun h₃ => .share (Kept.ite h₃.wfqJoin
      h₃).chargeGroup fun h₅ => (Kept.ite h₅ h₅.chargeClass).set

theorem Kept.queueUpset {x : QueueUpset} (h : Kept s₀ s) : Kept s₀ (s.queueUpset x) := by
  unfold State.queueUpset
  split
  · exact h.bump
  · exact (Kept.ite h.bump.setClassDeficit.setClassList h.bump.setClassDeficit).raise
  · exact (Kept.ite h.bump.setGroupDeficit.setGroupList h.bump.setGroupDeficit).raise
  · exact (Kept.ite h.bump.wfqJoin h.bump).raise
  · exact h.bump.resetCredit.setField.raise
  · exact h.bump.setGate.raise
  · exact (((h.bump.changing (fun _ h₁ => h₁.setQueue)).forEach (fun _ _ h₂ => h₂.discard)).forEach (fun _ _ h₃ =>
      h₃.addLen.spillEnds.creditTo.leak.countQueue.dropPacket)).raise

theorem Kept.execDequeueDecision {slice : Fin 8} {upsets : List QueueUpset} (h : Kept s₀ s) : Ends s₀ (execDequeueDecision slice upsets
    s) := by
  unfold Machine.execDequeueDecision
  refine h.inCore fun _ h₁ => .ite h₁ ?_
  dsimp only
  split
  · exact ((h₁.forEach (fun _ _ h₂ => h₂.queueUpset)).forEach (fun _ _ h₃ => h₃.refreshPort)).forEach fun _ _ h₄ => h₄.holdGuards
  · exact (((h₁.forEach (fun _ _ h₂ => h₂.queueUpset)).forEach (fun _ _ h₃ => h₃.refreshPort)).forEach (fun _ _ h₄ =>
      h₄.holdGuards)).select.withSched

theorem Kept.execShaperRelease {port : Fin 136} (h : Kept s₀ s) : Ends s₀ (execShaperRelease port s) :=
  h.inCore fun _ h₁ => h₁.refreshPort

theorem Kept.writeClassEntry {pc image : Nat} (h : Kept s₀ s) : Kept s₀ (s.writeClassEntry pc image) :=
  h.commitDom.refreshClass

theorem Kept.writeUser {u image : Nat} (h : Kept s₀ s) : Kept s₀ (s.writeUser u image) := by
  unfold State.writeUser
  exact h.commitDom

theorem Kept.ruleCreditHold {hold resume key v : Nat} (h : Kept s₀ s) : Kept s₀ (ruleCreditHold hold resume key v s).2 :=
  .iteSnd h h.plain

theorem Kept.writeMarked {e image : Nat} (h : Kept s₀ s) : Kept s₀ (s.writeMarked e image) :=
  h.commitDom.set

theorem Kept.execSampleRound (h : Kept s₀ s) : Ends s₀ (execSampleRound s) :=
  h.inCore fun _ h₁ => .ite h₁ h₁.withSched.bump.set

theorem Kept.noteSample {q : Nat} {d : Nat × Nat} (h : Kept s₀ s) : Kept s₀ (s.noteSample q d) :=
  h.updateRecord

theorem Kept.execQueueSample {index : Fin 655360} (h : Kept s₀ s) : Ends s₀ (execQueueSample index s) := by
  unfold Machine.execQueueSample
  refine h.inCore fun _ h₁ => ?_
  split
  · exact h₁
  · exact .ite h₁.withSched.noteSample h₁

theorem Kept.logMarked {image : Nat} (h : Kept s₀ s) : Kept s₀ (s.logMarked image) :=
  .share h.writeRecord.set.withSched fun h₃ => .ite h₃.bump.raise h₃

theorem Kept.execSampleMarked (h : Kept s₀ s) : Ends s₀ (execSampleMarked s) := by
  unfold Machine.execSampleMarked
  refine .next ?_
  split
  · rename_i _ heq
    have h₁ := h.fire.of_eq heq
    exact h₁
  · rename_i _ heq
    have h₁ := h.fire.of_eq heq
    exact h₁.forEach fun _ _ h₂ => h₂.noteSample.logMarked

theorem Kept.spill {q : Nat} (h : Kept s₀ s) : Kept s₀ (s.spill q) :=
  h.setField.bump

theorem Kept.admitTo {k : Pkt} {q : Nat} (h : Kept s₀ s) : Kept s₀ (s.admitTo k q).2 := by
  unfold State.admitTo
  refine .iteSnd h (.iteSnd h (.iteSnd (.ite h.spill h) ?_))
  split
  · exact .iteSnd (Kept.ite h.spill h).spill (.ite h.spill h)
  · exact (.ite h.spill h)

theorem Kept.freeHeld {k : Pkt} (h : Kept s₀ s) : Kept s₀ (s.freeHeld k) :=
  .ite h h.freeCells.creditTo

theorem Kept.refuse {k : Pkt} {q : Nat} {r : Refused} (h : Kept s₀ s) : Kept s₀ (s.refuse k q r) := by
  unfold State.refuse
  refine (Kept.countQueue ?_).freeHeld.dropPacket
  split
  · exact h.bumpField.bump.bump
  · exact h.bumpField.bump.bump
  · exact h.bumpField.bump.bump
  · exact h.bumpField.bump.bump
  · exact h.bumpField.bump.bump.raise

theorem Kept.store {k : Pkt} {n : Nat} (h : Kept s₀ s) : Kept s₀ (s.store k n).2 :=
  (.ite h.alloc h.alloc.bump)

theorem Kept.takePlace {k : Pkt} {q n now : Nat} {b : Place} (h : Kept s₀ s) : Kept s₀ (s.takePlace k q n now b).2 :=
  .iteSnd h.addLen (.share (Kept.ite h.addLen.takePool (.ite h.addLen.takeUnits (.share h.addLen.takePool.takeUnits.bump fun h₁ => .ite
      h₁.bump h₁))).chargeTo.store fun h₃ => .iteSnd h₃.withNet (.iteSnd h₃.takeCells.withNet h₃))

theorem Kept.fabricSelector {k : Pkt} (h : Kept s₀ s) : Kept s₀ (s.fabricSelector k).2 :=
  .iteSnd h.selectorAt h

theorem Kept.refuseNoQueue {k : Pkt} {named : Option Nat} (h : Kept s₀ s) : Kept s₀ (s.refuseNoQueue k named) := by
  unfold State.refuseNoQueue
  refine (Kept.bumpField ?_).raise.freeHeld.dropPacket
  split
  · exact h.bump.countQueue
  · exact h.bump

theorem Kept.tryCut {k : Pkt} {q : Nat} {idle : Bool} (h : Kept s₀ s) : Kept s₀ (s.tryCut k q idle) := by
  unfold State.tryCut
  dsimp only
  split
  · exact .ite (h.changing (fun _ h₁ => h₁.setQueue)).refreshPort.bump.select (.ite h h.bump)
  · exact (.ite h h.bump)

theorem Kept.discardBad {k : Pkt} (h : Kept s₀ s) : Kept s₀ (s.discardBad k) :=
  h.discardQueued.bump.raise

theorem Kept.updateQueued {q id : Nat} {f : Pkt → Pkt} (h : Kept s₀ s) : Kept s₀ (s.updateQueued q id f) :=
  h.changing fun _ h₁ => h₁.setQueue

theorem Kept.trim {k : Pkt} (h : Kept s₀ s) : Kept s₀ (s.trim k).2 :=
  h.giveBack.addLen

theorem Kept.refuseUnreached {k : Pkt} (h : Kept s₀ s) : Kept s₀ (s.refuseUnreached k) :=
  h.bump.bumpField.bump.countQueue.freeHeld.dropPacket

theorem Kept.freeCtx {id : Nat} (h : Kept s₀ s) : Kept s₀ (s.freeCtx id) :=
  .ite h.withFab.set h

theorem Kept.decideAdmission {k : Pkt} (h : Kept s₀ s) : Kept s₀ (s.decideAdmission k) := by
  unfold State.decideAdmission
  refine .ite h.freeCtx.refuseUnreached ?_
  split
  · rename_i _ heq
    have h₁ := h.freeCtx.fabricSelector.of_eq heq
    split
    · exact h₁.refuseNoQueue
    · split
      · rename_i _ heq
        have h₂ := h₁.admitTo.of_eq heq
        exact h₂.refuse
      · rename_i _ heq
        have h₂ := h₁.admitTo.of_eq heq
        refine .share ((Kept.countQueue ?_).countQueue.changing (fun _ h₆ => h₆.setQueue)).withNet fun h₇ => .ite h₇ (.ite (.share
            h₇.trim.updateQueued fun h₉ => .ite h₉.discardBad (.ite h₉ h₉.tryCut)) (.ite h₇ h₇.tryCut))
        split
        · exact h₂.takePlace.complete
        · exact h₂.takePlace

theorem Kept.cutList {k size left : Nat} (h : Kept s₀ s) : Kept s₀ (s.cutList k size left).2 :=
  h.setFreeList

theorem Kept.poolUpset {x : PoolUpset} (h : Kept s₀ s) : Kept s₀ (s.poolUpset x) := by
  unfold State.poolUpset
  dsimp only
  split
  · exact h.bump
  · exact .ite h h.cutList.bump.leak.raise.takeUnits
  · exact .ite h h.cutList.bump.leak.raise.takePool.takeUnits
  · exact h.withNet.bump.leak.raise.takePool

theorem Kept.execAdmission {upsets : List PoolUpset} (h : Kept s₀ s) : Ends s₀ (execAdmission upsets s) := by
  unfold Machine.execAdmission
  refine h.inCore fun _ h₁ => .ite h₁ ?_
  dsimp only
  split
  · exact (h₁.forEach (fun _ _ h₂ => h₂.poolUpset))
  · exact ((h₁.forEach (fun _ _ h₂ => h₂.poolUpset)).withNet.forEach (fun _ _ h₄ => h₄.decideAdmission)).endDeciding

theorem Kept.updateSelected {id : Nat} {f : Pkt → Pkt} (h : Kept s₀ s) : Kept s₀ (s.updateSelected id f) :=
  h.withNet

theorem Kept.lastUnit {k : Pkt} {queued : Bool} (h : Kept s₀ s) : Kept s₀ (s.lastUnit k queued) :=
  .ite (.share h.trim.updateQueued fun h₁ => .ite h₁.discardBad h₁) (.share h.trim.chargeLate.updateSelected fun h₂ => .ite h₂.release h₂)

theorem Kept.execStagingDone (h : Kept s₀ s) : Ends s₀ (execStagingDone s) := by
  unfold Machine.execStagingDone
  refine h.inCore fun _ h₁ => ?_
  split
  · exact h₁
  · dsimp only
    split
    · exact h₁.withNet.freeCells.creditTo
    · exact h₁.withNet.freeCells

theorem Kept.execIdleMap (h : Kept s₀ s) : Ends s₀ (execIdleMap s) :=
  h.inCore fun _ h₁ => .ite h₁ h₁.withNet

theorem Kept.formLists {g : Nat} (h : Kept s₀ s) : Kept s₀ (s.formLists g) :=
  .ite h h.withNet

theorem Kept.ruleBufEnable {v : Nat} (h : Kept s₀ s) : Kept s₀ (ruleBufEnable v s).2 :=
  .iteSnd h ((Kept.ite (h.forEach (fun _ _ h₁ => h₁.formLists)) h).plain)

theorem Kept.execBufEnable {master value : Nat} (h : Kept s₀ s) : Ends s₀ (execBufEnable master value s) :=
  h.rowWrite fun _ h₁ => h₁.ruleBufEnable

theorem Kept.ruleBufSetting {key v : Nat} (h : Kept s₀ s) : Kept s₀ (ruleBufSetting key v s).2 :=
  .iteSnd h h.plain

theorem Kept.ruleBufProfile {n key v : Nat} (h : Kept s₀ s) : Kept s₀ (ruleBufProfile n key v s).2 :=
  .iteSnd h h.plain

theorem Kept.ruleRecompProfile {key v : Nat} (h : Kept s₀ s) : Kept s₀ (ruleRecompProfile key v s).2 :=
  .iteSnd h h.plain

theorem Kept.readOut {k : Pkt} (h : Kept s₀ s) : Kept s₀ (s.readOut k).2 :=
  .ite h.release h

theorem Kept.settle {k : Pkt} {lost : Nat} (h : Kept s₀ s) : Kept s₀ (s.settle k lost).2 :=
  .iteSnd (.ite h h.release) h.chargeLate.release

theorem Kept.lessOutstanding {p n : Nat} (h : Kept s₀ s) : Kept s₀ (s.lessOutstanding p n) :=
  h.set

theorem Kept.dropSelected {p : Nat} {k : Pkt} {lost : Nat} (h : Kept s₀ s) : Kept s₀ (s.dropSelected p k lost) :=
  h.settle.lessOutstanding.dropPacket

theorem Kept.endPacket {id lost : Nat} (h : Kept s₀ s) : Kept s₀ (s.endPacket id lost) := by
  unfold State.endPacket
  split
  · exact h.discardQueued
  · dsimp only
    split
    · exact h.withNet.dropSelected
    · split
      · exact h.withNet.dropSelected
      · exact h.updateSelected

theorem Kept.readUpset {k : Pkt} {x : ReadUpset} (h : Kept s₀ s) : Kept s₀ (s.readUpset k x).2 := by
  unfold State.readUpset
  dsimp only
  split
  · exact h
  · exact h.bump
  · exact h.bump.raise
  · exact h.bump.raise

theorem Kept.readArrived {k : Pkt} {x : ReadUpset} (h : Kept s₀ s) : Kept s₀ (s.readArrived k x) := by
  unfold State.readArrived
  split
  · rename_i _ heq
    have h₁ := h.readUpset.of_eq heq
    exact h₁.endPacket
  · rename_i _ heq
    have h₁ := h.readUpset.of_eq heq
    exact h₁

theorem Kept.execD2dUnit {read : UnitRead} (h : Kept s₀ s) : Ends s₀ (execD2dUnit read s) := by
  unfold Machine.execD2dUnit
  refine h.inCore fun _ h₁ => .ite h₁ ?_
  split
  · exact h₁
  · refine .ite h₁.withNet ?_
    split
    · exact .share h₁.withNet.store fun h₂ => .ite h₂.lastUnit h₂.setQueue
    · split
      · split
        · rename_i _ heq
          have h₂ := h₁.withNet.store.of_eq heq
          dsimp only
          split
          · exact (Kept.ite h₂.updateSelected.readArrived h₂.updateSelected).lastUnit
          · exact (.ite h₂.updateSelected.readArrived h₂.updateSelected)
      · exact h₁.withNet

theorem Kept.handOn {p : Nat} {k : Pkt} (h : Kept s₀ s) : Kept s₀ (s.handOn p k) :=
  .share (.ite h h.wireActual) fun h₁ => .ite h₁.withNet (.ite h₁.withNet (.ite h₁.lessOutstanding.sendMate.txReport (.ite h₁.withNet
      (.ite h₁.lessOutstanding.bump.withNet h₁.lessOutstanding.dropPacket))))

theorem Kept.recompPacket {p : Nat} {k : Pkt} {body : List Byte} {mtu : Nat} (h : Kept s₀ s) : Kept s₀ (s.recompPacket p k body mtu) := by
  unfold State.recompPacket
  dsimp only
  split
  · exact h.bump.handOn
  · exact h.bump.raise.dropSelected
  · exact .ite h.bump.dropSelected ((h.bump.bump.bump.bump.forEach (fun _ _ h₂ => h₂.raise)).handOn)

theorem Kept.execEgressPipeline {port : Fin 136} {read : EgressRead} (h : Kept s₀ s) : Ends s₀ (execEgressPipeline port read s) := by
  unfold Machine.execEgressPipeline
  refine h.inCore fun _ h₁ => ?_
  split
  · exact h₁
  · refine .ite h₁ (.ite h₁.workFor (.ite h₁.workFor.withNet.dropSelected ?_))
    split
    · rename_i _ heq
      have h₃ := h₁.workFor.withNet.readUpset.of_eq heq
      exact h₃.dropSelected
    · rename_i _ heq
      have h₃ := h₁.workFor.withNet.readUpset.of_eq heq
      split
      · rename_i _ heq
        have h₄ := h₃.readOut.of_eq heq
        dsimp only
        split
        · exact (h₄.forEach (fun _ _ h₅ => h₅.upset)).editError.dropSelected
        · exact (h₄.forEach (fun _ _ h₅ => h₅.upset)).bump.dropSelected
        · exact .ite (h₄.forEach (fun _ _ h₅ => h₅.upset)).bump.dropSelected (.ite (h₄.forEach (fun _ _ h₅ => h₅.upset)).handOn (.ite
            (h₄.forEach (fun _ _ h₅ => h₅.upset)).recompPacket (h₄.forEach (fun _ _ h₅ => h₅.upset)).handOn))

theorem Kept.execRecirculate (h : Kept s₀ s) : Ends s₀ (execRecirculate s) := by
  unfold Machine.execRecirculate
  refine h.inCore fun _ h₁ => ?_
  split
  · exact h₁
  · exact .share h₁.withNet.lessOutstanding fun h₂ => .ite h₂.bump.raise.dropPacket h₂.toSector

theorem Kept.setLine {p : Nat} {l : LineState} (h : Kept s₀ s) : Kept s₀ (s.setLine p l) :=
  h.withLine

theorem Kept.setPause {p k : Nat} {x : PauseState} (h : Kept s₀ s) : Kept s₀ (s.setPause p k x) :=
  h.withLine

theorem Kept.noteCount {k : Nat} (h : Kept s₀ s) : Kept s₀ (s.noteCount k) :=
  h.withLine

theorem Kept.countPort {p sub n : Nat} (h : Kept s₀ s) : Kept s₀ (s.countPort p sub n) :=
  .share h.noteCount.set fun h₁ => .ite h₁.raise h₁

theorem Kept.rulePortEnable {n v : Nat} (h : Kept s₀ s) : Kept s₀ (rulePortEnable n v s).2 :=
  .iteSnd h ((Kept.ite h.commit.set.movePart h.commit).showPower)

theorem Kept.execPortEnable {port : LinePort} {master value : Nat} (h : Kept s₀ s) : Ends s₀ (execPortEnable port master value s) :=
  h.rowWrite fun _ h₁ => h₁.rulePortEnable

theorem Kept.rulePortSetting {n key v : Nat} (h : Kept s₀ s) : Kept s₀ (rulePortSetting n key v s).2 :=
  .iteSnd h (.ite h.commit.set h.commit)

theorem Kept.ruleFcXon {n key v : Nat} (h : Kept s₀ s) : Kept s₀ (ruleFcXon n key v s).2 :=
  .iteSnd h h.plain

theorem Kept.ruleFcRxMode {n v : Nat} (h : Kept s₀ s) : Kept s₀ (ruleFcRxMode n v s).2 :=
  h.commit.forEach fun _ _ h₁ => h₁.setPause

theorem Kept.rulePauseExempt {n v : Nat} (h : Kept s₀ s) : Kept s₀ (rulePauseExempt n v s).2 :=
  h.commit.forEach fun _ _ h₁ => h₁.setPause

theorem Kept.takesEffect {key old ns : Nat} (h : Kept s₀ s) : Kept s₀ (s.takesEffect key old ns) :=
  h.withLine

theorem Kept.ruleLineSetting {n sub key v : Nat} (h : Kept s₀ s) : Kept s₀ (ruleLineSetting n sub key v s).2 :=
  (Kept.iteSnd h.ruleFcRxMode (.iteSnd h.rulePauseExempt (.iteSnd h.ruleFcXon h.plain))).andThen fun _ h₁ => h₁.takesEffect

theorem Kept.countGood {p base : Nat} {f : List Byte} (h : Kept s₀ s) : Kept s₀ (s.countGood p base f) :=
  .share h.countPort.countPort.countPort fun h₂ => .share (.ite h₂.countPort (.ite h₂.countPort h₂)) fun h₃ => .ite h₃.countPort h₃

theorem Kept.watchdog {p k : Nat} (h : Kept s₀ s) : Kept s₀ (s.watchdog p k) :=
  .ite h.setPause.countPort.raise h

theorem Kept.obeyPause {p k q : Nat} (h : Kept s₀ s) : Kept s₀ (s.obeyPause p k q) :=
  .ite h.watchdog (.ite h.watchdog.setPause h.watchdog.setPause)

theorem Kept.macControl {p : Nat} {f : List Byte} (h : Kept s₀ s) : Kept s₀ (s.macControl p f) := by
  unfold State.macControl
  split
  · exact h.obeyPause
  · exact h.forEach fun _ _ h₁ => .ite h₁.obeyPause h₁
  · exact h

theorem Kept.receive {p : Nat} {f : List Byte} {codeError : Bool} (h : Kept s₀ s) : Kept s₀ (s.receive p f codeError) :=
  .ite h (.share (.ite h.countPort.countPort h.countPort) fun h₁ => .share (.ite h₁.countPort h₁) fun h₂ => .ite h₂.countPort (.ite
      h₂.countPort (.share (.ite h₂.countPort (.ite h₂ h₂.countGood)) fun h₃ => .ite h₃ (.ite (.ite h₃.macControl h₃) (.ite
          h₃.countPort.raise h₃.withNet.toSector)))))

theorem Kept.execRxFrame {port : LinePort} {frame : List Byte} {codeError : Bool} {corrected uncorrectable symbols : Nat} (h : Kept s₀ s)
    : Ends s₀ (execRxFrame port frame codeError corrected uncorrectable symbols s) :=
  h.inCore (fun _ h₁ => .share h₁.countPort.countPort.countPort fun h₂ => (Kept.ite h₂.raise h₂).receive)

theorem Kept.execPauseFrame {port : LinePort} {source : Nat} {quanta : Fin 65536} (h : Kept s₀ s) : Ends s₀ (execPauseFrame port source
    quanta s) :=
  h.inCore fun _ h₁ => h₁.receive

theorem Kept.execPfcFrame {port : LinePort} {source : Nat} {enabled : Fin 256} {quanta : List Nat} (h : Kept s₀ s) : Ends s₀
    (execPfcFrame port source enabled quanta s) :=
  h.inCore fun _ h₁ => h₁.receive

theorem Kept.execPauseExpiry {port : LinePort} {priority : Fin 9} (h : Kept s₀ s) : Ends s₀ (execPauseExpiry port priority s) :=
  h.inCore fun _ h₁ => .ite h₁.watchdog.setPause h₁.watchdog

theorem Kept.execWdRelease {port : LinePort} {priority : Fin 9} (h : Kept s₀ s) : Ends s₀ (execWdRelease port priority s) :=
  h.inCore fun _ h₁ => h₁.watchdog

theorem Kept.execWdHoldoffEnd {port : LinePort} {priority : Fin 9} (h : Kept s₀ s) : Ends s₀ (execWdHoldoffEnd port priority s) :=
  h.inCore fun _ h₁ => .ite h₁.setPause h₁

theorem Kept.execLinkCondition {port : LinePort} {good localFault : Bool} (h : Kept s₀ s) : Ends s₀ (execLinkCondition port good
    localFault s) :=
  h.inCore fun _ h₁ => h₁.setLine

theorem Kept.execLinkDown {port : LinePort} (h : Kept s₀ s) : Ends s₀ (execLinkDown port s) :=
  h.inCore fun _ h₁ => .ite h₁.set.countPort.raise h₁

theorem Kept.execLinkUp {port : LinePort} (h : Kept s₀ s) : Ends s₀ (execLinkUp port s) :=
  h.inCore fun _ h₁ => .ite h₁.set.raise h₁

theorem Kept.sendControl {p : Nat} {f : List Byte} (h : Kept s₀ s) : Kept s₀ (s.sendControl p f) :=
  h.emit.countGood.countPort

theorem Kept.sendPause {p quanta : Nat} (h : Kept s₀ s) : Kept s₀ (s.sendPause p quanta) :=
  .ite h.setLine h.sendControl

theorem Kept.sendWaiting {p : Nat} (h : Kept s₀ s) : Kept s₀ (s.sendWaiting p) :=
  h.setLine.forEach fun _ _ h₁ => h₁.sendControl

theorem Kept.execPauseTx {port : LinePort} (h : Kept s₀ s) : Ends s₀ (execPauseTx port s) :=
  h.inCore (fun _ h₁ => .ite h₁ (.ite h₁.setLine.sendPause (.ite h₁.setLine.sendPause h₁)))

theorem Kept.execPauseRepeat {port : LinePort} (h : Kept s₀ s) : Ends s₀ (execPauseRepeat port s) :=
  h.inCore fun _ h₁ => .ite h₁.setLine.sendPause h₁

theorem Kept.execTxFrameStart {port : LinePort} (h : Kept s₀ s) : Ends s₀ (execTxFrameStart port s) := by
  unfold Machine.execTxFrameStart
  refine h.inCore fun _ h₁ => ?_
  split
  · exact .ite h₁.workFor (.share h₁.workFor.withNet fun h₂ => .ite h₂.countPort.dropSelected (.ite h₂.countPort.dropSelected ((Kept.ite
      h₂.bump.raise h₂).withNet)))
  · exact h₁

theorem Kept.execTxFrameEnd {port : LinePort} (h : Kept s₀ s) : Ends s₀ (execTxFrameEnd port s) := by
  unfold Machine.execTxFrameEnd
  refine h.inCore fun _ h₁ => ?_
  split
  · exact h₁
  · exact .share h₁.withNet.settle.lessOutstanding fun h₃ => (Kept.ite h₃.bump.raise.countPort.emit (.ite h₃.countPort.emit
      h₃.countGood.emit)).countPort.txReport.sendWaiting

theorem Kept.snapshot {g cause : Nat} (h : Kept s₀ s) : Kept s₀ (s.snapshot g cause) :=
  .ite (.ite (h.forEach (fun _ _ h₁ => h₁.set)) h.bump) (h.withLine.forEach (fun _ _ h₁ => (h₁.forEach (fun _ _ h₂ =>
      h₂.set)).set.set.set))

theorem Kept.ruleTrigger {g v : Nat} (h : Kept s₀ s) : Kept s₀ (ruleTrigger g v s).2 :=
  .ite h.snapshot h

theorem Kept.execTrigger {group : Fin 16} {master value : Nat} (h : Kept s₀ s) : Ends s₀ (execTrigger group master value s) :=
  h.rowWrite fun _ h₁ => h₁.ruleTrigger

theorem Kept.execSnapshot (h : Kept s₀ s) : Ends s₀ (execSnapshot s) := by
  unfold Machine.execSnapshot
  refine .next ?_
  split
  · rename_i _ heq
    have h₁ := h.fire.of_eq heq
    exact h₁
  · rename_i _ heq
    have h₁ := h.fire.of_eq heq
    exact h₁.snapshot

theorem Kept.setFl {n : Nat} {l : FabricLaneState} (h : Kept s₀ s) : Kept s₀ (s.setFl n l) :=
  h.withFab

theorem Kept.pmChange {n x : Nat} {f : Nat → Nat} (h : Kept s₀ s) : Kept s₀ (s.pmChange n x f) :=
  .ite ((Kept.ite h.setDom h.setFl).setDom) ((Kept.ite h.setDom h.setFl).setFl)

theorem Kept.pmAdd {n x : Nat} {l : List (Field × ℤ)} (h : Kept s₀ s) : Kept s₀ (s.pmAdd n x l) :=
  h.pmChange

theorem Kept.pmThresholds {n : Nat} (h : Kept s₀ s) : Kept s₀ (s.pmThresholds n) :=
  h.forEach fun _ _ h₁ => .ite h₁.setFl.raise h₁

theorem Kept.pmAvail {n x eb : Nat} {ses : Bool} (h : Kept s₀ s) : Kept s₀ (s.pmAvail n x eb ses) :=
  .ite (.ite h.pmAdd.setFl (.ite h.pmAdd.setFl ((h.pmAdd.forEach (fun _ _ h₁ => h₁.pmAdd)).setFl))) (.ite h.pmAdd.setFl (.ite
      h.pmAdd.setFl ((h.pmAdd.forEach (fun _ _ h₁ => h₁.pmAdd)).setFl)))

theorem Kept.pmOpen {n : Nat} (h : Kept s₀ s) : Kept s₀ (s.pmOpen n) :=
  .ite (.ite h h.setDom) ((Kept.ite h h.setDom).setDom)

theorem Kept.pmTurn {lane : Nat} (h : Kept s₀ s) : Kept s₀ (s.pmTurn lane) :=
  .ite h (.ite h.setFl (.ite h.pmOpen.setFl.pmChange h.pmOpen.setFl.pmAdd.pmAvail.pmThresholds))

theorem Kept.reachFollow (h : Kept s₀ s) : Kept s₀ s.reachFollow :=
  h.forEach (fun _ _ h₁ => .ite (.ite h₁ h₁.withFab.setUnreach) (.ite h₁ h₁.setUnreach))

theorem Kept.joinSpray {n : Nat} (h : Kept s₀ s) : Kept s₀ (s.joinSpray n) :=
  h.setFl.set.set.set.raise.reachFollow

theorem Kept.judgeLane {n : Nat} (h : Kept s₀ s) : Kept s₀ (s.judgeLane n) :=
  .ite (.ite h h.setFl.set.set.set.bump.raise.reachFollow) (.ite h.setFl.set (.ite h.setFl.set h.joinSpray))

theorem Kept.followDefects {n : Nat} (h : Kept s₀ s) : Kept s₀ (s.followDefects n) :=
  (Kept.ite h h.setFl).judgeLane

theorem Kept.reach {n : Nat} {fromElement : Bool} {quarter map : Nat} (h : Kept s₀ s) : Kept s₀ (s.reach n fromElement quarter map) :=
  .ite h (.ite h ((Kept.ite (h.setFl.forEach (fun _ _ h₁ => h₁.set)) h.setFl).set.judgeLane.reachFollow))

theorem Kept.execReach {lane : FabricLane} {fromElement : Bool} {quarter : Fin 4} {_device : Fin 256} {map : Nat} (h : Kept s₀ s) : Ends
    s₀ (execReach lane fromElement quarter _device map s) :=
  h.inCore fun _ h₁ => h₁.reach

theorem Kept.execReachTimeout {lane : FabricLane} (h : Kept s₀ s) : Ends s₀ (execReachTimeout lane s) :=
  h.inCore (fun _ h₁ => .ite h₁ (((h₁.forEach (fun _ _ h₂ => h₂.set)).judgeLane).reachFollow))

theorem Kept.execReachTx (h : Kept s₀ s) : Ends s₀ (execReachTx s) :=
  h.inCore (fun _ h₁ => h₁.forEach (fun _ _ h₂ => .ite h₂.setFl h₂))

theorem Kept.execSprayJoin {lane : FabricLane} (h : Kept s₀ s) : Ends s₀ (execSprayJoin lane s) := by
  unfold Machine.execSprayJoin
  refine h.inCore fun _ h₁ => ?_
  dsimp only
  split
  · exact .ite h₁.judgeLane.joinSpray h₁.judgeLane
  · exact h₁.judgeLane

theorem Kept.execUnreachDiscard {device : Fin 256} (h : Kept s₀ s) : Ends s₀ (execUnreachDiscard device s) := by
  unfold Machine.execUnreachDiscard
  refine h.inCore fun _ h₁ => ?_
  dsimp only
  split
  · exact h₁
  · exact .ite h₁ ((h₁.forEach (fun _ _ h₂ => h₂.discardQueued)).withFab.raise)

theorem Kept.used {d n : Nat} (h : Kept s₀ s) : Kept s₀ (s.used d n) :=
  h.withFab

theorem Kept.sprayControl (h : Kept s₀ s) : Kept s₀ s.sprayControl := by
  unfold State.sprayControl
  refine h.withFab.forEach fun _ _ h₁ => ?_
  split
  · exact h₁.setFl.workFor.used
  · exact h₁.withFab

theorem Kept.sprayData {fuel : Nat} (h : Kept s₀ s) : Kept s₀ (State.sprayData fuel s) := by
  induction fuel generalizing s with
  | zero => exact h
  | succ fuel ih =>
    unfold State.sprayData
    split
    · exact h
    · exact ih h.withFab.setFl.workFor.used

theorem Kept.spray (h : Kept s₀ s) : Kept s₀ s.spray :=
  .ite h.sprayControl.sprayData h

theorem Kept.execControlCellFlush {device : Fin 256} (h : Kept s₀ s) : Ends s₀ (execControlCellFlush device s) := by
  unfold Machine.execControlCellFlush
  refine h.inCore fun _ h₁ => ?_
  split
  · exact .ite h₁.packControl.spray h₁
  · exact h₁

theorem Kept.sendVoq {v : Nat} {k : Pkt} (h : Kept s₀ s) : Kept s₀ (s.sendVoq v k) :=
  (h.changing (fun _ h₁ => h₁.setQueue.setField)).countQueue.countQueue.bump.withFab.withSched.spray

theorem Kept.execVoqSend {slice : Fin 8} {ecc : ReadUpset} (h : Kept s₀ s) : Ends s₀ (execVoqSend slice ecc s) := by
  unfold Machine.execVoqSend
  refine h.inCore fun _ h₁ => .ite h₁ ?_
  dsimp only
  split
  · exact h₁
  · split
    · exact h₁
    · split
      · rename_i _ heq
        have h₂ := h₁.readUpset.of_eq heq
        exact h₂.discardQueued
      · rename_i _ heq
        have h₂ := h₁.readUpset.of_eq heq
        exact h₂.sendVoq

theorem Kept.grant {granting requesting q cls n : Nat} (h : Kept s₀ s) : Kept s₀ (s.grant granting requesting q cls n) :=
  .ite h.bump ((Kept.ite h.bump.bump h.bump).setField.voqFollow)

theorem Kept.execGrant {granting requesting : Fin 256} {q : Fin 64} {cls : Fin 8} {bytes : Nat} (h : Kept s₀ s) : Ends s₀ (execGrant
    granting requesting q cls bytes s) :=
  h.inCore fun _ h₁ => h₁.grant

theorem Kept.execRequestRefresh {voq : Fin 131072} (h : Kept s₀ s) : Ends s₀ (execRequestRefresh voq s) :=
  h.inCore fun _ h₁ => .ite h₁.sendRequest h₁

theorem Kept.ruleFlushQueue {v : Nat} (h : Kept s₀ s) : Kept s₀ (ruleFlushQueue v s).2 :=
  .iteSnd h ((h.forEach (fun _ _ h₁ => h₁.discardQueued)).bump.raise)

theorem Kept.execFlushQueue {master value : Nat} (h : Kept s₀ s) : Ends s₀ (execFlushQueue master value s) :=
  h.rowSlow fun _ h₁ => h₁.ruleFlushQueue

theorem Kept.creditClasses {p : Nat} (h : Kept s₀ s) : Kept s₀ (s.creditClasses p) := by
  unfold State.creditClasses
  split
  · exact h
  · exact h.forEach (fun _ _ h₁ => .ite h₁.withSched (.ite h₁.withSched h₁))

theorem Kept.creditCharge {p c n : Nat} (h : Kept s₀ s) : Kept s₀ (s.creditCharge p c n) :=
  .ite h (.ite h.withSched h.withSched)

theorem Kept.execCreditGenerate {port : Fin 136} (h : Kept s₀ s) : Ends s₀ (Machine.execCreditGenerate port s) := by
  unfold Machine.execCreditGenerate
  refine h.inCore fun s h => .ite h ?_
  have h₂ : Kept s₀ ((s.creditClasses port).creditHeld port) := h.creditClasses.creditHeld 
  generalize (s.creditClasses port).creditHeld port = s₂ at h₂ ⊢
  dsimp only
  split
  · exact h₂
  · refine .ite h₂ ?_
    split
    · exact h₂
    · split
      · exact h₂
      · exact h₂.creditCharge.withSched.bump.bump.pushMessage

theorem Kept.expireRequest {key : Nat} (h : Kept s₀ s) : Kept s₀ (s.expireRequest key) :=
  .ite h.withFab.creditClasses h

theorem Kept.request {requesting granting q cls : Nat} {on : Bool} {seq : Nat} (h : Kept s₀ s) : Kept s₀ (s.request requesting granting q
    cls on seq) :=
  .ite h (.share h.expireRequest fun h₁ => (Kept.ite h₁ h₁.set).withFab.creditClasses)

theorem Kept.execRequest {requesting granting : Fin 256} {q : Fin 64} {cls : Fin 8} {on : Bool} {seq : Fin 16} (h : Kept s₀ s) : Ends s₀
    (execRequest requesting granting q cls on seq s) :=
  h.inCore fun _ h₁ => h₁.request

theorem Kept.execRequestExpiry {requesting : Fin 256} {q : Fin 64} {cls : Fin 8} (h : Kept s₀ s) : Ends s₀ (execRequestExpiry requesting
    q cls s) :=
  h.inCore fun _ h₁ => h₁.expireRequest

theorem Kept.dropCells {cells : List OutCell} (h : Kept s₀ s) : Kept s₀ (s.dropCells cells) := by
  unfold State.dropCells
  refine h.forEach fun _ _ h₁ => ?_
  split
  · exact h₁.release
  · exact h₁

theorem Kept.ruleFlEnable {n v : Nat} (h : Kept s₀ s) : Kept s₀ (ruleFlEnable n v s).2 :=
  .iteSnd h.pmTurn.plain h.pmTurn.commit.setFl.dropCells.set.set.followDefects.spray

theorem Kept.ruleFabricSetting {key v : Nat} (h : Kept s₀ s) : Kept s₀ (ruleFabricSetting key v s).2 :=
  .iteSnd h h.plain

theorem Kept.rulePortMap {q v : Nat} (h : Kept s₀ s) : Kept s₀ (rulePortMap q v s).2 :=
  .iteSnd h (.iteSnd h h.plain)

theorem Kept.ruleGrantBytes {v : Nat} (h : Kept s₀ s) : Kept s₀ (ruleGrantBytes v s).2 :=
  .iteSnd h h.plain

theorem Kept.ruleReqLevel {v : Nat} (h : Kept s₀ s) : Kept s₀ (ruleReqLevel v s).2 :=
  .iteSnd h h.commit.voqsAgain

theorem Kept.ruleUnreachMs {v : Nat} (h : Kept s₀ s) : Kept s₀ (ruleUnreachMs v s).2 :=
  .iteSnd h h.plain

theorem Kept.setStream {k : Nat} {x : Stream} (h : Kept s₀ s) : Kept s₀ (s.setStream k x) :=
  h.withFab

theorem Kept.setCtxs {l : List Ctx} (h : Kept s₀ s) : Kept s₀ (s.setCtxs l) :=
  h.withFab.set.set

theorem Kept.dropCtx {c : Ctx} (h : Kept s₀ s) : Kept s₀ (s.dropCtx c) :=
  h.setCtxs

theorem Kept.endCtx {c : Ctx} (h : Kept s₀ s) : Kept s₀ (s.endCtx c) :=
  h.dropCtx.freeCells.creditTo

theorem Kept.nextSerial (h : Kept s₀ s) : Kept s₀ s.nextSerial :=
  h.withNet

theorem Kept.deliverCtx {c : Ctx} (h : Kept s₀ s) : Kept s₀ (s.deliverCtx c) :=
  .ite h.endCtx.bump.raise h.withFab.bump.nextSerial.withNet

theorem Kept.advanceStream {k fuel : Nat} (h : Kept s₀ s) : Kept s₀ (State.advanceStream k fuel s) := by
  induction fuel generalizing s with
  | zero => exact h
  | succ fuel ih =>
    unfold State.advanceStream
    refine .ite (ih h.setStream) ?_
    split
    · exact .ite (ih h.deliverCtx.setStream) h
    · exact h

theorem Kept.advance {k : Nat} (h : Kept s₀ s) : Kept s₀ (s.advance k) :=
  h.advanceStream

theorem Kept.loseTag {k tag : Nat} (h : Kept s₀ s) : Kept s₀ (s.loseTag k tag) :=
  h.bump.setStream.advance

theorem Kept.timeoutCtx {c : Ctx} (h : Kept s₀ s) : Kept s₀ (s.timeoutCtx c) :=
  h.endCtx.bump.raise.loseTag

theorem Kept.execReasmTimeout {source : Fin 256} {cls : Fin 8} {tag : Fin 65536} (h : Kept s₀ s) : Ends s₀ (execReasmTimeout source cls
    tag s) := by
  unfold Machine.execReasmTimeout
  refine h.inCore fun _ h₁ => ?_
  split
  · exact .ite h₁.timeoutCtx h₁
  · exact h₁

theorem Kept.loseNext {k : Nat} (h : Kept s₀ s) : Kept s₀ (s.loseNext k) := by
  unfold State.loseNext
  refine (Kept.loseTag ?_)
  split
  · exact h.endCtx
  · exact h

theorem Kept.execHeadLoss {source : Fin 256} {cls : Fin 8} (h : Kept s₀ s) : Ends s₀ (execHeadLoss source cls s) := by
  unfold Machine.execHeadLoss
  refine h.inCore fun _ h₁ => ?_
  dsimp only
  split
  · exact h₁
  · exact .ite h₁.loseNext (.ite h₁.setStream h₁)

theorem Kept.dueLosses (h : Kept s₀ s) : Kept s₀ s.dueLosses :=
  h.forEach fun _ _ h₁ => .ite h₁.setStream.loseNext h₁

theorem Kept.skipTags {k n : Nat} (h : Kept s₀ s) : Kept s₀ (s.skipTags k n) :=
  (h.forEach (fun _ _ h₁ => .ite h₁.deliverCtx h₁.endCtx)).bump.setStream

theorem Kept.resync {k tag : Nat} (h : Kept s₀ s) : Kept s₀ (s.resync k tag) :=
  (h.forEach (fun _ _ h₁ => h₁.endCtx.bump)).setStream

theorem Kept.holdBytes {c : Ctx} {n : Nat} (h : Kept s₀ s) : Kept s₀ (s.holdBytes c n).2.2 :=
  .iteSnd₂ h (.iteSnd₂ h h.takeCells.chargeTo)

theorem Kept.joinCtx {lane : Nat} {c : Ctx} {x : Nat} {payload : List Byte} (h : Kept s₀ s) : Kept s₀ (s.joinCtx lane c x payload) :=
  .ite h.endCtx.bump.raise.loseTag (.ite h.holdBytes.setCtxs.advance h.holdBytes.endCtx.loseTag)

theorem Kept.windowCell {lane x : Nat} {payload : List Byte} (h : Kept s₀ s) : Kept s₀ (s.windowCell lane x payload) := by
  unfold State.windowCell
  refine .ite h.bump ?_
  dsimp only
  split
  · exact (Kept.ite h h.setStream).joinCtx
  · exact .ite (Kept.ite h h.setStream).bump.loseTag (Kept.ite h h.setStream).setCtxs.joinCtx

theorem Kept.dataCell {lane x : Nat} {payload : List Byte} (h : Kept s₀ s) : Kept s₀ (s.dataCell lane x payload) := by
  unfold State.dataCell
  refine .share ?_ fun h₁ => .share (.ite h₁ h₁.setStream) fun h₂ => .share (.ite h₂.resync h₂) fun h₃ => .ite h₃.bump (.ite
      h₃.skipTags.advance.windowCell h₃.windowCell)
  split
  · exact .ite h.timeoutCtx h
  · exact h

theorem Kept.dataCells (h : Kept s₀ s) : Kept s₀ s.dataCells :=
  h.withFab.forEach fun _ _ h₁ => h₁.dataCell

theorem Kept.message {lane t m : Nat} (h : Kept s₀ s) : Kept s₀ (s.message lane t m) := by
  unfold State.message
  dsimp only
  split
  · exact .ite h.bump h.request
  · exact .ite h.bump h.grant
  · exact .ite h.bump h.reach
  · exact h.bump

theorem Kept.setFlowRx {f : Nat} {x : Option FlowRx} (h : Kept s₀ s) : Kept s₀ (s.setFlowRx f x) :=
  h.withFab

theorem Kept.updatePkt {id : Nat} {f : Pkt → Pkt} (h : Kept s₀ s) : Kept s₀ (s.updatePkt id f) :=
  h.withNet.updateSelected

theorem Kept.flowEnd {id n : Nat} {bad : Bool} (h : Kept s₀ s) : Kept s₀ (s.flowEnd id n bad) := by
  have h₁ : Kept s₀ (match s.selected id with
      | some k => if k.unfinished then s.wireActual k.dest k.charge k.bytes.length else s
      | none => s) := by
    split
    · exact .ite h.wireActual h
    · exact h
  unfold State.flowEnd
  refine .ite (.ite ?_ h₁.updatePkt.updatePkt) ?_
  · split
    · exact h₁.updatePkt.withNet.bump.raise.dropPacket
    · exact h₁.updatePkt
  · split
    · exact h₁.updatePkt.lastUnit
    · split
      · exact h₁.updatePkt.lastUnit
      · exact h₁.updatePkt

theorem Kept.endFlow {f : Nat} (h : Kept s₀ s) : Kept s₀ (s.endFlow f) := by
  unfold State.endFlow
  split
  · exact h.setFlowRx.flowEnd
  · exact h

theorem Kept.storeFlow {id n : Nat} (h : Kept s₀ s) : Kept s₀ (s.storeFlow id n) := by
  unfold State.storeFlow
  split
  · exact h.store.setQueue
  · split
    · exact h.store.updateSelected
    · exact h

theorem Kept.flowBytes {f : Nat} {x : FlowRx} {l : List Byte} {last fill : Bool} {ecc : ReadUpset} (h : Kept s₀ s) : Kept s₀ (s.flowBytes
    f x l last fill ecc) := by
  unfold State.flowBytes
  refine .share ?_ fun h₂ => .ite h₂.setFlowRx.flowEnd h₂.setFlowRx
  split
  · exact .ite h.updatePkt.storeFlow.readArrived h.updatePkt.storeFlow
  · exact h.updatePkt.storeFlow

theorem Kept.openFlow {lane k f x : Nat} {payload : List Byte} (h : Kept s₀ s) : Kept s₀ (s.openFlow lane k f x payload) :=
  .share h.nextSerial.setFlowRx fun h₁ => .share (.ite h₁.bump.raise h₁.withNet) fun h₂ => .ite h₂.setFlowRx.flowEnd h₂

theorem Kept.slotError {lane f : Nat} {counter : Option Nat} (h : Kept s₀ s) : Kept s₀ (s.slotError lane f counter) := by
  unfold State.slotError
  refine (Kept.endFlow ?_).raise
  split
  · exact h.bump
  · exact h

theorem Kept.aisSlot {lane k f : Nat} (h : Kept s₀ s) : Kept s₀ (s.aisSlot lane k f) := by
  unfold State.aisSlot
  split
  · exact h.bump
  · exact .ite h.bump.slotError (.ite h.bump.slotError h.bump.flowBytes)

theorem Kept.scheduledCell {lane k e x : Nat} {payload : List Byte} {ecc : ReadUpset} (h : Kept s₀ s) : Kept s₀ (s.scheduledCell lane k e
    x payload ecc) := by
  unfold State.scheduledCell
  refine .ite h.slotError ?_
  dsimp only
  split
  · exact .ite h.openFlow h.slotError
  · exact .ite h.flowBytes h.slotError

theorem Kept.aisCell {lane frame slot : Nat} (h : Kept s₀ s) : Kept s₀ (s.aisCell lane frame slot) := by
  unfold State.aisCell
  split
  · exact .ite h.aisSlot h.bump
  · exact h.bump

theorem Kept.cell {lane frame slot : Nat} {c : List Byte} {ecc : ReadUpset} (h : Kept s₀ s) : Kept s₀ (s.cell lane frame slot c ecc) := by
  unfold State.cell
  refine .ite (Kept.ite h h.bump).aisCell (.ite ?_ (.ite (.ite (Kept.ite h h.bump).bump (.ite h h.bump)) (.ite ?_ (.ite ?_ (.ite (.ite
      (Kept.ite (Kept.ite h h.bump).bump (.ite h h.bump)).withFab (.ite (Kept.ite h h.bump).bump (.ite h h.bump))) (.ite ((Kept.ite
          (Kept.ite h h.bump).bump (.ite h h.bump)).forEach (fun _ _ h₃ => h₃.message)) (.ite (Kept.ite h h.bump).bump (.ite h
              h.bump))))))))
  · dsimp only
    split
    · exact .ite (Kept.ite h h.bump).bump.raise.aisSlot (Kept.ite h h.bump).bump.raise
    · exact (Kept.ite h h.bump).bump.raise
  · split
    · exact .ite (Kept.ite (Kept.ite h h.bump).bump (.ite h h.bump)).slotError (.ite (Kept.ite h h.bump).bump (.ite h h.bump))
    · exact (.ite (Kept.ite h h.bump).bump (.ite h h.bump))
  · split
    · exact .ite (.ite (Kept.ite h h.bump).bump (.ite h h.bump)) (.ite (.ite (Kept.ite (Kept.ite h h.bump).bump (.ite h
        h.bump)).slotError (Kept.ite (Kept.ite h h.bump).bump (.ite h h.bump)).scheduledCell) (Kept.ite (Kept.ite h h.bump).bump (.ite h
            h.bump)).bump.raise)
    · exact (.ite (Kept.ite h h.bump).bump (.ite h h.bump))

theorem Kept.execCellRx {lane : FabricLane} {frame : Fin 64} {slot : Fin 16} {cell : RxCell} (h : Kept s₀ s) : Ends s₀ (execCellRx lane
    frame slot cell s) :=
  h.inCore fun _ h₁ => .ite h₁.cell h₁

theorem Kept.ruleFabricEnable {v : Nat} (h : Kept s₀ s) : Kept s₀ (Machine.ruleFabricEnable v s).2 := by
  unfold Machine.ruleFabricEnable
  extract_lets s₁ waiting net s₂ s₃ s₄ s₅ s₅b s₆ s₇ fab s₈
  have h₁ : Kept s₀ s₁ := h.commit
  have h₃ : Kept s₀ s₃ := Kept.forEach h₁.withNet fun _ _ h => h.freeHeld.dropPacket
  have h₄ : Kept s₀ s₄ := h₃.forEach fun _ _ h => h.endCtx
  have h₅ : Kept s₀ s₅ := h₄.forEach fun _ _ h => h.endFlow
  have h₆ : Kept s₀ s₆ := Kept.forEach h₅.dropCells fun _ _ h => h.setFl.dropCells
  have h₇ : Kept s₀ s₇ := h₆.forEach fun _ _ h => by
    split
    · exact h.release
    · exact h
  have h₈ : Kept s₀ s₈ := .ite h₁ h₇.withFab
  exact .snd (h₈.forEach fun _ _ h => h.judgeLane)

theorem Kept.execFabricEnable {master value : Nat} (h : Kept s₀ s) : Ends s₀ (execFabricEnable master value s) :=
  h.rowWrite fun _ h₁ => h₁.ruleFabricEnable

theorem Kept.execSchedFlowTimeout {flow : Fin 4096} (h : Kept s₀ s) : Ends s₀ (execSchedFlowTimeout flow s) := by
  unfold Machine.execSchedFlowTimeout
  refine h.inCore fun _ h₁ => ?_
  split
  · exact .ite h₁.slotError h₁
  · exact h₁

theorem Kept.flipPage {k n : Nat} (h : Kept s₀ s) : Kept s₀ (s.flipPage k n) := by
  unfold State.flipPage
  refine (h.set.bump.withFab.forEach (fun _ _ h₂ => ?_)).raise.voqsAgain
  split
  · exact h₂.release.bump.withFab
  · exact h₂

theorem Kept.reservedCell {e : Nat} (h : Kept s₀ s) : Kept s₀ (s.reservedCell e).2 := by
  unfold State.reservedCell
  refine .iteSnd h ?_
  split
  · dsimp only
    split
    · exact h
    · exact h.release.withFab
    · exact h.withFab
  · dsimp only
    split
    · exact h
    · have h₁ (q : Nat) (f : State → List Pkt) : Kept s₀ (s.changing q fun s => s.setQueue q (f s)) := h.changing fun _ h => h.setQueue
      split
      · exact (h₁ _ _).countQueue.countQueue.bump
      · exact (h₁ _ _).countQueue.countQueue.bump.release.withFab
      · exact (h₁ _ _).countQueue.countQueue.bump.withFab

theorem Kept.frameCells {n c : Nat} {l : List (Option Nat)} (h : Kept s₀ s) : Kept s₀ (State.frameCells n l c s).2 := by
  induction l generalizing c s with
  | nil => exact h
  | cons e l ih =>
    cases e with
    | some e =>
      exact ih (Kept.iteSnd (a := s.reservedCell e) (b := (s.idleCell, if s.flowWaits e then s.workFor (136 + n / 20) 0 else s))
        h.reservedCell (.ite h.workFor h))
    | none =>
      unfold State.frameCells
      dsimp only
      split
      · exact ih h.setFl
      · exact ih h.setFl.dropCells
      · exact ih h

theorem Kept.requestPage {k : Nat} (h : Kept s₀ s) : Kept s₀ (s.requestPage k) :=
  .ite h (.ite h.bump h.withFab)

theorem Kept.duePages {k : Nat} (h : Kept s₀ s) : Kept s₀ (s.duePages k) :=
  (Kept.ite h h.withTime).forEach fun _ _ h₂ => .ite h₂.bumpW h₂.set.requestPage

theorem Kept.execTxLinkFrame {lane : FabricLane} (h : Kept s₀ s) : Ends s₀ (execTxLinkFrame lane s) := by
  unfold Machine.execTxLinkFrame
  refine h.inCore fun _ h₁ => .ite h₁ (Kept.spray ?_).frameCells.setFl.bump.emit
  split
  · exact .ite h₁.duePages.flipPage h₁.duePages
  · exact h₁

theorem Kept.endedBefore {n d : Nat} (h : Kept s₀ s) : Kept s₀ (s.endedBefore n d) :=
  .ite h.setFl h

theorem Kept.markDefect {n d : Nat} {on : Bool} (h : Kept s₀ s) : Kept s₀ (s.markDefect n d on) :=
  .ite h (.ite h.pmTurn.setFl.set.raise h.pmTurn.endedBefore.set.raise)

theorem Kept.setDefect {n d : Nat} {on : Bool} (h : Kept s₀ s) : Kept s₀ (s.setDefect n d on) :=
  h.markDefect.followDefects

theorem Kept.afresh {n : Nat} (h : Kept s₀ s) : Kept s₀ (s.afresh n) :=
  h.setFl

theorem Kept.maskDefects {n : Nat} (h : Kept s₀ s) : Kept s₀ (s.maskDefects n) :=
  h.afresh.markDefect.markDefect.markDefect

theorem Kept.hunt {n : Nat} (h : Kept s₀ s) : Kept s₀ (s.hunt n) :=
  (Kept.ite h.bump h).setFl.set

theorem Kept.execLos {lane : FabricLane} (h : Kept s₀ s) : Ends s₀ (execLos lane s) :=
  h.inCore fun _ h₁ => .ite h₁.setFl h₁.setFl.hunt.maskDefects.markDefect.setDefect

theorem Kept.judgeTim {n : Nat} {now : Bool} (h : Kept s₀ s) : Kept s₀ (s.judgeTim n now) :=
  .ite h.setDefect (.ite h.setDefect (.ite h.setDefect h))

theorem Kept.execLosClear {lane : FabricLane} (h : Kept s₀ s) : Ends s₀ (execLosClear lane s) :=
  h.inCore (fun _ h₁ => .ite h₁ (.ite h₁.setFl (.ite h₁.setFl.afresh.markDefect.judgeTim.followDefects h₁.setFl.markDefect.setDefect)))

theorem Kept.enterSync {n fn : Nat} (h : Kept s₀ s) : Kept s₀ (s.enterSync n fn) :=
  .share h.setFl.set.markDefect fun h₁ => (Kept.ite h₁ h₁.judgeTim).followDefects

theorem Kept.closeCandidates {n : Nat} {open' : List FawCandidate} (h : Kept s₀ s) : Kept s₀ (s.closeCandidates n open') :=
  .ite h h.setFl.set

theorem Kept.staleCandidates (h : Kept s₀ s) : Kept s₀ s.staleCandidates :=
  h.forEach fun _ _ h₁ => h₁.closeCandidates

theorem Kept.syncLanes (h : Kept s₀ s) : Kept s₀ s.syncLanes :=
  h.forEach fun _ _ h₁ => h₁.enterSync

theorem Kept.execFawMatch {lane : FabricLane} {position : Nat} {frameNum : Fin 64} (h : Kept s₀ s) : Ends s₀ (execFawMatch lane position
    frameNum s) := by
  unfold Machine.execFawMatch
  refine h.inCore fun _ h₁ => .ite h₁ ?_
  dsimp only
  split
  · exact .ite (.ite h₁.setFl h₁.setFl.set) h₁.setFl.set
  · exact .ite h₁.setFl.set h₁.setFl.set.bump

theorem Kept.erroredBlock {n : Nat} (h : Kept s₀ s) : Kept s₀ (s.erroredBlock n) :=
  h.pmTurn.bump.setFl

theorem Kept.checkBip {n bip xor : Nat} {uncorrectable : Bool} (h : Kept s₀ s) : Kept s₀ (s.checkBip n bip xor uncorrectable) := by
  unfold State.checkBip
  refine .share ?_ fun h₁ => (Kept.ite h₁.erroredBlock h₁).setFl
  split
  · exact .ite h.erroredBlock h
  · exact h

theorem Kept.checkTrace {n byte : Nat} {errored : Bool} (h : Kept s₀ s) : Kept s₀ (s.checkTrace n byte errored).2 := by
  unfold State.checkTrace
  refine .iteSnd h.setFl ?_
  split
  · exact h.setFl
  · exact .iteSnd h.setFl (.iteSnd h.setFl.set h.setFl)

theorem Kept.checkIndications {n : Nat} {ais rdi : Bool} (h : Kept s₀ s) : Kept s₀ (s.checkIndications n ais rdi) :=
  .share (.ite h.setFl.setDefect (.ite h.setFl.setDefect h.setFl)) fun h₁ => .ite h₁.setDefect (.ite h₁.setDefect h₁)

theorem Kept.checkPage {n page : Nat} {errored : Bool} (h : Kept s₀ s) : Kept s₀ (s.checkPage n page errored) := by
  unfold State.checkPage
  split
  · exact h
  · refine .ite (.ite h.setFl h.setFl.set) (.ite h.setFl.set ?_)
    split
    · exact .ite h h.bump
    · exact h

theorem Kept.freshLoaf {n : Nat} (h : Kept s₀ s) : Kept s₀ (s.freshLoaf n) :=
  h.setFl

theorem Kept.partFrame {n : Nat} {body : List Byte} (h : Kept s₀ s) : Kept s₀ (s.partFrame n body) :=
  (h.checkPage.forEach (fun _ _ h₁ => .ite h₁.aisCell h₁.cell)).setFl

theorem Kept.execRxLinkFrame {lane : FabricLane} {frame : List Byte} {symbols : Nat} {uncorrectable : FecErrors} (h : Kept s₀ s) : Ends
    s₀ (execRxLinkFrame lane frame symbols uncorrectable s) :=
  h.inCore (fun _ h₁ => .ite h₁ (.share h₁.pmTurn.setFl fun h₂ => .ite h₂ (.ite h₂.partFrame (.share h₂.checkBip fun h₃ => .share
      (Kept.ite h₃.bump.setFl h₃.setFl).checkTrace fun h₅ => .share (.ite h₅ h₅.checkIndications) fun h₆ => .share ((Kept.ite h₆
          h₆.judgeTim).checkPage.forEach (fun _ _ h₉ => .ite h₉.aisCell h₉.cell)).setFl fun h₁₀ => .ite (.share h₁₀.hunt.maskDefects fun
              h₁₁ => .ite h₁₁.followDefects h₁₁.setDefect) h₁₀))))

theorem Kept.execRxFrameCounter {lane : FabricLane} (h : Kept s₀ s) : Ends s₀ (execRxFrameCounter lane s) :=
  h.inCore (fun _ h₁ => .ite h₁ ((h₁.forEach (fun _ _ h₂ => h₂.aisCell)).setFl))

theorem Kept.execPageSwitch (h : Kept s₀ s) : Ends s₀ (execPageSwitch s) := by
  unfold Machine.execPageSwitch
  refine .next ?_
  split
  · rename_i _ heq
    have h₁ := h.fire.of_eq heq
    exact h₁
  · rename_i _ heq
    have h₁ := h.fire.of_eq heq
    exact h₁.requestPage

theorem Kept.ruleSlEnable {k v : Nat} (h : Kept s₀ s) : Kept s₀ (ruleSlEnable k v s).2 := by
  unfold Machine.ruleSlEnable
  refine .iteSnd h ((Kept.ite (.ite h.commit.freshLoaf h.commit) ((h.commit.forEach (fun _ _ h₁ => ?_)).withFab)).voqsAgain)
  split
  · exact h₁.release.bump.withFab
  · exact h₁

theorem Kept.execSlEnable {lane : Fin 16} {master value : Nat} (h : Kept s₀ s) : Ends s₀ (execSlEnable lane master value s) :=
  h.rowWrite fun _ h₁ => h₁.ruleSlEnable

theorem Kept.ruleSlLane {k v : Nat} (h : Kept s₀ s) : Kept s₀ (ruleSlLane k v s).2 :=
  .iteSnd h h.plain

theorem Kept.execPmSecond {lane : FabricLane} (h : Kept s₀ s) : Ends s₀ (execPmSecond lane s) :=
  h.inCore fun _ h₁ => h₁.pmTurn

theorem Kept.pmFinal {n : Nat} {c : PmClosed} (h : Kept s₀ s) : Kept s₀ (s.pmFinal n c) :=
  .ite h.setDom ((h.forEach (fun _ _ h₁ => h₁.setDom)).setDom)

theorem Kept.execPmBinFinal {lane : FabricLane} (h : Kept s₀ s) : Ends s₀ (execPmBinFinal lane s) :=
  h.inCore (fun _ h₁ => h₁.setFl.forEach (fun _ _ h₂ => h₂.pmFinal))

theorem Kept.closeBins {t suspect : Nat} {day : Option Nat} (h : Kept s₀ s) : Kept s₀ (s.closeBins t suspect day) := by
  unfold State.closeBins
  dsimp only
  split
  · exact (h.forEach (fun _ _ h₁ => .share h₁.pmTurn.pmOpen.setFl.setDom fun h₂ => .ite h₂.setFl.setDom h₂)).withTime.set.set.set
  · exact (h.forEach (fun _ _ h₁ => .share h₁.pmTurn.pmOpen.setFl.setDom fun h₂ => .ite h₂.setFl.setDom h₂)).withTime.set.set

theorem Kept.execBinBoundary (h : Kept s₀ s) : Ends s₀ (execBinBoundary s) :=
  h.inCore (fun _ h₁ => .ite h₁ (h₁.closeBins.forEach (fun _ _ h₃ => h₃.snapshot)))

theorem Kept.ruleDayOffset {v : Nat} (h : Kept s₀ s) : Kept s₀ (ruleDayOffset v s).2 :=
  .snd (h.commit (key := Obj.PERF_BIN_CLOCK_DAY_OFFSET) (v := v)).closeBins

theorem Kept.execDayOffset {master value : Nat} (h : Kept s₀ s) : Ends s₀ (execDayOffset master value s) :=
  h.rowWrite fun _ h₁ => h₁.ruleDayOffset

theorem Kept.setChan {k : Nat} {c : HbmChannel} (h : Kept s₀ s) : Kept s₀ (s.setChan k c) :=
  h.withHbm

theorem Kept.setRow {k : Nat} {r : Option OpenRow} (h : Kept s₀ s) : Kept s₀ (s.setRow k r) :=
  h.withHbm

theorem Kept.hbmStore {stack sector mask : Nat} {data : List Byte} (h : Kept s₀ s) : Kept s₀ (s.hbmStore stack sector mask data) := by
  unfold State.hbmStore
  refine .ite (h.withHbm fun w => Table.put_wf w) (h.forEach (fun _ _ h₁ => ?_))
  split
  · exact h₁.setDom.repair
  · exact h₁

theorem Kept.hbmRequest {stack sector : Nat} {r : HbmRequester} {write : Option (Nat × List Byte)} {ecc : SectorEcc} (h : Kept s₀ s) :
    Kept s₀ (s.hbmRequest stack sector r write ecc) :=
  .ite h h.setChan

theorem Kept.execHbmRead {space : HbmSpace} {address : Nat} {requester : HbmRequester} {ecc : SectorEcc} (h : Kept s₀ s) : Ends s₀
    (execHbmRead space address requester ecc s) :=
  h.inCore fun _ h₁ => h₁.hbmRequest

theorem Kept.execHbmWrite {space : HbmSpace} {address : Nat} {requester : HbmRequester} {mask : Nat} {data : List Byte} (h : Kept s₀ s) :
    Ends s₀ (execHbmWrite space address requester mask data s) :=
  h.inCore fun _ h₁ => h₁.hbmRequest

theorem Kept.hbmCorrected {stack c words : Nat} (h : Kept s₀ s) : Kept s₀ (s.hbmCorrected stack c words) :=
  .share h.setChan.bump fun h₁ => .ite h₁.raise h₁

theorem Kept.renewRecord {sector byte : Nat} (h : Kept s₀ s) : Kept s₀ (s.renewRecord sector byte) := by
  unfold State.renewRecord
  split
  · exact (Kept.ite h h.setDom).repair
  · exact h

theorem Kept.hbmUncorrectable {stack sector c : Nat} {words : List Nat} {r : HbmRequester} (h : Kept s₀ s) : Kept s₀ (s.hbmUncorrectable
    stack sector c words r) := by
  unfold State.hbmUncorrectable
  dsimp only
  split
  · exact (Kept.ite (h.forEach (fun _ _ h₁ => h₁.bump.raise)) ((h.forEach (fun _ _ h₁ => h₁.bump.raise)).forEach (fun _ _ h₂ =>
      h₂.damage))).bump.raise.endPacket
  · exact (Kept.ite (h.forEach (fun _ _ h₁ => h₁.bump.raise)) ((h.forEach (fun _ _ h₁ => h₁.bump.raise)).forEach (fun _ _ h₂ =>
      h₂.damage))).renewRecord
  · exact (Kept.ite (h.forEach (fun _ _ h₁ => h₁.bump.raise)) ((h.forEach (fun _ _ h₁ => h₁.bump.raise)).forEach (fun _ _ h₂ =>
      h₂.damage))).renewRecord
  · exact (.ite (h.forEach (fun _ _ h₁ => h₁.bump.raise)) ((h.forEach (fun _ _ h₁ => h₁.bump.raise)).forEach (fun _ _ h₂ => h₂.damage)))

theorem Kept.hbmOrderRead {ch : Nat} {r : HbmRequest} (h : Kept s₀ s) : Kept s₀ (s.hbmOrderRead ch r) := by
  unfold State.hbmOrderRead
  dsimp only
  split
  · exact .ite h.bump.emit h.setChan.bump
  · exact h.setChan

theorem Kept.hbmOrder {ch : Nat} (h : Kept s₀ s) : Kept s₀ (s.hbmOrder ch) := by
  unfold State.hbmOrder
  split
  · exact h
  · dsimp only
    split
    · exact h.setChan.hbmStore
    · exact h.setChan.hbmOrderRead

theorem Kept.hbmAccess {ch : Nat} {r : HbmRequest} (h : Kept s₀ s) : Kept s₀ (s.hbmAccess ch r) :=
  h.setRow

theorem Kept.hbmIssueRead {ch : Nat} {r : HbmRequest} (h : Kept s₀ s) : Kept s₀ (s.hbmIssueRead ch r) :=
  .share h.setChan.hbmAccess fun h₁ => .share (.ite h₁ h₁.hbmCorrected) fun h₂ => .ite h₂.emit h₂.hbmUncorrectable

theorem Kept.hbmIssueWrite {ch : Nat} (h : Kept s₀ s) : Kept s₀ (s.hbmIssueWrite ch) := by
  unfold State.hbmIssueWrite
  dsimp only
  split
  · exact h
  · exact h.setChan.hbmAccess

theorem Kept.refreshBank {ch b : Nat} (h : Kept s₀ s) : Kept s₀ (s.refreshBank ch b) :=
  h.setRow.setChan

theorem Kept.hbmResume {ch : Nat} (h : Kept s₀ s) : Kept s₀ (s.hbmResume ch) :=
  h.setChan.forEach fun _ _ h₁ => h₁.refreshBank

theorem Kept.hbmIssue {ch : Nat} (h : Kept s₀ s) : Kept s₀ (s.hbmIssue ch) := by
  have h₁ : Kept s₀ (match (s.chan ch).pause with
      | some t => if t ≤ s.time.now then s.hbmResume ch else s
      | none => s) := by
    split
    · exact .ite h.hbmResume h
    · exact h
  unfold State.hbmIssue
  refine .ite h₁ ?_
  split
  · exact h₁.hbmIssueRead
  · exact .ite h₁.hbmIssueWrite h₁

theorem Kept.hbmSleep (h : Kept s₀ s) : Kept s₀ s.hbmSleep := by
  unfold State.hbmSleep
  refine .ite ?_ (.ite h.withHbm h)
  split
  · exact .ite h h.withHbm
  · exact .ite h h.withHbm

theorem Kept.hbmCycle (h : Kept s₀ s) : Kept s₀ s.hbmCycle :=
  h.hbmSleep.forEach fun _ _ h₁ => .ite h₁ h₁.hbmOrder.hbmIssue

theorem Kept.execWriteDrainTimeout {stack : Fin 4} {channel : Fin 32} (h : Kept s₀ s) : Ends s₀ (execWriteDrainTimeout stack channel s) :=
  h.inCore fun _ h₁ => h₁.setChan

theorem Kept.execRowOpenTimeout {stack : Fin 4} {channel : Fin 32} {bank : Fin 16} (h : Kept s₀ s) : Ends s₀ (execRowOpenTimeout stack
    channel bank s) := by
  unfold Machine.execRowOpenTimeout
  refine h.inCore fun _ h₁ => ?_
  dsimp only
  split
  · exact .ite h₁.setRow h₁
  · exact h₁

theorem Kept.execHbmRefresh {stack : Fin 4} {channel : Fin 32} (h : Kept s₀ s) : Ends s₀ (execHbmRefresh stack channel s) :=
  h.inCore fun _ h₁ => .ite h₁ h₁.refreshBank

theorem Kept.setStackTemp {k : Nat} {t : ℤ} (h : Kept s₀ s) : Kept s₀ (s.setStackTemp k t) :=
  .ite h.set.set.raise (.ite h.set.set.raise h.set)

theorem Kept.execRetrainDue {stack : Fin 4} {channel : Fin 32} (h : Kept s₀ s) : Ends s₀ (execRetrainDue stack channel s) :=
  h.inCore fun _ h₁ => .ite h₁.setChan h₁

theorem Kept.failChannel {stack c : Nat} (h : Kept s₀ s) : Kept s₀ (s.failChannel stack c) :=
  .share (h.set.setChan.forEach (fun _ _ h₂ => h₂.setRow)) fun h₂ => (Kept.ite (((h₂.forEach (fun _ _ h₃ => h₃.discardQueued)).forEach
      (fun _ _ h₄ => h₄.countQueue.endPacket)).lowWater) h₂).raise

theorem Kept.execRetrainStep {stack : Fin 4} {channel : Fin 32} {good repeatGood : Bool} (h : Kept s₀ s) : Ends s₀ (execRetrainStep stack
    channel good repeatGood s) :=
  h.inCore (fun _ h₁ => .ite h₁ (.share (h₁.withHbm.forEach (fun _ _ h₂ => h₂.setRow)).bump fun h₃ => .share (.ite h₃ h₃.bump.raise) fun
      h₄ => .ite h₄.failChannel (.ite h₄.failChannel h₄.setChan)))

theorem Kept.execHbmScrub {stack : Fin 4} {ecc : SectorEcc} (h : Kept s₀ s) : Ends s₀ (execHbmScrub stack ecc s) :=
  h.inCore fun _ h₁ => .ite h₁ h₁.withHbm.hbmRequest

theorem sampleDefault_ne_zero {e : Nat} (h : e < 655360) : 0 ≠ domDefault (domKey Dom.QUEUE_SAMPLES e) := by
  have hd : domKey Dom.QUEUE_SAMPLES e / 0x100000000 = Dom.QUEUE_SAMPLES := by
    simp only [domKey, Dom.QUEUE_SAMPLES]
    omega
  unfold domDefault
  rw [hd]
  exact (by decide : 0 ≠ (match domRow Dom.QUEUE_SAMPLES with | some r => r.dflt | none => 0))

theorem Kept.ruleHbmOrder {g key v : Nat} (h : Kept s₀ s) : Kept s₀ (Machine.ruleHbmOrder g key v s).2 := by
  unfold Machine.ruleHbmOrder
  extract_lets s₁ gone s₂ zeros below above s₃ parse s₄
  have h₁ : Kept s₀ s₁ := h.commit
  have h₂ : Kept s₀ s₂ := h₁.forEach fun _ _ h => h.forEach fun _ _ h => h.setDom
  have h₃ : Kept s₀ s₃ :=
    .ite (h₂.withDoms fun w => domsWf_relisted w (by decide) fun _ => sampleDefault_ne_zero) h₂
  exact .iteSnd (.iteSnd h h.plain) (.snd h₃.withParse)

theorem Kept.execHbmRegionOrder {region : Fin 3} {hash : Bool} {master value : Nat} (h : Kept s₀ s) : Ends s₀ (execHbmRegionOrder region
    hash master value s) :=
  .ite (h.rowWrite (fun _ h₁ => h₁.ruleHbmOrder)) (h.rowSlow (fun _ h₁ => h₁.ruleHbmOrder))

theorem Kept.openReturn (h : Kept s₀ s) : Kept s₀ s.openReturn.2 :=
  h.fresh

theorem Kept.finishJob {j : Job} {dma : Dma} {st : Status} {ret : Nat} (h : Kept s₀ s) : Kept s₀ (s.finishJob j dma st ret) :=
  h.complete

theorem Kept.failJob {j : Job} {dma : Dma} {st : Status} (h : Kept s₀ s) : Kept s₀ (s.failJob j dma st) :=
  h.openReturn.finishJob

theorem Kept.dmaFailed {j : Job} {dma : Dma} (h : Kept s₀ s) : Kept s₀ (s.dmaFailed j dma) :=
  h.emit.set.raise.failJob

theorem Kept.endJob {j : Job} {dma : Dma} {st : Status} {ret : Nat} (h : Kept s₀ s) : Kept s₀ (s.endJob j dma st ret) := by
  unfold State.endJob
  split
  · exact h.finishJob
  · exact h.dmaFailed
  · exact h.failJob

theorem Kept.runJob {sq index opcode : Nat} {dma : Dma} {f : Job → State → Option JobRes} (h : Kept s₀ s)
    (hf : ∀ j s, Kept s₀ s → Answers s₀ (f j s)) : Ends s₀ (s.runJob sq index opcode dma f) := by
  unfold State.runJob
  refine h.inCore fun _ h₁ => ?_
  split
  · exact h₁
  · split
    · exact h₁
    · rename_i heq
      exact (hf _ _ h₁ _ heq).endJob

theorem Kept.jobWrite {j : Job} {addr : Nat} {data : List Byte} (h : Kept s₀ s) : Kept s₀ (s.jobWrite j addr data) :=
  h.forEach fun _ _ h₁ => h₁.emit

theorem Kept.tableJob {k : TableJob} {sq index opcode : Nat} {upsets : List Upset} {dma : Dma} {f : Job → State → Option JobRes}
    (h : Kept s₀ s) (hf : ∀ j s, Kept s₀ s → Answers s₀ (f j s)) : Ends s₀ (s.tableJob k sq index opcode upsets dma f) :=
  h.runJob fun j _ h₁ => .ite .none (.ite (.some h₁) (.ite (.some h₁)
    (.share (h₁.forEach fun _ _ h₂ => h₂.upset) fun h₂ => .ite (.some h₂) (hf j _ h₂))))

theorem Kept.execEmInsert {sq : Fin 1024} {index : Nat} {upsets : List Upset} {dma : Dma} (h : Kept s₀ s) : Ends s₀ (execEmInsert sq
    index upsets dma s) :=
  h.tableJob (fun _ _ h₁ => .ite .none (.some h₁.emInsert))

theorem Kept.execEmDelete {sq : Fin 1024} {index : Nat} {upsets : List Upset} {dma : Dma} (h : Kept s₀ s) : Ends s₀ (execEmDelete sq
    index upsets dma s) := by
  unfold Machine.execEmDelete
  refine h.tableJob fun _ _ h₁ => ?_
  split
  · rename_i _ heq
    have h₂ := h₁.emDelete.of_eq heq
    exact .some h₂
  · rename_i _ heq
    have h₂ := h₁.emDelete.of_eq heq
    exact .some h₂

theorem Kept.execEmLookup {sq : Fin 1024} {index : Nat} {upsets : List Upset} {dma : Dma} (h : Kept s₀ s) : Ends s₀ (execEmLookup sq
    index upsets dma s) := by
  unfold Machine.execEmLookup
  refine h.tableJob fun _ _ h₁ => ?_
  split
  · exact .some (.ite h₁.emPut h₁)
  · exact .some h₁

theorem Kept.execEmReadIndex {sq : Fin 1024} {index : Nat} {upsets : List Upset} {dma : Dma} (h : Kept s₀ s) : Ends s₀ (execEmReadIndex
    sq index upsets dma s) :=
  h.tableJob (fun _ _ h₁ => .ite (.some h₁.jobWrite) (.some h₁))

theorem Kept.execEmUnlock {sq : Fin 1024} {index : Nat} {upsets : List Upset} {dma : Dma} (h : Kept s₀ s) : Ends s₀ (execEmUnlock sq
    index upsets dma s) := by
  unfold Machine.execEmUnlock
  refine h.tableJob fun _ _ h₁ => ?_
  split
  · exact .some h₁.emPut
  · exact .some h₁

theorem Kept.execRouteAdd {sq : Fin 1024} {index : Nat} {upsets : List Upset} {dma : Dma} (h : Kept s₀ s) : Ends s₀ (execRouteAdd sq
    index upsets dma s) :=
  h.tableJob fun _ _ h₁ => .some h₁.routeAdd

theorem Kept.execRouteDelete {sq : Fin 1024} {index : Nat} {upsets : List Upset} {dma : Dma} (h : Kept s₀ s) : Ends s₀ (execRouteDelete
    sq index upsets dma s) :=
  h.tableJob fun _ _ h₁ => .some h₁.routeDelete

theorem Kept.execRouteRead {sq : Fin 1024} {index : Nat} {upsets : List Upset} {dma : Dma} (h : Kept s₀ s) : Ends s₀ (execRouteRead sq
    index upsets dma s) := by
  unfold Machine.execRouteRead
  refine h.tableJob fun _ _ h₁ => ?_
  split
  · exact .some h₁
  · exact .some h₁

theorem Kept.execRouteMatch {sq : Fin 1024} {index : Nat} {upsets : List Upset} {dma : Dma} (h : Kept s₀ s) : Ends s₀ (execRouteMatch sq
    index upsets dma s) := by
  unfold Machine.execRouteMatch
  refine h.tableJob fun _ _ h₁ => ?_
  split
  · exact .some h₁
  · exact .some h₁

theorem Kept.execLabelWrite {sq : Fin 1024} {index : Nat} {upsets : List Upset} {dma : Dma} (h : Kept s₀ s) : Ends s₀ (execLabelWrite sq
    index upsets dma s) :=
  h.tableJob fun _ _ h₁ => .some h₁.labelPut

theorem Kept.execLabelRead {sq : Fin 1024} {index : Nat} {upsets : List Upset} {dma : Dma} (h : Kept s₀ s) : Ends s₀ (execLabelRead sq
    index upsets dma s) := by
  unfold Machine.execLabelRead
  refine h.inCore fun _ h₁ => ?_
  split
  · exact h₁
  · exact .ite h₁ (.ite h₁.failJob (.share (h₁.forEach (fun _ _ h₂ => h₂.upset)) fun h₂ => .ite h₂.failJob (.ite h₂.finishJob
      h₂.finishJob)))

theorem Kept.execTcamWrite {sq : Fin 1024} {index : Nat} {upsets : List Upset} {dma : Dma} (h : Kept s₀ s) : Ends s₀ (execTcamWrite sq
    index upsets dma s) := by
  unfold Machine.execTcamWrite
  refine h.tableJob fun _ _ h₁ => ?_
  split
  · exact .ite (.some h₁.tcamWrite) (.some h₁)
  · exact .some h₁

theorem Kept.execTcamRead {sq : Fin 1024} {index : Nat} {upsets : List Upset} {dma : Dma} (h : Kept s₀ s) : Ends s₀ (execTcamRead sq
    index upsets dma s) :=
  h.tableJob (fun _ _ h₁ => .ite (.some h₁.assocParity) (.ite (.some h₁.jobWrite) (.some h₁)))

theorem Kept.execTcamInvalidate {sq : Fin 1024} {index : Nat} {upsets : List Upset} {dma : Dma} (h : Kept s₀ s) : Ends s₀
    (execTcamInvalidate sq index upsets dma s) :=
  h.tableJob fun _ _ h₁ => .some h₁.tcamInvalidate

theorem Kept.execTcamMove {sq : Fin 1024} {index : Nat} {upsets : List Upset} {dma : Dma} (h : Kept s₀ s) : Ends s₀ (execTcamMove sq
    index upsets dma s) :=
  h.tableJob fun _ _ h₁ => .some h₁.tcamMove

theorem Kept.execNop {sq : Fin 1024} {index : Nat} {dma : Dma} (h : Kept s₀ s) : Ends s₀ (execNop sq index dma s) :=
  h.runJob fun _ _ h₁ => .some h₁

theorem Kept.sqTail {fn page value : Nat} (h : Kept s₀ s) : Kept s₀ (s.sqTail fn page value) := by
  unfold State.sqTail
  split
  · exact h.raise
  · exact .ite h.set h.bump.raise

theorem Kept.execSqDoorbell {fn : Fin 33} {page : Fin 1024} {value : Nat} (h : Kept s₀ s) : Ends s₀ (execSqDoorbell fn page value s) :=
  h.inCore fun _ h₁ => h₁.sqTail

theorem Kept.cqHead {fn page value : Nat} (h : Kept s₀ s) : Kept s₀ (s.cqHead fn page value) := by
  unfold State.cqHead
  split
  · exact h.raise
  · exact .ite h.setCq.set.cqShow h.raise

theorem Kept.execCqDoorbell {fn : Fin 33} {page : Fin 1024} {value : Nat} (h : Kept s₀ s) : Ends s₀ (execCqDoorbell fn page value s) :=
  h.inCore fun _ h₁ => h₁.cqHead

theorem Kept.badWrite {fn page : Nat} (h : Kept s₀ s) : Kept s₀ (s.badWrite fn page) := by
  unfold State.badWrite
  split
  · exact h
  · exact h.bump

theorem Kept.pushEntry {fn page slot : Nat} {entry : List Byte} (h : Kept s₀ s) : Kept s₀ (s.pushEntry fn page slot entry) := by
  unfold State.pushEntry
  split
  · exact .ite h.withHost h.badWrite
  · exact h.badWrite

theorem Kept.execPush {fn : Fin 33} {page : Fin 1024} {slot : Fin 4} {entry : List Byte} (h : Kept s₀ s) : Ends s₀ (execPush fn page slot
    entry s) :=
  h.inCore fun _ h₁ => h₁.pushEntry

theorem Kept.bar2Write {fn offset size value : Nat} (h : Kept s₀ s) : Kept s₀ (s.bar2Write fn offset size value) :=
  .ite (.ite h.sqTail (.ite h.pushEntry h.badWrite)) (.ite h.cqHead h)

theorem Kept.takePush {sq index : Nat} {memory : Option (List Byte)} (h : Kept s₀ s) : Kept s₀ (s.takePush sq index memory).2 := by
  unfold State.takePush
  dsimp only
  split
  · exact .iteSnd h (.iteSnd h.withHost.bump h.withHost.bump)
  · exact h

theorem Kept.addJob {j : Job} (h : Kept s₀ s) : Kept s₀ (s.addJob j) :=
  h.withHost

theorem Kept.addEnded {j : Job} {st : Status} (h : Kept s₀ s) : Kept s₀ (s.addEnded j st) :=
  h.openReturn.addJob

theorem Kept.fetchOne {sq : Nat} {memory : Option (List Byte)} (h : Kept s₀ s) (e : s.fetchOne sq memory = some t) : Kept s₀ t := by
  have h₁ (i : Nat) : Kept s₀ ((s.set (Obj.SQ_CONFIG_SQ_HEAD sq) ((s.get (Obj.SQ_CONFIG_SQ_HEAD sq) + 1) %
      2 ^ (s.get (Obj.SQ_CONFIG_SQ_SIZE sq) + 1))).takePush sq i memory).2 := h.set.takePush
  unfold State.fetchOne at e
  dsimp only at e
  split at e
  · split at e
    · cases e
      exact (h₁ _).addEnded.emit.set.raise
    · cases e
      exact (h₁ _).addEnded
  · split at e
    · cases e
    · split at e
      · cases e
        exact (h₁ _).addEnded.emit.withHost.set.raise
      · split at e
        · split at e
          · cases e
          · cases e
            exact (h₁ _).addEnded
        · split at e
          · cases e
            exact (h₁ _).addJob
          · split at e
            · cases e
            · cases e
              exact (h₁ _).addJob

theorem Kept.fetchAll {sq : Nat} {l : List (Option (List Byte))} (h : Kept s₀ s) : Kept s₀ (State.fetchAll sq l s) := by
  induction l generalizing s with
  | nil => exact h
  | cons m l ih =>
    unfold State.fetchAll
    split
    · rename_i heq
      exact ih (h.fetchOne heq)
    · exact h

theorem Kept.newRound (h : Kept s₀ s) : Kept s₀ s.newRound :=
  h.withHost

theorem Kept.execFetchVisit {memory : List (Option (List Byte))} (h : Kept s₀ s) : Ends s₀ (Machine.execFetchVisit memory s) := by
  unfold Machine.execFetchVisit
  refine h.inCore fun s h => .ite h ?_
  extract_lets s₁
  have h₁ : Kept s₀ s₁ := by
    unfold s₁
    split
    · exact h
    · exact h.newRound
  clear_value s₁
  split
  · exact h₁
  · exact h₁.withHost.fetchAll.countJobs.settleDisable

theorem Kept.startJob {j : Job} (h : Kept s₀ s) : Kept s₀ (s.startJob j) :=
  h.withHost

theorem Kept.execPktTx {sq : Fin 1024} {index : Nat} {dma : Dma} (h : Kept s₀ s) : Ends s₀ (execPktTx sq index dma s) := by
  unfold Machine.execPktTx
  refine h.inCore fun _ h₁ => ?_
  split
  · exact h₁
  · refine .ite h₁.failJob (.ite h₁.failJob ?_)
    split
    · exact h₁.dmaFailed
    · exact .ite h₁.dmaFailed (.share h₁.withNet.withHost fun h₂ => .ite (.share h₂.startJob fun h₃ => .ite h₃.dropPacket h₃.withNet)
        (.share h₂.toSector fun h₃ => .ite h₃.startJob h₃.finishJob))

theorem Kept.execTxStamp {sq : Fin 1024} {index : Nat} {dma : Dma} (h : Kept s₀ s) : Ends s₀ (execTxStamp sq index dma s) := by
  unfold Machine.execTxStamp
  refine h.inCore fun _ h₁ => ?_
  split
  · refine .ite h₁ ?_
    dsimp only
    split
    · exact h₁.withHost.finishJob
    · exact .ite h₁.withHost.jobWrite.finishJob h₁.withHost.dmaFailed
  · exact h₁

theorem Kept.execRxBuffer {sq : Fin 1024} {index : Nat} {dma : Dma} (h : Kept s₀ s) : Ends s₀ (execRxBuffer sq index dma s) := by
  unfold Machine.execRxBuffer
  refine h.inCore fun _ h₁ => ?_
  split
  · exact h₁
  · exact .ite h₁.startJob h₁.failJob

theorem Kept.execRxDeliver {dma : Dma} (h : Kept s₀ s) : Ends s₀ (execRxDeliver dma s) := by
  unfold Machine.execRxDeliver
  refine h.inCore fun _ h₁ => ?_
  dsimp only
  split
  · exact h₁
  · split
    · exact h₁
    · exact .ite h₁.withNet.bump.dropSelected (.share h₁.withNet.settle.lessOutstanding.txReport fun h₃ => .ite h₃.jobWrite.finishJob
        h₃.dmaFailed)

theorem Kept.writeFailed {cq : Nat} {e : CqEntry} (h : Kept s₀ s) : Kept s₀ (s.writeFailed cq e) :=
  h.set.set.setCq.cqError.stashAdd.stopSqs

theorem Kept.execCqStashDrain {cq : Fin 1024} {ok : Bool} (h : Kept s₀ s) : Ends s₀ (execCqStashDrain cq ok s) := by
  unfold Machine.execCqStashDrain
  refine h.inCore fun _ h₁ => .ite h₁ ?_
  split
  · exact .ite h₁ h₁.writeFailed
  · exact h₁
  · exact .ite h₁ (.ite h₁.drainDue h₁.cqError)

theorem Kept.execCqCoalesceTimeout {cq : Fin 1024} (h : Kept s₀ s) : Ends s₀ (execCqCoalesceTimeout cq s) :=
  h.inCore fun _ h₁ => h₁.cqSignal

theorem Kept.setMask {fn : Nat} {c : MsixMask} (h : Kept s₀ s) : Kept s₀ (s.setMask fn c) :=
  h.withMsix.forEach fun _ _ h₁ => h₁.emit

theorem Kept.execMsixUnmask {fn : Fin 33} {mask : MsixMask} (h : Kept s₀ s) : Ends s₀ (execMsixUnmask fn mask s) :=
  h.inCore fun _ h₁ => h₁.setMask

theorem Kept.bar4Write {fn offset size value : Nat} (h : Kept s₀ s) : Kept s₀ (s.bar4Write fn offset size value) :=
  .ite h h.withMsix.setMask

theorem Kept.barWrite {fn bar offset size value : Nat} (h : Kept s₀ s) : Kept s₀ (s.barWrite fn bar offset size value) :=
  .ite h.bar2Write h.bar4Write

theorem Kept.ruleSelect {count : Nat → Nat} {master key v : Nat} (h : Kept s₀ s) : Kept s₀ (ruleSelect count master key v s).2 :=
  .iteSnd h.plain h

theorem Kept.ruleSqSetting {sq key v : Nat} (h : Kept s₀ s) : Kept s₀ (ruleSqSetting sq key v s).2 :=
  .iteSnd h (.iteSnd h (.iteSnd h h.plain))

theorem Kept.abortRx {sq : Nat} (h : Kept s₀ s) : Kept s₀ (s.abortRx sq) :=
  h.withHost

theorem Kept.ruleSqEnable {sq master v : Nat} (h : Kept s₀ s) : Kept s₀ (ruleSqEnable sq master v s).2 :=
  .iteSnd (.iteSnd h (.iteSnd h (.iteSnd h h.set.set.set.withHost.set))) (.iteSnd (.share h.abortRx.set.countJobs fun h₁ => .iteSnd
      h₁.set h₁.withHost) h)

theorem Kept.execSqEnable {master value : Nat} (h : Kept s₀ s) : Ends s₀ (execSqEnable master value s) := by
  unfold Machine.execSqEnable
  split
  · exact h.rowWrite fun _ h₁ => h₁.ruleSqEnable
  · exact h.rowWrite fun _ h₁ => h₁

theorem Kept.ruleCqSetting {cq key v : Nat} (h : Kept s₀ s) : Kept s₀ (ruleCqSetting cq key v s).2 :=
  .iteSnd h (.iteSnd h h.plain)

theorem Kept.ruleCqVector {cq key v : Nat} (h : Kept s₀ s) : Kept s₀ (ruleCqVector cq key v s).2 :=
  .iteSnd h.commit.cqSignal h

theorem Kept.ruleCqCoal {cq key v : Nat} (h : Kept s₀ s) : Kept s₀ (ruleCqCoal cq key v s).2 :=
  h.commit.cqSignal

theorem Kept.ruleCqEnable {cq v : Nat} (h : Kept s₀ s) : Kept s₀ (ruleCqEnable cq v s).2 :=
  .iteSnd (.iteSnd h h.set.set.setCq.set.set) (.iteSnd (.iteSnd h h.setCq.stashGone.set.set.set) h)

theorem Kept.execCqEnable {master value : Nat} (h : Kept s₀ s) : Ends s₀ (execCqEnable master value s) := by
  unfold Machine.execCqEnable
  split
  · exact h.rowWrite fun _ h₁ => h₁.ruleCqEnable
  · exact h.rowWrite fun _ h₁ => h₁

theorem Kept.ruleHpRing {key v : Nat} (h : Kept s₀ s) : Kept s₀ (ruleHpRing key v s).2 :=
  .iteSnd h (.iteSnd h h.plain)

theorem Kept.ruleVfResources {vf sub key v : Nat} (h : Kept s₀ s) : Kept s₀ (ruleVfResources vf sub key v s).2 :=
  .iteSnd h (.iteSnd h h.plain)

theorem Kept.execVfResources {vf : Fin 32} {field : Fin 4} {master value : Nat} (h : Kept s₀ s) : Ends s₀ (execVfResources vf field
    master value s) :=
  h.rowWrite fun _ h₁ => h₁.ruleVfResources

theorem Kept.signalOwner {m : Nat} (h : Kept s₀ s) : Kept s₀ (s.signalOwner m) := by
  unfold State.signalOwner
  split
  · exact h.withCoica
  · exact h.bump.emit
  · exact .ite h h.bump.signal
  · exact .ite h h.bump.signal
  · exact h

theorem Kept.ring {m b : Nat} (h : Kept s₀ s) : Kept s₀ (s.ring m b) :=
  .ite (.ite h.set h.set.withHost) h

theorem Kept.doorbellSignals (h : Kept s₀ s) : Kept s₀ s.doorbellSignals :=
  h.withHost.forEach fun _ _ h₁ => .ite h₁ h₁.signalOwner

theorem Kept.ringSender {n : Nat} (h : Kept s₀ s) : Kept s₀ (s.ringSender n) :=
  h.ring

theorem Kept.ruleMbBinding {n v : Nat} (h : Kept s₀ s) : Kept s₀ (ruleMbBinding n v s).2 :=
  .iteSnd h (.iteSnd h h.plain)

theorem Kept.execMbBinding {channel : Fin 64} {master value : Nat} (h : Kept s₀ s) : Ends s₀ (execMbBinding channel master value s) :=
  h.rowWrite fun _ h₁ => h₁.ruleMbBinding

theorem Kept.ruleMailboxMsg {n k v : Nat} (h : Kept s₀ s) : Kept s₀ (ruleMailboxMsg n k v s).2 :=
  .iteSnd h h.plain

theorem Kept.sendMail {n : Nat} {m : MateMail} (h : Kept s₀ s) : Kept s₀ (s.sendMail n m) :=
  h.sendMate

theorem Kept.abortChannel {n code : Nat} (h : Kept s₀ s) : Kept s₀ (s.abortChannel n code) :=
  h.set.set.ringSender

theorem Kept.mateMailFailed {n code : Nat} (h : Kept s₀ s) : Kept s₀ (s.mateMailFailed n code) :=
  h.abortChannel.raise

theorem Kept.ruleSend {n v : Nat} (h : Kept s₀ s) : Kept s₀ (ruleSend n v s).2 :=
  .iteSnd h (.iteSnd h (.share h.set.bump.set fun h₁ => .iteSnd (.ite h₁.sendMail h₁.mateMailFailed) h₁.ring))

theorem Kept.execSend {channel : Fin 64} {master value : Nat} (h : Kept s₀ s) : Ends s₀ (execSend channel master value s) :=
  h.rowWrite fun _ h₁ => h₁.ruleSend

theorem Kept.ruleAck {n v : Nat} (h : Kept s₀ s) : Kept s₀ (ruleAck n v s).2 :=
  .iteSnd h (.iteSnd h (.share h.set.set.withHost fun h₁ => .ite h₁.sendMail h₁.ringSender))

theorem Kept.execAck {channel : Fin 64} {master value : Nat} (h : Kept s₀ s) : Ends s₀ (execAck channel master value s) :=
  h.rowWrite fun _ h₁ => h₁.ruleAck

theorem Kept.readLock {n master : Nat} (h : Kept s₀ s) : Kept s₀ (s.readLock n master).2 :=
  .iteSnd h (.iteSnd h (.iteSnd h.set (.iteSnd h h)))

theorem Kept.lockRead {r : LockRead} (h : Kept s₀ s) : Kept s₀ (s.lockRead r) :=
  h.withHost

theorem Kept.execLockRead {channel : Fin 64} {master : Nat} (h : Kept s₀ s) : Ends s₀ (execLockRead channel master s) := by
  unfold Machine.execLockRead
  refine .next (.ite h (.ite h.hold ?_))
  split
  · exact h.lockRead
  · exact (Kept.ite h.noteRefused h).answer

theorem Kept.ruleLock {n master v : Nat} (h : Kept s₀ s) : Kept s₀ (ruleLock n master v s).2 :=
  .iteSnd h (.iteSnd h (.iteSnd h.plain h))

theorem Kept.execLockRelease {channel : Fin 64} {master value : Nat} (h : Kept s₀ s) : Ends s₀ (execLockRelease channel master value s) :=
  h.rowWrite fun _ h₁ => h₁.ruleLock

theorem Kept.ruleDbPending {master v : Nat} (h : Kept s₀ s) : Kept s₀ (ruleDbPending master v s).2 :=
  h.withHost.plain

theorem Kept.execDbPendingClear {master value : Nat} (h : Kept s₀ s) : Ends s₀ (execDbPendingClear master value s) :=
  h.rowWrite fun _ h₁ => h₁.ruleDbPending

theorem Kept.ruleDbMask {master v : Nat} (h : Kept s₀ s) : Kept s₀ (ruleDbMask master v s).2 :=
  .ite h.commit h.commit.signalOwner

theorem Kept.execDbMask {master value : Nat} (h : Kept s₀ s) : Ends s₀ (execDbMask master value s) :=
  h.rowWrite fun _ h₁ => h₁.ruleDbMask

theorem Kept.ruleDbVector {master v : Nat} (h : Kept s₀ s) : Kept s₀ (ruleDbVector master v s).2 :=
  .iteSnd h.plain h

theorem Kept.zeroMail {n : Nat} (h : Kept s₀ s) : Kept s₀ (s.zeroMail n) :=
  h.forEach fun _ _ h₁ => h₁.set

theorem Kept.receiverReset {n : Nat} (h : Kept s₀ s) : Kept s₀ (s.receiverReset n) :=
  .ite h (.ite h.zeroMail.abortChannel.raise h)

theorem Kept.senderReset {n : Nat} (h : Kept s₀ s) : Kept s₀ (s.senderReset n) :=
  .share h.zeroMail.set fun h₁ => .ite h₁.set h₁

theorem Kept.resetIdentityNow {id : Nat} (h : Kept s₀ s) : Kept s₀ (s.resetIdentityNow id) :=
  .share (h.forEach (fun _ _ h₁ => .share (.ite h₁ (.share (.ite h₁.receiverReset h₁) fun h₂ => .ite h₂.senderReset h₂)) fun h₂ => .ite
      h₂.set h₂)) fun h₁ => .ite (.share h₁.set.set fun h₂ => .ite h₂.withCoica h₂) h₁

theorem Kept.resetIdentity {id : Nat} (h : Kept s₀ s) : Kept s₀ (s.resetIdentity id) :=
  .ite h h.withHost

theorem Kept.applyResets (h : Kept s₀ s) : Kept s₀ s.applyResets :=
  h.withHost.forEach fun _ _ h₁ => h₁.resetIdentityNow

theorem Kept.setCmb {v : Nat} (h : Kept s₀ s) : Kept s₀ (s.setCmb v) :=
  h.set

theorem Kept.cmbSend {da type : Nat} {payload : List Byte} (h : Kept s₀ s) : Kept s₀ (s.cmbSend da type payload) :=
  .ite h h.withCoica.emit.bump

theorem Kept.setKnownBit {a v : Nat} (h : Kept s₀ s) : Kept s₀ (s.setKnownBit a v) :=
  .ite h.set h.set

theorem Kept.hear {a : Nat} (h : Kept s₀ s) : Kept s₀ (s.hear a) :=
  h.withCoica

theorem Kept.learnKnown {a : Nat} (h : Kept s₀ s) : Kept s₀ (s.learnKnown a) :=
  .ite h h.withCoica.setKnownBit.hear

theorem Kept.leaveKnown {a : Nat} (h : Kept s₀ s) : Kept s₀ (s.leaveKnown a) :=
  .share h.setKnownBit fun h₁ => .ite h₁.withCoica.resetIdentity.raise h₁

theorem Kept.openWindow {lo count lowerLo lower : Nat} (h : Kept s₀ s) : Kept s₀ (s.openWindow lo count lowerLo lower) :=
  h.cmbSend.withCoica

theorem Kept.sendEmergencies {left : Nat} (h : Kept s₀ s) : Kept s₀ (s.sendEmergencies left).2 :=
  .iteSnd h h.withCoica.cmbSend.bump

theorem Kept.sendNotify {left : Nat} (h : Kept s₀ s) : Kept s₀ (s.sendNotify left).2 :=
  .iteSnd h h.withCoica.cmbSend.bump

theorem Kept.passToken (h : Kept s₀ s) : Kept s₀ s.passToken :=
  h.cmbSend.setCmb.withCoica

theorem Kept.visit (h : Kept s₀ s) : Kept s₀ s.visit :=
  .ite h.setCmb (.share h.withCoica.setCmb.sendEmergencies.sendNotify fun h₃ => .ite (.ite h₃ h₃.openWindow) (.share h₃.withCoica fun h₄
      => .ite h₄.openWindow h₄.passToken))

theorem Kept.cmbIdle (h : Kept s₀ s) : Kept s₀ s.cmbIdle :=
  .ite h.visit h

theorem Kept.takeFrame {type : Nat} (h : Kept s₀ s) : Kept s₀ (s.takeFrame type).2 := by
  unfold State.takeFrame
  split
  · exact .iteSnd h.withCoica h
  · exact h

theorem Kept.offeredSuccessor (h : Kept s₀ s) : Kept s₀ (match s.coica.offered with
    | some ns => s.set Obj.COICA_STATION_SUCCESSOR ns
    | none => if s.get Obj.COICA_STATION_SUCCESSOR = 0 then
        s.set Obj.COICA_STATION_SUCCESSOR (if s.nextLower s.station = 0 then s.station else s.nextLower s.station) else s) := by
  split
  · exact h.set
  · exact .ite h.set h

theorem Kept.execToken (h : Kept s₀ s) : Ends s₀ (execToken s) := by
  unfold Machine.execToken
  refine .next ?_
  split
  · rename_i heq
    exact h.takeFrame.of_eq heq
  · rename_i f s₁ heq
    have h₁ := h.takeFrame.of_eq heq
    have h₂ : Kept s₀ (match s₁.coica.lastToken with
        | some t => s₁.set Obj.COICA_STATION_ROTATION_US ((s₁.time.now - t) / 1000 % 2 ^ 32)
        | none => s₁) := by
      split
      · exact h₁.set
      · exact h₁
    exact .ite h₁ h₂.offeredSuccessor.withCoica.visit

theorem Kept.cmbQuiet (h : Kept s₀ s) : Kept s₀ s.cmbQuiet :=
  h.withCoica

theorem Kept.execClaim {own : Option Bool} (h : Kept s₀ s) : Ends s₀ (execClaim own s) := by
  unfold Machine.execClaim
  refine .next ?_
  split
  · exact .ite h (.ite h.cmbQuiet.bump.raise.set.visit h.cmbQuiet.setCmb.bump.raise)
  · split
    · rename_i _ heq
      have h₁ := h.takeFrame.of_eq heq
      exact h₁
    · rename_i _ heq
      have h₁ := h.takeFrame.of_eq heq
      exact .ite h₁.cmbQuiet.setCmb h₁

theorem Kept.execSolicit (h : Kept s₀ s) : Ends s₀ (execSolicit s) := by
  unfold Machine.execSolicit
  refine .next ?_
  split
  · rename_i _ heq
    have h₁ := h.takeFrame.of_eq heq
    exact h₁
  · rename_i _ heq
    have h₁ := h.takeFrame.of_eq heq
    exact .ite h₁.cmbSend.withCoica h₁.withCoica

theorem Kept.execSetSuccessor (h : Kept s₀ s) : Ends s₀ (execSetSuccessor s) := by
  unfold Machine.execSetSuccessor
  refine .next ?_
  split
  · rename_i _ heq
    have h₁ := h.takeFrame.of_eq heq
    exact h₁
  · rename_i _ heq
    have h₁ := h.takeFrame.of_eq heq
    split
    · exact h₁
    · exact .ite h₁.withCoica.set.learnKnown h₁

theorem Kept.endSolicit (h : Kept s₀ s) : Kept s₀ s.endSolicit :=
  .ite h.withCoica.visit h.withCoica.passToken

theorem Kept.admitted {garbled : Bool} (h : Kept s₀ s) : Kept s₀ (s.admitted garbled) := by
  unfold State.admitted
  split
  · exact h
  · exact .ite h (.ite h.withCoica h.withCoica.set.setCmb)

theorem Kept.execSolicitWindowEnd {garbled : Bool} (h : Kept s₀ s) : Ends s₀ (execSolicitWindowEnd garbled s) := by
  unfold Machine.execSolicitWindowEnd
  refine .next ?_
  split
  · exact h.admitted
  · exact .ite h (.ite h.endSolicit (.ite h (.ite (.ite h.bump.endSolicit h.bump.openWindow) (.ite h.openWindow h.endSolicit))))

theorem Kept.execTokenPassTimeout (h : Kept s₀ s) : Ends s₀ (execTokenPassTimeout s) := by
  unfold Machine.execTokenPassTimeout
  refine .next ?_
  split
  · exact h
  · exact .ite h (.ite h.cmbSend.withCoica (.share h.bump.leaveKnown fun h₁ => .ite h₁.withCoica.set.visit h₁.set.passToken))

theorem Kept.claimPad {round : Nat} (h : Kept s₀ s) : Kept s₀ (s.claimPad round) :=
  .ite h.withCoica h.withCoica.withCoica.emit

theorem Kept.execTokenLost (h : Kept s₀ s) : Ends s₀ (execTokenLost s) :=
  .next (.ite h.cmbQuiet.setCmb.bump.raise.withCoica.claimPad h)

theorem Kept.execClaimRound {carrier : Bool} (h : Kept s₀ s) : Ends s₀ (execClaimRound carrier s) := by
  unfold Machine.execClaimRound
  refine .next ?_
  split
  · exact h
  · exact .ite h (.ite (.ite h h.withCoica.cmbQuiet.setCmb) (.ite h (.ite h.withCoica.claimPad h.cmbSend.withCoica)))

theorem Kept.execPoll (h : Kept s₀ s) : Ends s₀ (execPoll s) := by
  unfold Machine.execPoll
  refine .next ?_
  split
  · rename_i _ heq
    have h₁ := h.takeFrame.of_eq heq
    exact h₁
  · rename_i _ heq
    have h₁ := h.takeFrame.of_eq heq
    refine .ite h₁ (.ite h₁ ?_)
    split
    · exact h₁.cmbSend
    · exact h₁.withCoica.cmbSend.bump

theorem Kept.execTxJabber (h : Kept s₀ s) : Ends s₀ (execTxJabber s) :=
  .next h.withCoica.bump.raise

theorem Kept.execJabberSilenceEnd (h : Kept s₀ s) : Ends s₀ (execJabberSilenceEnd s) := by
  unfold Machine.execJabberSilenceEnd
  refine .next ?_
  split
  · exact .ite h.withCoica h
  · exact h

theorem Kept.execRxJabber (h : Kept s₀ s) : Ends s₀ (execRxJabber s) :=
  .next h.withCoica.bump.raise

theorem Kept.execJabberCarrierStop (h : Kept s₀ s) : Ends s₀ (execJabberCarrierStop s) :=
  .next (.ite h.withCoica h)

theorem Kept.execKnownAge {address : Fin 127} (h : Kept s₀ s) : Ends s₀ (execKnownAge address s) :=
  .next (.ite h.leaveKnown h)

theorem Kept.ruleStation {key v : Nat} (h : Kept s₀ s) : Kept s₀ (ruleStation key v s).2 :=
  h.commit.cmbQuiet.withCoica.set.setCmb

theorem Kept.cmbReset (h : Kept s₀ s) : Kept s₀ s.cmbReset :=
  .ite h.setCmb h

theorem Kept.execStationAddr {master value : Nat} (h : Kept s₀ s) : Ends s₀ (execStationAddr master value s) :=
  h.rowWrite fun _ h₁ => h₁.ruleStation

theorem Kept.execRole {master value : Nat} (h : Kept s₀ s) : Ends s₀ (execRole master value s) :=
  h.rowWrite fun _ h₁ => h₁.ruleStation

theorem Kept.ruleSupvAddr {key v : Nat} (h : Kept s₀ s) : Kept s₀ (ruleSupvAddr key v s).2 :=
  h.commit.withCoica.hear

theorem Kept.ruleCmbSetting {key v : Nat} (h : Kept s₀ s) : Kept s₀ (ruleCmbSetting key v s).2 :=
  .ite h.commit.withCoica h.commit

theorem Kept.wpCheck {n : Nat} (h : Kept s₀ s) : Kept s₀ (s.wpCheck n) :=
  h.set

theorem Kept.ruleWp {n sub key v : Nat} (h : Kept s₀ s) : Kept s₀ (ruleWp n sub key v s).2 :=
  .iteSnd (.iteSnd h h.commit.wpCheck) (.iteSnd h h.commit.wpCheck)

theorem Kept.execWpWrite {pattern : Fin 8} {field : Fin 6} {master value : Nat} (h : Kept s₀ s) : Ends s₀ (execWpWrite pattern field
    master value s) :=
  h.rowWrite fun _ h₁ => h₁.ruleWp

theorem Kept.wakeMatch {frame : List Byte} (h : Kept s₀ s) : Kept s₀ (s.wakeMatch frame) :=
  h.forEach fun _ _ h₁ => .ite h₁.assertWake.bump.raise h₁

theorem Kept.odSend {f : CoicaFrame} {payload : List Byte} (h : Kept s₀ s) : Kept s₀ (s.odSend f payload) :=
  .share h.cmbSend.withCoica fun h₁ => .ite h₁.withCoica h₁

theorem Kept.odStatus {f : CoicaFrame} {st : Status} {done : Bool} {data : List Byte} (h : Kept s₀ s) : Kept s₀ (s.odStatus f st done
    data) :=
  h.odSend

theorem Kept.odRefuse {f : CoicaFrame} (h : Kept s₀ s) (e : s.odRefuse f = some t) : Kept s₀ t := by
  unfold State.odRefuse at e
  dsimp only at e
  split at e
  · cases e
    exact .ite h.bump h.bump.odStatus
  · split at e
    · cases e
      exact h.cmbSend
    · split at e
      · cases e
      · cases e
        exact h.odStatus

theorem Kept.toMac  {f : CoicaFrame} (h : Kept s₀ s) : Kept s₀ (s.toMac f) := by
  unfold State.toMac
  extract_lets own answer s₁ inRing excepted addressed s₂ s₃ s₄
  have h₁ : Kept s₀ s₁ := .ite h.cmbQuiet.setCmb.bump.raise h
  have h₃ : Kept s₀ s₃ := .share (.ite h₁.hear h₁) fun h₂ => .ite h₂.learnKnown h₂
  have h₄ : Kept s₀ s₄ := h₃.bump
  clear_value s₁ s₃ s₄
  refine .ite h₁.bump.raise (.ite h₃ (.ite h₃ (.ite ?_ h₃.withCoica)))
  split
  · rename_i heq
    exact h₄.odRefuse heq
  · exact h₄.withCoica

theorem Kept.execCoicaFrameRx {frame : List Byte} {code : Bool} (h : Kept s₀ s) : Ends s₀ (execCoicaFrameRx frame code s) :=
  .next (.ite h (.ite h.withCoica.bump (.ite h.withCoica.bump (.ite h.withCoica.bump (.ite h.withCoica.bump (.ite h.withCoica.bump
      h.withCoica.withCoica.bump.wakeMatch.toMac))))))

theorem Kept.answerLocks (h : Kept s₀ s) : Kept s₀ s.answerLocks := by
  unfold State.answerLocks
  refine h.withHost.forEach fun _ _ h₁ => ?_
  split
  · rename_i _ heq
    have h₂ := h₁.readLock.of_eq heq
    split
    · exact h₂.answer
    · exact h₂.complete
    · exact h₂.odStatus

theorem Kept.mailboxCycle (h : Kept s₀ s) : Kept s₀ s.mailboxCycle :=
  h.applyResets.answerLocks.doorbellSignals.withHost

theorem Kept.evaluatePart {c i : Nat} (h : Kept s₀ s) : Kept s₀ (s.evaluatePart c i) := by
  unfold State.evaluatePart
  refine .ite h (.ite h.wakePart (.ite h ?_))
  dsimp only
  split
  · split
    · exact h.setPart
    · exact h.setPart
  · exact h

theorem Kept.execPowerEvaluate {client : Fin 144} (h : Kept s₀ s) : Ends s₀ (execPowerEvaluate client s) :=
  h.inCore (fun _ h₁ => .ite h₁ (h₁.forEach (fun _ _ h₂ => h₂.evaluatePart)))

theorem Kept.portOff {c : Nat} (h : Kept s₀ s) : Kept s₀ (s.portOff c) :=
  .share h.set.setLine fun h₁ => .ite h₁.countPort.raise h₁

theorem Kept.execPowerEntryDone {client : Fin 144} {part : Fin 7} (h : Kept s₀ s) : Ends s₀ (execPowerEntryDone client part s) := by
  unfold Machine.execPowerEntryDone
  refine h.inCore fun _ h₁ => ?_
  dsimp only
  split
  · exact .ite h₁ (.share h₁.setPart.bump fun h₂ => (Kept.ite h₂.portOff h₂).showPower)
  · exact h₁

theorem Kept.execWakeDone {client : Fin 144} {part : Fin 7} (h : Kept s₀ s) : Ends s₀ (execWakeDone client part s) := by
  unfold Machine.execWakeDone
  refine h.inCore fun _ h₁ => ?_
  dsimp only
  split
  · exact .ite h₁ (.share (.ite h₁.setPart h₁.setPart.bump) fun h₂ => (Kept.ite h₂.set h₂).showPower)
  · exact h₁

theorem Kept.execPrewake (h : Kept s₀ s) : Ends s₀ (execPrewake s) := by
  unfold Machine.execPrewake
  refine .next ?_
  split
  · rename_i _ heq
    have h₁ := h.fire.of_eq heq
    exact h₁
  · rename_i _ heq
    have h₁ := h.fire.of_eq heq
    exact .ite h₁ (h₁.bump.forEach (fun _ _ h₂ => .ite h₂.setPart (.ite h₂.setPart h₂.setPart.wakePart)))

theorem Kept.execPrewakeHoldEnd {client : Fin 144} (h : Kept s₀ s) : Ends s₀ (execPrewakeHoldEnd client s) :=
  h.inCore (fun _ h₁ => h₁.forEach (fun _ _ h₂ => .ite h₂.setPart h₂))

theorem Kept.ruleLatTol {c v : Nat} (h : Kept s₀ s) : Kept s₀ (ruleLatTol c v s).2 :=
  h.commit.forEach fun _ _ h₁ => .ite h₁.wakePart h₁

theorem Kept.execLatTolNs {client : Fin 144} {master value : Nat} (h : Kept s₀ s) : Ends s₀ (execLatTolNs client master value s) :=
  h.rowWrite fun _ h₁ => h₁.ruleLatTol

theorem Kept.rulePwrReq {c v : Nat} (h : Kept s₀ s) : Kept s₀ (rulePwrReq c v s).2 :=
  .iteSnd h (.ite (h.commit.forEach (fun _ _ h₁ => h₁.wakePart)) h.commit)

theorem Kept.execPwrReq {client : Fin 144} {master value : Nat} (h : Kept s₀ s) : Ends s₀ (execPwrReq client master value s) :=
  h.rowWrite fun _ h₁ => h₁.rulePwrReq

theorem Kept.rulePrewakeHold {c v : Nat} (h : Kept s₀ s) : Kept s₀ (rulePrewakeHold c v s).2 :=
  h.plain

theorem Kept.ruleWakeReq {v : Nat} (h : Kept s₀ s) : Kept s₀ (ruleWakeReq v s).2 :=
  .iteSnd h.assertWake h

theorem Kept.execWakeReq {master value : Nat} (h : Kept s₀ s) : Ends s₀ (execWakeReq master value s) :=
  h.rowWrite fun _ h₁ => h₁.ruleWakeReq

theorem Kept.execWakeNRelease (h : Kept s₀ s) : Ends s₀ (execWakeNRelease s) := by
  unfold Machine.execWakeNRelease
  refine .next ?_
  split
  · exact .ite h.withPw.emit h
  · exact h

theorem Kept.setRole {r : Nat} (h : Kept s₀ s) : Kept s₀ (s.setRole r) :=
  .ite h (.ite (h.set.raise.forEach (fun _ _ h₁ => h₁.stopAger)) h.set.raise)

theorem Kept.setLease {t : Nat} (h : Kept s₀ s) : Kept s₀ (s.setLease t) :=
  h.withPair.set

theorem Kept.renew {k : ℤ} (h : Kept s₀ s) : Kept s₀ (s.renew k) :=
  .ite h.setLease h

theorem Kept.showHealth (h : Kept s₀ s) : Kept s₀ s.showHealth :=
  (Kept.ite h h.withPair).set

theorem Kept.setSync {v : Nat} (h : Kept s₀ s) : Kept s₀ (s.setSync v) :=
  .ite h.set h.withPair.set

theorem Kept.requestAll {regions : List Nat} (h : Kept s₀ s) : Kept s₀ (s.requestAll regions) :=
  h.setSync.sendMate.withPair

theorem Kept.resyncAll (h : Kept s₀ s) : Kept s₀ s.resyncAll :=
  h.requestAll

theorem Kept.stopCopy (h : Kept s₀ s) : Kept s₀ s.stopCopy :=
  .ite h.setSync h

theorem Kept.adoptEpoch {e : Nat} (h : Kept s₀ s) : Kept s₀ (s.adoptEpoch e) :=
  .share h.set.withPair.stopCopy fun h₂ => .ite ((Kept.ite h₂ h₂.setLease).withPair.setRole.resyncAll.raise) h₂

theorem Kept.mateIn {exempt : Bool} {x : MateHead} (h : Kept s₀ s) : Kept s₀ (s.mateIn exempt x).2 := by
  have h₁ : Kept s₀ (s.set Obj.PAIR_CTRL_PARTNER_EPOCH (x.epoch % 2 ^ 32)) := h.set
  unfold State.mateIn
  refine .iteSnd h ?_
  dsimp only
  split
  · exact h₁
  · split
    · exact h₁.adoptEpoch
    · split
      · exact h₁.bump.raise
      · exact h₁

theorem Kept.takeControl {k : ℤ} {epoch : Option Nat} {selfRenew : Bool} (h : Kept s₀ s) : Kept s₀ (s.takeControl k epoch selfRenew) :=
  h.set.withPair.setLease.bump.setRole.set

theorem Kept.dueTakeover (h : Kept s₀ s) : Kept s₀ s.dueTakeover := by
  unfold State.dueTakeover
  split
  · exact h
  · refine .ite h (.ite h.withPair ?_)
    split
    · exact h.withPair.withPair.takeControl
    · exact .ite h.withPair h.withPair.takeControl
    · exact .ite h.withPair.takeControl h.withPair
    · exact h.withPair.takeControl

theorem Kept.execTakeover (h : Kept s₀ s) : Ends s₀ (execTakeover s) :=
  h.inCore fun _ h₁ => h₁.dueTakeover

theorem Kept.counterDeltas (h : Kept s₀ s) : Kept s₀ s.counterDeltas.2 :=
  h.withPair

theorem Kept.closeJournal {k : ℤ} (h : Kept s₀ s) : Kept s₀ (s.closeJournal k) :=
  .share (Kept.iteSnd h.counterDeltas h).withPair fun h₂ => .ite h₂.raise (((h₂.forEach (fun _ _ h₃ => h₃.sendMate)).bumpSent).withPair)

theorem Kept.fallSilent (h : Kept s₀ s) : Kept s₀ s.fallSilent := by
  unfold State.fallSilent
  dsimp only
  split
  · exact .ite (Kept.ite h h.withPair.set.raise).withPair (.ite h h.withPair.set.raise)
  · exact (.ite h h.withPair.set.raise)

theorem Kept.showWtr (h : Kept s₀ s) : Kept s₀ s.showWtr :=
  .ite h.withPair.set h.withPair.set

theorem Kept.elect {k : ℤ} (h : Kept s₀ s) : Kept s₀ (s.elect k) :=
  .ite (.share (.ite h.raise h) fun h₁ => .ite h₁.takeControl h₁) h

theorem Kept.endCycle {k : ℤ} (h : Kept s₀ s) : Kept s₀ (s.endCycle k) := by
  unfold State.endCycle
  exact .share h.withPair.showHealth.withPair fun h₂ => .share (Kept.ite h₂.closeJournal h₂).sendMate fun h₄ => .share (Kept.ite (.share
      h₄.withPair.setRole fun h₆ => .ite h₆ h₆.set.raise) h₄).withPair fun h₆ => .share (.ite h₆.fallSilent h₆) fun h₇ => .share (.ite
          h₇.renew h₇) fun h₈ => (Kept.ite h₈.set.raise h₈).elect.showWtr

theorem Kept.execMateCycle (h : Kept s₀ s) : Ends s₀ (execMateCycle s) := by
  unfold Machine.execMateCycle
  exact h.inCore (fun _ h₁ => .ite h₁ (.ite h₁.fire h₁.fire.endCycle))

theorem Kept.handOver (h : Kept s₀ s) : Kept s₀ s.handOver :=
  .ite h.bump.raise h.sendMate.bumpSent.setLease.withPair

theorem Kept.mateTurn (h : Kept s₀ s) : Kept s₀ s.mateTurn := by
  unfold State.mateTurn
  refine .ite h ?_
  split
  · exact h
  · exact h.withPair.emit

theorem Kept.pairCycle (h : Kept s₀ s) : Kept s₀ s.pairCycle := by
  unfold State.pairCycle
  refine .share ?_ fun h₃ => (Kept.ite h₃ h₃.withPair).showWtr.mateTurn
  split
  · exact (Kept.ite (Kept.ite (.ite h.withPair.handOver h.withPair) h).withPair (.ite (.ite h.withPair.handOver h.withPair)
      h)).sendMate.withPair
  · exact (.ite (Kept.ite (.ite h.withPair.handOver h.withPair) h).withPair (.ite (.ite h.withPair.handOver h.withPair) h))

theorem Kept.execCopyAck {head : MateHead} (h : Kept s₀ s) : Ends s₀ (execCopyAck head s) := by
  unfold Machine.execCopyAck
  refine .next ?_
  split
  · rename_i _ heq
    have h₁ := h.mateIn.of_eq heq
    exact h₁
  · rename_i _ heq
    have h₁ := h.mateIn.of_eq heq
    exact .ite h₁ (.ite h₁.withPair.renew h₁.withPair)

theorem Kept.hears {role : Nat} (h : Kept s₀ s) : Kept s₀ (s.hears role) :=
  .ite h h.withPair.set

theorem Kept.judgeLoss {role : Nat} (h : Kept s₀ s) : Kept s₀ (s.judgeLoss role) :=
  .ite h (.ite h.withPair (.ite h.withPair.raise h))

theorem Kept.execHealth {head : MateHead} {report : List Byte} {delay : Nat} (h : Kept s₀ s) : Ends s₀ (execHealth head report delay s)
    := by
  unfold Machine.execHealth
  refine .next ?_
  split
  · rename_i _ heq
    have h₁ := h.hears.mateIn.of_eq heq
    exact h₁
  · rename_i _ heq
    have h₁ := h.hears.mateIn.of_eq heq
    exact .share h₁.set.withPair.set fun h₃ => .share (.ite h₃.raise h₃) fun h₄ => .share (Kept.ite h₄.raise h₄).judgeLoss fun h₆ =>
        .share (.ite h₆.setRole h₆) fun h₇ => (Kept.ite h₇.resyncAll h₇).showWtr

theorem Kept.execRelease {head : MateHead} (h : Kept s₀ s) : Ends s₀ (execRelease head s) := by
  unfold Machine.execRelease
  refine .next ?_
  split
  · rename_i _ heq
    have h₁ := h.mateIn.of_eq heq
    exact h₁
  · rename_i _ heq
    have h₁ := h.mateIn.of_eq heq
    exact .ite h₁ h₁.withPair

theorem Kept.execRevertReq {head : MateHead} (h : Kept s₀ s) : Ends s₀ (execRevertReq head s) := by
  unfold Machine.execRevertReq
  refine .next ?_
  split
  · rename_i _ heq
    have h₁ := h.mateIn.of_eq heq
    exact h₁
  · rename_i _ heq
    have h₁ := h.mateIn.of_eq heq
    exact .ite h₁.withPair h₁

theorem Kept.ruleCommand {v : Nat} (h : Kept s₀ s) : Kept s₀ (ruleCommand v s).2 :=
  .iteSnd h (.ite h h.handOver)

theorem Kept.execCommand {master value : Nat} (h : Kept s₀ s) : Ends s₀ (execCommand master value s) :=
  h.rowWrite fun _ h₁ => h₁.ruleCommand

theorem Kept.armMateCycle (h : Kept s₀ s) : Kept s₀ s.armMateCycle :=
  .ite h h.writeAirEntry

theorem Kept.rulePairEnable {v : Nat} (h : Kept s₀ s) : Kept s₀ (rulePairEnable v s).2 :=
  .iteSnd h (.share h.commit.set.withPair.setRole fun h₃ => .ite h₃.armMateCycle h₃)

theorem Kept.execPairEnable {master value : Nat} (h : Kept s₀ s) : Ends s₀ (execPairEnable master value s) :=
  h.rowWrite fun _ h₁ => h₁.rulePairEnable

theorem Kept.rulePairSetting {key v : Nat} (h : Kept s₀ s) : Kept s₀ (rulePairSetting key v s).2 :=
  .iteSnd h h.plain

theorem Kept.execLeaseExpiry (h : Kept s₀ s) : Ends s₀ (execLeaseExpiry s) :=
  .next (.ite h.bump.setRole.raise h)

theorem Kept.ruleWRenew {v : Nat} (h : Kept s₀ s) : Kept s₀ (ruleWRenew v s).2 :=
  .iteSnd h.renew.set h.bump

theorem Kept.execWRenew {master value : Nat} (h : Kept s₀ s) : Ends s₀ (execWRenew master value s) :=
  h.rowWrite fun _ h₁ => h₁.ruleWRenew

theorem Kept.ruleWTakeover {v : Nat} (h : Kept s₀ s) : Kept s₀ (ruleWTakeover v s).2 :=
  .iteSnd h.set.adoptEpoch.withPair h.bump

theorem Kept.execWTakeover {master value : Nat} (h : Kept s₀ s) : Ends s₀ (execWTakeover master value s) :=
  h.rowWrite fun _ h₁ => h₁.ruleWTakeover

theorem Kept.execWtrExpiry (h : Kept s₀ s) : Ends s₀ (execWtrExpiry s) := by
  unfold Machine.execWtrExpiry
  refine h.inCore fun _ h₁ => ?_
  split
  · exact h₁
  · exact .ite h₁.withPair.set.sendMate h₁

theorem Kept.execDigestPeriod (h : Kept s₀ s) : Ends s₀ (execDigestPeriod s) :=
  h.inCore (fun _ h₁ => .ite h₁ (h₁.withPair.forEach (fun _ _ h₂ => h₂.sendMate)))

theorem Kept.execDigest {head : MateHead} {region endSeq digest : Nat} (h : Kept s₀ s) : Ends s₀ (execDigest head region endSeq digest s)
    := by
  unfold Machine.execDigest
  refine .next ?_
  split
  · rename_i _ heq
    have h₁ := h.mateIn.of_eq heq
    exact h₁
  · rename_i _ heq
    have h₁ := h.mateIn.of_eq heq
    exact .ite h₁ h₁.sendMate.bump.raise.withPair.setSync

theorem Kept.sendRegion {region : Nat} (h : Kept s₀ s) : Kept s₀ (s.sendRegion region) :=
  h.forEach fun _ _ h₁ => h₁.sendMate

theorem Kept.execRecopyReq {head : MateHead} {region : Nat} (h : Kept s₀ s) : Ends s₀ (execRecopyReq head region s) := by
  unfold Machine.execRecopyReq
  refine .next ?_
  split
  · rename_i _ heq
    have h₁ := h.mateIn.of_eq heq
    exact h₁
  · rename_i _ heq
    have h₁ := h.mateIn.of_eq heq
    exact .ite h₁ (h₁.forEach (fun _ _ h₂ => h₂.sendRegion))

theorem Kept.execPacket {head : MateHead} {frame : List Byte} (h : Kept s₀ s) : Ends s₀ (execPacket head frame s) := by
  unfold Machine.execPacket
  refine .next ?_
  split
  · rename_i _ heq
    have h₁ := h.mateIn.of_eq heq
    exact h₁
  · rename_i _ heq
    have h₁ := h.mateIn.of_eq heq
    exact h₁.withNet.toSector

theorem Kept.execResetNotice {head : MateHead} (h : Kept s₀ s) : Ends s₀ (execResetNotice head s) := by
  unfold Machine.execResetNotice
  refine .next ?_
  split
  · rename_i _ heq
    have h₁ := h.mateIn.of_eq heq
    exact h₁
  · rename_i _ heq
    have h₁ := h.mateIn.of_eq heq
    exact h₁.resetIdentity

theorem Kept.execMailbox {head : MateHead} {channel : Fin 64} {kind : Fin 3} {ack : Nat} {message : List Byte} (h : Kept s₀ s) : Ends s₀
    (execMailbox head channel kind ack message s) := by
  unfold Machine.execMailbox
  refine .next ?_
  split
  · rename_i _ heq
    have h₁ := h.mateIn.of_eq heq
    exact h₁
  · rename_i _ heq
    have h₁ := h.mateIn.of_eq heq
    exact .ite (.ite ((h₁.forEach (fun _ _ h₂ => h₂.set)).set.bump.set.ring) h₁.sendMate) (.ite h₁ (.ite h₁.set.set.ringSender.withHost
        h₁.mateMailFailed))

theorem Kept.mateDown (h : Kept s₀ s) : Kept s₀ s.mateDown :=
  .ite h (.share (h.withPair.stopCopy.bump.raise.forEach (fun _ _ h₂ => .ite h₂.zeroMail.mateMailFailed h₂)).resetIdentity fun h₃ => .ite
      h₃.fallSilent h₃)

theorem Kept.execMateLinkDown (h : Kept s₀ s) : Ends s₀ (execMateLinkDown s) :=
  h.inCore fun _ h₁ => h₁.mateDown

theorem Kept.execMateLinkUp (h : Kept s₀ s) : Ends s₀ (execMateLinkUp s) :=
  h.inCore (fun _ h₁ => .ite h₁ (.share h₁.withPair.raise fun h₂ => .ite h₂.set h₂))

theorem Kept.execMateCrcError (h : Kept s₀ s) : Ends s₀ (execMateCrcError s) :=
  h.inCore fun _ h₁ => .ite h₁.bump.raise h₁

theorem Kept.fail {b : Nat} (h : Kept s₀ s) : Kept s₀ (s.fail b) :=
  h.set

theorem Kept.pass {b : Nat} (h : Kept s₀ s) : Kept s₀ (s.pass b) :=
  h.set

theorem Kept.execMemoryBist {failed : Bool} (h : Kept s₀ s) : Ends s₀ (execMemoryBist failed s) :=
  h.inCore fun _ h₁ => .share h₁.withPair.bump fun h₂ => .ite h₂.fail.raise.showHealth h₂

theorem Kept.execLogicBist {failed : Bool} (h : Kept s₀ s) : Ends s₀ (execLogicBist failed s) := by
  unfold Machine.execLogicBist
  refine h.inCore fun _ h₁ => ?_
  split
  · exact h₁
  · exact .share h₁.withPair.bump fun h₂ => .ite h₂.fail.raise.showHealth h₂

theorem Kept.execLbistOverdue {pipeline : Fin 64} (h : Kept s₀ s) : Ends s₀ (execLbistOverdue pipeline s) :=
  h.inCore fun _ h₁ => .ite h₁.fail.raise h₁

theorem Kept.execEyeCheck {margins : List (Fin 292 × Nat)} (h : Kept s₀ s) : Ends s₀ (execEyeCheck margins s) := by
  unfold Machine.execEyeCheck
  refine h.inCore fun _ h₁ => (Kept.showHealth ?_)
  split
  · exact h₁.withPair.pass
  · exact h₁.withPair.fail.raise

theorem Kept.ruleFwHeartbeat (h : Kept s₀ s) : Kept s₀ (ruleFwHeartbeat s).2 :=
  h.withPair.pass.showHealth

theorem Kept.execFwHeartbeat {master value : Nat} (h : Kept s₀ s) : Ends s₀ (execFwHeartbeat master value s) :=
  h.rowWrite fun _ h₁ => h₁.ruleFwHeartbeat

theorem Kept.execHeartbeatTimeout (h : Kept s₀ s) : Ends s₀ (execHeartbeatTimeout s) :=
  h.inCore fun _ h₁ => .ite h₁.fail.raise.showHealth h₁

theorem Kept.dropSqs {sqs : List Nat} (h : Kept s₀ s) : Kept s₀ (s.dropSqs sqs) :=
  ((h.withHost.withNet.forEach (fun _ _ h₂ => h₂.set.set.set.set)).forEach (fun _ _ h₃ => h₃.tellDisabled)).countJobs

theorem Kept.dropCqs {cqs : List Nat} (h : Kept s₀ s) : Kept s₀ (s.dropCqs cqs) :=
  h.forEach fun _ _ h₁ => h₁.set.set.set.set.set.setCq.stashGone

theorem Kept.maskFunction {fn : Nat} (h : Kept s₀ s) : Kept s₀ (s.maskFunction fn) :=
  h.withMsix

theorem Kept.dropFunctions {fns : List Nat} (h : Kept s₀ s) : Kept s₀ (s.dropFunctions fns) :=
  h.dropSqs.dropCqs.withDict.forEach fun _ _ h₁ => h₁.maskFunction

theorem Kept.resetPcie (h : Kept s₀ s) : Kept s₀ s.resetPcie :=
  h.dropFunctions.forEach fun _ _ h₁ => h₁.resetIdentity

theorem Kept.execFunctionLevelReset {fn : Fin 33} (h : Kept s₀ s) : Ends s₀ (execFunctionLevelReset fn s) :=
  h.inCore (fun _ h₁ => .share h₁.dropFunctions fun h₂ => .ite (h₂.forEach (fun _ _ h₃ => h₃.resetIdentity)) h₂.resetIdentity)

theorem Kept.execPcieHotReset (h : Kept s₀ s) : Ends s₀ (execPcieHotReset s) :=
  h.inCore fun _ h₁ => h₁.resetPcie

theorem Kept.pcieDown (h : Kept s₀ s) : Kept s₀ s.pcieDown :=
  .ite h.set.set.set.set.bump.resetPcie.raise h

theorem Kept.execPcieLinkDown (h : Kept s₀ s) : Ends s₀ (execPcieLinkDown s) :=
  h.inCore fun _ h₁ => h₁.pcieDown

theorem Kept.enumerate {vfs : Nat} (h : Kept s₀ s) : Kept s₀ (s.enumerate vfs) :=
  h.set.forEach fun _ _ h₁ => h₁.emit

theorem Kept.execPcieLinkUp {speed : Fin 6} {width : Fin 5} {vfs : Fin 33} (h : Kept s₀ s) : Ends s₀ (execPcieLinkUp speed width vfs s) :=
  h.inCore fun _ h₁ => .ite h₁.enumerate h₁.set.set.set.set.enumerate.raise

theorem Kept.endWrite {via : SlowVia} {master key : Nat} {st : Status} {ret : Option Nat} {data : List Byte} (h : Kept s₀ s) : Kept s₀
    (s.endWrite via master key st ret data) := by
  unfold State.endWrite
  split
  · exact h.noteRefused
  · exact h.answer
  · split
    · exact h.complete
    · exact .ite h.complete h.openReturn.complete
  · exact h.withCoica

theorem Kept.endSlow {key : Nat} {st : Status} {ret : Option Nat} {data : List Byte} (h : Kept s₀ s) : Kept s₀ (s.endSlow key st ret
    data) :=
  h.withDict.forEach fun _ _ h₁ => .ite h₁.endWrite.notePending h₁.endWrite

theorem Kept.deriveIdentity {image : List (Nat × Nat)} (h : Kept s₀ s) : Kept s₀ (s.deriveIdentity image) :=
  h.withSec

theorem Kept.setLevel {v : Nat} (h : Kept s₀ s) : Kept s₀ (s.setLevel v) :=
  .share h.set.showHealth fun h₁ => .ite h₁ h₁.withSec

theorem Kept.dropDebug (h : Kept s₀ s) : Kept s₀ s.dropDebug :=
  .ite h h.setLevel.raise

theorem Kept.expireDebug (h : Kept s₀ s) : Kept s₀ s.expireDebug :=
  .ite h.dropDebug h

theorem Kept.startFuse {job : FuseJob} {master key : Nat} (h : Kept s₀ s) : Kept s₀ (s.startFuse job master key).2 :=
  h.withSec

theorem Kept.ruleProvision {master v : Nat} (h : Kept s₀ s) : Kept s₀ (ruleProvision master v s).2 := by
  unfold Machine.ruleProvision
  split
  · exact .iteSnd h (.iteSnd h.startFuse h)
  · exact h

theorem Kept.execProvisionProvisioned {master : Nat} (h : Kept s₀ s) : Ends s₀ (execProvisionProvisioned master s) :=
  h.rowWrite fun _ h₁ => h₁.ruleProvision

theorem Kept.execProvisionDecommission {master : Nat} (h : Kept s₀ s) : Ends s₀ (execProvisionDecommission master s) :=
  h.rowWrite fun _ h₁ => h₁.ruleProvision

theorem Kept.ruleSvnAdvance {master v : Nat} (h : Kept s₀ s) : Kept s₀ (ruleSvnAdvance master v s).2 := by
  unfold Machine.ruleSvnAdvance
  split
  · exact .iteSnd h.startFuse h
  · exact h

theorem Kept.execSvnAdvance {master value : Nat} (h : Kept s₀ s) : Ends s₀ (execSvnAdvance master value s) :=
  h.rowWrite fun _ h₁ => h₁.ruleSvnAdvance

theorem Kept.ruleKeyHash {k master v : Nat} (h : Kept s₀ s) : Kept s₀ (ruleKeyHash k master v s).2 := by
  unfold Machine.ruleKeyHash
  split
  · exact .iteSnd h (.iteSnd h h.startFuse)
  · exact h

theorem Kept.execKeyHash {slot : Fin 4} {master value : Nat} (h : Kept s₀ s) : Ends s₀ (execKeyHash slot master value s) :=
  .next (.ite h ((h.writeWith (fun _ h₁ => h₁.ruleKeyHash)).finish))

theorem Kept.blow {job : FuseJob} {read : Option (Nat × Nat)} (h : Kept s₀ s) : Kept s₀ (s.blow job read) := by
  unfold State.blow
  split
  · exact .share (Kept.ite h.fresh.fresh.withSec.withFlash h).withSec fun h₂ => .ite h₂.set.dropDebug h₂
  · exact h.set
  · exact h.set
  · split
    · exact h.set
    · exact h

theorem Kept.execFuseProgramDone {failed : Option (Nat × Nat)} (h : Kept s₀ s) : Ends s₀ (execFuseProgramDone failed s) := by
  unfold Machine.execFuseProgramDone
  refine .next ?_
  split
  · exact h
  · dsimp only
    split
    · exact h.withSec.blow.raise.endWrite
    · refine (Kept.endWrite ?_)
      split
      · exact h.withSec.blow.raise
      · exact h.withSec.blow.raise
      · exact h.withSec.blow.raise
      · exact h.withSec.blow

theorem Kept.drawChallenge (h : Kept s₀ s) : Kept s₀ s.drawChallenge.2.2 := by
  unfold State.drawChallenge
  exact h.freshBytes.withSec

theorem Kept.readChallenge (h : Kept s₀ s) : Kept s₀ s.readChallenge.2.2 := by
  unfold State.readChallenge
  split
  · exact .iteSnd₂ h h.withSec.drawChallenge
  · exact h.drawChallenge

theorem Kept.execDbgChallenge {master : Nat} (h : Kept s₀ s) : Ends s₀ (execDbgChallenge master s) :=
  h.rowRead fun _ h₁ => h₁.readChallenge

theorem Kept.ruleAuthSubmit {master : Nat} (h : Kept s₀ s) : Kept s₀ (Machine.ruleAuthSubmit master s).2 := by
  unfold Machine.ruleAuthSubmit
  extract_lets s₁ s₂ step token op sec s₃ s₄ sec₄ sec₃ s₅ valid s₆ s₇ sec₇ s₈
  have h₂ : Kept s₀ s₂ := .ite h.expireDebug h.expireDebug.dueTakeover
  have h₄ : Kept s₀ s₄ := h₂.withSec.bump.set.raise
  have h₅ : Kept s₀ s₅ := h₂.withSec.withSec
  have h₇ : Kept s₀ s₇ := h₅.set.set.setLevel
  have h₈ : Kept s₀ s₈ := .ite h₇.withSec h₇
  refine .iteSnd (.iteSnd h₄.withSec (.snd h₄.withSec.raise)) (.iteSnd (.snd h₈.raise) ?_)
  split
  · exact h₅.set.startFuse
  · exact h₅
  · exact h₅
  · exact h₅.set.startFuse

theorem Kept.submit {master value : Nat} (h : Kept s₀ s) : Ends s₀ (s.submit master value) :=
  h.rowWrite fun _ h₁ => h₁.ruleAuthSubmit

theorem Kept.execTokenObserve {master value : Nat} (h : Kept s₀ s) : Ends s₀ (execTokenObserve master value s) :=
  h.submit

theorem Kept.execTokenInvasive {master value : Nat} (h : Kept s₀ s) : Ends s₀ (execTokenInvasive master value s) :=
  h.submit

theorem Kept.execTokenTransition {master value : Nat} (h : Kept s₀ s) : Ends s₀ (execTokenTransition master value s) :=
  h.submit

theorem Kept.execTokenRevoke {master value : Nat} (h : Kept s₀ s) : Ends s₀ (execTokenRevoke master value s) :=
  h.submit

theorem Kept.ruleDbgDrop {v : Nat} (h : Kept s₀ s) : Kept s₀ (ruleDbgDrop v s).2 := by
  have h₁ := h.expireDebug
  unfold Machine.ruleDbgDrop
  exact .iteSnd h₁ (.iteSnd h₁ (.snd h₁.setLevel.raise))

theorem Kept.execDbgDrop {master value : Nat} (h : Kept s₀ s) : Ends s₀ (execDbgDrop master value s) :=
  h.rowWrite fun _ h₁ => h₁.ruleDbgDrop

theorem Kept.execDbgExpiry (h : Kept s₀ s) : Ends s₀ (execDbgExpiry s) :=
  .next h.expireDebug

theorem Kept.execChallengeExpiry (h : Kept s₀ s) : Ends s₀ (execChallengeExpiry s) := by
  unfold Machine.execChallengeExpiry
  refine .next ?_
  split
  · exact .ite h.withSec h
  · exact h

theorem Kept.execChallengeLockoutEnd (h : Kept s₀ s) : Ends s₀ (execChallengeLockoutEnd s) := by
  unfold Machine.execChallengeLockoutEnd
  refine .next ?_
  split
  · exact .ite h.withSec h
  · exact h

theorem Kept.invasive {f : State → Res} (h : Kept s₀ s) (hf : ∀ s, Kept s₀ s → Kept s₀ (f s).2) : Kept s₀ (s.invasive f) :=
  .share h.expireDebug fun h₁ => (Kept.iteSnd h₁ (.iteSnd h₁ (hf _ h₁))).answer

theorem Kept.execCoreHalt (h : Kept s₀ s) : Ends s₀ (execCoreHalt s) :=
  .next (h.invasive (fun _ h₁ => h₁.withSec))

theorem Kept.execCoreStep (h : Kept s₀ s) : Ends s₀ (execCoreStep s) :=
  .next (h.invasive (fun _ h₁ => .iteSnd h₁ h₁))

theorem Kept.execExtest {mode : Fin 3} (h : Kept s₀ s) : Ends s₀ (execExtest mode s) :=
  .next (.share h.expireDebug fun h₁ => .ite h₁.withSec.emit (.ite h₁.answer (.share h₁.withSec fun h₂ => (Kept.ite h₂.emit h₂).answer)))

theorem Kept.countDiscard {key : Nat} (h : Kept s₀ s) : Kept s₀ (s.countDiscard key) :=
  h.withBoot

theorem Kept.discardAt {key : Nat} {k : Pkt} (h : Kept s₀ s) : Kept s₀ (s.discardAt key k) :=
  h.countDiscard.dropPacket

theorem Kept.discardSelected {key p : Nat} {k : Pkt} (h : Kept s₀ s) : Kept s₀ (s.discardSelected key p k) :=
  h.countDiscard.dropSelected

theorem Kept.beginReset {key : Nat} (h : Kept s₀ s) : Kept s₀ (s.beginReset key) :=
  .ite h h.withBoot

theorem Kept.blockPart {c i : Nat} (h : Kept s₀ s) : Kept s₀ (s.blockPart c i) :=
  h.setPart

theorem Kept.clearFs {n : Nat} (h : Kept s₀ s) : Kept s₀ (s.clearFs n) := by
  unfold State.clearFs
  refine (((h.withNet.forEach (fun _ _ h₁ => h₁.discardAt)).withNet.forEach (fun _ _ h₃ => h₃.discardAt)).forEach (fun _ _ h₄ =>
      h₄.withNet.forEach (fun _ _ h₅ => h₅.discardSelected))).forEach fun _ _ h₅ => ?_
  dsimp only
  split
  · exact (h₅.withNet.forEach (fun _ _ h₆ => h₆.discardSelected)).discardSelected
  · exact (h₅.withNet.forEach (fun _ _ h₆ => h₆.discardSelected))

theorem Kept.resetFs {n : Nat} (h : Kept s₀ s) : Kept s₀ (s.resetFs n) :=
  (h.clearFs.beginReset.forEach (fun _ _ h₂ => h₂.blockPart)).showPower

theorem Kept.resetNodes {p : Nat} (h : Kept s₀ s) : Kept s₀ (s.resetNodes p) :=
  (h.forEach (fun _ _ h₁ => h₁.setClassDeficit)).forEach (fun _ _ h₂ => h₂.forEach (fun _ _ h₃ => h₃.setGroupDeficit.forEach (fun _ _ h₄
      => h₄.wfqJoin)))

theorem Kept.huntDefect {m : Nat} (h : Kept s₀ s) : Kept s₀ (s.huntDefect m) :=
  h.hunt.setDefect

theorem Kept.markCounted {ids : List Nat} (h : Kept s₀ s) : Kept s₀ (s.markCounted ids) :=
  h.withFab

theorem Kept.discardCells {key : Nat} {l : List OutCell} (h : Kept s₀ s) : Kept s₀ (s.discardCells key l) :=
  h.dropCells.markCounted.forEach fun _ _ h₁ => h₁.countDiscard

theorem Kept.resetLane {m : Nat} (h : Kept s₀ s) : Kept s₀ (s.resetLane m) :=
  .share h.withFab.setFl.discardCells fun h₁ => .ite h₁.huntDefect h₁

theorem Kept.resetSlice {n : Nat} (h : Kept s₀ s) : Kept s₀ (s.resetSlice n) :=
  h.withFab.withSched.discardCells.forEach fun _ _ h₃ => h₃.resetNodes.creditClasses

theorem Kept.resetTs {n : Nat} (h : Kept s₀ s) : Kept s₀ (s.resetTs n) :=
  (h.resetSlice.forEach (fun _ _ h₁ => h₁.resetLane)).beginReset.blockPart.showPower

theorem Kept.resetSector {die n : Nat} (h : Kept s₀ s) : Kept s₀ (s.resetSector die n) :=
  .ite h.resetFs h.resetTs

theorem Kept.coreWrite {f : State → State} (h : Kept s₀ s) (hf : ∀ s, Kept s₀ s → Kept s₀ (f s)) : Kept s₀ (s.coreWrite f).2 :=
  .iteSnd h (hf s h)

theorem Kept.ruleSectorReset {v : Nat} (h : Kept s₀ s) : Kept s₀ (ruleSectorReset v s).2 :=
  .iteSnd h (h.coreWrite (fun _ h₁ => .ite h₁ h₁.resetSector))

theorem Kept.execSectorReset {master value : Nat} (h : Kept s₀ s) : Ends s₀ (execSectorReset master value s) :=
  h.rowWrite fun _ h₁ => h₁.ruleSectorReset

theorem Kept.execSectorResetDone {die : Fin 2} {sector : Fin 8} (h : Kept s₀ s) : Ends s₀ (execSectorResetDone die sector s) :=
  h.inCore (fun _ h₁ => .ite h₁ ((h₁.withBoot.forEach (fun _ _ h₂ => h₂.movePart)).showPower))

theorem Kept.resetUnit {v : Nat} (h : Kept s₀ s) : Kept s₀ (s.resetUnit v) := by
  unfold State.resetUnit
  refine .ite ?_ (.ite h.resetLane (.ite h.resetSlice h))
  dsimp only
  split
  · exact h
  · split
    · exact h.withNet.discardSelected
    · exact h

theorem Kept.ruleUnitReset {v : Nat} (h : Kept s₀ s) : Kept s₀ (ruleUnitReset v s).2 :=
  .iteSnd h (h.coreWrite (fun _ h₁ => h₁.resetUnit))

theorem Kept.execUnitReset {master value : Nat} (h : Kept s₀ s) : Ends s₀ (execUnitReset master value s) :=
  h.rowWrite fun _ h₁ => h₁.ruleUnitReset

theorem Kept.execSectorFault {die : Fin 2} {sector : Fin 8} (h : Kept s₀ s) : Ends s₀ (execSectorFault die sector s) :=
  h.inCore (fun _ h₁ => .share h₁.raise.withEv fun h₂ => (Kept.ite h₂.raise h₂).resetSector)

theorem Kept.execScanDump {die : Fin 2} {sector : Fin 8} (h : Kept s₀ s) : Ends s₀ (execScanDump die sector s) :=
  .next (h.invasive (fun _ h₁ => .iteSnd h₁ h₁.fresh.emit.resetSector))

theorem Kept.resetNotice {scope : Nat} (h : Kept s₀ s) : Kept s₀ (s.resetNotice scope) :=
  .ite h.emit h

theorem Kept.resetF (h : Kept s₀ s) : Kept s₀ s.resetF := by
  unfold State.resetF
  exact ((((h.forEach (fun _ _ h₁ => h₁.resetFs.withNet.forEach (fun _ _ h₃ => h₃.discardAt))).withNet.withLine.forEach (fun _ _ h₃ =>
      h₃.discardAt)).forEach (fun _ _ h₄ => .ite h₄.setLine.set.countPort.raise h₄.setLine)).forEach (fun _ _ h₅ => h₅.setEmt)).beginReset

theorem Kept.resetT (h : Kept s₀ s) : Kept s₀ s.resetT := by
  unfold State.resetT
  extract_lets s₁ s₂ s₃ toAdmit s₄ s₅ net sched fab hbm s₆ s₇ s₈ s₉ s₁₀ s₁₁ s₁₂
  have h₁ : Kept s₀ s₁ := h.forEach fun _ _ h => h.resetTs
  have h₂ : Kept s₀ s₂ := h₁.forEach fun _ _ h => h.forEach fun _ _ h => h.discard
  have h₃ : Kept s₀ s₃ := h₂.forEach fun _ _ h => Kept.forEach h.withNet fun _ _ h => h.discardSelected
  have h₅ : Kept s₀ s₅ := Kept.forEach h₃.withNet fun _ _ h => h.discardAt
  have h₆ : Kept s₀ s₆ := h₅.withNet.withSched.withFab.withHbm fun _ => rfl
  have h₈ : Kept s₀ s₈ := Kept.forEach h₆.set fun _ _ h => h.set
  have h₉ : Kept s₀ s₉ := h₈.forEach fun _ _ h => h.setDom
  have h₁₀ : Kept s₀ s₁₀ := h₉.forEach fun _ _ h => h.setDom
  have h₁₁ : Kept s₀ s₁₁ := h₁₀.forEach fun _ _ h => h.setDom
  exact Kept.beginReset (h₁₁.forEach fun _ _ h => h.creditHeld)

theorem Kept.ruleDieReset {v : Nat} (h : Kept s₀ s) : Kept s₀ (ruleDieReset v s).2 := by
  unfold Machine.ruleDieReset
  exact .iteSnd (h.coreWrite (fun _ h₁ => h₁.resetNotice.resetF)) (.iteSnd (h.coreWrite (fun _ h₁ => h₁.resetNotice.resetT)) h)

theorem Kept.execDieResetF {master : Nat} (h : Kept s₀ s) : Ends s₀ (execDieResetF master s) :=
  h.rowWrite fun _ h₁ => h₁.ruleDieReset

theorem Kept.execDieResetT {master : Nat} (h : Kept s₀ s) : Ends s₀ (execDieResetT master s) :=
  h.rowWrite fun _ h₁ => h₁.ruleDieReset

theorem Kept.execDieResetDone {die : Fin 2} (h : Kept s₀ s) : Ends s₀ (execDieResetDone die s) :=
  h.inCore (fun _ h₁ => .ite h₁ (h₁.withBoot.forEach (fun _ _ h₂ => (h₂.forEach (fun _ _ h₃ => h₃.movePart)).showPower)))

theorem Kept.execD2dReplay {good : Bool} (h : Kept s₀ s) : Ends s₀ (execD2dReplay good s) :=
  h.inCore fun _ h₁ => .ite h₁ h₁.bump.withEv

theorem Kept.execD2dRetrain (h : Kept s₀ s) : Ends s₀ (execD2dRetrain s) :=
  h.inCore fun _ h₁ => .ite h₁ h₁.withEv.raise

theorem Kept.execD2dRetrainDone (h : Kept s₀ s) : Ends s₀ (execD2dRetrainDone s) := by
  unfold Machine.execD2dRetrainDone
  refine h.inCore fun _ h₁ => ?_
  split
  · exact .ite h₁.withEv h₁
  · exact h₁

theorem Kept.execD2dLinkFail (h : Kept s₀ s) : Ends s₀ (execD2dLinkFail s) := by
  unfold Machine.execD2dLinkFail
  refine h.inCore fun _ h₁ => ?_
  split
  · exact h₁
  · exact .ite h₁ (((h₁.withEv.raise.withNet.forEach (fun _ _ h₄ => h₄.freeCtx.discardAt)).forEach (fun _ _ h₅ =>
      h₅.countDiscard.lastUnit)).forEach (fun _ _ h₆ => h₆.countDiscard.lastUnit))

theorem Kept.ruleAlarmPending {v : Nat} (h : Kept s₀ s) : Kept s₀ (ruleAlarmPending v s).2 :=
  h.set

theorem Kept.releaseAlarm (h : Kept s₀ s) : Kept s₀ s.releaseAlarm :=
  .ite h.withEv.emit h

theorem Kept.execAlarmPendingClear {master value : Nat} (h : Kept s₀ s) : Ends s₀ (execAlarmPendingClear master value s) :=
  h.rowWrite fun _ h₁ => h₁.ruleAlarmPending

theorem Kept.setSlots {a b : SlotRec} (h : Kept s₀ s) : Kept s₀ (s.setSlots a b) :=
  h.withFlash.emit

theorem Kept.readRecord (h : Kept s₀ s) : Kept s₀ s.readRecord :=
  .ite h.withFlash h

theorem Kept.failTrial (h : Kept s₀ s) : Kept s₀ s.failTrial :=
  .ite h.setSlots.withBoot.set.raise h

theorem Kept.endUpdate (h : Kept s₀ s) : Kept s₀ s.endUpdate :=
  .ite h.set h

theorem Kept.tablesLost (h : Kept s₀ s) {p : Nat → Bool} : Kept s₀ ((s.withObjs (Table.keep p s.objs)).withDoms []) :=
  h.withObjs.withDoms fun _ => rfl

theorem Kept.clockLost (h : Kept s₀ s) : Kept s₀ (s.withTime { s.time with
    reload := true, shadowBefore := s.time.shadow, frac := 0, steps := [], replicaSkew := 0, missed := 0, ppsHigh := false
    versions := [], fifo := [] }) := h.withTime

theorem Kept.coreLost {lock : Bool} (h : Kept s₀ s) : Kept s₀ (s.coreLost lock) := by
  unfold State.coreLost
  extract_lets s₁ s₂ s₃ s₄ s₅ s₆ standby s₇ ev s₈ time s₉ s₁₀ s₁₁ s₁₂ s₁₃ coica s₁₄ s₁₅ pw s₁₆ sec s₁₇ s₁₈ s₁₉
  have h₃ : Kept s₀ s₃ := .share (.ite h.failTrial.pcieDown h.failTrial.resetPcie) fun h₂ => .ite h₂.mateDown h₂.mateDown.resetIdentity
  have h₄ : Kept s₀ s₄ := h₃.resetIdentity.applyResets.answerLocks
  have h₅ : Kept s₀ s₅ := by
    unfold s₅
    split
    · exact .ite h₄.answer h₄
    · exact h₄
  have h₆ : Kept s₀ s₆ := .ite h₅.emit h₅
  have h₈ : Kept s₀ s₈ := h₆.tablesLost.withEv
  have h₁₀ : Kept s₀ s₁₀ := h₈.clockLost.set
  have h₁₁ : Kept s₀ s₁₁ := h₁₀.withParse.withTab.withNet.withSched.withLine.withFab
  have h₁₂ : Kept s₀ s₁₂ := h₁₁.forEach fun _ _ h => h.answer
  have h₁₃ : Kept s₀ s₁₃ := (h₁₂.withHbm fun _ => rfl).withDict.withHost.withMsix.withCqs
  have h₁₇ : Kept s₀ s₁₇ := h₁₃.withCoica.withPair.withPw.withSec.withBoot
  have h₁₈ : Kept s₀ s₁₈ := .ite h₁₇.set h₁₇
  have h₁₉ : Kept s₀ s₁₉ := (Kept.ite h₁₈.endUpdate h₁₈).set
  exact (Kept.ite h₁₉.set h₁₉).showHealth

theorem Kept.execPackageWarmReset (h : Kept s₀ s) : Ends s₀ (execPackageWarmReset s) :=
  .next (.ite h h.coreLost.cmbReset.withBoot)

theorem Kept.warmBoot {cause : Nat} (h : Kept s₀ s) : Kept s₀ (s.warmBoot cause) :=
  h.coreLost.cmbReset.withBoot.set

theorem Kept.execWarmNRelease (h : Kept s₀ s) : Ends s₀ (execWarmNRelease s) :=
  .next (.ite h.withBoot.withTime.set h)

theorem Kept.ruleWarmReset {v : Nat} (h : Kept s₀ s) : Kept s₀ (ruleWarmReset v s).2 :=
  .iteSnd (h.coreWrite (fun _ h₁ => h₁.resetNotice.warmBoot)) h

theorem Kept.execWarmReset {master value : Nat} (h : Kept s₀ s) : Ends s₀ (execWarmReset master value s) :=
  h.rowWrite fun _ h₁ => h₁.ruleWarmReset

theorem Kept.execIslandEntry {rails : Nat} (h : Kept s₀ s) : Ends s₀ (execIslandEntry rails s) :=
  .next (.ite h h.coreLost.withPw.withBoot.bump.set.set.set.raise)

theorem Kept.execIslandExit (h : Kept s₀ s) : Ends s₀ (execIslandExit s) :=
  .next (.ite h h.withObjs.endUpdate.endSlow.cmbReset.raise.withPw.withTime.withBoot.set.set)

theorem Kept.readFuses (h : Kept s₀ s) : Kept s₀ s.readFuses :=
  .ite (.share h.withSec.set.withSec.withFlash fun h₂ => .ite h₂.setSlots h₂) h.withSec

/-- The tables that a cold reset leaves are canonical whatever they were before: they are the empty ones, and what is set in them. -/
theorem KeptForm.coldReset (s : State) : KeptForm s s.coldReset := by
  unfold State.coldReset
  extract_lets trial s₁ s₂ s₃ s₄ fuses n n₁ n₂ n₃
  have h₁ : Kept n n₁ := Kept.readFuses ((Kept.refl n).forEach fun _ _ h => h.set)
  have h₂ : Kept n n₂ := .ite h₁.set h₁
  have h₃ : Kept n n₃ := .ite h₂ h₂.raise
  have h₄ : Kept n (if trial then n₃.raise 0x7103 uMGMT 0 else n₃) := .ite h₃.raise h₃
  exact ⟨fun _ => h₄.objs rfl, fun _ => h₄.doms rfl, fun _ => h₄.cells rfl⟩

-- none

theorem Kept.bootProgress (h : Kept s₀ s) : Kept s₀ s.bootProgress := by
  unfold State.bootProgress
  split
  · exact h
  · exact .share (.ite h.set h) fun h₁ => .ite h₁.scrubBegin h₁

theorem Kept.setSlot {b : Bool} {r : SlotRec} (h : Kept s₀ s) : Kept s₀ (s.setSlot b r) :=
  h.setSlots

theorem Kept.chooseSlot {fuel : Nat} (h : Kept s₀ s) : Kept s₀ (State.chooseSlot fuel s).2 := by
  induction fuel generalizing s with
  | zero => exact h
  | succ fuel ih =>
    unfold State.chooseSlot
    split
    · exact h
    · exact .iteSnd h (ih h.setSlot.raise)

theorem Kept.runSlot {b : Bool} (h : Kept s₀ s) : Kept s₀ (s.runSlot b) :=
  .share h.set.set.set.set.set.set.set.deriveIdentity fun h₄ => .ite h₄ h₄.setSlot

theorem Kept.startTrial (h : Kept s₀ s) : Kept s₀ s.startTrial :=
  .ite h.withBoot h

theorem Kept.setPantry {b : Bool} {l : List Byte} (h : Kept s₀ s) : Kept s₀ (s.setPantry b l) :=
  h.withFlash

theorem Kept.startPantry {records : List (Nat × Nat)} {channel : Option Nat} (h : Kept s₀ s) : Kept s₀ (s.startPantry records channel).2
    :=
  .iteSnd h (.iteSnd h h.setPantry.set.withBoot)

theorem Kept.ruleStore {v : Nat} (h : Kept s₀ s) : Kept s₀ (ruleStore v s).2 :=
  .iteSnd h.startPantry h

theorem Kept.ruleClear {v : Nat} (h : Kept s₀ s) : Kept s₀ (ruleClear v s).2 :=
  .iteSnd h.startPantry h

theorem Kept.execStore {master value : Nat} (h : Kept s₀ s) : Ends s₀ (execStore master value s) :=
  h.rowSlow fun _ h₁ => h₁.ruleStore

theorem Kept.execClear {master value : Nat} (h : Kept s₀ s) : Ends s₀ (execClear master value s) :=
  h.rowSlow fun _ h₁ => h₁.ruleClear

theorem Kept.firmwareAck {n code : Nat} (h : Kept s₀ s) : Kept s₀ (s.firmwareAck n code) :=
  h.ruleAck

theorem Kept.execPantryWriteDone {done : FlashEnd} (h : Kept s₀ s) : Ends s₀ (execPantryWriteDone done s) := by
  unfold Machine.execPantryWriteDone
  refine .next ?_
  split
  · exact h
  · refine .ite h ?_
    dsimp only
    split
    · exact (Kept.ite h.withBoot.emit.setPantry.set.bump.raise h.withBoot.set.raise).firmwareAck
    · exact (Kept.ite h.withBoot.emit.setPantry.set.bump.raise h.withBoot.set.raise).endSlow.endSlow

theorem Kept.updBegin {master : Nat} (h : Kept s₀ s) : Kept s₀ (s.updBegin master).2 :=
  .iteSnd h (.iteSnd h h.setSlot.set.set.set.set.set)

theorem Kept.updCommit (h : Kept s₀ s) : Kept s₀ s.updCommit.2 :=
  .iteSnd h h.set

theorem Kept.updAbort {master : Nat} (h : Kept s₀ s) : Kept s₀ (s.updAbort master).2 :=
  .iteSnd h h.set.endSlow

theorem Kept.ruleUpdCtrl {master v : Nat} (h : Kept s₀ s) : Kept s₀ (ruleUpdCtrl master v s).2 := by
  unfold Machine.ruleUpdCtrl
  split
  · exact h.updBegin
  · exact h.updCommit
  · exact h.updAbort
  · exact h

theorem Kept.execUpdateBegin {master : Nat} (h : Kept s₀ s) : Ends s₀ (execUpdateBegin master s) :=
  h.rowSlow fun _ h₁ => h₁.ruleUpdCtrl

theorem Kept.execUpdateCommit {master : Nat} (h : Kept s₀ s) : Ends s₀ (execUpdateCommit master s) :=
  h.rowSlow fun _ h₁ => h₁.ruleUpdCtrl

theorem Kept.execUpdateAbort {master : Nat} (h : Kept s₀ s) : Ends s₀ (execUpdateAbort master s) :=
  h.rowWrite fun _ h₁ => .iteSnd h₁ h₁.ruleUpdCtrl

theorem Kept.execEraseDone (h : Kept s₀ s) : Ends s₀ (execEraseDone s) :=
  .next (.ite h.set.endSlow h)

theorem Kept.updBlock {owner offset : Nat} {data : List Byte} {good : Bool} (h : Kept s₀ s) : Kept s₀ (s.updBlock owner offset data
    good).2.2 :=
  .iteSnd₂ h (.iteSnd₂ h (.iteSnd₂ h (.iteSnd₂ h (.iteSnd₂ h.set.set h.withFlash.set))))

theorem Kept.execFwBlock {sq : Fin 1024} {index : Nat} {good : Bool} {dma : Dma} (h : Kept s₀ s) : Ends s₀ (execFwBlock sq index good dma
    s) := by
  unfold Machine.execFwBlock
  refine .ite (.next h) (h.runJob (fun _ _ h₁ => .ite (.some h₁) ?_))
  split
  · exact .some h₁
  · exact .some h₁.updBlock

theorem Kept.execCommitCheckDone (h : Kept s₀ s) : Ends s₀ (execCommitCheckDone s) := by
  unfold Machine.execCommitCheckDone
  refine .next (.ite h ?_)
  dsimp only
  split
  · exact h.setSlot.set.set.raise.endSlow
  · exact h.set.set.raise.endSlow

theorem Kept.accept (h : Kept s₀ s) : Kept s₀ s.accept := by
  unfold State.accept
  exact (Kept.ite h.setSlot.setSlot h.setSlot).withFlash.withBoot.raise

theorem Kept.ruleFwAccept {v : Nat} (h : Kept s₀ s) : Kept s₀ (ruleFwAccept v s).2 := by
  unfold Machine.ruleFwAccept
  refine .iteSnd h ?_
  split
  · exact .iteSnd h.accept h
  · exact h

theorem Kept.execFwAccept {master value : Nat} (h : Kept s₀ s) : Ends s₀ (execFwAccept master value s) :=
  h.rowWrite fun _ h₁ => h₁.ruleFwAccept

theorem Kept.restartFirmware {cause : Nat} (h : Kept s₀ s) : Kept s₀ (s.restartFirmware cause) :=
  .share h.resetNotice.failTrial.resetIdentity.withSec.set fun h₃ => .ite h₃.withBoot h₃.withBoot

theorem Kept.ruleFwRestart {v : Nat} (h : Kept s₀ s) : Kept s₀ (ruleFwRestart v s).2 :=
  .iteSnd (h.coreWrite (fun _ h₁ => h₁.restartFirmware)) h

theorem Kept.execFwRestart {master value : Nat} (h : Kept s₀ s) : Ends s₀ (execFwRestart master value s) :=
  h.rowWrite fun _ h₁ => h₁.ruleFwRestart

theorem Kept.execTrialEnd (h : Kept s₀ s) : Ends s₀ (execTrialEnd s) := by
  unfold Machine.execTrialEnd
  refine h.inCore fun _ h₁ => ?_
  split
  · exact .ite h₁.restartFirmware h₁
  · exact h₁

theorem Kept.holdOff (h : Kept s₀ s) : Kept s₀ s.holdOff :=
  ((h.forEach (fun _ _ h₁ => h₁.movePart)).forEach (fun _ _ h₂ => h₂.forEach (fun _ _ h₃ => h₃.movePart))).forEach fun _ _ h₃ =>
      h₃.showPower

theorem Kept.recover (h : Kept s₀ s) : Kept s₀ s.recover := by
  unfold State.recover
  exact h.withBoot.set.holdOff.raise

theorem Kept.migrate (h : Kept s₀ s) : Kept s₀ s.migrate := by
  unfold State.migrate
  dsimp only
  split
  · exact .ite h.set.emit.setPantry.withBoot h
  · exact h

theorem Kept.lateCommits (h : Kept s₀ s) : Kept s₀ s.lateCommits :=
  h.withCoica.forEach fun _ _ h₁ => h₁.updBlock.endWrite

theorem Kept.bootEnd {cause : Nat} (h : Kept s₀ s) : Kept s₀ (s.bootEnd cause) :=
  (Kept.ite h.armMateCycle h).lateCommits.set.set.bumpW.startTrial.raise

theorem Kept.execFwReady (h : Kept s₀ s) : Ends s₀ (execFwReady s) := by
  unfold Machine.execFwReady
  refine h.inCore fun _ h₁ => .ite h₁ ?_
  split
  · rename_i _ heq
    have h₂ := h₁.readRecord.chooseSlot.of_eq heq
    exact h₂.recover
  · rename_i _ heq
    have h₂ := h₁.readRecord.chooseSlot.of_eq heq
    exact h₂.runSlot.migrate.withBoot.bootEnd

theorem Kept.firmwareTakes {n code : Nat} {f : State → State} (h : Kept s₀ s) (hf : ∀ s, Kept s₀ s → Kept s₀ (f s)) :
    Ends s₀ (s.firmwareTakes n code f) :=
  .next (.ite h (.ite h.firmwareAck (.ite h (.ite h.firmwareAck (hf s h)))))

theorem Kept.execPing {channel : Fin 64} (h : Kept s₀ s) : Ends s₀ (execPing channel s) :=
  h.firmwareTakes fun _ h₁ => h₁.firmwareAck

theorem Kept.execPairReady {channel : Fin 64} {reply : Option Bool} (h : Kept s₀ s) : Ends s₀ (execPairReady channel reply s) :=
  h.firmwareTakes fun _ h₁ => h₁.firmwareAck

theorem Kept.execPantryStore {channel : Fin 64} (h : Kept s₀ s) : Ends s₀ (execPantryStore channel s) := by
  unfold Machine.execPantryStore
  refine h.firmwareTakes fun _ h₁ => .ite h₁ ?_
  split
  · rename_i _ heq
    have h₂ := h₁.startPantry.of_eq heq
    exact h₂
  · rename_i _ heq
    have h₂ := h₁.startPantry.of_eq heq
    exact h₂.firmwareAck
  · rename_i _ heq
    have h₂ := h₁.startPantry.of_eq heq
    exact h₂.firmwareAck

theorem Kept.execRestart {channel : Fin 64} (h : Kept s₀ s) : Ends s₀ (execRestart channel s) :=
  h.firmwareTakes fun _ h₁ => .ite h₁.firmwareAck.restartFirmware h₁.firmwareAck

theorem Kept.execAccept {channel : Fin 64} (h : Kept s₀ s) : Ends s₀ (execAccept channel s) := by
  unfold Machine.execAccept
  refine h.firmwareTakes fun _ h₁ => ?_
  split
  · rename_i _ heq
    have h₂ := h₁.ruleFwAccept.of_eq heq
    exact h₂.firmwareAck
  · rename_i _ heq
    have h₂ := h₁.ruleFwAccept.of_eq heq
    exact h₂.firmwareAck

theorem Kept.setVaon {b : Bool} {mv : Nat} (h : Kept s₀ s) : Kept s₀ (s.setVaon b mv) :=
  (Kept.ite h.withThermal h).set.set

theorem Kept.execAonSwitch {vaonA vaonB : Nat} (h : Kept s₀ s) : Ends s₀ (Machine.execAonSwitch vaonA vaonB s) := by
  unfold Machine.execAonSwitch
  exact .next (.share h.setVaon.setVaon fun h₁ => .ite h₁.set.bump.raise h₁)

theorem Kept.execAonReturn {vaonA : Nat} (h : Kept s₀ s) : Ends s₀ (execAonReturn vaonA s) :=
  .next (.ite h.setVaon.set.raise h.setVaon)

theorem Kept.execVaonBLow {vaonB : Nat} (h : Kept s₀ s) : Ends s₀ (execVaonBLow vaonB s) :=
  .next (.ite h.setVaon (.ite h.setVaon.withThermal.raise h.setVaon))

-- none

theorem Kept.setLocks {l : List Nat} {v : Bool} (h : Kept s₀ s) : Kept s₀ (s.setLocks l v) :=
  h.set

theorem Kept.execRefLost {reference : Fin 5} (h : Kept s₀ s) : Ends s₀ (execRefLost reference s) := by
  unfold Machine.execRefLost
  refine .next (.ite h ?_)
  dsimp only
  split
  · exact h.set.bump.setLocks.raise
  · exact .ite h.set.bump h.set.bump.pcieDown
  · exact h.set.bump.set.raise
  · exact h.set.bump.raise

theorem Kept.execRefRestored {reference : Fin 5} (h : Kept s₀ s) : Ends s₀ (execRefRestored reference s) := by
  unfold Machine.execRefRestored
  refine .next (.ite h ?_)
  dsimp only
  split
  · exact h.set.setLocks
  · exact h.set.setLocks.set
  · exact h.set.setLocks

theorem Kept.execPllUnlock {domain : Fin 18} (h : Kept s₀ s) : Ends s₀ (execPllUnlock domain s) := by
  unfold Machine.execPllUnlock
  refine .next ?_
  split
  · exact .ite h (.ite h.setLocks.raise h.setLocks)
  · exact h.setLocks

theorem Kept.showTemp {die : Nat} (h : Kept s₀ s) : Kept s₀ (s.showTemp die) :=
  h.set.set

theorem Kept.rowsClosed (h : Kept s₀ s) : Kept s₀ (s.withHbm { s.hbm with rows := [] }) := h.withHbm

theorem Kept.thermalStop {unit : Nat} (h : Kept s₀ s) : Kept s₀ (s.thermalStop unit) := by
  unfold State.thermalStop
  extract_lets s₁ s₂
  have h₁ : Kept s₀ s₁ := h.forEach fun _ _ h₁ => h₁.portOff
  have h₂ : Kept s₀ s₂ := h₁.holdOff.forEach fun _ _ h₁ => h₁.resetLane
  exact h₂.rowsClosed.set.bump.raise

theorem Kept.execThermalSample {sensors hbmTemps : List ℤ} (h : Kept s₀ s) : Ends s₀ (execThermalSample sensors hbmTemps s) := by
  unfold Machine.execThermalSample
  refine h.inCore (fun _ h₁ => .ite ((h₁.forEach (fun _ _ h₂ => h₂.set)).forEach (fun _ _ h₃ =>
      h₃.setStackTemp)).showTemp.showTemp.withThermal ?_)
  split
  · exact ((h₁.forEach (fun _ _ h₂ => h₂.set)).forEach (fun _ _ h₃ => h₃.setStackTemp)).showTemp.showTemp.withThermal.thermalStop
  · exact ((h₁.forEach (fun _ _ h₂ => h₂.set)).forEach (fun _ _ h₃ => h₃.setStackTemp)).showTemp.showTemp.withThermal.thermalStop
  · exact ((h₁.forEach (fun _ _ h₂ => h₂.set)).forEach (fun _ _ h₃ => h₃.setStackTemp)).showTemp.showTemp.withThermal

theorem Kept.throttle {die : Nat} (h : Kept s₀ s) : Kept s₀ (s.throttle die) :=
  .ite (.share h.set.withThermal fun h₁ => .ite h₁.raise h₁) (.ite (.share h.set.withThermal fun h₁ => .ite h₁.raise h₁) h)

theorem Kept.execThrottleEval (h : Kept s₀ s) : Ends s₀ (execThrottleEval s) :=
  h.inCore fun _ h₁ => h₁.withThermal

theorem Kept.throttleCycle (h : Kept s₀ s) : Kept s₀ s.throttleCycle :=
  .ite h (.share h.withThermal fun h₁ => .ite h₁ ((Kept.ite h₁ h₁.bump).throttle.throttle))

theorem Kept.ruleComm {master key v : Nat} (h : Kept s₀ s) : Kept s₀ (s.ruleComm master key v).2 := by
  unfold State.ruleComm
  refine .iteSnd (.iteSnd h.plain h.ruleHpRing) (.iteSnd ?_ (.iteSnd ?_ (.iteSnd h.ruleVfResources (.iteSnd h.ruleMbBinding (.iteSnd ?_
      (.iteSnd ?_ (.iteSnd (.iteSnd h.ruleStation (.iteSnd h.ruleSupvAddr h.ruleCmbSetting)) h.ruleWp)))))))
  · split
    · exact h.ruleSelect
    · exact h.plain
    · exact h.plain
    · exact h.ruleSqEnable
    · exact h.ruleSqSetting
  · split
    · exact h.ruleSelect
    · exact h.ruleCqVector
    · exact h.ruleCqCoal
    · exact h.ruleCqCoal
    · exact h.ruleCqEnable
    · exact h.ruleCqSetting
  · split
    · exact h.ruleSend
    · exact h.ruleAck
    · exact h.ruleLock
    · exact h.ruleMailboxMsg
  · split
    · exact h.ruleDbPending
    · exact h.ruleDbMask
    · exact h.ruleDbVector

theorem Kept.ruleDictLock {v : Nat} (h : Kept s₀ s) : Kept s₀ (ruleDictLock v s).2 :=
  .iteSnd (.iteSnd h h.set.set) (.iteSnd h h)

theorem Kept.ruleEventCq {v : Nat} (h : Kept s₀ s) : Kept s₀ (ruleEventCq v s).2 :=
  .iteSnd h h.plain

theorem Kept.ruleSystem {master key v : Nat} (h : Kept s₀ s) : Kept s₀ (s.ruleSystem master key v).2 := by
  unfold State.ruleSystem
  dsimp only
  split
  · exact h.ruleStateReq
  · exact h.ruleFreqAdj
  · exact h.ruleStep
  · exact h.ruleRclkSel
  · exact h.ruleRclkSel
  · exact h.ruleDayOffset
  · exact h.ruleWakeReq
  · exact .iteSnd h h.plain
  · exact h.ruleProvision
  · exact h.ruleSvnAdvance
  · exact h.ruleKeyHash
  · exact h.ruleDictLock
  · exact h.ruleAuthSubmit
  · exact h.ruleDbgDrop
  · exact h.ruleFwRestart
  · exact h.ruleWarmReset
  · exact h.ruleDieReset
  · exact h.ruleSectorReset
  · exact h.ruleUnitReset
  · exact h.ruleFwAccept
  · exact h.ruleUpdCtrl
  · exact h.ruleStore
  · exact h.ruleClear
  · exact h.rulePairEnable
  · exact h.ruleCommand
  · exact h.ruleWRenew
  · exact h.ruleWTakeover
  · exact h.ruleFwHeartbeat
  · exact h.ruleEventCq
  · exact h.ruleAlarmPending
  · exact .iteSnd h.plain h
  · refine .iteSnd (.iteSnd h.ruleAirClockEnable h.ruleAirClockSetting) (.iteSnd ?_ (.iteSnd h.rulePairSetting h.plain))
    split
    · exact h.ruleLatTol
    · exact h.rulePwrReq
    · exact h.rulePrewakeHold

theorem Kept.ruleLinks {key v : Nat} (h : Kept s₀ s) : Kept s₀ (s.ruleLinks key v).2 := by
  unfold State.ruleLinks
  refine .iteSnd ?_ (.iteSnd (.iteSnd h.ruleTrigger h.plain) (.iteSnd ?_ (.iteSnd ?_ (.iteSnd h.rulePortMap (.iteSnd (.iteSnd
      h.ruleSlEnable h.ruleSlLane) h.plain)))))
  · dsimp only
    split
    · exact h.rulePortEnable
    · exact h.rulePortSetting
    · exact h.rulePortSetting
    · exact h.rulePortSetting
    · exact h.rulePortSetting
    · exact h.plain
    · exact h.plain
    · exact h.plain
    · exact h.ruleLineSetting
  · dsimp only
    split
    · exact h.ruleFlEnable
    · exact h.commit.takesEffect
    · exact h.commit.takesEffect
    · exact h.commit.takesEffect
    · exact h.commit.takesEffect
    · exact h.plain
  · split
    · exact h.ruleFabricEnable
    · exact h.ruleFabricSetting
    · exact h.ruleFabricSetting
    · exact h.ruleUnreachMs
    · exact h.plain

theorem Kept.ruleForward {key v : Nat} (h : Kept s₀ s) : Kept s₀ (s.ruleForward key v).2 := by
  unfold State.ruleForward
  refine .iteSnd (.iteSnd h.ruleActiveBank h.ruleRestoreDefault) (.iteSnd (.iteSnd h.ruleCommit h.plain) (.iteSnd (.iteSnd h h.plain)
      (.iteSnd h.ruleKeyProfile (.iteSnd ?_ (.iteSnd (.iteSnd h.ruleTcamEnable h.ruleTcamSetting) (.iteSnd h.ruleTcamWidth (.iteSnd
          (.iteSnd h h.plain) (.iteSnd (.iteSnd h.rulePool (.iteSnd h h.plain)) (.iteSnd h.ruleMeterBase h.plain)))))))))
  dsimp only
  split
  · exact h.ruleEmEnable
  · exact h.ruleEmSetting
  · exact h.ruleEmSetting
  · exact h.ruleEmGeometry
  · exact h.ruleEmGeometry
  · exact h.ruleEmGeometry
  · exact h.ruleEmGeometry
  · exact h.ruleEmGeometry
  · exact h.ruleEmEventCq
  · exact h.ruleStampUnit
  · exact h.ruleAgeLimit
  · exact h.plain

theorem Kept.creditRows {key p v : Nat} (h : Kept s₀ s) :
    Kept s₀ ((Machine.ruleCreditHold (key / 0x100 * 0x100 + 2) (key / 0x100 * 0x100 + 3) key v s).andThen
      fun s => (.ok, s.creditHeld p)).2 :=
  h.ruleCreditHold.andThen fun _ h₁ => .snd h₁.creditHeld

theorem Kept.ruleTraffic {key v : Nat} (h : Kept s₀ s) : Kept s₀ (s.ruleTraffic key v).2 := by
  unfold State.ruleTraffic
  extract_lets idx sub hold
  have hh (p : Nat) : Kept s₀ (hold p).2 := .iteSnd h.plain h.creditRows
  clear_value hold idx sub
  refine .iteSnd (.iteSnd h.ruleFlushQueue h.plain) ?_
  refine .iteSnd (hh _) ?_
  refine .iteSnd ?_ ?_
  · split
    · exact h.ruleGrantBytes
    · exact h.ruleReqLevel
    · exact h.plain
  refine .iteSnd (hh _) ?_
  refine .iteSnd (.iteSnd h.ruleGateEnable (.iteSnd h h.plain)) ?_
  refine .iteSnd (.iteSnd h.ruleShaperProfile h.plain) ?_
  refine .iteSnd h.ruleRecompProfile ?_
  refine .iteSnd ?_ ?_
  · split
    · exact h.ruleBufEnable
    · exact h.ruleBufSetting
    · exact h.plain
  refine .iteSnd (.iteSnd h.ruleBufSetting h.plain) ?_
  refine .iteSnd h.ruleBufSetting ?_
  refine .iteSnd (.iteSnd h.ruleBufProfile h.plain) ?_
  refine .iteSnd h.ruleHbmOrder ?_
  exact .iteSnd (h.plain.andThen fun _ h₁ => .snd h₁.takesEffect) h.plain

theorem Kept.objRule {master key v : Nat} (h : Kept s₀ s) : Kept s₀ (s.objRule master key v).2 :=
  .iteSnd h.ruleComm (.iteSnd h.ruleSystem (.iteSnd h.ruleLinks (.iteSnd h.ruleForward h.ruleTraffic)))

theorem Kept.dictWrite {path : Path} {via : SlowVia} {master idx sub v : Nat} (h : Kept s₀ s) :
    Kept s₀ (s.dictWrite path via master idx sub v).2 := by
  unfold State.dictWrite
  split
  split
  · refine .iteSnd h (.iteSnd h ?_)
    split
    · rename_i heq
      have h₁ := (Kept.iteSnd (h.inOrder fun _ h₁ => h₁.objRule) h).of_eq heq
      exact .iteSnd h₁.serve.slowStart (.share h₁.serve.holdFuse fun h₂ => .iteSnd h₂ (.iteSnd h₂.withHost h₂))
    · rename_i heq
      exact (Kept.iteSnd (h.inOrder fun _ h₁ => h₁.objRule) h).of_eq heq
  · exact h

theorem Kept.report {master key : Nat} (h : Kept s₀ s) : Kept s₀ (s.report master key).2.2 := by
  unfold State.report
  extract_lets idx sub v stored
  have hv (n : Nat) : Kept s₀ (v n).2.2 := h
  have hs : Kept s₀ stored.2.2 := h
  clear_value v stored idx sub
  split
  iterate 12 exact hv _
  · exact h.readChallenge
  iterate 6 exact hv _
  · split
    · exact hv _
    · exact h
  · split
    · exact hv _
    · exact h
  refine .iteSnd₂ (.iteSnd₂ h.readLock hs) (.iteSnd₂ ?_ (.iteSnd₂ (hv _) (.iteSnd₂ (.iteSnd₂ (hv _) hs)
    (.iteSnd₂ (.iteSnd₂ (hv _) hs) (.iteSnd₂ (.iteSnd₂ (hv _) hs)
    (.iteSnd₂ (.iteSnd₂ (hv _) (.iteSnd₂ (hv _) hs)) (.iteSnd₂ (.iteSnd₂ (hv _) hs) (.iteSnd₂ ?_ (.iteSnd₂ ?_ (.iteSnd₂ ?_ hs))))))))))
  · split
    · exact h.withTime
    · exact hv _
    · exact hs
  · split
    · exact hv _
    · exact .iteSnd₂ (hv _) hs
    · exact .iteSnd₂ hs (hv _)
    · exact hs
  · split
    · exact hv _
    · exact hv _
    · exact hv _
    · exact hs
  · split
    split
    · exact hv _
    · exact hv _
    · exact hs

theorem Kept.clearRc {key : Nat} (h : Kept s₀ s) : Kept s₀ (s.clearRc key) :=
  .ite h.set (.ite h.set (.ite h.withNet (.ite h.withNet h.set)))

theorem Kept.damageRead {d e : Nat} (h : Kept s₀ s) : Kept s₀ (s.damageRead d e) :=
  .ite h (.ite h.classParity (.ite h.classParity (.ite h.classParity (.ite h.raise h))))

theorem Kept.dictRead {path : Path} {master idx sub : Nat} (h : Kept s₀ s) : Kept s₀ (s.dictRead path master idx sub).2.2 := by
  unfold State.dictRead
  refine .iteSnd₂ h (.iteSnd₂ h ?_)
  split
  split
  · exact .iteSnd₂ h (.iteSnd₂ h.raise (.share (.iteSnd₂ h h.report) fun h₁ => .ite h₁.clearRc h₁))
  · exact h

theorem Kept.applyDom {d e image : Nat} (h : Kept s₀ s) : Kept s₀ (s.applyDom d e image) :=
  .ite h (.ite h.repair.writeAirEntry (.ite h.repair.labelPut (.ite h.repair.writeMeterProfile (.ite h.repair.writeMeter (.ite
      h.repair.writeClassEntry (.ite h.repair.writeUser (.ite h.repair.writeMarked (.ite h.repair.writeShaperNode (.ite
          h.repair.writeGateEntry (.ite h.repair.commitDom.voqsAgain h.repair.commitDom))))))))))

theorem Kept.domWrite {path : Path} {master d e image : Nat} (h : Kept s₀ s) : Kept s₀ (s.domWrite path master d e image).2 := by
  unfold State.domWrite
  split
  · exact h
  · refine .iteSnd h (.iteSnd h (.iteSnd h (.iteSnd h (.iteSnd h (.iteSnd h ?_)))))
    dsimp only
    split
    · exact h.applyDom
    · exact h

theorem Kept.domRead {master d e : Nat} (h : Kept s₀ s) : Kept s₀ (s.domRead master d e).2.2 := by
  unfold State.domRead
  split
  · exact h
  · exact .iteSnd₂ h (.iteSnd₂ h (.iteSnd₂ h (.iteSnd₂ h.damageRead ((.ite h.setDom (.ite h.withSched h))))))

theorem Kept.slotWrites {master idx sub byte size value : Nat} (h : Kept s₀ s) : Kept s₀ (s.slotWrites master idx sub byte size value) :=
    by
  unfold State.slotWrites
  dsimp only
  split
  · split
    · rename_i _ heq
      have h₁ := h.dictWrite.of_eq heq
      exact h₁.finish
    · rename_i _ heq
      have h₁ := h.dictWrite.of_eq heq
      exact h₁
  · exact h.finish

theorem Kept.execWindowWrite {master offset size value : Nat} (h : Kept s₀ s) : Ends s₀ (execWindowWrite master offset size value s) := by
  unfold Machine.execWindowWrite
  refine .next (.ite h (.ite ?_ (.ite h.finish (.ite h.finish (.ite h.hold h.slotWrites)))))
  split
  · exact .ite h h.barWrite
  · exact h

theorem Kept.slotReads {master idx sub byte size : Nat} (h : Kept s₀ s) : Kept s₀ (s.slotReads master idx sub byte size) := by
  unfold State.slotReads
  refine .ite h.noteRefused.answer (.ite h.lockRead ?_)
  split
  · rename_i _ heq
    have h₁ := h.dictRead.of_eq₂ heq
    exact (Kept.ite h₁ h).answer
  · rename_i _ heq
    have h₁ := h.dictRead.of_eq₂ heq
    exact h₁.noteRefused.answer

theorem Kept.execRcRead {master offset size : Nat} (h : Kept s₀ s) : Ends s₀ (execRcRead master offset size s) := by
  unfold Machine.execRcRead
  refine .next (.ite h (.ite ?_ (.ite h.noteRefused.answer (.ite h.noteRefused.answer (.ite h.hold h.slotReads)))))
  split
  · exact .ite h h.emit
  · exact h

theorem Kept.heldTurn (h : Kept s₀ s) : Kept s₀ s.heldTurn := by
  unfold State.heldTurn
  refine h.withDict.forEach (fun _ _ h₁ => .ite h₁ (.ite h₁.hold ?_))
  split
  · exact h₁.slotWrites
  · exact h₁.slotReads

theorem Kept.lockJob {sq index : Nat} (h : Kept s₀ s) (e : s.lockJob sq index = some t) : Kept s₀ t := by
  unfold State.lockJob at e
  split at e
  · cases e
  · dsimp only at e
    split at e
    · cases e
      exact h.startJob.lockRead
    · cases e

theorem Kept.execObjRead {sq : Fin 1024} {index : Nat} {dma : Dma} (h : Kept s₀ s) : Ends s₀ (execObjRead sq index dma s) := by
  unfold Machine.execObjRead
  split
  · rename_i heq
    exact .next (h.lockJob heq)
  · refine h.runJob fun j s h => .ite (.some h) (.ite (.some h) ?_)
    split
    · rename_i heq
      have h₁ := h.dictRead.of_eq₂ heq
      exact .ite (.some h₁) (.ite (.some h₁.jobWrite) (.some h₁))
    · rename_i heq
      exact .some (h.dictRead.of_eq₂ heq)

theorem Kept.execObjWrite {sq : Fin 1024} {index : Nat} {dma : Dma} (h : Kept s₀ s) : Ends s₀ (execObjWrite sq index dma s) := by
  unfold Machine.execObjWrite
  refine h.inCore fun _ h₁ => ?_
  split
  · exact h₁
  · refine .ite h₁.endJob (.ite h₁.endJob ?_)
    split
    · exact h₁.endJob
    · split
      · rename_i _ heq
        have h₂ := h₁.dictWrite.of_eq heq
        exact h₂.endJob
      · rename_i _ heq
        have h₂ := h₁.dictWrite.of_eq heq
        exact h₂.startJob

theorem Kept.execDomainRead {sq : Fin 1024} {index : Nat} {dma : Dma} (h : Kept s₀ s) : Ends s₀ (execDomainRead sq index dma s) := by
  unfold Machine.execDomainRead
  refine h.runJob (fun _ _ h₁ => .ite (.some h₁) (.ite .none ?_))
  split
  · rename_i _ heq
    have h₂ := h₁.domRead.of_eq₂ heq
    exact .ite (.some h₂.jobWrite) (.some h₂)
  · rename_i _ heq
    have h₂ := h₁.domRead.of_eq₂ heq
    exact .some h₂

theorem Kept.execDomainWrite {sq : Fin 1024} {index : Nat} {dma : Dma} (h : Kept s₀ s) : Ends s₀ (execDomainWrite sq index dma s) := by
  unfold Machine.execDomainWrite
  refine h.runJob (fun _ _ h₁ => .ite (.some h₁) (.ite .none ?_))
  split
  · exact .some h₁
  · split
    · exact .ite (.some h₁.domWrite) (.some h₁)
    · exact .some h₁

theorem Kept.hbmRelease (h : Kept s₀ s) : Kept s₀ s.hbmRelease := by
  unfold State.hbmRelease
  refine h.withHbm.forEach fun _ _ h₁ => ?_
  dsimp only
  split
  · exact h₁.domWrite.endWrite
  · exact h₁.domRead.endWrite
  · exact h₁.domWrite.answer
  · exact h₁.domRead.answer

theorem Kept.hbmDefer {w : HbmWaiting} (h : Kept s₀ s) : Kept s₀ (s.hbmDefer w) :=
  h.withHbm

theorem Kept.execSlowWriteDone {master : Nat} (h : Kept s₀ s) : Ends s₀ (execSlowWriteDone master s) := by
  unfold Machine.execSlowWriteDone
  refine .next ?_
  split
  · exact h
  · exact .share h.withDict.endWrite fun h₁ => (Kept.ite h₁.notePending h₁).hbmRelease

theorem Kept.execDictLock {master value : Nat} (h : Kept s₀ s) : Ends s₀ (execDictLock master value s) :=
  h.rowWrite fun _ h₁ => h₁.ruleDictLock

theorem Kept.takeSvc {svc : Nat} (h : Kept s₀ s) : Kept s₀ (s.takeSvc svc).2 := by
  unfold State.takeSvc
  split
  · exact .iteSnd h.withCoica h
  · exact h

theorem Kept.odServe {svc : Nat} {zero : List (Nat × Nat)} {f : CoicaFrame → State → State} (h : Kept s₀ s)
    (hf : ∀ q s, Kept s₀ s → Kept s₀ (f q s)) : Ends s₀ (s.odServe svc zero f) := by
  unfold State.odServe
  refine .next ?_
  split
  · rename_i heq
    exact h.takeSvc.of_eq heq
  · rename_i heq
    have h₁ := h.takeSvc.of_eq heq
    exact .ite (hf _ _ h₁) h₁.odStatus

theorem Kept.odRuns {f : CoicaFrame} {key : Option Nat} {ended : Option (Nat × List Byte)} (h : Kept s₀ s) : Kept s₀ (s.odRuns f key
    ended) :=
  h.withCoica.odStatus

theorem Kept.execOdRead (h : Kept s₀ s) : Ends s₀ (execOdRead s) := by
  unfold Machine.execOdRead
  refine h.odServe (fun _ _ h₁ => .ite h₁.odStatus (.ite h₁.lockRead ?_))
  split
  · rename_i _ heq
    have h₂ := h₁.dictRead.of_eq₂ heq
    exact h₂.odStatus
  · rename_i _ heq
    have h₂ := h₁.dictRead.of_eq₂ heq
    exact h₂.odStatus

theorem Kept.execOdWrite (h : Kept s₀ s) : Ends s₀ (execOdWrite s) := by
  unfold Machine.execOdWrite
  refine h.odServe fun _ _ h₁ => .ite h₁.odStatus ?_
  split
  · rename_i _ heq
    have h₂ := h₁.dictWrite.of_eq heq
    exact h₂.odStatus
  · rename_i _ heq
    have h₂ := h₁.dictWrite.of_eq heq
    exact h₂.odRuns

theorem Kept.execOdDomainRead (h : Kept s₀ s) : Ends s₀ (execOdDomainRead s) := by
  unfold Machine.execOdDomainRead
  refine h.odServe fun _ _ h₁ => .ite h₁.hbmDefer.odRuns ?_
  split
  · rename_i _ heq
    have h₂ := h₁.domRead.of_eq₂ heq
    exact h₂.odStatus
  · rename_i _ heq
    have h₂ := h₁.domRead.of_eq₂ heq
    exact h₂.odStatus

theorem Kept.execOdDomainWrite (h : Kept s₀ s) : Ends s₀ (execOdDomainWrite s) := by
  unfold Machine.execOdDomainWrite
  refine h.odServe fun _ _ h₁ => ?_
  dsimp only
  split
  · exact h₁.odStatus
  · exact .ite h₁.odStatus (.ite h₁.hbmDefer.odRuns h₁.domWrite.odStatus)

theorem Kept.execOdStatus (h : Kept s₀ s) : Ends s₀ (execOdStatus s) := by
  unfold Machine.execOdStatus
  refine h.odServe fun _ _ h₁ => ?_
  dsimp only
  split
  · split
    · exact h₁.odSend
    · exact h₁.odStatus
  · split
    · exact h₁.odSend
    · exact h₁.odStatus

theorem Kept.execBlockOpen (h : Kept s₀ s) : Ends s₀ (execBlockOpen s) :=
  h.odServe fun _ _ h₁ => .ite h₁.odStatus h₁.withCoica.odStatus

theorem Kept.execBlockSeg (h : Kept s₀ s) : Ends s₀ (execBlockSeg s) := by
  unfold Machine.execBlockSeg
  refine h.odServe fun _ _ h₁ => ?_
  dsimp only
  split
  · exact h₁.odStatus
  · exact .ite h₁.odStatus h₁.withCoica.odStatus

theorem Kept.execBlockCommit {good : Bool} (h : Kept s₀ s) : Ends s₀ (execBlockCommit good s) := by
  unfold Machine.execBlockCommit
  refine h.odServe fun _ _ h₁ => ?_
  split
  · exact h₁.odStatus
  · split
    · exact h₁.odStatus
    · exact .ite h₁.odStatus (.share h₁.withCoica fun h₂ => .ite h₂.withCoica.odRuns h₂.updBlock.odRuns)

theorem Kept.execBlockAbort (h : Kept s₀ s) : Ends s₀ (execBlockAbort s) :=
  h.odServe fun _ _ h₁ => h₁.withCoica.odStatus

theorem Kept.mateWrite {idx sub v : Nat} (h : Kept s₀ s) : Kept s₀ (s.mateWrite idx sub v).2 := by
  unfold State.mateWrite
  refine .iteSnd h ?_
  split
  · split
    · exact .iteSnd h.objRule h
    · exact h
  · exact h

theorem Kept.addDeltas {d e : Nat} {deltas : List Nat} (h : Kept s₀ s) : Kept s₀ (s.addDeltas d e deltas).2 := by
  unfold State.addDeltas
  split
  · exact .iteSnd (.snd h.updateRecord) h
  · exact h

theorem Kept.applyRecord {r : JRec} (h : Kept s₀ s) : Kept s₀ (s.applyRecord r).2 := by
  unfold State.applyRecord
  split
  · exact h.mateWrite
  · exact .iteSnd h.domWrite h
  · exact .iteSnd h h.emInsert
  · exact .iteSnd h h.emDelete
  · exact h.routeAdd
  · exact h.routeDelete
  · exact .iteSnd h h.withTab.tcamPut
  · exact h.addDeltas

theorem Kept.copyFailed (h : Kept s₀ s) : Kept s₀ s.copyFailed :=
  h.resyncAll.raise

theorem Kept.takeRecord {r : JRec} (h : Kept s₀ s) : Kept s₀ (s.takeRecord r) := by
  unfold State.takeRecord
  refine .ite h ?_
  split
  · rename_i _ heq
    have h₁ := h.applyRecord.of_eq heq
    exact h₁
  · rename_i _ heq
    have h₁ := h.applyRecord.of_eq heq
    exact h₁.copyFailed

theorem Kept.cancelSilence (h : Kept s₀ s) : Kept s₀ s.cancelSilence := by
  unfold State.cancelSilence
  split
  · exact .ite h.withPair h
  · exact h

theorem Kept.takeJournal {head : MateHead} {recs : List JRec} (h : Kept s₀ s) : Kept s₀ (s.takeJournal head recs) :=
  .share h.withPair.withPair fun h₁ => .share (.ite h₁.withPair h₁) fun h₂ => ((Kept.ite h₂.copyFailed h₂).forEach (fun _ _ h₄ =>
      h₄.takeRecord)).withPair

theorem Kept.baseDelta {r : JRec} (h : Kept s₀ s) : Kept s₀ (s.baseDelta r) := by
  unfold State.baseDelta
  split
  · exact h.withPair
  · exact h

theorem Kept.execJournal {head : MateHead} {payload : List Byte} (h : Kept s₀ s) : Ends s₀ (execJournal head payload s) := by
  unfold Machine.execJournal
  refine .next (.ite (.share ?_ fun h₁ => .ite h₁.withPair h₁) ?_)
  · split
    · refine h.bump.forEach fun _ _ h₁ => ?_
      split
      · rename_i heq
        exact (h₁.applyRecord.of_eq heq).baseDelta
      · rename_i heq
        exact h₁.applyRecord.of_eq heq
    · exact h.bump.raise
  · split
    · rename_i heq
      exact (Kept.iteSnd h h.mateIn).of_eq heq
    · rename_i heq
      have h₁ := (Kept.iteSnd h h.mateIn).of_eq heq
      refine .ite h₁ ?_
      dsimp only
      split
      · exact h₁.bump.cancelSilence.takeJournal
      · exact h₁.bump.cancelSilence.copyFailed

theorem Kept.installObjects {items : List (Nat × Nat)} (h : Kept s₀ s) : Kept s₀ (s.installObjects items).2 := by
  unfold State.installObjects
  refine ((h.foldlSnd (fun _ _ h₁ => .iteSnd h₁ ?_)).foldlSnd (fun _ _ h₂ => .iteSnd h₂ ?_)).foldlSnd fun _ _ h₃ => .iteSnd h₃ ?_
  · split
    · rename_i _ heq
      have h₂ := h₁.mateWrite.of_eq heq
      exact h₂
    · rename_i _ heq
      have h₂ := h₁.mateWrite.of_eq heq
      exact h₂
  · split
    · rename_i _ heq
      have h₃ := h₂.mateWrite.of_eq heq
      exact h₃
    · rename_i _ heq
      have h₃ := h₂.mateWrite.of_eq heq
      exact h₃
  · split
    · rename_i _ heq
      have h₄ := h₃.mateWrite.of_eq heq
      exact h₄
    · rename_i _ heq
      have h₄ := h₃.mateWrite.of_eq heq
      exact h₄

theorem Kept.installItems {region : Nat} {items : List JRec} (h : Kept s₀ s) : Kept s₀ (s.installItems region items).2 := by
  unfold State.installItems
  refine (Kept.ite (h.forEach (fun _ _ h₁ => ?_)) (.ite (h.forEach (fun _ _ h₁ => ?_)) h)).foldlSnd fun _ _ h₂ => .iteSnd h₂ ?_
  · split
    · exact .ite h₁ h₁.emDelete
    · exact h₁
  · split
    · exact .ite h₁ h₁.routeDelete
    · exact h₁
  · split
    · rename_i _ heq
      have h₃ := h₂.applyRecord.of_eq heq
      exact h₃
    · rename_i _ heq
      have h₃ := h₂.applyRecord.of_eq heq
      exact h₃

theorem Kept.installRegion {b : BulkCopy} (h : Kept s₀ s) : Kept s₀ (s.installRegion b) :=
  .share (Kept.iteSnd h.installObjects h.installItems).withPair fun h₂ => .ite h₂.copyFailed (.share (h₂.forEach (fun _ _ h₃ =>
      h₃.takeRecord)) fun h₃ => .ite h₃.set.bump.raise h₃)

theorem Kept.installReady {n : Nat} (h : Kept s₀ s) : Kept s₀ (State.installReady n s) := by
  induction n generalizing s with
  | zero => exact h
  | succ n ih =>
    unfold State.installReady
    split
    · exact h
    · dsimp only
      split
      · exact h
      · exact ih h.withPair.installRegion

theorem Kept.execBulk {head : MateHead} {payload : List Byte} (h : Kept s₀ s) : Ends s₀ (execBulk head payload s) := by
  unfold Machine.execBulk
  refine .next ?_
  split
  · rename_i _ heq
    have h₁ := h.mateIn.of_eq heq
    exact h₁
  · rename_i _ heq
    have h₁ := h.mateIn.of_eq heq
    refine .ite h₁ ?_
    dsimp only
    split
    · exact h₁.setSync.copyFailed
    · exact .ite h₁.setSync.withPair.installReady h₁.setSync.withPair

theorem Kept.restoreWrite {key v : Nat} (h : Kept s₀ s) : Kept s₀ (s.restoreWrite key v).2 := by
  unfold State.restoreWrite
  dsimp only
  split
  · exact .iteSnd h.objRule h
  · exact h

theorem Kept.restoreRecord {r : Nat × Nat} (h : Kept s₀ s) : Kept s₀ (s.restoreRecord r) := by
  unfold State.restoreRecord
  split
  · rename_i _ heq
    have h₁ := h.restoreWrite.of_eq heq
    exact h₁
  · rename_i _ heq
    have h₁ := h.restoreWrite.of_eq heq
    exact h₁.set.raise

theorem Kept.restorePantry {records : List (Nat × Nat)} (h : Kept s₀ s) : Kept s₀ (s.restorePantry records) :=
  (h.forEach (fun _ _ h₁ => h₁.restoreRecord)).forEach fun _ _ h₁ => h₁.restoreRecord

theorem Kept.judgeCopies (h : Kept s₀ s) : Kept s₀ s.judgeCopies :=
  .share (.ite h h.raise) fun h₁ => .share (.ite h₁ h₁.raise) fun h₂ => .ite h₂ h₂.raise

theorem Kept.startWatches (h : Kept s₀ s) : Kept s₀ s.startWatches :=
  (h.forEach (fun _ _ h₁ => h₁.setEmt)).withPair

theorem Kept.execBootReady (h : Kept s₀ s) : Ends s₀ (execBootReady s) := by
  unfold Machine.execBootReady
  refine h.inCore fun _ h₁ => ?_
  split
  · exact h₁
  · refine .ite h₁.set ?_
    split
    · rename_i _ heq
      have h₂ := h₁.scrubBegin.readRecord.chooseSlot.of_eq heq
      exact h₂.recover
    · rename_i _ heq
      have h₂ := h₁.scrubBegin.readRecord.chooseSlot.of_eq heq
      refine .share ?_ fun h₅ => (Kept.ite h₅.set.set h₅).withBoot.bootEnd
      split
      · exact .ite h₂.runSlot.set.set.judgeCopies.migrate.startWatches.restorePantry h₂.runSlot.set.set.judgeCopies.migrate.startWatches
      · exact h₂.runSlot.set.set.judgeCopies.migrate.startWatches

theorem Kept.execDebugObjectAccess {write : Bool} {idx sub value : Nat} (h : Kept s₀ s) : Ends s₀ (execDebugObjectAccess write idx sub
    value s) := by
  unfold Machine.execDebugObjectAccess
  refine .next (.ite ?_ h.dictRead.answer)
  split
  · rename_i _ heq
    have h₁ := h.dictWrite.of_eq heq
    exact h₁.answer
  · rename_i _ heq
    have h₁ := h.dictWrite.of_eq heq
    exact h₁

theorem Kept.execDebugDomainAccess {write : Bool} {idx entry image : Nat} (h : Kept s₀ s) : Ends s₀ (execDebugDomainAccess write idx
    entry image s) :=
  .next (.ite h.hbmDefer (.ite h.domWrite.answer h.domRead.answer))

/-- A command answers a next state that has kept the form. -/
def EndsForm (s₀ : State) (o : Out) : Prop := ∃ t, o = .next t ∧ KeptForm s₀ t

theorem EndsForm.next (h : KeptForm s₀ s) : EndsForm s₀ (.next s) := ⟨s, rfl, h⟩

theorem Ends.form {o : Out} (h : Ends s₀ o) : EndsForm s₀ o := by
  obtain ⟨t, rfl, h⟩ := h
  exact .next h.toKeptForm

/-- The dispatch of a command to its operation, one line each. -/
theorem EndsForm.exec (c : Instr) (s : State) : EndsForm s (exec c s) := by
  unfold Machine.exec
  split
  · exact (Kept.refl s).execStateReq.form
  · exact (Kept.refl s).execAutoHoldover.form
  · exact (Kept.refl s).execFreqAdj.form
  · exact (Kept.refl s).execStep.form
  · exact (Kept.refl s).execShadowRealign.form
  · exact (Kept.refl s).execTimebaseLoad.form
  · exact (Kept.refl s).execTimeSyncWord.form
  · exact (Kept.refl s).execTimeWordMissed.form
  · exact (Kept.refl s).execPpsOut.form
  · exact (Kept.refl s).execPpsIn.form
  · exact (Kept.refl s).execTodMessage.form
  · exact (Kept.refl s).execAirClockEnable.form
  · exact (Kept.refl s).execDispatch.form
  · exact (Kept.refl s).execAirNop.form
  · exact (Kept.refl s).execGateCycle.form
  · exact (Kept.refl s).execPageSwitch.form
  · exact (Kept.refl s).execSampleMarked.form
  · exact (Kept.refl s).execMateCycle.form
  · exact (Kept.refl s).execPrewake.form
  · exact (Kept.refl s).execSnapshot.form
  · exact (Kept.refl s).execHostEvent.form
  · exact (Kept.refl s).execBinBoundary.form
  · exact (Kept.refl s).execDayOffset.form
  · exact (Kept.refl s).execRxFrame.form
  · exact (Kept.refl s).execIngressPipeline.form
  · exact (Kept.refl s).execMeterDecide.form
  · exact (Kept.refl s).execMcReplicate.form
  · exact (Kept.refl s).execD2dReplay.form
  · exact (Kept.refl s).execD2dRetrain.form
  · exact (Kept.refl s).execD2dLinkFail.form
  · exact (Kept.refl s).execActiveBank.form
  · exact (Kept.refl s).execRestoreDefault.form
  · exact (Kept.refl s).execKeyProfileSlots.form
  · exact (Kept.refl s).execCommit.form
  · exact (Kept.refl s).execEmInsert.form
  · exact (Kept.refl s).execEmDelete.form
  · exact (Kept.refl s).execEmLookup.form
  · exact (Kept.refl s).execEmReadIndex.form
  · exact (Kept.refl s).execEmUnlock.form
  · exact (Kept.refl s).execRouteAdd.form
  · exact (Kept.refl s).execRouteDelete.form
  · exact (Kept.refl s).execRouteRead.form
  · exact (Kept.refl s).execRouteMatch.form
  · exact (Kept.refl s).execLabelWrite.form
  · exact (Kept.refl s).execLabelRead.form
  · exact (Kept.refl s).execTcamWrite.form
  · exact (Kept.refl s).execTcamRead.form
  · exact (Kept.refl s).execTcamInvalidate.form
  · exact (Kept.refl s).execTcamMove.form
  · exact (Kept.refl s).execLearn.form
  · exact (Kept.refl s).execLearnStashDrain.form
  · exact (Kept.refl s).execStampTick.form
  · exact (Kept.refl s).execStampUnit.form
  · exact (Kept.refl s).execAgerRead.form
  · exact (Kept.refl s).execAgerCompareDelete.form
  · exact (Kept.refl s).execEmTableEnable.form
  · exact (Kept.refl s).execEmTableGeometry.form
  · exact (Kept.refl s).execScrubRow.form
  · exact (Kept.refl s).execLpmLoss.form
  · exact (Kept.refl s).execTcamScrub.form
  · exact (Kept.refl s).execTcamTableEnable.form
  · exact (Kept.refl s).execTcamBankWidth.form
  · exact (Kept.refl s).execPoolActivate.form
  · exact (Kept.refl s).execPoolDeactivate.form
  · exact (Kept.refl s).execRecirculate.form
  · exact (Kept.refl s).execEgressPipeline.form
  · exact (Kept.refl s).execBufEnable.form
  · exact (Kept.refl s).execAdmission.form
  · exact (Kept.refl s).execD2dUnit.form
  · exact (Kept.refl s).execStagingDone.form
  · exact (Kept.refl s).execIdleMap.form
  · exact (Kept.refl s).execDequeueDecision.form
  · exact (Kept.refl s).execFlushQueue.form
  · exact (Kept.refl s).execVoqSend.form
  · exact (Kept.refl s).execGrant.form
  · exact (Kept.refl s).execCreditGenerate.form
  · exact (Kept.refl s).execSampleRound.form
  · exact (Kept.refl s).execQueueSample.form
  · exact (Kept.refl s).execShaperRelease.form
  · exact (Kept.refl s).execShaperProfileWrite.form
  · exact (Kept.refl s).execMeterSweep.form
  · exact (Kept.refl s).execGateEntryEnd.form
  · exact (Kept.refl s).execPortEnable.form
  · exact (Kept.refl s).execLinkCondition.form
  · exact (Kept.refl s).execLinkDown.form
  · exact (Kept.refl s).execLinkUp.form
  · exact (Kept.refl s).execPauseFrame.form
  · exact (Kept.refl s).execPfcFrame.form
  · exact (Kept.refl s).execPauseExpiry.form
  · exact (Kept.refl s).execWdRelease.form
  · exact (Kept.refl s).execWdHoldoffEnd.form
  · exact (Kept.refl s).execPauseTx.form
  · exact (Kept.refl s).execPauseRepeat.form
  · exact (Kept.refl s).execTxFrameStart.form
  · exact (Kept.refl s).execTxFrameEnd.form
  · exact (Kept.refl s).execTrigger.form
  · exact (Kept.refl s).execCellRx.form
  · exact (Kept.refl s).execReach.form
  · exact (Kept.refl s).execReachTx.form
  · exact (Kept.refl s).execReachTimeout.form
  · exact (Kept.refl s).execSprayJoin.form
  · exact (Kept.refl s).execUnreachDiscard.form
  · exact (Kept.refl s).execRequest.form
  · exact (Kept.refl s).execRequestRefresh.form
  · exact (Kept.refl s).execRequestExpiry.form
  · exact (Kept.refl s).execControlCellFlush.form
  · exact (Kept.refl s).execReasmTimeout.form
  · exact (Kept.refl s).execHeadLoss.form
  · exact (Kept.refl s).execFabricEnable.form
  · exact (Kept.refl s).execTxLinkFrame.form
  · exact (Kept.refl s).execFawMatch.form
  · exact (Kept.refl s).execRxLinkFrame.form
  · exact (Kept.refl s).execLos.form
  · exact (Kept.refl s).execLosClear.form
  · exact (Kept.refl s).execSchedFlowTimeout.form
  · exact (Kept.refl s).execSlEnable.form
  · exact (Kept.refl s).execPmSecond.form
  · exact (Kept.refl s).execPmBinFinal.form
  · exact (Kept.refl s).execHbmRead.form
  · exact (Kept.refl s).execHbmWrite.form
  · exact (Kept.refl s).execWriteDrainTimeout.form
  · exact (Kept.refl s).execRowOpenTimeout.form
  · exact (Kept.refl s).execHbmRefresh.form
  · exact (Kept.refl s).execRetrainDue.form
  · exact (Kept.refl s).execRetrainStep.form
  · exact (Kept.refl s).execHbmScrub.form
  · exact (Kept.refl s).execHbmRegionOrder.form
  · exact (Kept.refl s).execWindowWrite.form
  · exact (Kept.refl s).execRcRead.form
  · exact (Kept.refl s).execSlowWriteDone.form
  · exact (Kept.refl s).execDictLock.form
  · exact (Kept.refl s).execStore.form
  · exact (Kept.refl s).execClear.form
  · exact (Kept.refl s).execPantryWriteDone.form
  · exact (Kept.refl s).execObjRead.form
  · exact (Kept.refl s).execObjWrite.form
  · exact (Kept.refl s).execDomainRead.form
  · exact (Kept.refl s).execDomainWrite.form
  · exact (Kept.refl s).execSqDoorbell.form
  · exact (Kept.refl s).execCqDoorbell.form
  · exact (Kept.refl s).execPush.form
  · exact (Kept.refl s).execFetchVisit.form
  · exact (Kept.refl s).execNop.form
  · exact (Kept.refl s).execPktTx.form
  · exact (Kept.refl s).execTxStamp.form
  · exact (Kept.refl s).execRxBuffer.form
  · exact (Kept.refl s).execRxDeliver.form
  · exact (Kept.refl s).execCqStashDrain.form
  · exact (Kept.refl s).execCqCoalesceTimeout.form
  · exact (Kept.refl s).execSqEnable.form
  · exact (Kept.refl s).execCqEnable.form
  · exact (Kept.refl s).execFunctionLevelReset.form
  · exact (Kept.refl s).execPcieHotReset.form
  · exact (Kept.refl s).execPcieLinkDown.form
  · exact (Kept.refl s).execPcieLinkUp.form
  · exact (Kept.refl s).execVfResources.form
  · exact (Kept.refl s).execMbBinding.form
  · exact (Kept.refl s).execSend.form
  · exact (Kept.refl s).execAck.form
  · exact (Kept.refl s).execLockRead.form
  · exact (Kept.refl s).execLockRelease.form
  · exact (Kept.refl s).execDbPendingClear.form
  · exact (Kept.refl s).execDbMask.form
  · exact (Kept.refl s).execMailbox.form
  · exact (Kept.refl s).execToken.form
  · exact (Kept.refl s).execClaim.form
  · exact (Kept.refl s).execSolicit.form
  · exact (Kept.refl s).execSetSuccessor.form
  · exact (Kept.refl s).execPoll.form
  · exact (Kept.refl s).execOdRead.form
  · exact (Kept.refl s).execOdWrite.form
  · exact (Kept.refl s).execOdDomainRead.form
  · exact (Kept.refl s).execOdDomainWrite.form
  · exact (Kept.refl s).execOdStatus.form
  · exact (Kept.refl s).execBlockOpen.form
  · exact (Kept.refl s).execBlockSeg.form
  · exact (Kept.refl s).execBlockCommit.form
  · exact (Kept.refl s).execBlockAbort.form
  · exact (Kept.refl s).execTokenPassTimeout.form
  · exact (Kept.refl s).execTokenLost.form
  · exact (Kept.refl s).execClaimRound.form
  · exact (Kept.refl s).execSolicitWindowEnd.form
  · exact (Kept.refl s).execTxJabber.form
  · exact (Kept.refl s).execJabberSilenceEnd.form
  · exact (Kept.refl s).execRxJabber.form
  · exact (Kept.refl s).execKnownAge.form
  · exact (Kept.refl s).execStationAddr.form
  · exact (Kept.refl s).execRole.form
  · exact (Kept.refl s).execWpWrite.form
  · exact (Kept.refl s).execJournal.form
  · exact (Kept.refl s).execCopyAck.form
  · exact (Kept.refl s).execHealth.form
  · exact (Kept.refl s).execRelease.form
  · exact (Kept.refl s).execRevertReq.form
  · exact (Kept.refl s).execDigest.form
  · exact (Kept.refl s).execRecopyReq.form
  · exact (Kept.refl s).execBulk.form
  · exact (Kept.refl s).execPacket.form
  · exact (Kept.refl s).execResetNotice.form
  · exact (Kept.refl s).execLeaseExpiry.form
  · exact (Kept.refl s).execWRenew.form
  · exact (Kept.refl s).execWTakeover.form
  · exact (Kept.refl s).execCommand.form
  · exact (Kept.refl s).execPairEnable.form
  · exact (Kept.refl s).execTakeover.form
  · exact (Kept.refl s).execWtrExpiry.form
  · exact (Kept.refl s).execDigestPeriod.form
  · exact (Kept.refl s).execMateLinkDown.form
  · exact (Kept.refl s).execMateLinkUp.form
  · exact (Kept.refl s).execMemoryBist.form
  · exact (Kept.refl s).execLogicBist.form
  · exact (Kept.refl s).execLbistOverdue.form
  · exact (Kept.refl s).execEyeCheck.form
  · exact (Kept.refl s).execFwHeartbeat.form
  · exact (Kept.refl s).execHeartbeatTimeout.form
  · exact (Kept.refl s).execPowerEvaluate.form
  · exact (Kept.refl s).execPowerEntryDone.form
  · exact (Kept.refl s).execWakeDone.form
  · exact (Kept.refl s).execLatTolNs.form
  · exact (Kept.refl s).execPwrReq.form
  · exact (Kept.refl s).execPrewakeHoldEnd.form
  · exact (Kept.refl s).execIslandEntry.form
  · exact (Kept.refl s).execIslandExit.form
  · exact (Kept.refl s).execWakeReq.form
  · exact (Kept.refl s).execWakeNRelease.form
  · exact (Kept.refl s).execProvisionProvisioned.form
  · exact (Kept.refl s).execProvisionDecommission.form
  · exact (Kept.refl s).execFuseProgramDone.form
  · exact (Kept.refl s).execSvnAdvance.form
  · exact (Kept.refl s).execKeyHash.form
  · exact (Kept.refl s).execDbgChallenge.form
  · exact (Kept.refl s).execTokenObserve.form
  · exact (Kept.refl s).execTokenInvasive.form
  · exact (Kept.refl s).execTokenTransition.form
  · exact (Kept.refl s).execTokenRevoke.form
  · exact (Kept.refl s).execDbgDrop.form
  · exact (Kept.refl s).execDbgExpiry.form
  · exact (Kept.refl s).execChallengeExpiry.form
  · exact (Kept.refl s).execChallengeLockoutEnd.form
  · exact (Kept.refl s).execDebugObjectAccess.form
  · exact (Kept.refl s).execDebugDomainAccess.form
  · exact (Kept.refl s).execCoreHalt.form
  · exact (Kept.refl s).execCoreStep.form
  · exact (Kept.refl s).execScanDump.form
  · exact (Kept.refl s).execExtest.form
  · exact .next (.coldReset s)
  · exact (Kept.refl s).execPackageWarmReset.form
  · exact (Kept.refl s).execWarmReset.form
  · exact (Kept.refl s).execDieResetF.form
  · exact (Kept.refl s).execDieResetT.form
  · exact (Kept.refl s).execSectorReset.form
  · exact (Kept.refl s).execUnitReset.form
  · exact (Kept.refl s).execSectorFault.form
  · exact (Kept.refl s).execBootReady.form
  · exact (Kept.refl s).execFwRestart.form
  · exact (Kept.refl s).execFwReady.form
  · exact (Kept.refl s).execUpdateBegin.form
  · exact (Kept.refl s).execEraseDone.form
  · exact (Kept.refl s).execFwBlock.form
  · exact (Kept.refl s).execUpdateCommit.form
  · exact (Kept.refl s).execCommitCheckDone.form
  · exact (Kept.refl s).execUpdateAbort.form
  · exact (Kept.refl s).execFwAccept.form
  · exact (Kept.refl s).execTrialEnd.form
  · exact (Kept.refl s).execPing.form
  · exact (Kept.refl s).execPairReady.form
  · exact (Kept.refl s).execPantryStore.form
  · exact (Kept.refl s).execRestart.form
  · exact (Kept.refl s).execAccept.form
  · exact (Kept.refl s).execAlarmPendingClear.form
  · exact (Kept.refl s).execAonSwitch.form
  · exact (Kept.refl s).execAonReturn.form
  · exact (Kept.refl s).execVaonBLow.form
  · exact .next (.coldReset s)
  · exact (Kept.refl s).execRefLost.form
  · exact (Kept.refl s).execRefRestored.form
  · exact (Kept.refl s).execPllUnlock.form
  · exact (Kept.refl s).execThermalSample.form
  · exact (Kept.refl s).execThrottleEval.form
  · exact (Kept.refl s).execMsixUnmask.form
  · exact (Kept.refl s).execCoicaFrameRx.form
  · exact (Kept.refl s).execWarmNRelease.form
  · exact (Kept.refl s).execSectorResetDone.form
  · exact (Kept.refl s).execDieResetDone.form
  · exact (Kept.refl s).execD2dRetrainDone.form
  · exact (Kept.refl s).execRxFrameCounter.form
  · exact (Kept.refl s).execMateCrcError.form
  · exact (Kept.refl s).execJabberCarrierStop.form

theorem Kept.tickTai (h : Kept s₀ s) : Kept s₀ s.tickTai :=
  .ite h h.withTime

theorem Kept.oscError (h : Kept s₀ s) : Kept s₀ s.oscError.2 :=
  .iteSnd h h.fresh

theorem Kept.tickShadow (h : Kept s₀ s) : Kept s₀ s.tickShadow :=
  .ite h.oscError.withTime h

theorem Kept.tickPps (h : Kept s₀ s) : Kept s₀ s.tickPps :=
  .ite h.withTime.emit h

theorem Kept.tickSteps (h : Kept s₀ s) : Kept s₀ s.tickSteps :=
  .ite h (h.withTime.forEach (fun _ _ h₁ => h₁.applyStep))

theorem Kept.tickRest (h : Kept s₀ (s.withTime { s.time with now := s.time.now + 1 })) : Kept s₀ s.tick :=
  h.tickTai.tickSteps.tickShadow.tickPps

/-- What an instant's end does before the tick. -/
def State.beforeTick (s : State) : State :=
  let s := (s.withSched { s.sched with oldMeters := [], oldShapers := [] }).moveTurns.heldTurn
  let s := s.dataCells.dueLosses.ageDeletes.mailboxCycle.cmbIdle.pairCycle.throttleCycle
  s.writeCompletions.hbmCycle.syncLanes.logCycle.releaseAlarm

theorem Kept.beforeTick (h : Kept s₀ s) : Kept s₀ s.beforeTick := by
  have h₁ (x : SchedState) : Kept s₀ (s.withSched x).moveTurns.heldTurn.dataCells.dueLosses.ageDeletes :=
    h.withSched.moveTurns.heldTurn.dataCells.dueLosses.ageDeletes
  exact (h₁ _).mailboxCycle.cmbIdle.pairCycle.throttleCycle.writeCompletions.hbmCycle.syncLanes.logCycle.releaseAlarm

/-- From s₀ to s the form was kept, no command was queued and one tick passed. -/
structure KeptTick (s₀ s : State) : Prop extends KeptForm s₀ s where
  pending : s.pending = s₀.pending
  now : s.time.now = s₀.time.now + 1

theorem Kept.oneTick (h : Kept s₀ s) (g : Kept (s.withTime { s.time with now := s.time.now + 1 }) t) : KeptTick s₀ t :=
  ⟨⟨fun w => g.objs (h.objs w), fun w => g.doms (h.doms w), fun w => g.cells (h.cells w)⟩, g.pending.trans h.pending,
    g.now.trans (congrArg (· + 1) h.now)⟩

theorem KeptTick.nextInstant (s : State) : KeptTick s s.nextInstant :=
  (Kept.refl s).beforeTick.oneTick (Kept.refl _).tickRest.expireDebug.staleCandidates.bootProgress.withDict

end Sys2Proof.Machine
end


section
/-! PROOFS. The order of the commands (O1), that every command answers a next state (O2), and the canonical forms (O3 to O5). -/

namespace Sys2Proof.Machine

/-- Settles O1: the first half is the definition of `step`, the second the one tick of an instant's end. -/
theorem frontCommandIsRun : Obligations.FrontCommandIsRun := by
  unfold Obligations.FrontCommandIsRun
  refine ⟨fun _ _ _ => rfl, fun s hs => ⟨s.nextInstant, ?_, (KeptTick.nextInstant s).now, (KeptTick.nextInstant s).pending.trans hs⟩⟩
  unfold Machine.step
  rw [hs]

/-- Settles O2, command by command. -/
theorem noCommandStops : Obligations.NoCommandStops := by
  unfold Obligations.NoCommandStops
  intro c s
  obtain ⟨t, ht, -⟩ := EndsForm.exec c s
  exact ⟨t, ht⟩

/-- A step keeps the form, whether it runs a command or ends the instant. -/
theorem KeptForm.of_step {s t : State} (h : Machine.step s = .next t) : KeptForm s t := by
  unfold Machine.step at h
  split at h
  · rename_i c rest hp
    obtain ⟨t', ht, hk⟩ := EndsForm.exec c { s with pending := rest }
    rw [ht] at h
    injection h with h
    subst h
    exact ⟨hk.objs, hk.doms, hk.cells⟩
  · injection h with h
    exact h ▸ (KeptTick.nextInstant s).toKeptForm

/-- Settles O3, by the form that every operation keeps. -/
theorem canonicalTablesKept : Obligations.CanonicalTablesKept := by
  unfold Obligations.CanonicalTablesKept
  intro s t ⟨ho, hd⟩ h
  exact ⟨(KeptForm.of_step h).objs ho, (KeptForm.of_step h).doms hd⟩

/-- Settles O4: the two tables are empty after a reset, so every read answers the default. -/
theorem resetIsCanonicalAndDefault : Obligations.ResetIsCanonicalAndDefault := by
  unfold Obligations.ResetIsCanonicalAndDefault
  exact ⟨⟨rfl, rfl⟩, fun _ => rfl, fun _ => rfl, rfl, rfl, rfl, rfl⟩

/-- Settles O5: the memory is empty after a reset, and every operation keeps its form. -/
theorem hbmMemoryStaysCanonical : Obligations.HbmMemoryStaysCanonical := by
  unfold Obligations.HbmMemoryStaysCanonical
  exact ⟨rfl, fun s t hw h => (KeptForm.of_step h).cells hw⟩

end Sys2Proof.Machine
end

section
/-! PROOFS. What an operation leaves alone, said step by step: from a first state on, each update adds what it may change, and the whole
is the frame of a statement. With it the reads after an update of a canonical state, the occurrence of an event among other updates, and the
ending of an applied write. -/

set_option Elab.async false

namespace Sys2Proof.Machine

/-! ### Frames, step by step -/

/-- From s₀ to s nothing changed but the objects, DOMAIN entries and parts named, and the tables kept their canonical form. -/
structure Within (objs doms : Nat → Bool) (parts : List Part) (s₀ s : State) : Prop where
  objsWf : s₀.objsWf → s.objsWf
  domsWf : s₀.domsWf → s.domsWf
  frame : s₀.Canonical → Frame objs doms parts s₀ s

variable {objs doms : Nat → Bool} {parts : List Part} {s₀ s t : State}

theorem Part.same_trans {p : Part} {s t u : State} (h : p.same s t) (g : p.same t u) : p.same s u := by
  cases p <;> exact Eq.trans g h

theorem Within.canonical (h : Within objs doms parts s₀ s) (hc : s₀.Canonical) : s.Canonical := ⟨h.objsWf hc.1, h.domsWf hc.2⟩

theorem Within.get (h : Within objs doms parts s₀ s) (hc : s₀.Canonical) {k : Nat} (hk : objs k = false) : s.get k = s₀.get k :=
  (h.frame hc).1 k hk

theorem Within.dom (h : Within objs doms parts s₀ s) (hc : s₀.Canonical) {d e : Nat} (hk : doms (domKey d e) = false) :
    s.dom d e = s₀.dom d e :=
  (h.frame hc).2.1 _ hk

theorem Within.refl (s : State) : Within objs doms parts s s := ⟨id, id, fun _ => Frame.refl _ _ _ s⟩

theorem Within.trans (h : Within objs doms parts s₀ s) (g : Within objs doms parts s t) : Within objs doms parts s₀ t :=
  ⟨fun w => g.objsWf (h.objsWf w), fun w => g.domsWf (h.domsWf w), fun hc => (h.frame hc).trans (g.frame (h.canonical hc))⟩

/-- More may be allowed. -/
theorem Within.mono {objs' doms' : Nat → Bool} {parts' : List Part} (h : Within objs' doms' parts' s t)
    (ho : ∀ k, objs' k = true → objs k = true) (hd : ∀ k, doms' k = true → doms k = true) (hp : ∀ p ∈ parts', p ∈ parts) :
    Within objs doms parts s t :=
  ⟨h.objsWf, h.domsWf, fun hc => (h.frame hc).mono (fun k hk => Bool.eq_false_iff.mpr fun e => by simp [ho k e] at hk)
    (fun k hk => Bool.eq_false_iff.mpr fun e => by simp [hd k e] at hk) hp⟩

/-- A step of the event machinery, and any other that leaves the DOMAIN entries alone. -/
theorem Within.step {objs' : Nat → Bool} {parts' : List Part} (h : Within objs doms parts s₀ s) (g : EventStep objs' parts' s t)
    (ho : ∀ k, objs' k = true → objs k = true) (hp : ∀ p ∈ parts', p ∈ parts) : Within objs doms parts s₀ t :=
  h.trans (Within.mono ⟨g.wf, fun w => State.domsWf_of_doms w g.doms, fun hc => g.frame hc.1⟩ ho (fun _ hk => by simp [noKey] at hk) hp)

theorem State.emit_same (s : State) (e : Emission) {p : Part} (hs : p ≠ .sent) : p.same s (s.emit e) :=
  (Frame.emit (objs := noKey) (doms := noKey) (parts := [.sent]) (by decide) e).2.2 p (by simpa using hs)

/-- From s₀ to s only parts changed, those named: both tables are the same data. -/
structure Touches (parts : List Part) (s₀ s : State) : Prop where
  objs : s.objs = s₀.objs
  doms : s.doms = s₀.doms
  part : ∀ p, p ∉ parts → p.same s₀ s

theorem Touches.refl (s : State) : Touches parts s s := ⟨rfl, rfl, fun p _ => by cases p <;> rfl⟩

theorem Touches.trans (h : Touches parts s₀ s) (g : Touches parts s t) : Touches parts s₀ t :=
  ⟨g.objs.trans h.objs, g.doms.trans h.doms, fun p hp => Part.same_trans (h.part p hp) (g.part p hp)⟩

/-- Such a change is a frame of any state, canonical or not. -/
theorem Touches.frame (h : Touches parts s t) : Frame objs doms parts s t :=
  ⟨fun k _ => by simp only [State.get, h.objs], fun k _ => by simp only [State.domAt, h.doms], h.part⟩

/-- One part changes. -/
theorem Touches.one {p : Part} (h : Touches parts s₀ s) (hp : p ∈ parts) (ho : t.objs = s.objs) (hd : t.doms = s.doms)
    (hs : ∀ q, q ≠ p → q.same s t) : Touches parts s₀ t :=
  h.trans ⟨ho, hd, fun q hq => hs q fun e => hq (e ▸ hp)⟩

theorem Touches.mono {parts' : List Part} (h : Touches parts' s t) (hp : ∀ p ∈ parts', p ∈ parts) : Touches parts s t :=
  ⟨h.objs, h.doms, fun p hn => h.part p fun hm => hn (hp p hm)⟩

theorem Touches.emit {e : Emission} (h : Touches parts s₀ s) (hp : Part.sent ∈ parts := by decide) : Touches parts s₀ (s.emit e) :=
  h.one hp (State.emit_objs s e) (State.emit_doms s e) fun _ hq =>
    s.emit_same e hq

theorem Touches.fresh (h : Touches parts s₀ s) (hp : Part.free ∈ parts := by decide) : Touches parts s₀ s.fresh.2 :=
  h.one hp rfl rfl fun q hq => by cases q <;> first | rfl | exact absurd rfl hq

theorem Touches.withEv {x : EventState} (h : Touches parts s₀ s) (hp : Part.ev ∈ parts := by decide) :
    Touches parts s₀ (s.withEv x) :=
  h.one hp rfl rfl fun q hq => by cases q <;> first | rfl | exact absurd rfl hq

theorem Touches.withTime {x : TimeState} (h : Touches parts s₀ s) (hp : Part.time ∈ parts := by decide) :
    Touches parts s₀ (s.withTime x) :=
  h.one hp rfl rfl fun q hq => by cases q <;> first | rfl | exact absurd rfl hq

theorem Touches.withParse {x : ParseState} (h : Touches parts s₀ s) (hp : Part.parse ∈ parts := by decide) :
    Touches parts s₀ (s.withParse x) :=
  h.one hp rfl rfl fun q hq => by cases q <;> first | rfl | exact absurd rfl hq

theorem Touches.withTab {x : TableState} (h : Touches parts s₀ s) (hp : Part.tab ∈ parts := by decide) :
    Touches parts s₀ (s.withTab x) :=
  h.one hp rfl rfl fun q hq => by cases q <;> first | rfl | exact absurd rfl hq

theorem Touches.withNet {x : NetState} (h : Touches parts s₀ s) (hp : Part.net ∈ parts := by decide) :
    Touches parts s₀ (s.withNet x) :=
  h.one hp rfl rfl fun q hq => by cases q <;> first | rfl | exact absurd rfl hq

theorem Touches.withSched {x : SchedState} (h : Touches parts s₀ s) (hp : Part.sched ∈ parts := by decide) :
    Touches parts s₀ (s.withSched x) :=
  h.one hp rfl rfl fun q hq => by cases q <;> first | rfl | exact absurd rfl hq

theorem Touches.withLine {x : LinesState} (h : Touches parts s₀ s) (hp : Part.line ∈ parts := by decide) :
    Touches parts s₀ (s.withLine x) :=
  h.one hp rfl rfl fun q hq => by cases q <;> first | rfl | exact absurd rfl hq

theorem Touches.withFab {x : FabricState} (h : Touches parts s₀ s) (hp : Part.fab ∈ parts := by decide) :
    Touches parts s₀ (s.withFab x) :=
  h.one hp rfl rfl fun q hq => by cases q <;> first | rfl | exact absurd rfl hq

theorem Touches.withHbm {x : HbmState} (h : Touches parts s₀ s) (hp : Part.hbm ∈ parts := by decide) :
    Touches parts s₀ (s.withHbm x) :=
  h.one hp rfl rfl fun q hq => by cases q <;> first | rfl | exact absurd rfl hq

theorem Touches.withDict {x : DictState} (h : Touches parts s₀ s) (hp : Part.dict ∈ parts := by decide) :
    Touches parts s₀ (s.withDict x) :=
  h.one hp rfl rfl fun q hq => by cases q <;> first | rfl | exact absurd rfl hq

theorem Touches.withHost {x : HostState} (h : Touches parts s₀ s) (hp : Part.host ∈ parts := by decide) :
    Touches parts s₀ (s.withHost x) :=
  h.one hp rfl rfl fun q hq => by cases q <;> first | rfl | exact absurd rfl hq

theorem Touches.withMsix {x : MsixState} (h : Touches parts s₀ s) (hp : Part.msix ∈ parts := by decide) :
    Touches parts s₀ (s.withMsix x) :=
  h.one hp rfl rfl fun q hq => by cases q <;> first | rfl | exact absurd rfl hq

theorem Touches.withCqs {x : Table CqState} (h : Touches parts s₀ s) (hp : Part.cqs ∈ parts := by decide) :
    Touches parts s₀ (s.withCqs x) :=
  h.one hp rfl rfl fun q hq => by cases q <;> first | rfl | exact absurd rfl hq

theorem Touches.withCoica {x : CoicaState} (h : Touches parts s₀ s) (hp : Part.coica ∈ parts := by decide) :
    Touches parts s₀ (s.withCoica x) :=
  h.one hp rfl rfl fun q hq => by cases q <;> first | rfl | exact absurd rfl hq

theorem Touches.withPair {x : PairState} (h : Touches parts s₀ s) (hp : Part.pair ∈ parts := by decide) :
    Touches parts s₀ (s.withPair x) :=
  h.one hp rfl rfl fun q hq => by cases q <;> first | rfl | exact absurd rfl hq

theorem Touches.withPw {x : PowerState} (h : Touches parts s₀ s) (hp : Part.pw ∈ parts := by decide) :
    Touches parts s₀ (s.withPw x) :=
  h.one hp rfl rfl fun q hq => by cases q <;> first | rfl | exact absurd rfl hq

theorem Touches.withSec {x : SecState} (h : Touches parts s₀ s) (hp : Part.sec ∈ parts := by decide) :
    Touches parts s₀ (s.withSec x) :=
  h.one hp rfl rfl fun q hq => by cases q <;> first | rfl | exact absurd rfl hq

theorem Touches.withFlash {x : FlashState} (h : Touches parts s₀ s) (hp : Part.flash ∈ parts := by decide) :
    Touches parts s₀ (s.withFlash x) :=
  h.one hp rfl rfl fun q hq => by cases q <;> first | rfl | exact absurd rfl hq

theorem Touches.withBoot {x : BootState} (h : Touches parts s₀ s) (hp : Part.boot ∈ parts := by decide) :
    Touches parts s₀ (s.withBoot x) :=
  h.one hp rfl rfl fun q hq => by cases q <;> first | rfl | exact absurd rfl hq

theorem Touches.withThermal {x : ThermalState} (h : Touches parts s₀ s) (hp : Part.thermal ∈ parts := by decide) :
    Touches parts s₀ (s.withThermal x) :=
  h.one hp rfl rfl fun q hq => by cases q <;> first | rfl | exact absurd rfl hq

theorem Within.touch (h : Within objs doms parts s₀ s) (g : Touches parts s t) : Within objs doms parts s₀ t :=
  h.trans ⟨fun w => State.objsWf_of_objs w g.objs, fun w => State.domsWf_of_doms w g.doms, fun _ => g.frame⟩

theorem Within.set {k v : Nat} (h : Within objs doms parts s₀ s) (hk : objs k = true := by simp [keysOf, keysAndEvents]) :
    Within objs doms parts s₀ (s.set k v) :=
  h.trans ⟨fun w => State.objsWf_set w k v, id, fun hc => Frame.set hc.1 hk v⟩

theorem Within.bump {k n : Nat} (h : Within objs doms parts s₀ s) (hk : objs k = true := by simp [keysOf, keysAndEvents]) :
    Within objs doms parts s₀ (s.bump k n) :=
  h.set hk

theorem Within.bumpW {w k n : Nat} (h : Within objs doms parts s₀ s) (hk : objs k = true := by simp [keysOf, keysAndEvents]) :
    Within objs doms parts s₀ (s.bumpW w k n) :=
  h.set hk

theorem Within.setDom {d e v : Nat} (h : Within objs doms parts s₀ s) (hk : doms (domKey d e) = true := by simp [keysOf]) :
    Within objs doms parts s₀ (s.setDom d e v) :=
  h.trans ⟨id, fun w => State.domsWf_setDom w d e v, fun hc => ⟨fun _ _ => rfl,
    fun j hj => State.domAt_setDom_ne hc.2 (fun e => by rw [e, hk] at hj; cases hj) v, fun p _ => by cases p <;> rfl⟩⟩

theorem Within.setField {d e v : Nat} {f : Field} (h : Within objs doms parts s₀ s) (hk : doms (domKey d e) = true := by simp [keysOf]) :
    Within objs doms parts s₀ (s.setField d e f v) :=
  h.setDom hk

theorem Within.bumpField {d e n : Nat} {f : Field} (h : Within objs doms parts s₀ s) (hk : doms (domKey d e) = true := by simp [keysOf]) :
    Within objs doms parts s₀ (s.bumpField d e f n) :=
  h.setDom hk

theorem Within.emit {e : Emission} (h : Within objs doms parts s₀ s) (hp : Part.sent ∈ parts := by decide) :
    Within objs doms parts s₀ (s.emit e) :=
  h.touch ((Touches.refl s).emit hp)

theorem Within.answer {m k v : Nat} {st : Status} (h : Within objs doms parts s₀ s) (hp : Part.sent ∈ parts := by decide) :
    Within objs doms parts s₀ (s.answer m k st v) :=
  h.emit hp

theorem Within.fresh (h : Within objs doms parts s₀ s) (hp : Part.free ∈ parts := by decide) : Within objs doms parts s₀ s.fresh.2 :=
  h.touch ((Touches.refl s).fresh hp)

theorem Within.withEv {x : EventState} (h : Within objs doms parts s₀ s) (hp : Part.ev ∈ parts := by decide) :
    Within objs doms parts s₀ (s.withEv x) :=
  h.touch ((Touches.refl s).withEv hp)

theorem Within.withTime {x : TimeState} (h : Within objs doms parts s₀ s) (hp : Part.time ∈ parts := by decide) :
    Within objs doms parts s₀ (s.withTime x) :=
  h.touch ((Touches.refl s).withTime hp)

theorem Within.withParse {x : ParseState} (h : Within objs doms parts s₀ s) (hp : Part.parse ∈ parts := by decide) :
    Within objs doms parts s₀ (s.withParse x) :=
  h.touch ((Touches.refl s).withParse hp)

theorem Within.withTab {x : TableState} (h : Within objs doms parts s₀ s) (hp : Part.tab ∈ parts := by decide) :
    Within objs doms parts s₀ (s.withTab x) :=
  h.touch ((Touches.refl s).withTab hp)

theorem Within.withNet {x : NetState} (h : Within objs doms parts s₀ s) (hp : Part.net ∈ parts := by decide) :
    Within objs doms parts s₀ (s.withNet x) :=
  h.touch ((Touches.refl s).withNet hp)

theorem Within.withSched {x : SchedState} (h : Within objs doms parts s₀ s) (hp : Part.sched ∈ parts := by decide) :
    Within objs doms parts s₀ (s.withSched x) :=
  h.touch ((Touches.refl s).withSched hp)

theorem Within.withLine {x : LinesState} (h : Within objs doms parts s₀ s) (hp : Part.line ∈ parts := by decide) :
    Within objs doms parts s₀ (s.withLine x) :=
  h.touch ((Touches.refl s).withLine hp)

theorem Within.withFab {x : FabricState} (h : Within objs doms parts s₀ s) (hp : Part.fab ∈ parts := by decide) :
    Within objs doms parts s₀ (s.withFab x) :=
  h.touch ((Touches.refl s).withFab hp)

theorem Within.withHbm {x : HbmState} (h : Within objs doms parts s₀ s) (hp : Part.hbm ∈ parts := by decide) :
    Within objs doms parts s₀ (s.withHbm x) :=
  h.touch ((Touches.refl s).withHbm hp)

theorem Within.withDict {x : DictState} (h : Within objs doms parts s₀ s) (hp : Part.dict ∈ parts := by decide) :
    Within objs doms parts s₀ (s.withDict x) :=
  h.touch ((Touches.refl s).withDict hp)

theorem Within.withHost {x : HostState} (h : Within objs doms parts s₀ s) (hp : Part.host ∈ parts := by decide) :
    Within objs doms parts s₀ (s.withHost x) :=
  h.touch ((Touches.refl s).withHost hp)

theorem Within.withMsix {x : MsixState} (h : Within objs doms parts s₀ s) (hp : Part.msix ∈ parts := by decide) :
    Within objs doms parts s₀ (s.withMsix x) :=
  h.touch ((Touches.refl s).withMsix hp)

theorem Within.withCqs {x : Table CqState} (h : Within objs doms parts s₀ s) (hp : Part.cqs ∈ parts := by decide) :
    Within objs doms parts s₀ (s.withCqs x) :=
  h.touch ((Touches.refl s).withCqs hp)

theorem Within.withCoica {x : CoicaState} (h : Within objs doms parts s₀ s) (hp : Part.coica ∈ parts := by decide) :
    Within objs doms parts s₀ (s.withCoica x) :=
  h.touch ((Touches.refl s).withCoica hp)

theorem Within.withPair {x : PairState} (h : Within objs doms parts s₀ s) (hp : Part.pair ∈ parts := by decide) :
    Within objs doms parts s₀ (s.withPair x) :=
  h.touch ((Touches.refl s).withPair hp)

theorem Within.withPw {x : PowerState} (h : Within objs doms parts s₀ s) (hp : Part.pw ∈ parts := by decide) :
    Within objs doms parts s₀ (s.withPw x) :=
  h.touch ((Touches.refl s).withPw hp)

theorem Within.withSec {x : SecState} (h : Within objs doms parts s₀ s) (hp : Part.sec ∈ parts := by decide) :
    Within objs doms parts s₀ (s.withSec x) :=
  h.touch ((Touches.refl s).withSec hp)

theorem Within.withFlash {x : FlashState} (h : Within objs doms parts s₀ s) (hp : Part.flash ∈ parts := by decide) :
    Within objs doms parts s₀ (s.withFlash x) :=
  h.touch ((Touches.refl s).withFlash hp)

theorem Within.withBoot {x : BootState} (h : Within objs doms parts s₀ s) (hp : Part.boot ∈ parts := by decide) :
    Within objs doms parts s₀ (s.withBoot x) :=
  h.touch ((Touches.refl s).withBoot hp)

theorem Within.withThermal {x : ThermalState} (h : Within objs doms parts s₀ s) (hp : Part.thermal ∈ parts := by decide) :
    Within objs doms parts s₀ (s.withThermal x) :=
  h.touch ((Touches.refl s).withThermal hp)

theorem Within.serve {key m : Nat} (h : Within objs doms parts s₀ s) (hp : Part.dict ∈ parts := by decide) :
    Within objs doms parts s₀ (s.serve key m) :=
  h.step (EventStep.serve (objs := objs) hp key m) (fun _ hk => hk) fun _ hp => hp

theorem eventObjs_keysAndEvents {l : List Nat} (k : Nat) (h : eventObjs k = true) : keysAndEvents l k = true := by
  simp [keysAndEvents, h]

/-- An event below fatal, E-6102 apart. -/
theorem Within.raise {code unit arg scope : Nat} (h : Within objs doms parts s₀ s) (hf : eventClass code < 3 := by decide)
    (hh : code ≠ 0x6102 := by decide) (ho : ∀ k, eventObjs k = true → objs k = true := by first | exact eventObjs_keysAndEvents | exact fun _ h => h)
    (hp : ∀ p ∈ eventParts, p ∈ parts := by decide) : Within objs doms parts s₀ (s.raise code unit arg scope) :=
  h.step (EventStep.raise code unit arg scope hf hh) ho hp

theorem Within.ite {c : Prop} [Decidable c] (h : Within objs doms parts s₀ s) (g : Within objs doms parts s₀ t) :
    Within objs doms parts s₀ (if c then s else t) := by
  split <;> assumption

theorem Within.forEach {α : Type} {f : State → α → State} {l : List α} (h : Within objs doms parts s₀ s)
    (hf : ∀ s, ∀ a ∈ l, Within objs doms parts s₀ s → Within objs doms parts s₀ (f s a)) :
    Within objs doms parts s₀ (Machine.forEach l s f) := by
  unfold Machine.forEach
  induction l generalizing s with
  | nil => exact h
  | cons a l ih => exact ih (hf s a List.mem_cons_self h) fun s b hb => hf s b (List.mem_cons_of_mem a hb)

/-- With the core on a command of the core does what it says. -/
theorem State.inCore_on (h : s.CoreOn) (f : State → State) : s.inCore f = .next (f s) := by
  simp [State.inCore, show s.coreOff = false from h]

/-! ### Reads after an update -/

theorem State.get_set (w : s.objsWf) (k v j : Nat) : (s.set k v).get j = if j = k then v else s.get j := by
  split
  · subst_vars
    exact State.get_set_self w _ v
  · exact State.get_set_ne w (by assumption) v

theorem State.get_bump (w : s.objsWf) (k n j : Nat) : (s.bump k n).get j = if j = k then wrapAdd 64 (s.get k) n else s.get j :=
  State.get_set w k _ j

theorem State.get_bumpW (w : s.objsWf) (l k n j : Nat) : (s.bumpW l k n).get j = if j = k then wrapAdd l (s.get k) n else s.get j :=
  State.get_set w k _ j

theorem State.dom_setDom (w : s.domsWf) (d e v d' e' : Nat) :
    (s.setDom d e v).dom d' e' = if domKey d' e' = domKey d e then v else s.dom d' e' := by
  split
  · rename_i h
    unfold State.dom
    rw [h]
    exact State.domAt_setDom_self w d e v
  · rename_i h
    exact State.domAt_setDom_ne w h v

/-! ### Objects that the protection pair journals -/

theorem Touches.journal {r : JRec} (h : Touches parts s₀ s) (hp : Part.pair ∈ parts := by decide) : Touches parts s₀ (s.journal r) := by
  unfold State.journal
  split
  · exact h.withPair hp
  · exact h

theorem State.journal_objs (s : State) (r : JRec) : (s.journal r).objs = s.objs := ((Touches.refl (parts := [.pair]) s).journal).objs

theorem State.journal_doms (s : State) (r : JRec) : (s.journal r).doms = s.doms := ((Touches.refl (parts := [.pair]) s).journal).doms

theorem State.commit_eq (s : State) (k v : Nat) :
    s.commit k v = if replicatedObj k then (s.set k v).journal (.obj (keyIdx k) (keySub k) v) else s.set k v := rfl

theorem Touches.commit (k v : Nat) : Touches [.pair] (s.set k v) (s.commit k v) := by
  rw [State.commit_eq]
  split
  · exact (Touches.refl _).journal
  · exact Touches.refl _

theorem State.commit_unreplicated (s : State) {k : Nat} (h : replicatedObj k = false) (v : Nat) : s.commit k v = s.set k v := by
  rw [State.commit_eq, h]
  rfl

theorem State.commit_same (s : State) (k v : Nat) {p : Part} (hp : p ≠ .pair) : p.same s (s.commit k v) :=
  Part.same_trans (t := s.set k v) (by cases p <;> rfl) ((Touches.commit k v).part p (by simpa using hp))

@[simp] theorem State.commit_pending (s : State) (k v : Nat) : (s.commit k v).pending = s.pending := s.commit_same k v (p := .pending) (by decide)
@[simp] theorem State.commit_free (s : State) (k v : Nat) : (s.commit k v).free = s.free := s.commit_same k v (p := .free) (by decide)
@[simp] theorem State.commit_sent (s : State) (k v : Nat) : (s.commit k v).sent = s.sent := s.commit_same k v (p := .sent) (by decide)
@[simp] theorem State.commit_ev (s : State) (k v : Nat) : (s.commit k v).ev = s.ev := s.commit_same k v (p := .ev) (by decide)
@[simp] theorem State.commit_time (s : State) (k v : Nat) : (s.commit k v).time = s.time := s.commit_same k v (p := .time) (by decide)
@[simp] theorem State.commit_parse (s : State) (k v : Nat) : (s.commit k v).parse = s.parse := s.commit_same k v (p := .parse) (by decide)
@[simp] theorem State.commit_tab (s : State) (k v : Nat) : (s.commit k v).tab = s.tab := s.commit_same k v (p := .tab) (by decide)
@[simp] theorem State.commit_net (s : State) (k v : Nat) : (s.commit k v).net = s.net := s.commit_same k v (p := .net) (by decide)
@[simp] theorem State.commit_sched (s : State) (k v : Nat) : (s.commit k v).sched = s.sched := s.commit_same k v (p := .sched) (by decide)
@[simp] theorem State.commit_line (s : State) (k v : Nat) : (s.commit k v).line = s.line := s.commit_same k v (p := .line) (by decide)
@[simp] theorem State.commit_fab (s : State) (k v : Nat) : (s.commit k v).fab = s.fab := s.commit_same k v (p := .fab) (by decide)
@[simp] theorem State.commit_hbm (s : State) (k v : Nat) : (s.commit k v).hbm = s.hbm := s.commit_same k v (p := .hbm) (by decide)
@[simp] theorem State.commit_dict (s : State) (k v : Nat) : (s.commit k v).dict = s.dict := s.commit_same k v (p := .dict) (by decide)
@[simp] theorem State.commit_host (s : State) (k v : Nat) : (s.commit k v).host = s.host := s.commit_same k v (p := .host) (by decide)
@[simp] theorem State.commit_msix (s : State) (k v : Nat) : (s.commit k v).msix = s.msix := s.commit_same k v (p := .msix) (by decide)
@[simp] theorem State.commit_cqs (s : State) (k v : Nat) : (s.commit k v).cqs = s.cqs := s.commit_same k v (p := .cqs) (by decide)
@[simp] theorem State.commit_coica (s : State) (k v : Nat) : (s.commit k v).coica = s.coica := s.commit_same k v (p := .coica) (by decide)
@[simp] theorem State.commit_pw (s : State) (k v : Nat) : (s.commit k v).pw = s.pw := s.commit_same k v (p := .pw) (by decide)
@[simp] theorem State.commit_sec (s : State) (k v : Nat) : (s.commit k v).sec = s.sec := s.commit_same k v (p := .sec) (by decide)
@[simp] theorem State.commit_flash (s : State) (k v : Nat) : (s.commit k v).flash = s.flash := s.commit_same k v (p := .flash) (by decide)
@[simp] theorem State.commit_boot (s : State) (k v : Nat) : (s.commit k v).boot = s.boot := s.commit_same k v (p := .boot) (by decide)
@[simp] theorem State.commit_thermal (s : State) (k v : Nat) : (s.commit k v).thermal = s.thermal := s.commit_same k v (p := .thermal) (by decide)

/-- A committed object reads as written, and every other as before. -/
theorem State.get_commit (w : s.objsWf) (k v j : Nat) : (s.commit k v).get j = if j = k then v else s.get j := by
  rw [State.get, (Touches.commit k v).objs]
  exact State.get_set w k v j

theorem State.get_commit_self (w : s.objsWf) (k v : Nat) : (s.commit k v).get k = v := (State.get_commit w k v k).trans (if_pos rfl)

@[simp] theorem State.dom_commit (s : State) (k v d e : Nat) : (s.commit k v).dom d e = s.dom d e := by
  rw [State.dom, (Touches.commit k v).doms]
  rfl

theorem State.objsWf_commit (w : s.objsWf) (k v : Nat) : (s.commit k v).objsWf :=
  State.objsWf_of_objs (State.objsWf_set w k v) (Touches.commit k v).objs

theorem Within.commit {k v : Nat} (h : Within objs doms parts s₀ s) (hk : objs k = true := by simp [keysOf, keysAndEvents])
    (hp : Part.pair ∈ parts := by decide) : Within objs doms parts s₀ (s.commit k v) :=
  (h.set hk).touch ((Touches.commit k v).mono (by simpa using hp))

/-! ### The occurrence of an event among other updates -/

/-- Nothing of what an occurrence is measured by has changed: the records, the counts, the time. -/
structure SameEvents (s t : State) : Prop where
  ev : t.ev = s.ev
  now : t.time.now = s.time.now
  timeNow : t.timeNow = s.timeNow
  counts : ∀ k, eventObjs k = true → t.get k = s.get k

theorem SameEvents.refl (s : State) : SameEvents s s := ⟨rfl, rfl, rfl, fun _ _ => rfl⟩

/-- What follows an occurrence may change anything but the records and the counts. -/
structure KeepsEvents (s t : State) : Prop where
  ev : t.ev = s.ev
  counts : ∀ k, eventObjs k = true → t.get k = s.get k

/-- An event raised between other updates. -/
theorem Occurred.between {u v : State} {code unit arg scope : Nat} (hb : SameEvents s u) (h : Occurred u v code unit arg scope)
    (ha : KeepsEvents v t) (hc : eventClass code < 4) : Occurred s t code unit arg scope := by
  obtain ⟨hcount, hsup, hdue⟩ := h
  have hs : u.Suppresses code scope = s.Suppresses code scope := by simp only [State.Suppresses, hb.ev, hb.now]
  have hk := eventObjs_count hc
  refine ⟨?_, ?_, ?_⟩
  · rw [ha.counts _ hk, hcount, hb.counts _ hk]
  · rw [ha.counts _ (by decide), hsup, hs, hb.counts _ (by decide)]
  · rw [ha.ev, hdue, hs, hb.ev, hb.timeNow]

theorem State.suppresses_iff (s : State) (code scope : Nat) : s.Suppresses code scope = true ↔ eventPeriod code ≠ 0 ∧
    (s.ev.spans.any fun x => Nat.beq x.code code && Nat.beq x.scope scope && Nat.blt s.time.now x.until') = true := by
  rw [State.Suppresses, Bool.and_eq_true, Bool.not_eq_true', ← Bool.not_eq_true, Nat.beq_eq]

/-- Below fatal, E-6102 apart, raising an event is one occurrence of it. -/
theorem Occurred.raise (w : s.objsWf) {code : Nat} (unit arg scope : Nat) (hc : eventClass code < 3) (hh : code ≠ 0x6102) :
    Occurred s (s.raise code unit arg scope) code unit arg scope := by
  have hcount : Obj.EVENT_LAST_COUNT (eventClass code) ≠ Obj.EVENT_CTRL_SUPPRESSED := by
    simp only [Obj.EVENT_LAST_COUNT, Obj.EVENT_CTRL_SUPPRESSED, objKey]
    omega
  have hclass : eventClass code ≠ 3 := by omega
  simp only [Occurred, State.raise, State.raise1, State.countEvent, hclass, hh, if_false, State.raiseList, List.foldl_nil, State.bump_ev,
    State.bump_time, ← State.suppresses_iff]
  by_cases hs : s.Suppresses code scope = true
  · simp [hs, State.get_bump (State.objsWf_bump w _ _), State.get_bump w, hcount, hcount.symm]
  · by_cases hp : eventPeriod code = 0
    · simp [hs, hp, State.get_bump w, hcount.symm, State.timeNow, State.inIsland]
    · simp [hs, hp, State.get_bump w, hcount.symm, State.timeNow, State.inIsland]

/-- Beside the objects that R553 names an event changes nothing but the records, whatever the form of the tables. -/
theorem State.raise_same (s : State) {code : Nat} (hf : eventClass code ≠ 3) (hh : code ≠ 0x6102) (unit arg scope : Nat) {p : Part}
    (hp : p ≠ .ev) : p.same s (s.raise code unit arg scope) := by
  simp only [State.raise, State.raise1, State.countEvent, hf, hh, if_false, State.raiseList, List.foldl_nil]
  split <;> split <;> (try split) <;> cases p <;> first | rfl | exact absurd rfl hp

theorem State.raise_time (s : State) {code : Nat} (hf : eventClass code ≠ 3) (hh : code ≠ 0x6102) (unit arg scope : Nat) :
    (s.raise code unit arg scope).time = s.time :=
  s.raise_same hf hh unit arg scope (p := .time) (by decide)

theorem SameEvents.of {l : List Nat} (h : Within (keysOf l) doms parts s t) (hc : s.Canonical)
    (hl : ∀ k ∈ l, eventObjs k = false := by decide)
    (hp : Part.ev ∉ parts ∧ Part.time ∉ parts ∧ Part.pw ∉ parts := by decide) : SameEvents s t := by
  have hpart {p : Part} (hp : p ∉ parts) : p.same s t := (h.frame hc).2.2 p hp
  have htime : t.time = s.time := hpart hp.2.1
  have hpw : t.pw = s.pw := hpart hp.2.2
  refine ⟨hpart hp.1, by rw [htime], by rw [State.timeNow, State.timeNow, State.inIsland, State.inIsland, htime, hpw], fun k hk => h.get hc ?_⟩
  exact Bool.eq_false_iff.mpr fun e => by simp [hl k (by simpa [keysOf] using e)] at hk

theorem KeepsEvents.of {l : List Nat} (h : Within (keysOf l) doms parts s t) (hc : s.Canonical)
    (hl : ∀ k ∈ l, eventObjs k = false := by decide) (hp : Part.ev ∉ parts := by decide) : KeepsEvents s t := by
  refine ⟨(h.frame hc).2.2 _ hp, fun k hk => h.get hc ?_⟩
  exact Bool.eq_false_iff.mpr fun e => by simp [hl k (by simpa [keysOf] using e)] at hk

/-! ### The ending of an applied write -/

/-- A write that was applied is noted in its order of the cycle and answered OK. -/
def State.applied (s : State) (master key : Nat) : State := (s.serve key master).answer master key .ok

theorem State.serve_same (s : State) (key master : Nat) {p : Part} (hd : p ≠ .dict) : p.same s (s.serve key master) := by
  unfold State.serve
  split
  · cases p <;> rfl
  · cases p <;> first | rfl | exact absurd rfl hd

theorem State.applied_same (s : State) (m k : Nat) {p : Part} (hd : p ≠ .dict) (hs : p ≠ .sent) : p.same s (s.applied m k) :=
  Part.same_trans (s.serve_same k m hd) (State.emit_same _ _ hs)

@[simp] theorem State.applied_pending (s : State) (m k : Nat) : (s.applied m k).pending = s.pending := s.applied_same m k (p := .pending) (by decide) (by decide)
@[simp] theorem State.applied_free (s : State) (m k : Nat) : (s.applied m k).free = s.free := s.applied_same m k (p := .free) (by decide) (by decide)
@[simp] theorem State.applied_ev (s : State) (m k : Nat) : (s.applied m k).ev = s.ev := s.applied_same m k (p := .ev) (by decide) (by decide)
@[simp] theorem State.applied_time (s : State) (m k : Nat) : (s.applied m k).time = s.time := s.applied_same m k (p := .time) (by decide) (by decide)
@[simp] theorem State.applied_parse (s : State) (m k : Nat) : (s.applied m k).parse = s.parse := s.applied_same m k (p := .parse) (by decide) (by decide)
@[simp] theorem State.applied_tab (s : State) (m k : Nat) : (s.applied m k).tab = s.tab := s.applied_same m k (p := .tab) (by decide) (by decide)
@[simp] theorem State.applied_net (s : State) (m k : Nat) : (s.applied m k).net = s.net := s.applied_same m k (p := .net) (by decide) (by decide)
@[simp] theorem State.applied_sched (s : State) (m k : Nat) : (s.applied m k).sched = s.sched := s.applied_same m k (p := .sched) (by decide) (by decide)
@[simp] theorem State.applied_line (s : State) (m k : Nat) : (s.applied m k).line = s.line := s.applied_same m k (p := .line) (by decide) (by decide)
@[simp] theorem State.applied_fab (s : State) (m k : Nat) : (s.applied m k).fab = s.fab := s.applied_same m k (p := .fab) (by decide) (by decide)
@[simp] theorem State.applied_hbm (s : State) (m k : Nat) : (s.applied m k).hbm = s.hbm := s.applied_same m k (p := .hbm) (by decide) (by decide)
@[simp] theorem State.applied_host (s : State) (m k : Nat) : (s.applied m k).host = s.host := s.applied_same m k (p := .host) (by decide) (by decide)
@[simp] theorem State.applied_msix (s : State) (m k : Nat) : (s.applied m k).msix = s.msix := s.applied_same m k (p := .msix) (by decide) (by decide)
@[simp] theorem State.applied_cqs (s : State) (m k : Nat) : (s.applied m k).cqs = s.cqs := s.applied_same m k (p := .cqs) (by decide) (by decide)
@[simp] theorem State.applied_coica (s : State) (m k : Nat) : (s.applied m k).coica = s.coica := s.applied_same m k (p := .coica) (by decide) (by decide)
@[simp] theorem State.applied_pair (s : State) (m k : Nat) : (s.applied m k).pair = s.pair := s.applied_same m k (p := .pair) (by decide) (by decide)
@[simp] theorem State.applied_pw (s : State) (m k : Nat) : (s.applied m k).pw = s.pw := s.applied_same m k (p := .pw) (by decide) (by decide)
@[simp] theorem State.applied_sec (s : State) (m k : Nat) : (s.applied m k).sec = s.sec := s.applied_same m k (p := .sec) (by decide) (by decide)
@[simp] theorem State.applied_flash (s : State) (m k : Nat) : (s.applied m k).flash = s.flash := s.applied_same m k (p := .flash) (by decide) (by decide)
@[simp] theorem State.applied_boot (s : State) (m k : Nat) : (s.applied m k).boot = s.boot := s.applied_same m k (p := .boot) (by decide) (by decide)
@[simp] theorem State.applied_thermal (s : State) (m k : Nat) : (s.applied m k).thermal = s.thermal := s.applied_same m k (p := .thermal) (by decide) (by decide)

@[simp] theorem State.get_applied (s : State) (m k j : Nat) : (s.applied m k).get j = s.get j := by
  rw [State.applied, State.get_answer, State.get, State.serve_objs, State.get]

theorem State.serve_doms (s : State) (key master : Nat) : (s.serve key master).doms = s.doms := by
  unfold State.serve
  split <;> rfl

@[simp] theorem State.dom_applied (s : State) (m k d e : Nat) : (s.applied m k).dom d e = s.dom d e := by
  rw [State.applied, State.dom_answer, State.dom, State.serve_doms, State.dom]

theorem State.answered_applied (s : State) (m k : Nat) : (s.applied m k).Answered m k .ok := State.answered_answer _ _ _ _

theorem Within.applied {m k : Nat} (h : Within objs doms parts s₀ s) (hd : Part.dict ∈ parts := by decide)
    (hs : Part.sent ∈ parts := by decide) : Within objs doms parts s₀ (s.applied m k) :=
  (h.serve hd).answer hs

/-- An accepted write whose rule applies it. -/
theorem State.rowWrite_applied {m key v : Nat} (ha : s.Accepts m key v) {rule : State → Res} (hr : rule s = (.ok, t))
    (hf : t.sec.fusing = none) (hk : key % 0x1000000 ≠ 0x111007) : s.rowWrite m key v rule = .next (t.applied m key) := by
  rw [State.rowWrite_of_accepts ha, hr, State.finish_ok _ _ hf hk, State.applied]


end Sys2Proof.Machine
end

section
/-! PROOFS. Family 01_air_time: the servo owner's commands and the steps of the timebase (R23 to R25). -/

set_option Elab.async false

namespace Sys2Proof.Machine

variable {s t : State}

/-! ### The states of the timebase -/

theorem State.enterTimebase_of_same {v : Nat} (h : s.get Obj.TIMEBASE_STATE = v) : s.enterTimebase v = s := if_pos h

/-- The new state with its event, before what HOLDOVER and LOCKED add. -/
def State.changeTimebase (s : State) (new : Nat) : State :=
  (s.set Obj.TIMEBASE_STATE new).raise 0x1001 uMGMT (packArg [(16, s.get Obj.TIMEBASE_STATE), (16, new)])

/-- FREQ_ADJ held at the mean of the last adjustments. -/
def State.freeze (s : State) : State :=
  let s := s.set Obj.TIMEBASE_FREQ_ADJ s.frozenAdj
  s.withTime { s.time with holdoverAt := s.time.now }

theorem State.enterTimebase_holdover (h : s.get Obj.TIMEBASE_STATE ≠ tbHOLDOVER) :
    s.enterTimebase tbHOLDOVER = (s.changeTimebase tbHOLDOVER).freeze.raise 0x1103 uMGMT 0 := if_neg h

theorem State.enterTimebase_other {v : Nat} (h : s.get Obj.TIMEBASE_STATE ≠ v) (hv : v ≠ tbHOLDOVER) :
    s.enterTimebase v =
      let u := s.changeTimebase v
      if v = tbLOCKED then u.withTime { u.time with lockAt := u.time.now } else u := by
  unfold State.enterTimebase
  simp only [if_neg h, if_neg hv]
  rfl

section
variable {objs doms : Nat → Bool} {parts : List Part} {s₀ : State}

/-- A change of state writes STATE, FREQ_ADJ and two instants, and makes its events. -/
theorem Within.enterTimebase {v : Nat} (h : Within objs doms parts s₀ s)
    (hs : objs Obj.TIMEBASE_STATE = true := by simp [keysOf, keysAndEvents])
    (hf : objs Obj.TIMEBASE_FREQ_ADJ = true := by simp [keysOf, keysAndEvents])
    (ho : ∀ k, eventObjs k = true → objs k = true := by first | exact eventObjs_keysAndEvents | exact fun _ h => h)
    (ht : Part.time ∈ parts := by decide) (hp : ∀ p ∈ eventParts, p ∈ parts := by decide) :
    Within objs doms parts s₀ (s.enterTimebase v) := by
  have hc (v : Nat) : Within objs doms parts s₀ (s.changeTimebase v) := (h.set hs).raise (by decide) (by decide) ho hp
  by_cases hold : s.get Obj.TIMEBASE_STATE = v
  · rwa [State.enterTimebase_of_same hold]
  by_cases hv : v = tbHOLDOVER
  · subst hv
    rw [State.enterTimebase_holdover hold]
    exact (((hc tbHOLDOVER).set hf).withTime ht).raise (by decide) (by decide) ho hp
  · rw [State.enterTimebase_other hold hv]
    exact .ite ((hc _).withTime ht) (hc _)

end

theorem State.changeTimebase_time (s : State) (v : Nat) : (s.changeTimebase v).time = s.time :=
  State.raise_time _ (by decide) (by decide) _ _ _

theorem State.changeTimebase_wf (w : s.objsWf) (v : Nat) : (s.changeTimebase v).objsWf :=
  (EventStep.raise _ _ _ _ (by decide) (by decide)).wf (State.objsWf_set w _ _)

/-- STATE and the events of a change apart, every object reads as before. -/
theorem State.get_changeTimebase (w : s.objsWf) (v : Nat) {k : Nat} (hk : eventObjs k = false) :
    (s.changeTimebase v).get k = if k = Obj.TIMEBASE_STATE then v else s.get k := by
  rw [State.changeTimebase, State.get_raise (State.objsWf_set w _ _) (by decide) (by decide) hk, State.get_set w]

theorem State.frozenAdj_changeTimebase (w : s.objsWf) (v : Nat) : (s.changeTimebase v).frozenAdj = s.frozenAdj := by
  have hfreq : (s.changeTimebase v).get Obj.TIMEBASE_FREQ_ADJ = s.get Obj.TIMEBASE_FREQ_ADJ :=
    (State.get_changeTimebase w v (by decide)).trans (if_neg (by decide))
  rw [State.frozenAdj, State.frozenAdj, State.changeTimebase_time, hfreq]

theorem State.get_enterTimebase_holdover (w : s.objsWf) (h : s.get Obj.TIMEBASE_STATE ≠ tbHOLDOVER) {k : Nat} (hk : eventObjs k = false) :
    (s.enterTimebase tbHOLDOVER).get k =
      if k = Obj.TIMEBASE_FREQ_ADJ then s.frozenAdj else if k = Obj.TIMEBASE_STATE then tbHOLDOVER else s.get k := by
  have hw := State.changeTimebase_wf w tbHOLDOVER
  have hfrozen : (s.changeTimebase tbHOLDOVER).freeze.objsWf := State.objsWf_set hw _ _
  rw [State.enterTimebase_holdover h, State.get_raise hfrozen (by decide) (by decide) hk, State.freeze, State.get_withTime, State.get_set hw,
    State.frozenAdj_changeTimebase w, State.get_changeTimebase w _ hk]

theorem State.get_enterTimebase_other (w : s.objsWf) {v : Nat} (h : s.get Obj.TIMEBASE_STATE ≠ v) (hv : v ≠ tbHOLDOVER) {k : Nat}
    (hk : eventObjs k = false) : (s.enterTimebase v).get k = if k = Obj.TIMEBASE_STATE then v else s.get k := by
  rw [State.enterTimebase_other h hv]
  dsimp only
  split
  · exact State.get_changeTimebase w v hk
  · exact State.get_changeTimebase w v hk

/-- The timebase is in the state that it entered. -/
theorem State.get_state_enterTimebase (w : s.objsWf) (v : Nat) : (s.enterTimebase v).get Obj.TIMEBASE_STATE = v := by
  have hk : eventObjs Obj.TIMEBASE_STATE = false := by decide
  by_cases h : s.get Obj.TIMEBASE_STATE = v
  · rw [State.enterTimebase_of_same h, h]
  by_cases hv : v = tbHOLDOVER
  · subst hv
    simp [State.get_enterTimebase_holdover w h hk]
  · simp [State.get_enterTimebase_other w h hv hk]

/-- Only a change to HOLDOVER freezes FREQ_ADJ. -/
theorem State.get_freqAdj_enterTimebase (w : s.objsWf) {v : Nat} (h : v ≠ tbHOLDOVER ∨ s.get Obj.TIMEBASE_STATE = tbHOLDOVER) :
    (s.enterTimebase v).get Obj.TIMEBASE_FREQ_ADJ = s.get Obj.TIMEBASE_FREQ_ADJ := by
  have hk : eventObjs Obj.TIMEBASE_FREQ_ADJ = false := by decide
  by_cases hs : s.get Obj.TIMEBASE_STATE = v
  · rw [State.enterTimebase_of_same hs]
  · have hv : v ≠ tbHOLDOVER := by
      rintro rfl
      exact h.elim (fun h => h rfl) hs
    simp [State.get_enterTimebase_other w hs hv hk]

/-- A change to another state than HOLDOVER makes one occurrence of E-1001. -/
theorem Occurred.enterTimebase (hc : s.Canonical) {v : Nat} (h : s.get Obj.TIMEBASE_STATE ≠ v) (hv : v ≠ tbHOLDOVER) :
    Occurred s (s.enterTimebase v) 0x1001 uMGMT (packArg [(16, s.get Obj.TIMEBASE_STATE), (16, v)]) := by
  have hset : Within (keysOf [Obj.TIMEBASE_STATE]) noKey [] s (s.set Obj.TIMEBASE_STATE v) := (Within.refl s).set
  have hraise := Occurred.raise (hset.objsWf hc.1) (code := 0x1001) uMGMT (packArg [(16, s.get Obj.TIMEBASE_STATE), (16, v)]) uMGMT
    (by decide) (by decide)
  refine hraise.between (.of hset hc) ?_ (by decide)
  rw [State.enterTimebase_other h hv]
  dsimp only
  split
  · exact ⟨rfl, fun _ _ => rfl⟩
  · exact ⟨rfl, fun _ _ => rfl⟩

/-! ### The servo owner's writes -/

theorem State.enterTimebase_sec (s : State) (v : Nat) : (s.enterTimebase v).sec = s.sec := by
  have hc (u : State) (v : Nat) : (u.changeTimebase v).sec = u.sec := State.raise_same _ (by decide) (by decide) _ _ _ (p := .sec) (by decide)
  by_cases hs : s.get Obj.TIMEBASE_STATE = v
  · rw [State.enterTimebase_of_same hs]
  by_cases hv : v = tbHOLDOVER
  · subst hv
    rw [State.enterTimebase_holdover hs]
    exact (State.raise_same _ (by decide) (by decide) _ _ _ (p := .sec) (by decide)).trans (hc s _)
  · rw [State.enterTimebase_other hs hv]
    dsimp only
    split <;> exact hc s v

theorem State.asServo_owner {m : Nat} (h : m = s.get Obj.TIMEBASE_SERVO_OWNER) (rule : State → Res) : s.asServo m rule = rule s := if_pos h

theorem State.asServo_other {m : Nat} (h : m ≠ s.get Obj.TIMEBASE_SERVO_OWNER) (rule : State → Res) : s.asServo m rule = (.denied, s) :=
  if_neg h

theorem exec_stateReq (hf : s.sec.fusing = none) {m v : Nat} (ha : s.Accepts m Obj.TIMEBASE_STATE_REQ v)
    (hm : m = s.get Obj.TIMEBASE_SERVO_OWNER) :
    exec (.stateReq m v) s = .next ((s.enterTimebase v).applied m Obj.TIMEBASE_STATE_REQ) :=
  State.rowWrite_applied ha (State.asServo_owner hm _) (by rw [State.enterTimebase_sec, hf]) (by decide)

/-! ### A tick with a step -/

/-- One tick at no adjustment is one ns. -/
theorem advanced_one {ns frac : Nat} (hf : frac < 2 ^ 32) (hw : ns + 1 < taiWrap) : advanced 0 1 ns frac = (ns + 1, frac) := by
  have htotal : (((ns * 2 ^ 32 + frac : Nat) : Int) + (1 : Nat) * (2 ^ 32 + 0)).toNat = (ns + 1) * 2 ^ 32 + frac := by omega
  unfold advanced
  dsimp only
  rw [htotal]
  refine Prod.ext ?_ ?_
  · dsimp only
    rw [show ((ns + 1) * 2 ^ 32 + frac) / 2 ^ 32 = ns + 1 by omega, Nat.mod_eq_of_lt hw]
  · dsimp only
    omega

/-- The marks on the lanes' records are in the DOMAIN entries: of the objects SUSPECT alone changes. -/
theorem State.suspectBins_objs (s : State) :
    s.suspectBins.objs = (s.set Obj.PERF_BIN_CLOCK_SUSPECT 3).objs ∧ s.suspectBins.time = s.time := by
  have hmark (u : State) (e : Nat) : (if Fld.PMH_VALID.get (u.dom Dom.PM_HISTORY e) = 1 then
      u.setField Dom.PM_HISTORY e Fld.PMH_SUSPECT 1 else u).objs = u.objs ∧ (if Fld.PMH_VALID.get (u.dom Dom.PM_HISTORY e) = 1 then
      u.setField Dom.PM_HISTORY e Fld.PMH_SUSPECT 1 else u).time = u.time := by
    split <;> exact ⟨rfl, rfl⟩
  unfold State.suspectBins
  generalize List.range 160 = l
  have hset : (s.set Obj.PERF_BIN_CLOCK_SUSPECT 3).time = s.time := rfl
  rw [← hset]
  generalize s.set Obj.PERF_BIN_CLOCK_SUSPECT 3 = u
  unfold forEach
  induction l generalizing u with
  | nil => exact ⟨rfl, rfl⟩
  | cons n l ih =>
    obtain ⟨ho, ht⟩ := ih _
    obtain ⟨ho₁, ht₁⟩ := hmark u (35 * n)
    obtain ⟨ho₂, ht₂⟩ := hmark (if Fld.PMH_VALID.get (u.dom Dom.PM_HISTORY (35 * n)) = 1 then
      u.setField Dom.PM_HISTORY (35 * n) Fld.PMH_SUSPECT 1 else u) (35 * n + 33)
    exact ⟨ho.trans (ho₂.trans ho₁), ht.trans (ht₂.trans ht₁)⟩

/-- A positive step, before its event. -/
def State.stepped (s : State) (d : Int) : State :=
  let new := (((s.time.tai : Int) + d) % (taiWrap : Int)).toNat
  let u := s.bumpW 32 Obj.AIR_EVENT_CTRL_SKIPPED (s.skippedIn s.time.tai new)
  let u := u.withTime { u.time with
    tai := new, before := new - 1, fifo := u.time.fifo.filter fun a => Nat.blt a.due (min s.time.tai new), nextDue := new, nextEntry := 0 }
  (u.bumpW 32 Obj.TIMEBASE_STEP_COUNT).suspectBins

theorem State.applyStep_of_pos {d : Int} (h : 0 < d) : s.applyStep d = (s.stepped d).raise 0x1101 uMGMT 0 := by
  have hd : d ≠ 0 := by omega
  simp only [State.applyStep, h, hd, if_true, if_false]
  rfl

theorem State.stepped_time (s : State) (d : Int) :
    (s.stepped d).time.steps = s.time.steps ∧ (s.stepped d).time.tai = (((s.time.tai : Int) + d) % (taiWrap : Int)).toNat := by
  unfold State.stepped
  dsimp only
  rw [(State.suspectBins_objs _).2]
  exact ⟨rfl, rfl⟩

theorem State.get_suspectBins (w : s.objsWf) (k : Nat) :
    s.suspectBins.get k = if k = Obj.PERF_BIN_CLOCK_SUSPECT then 3 else s.get k := by
  rw [State.get, (State.suspectBins_objs s).1]
  exact State.get_set w _ _ k

theorem State.stepped_wf (w : s.objsWf) (d : Int) : (s.stepped d).objsWf :=
  State.objsWf_of_objs (State.objsWf_set (State.objsWf_bumpW (State.objsWf_bumpW w _ _ _) _ _ _) _ _) (State.suspectBins_objs _).1

theorem State.get_stepped (w : s.objsWf) (d : Int) {k : Nat} (hk : k ≠ Obj.AIR_EVENT_CTRL_SKIPPED) :
    (s.stepped d).get k = if k = Obj.PERF_BIN_CLOCK_SUSPECT then 3
      else if k = Obj.TIMEBASE_STEP_COUNT then wrapAdd 32 (s.get Obj.TIMEBASE_STEP_COUNT) 1 else s.get k := by
  have hcount : Obj.TIMEBASE_STEP_COUNT ≠ Obj.AIR_EVENT_CTRL_SKIPPED := by decide
  have w₁ {n : Nat} {x : TimeState} : ((s.bumpW 32 Obj.AIR_EVENT_CTRL_SKIPPED n).withTime x).objsWf := State.objsWf_bumpW w _ _ _
  unfold State.stepped
  rw [State.get_suspectBins (State.objsWf_bumpW w₁ _ _ _), State.get_bumpW w₁, State.get_withTime, State.get_withTime,
    State.get_bumpW_ne w hk, State.get_bumpW_ne w hcount]

/-- What a tick does after the steps leaves the objects, the timebase and its steps alone. -/
theorem State.tickShadow_kept (s : State) : s.tickShadow.objs = s.objs ∧ s.tickShadow.time.steps = s.time.steps ∧
    s.tickShadow.time.tai = s.time.tai := by
  have herror : s.oscError.2.objs = s.objs ∧ s.oscError.2.time = s.time := by
    unfold State.oscError
    split <;> exact ⟨rfl, rfl⟩
  unfold State.tickShadow
  split
  · have hsteps : s.oscError.2.time.steps = s.time.steps := by rw [herror.2]
    have htai : s.oscError.2.time.tai = s.time.tai := by rw [herror.2]
    exact ⟨herror.1, hsteps, htai⟩
  · exact ⟨rfl, rfl, rfl⟩

theorem State.tickPps_kept (s : State) : s.tickPps.objs = s.objs ∧ s.tickPps.time.steps = s.time.steps ∧
    s.tickPps.time.tai = s.time.tai := by
  unfold State.tickPps
  split
  · rw [State.emit_objs, State.emit_time]
    exact ⟨rfl, rfl, rfl⟩
  · exact ⟨rfl, rfl, rfl⟩

/-- The state of a running timebase one ns on, its steps taken out. -/
def State.nextNs (s : State) : State :=
  s.withTime { s.time with now := s.time.now + 1, before := s.time.tai, tai := s.time.tai + 1, steps := [] }

theorem State.tick_of_step (hon : s.CoreOn) (hr : s.time.reload = false) (hf : s.time.frac < 2 ^ 32) {d : Int} (hs : s.time.steps = [d])
    (hd : 0 < d) (ha : s.get Obj.TIMEBASE_FREQ_ADJ = 0) (hw : s.time.tai + 1 < taiWrap) :
    s.tick = (((s.nextNs.stepped d).raise 0x1101 uMGMT 0).tickShadow).tickPps := by
  have hadj : signed 32 (s.get Obj.TIMEBASE_FREQ_ADJ) = 0 := by rw [ha]; decide
  have htai : (s.withTime { s.time with now := s.time.now + 1 }).tickTai =
      s.withTime { s.time with now := s.time.now + 1, before := s.time.tai, tai := s.time.tai + 1 } := by
    have hoff : ¬ ((s.withTime { s.time with now := s.time.now + 1 }).coreOff = true ∨ s.time.reload = true) := by
      rintro (h | h)
      · exact Bool.false_ne_true (hon.symm.trans h)
      · exact Bool.false_ne_true (hr.symm.trans h)
    refine (if_neg hoff).trans ?_
    simp only [State.get_withTime, hadj, State.withTime_time, advanced_one hf hw]
    rfl
  have hsteps : (s.withTime { s.time with now := s.time.now + 1, before := s.time.tai, tai := s.time.tai + 1 }).tickSteps =
      s.nextNs.applyStep d := by
    simp only [State.tickSteps, State.withTime_time, hs, List.cons_ne_self, if_false]
    rfl
  rw [State.tick, htai, hsteps, State.applyStep_of_pos hd]

/-- Settles O6: the servo owner's rules change what they name, and a tick carries out the one step that waits. -/
theorem servoCommandsSteerTimebase : Obligations.ServoCommandsSteerTimebase := by
  unfold Obligations.ServoCommandsSteerTimebase
  refine ⟨?state, ?adjust, ?step, ?tick, ?otherState, ?otherAdjust, ?otherStep⟩
  case state =>
    intro s m v hc ha hm hf
    refine ⟨_, exec_stateReq hf ha hm, ?_, State.answered_applied _ _ _, ?_, ?_, ?_, ?_⟩
    · rw [State.get_applied, State.get_state_enterTimebase hc.1]
    · rintro rfl hs
      rw [State.get_applied, State.get_enterTimebase_holdover hc.1 hs (by decide), if_pos rfl]
    · intro h
      rw [State.get_applied, State.get_freqAdj_enterTimebase hc.1 h]
    · intro hv hs
      exact (Occurred.enterTimebase hc hs hv).between (.refl s) ⟨by simp, fun _ _ => by simp⟩ (by decide)
    · exact ((Within.refl s).enterTimebase.applied).frame hc
  case adjust =>
    intro s m v hc ha hm hs hf
    have hrule : ruleFreqAdj m v s = (.ok, (s.set Obj.TIMEBASE_FREQ_ADJ v).withTime
        { s.time with adjustments := (signed 32 v :: s.time.adjustments).take 64 }) :=
      (State.asServo_owner hm _).trans (if_neg hs)
    refine ⟨_, State.rowWrite_applied ha hrule hf (by decide), ?_, by simp, State.answered_applied _ _ _, ?_⟩
    · rw [State.get_applied, State.get_withTime, State.get_set_self hc.1]
    · exact ((Within.refl s).set.withTime.applied).frame hc
  case step =>
    intro s m v hc ha hm hf
    exact ⟨_, State.rowWrite_applied ha (State.asServo_owner hm _) hf (by decide), by simp, State.answered_applied _ _ _,
      ((Within.refl s).withTime.applied).frame hc⟩
  case tick =>
    intro s d hc hon hr hf hs hd ha hw
    have hwf : s.nextNs.objsWf := hc.1
    have hget {k : Nat} (hk : eventObjs k = false) : s.tick.get k = (s.nextNs.stepped d).get k := by
      rw [State.tick_of_step hon hr hf hs hd ha hw, State.get, (State.tickPps_kept _).1, (State.tickShadow_kept _).1]
      exact State.get_raise (State.stepped_wf hwf d) (by decide) (by decide) hk
    have htime : s.tick.time.steps = s.nextNs.time.steps ∧
        s.tick.time.tai = (((s.nextNs.time.tai : Int) + d) % (taiWrap : Int)).toNat := by
      rw [State.tick_of_step hon hr hf hs hd ha hw, (State.tickPps_kept _).2.1, (State.tickShadow_kept _).2.1,
        (State.tickPps_kept _).2.2, (State.tickShadow_kept _).2.2, State.raise_time _ (by decide) (by decide)]
      exact State.stepped_time _ d
    refine ⟨htime.1, htime.2, ?_, ?_, ?_⟩
    · rw [hget (by decide), State.get_stepped hwf d (by decide)]
      rfl
    · rw [hget (by decide), State.get_stepped hwf d (by decide)]
      rfl
    · have hcount := (Occurred.raise (State.stepped_wf hwf d) (code := 0x1101) uMGMT 0 uMGMT (by decide) (by decide)).1
      rw [State.tick_of_step hon hr hf hs hd ha hw, State.get, (State.tickPps_kept _).1, (State.tickShadow_kept _).1]
      refine hcount.trans ?_
      rw [State.get_stepped hwf d (by decide)]
      rfl
  case otherState =>
    intro s m v hc ha hm hf
    exact State.rowWrite_refused hc ha hf (by decide) (State.asServo_other hm _)
  case otherAdjust =>
    intro s m v hc ha hm hf
    exact State.rowWrite_refused hc ha hf (by decide) (State.asServo_other hm _)
  case otherStep =>
    intro s m v hc ha hm hf
    exact State.rowWrite_refused hc ha hf (by decide) (State.asServo_other hm _)

end Sys2Proof.Machine
end

section
/-! PROOFS. Family 01_air_time: holdover, realignment, reload, the D2D time word and the timing pins (R21, R24, R26, R28, R46). -/

set_option Elab.async false

namespace Sys2Proof.Machine

variable {s t : State}

theorem State.freeze_time (s : State) : s.freeze.time = { s.time with holdoverAt := s.time.now } := rfl

/-- A change of state leaves the timebase and its reload alone. -/
theorem State.enterTimebase_tai (s : State) (v : Nat) :
    (s.enterTimebase v).time.tai = s.time.tai ∧ (s.enterTimebase v).time.reload = s.time.reload := by
  by_cases hs : s.get Obj.TIMEBASE_STATE = v
  · rw [State.enterTimebase_of_same hs]
    exact ⟨rfl, rfl⟩
  by_cases hv : v = tbHOLDOVER
  · subst hv
    rw [State.enterTimebase_holdover hs, State.raise_time _ (by decide) (by decide), State.freeze_time, State.changeTimebase_time]
    exact ⟨rfl, rfl⟩
  · rw [State.enterTimebase_other hs hv]
    dsimp only
    split
    · rw [State.withTime_time, State.changeTimebase_time]
      exact ⟨rfl, rfl⟩
    · rw [State.changeTimebase_time]
      exact ⟨rfl, rfl⟩

/-- The timebase taken over from the shadow counter. -/
def State.reloaded (s : State) : State :=
  s.withTime { s.time with
    tai := s.time.shadow, frac := s.time.shadowFrac, before := s.time.shadowBefore, reload := false
    nextDue := s.time.shadow, nextEntry := 0 }

theorem exec_timebaseLoad (h : s.CoreOn) (hr : s.time.reload = true) (hs : s.time.shadowBefore / nsPerS < s.time.shadow / nsPerS) :
    exec .timebaseLoad s =
      .next (if s.get Obj.TIMEBASE_STATE = tbFREERUN then s.reloaded else s.reloaded.enterTimebase tbHOLDOVER) :=
  congrArg Host.Outcome.next (if_pos ⟨h, hr, hs⟩)

/-- Settles O7: each command is one update of the time, of an object or of both. -/
theorem timebaseFollowsClocksAndPins : Obligations.TimebaseFollowsClocksAndPins := by
  unfold Obligations.TimebaseFollowsClocksAndPins
  refine ⟨?auto, ?realign, ?load, ?word, ?missed, ?ppsOut, ?ppsIn, ?tod, ?discard⟩
  case auto =>
    intro s n hc hfw hs ht
    have hne : s.get Obj.TIMEBASE_STATE ≠ tbHOLDOVER := by rw [hs]; decide
    refine ⟨_, congrArg Host.Outcome.next (if_pos ⟨hfw, hs, ht⟩), State.get_state_enterTimebase hc.1 _, ?_,
      (Within.refl s).enterTimebase.frame hc⟩
    rw [State.get_enterTimebase_holdover hc.1 hne (by decide), if_pos rfl]
  case realign =>
    intro s hon hr hsec
    have hgo : ¬ (s.coreOff = true ∨ s.time.reload = true ∨ s.reached (s.time.tai / nsPerS * nsPerS : Nat) = false) := by
      rw [hr, hsec, show s.coreOff = false from hon]
      decide
    exact ⟨_, congrArg Host.Outcome.next (if_neg hgo), rfl, rfl, rfl, (Touches.refl s).withTime.frame⟩
  case load =>
    intro s hc hon hr hs
    refine ⟨_, exec_timebaseLoad hon hr hs, ?_, ?_, ?_, ?_⟩
    · split
      · rfl
      · exact (State.enterTimebase_tai _ _).1
    · split
      · rfl
      · exact (State.enterTimebase_tai _ _).2
    · split
      · assumption
      · exact State.get_state_enterTimebase (s := s.reloaded) hc.1 _
    · exact (Within.ite (Within.refl s).withTime (Within.refl s).withTime.enterTimebase).frame hc
  case word =>
    intro s hon hup
    have hrun : execTimeSyncWord s = .next (s.withTime { s.time with replicaSkew := 0, missed := 0 }) := by
      rw [execTimeSyncWord, State.inCore_on hon, if_neg (by simp [hup])]
    exact ⟨_, hrun, rfl, rfl, (Touches.refl s).withTime.frame⟩
  case missed =>
    intro s hc hon
    refine ⟨_, (State.inCore_on hon _ : execTimeWordMissed s = _), ?_, ?_, ?_, ?_, (Within.refl s).fresh.withTime.raise.frame hc⟩
    · exact congrArg TimeState.replicaSkew (State.raise_time _ (by decide) (by decide) _ _ _)
    · exact congrArg TimeState.missed (State.raise_time _ (by decide) (by decide) _ _ _)
    · exact State.raise_same _ (by decide) (by decide) _ _ _ (p := .free) (by decide)
    · exact (Occurred.raise hc.1 (code := 0x1104) uMGMT 0 uMGMT (by decide) (by decide)).between ⟨rfl, rfl, rfl, fun _ _ => rfl⟩
        ⟨rfl, fun _ _ => rfl⟩ (by decide)
  case ppsOut =>
    intro s hon hr hext hlow hedge
    have hrun : execPpsOut s =
        .next ((s.withTime { s.time with ppsHigh := true, ppsRise := s.time.now }).emit (.pin .ppsOut true)) := by
      have hoff : s.coreOff = false := hon
      simp only [execPpsOut, hoff, hr, hedge, hlow, Bool.false_eq_true, Bool.true_eq_false, or_self, if_false]
    refine ⟨_, hrun, by simp, by simp, ?_, (Touches.refl s).withTime.emit.frame⟩
    simp [State.emit, hext]
  case ppsIn =>
    intro s hc hon
    have hoff : s.coreOff = false := hon
    exact ⟨_, congrArg Host.Outcome.next (if_neg (by simp [hoff])), State.get_set_self hc.1 _ _, ((Within.refl s).set).frame hc⟩
  case tod =>
    intro s b hon
    have hoff : s.coreOff = false := hon
    exact ⟨_, congrArg Host.Outcome.next (if_neg (by simp [hoff])), rfl, (Touches.refl s).withTime.frame⟩
  case discard =>
    intro s b hc hon
    have hoff : s.coreOff = false := hon
    exact ⟨_, congrArg Host.Outcome.next (if_neg (by simp [hoff])), State.get_bumpW_self hc.1 _ _ _, ((Within.refl s).bumpW).frame hc⟩

end Sys2Proof.Machine
end

section
/-! PROOFS. Family 01_air_time: the dispatcher and its actions (R33, R36 to R43, R329, R330). -/

set_option Elab.async false

namespace Sys2Proof.Machine

variable {s t : State}

theorem State.get_of_on {k : Nat} (h : s.on k = true) : s.get k = 1 := Nat.eq_of_beq_eq_true h

theorem State.get_of_not_on {k : Nat} (h : s.on k = false) : s.get k ≠ 1 := Nat.ne_of_beq_eq_false h

/-- An action taken from the front of the FIFO. -/
def State.fired (s : State) (a : AirAction) (l : List AirAction) : State :=
  (s.withTime { s.time with fifo := l }).set Obj.AIR_EVENT_CTRL_LAST_FIRED a.entry

theorem State.fire_front {a : AirAction} {l : List AirAction} {n : Nat} (hl : s.time.fifo = a :: l) (ha : a.action = n)
    (hd : a.due ≤ s.time.tai) (hon : s.CoreOn) (he : s.on Obj.AIR_EVENT_CTRL_DISPATCH_ENABLE = true) :
    s.fire n = (some a, s.fired a l) := by
  have hoff : s.coreOff = false := hon
  have hen : s.get Obj.AIR_EVENT_CTRL_DISPATCH_ENABLE ≠ 0 := by simp [State.get_of_on he]
  simp [State.fire, hl, ha, hd, hoff, hen]
  rfl

section
variable {objs doms : Nat → Bool} {parts : List Part} {s₀ : State}

theorem Within.fired {a : AirAction} {l : List AirAction} (h : Within objs doms parts s₀ s)
    (hk : objs Obj.AIR_EVENT_CTRL_LAST_FIRED = true := by simp [keysOf, keysAndEvents]) (hp : Part.time ∈ parts := by decide) :
    Within objs doms parts s₀ (s.fired a l) :=
  (h.withTime hp).set hk

end

theorem State.fired_wf (w : s.objsWf) (a : AirAction) (l : List AirAction) : (s.fired a l).objsWf := State.objsWf_set w _ _

theorem State.get_fired (w : s.objsWf) (a : AirAction) (l : List AirAction) (k : Nat) :
    (s.fired a l).get k = if k = Obj.AIR_EVENT_CTRL_LAST_FIRED then a.entry else s.get k := State.get_set w _ _ k

theorem State.get_lastFired (w : s.objsWf) (a : AirAction) (l : List AirAction) :
    (s.fired a l).get Obj.AIR_EVENT_CTRL_LAST_FIRED = a.entry := (State.get_fired w a l _).trans (if_pos rfl)

/-- Nothing that an occurrence is measured by changes as an action fires. -/
theorem SameEvents.fired (hc : s.Canonical) (a : AirAction) (l : List AirAction) : SameEvents s (s.fired a l) := by
  refine ⟨rfl, rfl, rfl, fun k hk => (State.get_fired hc.1 a l k).trans (if_neg ?_)⟩
  rintro rfl
  exact absurd hk (by decide)

/-- HOST_EVENT's occurrence. -/
def State.hostEvent (s : State) (a : AirAction) (l : List AirAction) : State :=
  (s.fired a l).raise 0x1002 uMGMT (packArg [(16, a.entry)])

theorem exec_hostEvent {a : AirAction} {l : List AirAction} (hl : s.time.fifo = a :: l) (ha : a.action = 7) (hd : a.due ≤ s.time.tai)
    (hon : s.CoreOn) (he : s.on Obj.AIR_EVENT_CTRL_DISPATCH_ENABLE = true) :
    exec .hostEvent s = .next (if a.arg.testBit 15 then (s.hostEvent a l).signal 0 (a.arg % 1024) else s.hostEvent a l) := by
  change execHostEvent s = _
  rw [execHostEvent, State.fire_front hl ha hd hon he]
  rfl

theorem State.hostEvent_time (s : State) (a : AirAction) (l : List AirAction) : (s.hostEvent a l).time.fifo = l := by
  rw [State.hostEvent, State.raise_time _ (by decide) (by decide)]
  rfl

theorem State.get_hostEvent (hc : s.Canonical) (a : AirAction) (l : List AirAction) :
    (s.hostEvent a l).get Obj.AIR_EVENT_CTRL_LAST_FIRED = a.entry :=
  (State.get_raise (State.fired_wf hc.1 a l) (by decide) (by decide) (by decide)).trans (State.get_lastFired hc.1 a l)

theorem Occurred.hostEvent (hc : s.Canonical) (a : AirAction) (l : List AirAction) :
    Occurred s (s.hostEvent a l) 0x1002 uMGMT (packArg [(16, a.entry)]) :=
  (Occurred.raise (State.fired_wf hc.1 a l) _ _ _ (by decide) (by decide)).between (.fired hc a l) ⟨rfl, fun _ _ => rfl⟩ (by decide)

/-- An MSI-X message that nothing masks leaves the device. -/
theorem State.signal_of_unmasked {fn vec : Nat} (hf : s.msix.fnMasked.contains fn = false)
    (hv : s.msix.unmasked.contains (vecKey fn vec) = true) : s.signal fn vec = s.emit (.msix fn vec) := by
  simp only [State.signal, hf, hv, Bool.not_true, Bool.or_self, Bool.false_eq_true, if_false]

/-- What HOST_EVENT raises leaves every part but the records and the time alone. -/
theorem State.hostEvent_same (s : State) (a : AirAction) (l : List AirAction) {p : Part} (hp : p ≠ .ev) (ht : p ≠ .time) :
    p.same s (s.hostEvent a l) := by
  have hfired : p.same s (s.fired a l) := by cases p <;> first | rfl | exact absurd rfl ht
  exact Part.same_trans hfired (State.raise_same _ (by decide) (by decide) _ _ _ hp)

/-! ### PAGE_SWITCH -/

theorem exec_pageSwitch {a : AirAction} {l : List AirAction} (hl : s.time.fifo = a :: l) (ha : a.action = 2) (hd : a.due ≤ s.time.tai)
    (hon : s.CoreOn) (he : s.on Obj.AIR_EVENT_CTRL_DISPATCH_ENABLE = true) :
    exec .pageSwitch s = .next ((s.fired a l).requestPage (a.target % 16)) := by
  change execPageSwitch s = _
  rw [execPageSwitch, State.fire_front hl ha hd hon he]

theorem State.requestPage_off {k : Nat} (h : s.on (Obj.SCHED_LANE_SL_ENABLE k) = false) : s.requestPage k = s := if_pos h

theorem State.requestPage_on {k : Nat} (h : s.on (Obj.SCHED_LANE_SL_ENABLE k) = true) :
    s.requestPage k = if s.fab.switching.contains k then s.bump (Obj.SCHED_LANE_SWITCH_MERGED k)
      else s.withFab { s.fab with switching := k :: s.fab.switching } :=
  if_neg (by simp [h])

theorem slEnable_ne_lastFired (n : Nat) : Obj.SCHED_LANE_SL_ENABLE n ≠ Obj.AIR_EVENT_CTRL_LAST_FIRED := by
  simp only [Obj.SCHED_LANE_SL_ENABLE, Obj.AIR_EVENT_CTRL_LAST_FIRED, objKey]
  omega

theorem switchMerged_ne_lastFired (n : Nat) : Obj.SCHED_LANE_SWITCH_MERGED n ≠ Obj.AIR_EVENT_CTRL_LAST_FIRED := by
  simp only [Obj.SCHED_LANE_SWITCH_MERGED, Obj.AIR_EVENT_CTRL_LAST_FIRED, objKey]
  omega

/-- The service of a lane stands as an action fires. -/
theorem State.on_fired_slEnable (w : s.objsWf) (a : AirAction) (l : List AirAction) (n : Nat) :
    (s.fired a l).on (Obj.SCHED_LANE_SL_ENABLE n) = s.on (Obj.SCHED_LANE_SL_ENABLE n) := by
  rw [State.on, State.get_fired w, if_neg (slEnable_ne_lastFired n), State.on]

/-- Settles O8: DISPATCH moves the search on, and each action is what its command does once it is taken from the front of the FIFO. -/
theorem dispatcherIssuesAndActionsFire : Obligations.DispatcherIssuesAndActionsFire := by
  unfold Obligations.DispatcherIssuesAndActionsFire
  refine ⟨?enable, ?dispatch, ?nop, ?event, ?message, ?page, ?merged, ?idle⟩
  case enable =>
    intro s c m v hc ha hf
    have hkey : Obj.AIR_CLOCK_ENABLE c % 0x1000000 ≠ 0x111007 := by
      simp only [Obj.AIR_CLOCK_ENABLE, objKey]
      omega
    refine ⟨_, State.rowWrite_applied ha rfl (by simpa using hf) hkey, ?_, ?_, State.answered_applied _ _ _, ?_⟩
    · rw [State.get_applied, State.get_withTime, State.get_commit_self hc.1]
    · simp [State.timeNow, State.inIsland]
    · exact ((Within.refl s).commit.withTime.applied).frame hc
  case dispatch =>
    intro s a hon hnext hdue hissued
    have hrun : execDispatch s = .next (s.withTime { s.time with
        fifo := s.time.fifo ++ [a], nextDue := a.due, nextEntry := a.entry + 1, issuedAt := some s.time.now }) := by
      have hoff : s.coreOff = false := hon
      simp only [execDispatch, hoff, hnext, Bool.false_eq_true, if_false]
      rw [if_pos ⟨hdue, hissued⟩]
    exact ⟨_, hrun, rfl, rfl, rfl, rfl, (Touches.refl s).withTime.frame⟩
  case nop =>
    intro s a l hc hl ha hd hon he
    have hrun : execAirNop s = .next (s.fired a l) := by rw [execAirNop, State.fire_front hl ha hd hon he]
    exact ⟨_, hrun, rfl, State.get_lastFired hc.1 a l, (Within.refl s).fired.frame hc⟩
  case event =>
    intro s a l hc hl ha hd hon he hbit
    have hrun : exec .hostEvent s = .next (s.hostEvent a l) := by
      rw [exec_hostEvent hl ha hd hon he, hbit]
      rfl
    exact ⟨_, hrun, State.hostEvent_time s a l, State.get_hostEvent hc a l,
      Occurred.hostEvent hc a l, ((Within.refl s).fired.raise).frame hc⟩
  case message =>
    intro s a l hc hl ha hd hon he hbit hext hmask hvec
    have hmsix : (s.hostEvent a l).msix = s.msix := s.hostEvent_same a l (p := .msix) (by decide) (by decide)
    have hsec : (s.hostEvent a l).sec = s.sec := s.hostEvent_same a l (p := .sec) (by decide) (by decide)
    have hsent : (s.hostEvent a l).sent = s.sent := s.hostEvent_same a l (p := .sent) (by decide) (by decide)
    have hsignal : (s.hostEvent a l).signal 0 (a.arg % 1024) = (s.hostEvent a l).emit (.msix 0 (a.arg % 1024)) :=
      State.signal_of_unmasked (by rwa [hmsix]) (by rwa [hmsix])
    have hrun : exec .hostEvent s = .next ((s.hostEvent a l).emit (.msix 0 (a.arg % 1024))) := by
      rw [exec_hostEvent hl ha hd hon he, if_pos hbit, hsignal]
    have hwithin : Within (keysAndEvents [Obj.AIR_EVENT_CTRL_LAST_FIRED]) noKey (.time :: .sent :: eventParts) s (s.hostEvent a l) :=
      (Within.refl s).fired.raise
    refine ⟨_, hrun, ?_, ?_, ?_, ?_, hwithin.emit.frame hc⟩
    · rw [State.emit_time, State.hostEvent_time]
    · rw [State.get_emit, State.get_hostEvent hc]
    · exact (Occurred.hostEvent hc a l).between (.refl s) ⟨by simp, fun _ _ => by simp⟩ (by decide)
    · simp [State.emit, hsec, hext, hsent]
  case page =>
    intro s a l hc hl ha hd hon he hlt hsl hsw
    have hrun := exec_pageSwitch hl ha hd hon he
    have hon' : (s.fired a l).on (Obj.SCHED_LANE_SL_ENABLE a.target) = true := by
      rw [State.on_fired_slEnable hc.1, hsl]
    rw [Nat.mod_eq_of_lt hlt, State.requestPage_on hon', show (s.fired a l).fab.switching = s.fab.switching from rfl, hsw] at hrun
    exact ⟨_, hrun, rfl, State.get_lastFired hc.1 a l, rfl, (Within.refl s).fired.withFab.frame hc⟩
  case merged =>
    intro s a l hc hl ha hd hon he hlt hsl hsw
    have hrun := exec_pageSwitch hl ha hd hon he
    have hon' : (s.fired a l).on (Obj.SCHED_LANE_SL_ENABLE a.target) = true := by
      rw [State.on_fired_slEnable hc.1, hsl]
    rw [Nat.mod_eq_of_lt hlt, State.requestPage_on hon', show (s.fired a l).fab.switching = s.fab.switching from rfl, hsw] at hrun
    refine ⟨_, hrun, rfl, ?_, (Within.refl s).fired.bump.frame hc⟩
    rw [if_pos rfl, State.get_bump_self (State.fired_wf hc.1 a l), State.get_fired hc.1, if_neg (switchMerged_ne_lastFired _)]
  case idle =>
    intro s a l hc hl ha hd hon he hlt hsl
    have hrun := exec_pageSwitch hl ha hd hon he
    have hoff : (s.fired a l).on (Obj.SCHED_LANE_SL_ENABLE a.target) = false := by
      rw [State.on_fired_slEnable hc.1, hsl]
    rw [Nat.mod_eq_of_lt hlt, State.requestPage_off hoff] at hrun
    exact ⟨_, hrun, rfl, State.get_lastFired hc.1 a l, (Within.refl s).fired.frame hc⟩

end Sys2Proof.Machine
end

section
/-! PROOFS. Family 22_package_supplies_clocks: supplies, clocks and heat (R572, R573, R577, R578, R580 to R582). -/

set_option Elab.async false

namespace Sys2Proof.Machine

variable {s t : State}

/-- A command of the core that finds it powered. -/
theorem State.inCore_run (h : s.CoreOn) {f : State → State} (hf : f s = t) : s.inCore f = .next t := hf ▸ State.inCore_on h f

/-! ### Reference clocks -/

/-- A reference that is lost: its status bit is clear and the loss is counted. -/
def State.refDown (s : State) (r : Nat) : State :=
  (s.set Obj.CLOCKS_REF_STATUS (setBits (s.get Obj.CLOCKS_REF_STATUS) r 1 0)).bump Obj.CLOCKS_REF_LOSSES

/-- What follows the loss of a reference. -/
def State.refLostNext (s : State) : Nat → State
  | 0 => (s.setLocks coreDomains false).raise 0x1321 uAON 0
  | 3 => if s.coreOff then s else s.pcieDown
  | 4 => (s.set Obj.CLOCKS_AON_OSC 1).raise 0x1115 uAON 0
  | _ => s.raise 0x1115 uAON 0

theorem execRefLost_present {r : Fin 5} (h : s.refPresent r = true) : execRefLost r s = .next ((s.refDown r).refLostNext r) := by
  rw [execRefLost, if_neg (by simp [h])]
  fin_cases r <;> rfl

theorem execRefRestored_absent {r : Fin 5} (h : s.refPresent r = false) (h0 : r.val ≠ 0) (h4 : r.val ≠ 4) :
    execRefRestored r s = .next ((s.set Obj.CLOCKS_REF_STATUS (setBits (s.get Obj.CLOCKS_REF_STATUS) r 1 1)).setLocks
      ((List.range 18).filter fun d => domainRef d = some r.val) true) := by
  rw [execRefRestored, if_neg (by simp [h])]
  split
  · exact absurd ‹_› h0
  · exact absurd ‹_› h4
  · rfl

theorem execPllUnlock_held {d : Fin 18} {r : Nat} (hd : domainRef d = some r) (hr : s.refPresent r = true)
    (hl : (s.get Obj.CLOCKS_PLL_LOCK).testBit d = true) :
    execPllUnlock d s = .next (if r = 0 then (s.setLocks [d.val] false).raise 0x1321 uAON 0 else s.setLocks [d.val] false) := by
  simp [execPllUnlock, hd, hr, hl]

/-! ### Temperatures -/

/-- The state after a thermal sample is stored and the hottest of each die shown. -/
def State.sampled (s : State) (x y : List Int) : State :=
  ((forEach ((y.take 4).zip (List.range 4)) (forEach ((x.take 19).zip (List.range 19)) s fun s x => s.set (sensorKey x.2) (unsigned 32 x.1))
    fun s x => s.setStackTemp x.2 x.1).showTemp 0).showTemp 1

/-- The sensors at 110 degrees C or more. -/
def State.hotSensors (s : State) : List Nat := (List.range 19).filter fun i => decide (110 ≤ s.sensor i)

/-- What a stored sample makes of the device: a sensor hot twice, or a stack too hot, stops it. -/
def State.judgeHeat (s : State) (twice stack : Option Nat) : State :=
  match twice, stack with
  | some i, _ => s.thermalStop (sensorUnit i)
  | none, some k => s.thermalStop (uStack k)
  | none, none => s

theorem State.on_withThermal (s : State) (r : ThermalState) (k : Nat) : (s.withThermal r).on k = s.on k := rfl

theorem State.stackTemp_withThermal (s : State) (r : ThermalState) : (s.withThermal r).stackTemp = s.stackTemp := rfl

theorem execThermalSample_judged {x y : List Int} (hc : s.CoreOn) {w : State} (hw : w = s.sampled x y)
    (hstop : w.on Obj.THERMAL_STOP_ACTIVE = false) :
    execThermalSample x y s = .next ((w.withThermal { w.thermal with hot := w.hotSensors }).judgeHeat
      (w.hotSensors.find? fun i => w.thermal.hot.contains i) ((List.range 4).find? fun k => decide (105 ≤ w.stackTemp k))) := by
  rw [execThermalSample, State.inCore_on hc]
  extract_lets s₁ s₂ w₁ hot twice th t
  have hw₁ : w₁ = w := hw.symm
  clear_value w₁
  subst hw₁
  have hon : t.on Obj.THERMAL_STOP_ACTIVE = false := hstop ▸ State.on_withThermal w₁ _ _
  have htemp : t.stackTemp = w₁.stackTemp := State.stackTemp_withThermal w₁ _
  rw [hon, htemp, if_neg Bool.false_ne_true]
  rfl

/-! ### Throttling -/

theorem State.throttleCycle_due (hc : s.CoreOn) (hd : s.thermal.evalDue = true) (hs : s.on Obj.THERMAL_STOP_ACTIVE = false) :
    s.throttleCycle = ((if s.get Obj.THERMAL_F_LEVEL = 0 ∧ s.get Obj.THERMAL_T_LEVEL = 0 then s.withThermal { s.thermal with evalDue := false }
      else (s.withThermal { s.thermal with evalDue := false }).bump Obj.THERMAL_THROTTLE_MS).throttle 0).throttle 1 := by
  have hon : ((s.withThermal { s.thermal with evalDue := false }).on Obj.THERMAL_STOP_ACTIVE ||
      (s.withThermal { s.thermal with evalDue := false }).coreOff) = false := Bool.or_eq_false_iff.mpr ⟨hs, hc⟩
  rw [State.throttleCycle, if_neg (by simp [hd])]
  exact if_neg (Bool.eq_false_iff.mp hon)

theorem State.throttleCycle_stopped (hs : s.on Obj.THERMAL_STOP_ACTIVE = true) :
    s.throttleCycle = if s.thermal.evalDue then s.withThermal { s.thermal with evalDue := false } else s := by
  unfold State.throttleCycle
  cases s.thermal.evalDue
  · rfl
  · exact if_pos (Bool.or_eq_true_iff.mpr (.inl hs))

theorem State.throttle_up (ht : ((Table.get objDefault s.dict.cycleObjs Obj.THERMAL_THROTTLE_C : Nat) : Int) ≤ signed 32 (s.get Obj.THERMAL_F_TEMP_C))
    (h8 : s.get Obj.THERMAL_F_LEVEL < 8) (h0 : 0 < s.get Obj.THERMAL_F_LEVEL) :
    s.throttle 0 = (s.set Obj.THERMAL_F_LEVEL (s.get Obj.THERMAL_F_LEVEL + 1)).withThermal { s.thermal with changedF := s.time.now } :=
  (if_pos ⟨ht, h8⟩).trans (if_neg h0.ne')

/-- Settles O60: each command is followed through the branch that its clause names. -/
theorem suppliesClocksAndHeat : Obligations.SuppliesClocksAndHeat := by
  unfold Obligations.SuppliesClocksAndHeat
  refine ⟨fun s a b hsrc ha hb => ?_, fun s a hsrc hlo hhi => ?_, fun s b hsrc hlow hb => ?_, fun s => rfl, fun s h => ?_,
    fun s r h hr => ?_, fun s h => ?_, fun s h hon => ?_, fun s h => ?_, fun s r h h0 h4 => execRefRestored_absent h h0 h4,
    fun s d hd hr hl => execPllUnlock_held hd hr hl, fun s d r hd h0 hr hl => ?_, fun s x y w hc hw hcool hstop hst => ?_,
    fun s x y w k hc hw hcool hstop hst => ?_, fun s x y w i hc hw htwice hstop => ?_, fun s hc => (State.inCore_on hc _ : execThrottleEval s = _),
    fun s hc hd hs hF hT => ?_, fun s hc hd hs hL => ?_, fun s hs => State.throttleCycle_stopped hs, fun s ht h8 h0 => State.throttle_up ht h8 h0⟩
  · exact congrArg Host.Outcome.next (if_pos ⟨hsrc, ha, hb⟩)
  · exact congrArg Host.Outcome.next (if_pos ⟨hsrc, hlo, hhi⟩)
  · have hthermal : (s.setVaon true b).thermal = s.thermal := by simp [State.setVaon, Nat.not_le.mpr hb]
    exact congrArg Host.Outcome.next ((if_neg (Nat.not_le.mpr hb)).trans (if_pos ⟨hsrc, by rw [hthermal]; exact hlow⟩))
  · exact execRefLost_present (r := 0) h
  · refine (execRefLost_present (r := r) h).trans ?_
    rcases hr with hr | hr <;> rw [hr] <;> rfl
  · exact execRefLost_present (r := 4) h
  · exact (execRefLost_present (r := 3) h).trans (congrArg Host.Outcome.next (if_neg (Bool.eq_false_iff.mp hon)))
  · exact congrArg Host.Outcome.next (if_neg (Bool.eq_false_iff.mp h))
  · exact (execPllUnlock_held hd hr hl).trans (congrArg Host.Outcome.next (if_neg h0))
  · have hnone : (List.range 4).find? (fun k => decide (105 ≤ w.stackTemp k)) = none := by
      simpa using hst
    refine (execThermalSample_judged hc hw hstop).trans ?_
    rw [hnone, show w.hotSensors = [] from hcool]
    rfl
  · refine (execThermalSample_judged hc hw hstop).trans ?_
    rw [hst, show w.hotSensors = [] from hcool]
    rfl
  · refine (execThermalSample_judged hc hw hstop).trans ?_
    rw [show (w.hotSensors.find? fun i => w.thermal.hot.contains i) = some i from htwice]
    rfl
  · rw [State.throttleCycle_due hc hd hs, if_pos ⟨hF, hT⟩]
  · rw [State.throttleCycle_due hc hd hs, if_neg (fun h => hL.elim (· h.1) (· h.2))]

end Sys2Proof.Machine
end

section
/-! PROOFS. Family 19_security_debug: a key hash written out of turn (R18, R515). -/

set_option Elab.async false

namespace Sys2Proof.Machine

/-- Master 2 has written KEY_HASH_2 in this cycle already, in PROVISIONED. -/
def hashWritten : State :=
  let s := running.withSec { lc := 1 }
  s.withDict { s.dict with served := [(Obj.SECURITY_KEY_HASH 2, 2)] }

/-- The write of the lower master in the same cycle is answered as the rule says and leaves the state as it is (R18). -/
theorem execKeyHash_outOfTurn {s : State} {k : Fin 4} {m v : Nat} (hr : s.unreached m = false)
    (hc : s.checkWrite .job m (Obj.SECURITY_KEY_HASH k) v = .ok)
    (ho : (s.outOfTurn m (Obj.SECURITY_KEY_HASH k) && keepsValue (Obj.SECURITY_KEY_HASH k)) = true) :
    execKeyHash k m v s = .next (State.finish .job m (Obj.SECURITY_KEY_HASH k) ((ruleKeyHash k m v s).1, s)) := by
  simp only [execKeyHash, hr, Bool.false_eq_true, if_false, State.writeWith, hc, State.inOrder, ho, if_true]

/-- Refutes O52: the clause of KEY_HASH asks that the shared checks pass (checkWrite) but not that the master is in turn. In the state
`hashWritten` the write of master 1 comes behind that of master 2, so it is answered OK but begins to blow nothing, where the clause has
the hash of slot 2 being blown. -/
theorem not_fusesAreBlown : ¬ Obligations.FusesAreBlown := by
  rintro ⟨-, -, -, -, -, hkey, -⟩
  have hreach : hashWritten.unreached 1 = false := by decide +kernel
  have hcheck : hashWritten.checkWrite .job 1 (Obj.SECURITY_KEY_HASH (2 : Fin 4)) 7 = .ok := by decide +kernel
  have hclaim := hkey hashWritten 2 1 7 hreach hcheck rfl rfl rfl (by decide +kernel)
  have hrun : execKeyHash 2 1 7 hashWritten = _ := execKeyHash_outOfTurn hreach hcheck (by decide +kernel)
  have hfuse := congrArg (fun t : State => t.sec.fusing.isSome) (Host.Outcome.next.inj (hrun.symm.trans hclaim))
  exact absurd hfuse (by decide +kernel)

end Sys2Proof.Machine
end

section
/-! PROOFS. Family 19_security_debug: tokens, the debug level and its expiry (R513, R515, R521, R523 to R525, R527). -/

set_option Elab.async false

namespace Sys2Proof.Machine

variable {s t : State}

/-! ### What a new debug level leaves alone -/

theorem State.showHealth_time (s : State) : s.showHealth.time = s.time := by
  unfold State.showHealth
  dsimp only
  split <;> rfl

theorem State.showHealth_pw (s : State) : s.showHealth.pw = s.pw := by
  unfold State.showHealth
  dsimp only
  split <;> rfl

theorem State.showHealth_takeover (s : State) : s.showHealth.pair.takeover = s.pair.takeover := by
  unfold State.showHealth
  dsimp only
  split <;> rfl

/-- What a submission reads besides the objects and the token: the time, the power state, the fuses being blown and a planned takeover. -/
structure SubmitView (s t : State) : Prop where
  time : t.time = s.time
  pw : t.pw = s.pw
  fusing : t.sec.fusing = s.sec.fusing
  takeover : t.pair.takeover = s.pair.takeover

theorem SubmitView.refl (s : State) : SubmitView s s := ⟨rfl, rfl, rfl, rfl⟩

theorem SubmitView.setLevel (h : SubmitView s t) (v : Nat) : SubmitView s (t.setLevel v) := by
  obtain ⟨htime, hpw, hfusing, htakeover⟩ := h
  have hs : SubmitView s (t.set Obj.DEBUG_DBG_LEVEL v).showHealth :=
    ⟨(State.showHealth_time _).trans htime, (State.showHealth_pw _).trans hpw,
      (congrArg SecState.fusing (State.showHealth_sec _)).trans hfusing, (State.showHealth_takeover _).trans htakeover⟩
  unfold State.setLevel
  dsimp only
  split
  · exact hs
  · exact ⟨hs.time, hs.pw, hs.fusing, hs.takeover⟩

theorem SubmitView.raise (h : SubmitView s t) {code : Nat} (unit arg scope : Nat) (hf : eventClass code ≠ 3 := by decide)
    (hh : code ≠ 0x6102 := by decide) : SubmitView s (t.raise code unit arg scope) :=
  ⟨(t.raise_time hf hh unit arg scope).trans h.time, (t.raise_same hf hh unit arg scope (p := .pw) (by decide)).trans h.pw,
    (congrArg SecState.fusing (t.raise_same hf hh unit arg scope (p := .sec) (by decide))).trans h.fusing,
    (congrArg PairState.takeover (t.raise_same hf hh unit arg scope (p := .pair) (by decide))).trans h.takeover⟩

theorem State.expireDebug_submitView (s : State) : SubmitView s s.expireDebug := by
  unfold State.expireDebug State.dropDebug
  dsimp only
  split
  · split
    · exact .refl s
    · exact ((SubmitView.refl s).setLevel 0).raise _ _ _
  · exact .refl s

/-! ### AUTH_SUBMIT -/

/-- With no takeover planned a submission judges the token right after the expiry of the level. -/
theorem State.dueTakeover_none (h : s.pair.takeover = none) :
    (if s.expireDebug.coreOff = true then s.expireDebug else s.expireDebug.dueTakeover) = s.expireDebug := by
  have hdue : s.expireDebug.dueTakeover = s.expireDebug := by
    simp [State.dueTakeover, s.expireDebug_submitView.takeover, h]
  rw [hdue, ite_self]

theorem State.fusible_ok (hi : s.pw.island = false) (hf : s.sec.fusing = none) : s.fusible = .ok := by
  simp [State.fusible, State.inIsland, hi, hf]

/-- The state in which a token has passed its check. -/
def State.tokenPassed (s : State) : State := s.withSec { s.sec with challenge := none, failures := 0 }

/-- The expiry that a token of OP 1 or 2 shows. -/
def State.tokenExpiry (s : State) : State :=
  (s.tokenPassed.set Obj.DEBUG_AUTH_STATUS 0).set Obj.DEBUG_DBG_EXPIRES
    (if wordAt s.token 60 4 = 0 then 0 else time80 (s.tokenPassed.timeNow + wordAt s.token 60 4 * 1000000000))

/-- A token that raises the level to at least v. -/
def State.tokenLevel (s : State) (v : Nat) : State := s.tokenExpiry.setLevel (max v (s.tokenExpiry.get Obj.DEBUG_DBG_LEVEL))

theorem ruleAuthSubmit_observe {m : Nat} (ht : s.pair.takeover = none) (hstep : s.expireDebug.tokenStep = 0)
    (hop : byteAt s.expireDebug.token 56 = 1) :
    ruleAuthSubmit m s = (.ok, (s.expireDebug.tokenLevel 1).raise 0x0002 uMGMT 0) := by
  unfold ruleAuthSubmit
  dsimp only
  rw [State.dueTakeover_none ht, if_neg (not_not.mpr hstep), if_pos (.inl hop), if_neg (by simp [hop]), hop]
  rfl

theorem State.tokenLevel_lc (s : State) (v : Nat) : (s.tokenLevel v).sec.lc = s.sec.lc := by
  have hshown (u : State) : (u.set Obj.DEBUG_DBG_LEVEL (max v (u.get Obj.DEBUG_DBG_LEVEL))).showHealth.sec.lc = u.sec.lc := by
    rw [State.showHealth_sec]
    rfl
  unfold State.tokenLevel State.setLevel
  dsimp only
  split <;> exact hshown _

theorem ruleAuthSubmit_invasive {m : Nat} (ht : s.pair.takeover = none) (hstep : s.expireDebug.tokenStep = 0)
    (hop : byteAt s.expireDebug.token 56 = 2) (hlc : s.expireDebug.sec.lc = lcPROVISIONED ∨ s.expireDebug.sec.lc = lcDEPLOYED) :
    ruleAuthSubmit m s = (.ok, ((s.expireDebug.tokenLevel 2).withSec
      { (s.expireDebug.tokenLevel 2).sec with attested := false, zeroed := true, dice := none }).raise 0x0002 uMGMT 0) := by
  have hlevel := s.expireDebug.tokenLevel_lc 2
  unfold ruleAuthSubmit
  dsimp only
  rw [State.dueTakeover_none ht, if_neg (not_not.mpr hstep), if_pos (.inr hop), hop]
  refine congrArg (Prod.mk Status.ok) (congrArg (fun u : State => u.raise 0x0002 uMGMT 0) (if_pos ⟨rfl, ?_⟩))
  exact hlevel.symm ▸ hlc

theorem ruleAuthSubmit_transition {m : Nat} (ht : s.pair.takeover = none) (hstep : s.expireDebug.tokenStep = 0)
    (hop : byteAt s.expireDebug.token 56 = 3) (hi : s.pw.island = false) (hf : s.sec.fusing = none) :
    ruleAuthSubmit m s = (s.expireDebug.tokenPassed.set Obj.DEBUG_AUTH_STATUS 0).startFuse (.transition (byteAt s.expireDebug.token 57)) m
      Obj.DEBUG_AUTH_SUBMIT := by
  have hview := s.expireDebug_submitView
  have hok : s.expireDebug.tokenPassed.fusible = .ok :=
    State.fusible_ok ((congrArg PowerState.island hview.pw).trans hi) (hview.fusing.trans hf)
  unfold ruleAuthSubmit
  dsimp only
  rw [State.dueTakeover_none ht, if_neg (not_not.mpr hstep), if_neg (by simp [hop]), hop]
  change (match s.expireDebug.tokenPassed.fusible, 3 with | .ok, 3 => _ | .unavailable, 3 => _ | .busy, _ => _ | _, _ => _) = _
  rw [hok]
  rfl

theorem ruleAuthSubmit_revoke {m : Nat} (ht : s.pair.takeover = none) (hstep : s.expireDebug.tokenStep = 0)
    (hop : byteAt s.expireDebug.token 56 = 4) (hi : s.pw.island = false) (hf : s.sec.fusing = none) :
    ruleAuthSubmit m s = (s.expireDebug.tokenPassed.set Obj.DEBUG_AUTH_STATUS 0).startFuse (.revoke (byteAt s.expireDebug.token 57)) m
      Obj.DEBUG_AUTH_SUBMIT := by
  have hview := s.expireDebug_submitView
  have hok : s.expireDebug.tokenPassed.fusible = .ok :=
    State.fusible_ok ((congrArg PowerState.island hview.pw).trans hi) (hview.fusing.trans hf)
  unfold ruleAuthSubmit
  dsimp only
  rw [State.dueTakeover_none ht, if_neg (not_not.mpr hstep), if_neg (by simp [hop]), hop]
  change (match s.expireDebug.tokenPassed.fusible, 4 with | .ok, 3 => _ | .unavailable, 3 => _ | .busy, _ => _ | _, _ => _) = _
  rw [hok]
  rfl

/-- A token that failed: the challenge is spent, the failing step counted and shown. -/
def State.tokenFailed (s : State) : State :=
  (((s.withSec { s.sec with challenge := none }).bump Obj.DEBUG_AUTH_FAILS).set Obj.DEBUG_AUTH_STATUS s.tokenStep).raise 0x0101 uMGMT 0

theorem ruleAuthSubmit_failed {m : Nat} (ht : s.pair.takeover = none) (hstep : s.expireDebug.tokenStep ≠ 0) :
    ruleAuthSubmit m s = if s.expireDebug.tokenFailed.sec.failures + 1 < 8 then
        (.invalid, s.expireDebug.tokenFailed.withSec
          { s.expireDebug.tokenFailed.sec with failures := s.expireDebug.tokenFailed.sec.failures + 1 })
      else (.invalid, (s.expireDebug.tokenFailed.withSec
        { s.expireDebug.tokenFailed.sec with failures := 0, withheld := some (s.time.now + 60000000000) }).raise 0x0102 uMGMT 0) := by
  have htime : s.expireDebug.tokenFailed.time = s.time :=
    (State.raise_time _ (by decide) (by decide) _ _ _).trans s.expireDebug_submitView.time
  unfold ruleAuthSubmit
  dsimp only
  rw [State.dueTakeover_none ht, if_pos hstep, ← htime]
  rfl

/-! ### DBG_DROP -/

theorem ruleDbgDrop_lower {v : Nat} (h : v < s.expireDebug.get Obj.DEBUG_DBG_LEVEL) :
    ruleDbgDrop v s = (.ok, (s.expireDebug.setLevel v).raise 0x0003 uMGMT 0) :=
  (if_neg h.asymm).trans (if_neg h.ne)

theorem ruleDbgDrop_higher {v : Nat} (h : s.expireDebug.get Obj.DEBUG_DBG_LEVEL < v) : ruleDbgDrop v s = (.invalid, s.expireDebug) :=
  if_pos h

/-- A row whose write passes the shared checks ends as its rule says. -/
theorem State.rowWrite_ruled {m key v : Nat} (ha : s.Accepts m key v) {rule : State → Res} {r : Res} (hr : rule s = r) :
    s.rowWrite m key v rule = .next (State.finish (pathOf m) m key r) := hr ▸ State.rowWrite_of_accepts ha rule

/-- Settles O54: what AUTH_SUBMIT's rule answers for each token (`ruleAuthSubmit_observe` and those after it), with no takeover planned. -/
theorem debugLevelRuns : Obligations.DebugLevelRuns := by
  unfold Obligations.DebugLevelRuns
  refine ⟨fun s m v ha hstep hop ht => ?_, fun s m v ha hstep hop hlc ht => ?_, fun s m v ha hstep hop hi hf ht => ?_,
    fun s m v ha hstep hop hi hf ht => ?_, fun s m v ha ht hstep hl => ?_, fun s m v ha ht hstep hl => ?_, fun s m v ha h => ?_,
    fun s m v ha h => ?_, fun s h0 hdue hl => ?_, fun s a h => ?_⟩
  · exact State.rowWrite_ruled ha (ruleAuthSubmit_observe ht hstep hop)
  · exact State.rowWrite_ruled ha (ruleAuthSubmit_invasive ht hstep hop hlc)
  · exact State.rowWrite_ruled ha (ruleAuthSubmit_transition ht hstep hop hi hf)
  · exact State.rowWrite_ruled ha (ruleAuthSubmit_revoke ht hstep hop hi hf)
  · exact State.rowWrite_ruled ha ((ruleAuthSubmit_failed ht hstep).trans (if_pos hl))
  · exact State.rowWrite_ruled ha ((ruleAuthSubmit_failed ht hstep).trans (if_neg hl.not_gt))
  · exact State.rowWrite_ruled ha (ruleDbgDrop_lower h)
  · exact State.rowWrite_ruled ha (ruleDbgDrop_higher h)
  · exact congrArg Host.Outcome.next ((if_pos ⟨h0, hdue⟩).trans (if_neg hl))
  · change execChallengeLockoutEnd s = _
    rw [execChallengeLockoutEnd, h]

end Sys2Proof.Machine
end

section
/-! PROOFS. Family 19_security_debug: what the debug master does (R520, R521, R525, R526). -/

set_option Elab.async false

namespace Sys2Proof.Machine

variable {s t : State}

/-- At INVASIVE with the core powered an action of the debug master is done. -/
theorem State.invasive_done (hl : s.expireDebug.get Obj.DEBUG_DBG_LEVEL = 2) (hc : s.expireDebug.coreOff = false) {f : State → Res}
    {r : Res} (hf : f s.expireDebug = r) : s.invasive f = r.2.answer DBG 0 r.1 := by
  simp [State.invasive, hl, hc, hf]

theorem State.invasive_denied (hl : s.expireDebug.get Obj.DEBUG_DBG_LEVEL ≠ 2) (f : State → Res) :
    s.invasive f = s.expireDebug.answer DBG 0 .denied := by
  simp [State.invasive, hl]

theorem execDebugObjectAccess_write {i u v : Nat} {r : Status} {w : State} (h : s.dictWrite .jtag .direct DBG i u v = (some r, w)) :
    execDebugObjectAccess true i u v s = .next (w.answer DBG (s.locate DBG i u).1 r) := by
  simp [execDebugObjectAccess, h]

theorem execDebugObjectAccess_read {i u v x : Nat} {r : Status} {w : State} (h : s.dictRead .jtag DBG i u = (r, x, w)) :
    execDebugObjectAccess false i u v s = .next (w.answer DBG (s.locate DBG i u).1 r x) := by
  simp [execDebugObjectAccess, h]

/-- Settles O55: each action is followed past the checks that its clause names. -/
theorem debugMasterActs : Obligations.DebugMasterActs := by
  unfold Obligations.DebugMasterActs
  refine ⟨fun s i u v r w h => execDebugObjectAccess_write h, fun s i u v x r w h => execDebugObjectAccess_read h, fun s i e v h => ?_,
    fun s i e v h => ?_, fun s hl hc => ?_, fun s hl => ?_, fun s hl hc hh => ?_, fun s d n c hl hc hsector hrun => ?_,
    fun s _ _ hl => ?_, fun s _ _ hl => ?_, fun s => rfl⟩
  · exact congrArg Host.Outcome.next (if_neg (by simp [h]))
  · exact congrArg Host.Outcome.next (if_neg (by simp [h]))
  · exact congrArg Host.Outcome.next (State.invasive_done hl hc rfl)
  · exact congrArg Host.Outcome.next (State.invasive_denied hl _)
  · exact congrArg Host.Outcome.next (State.invasive_done (r := (.ok, s.expireDebug)) hl hc (if_pos hh))
  · subst hsector
    refine congrArg Host.Outcome.next (State.invasive_done
      (r := (.ok, (s.expireDebug.fresh.2.emit (.debug [s.expireDebug.fresh.1])).resetSector d n)) hl hc (if_neg ?_))
    rw [hrun]
    exact Bool.false_ne_true.symm
  · exact congrArg Host.Outcome.next ((if_neg (by decide)).trans (if_neg (not_not.mpr hl)))
  · exact congrArg Host.Outcome.next ((if_neg (by decide)).trans (if_neg (not_not.mpr hl)))

end Sys2Proof.Machine
end

section
/-! PROOFS. Family 20_boot_firmware_update: resets of units, sectors and dies, and the alarm pin (R530, R533, R546, R557, R558, R560). -/

set_option Elab.async false

namespace Sys2Proof.Machine

variable {s t : State}

/-- Outside ISLAND a write of the BOOT record acts. -/
theorem State.coreWrite_acts (hi : s.pw.island = false) (f : State → State) : s.coreWrite f = (.ok, f s) := by
  simp [State.coreWrite, State.inIsland, hi]

theorem ruleSectorReset_eq {v : Nat} (hi : s.pw.island = false) (hbits : Nat.land v 0x78 = 0) (hv : v < 256) :
    ruleSectorReset v s = (.ok, if v < 128 ∧ s.sectorOff (v % 8) = true then s else s.resetSector (v / 128) (v % 8)) := by
  rw [ruleSectorReset, if_neg (not_or.mpr ⟨not_not.mpr hbits, hv.not_ge⟩), State.coreWrite_acts hi]

theorem ruleUnitReset_eq {v : Nat} (hi : s.pw.island = false) (hv : Fld.UID_SECTOR.get v < 8) :
    ruleUnitReset v s = (.ok, s.resetUnit v) := by
  rw [ruleUnitReset, if_neg hv.not_ge, State.coreWrite_acts hi]

theorem ruleDieReset_f (hi : s.pw.island = false) : ruleDieReset 0 s = (.ok, (s.resetNotice 2).resetF) := by
  rw [ruleDieReset, if_pos rfl, State.coreWrite_acts hi]

theorem ruleDieReset_t (hi : s.pw.island = false) : ruleDieReset 1 s = (.ok, (s.resetNotice 3).resetT) := by
  rw [ruleDieReset, if_neg Nat.one_ne_zero, if_pos rfl, State.coreWrite_acts hi]

/-- The instants of the automatic resets of the last 600 s, with that of a sector's fault now. -/
def State.recentResets (s : State) (d : Fin 2) (n : Fin 8) : List (Nat × Nat) :=
  (sectorKey d n, s.time.now) :: s.ev.autoResets.filter fun r => Nat.blt s.time.now (r.2 + 600 * nsPerS)

/-- A sector's fault after its event: its instant is noted, and the third within 600 s is fatal. -/
def State.noteFault (s : State) (d : Fin 2) (n : Fin 8) : State :=
  if 3 ≤ ((s.recentResets d n).filter fun r => Nat.beq r.1 (sectorKey d n)).length then
    (s.withEv { s.ev with autoResets := s.recentResets d n }).raise (if d.val = 0 then 0x3312 else 0x4344) (sectorId d n) 0
  else s.withEv { s.ev with autoResets := s.recentResets d n }

theorem execSectorFault_on (hc : s.CoreOn) (d : Fin 2) (n : Fin 8) : execSectorFault d n s =
    .next (((s.raise (if d.val = 0 then 0x3212 else 0x4244) (sectorId d n) 0).noteFault d n).resetSector d n) :=
  State.inCore_on hc _

/-- Settles O56: each write and reset is followed past the checks that its clause names. -/
theorem sectorsAndDiesAreReset : Obligations.SectorsAndDiesAreReset := by
  unfold Obligations.SectorsAndDiesAreReset
  refine ⟨fun s m v ha hi hbits hv hoff => ?_, fun s m v ha hi hbits hv hoff => ?_, fun s m v ha hi hv => ?_, fun s m ha hi => ?_,
    fun s m ha hi => ?_, fun s d n c hc hin hdie hstop hsector => ?_, fun s d hc hin hstop => ?_, fun s d n hc hfew => ?_,
    fun s d n hc hmany => ?_, fun s m v ha => State.rowWrite_of_accepts ha _, fun s h0 hlow hext => ?_, fun s h => ?_⟩
  · exact State.rowWrite_ruled ha ((ruleSectorReset_eq hi hbits hv).trans (congrArg (Prod.mk Status.ok) (if_neg hoff)))
  · exact State.rowWrite_ruled ha ((ruleSectorReset_eq hi hbits (by omega)).trans (congrArg (Prod.mk Status.ok) (if_pos ⟨hv, hoff⟩)))
  · exact State.rowWrite_ruled ha (ruleUnitReset_eq hi hv)
  · exact State.rowWrite_ruled ha (ruleDieReset_f hi)
  · exact State.rowWrite_ruled ha (ruleDieReset_t hi)
  · subst hsector
    exact (State.inCore_on hc _ : execSectorResetDone d n s = _).trans
      (congrArg Host.Outcome.next (if_neg (by rw [hin, hdie, hstop]; decide)))
  · exact (State.inCore_on hc _ : execDieResetDone d s = _).trans (congrArg Host.Outcome.next (if_neg (by rw [hin, hstop]; decide)))
  · exact (execSectorFault_on hc d n).trans
      (congrArg (fun u : State => Host.Outcome.next (u.resetSector d n)) (if_neg (Nat.not_le.mpr hfew)))
  · exact (execSectorFault_on hc d n).trans
      (congrArg (fun u : State => Host.Outcome.next (u.resetSector d n)) (if_pos hmany))
  · rw [State.releaseAlarm, if_pos ⟨h0, hlow⟩]
    simp [State.emit, hext]
  · exact if_neg fun ⟨h0, hlow⟩ => h.elim (· h0) (by simp [hlow])

end Sys2Proof.Machine
end

section
/-! PROOFS. Family 20_boot_firmware_update: the serial number at a cold reset that decommissions a blank device (R512, R530). -/

set_option Elab.async false

namespace Sys2Proof.Machine

/-- A BLANK device, its UDS not fused, whose fuses for DECOMMISSIONED are blown. -/
def blankDecommissioned : State := running.withSec { lcFuses := lcFusesOf 0 4, lcCopy := lcFusesOf 0 4, lc := lcBLANK, uds := .blank }

/-- Entering DECOMMISSIONED fuses the UDS of a device that has none, and the serial number with it. -/
theorem blankDecommissioned_serial : blankDecommissioned.coldReset.sec.serial = some 0 := by decide +kernel

/-- Refutes O57: its second clause has the serial number stand over every cold reset. The cold reset of `blankDecommissioned`, the state that
PROVISION 4 of a BLANK device leaves once its fuses are blown, enters DECOMMISSIONED and fuses serial number 0, where none stood. -/
theorem not_packageIsReset : ¬ Obligations.PackageIsReset := by
  rintro ⟨-, hstands, -⟩
  obtain ⟨t, hrun, -, -, -, hserial, -⟩ := hstands blankDecommissioned
  have ht : blankDecommissioned.coldReset = t := Host.Outcome.next.inj hrun
  rw [← ht, blankDecommissioned_serial] at hserial
  exact absurd hserial (by decide)

end Sys2Proof.Machine
end

section
/-! PROOFS. Family 20_boot_firmware_update: boot, firmware restart, update, trial and acceptance (R376, R533, R535 to R537, R539 to R541, R543). -/

set_option Elab.async false

namespace Sys2Proof.Machine

variable {objs doms : Nat → Bool} {parts : List Part} {s₀ s t : State}

/-! ### What the end of a boot leaves alone -/

theorem Within.writeAirEntry {e image : Nat} (h : Within objs doms parts s₀ s)
    (ho : objs Obj.AIR_EVENT_CTRL_ARMED_COUNT = true) (hd : doms (domKey Dom.AIR_EVENT_TABLE e) = true) (ht : Part.time ∈ parts)
    (hp : Part.pair ∈ parts) : Within objs doms parts s₀ (s.writeAirEntry e image) := by
  unfold State.writeAirEntry State.commitDom
  dsimp only
  refine Within.set ?_ ho
  split
  · exact ((h.withTime ht).setDom hd).touch ((Touches.refl _).journal hp)
  · exact (h.withTime ht).setDom hd

theorem Within.armMateCycle (h : Within objs doms parts s₀ s)
    (ho : objs Obj.AIR_EVENT_CTRL_ARMED_COUNT = true) (hd : doms (domKey Dom.AIR_EVENT_TABLE 4095) = true) (ht : Part.time ∈ parts)
    (hp : Part.pair ∈ parts) : Within objs doms parts s₀ s.armMateCycle :=
  h.ite (h.writeAirEntry ho hd ht hp)

/-- What a block handed to the update may change. -/
def updateKeys : List Nat := [Obj.FW_UPDATE_UPD_STATE, Obj.FW_UPDATE_UPD_RESULT, Obj.FW_UPDATE_UPD_RECEIVED]

theorem Within.updBlock {owner offset : Nat} {data : List Byte} {good : Bool} (h : Within objs doms parts s₀ s)
    (ho : ∀ k ∈ updateKeys, objs k = true) (hp : Part.flash ∈ parts) :
    Within objs doms parts s₀ (s.updBlock owner offset data good).2.2 := by
  have hstate : objs Obj.FW_UPDATE_UPD_STATE = true := ho _ (by simp [updateKeys])
  have hresult : objs Obj.FW_UPDATE_UPD_RESULT = true := ho _ (by simp [updateKeys])
  have hreceived : objs Obj.FW_UPDATE_UPD_RECEIVED = true := ho _ (by simp [updateKeys])
  unfold State.updBlock
  dsimp only
  split_ifs <;> first | exact h | exact (h.set hstate).set hresult | exact (h.withFlash hp).set hreceived

theorem Within.lateCommits (h : Within objs doms parts s₀ s) (ho : ∀ k ∈ updateKeys, objs k = true) (hc : Part.coica ∈ parts)
    (hf : Part.flash ∈ parts) : Within objs doms parts s₀ s.lateCommits :=
  (h.withCoica hc).forEach fun _ _ _ h₁ => (h₁.updBlock ho hf).withCoica hc

/-- The end of a boot up to its stage: the mate cycle armed and the blocks that waited carried out. -/
def State.bootSettled (s : State) : State := (if s.on Obj.PAIR_CTRL_PAIR_ENABLE then s.armMateCycle else s).lateCommits

/-- The objects that the end of a boot may change before it shows its stage. -/
def settledKeys : Nat → Bool := keysOf (Obj.AIR_EVENT_CTRL_ARMED_COUNT :: updateKeys)

theorem State.bootSettled_within (s : State) :
    Within settledKeys (keysOf [domKey Dom.AIR_EVENT_TABLE 4095]) [.time, .pair, .coica, .flash] s s.bootSettled := by
  refine Within.lateCommits (Within.ite (Within.armMateCycle (.refl s) ?_ ?_ ?_ ?_) (.refl s)) ?_ ?_ ?_
  · simp [settledKeys, keysOf]
  · simp [keysOf]
  · decide
  · decide
  · intro k hk
    simp [settledKeys, keysOf, hk]
  · decide
  · decide

/-- The end of a boot, its stage and cause shown. -/
def State.bootShown (s : State) (cause : Nat) : State :=
  ((s.bootSettled.set Obj.BOOT_BOOT_STAGE 7).set Obj.BOOT_BOOT_CAUSE cause).bumpW 32 Obj.BOOT_BOOT_COUNT

theorem State.bootEnd_eq (s : State) (cause : Nat) :
    s.bootEnd cause = (s.bootShown cause).startTrial.raise 0x7002 uMGMT (packArg [(16, cause)]) := rfl

theorem State.startTrial_objs (s : State) : s.startTrial.objs = s.objs := by
  unfold State.startTrial
  split <;> rfl

theorem State.get_bootEnd (hc : s.Canonical) (cause : Nat) {k : Nat} (hk : eventObjs k = false) :
    (s.bootEnd cause).get k = (s.bootShown cause).get k := by
  have hcanon : s.bootSettled.Canonical := s.bootSettled_within.canonical hc
  have hw : (s.bootShown cause).startTrial.objsWf :=
    State.objsWf_of_objs (State.objsWf_set (State.objsWf_set (State.objsWf_set hcanon.1 _ _) _ _) _ _) (State.startTrial_objs _)
  rw [State.bootEnd_eq, ((EventStep.raise 0x7002 uMGMT (packArg [(16, cause)]) _ (by decide) (by decide)).frame hw).1 k hk, State.get, State.startTrial_objs, State.get]

theorem State.get_bootShown (hc : s.Canonical) (cause : Nat) {k : Nat} (hk : k ≠ Obj.BOOT_BOOT_COUNT) :
    (s.bootShown cause).get k = if k = Obj.BOOT_BOOT_CAUSE then cause else if k = Obj.BOOT_BOOT_STAGE then 7 else s.bootSettled.get k := by
  have hw : s.bootSettled.objsWf := (s.bootSettled_within.canonical hc).1
  rw [State.bootShown, State.get_bumpW (State.objsWf_set (State.objsWf_set hw _ _) _ _), if_neg hk,
    State.get_set (State.objsWf_set hw _ _), State.get_set hw]

theorem State.get_bootEnd_stage (hc : s.Canonical) (cause : Nat) : (s.bootEnd cause).get Obj.BOOT_BOOT_STAGE = 7 := by
  rw [State.get_bootEnd hc cause (by decide), State.get_bootShown hc cause (by decide)]
  rfl

theorem State.get_bootEnd_cause (hc : s.Canonical) (cause : Nat) : (s.bootEnd cause).get Obj.BOOT_BOOT_CAUSE = cause := by
  rw [State.get_bootEnd hc cause (by decide), State.get_bootShown hc cause (by decide)]
  rfl

theorem State.get_bootEnd_lock (hc : s.Canonical) (cause : Nat) : (s.bootEnd cause).get Obj.LOCK_DICT_LOCK = s.get Obj.LOCK_DICT_LOCK := by
  rw [State.get_bootEnd hc cause (by decide), State.get_bootShown hc cause (by decide)]
  exact s.bootSettled_within.get hc (by decide)

/-- The end of a boot changes nothing of the boot's own part but the end of a trial. -/
theorem State.bootEnd_boot (hc : s.Canonical) (cause : Nat) : ∃ e, (s.bootEnd cause).boot = { s.boot with trialEnd := e } := by
  have hsettled : s.bootSettled.boot = s.boot := (s.bootSettled_within.frame hc).2.2 .boot (by decide)
  have hraise : (s.bootEnd cause).boot = (s.bootShown cause).startTrial.boot :=
    State.raise_same _ (by decide) (by decide) _ _ _ (p := .boot) (by decide)
  have hshown : (s.bootShown cause).boot = s.boot := hsettled
  unfold State.startTrial at hraise
  split at hraise
  · exact ⟨_, hraise.trans (by rw [hshown]; rfl)⟩
  · exact ⟨s.boot.trialEnd, hraise.trans hshown⟩

/-! ### The choice of a slot -/

/-- What the choice of a slot, its run and the migration of the Pantry may change. -/
def slotKeys : Nat → Bool := keysAndEvents [Obj.IDENTITY_LOADER_VERSION, Obj.IDENTITY_FW_VERSION, Obj.IDENTITY_FW_BUILD, Obj.IDENTITY_FW_SVN,
  Obj.IDENTITY_FW_SLOT, Obj.IDENTITY_PANTRY_OLDEST, Obj.PANTRY_FORMAT_VERSION, Obj.PANTRY_RESTORE_REFUSED]

/-- The parts that these may change. -/
def slotParts : List Part := .sent :: .flash :: .boot :: .sec :: eventParts

theorem Within.setSlot {b : Bool} {r : SlotRec} (h : Within objs doms parts s₀ s) (hf : Part.flash ∈ parts := by decide)
    (hs : Part.sent ∈ parts := by decide) : Within objs doms parts s₀ (s.setSlot b r) :=
  (h.withFlash hf).emit hs

theorem Within.readRecord (h : Within objs doms parts s₀ s) (hf : Part.flash ∈ parts := by decide) :
    Within objs doms parts s₀ s.readRecord :=
  (h.withFlash hf).ite h

theorem Within.chooseSlot (fuel : Nat) {s : State} (h : Within slotKeys doms slotParts s₀ s) :
    Within slotKeys doms slotParts s₀ (State.chooseSlot fuel s).2 := by
  induction fuel generalizing s with
  | zero => exact h
  | succ fuel ih =>
    unfold State.chooseSlot
    split
    · exact h
    · dsimp only
      split
      · exact h
      · exact ih (h.setSlot.raise (ho := eventObjs_keysAndEvents))

theorem Within.runSlot {b : Bool} (h : Within slotKeys doms slotParts s₀ s) :
    Within slotKeys doms slotParts s₀ (s.runSlot b) := by
  have hkey {k : Nat} {l : List Nat} (hk : k ∈ l) : keysAndEvents l k = true := by simp [keysAndEvents, hk]
  unfold State.runSlot
  dsimp only
  generalize hu : State.deriveIdentity _ _ = u
  have hw : Within slotKeys doms slotParts s₀ u := by
    rw [← hu]
    exact (((((((h.set (hkey (by simp))).set (hkey (by simp))).set (hkey (by simp))).set (hkey (by simp))).set (hkey (by simp))).set
      (hkey (by simp))).set (hkey (by simp))).withSec
  exact hw.ite hw.setSlot

theorem Within.migrate (h : Within slotKeys doms slotParts s₀ s) :
    Within slotKeys doms slotParts s₀ s.migrate := by
  unfold State.migrate
  dsimp only
  split
  · refine Within.ite ?_ h
    exact (((h.set (by simp [slotKeys, keysAndEvents])).emit).withFlash).withBoot
  · exact h

/-! ### The boot -/

/-- A boot's chosen slot runs, and the Pantry's copies are judged. -/
def State.bootLoaded (w : State) (b : Bool) : State :=
  (((w.runSlot b).set Obj.PANTRY_RESTORE_REFUSED 0).set Obj.CLOCKS_PLL_LOCK 0x3FFFF).judgeCopies.migrate.startWatches

/-- The active copy is restored where it is wanted. -/
def State.bootRestored (u : State) : State :=
  match u.activeCopy with
  | some c => if restoreWanted c.2.records then u.restorePantry c.2.records else u
  | none => u

/-- A DEPLOYED device boots locked. -/
def State.bootLocked (x : State) (deployed : Bool) : State :=
  if deployed then (x.set Obj.LOCK_DICT_LOCK 1).set Obj.LOCK_LOCKED_AT (time80 x.timeNow) else x

theorem execBootReady_chosen {c : Nat} {b : Bool} {w : State} (hon : s.CoreOn) (hb : s.boot.boot = some c) (hcool : s.tooHot = false)
    (hchoose : State.chooseSlot 2 s.scrubBegin.readRecord = (some b, w)) :
    ∃ y, y = (w.bootLoaded b).bootRestored.bootLocked (Nat.beq s.sec.lc lcDEPLOYED) ∧
      execBootReady s = .next ((y.withBoot { y.boot with boot := none, ready := true }).bootEnd c) := by
  refine ⟨_, rfl, ?_⟩
  rw [execBootReady, State.inCore_on hon]
  simp only [hb, hcool, hchoose, Bool.false_eq_true, if_false]
  rfl

/-- A boot with a slot to run ends READY. -/
theorem execBootReady_ready {c : Nat} {b : Bool} {w : State} (hcan : s.Canonical) (hon : s.CoreOn) (hb : s.boot.boot = some c)
    (hcool : s.tooHot = false) (hchoose : State.chooseSlot 2 s.scrubBegin.readRecord = (some b, w)) :
    ∃ t, execBootReady s = .next t ∧ t.boot.ready = true ∧ t.boot.boot = none ∧ t.get Obj.BOOT_BOOT_STAGE = 7 ∧
      t.get Obj.BOOT_BOOT_CAUSE = c ∧ (s.sec.lc = lcDEPLOYED → t.get Obj.LOCK_DICT_LOCK = 1) := by
  obtain ⟨y, hy, hrun⟩ := execBootReady_chosen hon hb hcool hchoose
  have hchosen : Kept s w := (Kept.refl s).scrubBegin.readRecord.chooseSlot.of_eq hchoose
  have hloaded : Kept s (w.bootLoaded b) := hchosen.runSlot.set.set.judgeCopies.migrate.startWatches
  have hrestored : Kept s (w.bootLoaded b).bootRestored := by
    unfold State.bootRestored
    split
    · exact .ite hloaded.restorePantry hloaded
    · exact hloaded
  have hlocked : Kept s y := hy ▸ Kept.ite hrestored.set.set hrestored
  have hcanon : (y.withBoot { y.boot with boot := none, ready := true }).Canonical := ⟨hlocked.objs hcan.1, hlocked.doms hcan.2⟩
  obtain ⟨e, hboot⟩ := State.bootEnd_boot hcanon c
  refine ⟨_, hrun, by rw [hboot]; rfl, by rw [hboot]; rfl, State.get_bootEnd_stage hcanon c, State.get_bootEnd_cause hcanon c, fun hlc => ?_⟩
  have hw : (w.bootLoaded b).bootRestored.objsWf := hrestored.objs hcan.1
  rw [State.get_bootEnd_lock hcanon c]
  change y.get Obj.LOCK_DICT_LOCK = 1
  rw [hy, hlc, State.bootLocked, if_pos (Nat.beq_refl _), State.get_set_ne (State.objsWf_set hw _ _) (by decide), State.get_set_self hw]

/-- A restart of the firmware with a slot to run ends with the stage and the cause it had. -/
theorem execFwReady_ready {b : Bool} {w : State} (hcan : s.Canonical) (hon : s.CoreOn) (hr : s.boot.restart = true)
    (hchoose : State.chooseSlot 2 s.readRecord = (some b, w)) :
    ∃ t, execFwReady s = .next t ∧ t.boot.restart = false ∧ t.get Obj.BOOT_BOOT_STAGE = 7 ∧
      t.get Obj.BOOT_BOOT_CAUSE = s.get Obj.BOOT_BOOT_CAUSE := by
  have hw : Within slotKeys noKey slotParts s w := by
    have h := Within.chooseSlot 2 (Within.refl (objs := slotKeys) (doms := noKey) (parts := slotParts) s).readRecord
    rwa [hchoose] at h
  have hrun : Within slotKeys noKey slotParts s (w.runSlot b).migrate := hw.runSlot.migrate
  have hcanon : ((w.runSlot b).migrate.withBoot { (w.runSlot b).migrate.boot with restart := false }).Canonical := hrun.canonical hcan
  obtain ⟨e, hboot⟩ := State.bootEnd_boot hcanon ((w.runSlot b).migrate.get Obj.BOOT_BOOT_CAUSE)
  have hcause : (w.runSlot b).migrate.get Obj.BOOT_BOOT_CAUSE = s.get Obj.BOOT_BOOT_CAUSE := hrun.get hcan (by decide)
  rw [execFwReady, State.inCore_on hon, if_neg (by simp [hr]), hchoose]
  exact ⟨_, rfl, by rw [hboot]; rfl, State.get_bootEnd_stage hcanon _, (State.get_bootEnd_cause hcanon _).trans hcause⟩

/-! ### Updates -/

/-- A slow write through the window that passes the shared checks, with none of it running, and that its rule lets through. -/
theorem State.rowSlow_started {m key v : Nat} (ha : s.Accepts m key v) (hpath : pathOf m = .window) (hruns : s.slowRuns m key = false)
    {rule : State → Res} (hr : rule s = (.ok, t)) :
    s.rowSlow m key v rule = .next ((t.slowStart ⟨m, key, .window⟩).answer m key .ok) := by
  obtain ⟨hreach, hwait, hturn, hcheck⟩ := ha
  rw [hpath] at hwait hcheck
  simp [State.rowSlow, State.writeWith, State.inOrder, hreach, hpath, hwait, hturn, hcheck, hruns, hr]

/-- The slot that an update writes: the one that does not run. -/
def State.idleSlot (s : State) : Bool := s.get Obj.BOOT_BOOT_STAGE != 8 && !s.on Obj.IDENTITY_FW_SLOT

theorem State.updBegin_ok {m : Nat} (hfree : s.updateFree = true) (h0 : 0 < s.get Obj.FW_UPDATE_UPD_SIZE)
    (hmax : s.get Obj.FW_UPDATE_UPD_SIZE ≤ 25165824) (h4 : s.get Obj.FW_UPDATE_UPD_SIZE % 4 = 0) :
    s.updBegin m = (.ok, ((((((s.setSlot s.idleSlot { s.slot s.idleSlot with state := 1, image := [] }).set Obj.FW_UPDATE_UPD_OWNER m).set
      Obj.FW_UPDATE_UPD_TARGET (ofBool s.idleSlot)).set Obj.FW_UPDATE_UPD_STATE 1).set Obj.FW_UPDATE_UPD_RECEIVED 0).set
      Obj.FW_UPDATE_UPD_RESULT 0)) := by
  have hsize : ¬ (s.get Obj.FW_UPDATE_UPD_SIZE = 0 ∨ slotBytes < s.get Obj.FW_UPDATE_UPD_SIZE ∨ s.get Obj.FW_UPDATE_UPD_SIZE % 4 ≠ 0) :=
    not_or.mpr ⟨h0.ne', not_or.mpr ⟨Nat.not_lt.mpr hmax, not_not.mpr h4⟩⟩
  exact (if_neg (by simp [hfree])).trans (if_neg hsize)

theorem State.updAbort_ok {m : Nat} (hm : m = s.get Obj.FW_UPDATE_UPD_OWNER ∨ m = FW) :
    s.updAbort m = (.ok, (s.set Obj.FW_UPDATE_UPD_STATE 0).endSlow Obj.FW_UPDATE_UPD_CTRL .busy) :=
  if_neg fun ⟨hno, hnf⟩ => hm.elim hno hnf

theorem execCommitCheckDone_passed (hs : s.get Obj.FW_UPDATE_UPD_STATE = 3) (hpass : (s.commitCheck (s.slot s.updSlot)).1 = 0) :
    execCommitCheckDone s = .next (((((s.setSlot s.updSlot { s.slot s.updSlot with state := 2, svn := ((s.slot s.updSlot).header true).svn % 256, version := ((s.slot s.updSlot).header true).version % 2 ^ 32, seq := max s.flash.slotA.seq s.flash.slotB.seq + 1, accepted := false }).set
      Obj.FW_UPDATE_UPD_STATE 4).set Obj.FW_UPDATE_UPD_RESULT 0).raise 0x7003 uMGMT 0).endSlow Obj.FW_UPDATE_UPD_CTRL .ok) := by
  rw [execCommitCheckDone, if_neg (not_not.mpr hs)]
  dsimp only
  rw [show s.commitCheck (s.slot s.updSlot) = (0, (s.commitCheck (s.slot s.updSlot)).2) from Prod.ext hpass rfl]
  rfl

theorem execCommitCheckDone_failed {e x : Nat} (hs : s.get Obj.FW_UPDATE_UPD_STATE = 3)
    (hcheck : s.commitCheck (s.slot s.updSlot) = (e, x)) (he : e ≠ 0) :
    execCommitCheckDone s = .next ((((s.set Obj.FW_UPDATE_UPD_STATE 5).set Obj.FW_UPDATE_UPD_RESULT e).raise 0x7104 uMGMT
      (packArg [(16, e)])).endSlow Obj.FW_UPDATE_UPD_CTRL .invalid (if e = 1 then some x else none)) := by
  rw [execCommitCheckDone, if_neg (not_not.mpr hs)]
  dsimp only
  rw [hcheck]
  split
  · rename_i heq
    exact absurd (Prod.mk.inj heq).1 he
  · rename_i heq
    obtain ⟨rfl, rfl⟩ := Prod.mk.inj heq
    rfl

/-! ### Trial and acceptance -/

theorem ruleFwAccept_trial {a : Nat} (hend : s.boot.trialEnd = some a) (hnow : s.time.now < a) (htrial : s.inTrial = true) :
    ruleFwAccept 1 s = (.ok, s.accept) := by
  simp [ruleFwAccept, hend, hnow, htrial]

theorem ruleFwAccept_none (hend : s.boot.trialEnd = none) : ruleFwAccept 1 s = (.busy, s) := by
  simp [ruleFwAccept, hend]

/-- Settles O58: the end of a boot and of a restart (`execBootReady_ready`, `execFwReady_ready`), and each write past its checks. -/
theorem deviceBootsAndUpdates : Obligations.DeviceBootsAndUpdates := by
  unfold Obligations.DeviceBootsAndUpdates
  refine ⟨fun s c b w hcan hon hb hcool hchoose => execBootReady_ready hcan hon hb hcool hchoose, fun s c w hon hb hcool hchoose => ?_,
    fun s c hon hb hhot => ?_, fun s b w hcan hon hr hchoose => execFwReady_ready hcan hon hr hchoose, fun s w hon hr hchoose => ?_,
    fun s m v ha hv hi => ?_, fun s m ha hpath hruns _ hfree h0 hmax h4 => ?_, fun s _ hs => ?_, fun s m ha hpath hruns _ hs => ?_,
    fun s _ hs hpass => execCommitCheckDone_passed hs hpass, fun s e x _ hs hcheck he => execCommitCheckDone_failed hs hcheck he,
    fun s m ha _ hruns hm => ?_, fun s a m v ha hv _ hend hnow htrial => ?_, fun s m v hc ha hv _ hend hf => ?_, fun s a hon hend => ?_⟩
  · refine (State.inCore_on hon _ : execBootReady s = _).trans ?_
    simp only [hb, hcool, hchoose, Bool.false_eq_true, if_false]
  · refine (State.inCore_on hon _ : execBootReady s = _).trans ?_
    simp only [hb, hhot, if_true]
  · refine (State.inCore_on hon _ : execFwReady s = _).trans ?_
    simp only [hr, hchoose, Bool.true_eq_false, if_false]
  · subst hv
    exact State.rowWrite_ruled ha ((if_pos rfl).trans (State.coreWrite_acts hi _))
  · exact State.rowSlow_started ha hpath hruns (State.updBegin_ok hfree h0 hmax h4)
  · exact congrArg Host.Outcome.next (if_pos hs)
  · exact State.rowSlow_started ha hpath hruns (if_neg (not_not.mpr hs))
  · exact State.rowWrite_ruled ha ((if_neg (Bool.eq_false_iff.mp hruns)).trans (State.updAbort_ok hm))
  · subst hv
    exact State.rowWrite_ruled ha (ruleFwAccept_trial hend hnow htrial)
  · subst hv
    exact State.rowWrite_refused hc ha hf (by decide) (ruleFwAccept_none hend)
  · refine (State.inCore_on hon _ : execTrialEnd s = _).trans ?_
    simp only [hend]

end Sys2Proof.Machine
end

section
/-! PROOFS. Family 20_boot_firmware_update: the firmware's mailbox commands (R544). -/

set_option Elab.async false

namespace Sys2Proof.Machine

variable {s t : State}

/-- A message waits for the running firmware on a channel. -/
structure State.FirmwareMail (s : State) (n : Nat) : Prop where
  runs : s.firmwareRuns = true
  valid : Fld.BND_VALID.get (s.binding n) = 1
  receiver : Fld.BND_RECEIVER.get (s.binding n) = FW
  posted : s.get (Obj.MAILBOX_STATE n) = 1

/-- What the firmware does with a message that waits for it. -/
theorem State.firmwareTakes_mail {n : Nat} (h : s.FirmwareMail n) (code : Nat) (f : State → State) :
    s.firmwareTakes n code f = .next (
      if byteAt (s.mailBytes n) 0 = 0 ∨ 5 < byteAt (s.mailBytes n) 0 then s.firmwareAck n 1
      else if byteAt (s.mailBytes n) 0 ≠ code then s
      else if byteAt (s.mailBytes n) 1 ≠ 0 then s.firmwareAck n 2 else f s) := by
  obtain ⟨hruns, hvalid, hreceiver, hposted⟩ := h
  simp [State.firmwareTakes, hruns, hvalid, hreceiver, hposted]

theorem State.firmwareTakes_unknown {n : Nat} (h : s.FirmwareMail n) (code : Nat) (f : State → State)
    (hb : byteAt (s.mailBytes n) 0 = 0 ∨ 5 < byteAt (s.mailBytes n) 0) : s.firmwareTakes n code f = .next (s.firmwareAck n 1) :=
  (State.firmwareTakes_mail h code f).trans (congrArg Host.Outcome.next (if_pos hb))

theorem State.firmwareTakes_badByte {n code : Nat} (h : s.FirmwareMail n) (f : State → State) (hb : byteAt (s.mailBytes n) 0 = code)
    (hcode : 0 < code ∧ code ≤ 5) (h1 : byteAt (s.mailBytes n) 1 ≠ 0) : s.firmwareTakes n code f = .next (s.firmwareAck n 2) := by
  rw [State.firmwareTakes_mail h, if_neg (by omega), if_neg (not_not.mpr hb), if_pos h1]

/-- The command's own message is carried out. -/
theorem State.firmwareTakes_own {n code : Nat} (h : s.FirmwareMail n) {f : State → State} (hb : byteAt (s.mailBytes n) 0 = code)
    (hcode : 0 < code ∧ code ≤ 5) (h1 : byteAt (s.mailBytes n) 1 = 0) (hf : f s = t) : s.firmwareTakes n code f = .next t := by
  rw [State.firmwareTakes_mail h, if_neg (by omega), if_neg (not_not.mpr hb), if_neg (not_not.mpr h1), hf]

/-- A store that may start is started; it is acknowledged at its end. -/
theorem execPantryStore_starts {c : Fin 64} (h : s.FirmwareMail c) (hb : byteAt (s.mailBytes c) 0 = 3) (h1 : byteAt (s.mailBytes c) 1 = 0)
    (hnone : s.boot.pantry = none) (hok : (s.startPantry s.snapshotRecords (some c.val)).1 = .ok) :
    execPantryStore c s = .next (s.startPantry s.snapshotRecords (some c.val)).2 := by
  refine State.firmwareTakes_own h hb (by omega) h1 ?_
  obtain ⟨t, ht⟩ : ∃ t, s.startPantry s.snapshotRecords (some c.val) = (.ok, t) := ⟨_, Prod.ext hok rfl⟩
  simp [hnone, ht]

/-- Settles O59: each message as `State.firmwareTakes_mail` has it taken. -/
theorem firmwareServesItsMailboxes : Obligations.FirmwareServesItsMailboxes := by
  unfold Obligations.FirmwareServesItsMailboxes
  refine ⟨fun s c hr hv hrc hp hb h1 => ?_, fun s c hr hv hrc hp hb => ?_, fun s c hr hv hrc hp hb h1 => ?_,
    fun s c r hr hv hrc hp hb h1 hup => ?_, fun s c hr hv hrc hp hb h1 => ?_, fun s c hr hv hrc hp hb h1 hnone hok => ?_,
    fun s c hr hv hrc hp hb h1 hm => ?_, fun s c hr hv hrc hp hb h1 hh hs => ?_, fun s c a hr hv hrc hp hb h1 _ hend hnow htrial => ?_,
    fun s c hr hv hrc hp hb h1 hend _ => ?_⟩
  · exact (State.firmwareTakes_own ⟨hr, hv, hrc, hp⟩ hb (by omega) h1 rfl : execPing c s = _)
  · exact (State.firmwareTakes_unknown ⟨hr, hv, hrc, hp⟩ 1 _ hb : execPing c s = _)
  · exact (State.firmwareTakes_badByte ⟨hr, hv, hrc, hp⟩ _ hb (by omega) h1 : execPing c s = _)
  · change execPairReady c (some r) s = _
    refine State.firmwareTakes_own ⟨hr, hv, hrc, hp⟩ hb (by omega) h1 ?_
    cases r <;> simp [hup]
  · change execPairReady c none s = _
    refine State.firmwareTakes_own ⟨hr, hv, hrc, hp⟩ hb (by omega) h1 ?_
    simp
  · exact execPantryStore_starts ⟨hr, hv, hrc, hp⟩ hb h1 hnone hok
  · exact (State.firmwareTakes_own ⟨hr, hv, hrc, hp⟩ hb (by omega) h1 (if_pos hm) : execRestart c s = _)
  · exact (State.firmwareTakes_own ⟨hr, hv, hrc, hp⟩ hb (by omega) h1 (if_neg (not_or.mpr ⟨hh, hs⟩)) : execRestart c s = _)
  · change execAccept c s = _
    refine State.firmwareTakes_own ⟨hr, hv, hrc, hp⟩ hb (by omega) h1 ?_
    rw [ruleFwAccept_trial hend hnow htrial]
  · change execAccept c s = _
    refine State.firmwareTakes_own ⟨hr, hv, hrc, hp⟩ hb (by omega) h1 ?_
    rw [ruleFwAccept_none hend]

end Sys2Proof.Machine
end

section
/-! PROOFS. Family 17_protection_pair: the tests of the proof engine and the firmware's heartbeat (R479, R481). -/

set_option Elab.async false

namespace Sys2Proof.Machine

variable {s t : State}

theorem execLogicBist_next {i : Nat} {failed : Bool} (hc : s.CoreOn)
    (hi : (List.range 64).find? (fun i => s.outsideMask ((s.pair.nextLbist + i) % 64)) = some i) {w : State}
    (hw : w = (s.withPair { s.pair with nextLbist := ((s.pair.nextLbist + i) % 64 + 1) % 64, lbist := Table.put (fun _ => 0) s.pair.lbist ((s.pair.nextLbist + i) % 64) s.time.now }).bump Obj.PROOF_LBIST_RUNS) :
    execLogicBist failed s = .next (if failed then ((w.fail 1).raise 0x9302 uMGMT 0).showHealth else w) := by
  subst hw
  rw [execLogicBist, State.inCore_on hc, hi]

/-- The enabled lanes whose margin is below the bound. -/
def State.lowEyes (s : State) (l : List (Fin 292 × Nat)) : List (Fin 292 × Nat) :=
  l.filter fun m => s.laneEnabled m.1 && Nat.blt m.2 (s.get Obj.PROOF_EYE_MIN_PCT)

theorem execEyeCheck_low {l r : List (Fin 292 × Nat)} {x : Fin 292 × Nat} (hc : s.CoreOn) (hl : s.lowEyes l = x :: r) :
    execEyeCheck l s = .next ((((s.withPair { s.pair with mateEye := (x :: r).any fun m => Nat.ble 288 m.1.val }).fail 3).raise 0x9110
      uMGMT (packArg [(16, x.1.val)])).showHealth) := by
  rw [execEyeCheck, State.inCore_on hc, ← State.lowEyes, hl]

theorem execEyeCheck_good {l : List (Fin 292 × Nat)} (hc : s.CoreOn) (hl : s.lowEyes l = []) :
    execEyeCheck l s = .next (((s.withPair { s.pair with mateEye := false }).pass 3).showHealth) := by
  rw [execEyeCheck, State.inCore_on hc, ← State.lowEyes, hl]
  rfl

/-- Before the heartbeat's time is out its timeout does nothing, whether the core is on or not. -/
theorem execHeartbeatTimeout_early (h : s.time.now < s.pair.heartbeat + 4000000000) : execHeartbeatTimeout s = .next s := by
  have hearly : ¬ (s.pair.heartbeat + 4 * nsPerS ≤ s.time.now ∧ (s.get Obj.PROOF_FAIL_MAP).testBit 6 = false) := fun hdue => h.not_ge hdue.1
  rw [execHeartbeatTimeout, State.inCore, if_neg hearly, ite_self]

/-- Settles O49: each test is followed through its outcome. -/
theorem proofEngineTests : Obligations.ProofEngineTests := by
  unfold Obligations.ProofEngineTests
  refine ⟨fun s hc => (State.inCore_on hc _ : execMemoryBist false s = _), fun s hc => (State.inCore_on hc _ : execMemoryBist true s = _),
    fun s i hc hi => execLogicBist_next hc hi rfl, fun s i hc hi => execLogicBist_next hc hi rfl, fun s p hc hmask hdue => ?_,
    fun s l x r hc hl => execEyeCheck_low hc hl, fun s l hc hl => execEyeCheck_good hc hl,
    fun s m v ha => State.rowWrite_of_accepts ha _, fun s hc hdue hbit => ?_, fun s h => execHeartbeatTimeout_early h⟩
  · exact (State.inCore_on hc _ : execLbistOverdue p s = _).trans (congrArg Host.Outcome.next (if_pos ⟨hmask, hdue⟩))
  · exact (State.inCore_on hc _ : execHeartbeatTimeout s = _).trans (congrArg Host.Outcome.next (if_pos ⟨hdue, hbit⟩))

end Sys2Proof.Machine
end

section
/-! PROOFS. Family 17_protection_pair: the end of a mate cycle over an object table that is out of order (R466). -/

set_option Elab.async false

namespace Sys2Proof.Machine

/-- A pair that shows itself DEGRADED, and whose entry of ROLE (ACTIVE) stands out of order behind that of HEALTH: the role is not read
until HEALTH is back at its default and its entry gone. -/
def hiddenRole : State :=
  ((running.withObjs [(Obj.PAIR_CTRL_PAIR_ENABLE, 1), (Obj.PAIR_CTRL_HEALTH, 1), (Obj.PAIR_CTRL_ROLE, roleACTIVE)]).withPair
    { linkUp := true, highest := 5, heard := true, leaseEnd := 20000000 }).withTime
    { tai := 10000000, now := 10000000, shadow := 10000000, before := 9999999 }

/-- The table is not of the form that `Obligations.CanonicalTablesKept` is about. -/
theorem hiddenRole_not_canonical : ¬ hiddenRole.objsWf := by decide +kernel

/-- What the first clause has a cycle's end of a device that is not ACTIVE make of the state. -/
def hiddenRoleClaimed : State :=
  let u := (hiddenRole.withPair { hiddenRole.pair with cycleEnd := some hiddenRole.time.now }).showHealth
  let v := u.sendMate 3 0 (cycleNumber (hiddenRole.cycleNow - 1)) 0 u.healthReport
  v.withPair { v.pair with missed := 0, heard := false }

/-- The cycle's end shows the health, so that the role is read, and closes the journal as an active device does. -/
theorem hiddenRole_closesJournal : ∃ t, execMateCycle hiddenRole = .next t ∧ t.pair.unacked.length = 1 :=
  ⟨_, rfl, by decide +kernel⟩

/-- Refutes O47: its first clause, which asks for no canonical table, has a device that does not read ACTIVE close no journal. The device of
`hiddenRole` reads no role at the cycle's end, finds the role ACTIVE once its health is shown, and closes its journal. -/
theorem not_pairKeepsTimeAndRoles : ¬ Obligations.PairKeepsTimeAndRoles := by
  rintro ⟨hcycle, -⟩
  have hfire : (hiddenRole.fire 4).2 = hiddenRole := rfl
  have hclaim : execMateCycle hiddenRole = _ := hcycle hiddenRole hiddenRole hiddenRoleClaimed rfl (by decide +kernel) hfire.symm (by decide +kernel)
    (by decide) rfl (by decide +kernel) rfl rfl rfl rfl (by decide) (by decide) (by decide +kernel) rfl
  obtain ⟨t, hrun, hclosed⟩ := hiddenRole_closesJournal
  have ht : t = (hiddenRoleClaimed.elect hiddenRole.cycleNow).showWtr := Host.Outcome.next.inj (hrun.symm.trans hclaim)
  rw [ht] at hclosed
  exact absurd hclosed (by decide +kernel)

end Sys2Proof.Machine
end

section
/-! PROOFS. Family 17_protection_pair: the witness' commands, COMMAND and PAIR_ENABLE (R40, R467 to R469, R483, R487). -/

set_option Elab.async false

namespace Sys2Proof.Machine

variable {s t : State}

theorem State.roleIs_of_eq {r : Nat} (h : s.get Obj.PAIR_CTRL_ROLE = r) : s.roleIs r = true := Nat.beq_eq.mpr h

theorem State.roleIs_of_ne {r : Nat} (h : s.get Obj.PAIR_CTRL_ROLE ≠ r) : s.roleIs r = false :=
  Bool.eq_false_iff.mpr fun e => h (Nat.eq_of_beq_eq_true e)

theorem ruleWRenew_ok {v : Nat} (hb : s.boot.ready = true) (hr : s.get Obj.PAIR_CTRL_ROLE = roleACTIVE)
    (he : v / 2 ^ 32 = s.get Obj.PAIR_CTRL_EPOCH) (hk : s.cycleOf (v % 2 ^ 32) ≤ s.cycleNow) (hl : s.leaseValid = true)
    (hrel : s.pair.releasing = false) :
    ruleWRenew v s = (.ok, (s.renew (s.cycleOf (v % 2 ^ 32))).set Obj.WITNESS_W_LAST v) :=
  if_pos ⟨hb, State.roleIs_of_eq hr, he, hk, hl, hrel⟩

theorem ruleWRenew_refused {v : Nat}
    (h : s.get Obj.PAIR_CTRL_ROLE ≠ roleACTIVE ∨ v / 2 ^ 32 ≠ s.get Obj.PAIR_CTRL_EPOCH ∨ s.leaseValid = false) :
    ruleWRenew v s = (.invalid, s.bump Obj.WITNESS_W_REFUSED) := by
  refine if_neg fun ⟨_, hr, he, _, hl, _⟩ => ?_
  rcases h with h | h | h
  · exact h (Nat.eq_of_beq_eq_true hr)
  · exact h he
  · exact Bool.false_ne_true (h.symm.trans hl)

/-- A takeover by the witness as it is planned by a device that has acknowledged no copy. -/
def State.witnessPlanned (s : State) (v : Nat) : State :=
  let w := (s.set Obj.WITNESS_W_LAST v).adoptEpoch (v / 2 ^ 32)
  w.withPair { w.pair with
    takeover := some ⟨max (s.cycleStart (s.cycleNow + 1)) (s.cycleStart (s.cycleOf (v % 2 ^ 32) + 3 + s.longLease)), .witness, some (v / 2 ^ 32)⟩
    ackDue := none, granted := some (s.get Obj.PAIR_CTRL_EPOCH, w.cycleNow), expect := s.pair.expect }

theorem ruleWTakeover_ok {v : Nat} (hr : s.get Obj.PAIR_CTRL_ROLE = roleSTANDBY ∨ s.get Obj.PAIR_CTRL_ROLE = roleLAPSED)
    (hw : s.get Obj.PAIR_CTRL_WITNESS_MODE = 1) (he : epochHigher (v / 2 ^ 32) s.pair.highest = true) (ha : s.pair.acked = none) :
    ruleWTakeover v s = (.ok, s.witnessPlanned v) := by
  have hrole : (s.roleIs roleSTANDBY || s.roleIs roleLAPSED) = true :=
    Bool.or_eq_true_iff.mpr (hr.imp State.roleIs_of_eq State.roleIs_of_eq)
  refine (if_pos ⟨hrole, hw, he⟩).trans ?_
  rw [ha]
  rfl

theorem ruleWTakeover_refused {v : Nat} (he : epochHigher (v / 2 ^ 32) s.pair.highest = false) :
    ruleWTakeover v s = (.invalid, s.bump Obj.WITNESS_W_REFUSED) :=
  if_neg fun ⟨_, _, h⟩ => Bool.false_ne_true (he.symm.trans h)

theorem ruleCommand_handOver (hr : s.get Obj.PAIR_CTRL_ROLE = roleACTIVE) (hrel : s.pair.releasing = false) :
    ruleCommand 1 s = (.ok, s.handOver) := by
  simp [ruleCommand, State.roleIs_of_eq hr, hrel]

theorem ruleCommand_refused {v : Nat} (hr : s.get Obj.PAIR_CTRL_ROLE ≠ roleACTIVE) : ruleCommand v s = (.invalid, s) :=
  if_pos (.inr (State.roleIs_of_ne hr))

/-- The pair turned on or off: its work is dropped, and its role follows. -/
def State.pairTurned (s : State) (v role : Nat) : State :=
  let u := (s.commit Obj.PAIR_CTRL_PAIR_ENABLE v).set Obj.PAIR_CTRL_SYNC 0
  (u.withPair { u.pair with
    journal := [], fresh := [], ackDue := none, granted := none, unacked := [], takeover := none, releasing := false, selfRenew := false
    expect := none, acked := none, held := [], outstanding := [], bulk := none, ready := [], torn := false, journalFrom := none
    revertDue := false, gaveUp := false, run := 0, wtrStart := none }).setRole role

theorem rulePairEnable_on (h0 : s.get Obj.PAIR_CTRL_PAIR_ENABLE = 0) (hf : (s.pairTurned 1 roleSTANDBY).firmwareRuns = true) :
    rulePairEnable 1 s = (.ok, (s.pairTurned 1 roleSTANDBY).armMateCycle) :=
  (if_neg (by rw [h0]; exact Nat.one_ne_zero)).trans (congrArg (Prod.mk Status.ok) (if_pos ⟨rfl, hf⟩))

theorem rulePairEnable_off (h1 : s.get Obj.PAIR_CTRL_PAIR_ENABLE = 1) : rulePairEnable 0 s = (.ok, s.pairTurned 0 roleOFF) :=
  (if_neg (by rw [h1]; exact Nat.zero_ne_one)).trans (congrArg (Prod.mk Status.ok) (if_neg fun h => Nat.zero_ne_one h.1))

/-- Settles O48: each write as its rule answers it. -/
theorem pairIsCommanded : Obligations.PairIsCommanded := by
  unfold Obligations.PairIsCommanded
  refine ⟨fun s m v ha hb hr he hk hl hrel => State.rowWrite_ruled ha (ruleWRenew_ok hb hr he hk hl hrel),
    fun s m v ha h => State.rowWrite_ruled ha (ruleWRenew_refused h),
    fun s m v ha hr hw he hack => State.rowWrite_ruled ha (ruleWTakeover_ok hr hw he hack),
    fun s m v ha he => State.rowWrite_ruled ha (ruleWTakeover_refused he), fun s m v ha hv hr hrel => ?_,
    fun s m v hc ha hr hf => State.rowWrite_refused hc ha hf (by decide) (ruleCommand_refused hr), fun s m v ha hv h0 hf => ?_,
    fun s m v ha hv h1 => ?_⟩
  · subst hv
    exact State.rowWrite_ruled ha (ruleCommand_handOver hr hrel)
  · subst hv
    exact State.rowWrite_ruled ha (rulePairEnable_on h0 hf)
  · subst hv
    exact State.rowWrite_ruled ha (rulePairEnable_off h1)

end Sys2Proof.Machine
end

section
/-! PROOFS. Family 17_protection_pair: a partner's message over an object table that is out of order (R465, R489). -/

set_option Elab.async false

namespace Sys2Proof.Machine

/-- A standby whose entry of EPOCH (5) stands out of order behind that of PARTNER_EPOCH: the epoch is not read until PARTNER_EPOCH is back at
its default and its entry gone. -/
def hiddenEpoch : State :=
  (running.withObjs [(Obj.PAIR_CTRL_PAIR_ENABLE, 1), (Obj.PAIR_CTRL_ROLE, roleSTANDBY), (Obj.PAIR_CTRL_PARTNER_EPOCH, 7),
    (Obj.PAIR_CTRL_EPOCH, 5)]).withPair { linkUp := true, highest := 5 }

/-- The table is not of the form that `Obligations.CanonicalTablesKept` is about. -/
theorem hiddenEpoch_not_canonical : ¬ hiddenEpoch.objsWf := by decide +kernel

/-- A message of epoch 0, the epoch that the device reads before the message is noted. -/
def epochZero : MateHead := ⟨0, 0, 0, 0, 0⟩

theorem epochZero_epoch : epochZero.epoch = hiddenEpoch.get Obj.PAIR_CTRL_EPOCH := by decide +kernel

/-- Noting the partner's epoch 0 shows the own epoch 5, so the message counts as stale. -/
theorem hiddenEpoch_mateIn : (hiddenEpoch.mateIn false epochZero).1 = false ∧
    (hiddenEpoch.mateIn false epochZero).2.get Obj.PAIR_STATS_STALE_MESSAGES = 1 ∧
    (hiddenEpoch.mateIn false epochZero).2.pair.takeover = none := by decide +kernel

theorem execDigest_unhandled {s : State} {h : MateHead} (hin : (s.mateIn false h).1 = false) (r e d : Nat) :
    execDigest h r e d s = .next (s.mateIn false h).2 := by
  rw [execDigest, show s.mateIn false h = (false, (s.mateIn false h).2) from Prod.ext hin rfl]

theorem execRelease_unhandled {s : State} {h : MateHead} (hin : (s.mateIn false h).1 = false) :
    execRelease h s = .next (s.mateIn false h).2 := by
  rw [execRelease, show s.mateIn false h = (false, (s.mateIn false h).2) from Prod.ext hin rfl]

/-- Refutes O45: its clause of a digest that agrees, which asks for no canonical table, has a message of the epoch that the device reads
change nothing but PARTNER_EPOCH. At `hiddenEpoch` the message of epoch 0 is counted as stale. -/
theorem not_pairCopiesItsState : ¬ Obligations.PairCopiesItsState := by
  rintro ⟨-, -, -, hagrees, -⟩
  obtain ⟨hin, hstale, -⟩ := hiddenEpoch_mateIn
  have hclaim : execDigest epochZero 0 0 ((hiddenEpoch.set Obj.PAIR_CTRL_PARTNER_EPOCH (epochZero.epoch % 2 ^ 32)).digest 0) hiddenEpoch = _ :=
    hagrees hiddenEpoch epochZero 0 0 _ rfl rfl (by decide +kernel) epochZero_epoch (by decide +kernel) rfl
  have ht := Host.Outcome.next.inj ((execDigest_unhandled hin _ _ _).symm.trans hclaim)
  rw [ht] at hstale
  exact absurd hstale (by decide +kernel)

/-- Refutes O46: its clause of a RELEASE at a standby, which asks for no canonical table, has a message of the epoch that the device reads
plan a takeover. At `hiddenEpoch` the message of epoch 0 is stale and plans none. -/
theorem not_pairMessagesAreActedOn : ¬ Obligations.PairMessagesAreActedOn := by
  rintro ⟨-, hrelease, -⟩
  obtain ⟨hin, -, hnone⟩ := hiddenEpoch_mateIn
  have hclaim : execRelease epochZero hiddenEpoch = _ :=
    hrelease hiddenEpoch epochZero rfl rfl (by decide +kernel) epochZero_epoch (by decide +kernel) (by decide)
  have ht := Host.Outcome.next.inj ((execRelease_unhandled hin).symm.trans hclaim)
  rw [ht] at hnone
  exact absurd hnone (Option.some_ne_none _)

end Sys2Proof.Machine
end

section
/-! PROOFS. Family 18_power_states: parts deepen and wake (R497, R498, R500 to R505, R510). -/

set_option Elab.async false

namespace Sys2Proof.Machine

variable {s t : State}

/-- A write whose rule stores the value and does no more. -/
theorem State.rowWrite_stored (hc : s.Canonical) {m key v : Nat} (ha : s.Accepts m key v) (hf : s.sec.fusing = none)
    {rule : State → Res} (hr : rule s = (.ok, s.commit key v)) (hk : key % 0x1000000 ≠ 0x111007) :
    ∃ t, s.rowWrite m key v rule = .next t ∧ t.get key = v ∧ t.Answered m key .ok ∧
      Frame (keysOf [key]) noKey [.pair, .dict, .sent] s t :=
  ⟨_, State.rowWrite_applied ha hr (by rw [State.commit_sec, hf]) hk, by rw [State.get_applied, State.get_commit_self hc.1],
    State.answered_applied _ _ _, ((Within.refl s).commit.applied).frame hc⟩

/-- A client other than a sector has one part, and what is done to its parts is done to that one. -/
theorem forEach_parts {c : Nat} (h : clientKind c ≠ .sector) (f : State → Nat → State) :
    forEach (List.range (partsOf c)) s f = f s 0 := by
  rw [partsOf, if_neg h]
  rfl

/-- The state that an evaluation has the part enter next. -/
def State.nextDeeper (s : State) (c i : Nat) : Option Nat :=
  [1, 2, 3].find? fun x => Nat.blt (s.part c i).state x && Nat.ble x (s.choosePower c i) && s.stateAllowed c i x

/-- A part at rest of a client that is not a sector: an evaluation deepens it, or holds it. -/
theorem State.evaluatePart_rest {c i n : Nat} (hk : clientKind c ≠ .sector) (he : (s.part c i).entering = none)
    (hw : (s.part c i).waking = none) (hb : (s.part c i).blocked = false) (hn : s.nextDeeper c i = some n) :
    s.evaluatePart c i = match s.barsEntry (s.part c i) n with
      | some (level, u) => s.setPart c i { s.part c i with holdUntil := u, holdLevel := level }
      | none => s.setPart c i { s.part c i with entering := some (n, s.time.now + entryNs n) } := by
  rw [State.nextDeeper] at hn
  simp only [State.evaluatePart, hw, hb, he, hk, hn, Option.isSome_none, Bool.false_eq_true, false_or, false_and, and_false, if_false] <;>
    rfl

theorem execPowerEvaluate_one {c : Fin 144} (hon : s.CoreOn) (hcl : s.isClient c = true) (hk : clientKind c ≠ .sector) :
    execPowerEvaluate c s = .next (s.evaluatePart c 0) := by
  rw [execPowerEvaluate, State.inCore_on hon, if_neg (by simp [hcl]), forEach_parts hk]

/-- A sector's part in an OFF that is not allowed to it any longer wakes. -/
theorem State.evaluatePart_wakes {c i : Nat} (hw : (s.part c i).waking = none) (hb : (s.part c i).blocked = false)
    (hd : (s.part c i).deep = 3) (hk : clientKind c = .sector) (hn : s.stateAllowed c i 3 = false) :
    s.evaluatePart c i = s.wakePart c i := by
  simp [State.evaluatePart, hw, hb, hd, hk, hn]

theorem execPowerEntryDone_due {c : Fin 144} {i : Fin 7} {n a : Nat} (hon : s.CoreOn) (he : (s.part c i).entering = some (n, a))
    (ha : a ≤ s.time.now) {w : State}
    (hw : w = (s.setPart c i { s.part c i with state := n, entering := none }).bump (Obj.POWER_CLIENT_TRANSITIONS c)) :
    execPowerEntryDone c i s = .next ((if c.val < 128 ∧ n = 3 then w.portOff c else w).showPower c) := by
  subst hw
  rw [execPowerEntryDone, State.inCore_on hon]
  simp only [he, Nat.not_lt.mpr ha, if_false]

theorem execWakeDone_due {c : Fin 144} {i : Fin 7} {a : Nat} (hon : s.CoreOn) (hw : (s.part c i).waking = some a) (ha : a ≤ s.time.now)
    (he : (s.part c i).entering = none) (hs : (s.part c i).state ≠ 0) (hc : 128 ≤ c.val) :
    execWakeDone c i s = .next (((s.setPart c i { s.part c i with state := 0, waking := none, idleSince := s.time.now }).bump
      (Obj.POWER_CLIENT_TRANSITIONS c)).showPower c) := by
  rw [execWakeDone, State.inCore_on hon]
  simp only [hw, he, hs, Nat.not_lt.mpr ha, Nat.not_lt.mpr hc, Option.isSome_none, Bool.false_eq_true, false_and, or_false, if_false]

/-- A tolerance written for a client that is not a sector: its part wakes when the write puts it below the wake time. -/
theorem ruleLatTol_one {c v : Nat} (hk : clientKind c ≠ .sector) :
    ruleLatTol c v s = (.ok, if v < wakeNs (clientKind c) (s.part c 0).deep ∧
        wakeNs (clientKind c) (s.part c 0).deep ≤ s.get (Obj.POWER_CLIENT_LAT_TOL_NS c) then
      (s.commit (Obj.POWER_CLIENT_LAT_TOL_NS c) v).wakePart c 0 true else s.commit (Obj.POWER_CLIENT_LAT_TOL_NS c) v) := by
  have hpart : (s.commit (Obj.POWER_CLIENT_LAT_TOL_NS c) v).part c 0 = s.part c 0 := by simp [State.part]
  rw [ruleLatTol, forEach_parts hk, hpart]

theorem rulePwrReq_run {c : Nat} (hk : clientKind c ≠ .sector) :
    rulePwrReq c 0 s = (.ok, (s.commit (Obj.POWER_CLIENT_PWR_REQ c) 0).wakePart c 0) :=
  (if_neg fun h => h.1 rfl).trans (congrArg (Prod.mk Status.ok) ((if_pos rfl).trans (forEach_parts hk _)))

theorem rulePwrReq_off {c : Nat} (hk : clientKind c ≠ .sector) : rulePwrReq c 3 s = (.ok, s.commit (Obj.POWER_CLIENT_PWR_REQ c) 3) :=
  if_neg fun h => h.2.elim (fun h => h rfl) hk

theorem rulePwrReq_sector {c : Nat} (hk : clientKind c = .sector) : rulePwrReq c 3 s = (.invalid, s) := if_pos ⟨by decide, .inr hk⟩

/-- Neither is the write that disables a ring. -/
theorem powerClient_key (c : Fin 144) : Obj.POWER_CLIENT_LAT_TOL_NS c % 0x1000000 ≠ 0x111007 ∧
    Obj.POWER_CLIENT_PWR_REQ c % 0x1000000 ≠ 0x111007 := by
  simp only [Obj.POWER_CLIENT_LAT_TOL_NS, Obj.POWER_CLIENT_PWR_REQ, objKey]
  omega

/-- Settles O50: each command as it treats the one part that its clause names. -/
theorem partsDeepenAndWake : Obligations.PartsDeepenAndWake := by
  unfold Obligations.PartsDeepenAndWake
  refine ⟨fun s c n hon hcl hk he hw hb hn hbar => ?_, fun s c n x y hon hcl hk he hw hb hn hbar => ?_,
    fun s c i hw hb hd hk hn => State.evaluatePart_wakes hw hb hd hk hn, fun s c i n a hon he ha hnot => ?_,
    fun s c i a hon he ha hc => ?_, fun s c i a hon hw ha he hs hc => execWakeDone_due hon hw ha he hs hc,
    fun s c m v ha hk hv ho => ?_, fun s c m v hc ha hk hv hf => ?_, fun s c m v ha hv hk _ => ?_,
    fun s c m v hc ha hv hk _ hf => ?_, fun s c m v hc ha hv hk hf => ?_, fun s c hon hk h0 hend => ?_⟩
  · exact (execPowerEvaluate_one hon hcl hk).trans (by rw [State.evaluatePart_rest hk he hw hb hn, hbar])
  · exact (execPowerEvaluate_one hon hcl hk).trans (by rw [State.evaluatePart_rest hk he hw hb hn, hbar])
  · exact (execPowerEntryDone_due hon he ha rfl).trans (by rw [if_neg hnot])
  · exact (execPowerEntryDone_due hon he ha rfl).trans (by rw [if_pos ⟨hc, rfl⟩])
  · exact State.rowWrite_ruled ha ((ruleLatTol_one hk).trans (congrArg (Prod.mk Status.ok) (if_pos ⟨hv, ho⟩)))
  · exact State.rowWrite_stored hc ha hf ((ruleLatTol_one hk).trans (congrArg (Prod.mk Status.ok) (if_neg fun h => hv.not_gt h.1)))
      (powerClient_key c).1
  · subst hv
    exact State.rowWrite_ruled ha (rulePwrReq_run hk)
  · subst hv
    exact State.rowWrite_stored hc ha hf (rulePwrReq_off hk) (powerClient_key c).2
  · subst hv
    exact State.rowWrite_refused hc ha hf (by decide) (rulePwrReq_sector hk)
  · refine (State.inCore_on hon _ : execPrewakeHoldEnd c s = _).trans (congrArg Host.Outcome.next ?_)
    rw [forEach_parts hk]
    exact if_pos ⟨h0, hend⟩

end Sys2Proof.Machine
end

section
/-! PROOFS. Family 03_tables: an insertion whose RESULT is no pointer (R98, R126). -/

set_option Elab.async false

namespace Sys2Proof.Machine

/-- EM_INSERT into table 3 of key 5 in its last word, with RESULT 0x0100004D: a reserved bit of a pointer is set. -/
def badPointerJob : Job :=
  { sq := 5, index := 2, bytes := ([0, 16] ++ List.replicate 14 0 ++ [3, 0, 0, 0, 1, 0, 0, 77] ++ List.replicate 7 0 ++ [5] ++ List.replicate 32 0).map toByte }

/-- Table 3 enabled with one bank and KIND at its default, 0, and that job waiting. -/
def badPointer : State :=
  (withObjs' [(Obj.SQ_CONFIG_SQ_ENABLE 5, 1), (Obj.SQ_CONFIG_SQ_SIZE 5, 6), (Obj.SQ_CONFIG_SQ_CQ 5, 9), (Obj.SQ_CONFIG_SQ_STATE 5, 1),
    (Obj.CQ_CONFIG_CQ_ENABLE 9, 1), (Obj.CQ_CONFIG_CQ_SIZE 9, 6), (Obj.CQ_CONFIG_CQ_STATE 9, 1), (Obj.EM_TABLE_ENABLE 3, 1),
    (Obj.EM_TABLE_BANK_COUNT 3, 1)] running).withHost { jobs := [badPointerJob] }

/-- The statuses of the jobs that have ended. -/
def State.endedJobs (s : State) : List Nat := s.host.jobs.filterMap fun j => j.done.map (·.1)

/-- The job ends INVALID. -/
theorem badPointer_invalid : ∃ t, execEmInsert 5 2 [] ⟨none, true, true⟩ badPointer = .next t ∧ t.endedJobs = [Status.invalid.code] :=
  ⟨_, rfl, by decide +kernel⟩

/-- Refutes O22: its clause of EM_INSERT bounds RESULT for KIND 2 alone, but in a table of KIND 0 a RESULT must be a pointer, and in one of
KIND 1 below 2^17. The job of `badPointer` meets the clause's hypotheses and ends INVALID, where the clause has it inserted. -/
theorem not_exactMatchJobsRun : ¬ Obligations.ExactMatchJobsRun := by
  rintro ⟨hinsert, -⟩
  have hclaim : execEmInsert 5 2 [] ⟨none, true, true⟩ badPointer = _ :=
    hinsert badPointer 5 2 badPointerJob ⟨none, true, true⟩ rfl (by decide +kernel) (by decide +kernel) (by decide +kernel)
      (by decide +kernel) (by decide +kernel) (by decide +kernel) (by decide +kernel) (by decide +kernel) (by decide +kernel)
  obtain ⟨t, hrun, hended⟩ := badPointer_invalid
  rw [Host.Outcome.next.inj (hrun.symm.trans hclaim)] at hended
  exact absurd hended (by decide +kernel)

end Sys2Proof.Machine
end

section
/-! PROOFS. Family 03_tables: jobs of routes and labels (R108 to R113, R124, R126). -/

set_option Elab.async false

namespace Sys2Proof.Machine

variable {s t : State}

/-- A startable job runs and ends with what it answers. -/
theorem State.runJob_ends {sq index opcode : Nat} {dma : Dma} {f : Job → State → Option JobRes} {j : Job} {st : Status} {ret : Nat}
    (hon : s.CoreOn) (hj : s.startable sq index opcode = some j) (hf : f j s = some (st, ret, t)) :
    s.runJob sq index opcode dma f = .next (t.endJob j dma st ret) := by
  rw [State.runJob, State.inCore_on hon, hj]
  dsimp only
  rw [hf]

/-- A legal job on a table, its turn come and no upset met, of a device that may change the table where the job changes it. -/
theorem State.tableJob_ends {k : TableJob} {sq index opcode : Nat} {dma : Dma} {f : Job → State → Option JobRes} {j : Job} {st : Status}
    {ret : Nat} (hon : s.CoreOn) (hj : s.startable sq index opcode = some j) (ht : s.tableTurn j = true) (hl : k.legal s j = true)
    (hc : k.changes j = false ∨ s.isStandby = false) (hf : f j s = some (st, ret, t)) :
    s.tableJob k sq index opcode [] dma f = .next (t.endJob j dma st ret) := by
  refine State.runJob_ends hon hj ?_
  have hchange : ¬ (k.changes j = true ∧ s.isStandby = true) := by
    rintro ⟨hk, hs⟩
    exact hc.elim (fun h => Bool.false_ne_true (h.symm.trans hk)) fun h => Bool.false_ne_true (h.symm.trans hs)
  dsimp only
  rw [if_neg (by simp [ht]), if_neg (by simp [hl]), if_neg hchange]
  exact hf

/-- A read of a label in range, by a job whose turn it is, with no upset met. -/
theorem execLabelRead_ends {q : Fin 1024} {i : Nat} {j : Job} {dma : Dma} (hon : s.CoreOn) (hj : s.startable q i 0x1A = some j)
    (ht : s.tableTurn j = true) (hz : zeroBytes j.bytes [(16, 4), (24, 40)] = true) (hlabel : j.label < 1048576) :
    execLabelRead q i [] dma s = .next (if bits (s.dom Dom.LABEL_TABLE j.label) 63 1 = 1 then
      s.finishJob j dma .ok (s.dom Dom.LABEL_TABLE j.label) else s.finishJob j dma .notFound 0) := by
  rw [execLabelRead, State.inCore_on hon, hj]
  dsimp only
  rw [if_neg (by simp [ht]), if_neg (by simp [hz, hlabel])]
  rfl

/-- Settles O23: each job as `State.tableJob_ends` runs it; a read of a label by itself. -/
theorem routeAndLabelJobsRun : Obligations.RouteAndLabelJobsRun := by
  unfold Obligations.RouteAndLabelJobsRun
  refine ⟨fun s q i j dma hon hj ht hstandby hz => ?_, fun s q i j dma hon hj ht hstandby hz => ?_,
    fun s q i j dma r hon hj ht hz hroute hr _ => ?_, fun s q i j dma hon hj ht hz hroute hr => ?_,
    fun s q i j dma r n hon hj ht hz hroute hr => ?_, fun s q i j dma hon hj ht hstandby hz hlabel hst => ?_,
    fun s q i j dma hon hj ht hz hlabel hv => ?_, fun s q i j dma hon hj ht hz hlabel hv => ?_⟩
  · exact (State.tableJob_ends hon hj ht hz (.inr hstandby) rfl : execRouteAdd q i [] dma s = _)
  · exact (State.tableJob_ends hon hj ht hz (.inr hstandby) rfl : execRouteDelete q i [] dma s = _)
  · exact (State.tableJob_ends (st := .ok) (ret := r) (t := s) hon hj ht (by simp [hz, hroute]) (.inl rfl) (by simp [hr]) :
      execRouteRead q i [] dma s = _)
  · exact (State.tableJob_ends (st := .notFound) (ret := 0) (t := s) hon hj ht (by simp [hz, hroute]) (.inl rfl) (by simp [hr]) :
      execRouteRead q i [] dma s = _)
  · exact (State.tableJob_ends (st := .ok) (ret := n * 2 ^ 32 + r) (t := s) hon hj ht (by simp [hz, hroute]) (.inl rfl) (by simp [hr]) :
      execRouteMatch q i [] dma s = _)
  · exact (State.tableJob_ends hon hj ht (by simp [hz, hlabel, hst]) (.inr hstandby) rfl : execLabelWrite q i [] dma s = _)
  · exact (execLabelRead_ends hon hj ht hz hlabel).trans (congrArg Host.Outcome.next (if_pos hv))
  · exact (execLabelRead_ends hon hj ht hz hlabel).trans (congrArg Host.Outcome.next (if_neg (by rw [hv]; exact Nat.zero_ne_one)))

end Sys2Proof.Machine
end

section
/-! PROOFS. Family 03_tables: jobs on the TCAM (R115 to R122, R124 to R126). -/

set_option Elab.async false

namespace Sys2Proof.Machine

variable {s t : State}

theorem State.tcamWrite_ok {n pos image : Nat} (he : s.on (Obj.TCAM_TABLE_ENABLE n) = true) (hp : pos < s.tcamPositions n)
    (hi : tcamImageOk (s.tcamWidth n) image = true) : s.tcamWrite n pos image =
      (.ok, 0, (s.assocWritten (s.tcamAddr n pos)).tcamPut (s.tcamAddr n pos) (tcamOfImage image)) :=
  if_neg (by simp [he, hp, hi])

theorem State.tcamInvalidate_of_position {n pos : Nat} (he : s.on (Obj.TCAM_TABLE_ENABLE n) = true) (hp : pos < s.tcamPositions n) :
    s.tcamInvalidate n pos = if (s.tcamAt (s.tcamAddr n pos)).valid then
        (.ok, 0, s.tcamPut (s.tcamAddr n pos) { s.tcamAt (s.tcamAddr n pos) with valid := false })
      else (.notFound, 0, s) :=
  if_neg (by simp [he, hp])

/-- Settles O25: each job as `State.tableJob_ends` runs it. -/
theorem tcamJobsRun : Obligations.TcamJobsRun := by
  unfold Obligations.TcamJobsRun
  refine ⟨fun s q i j dma d hon hj ht hstandby htable hz hd hlen he hp hi => ?_, fun s q i j dma hon hj ht htable hz he hp hgood hdma => ?_,
    fun s q i j dma hon hj ht htable hz he hp hbad => ?_, fun s q i j dma hon hj ht hstandby htable hz he hp hv => ?_,
    fun s q i j dma hon hj ht hstandby htable hz he hp hv => ?_, fun s q i j dma hon hj ht hstandby htable hz => ?_⟩
  · change execTcamWrite q i [] dma s = .next (State.endJob _ j dma .ok 0)
    refine State.tableJob_ends hon hj ht (by simp [htable, hz]) (.inr hstandby) ?_
    rw [hd]
    exact (if_pos hlen).trans (congrArg some (State.tcamWrite_ok he hp hi))
  · exact (State.tableJob_ends hon hj ht (by simp [htable, hz, he, hp]) (.inl rfl)
      ((if_neg (by rw [hgood]; exact Bool.false_ne_true)).trans (if_pos hdma)) : execTcamRead q i [] dma s = _)
  · exact (State.tableJob_ends hon hj ht (by simp [htable, hz, he, hp]) (.inl rfl) (if_pos hbad) : execTcamRead q i [] dma s = _)
  · exact (State.tableJob_ends hon hj ht (by simp [htable, hz]) (.inr hstandby)
      (congrArg some ((State.tcamInvalidate_of_position he hp).trans (if_pos hv))) : execTcamInvalidate q i [] dma s = _)
  · exact (State.tableJob_ends hon hj ht (by simp [htable, hz]) (.inr hstandby)
      (congrArg some ((State.tcamInvalidate_of_position he hp).trans (if_neg (Bool.eq_false_iff.mp hv)))) :
      execTcamInvalidate q i [] dma s = _)
  · exact (State.tableJob_ends hon hj ht (by simp [htable, hz]) (.inr hstandby) rfl : execTcamMove q i [] dma s = _)

end Sys2Proof.Machine
end

section
/-! PROOFS. Family 14_host_interface: a DOMAIN_READ of a region that is being moved (R355, R376, R401). -/

set_option Elab.async false

namespace Sys2Proof.Machine

/-- DOMAIN_READ of entry 0 of QUEUE_COUNTERS. -/
def countersJob : Job :=
  { sq := 5, index := 2, bytes := ([0, 3] ++ List.replicate 14 0 ++ [0x74, 0x04] ++ List.replicate 46 0).map toByte }

/-- That job waits while a slow write of the ORDER of region 1, in which the counters lie, runs. -/
def movedCounters : State :=
  let s := (withObjs' [(Obj.SQ_CONFIG_SQ_ENABLE 5, 1), (Obj.SQ_CONFIG_SQ_SIZE 5, 6), (Obj.SQ_CONFIG_SQ_CQ 5, 9), (Obj.SQ_CONFIG_SQ_STATE 5, 1),
    (Obj.CQ_CONFIG_CQ_ENABLE 9, 1), (Obj.CQ_CONFIG_CQ_SIZE 9, 6), (Obj.CQ_CONFIG_CQ_STATE 9, 1)] running).withHost { jobs := [countersJob] }
  s.withDict { s.dict with slow := [⟨HOST, Obj.HBM_REGION_ORDER 1, .window⟩] }

theorem countersJob_row : (domRow (wordAt countersJob.bytes 16 2)).isSome = true := by decide +kernel

theorem movedCounters_waits : movedCounters.domWaits (wordAt countersJob.bytes 16 2) = true := by decide +kernel

/-- The job does not end before the slow write does. -/
theorem movedCounters_unended : ∃ t, execDomainRead 5 2 ⟨none, true, true⟩ movedCounters = .next t ∧ t.endedJobs = [] :=
  ⟨_, rfl, by decide +kernel⟩

/-- What is read OK. -/
theorem State.domRead_of_ok {s : State} {m d e : Nat} (h : (s.domRead m d e).1 = .ok) :
    s.domRead m d e = (.ok, (s.domRead m d e).2.1, (s.domRead m d e).2.2) := by
  rw [← h]

/-- Refutes O34: its clause of DOMAIN_READ does not ask that the entry's region is free. The job of `movedCounters` could read its entry and
waits for the end of the slow write, where the clause has it ended OK. -/
theorem not_dictionaryJobsRun : ¬ Obligations.DictionaryJobsRun := by
  rintro ⟨-, -, -, -, -, -, hread, -⟩
  have hok : (movedCounters.domRead (movedCounters.jobMaster 5) (wordAt countersJob.bytes 16 2) (wordAt countersJob.bytes 20 4)).1 = .ok := by
    decide +kernel
  have hclaim : execDomainRead 5 2 ⟨none, true, true⟩ movedCounters = _ :=
    hread movedCounters 5 2 countersJob ⟨none, true, true⟩ ((domRow (wordAt countersJob.bytes 16 2)).get countersJob_row) _ _ rfl
      (by decide +kernel) (by decide +kernel) (Option.some_get countersJob_row).symm (State.domRead_of_ok hok) rfl
  obtain ⟨t, hrun, hended⟩ := movedCounters_unended
  rw [Host.Outcome.next.inj (hrun.symm.trans hclaim)] at hended
  exact absurd hended (by decide +kernel)

end Sys2Proof.Machine
end

section
/-! PROOFS. Family 14_host_interface: packets sent and received by the host (R404 to R408). -/

set_option Elab.async false

namespace Sys2Proof.Machine

/-- A report that is taken leaves none of its job. -/
theorem reports_taken {q : Fin 1024} {i : Nat} {r : TxReport} (hq : r.sq = q) (hi : r.index = i) :
    ([r].filter fun x => !(Nat.beq x.sq q && Nat.beq x.index i)) = [] := by
  simp [hq, hi]

/-- TX_STAMP of the one report there is. -/
theorem State.txStamp_reports {s : State} {q : Fin 1024} {i : Nat} {dma : Dma} {r : TxReport} {j : Job} (hon : s.CoreOn)
    (hr : s.host.reports = [r]) (hq : r.sq = q) (hi : r.index = i) (hj : s.host.jobs.find? (Job.isAt q i) = some j)
    (ho : j.opcode = 0x20) (hs : j.started = true) :
    execTxStamp q i dma s = .next (let s' := s.withHost { s.host with reports := [] }
      match r.stamp with
      | none => s'.finishJob j dma .ok 2
      | some t => if dma.ok then (s'.jobWrite j (wordAt j.bytes 40 8) (stampRecord t)).finishJob j dma .ok 0 else s'.dmaFailed j dma) := by
  have hfind : [r].find? (fun x => Nat.beq x.sq q && Nat.beq x.index i) = some r := by simp [hq, hi]
  refine (State.inCore_on hon _ : execTxStamp q i dma s = _).trans (congrArg Host.Outcome.next ?_)
  simp only [hr, hfind, hj, ho, hs, reports_taken hq hi, ne_eq, not_true_eq_false, Bool.true_eq_false, or_self, if_false] <;>
    rfl

/-- The one packet that waits for the host, with a buffer of its class posted, is the one delivered. -/
theorem State.hpBuffers_oldest {s : State} {k : Pkt} {j : Job} (hj : (s.hpBuffers k.cls).head? = some j) :
    ∃ js, s.hpBuffers k.cls = j :: js ∧ [k].find? (fun x => !(s.hpBuffers x.cls).isEmpty) = some k ∧
      ([k].filter fun x => !Nat.beq x.id k.id) = [] := by
  obtain ⟨js, hjs⟩ := List.head?_eq_some_iff.1 hj
  exact ⟨js, hjs, by simp [hjs], by simp⟩

/-- Settles O35: each job ends by the branch of its command that the hypotheses of its clause choose. -/
theorem hostPacketsAreSentAndDelivered : Obligations.HostPacketsAreSentAndDelivered := by
  refine ⟨?_, ?_, ?_, ?_, ?_, ?_, ?_, ?_, ?_, ?_⟩
  · intro s q i j dma d hon hj hl hd hlen hmode hfn hlink hreset
    refine (State.inCore_on hon _ : execPktTx q i dma s = _).trans (congrArg Host.Outcome.next ?_)
    simp only [hj, hl, hd, hlen, hfn, hmode, ne_eq, not_true_eq_false, false_and, Bool.true_eq_false, if_false, Nat.beq, if_true]
    exact if_neg (show ¬ (s.ev.d2dFailed || s.boot.resets.contains 33) = true by rw [hlink, hreset]; decide)
  · intro s q i j dma d hon hj hl hd hlen hmode hflags
    refine (State.inCore_on hon _ : execPktTx q i dma s = _).trans (congrArg Host.Outcome.next ?_)
    have hbit : bit 0 0 = false ∧ bit 0 1 = false := by decide
    simp only [hj, hl, hd, hlen, hmode, hflags, hbit, ne_eq, not_true_eq_false, Bool.true_eq_false, if_false, Nat.beq, Bool.false_eq_true, or_self,
      and_false]
    rfl
  · intro s q i j dma d hon hj hl hd hlen hmode hflags
    refine (State.inCore_on hon _ : execPktTx q i dma s = _).trans (congrArg Host.Outcome.next ?_)
    have hbit : bit 1 0 = true ∧ bit 1 1 = false := by decide
    simp only [hj, hl, hd, hlen, hmode, hflags, hbit, ne_eq, not_true_eq_false, Bool.true_eq_false, if_false, Nat.beq, Bool.false_eq_true, or_self,
      and_false, if_true]
    rfl
  · intro s q i j dma hon hj hfn hkind
    refine (State.inCore_on hon _ : execPktTx q i dma s = _).trans (congrArg Host.Outcome.next ?_)
    simp only [hj]
    exact if_pos ⟨hfn, hkind.imp_left fun h => by rw [h]; rfl⟩
  · intro s q i a dma r j hon hr hq hi hj ho hs hstamp hok
    refine (State.txStamp_reports hon hr hq hi hj ho hs : execTxStamp q i dma s = _).trans ?_
    simp only [hstamp, hok, if_true]
  · intro s q i dma r j hon hr hq hi hj ho hs hstamp
    refine (State.txStamp_reports hon hr hq hi hj ho hs : execTxStamp q i dma s = _).trans ?_
    simp only [hstamp]
  · intro s q i j dma hon hj hz hmod hmin hmax haddr
    refine (State.inCore_on hon _ : execRxBuffer q i dma s = _).trans (congrArg Host.Outcome.next ?_)
    simp only [hj]
    exact if_pos ⟨hz, hmod, hmin, hmax, haddr⟩
  · intro s q i j dma hon hj hbad
    refine (State.inCore_on hon _ : execRxBuffer q i dma s = _).trans (congrArg Host.Outcome.next ?_)
    simp only [hj]
    exact if_neg fun ⟨_, hmod, hmin, hmax, haddr⟩ => by omega
  · intro s dma k j hon hk hj hlen hok
    obtain ⟨js, hjs, hfind, hrest⟩ := State.hpBuffers_oldest hj
    refine (State.inCore_on hon _ : execRxDeliver dma s = _).trans (congrArg Host.Outcome.next ?_)
    simp only [hk, hfind, hjs, hrest, if_neg (Nat.not_lt.2 hlen), hok, if_true]
  · intro s dma k j hon hk hj hlen
    obtain ⟨js, hjs, hfind, hrest⟩ := State.hpBuffers_oldest hj
    refine (State.inCore_on hon _ : execRxDeliver dma s = _).trans (congrArg Host.Outcome.next ?_)
    simp only [hk, hfind, hjs, hrest, if_pos hlen]

end Sys2Proof.Machine
end

section
/-! PROOFS. Family 14_host_interface: doorbells, the push window, fetching and completion rings (R393 to R400, R411, R412, R414). -/

set_option Elab.async false

namespace Sys2Proof.Machine

/-- A visit 2 ns or more after the last is not too early. -/
theorem State.fetchVisit_due {s : State} (h : s.host.visitAt.all (fun b => Nat.ble (b + 2) s.time.now) = true) :
    ¬ (match s.host.visitAt with | some t => Nat.blt s.time.now (t + 2) | none => false) = true := by
  cases hv : s.host.visitAt with
  | none => simp
  | some t => simpa [hv] using h

/-- CQ_STASH_DRAIN with an entry to write and room for it. -/
theorem State.cqStashDrain_writes {s : State} {q : Fin 1024} {ok : Bool} (hon : s.CoreOn)
    (he : s.get (Obj.CQ_CONFIG_CQ_ENABLE q) ≠ 0) (hst : s.get (Obj.CQ_CONFIG_CQ_STATE q) ≠ 3) (hb : s.boundTables q = [])
    (hs : (s.cq q).stash ≠ []) (hroom : 0 < s.cqRoom q) (hd : (s.cq q).drained.all (fun b => Nat.ble (b + 4) s.time.now) = true) :
    execCqStashDrain q ok s = .next (if ok then s.drainDue q else s.cqError q) := by
  obtain ⟨e, l, hel⟩ := List.exists_cons_of_ne_nil hs
  have hearly : (match (s.cq q).drained with | some t => Nat.blt s.time.now (t + 4) | none => false) = false := by
    cases hv : (s.cq q).drained with
    | none => rfl
    | some t =>
      have hle : t + 4 ≤ s.time.now := by simpa [hv] using hd
      exact Bool.eq_false_iff.2 fun h => absurd (Nat.blt_eq ▸ h : s.time.now < t + 4) (Nat.not_lt.2 hle)
  refine (State.inCore_on hon _ : execCqStashDrain q ok s = _).trans (congrArg Host.Outcome.next ?_)
  refine (if_neg (by simp [he, hst])).trans ?_
  rw [hel]
  exact if_neg fun h => by
    rcases h with h | h | h
    · exact h hb
    · omega
    · exact absurd (hearly.symm.trans h) (by decide)

/-- Settles O36: a ring's operation takes the branch that its page's owner, its indices and its state choose. -/
theorem ringsAreServed : Obligations.RingsAreServed := by
  refine ⟨?_, ?_, ?_, ?_, ?_, ?_, ?_, ?_, ?_, ?_, ?_, ?_⟩
  · intro s f p q v hon hp he hv hused
    refine (State.inCore_on hon _ : execSqDoorbell f p v s = _).trans (congrArg Host.Outcome.next ?_)
    simp only [State.sqTail, hp]
    exact if_pos ⟨trivial, he, hv, hused⟩
  · intro s f p q v o hon hp hbad
    refine (State.inCore_on hon _ : execSqDoorbell f p v s = _).trans (congrArg Host.Outcome.next ?_)
    simp only [State.sqTail, hp]
    refine if_neg fun ⟨ho, he, hv, hused⟩ => ?_
    rcases hbad with h | h | h | h
    · exact absurd (ho.symm.trans h) (by decide)
    · exact absurd (he.symm.trans h) (by decide)
    · omega
    · omega
  · intro s f p q v hon hp he hv hused hold
    refine (State.inCore_on hon _ : execCqDoorbell f p v s = _).trans (congrArg Host.Outcome.next ?_)
    simp only [State.cqHead, hp, hold]
    exact if_pos ⟨trivial, he, hv, hused⟩
  · intro s f p q v hon hp
    refine (State.inCore_on hon _ : execSqDoorbell f p v s = _).trans (congrArg Host.Outcome.next ?_)
    simp only [State.sqTail, hp]
  · intro s f p q v o hon hp hbad
    refine (State.inCore_on hon _ : execCqDoorbell f p v s = _).trans (congrArg Host.Outcome.next ?_)
    simp only [State.cqHead, hp]
    refine if_neg fun ⟨ho, he, hv, hused⟩ => ?_
    rcases hbad with h | h | h | h
    · exact absurd (ho.symm.trans h) (by decide)
    · exact absurd (he.symm.trans h) (by decide)
    · omega
    · omega
  · intro s f p x e q hon hp hlen
    refine (State.inCore_on hon _ : execPush f p x e s = _).trans (congrArg Host.Outcome.next ?_)
    simp only [State.pushEntry, hp]
    exact if_pos hlen
  · intro s f p x e q hon hp hlen
    refine (State.inCore_on hon _ : execPush f p x e s = _).trans (congrArg Host.Outcome.next ?_)
    simp only [State.pushEntry, hp]
    exact if_neg hlen
  · intro s mem r hon hdue hr
    refine (State.inCore_on hon _ : execFetchVisit mem s = _).trans (congrArg Host.Outcome.next ?_)
    refine (if_neg (State.fetchVisit_due hdue)).trans ?_
    simp only [hr]
  · intro s q hon he hst hb hs hroom hd
    exact State.cqStashDrain_writes (ok := true) hon he hst hb hs hroom hd
  · intro s q hon he hst hb hs hroom hd
    exact State.cqStashDrain_writes (ok := false) hon he hst hb hs hroom hd
  · intro s q w l hon hw hvec hage
    refine (State.inCore_on hon _ : execCqCoalesceTimeout q s = _).trans (congrArg Host.Outcome.next ?_)
    simp only [State.cqSignal, hw]
    exact if_pos ⟨hvec, .inr (.inl hage)⟩
  · intro s q hon hw
    refine (State.inCore_on hon _ : execCqCoalesceTimeout q s = _).trans (congrArg Host.Outcome.next ?_)
    simp only [State.cqSignal, hw]

end Sys2Proof.Machine
end

section
/-! PROOFS. Family 14_host_interface: a signal that EXTEST keeps from leaving (R411, R521). -/

set_option Elab.async false

namespace Sys2Proof.Machine

/-- A pending signal of the PF's vector 0, with EXTEST holding the balls. -/
def heldBalls : State :=
  let s := running.withMsix { pba := [vecKey 0 0] }
  s.withSec { s.sec with extest := true }

/-- Its unmasking lets nothing out. -/
theorem heldBalls_silent : ∃ t, execMsixUnmask 0 (.vector 0 false) heldBalls = .next t ∧ t.sent = heldBalls.sent :=
  ⟨_, rfl, by decide +kernel⟩

/-- Refutes O38: its clause of MSIX_UNMASK does not ask that EXTEST leaves the balls to the core. In `heldBalls` no signal is sent. -/
theorem not_pcieResetsAndLinkChanges : ¬ Obligations.PcieResetsAndLinkChanges := by
  rintro ⟨-, -, -, -, -, hunmask⟩
  obtain ⟨t, hrun, -, -, hsent, -⟩ := hunmask heldBalls 0 0 (by decide +kernel) rfl rfl rfl (by decide)
  obtain ⟨t', hrun', hsilent⟩ := heldBalls_silent
  have hrun : execMsixUnmask 0 (.vector 0 false) heldBalls = .next t := hrun
  rw [Host.Outcome.next.inj (hrun.symm.trans hrun'), hsilent] at hsent
  exact absurd (congrArg List.length hsent) (by simp)

end Sys2Proof.Machine
end

section
/-! PROOFS. Family 21_errors_events: the die-to-die link and the records of an instant (R551, R552, R554, R559). -/

set_option Elab.async false

namespace Sys2Proof.Machine

variable {s t : State}

/-! ### What an occurrence keeps -/

/-- Below fatal, E-6102 apart, an occurrence changes of the event state only the open spans and the occurrences due to be logged. -/
theorem State.raise_ev (s : State) {code : Nat} (hf : eventClass code ≠ 3) (hh : code ≠ 0x6102) (unit arg scope : Nat) :
    ∃ spans due, (s.raise code unit arg scope).ev = { s.ev with spans := spans, due := due } := by
  simp only [State.raise, State.raise1, State.countEvent, hf, hh, if_false, State.raiseList, List.foldl_nil]
  split <;> split <;> (try split) <;> exact ⟨_, _, rfl⟩

/-- Whatever its class, an occurrence leaves the packets alone. -/
theorem State.raise1_net (s : State) (e : Ev) : (s.raise1 e).2.net = s.net := by
  have hsend (u : State) (a b c d : Nat) (l : List Byte) : (u.sendMate a b c d l).net = u.net := by
    unfold State.sendMate
    split <;> rfl
  have hbump (u : State) (k n : Nat) : (u.bumpSent k n).net = u.net := by
    unfold State.bumpSent
    split <;> rfl
  have hgive (u : State) : u.giveUp.2.net = u.net := by
    unfold State.giveUp
    dsimp only
    split
    · simp only [State.set_net, hbump, hsend]
      rfl
    · rfl
  have hcount (u : State) : (u.countEvent e).2.net = u.net := by
    unfold State.countEvent
    dsimp only
    split <;> (try split) <;> rfl
  unfold State.raise1
  dsimp only
  split
  · rw [hgive]
    split <;> split <;> exact hcount s
  · split <;> split <;> exact hcount s

theorem State.raiseList_net (l : List Ev) (s : State) : (State.raiseList l s).net = s.net := by
  induction l generalizing s with
  | nil => rfl
  | cons e l ih => exact (ih _).trans (s.raise1_net e)

theorem State.raise_net (s : State) (code unit arg scope : Nat) : (s.raise code unit arg scope).net = s.net :=
  (State.raiseList_net _ _).trans (s.raise1_net _)

/-! ### The event ring -/

/-- The objects that an entry of the event ring may change. -/
def ringObjs (k : Nat) : Bool := Nat.beq (keyIdx k) 0x1111 || Nat.beq k Obj.EVENT_CTRL_RING_DROPS

/-- A step of the event ring: the rings' objects, their states, the signals and what leaves. -/
abbrev RingStep (s t : State) : Prop := EventStep ringObjs [.sent, .msix, .cqs] s t

theorem RingStep.setKey (n : Nat) {sub : Nat} (v : Nat) (hs : sub < 256) : RingStep s (s.set (objKey n 0x1111 sub) v) := by
  refine EventStep.set ?_ v
  have h : keyIdx (objKey n 0x1111 sub) = 0x1111 := by simp only [keyIdx, objKey]; omega
  rw [ringObjs, h]
  rfl

theorem RingStep.setCq (n : Nat) (c : CqState) : RingStep s (s.setCq n c) :=
  EventStep.ofParts rfl rfl fun p hp => by cases p <;> first | rfl | exact absurd (by decide) hp

theorem RingStep.signal (fn vec : Nat) : RingStep s (s.signal fn vec) := by
  unfold State.signal
  split
  · exact EventStep.ofParts rfl rfl fun p hp => by cases p <;> first | rfl | exact absurd (by decide) hp
  · exact EventStep.emit (by decide) _

theorem RingStep.cqSignal (cq : Nat) : RingStep s (s.cqSignal cq) := by
  unfold State.cqSignal
  dsimp only
  split
  · exact EventStep.refl s
  · split
    · exact (RingStep.setCq _ _).trans (RingStep.signal _ _)
    · exact EventStep.refl s

theorem RingStep.cqShow (cq : Nat) : RingStep s (s.cqShow cq) := by
  unfold State.cqShow
  dsimp only
  split
  · exact EventStep.refl s
  · exact RingStep.setKey _ _ (by decide)

theorem RingStep.eventRing (e : Ev) (num : Nat) : RingStep s (s.eventRing e num).2 := by
  have hpush (cq : Nat) (x : CqEntry) : RingStep s (s.stashPush cq x) :=
    ((RingStep.setCq _ _).trans (RingStep.setKey _ _ (by decide))).trans (RingStep.cqShow _)
  unfold State.eventRing
  dsimp only
  split
  · exact EventStep.refl s
  split
  · exact (((((EventStep.emit (by decide) _).trans (RingStep.setKey _ _ (by decide))).trans
      (RingStep.setKey _ _ (by decide))).trans (RingStep.cqShow _)).trans (RingStep.setCq _ _)).trans (RingStep.cqSignal _)
  split
  · split
    · exact (hpush _ _).trans ((RingStep.setCq _ _).trans (RingStep.setKey _ _ (by decide)))
    · exact hpush _ _
  · exact EventStep.set (by decide) _

/-! ### Emergencies and the alarm -/

/-- Telling an emergency and the alarm of a class leave every object but theirs, and the log. -/
theorem State.emergency_keeps (w : s.objsWf) (r : EventRec) {k : Nat} (hk : k ≠ Obj.COICA_STATS_EMERG_DROPS) :
    (s.emergency r).2.objsWf ∧ (s.emergency r).2.get k = s.get k ∧ (s.emergency r).2.ev = s.ev := by
  unfold State.emergency
  split
  · exact ⟨w, rfl, rfl⟩
  split
  · exact ⟨w, rfl, rfl⟩
  · exact ⟨State.objsWf_bump w _ _, State.get_set_ne w hk _, rfl⟩

theorem State.alarm_keeps (w : s.objsWf) (y : Nat) {k : Nat} (hk : k ≠ Obj.EVENT_CTRL_ALARM_PENDING) :
    (s.alarm y).get k = s.get k ∧ (s.alarm y).ev.log = s.ev.log := by
  have hset (v : Nat) : (s.set Obj.EVENT_CTRL_ALARM_PENDING v).get k = s.get k := State.get_set_ne w hk v
  have hsignal (u : State) (fn vec : Nat) : (u.signal fn vec).get k = u.get k ∧ (u.signal fn vec).ev.log = u.ev.log := by
    unfold State.signal State.emit
    split <;> (try split) <;> exact ⟨rfl, rfl⟩
  have hemit (u : State) (e : Emission) : (u.emit e).get k = u.get k ∧ (u.emit e).ev.log = u.ev.log := by
    unfold State.emit
    split <;> exact ⟨rfl, rfl⟩
  unfold State.alarm
  split
  · exact ⟨rfl, rfl⟩
  dsimp only
  split
  · exact ⟨hset _, rfl⟩
  split
  · exact ⟨(hemit _ _).1.trans (hset _), (hemit _ _).2⟩
  · exact ⟨(hsignal _ _ _).1.trans ((hemit _ _).1.trans (hset _)), (hsignal _ _ _).2.trans (hemit _ _).2⟩

/-! ### Settled -/

/-- The state of `logRecord` before the record is delivered: it is in the log, numbered, and shown by LAST of its class. -/
def State.recorded (s : State) (r : EventRec) : State :=
  let s' := s.withEv { s.ev with log := ({ r with num := s.get Obj.EVENT_CTRL_LOG_SEQ } :: s.ev.log).take 1024 }
  ((if 1024 ≤ s.ev.log.length then s'.bump Obj.EVENT_CTRL_LOG_OVERWRITTEN else s').bumpW 32 Obj.EVENT_CTRL_LOG_SEQ).set
    (Obj.EVENT_LAST_LAST (eventClass r.code)) (r.code * 65536 + s.get Obj.EVENT_CTRL_LOG_SEQ % 65536)

theorem State.recorded_shows (w : s.objsWf) (r : EventRec) :
    (s.recorded r).objsWf ∧ (s.recorded r).ev.log.head? = some { r with num := s.get Obj.EVENT_CTRL_LOG_SEQ } ∧
      (s.recorded r).get Obj.EVENT_CTRL_LOG_SEQ = wrapAdd 32 (s.get Obj.EVENT_CTRL_LOG_SEQ) 1 ∧
      (s.recorded r).get (Obj.EVENT_LAST_LAST (eventClass r.code)) = r.code * 65536 + s.get Obj.EVENT_CTRL_LOG_SEQ % 65536 := by
  have hlast : Obj.EVENT_CTRL_LOG_SEQ ≠ Obj.EVENT_LAST_LAST (eventClass r.code) := by
    simp only [Obj.EVENT_LAST_LAST, Obj.EVENT_CTRL_LOG_SEQ, objKey]; omega
  unfold State.recorded
  dsimp only
  generalize hu : (if 1024 ≤ s.ev.log.length then State.bump _ _ else _ : State) = u
  have hkeeps : u.objsWf ∧ u.get Obj.EVENT_CTRL_LOG_SEQ = s.get Obj.EVENT_CTRL_LOG_SEQ ∧
      u.ev.log.head? = some { r with num := s.get Obj.EVENT_CTRL_LOG_SEQ } := by
    rw [← hu]
    split
    · exact ⟨State.objsWf_bump w _ _, State.get_set_ne w (by decide) _, rfl⟩
    · exact ⟨w, rfl, rfl⟩
  obtain ⟨hw, hseq, hlog⟩ := hkeeps
  have hw2 := State.objsWf_bumpW hw 32 Obj.EVENT_CTRL_LOG_SEQ 1
  refine ⟨State.objsWf_set hw2 _ _, hlog, ?_, State.get_set_self hw2 _ _⟩
  rw [State.get_set_ne hw2 hlast, State.get_bumpW hw, if_pos rfl, hseq]

theorem State.logRecord_eq (s : State) (r : EventRec) : (s.logRecord r).2 =
    ((((s.recorded r).eventRing ⟨r.code, r.unit, r.arg, 0⟩ (s.get Obj.EVENT_CTRL_LOG_SEQ)).2.emergency
      { r with num := s.get Obj.EVENT_CTRL_LOG_SEQ }).2).alarm (eventClass r.code) := rfl

/-- What a record shows, its delivery leaves. -/
theorem State.logRecord_keeps (w : s.objsWf) (r : EventRec) {k : Nat} (hr : ringObjs k = false)
    (he : k ≠ Obj.COICA_STATS_EMERG_DROPS) (ha : k ≠ Obj.EVENT_CTRL_ALARM_PENDING) :
    (s.logRecord r).2.get k = (s.recorded r).get k ∧ (s.logRecord r).2.ev.log = (s.recorded r).ev.log := by
  have hwf := (State.recorded_shows w r).1
  have hring := RingStep.eventRing (s := s.recorded r) ⟨r.code, r.unit, r.arg, 0⟩ (s.get Obj.EVENT_CTRL_LOG_SEQ)
  have hev := (hring.frame hwf).2.2 .ev (by decide)
  obtain ⟨hw2, hget2, hev2⟩ := State.emergency_keeps (hring.wf hwf) { r with num := s.get Obj.EVENT_CTRL_LOG_SEQ } he
  obtain ⟨hget3, hlog3⟩ := State.alarm_keeps hw2 (eventClass r.code) ha
  rw [State.logRecord_eq]
  exact ⟨hget3.trans (hget2.trans ((hring.frame hwf).1 k hr)), hlog3.trans (congrArg EventState.log (hev2.trans hev))⟩

/-- Settles O17: the link's counters and states by their own updates, the order of two records by `firstRecord`, and what a record shows
because its delivery leaves the log and the objects of R551 alone. -/
theorem dieLinkAndEventLog : Obligations.DieLinkAndEventLog := by
  refine ⟨?_, ?_, ?_, ?_, ?_, ?_⟩
  · intro s g hc hon hup
    refine ⟨_, (State.inCore_on hon _ : execD2dReplay g s = _).trans (congrArg Host.Outcome.next (if_neg (by simp [hup]))), ?_, rfl, ?_⟩
    · exact (State.get_bump hc.1 _ _ _).trans (if_pos rfl)
    · exact (((Within.refl s).bump).withEv).frame hc
  · intro s hc hon hup hn
    obtain ⟨spans, due, hev⟩ := State.raise_ev (s.withEv { s.ev with failedReplays := 0, d2dRetrain := some s.time.now })
      (code := 0x1120) (by decide) (by decide) uFD2D 0 uFD2D
    refine ⟨_, (State.inCore_on hon _ : execD2dRetrain s = _).trans
      (congrArg Host.Outcome.next (if_neg (by simp [hup, hn]))), by rw [hev]; rfl, by rw [hev]; rfl, ?_, ?_⟩
    · exact Occurred.raise (s := s.withEv { s.ev with failedReplays := 0, d2dRetrain := some s.time.now }) hc.1 uFD2D 0 uFD2D
        (by decide) (by decide)
    · exact (((Within.refl s).withEv).raise).frame hc
  · intro s b hon hb hlt
    refine ⟨s.withEv { s.ev with d2dRetrain := none },
      (State.inCore_on hon _ : execD2dRetrainDone s = _).trans (congrArg Host.Outcome.next ?_), rfl, ?_⟩
    · simp only [hb, if_pos hlt]
    · exact ((Touches.refl s).withEv).frame
  · intro s b hon hb hle ha hq he ht hw
    refine (State.inCore_on hon _ : execD2dLinkFail s = _).trans (congrArg Host.Outcome.next ?_)
    simp only [hb, if_neg (Nat.not_lt.2 hle), State.raise_net, State.withEv_net, ha, hq, he, ht, hw]
    rfl
  · intro s a b hdue hfirst
    have hne : a ≠ b := by rintro rfl; omega
    have herase : [a, b].erase b = [a] := by simp [hne]
    simp only [State.logNext, hdue, List.foldl_cons, List.foldl_nil, firstRecord, if_pos hfirst, herase]
  · intro s r hc hy _
    obtain ⟨-, hlog, hseq, hlast⟩ := State.recorded_shows hc.1 r
    have hseqKept := State.logRecord_keeps hc.1 r (k := Obj.EVENT_CTRL_LOG_SEQ) (by decide) (by decide) (by decide)
    have hidx : keyIdx (Obj.EVENT_LAST_LAST (eventClass r.code)) = 0x1801 := by
      simp only [keyIdx, Obj.EVENT_LAST_LAST, objKey]; omega
    have hne {k : Nat} (hk : keyIdx k ≠ 0x1801) : Obj.EVENT_LAST_LAST (eventClass r.code) ≠ k := fun e => hk (e ▸ hidx)
    have hring : ringObjs (Obj.EVENT_LAST_LAST (eventClass r.code)) = false := by
      rw [ringObjs, hidx, Bool.or_eq_false_iff]
      exact ⟨rfl, Bool.eq_false_iff.2 fun e => hne (by decide) (Nat.eq_of_beq_eq_true e)⟩
    have hlastKept := State.logRecord_keeps hc.1 r hring (hne (by decide)) (hne (by decide))
    exact ⟨hseqKept.2 ▸ hlog, hseqKept.1.trans hseq, hlastKept.1.trans hlast⟩

end Sys2Proof.Machine
end

section
/-! PROOFS. Families 04_forwarding_resolution and 09_line_ports: packets edited and sent (R152, R153, R183, R280, R282, R283). -/

set_option Elab.async false

namespace Sys2Proof.Machine

variable {s : State}

/-! ### What work for a part leaves -/

theorem State.wakeOne_d2dFailed (s : State) (c i : Nat) (lowered : Bool) : (s.wakeOne c i lowered).ev.d2dFailed = s.ev.d2dFailed := by
  unfold State.wakeOne
  dsimp only
  split
  · rfl
  split
  · obtain ⟨spans, due, h⟩ := State.raise_ev ((s.setPart c i { s.part c i with waking := some (s.time.now + wakeNs (clientKind c)
      (s.part c i).deep) }).bump (Obj.POWER_CLIENT_LATE_WAKES c)) (code := 0x1111) (by decide) (by decide) (clientUnit c) 0 c
    rw [h]
    rfl
  · rfl

/-- Waking a part may raise an event; it does not fail the die-to-die link. -/
theorem State.workFor_d2dFailed (s : State) (c i : Nat) : (s.workFor c i).ev.d2dFailed = s.ev.d2dFailed := by
  unfold State.workFor State.wakePart
  dsimp only
  split
  · rw [State.wakeOne_d2dFailed, State.wakeOne_d2dFailed]
    rfl
  · rw [State.wakeOne_d2dFailed]
    rfl

/-! ### Reads in a table of any form -/

/-- A write leaves what reads behind its key, whatever the table's form. -/
theorem Table.get_put_of_lt {α : Type} [DecidableEq α] {d : Nat → α} {j k : Nat} (h : j < k) (t : Table α) (v : α) :
    Table.get d (Table.put d t j v) k = Table.get d t k := by
  have hne : k ≠ j := by omega
  have hlt : ¬ k < j := by omega
  induction t with
  | nil =>
    unfold Table.put
    split <;> simp [Table.get, hne, hlt]
  | cons e t ih =>
    unfold Table.put
    split
    · split <;> simp [Table.get, hne, hlt]
    split
    · subst_vars
      split <;> simp [Table.get, hne, hlt]
    · simp only [Table.get, ih]

/-- A write leaves what reads as no default at another key, whatever the table's form. -/
theorem Table.get_put_of_listed {α : Type} [DecidableEq α] {d : Nat → α} {j k : Nat} (h : k ≠ j) {t : Table α} (v : α)
    (hk : Table.get d t k ≠ d k) : Table.get d (Table.put d t j v) k = Table.get d t k := by
  rcases Nat.lt_or_gt_of_ne h with hlt | hgt
  · induction t with
    | nil => exact absurd rfl hk
    | cons e t ih =>
      unfold Table.get at hk ⊢
      unfold Table.put
      split at hk
      · subst_vars
        simp [Nat.lt_asymm hlt, Nat.ne_of_gt hlt]
      split at hk
      · exact absurd rfl hk
      · rename_i hne hle
        have hje : ¬ j < e.1 := by omega
        have hne' : j ≠ e.1 := by omega
        simp only [if_neg hje, if_neg hne', hne, if_false, if_neg hle]
        exact ih hk
  · exact Table.get_put_of_lt hgt t v

theorem State.get_set_of_lt {j k : Nat} (h : j < k) (s : State) (v : Nat) : (s.set j v).get k = s.get k :=
  Table.get_put_of_lt h s.objs v

theorem State.get_set_of_listed {j k : Nat} (h : k ≠ j) (s : State) (v : Nat) (hk : s.get k ≠ objDefault k) :
    (s.set j v).get k = s.get k :=
  Table.get_put_of_listed h v hk

/-- The objects behind those of R553 read as before an event, whatever the table's form. -/
theorem State.get_raise_of_lt {code k : Nat} (hf : eventClass code < 3) (hh : code ≠ 0x6102) (hk : objKey 0 0x1801 255 < k) (s : State)
    (unit arg scope : Nat) : (s.raise code unit arg scope).get k = s.get k := by
  have hcount : Obj.EVENT_LAST_COUNT (eventClass code) < k := by
    simp only [Obj.EVENT_LAST_COUNT, objKey] at hk ⊢; omega
  have hsup : Obj.EVENT_CTRL_SUPPRESSED < k := by
    simp only [Obj.EVENT_CTRL_SUPPRESSED, objKey] at hk ⊢; omega
  have hclass : eventClass code ≠ 3 := by omega
  simp only [State.raise, State.raise1, State.countEvent, hclass, hh, if_false, State.raiseList, List.foldl_nil]
  have hone : ((s.bump (Obj.EVENT_LAST_COUNT (eventClass code))).get k) = s.get k := State.get_set_of_lt hcount s _
  split <;> split <;> (try split) <;>
    first | exact hone | exact (State.get_set_of_lt hsup _ _).trans hone

/-- What is not a default reads back in a table of any form. -/
theorem Table.get_put_of_ne_default {α : Type} [DecidableEq α] {d : Nat → α} {k : Nat} {v : α} (hv : v ≠ d k) (t : Table α) :
    Table.get d (Table.put d t k v) k = v := by
  induction t with
  | nil => simp [Table.put, Table.get, hv]
  | cons e t ih =>
    unfold Table.put
    split
    · simp [Table.get]
    split
    · simp [Table.get]
    · simp [Table.get, *]

/-- A part that begins to wake is not in RUN. -/
theorem State.setPart_waking_inRun (s : State) (c i a : Nat) (q : PowerPart) :
    ((s.setPart c i { q with waking := some a }).part c i).inRun = false := by
  have h : (s.setPart c i { q with waking := some a }).part c i = { q with waking := some a } :=
    Table.get_put_of_ne_default (by simp [partRun]) _
  rw [h]
  simp [PowerPart.inRun]

/-- The sector that packets of port XC pass on the way out does not move with the work they bring it. -/
theorem State.egressSector_wakeOne (s : State) (p i : Nat) (c : Nat) (hc : c = 128 + s.egressSector p) (lowered : Bool) :
    (s.wakeOne c i lowered).egressSector p = s.egressSector p := by
  unfold State.wakeOne
  dsimp only
  split
  · rfl
  split
  · unfold State.egressSector at hc ⊢
    split
    · rfl
    split
    · rw [State.get_raise_of_lt (by decide) (by decide) (by decide)]
      rename_i hp hxc
      rw [if_neg hp, if_pos hxc] at hc
      by_cases hd : s.get Obj.RECOMP_CTRL_XC_SECTOR = objDefault Obj.RECOMP_CTRL_XC_SECTOR
      · have hz : s.get Obj.RECOMP_CTRL_XC_SECTOR = 0 := hd.trans (by decide +kernel)
        refine State.get_set_of_lt ?_ _ _
        rw [hc, hz]
        decide
      · refine State.get_set_of_listed ?_ _ _ hd
        simp only [Obj.RECOMP_CTRL_XC_SECTOR, Obj.POWER_CLIENT_LATE_WAKES, objKey]
        omega
    · rfl
  · rfl

theorem State.egressSector_workFor (s : State) (p : Nat) : (s.workFor (128 + s.egressSector p) 4).egressSector p = s.egressSector p := by
  unfold State.workFor State.wakePart
  dsimp only
  split
  · generalize hu : s.setPart (128 + s.egressSector p) 4 _ = u
    have hs : u.egressSector p = s.egressSector p := by rw [← hu]; rfl
    have h := State.egressSector_wakeOne u p 4 (128 + s.egressSector p) (by rw [hs]) false
    exact (State.egressSector_wakeOne _ p 6 _ (by rw [h, hs]) false).trans (h.trans hs)
  · rw [State.egressSector_wakeOne] <;> rfl

/-- A part of a line port that is in RUN when work comes is noted as busy, and no more. -/
theorem State.workFor_inRun {p : LinePort} (h : ((s.workFor p 0).part p 0).inRun = true) : ∃ q, s.workFor p 0 = s.setPart p 0 q := by
  have hk : clientKind p = .linePort := if_pos p.isLt
  unfold State.workFor State.wakePart at h ⊢
  rw [hk] at h ⊢
  simp only [reduceCtorEq, false_and, if_false] at h ⊢
  generalize hu : s.setPart p 0 _ = u at h ⊢
  refine ⟨_, Eq.trans ?_ hu.symm⟩
  unfold State.wakeOne at h ⊢
  dsimp only at h ⊢
  split
  · rfl
  · exfalso
    rename_i hdeep
    rw [if_neg hdeep] at h
    split at h
    · rw [State.part, show (State.raise _ _ _ _ _).pw = _ from State.raise_same _ (by decide) (by decide) _ _ _ (p := .pw) (by decide)] at h
      exact absurd h (Bool.eq_false_iff.1 (State.setPart_waking_inRun u p 0 _ _))
    · exact absurd h (Bool.eq_false_iff.1 (State.setPart_waking_inRun u p 0 _ _))

/-- Settles O16: the packet takes the branch of its command that the hypotheses of its clause choose. -/
theorem packetsAreEditedAndSent : Obligations.PacketsAreEditedAndSent := by
  refine ⟨?_, ?_, ?_, ?_⟩
  · intro s p e u k k2 l b mtu w x y hon hheld hk hretrain hfail hrun hw hread hout hwhole hxc hedit hmtu hrec
    refine (State.inCore_on hon _ : execEgressPipeline p ⟨e, u⟩ s = _).trans (congrArg Host.Outcome.next ?_)
    have hopen : (k2.scheduled && !k2.complete) = false := by simpa using hwhole
    have hwait : ¬ (s.ev.d2dRetrain.isSome = true ∨ s.pipesHeld = true) := by simp [hretrain, hheld]
    have hup : w.ev.d2dFailed = false := by rw [hw]; exact (State.workFor_d2dFailed s _ _).trans hfail
    simp only [hk, if_neg hwait, State.egressSector_workFor, hrun, Bool.true_eq_false, if_false, ← hw, hup, Bool.false_eq_true, hread, hout, hopen, if_neg hxc, hedit,
      if_neg (Nat.not_lt.2 hmtu), hrec, ne_eq, not_true_eq_false]
  · intro s p e u k l c w x hon hheld hk hretrain hfail hrun hw hread
    refine (State.inCore_on hon _ : execEgressPipeline p ⟨e, u⟩ s = _).trans (congrArg Host.Outcome.next ?_)
    have hwait : ¬ (s.ev.d2dRetrain.isSome = true ∨ s.pipesHeld = true) := by simp [hretrain, hheld]
    have hup : w.ev.d2dFailed = false := by rw [hw]; exact (State.workFor_d2dFailed s _ _).trans hfail
    simp only [hk, if_neg hwait, State.egressSector_workFor, hrun, Bool.true_eq_false, if_false, ← hw, hup, Bool.false_eq_true, hread]
  · intro s p k l x hon hk hwire hrun hready hen hlink hlease hwindow hx
    refine (State.inCore_on hon _ : execTxFrameStart p s = _).trans (congrArg Host.Outcome.next ?_)
    obtain ⟨q, hq⟩ := State.workFor_inRun hrun
    generalize hw : s.workFor p 0 = w at *
    generalize hv : w.withNet { w.net with tx := Table.put noList w.net.tx p l } = v at *
    have hen' : v.get (Obj.LINE_PORT_PORT_ENABLE p) = 1 := by rw [← hv, hq]; exact hen
    have hlink' : v.get (Obj.LINE_PORT_LINK_STATE p) = 1 := by rw [← hv, hq]; exact hlink
    have hready' : w.boot.ready = true := by rw [hq]; exact hready
    have hwindow' : windowMissed k.window v.timeNow = false := by rw [← hv, hq]; exact hwindow
    have hx' : ((v.stampNow : Int) + signed 32 (v.setting (Obj.LINE_PORT_TX_ASYM p))).toNat = x := by rw [← hv, hq, hx]; rfl
    simp only [hk, hwire, hrun, hready', hv, hen', hlink', hlease, hwindow', hx', ne_eq, not_true_eq_false, Bool.true_eq_false, or_self,
      Bool.false_eq_true, if_false]
  · intro s p k k2 x a hon hwire hcomplete hsettle hstomp hfill
    refine (State.inCore_on hon _ : execTxFrameEnd p s = _).trans (congrArg Host.Outcome.next ?_)
    simp only [hwire, hcomplete, if_true, hsettle, hstomp, hfill, Bool.not_true, Bool.or_self, Bool.false_eq_true, if_false]

end Sys2Proof.Machine
end

section
/-! PROOFS. Family 10_fabric_interface: reachability and the spray set (R300 to R303). -/

set_option Elab.async false

namespace Sys2Proof.Machine

/-- Settles O27: the lane takes the branch of its command that the hypotheses of its clause choose. -/
theorem fabricLanesAreReached : Obligations.FabricLanesAreReached := by
  refine ⟨?_, ?_, ?_, ?_, ?_, ?_⟩
  · intro s n f q d x hon hen hmode
    refine (State.inCore_on hon _ : execReach n f q d x s = _).trans (congrArg Host.Outcome.next ?_)
    have hdirect : Nat.beq (s.get Obj.FABRIC_CTRL_FABRIC_MODE) 1 = false := Bool.eq_false_iff.2 fun h => hmode (Nat.eq_of_beq_eq_true h)
    simp only [State.reach, hen, hdirect, Bool.true_eq_false, Bool.false_and, Bool.false_eq_true, if_false]
  · intro s n q d x hon hen hmode
    refine (State.inCore_on hon _ : execReach n false q d x s = _).trans (congrArg Host.Outcome.next ?_)
    have hdirect : Nat.beq (s.get Obj.FABRIC_CTRL_FABRIC_MODE) 1 = true := by rw [hmode]; rfl
    simp only [State.reach, hen, hdirect, Bool.true_eq_false, Bool.and_false, Bool.false_eq_true, if_false, if_true]
  · intro s n hon hlate
    refine (State.inCore_on hon _ : execReachTimeout n s = _).trans (congrArg Host.Outcome.next ?_)
    exact if_neg (Nat.not_lt.2 hlate)
  · intro s hon
    refine (State.inCore_on hon _ : execReachTx s = _).trans (congrArg Host.Outcome.next ?_)
    refine congrArg (forEach _ s) (funext fun u => funext fun n => ?_)
    cases h : (u.fl n).announced <;> simp only [h, Option.all_none, Option.all_some]
  · intro s n b hon hsince hlate
    refine (State.inCore_on hon _ : execSprayJoin n s = _).trans (congrArg Host.Outcome.next ?_)
    simp only [hsince, if_pos hlate]
  · intro s d b hon hsince hwait hlate hnew hq
    refine (State.inCore_on hon _ : execUnreachDiscard d s = _).trans (congrArg Host.Outcome.next ?_)
    have hgo : ¬ (s.get Obj.FABRIC_CTRL_UNREACH_MS = 0 ∨ s.time.now < b + s.get Obj.FABRIC_CTRL_UNREACH_MS * ms ∨
        s.fab.discarding.contains d.val = true) := by
      rw [hnew]
      simp only [Bool.false_eq_true, or_false]
      omega
    simp only [hsince, if_neg hgo, hq]
    rfl

end Sys2Proof.Machine
end

section
/-! PROOFS. Families 10_fabric_interface and 11_fabric_link_framing: cells taken and lost (R295, R297, R309, R313, R316, R328, R333). -/

set_option Elab.async false

namespace Sys2Proof.Machine

/-- Settles O28: the cell, context, stream or flow takes the branch of its command that the hypotheses of its clause choose. -/
theorem cellsAreTakenOrLost : Obligations.CellsAreTakenOrLost := by
  have hcell {s : State} {n : FabricLane} (f : Fin 64) (x : Fin 16) {c : RxCell} (hon : s.CoreOn)
      (hen : s.on (Obj.FABRIC_LANE_FL_ENABLE n) = true) (hts : s.tsBlocked (n / 20) = false) (hlen : c.bytes.length = 256) :
      execCellRx n f x c s = .next (s.cell n f x c.bytes c.ecc) := by
    refine (State.inCore_on hon _).trans (congrArg Host.Outcome.next ?_)
    have htake : (c.bytes ++ List.replicate 256 (0#8)).take 256 = c.bytes := by rw [← hlen, List.take_left]
    simp only [hen, hts, Bool.not_false, Bool.and_self, if_true, htake]
  refine ⟨?_, ?_, ?_, ?_, ?_, ?_, ?_⟩
  · intro s n f x c hon hen hts hlen
    exact hcell f x hon hen hts hlen
  · intro s n f x c hc hon hen hts hlen hais htype hcheck haway
    have hne : Obj.FABRIC_CTRL_DEVICE_ID ≠ Obj.FABRIC_LANE_CELLS_RX n := by
      simp only [Obj.FABRIC_CTRL_DEVICE_ID, Obj.FABRIC_LANE_CELLS_RX, objKey]; omega
    have hne2 : Obj.FABRIC_CTRL_MISROUTED ≠ Obj.FABRIC_LANE_CELLS_RX n := by
      simp only [Obj.FABRIC_CTRL_MISROUTED, Obj.FABRIC_LANE_CELLS_RX, objKey]; omega
    have hw := State.objsWf_bump hc.1 (Obj.FABRIC_LANE_CELLS_RX n) 1
    refine ⟨(s.bump (Obj.FABRIC_LANE_CELLS_RX n)).bump Obj.FABRIC_CTRL_MISROUTED,
      (hcell f x hon hen hts hlen).trans (congrArg Host.Outcome.next ?_), ?_, ?_, ?_⟩
    · have hdev : Nat.beq (Fld.CELL_DEST_DEV.get (wordAt c.bytes 0 16)) ((s.bump (Obj.FABRIC_LANE_CELLS_RX n)).get Obj.FABRIC_CTRL_DEVICE_ID)
          = false := by
        rw [State.get_bump hc.1, if_neg hne]
        exact Bool.eq_false_iff.2 fun h => haway (Nat.eq_of_beq_eq_true h)
      have hidle : cDATA ≠ cIDLE := by decide
      simp only [State.cell, htype, hais, hcheck, hidle, hdev, ne_eq, not_true_eq_false, Bool.false_eq_true, Bool.not_false, true_or,
        and_self, if_false, if_true]
    · rw [State.get_bump hw, if_pos rfl, State.get_bump hc.1, if_neg hne2]
    · rw [State.get_bump hw, if_neg hne2.symm, State.get_bump hc.1, if_pos rfl]
    · exact (((Within.refl s).bump).bump).frame hc
  · rintro s m v ha rfl
    exact State.rowWrite_ruled ha rfl
  · intro s a c g x hon hctx hexp
    refine (State.inCore_on hon _ : execReasmTimeout a c g s = _).trans (congrArg Host.Outcome.next ?_)
    simp only [hctx, hexp, if_true]
  · intro s a c b hon hloss hpast hnext
    refine (State.inCore_on hon _ : execHeadLoss a c s = _).trans (congrArg Host.Outcome.next ?_)
    simp only [hloss, if_pos hpast, State.loseNext, hnext]
  · rintro s a c b hon hloss rfl
    refine (State.inCore_on hon _ : execHeadLoss a c s = _).trans (congrArg Host.Outcome.next ?_)
    simp only [hloss, Nat.lt_irrefl, if_false, if_true]
  · intro s f x hon hflow hlate
    refine (State.inCore_on hon _ : execSchedFlowTimeout f s = _).trans (congrArg Host.Outcome.next ?_)
    simp only [hflow, if_pos hlate]

end Sys2Proof.Machine
end

section
/-! PROOFS. Family 12_hbm_controller: requests to the HBM and what a write stores (R351, R352, R354, R356, R359). -/

set_option Elab.async false

namespace Sys2Proof.Machine

/-! ### Sectors and their places -/

theorem bits_lt (x lo w : Nat) : bits x lo w < 2 ^ w := Nat.mod_lt _ (Nat.two_pow_pos w)

/-- What HASH adds to a bank group or bank number, two bits of the row. -/
def hbmFold (hash row v lo : Nat) : Nat := if hash = 1 then Nat.xor v (bits row lo 2) else v

theorem hbmFold_lt {hash row v lo : Nat} (h : v < 4) : hbmFold hash row v lo < 4 := by
  unfold hbmFold
  split
  · exact Nat.xor_lt_two_pow (n := 2) h (bits_lt _ _ 2)
  · exact h

theorem hbmFold_inj {hash row v w lo : Nat} (h : hbmFold hash row v lo = hbmFold hash row w lo) : v = w := by
  unfold hbmFold at h
  split at h
  · exact Nat.xor_left_injective h
  · exact h

/-- Channel, bank group, bank and column of a sector before HASH, by ORDER. -/
def hbmDigits (order a : Nat) : Nat × Nat × Nat × Nat :=
  match order with
  | 0 => (bits a 0 5, bits a 5 2, bits a 7 2, bits a 9 4)
  | 1 => (bits a 4 5, bits a 9 2, bits a 11 2, bits a 0 4)
  | 2 => (bits a 2 5, bits a 0 2, bits a 11 2, bits a 7 4)
  | _ => (bits a 2 5, bits a 7 2, bits a 11 2, bits a 0 2 + 4 * bits a 9 2)

theorem hbmSplit_eq (order hash a : Nat) : hbmSplit order hash a =
    ⟨(hbmDigits order a).1, 4 * hbmFold hash (bits a 13 15) (hbmDigits order a).2.1 0 + hbmFold hash (bits a 13 15) (hbmDigits order a).2.2.1 2,
      bits a 13 15, (hbmDigits order a).2.2.2⟩ := by
  match order with
  | 0 | 1 | 2 | _ + 3 => rfl

theorem hbmDigits_lt (order a : Nat) : (hbmDigits order a).1 < 32 ∧ (hbmDigits order a).2.1 < 4 ∧ (hbmDigits order a).2.2.1 < 4 ∧
    (hbmDigits order a).2.2.2 < 16 := by
  unfold hbmDigits bits
  split <;> dsimp only <;> omega

/-- With the row they make up the sector. -/
theorem hbmDigits_inj {order a b : Nat} (ha : a < 2 ^ 28) (hb : b < 2 ^ 28) (hd : hbmDigits order a = hbmDigits order b)
    (hr : bits a 13 15 = bits b 13 15) : a = b := by
  unfold hbmDigits bits at hd
  unfold bits at hr
  split at hd <;> simp only [Prod.mk.injEq] at hd <;> omega

/-- Two sectors of a stack never share a place. -/
theorem hbmSplit_index_inj {order hash a b : Nat} (ha : a < 2 ^ 28) (hb : b < 2 ^ 28)
    (h : (hbmSplit order hash a).index = (hbmSplit order hash b).index) : a = b := by
  rw [hbmSplit_eq, hbmSplit_eq] at h
  simp only [HbmPlace.index] at h
  obtain ⟨hc, hg, hk, hl⟩ := hbmDigits_lt order a
  obtain ⟨hc', hg', hk', hl'⟩ := hbmDigits_lt order b
  have hrow := bits_lt a 13 15
  have hrow' := bits_lt b 13 15
  have hx := hbmFold_lt (hash := hash) (row := bits a 13 15) (lo := 0) hg
  have hy := hbmFold_lt (hash := hash) (row := bits a 13 15) (lo := 2) hk
  have hx' := hbmFold_lt (hash := hash) (row := bits b 13 15) (lo := 0) hg'
  have hy' := hbmFold_lt (hash := hash) (row := bits b 13 15) (lo := 2) hk'
  have hr : bits a 13 15 = bits b 13 15 := by omega
  rw [← hr] at h hx' hy'
  refine hbmDigits_inj (order := order) ha hb ?_ hr
  refine Prod.ext (by omega) (Prod.ext (hbmFold_inj (hash := hash) (row := bits a 13 15) (lo := 0) (by omega))
    (Prod.ext (hbmFold_inj (hash := hash) (row := bits a 13 15) (lo := 2) (by omega)) (by omega)))

theorem State.hbmKey_inj {s : State} {stack i k : Nat} (hs : stack < 3) (hi : i < 2 ^ 28) (hk : k < 2 ^ 28)
    (h : s.hbmKey stack i = s.hbmKey stack k) : i = k := by
  unfold State.hbmKey State.hbmPlace hbmRegion at h
  simp only [if_pos hs] at h
  exact hbmSplit_index_inj hi hk (Nat.add_left_cancel h)

/-! ### Bytes and the number they write -/

theorem natBE_append (l : List Byte) (b : Byte) : natBE (l ++ [b]) = natBE l * 256 + b.toNat := by
  simp [natBE]

theorem bytesBE_succ (n x : Nat) : bytesBE (n + 1) x = bytesBE n (x / 256) ++ [toByte x] := by
  simp [bytesBE, bytesLE]

theorem bytesBE_natBE (l : List Byte) : bytesBE l.length (natBE l) = l := by
  induction l using List.reverseRecOn with
  | nil => rfl
  | append_singleton l b ih =>
    have hb := b.isLt
    have hdiv : (natBE l * 256 + b.toNat) / 256 = natBE l := by omega
    have hbyte : toByte (natBE l * 256 + b.toNat) = b := by
      refine BitVec.eq_of_toNat_eq ?_
      rw [toByte, BitVec.toNat_ofNat]
      omega
    rw [natBE_append, List.length_append, List.length_singleton, bytesBE_succ, hdiv, hbyte, ih]

/-- A whole sector written is its bytes. -/
theorem wholeSector {d : List Byte} (hd : d.length = 64) (old : List Byte) :
    ((List.range 64).map fun j => if (2 ^ 64 - 1).testBit j then d.getD j 0 else old.getD j 0) = d := by
  refine List.ext_getElem (by simp [hd]) fun j hj hj' => ?_
  have h64 : j < 64 := hd ▸ hj'
  rw [List.getElem_map, List.getElem_range, Nat.testBit_two_pow_sub_one, decide_eq_true h64, if_pos rfl, List.getD_eq_getElem?_getD,
    List.getElem?_eq_getElem hj', Option.getD_some]

/-! ### Requests -/

theorem State.hbmRequest_taken {s : State} {a i : Nat} {r : HbmRequester} (w : Option (Nat × List Byte)) (e : SectorEcc)
    (ha : hbmAllowed r (hbmRegion a i) = true) (hf : s.chanFailed a (s.hbmPlace a i).channel = false) :
    s.hbmRequest a i r w e = s.setChan (a * 32 + (s.hbmPlace a i).channel) { s.chan (a * 32 + (s.hbmPlace a i).channel) with
      input := (s.chan (a * 32 + (s.hbmPlace a i).channel)).input ++
        [{ sector := i, requester := r, hint := s.hbmHint r, at' := s.time.now, write := w, ecc := e }] } :=
  if_neg (by simp [ha, hf])

/-- Settles O30: requests by `hbmRequest`, and what a store leaves because two sectors never share a place. -/
theorem hbmReadsAndWritesSectors : Obligations.HbmReadsAndWritesSectors := by
  refine ⟨?_, ?_, ?_, ?_, ?_, ?_, ?_⟩
  · intro s x y r e hon ha hf
    exact (State.inCore_on hon _ : execHbmRead x y r e s = _).trans (congrArg Host.Outcome.next (State.hbmRequest_taken none e ha hf))
  · intro s x y r k d hon ha hf
    exact (State.inCore_on hon _ : execHbmWrite x y r k d s = _).trans
      (congrArg Host.Outcome.next (State.hbmRequest_taken (some (k % 2 ^ 64, d)) {} ha hf))
  · intro s x y r e hon hbad
    exact (State.inCore_on hon _ : execHbmRead x y r e s = _).trans (congrArg Host.Outcome.next (if_pos hbad))
  · intro s x y r k d hon hbad
    exact (State.inCore_on hon _ : execHbmWrite x y r k d s = _).trans (congrArg Host.Outcome.next (if_pos hbad))
  · intro s c q k d hq hw
    simp only [State.hbmOrder, hq, hw]
  · intro s a i k d ha hw hd hi hk
    have hread (u : State) (j : Nat) : u.hbmBytes a j = bytesBE 64 (Table.get zeroN u.hbm.cells (u.hbmKey a j)) := if_pos ha
    have hkey (j : Nat) : (s.hbmStore a i (2 ^ 64 - 1) d).hbmKey a j = s.hbmKey a j := by
      rw [State.hbmStore, if_pos ha]
      rfl
    rw [hread, hkey]
    split
    · subst_vars
      rw [State.hbmStore, if_pos ha]
      dsimp only
      rw [wholeSector hd, State.withHbm_hbm, Table.get_put_self hw, ← hd, bytesBE_natBE]
    · rename_i hne
      rw [State.hbmStore_cells hw ha _ _ _ _ fun h => hne (State.hbmKey_inj ha hk hi h), hread]
  · intro s stack c hon
    exact (State.inCore_on hon _ : execWriteDrainTimeout stack c s = _).trans rfl

end Sys2Proof.Machine
end

section
/-! PROOFS. Family 12_hbm_controller: an index beyond HBM_HOST_AREA (R353, R376, R379). -/

set_option Elab.async false

namespace Sys2Proof.Machine

/-- Entry 0 of the DOMAIN index after HBM_HOST_AREA is not 0. -/
def nextDomain : State := running.setDom (Dom.HBM_HOST_AREA + 1) 0 5

/-- A change of the HASH of region 2 leaves it. -/
theorem nextDomain_kept : ∃ t, execHbmRegionOrder 2 true 1 1 nextDomain = .next t ∧ t.dom Dom.HBM_HOST_AREA (2 ^ 32) = 5 :=
  ⟨_, rfl, by decide +kernel⟩

/-- Refutes O31: its last clause has HBM_HOST_AREA read 0 at every number, also beyond the index. Number 2^32 of `nextDomain` names entry 0 of
the index behind, which the write leaves. -/
theorem not_hbmIsKeptUp : ¬ Obligations.HbmIsKeptUp := by
  rintro ⟨-, -, -, -, -, -, -, -, -, -, hslow⟩
  obtain ⟨t, hrun, -, hzero, -⟩ := hslow nextDomain true 1 1 (2 ^ 32) (by decide +kernel) (by decide +kernel) (by decide +kernel)
  obtain ⟨u, hrun', hfive⟩ := nextDomain_kept
  have hrun : execHbmRegionOrder 2 true 1 1 nextDomain = .next t := hrun
  rw [Host.Outcome.next.inj (hrun.symm.trans hrun'), hfive] at hzero
  exact absurd hzero (by decide)

end Sys2Proof.Machine
end

section
/-! PROOFS. Family 13_object_dictionary: the lock, the end of slow writes, and the Pantry (R376, R377, R381, R383, R386). -/

set_option Elab.async false

namespace Sys2Proof.Machine

variable {s : State}

/-- The one slow write that runs is the one whose end its master is told. -/
theorem slow_ended {w : SlowWrite} (h1 : w.key ≠ Obj.PANTRY_STORE) (h2 : w.key ≠ Obj.PANTRY_CLEAR)
    (h3 : w.key ≠ Obj.FW_UPDATE_UPD_CTRL) : ([w].reverse.find? fun x => Nat.beq x.master w.master &&
      !([Obj.PANTRY_STORE, Obj.PANTRY_CLEAR, Obj.FW_UPDATE_UPD_CTRL].contains x.key)) = some w := by
  simp [h1, h2, h3]

theorem execSlowWriteDone_one {w : SlowWrite} (hs : s.dict.slow = [w]) (h1 : w.key ≠ Obj.PANTRY_STORE) (h2 : w.key ≠ Obj.PANTRY_CLEAR)
    (h3 : w.key ≠ Obj.FW_UPDATE_UPD_CTRL) : execSlowWriteDone w.master s = .next (
      let s' := (s.withDict { s.dict with slow := [] }).endWrite w.via w.master w.key .ok
      (if w.via = .window then s'.notePending w.master else s').hbmRelease) := by
  have hrest : [w].filter (· != w) = [] := by simp
  simp only [execSlowWriteDone, hs, slow_ended h1 h2 h3, hrest]

/-- With no access waiting for a region of HBM3 none is released. -/
theorem State.hbmRelease_none (h : s.hbm.waiting = []) : s.hbmRelease = s := by
  have hsame : ({ s.hbm with waiting := [] } : HbmState) = s.hbm := by rw [← h]
  simp only [State.hbmRelease, h, List.filter_nil, hsame]
  rfl

/-- Settles O33: the lock by `ruleDictLock`, the end of the one slow write, the start of a store by `startPantry` and its end. -/
theorem lockStoreAndSlowWrites : Obligations.LockStoreAndSlowWrites := by
  refine ⟨?_, ?_, ?_, ?_, ?_, ?_, ?_, ?_⟩
  · rintro s m v hc ha rfl hoff hf
    have hw := State.objsWf_set hc.1 Obj.LOCK_DICT_LOCK 1
    refine ⟨_, State.rowWrite_applied ha (t := (s.set Obj.LOCK_DICT_LOCK 1).set Obj.LOCK_LOCKED_AT (time80 s.timeNow))
      (by simp [ruleDictLock, hoff]) hf (by decide), ?_, ?_, State.answered_applied _ _ _, ?_⟩
    · rw [State.get_applied, State.get_set_ne hw (by decide), State.get_set_self hc.1]
    · rw [State.get_applied, State.get_set_self hw]
    · exact ((((Within.refl s).set).set).applied).frame hc
  · rintro s m v hc ha rfl hon hf
    exact State.rowWrite_refused hc ha hf (st := .locked) (by decide) (by simp [ruleDictLock, hon])
  · rintro s m w hc hwait hs rfl hvia h1 h2 h3
    refine ⟨_, execSlowWriteDone_one hs h1 h2 h3, ?_⟩
    rw [hvia]
    dsimp only [State.endWrite, State.noteRefused]
    rw [if_pos rfl, if_pos rfl, State.hbmRelease_none (by exact hwait)]
    refine ⟨rfl, State.get_set_self hc.1 _ _, ?_⟩
    exact (((Within.refl s).withDict).set).frame hc
  · rintro s m w hs rfl hvia h1 h2 h3
    refine (execSlowWriteDone_one hs h1 h2 h3).trans ?_
    dsimp only
    rw [if_neg hvia]
  · rintro s m v ha hpath hruns rfl hok
    exact State.rowSlow_started ha hpath hruns (show ruleStore 1 s = _ from Prod.ext hok rfl)
  · rintro s m v ha hpath hruns rfl hok
    exact State.rowSlow_started ha hpath hruns (show ruleClear 1 s = _ from Prod.ext hok rfl)
  · intro s j d hj hrun hch
    refine congrArg Host.Outcome.next ?_
    simp only [hj, hrun, hch, Bool.false_eq_true, if_false, if_true]
  · intro s j d hj hrun hch
    refine congrArg Host.Outcome.next ?_
    simp only [hj, hrun, hch, Bool.false_eq_true, if_false]

end Sys2Proof.Machine
end

section
/-! PROOFS. Family 13_object_dictionary: accesses through the window (R370, R371, R373 to R375, R377, R390, R427). -/

set_option Elab.async false

namespace Sys2Proof.Machine

variable {s : State} {m o n v : Nat}

/-- The object that an offset of a window names. -/
def State.windowKey (s : State) (m o : Nat) : Nat := (s.locate m (winIndex m o).1 (o / 16 % 0x100)).1

/-! ### The branches of the two commands -/

theorem execWindowWrite_below (hw : hasWindow m = true) (hr : s.unreached m = false) (ho : o < 2 ^ 28) :
    execWindowWrite m o n v s = .next (
      if winShape o n = false then State.finish .window m (s.windowKey m o) (.width, s)
      else if (winIndex m o).2 = false then State.finish .window m (objKey 0 (winIndex m o).1 (o / 16 % 0x100)) (.notFound, s)
      else if s.waits .window m false then s.hold ⟨m, (winIndex m o).1, o / 16 % 0x100, o % 16, n, some (v % 2 ^ (8 * n))⟩
      else s.slotWrites m (winIndex m o).1 (o / 16 % 0x100) (o % 16) n (v % 2 ^ (8 * n))) := by
  refine congrArg Host.Outcome.next ((if_neg (by simp [hw, hr])).trans ((if_neg (Nat.not_le.2 ho)).trans rfl))

theorem execRcRead_below (hw : hasWindow m = true) (hr : s.unreached m = false) (ho : o < 2 ^ 28) (hs : winShape o n = true)
    (hi : (winIndex m o).2 = true) :
    execRcRead m o n s = .next (
      if s.waits .window m true then s.hold ⟨m, (winIndex m o).1, o / 16 % 0x100, o % 16, n, none⟩
      else s.slotReads m (winIndex m o).1 (o / 16 % 0x100) (o % 16) n) := by
  refine congrArg Host.Outcome.next ((if_neg (by simp [hw, hr])).trans ((if_neg (Nat.not_le.2 ho)).trans ?_))
  exact (if_neg (by simp [hs])).trans (if_neg (show ¬ (winIndex m o).2 = false by rw [hi]; decide))

/-- A refusal is noted and answered. -/
theorem State.noteRefused_shows (hc : s.Canonical) (m k : Nat) {st : Status} (hst : st ≠ .ok) :
    (s.noteRefused m k st).get (Obj.ACCESS_STATUS_LAST_STATUS m) = st.code ∧
      (s.noteRefused m k st).get (Obj.ACCESS_STATUS_LAST_OBJECT m) = k % 0x1000000 := by
  have h12 : Obj.ACCESS_STATUS_LAST_STATUS m ≠ Obj.ACCESS_STATUS_LAST_OBJECT m := by
    simp [Obj.ACCESS_STATUS_LAST_STATUS, Obj.ACCESS_STATUS_LAST_OBJECT, objKey]
  have h13 : Obj.ACCESS_STATUS_LAST_STATUS m ≠ Obj.ACCESS_STATUS_REFUSED m := by
    simp [Obj.ACCESS_STATUS_LAST_STATUS, Obj.ACCESS_STATUS_REFUSED, objKey]
  have h23 : Obj.ACCESS_STATUS_LAST_OBJECT m ≠ Obj.ACCESS_STATUS_REFUSED m := by
    simp [Obj.ACCESS_STATUS_LAST_OBJECT, Obj.ACCESS_STATUS_REFUSED, objKey]
  have hw := State.objsWf_set hc.1 (Obj.ACCESS_STATUS_LAST_STATUS m) st.code
  have hw2 := State.objsWf_set hw (Obj.ACCESS_STATUS_LAST_OBJECT m) (k % 0x1000000)
  unfold State.noteRefused
  rw [if_neg hst]
  constructor
  · rw [State.get_bump hw2, if_neg h13, State.get_set hw, if_neg h12, State.get_set_self hc.1]
  · rw [State.get_bump hw2, if_neg h23, State.get_set_self hw]

theorem State.refused_frame (hc : s.Canonical) (m k : Nat) (st : Status) :
    Frame (keysOf (refusalObjs m)) noKey [.sent] s ((s.noteRefused m k st).answer m k st) :=
  EventStep.frame ((EventStep.noteRefused (fun k hk => by simpa [keysOf] using hk) k st).trans (EventStep.emit (by simp) _)) hc.1

/-- Settles O32: each access takes the branch that its offset, its shape and its master's other accesses choose. -/
theorem windowAccessesTheDictionary : Obligations.WindowAccessesTheDictionary := by
  refine ⟨?_, ?_, ?_, ?_, ?_, ?_, ?_, ?_, ?_, ?_⟩
  · intro s m o n v hc hw hr ho hs hf
    obtain ⟨hstatus, hobject⟩ := State.noteRefused_shows hc m (s.windowKey m o) (st := .width) (by decide)
    refine ⟨(s.noteRefused m (s.windowKey m o) .width).answer m (s.windowKey m o) .width,
      (execWindowWrite_below hw hr ho : execWindowWrite m o n v s = _).trans (congrArg Host.Outcome.next ?_),
      State.answered_answer _ _ _ _, ?_, ?_, State.refused_frame hc _ _ _⟩
    · exact (if_pos hs).trans (State.finish_refused .window m _ hf (by decide))
    · rw [State.get_answer, hstatus]
    · rw [State.get_answer, hobject]
      rfl
  · intro s m o n v st u hw hr ho hs hi hwait hslot hdict
    refine (execWindowWrite_below hw hr ho : execWindowWrite m o n v s = _).trans (congrArg Host.Outcome.next ?_)
    simp only [hs, hi, hwait, Bool.true_eq_false, Bool.false_eq_true, if_false, State.slotWrites, hslot, hdict]
  · intro s m o n v u hw hr ho hs hi hwait hrc hlock hdict
    refine (execRcRead_below hw hr ho hs hi : execRcRead m o n s = _).trans (congrArg Host.Outcome.next ?_)
    have hlock' : ¬ (o % 16 = 0 ∧ s.readsLock .window m (winIndex m o).1 (o / 16 % 0x100) = true) := by simpa using hlock
    simp only [hwait, Bool.false_eq_true, if_false, State.slotReads, hrc, if_neg hlock', hdict]
  · intro s m o n v st u hw hr ho hs hi hwait hrc hlock hdict hst
    refine (execRcRead_below hw hr ho hs hi : execRcRead m o n s = _).trans (congrArg Host.Outcome.next ?_)
    have hlock' : ¬ (o % 16 = 0 ∧ s.readsLock .window m (winIndex m o).1 (o / 16 % 0x100) = true) := by simpa using hlock
    simp only [hwait, Bool.false_eq_true, if_false, State.slotReads, hrc, if_neg hlock', hdict]
  · intro s m o n hc hw hr ho hs hi hwait hrc
    refine ⟨(s.noteRefused m (s.windowKey m o) .width).answer m (s.windowKey m o) .width,
      (execRcRead_below hw hr ho hs hi : execRcRead m o n s = _).trans (congrArg Host.Outcome.next ?_),
      State.answered_answer _ _ _ _, State.refused_frame hc _ _ _⟩
    simp only [hwait, Bool.false_eq_true, if_false, State.slotReads, hrc, if_true, State.windowKey]
  · intro s m o n v hw hr ho hs hi hwait
    refine (execWindowWrite_below hw hr ho : execWindowWrite m o n v s = _).trans (congrArg Host.Outcome.next ?_)
    simp only [hs, hi, hwait, Bool.true_eq_false, if_false, if_true]
  · intro s m o n hw hr ho hs hi hwait
    refine (execRcRead_below hw hr ho hs hi : execRcRead m o n s = _).trans (congrArg Host.Outcome.next ?_)
    exact if_pos hwait
  · intro s m o n hw hr ho hs hi hwait hrc hzero hlock
    refine (execRcRead_below hw hr ho hs hi : execRcRead m o n s = _).trans (congrArg Host.Outcome.next ?_)
    simp only [hwait, Bool.false_eq_true, if_false, State.slotReads, hrc]
    exact if_pos ⟨hzero, hlock⟩
  · intro s m o n v f b x hw hr ho hbar hon
    refine congrArg Host.Outcome.next ((if_neg (by simp [hw, hr])).trans ((if_pos ho).trans ?_))
    simp only [hbar, show s.coreOff = false from hon, Bool.false_eq_true, if_false]
  · intro s m o n f b x hw hr ho hbar hon
    refine congrArg Host.Outcome.next ((if_neg (by simp [hw, hr])).trans ((if_pos ho).trans ?_))
    simp only [hbar, show s.coreOff = false from hon, Bool.false_eq_true, if_false]

end Sys2Proof.Machine
end

section
/-! PROOFS. Family 16_management_bus: the dictionary and block services (R369 to R371, R376, R379, R451, R453, R454, R538). -/

set_option Elab.async false

namespace Sys2Proof.Machine

variable {s : State} {f : CoicaFrame} {l : List CoicaFrame} {n : Nat}

/-- The request at the head of the queue, of the service that is run, is taken. -/
theorem State.takeSvc_head (hrx : s.coica.rx = f :: l) (ht : f.type = fcODREQ) (hn : byteAt f.payload 0 = n) :
    s.takeSvc n = (some f, s.withCoica { s.coica with rx := l }) := by
  simp only [State.takeSvc, hrx, ht, hn, and_self, if_true]

/-- With its reserved bytes 0 it is served, else refused. -/
theorem State.odServe_head (hrx : s.coica.rx = f :: l) (ht : f.type = fcODREQ) (hn : byteAt f.payload 0 = n)
    (zero : List (Nat × Nat)) (g : CoicaFrame → State → State) :
    s.odServe n zero g = .next (if zeroBytes f.payload ((2, 2) :: zero) then g f (s.withCoica { s.coica with rx := l })
      else (s.withCoica { s.coica with rx := l }).odStatus f .invalid) := by
  simp only [State.odServe, State.takeSvc_head hrx ht hn]

theorem State.odServe_served (hrx : s.coica.rx = f :: l) (ht : f.type = fcODREQ) (hn : byteAt f.payload 0 = n)
    {zero : List (Nat × Nat)} (hz : zeroBytes f.payload ((2, 2) :: zero) = true) (g : CoicaFrame → State → State) :
    s.odServe n zero g = .next (g f (s.withCoica { s.coica with rx := l })) :=
  (State.odServe_head hrx ht hn zero g).trans (congrArg Host.Outcome.next (if_pos hz))

theorem domBytes_of_row {d : Nat} {r : DomRow} (h : domRow d = some r) : domBytes d = r.bytes := by
  rw [domBytes, h]
  rfl

/-- Settles O44: the request at the head of the queue is served, and takes the branch that the hypotheses of its clause choose. -/
theorem busServesTheDictionary : Obligations.BusServesTheDictionary := by
  refine ⟨?_, ?_, ?_, ?_, ?_, ?_, ?_, ?_, ?_, ?_, ?_, ?_, ?_, ?_, ?_, ?_, ?_, ?_⟩
  · intro s f l v u hrx ht hn hz hlen hlock hread
    refine (State.odServe_served hrx ht hn hz _ : execOdRead s = _).trans (congrArg Host.Outcome.next ?_)
    dsimp only
    rw [if_neg fun h => h.2 hlen, if_neg (by simp [hlock]), hread]
  · intro s f l hrx ht hn hz hrow hlen
    refine (State.odServe_served hrx ht hn hz _ : execOdRead s = _).trans (congrArg Host.Outcome.next ?_)
    exact if_pos ⟨.inl hrow, hlen⟩
  · intro s f l r u hrx ht hn hz hlen hdata hwrite
    refine (State.odServe_served hrx ht hn hz _ : execOdWrite s = _).trans (congrArg Host.Outcome.next ?_)
    dsimp only
    rw [if_neg (by simp only [hlen, hdata, ne_eq, not_true_eq_false, and_false, or_self, not_false_eq_true]), hwrite]
  · intro s f l u hrx ht hn hz hlen hdata hwrite
    refine (State.odServe_served hrx ht hn hz _ : execOdWrite s = _).trans (congrArg Host.Outcome.next ?_)
    dsimp only
    rw [if_neg (by simp only [hlen, hdata, ne_eq, not_true_eq_false, and_false, or_self, not_false_eq_true]), hwrite]
  · intro s f l r v u hrx ht hn hz hrow hwait hread
    refine (State.odServe_served hrx ht hn hz _ : execOdDomainRead s = _).trans (congrArg Host.Outcome.next ?_)
    dsimp only
    rw [if_neg (by simp [hwait]), hread, ← domBytes_of_row hrow]
  · intro s f l r hrx ht hn hz hrow hlen hwait
    refine (State.odServe_served hrx ht hn hz _ : execOdDomainWrite s = _).trans (congrArg Host.Outcome.next ?_)
    simp only [hrow, hlen, hwait, ne_eq, not_true_eq_false, Bool.false_eq_true, if_false]
  · intro s f l r x y hrx ht hn hz hrun hend
    refine (State.odServe_served hrx ht hn hz _ : execOdStatus s = _).trans (congrArg Host.Outcome.next ?_)
    simp only [State.withCoica_coica, hrun, hend]
  · intro s f l r hrx ht hn hz hrun hend
    refine (State.odServe_served hrx ht hn hz _ : execOdStatus s = _).trans (congrArg Host.Outcome.next ?_)
    simp only [State.withCoica_coica, hrun, hend]
  · intro s f l hrx ht hn hz
    exact (State.odServe_head hrx ht hn _ _ : execOdRead s = _).trans (congrArg Host.Outcome.next (if_neg (by simp [hz])))
  · intro s f l hrx ht hn hz hmin hmax
    refine (State.odServe_served hrx ht hn hz _ : execBlockOpen s = _).trans (congrArg Host.Outcome.next ?_)
    exact if_neg (by omega)
  · intro s f l hrx ht hn hz hbad
    refine (State.odServe_served hrx ht hn hz _ : execBlockOpen s = _).trans (congrArg Host.Outcome.next ?_)
    exact if_pos hbad
  · intro s f l b hrx ht hn hz hb hfits
    refine (State.odServe_served hrx ht hn hz _ : execBlockSeg s = _).trans (congrArg Host.Outcome.next ?_)
    simp only [State.withCoica_coica, hb, if_neg (Nat.not_lt.2 hfits)]
  · intro s f l b hrx ht hn hz hb hlong
    refine (State.odServe_served hrx ht hn hz _ : execBlockSeg s = _).trans (congrArg Host.Outcome.next ?_)
    simp only [State.withCoica_coica, hb, if_pos hlong]
  · intro s f l good b n hrx ht hn hz hb hhole
    refine (State.odServe_served hrx ht hn hz _ : execBlockCommit good s = _).trans (congrArg Host.Outcome.next ?_)
    simp only [State.withCoica_coica, hb, hhole]
  · intro s f l good b hrx ht hn hz hb hwhole hcrc
    refine (State.odServe_served hrx ht hn hz _ : execBlockCommit good s = _).trans (congrArg Host.Outcome.next ?_)
    simp only [State.withCoica_coica, hb, hwhole, if_pos hcrc]
  · intro s f l good b w r n u hrx ht hn hz hb hwhole hcrc hrun hw hupd
    refine (State.odServe_served hrx ht hn hz _ : execBlockCommit good s = _).trans (congrArg Host.Outcome.next ?_)
    subst hw
    simp only [State.withCoica_coica, hb, hwhole, hcrc, ne_eq, not_true_eq_false, if_false, State.withCoica_boot, hrun,
      Bool.false_eq_true] at hupd ⊢
    rw [hupd]
  · intro s f l hrx ht hn hz
    refine (State.odServe_served hrx ht hn hz _ : execBlockAbort s = _).trans (congrArg Host.Outcome.next ?_)
    rfl
  · intro s f l good b w hrx ht hn hz hb hwhole hcrc hrun hw
    refine (State.odServe_served hrx ht hn hz _ : execBlockCommit good s = _).trans (congrArg Host.Outcome.next ?_)
    subst hw
    simp only [State.withCoica_coica, hb, hwhole, hcrc, ne_eq, not_true_eq_false, if_false, State.withCoica_boot, hrun, if_true]

end Sys2Proof.Machine
end

section
/-! PROOFS. Family 16_management_bus: the token ring (R441 to R450, R455). -/

set_option Elab.async false

namespace Sys2Proof.Machine

variable {s : State} {f : CoicaFrame} {l : List CoicaFrame} {n : Nat}

/-- The frame at the head of the queue, of the type that is run, is taken. -/
theorem State.takeFrame_head (hrx : s.coica.rx = f :: l) (ht : f.type = n) :
    s.takeFrame n = (some f, s.withCoica { s.coica with rx := l }) := by
  simp only [State.takeFrame, hrx, ht, if_true]

/-- A station with a successor other than itself ends its window by passing the token. -/
theorem State.endSolicit_passes (h1 : s.get Obj.COICA_STATION_SUCCESSOR ≠ s.station) (h2 : s.get Obj.COICA_STATION_SUCCESSOR ≠ 0) :
    s.endSolicit = (s.withCoica { s.coica with window := none }).passToken :=
  if_neg fun h => h.elim h1 h2

/-- Settles O41: the station takes the branch of its command that the hypotheses of its clause choose. -/
theorem tokenRingTurns : Obligations.TokenRingTurns := by
  refine ⟨?_, ?_, ?_, ?_, ?_, ?_, ?_, ?_, ?_, ?_, ?_, ?_, ?_, ?_, ?_, ?_⟩
  · intro s f l a hrx ht hda htok hsil hlast hoff hrej hsucc
    refine congrArg Host.Outcome.next ?_
    rw [State.takeFrame_head hrx ht]
    generalize hu : s.withCoica { s.coica with rx := l } = u
    have hda' : f.da = u.station := by rw [← hu]; exact hda
    have htok' : u.tokenStation = true := by rw [← hu]; exact htok
    have hco : u.coica.silentUntil = none ∧ u.coica.lastToken = some a ∧ u.coica.offered = none ∧ u.coica.rejoin = false := by
      rw [← hu]; exact ⟨hsil, hlast, hoff, hrej⟩
    obtain ⟨hsil', hlast', hoff', hrej'⟩ := hco
    have hsucc' : u.get Obj.COICA_STATION_SUCCESSOR ≠ 0 := by rw [← hu]; exact hsucc
    have hset (v : Nat) : (u.set Obj.COICA_STATION_ROTATION_US v).get Obj.COICA_STATION_SUCCESSOR ≠ 0 := by
      rw [State.get_set_of_listed (by decide) u v hsucc']
      exact hsucc'
    refine (if_neg (by simp [hda', htok', hsil', hrej'])).trans ?_
    simp only [hlast', State.set_coica, hoff', if_neg (hset _)]
  · intro s f l a hrx ht hda htok hsil hlast hoff
    refine congrArg Host.Outcome.next ?_
    rw [State.takeFrame_head hrx ht]
    generalize hu : s.withCoica { s.coica with rx := l } = u
    have hda' : f.da = u.station := by rw [← hu]; exact hda
    have htok' : u.tokenStation = true := by rw [← hu]; exact htok
    have hco : u.coica.silentUntil = none ∧ u.coica.lastToken = none ∧ u.coica.offered = some a := by rw [← hu]; exact ⟨hsil, hlast, hoff⟩
    obtain ⟨hsil', hlast', hoff'⟩ := hco
    refine (if_neg (by simp [hda', htok', hsil', hoff'])).trans ?_
    simp only [hlast', hoff']
  · intro s hst hround
    refine congrArg Host.Outcome.next ?_
    exact (if_neg (by simp [hst, hround])).trans (if_pos rfl)
  · intro s hst hround
    refine congrArg Host.Outcome.next ?_
    exact (if_neg (by simp [hst, hround])).trans (if_neg (by decide))
  · intro s f l hrx ht hst
    refine congrArg Host.Outcome.next ?_
    dsimp only
    rw [State.takeFrame_head hrx ht]
    exact if_pos hst
  · intro s f l hrx ht htok hst hrange
    refine congrArg Host.Outcome.next ?_
    rw [State.takeFrame_head hrx ht]
    exact if_pos ⟨htok, hst, Nat.ble_eq_true_of_le hrange⟩
  · intro s f l w hrx ht hst hda hw hans hrange
    refine congrArg Host.Outcome.next ?_
    rw [State.takeFrame_head hrx ht]
    simp only [State.withCoica_coica, hw]
    exact if_pos ⟨hst, hda, hans, Nat.ble_eq_true_of_le hrange⟩
  · intro s b w hw hst hend h1 h2
    refine congrArg Host.Outcome.next ?_
    rw [← State.endSolicit_passes h1 h2]
    simp only [hw, hst, ne_eq, not_true_eq_false, if_false]
    rcases hend with hans | ⟨rfl, hlow, hquiet⟩
    · exact if_pos hans
    · split
      · rfl
      · exact (if_neg (fun h => Nat.not_lt.2 hquiet h.2)).trans ((if_neg (by decide)).trans (if_neg (by omega)))
  · intro s w hw hst hans hcount
    refine congrArg Host.Outcome.next ?_
    simp only [hw, hst, hans, ne_eq, not_true_eq_false, if_false, Option.isSome_none, Bool.false_eq_true, Bool.true_eq_false, false_and,
      if_true, if_neg (Nat.not_le.2 hcount)]
  · intro s hsil hpass hst hend
    refine congrArg Host.Outcome.next ?_
    simp only [hpass]
    exact (if_neg (by simp [hst, hsil, hend])).trans (if_pos trivial)
  · intro s a w hsil hpass hst hend hw ha hne
    subst hw
    refine congrArg Host.Outcome.next ?_
    simp only [hpass]
    refine (if_neg (by simp [hst, hsil, hend])).trans ((if_neg (by decide)).trans ?_)
    rw [ha]
    exact if_neg hne
  · intro s htok hst hign hlate
    have hlost : s.tokenStation = true ∧ (s.cmbState = csLISTEN ∨ s.cmbState = csINRING ∨ s.cmbState = csHOLDING) ∧
        s.coica.ignoring = false ∧ s.coica.carrier + 80000 ≤ s.time.now := ⟨htok, hst, hign, hlate⟩
    have htime : (((s.cmbQuiet.setCmb csCLAIMING).bump Obj.COICA_STATS_CLAIMS).raise 0x8106 uAON 0).time = s.time :=
      State.raise_time _ (by decide) (by decide) _ _ _
    refine congrArg Host.Outcome.next ((if_pos hlost).trans ?_)
    dsimp only
    rw [htime]
  · intro s r hround hst hr hlate
    refine congrArg Host.Outcome.next ?_
    simp only [hround]
    refine (if_neg (by simp [hst]; omega)).trans ((if_neg (by decide)).trans ((if_neg (Nat.not_lt.2 hlate)).trans (if_pos hr)))
  · intro s hround hst hlate
    refine congrArg Host.Outcome.next ?_
    simp only [hround]
    refine (if_neg (by simp [hst])).trans ((if_neg (by decide)).trans ((if_neg (Nat.not_lt.2 hlate)).trans (if_neg (by decide))))
  · intro s r hround hst hr hlate
    refine congrArg Host.Outcome.next ?_
    simp only [hround]
    refine (if_neg (by simp [hst]; omega)).trans ((if_pos trivial).trans (if_neg (Nat.not_lt.2 hlate)))
  · intro s f l r e hrx ht hsil hrole hda hsupv hem
    refine congrArg Host.Outcome.next ?_
    rw [State.takeFrame_head hrx ht]
    generalize hu : s.withCoica { s.coica with rx := l } = u
    have hrole' : u.get Obj.COICA_STATION_ROLE = 1 := by rw [← hu]; exact hrole
    have hda' : f.da = u.station := by rw [← hu]; exact hda
    have hsupv' : u.isSupv f.sa = true := by rw [← hu]; exact hsupv
    have hsil' : u.coica.silentUntil = none := by rw [← hu]; exact hsil
    have hem' : u.coica.emerg = r :: e := by rw [← hu]; exact hem
    have hdb : s.get (Obj.DOORBELL_DB_PENDING SUPV) = u.get (Obj.DOORBELL_DB_PENDING SUPV) := by rw [← hu]; rfl
    refine (if_neg (by simp [hrole', hda', hsupv'])).trans ?_
    simp only [hsil', hem', hdb, Option.isSome_none, Bool.false_eq_true, if_false, List.length_cons]

end Sys2Proof.Machine
end

section
/-! PROOFS. Family 16_management_bus: frames received, the known set, the station's settings and wake patterns (R437 to R441, R446, R447,
R449, R457, R460). -/

set_option Elab.async false

namespace Sys2Proof.Machine

variable {s : State}

/-- The end of an applied write leaves every object. -/
theorem State.get_finish_ok (s : State) (path : Path) (m key k : Nat) : (State.finish path m key (.ok, s)).get k = s.get k := by
  have hfuse (u : State) (via : SlowVia) : (u.holdFuse via).2.get k = u.get k := by
    unfold State.holdFuse
    split
    · split <;> rfl
    · rfl
  have hserve : (s.serve key m).get k = s.get k := by rw [State.get, State.serve_objs, State.get]
  have hnote (u : State) : (if path = .window then u.noteRefused m key .ok else u) = u := by
    split <;> rfl
  simp only [State.finish, if_true, hnote]
  generalize hu : (s.serve key m).holdFuse _ = u
  have hu2 : u.2.get k = s.get k := by rw [← hu]; exact (hfuse _ _).trans hserve
  split
  · exact hu2
  split
  · exact hu2
  · rw [State.get_answer, hu2]

/-- What a change of STATION_ADDR or ROLE makes of a token station. -/
theorem ruleStation_token {key v : Nat} (h : (s.commit key v).on Obj.COICA_STATION_ROLE = false) (hk : key ≠ Obj.COICA_STATION_ROLE) :
    ruleStation key v s = (.ok, (((s.commit key v).cmbQuiet).withCoica { ((s.commit key v).cmbQuiet).coica with rx := [], rejoin := true }).set
      Obj.COICA_STATION_SUCCESSOR 0 |>.setCmb csLISTEN) := by
  have hs : (s.commit key v).cmbQuiet.on Obj.COICA_STATION_ROLE = false := h
  simp [ruleStation, hs, hk]

/-- What it makes of a polled slave. -/
theorem ruleStation_slave {key v : Nat} (h : (s.commit key v).on Obj.COICA_STATION_ROLE = true)
    (hk : key ≠ Obj.COICA_STATION_ROLE ∨ (s.commit key v).cmbState ≠ csSILENT) :
    ruleStation key v s = (.ok, ((((s.commit key v).cmbQuiet).withCoica { ((s.commit key v).cmbQuiet).coica with rx := [], rejoin := false, age := ((s.commit key v).cmbQuiet).get Obj.COICA_STATION_KNOWN_AGE_MS, emergClass := ((s.commit key v).cmbQuiet).get Obj.COICA_STATION_EMERG_CLASS }).set
      Obj.COICA_STATION_SUCCESSOR 0).setCmb csSLAVE) := by
  have hs : (s.commit key v).cmbQuiet.on Obj.COICA_STATION_ROLE = true := h
  have hmute (x : CoicaState) : (Nat.beq ((s.commit key v).cmbQuiet.withCoica x).cmbState csSILENT && Nat.beq key Obj.COICA_STATION_ROLE)
      = false := by
    rcases hk with hk | hk
    · rw [Bool.and_eq_false_iff]
      exact .inr (Bool.eq_false_iff.2 fun e => hk (Nat.eq_of_beq_eq_true e))
    · rw [Bool.and_eq_false_iff]
      exact .inl (Bool.eq_false_iff.2 fun e => hk (Nat.eq_of_beq_eq_true e))
  simp only [ruleStation, hs, hmute, Bool.not_true, if_true, Bool.false_eq_true, if_false]

/-- Whatever the role, the station's own address and role read as stored, and its state as `ruleStation` sets it. -/
theorem ruleStation_reads (hc : s.Canonical) (key v : Nat) (hkey : key ≠ Obj.COICA_STATION_SUCCESSOR ∧ key ≠ Obj.COICA_STATION_STATE) :
    (ruleStation key v s).1 = .ok ∧ (ruleStation key v s).2.get key = v ∧ (ruleStation key v s).2.cmbState =
      (if (Nat.beq s.cmbState csSILENT && Nat.beq key Obj.COICA_STATION_ROLE) = true then csSILENT
      else if (s.commit key v).on Obj.COICA_STATION_ROLE = true then csSLAVE else csLISTEN) := by
  obtain ⟨h1, h2⟩ := hkey
  have hw := State.objsWf_commit hc.1 key v
  have hst : (s.commit key v).cmbState = s.cmbState := by
    rw [State.cmbState, State.get_commit hc.1, if_neg h2.symm, State.cmbState]
  obtain ⟨x, c, hrule, rfl⟩ : ∃ x c, (ruleStation key v s).2 =
      (((s.commit key v).cmbQuiet.withCoica x).set Obj.COICA_STATION_SUCCESSOR 0).setCmb c ∧
      c = (if (Nat.beq (s.commit key v).cmbState csSILENT && Nat.beq key Obj.COICA_STATION_ROLE) = true then csSILENT
      else if (s.commit key v).on Obj.COICA_STATION_ROLE = true then csSLAVE else csLISTEN) := ⟨_, _, rfl, rfl⟩
  have hwx : ((s.commit key v).cmbQuiet.withCoica x).objsWf := hw
  have hw2 := State.objsWf_set hwx Obj.COICA_STATION_SUCCESSOR 0
  rw [hrule]
  refine ⟨rfl, ?_, ?_⟩
  · rw [State.setCmb, State.get_set_ne hw2 h2, State.get_set_ne hwx h1]
    exact State.get_commit_self hc.1 key v
  · rw [← hst]
    exact State.get_set_self hw2 _ _

/-- Settles O42: the frame, the address, the setting or the pattern takes the branch that the hypotheses of its clause choose. -/
theorem busFaultsAndSettings : Obligations.BusFaultsAndSettings := by
  refine ⟨?_, ?_, ?_, ?_, ?_, ?_, ?_, ?_, ?_, ?_, ?_, ?_, ?_, ?_⟩
  · intro s b hign
    exact congrArg Host.Outcome.next ((if_neg (by simp [hign])).trans (if_pos rfl))
  · intro s b hign hlen hcrc
    exact congrArg Host.Outcome.next ((if_neg (by simp [hign])).trans
      ((if_neg (by decide)).trans ((if_neg (Nat.not_lt.2 hlen)).trans (if_pos hcrc))))
  · intro s b hign hlen
    exact congrArg Host.Outcome.next ((if_neg (by simp [hign])).trans ((if_neg (by decide)).trans (if_pos hlen)))
  · intro s b hign hlen hcrc hbad
    exact congrArg Host.Outcome.next ((if_neg (by simp [hign])).trans
      ((if_neg (by decide)).trans ((if_neg (Nat.not_lt.2 hlen)).trans ((if_neg (not_not_intro hcrc)).trans (if_pos hbad)))))
  · intro s b hign hlen hcrc hmax heq htype
    exact congrArg Host.Outcome.next ((if_neg (by simp [hign])).trans
      ((if_neg (by decide)).trans ((if_neg (Nat.not_lt.2 hlen)).trans ((if_neg (not_not_intro hcrc)).trans
        ((if_neg (by omega)).trans (if_pos htype))))))
  · intro s b hign hlen hcrc hmax heq htype
    exact congrArg Host.Outcome.next ((if_neg (by simp [hign])).trans
      ((if_neg (by decide)).trans ((if_neg (Nat.not_lt.2 hlen)).trans ((if_neg (not_not_intro hcrc)).trans
        ((if_neg (by omega)).trans (if_neg (by rw [htype]; decide)))))))
  · intro s a hknown hage
    have hold : s.known a = true ∧ Table.get (fun _ => 0) s.coica.heard a + s.coica.age * ms ≤ s.time.now := ⟨hknown, hage⟩
    exact congrArg Host.Outcome.next (if_pos hold)
  · intro s m v ha hrole
    refine State.rowWrite_ruled ha (ruleStation_token ?_ (by decide))
    rw [State.on, State.get, (Touches.commit _ _).objs]
    exact (congrArg (Nat.beq · 1) (State.get_set_of_lt (j := Obj.COICA_STATION_STATION_ADDR) (k := Obj.COICA_STATION_ROLE) (by decide) s v)).trans
      hrole
  · rintro s m v ha rfl hst
    refine State.rowWrite_ruled ha (ruleStation_slave ?_ (.inr ?_))
    · rw [State.on, State.get, (Touches.commit _ _).objs]
      exact congrArg (Nat.beq · 1) (Table.get_put_of_ne_default (d := objDefault) (k := Obj.COICA_STATION_ROLE) (v := 1) (by decide +kernel) s.objs)
    · rw [State.cmbState, State.get, (Touches.commit _ _).objs]
      exact fun h => hst ((State.get_set_of_lt (by decide) s 1).symm.trans h)
  · intro s m v hc ha hst
    obtain ⟨hok, hget, hstate⟩ := ruleStation_reads hc Obj.COICA_STATION_ROLE v (by decide)
    refine ⟨_, State.rowWrite_ruled ha (r := (.ok, (ruleStation Obj.COICA_STATION_ROLE v s).2)) rfl, ?_, ?_⟩
    · rw [State.get_finish_ok, hget]
    · rw [State.cmbState, State.get_finish_ok]
      refine hstate.trans (if_pos ?_)
      rw [hst]
      rfl
  · intro s m v hc ha hrole
    obtain ⟨hok, hget, hstate⟩ := ruleStation_reads hc Obj.COICA_STATION_STATION_ADDR v (by decide)
    refine ⟨_, State.rowWrite_ruled ha (r := (.ok, (ruleStation Obj.COICA_STATION_STATION_ADDR v s).2)) rfl, ?_, ?_⟩
    · rw [State.station, State.get_finish_ok, hget]
    · rw [State.cmbState, State.get_finish_ok]
      refine hstate.trans ((if_neg ?_).trans (if_pos ?_))
      · rw [show Nat.beq Obj.COICA_STATION_STATION_ADDR Obj.COICA_STATION_ROLE = false by decide, Bool.and_false]
        decide
      · rw [State.on, State.get_commit hc.1, if_neg (by decide)]
        exact hrole
  · intro s n k m v ha hk hoff
    refine State.rowWrite_ruled ha ((if_neg (by omega)).trans (if_neg (by simp [hoff])))
  · intro s n m v ha hmask
    exact State.rowWrite_ruled ha ((if_pos rfl).trans (if_neg hmask))
  · intro s n k m v hc ha hk hon hf
    exact State.rowWrite_refused hc ha hf (st := .busy) (by decide) ((if_neg (by omega)).trans (if_pos hon))

end Sys2Proof.Machine
end

section
/-! PROOFS. Family 14_host_interface: rings are enabled, disabled and lent (R392, R393, R415, R417). -/

set_option Elab.async false

namespace Sys2Proof.Machine

variable {s t : State}

/-- A ring that is enabled is live. -/
theorem State.sqLive_false {q : Nat} (h : s.sqLive q = false) : s.on (Obj.SQ_CONFIG_SQ_ENABLE q) = false :=
  (Bool.or_eq_false_iff.1 h).1

theorem ruleSqEnable_one {q m : Nat} (hl : s.sqLive q = false) (hc : s.sqCq q < 1024)
    (he : s.get (Obj.CQ_CONFIG_CQ_ENABLE (s.sqCq q)) = 1) (hfn : s.cqFn (s.sqCq q) = s.sqFn q) (hb : s.boundTables (s.sqCq q) = [])
    (hev : s.get Obj.EVENT_CTRL_EVENT_CQ ≠ s.sqCq q) (hst : (s.cq (s.sqCq q)).stash = []) :
    ruleSqEnable q m 1 s = (.ok, ((((s.set (Obj.SQ_CONFIG_SQ_ENABLE q) 1).set (Obj.SQ_CONFIG_SQ_HEAD q) 0).set
      (Obj.SQ_CONFIG_SQ_TAIL q) 0).withHost { s.host with stopped := s.host.stopped.filter (· != q) }).set (Obj.SQ_CONFIG_SQ_STATE q) 1) := by
  have hok : ¬ (1024 ≤ s.sqCq q ∨ s.get (Obj.CQ_CONFIG_CQ_ENABLE (s.sqCq q)) = 0 ∨ s.cqFn (s.sqCq q) ≠ s.sqFn q ∨
      s.boundTables (s.sqCq q) ≠ [] ∨ s.get Obj.EVENT_CTRL_EVENT_CQ = s.sqCq q) := by
    rw [he, hfn, hb]
    simp [Nat.not_le.2 hc, hev]
  refine (if_pos rfl).trans ((if_neg (Bool.eq_false_iff.1 (State.sqLive_false hl))).trans ((if_neg (Bool.eq_false_iff.1 hl)).trans
    ((if_neg hok).trans ?_)))
  exact congrArg (fun x => (Status.ok, State.set _ (Obj.SQ_CONFIG_SQ_STATE q) x)) (if_pos hst)

/-- Disabling a ring: the state goes to 0 at once, or the write waits, by whether anything of the ring is left. -/
theorem ruleSqEnable_zero {q m : Nat} {w : State} (ho : s.on (Obj.SQ_CONFIG_SQ_ENABLE q) = true)
    (hw : w = ((s.abortRx q).set (Obj.SQ_CONFIG_SQ_ENABLE q) 0).countJobs) :
    ruleSqEnable q m 0 s = if w.sqEmpty q then (.ok, w.set (Obj.SQ_CONFIG_SQ_STATE q) 0)
      else (.ok, w.withHost { w.host with disabling := w.host.disabling ++ [⟨q, m, some .direct⟩] }) := by
  subst hw
  exact (if_neg (by decide)).trans (if_pos ho)

theorem ruleCqEnable_one {q : Nat} (ho : s.on (Obj.CQ_CONFIG_CQ_ENABLE q) = false) :
    ruleCqEnable q 1 s = (.ok, ((((s.set (Obj.CQ_CONFIG_CQ_HEAD q) 0).set (Obj.CQ_CONFIG_CQ_TAIL q) 0).setCq q {}).set
      (Obj.CQ_CONFIG_CQ_ENABLE q) 1).set (Obj.CQ_CONFIG_CQ_STATE q) 1) := by
  rw [ruleCqEnable, if_pos rfl, if_neg (Bool.eq_false_iff.1 ho)]

theorem ruleCqEnable_used {q r : Nat} (ho : s.on (Obj.CQ_CONFIG_CQ_ENABLE q) = true) (hr : r < 1024) (hl : s.sqLive r = true)
    (hq : s.sqCq r = q) : ruleCqEnable q 0 s = (.busy, s) := by
  have hany : ((List.range 1024).any fun r => s.sqLive r && Nat.beq (s.sqCq r) q) = true :=
    List.any_eq_true.2 ⟨r, List.mem_range.2 hr, by rw [hl, hq, Nat.beq_refl]; rfl⟩
  rw [ruleCqEnable, if_neg (by decide), if_pos ho, if_pos (.inr hany)]

section lent

variable {u w : Fin 32} {v i : Nat} {key : Nat}

/-- Whether a block of VF w shares a ring with a block of count rings from first on. -/
def State.sharesSqs (s : State) (first count w : Nat) : Bool :=
  Nat.blt 0 count && Nat.blt 0 (s.get (Obj.VF_RESOURCES_SQ_COUNT w)) &&
    Nat.blt first (s.get (Obj.VF_RESOURCES_SQ_FIRST w) + s.get (Obj.VF_RESOURCES_SQ_COUNT w)) &&
    Nat.blt (s.get (Obj.VF_RESOURCES_SQ_FIRST w)) (first + count)

/-- A write of SQ_FIRST: first the overlap and the bound, then the rings in use. -/
theorem ruleVfResources_sqFirst : ruleVfResources u 1 key v s =
    if ((List.range 32).any fun w => !Nat.beq w u && s.sharesSqs v (s.get (Obj.VF_RESOURCES_SQ_COUNT u)) w) = true ∨
      1024 < v + s.get (Obj.VF_RESOURCES_SQ_COUNT u) then (.invalid, s)
    else if ((List.range (s.get (Obj.VF_RESOURCES_SQ_COUNT u))).any (fun i => s.sqLive (v + i)) ||
      (List.range (s.get (Obj.VF_RESOURCES_SQ_COUNT u))).any fun i => s.sqLive (s.get (Obj.VF_RESOURCES_SQ_FIRST u) + i)) = true then (.busy, s)
    else s.plain key v := by
  simp only [ruleVfResources, State.sharesSqs, Bool.and_assoc]
  rfl

theorem ruleVfResources_beyond (h : 1024 < v + s.get (Obj.VF_RESOURCES_SQ_COUNT u)) : ruleVfResources u 1 key v s = (.invalid, s) :=
  ruleVfResources_sqFirst.trans (if_pos (.inr h))

theorem ruleVfResources_shared (hne : w ≠ u) (h : s.sharesSqs v (s.get (Obj.VF_RESOURCES_SQ_COUNT u)) w = true) :
    ruleVfResources u 1 key v s = (.invalid, s) := by
  refine ruleVfResources_sqFirst.trans (if_pos (.inl (List.any_eq_true.2 ⟨w, List.mem_range.2 w.isLt, ?_⟩)))
  have hbeq : Nat.beq w u = false := Bool.eq_false_iff.2 fun h => hne (Fin.ext (Nat.eq_of_beq_eq_true h))
  rw [h, hbeq]
  rfl

theorem ruleVfResources_live (hb : v + s.get (Obj.VF_RESOURCES_SQ_COUNT u) ≤ 1024)
    (hn : ∀ w : Fin 32, w ≠ u → s.sharesSqs v (s.get (Obj.VF_RESOURCES_SQ_COUNT u)) w = false)
    (hi : i < s.get (Obj.VF_RESOURCES_SQ_COUNT u))
    (hl : s.sqLive (v + i) = true ∨ s.sqLive (s.get (Obj.VF_RESOURCES_SQ_FIRST u) + i) = true) :
    ruleVfResources u 1 key v s = (.busy, s) := by
  have hno : ¬ (((List.range 32).any fun w => !Nat.beq w u && s.sharesSqs v (s.get (Obj.VF_RESOURCES_SQ_COUNT u)) w) = true ∨
      1024 < v + s.get (Obj.VF_RESOURCES_SQ_COUNT u)) := by
    rintro (h | h)
    · obtain ⟨w, hw, h⟩ := List.any_eq_true.1 h
      obtain ⟨hne, hs⟩ := Bool.and_eq_true_iff.1 h
      have hwu : (⟨w, List.mem_range.1 hw⟩ : Fin 32) ≠ u := fun e => by
        rw [← e, Nat.beq_refl] at hne
        exact absurd hne (by decide)
      exact Bool.noConfusion (hs.symm.trans (hn ⟨w, List.mem_range.1 hw⟩ hwu))
    · exact hb.not_gt h
  refine ruleVfResources_sqFirst.trans ((if_neg hno).trans (if_pos (Bool.or_eq_true_iff.2 ?_)))
  exact hl.imp (fun h => List.any_eq_true.2 ⟨i, List.mem_range.2 hi, h⟩) fun h => List.any_eq_true.2 ⟨i, List.mem_range.2 hi, h⟩

/-- A write of a field of VF_RESOURCES that its rule lets through is a plain one. -/
theorem ruleVfResources_ok {sub : Nat} (h : (ruleVfResources u sub key v s).1 = .ok) :
    ruleVfResources u sub key v s = (.ok, s.commit key v) := by
  unfold ruleVfResources at h ⊢
  extract_lets at h ⊢
  split at h
  · cases h
  · rw [if_neg ‹_›]
    split at h
    · cases h
    · exact if_neg ‹_›

end lent

/-- Settles O37: each write by its rule. -/
theorem ringsAreEnabledAndLent : Obligations.RingsAreEnabledAndLent := by
  unfold Obligations.RingsAreEnabledAndLent
  have hkey (u : Fin 32) (k : Fin 4) : objKey 0 (0x1130 + u.val) (1 + k.val) % 0x1000000 ≠ 0x111007 := by
    simp only [objKey]
    omega
  refine ⟨fun s q m v ha hs hv hl hc he hfn hb hev hst => ?_, fun s q m v w ha hs hv ho hw he => ?_,
    fun s q m v w ha hs hv ho hw he => ?_, fun s q m v ha hs hv ho => ?_, fun s q m v hc ha hs hv ho _ ⟨r, hr, hl, hq⟩ hf => ?_,
    fun s u k m v hc ha hr hf => State.rowWrite_stored hc ha hf (ruleVfResources_ok hr) (hkey u k),
    fun s u m v hc ha h hf => State.rowWrite_refused hc ha hf (by decide) (ruleVfResources_beyond h),
    fun s u w m v hc ha hne h1 h2 h3 h4 hf => ?_, fun s u i m v hc ha hb hn hi hl hf => ?_⟩
  · subst hv
    simp only [exec, execSqEnable, hs]
    exact State.rowWrite_ruled ha (ruleSqEnable_one hl hc he hfn hb hev hst)
  · subst hv
    simp only [exec, execSqEnable, hs]
    exact State.rowWrite_ruled ha ((ruleSqEnable_zero ho hw).trans (if_pos he))
  · subst hv
    simp only [exec, execSqEnable, hs]
    exact State.rowWrite_ruled ha ((ruleSqEnable_zero ho hw).trans (if_neg (Bool.eq_false_iff.1 he)))
  · subst hv
    simp only [exec, execCqEnable, hs]
    exact State.rowWrite_ruled ha (ruleCqEnable_one ho)
  · subst hv
    simp only [exec, execCqEnable, hs]
    exact State.rowWrite_refused hc ha hf (by decide) (ruleCqEnable_used ho hr hl hq)
  · refine State.rowWrite_refused hc ha hf (by decide) (ruleVfResources_shared hne ?_)
    simp only [State.sharesSqs, Bool.and_eq_true, Nat.blt_eq]
    exact ⟨⟨⟨h1, h2⟩, h3⟩, h4⟩
  · refine State.rowWrite_refused hc ha hf (by decide) (ruleVfResources_live hb (fun w hw => ?_) hi hl)
    rw [Bool.eq_false_iff]
    simp only [State.sharesSqs, ne_eq, Bool.and_eq_true, Nat.blt_eq]
    have := hn w hw
    omega

end Sys2Proof.Machine
end

section
/-! PROOFS. Families 04_forwarding_resolution and 07_shaping_policing_gates: meters, copies and the pool of pipelines (R145, R146, R148, R234,
R237, R239). -/

set_option Elab.async false

namespace Sys2Proof.Machine

variable {s t s₀ : State} {objs doms : Nat → Bool} {parts : List Part}

/-- A record of HBM3 that is counted up: its entry, and what an uncorrectable word leaves. -/
theorem Within.countRecord {d e n : Nat} {f : Field} (h : Within objs doms parts s₀ s) (hd : doms (domKey d e) = true)
    (ho : ∀ k, keysAndEvents [Obj.HBM_STACK_UE_COUNT 3] k = true → objs k = true) (hp : ∀ p ∈ Part.parse :: eventParts, p ∈ parts) :
    Within objs doms parts s₀ (s.countRecord d e f n) := by
  unfold State.countRecord State.updateRecord
  have hu := ho (Obj.HBM_STACK_UE_COUNT 3) (by simp [keysAndEvents])
  split
  · split
    · exact h
    · split
      · exact (((h.bump hu).raise (ho := fun k hk => ho k (eventObjs_keysAndEvents k hk))
          (hp := fun p hm => hp p (List.mem_cons_of_mem _ hm))).setDom hd).withParse (hp _ List.mem_cons_self)
      · exact h.setDom hd
  · exact h

/-- What counts a packet at its meter leaves METERED and the meters as they are. -/
theorem State.countMeter_keeps (hc : s.Canonical) {j n : Nat} (hj : j < 262144) (hn : n < 262144) (f g : Field) (len : Nat) :
    (((s.countRecord Dom.METER_COUNTERS j f).countRecord Dom.METER_COUNTERS j g len).get Obj.METER_CTRL_METERED =
      s.get Obj.METER_CTRL_METERED) ∧
    ((s.countRecord Dom.METER_COUNTERS j f).countRecord Dom.METER_COUNTERS j g len).dom Dom.METERS n = s.dom Dom.METERS n := by
  have hk : keysOf [domKey Dom.METER_COUNTERS j] (domKey Dom.METER_COUNTERS j) = true := by simp [keysOf]
  have h := ((Within.refl (objs := keysAndEvents [Obj.HBM_STACK_UE_COUNT 3]) (doms := keysOf [domKey Dom.METER_COUNTERS j])
    (parts := .parse :: eventParts) s).countRecord (f := f) (n := 1) hk (fun _ h => h) fun _ h => h).countRecord (f := g) (n := len) hk
    (fun _ h => h) fun _ h => h
  refine ⟨h.get hc (by decide), h.dom hc ?_⟩
  simp only [keysOf, List.contains_cons, List.contains_nil, Bool.or_false, beq_eq_false_iff_ne]
  simp only [domKey, Dom.METER_COUNTERS, Dom.METERS]
  omega

/-- A meter that no decision of the cycle has written is written in place. -/
theorem State.putMeter_fresh (h : s.sched.oldMeters = []) (n m : Nat) (d : Bool) :
    s.putMeter n m d = if d then s.commitDom Dom.METERS n m else s.setDom Dom.METERS n m := by
  rw [State.putMeter, h]
  rfl

theorem State.commitDom_doms (s : State) (d e v : Nat) : (s.commitDom d e v).doms = (s.setDom d e v).doms := by
  rw [State.commitDom]
  split
  · exact State.journal_doms _ _
  · rfl

theorem State.commitDom_objs (s : State) (d e v : Nat) : (s.commitDom d e v).objs = s.objs := by
  rw [State.commitDom]
  split
  · exact State.journal_objs _ _
  · rfl

/-- The counters of METER_COUNTERS that a colour counts up. -/
def meterFields : Nat → Field × Field
  | 0 => (Fld.MC_GREEN_PACKETS, Fld.MC_GREEN_BYTES)
  | 1 => (Fld.MC_YELLOW_PACKETS, Fld.MC_YELLOW_BYTES)
  | _ => (Fld.MC_RED_PACKETS, Fld.MC_RED_BYTES)

/-- The state in which the packet of a meter is counted. -/
def State.metered (s : State) (n m colour len : Nat) : State :=
  let s := (s.putMeter n m true).bump Obj.METER_CTRL_METERED
  if s.isStandby then s else
    (s.countRecord Dom.METER_COUNTERS n (meterFields colour).1).countRecord Dom.METER_COUNTERS n (meterFields colour).2 len

/-- A sound meter whose decision drops no packet passes it, coloured. -/
theorem State.meterPacket_passes {j : Metered} {o : OldMeter} {out m : Nat} (hb : o.bad = false)
    (hd : meterDecide o.profile o.entry j.pkt.bytes.length j.pkt.colour = (out, m))
    (hr : out ≠ 2 ∨ Fld.MP_RED_DROP.get o.profile = 0) :
    s.meterPacket j o = (some { j.pkt with colour := out }, s.metered j.meter m out j.pkt.bytes.length) := by
  have hno : ¬ (out = 2 ∧ Fld.MP_RED_DROP.get o.profile = 1 ∧ o.bad = false) := by
    rintro ⟨h2, h1, -⟩
    rcases hr with h | h
    · exact h h2
    · exact absurd (h.symm.trans h1) (by decide)
  unfold State.meterPacket
  simp only [hb, hd, Bool.false_eq_true, if_false]
  rw [if_neg (by simpa only [hb] using hno)]
  rcases out with _ | _ | _ <;> rfl

theorem State.metered_shows (hc : s.Canonical) {n : Nat} (hn : n < 262144) (ho : s.sched.oldMeters = []) (m colour len : Nat) :
    (s.metered n m colour len).dom Dom.METERS n = m ∧
      (s.metered n m colour len).get Obj.METER_CTRL_METERED = wrapAdd 64 (s.get Obj.METER_CTRL_METERED) 1 := by
  have hput : s.putMeter n m true = s.commitDom Dom.METERS n m := State.putMeter_fresh ho n m true
  have hobjs : (s.commitDom Dom.METERS n m).objs = s.objs := State.commitDom_objs _ _ _ _
  have hcan : ((s.commitDom Dom.METERS n m).bump Obj.METER_CTRL_METERED).Canonical :=
    have h := (Kept.refl s).commitDom.bump.toKeptForm
    ⟨h.objs hc.1, h.doms hc.2⟩
  have hdom : ((s.commitDom Dom.METERS n m).bump Obj.METER_CTRL_METERED).dom Dom.METERS n = m := by
    have hd : ((s.commitDom Dom.METERS n m).bump Obj.METER_CTRL_METERED).dom Dom.METERS n = (s.setDom Dom.METERS n m).dom Dom.METERS n :=
      congrArg (fun d => Table.get domDefault d (domKey Dom.METERS n)) (State.commitDom_doms _ _ _ _)
    rw [hd, State.dom_setDom hc.2, if_pos rfl]
  have hget : ((s.commitDom Dom.METERS n m).bump Obj.METER_CTRL_METERED).get Obj.METER_CTRL_METERED =
      wrapAdd 64 (s.get Obj.METER_CTRL_METERED) 1 := by
    rw [State.get_bump (by rw [State.objsWf, hobjs]; exact hc.1), if_pos rfl]
    exact congrArg (wrapAdd 64 · 1) (congrArg (fun o => Table.get objDefault o Obj.METER_CTRL_METERED) hobjs)
  simp only [State.metered, hput]
  split
  · exact ⟨hdom, hget⟩
  · obtain ⟨hg, hd⟩ := State.countMeter_keeps hcan hn hn (meterFields colour).1 (meterFields colour).2 len
    exact ⟨hd.trans hdom, hg.trans hget⟩

/-- With nothing uncorrectable, a meter that no decision of the cycle has written is read refilled. -/
theorem State.readMeter_clean (ho : s.sched.oldMeters = []) (n : Nat) :
    s.readMeter n .clean .clean = ({ s.seenMeter n with
      entry := meterRefill (s.dom Dom.METER_PROFILES (Fld.MT_PROFILE.get (s.dom Dom.METERS n))) (s.dom Dom.METERS n) (meterStep s.time.now) }, s) := by
  simp [State.readMeter, State.meterEcc, State.seenMeter, ho]

/-- The copy of a multicast job that its copy and next-hop entries let through. -/
theorem execMcReplicate_copy {n : Fin 8} {u : List Upset} {j : McJob} {l : List McJob} {e h : Nat} {p : Pkt} {a b c : State}
    (hon : s.CoreOn) (hj : Table.get noList s.net.mc n = j :: l) (hl : 0 < j.left)
    (hr : ((s.workFor (128 + n) 5).part (128 + n) 5).inRun = true)
    (he : (forEach u (s.workFor (128 + n) 5) fun s u => s.upset false u).resEntry Dom.MC_COPIES j.next = (some e, a))
    (hv : Fld.MCC_VALID.get e = 1) (hh : a.resEntry Dom.NEXT_HOPS (Fld.MCC_NEXT_HOP.get e) = (some h, b))
    (hp : Fld.MCC_PRUNE.get e = 0 ∨ Fld.NH_LOCATION.get h ≠ b.ownLocation j.pkt.inPort)
    (ht : b.toNextHop n true { j.pkt with id := b.net.serial } (Fld.MCC_NEXT_HOP.get e) = (some p, c)) :
    execMcReplicate ⟨n, u⟩ s = .next (((c.withNet { c.net with serial := c.net.serial + 1 }).withNet { c.net with serial := c.net.serial + 1, mc := Table.put noList c.net.mc n (if j.left ≤ 1 then l else { j with pkt := { j.pkt with job := none }, next := j.next + 1, left := j.left - 1 } :: l) }).cross
      p false) := by
  have hno : ¬ (Fld.MCC_PRUNE.get e = 1 ∧ Fld.NH_LOCATION.get h = b.ownLocation j.pkt.inPort) := by
    rintro ⟨h1, h2⟩
    exact hp.elim (fun h0 => absurd (h0.symm.trans h1) (by decide)) fun hne => hne h2
  have hv0 : ¬ Fld.MCC_VALID.get e = 0 := by rw [hv]; decide
  refine (State.inCore_on hon _ : execMcReplicate _ s = _).trans (congrArg Host.Outcome.next ?_)
  simp only [hj, hr, he, hh, ht, hv0, hno, Nat.ne_of_gt hl, Bool.true_eq_false, if_false]
  rfl

/-- Settles O14: each command by the branch that its clause selects. -/
theorem metersCopiesAndPipelinePool : Obligations.MetersCopiesAndPipelinePool := by
  unfold Obligations.MetersCopiesAndPipelinePool
  refine ⟨fun s a b j i o u w p hon ht hcy hf hr hm => ?_, fun s a b j i o u w hon ht hcy hf hr hm => ?_,
    fun s j o out m hc hb ho hj hd hr => ?_, fun s x hon => ?_, fun s n hc hon ho => ?_,
    fun s n u j l e h p a b c hon hj hl hr he hv hh hp ht => execMcReplicate_copy hon hj hl hr he hv hh hp ht,
    fun s n k hon hm hr hk => ?_, fun s n k hon hm hn hr hk => ?_⟩
  · refine (State.inCore_on hon _ : execMeterDecide a b s = _).trans (congrArg Host.Outcome.next ?_)
    simp only [ht, hcy, hf, hr, hm, Bool.false_eq_true, if_false]
  · refine (State.inCore_on hon _ : execMeterDecide a b s = _).trans (congrArg Host.Outcome.next ?_)
    simp only [ht, hcy, hf, hr, hm, Bool.false_eq_true, if_false, List.append_nil]
  · obtain ⟨hdom, hget⟩ := State.metered_shows hc hj ho m out j.pkt.bytes.length
    rw [State.meterPacket_passes hb hd hr]
    exact ⟨rfl, hdom, hget⟩
  · exact (State.inCore_on hon _ : execMeterSweep x s = _)
  · refine ⟨_, (State.inCore_on hon _ : execMeterSweep ⟨n, .clean, .clean⟩ s = _), ?_⟩
    simp only [State.readMeter_clean ho, State.putMeter_fresh ho, Bool.false_eq_true, if_false]
    exact ⟨by rw [State.dom_setDom hc.2, if_pos rfl], ((Within.refl s).setDom).frame hc⟩
  · refine (State.inCore_on hon _ : execPoolActivate n k s = _).trans (congrArg Host.Outcome.next ?_)
    simp only [hm, hr, hk, and_self, if_true]
  · refine (State.inCore_on hon _ : execPoolDeactivate n k s = _).trans (congrArg Host.Outcome.next ?_)
    simp only [hm, hn, hr, hk, and_self, if_true]

end Sys2Proof.Machine
end

section
/-! PROOFS. Family 05_buffers: the pool manager, admission, units and staging (R164, R172 to R176, R180). -/

set_option Elab.async false

namespace Sys2Proof.Machine

variable {s t s₀ : State} {objs doms : Nat → Bool} {parts : List Part}

theorem ruleBufEnable_legal (h : ((List.range 3).all fun g => s.regionOk g) = true) :
    ruleBufEnable 1 s = (if s.get Obj.BUFFER_CTRL_BUF_ENABLE = 0 then forEach (List.range 3) s fun s g => s.formLists g else s).plain
      Obj.BUFFER_CTRL_BUF_ENABLE 1 := by
  simp only [ruleBufEnable, h, true_and, Bool.true_eq_false, if_false]

theorem ruleBufEnable_illegal (h : ((List.range 3).all fun g => s.regionOk g) = false) : ruleBufEnable 1 s = (.invalid, s) :=
  if_pos ⟨rfl, h⟩

theorem ruleBufEnable_zero : ruleBufEnable 0 s = (.ok, s.commit Obj.BUFFER_CTRL_BUF_ENABLE 0) := by
  simp only [ruleBufEnable, Nat.zero_ne_one, false_and, if_false]
  rfl

/-- The units that wait, without the oldest of a requester. -/
theorem execD2dUnit_drop (u : Nat × Nat) (l : List (Nat × Nat)) : execD2dUnit.drop u l = l.eraseP fun v => Nat.beq v.1 u.1 := by
  induction l with
  | nil => rfl
  | cons v l ih =>
    rw [execD2dUnit.drop, List.eraseP_cons, ih]
    by_cases h : v.1 = u.1
    · rw [if_pos h, h, Nat.beq_refl]
      rfl
    · rw [if_neg h, show Nat.beq v.1 u.1 = false from Bool.eq_false_iff.2 fun e => h (Nat.eq_of_beq_eq_true e)]
      rfl

/-- The unit of a packet that stands in a queue is stored; the packet counts it, and the last one completes it. -/
theorem execD2dUnit_queued {r : Fin 388} {e : ReadUpset} {u : Nat × Nat} {q : Nat} {k k2 : Pkt} {a b : State} (hon : s.CoreOn)
    (hr : s.ev.d2dRetrain = none) (hf : s.ev.d2dFailed = false) (hu : (s.net.units.find? fun u => Nat.beq u.1 r) = some u)
    (hq : s.queueOf u.2 = some (q, k)) (ha : a = s.withNet { s.net with units := s.net.units.eraseP fun v => Nat.beq v.1 u.1 })
    (hs : a.store k (a.bufsOf k (k.arrived + 1)) = (k2, b)) :
    execD2dUnit ⟨r, e⟩ s = .next (if k.arrived + 1 = k.whole then b.lastUnit k2 true
      else b.setQueue q ((b.queue q).map fun x => if x.id = k.id then { k2 with arrived := x.arrived + 1 } else x)) := by
  have haf : a.ev.d2dFailed = false := by rw [ha]; exact hf
  have haq : a.queueOf u.2 = some (q, k) := by rw [ha]; exact hq
  refine (State.inCore_on hon _ : execD2dUnit _ s = _).trans (congrArg Host.Outcome.next ?_)
  simp only [hr, Option.isSome_none, hu, execD2dUnit_drop, ← ha, haf, haq, hs, Bool.false_eq_true, if_false]

/-- The parts of the network state that forming free lists anew leaves as they are. -/
def NetState.withoutLists (n : NetState) : NetState := { n with frees := [], sub := [] }

theorem State.formLists_net (s : State) (g : Nat) : (s.formLists g).net.withoutLists = s.net.withoutLists := by
  unfold State.formLists
  split <;> rfl

theorem forEach_formLists_net (l : List Nat) (s : State) :
    (forEach l s fun s g => s.formLists g).net.withoutLists = s.net.withoutLists := by
  unfold Machine.forEach
  induction l generalizing s with
  | nil => rfl
  | cons g l ih => exact (ih _).trans (s.formLists_net g)

theorem NetState.eq_of_withoutLists {m n : NetState} (h : m.withoutLists = n.withoutLists) :
    m = { n with frees := m.frees, sub := m.sub } :=
  congrArg (fun x : NetState => { x with frees := m.frees, sub := m.sub }) h

theorem Within.formLists {g : Nat} (h : Within objs doms parts s₀ s) (hp : Part.net ∈ parts := by decide) :
    Within objs doms parts s₀ (s.formLists g) :=
  .ite h (h.withNet hp)

/-- Settles O15: each command by the branch that its clause selects. -/
theorem bufferCommandsTakeEffect : Obligations.BufferCommandsTakeEffect := by
  unfold Obligations.BufferCommandsTakeEffect
  refine ⟨fun s m v hc ha hv hr hf => ?_, fun s m v hc ha hv hf => ?_, fun s m v hc ha hv hr hf => ?_,
    fun s u c w hon hr hw hch hne => ?_, fun s r e u q k k2 a b hon hr hf hu hq ha hs hk => ?_,
    fun s r e u q k k2 a b hon hr hf hu hq ha hs hk => ?_, fun s x l hon hl hx => ?_, fun s x l r hon hl hx => ?_, fun s hon hup => ?_⟩
  · subst hv
    have hw : Within (keysOf [Obj.BUFFER_CTRL_BUF_ENABLE]) noKey [.net, .pair, .dict, .sent] s
        (if s.get Obj.BUFFER_CTRL_BUF_ENABLE = 0 then forEach (List.range 3) s fun s g => s.formLists g else s) :=
      .ite ((Within.refl s).forEach fun _ _ _ h => h.formLists) (.refl s)
    have hnet : (if s.get Obj.BUFFER_CTRL_BUF_ENABLE = 0 then forEach (List.range 3) s fun s g => s.formLists g else s).net.withoutLists =
        s.net.withoutLists := by
      split
      · exact forEach_formLists_net _ s
      · rfl
    have hsec : (if s.get Obj.BUFFER_CTRL_BUF_ENABLE = 0 then forEach (List.range 3) s fun s g => s.formLists g else s).sec = s.sec :=
      (hw.frame hc).2.2 .sec (by decide)
    refine ⟨_, State.rowWrite_applied ha (ruleBufEnable_legal hr) (by rw [State.commit_sec, hsec, hf]) (by decide), ?_, ?_,
      State.answered_applied _ _ _, hw.commit.applied.frame hc⟩
    · rw [State.get_applied, State.get_commit_self (hw.canonical hc).1]
    · exact NetState.eq_of_withoutLists ((congrArg _ ((State.applied_same _ _ _ (p := .net) (by decide) (by decide)).trans
        (State.commit_net _ _ _))).trans hnet)
  · subst hv
    exact State.rowWrite_stored hc ha hf ruleBufEnable_zero (by decide)
  · subst hv
    exact State.rowWrite_refused hc ha hf (by decide) (ruleBufEnable_illegal hr)
  · subst hw
    refine (State.inCore_on hon _ : execAdmission u s = _).trans (congrArg Host.Outcome.next ?_)
    simp only [hr, Option.isSome_none, Bool.false_eq_true, if_false, ← hch]
  · exact (execD2dUnit_queued hon hr hf hu hq ha hs).trans (by rw [if_neg hk])
  · exact (execD2dUnit_queued hon hr hf hu hq ha hs).trans (by rw [if_pos hk])
  · refine (State.inCore_on hon _ : execStagingDone s = _).trans (congrArg Host.Outcome.next ?_)
    simp only [hl, hx]
  · refine (State.inCore_on hon _ : execStagingDone s = _).trans (congrArg Host.Outcome.next ?_)
    simp only [hl, hx]
  · refine ⟨_, (State.inCore_on hon _ : execIdleMap s = _), ?_⟩
    simp only [hup, Bool.true_eq_false, if_false]
    exact ⟨rfl, (Touches.refl s).withNet.frame⟩

end Sys2Proof.Machine
end

section
/-! PROOFS. Family 04_forwarding_resolution: a packet that has made its passes, with objects out of order (R155). -/

set_option Elab.async false

namespace Sys2Proof.Machine

/-- A packet that has made 3 passes. The objects stand out of order: a read of RECIRC_SECTOR stops at the entry that OUTSTANDING of the
recirculation port has before it. -/
def hiddenSector : State :=
  (running.withObjs [(Obj.SCHED_PORT_OUTSTANDING portRC, 3), (Obj.RESOLUTION_RECIRC_SECTOR, 2)]).withNet
    { recirc := [{ id := 3, bytes := [], inPort := 5, requester := 5, out := 3, pass := 3 }] }

/-- OUTSTANDING is 0 again, and E-3106 names the sector that its entry hid. -/
theorem hiddenSector_raises : ∃ t, execRecirculate hiddenSector = .next t ∧ t.ev.due.map (·.unit) = [uFS 2] :=
  ⟨_, rfl, by decide +kernel⟩

/-- Refutes O13: its last clause reads RECIRC_SECTOR before OUTSTANDING is written and does not ask for canonical tables. In `hiddenSector`
it expects the default sector, and the event names sector 2. -/
theorem not_framesEnterAndArePiped : ¬ Obligations.FramesEnterAndArePiped := by
  rintro ⟨-, -, -, hdrop⟩
  obtain ⟨t, hrun, hunits⟩ := hiddenSector_raises
  have hdrop : execRecirculate hiddenSector = _ := hdrop hiddenSector _ [] rfl rfl (by decide)
  have hexp := Host.Outcome.next.inj (hrun.symm.trans hdrop)
  rw [hexp] at hunits
  exact absurd hunits (by decide +kernel)

end Sys2Proof.Machine
end

section
/-! PROOFS. Family 03_tables: the scrubbers, the loss of LPM routes, and the settings of the TCAM (R115, R119, R120, R123, R127, R128). -/

set_option Elab.async false

namespace Sys2Proof.Machine

variable {s t : State}

theorem execScrubRow_due (hon : s.CoreOn) (hd : s.scrubDue = true) (l : List Upset) :
    execScrubRow l s = .next (forEach (s.rowDamage s.tab.scrubBank s.tab.scrubRow ++
      l.filter fun u => s.upsetIn s.tab.scrubBank s.tab.scrubRow u && !(s.rowDamage s.tab.scrubBank s.tab.scrubRow).contains u)
      s.scrubNext fun s u => s.upset true u) := by
  refine (State.inCore_on hon _ : execScrubRow l s = _).trans (congrArg Host.Outcome.next ?_)
  simp only [hd, Bool.true_eq_false, if_false]

/-- The state in which the scrubber of the TCAM has taken its unit. -/
def State.tcamScrubbed (s : State) : State := s.withTab { s.tab with tcamScrub := (s.tab.tcamScrub + 1) % 65536 }

theorem execTcamScrub_sound (hon : s.CoreOn) (l : List (Fin 8)) (n : Nat) :
    execTcamScrub l false n s = .next (forEach l s.tcamScrubbed fun u n =>
      (u.bump Obj.TCAM_SCRUB_REPLICA_FIXES).raise 0x3104 (unitId 0 n 24 (s.tab.tcamScrub / 4096)) 0 0) := by
  refine (State.inCore_on hon _ : execTcamScrub l false n s = _).trans (congrArg Host.Outcome.next ?_)
  simp only [Bool.false_eq_true, if_false]
  rfl

/-- The record of a structure that is lost, under its number. -/
def LpmDamage.record (d : LpmDamage) (n : Nat) : Nat :=
  Fld.LL_VALID.set (Fld.LL_FAMILY.set (Fld.LL_LENGTH.set (Fld.LL_VRF.set (Fld.LL_COUNT.set (Fld.LL_LOSS_NUMBER.set (Fld.LL_PREFIX.set 0 d.pfx) n)
    d.count) d.vrf) d.len) d.family) 1

/-- The state in which the oldest structure marked for removal is dropped and its routes counted. -/
def State.lpmCounted (s : State) (d : LpmDamage) (l : List LpmDamage) : State :=
  (s.withTab { s.tab with lpmDamage := l }).bump Obj.LPM_CTRL_PARITY_LOSSES d.count

/-- The state in which it is recorded too. -/
def State.lpmLost (s : State) (d : LpmDamage) (l : List LpmDamage) : State :=
  ((s.lpmCounted d l).setDom Dom.LPM_LOSSES (s.get Obj.LPM_CTRL_LOSS_NEXT % 256) (d.record (s.get Obj.LPM_CTRL_LOSS_NEXT))).bumpW 32
    Obj.LPM_CTRL_LOSS_NEXT

theorem State.get_lpmCounted (hc : s.Canonical) (d : LpmDamage) (l : List LpmDamage) (k : Nat) : (s.lpmCounted d l).get k =
    if k = Obj.LPM_CTRL_PARITY_LOSSES then wrapAdd 64 (s.get Obj.LPM_CTRL_PARITY_LOSSES) d.count else s.get k :=
  State.get_bump (s := s.withTab _) hc.1 _ _ _

theorem State.get_lpmLost (hc : s.Canonical) (d : LpmDamage) (l : List LpmDamage) (k : Nat) : (s.lpmLost d l).get k =
    if k = Obj.LPM_CTRL_LOSS_NEXT then wrapAdd 32 (s.get Obj.LPM_CTRL_LOSS_NEXT) 1 else (s.lpmCounted d l).get k := by
  have hn : (s.lpmCounted d l).get Obj.LPM_CTRL_LOSS_NEXT = s.get Obj.LPM_CTRL_LOSS_NEXT :=
    (State.get_lpmCounted hc d l _).trans (if_neg (by decide))
  rw [← hn]
  exact State.get_bumpW (s := (s.lpmCounted d l).setDom _ _ _) (State.objsWf_bump hc.1 _ _) _ _ _ _

theorem State.dom_lpmLost (hc : s.Canonical) (d : LpmDamage) (l : List LpmDamage) :
    (s.lpmLost d l).dom Dom.LPM_LOSSES (s.get Obj.LPM_CTRL_LOSS_NEXT % 256) = d.record (s.get Obj.LPM_CTRL_LOSS_NEXT) :=
  (State.dom_setDom (s := s.lpmCounted d l) hc.2 _ _ _ _ _).trans (if_pos rfl)

theorem execLpmLoss_oldest (hc : s.Canonical) (hon : s.CoreOn) {d : LpmDamage} {l : List LpmDamage} (hd : s.tab.lpmDamage = d :: l) :
    execLpmLoss s = .next ((s.lpmLost d l).raise 0x3205 (uBank d.bank) (d.family * 2 ^ 60 + d.len % 256 * 2 ^ 52 + d.vrf % 4096 * 2 ^ 40 +
      d.count % 2 ^ 24 * 2 ^ 16 + s.get Obj.LPM_CTRL_LOSS_NEXT % 256) d.family) := by
  have hn : ((s.withTab { s.tab with lpmDamage := l }).bump Obj.LPM_CTRL_PARITY_LOSSES d.count).get Obj.LPM_CTRL_LOSS_NEXT =
      s.get Obj.LPM_CTRL_LOSS_NEXT := (State.get_lpmCounted hc d l _).trans (if_neg (by decide))
  refine (State.inCore_on hon _ : execLpmLoss s = _).trans (congrArg Host.Outcome.next ?_)
  simp only [hd, hn]
  rfl

theorem State.lpmLost_within (s : State) (d : LpmDamage) (l : List LpmDamage) :
    Within (keysOf [Obj.LPM_CTRL_LOSS_NEXT, Obj.LPM_CTRL_PARITY_LOSSES])
      (keysOf [domKey Dom.LPM_LOSSES (s.get Obj.LPM_CTRL_LOSS_NEXT % 256)]) [.tab] s (s.lpmLost d l) :=
  (((Within.refl s).withTab).bump.setDom).bumpW

theorem ruleTcamEnable_stored {n : Fin 4} {v : Nat} (h : v = 0 ∨ s.tcamBad n = false) :
    ruleTcamEnable n v s = (.ok, s.commit (Obj.TCAM_TABLE_ENABLE n) v) := by
  refine if_neg ?_
  rintro ⟨h1, hb⟩
  rcases h with h | h
  · exact absurd (h.symm.trans h1) (by decide)
  · exact Bool.noConfusion (h.symm.trans hb)

/-- The tables of the TCAM without the entries of a bank. -/
def TableState.clearBank (x : TableState) (b : Nat) : TableState := { x with
  tcam := Table.keep (fun a => !(Nat.beq (a / 4096) b)) x.tcam
  assocBad := x.assocBad.filter fun a => !(Nat.beq (a / 4096) b) }

theorem ruleTcamWidth_free {b : Fin 16} (h : s.tcamOwner (4096 * b) = none) (v : Nat) : ruleTcamWidth b v s =
    (.ok, (s.commit (Obj.TCAM_BANKS_WIDTH_TB b) v).withTab (s.tab.clearBank b)) := by
  rw [ruleTcamWidth, h, ← s.commit_tab (Obj.TCAM_BANKS_WIDTH_TB b) v]
  rfl

theorem ruleTcamWidth_held {b : Fin 16} (h : (s.tcamOwner (4096 * b)).isSome = true) (v : Nat) : ruleTcamWidth b v s = (.busy, s) :=
  if_pos h

theorem tcamKeys (n : Fin 4) (b : Fin 16) : Obj.TCAM_TABLE_ENABLE n % 0x1000000 ≠ 0x111007 ∧
    Obj.TCAM_BANKS_WIDTH_TB b % 0x1000000 ≠ 0x111007 := by
  simp only [Obj.TCAM_TABLE_ENABLE, Obj.TCAM_BANKS_WIDTH_TB, objKey]
  omega

/-- Settles O26: each command by the branch that its clause selects. -/
theorem tablesAreScrubbedConfigured : Obligations.TablesAreScrubbedConfigured := by
  unfold Obligations.TablesAreScrubbedConfigured
  refine ⟨fun s hon hd hr => ?_, fun s l hon hd => execScrubRow_due hon hd l, fun s n hon => ?_, fun s n k hc hon => ?_,
    fun s d l hc hon hd => ?_, fun s n m v hc ha hv hf => State.rowWrite_stored hc ha hf (ruleTcamEnable_stored hv) (tcamKeys n 0).1,
    fun s b m v hc ha ho hf => ?_, fun s b m v hc ha ho hf => State.rowWrite_refused hc ha hf (by decide) (ruleTcamWidth_held ho v)⟩
  · refine ⟨s.scrubNext, (execScrubRow_due hon hd []).trans (by rw [hr]; rfl), rfl, (Touches.refl s).withTab.frame⟩
  · exact ⟨_, execTcamScrub_sound hon [] n, rfl, (Touches.refl s).withTab.frame⟩
  · have hw : Within (keysAndEvents [Obj.TCAM_SCRUB_REPLICA_FIXES]) noKey (.tab :: eventParts) s s.tcamScrubbed := (Within.refl s).withTab
    refine ⟨_, execTcamScrub_sound hon [k] n, ?_, ?_, hw.bump.raise.frame hc⟩
    · exact State.raise_same _ (p := .tab) (by decide) (by decide) _ _ _ (by decide)
    · refine (((Within.refl (objs := keysAndEvents []) (doms := noKey) (parts := eventParts) _).raise).get
        (hw.bump.canonical hc) (by decide)).trans ?_
      exact (State.get_bump (hw.canonical hc).1 _ _ _).trans (if_pos rfl)
  · have hw := s.lpmLost_within d l
    have hcan := hw.canonical hc
    have hr : ∀ u a c, Within (keysAndEvents []) noKey eventParts (s.lpmLost d l) ((s.lpmLost d l).raise 0x3205 u a c) :=
      fun _ _ _ => (Within.refl _).raise
    refine ⟨_, execLpmLoss_oldest hc hon hd, ?_, ?_, ?_, ?_, ?_, ?_⟩
    · exact State.raise_same _ (p := .tab) (by decide) (by decide) _ _ _ (by decide)
    · exact ((hr _ _ _).get hcan (by decide)).trans ((State.get_lpmLost hc d l _).trans (if_pos rfl))
    · exact ((hr _ _ _).get hcan (by decide)).trans ((State.get_lpmLost hc d l _).trans
        ((if_neg (by decide)).trans ((State.get_lpmCounted hc d l _).trans (if_pos rfl))))
    · exact ((hr _ _ _).dom hcan rfl).trans (State.dom_lpmLost hc d l)
    · exact Occurred.between (SameEvents.of hw hc) (Occurred.raise hcan.1 _ _ _ (by decide) (by decide)) ⟨rfl, fun _ _ => rfl⟩ (by decide)
    · exact ((hw.mono (fun _ h => by simp_all [keysAndEvents, keysOf]) (fun _ h => h) fun _ h => by simp_all).raise).frame hc
  · refine ⟨_, State.rowWrite_applied ha (ruleTcamWidth_free ho v) (by exact (s.commit_sec _ _ ▸ hf)) (tcamKeys 0 b).2, ?_, ?_,
      State.answered_applied _ _ _, ((Within.refl s).commit.withTab.applied).frame hc⟩
    · rw [State.get_applied]
      exact State.get_commit_self hc.1 _ _
    · exact State.applied_same _ _ _ (p := .tab) (by decide) (by decide)

end Sys2Proof.Machine
end

section
/-! PROOFS. Family 09_line_ports: a line port is enabled, comes up and goes down (R269 to R271, R274). -/

set_option Elab.async false

namespace Sys2Proof.Machine

variable {s t s₀ : State} {objs doms : Nat → Bool} {parts : List Part}

theorem Within.showPower {c : Nat} (h : Within objs doms parts s₀ s) (hs : objs (Obj.POWER_CLIENT_PWR_STATE c) = true)
    (hc : objs Obj.POWER_CTRL_SECTOR_STATE = true) : Within objs doms parts s₀ (s.showPower c) :=
  (h.set hs).set hc

theorem Within.movePart {c i : Nat} {p : PowerPart} (h : Within objs doms parts s₀ s) (ht : objs (Obj.POWER_CLIENT_TRANSITIONS c) = true)
    (hp : Part.pw ∈ parts := by decide) : Within objs doms parts s₀ (s.movePart c i p) :=
  .ite (h.withPw hp) ((h.withPw hp).bump ht)

theorem Within.countPort {p sub n : Nat} (h : Within objs doms parts s₀ s) (hk : objs (objKey 0 (0x2100 + p) sub) = true)
    (ho : ∀ k, eventObjs k = true → objs k = true) (hl : Part.line ∈ parts := by decide) (hp : ∀ p ∈ eventParts, p ∈ parts := by decide) :
    Within objs doms parts s₀ (s.countPort p sub n) :=
  .ite ((((h.withLine hl).set hk)).raise (ho := ho) (hp := hp)) ((h.withLine hl).set hk)

/-- The objects behind those that R553 names count no events. -/
theorem eventObjs_of_lt {k : Nat} (hk : objKey 0 0x1801 255 < k) : eventObjs k = false := by
  rw [eventObjs, Bool.or_eq_false_iff, List.any_eq_false]
  refine ⟨fun y hy h => ?_, Bool.eq_false_iff.2 fun h => ?_⟩
  · have hlt := List.mem_range.1 hy
    rw [Nat.eq_of_beq_eq_true h] at hk
    simp only [Obj.EVENT_LAST_COUNT, objKey] at hk
    omega
  · rw [Nat.eq_of_beq_eq_true h] at hk
    exact absurd hk (by decide)

theorem linePort_lt (p sub : Nat) : objKey 0 0x1801 255 < Obj.LINE_PORT_LINK_STATE p ∧ objKey 0 0x1801 255 < objKey 0 (0x2100 + p) sub := by
  simp only [Obj.LINE_PORT_LINK_STATE, objKey]
  omega

/-- The state in which a counter of a port is counted, without the event that may follow. -/
def State.portCounted (s : State) (p sub n : Nat) : State :=
  (s.noteCount (objKey 0 (0x2100 + p) sub)).set (objKey 0 (0x2100 + p) sub) (wrapAdd 40 (s.get (objKey 0 (0x2100 + p) sub)) n)

/-- An object behind those of R553 reads after a count as without the event. -/
theorem State.get_countPort (hc : s.Canonical) (p sub n : Nat) {k : Nat} (hk : objKey 0 0x1801 255 < k) :
    (s.countPort p sub n).get k = if k = objKey 0 (0x2100 + p) sub then wrapAdd 40 (s.get k) n else s.get k := by
  have hw : (s.portCounted p sub n).get k = if k = objKey 0 (0x2100 + p) sub then wrapAdd 40 (s.get k) n else s.get k := by
    refine (State.get_set (s := s.noteCount _) hc.1 _ _ _).trans ?_
    by_cases h : k = objKey 0 (0x2100 + p) sub
    · rw [if_pos h, if_pos h, h]
    · exact (if_neg h).trans (if_neg h).symm
  have hr : ∀ u a c, ((s.portCounted p sub n).raise 0x2001 u a c).get k = (s.portCounted p sub n).get k :=
    State.get_raise_of_lt (by decide) (by decide) hk _
  unfold State.countPort
  dsimp only
  split
  · exact (hr _ _ _).trans hw
  · exact hw

/-- The state in which PORT_ENABLE is stored and the power states are shown. -/
def State.portEnabled (s : State) (p : Nat) : State := (s.commit (Obj.LINE_PORT_PORT_ENABLE p) 1).showPower p

/-- The state in which a port is disabled: its link state is 0 and its part at rest. -/
def State.portDisabled (s : State) (p : Nat) : State :=
  (((s.commit (Obj.LINE_PORT_PORT_ENABLE p) 0).set (Obj.LINE_PORT_LINK_STATE p) 0).movePart p 0 {}).showPower p

/-- What the port's enable asks of a port that is to be enabled. -/
theorem rulePortEnable_one {p : LinePort}
    (hm : lineMode (s.get (Obj.LINE_PORT_PORT_SPEED p)) (s.get (Obj.LINE_PORT_LANES p)) = true)
    (hl : p.val % s.get (Obj.LINE_PORT_LANES p) = 0) (ha : s.absentPort p = false)
    (hcl : ((List.range 128).any fun m => !Nat.beq m p && (List.range (s.get (Obj.LINE_PORT_LANES p))).any fun i =>
      s.coversLane m (p + i)) = false)
    (hf : s.get (Obj.LINE_PORT_FEC_MODE p) = 0 ∨ s.get (Obj.LINE_PORT_PORT_SPEED p) = 25000) :
    rulePortEnable p 1 s = (.ok, s.portEnabled p) := by
  have hfec : ¬ (s.get (Obj.LINE_PORT_FEC_MODE p) ≠ 0 ∧ s.get (Obj.LINE_PORT_PORT_SPEED p) ≠ 25000) :=
    fun h => hf.elim (fun h0 => h.1 h0) fun h0 => h.2 h0
  unfold rulePortEnable
  simp only [hm, hl, ha, hcl, hfec, Bool.true_eq_false, Bool.false_eq_true, ne_eq, not_true_eq_false, or_self, and_false, if_false,
    Nat.one_ne_zero, State.portEnabled]

theorem rulePortEnable_zero {p : LinePort} : rulePortEnable p 0 s =
    (.ok, s.portDisabled p) := by
  unfold rulePortEnable
  extract_lets
  exact if_neg fun h => absurd h.1 (by decide)

theorem linePort_key (p : LinePort) : Obj.LINE_PORT_PORT_ENABLE p % 0x1000000 ≠ 0x111007 := by
  simp only [Obj.LINE_PORT_PORT_ENABLE, objKey]
  omega

/-- What shows the power states of a port is apart from its own enable and link state. -/
theorem powerKeys_apart (p : LinePort) :
    keysOf [Obj.POWER_CLIENT_PWR_STATE p, Obj.POWER_CLIENT_TRANSITIONS p, Obj.POWER_CTRL_SECTOR_STATE] (Obj.LINE_PORT_PORT_ENABLE p) = false ∧
    keysOf [Obj.POWER_CLIENT_PWR_STATE p, Obj.POWER_CLIENT_TRANSITIONS p, Obj.POWER_CTRL_SECTOR_STATE] (Obj.LINE_PORT_LINK_STATE p) = false := by
  simp only [keysOf, List.contains_cons, List.contains_nil, Bool.or_false, Bool.or_eq_false_iff, beq_eq_false_iff_ne]
  simp only [Obj.LINE_PORT_PORT_ENABLE, Obj.LINE_PORT_LINK_STATE, Obj.POWER_CLIENT_PWR_STATE, Obj.POWER_CLIENT_TRANSITIONS,
    Obj.POWER_CTRL_SECTOR_STATE, objKey]
  omega

theorem State.portEnabled_within (s : State) (p : LinePort) :
    Within (keysOf [Obj.LINE_PORT_PORT_ENABLE p, Obj.POWER_CLIENT_PWR_STATE p, Obj.POWER_CTRL_SECTOR_STATE]) noKey [.pw, .pair, .dict, .sent]
      s (s.portEnabled p) :=
  (Within.refl s).commit.showPower (by simp [keysOf]) (by simp [keysOf])

theorem State.portDisabled_within (s : State) (p : LinePort) :
    Within (keysOf [Obj.LINE_PORT_PORT_ENABLE p, Obj.LINE_PORT_LINK_STATE p, Obj.POWER_CLIENT_PWR_STATE p, Obj.POWER_CLIENT_TRANSITIONS p,
      Obj.POWER_CTRL_SECTOR_STATE]) noKey [.pw, .pair, .dict, .sent] s (s.portDisabled p) :=
  ((Within.refl s).commit.set.movePart (by simp [keysOf])).showPower (by simp [keysOf]) (by simp [keysOf])

theorem State.portEnabled_get (hc : s.Canonical) (p : LinePort) : (s.portEnabled p).get (Obj.LINE_PORT_PORT_ENABLE p) = 1 := by
  have hw : Within (keysOf [Obj.POWER_CLIENT_PWR_STATE p, Obj.POWER_CLIENT_TRANSITIONS p, Obj.POWER_CTRL_SECTOR_STATE]) noKey []
      (s.commit (Obj.LINE_PORT_PORT_ENABLE p) 1) (s.portEnabled p) :=
    (Within.refl _).showPower (by simp [keysOf]) (by simp [keysOf])
  have hcan : (s.commit (Obj.LINE_PORT_PORT_ENABLE p) 1).Canonical :=
    ((Within.refl (objs := fun _ => true) (doms := noKey) (parts := [.pair]) s).commit rfl).canonical hc
  exact (hw.get hcan (powerKeys_apart p).1).trans (State.get_commit_self hc.1 _ _)

theorem State.portDisabled_get (hc : s.Canonical) (p : LinePort) :
    (s.portDisabled p).get (Obj.LINE_PORT_PORT_ENABLE p) = 0 ∧ (s.portDisabled p).get (Obj.LINE_PORT_LINK_STATE p) = 0 := by
  have hw : Within (keysOf [Obj.POWER_CLIENT_PWR_STATE p, Obj.POWER_CLIENT_TRANSITIONS p, Obj.POWER_CTRL_SECTOR_STATE]) noKey [.pw]
      ((s.commit (Obj.LINE_PORT_PORT_ENABLE p) 0).set (Obj.LINE_PORT_LINK_STATE p) 0) (s.portDisabled p) :=
    ((Within.refl _).movePart (by simp [keysOf])).showPower (by simp [keysOf]) (by simp [keysOf])
  have hcan : ((s.commit (Obj.LINE_PORT_PORT_ENABLE p) 0).set (Obj.LINE_PORT_LINK_STATE p) 0).Canonical :=
    ((Within.refl (objs := fun _ => true) (doms := noKey) (parts := [.pair]) s).commit rfl |>.set rfl).canonical hc
  have hne : Obj.LINE_PORT_PORT_ENABLE p ≠ Obj.LINE_PORT_LINK_STATE p := by
    simp [Obj.LINE_PORT_PORT_ENABLE, Obj.LINE_PORT_LINK_STATE, objKey]
  have hset := State.get_set (State.objsWf_commit hc.1 (Obj.LINE_PORT_PORT_ENABLE p) 0) (Obj.LINE_PORT_LINK_STATE p) 0
  exact ⟨(hw.get hcan (powerKeys_apart p).1).trans ((hset _).trans ((if_neg hne).trans (State.get_commit_self hc.1 _ _))),
    (hw.get hcan (powerKeys_apart p).2).trans ((hset _).trans (if_pos rfl))⟩

/-- Settles O20: each command by the branch that its clause selects. -/
theorem linePortsComeUpAndGoDown : Obligations.LinePortsComeUpAndGoDown := by
  unfold Obligations.LinePortsComeUpAndGoDown
  refine ⟨fun s p m v hc ha hv hm hl hab hcl hfec hf => ?_, fun s p m v hc ha hv hf => ?_, fun s p g f hon hst => ?_,
    fun s p hc hon hst hg hd => ?_, fun s p hc hon hen hst hg hd => ?_⟩
  · subst hv
    have hw := s.portEnabled_within p
    have hsec : (s.portEnabled p).sec = s.sec := (hw.frame hc).2.2 .sec (by decide)
    exact ⟨_, State.rowWrite_applied ha (rulePortEnable_one hm hl hab hcl hfec) (hsec ▸ hf) (linePort_key p),
      (State.get_applied _ _ _ _).trans (State.portEnabled_get hc p), State.answered_applied _ _ _, hw.applied.frame hc⟩
  · subst hv
    have hw := s.portDisabled_within p
    have hsec : (s.portDisabled p).sec = s.sec := (hw.frame hc).2.2 .sec (by decide)
    exact ⟨_, State.rowWrite_applied ha rulePortEnable_zero (hsec ▸ hf) (linePort_key p),
      (State.get_applied _ _ _ _).trans (State.portDisabled_get hc p).1, (State.get_applied _ _ _ _).trans (State.portDisabled_get hc p).2,
      State.answered_applied _ _ _, hw.applied.frame hc⟩
  · refine ⟨_, (State.inCore_on hon _ : execLinkCondition p g f s = _), ?_, (Touches.refl s).withLine.frame⟩
    have hoff : Nat.beq (s.get (Obj.LINE_PORT_LINK_STATE p)) 2 = false := Bool.eq_false_iff.2 fun h => hst (Nat.eq_of_beq_eq_true h)
    simp only [hoff, Bool.not_false, Bool.and_true]
    rfl
  · have hw : Within (keysAndEvents [Obj.LINE_PORT_LINK_STATE p, objKey 0 (0x2100 + p.val) 0x3E]) noKey (.line :: eventParts) s
        (s.set (Obj.LINE_PORT_LINK_STATE p) 0) := (Within.refl s).set
    have hset := State.get_set hc.1 (Obj.LINE_PORT_LINK_STATE p) 0
    have hget : ∀ k, objKey 0 0x1801 255 < k →
        ((((s.set (Obj.LINE_PORT_LINK_STATE p) 0).countPort p 0x3E).raise 0x2101 (uLane p) 0 p).get k =
          if k = objKey 0 (0x2100 + p.val) 0x3E then wrapAdd 40 ((s.set (Obj.LINE_PORT_LINK_STATE p) 0).get k) 1
          else (s.set (Obj.LINE_PORT_LINK_STATE p) 0).get k) :=
      fun k hk => (State.get_raise_of_lt (by decide) (by decide) hk _ _ _ _).trans (State.get_countPort (hw.canonical hc) _ _ _ hk)
    have hne : objKey 0 (0x2100 + p.val) 0x3E ≠ Obj.LINE_PORT_LINK_STATE p := by
      simp only [Obj.LINE_PORT_LINK_STATE, objKey]
      omega
    refine ⟨((s.set (Obj.LINE_PORT_LINK_STATE p) 0).countPort p 0x3E).raise 0x2101 (uLane p) 0 p,
      (State.inCore_on hon _ : execLinkDown p s = _).trans (congrArg Host.Outcome.next (if_pos ⟨hst, hg, hd⟩)), ?_, ?_, ?_⟩
    · exact (hget _ (linePort_lt p 0).1).trans ((if_neg hne.symm).trans ((hset _).trans (if_pos rfl)))
    · exact (hget _ (linePort_lt p _).2).trans ((if_pos rfl).trans (congrArg (wrapAdd 40 · 1) ((hset _).trans (if_neg hne))))
    · exact ((hw.countPort (by simp [keysAndEvents]) eventObjs_keysAndEvents).raise).frame hc
  · have hw : Within (keysOf [Obj.LINE_PORT_LINK_STATE p]) noKey [] s (s.set (Obj.LINE_PORT_LINK_STATE p) 1) := (Within.refl s).set
    refine ⟨(s.set (Obj.LINE_PORT_LINK_STATE p) 1).raise 0x2002 (uLane p) 0 p,
      (State.inCore_on hon _ : execLinkUp p s = _).trans (congrArg Host.Outcome.next (if_pos ⟨hen, hst, hg, hd⟩)), ?_, ?_, ?_⟩
    · exact (State.get_raise_of_lt (by decide) (by decide) (linePort_lt p 0).1 _ _ _ _).trans ((State.get_set hc.1 _ _ _).trans (if_pos rfl))
    · exact Occurred.between (SameEvents.of hw hc (fun k hk => by rw [List.mem_singleton.1 hk]; exact eventObjs_of_lt (linePort_lt p 0).1))
        (Occurred.raise (hw.canonical hc).1 _ _ _ (by decide) (by decide)) ⟨rfl, fun _ _ => rfl⟩ (by decide)
    · exact (((Within.refl s).set).raise).frame hc

end Sys2Proof.Machine
end

section
/-! PROOFS. Family 02_parsing_classification: the parser's bank, its default graph, key profiles and tree sets (R59, R60, R65, R71). -/

set_option Elab.async false

namespace Sys2Proof.Machine

variable {s t s₀ : State} {objs doms : Nat → Bool} {parts : List Part}

theorem Within.repair {k : Nat} (h : Within objs doms parts s₀ s) (hp : Part.parse ∈ parts := by decide) :
    Within objs doms parts s₀ (s.repair k) :=
  h.withParse hp

theorem Within.commitDom {d e v : Nat} (h : Within objs doms parts s₀ s) (hk : doms (domKey d e) = true)
    (hp : Part.pair ∈ parts := by decide) : Within objs doms parts s₀ (s.commitDom d e v) :=
  .ite ((h.setDom hk).touch ((Touches.refl _).journal hp)) (h.setDom hk)

theorem Within.loadDom {d e v : Nat} (h : Within objs doms parts s₀ s) (hk : doms (domKey d e) = true)
    (hp : Part.pair ∈ parts := by decide) (hq : Part.parse ∈ parts := by decide) : Within objs doms parts s₀ (s.loadDom d e v) :=
  .ite (h.repair hq) ((h.repair hq).commitDom hk hp)

/-! ### The default graph -/

theorem State.dom_loadDom (w : s.domsWf) (d e v d' e' : Nat) :
    (s.loadDom d e v).dom d' e' = if domKey d' e' = domKey d e then v else s.dom d' e' := by
  have hdom : ((s.repair (domKey d e)).commitDom d e v).dom d' e' = (s.setDom d e v).dom d' e' :=
    congrArg (Table.get domDefault · (domKey d' e')) (State.commitDom_doms _ _ _ _)
  unfold State.loadDom
  dsimp only
  split
  · rename_i h
    split
    · rename_i hk
      exact (congrArg (Table.get domDefault s.doms) hk).trans h
    · rfl
  · exact hdom.trans (State.dom_setDom w _ _ _ _ _)

/-- Entries of an index from a first one on, loaded one after the other. -/
def State.loadAll (s : State) (d base : Nat) (image : Nat → Nat) (l : List Nat) : State :=
  l.foldl (fun s i => s.loadDom d (base + i) (image i)) s

theorem Within.loadAll {d base : Nat} {image : Nat → Nat} {l : List Nat} (h : Within objs doms parts s₀ s)
    (hk : ∀ i ∈ l, doms (domKey d (base + i)) = true) (hp : Part.pair ∈ parts := by decide) (hq : Part.parse ∈ parts := by decide) :
    Within objs doms parts s₀ (s.loadAll d base image l) :=
  h.forEach (f := fun s i => s.loadDom d (base + i) (image i)) fun _ i hi h => h.loadDom (hk i hi) hp hq

/-- Each entry of the list reads as loaded. -/
theorem State.dom_loadAll (w : s.domsWf) (d base : Nat) (image : Nat → Nat) (l : List Nat) {j : Nat}
    (hj : j ∈ l ∨ s.dom d (base + j) = image j) : (s.loadAll d base image l).dom d (base + j) = image j := by
  induction l generalizing s with
  | nil => exact hj.elim (fun h => absurd h List.not_mem_nil) id
  | cons i l ih =>
    have hw : (s.loadDom d (base + i) (image i)).domsWf :=
      ((Within.refl (objs := noKey) (doms := fun _ => true) (parts := [.pair, .parse]) s).loadDom rfl).domsWf w
    refine ih hw ?_
    rw [State.dom_loadDom w]
    by_cases h : j = i
    · exact .inr (by rw [h, if_pos rfl])
    · have hne : domKey d (base + j) ≠ domKey d (base + i) := by simp only [domKey]; omega
      rw [if_neg hne]
      exact hj.imp_left fun hj => (List.mem_cons.1 hj).resolve_left h

/-- The state with the default graph in a bank. -/
def State.defaultGraph (s : State) (v : Nat) : State :=
  (s.loadAll Dom.PARSE_GRAPH (256 * v) parseDefaultState (List.range 256)).loadAll Dom.PARSE_TRANSITIONS (2048 * v) parseDefaultTransition
    (List.range 2048)

/-- The keys of the parser's two indices. -/
def graphKeys (k : Nat) : Bool := Nat.beq (domOf k) Dom.PARSE_GRAPH || Nat.beq (domOf k) Dom.PARSE_TRANSITIONS

theorem graphKeys_graph {e : Nat} (h : e < 2 ^ 32) : graphKeys (domKey Dom.PARSE_GRAPH e) = true := by
  have : domOf (domKey Dom.PARSE_GRAPH e) = Dom.PARSE_GRAPH := by simp only [domOf, domKey]; omega
  rw [graphKeys, this]
  rfl

theorem graphKeys_transitions {e : Nat} (h : e < 2 ^ 32) : graphKeys (domKey Dom.PARSE_TRANSITIONS e) = true := by
  have : domOf (domKey Dom.PARSE_TRANSITIONS e) = Dom.PARSE_TRANSITIONS := by simp only [domOf, domKey]; omega
  rw [graphKeys, this]
  rfl

theorem State.defaultGraph_within (s : State) {v : Nat} (hv : v < 2) :
    Within noKey graphKeys [.parse, .pair, .dict, .sent] s (s.defaultGraph v) :=
  ((Within.refl s).loadAll fun i hi => graphKeys_graph (by have := List.mem_range.1 hi; omega)).loadAll fun i hi =>
    graphKeys_transitions (by have := List.mem_range.1 hi; omega)

theorem State.defaultGraph_reads (hc : s.Canonical) {v i j : Nat} (hv : v < 2) (hi : i < 256) (hj : j < 2048) :
    (s.defaultGraph v).dom Dom.PARSE_GRAPH (256 * v + i) = parseDefaultState i ∧
      (s.defaultGraph v).dom Dom.PARSE_TRANSITIONS (2048 * v + j) = parseDefaultTransition j := by
  have hfirst : Within noKey graphKeys [.parse, .pair] s (s.loadAll Dom.PARSE_GRAPH (256 * v) parseDefaultState (List.range 256)) :=
    (Within.refl s).loadAll fun i hi => graphKeys_graph (by have := List.mem_range.1 hi; omega)
  have hsecond : Within noKey (fun k => Nat.beq (domOf k) Dom.PARSE_TRANSITIONS) [.parse, .pair]
      (s.loadAll Dom.PARSE_GRAPH (256 * v) parseDefaultState (List.range 256)) (s.defaultGraph v) :=
    (Within.refl _).loadAll fun i hi => by
      have := List.mem_range.1 hi
      have : domOf (domKey Dom.PARSE_TRANSITIONS (2048 * v + i)) = Dom.PARSE_TRANSITIONS := by simp only [domOf, domKey]; omega
      rw [this]
      rfl
  have hcan := hfirst.canonical hc
  refine ⟨(hsecond.dom hcan ?_).trans (State.dom_loadAll hc.2 _ _ _ _ (.inl (List.mem_range.2 hi))),
    State.dom_loadAll hcan.2 _ _ _ _ (.inl (List.mem_range.2 hj))⟩
  have : domOf (domKey Dom.PARSE_GRAPH (256 * v + i)) = Dom.PARSE_GRAPH := by simp only [domOf, domKey]; omega
  rw [this]
  rfl

theorem ruleRestoreDefault_standby {v : Nat} (h : v ≠ s.get Obj.PARSER_CTRL_ACTIVE_BANK) :
    ruleRestoreDefault v s = (.ok, s.defaultGraph v) :=
  if_neg h

theorem ruleRestoreDefault_active {v : Nat} (h : v = s.get Obj.PARSER_CTRL_ACTIVE_BANK) : ruleRestoreDefault v s = (.busy, s) := by
  rw [ruleRestoreDefault, if_pos h]

/-! ### Key profiles -/

/-- A profile whose fields exist, at most 320 bits wide, that no enabled TCAM table uses, takes its slots. -/
theorem ruleKeyProfile_stored {n v : Nat} (high : Bool) {l : List Nat}
    (hl : l = profileFields (if high then s.get (Obj.KEY_PROFILE_SLOTS_LO n) else v) (if high then v else s.get (Obj.KEY_PROFILE_SLOTS_HI n)))
    (hf : l.any (fun id => Nat.beq (fieldWidth id) 0) = false) (hw : profileWidth l ≤ 320)
    (hu : ((List.range 4).any fun k => s.on (Obj.TCAM_TABLE_ENABLE k) && Nat.beq (s.get (Obj.TCAM_TABLE_KEY_PROFILE k)) n) = false) :
    ruleKeyProfile n high v s = (.ok, ((s.commit (if high then Obj.KEY_PROFILE_SLOTS_HI n else Obj.KEY_PROFILE_SLOTS_LO n) v).set
      (Obj.KEY_PROFILE_WIDTH n) (profileWidth l)).repair (Obj.KEY_PROFILE_SLOTS_LO n)) := by
  have hwide : ((List.range 4).any fun t => s.on (Obj.TCAM_TABLE_ENABLE t) && Nat.beq (s.get (Obj.TCAM_TABLE_KEY_PROFILE t)) n &&
      Nat.blt (80 * s.tcamWidth t) (profileWidth l)) = false := by
    rw [List.any_eq_false] at hu ⊢
    intro k hk h
    exact hu k hk (Bool.and_eq_true_iff.1 h).1
  subst hl
  refine if_neg ?_
  rintro (h | h | h)
  · exact hw.not_gt h
  · exact Bool.noConfusion (hf.symm.trans h)
  · exact Bool.noConfusion (hwide.symm.trans h)

/-- A write that stores its value, sets a second object and has a damaged entry intact again. -/
theorem State.rowWrite_pair (hc : s.Canonical) {m key other v w r : Nat} (ha : s.Accepts m key v) (hf : s.sec.fusing = none)
    {rule : State → Res} (hr : rule s = (.ok, ((s.commit key v).set other w).repair r)) (hne : key ≠ other)
    (hk : key % 0x1000000 ≠ 0x111007) :
    ∃ t, s.rowWrite m key v rule = .next t ∧ t.get key = v ∧ t.get other = w ∧ t.Answered m key .ok ∧
      Frame (keysOf [key, other]) noKey [.parse, .pair, .dict, .sent] s t := by
  have hget := State.get_set (State.objsWf_commit hc.1 key v) other w
  refine ⟨_, State.rowWrite_applied ha hr ((congrArg SecState.fusing (s.commit_sec key v)).trans hf) hk, ?_, ?_, State.answered_applied _ _ _,
    (((Within.refl s).commit.set.repair).applied).frame hc⟩
  · exact (State.get_applied _ _ _ _).trans ((hget key).trans ((if_neg hne).trans (State.get_commit_self hc.1 _ _)))
  · exact (State.get_applied _ _ _ _).trans ((hget other).trans (if_pos rfl))

/-- The state in which a tree set has taken over its pending roots. -/
def State.treeCommitted (s : State) (n : Nat) : State :=
  (s.withParse { s.parse with roots := Table.put (fun _ => []) s.parse.roots n ((List.range (s.get (Obj.TREE_SET_TREES n))).map fun k =>
    s.get (Obj.TREE_SET_ROOT n k)) }).bumpW 32 (Obj.TREE_SET_GENERATION n)

theorem ruleCommit_journals (n : Nat) : ruleCommit n s = (.ok, (s.treeCommitted n).journal (.obj (keyIdx (Obj.TREE_SET_COMMIT n))
    (keySub (Obj.TREE_SET_COMMIT n)) 1)) :=
  rfl

theorem parserKeys (n : Fin 64) (k : Fin 16) : Obj.KEY_PROFILE_SLOTS_LO n % 0x1000000 ≠ 0x111007 ∧
    Obj.KEY_PROFILE_SLOTS_HI n % 0x1000000 ≠ 0x111007 ∧ Obj.TREE_SET_COMMIT k % 0x1000000 ≠ 0x111007 := by
  simp only [Obj.KEY_PROFILE_SLOTS_LO, Obj.KEY_PROFILE_SLOTS_HI, Obj.TREE_SET_COMMIT, objKey]
  omega

/-- Settles O11: each write by its rule. -/
theorem parserWritesTakeEffect : Obligations.ParserWritesTakeEffect := by
  unfold Obligations.ParserWritesTakeEffect
  refine ⟨fun s m v hc ha hv hf => ?_, fun s i j m v hc ha hv hne hf => ?_,
    fun s m v hc ha hv hf => State.rowWrite_refused hc ha hf (by decide) (ruleRestoreDefault_active hv), fun s n m v hc ha hl hw hu hf => ?_,
    fun s n m v hc ha hl hw hu hf => ?_, fun s n m v hc ha hf => ?_⟩
  · have hget := State.get_bumpW (State.objsWf_commit hc.1 Obj.PARSER_CTRL_ACTIVE_BANK v) 32 Obj.PARSER_CTRL_BANK_SWITCHES 1
    refine ⟨_, State.rowWrite_applied ha (if_neg hv) ((congrArg SecState.fusing (s.commit_sec _ v)).trans hf) (by decide), ?_, ?_,
      State.answered_applied _ _ _, ((Within.refl s).commit.bumpW.applied).frame hc⟩
    · exact (State.get_applied _ _ _ _).trans ((hget _).trans ((if_neg (by decide)).trans (State.get_commit_self hc.1 _ _)))
    · refine (State.get_applied _ _ _ _).trans ((hget _).trans ((if_pos rfl).trans (congrArg (wrapAdd 32 · 1) ?_)))
      exact (State.get_commit hc.1 _ _ _).trans (if_neg (by decide))
  · have hwithin := s.defaultGraph_within hv
    have hsec : (s.defaultGraph v).sec = s.sec := (hwithin.frame hc).2.2 .sec (by decide)
    obtain ⟨hgraph, htrans⟩ := State.defaultGraph_reads hc hv i.isLt j.isLt
    refine ⟨_, State.rowWrite_applied ha (ruleRestoreDefault_standby hne) ((congrArg SecState.fusing hsec).trans hf) (by decide), ?_, ?_, State.answered_applied _ _ _,
      hwithin.applied.frame hc⟩
    · exact (State.dom_applied _ _ _ _ _).trans hgraph
    · exact (State.dom_applied _ _ _ _ _).trans htrans
  · exact State.rowWrite_pair hc ha hf (ruleKeyProfile_stored false rfl hl hw hu)
      (by simp [Obj.KEY_PROFILE_SLOTS_LO, Obj.KEY_PROFILE_WIDTH, objKey]) (parserKeys n 0).1
  · exact State.rowWrite_pair hc ha hf (ruleKeyProfile_stored true rfl hl hw hu)
      (by simp [Obj.KEY_PROFILE_SLOTS_HI, Obj.KEY_PROFILE_WIDTH, objKey]) (parserKeys n 0).2.1
  · have hw : Within (keysOf [Obj.TREE_SET_GENERATION n]) noKey [.parse, .pair, .dict, .sent] s (s.treeCommitted n) :=
      ((Within.refl s).withParse).bumpW
    have hj : ∀ r, Touches [.pair] (s.treeCommitted n) ((s.treeCommitted n).journal r) := fun r => (Touches.refl _).journal
    refine ⟨_, State.rowWrite_applied ha (ruleCommit_journals n) ?_ (parserKeys 0 n).2.2, ?_, ?_, State.answered_applied _ _ _,
      ((hw.touch ((Touches.refl _).journal)).applied).frame hc⟩
    · exact (congrArg SecState.fusing ((hj _).part .sec (by decide))).trans hf
    · exact congrArg ParseState.roots ((State.applied_parse _ _ _).trans ((hj _).part .parse (by decide)))
    · refine (State.get_applied _ _ _ _).trans ((congrArg (Table.get objDefault · (Obj.TREE_SET_GENERATION n)) (hj _).objs).trans ?_)
      exact (State.get_bumpW (s := s.withParse _) hc.1 _ _ _ _).trans (if_pos rfl)

end Sys2Proof.Machine
end

section
/-! PROOFS. Families 01_air_time and 11_fabric_link_framing: the bins of performance monitoring (R44, R45, R340 to R342). -/

set_option Elab.async false

namespace Sys2Proof.Machine

variable {s t s₀ : State} {objs doms : Nat → Bool} {parts : List Part} {n : Nat}

/-! ### What the second of a lane may change -/

/-- Entry of PM_HISTORY of a lane's running bin: of the day, or of 15 minutes. -/
def runningBin (n : Nat) (day : Bool) : Nat := pmIndex n (if day then 33 else 0)

/-- A change to the second x, in the running bin where that holds it, or in the youngest closed one. -/
def State.pmChangeBin (s : State) (n x : Nat) (f : Nat → Nat) (day : Bool) : State :=
  if pmHolds (s.dom Dom.PM_HISTORY (runningBin n day)) x then
    s.setDom Dom.PM_HISTORY (runningBin n day) (f (s.dom Dom.PM_HISTORY (runningBin n day)))
  else s.setFl n { s.fl n with pm := { (s.fl n).pm with closing :=
    (replaceFirst (fun (c : PmClosed) => c.day == day && pmHolds c.image x) (fun c => { c with image := f c.image }) (s.fl n).pm.closing.reverse).reverse } }

theorem State.pmChange_eq (s : State) (n x : Nat) (f : Nat → Nat) :
    s.pmChange n x f = (s.pmChangeBin n x f false).pmChangeBin n x f true :=
  rfl

section lane

theorem Within.setFl {l : FabricLaneState} (h : Within objs doms parts s₀ s) (hp : Part.fab ∈ parts := by decide) :
    Within objs doms parts s₀ (s.setFl n l) :=
  h.withFab hp

variable (ho : ∀ k, eventObjs k = true → objs k = true) (hev : ∀ p ∈ eventParts, p ∈ parts) (hp : Part.fab ∈ parts)
include hp ho hev

theorem Within.pmThresholds (h : Within objs doms parts s₀ s) : Within objs doms parts s₀ (s.pmThresholds n) :=
  h.forEach fun _ _ _ h => .ite ((h.setFl hp).raise (ho := ho) (hp := hev)) h

omit hp ho hev
variable (hd : ∀ day, doms (domKey Dom.PM_HISTORY (runningBin n day)) = true)
include hd

theorem Within.pmOpen (h : Within objs doms parts s₀ s) : Within objs doms parts s₀ (s.pmOpen n) := by
  have hone : ∀ {u : State} (day : Bool) (start suspect : Nat), Within objs doms parts s₀ u → Within objs doms parts s₀
      (if Fld.PMH_VALID.get (u.dom Dom.PM_HISTORY (runningBin n day)) = 1 then u else u.setDom Dom.PM_HISTORY (runningBin n day)
        (Fld.PMH_SUSPECT.set (Fld.PMH_VALID.set (Fld.PMH_START.set (u.dom Dom.PM_HISTORY (runningBin n day)) start) 1) suspect)) :=
    fun day _ _ hu => .ite hu (hu.setDom (hd day))
  exact hone true _ _ (hone false _ _ h)

include hp

theorem Within.pmChange {x : Nat} {f : Nat → Nat} (h : Within objs doms parts s₀ s) : Within objs doms parts s₀ (s.pmChange n x f) := by
  have hone : ∀ {u : State} {day : Bool}, Within objs doms parts s₀ u → Within objs doms parts s₀ (u.pmChangeBin n x f day) :=
    fun hu => .ite (hu.setDom (hd _)) (hu.setFl hp)
  exact hone (hone h)

theorem Within.pmAdd {x : Nat} {l : List (Field × Int)} (h : Within objs doms parts s₀ s) : Within objs doms parts s₀ (s.pmAdd n x l) :=
  h.pmChange hp hd

theorem Within.pmAvail {x eb : Nat} {ses : Bool} (h : Within objs doms parts s₀ s) : Within objs doms parts s₀ (s.pmAvail n x eb ses) := by
  have hadd : ∀ {l}, Within objs doms parts s₀ (s.pmAdd n x l) := h.pmAdd hp hd
  have hall : ∀ {r : List PmSecond} {g : PmSecond → List (Field × Int)} {u : State}, Within objs doms parts s₀ u →
      Within objs doms parts s₀ (Machine.forEach r u fun s r => s.pmAdd n r.sec (g r)) := fun hu => hu.forEach fun _ _ _ h => h.pmAdd hp hd
  unfold State.pmAvail
  dsimp only
  split
  · exact .ite (hadd.setFl hp) (.ite (hadd.setFl hp) ((hall hadd).setFl hp))
  · exact .ite (hadd.setFl hp) (.ite (hadd.setFl hp) ((hall hadd).setFl hp))

include ho hev

theorem Within.pmTurn (h : Within objs doms parts s₀ s) : Within objs doms parts s₀ (s.pmTurn n) := by
  have ho' := h.pmOpen hd
  exact .ite h (.ite (h.setFl hp) (.ite ((ho'.setFl hp).pmChange hp hd)
    ((((ho'.setFl hp).pmAdd hp hd).pmAvail hp hd).pmThresholds ho hev hp)))

end lane

/-! ### The end of a bin -/

/-- The record that a bin starts with. -/
def freshBin (start : Nat) : Nat := Fld.PMH_VALID.set (Fld.PMH_START.set 0 (time80 start)) 1

/-- A running bin of a lane closes and starts anew. -/
def State.closeBin (s : State) (suspect start n : Nat) (isDay : Bool) : State :=
  (s.setFl n { s.fl n with pm := { (s.fl n).pm with
    closing := (s.fl n).pm.closing ++ [⟨if suspect.testBit (if isDay then 1 else 0) then
      Fld.PMH_SUSPECT.set (s.dom Dom.PM_HISTORY (runningBin n isDay)) 1 else s.dom Dom.PM_HISTORY (runningBin n isDay), isDay, s.time.now⟩]
    crossed := if isDay then (s.fl n).pm.crossed else [] } }).setDom Dom.PM_HISTORY (runningBin n isDay) (freshBin start)

/-- The bins of a lane that close at t, the day's too where a day opens. -/
def State.closeLane (s : State) (t suspect : Nat) (day : Option Nat) (n : Nat) : State :=
  if day.isSome then (((s.pmTurn n).pmOpen n).closeBin suspect t n false).closeBin suspect (day.getD t) n true
  else ((s.pmTurn n).pmOpen n).closeBin suspect t n false

/-- The state in which the bins of every lane are closed. -/
def State.closeLanes (s : State) (t suspect : Nat) (day : Option Nat) : State :=
  forEach (List.range 160) s fun s n => s.closeLane t suspect day n

/-- The instant of the bins' end, noted. -/
def State.noteBin (s : State) : State := s.withTime { s.time with lastBin := some s.time.now }

/-- Where a day opens, it starts at its own instant and no record stays suspect. -/
theorem State.closeBins_day (s : State) (t suspect d : Nat) : s.closeBins t suspect (some d) =
    (((s.closeLanes t suspect (some d)).noteBin.set Obj.PERF_BIN_CLOCK_BIN_START (time80 t)).set Obj.PERF_BIN_CLOCK_SUSPECT 0).set
      Obj.PERF_BIN_CLOCK_DAY_START (time80 d) := by
  simp only [State.closeBins, State.closeLanes, State.closeLane, State.closeBin, State.noteBin, runningBin, freshBin, if_true, if_false,
    Bool.false_eq_true, Option.isSome_some]

/-- Where none does, the day's record stays suspect as it was. -/
theorem State.closeBins_bin (s : State) (t suspect : Nat) : s.closeBins t suspect none =
    ((s.closeLanes t suspect none).noteBin.set Obj.PERF_BIN_CLOCK_BIN_START (time80 t)).set Obj.PERF_BIN_CLOCK_SUSPECT
      ((s.closeLanes t suspect none).noteBin.get Obj.PERF_BIN_CLOCK_SUSPECT / 2 * 2) := by
  simp only [State.closeBins, State.closeLanes, State.closeLane, State.closeBin, State.noteBin, runningBin, freshBin, if_false,
    Bool.false_eq_true, Option.isSome_none]

section close

variable (h : Within objs doms parts s₀ s) (ho : ∀ k, eventObjs k = true → objs k = true) (hev : ∀ p ∈ eventParts, p ∈ parts)
variable (hp : Part.fab ∈ parts)
include h ho hev hp

theorem Within.closeLane {t suspect : Nat} {day : Option Nat} (hd : ∀ day, doms (domKey Dom.PM_HISTORY (runningBin n day)) = true) :
    Within objs doms parts s₀ (s.closeLane t suspect day n) := by
  have hbin : ∀ {u : State} {start : Nat} {isDay : Bool}, Within objs doms parts s₀ u →
      Within objs doms parts s₀ (u.closeBin suspect start n isDay) := fun hu => (hu.setFl hp).setDom (hd _)
  have hopen := (h.pmTurn ho hev hp hd).pmOpen hd
  exact .ite (hbin (hbin hopen)) (hbin hopen)

theorem Within.closeLanes {t suspect : Nat} {day : Option Nat}
    (hd : ∀ n < 160, ∀ day, doms (domKey Dom.PM_HISTORY (runningBin n day)) = true) :
    Within objs doms parts s₀ (s.closeLanes t suspect day) :=
  h.forEach fun _ n hn h => h.closeLane ho hev hp (hd n (List.mem_range.1 hn))

end close

/-- The keys of PM_HISTORY. -/
def historyKeys (k : Nat) : Bool := Nat.beq (domOf k) Dom.PM_HISTORY

theorem historyKeys_running (hn : n < 160) (day : Bool) : historyKeys (domKey Dom.PM_HISTORY (runningBin n day)) = true := by
  have : domOf (domKey Dom.PM_HISTORY (runningBin n day)) = Dom.PM_HISTORY := by
    have hlt : runningBin n day < 2 ^ 32 := by cases day <;> simp only [runningBin, pmIndex, Bool.false_eq_true, if_true, if_false] <;> omega
    simp only [domOf, domKey]
    omega
  rw [historyKeys, this]
  rfl

/-- A running bin of another lane, or the other one of the lane, is another entry. -/
theorem runningBin_ne {m : Nat} {a b : Bool} (h : m ≠ n ∨ a ≠ b) :
    domKey Dom.PM_HISTORY (runningBin m a) ≠ domKey Dom.PM_HISTORY (runningBin n b) := by
  cases a <;> cases b <;> simp only [domKey, runningBin, pmIndex, ne_eq, not_true_eq_false, or_false, Bool.false_eq_true, if_true, if_false] at h ⊢ <;>
    omega

/-- A lane's bins, once closed, start anew. -/
theorem State.dom_closeLane (hc : s.Canonical) (t suspect : Nat) (day : Option Nat) (n : Nat) :
    (s.closeLane t suspect day n).dom Dom.PM_HISTORY (runningBin n false) = freshBin t ∧
    ∀ d, day = some d → (s.closeLane t suspect day n).dom Dom.PM_HISTORY (runningBin n true) = freshBin d := by
  have hw : Within (fun _ => true) (fun _ => true) [.fab, .ev] s ((s.pmTurn n).pmOpen n) :=
    ((Within.refl s).pmTurn (fun _ _ => rfl) (by decide) (by decide) fun _ => rfl).pmOpen fun _ => rfl
  have hwf : ((s.pmTurn n).pmOpen n).domsWf := hw.domsWf hc.2
  have hset : ∀ (u : State) (start : Nat) (a b : Bool), u.domsWf → (u.closeBin suspect start n a).dom Dom.PM_HISTORY (runningBin n b) =
      if domKey Dom.PM_HISTORY (runningBin n b) = domKey Dom.PM_HISTORY (runningBin n a) then freshBin start
      else u.dom Dom.PM_HISTORY (runningBin n b) := fun u start a b hu => State.dom_setDom (s := u.setFl n _) hu _ _ _ _ _
  cases day with
  | none => exact ⟨(hset _ _ _ _ hwf).trans (if_pos rfl), fun d h => nomatch h⟩
  | some d =>
    have hwf2 : (((s.pmTurn n).pmOpen n).closeBin suspect t n false).domsWf :=
      ((Within.refl (objs := noKey) (doms := fun _ => true) (parts := [.fab]) _).setFl.setDom rfl).domsWf hwf
    refine ⟨(hset _ _ _ _ hwf2).trans ((if_neg (runningBin_ne (.inr (by decide)))).trans ((hset _ _ _ _ hwf).trans (if_pos rfl))), ?_⟩
    rintro d' ⟨⟩
    exact (hset _ _ _ _ hwf2).trans (if_pos rfl)

/-- The two running bins of a lane. -/
def laneKeys (n k : Nat) : Bool := keysOf [domKey Dom.PM_HISTORY (runningBin n false), domKey Dom.PM_HISTORY (runningBin n true)] k

theorem laneKeys_other {m : Nat} (h : m ≠ n) (b : Bool) : laneKeys n (domKey Dom.PM_HISTORY (runningBin m b)) = false := by
  simp only [laneKeys, keysOf, List.contains_cons, List.contains_nil, Bool.or_false, Bool.or_eq_false_iff, beq_eq_false_iff_ne]
  exact ⟨runningBin_ne (.inl h), runningBin_ne (.inl h)⟩

theorem laneKeys_own (b : Bool) : laneKeys n (domKey Dom.PM_HISTORY (runningBin n b)) = true := by
  cases b <;> simp [laneKeys, keysOf]

/-- What the end of a lane's bins may change. -/
theorem State.closeLane_within (s : State) (t suspect : Nat) (day : Option Nat) (n : Nat) :
    Within eventObjs (laneKeys n) [.fab, .ev] s (s.closeLane t suspect day n) :=
  (Within.refl s).closeLane (fun _ h => h) (by decide) (by decide) laneKeys_own

/-- Every lane's running bins start anew, whatever lane comes first. -/
theorem State.dom_forEach_closeLane (hc : s.Canonical) (t suspect : Nat) (day : Option Nat) {b : Bool} {v : Nat}
    (hv : ∀ u : State, u.Canonical → (u.closeLane t suspect day n).dom Dom.PM_HISTORY (runningBin n b) = v) (l : List Nat)
    (hl : n ∈ l ∨ s.dom Dom.PM_HISTORY (runningBin n b) = v) :
    (forEach l s fun s n => s.closeLane t suspect day n).dom Dom.PM_HISTORY (runningBin n b) = v := by
  unfold Machine.forEach
  induction l generalizing s with
  | nil => exact hl.elim (fun h => absurd h List.not_mem_nil) id
  | cons m l ih =>
    have hw := s.closeLane_within t suspect day m
    refine ih (hw.canonical hc) ?_
    by_cases h : n = m
    · exact .inr (h ▸ hv s hc)
    · rw [hw.dom hc (laneKeys_other h b)]
      exact hl.imp_left fun hl => (List.mem_cons.1 hl).resolve_left h

theorem State.dom_closeLanes (hc : s.Canonical) (t suspect : Nat) (day : Option Nat) (hn : n < 160) :
    (s.closeLanes t suspect day).dom Dom.PM_HISTORY (runningBin n false) = freshBin t ∧
    ∀ d, day = some d → (s.closeLanes t suspect day).dom Dom.PM_HISTORY (runningBin n true) = freshBin d :=
  ⟨State.dom_forEach_closeLane hc _ _ _ (fun _ hu => (State.dom_closeLane hu t suspect day n).1) _ (.inl (List.mem_range.2 hn)),
    fun d hd => State.dom_forEach_closeLane hc _ _ _ (fun _ hu => (State.dom_closeLane hu t suspect day n).2 d hd) _ (.inl (List.mem_range.2 hn))⟩

theorem State.closeLanes_within (s : State) (t suspect : Nat) (day : Option Nat) :
    Within eventObjs historyKeys [.fab, .ev] s (s.closeLanes t suspect day) :=
  (Within.refl s).closeLanes (fun _ h => h) (by decide) (by decide) fun _ hn => historyKeys_running hn

/-! ### The clock of the bins -/

theorem State.noteBin_within (h : Within objs doms parts s₀ s) (hp : Part.time ∈ parts := by decide) :
    Within objs doms parts s₀ s.noteBin :=
  h.withTime hp

theorem State.closeBins_bin_within (s : State) (t suspect : Nat) :
    Within (keysAndEvents [Obj.PERF_BIN_CLOCK_BIN_START, Obj.PERF_BIN_CLOCK_SUSPECT]) historyKeys (.time :: .fab :: eventParts) s
      (s.closeBins t suspect none) := by
  rw [State.closeBins_bin]
  exact (State.noteBin_within ((s.closeLanes_within t suspect none).mono eventObjs_keysAndEvents (fun _ h => h) (by decide))).set.set

/-- With the bins closed the clock shows their end, and each lane's records start anew. -/
theorem State.closeBins_bin_reads (hc : s.Canonical) (t suspect : Nat) :
    (s.closeBins t suspect none).get Obj.PERF_BIN_CLOCK_BIN_START = time80 t ∧
    (s.closeBins t suspect none).time.lastBin = some s.time.now ∧
    ∀ n < 160, (s.closeBins t suspect none).dom Dom.PM_HISTORY (runningBin n false) = freshBin t := by
  have hw := s.closeLanes_within t suspect none
  have htime : (s.closeLanes t suspect none).time = s.time := (hw.frame hc).2.2 .time (by decide)
  have hwf : (s.closeLanes t suspect none).noteBin.objsWf := hw.objsWf hc.1
  rw [State.closeBins_bin]
  refine ⟨?_, congrArg (fun x : TimeState => some x.now) htime, fun n hn => (State.dom_closeLanes hc t suspect none hn).1⟩
  exact (State.get_set (State.objsWf_set hwf _ _) _ _ _).trans ((if_neg (by decide)).trans ((State.get_set hwf _ _ _).trans (if_pos rfl)))

theorem State.closeBins_day_within (s : State) (t suspect d : Nat) :
    Within (keysAndEvents [Obj.PERF_BIN_CLOCK_BIN_START, Obj.PERF_BIN_CLOCK_DAY_START, Obj.PERF_BIN_CLOCK_SUSPECT]) historyKeys
      (.time :: .fab :: eventParts) s (s.closeBins t suspect (some d)) := by
  rw [State.closeBins_day]
  exact (State.noteBin_within ((s.closeLanes_within t suspect (some d)).mono eventObjs_keysAndEvents (fun _ h => h) (by decide))).set.set.set

/-- With the day's bins closed too the clock shows the start of both, none suspect. -/
theorem State.closeBins_day_reads (hc : s.Canonical) (t suspect d : Nat) :
    (s.closeBins t suspect (some d)).get Obj.PERF_BIN_CLOCK_BIN_START = time80 t ∧
    (s.closeBins t suspect (some d)).get Obj.PERF_BIN_CLOCK_DAY_START = time80 d ∧
    (s.closeBins t suspect (some d)).get Obj.PERF_BIN_CLOCK_SUSPECT = 0 ∧
    ∀ n < 160, (s.closeBins t suspect (some d)).dom Dom.PM_HISTORY (runningBin n false) = freshBin t ∧
      (s.closeBins t suspect (some d)).dom Dom.PM_HISTORY (runningBin n true) = freshBin d := by
  have hwf : (s.closeLanes t suspect (some d)).noteBin.objsWf := (s.closeLanes_within t suspect (some d)).objsWf hc.1
  have hwf1 := State.objsWf_set hwf Obj.PERF_BIN_CLOCK_BIN_START (time80 t)
  have hwf2 := State.objsWf_set hwf1 Obj.PERF_BIN_CLOCK_SUSPECT 0
  rw [State.closeBins_day]
  refine ⟨?_, (State.get_set hwf2 _ _ _).trans (if_pos rfl), ?_, fun n hn =>
    ⟨(State.dom_closeLanes hc t suspect (some d) hn).1, (State.dom_closeLanes hc t suspect (some d) hn).2 d rfl⟩⟩
  · exact (State.get_set hwf2 _ _ _).trans ((if_neg (by decide)).trans ((State.get_set hwf1 _ _ _).trans ((if_neg (by decide)).trans
      ((State.get_set hwf _ _ _).trans (if_pos rfl)))))
  · exact (State.get_set hwf2 _ _ _).trans ((if_neg (by decide)).trans ((State.get_set hwf1 _ _ _).trans (if_pos rfl)))

/-- The records marked suspect at a boundary: both in FREERUN. -/
def State.binSuspect (s : State) : Nat :=
  if Nat.beq (s.get Obj.TIMEBASE_STATE) tbFREERUN then 3 else s.get Obj.PERF_BIN_CLOCK_SUSPECT

/-- A group's ON_BIN is no object of the bins' clock, and counts no events. -/
theorem snapshotKey_apart (g : Nat) :
    keysAndEvents [Obj.PERF_BIN_CLOCK_BIN_START, Obj.PERF_BIN_CLOCK_SUSPECT] (Obj.SNAPSHOT_GROUP_ON_BIN g) = false := by
  have hlt : objKey 0 0x1801 255 < Obj.SNAPSHOT_GROUP_ON_BIN g := by simp only [Obj.SNAPSHOT_GROUP_ON_BIN, objKey]; omega
  rw [keysAndEvents, eventObjs_of_lt hlt, Bool.or_false]
  simp only [List.contains_cons, List.contains_nil, Bool.or_false, Bool.or_eq_false_iff, beq_eq_false_iff_ne]
  simp only [Obj.SNAPSHOT_GROUP_ON_BIN, Obj.PERF_BIN_CLOCK_BIN_START, Obj.PERF_BIN_CLOCK_SUSPECT, objKey]
  omega

/-- Where no group takes a snapshot, the boundary at the present second closes the bins. -/
theorem execBinBoundary_second (hc : s.Canonical) (hon : s.CoreOn)
    (hb : ((s.time.tai / nsPerS : Nat) - (s.get Obj.PERF_BIN_CLOCK_DAY_OFFSET : Nat) : Int) % 900 = 0)
    (hr : s.reached (s.time.tai / nsPerS * nsPerS : Nat) = true) (hl : s.time.lastBin ≠ some s.time.now)
    (hg : ((List.range 16).all fun g => !s.on (Obj.SNAPSHOT_GROUP_ON_BIN g)) = true) (hnone : s.dayOpens (s.time.tai / nsPerS) = none) :
    execBinBoundary s = .next (s.closeBins (s.time.tai / nsPerS * nsPerS) s.binSuspect none) := by
  have hx : (((s.time.tai / nsPerS : Nat) - (s.get Obj.PERF_BIN_CLOCK_DAY_OFFSET : Nat) : Int) -
      ((s.time.tai / nsPerS : Nat) - (s.get Obj.PERF_BIN_CLOCK_DAY_OFFSET : Nat) : Int) % 900 +
        (s.get Obj.PERF_BIN_CLOCK_DAY_OFFSET : Nat)).toNat = s.time.tai / nsPerS := by
    rw [hb]
    generalize s.time.tai / nsPerS = x
    omega
  have hgroups : ((List.range 16).filter fun g => (s.closeBins (s.time.tai / nsPerS * nsPerS) s.binSuspect none).on
      (Obj.SNAPSHOT_GROUP_ON_BIN g)) = [] := by
    rw [List.filter_eq_nil_iff]
    intro g hm h
    have hoff : s.on (Obj.SNAPSHOT_GROUP_ON_BIN g) = false := (Bool.not_eq_true' _).mp (List.all_eq_true.1 hg g hm)
    have hkey : keysAndEvents [Obj.PERF_BIN_CLOCK_BIN_START, Obj.PERF_BIN_CLOCK_SUSPECT] (Obj.SNAPSHOT_GROUP_ON_BIN g) = false :=
      snapshotKey_apart g
    rw [State.on, (s.closeBins_bin_within _ _).get hc hkey] at h
    exact Bool.noConfusion (hoff.symm.trans h)
  have hno : ¬ (s.time.tai / nsPerS * nsPerS ≤ ofTime80 (s.get Obj.PERF_BIN_CLOCK_BIN_START) ∧
      (s.reached (s.time.tai / nsPerS * nsPerS : Nat) = false ∨ s.time.lastBin = some s.time.now)) := by
    rintro ⟨-, h | h⟩
    · exact Bool.noConfusion (h.symm.trans hr)
    · exact hl h
  refine (State.inCore_on hon _ : execBinBoundary s = _).trans (congrArg Host.Outcome.next ?_)
  unfold State.binSuspect at hgroups ⊢
  simp only [hx, hno, hnone, if_false, hgroups]
  rfl

/-! ### The second of a lane -/

theorem State.pmChangeBin_objs (s : State) (n x : Nat) (f : Nat → Nat) (day : Bool) : (s.pmChangeBin n x f day).objs = s.objs := by
  unfold State.pmChangeBin
  split
  · rfl
  · rfl

/-- A second added to a lane's records changes no object. -/
theorem State.get_pmAdd (s : State) (n x : Nat) (l : List (Field × Int)) (k : Nat) : (s.pmAdd n x l).get k = s.get k := by
  rw [State.pmAdd, State.pmChange_eq, State.get, State.pmChangeBin_objs, State.pmChangeBin_objs, State.get]

theorem State.pmOpen_objs (s : State) (n : Nat) : (s.pmOpen n).objs = s.objs := by
  unfold State.pmOpen
  dsimp only
  split <;> split <;> rfl

/-- Settles O10: each command by the branch that its clause selects. -/
theorem performanceBinsClose : Obligations.PerformanceBinsClose := by
  unfold Obligations.PerformanceBinsClose
  refine ⟨fun s hc hon hb hnone hr hl hg => ?_, fun s m v hc ha hf => ?_, fun s n hon h0 h1 => ?_, fun s n hon h1 ho => ?_,
    fun s n hon h1 ho => ?_, fun s n c hon hcl hd => ?_⟩
  · obtain ⟨hstart, hlast, hbins⟩ := State.closeBins_bin_reads hc (s.time.tai / nsPerS * nsPerS) s.binSuspect
    exact ⟨_, execBinBoundary_second hc hon hb hr hl hg hnone, hstart, hlast, fun n hn => hbins n (List.mem_range.1 hn),
      (s.closeBins_bin_within _ _).frame hc⟩
  · have hcommit : Within (keysAndEvents [Obj.PERF_BIN_CLOCK_DAY_OFFSET, Obj.PERF_BIN_CLOCK_BIN_START, Obj.PERF_BIN_CLOCK_DAY_START,
        Obj.PERF_BIN_CLOCK_SUSPECT]) historyKeys (.time :: .fab :: .pair :: .dict :: .sent :: eventParts) s
        (s.commit Obj.PERF_BIN_CLOCK_DAY_OFFSET v) := (Within.refl s).commit
    have hcan := hcommit.canonical hc
    have hclose := (s.commit Obj.PERF_BIN_CLOCK_DAY_OFFSET v).closeBins_day_within s.timeNow 3 s.timeNow
    have hw := hcommit.trans (hclose.mono (fun k hk => by
      simp only [keysAndEvents, List.contains_cons, Bool.or_eq_true] at hk ⊢
      exact hk.imp_left .inr) (fun _ h => h) (by decide))
    obtain ⟨hstart, hday, hsus, hbins⟩ := State.closeBins_day_reads hcan s.timeNow 3 s.timeNow
    refine ⟨_, State.rowWrite_applied ha rfl ((congrArg SecState.fusing ((hw.frame hc).2.2 .sec (by decide))).trans hf) (by decide), ?_,
      (State.get_applied _ _ _ _).trans hstart, (State.get_applied _ _ _ _).trans hday, (State.get_applied _ _ _ _).trans hsus, fun n hn => ?_,
      State.answered_applied _ _ _, hw.applied.frame hc⟩
    · exact (State.get_applied _ _ _ _).trans ((hclose.get hcan (by decide)).trans (State.get_commit_self hc.1 _ _))
    · obtain ⟨hbin, hdaybin⟩ := hbins n (List.mem_range.1 hn)
      exact ⟨(State.dom_applied _ _ _ _ _).trans hbin, (State.dom_applied _ _ _ _ _).trans hdaybin⟩
  · refine (State.inCore_on hon _ : execPmSecond n s = _).trans (congrArg Host.Outcome.next ?_)
    have hwhole : Nat.beq (s.time.tai / nsPerS) ((s.fl n).pm.sec + 1) = false := Bool.eq_false_iff.2 fun h => h1 (Nat.eq_of_beq_eq_true h)
    exact (if_neg h0).trans (if_pos hwhole)
  · refine (State.inCore_on hon _ : execPmSecond n s = _).trans (congrArg Host.Outcome.next ?_)
    have hget : ∀ (f : FabricLaneState) (x : Nat) (l : List (Field × Int)),
        (((s.pmOpen n).setFl n f).pmAdd n x l).get Obj.LINK_PM_SES_BLOCKS = s.get Obj.LINK_PM_SES_BLOCKS :=
      fun f x l => (State.get_pmAdd _ _ _ _ _).trans (congrArg (Table.get objDefault · _) (s.pmOpen_objs n))
    simp only [State.pmTurn, Nat.succ_ne_self, h1, ho, hget, Nat.beq_refl, Bool.true_eq_false, Bool.false_eq_true, if_false]
  · refine (State.inCore_on hon _ : execPmSecond n s = _).trans (congrArg Host.Outcome.next ?_)
    simp only [State.pmTurn, Nat.succ_ne_self, h1, ho, Nat.beq_refl, Bool.true_eq_false, if_false, if_true]
  · refine (State.inCore_on hon _ : execPmBinFinal n s = _).trans (congrArg Host.Outcome.next ?_)
    have hdue : Nat.ble (c.at' + 10 * nsPerS) s.time.now = true := Nat.ble_eq ▸ hd
    have hnot : Nat.blt s.time.now (c.at' + 10 * nsPerS) = false := Bool.eq_false_iff.2 fun h => (Nat.blt_eq ▸ h : s.time.now < _).not_ge hd
    simp only [hcl, List.filter_cons, List.filter_nil, hdue, hnot, if_true, Bool.false_eq_true, if_false]
    rfl

end Sys2Proof.Machine
end

section
/-! PROOFS. Families 06_queues_scheduling and 07_shaping_policing_gates: the schedulers, the flush of a queue, sampling rounds, a shaper's profile
(R191 to R193, R207, R208, R211, R212, R214, R232). -/

set_option Elab.async false

namespace Sys2Proof.Machine

variable {s t s₀ : State} {objs doms : Nat → Bool} {parts : List Part}

/-! ### A slow write that starts -/

/-- A slow write that its rule lets through starts by the path of its master, and is answered at once through the window only. -/
theorem State.rowSlow_starts {m key v : Nat} (ha : s.Accepts m key v) (hruns : s.slowRuns m key = false) {rule : State → Res}
    (hr : rule s = (.ok, t)) : s.rowSlow m key v rule = .next
      (if pathOf m = .window then (t.slowStart ⟨m, key, .window⟩).answer m key .ok else t.slowStart ⟨m, key, .direct⟩) := by
  obtain ⟨hreach, hwait, hturn, hcheck⟩ := ha
  by_cases hpath : pathOf m = .window
  · rw [hpath] at hwait hcheck
    simp [State.rowSlow, State.writeWith, State.inOrder, hreach, hpath, hwait, hturn, hcheck, hruns, hr]
  · simp [State.rowSlow, State.writeWith, State.inOrder, hreach, hpath, hwait, hturn, hcheck, hruns, hr]

theorem Within.slowStart {w : SlowWrite} (h : Within objs doms parts s₀ s) (hk : objs (Obj.ACCESS_STATUS_PENDING w.master) = true)
    (hp : Part.dict ∈ parts := by decide) : Within objs doms parts s₀ (s.slowStart w) :=
  .ite (((h.withDict hp).serve hp).set hk) ((h.withDict hp).serve hp)

theorem State.slowStart_slow (s : State) (w : SlowWrite) : (s.slowStart w).dict.slow = w :: s.dict.slow := by
  unfold State.slowStart State.serve
  dsimp only
  split <;> split <;> rfl

/-! ### The flush of a queue -/

/-- The state in which the packets of a queue are discarded. -/
def State.flushed (s : State) (v : Nat) : State := forEach ((s.queue v).map (·.id)) s fun s id => s.discardQueued v id

theorem ruleFlushQueue_flushes {v : Nat} (h : v < 655360) : ruleFlushQueue v s =
    (.ok, ((s.flushed v).bump Obj.TM_CTRL_FLUSHED).raise 0x4044 (((s.flushed v).bump Obj.TM_CTRL_FLUSHED).uQueue v) 0) :=
  if_neg h.not_ge

theorem State.flushed_empty {v : Nat} (h : s.queue v = []) : s.flushed v = s := by
  rw [State.flushed, h]
  rfl

/-- The flush of an empty queue: FLUSHED and E-4044. -/
def State.flushedEmpty (s : State) (v : Nat) : State :=
  (s.bump Obj.TM_CTRL_FLUSHED).raise 0x4044 ((s.bump Obj.TM_CTRL_FLUSHED).uQueue v) 0

theorem State.flushedEmpty_within (s : State) (v m : Nat) :
    Within (keysAndEvents [Obj.TM_CTRL_FLUSHED, Obj.ACCESS_STATUS_PENDING m]) noKey (.dict :: .sent :: eventParts) s (s.flushedEmpty v) :=
  (Within.refl s).bump.raise

theorem State.get_flushedEmpty (hc : s.Canonical) (v : Nat) :
    (s.flushedEmpty v).get Obj.TM_CTRL_FLUSHED = wrapAdd 64 (s.get Obj.TM_CTRL_FLUSHED) 1 :=
  (State.get_raise_of_lt (by decide) (by decide) (by decide) _ _ _ _).trans ((State.get_bump hc.1 _ _ _).trans (if_pos rfl))

theorem State.get_slowStart_flushed (hc : s.Canonical) (w : SlowWrite) :
    (s.slowStart w).get Obj.TM_CTRL_FLUSHED = s.get Obj.TM_CTRL_FLUSHED := by
  refine ((Within.refl (objs := keysOf [Obj.ACCESS_STATUS_PENDING w.master]) (doms := noKey) (parts := [.dict]) s).slowStart
    (by simp [keysOf])).get hc ?_
  simp only [keysOf, List.contains_cons, List.contains_nil, Bool.or_false, beq_eq_false_iff_ne]
  simp only [Obj.TM_CTRL_FLUSHED, Obj.ACCESS_STATUS_PENDING, objKey]
  omega

/-! ### Sampling and profiles -/

/-- The pass of the round goes on from the index sampled last, or anew where that instant has not come again. -/
theorem execQueueSample_due {i : Fin 655360} {r : Nat} (hon : s.CoreOn) (hr : s.sched.roundStart = some r)
    (he : (s.dom Dom.SAMPLE_ENABLE (i / 64)).testBit (i % 64) = true)
    (hn : s.sched.sampled ≤ i.val ∨ s.time.tai < r + sampleOffset (s.sched.sampled - 1)) (hlo : r + sampleOffset i ≤ s.time.tai)
    (hhi : s.time.tai < r + sampleOffset i + 6) :
    execQueueSample i s = .next ((s.withSched { s.sched with sampled := i.val + 1 }).noteSample i (s.sampleOf i)) := by
  have hfrom : (if 0 < s.sched.sampled ∧ s.time.tai < r + sampleOffset (s.sched.sampled - 1) then 0 else s.sched.sampled) ≤ i.val := by
    split
    · exact Nat.zero_le _
    · rename_i h
      rcases hn with hn | hn
      · exact hn
      · have : ¬ 0 < s.sched.sampled := fun h0 => h ⟨h0, hn⟩
        omega
  refine (State.inCore_on hon _ : execQueueSample i s = _).trans (congrArg Host.Outcome.next ?_)
  simp only [hr]
  exact if_pos ⟨he, hfrom, hlo, hhi⟩

theorem ruleShaperProfile_unused {p key v : Nat} (h : s.nodesOf p = []) : ruleShaperProfile p key v s = (.ok, s.commit key v) := by
  rw [ruleShaperProfile, h]
  rfl

/-- Settles O18: each command by the branch that its clause selects. -/
theorem schedulersServeQueues : Obligations.SchedulersServeQueues := by
  unfold Obligations.SchedulersServeQueues
  refine ⟨fun s n u p k w x hon hb hh hw hf hx => ?_, fun s p hon => (State.inCore_on hon _ : execShaperRelease p s = _),
    fun s n e v k w hon hfab hen hb hh hv hk hr => ?_, fun s m v hc ha hruns hv hq hf => ?_, fun s m v ha hpath hruns hv => ?_,
    fun s hc hon hr => ?_, fun s i r hon hr he hn hlo hhi => execQueueSample_due hon hr he hn hlo hhi, fun s n f m v hc ha hn hf => ?_⟩
  · refine (State.inCore_on hon _ : execDequeueDecision n u s = _).trans (congrArg Host.Outcome.next ?_)
    simp only [hb, hh, Bool.or_self, Bool.false_eq_true, if_false, ← hw, hf, ← hx]
  · refine (State.inCore_on hon _ : execVoqSend n e s = _).trans (congrArg Host.Outcome.next ?_)
    simp only [hfab, hen, hb, hh, hv, hk, hr, Bool.true_eq_false, Bool.false_eq_true, or_self, if_false]
  · have hrule : ruleFlushQueue v s = (.ok, s.flushedEmpty v) := by
      rw [ruleFlushQueue_flushes hv, State.flushed_empty hq]
      rfl
    have hw := s.flushedEmpty_within v m
    have hcan := hw.canonical hc
    have hev : (s.flushedEmpty v).dict = s.dict := State.raise_same _ (p := .dict) (by decide) (by decide) _ _ _ (by decide)
    refine ⟨_, State.rowSlow_starts ha hruns hrule, ?_⟩
    by_cases hpath : pathOf m = .window
    · have hans : ∀ u : State, Touches [.sent] u (u.answer m Obj.TM_CTRL_FLUSH_QUEUE .ok) := fun u => (Touches.refl u).emit
      simp only [if_pos hpath]
      exact ⟨(congrArg (Table.get objDefault · _) (hans _).objs).trans ((State.get_slowStart_flushed hcan _).trans (State.get_flushedEmpty hc v)),
        (congrArg DictState.slow ((hans _).part .dict (by decide))).trans ((State.slowStart_slow _ _).trans (by rw [hev])),
        ((hw.slowStart (by simp [keysAndEvents])).answer).frame hc⟩
    · simp only [if_neg hpath]
      exact ⟨(State.get_slowStart_flushed hcan _).trans (State.get_flushedEmpty hc v), (State.slowStart_slow _ _).trans (by rw [hev]),
        (hw.slowStart (by simp [keysAndEvents])).frame hc⟩
  · exact (State.rowSlow_starts ha hruns (ruleFlushQueue_flushes hv)).trans (congrArg Host.Outcome.next (if_pos hpath))
  · refine ⟨_, (State.inCore_on hon _ : execSampleRound s = _).trans (congrArg Host.Outcome.next (if_neg hr)), rfl, ?_, ?_,
      ((Within.refl s).withSched.bump.set).frame hc⟩
    · exact (State.get_set (State.objsWf_bump (s := s.withSched _) hc.1 _ _) _ _ _).trans ((if_neg (by decide)).trans
        ((State.get_bump (s := s.withSched _) hc.1 _ _ _).trans (if_pos rfl)))
    · exact (State.get_set (State.objsWf_bump (s := s.withSched _) hc.1 _ _) _ _ _).trans (if_pos rfl)
  · refine State.rowWrite_stored hc ha hf (ruleShaperProfile_unused hn) ?_
    simp only [objKey]
    omega

end Sys2Proof.Machine
end

section
/-! PROOFS. Families 06_queues_scheduling and 10_fabric_interface: credit is asked for and granted (R208, R209, R298, R299, R304 to R306). -/

set_option Elab.async false

namespace Sys2Proof.Machine

variable {s t s₀ : State} {objs doms : Nat → Bool} {parts : List Part}

/-! ### The classes of a port's credit list -/

theorem Touches.forEach {α : Type} {f : State → α → State} {l : List α} (h : Touches parts s₀ s)
    (hf : ∀ s a, Touches parts s (f s a)) : Touches parts s₀ (Machine.forEach l s f) := by
  unfold Machine.forEach
  induction l generalizing s with
  | nil => exact h
  | cons a l ih => exact ih (h.trans (hf s a))

theorem Touches.ite {c : Prop} [Decidable c] (h : Touches parts s₀ s) (g : Touches parts s₀ t) : Touches parts s₀ (if c then s else t) := by
  split <;> assumption

/-- Classes join and leave the list in the state of the schedulers alone. -/
theorem State.creditClasses_touches (s : State) (p : Nat) : Touches [.sched] s (s.creditClasses p) := by
  unfold State.creditClasses
  split
  · exact .refl s
  · exact (Touches.refl s).forEach fun u c => .ite (Touches.refl u).withSched (.ite (Touches.refl u).withSched (.refl u))

/-! ### Requests held -/

/-- The request state that a REQUEST finds, the first of its instant. -/
def ReqState.opened (y : ReqState) (now : Nat) : ReqState := { core := y.core, base := y.core, gotAt := now }

/-- What becomes of a held state by one REQUEST: taken, or ignored and counted. -/
def ReqState.apply (y : ReqState) (now seq : Nat) (on : Bool) : ReqState :=
  { y.opened now with
    core := (applyRequest now (y.core, 0) (seq, on)).1
    got := [(seq, on)]
    stale := (applyRequest now (y.core, 0) (seq, on)).2 }

/-- The state in which n ignored requests are counted. -/
def State.staleCounted (s : State) (n : Nat) : State :=
  if n = 0 then s else s.set Obj.CREDIT_CTRL_STALE_REQUESTS ((s.get Obj.CREDIT_CTRL_STALE_REQUESTS + 2 ^ 64 + n - 0) % 2 ^ 64)

/-- The state with a held request, whose port's classes follow. -/
def State.holdRequest (s : State) (key q : Nat) (r : ReqState) : State :=
  (s.withFab { s.fab with reqs := Table.put noRequest s.fab.reqs key r }).creditClasses (s.get (Obj.FABRIC_PORT_MAP_MAP_Q q))

theorem State.request_first {r g q c x : Nat} {o : Bool} {y : ReqState} (hg : g = s.get Obj.FABRIC_CTRL_DEVICE_ID) (hf : s.fabricOn = true)
    (hy : y = Table.get noRequest s.fab.reqs ((64 * r + q) * 8 + c)) (hover : s.reqOver y.core = false)
    (hfirst : y.got = [] ∨ y.gotAt ≠ s.time.now) :
    s.request r g q c o x =
      (s.staleCounted (y.apply s.time.now x o).stale).holdRequest ((64 * r + q) * 8 + c) q (y.apply s.time.now x o) := by
  have hno : ¬ (g ≠ s.get Obj.FABRIC_CTRL_DEVICE_ID ∨ s.fabricOn = false) := by simp [hg, hf]
  have hexp : s.expireRequest ((64 * r + q) * 8 + c) = s := by
    rw [State.expireRequest, ← hy]
    exact if_neg (Bool.eq_false_iff.1 hover)
  have hopen : ¬ (y.got ≠ [] ∧ y.gotAt = s.time.now) := fun h => hfirst.elim (fun h0 => h.1 h0) fun h0 => h0 h.2
  unfold State.request
  rw [if_neg hno]
  simp only [hexp, ← hy, if_neg hopen]
  rfl

theorem ReqState.apply_ne_default (y : ReqState) (now seq : Nat) (on : Bool) (key : Nat) : y.apply now seq on ≠ noRequest key :=
  fun h => absurd (congrArg ReqState.got h) (List.cons_ne_nil _ _)

/-- The held state reads as written. -/
theorem State.holdRequest_shows (s : State) (key q : Nat) {r : ReqState} (hr : r ≠ noRequest key) :
    Table.get noRequest (s.holdRequest key q r).fab.reqs key = r :=
  (congrArg (fun f : FabricState => Table.get noRequest f.reqs key) ((State.creditClasses_touches _ _).part .fab (by decide))).trans
    (Table.get_put_of_ne_default hr _)

theorem Within.holdRequest {key q : Nat} {r : ReqState} (h : Within objs doms parts s₀ s) (hp : ∀ p ∈ [Part.fab, Part.sched], p ∈ parts) :
    Within objs doms parts s₀ (s.holdRequest key q r) :=
  (h.withFab (hp _ (by decide))).touch ((State.creditClasses_touches _ _).mono fun p hm => hp p (by simp_all))

theorem ReqState.apply_taken {y : ReqState} {now seq : Nat} {on : Bool}
    (h : y.core.expired = true ∨ (1 ≤ (seq + 16 - y.core.seq) % 16 ∧ (seq + 16 - y.core.seq) % 16 ≤ 7)) :
    (y.apply now seq on).core = ⟨on, seq, now, false⟩ ∧ (y.apply now seq on).stale = 0 := by
  have happly : applyRequest now (y.core, 0) (seq, on) = (⟨on, seq, now, false⟩, 0) := if_pos h
  simp only [ReqState.apply, happly, and_self]

theorem ReqState.apply_stale {y : ReqState} {now seq : Nat} {on : Bool} (he : y.core.expired = false)
    (h : (seq + 16 - y.core.seq) % 16 = 0 ∨ 8 ≤ (seq + 16 - y.core.seq) % 16) :
    (y.apply now seq on).core = y.core ∧ (y.apply now seq on).stale = 1 := by
  have hno : ¬ (y.core.expired = true ∨ (1 ≤ (seq + 16 - y.core.seq) % 16 ∧ (seq + 16 - y.core.seq) % 16 ≤ 7)) := by
    rintro (h1 | h1)
    · exact Bool.noConfusion (he.symm.trans h1)
    · omega
  have happly : applyRequest now (y.core, 0) (seq, on) = (y.core, 1) := if_neg hno
  simp only [ReqState.apply, happly, and_self]

theorem State.get_holdRequest (s : State) (key q k : Nat) (r : ReqState) : (s.holdRequest key q r).get k = s.get k :=
  congrArg (Table.get objDefault · k) (State.creditClasses_touches _ _).objs

theorem State.get_staleCounted_one (hc : s.Canonical) :
    (s.staleCounted 1).get Obj.CREDIT_CTRL_STALE_REQUESTS = wrapAdd 64 (s.get Obj.CREDIT_CTRL_STALE_REQUESTS) 1 := by
  refine (State.get_set hc.1 _ _ _).trans ((if_pos rfl).trans ?_)
  simp only [wrapAdd]
  omega

/-! ### Grants -/

/-- A grant that leaves the balance within its bound is added to it. -/
theorem State.grant_added {g r q c n : Nat} (hr : r = s.get Obj.FABRIC_CTRL_DEVICE_ID) (hf : s.fabricOn = true)
    (hb : Fld.VS_BALANCE.getS (s.dom Dom.VOQ_STATE ((64 * g + q) * 8 + c)) + (n : Int) ≤ (s.get Obj.VOQ_CTRL_BALANCE_MAX : Nat)) :
    s.grant g r q c n = ((s.bump Obj.CREDIT_CTRL_GRANTS_RECEIVED).setField Dom.VOQ_STATE ((64 * g + q) * 8 + c) Fld.VS_BALANCE
      (unsigned 32 (Fld.VS_BALANCE.getS (s.dom Dom.VOQ_STATE ((64 * g + q) * 8 + c)) + (n : Int)))).voqFollow ((64 * g + q) * 8 + c) := by
  have hno : ¬ (r ≠ s.get Obj.FABRIC_CTRL_DEVICE_ID ∨ s.fabricOn = false) := by simp [hr, hf]
  unfold State.grant
  rw [if_neg hno]
  simp only [if_neg hb.not_gt, min_eq_left hb]

theorem State.grant_bad {g r q c n : Nat} (h : r ≠ s.get Obj.FABRIC_CTRL_DEVICE_ID ∨ s.fabricOn = false) :
    s.grant g r q c n = s.bump Obj.FABRIC_CTRL_BAD_MESSAGES :=
  if_pos h

/-! ### The next grant of a port -/

theorem State.creditCharge_touches (s : State) (p c n : Nat) : Touches [.sched] s (s.creditCharge p c n) :=
  .ite (.refl s) (.ite (Touches.refl s).withSched (Touches.refl s).withSched)

theorem State.creditHeld_time (s : State) (p : Nat) : (s.creditHeld p).time = s.time := by
  unfold State.creditHeld
  dsimp only
  split
  · rfl
  · split <;> rfl

/-- Settles O19: each command by the branch that its clause selects. -/
theorem creditIsAskedAndGranted : Obligations.CreditIsAskedAndGranted := by
  unfold Obligations.CreditIsAskedAndGranted
  refine ⟨fun s g r q c b hon hr hf hb => ?_, fun s g r q c b hc hon h => ?_, fun s r g q c o x y hc hon hg hf hy hover hfirst hx => ?_,
    fun s r g q c o x y hc hon hg hf hy hover hfirst he hx => ?_, fun s v hon hs hreq ht => ?_, fun s r q c y hon hy ho ht => ?_,
    fun s d b l hon hp hf ht => ?_, fun s p q c d w hon hb hw hq hf hen hheld hdue hc hd => ?_⟩
  · exact (State.inCore_on hon _ : execGrant g r q c b s = _).trans (congrArg Host.Outcome.next (State.grant_added hr hf hb))
  · exact ⟨_, (State.inCore_on hon _ : execGrant g r q c b s = _).trans (congrArg Host.Outcome.next (State.grant_bad h)),
      (State.get_bump hc.1 _ _ _).trans (if_pos rfl), ((Within.refl s).bump).frame hc⟩
  · obtain ⟨hcore, hstale⟩ := ReqState.apply_taken (y := y) (now := s.time.now) (on := o) hx
    have hreq := State.request_first (o := o) (x := x) hg hf hy hover hfirst
    rw [hstale] at hreq
    refine ⟨_, (State.inCore_on hon _ : execRequest r g q c o x s = _).trans (congrArg Host.Outcome.next hreq), ?_,
      ((Within.refl s).holdRequest (by decide)).frame hc⟩
    rw [State.holdRequest_shows _ _ _ (ReqState.apply_ne_default _ _ _ _ _), hcore]
  · obtain ⟨hcore, hstale⟩ := ReqState.apply_stale (now := s.time.now) (on := o) he hx
    have hreq := State.request_first (o := o) (x := x) hg hf hy hover hfirst
    rw [hstale] at hreq
    refine ⟨_, (State.inCore_on hon _ : execRequest r g q c o x s = _).trans (congrArg Host.Outcome.next hreq),
      (State.get_holdRequest _ _ _ _ _).trans (State.get_staleCounted_one hc), ?_,
      (Within.holdRequest (s := s.staleCounted 1) ((Within.refl s).set) (by decide)).frame hc⟩
    rw [State.holdRequest_shows _ _ _ (ReqState.apply_ne_default _ _ _ _ _), hcore]
  · exact (State.inCore_on hon _ : execRequestRefresh v s = _).trans (congrArg Host.Outcome.next (if_pos ⟨hreq, hs, ht⟩))
  · subst hy
    have hover : s.reqOver (Table.get noRequest s.fab.reqs ((64 * r.val + q.val) * 8 + c.val)).core = true := by
      rw [State.reqOver, ho]
      exact Nat.ble_eq ▸ ht
    exact (State.inCore_on hon _ : execRequestExpiry r q c s = _).trans (congrArg Host.Outcome.next (if_pos hover))
  · refine (State.inCore_on hon _ : execControlCellFlush d s = _).trans (congrArg Host.Outcome.next ?_)
    simp only [hp]
    exact if_pos ⟨hf, ht⟩
  · have htime : w.time = s.time := by
      rw [hw, State.creditHeld_time]
      exact (State.creditClasses_touches s p).part .time (by decide)
    have hno : ¬ (w.fabricOn = false ∨ w.on Obj.TM_CTRL_SCHED_ENABLE = false ∨ w.get (creditKeys p).2.2.2.2 = 1 ∨
        w.time.now * 65536 < Table.get zeroN w.sched.creditNext p) := by
      rw [htime]
      simp [hf, hen, hheld, hdue]
    refine (State.inCore_on hon _ : execCreditGenerate p s = _).trans (congrArg Host.Outcome.next ?_)
    have hid : ∀ (n : Nat) (x : SchedState), ((w.creditCharge p c n).withSched x).get Obj.FABRIC_CTRL_DEVICE_ID =
        w.get Obj.FABRIC_CTRL_DEVICE_ID :=
      fun n x => congrArg (Table.get objDefault · Obj.FABRIC_CTRL_DEVICE_ID) (w.creditCharge_touches p c n).objs
    simp only [hb, Bool.false_eq_true, if_false, ← hw, hq, hno, hc, hd, hid]

end Sys2Proof.Machine
end

section
/-! PROOFS. Family 15_mailboxes: bindings, messages, acknowledgements, the channel lock and the doorbells (R419, R420, R423 to R427, R430,
R432). -/

set_option Elab.async false

namespace Sys2Proof.Machine

variable {s t : State}

/-! ### Channels -/

theorem ruleMbBinding_illegal {n v : Nat} (h : bindingOk (setBits v 16 4 0) = false) : ruleMbBinding n v s = (.invalid, s) :=
  if_pos h

theorem ruleMbBinding_legal {n v : Nat} (h : bindingOk (setBits v 16 4 0) = true) : ruleMbBinding n v s =
    if s.get (Obj.MAILBOX_STATE n) = 1 ∧ setBits v 16 4 0 ≠ s.binding n then (.busy, s)
    else (.ok, s.commit (Obj.MB_BINDING_BIND_MB n) (setBits v 16 4 0)) :=
  if_neg (Bool.not_eq_false _ ▸ h)

/-- The state in which a message is posted on a channel. -/
def State.posted (s : State) (n : Nat) : State := ((s.set (Obj.MAILBOX_ACK n) 0).bump (Obj.MAILBOX_POSTS n)).set (Obj.MAILBOX_STATE n) 1

theorem ruleSend_posts {n : Nat} (h : s.get (Obj.MAILBOX_STATE n) ≠ 1) : ruleSend n 1 s =
    if Fld.BND_RECEIVER.get ((s.posted n).binding n) = MATE then
      (.ok, if (s.posted n).pair.linkUp then (s.posted n).sendMail n .message else (s.posted n).mateMailFailed n 0xFFFE)
    else (.ok, (s.posted n).ring (Fld.BND_RECEIVER.get ((s.posted n).binding n)) (Fld.BND_RX_BIT.get ((s.posted n).binding n))) :=
  (if_neg (not_not.2 rfl)).trans (if_neg h)

theorem ruleSend_busy {n : Nat} (h : s.get (Obj.MAILBOX_STATE n) = 1) : ruleSend n 1 s = (.busy, s) :=
  (if_neg (not_not.2 rfl)).trans (if_pos h)

/-- The state in which a message is acknowledged. -/
def State.ackedOn (s : State) (n v : Nat) : State :=
  ((s.set (Obj.MAILBOX_ACK n) v).set (Obj.MAILBOX_STATE n) 2).withHost { s.host with acked := n :: s.host.acked }

section ack

variable {n v : Nat} (htag : bits v 30 2 = 2) (hzero : bits v 16 14 = 0) (hcode : v % 65536 < 0xFFFD)
include htag hzero hcode

theorem ruleAck_legal : ruleAck n v s = if s.get (Obj.MAILBOX_STATE n) ≠ 1 then (.busy, s)
    else (.ok, if (s.ackedOn n v).channelSender n = MATE then (s.ackedOn n v).sendMail n .acknowledge else (s.ackedOn n v).ringSender n) := by
  refine if_neg ?_
  rintro (h | h | h)
  · exact h htag
  · exact h hzero
  · exact hcode.not_ge h

end ack

theorem mailboxKeys (c : Fin 64) : Obj.MB_BINDING_BIND_MB c % 0x1000000 ≠ 0x111007 ∧ Obj.MAILBOX_SEND c % 0x1000000 ≠ 0x111007 ∧
    Obj.MAILBOX_ACK c % 0x1000000 ≠ 0x111007 := by
  simp only [Obj.MB_BINDING_BIND_MB, Obj.MAILBOX_SEND, Obj.MAILBOX_ACK, objKey]
  omega

/-! ### The lock -/

/-- A lock whose channel is shared and valid, read by a master other than the debug master. -/
theorem State.readLock_shared {c m : Nat} (hv : Fld.BND_VALID.get (s.binding c) = 1) (hs : Fld.BND_SHARED.get (s.binding c) = 1)
    (hm : m ≠ DBG) : s.readLock c m =
      if s.get (Obj.MAILBOX_LOCK c) = 0 then (0, s.set (Obj.MAILBOX_LOCK c) m)
      else if s.get (Obj.MAILBOX_LOCK c) = m then (0, s) else (s.get (Obj.MAILBOX_LOCK c), s) := by
  have hno : ¬ (Fld.BND_SHARED.get (s.binding c) = 0 ∨ Fld.BND_VALID.get (s.binding c) = 0) := by
    rw [hs, hv]
    decide
  exact (if_neg hno).trans (if_neg hm)

/-- The reads of a cycle by the readers below n, in ascending order. -/
def lockTurn (l : List LockRead) (n : Nat) : List LockRead := (List.range n).flatMap fun m => l.filter fun r => Nat.beq r.master m

theorem lockTurn_succ (l : List LockRead) (n : Nat) : lockTurn l (n + 1) = lockTurn l n ++ l.filter fun r => Nat.beq r.master n := by
  simp only [lockTurn, List.range_succ, List.flatMap_append, List.flatMap_singleton]

theorem beq_false_of_ne {a b : Nat} (h : a ≠ b) : Nat.beq a b = false := Bool.eq_false_iff.2 fun e => h (Nat.eq_of_beq_eq_true e)

theorem lockTurn_one (r : LockRead) (n : Nat) : lockTurn [r] n = if r.master < n then [r] else [] := by
  induction n with
  | zero => rfl
  | succ n ih =>
    rw [lockTurn_succ, ih]
    rcases Nat.lt_trichotomy r.master n with h | h | h
    · rw [if_pos h, if_pos (by omega), List.filter_cons, beq_false_of_ne h.ne]
      rfl
    · rw [if_neg (by omega), if_pos (by omega), List.filter_cons, h, Nat.beq_refl]
      rfl
    · rw [if_neg (by omega), if_neg (by omega), List.filter_cons, beq_false_of_ne h.ne']
      rfl

/-- Of two readers the lower one comes first. -/
theorem lockTurn_two {a b : LockRead} (hab : b.master < a.master) (n : Nat) :
    lockTurn [a, b] n = (if b.master < n then [b] else []) ++ if a.master < n then [a] else [] := by
  induction n with
  | zero => rfl
  | succ n ih =>
    have hsplit : [a, b].filter (fun r => Nat.beq r.master n) =
        (if b.master = n then [b] else []) ++ if a.master = n then [a] else [] := by
      by_cases hb : b.master = n
      · have ha : a.master ≠ n := by omega
        rw [List.filter_cons, beq_false_of_ne ha, if_pos hb, if_neg ha, List.filter_cons, hb, Nat.beq_refl]
        rfl
      · by_cases ha : a.master = n
        · rw [if_neg hb, if_pos ha, List.filter_cons, List.filter_cons, beq_false_of_ne hb, ha, Nat.beq_refl]
          rfl
        · rw [List.filter_cons, beq_false_of_ne ha, if_neg hb, if_neg ha, List.filter_cons, beq_false_of_ne hb]
          rfl
    rw [lockTurn_succ, ih, hsplit]
    by_cases ha : a.master < n
    · rw [if_pos (by omega : b.master < n), if_pos ha, if_neg (by omega : ¬ b.master = n), if_neg (by omega : ¬ a.master = n),
        if_pos (by omega : b.master < n + 1), if_pos (by omega : a.master < n + 1)]
      rfl
    · rw [if_neg ha]
      by_cases hb : b.master < n
      · rw [if_pos hb, if_neg (by omega : ¬ b.master = n), if_pos (by omega : b.master < n + 1)]
        by_cases he : a.master = n
        · rw [if_pos he, if_pos (by omega : a.master < n + 1)]
          rfl
        · rw [if_neg he, if_neg (by omega : ¬ a.master < n + 1)]
          rfl
      · rw [if_neg hb, if_neg (by omega : ¬ a.master = n), if_neg (by omega : ¬ a.master < n + 1)]
        by_cases he : b.master = n
        · rw [if_pos he, if_pos (by omega : b.master < n + 1)]
          rfl
        · rw [if_neg he, if_neg (by omega : ¬ b.master < n + 1)]
          rfl

/-- The answer to one read of a lock. -/
def State.answerLock (s : State) (r : LockRead) : State :=
  match r.via with
  | .master => (s.readLock r.channel r.master).2.answer r.master (Obj.MAILBOX_LOCK r.channel) .ok (s.readLock r.channel r.master).1
  | .job sq index => (s.readLock r.channel r.master).2.complete sq index .ok (s.readLock r.channel r.master).1
  | .coica f => (s.readLock r.channel r.master).2.odStatus f .ok true (bytesBE 1 (s.readLock r.channel r.master).1)

theorem State.answerLocks_eq (s : State) : s.answerLocks =
    forEach (lockTurn s.host.lockReads 64) (s.withHost { s.host with lockReads := [] }) fun s r => s.answerLock r :=
  rfl

/-- The only reader of a cycle is answered. -/
theorem State.answerLocks_one {r : LockRead} (h : s.host.lockReads = [r]) (hr : r.master < 64) :
    s.answerLocks = (s.withHost { s.host with lockReads := [] }).answerLock r := by
  rw [State.answerLocks_eq, h, lockTurn_one, if_pos hr]
  rfl

/-- Of two readers the lower one is answered first. -/
theorem State.answerLocks_two {a b : LockRead} (h : s.host.lockReads = [a, b]) (hab : b.master < a.master) (ha : a.master < 64) :
    s.answerLocks = ((s.withHost { s.host with lockReads := [] }).answerLock b).answerLock a := by
  rw [State.answerLocks_eq, h, lockTurn_two hab, if_pos (hab.trans ha), if_pos ha]
  rfl

section reader

variable {c m : Nat} (hv : Fld.BND_VALID.get (s.binding c) = 1) (hs : Fld.BND_SHARED.get (s.binding c) = 1) (hm : m ≠ DBG)
include hv hs hm

theorem State.answerLock_free (hl : s.get (Obj.MAILBOX_LOCK c) = 0) :
    s.answerLock ⟨c, m, .master⟩ = (s.set (Obj.MAILBOX_LOCK c) m).answer m (Obj.MAILBOX_LOCK c) .ok 0 := by
  have h := (State.readLock_shared hv hs hm).trans (if_pos hl)
  simp only [State.answerLock, h]

theorem State.answerLock_held (hl : s.get (Obj.MAILBOX_LOCK c) = m) (hpos : 0 < m) :
    s.answerLock ⟨c, m, .master⟩ = s.answer m (Obj.MAILBOX_LOCK c) .ok 0 := by
  have h := (State.readLock_shared hv hs hm).trans ((if_neg (by omega)).trans (if_pos hl))
  simp only [State.answerLock, h]

theorem State.answerLock_other (hpos : 0 < s.get (Obj.MAILBOX_LOCK c)) (hl : s.get (Obj.MAILBOX_LOCK c) ≠ m) :
    s.answerLock ⟨c, m, .master⟩ = s.answer m (Obj.MAILBOX_LOCK c) .ok (s.get (Obj.MAILBOX_LOCK c)) := by
  have h := (State.readLock_shared hv hs hm).trans ((if_neg (by omega)).trans (if_neg hl))
  simp only [State.answerLock, h]

end reader

/-! ### Doorbells -/

theorem ruleDbPending_quiet (m v : Nat) (h : s.host.rung = []) : ruleDbPending m v s =
    (.ok, s.commit (Obj.DOORBELL_DB_PENDING m) (s.get (Obj.DOORBELL_DB_PENDING m) - Nat.land (s.get (Obj.DOORBELL_DB_PENDING m)) v)) := by
  have hhost : s.withHost { s.host with rung := [] } = s := by rw [← h]; rfl
  have hor : ∀ x, Nat.lor x 0 = x := Nat.or_zero
  simp only [ruleDbPending, h, List.foldl_nil, List.map_nil, hhost, hor, State.plain]

theorem ruleDbMask_quiet (m v : Nat) (h : s.host.rung = []) : ruleDbMask m v s =
    (.ok, if Nat.land ((s.commit (Obj.DOORBELL_DB_MASK m) v).get (Obj.DOORBELL_DB_PENDING m))
      (s.get (Obj.DOORBELL_DB_MASK m) - Nat.land (s.get (Obj.DOORBELL_DB_MASK m)) v) = 0 then s.commit (Obj.DOORBELL_DB_MASK m) v
      else (s.commit (Obj.DOORBELL_DB_MASK m) v).signalOwner m) := by
  have hfresh : (s.commit (Obj.DOORBELL_DB_MASK m) v).freshBits m = 0 := by
    rw [State.freshBits, State.commit_host, h]
    rfl
  have hzero : ∀ x, x - Nat.land x 0 = x := fun x => by
    have : Nat.land x 0 = 0 := Nat.and_zero x
    omega
  simp only [ruleDbMask, hfresh, hzero]

theorem State.get_ring (hc : s.Canonical) {m : Nat} (b : Nat) (h : hasDoorbell m = true) :
    (s.ring m b).get (Obj.DOORBELL_DB_PENDING m) = Nat.lor (s.get (Obj.DOORBELL_DB_PENDING m)) (2 ^ b) := by
  have hset := (State.get_set hc.1 (Obj.DOORBELL_DB_PENDING m) (Nat.lor (s.get (Obj.DOORBELL_DB_PENDING m)) (2 ^ b)) _).trans (if_pos rfl)
  unfold State.ring
  rw [if_pos h]
  dsimp only
  split
  · exact hset
  · exact hset

theorem bindingKey_ne_lock (c : Nat) : Obj.MB_BINDING_BIND_MB c ≠ Obj.MAILBOX_LOCK c := by
  simp only [Obj.MB_BINDING_BIND_MB, Obj.MAILBOX_LOCK, objKey]
  omega

/-- Settles O40: each command by its rule, and the lock by its readers. -/
theorem mailboxesCarryMessages : Obligations.MailboxesCarryMessages := by
  unfold Obligations.MailboxesCarryMessages
  refine ⟨fun s c m v ha hok hst => ?_, fun s c m v hc ha hok hf => State.rowWrite_refused hc ha hf (by decide) (ruleMbBinding_illegal hok),
    fun s c m v hc ha hok hst hne hf =>
      State.rowWrite_refused hc ha hf (by decide) ((ruleMbBinding_legal hok).trans (if_pos ⟨hst, hne⟩)),
    fun s c m v ha hv hst hr => ?_, fun s c m v ha hv hst hr hl => ?_, fun s c m v ha hv hst hr hl => ?_, fun s c m v hc ha hv hst hf => ?_,
    fun s c m v ha ht hz hcode hst hm => ?_, fun s c m v hc ha ht hz hcode hst hf =>
      State.rowWrite_refused hc ha hf (by decide) ((ruleAck_legal ht hz hcode).trans (if_pos hst)),
    fun s c m hreach hwait hread hpath hv hs hm => ?_, fun s c m hm64 hr hv hs hm hl => ?_, fun s c m hm64 hr hv hs hm hl hpos => ?_,
    fun s c m hm64 hr hv hs hm hpos hl => ?_, fun s m v ha hr => State.rowWrite_ruled ha (ruleDbPending_quiet m v hr),
    fun s m v ha hr hdue => State.rowWrite_ruled ha ((ruleDbMask_quiet m v hr).trans (congrArg (Prod.mk Status.ok) (if_neg hdue))),
    fun s m v ha hr hdue => State.rowWrite_ruled ha ((ruleDbMask_quiet m v hr).trans (congrArg (Prod.mk Status.ok) (if_pos hdue))),
    fun s c a b _ hba ha hda hdb hpos hc hr hv hs hl => ?_, fun s m b hc h => State.get_ring hc b h, fun s m b hr hp hmask => ?_⟩
  · exact State.rowWrite_ruled ha ((ruleMbBinding_legal hok).trans (if_neg fun h => hst h.1))
  · subst hv
    exact State.rowWrite_ruled ha ((ruleSend_posts hst).trans (if_neg hr))
  · subst hv
    exact State.rowWrite_ruled ha ((ruleSend_posts hst).trans ((if_pos hr).trans (congrArg (Prod.mk Status.ok) (if_pos hl))))
  · subst hv
    exact State.rowWrite_ruled ha ((ruleSend_posts hst).trans ((if_pos hr).trans
      (congrArg (Prod.mk Status.ok) (if_neg (Bool.eq_false_iff.1 hl)))))
  · subst hv
    exact State.rowWrite_refused hc ha hf (by decide) (ruleSend_busy hst)
  · exact State.rowWrite_ruled ha ((ruleAck_legal ht hz hcode).trans ((if_neg (not_not.2 hst)).trans (congrArg (Prod.mk Status.ok) (if_neg hm))))
  · refine congrArg Host.Outcome.next ?_
    simp only [hreach, hpath, hwait, hread, Bool.false_eq_true, if_false]
    rfl
  · rw [State.answerLocks_one hr hm64]
    exact State.answerLock_free (s := s.withHost _) hv hs hm hl
  · rw [State.answerLocks_one hr hm64]
    exact State.answerLock_held (s := s.withHost _) hv hs hm hl hpos
  · rw [State.answerLocks_one hr hm64]
    exact State.answerLock_other (s := s.withHost _) hv hs hm hpos hl
  · rw [State.answerLocks_two hr hba ha, State.answerLock_free (s := s.withHost { s.host with lockReads := [] }) hv hs hdb hl]
    generalize hu : ((s.withHost { s.host with lockReads := [] }).set (Obj.MAILBOX_LOCK c) b).answer b (Obj.MAILBOX_LOCK c) .ok 0 = u
    have hget : ∀ k, u.get k = if k = Obj.MAILBOX_LOCK c then b else s.get k := fun k => by
      rw [← hu, State.get_answer]
      exact State.get_set (s := s.withHost _) hc.1 _ _ _
    have hlock : u.get (Obj.MAILBOX_LOCK c) = b := (hget _).trans (if_pos rfl)
    have hbind : u.binding c = s.binding c := (hget _).trans (if_neg (bindingKey_ne_lock c))
    rw [State.answerLock_other (hbind ▸ hv) (hbind ▸ hs) hda (hlock ▸ hpos) (fun h => hba.ne (hlock.symm.trans h)), State.get_answer, hlock]
  · unfold State.doorbellSignals
    rw [hr]
    refine if_neg ?_
    rw [Bool.or_assoc, Bool.false_or]
    exact fun h => (Bool.or_eq_true _ _ ▸ h).elim (fun h => absurd hp (by simpa using h)) fun h => Bool.noConfusion (hmask.symm.trans h)

end Sys2Proof.Machine
end

section
/-! PROOFS. Family 06_queues_scheduling: a marked queue whose sample record is damaged in HBM3 (R214, R360). -/

set_option Elab.async false

namespace Sys2Proof.Machine

/-- The SAMPLE_MARKED action that is due. -/
def dueSample : AirAction := { due := 5, entry := 3, clock := 0, action := 3, target := 0, arg := 0 }

/-- Queue 77 is marked, and the record of its samples, in HBM3, holds words that do not correct. -/
def damagedSample : State :=
  let s := (State.reset.setDom Dom.MARKED_QUEUES 2 (Fld.MQ_VALID.set (Fld.MQ_INDEX.set 0 77) 1)).withTime { fifo := [dueSample], tai := 6 }
  s.withParse { s.parse with damaged := [domKey Dom.QUEUE_SAMPLES 77] }

/-- Noting its sample reads the record, and counts the uncorrectable error of HBM3. -/
theorem damagedSample_counts :
    ∃ t, execSampleMarked damagedSample = .next t ∧ t.get (Obj.HBM_STACK_UE_COUNT 3) = damagedSample.get (Obj.HBM_STACK_UE_COUNT 3) + 1 :=
  ⟨_, rfl, by decide +kernel⟩

/-- Refutes O9: its clause of SAMPLE_MARKED does not ask that the records of the marked queues are intact. In `damagedSample` UE_COUNT of
HBM3 changes, an object outside the clause's frame. -/
theorem not_timedActionsTakeEffect : ¬ Obligations.TimedActionsTakeEffect := by
  rintro ⟨-, -, -, hsample, -⟩
  obtain ⟨t, hrun, -, -, -, hobjs, -, -⟩ := hsample damagedSample dueSample [] (by decide +kernel) rfl rfl (by decide) rfl (by decide +kernel)
    (by decide +kernel)
  obtain ⟨t', hrun', hcount⟩ := damagedSample_counts
  have hrun : execSampleMarked damagedSample = .next t := hrun
  rw [← Host.Outcome.next.inj (hrun.symm.trans hrun'), hobjs _ (by decide)] at hcount
  exact Nat.ne_of_lt (Nat.lt_succ_self _) hcount

end Sys2Proof.Machine
end

section
/-! PROOFS. Family 03_tables: an aged entry of a table whose objects stand out of order (R99). -/

set_option Elab.async false

namespace Sys2Proof.Machine

/-- The one entry of the table, with a stamp of its own. -/
def agedEntry : EmEntry := { static := false, lock := false, stamp := 6, key := 5, result := 77 }

/-- Table 3 holds `agedEntry`, which the ager is about to delete. The objects stand out of order: a read of WIDTH stops at the entry that
ENTRIES has before it. -/
def hiddenWidth : State :=
  let s := running.withObjs [(Obj.CQ_CONFIG_CQ_ENABLE 0, 1), (Obj.EM_TABLE_ENABLE 3, 1), (Obj.EM_TABLE_ENTRIES 3, 1),
    (Obj.EM_TABLE_WIDTH 3, 1), (Obj.EM_TABLE_EVENT_CQ 3, 0)]
  s.withTab { s.tab with em := [(emKey 3 2, some agedEntry)], ageDue := [(3, ⟨2, 5, 6⟩)] }

/-- ENTRIES is 0 again, and the event tells the entry as of the wide table whose WIDTH its entry hid: with the stamp for its data. -/
theorem hiddenWidth_tells : hiddenWidth.ageDeletes.cqs.map (fun c => c.2.last.map fun e => e.image % 2 ^ 32) = [some 6] := by
  decide +kernel

/-- Refutes O12: its clause of a deletion at the instant's end reads WIDTH before ENTRIES is written and does not ask for canonical tables. In
`hiddenWidth` it expects the result for the event's data. -/
theorem not_exactMatchEngineWorks : ¬ Obligations.ExactMatchEngineWorks := by
  rintro ⟨-, -, -, -, -, -, -, -, hdelete, -⟩
  have htold := hiddenWidth_tells
  rw [hdelete hiddenWidth 3 ⟨2, 5, 6⟩ agedEntry rfl (by decide +kernel) (by decide +kernel) rfl rfl rfl
    (by decide +kernel) (by decide +kernel)] at htold
  exact absurd htold (by decide +kernel)

end Sys2Proof.Machine
end

section
/-! PROOFS. Family 09_line_ports: pause frames received and sent, the watchdog, and snapshots (R275, R276, R278, R279, R284, R285). -/

set_option Elab.async false

namespace Sys2Proof.Machine

variable {s t : State}

/-! The bytes of a control frame. -/

theorem bytesLE_length (n x : Nat) : (bytesLE n x).length = n := by
  induction n generalizing x with
  | zero => rfl
  | succ n ih => exact congrArg (· + 1) (ih _)

theorem bytesBE_length (n x : Nat) : (bytesBE n x).length = n := List.length_reverse.trans (bytesLE_length n x)

theorem fcsGood_withFcs (b : List Byte) : fcsGood (withFcs b) = true := by
  unfold fcsGood withFcs
  simp only [List.length_append, bytesLE_length, Nat.add_sub_cancel]
  rw [← List.length_append, List.drop_left, List.take_left]
  exact decide_eq_true rfl

theorem withFcs_length {b : List Byte} (hb : b.length ≤ 60) : (withFcs b).length = 64 := by
  simp only [withFcs, List.length_append, List.length_replicate, bytesLE_length]
  omega

theorem pauseFrame_length (a q : Nat) : (pauseFrame a q).length = 64 := by
  refine withFcs_length ?_
  simp only [List.length_append, bytesBE_length]
  decide

/-- Two bytes of a list behind its first part. -/
theorem wordAt_append_two (l r : List Byte) (i : Nat) : wordAt (l ++ r) (l.length + i) 2 = byteAt r i * 256 + byteAt r (i + 1) := by
  have hb : ∀ j, byteAt (l ++ r) (l.length + j) = byteAt r j := fun j => by
    simp only [byteAt, List.getD_eq_getElem?_getD, List.getElem?_append_right (Nat.le_add_right _ _), Nat.add_sub_cancel_left]
  have hw : wordAt (l ++ r) (l.length + i) 2 =
      (0 * 256 + byteAt (l ++ r) (l.length + i)) * 256 + byteAt (l ++ r) (l.length + (i + 1)) := rfl
  rw [hw, hb, hb, Nat.zero_mul, Nat.zero_add]

theorem bytesBE_two (x : Nat) : bytesBE 2 x = [toByte (x / 256), toByte x] := rfl

/-- A PAUSE frame behind its addresses: type, code and quanta. -/
theorem pauseFrame_split (a q : Nat) : ∃ r, pauseFrame a q = (bytesBE 6 controlDa ++ bytesBE 6 a) ++
    (bytesBE 2 0x8808 ++ (bytesBE 2 1 ++ (bytesBE 2 q ++ r))) := by
  simp only [pauseFrame, withFcs, List.append_assoc]
  exact ⟨_, rfl⟩

theorem toByte_pair (x : Nat) : (toByte (x / 256)).toNat * 256 + (toByte x).toNat = x % 65536 := by
  have hb : ∀ y, (toByte y).toNat = y % 256 := fun y => BitVec.toNat_ofNat y 8
  rw [hb, hb]
  omega

theorem pauseFrame_words (a : Nat) {q : Nat} (hq : q < 65536) :
    wordAt (pauseFrame a q) 12 2 = 0x8808 ∧ wordAt (pauseFrame a q) 14 2 = 1 ∧ wordAt (pauseFrame a q) 16 2 = q := by
  obtain ⟨r, hr⟩ := pauseFrame_split a q
  have hl : (bytesBE 6 controlDa ++ bytesBE 6 a).length = 12 := by rw [List.length_append, bytesBE_length, bytesBE_length]
  have hw := wordAt_append_two (bytesBE 6 controlDa ++ bytesBE 6 a) (bytesBE 2 0x8808 ++ (bytesBE 2 1 ++ (bytesBE 2 q ++ r)))
  rw [hl, ← hr, bytesBE_two, bytesBE_two, bytesBE_two] at hw
  exact ⟨(hw 0).trans (toByte_pair 0x8808), (hw 2).trans (toByte_pair 1), (hw 4).trans ((toByte_pair q).trans (Nat.mod_eq_of_lt hq))⟩

/-! What counters of a port leave as it was. -/

/-- The counters of port p, and what events write. -/
def countKeys (p k : Nat) : Bool := Nat.beq (keyIdx k) (0x2100 + p) || eventObjs k

/-- From s to t only counters of port p, and the values they had before this instant, changed. -/
structure Counted (p : Nat) (s t : State) : Prop where
  within : Within (countKeys p) noKey (.line :: eventParts) s t
  line : t.line = { s.line with counted := t.line.counted, countedAt := t.line.countedAt }

theorem Counted.refl (p : Nat) (s : State) : Counted p s s := ⟨Within.refl s, rfl⟩

theorem countKeys_counter {p sub : Nat} (hp : p < 128) (hs : sub < 256) : countKeys p (objKey 0 (0x2100 + p) sub) = true := by
  have h : keyIdx (objKey 0 (0x2100 + p) sub) = 0x2100 + p := by simp only [keyIdx, objKey]; omega
  rw [countKeys, h, Nat.beq_refl, Bool.true_or]

theorem State.countPort_line (p sub n : Nat) :
    (s.countPort p sub n).line = { s.line with counted := (s.countPort p sub n).line.counted, countedAt := (s.countPort p sub n).line.countedAt } := by
  have hr : ∀ (u : State) a b c, (u.raise 0x2001 a b c).line = u.line := fun u a b c =>
    u.raise_same (by decide) (by decide) a b c (p := .line) (by decide)
  unfold State.countPort
  dsimp only
  split
  · rw [hr]
    rfl
  · rfl

theorem Counted.countPort {p sub : Nat} {n : Nat} (h : Counted p s t) (hp : p < 128) (hs : sub < 256) : Counted p s (t.countPort p sub n) :=
  ⟨h.within.countPort (countKeys_counter hp hs) (fun k hk => by rw [countKeys, hk, Bool.or_true]), by
    rw [State.countPort_line, h.line]⟩

theorem Counted.ite {p : Nat} {u : State} {c : Prop} [Decidable c] (h : Counted p s t) (g : Counted p s u) : Counted p s (if c then t else u) := by
  split <;> assumption

theorem Counted.countGood {p base : Nat} {f : List Byte} (h : Counted p s t) (hp : p < 128) (hb : base + 8 < 256) :
    Counted p s (t.countGood p base f) := by
  have h3 : ∀ n m, Counted p s n → m ≤ 8 → Counted p s (n.countPort p (base + m)) := fun n m hn hm => hn.countPort hp (by omega)
  have hda : Counted p s (((t.countPort p (base + 1)).countPort p (base + 2) f.length).countPort p
      (base + (if wordAt f 0 6 = 2 ^ 48 - 1 then 5 else if bit (byteAt f 0) 0 then 4 else 3))) :=
    ((h.countPort hp (by omega)).countPort hp (by omega)).countPort hp (by split <;> (try split) <;> omega)
  have hc := Counted.ite (c := wordAt f 12 2 = 0x8808 ∧ wordAt f 14 2 = 1) (h3 _ 6 hda (by omega))
    (Counted.ite (c := wordAt f 12 2 = 0x8808 ∧ wordAt f 14 2 = 0x0101) (h3 _ 7 hda (by omega)) hda)
  exact Counted.ite (h3 _ 8 hc (by omega)) hc

/-- The objects of a line port. -/
theorem countKeys_linePort {p i : Nat} (q : Nat) (hp : p < 128) (hi : i < 256) : countKeys q (objKey 0 (0x2000 + p) i) = false := by
  have h : keyIdx (objKey 0 (0x2000 + p) i) = 0x2000 + p := by simp only [keyIdx, objKey]; omega
  have hl : objKey 0 0x1801 255 < objKey 0 (0x2000 + p) i := by simp only [objKey]; omega
  rw [countKeys, h, beq_false_of_ne (by omega), eventObjs_of_lt hl]
  rfl

theorem Counted.pauseOf {p : Nat} (h : Counted p s t) (q k : Nat) : t.pauseOf q k = s.pauseOf q k := by
  rw [State.pauseOf, State.pauseOf, h.line]

section
variable {p : Nat} (h : Counted p s t) (hc : s.Canonical)
include h hc

theorem Counted.get {k : Nat} (hk : countKeys p k = false) : t.get k = s.get k := h.within.get hc hk

theorem Counted.part {x : Part} (hx : x ∉ (Part.line :: eventParts)) : x.same s t := (h.within.frame hc).2.2 x hx

theorem Counted.time : t.time = s.time := h.part hc (x := .time) (by decide)

theorem Counted.setting {k : Nat} (hk : countKeys p k = false) : t.setting k = s.setting k := by
  rw [State.setting, State.setting, h.get hc hk, h.time hc, h.line]

theorem Counted.modesAhead (hp : p < 128) : t.modesAhead p = s.modesAhead p := by
  rw [State.modesAhead, State.modesAhead, h.get hc (countKeys_linePort p hp (by decide)), h.time hc, h.line]

theorem Counted.exemptsAhead (hp : p < 128) : t.exemptsAhead p = s.exemptsAhead p := by
  rw [State.exemptsAhead, State.exemptsAhead, h.get hc (countKeys_linePort p hp (by decide)), h.time hc, h.line]

theorem Counted.quantaTime (q : Nat) (hp : p < 128) : t.quantaTime p q = s.quantaTime p q := by
  rw [State.quantaTime, State.quantaTime, h.get hc (countKeys_linePort p hp (by decide))]

end

/-! The watchdog, and a control frame received. -/

/-- The pause of priority k has lasted as long as the watchdog lets it. -/
def State.wdDue (s : State) (p k : Nat) : Prop :=
  0 < s.setting (Obj.LINE_PORT_WD_LIMIT_MS p) * ms * 100 ∧ (s.pauseOf p k).start < (s.pauseOf p k).stop ∧
    (s.pauseOf p k).start + s.setting (Obj.LINE_PORT_WD_LIMIT_MS p) * ms * 100 ≤ 100 * s.time.now ∧
    (s.pauseOf p k).start + s.setting (Obj.LINE_PORT_WD_LIMIT_MS p) * ms * 100 ≤ (s.pauseOf p k).stop

/-- The pause that the watchdog leaves: none, in hold-off. -/
def State.wdPause (s : State) (p k : Nat) : PauseState :=
  { start := 0, stop := 0, holdoff := (s.pauseOf p k).start + s.setting (Obj.LINE_PORT_WD_LIMIT_MS p) * ms * 100 +
      s.setting (Obj.LINE_PORT_WD_HOLDOFF_MS p) * ms * 100, inHoldoff := true }

theorem State.watchdog_due {p k : Nat} (h : s.wdDue p k) :
    s.watchdog p k = ((s.setPause p k (s.wdPause p k)).countPort p 0x3F).raise 0x2102 (uLane p) 0 p := if_pos h

theorem State.watchdog_line {p k : Nat} (h : s.wdDue p k) :
    (s.watchdog p k).line.pause = Table.put pauseEmpty s.line.pause (p * 16 + k) (s.wdPause p k) := by
  have hr := ((s.setPause p k (s.wdPause p k)).countPort p 0x3F).raise_same (code := 0x2102) (by decide) (by decide) (uLane p) 0 p
    (p := .line) (by decide)
  rw [State.watchdog_due h, (hr : State.line _ = _), State.countPort_line]
  rfl

/-- Where the watchdog changes nothing, no pause is its to end. -/
theorem State.not_wdDue {p k : Nat} (h : s.watchdog p k = s) : ¬ s.wdDue p k := fun hd => by
  have hp : s.pauseOf p k = s.wdPause p k := by
    have hl := State.watchdog_line hd
    rw [h] at hl
    rw [State.pauseOf, hl]
    exact Table.get_put_of_ne_default (by simp [State.wdPause]) _
  have hlt := hd.2.1
  rw [hp] at hlt
  exact absurd hlt (by simp [State.wdPause])

theorem State.watchdog_of_not {p k : Nat} (h : ¬ s.wdDue p k) : s.watchdog p k = s := if_neg h

theorem Counted.watchdog {p k : Nat} (h : Counted p s t) (hc : s.Canonical) (hp : p < 128) (hw : s.watchdog p k = s) : t.watchdog p k = t := by
  refine State.watchdog_of_not fun hd => State.not_wdDue hw ?_
  rwa [State.wdDue, h.setting hc (countKeys_linePort p hp (by decide)), h.pauseOf, h.time hc] at hd

/-- A good control frame of a legal length is counted, and then obeyed. -/
theorem State.receive_control {p : Nat} {f : List Byte} (hp : p < 128) (hen : s.get (Obj.LINE_PORT_PORT_ENABLE p) = 1)
    (hst : s.get (Obj.LINE_PORT_LINK_STATE p) ≠ 2) (hbl : (s.part p 0).blocked = false) (hl : f.length = 64)
    (hmax : 64 ≤ s.get (Obj.LINE_PORT_MAX_FRAME p)) (hg : fcsGood f = true) (ht : wordAt f 12 2 = 0x8808) :
    ∃ t, Counted p s t ∧ s.receive p f false = t.macControl p f := by
  refine ⟨((s.countPort p 0x10 64).countPort p (0x11 + sizeBin 64)).countGood p 0 f,
    (((Counted.refl p s).countPort hp (by decide)).countPort hp (by decide)).countGood hp (by decide), ?_⟩
  have hno : ¬ (s.get (Obj.LINE_PORT_PORT_ENABLE p) ≠ 1 ∨ s.get (Obj.LINE_PORT_LINK_STATE p) = 2 ∨ (s.part p 0).blocked = true) := by
    simp [hen, hst, hbl]
  refine (if_neg hno).trans ?_
  simp only [hl, hg, ht, Nat.not_lt.2 hmax, Nat.lt_irrefl, Bool.not_true, Bool.false_eq_true, if_false, if_true, Nat.le_refl, true_and,
    (by decide : 64 ≤ 16000)]

theorem State.macControl_pause {p a q : Nat} (hm : s.setting (Obj.LINE_PORT_FC_RX_MODE p) = 1) (hq : q < 65536) :
    s.macControl p (pauseFrame a q) = s.obeyPause p 8 q := by
  obtain ⟨-, hcode, hquanta⟩ := pauseFrame_words a hq
  simp only [State.macControl, hm, hcode, hquanta]

/-- Pause frames are obeyed: no hold-off of the watchdog runs. -/
def State.pauseHeeded (s : State) (p k : Nat) : Prop := (s.pauseOf p k).inHoldoff = false ∨ (s.pauseOf p k).holdoff ≤ 100 * s.time.now

/-- The pause that a frame of quanta q makes of priority k, where no other mode is to come. -/
def State.heldPause (s : State) (p k q : Nat) : PauseState :=
  { start := if (s.pauseOf p k).start < (s.pauseOf p k).stop ∧ 100 * s.time.now ≤ (s.pauseOf p k).stop then (s.pauseOf p k).start
      else 100 * s.time.now
    stop := 100 * s.time.now + s.quantaTime p q
    holdoff := 0, inHoldoff := false
    spared := (if (s.pauseOf p k).start < (s.pauseOf p k).stop ∧ 100 * s.time.now ≤ (s.pauseOf p k).stop then
        ((s.pauseOf p k).spared.filter fun y => Nat.ble y.start (100 * s.time.now)).map fun y =>
          { y with stop := some (min (y.stop.getD (100 * s.time.now + 6400)) (100 * s.time.now + 6400)) }
      else []) ++ s.exemptsAhead p }

theorem State.obeyPause_held {p k q : Nat} (hw : s.watchdog p k = s) (hh : s.pauseHeeded p k) (hm : s.modesAhead p = []) (hq : q ≠ 0) :
    s.obeyPause p k q = s.setPause p k (s.heldPause p k q) := by
  have hno : ¬ ((s.pauseOf p k).inHoldoff = true ∧ 100 * s.time.now < (s.pauseOf p k).holdoff) := fun h =>
    hh.elim (fun hf => Bool.false_ne_true (hf.symm.trans h.1)) fun hle => Nat.not_lt.2 hle h.2
  unfold State.obeyPause State.heldPause
  dsimp only
  rw [hw, if_neg hno, if_neg hq, hm, List.filter_nil, List.foldl_nil]
  by_cases hrun : (s.pauseOf p k).start < (s.pauseOf p k).stop ∧ 100 * s.time.now ≤ (s.pauseOf p k).stop
  · rw [decide_eq_true hrun, if_pos hrun, if_pos hrun, if_pos rfl, if_pos rfl]
  · rw [decide_eq_false hrun, if_neg hrun, if_neg hrun, if_neg Bool.false_ne_true, if_neg Bool.false_ne_true]

theorem State.obeyPause_zero {p k : Nat} (hw : s.watchdog p k = s) (hh : s.pauseHeeded p k) : s.obeyPause p k 0 = s.setPause p k {} := by
  have hno : ¬ ((s.pauseOf p k).inHoldoff = true ∧ 100 * s.time.now < (s.pauseOf p k).holdoff) := fun h =>
    hh.elim (fun hf => Bool.false_ne_true (hf.symm.trans h.1)) fun hle => Nat.not_lt.2 hle h.2
  unfold State.obeyPause
  simp only [hw, hno, if_false, if_true]

/-- A PAUSE frame received in mode 1 is counted, and then obeyed for the whole port. -/
theorem State.receive_pause {p a q : Nat} (hc : s.Canonical) (hp : p < 128) (hen : s.get (Obj.LINE_PORT_PORT_ENABLE p) = 1)
    (hst : s.get (Obj.LINE_PORT_LINK_STATE p) ≠ 2) (hbl : (s.part p 0).blocked = false)
    (hmax : 64 ≤ s.get (Obj.LINE_PORT_MAX_FRAME p)) (hmode : s.setting (Obj.LINE_PORT_FC_RX_MODE p) = 1) (hq : q < 65536) :
    ∃ t, Counted p s t ∧ s.receive p (pauseFrame a q) false = t.obeyPause p 8 q := by
  obtain ⟨t, hcnt, hrec⟩ := State.receive_control (s := s) hp hen hst hbl (pauseFrame_length a q) hmax (fcsGood_withFcs _)
    (pauseFrame_words a hq).1
  exact ⟨t, hcnt, hrec.trans
    (State.macControl_pause ((hcnt.setting hc (countKeys_linePort p hp (by decide))).trans hmode) hq)⟩

section
variable {p : Nat} (h : Counted p s t) (hc : s.Canonical)
include h hc

theorem Counted.pauseHeeded {k : Nat} (hh : s.pauseHeeded p k) : t.pauseHeeded p k := by
  rwa [State.pauseHeeded, h.pauseOf, h.time hc]

theorem Counted.heldPause {k q : Nat} (hp : p < 128) : t.heldPause p k q = s.heldPause p k q := by
  simp only [State.heldPause, h.pauseOf, h.time hc, h.quantaTime hc q hp, h.exemptsAhead hc hp]

/-- What a pause that is set after the counts changes. -/
theorem Counted.setPause_frame (k : Nat) (x : PauseState) :
    (t.setPause p k x).line.pause = Table.put pauseEmpty s.line.pause (p * 16 + k) x ∧
      Frame (countKeys p) noKey (.line :: eventParts) s (t.setPause p k x) :=
  have hl : t.line.pause = s.line.pause := by rw [h.line]
  ⟨congrArg (fun l => Table.put pauseEmpty l (p * 16 + k) x) hl, h.within.withLine.frame hc⟩

end

/-! Pause frames sent, and a snapshot taken. -/

/-- The pause frame that a port sends with a quanta. -/
def State.pauseOut (s : State) (p q : Nat) : List Byte :=
  if s.setting (Obj.LINE_PORT_FC_TX_MODE p) = 1 then pauseFrame (Config.portMac p) q
  else pfcFrame (Config.portMac p) (s.setting (Obj.LINE_PORT_FC_TX_PRI p)) fun i =>
    if (s.setting (Obj.LINE_PORT_FC_TX_PRI p)).testBit i then q else 0

/-- With nothing on the wire the frame goes out, and is counted. -/
theorem State.sendPause_sent {p : Nat} (q : Nat) (l : LineState) (hc : s.Canonical) (hp : p < 128) (hext : s.sec.extest = false)
    (hwire : Table.get (fun _ => none) s.net.wire p = none) :
    ((s.setLine p l).sendPause p q).sent = .frame p (s.pauseOut p q) false :: s.sent ∧
      ((s.setLine p l).sendPause p q).line.ports = Table.put lineEmpty s.line.ports p l ∧
      Frame (countKeys p) noKey (.line :: .sent :: eventParts) s ((s.setLine p l).sendPause p q) := by
  have hout : ((s.setLine p l).emit (.frame p (s.pauseOut p q) false)).sent = .frame p (s.pauseOut p q) false :: s.sent := by
    have hno : ¬ ((s.setLine p l).sec.extest && (Emission.frame p (s.pauseOut p q) false).onBalls) = true := by
      rw [show (s.setLine p l).sec = s.sec from rfl, hext, Bool.false_and]
      exact Bool.false_ne_true
    exact congrArg State.sent (if_neg hno)
  have hw : Within (countKeys p) noKey (.line :: .sent :: eventParts) s ((s.setLine p l).emit (.frame p (s.pauseOut p q) false)) :=
    (Within.refl s).withLine.emit
  have hnone : ¬ (Table.get (fun _ => none) (s.setLine p l).net.wire p).isSome = true := by
    rw [show (s.setLine p l).net = s.net from rfl, hwire]
    exact Bool.false_ne_true
  have hsend : (s.setLine p l).sendPause p q = (s.setLine p l).sendControl p (s.pauseOut p q) := if_neg hnone
  have hcnt : Counted p ((s.setLine p l).emit (.frame p (s.pauseOut p q) false)) ((s.setLine p l).sendControl p (s.pauseOut p q)) :=
    ((Counted.refl _ _).countGood hp (by decide)).countPort hp (by decide)
  rw [hsend]
  refine ⟨(hcnt.part (hw.canonical hc) (x := .sent) (by decide)).trans hout, ?_,
    (hw.trans (hcnt.within.mono (fun _ h => h) (fun _ h => h) (by decide))).frame hc⟩
  rw [hcnt.line]
  exact congrArg LinesState.ports (State.emit_line (s := s.setLine p l) _)

/-- The objects that a snapshot writes. -/
def snapKeys (k : Nat) : Bool := Nat.ble 0x2100 (keyIdx k) && Nat.ble (keyIdx k) 0x217F

theorem snapKeys_counter {p sub : Nat} (hp : p < 128) (hs : sub < 256) : snapKeys (objKey 0 (0x2100 + p) sub) = true := by
  have h : keyIdx (objKey 0 (0x2100 + p) sub) = 0x2100 + p := by simp only [keyIdx, objKey]; omega
  rw [snapKeys, h]
  exact Bool.and_eq_true_iff.2 ⟨Nat.ble_eq_true_of_le (by omega), Nat.ble_eq_true_of_le (by omega)⟩

/-- The state in which a snapshot of group g has begun, its copies not made. -/
def State.snapBegun (s : State) (g : Nat) : State :=
  s.withLine { s.line with
    snapDone := Table.put zeroN s.line.snapDone g (s.time.now + 2048)
    snapAt := Table.put zeroN s.line.snapAt g s.time.now
    snapCount := Table.put zeroN s.line.snapCount g (Table.get zeroN s.line.snapCount g + 1) }

/-- A snapshot of a group that is done begins, and then only writes the copies. -/
theorem State.snapshot_within {g cause : Nat} (h : Table.get zeroN s.line.snapDone g ≤ s.time.now) :
    Within snapKeys noKey [] (s.snapBegun g) (s.snapshot g cause) := by
  have hno : ¬ (0 < Table.get zeroN s.line.snapDone g ∧ s.time.now < Table.get zeroN s.line.snapDone g) := fun hd => Nat.not_lt.2 h hd.2
  rw [State.snapshot, if_neg hno]
  refine (Within.refl _).forEach fun u p hp hu => ?_
  have hlt : p < 128 := List.mem_range.1 (List.mem_of_mem_filter hp)
  have hcopy : ∀ f : Nat → State → Nat, Within snapKeys noKey [] (s.snapBegun g)
      (forEach (List.range 0x3F) u fun u i => u.set (objKey 0 (0x2100 + p) (0x41 + i)) (f i u)) := fun f =>
    hu.forEach fun v i hi hv => hv.set (snapKeys_counter hlt (by have := List.mem_range.1 hi; omega))
  exact (((hcopy fun i u => u.countBefore (objKey 0 (0x2100 + p) (0x01 + i))).set (snapKeys_counter hlt (by decide))).set
    (snapKeys_counter hlt (by decide))).set (snapKeys_counter hlt (by decide))

theorem triggerKey_ne (g : Fin 16) : Obj.SNAPSHOT_GROUP_TRIGGER g % 0x1000000 ≠ 0x111007 := by
  simp only [Obj.SNAPSHOT_GROUP_TRIGGER, objKey]
  omega

/-- Settles O21: a pause frame is counted and obeyed or sent, and what the counts leave is as before. -/
theorem pauseIsObeyedAndSent : Obligations.PauseIsObeyedAndSent := by
  unfold Obligations.PauseIsObeyedAndSent
  refine ⟨fun s p a q hc hon hen hst hbl hmax hmode hm hw hh hq => ?_, fun s p a hc hon hen hst hbl hmax hmode hw hh => ?_,
    fun s p a e q hon => (State.inCore_on hon _ : execPfcFrame p a e q s = _), fun s p k hon hw hlt hstop => ?_, fun s p k hc hon h0 hlt hle hstop => ?_,
    fun s p k hon hh hle => ?_, fun s p hc hon hext hable hpause hstarts hwire => ?_,
    fun s p hc hon hext hable hpause hends hwire => ?_, fun s p hc hon hext hable hpause hstarts hle hwire => ?_,
    fun s g m v hc ha hv hd hf => ?_⟩
  · obtain ⟨t, hcnt, hrec⟩ := State.receive_pause (a := a) hc p.isLt hen hst hbl hmax hmode q.isLt
    have hset := State.obeyPause_held (q := q) (hcnt.watchdog hc p.isLt hw) (hcnt.pauseHeeded hc hh)
      ((hcnt.modesAhead hc p.isLt).trans hm) hq
    rw [hcnt.heldPause hc p.isLt] at hset
    exact ⟨_, (State.inCore_on hon _ : execPauseFrame p a q s = _).trans (congrArg Host.Outcome.next (hrec.trans hset)),
      hcnt.setPause_frame hc 8 _⟩
  · obtain ⟨t, hcnt, hrec⟩ := State.receive_pause (a := a) (q := 0) hc p.isLt hen hst hbl hmax hmode (by decide)
    have hset := State.obeyPause_zero (hcnt.watchdog hc p.isLt hw) (hcnt.pauseHeeded hc hh)
    exact ⟨_, (State.inCore_on hon _ : execPauseFrame p a 0 s = _).trans (congrArg Host.Outcome.next (hrec.trans hset)),
      hcnt.setPause_frame hc 8 _⟩
  · refine ⟨s.setPause p k { s.pauseOf p k with start := 0, stop := 0, spared := [] },
      (State.inCore_on hon _ : execPauseExpiry p k s = _).trans (congrArg Host.Outcome.next ?_), rfl, (Touches.refl s).withLine.frame⟩
    simp only [hw, hlt, hstop, and_self, if_true]
  · have hdue : s.wdDue p k := ⟨Nat.mul_pos (Nat.mul_pos h0 (by decide)) (by decide), hlt, hle, hstop⟩
    have hu : (s.setPause p k (s.wdPause p k)).Canonical := hc
    refine ⟨_, (State.inCore_on hon _ : execWdRelease p k s = _), State.watchdog_line hdue, ?_, ?_⟩
    · rw [State.watchdog_due hdue]
      exact (State.get_raise_of_lt (by decide) (by decide) (linePort_lt p _).2 _ _ _ _).trans
        ((State.get_countPort hu _ _ _ (linePort_lt p _).2).trans (if_pos rfl))
    · rw [State.watchdog_due hdue]
      exact (((Within.refl s).withLine.countPort (by simp [keysAndEvents]) eventObjs_keysAndEvents).raise).frame hc
  · exact ⟨_, (State.inCore_on hon _ : execWdHoldoffEnd p k s = _).trans (congrArg Host.Outcome.next (if_pos ⟨hh, hle⟩)), rfl,
      (Touches.refl s).withLine.frame⟩
  · refine ⟨_, (State.inCore_on hon _ : execPauseTx p s = _).trans (congrArg Host.Outcome.next ?_),
      State.sendPause_sent (s.setting (Obj.LINE_PORT_FC_QUANTA p)) { s.lineOf p with txPause := true, txAgain := 100 * s.time.now + s.halfQuanta p }
        hc p.isLt hext hwire⟩
    simp only [hable, hpause, hstarts, Bool.true_eq_false, if_false, and_self, if_true]
  · refine ⟨_, (State.inCore_on hon _ : execPauseTx p s = _).trans (congrArg Host.Outcome.next ?_),
      State.sendPause_sent 0 { s.lineOf p with txPause := false, txAgain := 0 } hc p.isLt hext hwire⟩
    simp only [hable, hpause, hends, Bool.true_eq_false, if_false, false_and, and_self, if_true]
  · exact ⟨_, (State.inCore_on hon _ : execPauseRepeat p s = _).trans (congrArg Host.Outcome.next (if_pos ⟨hable, hpause, hstarts, hle⟩)),
      State.sendPause_sent (s.setting (Obj.LINE_PORT_FC_QUANTA p)) { s.lineOf p with txAgain := if (s.lineOf p).txAgain + s.halfQuanta p ≤ 100 * s.time.now then 100 * s.time.now + s.halfQuanta p else (s.lineOf p).txAgain + s.halfQuanta p }
        hc p.isLt hext hwire⟩
  · subst hv
    have hu : (s.snapBegun g).Canonical := hc
    have hw := State.snapshot_within (cause := 0) hd
    have hline : (s.snapshot g 0).line = (s.snapBegun g).line := (hw.frame hu).2.2 .line (by decide)
    have hsec : (s.snapshot g 0).sec = s.sec := (hw.frame hu).2.2 .sec (by decide)
    have hall : Within snapKeys noKey [.line, .dict, .sent] s (s.snapshot g 0) :=
      (Within.refl s).withLine.trans (hw.mono (fun _ h => h) (fun _ h => h) (by decide))
    have happ : ((s.snapshot g 0).applied m (Obj.SNAPSHOT_GROUP_TRIGGER g)).line = (s.snapBegun g).line :=
      (State.applied_same _ _ _ (p := .line) (by decide) (by decide)).trans hline
    exact ⟨_, State.rowWrite_applied ha (rule := ruleTrigger g 1) rfl ((congrArg SecState.fusing hsec).trans hf) (triggerKey_ne g),
      congrArg LinesState.snapDone happ, congrArg LinesState.snapCount happ, State.answered_applied _ _ _, hall.applied.frame hc⟩

end Sys2Proof.Machine
end

section
/-! PROOFS. Family 11_fabric_link_framing: what the work of a cell leaves of a lane's reception (R321, R324, R342). -/

set_option Elab.async false

namespace Sys2Proof.Machine

variable {p : Option Nat → Nat → Bool → Prop} {n : Nat} {s t : State}

/-- Lane n has a property of its last BIP, its expected number and whether it was off in the running second, one that no idle lane has: the
lane is listed, in a table of any form. -/
structure LaneHas (p : Option Nat → Nat → Bool → Prop) (n : Nat) (s : State) : Prop where
  idle : ¬ p none 0 true
  holds : p (s.fl n).rxBip (s.fl n).rxNum (s.fl n).pm.off

theorem LaneHas.same (h : LaneHas p n s) (e : t.fab.lanes = s.fab.lanes := by rfl) : LaneHas p n t := by
  obtain ⟨hi, hp⟩ := h
  refine ⟨hi, ?_⟩
  rwa [State.fl, e]

/-- What is written to the lane itself reads back. -/
theorem LaneHas.fl_setFl {l : FabricLaneState} (hi : ¬ p none 0 true) (hp : p l.rxBip l.rxNum l.pm.off) : (s.setFl n l).fl n = l :=
  Table.get_put_of_ne_default (fun h => hi (by rwa [h] at hp)) _

theorem LaneHas.put {l : FabricLaneState} (hi : ¬ p none 0 true) (hp : p l.rxBip l.rxNum l.pm.off) : LaneHas p n (s.setFl n l) :=
  ⟨hi, (fl_setFl (s := s) hi hp).symm ▸ hp⟩

theorem LaneHas.write {m : Nat} {l : FabricLaneState} (h : LaneHas p n s) (hl : n = m → p l.rxBip l.rxNum l.pm.off) :
    LaneHas p n (s.setFl m l) := by
  by_cases hm : n = m
  · subst hm
    exact .put h.idle (hl rfl)
  · have hl : (s.setFl m l).fl n = s.fl n := Table.get_put_of_listed hm _ fun hd => h.idle (by
      have hp := h.holds
      rwa [show s.fl n = flEmpty n from hd] at hp)
    exact ⟨h.idle, hl.symm ▸ h.holds⟩

theorem LaneHas.setFl {m : Nat} {l : FabricLaneState} (h : LaneHas p n s) (hb : l.rxBip = (s.fl m).rxBip := by rfl)
    (hr : l.rxNum = (s.fl m).rxNum := by rfl) (ho : l.pm.off = (s.fl m).pm.off := by rfl) : LaneHas p n (s.setFl m l) :=
  h.write fun hm => by
    subst hm
    rw [hb, hr, ho]
    exact h.holds

/-- The same for a lane of a state that is not to be evaluated. -/
theorem LaneHas.change {m : Nat} (h : LaneHas p n s) (g : FabricLaneState → FabricLaneState) (hb : ∀ y, (g y).rxBip = y.rxBip := by intro; rfl)
    (hr : ∀ y, (g y).rxNum = y.rxNum := by intro; rfl) (ho : ∀ y, (g y).pm.off = y.pm.off := by intro; rfl) :
    LaneHas p n (s.setFl m (g (s.fl m))) :=
  h.setFl (hb _) (hr _) (ho _)

theorem LaneHas.ite {c : Prop} [Decidable c] (h : LaneHas p n s) (g : LaneHas p n t) : LaneHas p n (if c then s else t) := by
  split <;> assumption

theorem LaneHas.iteSnd {α : Type} {c : Prop} [Decidable c] {a b : α × State} (h : LaneHas p n a.2) (g : LaneHas p n b.2) :
    LaneHas p n (if c then a else b).2 := by
  split <;> assumption

theorem LaneHas.of_eq {α : Type} {a : α} {r : α × State} (h : LaneHas p n r.2) (e : r = (a, t)) : LaneHas p n t := by
  rwa [e] at h

theorem LaneHas.share {q : Prop} (h : LaneHas p n s) (f : LaneHas p n s → q) : q := f h

theorem LaneHas.forEach {α : Type} {f : State → α → State} {l : List α} (h : LaneHas p n s)
    (hf : ∀ s a, LaneHas p n s → LaneHas p n (f s a)) : LaneHas p n (Machine.forEach l s f) := by
  unfold Machine.forEach
  induction l generalizing s with
  | nil => exact h
  | cons a l ih => exact ih (hf s a h)

theorem LaneHas.set {k v : Nat} (h : LaneHas p n s) : LaneHas p n (s.set k v) := h.same
theorem LaneHas.bump {k m : Nat} (h : LaneHas p n s) : LaneHas p n (s.bump k m) := h.same
theorem LaneHas.setDom {d e v : Nat} (h : LaneHas p n s) : LaneHas p n (s.setDom d e v) := h.same
theorem LaneHas.setField {d e v : Nat} {f : Field} (h : LaneHas p n s) : LaneHas p n (s.setField d e f v) := h.same
theorem LaneHas.withNet {x : NetState} (h : LaneHas p n s) : LaneHas p n (s.withNet x) := h.same
theorem LaneHas.setQueue {q : Nat} {l : List Pkt} (h : LaneHas p n s) : LaneHas p n (s.setQueue q l) := h.same
theorem LaneHas.updateSelected {id : Nat} {f : Pkt → Pkt} (h : LaneHas p n s) : LaneHas p n (s.updateSelected id f) := h.same
theorem LaneHas.withSched {x : SchedState} (h : LaneHas p n s) : LaneHas p n (s.withSched x) := h.same

/-! Events, records and jobs. -/

theorem LaneHas.sendMate {type flags cycle seq : Nat} {payload : List Byte} (h : LaneHas p n s) :
    LaneHas p n (s.sendMate type flags cycle seq payload) :=
  .ite h.same h

theorem LaneHas.bumpSent {key m : Nat} (h : LaneHas p n s) : LaneHas p n (s.bumpSent key m) :=
  .ite h.same h

theorem LaneHas.countEvent {e : Ev} (h : LaneHas p n s) : LaneHas p n (s.countEvent e).2 :=
  .iteSnd h.same (.iteSnd h.same h.same)

theorem LaneHas.giveUp (h : LaneHas p n s) : LaneHas p n s.giveUp.2 :=
  .iteSnd (LaneHas.bumpSent (LaneHas.sendMate h.same)).set.set h.same

theorem LaneHas.raise1 {e : Ev} (h : LaneHas p n s) : LaneHas p n (s.raise1 e).2 :=
  .share h.countEvent fun h₁ => .share (.ite h₁.same h₁) fun h₂ => .share (.ite h₂.same h₂) fun h₃ => .iteSnd h₃.giveUp h₃

theorem LaneHas.raise {code unit arg scope : Nat} (h : LaneHas p n s) : LaneHas p n (s.raise code unit arg scope) :=
  h.raise1.forEach fun _ _ h₁ => h₁.raise1

theorem LaneHas.countRecord {d e : Nat} {f : Field} {m : Nat} (h : LaneHas p n s) : LaneHas p n (s.countRecord d e f m) := by
  unfold State.countRecord State.updateRecord
  split
  · exact .ite h (.ite h.bump.raise.same h.same)
  · exact h

theorem LaneHas.dropPacket {k : Pkt} (h : LaneHas p n s) : LaneHas p n (s.dropPacket k) := by
  have h₁ : LaneHas p n (match k.direct with | some (sq, i) => s.complete sq i .ok 1 | none => s) := by
    split
    · exact h.same
    · exact h
  unfold State.dropPacket State.txReport
  dsimp only
  split
  · exact h₁.same
  · exact h₁

/-! Requests for credit, and what a change of a queue asks for. -/

theorem LaneHas.pushMessage {d m : Nat} (h : LaneHas p n s) : LaneHas p n (s.pushMessage d m) := by
  refine .ite h.same ?_
  unfold State.packControl
  split
  · exact h.same
  · exact h.same

theorem LaneHas.voqRequest {v : Nat} (h : LaneHas p n s) : LaneHas p n (s.voqRequest v) :=
  .ite h (.ite h.same (.ite h.same (LaneHas.pushMessage h.same)))

theorem LaneHas.voqFollow {v : Nat} (h : LaneHas p n s) : LaneHas p n (s.voqFollow v) :=
  (LaneHas.ite (.ite h.same h) h).voqRequest

theorem LaneHas.addLen {q g pp : Nat} {up : Bool} {m : Nat} (h : LaneHas p n s) : LaneHas p n (s.addLen q g pp up m) :=
  .ite h.same (.ite h.same (.ite h.same h.same))

theorem LaneHas.setFinish {g u : Nat} (h : LaneHas p n s) : LaneHas p n (s.setFinish g u) := by
  unfold State.setFinish
  split
  · exact h.same
  · exact h

theorem LaneHas.wfqJoin {g u : Nat} (h : LaneHas p n s) : LaneHas p n (s.wfqJoin g u) :=
  h.setField.setFinish.withSched

theorem LaneHas.refreshClass {pc : Nat} (h : LaneHas p n s) : LaneHas p n (s.refreshClass pc) :=
  .ite h.same (.ite h.same h)

theorem LaneHas.refreshUser {u : Nat} {changed : Bool} (h : LaneHas p n s) : LaneHas p n (s.refreshUser u changed) :=
  .share (h.same : LaneHas p n (s.setUsersOf _ _)) fun h₁ => .share (.ite h₁.wfqJoin (.ite h₁.same (.ite h₁.setFinish h₁))) fun h₂ =>
    (LaneHas.ite h₂.same (.ite h₂.same h₂)).refreshClass

theorem LaneHas.changing {q : Nat} {f : State → State} (h : LaneHas p n (f s)) : LaneHas p n (s.changing q f) :=
  .ite h.voqFollow h.refreshUser

/-! Buffers: what a packet frees, and what ends it. -/

theorem LaneHas.lowWater {g : Nat} (h : LaneHas p n s) : LaneHas p n (s.lowWater g) :=
  .ite h (.ite (.ite h h.withNet.raise) (.ite h.withNet.withNet.raise h.withNet))

theorem LaneHas.freeNow {f : Freed} (h : LaneHas p n s) : LaneHas p n (s.freeNow f) :=
  .ite (LaneHas.forEach h.same fun _ _ h₁ => h₁.same) (.ite ((h.forEach fun _ _ h₁ => h₁.same).withNet.lowWater)
    ((h.forEach fun _ _ h₁ => h₁.same).withNet.withNet.lowWater))

theorem LaneHas.giveBack {k : Pkt} {l : List Nat} {m bufs : Nat} (h : LaneHas p n s) : LaneHas p n (s.giveBack k l m bufs) :=
  (LaneHas.ite h.same h.freeNow).setField

theorem LaneHas.release {k : Pkt} {lost : Nat} (h : LaneHas p n s) : LaneHas p n (s.release k lost) :=
  .share h.giveBack.setField fun h₁ => .share (LaneHas.ite h₁ h₁.set).addLen fun h₂ => .ite h₂.same h₂

theorem LaneHas.discard {k : Pkt} {lost : Nat} (h : LaneHas p n s) : LaneHas p n (s.discard k lost) :=
  .share h.release fun h₁ => (LaneHas.ite h₁ h₁.countRecord).dropPacket

theorem LaneHas.discardQueued {q id lost : Nat} (h : LaneHas p n s) : LaneHas p n (s.discardQueued q id lost) := by
  unfold State.discardQueued
  split
  · exact LaneHas.discard (LaneHas.changing h.setQueue)
  · exact h

theorem LaneHas.discardBad {k : Pkt} (h : LaneHas p n s) : LaneHas p n (s.discardBad k) :=
  h.discardQueued.bump.raise

theorem LaneHas.chargeLate {k : Pkt} (h : LaneHas p n s) : LaneHas p n (s.chargeLate k) := by
  unfold State.chargeLate
  split
  · exact h
  · exact .share (h.withSched.forEach fun _ _ h₁ => .ite h₁ h₁.same).setField.setField fun h₂ => .share (.ite h₂.wfqJoin h₂) fun h₃ =>
      .share (.ite h₃ (.ite h₃.same h₃.same)) fun h₄ => (LaneHas.ite h₄ (.ite h₄ (.ite h₄.same h₄.same))).set

theorem LaneHas.trim {k : Pkt} (h : LaneHas p n s) : LaneHas p n (s.trim k).2 :=
  h.giveBack.addLen

theorem LaneHas.lastUnit {k : Pkt} {queued : Bool} (h : LaneHas p n s) : LaneHas p n (s.lastUnit k queued) :=
  .ite (.share (LaneHas.changing h.trim.setQueue : LaneHas p n (State.updateQueued _ _ _ _)) fun h₁ => .ite h₁.discardBad h₁)
    (.share h.trim.chargeLate.updateSelected fun h₂ => .ite h₂.release h₂)

theorem LaneHas.dropSelected {q : Nat} {k : Pkt} {lost : Nat} (h : LaneHas p n s) : LaneHas p n (s.dropSelected q k lost) :=
  (LaneHas.iteSnd (a := (_, _)) (b := (_, _)) (.ite h h.release) h.chargeLate.release).set.dropPacket

theorem LaneHas.endPacket {id lost : Nat} (h : LaneHas p n s) : LaneHas p n (s.endPacket id lost) := by
  unfold State.endPacket
  split
  · exact h.discardQueued
  · dsimp only
    split
    · exact h.withNet.dropSelected
    · split
      · exact h.withNet.dropSelected
      · exact h.updateSelected

theorem LaneHas.readUpset {k : Pkt} {x : ReadUpset} (h : LaneHas p n s) : LaneHas p n (s.readUpset k x).2 := by
  cases x with
  | clean => exact h
  | corrected => exact h.bump
  | data => exact h.bump.raise
  | link m => exact h.bump.raise

theorem LaneHas.readArrived {k : Pkt} {x : ReadUpset} (h : LaneHas p n s) : LaneHas p n (s.readArrived k x) := by
  unfold State.readArrived
  split
  next he => exact (h.readUpset.of_eq he).endPacket
  next he => exact h.readUpset.of_eq he

theorem LaneHas.takeEach {take : State → List Nat × State} {m : Nat} (h : LaneHas p n s) (ht : ∀ s, LaneHas p n s → LaneHas p n (take s).2) :
    LaneHas p n (Machine.takeEach take m s).2 := by
  induction m generalizing s with
  | zero => exact h
  | succ m ih => exact ih (ht s h)

theorem LaneHas.store {k : Pkt} {m : Nat} (h : LaneHas p n s) : LaneHas p n (s.store k m).2 := by
  have hmap : ∀ s, LaneHas p n s → LaneHas p n (s.popMap k.region k.priv).2 := fun s h => by
    unfold State.popMap
    dsimp only
    split
    · exact h.same
    · exact h
  have hcell : ∀ s, LaneHas p n s → LaneHas p n (s.popCell k.region).2 := fun s h => by
    unfold State.popCell
    dsimp only
    split
    · exact h.same
    · exact h
  have hpool : LaneHas p n (s.popPool k.region k.pool).2 := by
    unfold State.popPool
    split
    · exact h.same
    · exact h
  have ha : LaneHas p n (s.alloc k.region k.priv k.pool (m - k.cells.length)).2 :=
    .iteSnd (h.takeEach hmap) (.iteSnd (h.takeEach hcell) hpool)
  exact .ite ha ha.bump

/-! Scheduled flows. -/

theorem LaneHas.setFlowRx {f : Nat} {x : Option FlowRx} (h : LaneHas p n s) : LaneHas p n (s.setFlowRx f x) := h.same

theorem LaneHas.updatePkt {id : Nat} {f : Pkt → Pkt} (h : LaneHas p n s) : LaneHas p n (s.updatePkt id f) := h.same

theorem LaneHas.flowEnd {id m : Nat} {bad : Bool} (h : LaneHas p n s) : LaneHas p n (s.flowEnd id m bad) := by
  have h₁ : LaneHas p n (match s.selected id with
      | some k => if k.unfinished then s.wireActual k.dest k.charge k.bytes.length else s
      | none => s) := by
    split
    · exact .ite h.same h
    · exact h
  unfold State.flowEnd
  refine .ite (.ite ?_ h₁.updatePkt.updatePkt) ?_
  · split
    · exact h₁.updatePkt.withNet.bump.raise.dropPacket
    · exact h₁.updatePkt
  · split
    · exact h₁.updatePkt.lastUnit
    · split
      · exact h₁.updatePkt.lastUnit
      · exact h₁.updatePkt

theorem LaneHas.slotError {lane f : Nat} {counter : Option Nat} (h : LaneHas p n s) : LaneHas p n (s.slotError lane f counter) := by
  have h₁ : LaneHas p n (match counter with | some c => s.bump c | none => s) := by
    split
    · exact h.bump
    · exact h
  refine LaneHas.raise ?_
  unfold State.endFlow
  split
  · exact h₁.setFlowRx.flowEnd
  · exact h₁

theorem LaneHas.storeFlow {id m : Nat} (h : LaneHas p n s) : LaneHas p n (s.storeFlow id m) := by
  unfold State.storeFlow
  split
  · exact h.store.setQueue
  · split
    · exact h.store.updateSelected
    · exact h

theorem LaneHas.flowBytes {f : Nat} {x : FlowRx} {l : List Byte} {last fill : Bool} {ecc : ReadUpset} (h : LaneHas p n s) :
    LaneHas p n (s.flowBytes f x l last fill ecc) := by
  unfold State.flowBytes
  refine .share ?_ fun h₁ => .ite h₁.setFlowRx.flowEnd h₁.setFlowRx
  split
  · exact .ite h.updatePkt.storeFlow.readArrived h.updatePkt.storeFlow
  · exact h.updatePkt.storeFlow

theorem LaneHas.openFlow {lane k f x : Nat} {payload : List Byte} (h : LaneHas p n s) : LaneHas p n (s.openFlow lane k f x payload) :=
  .share (h.same : LaneHas p n (State.setFlowRx _ _ _)) fun h₁ => .share (.ite h₁.bump.raise h₁.withNet) fun h₂ =>
    .ite h₂.setFlowRx.flowEnd h₂

theorem LaneHas.scheduledCell {lane k e x : Nat} {payload : List Byte} {ecc : ReadUpset} (h : LaneHas p n s) :
    LaneHas p n (s.scheduledCell lane k e x payload ecc) := by
  unfold State.scheduledCell
  refine .ite h.slotError ?_
  dsimp only
  split
  · exact .ite h.openFlow h.slotError
  · exact .ite h.flowBytes h.slotError

theorem LaneHas.aisSlot {lane k f : Nat} (h : LaneHas p n s) : LaneHas p n (s.aisSlot lane k f) := by
  unfold State.aisSlot
  split
  · exact h.bump
  · exact .ite h.bump.slotError (.ite h.bump.slotError h.bump.flowBytes)

theorem LaneHas.aisCell {lane frame slot : Nat} (h : LaneHas p n s) : LaneHas p n (s.aisCell lane frame slot) := by
  unfold State.aisCell
  split
  · exact .ite h.aisSlot h.bump
  · exact h.bump

/-! Control messages. -/

theorem LaneHas.creditClasses {q : Nat} (h : LaneHas p n s) : LaneHas p n (s.creditClasses q) := by
  unfold State.creditClasses
  split
  · exact h
  · exact h.forEach fun _ _ h₁ => .ite h₁.same (.ite h₁.same h₁)

theorem LaneHas.withReqs {x : Table ReqState} (h : LaneHas p n s) : LaneHas p n (s.withFab { s.fab with reqs := x }) := h.same

theorem LaneHas.request {requesting granting q cls : Nat} {on : Bool} {seq : Nat} (h : LaneHas p n s) :
    LaneHas p n (s.request requesting granting q cls on seq) :=
  .ite h (.share (.ite h.withReqs.creditClasses h : LaneHas p n (State.expireRequest _ _)) fun h₁ =>
    .share (.ite h₁ h₁.set) fun h₂ => h₂.withReqs.creditClasses)

theorem LaneHas.grant {granting requesting q cls m : Nat} (h : LaneHas p n s) : LaneHas p n (s.grant granting requesting q cls m) :=
  .ite h.bump ((LaneHas.ite h.bump.bump h.bump).setField.voqFollow)

theorem LaneHas.reachFollow (h : LaneHas p n s) : LaneHas p n s.reachFollow :=
  h.forEach fun _ _ h₁ => .ite (.ite h₁ h₁.same) (.ite h₁ h₁.same)

theorem LaneHas.judgeLane {m : Nat} (h : LaneHas p n s) : LaneHas p n (s.judgeLane m) :=
  .ite (.ite h (LaneHas.setFl h).set.set.set.bump.raise.reachFollow) (.ite (LaneHas.setFl h).set (.ite (LaneHas.setFl h).set
    (LaneHas.setFl h).set.set.set.raise.reachFollow))

theorem LaneHas.followDefects {m : Nat} (h : LaneHas p n s) : LaneHas p n (s.followDefects m) :=
  (LaneHas.ite h h.setFl).judgeLane

theorem LaneHas.reach {m : Nat} {fromElement : Bool} {quarter map : Nat} (h : LaneHas p n s) :
    LaneHas p n (s.reach m fromElement quarter map) :=
  .ite h (.ite h (.share h.setFl fun h₁ => (LaneHas.ite (h₁.forEach fun _ _ h₂ => h₂.set) h₁).set.judgeLane.reachFollow))

theorem LaneHas.message {lane type m : Nat} (h : LaneHas p n s) : LaneHas p n (s.message lane type m) := by
  unfold State.message
  dsimp only
  split
  · exact .ite h.bump h.request
  · exact .ite h.bump h.grant
  · exact .ite h.bump h.reach
  · exact h.bump

theorem LaneHas.cell {lane frame slot : Nat} {c : List Byte} {ecc : ReadUpset} (h : LaneHas p n s) :
    LaneHas p n (s.cell lane frame slot c ecc) := by
  unfold State.cell
  refine .share (.ite h h.bump) fun h₁ => .ite h₁.aisCell (.ite ?_ (.share (.ite h₁.bump h₁) fun h₂ => .ite h₂ (.ite ?_ (.ite ?_
    (.ite (.ite h₂.same h₂) (.ite (h₂.forEach fun _ _ h₃ => h₃.message) h₂))))))
  · dsimp only
    split
    · exact .ite h₁.bump.raise.aisSlot h₁.bump.raise
    · exact h₁.bump.raise
  · split
    · exact .ite h₂.slotError h₂
    · exact h₂
  · split
    · exact .ite h₂ (.ite (.ite h₂.slotError h₂.scheduledCell) h₂.bump.raise)
    · exact h₂

/-! The second's counts and the defects of a lane. -/

theorem LaneHas.pmChange {m x : Nat} {f : Nat → Nat} (h : LaneHas p n s) : LaneHas p n (s.pmChange m x f) := by
  have hone : ∀ {u : State} {f : Nat → Nat} {day : Bool}, LaneHas p n u → LaneHas p n (u.pmChangeBin m x f day) := fun hu => by
    unfold State.pmChangeBin
    exact .ite hu.setDom hu.setFl
  rw [State.pmChange_eq]
  exact hone (hone h)

theorem LaneHas.pmAdd {m x : Nat} {l : List (Field × Int)} (h : LaneHas p n s) : LaneHas p n (s.pmAdd m x l) := h.pmChange

theorem LaneHas.pmAvail {m x eb : Nat} {ses : Bool} (h : LaneHas p n s) : LaneHas p n (s.pmAvail m x eb ses) := by
  have hadd : ∀ {l}, LaneHas p n (s.pmAdd m x l) := h.pmAdd
  have hall : ∀ {r : List PmSecond} {g : PmSecond → List (Field × Int)} {u : State}, LaneHas p n u →
      LaneHas p n (Machine.forEach r u fun s r => s.pmAdd m r.sec (g r)) := fun hu => hu.forEach fun _ _ h => h.pmAdd
  have hrun : ∀ {u : State} (r : List PmSecond), LaneHas p n u → LaneHas p n (u.setFl m { u.fl m with pm := { (u.fl m).pm with run := r } }) :=
    fun r hu => hu.change fun y => { y with pm := { y.pm with run := r } }
  have hdown : ∀ {u : State} (d : Bool), LaneHas p n u →
      LaneHas p n (u.setFl m { u.fl m with pm := { (u.fl m).pm with run := [], down := d } }) :=
    fun d hu => hu.change fun y => { y with pm := { y.pm with run := [], down := d } }
  unfold State.pmAvail
  dsimp only
  split
  · exact .ite (hrun _ hadd) (.ite (hrun _ hadd) (hdown _ (hall hadd)))
  · exact .ite (hrun _ hadd) (.ite (hrun _ hadd) (hdown _ (hall hadd)))

theorem LaneHas.pmThresholds {m : Nat} (h : LaneHas p n s) : LaneHas p n (s.pmThresholds m) :=
  h.forEach fun _ _ h₁ => .ite (LaneHas.setFl h₁).raise h₁

theorem State.pmOpen_fab (s : State) (m : Nat) : (s.pmOpen m).fab = s.fab := by
  unfold State.pmOpen
  dsimp only
  split <;> split <;> rfl

section
variable (ho : ∀ b r o o', p b r o → p b r o')
include ho

/-- What is written over a property that does not ask whether the lane was off. -/
theorem LaneHas.writePm {m : Nat} (h : LaneHas p n s) (x : PmState) : LaneHas p n (s.setFl m { s.fl m with pm := x }) :=
  h.write fun hm => ho _ _ _ _ (hm ▸ h.holds)

theorem LaneHas.pmTurn {m : Nat} (h : LaneHas p n s) : LaneHas p n (s.pmTurn m) := by
  have hopen : ∀ x : PmState, LaneHas p n ((s.pmOpen m).setFl m { s.fl m with pm := x }) := fun x => by
    have hl : s.fl m = (s.pmOpen m).fl m := by rw [State.fl, State.fl, State.pmOpen_fab]
    rw [hl]
    exact LaneHas.writePm ho (h.same (congrArg FabricState.lanes (s.pmOpen_fab m))) x
  unfold State.pmTurn
  extract_lets
  refine .ite h (.ite (h.writePm ho _) ?_)
  extract_lets
  refine .ite ?_ ?_
  · exact LaneHas.pmChange (hopen _)
  · exact (hopen _).pmAdd.pmAvail.pmThresholds

omit ho in
theorem LaneHas.endedBefore {m d : Nat} (h : LaneHas p n s) : LaneHas p n (s.endedBefore m d) :=
  .ite (h.change fun y => { y with pm := { y.pm with defects := dropBit y.pm.defects d, seeded := dropBit y.pm.seeded d } }) h

theorem LaneHas.markDefect {m d : Nat} {on : Bool} (h : LaneHas p n s) : LaneHas p n (s.markDefect m d on) := by
  have hturn := h.pmTurn ho (m := m)
  have hmark := hturn.change (m := m) fun y =>
    { y with pm := { y.pm with defects := Nat.lor y.pm.defects (2 ^ d), seeded := dropBit y.pm.seeded d } }
  exact .ite h (.ite hmark.set.raise hturn.endedBefore.set.raise)

theorem LaneHas.setDefect {m d : Nat} {on : Bool} (h : LaneHas p n s) : LaneHas p n (s.setDefect m d on) :=
  (h.markDefect ho).followDefects

theorem LaneHas.judgeTim {m : Nat} {now : Bool} (h : LaneHas p n s) : LaneHas p n (s.judgeTim m now) :=
  .ite (h.setDefect ho) (.ite (h.setDefect ho) (.ite (h.setDefect ho) h))

theorem LaneHas.checkIndications {m : Nat} {ais rdi : Bool} (h : LaneHas p n s) : LaneHas p n (s.checkIndications m ais rdi) := by
  have hpair : ∀ {u : State} {a b c d : Nat} {e : Nat}, LaneHas p n u →
      LaneHas p n (if a ≤ b then u.setDefect m e true else if c ≤ d then u.setDefect m e false else u) := fun hu =>
    .ite (hu.setDefect ho) (.ite (hu.setDefect ho) hu)
  exact hpair (hpair h.setFl)

end

theorem LaneHas.checkTrace {m byte : Nat} {errored : Bool} (h : LaneHas p n s) : LaneHas p n (s.checkTrace m byte errored).2 := by
  refine .iteSnd h.setFl ?_
  split
  · exact h.setFl
  · exact .iteSnd h.setFl (.iteSnd (LaneHas.setFl h).set h.setFl)

theorem LaneHas.checkPage {m page : Nat} {errored : Bool} (h : LaneHas p n s) : LaneHas p n (s.checkPage m page errored) := by
  unfold State.checkPage
  split
  · exact h
  · refine .ite (.ite h.setFl (LaneHas.setFl h).set) (.ite (LaneHas.setFl h).set ?_)
    split
    · exact .ite h h.bump
    · exact h

/-! The link frames. -/

/-- The lane expects number r and was on in the running second. -/
def onAt (r : Nat) (_ : Option Nat) (r' : Nat) (off : Bool) : Prop := r' = r ∧ off = false

theorem LaneHas.onAt_put {u : State} {l : FabricLaneState} (hl : l.pm.off = false) : LaneHas (onAt l.rxNum) n (u.setFl n l) :=
  .put (fun h => Bool.noConfusion h.2) ⟨rfl, hl⟩

/-- The expected number of a lane that is on stands over a turn of its second. -/
theorem State.pmTurn_rxNum (hen : s.on (Obj.FABRIC_LANE_FL_ENABLE n) = true) : ((s.pmTurn n).fl n).rxNum = (s.fl n).rxNum := by
  have hput : ∀ (u : State) (x : PmState), x.off = false → LaneHas (onAt (s.fl n).rxNum) n (u.setFl n { s.fl n with pm := x }) :=
    fun u x hx => LaneHas.onAt_put (l := { s.fl n with pm := x }) hx
  have hoff : (!s.on (Obj.FABRIC_LANE_FL_ENABLE n)) = false := by rw [hen]; rfl
  unfold State.pmTurn
  extract_lets
  split
  · rfl
  refine (LaneHas.holds (p := onAt (s.fl n).rxNum) ?_).1
  refine .ite (hput _ _ hoff) ?_
  extract_lets
  refine .ite ?_ ?_
  · exact LaneHas.pmChange (hput _ _ hoff)
  · exact (hput _ _ hoff).pmAdd.pmAvail.pmThresholds

theorem State.get_forEach {α : Type} {f : State → α → State} {k : Nat} (hf : ∀ u a, (f u a).get k = u.get k) (l : List α) (s : State) :
    (forEach l s f).get k = s.get k := by
  unfold forEach
  induction l generalizing s with
  | nil => rfl
  | cons a l ih => exact (ih (f s a)).trans (hf s a)

theorem State.get_pmChange (s : State) (m x : Nat) (f : Nat → Nat) (k : Nat) : (s.pmChange m x f).get k = s.get k := by
  rw [State.pmChange_eq, State.get, State.pmChangeBin_objs, State.pmChangeBin_objs, State.get]

theorem State.get_setFl (s : State) (m : Nat) (l : FabricLaneState) (k : Nat) : (s.setFl m l).get k = s.get k := rfl

theorem State.get_pmAvail (s : State) (m x eb : Nat) (ses : Bool) (k : Nat) : (s.pmAvail m x eb ses).get k = s.get k := by
  have hall : ∀ (r : List PmSecond) (g : PmSecond → List (Field × Int)) (u : State),
      (forEach r u fun s r => s.pmAdd m r.sec (g r)).get k = u.get k := fun r g u => State.get_forEach (fun v a => v.get_pmAdd m _ _ k) r u
  have hone : ∀ (l : List (Field × Int)) (r : List PmSecond) (g : PmSecond → List (Field × Int)) (y z : FabricLaneState) (c : Prop)
      [Decidable c], (if c then (s.pmAdd m x l).setFl m y
        else (forEach r (s.pmAdd m x l) fun s r => s.pmAdd m r.sec (g r)).setFl m z).get k = s.get k := fun l r g y z c _ => by
    split
    · rw [State.get_setFl, State.get_pmAdd]
    · rw [State.get_setFl, hall, State.get_pmAdd]
  unfold State.pmAvail
  dsimp only
  split
  · split
    · rw [State.get_setFl, State.get_pmAdd]
    · exact hone _ _ _ _ _ _
  · split
    · rw [State.get_setFl, State.get_pmAdd]
    · exact hone _ _ _ _ _ _

/-- The objects behind those of R553 read as before a turn of the second. -/
theorem State.get_pmTurn {k : Nat} (hk : objKey 0 0x1801 255 < k) (s : State) (m : Nat) : (s.pmTurn m).get k = s.get k := by
  have hopen : (s.pmOpen m).get k = s.get k := by rw [State.get, State.pmOpen_objs, State.get]
  have hthr : ∀ u : State, (u.pmThresholds m).get k = u.get k := fun u => State.get_forEach (fun v a => by
    dsimp only
    split
    · exact State.get_raise_of_lt (by decide) (by decide) hk _ _ _ _
    · rfl) _ u
  unfold State.pmTurn
  extract_lets
  split
  · rfl
  split
  · rfl
  split
  · exact (State.get_pmChange _ _ _ _ k).trans hopen
  · exact (hthr _).trans ((State.get_pmAvail _ _ _ _ _ k).trans ((State.get_pmAdd _ _ _ _ k).trans hopen))

/-- The lane knows the BIP of a frame before. -/
def knownBip (b : Option Nat) (_ : Nat) (_ : Bool) : Prop := b.isSome = true

theorem knownBip_off : ∀ b r o o', knownBip b r o → knownBip b r o' := fun _ _ _ _ h => h

theorem LaneHas.checkBip {bip xor : Nat} {c : Bool} (s : State) : LaneHas knownBip n (s.checkBip n bip xor c) :=
  .put (fun h => Bool.noConfusion h) rfl

/-- The state in which a received frame has turned the second and its symbols and codewords are counted. -/
def State.rxCounted (s : State) (n a : Nat) (b : FecErrors) : State :=
  (s.pmTurn n).setFl n { (s.pmTurn n).fl n with pm := { ((s.pmTurn n).fl n).pm with symbols := ((s.pmTurn n).fl n).pm.symbols + a, uncorr := ((s.pmTurn n).fl n).pm.uncorr + b.overlap - ofBool b.carried } }

theorem State.rxCounted_frameState (s : State) (n a : Nat) (b : FecErrors) :
    (s.rxCounted n a b).get (Obj.FABRIC_LANE_FRAME_STATE n) = s.get (Obj.FABRIC_LANE_FRAME_STATE n) :=
  State.get_pmTurn (by simp only [Obj.FABRIC_LANE_FRAME_STATE, objKey]; omega) s n

section
variable {n : FabricLane} (hon : s.CoreOn) (hen : s.on (Obj.FABRIC_LANE_FL_ENABLE n) = true) (hb : s.tsBlocked (n / 20) = false)
include hon hen hb

theorem execRxLinkFrame_unsynced {f : List Byte} {a : Nat} {b : FecErrors} (hs : s.get (Obj.FABRIC_LANE_FRAME_STATE n) ≠ 2) :
    execRxLinkFrame n f a b s = .next (s.rxCounted n a b) := by
  have hno : ¬ (s.on (Obj.FABRIC_LANE_FL_ENABLE n) = false ∨ s.tsBlocked (n / 20) = true) := by simp [hen, hb]
  refine (State.inCore_on hon _ : execRxLinkFrame n f a b s = _).trans (congrArg Host.Outcome.next ((if_neg hno).trans (if_pos ?_)))
  exact fun h => hs ((State.rxCounted_frameState s n a b).symm.trans h)

theorem execRxLinkFrame_part {f : List Byte} {a : Nat} {b : FecErrors} (hs : s.get (Obj.FABRIC_LANE_FRAME_STATE n) = 2)
    (hl : f.length < 4128) : execRxLinkFrame n f a b s = .next ((s.rxCounted n a b).partFrame n (scrambleFrame f)) := by
  have hno : ¬ (s.on (Obj.FABRIC_LANE_FL_ENABLE n) = false ∨ s.tsBlocked (n / 20) = true) := by simp [hen, hb]
  refine (State.inCore_on hon _ : execRxLinkFrame n f a b s = _).trans (congrArg Host.Outcome.next ((if_neg hno).trans
    ((if_neg ?_).trans (if_pos hl))))
  exact fun h => h ((State.rxCounted_frameState s n a b).trans hs)

/-- A whole frame as expected, which no defect masks, is checked and its cells are taken. -/
theorem execRxLinkFrame_whole {f : List Byte} {a c : Nat} {b : FecErrors} {q m u : State} {x : Bool × State}
    (hs : s.get (Obj.FABRIC_LANE_FRAME_STATE n) = 2) (hl : f.length = 4128) (hc : c = wordAt (scrambleFrame f) 0 32)
    (hfaw : Fld.CRUST_FAW.get c = FAW) (hnum : Fld.CRUST_FRAME_NUM.get c = (s.fl n).rxNum)
    (hq : q = (s.rxCounted n a b).checkBip n (Fld.CRUST_BIP8.get c) (xorAll f) (Nat.blt 0 b.overlap))
    (hx : x = (q.setFl n { q.fl n with bad := 0 }).checkTrace n (Fld.CRUST_TRACE.get c) false) (hx0 : x.2.masked n = false)
    (hm : m = x.2.checkIndications n (Nat.beq (Fld.CRUST_AIS.get c) 1) (Nat.beq (Fld.CRUST_RDI.get c) 1)) (hm0 : m.masked n = false)
    (hu : u = forEach (List.range 16) ((m.judgeTim n x.1).checkPage n (Fld.CRUST_PAGE.get c) false) fun v k =>
      if v.replaces n then v.aisCell n (s.fl n).rxNum k else v.cell n (s.fl n).rxNum k (((scrambleFrame f).drop (32 + 256 * k)).take 256))
    (hbad : (u.fl n).bad < 4) :
    execRxLinkFrame n f a b s = .next (u.setFl n { u.fl n with rxNum := ((s.fl n).rxNum + 1) % 64, rxSlot := 0 }) := by
  have hno : ¬ (s.on (Obj.FABRIC_LANE_FL_ENABLE n) = false ∨ s.tsBlocked (n / 20) = true) := by simp [hen, hb]
  have hsync : ¬ (s.rxCounted n a b).get (Obj.FABRIC_LANE_FRAME_STATE n) ≠ 2 := fun h =>
    h ((State.rxCounted_frameState s n a b).trans hs)
  have hrx : ((s.pmTurn n).fl n).rxNum = (s.fl n).rxNum := State.pmTurn_rxNum hen
  refine (State.inCore_on hon _ : execRxLinkFrame n f a b s = _).trans (congrArg Host.Outcome.next ((if_neg hno).trans
    ((if_neg hsync).trans ((if_neg (Nat.not_lt.2 hl.ge)).trans ?_))))
  extract_lets raw body crust num errored pm s₁ l₁ s₂ l₂
  have hraw : raw = f := List.take_of_length_le hl.le
  have hcrust : crust = c := by rw [hc, ← hraw]
  have herr : errored = false := by
    have h1 : Nat.beq (Fld.CRUST_FAW.get crust) FAW = true := by rw [hcrust, hfaw]; exact Nat.beq_refl _
    have h2 : Nat.beq (Fld.CRUST_FRAME_NUM.get crust) num = true := by rw [hcrust, hnum, ← hrx]; exact Nat.beq_refl _
    exact (congrArg₂ (fun x y => !x || !y) h1 h2)
  have hs₁ : s₁ = q := by rw [hq, ← hcrust, ← hraw]; rfl
  have hs₂ : s₂ = q.setFl n { q.fl n with bad := 0 } := (if_neg (herr ▸ Bool.false_ne_true)).trans (hs₁ ▸ rfl)
  rw [show s₂.checkTrace n (Fld.CRUST_TRACE.get crust) errored = x by rw [hs₂, hcrust, herr, hx]]
  obtain ⟨traced, v⟩ := x
  dsimp -zeta only
  extract_lets s₃ s₄ s₅ s₆ l₆ s₇
  have hs₃ : s₃ = m := (if_neg (by rw [herr, hx0]; decide)).trans (by rw [hm, hcrust])
  have hs₄ : s₄ = m.judgeTim n traced := (if_neg (by rw [hs₃, hm0]; exact Bool.false_ne_true)).trans (by rw [hs₃])
  have hs₆ : s₆ = u := by
    have hbody : body = scrambleFrame f := congrArg scrambleFrame hraw
    rw [hu, ← hs₄, ← hcrust, ← herr, ← hbody, ← hrx]
  have hbip : LaneHas knownBip n u := by
    have hq' : LaneHas knownBip n q := hq ▸ LaneHas.checkBip _
    have hv : LaneHas knownBip n (traced, v).2 := hx ▸ (hq'.change fun y => { y with bad := 0 }).checkTrace
    have hm' : LaneHas knownBip n m := hm ▸ hv.checkIndications knownBip_off
    exact hu ▸ (hm'.judgeTim knownBip_off).checkPage.forEach fun _ _ h => .ite h.aisCell h.cell
  have hs₇ : s₇ = u.setFl n { u.fl n with rxNum := ((s.fl n).rxNum + 1) % 64, rxSlot := 0 } := by
    rw [← hs₆, ← hrx]
  rw [hs₇]
  have hfl := LaneHas.fl_setFl (p := knownBip) (n := n) (s := u) (l := { u.fl n with rxNum := ((s.fl n).rxNum + 1) % 64, rxSlot := 0 })
    hbip.idle hbip.holds
  exact if_neg (Nat.not_le.2 ((congrArg FabricLaneState.bad hfl).trans_lt hbad))


/-- The frame that a lane sends, with what its page switch, its spraying and its cells leave. -/
theorem execTxLinkFrame_sent {w : State} {x : List (List Byte) × State} {f : List Byte}
    (hw : w = ((s.schedLane n).elim s fun k => if (s.duePages k).fab.switching.contains k = true ∧ (s.fl n).txNum = 0
      then (s.duePages k).flipPage k n else s.duePages k).spray)
    (hx : x = State.frameCells n (w.txEntries n) 0 w)
    (hf : f = scrambleFrame ((bytesBE 32 (([(Fld.CRUST_FAW, FAW), (Fld.CRUST_FRAME_NUM, (s.fl n).txNum),
      (Fld.CRUST_TRACE, bits (x.2.setting (Obj.FABRIC_LANE_TRACE_TX n)) (8 * (s.fl n).txNum) 8),
      (Fld.CRUST_AIS, x.2.setting (Obj.FABRIC_LANE_FORCE_AIS n)), (Fld.CRUST_RDI, ofBool ((x.2.fl n).rdiSent x.2.time.now)),
      (Fld.CRUST_PAGE, ((s.schedLane n).map fun k => x.2.get (Obj.SCHED_LANE_TX_PAGE k)).getD 0),
      (Fld.CRUST_SCHED, ofBool (s.schedLane n).isSome), (Fld.CRUST_BIP8, (x.2.fl n).txBip)] : List (Field × Nat)).foldl
        (fun m y => y.1.set m y.2) 0)) ++ x.1.flatten)) :
    execTxLinkFrame n s = .next (((x.2.setFl n { x.2.fl n with txNum := ((s.fl n).txNum + 1) % 64, txBip := xorAll f }).bump
      (Obj.FABRIC_LANE_CELLS_TX n) (x.1.filter fun c => !Nat.beq (bits (byteAt c 0) 5 3) cIDLE).length).emit (.linkFrame n f)) := by
  have hno : ¬ (s.on (Obj.FABRIC_LANE_FL_ENABLE n) = false ∨ s.tsBlocked (n / 20) = true) := by simp [hen, hb]
  refine (State.inCore_on hon _ : execTxLinkFrame n s = _).trans (congrArg Host.Outcome.next ((if_neg hno).trans ?_))
  have hspray : (match s.schedLane n with
      | some k => if (s.duePages k).fab.switching.contains k = true ∧ (s.fl n).txNum = 0 then (s.duePages k).flipPage k n else s.duePages k
      | none => s).spray = w := by
    rw [hw]
    cases s.schedLane n <;> rfl
  have hpage : ∀ u : State, (match s.schedLane n with | some k => u.get (Obj.SCHED_LANE_TX_PAGE k) | none => 0) =
      ((s.schedLane n).map fun k => u.get (Obj.SCHED_LANE_TX_PAGE k)).getD 0 := fun u => by cases s.schedLane n <;> rfl
  subst hf
  obtain ⟨cells, u⟩ := x
  extract_lets sched num s₁ s₂
  rw [show State.frameCells n (s₂.txEntries n) 0 s₂ = (cells, u) from (congrArg (fun v => State.frameCells n (v.txEntries n) 0 v) hspray).trans
    hx.symm]
  dsimp -zeta only
  extract_lets
  rw [← hpage u] <;> rfl

omit hb
omit hon in
/-- A match outside SYNC, not at the instant of LOS, is looked at. -/
theorem fawMatch_taken (hd : (s.fl n).dark = false ∨ (s.fl n).darkAt ≠ s.time.now)
    (hs : s.get (Obj.FABRIC_LANE_FRAME_STATE n) ≠ 2) (hdue : (s.fl n).syncDue = none) :
    ¬ (s.on (Obj.FABRIC_LANE_FL_ENABLE n) = false ∨ ((s.fl n).dark = true ∧ (s.fl n).darkAt = s.time.now) ∨
      (s.fl n).syncDue.isSome = true ∨ s.get (Obj.FABRIC_LANE_FRAME_STATE n) = 2) := by
  have hdark : ¬ ((s.fl n).dark = true ∧ (s.fl n).darkAt = s.time.now) := fun h =>
    hd.elim (fun hf => Bool.false_ne_true (hf.symm.trans h.1)) fun hne => hne h.2
  simp [hen, hdark, hdue, hs]

theorem execFawMatch_third {at' : Nat} {k : Fin 64} {c : FawCandidate} (hd : (s.fl n).dark = false ∨ (s.fl n).darkAt ≠ s.time.now)
    (hs : s.get (Obj.FABRIC_LANE_FRAME_STATE n) ≠ 2) (hdue : (s.fl n).syncDue = none)
    (hc : (((s.fl n).cands.filter fun c => Nat.ble at' (c.x + 33024)).find? fun c => Nat.beq (c.x + 33024) at') = some c)
    (hk : k.val = (c.fn + 1) % 64) (h2 : c.n = 2) :
    execFawMatch n at' k s = .next (s.setFl n { s.fl n with syncDue := some k.val }) := by
  refine (State.inCore_on hon _ : execFawMatch n at' k s = _).trans (congrArg Host.Outcome.next
    ((if_neg (fawMatch_taken hen hd hs hdue)).trans ?_))
  simp only [hc, hk, h2, if_true]

theorem execFawMatch_first {at' : Nat} {k : Fin 64} (hd : (s.fl n).dark = false ∨ (s.fl n).darkAt ≠ s.time.now)
    (hs : s.get (Obj.FABRIC_LANE_FRAME_STATE n) ≠ 2) (hc : (s.fl n).cands = []) (hdue : (s.fl n).syncDue = none) :
    execFawMatch n at' k s =
      .next ((s.setFl n { s.fl n with cands := [⟨at', 1, k, s.time.now⟩] }).set (Obj.FABRIC_LANE_FRAME_STATE n) 1) := by
  refine (State.inCore_on hon _ : execFawMatch n at' k s = _).trans (congrArg Host.Outcome.next
    ((if_neg (fawMatch_taken hen hd hs hdue)).trans ?_))
  simp [hc]

end

theorem ruleSlEnable_one {k : Fin 16} (hl : s.on (Obj.FABRIC_LANE_FL_ENABLE (s.get (Obj.SCHED_LANE_SL_LANE k))) = true)
    (hj : ((List.range 16).any fun j => !Nat.beq j k && s.on (Obj.SCHED_LANE_SL_ENABLE j) && Nat.beq (s.get (Obj.SCHED_LANE_SL_LANE j))
      (s.get (Obj.SCHED_LANE_SL_LANE k))) = false) :
    ruleSlEnable k 1 s = (.ok, if s.on (Obj.SCHED_LANE_SL_ENABLE k) = true then (s.commit (Obj.SCHED_LANE_SL_ENABLE k) 1).voqsAgain
      else ((s.commit (Obj.SCHED_LANE_SL_ENABLE k) 1).freshLoaf (s.get (Obj.SCHED_LANE_SL_LANE k))).voqsAgain) := by
  have hno : ¬ (1 = 1 ∧ (s.on (Obj.FABRIC_LANE_FL_ENABLE (s.get (Obj.SCHED_LANE_SL_LANE k))) = false ∨
      ((List.range 16).any fun j => !Nat.beq j k && s.on (Obj.SCHED_LANE_SL_ENABLE j) && Nat.beq (s.get (Obj.SCHED_LANE_SL_LANE j))
        (s.get (Obj.SCHED_LANE_SL_LANE k))) = true)) := by rw [hl, hj]; decide
  unfold ruleSlEnable
  refine (if_neg hno).trans ?_
  cases hon : s.on (Obj.SCHED_LANE_SL_ENABLE k)
  · simp only [if_true, Nat.beq_refl, Bool.not_false, Bool.and_true, Bool.false_eq_true, if_false]
  · simp only [if_true, Bool.not_true, Bool.and_false, Bool.false_eq_true, if_false]

/-- Settles O29: each command by the branch that its clause selects; what a frame's cells do leaves the lane's last BIP known. -/
theorem linkFramesAreSentAndReceived : Obligations.LinkFramesAreSentAndReceived := by
  unfold Obligations.LinkFramesAreSentAndReceived
  refine ⟨fun s n w x f hon hen hb hw hx hf => execTxLinkFrame_sent hon hen hb hw hx hf,
    fun s n f a b c p m u x hon hen hb hs hl hc hfaw hnum hp hx hx0 hm hm0 hu hbad =>
      execRxLinkFrame_whole hon hen hb hs hl hc hfaw hnum hp hx hx0 hm hm0 hu hbad,
    fun s n f a b hon hen hb hs => execRxLinkFrame_unsynced hon hen hb hs,
    fun s n f a b p hon hen hb hs hl hp => hp ▸ execRxLinkFrame_part hon hen hb hs hl,
    fun s n p k c hon hen hd hs hc hdue hk h2 => execFawMatch_third hon hen hd hs hdue hc hk h2,
    fun s n p k hon hen hd hs hc hdue => execFawMatch_first hon hen hd hs hc hdue,
    fun s n hon hen hs => ?_, fun s n hon hen => ?_, fun s n hon hen hd hat hs => ?_, fun s n hon hen hd hat hs => ?_,
    fun s k m v ha hv hl hj => ?_⟩
  · exact (State.inCore_on hon _ : execRxFrameCounter n s = _).trans (congrArg Host.Outcome.next (if_neg (by simp [hen, hs])))
  · exact (State.inCore_on hon _ : execLos n s = _).trans (congrArg Host.Outcome.next (if_neg (fun h =>
      Bool.noConfusion (hen.symm.trans h))))
  · have hgo : ¬ ((s.fl n).dark = false ∨ s.time.now < (s.fl n).darkAt + 100000) := by rw [hd]; simp [hat]
    exact (State.inCore_on hon _ : execLosClear n s = _).trans (congrArg Host.Outcome.next ((if_neg hgo).trans
      ((if_neg (fun h => Bool.noConfusion (hen.symm.trans h))).trans (if_neg hs))))
  · have hgo : ¬ ((s.fl n).dark = false ∨ s.time.now < (s.fl n).darkAt + 100000) := by rw [hd]; simp [hat]
    exact (State.inCore_on hon _ : execLosClear n s = _).trans (congrArg Host.Outcome.next ((if_neg hgo).trans
      ((if_neg (fun h => Bool.noConfusion (hen.symm.trans h))).trans (if_pos hs))))
  · subst hv
    exact (State.rowWrite_of_accepts ha (ruleSlEnable k 1) : execSlEnable k m 1 s = _).trans
      (congrArg (fun r => Host.Outcome.next (State.finish (pathOf m) m (Obj.SCHED_LANE_SL_ENABLE k) r)) (ruleSlEnable_one hl hj))

end Sys2Proof.Machine
end
